-- ==== Sys2Proof/Word.lean ====
section
/-!
DEFINITION. Word.lean: the word types, bit fields of natural numbers, and sorted tables.

A register or field value is a natural number below a power of two, because almost every value of this
controller is a count, an index, an address or a code; true bit manipulation goes through `bits` and
`putBits`. A `Tab α` is a list of (key, value) pairs with strictly rising keys: the one way every
indexed piece of state is held.
-/
namespace Sys2Proof

/-- A byte. -/
abbrev Byte := BitVec 8

/-- A 32-bit register word. -/
abbrev Word32 := BitVec 32

/-- Bits `[lsb + width - 1 : lsb]` of `v`. -/
def bits (v lsb width : Nat) : Nat := v / 2 ^ lsb % 2 ^ width

/-- Bit `i` of `v`. -/
def bitAt (v i : Nat) : Bool := v / 2 ^ i % 2 == 1

/-- `v` with bits `[lsb + width - 1 : lsb]` replaced by the low bits of `x`. -/
def putBits (v lsb width x : Nat) : Nat :=
  v - bits v lsb width * 2 ^ lsb + x % 2 ^ width * 2 ^ lsb

/-- `v` with bit `i` set. -/
def setBit (v i : Nat) : Nat := if bitAt v i then v else v + 2 ^ i

/-- `v` with bit `i` clear. -/
def clrBit (v i : Nat) : Nat := if bitAt v i then v - 2 ^ i else v

/-- 1 for true, 0 for false. -/
def b2n (b : Bool) : Nat := if b then 1 else 0

/-- `x` counted up by `n`, stopping at all ones of 32 bits. -/
def satAdd32 (x n : Nat) : Nat := min (x + n) 0xFFFFFFFF

/-- The smallest whole number not below `a / b`. -/
def ceilDiv (a b : Nat) : Nat := (a + b - 1) / b

/-- The signed value of a `w`-bit two's complement number. -/
def toSigned (w v : Nat) : Int :=
  if v % 2 ^ w < 2 ^ (w - 1) then (v % 2 ^ w : Nat) else ((v % 2 ^ w : Nat) : Int) - (2 ^ w : Nat)

/-- The `w`-bit two's complement code of an integer. -/
def ofSigned (w : Nat) (i : Int) : Nat := (i % ((2 ^ w : Nat) : Int)).toNat

/-- Little-endian value of a list of bytes. -/
def leNat : List Nat → Nat
  | [] => 0
  | b :: bs => b % 256 + 256 * leNat bs

/-- `n` little-endian bytes of a value. -/
def leBytes : Nat → Nat → List Nat
  | 0, _ => []
  | n + 1, v => v % 256 :: leBytes n (v / 256)

/-- A table: pairs with strictly rising keys. -/
abbrev Tab (α : Type) := List (Nat × α)

/-- The entry under a key. -/
def tget {α : Type} : Tab α → Nat → Option α
  | [], _ => none
  | (k, v) :: t, i => if k = i then some v else if i < k then none else tget t i

/-- The entry under a key, or a default. -/
def tgetD {α : Type} (t : Tab α) (i : Nat) (d : α) : α := (tget t i).getD d

/-- Whether a key is present. -/
def thas {α : Type} (t : Tab α) (i : Nat) : Bool := (tget t i).isSome

/-- Insert or replace, keeping keys rising. -/
def tset {α : Type} : Tab α → Nat → α → Tab α
  | [], i, x => [(i, x)]
  | (k, v) :: t, i, x =>
    if k = i then (i, x) :: t else if i < k then (i, x) :: (k, v) :: t else (k, v) :: tset t i x

/-- Remove a key. -/
def tdel {α : Type} : Tab α → Nat → Tab α
  | [], _ => []
  | (k, v) :: t, i => if k = i then t else if i < k then (k, v) :: t else (k, v) :: tdel t i

/-- Write a value into a table whose unlisted keys read as `d`: writing `d` removes the entry. -/
def tput {α : Type} [DecidableEq α] (d : α) (t : Tab α) (i : Nat) (x : α) : Tab α :=
  if x = d then tdel t i else tset t i x

/-- Change the entry under a key, if there is one. -/
def tmod {α : Type} (t : Tab α) (i : Nat) (f : α → α) : Tab α :=
  match tget t i with
  | none => t
  | some x => tset t i (f x)

/-- Change every entry. -/
def tmap {α : Type} (t : Tab α) (f : Nat → α → α) : Tab α := t.map fun p => (p.1, f p.1 p.2)

/-- Keep the entries that satisfy a test. -/
def tfilter {α : Type} (t : Tab α) (p : Nat → α → Bool) : Tab α := t.filter fun q => p q.1 q.2

/-- The first entry that satisfies a test. -/
def tfind {α : Type} (t : Tab α) (p : Nat → α → Bool) : Option (Nat × α) := t.find? fun q => p q.1 q.2

/-- How many entries satisfy a test. -/
def tcount {α : Type} (t : Tab α) (p : Nat → α → Bool) : Nat := (tfilter t p).length

/-- The keys rise strictly. -/
def trising {α : Type} (t : Tab α) : Bool :=
  match t with
  | [] => true
  | [_] => true
  | p :: q :: r => decide (p.1 < q.1) && trising (q :: r)

/-- Canonical form of a table whose unlisted keys read as `d`. -/
def tcanon {α : Type} [DecidableEq α] (d : α) (t : Tab α) : Bool :=
  trising t && t.all fun p => decide (p.2 ≠ d)

/-- The first of the `n` indices from `i` on that satisfies a test. -/
def firstFrom (p : Nat → Bool) : Nat → Nat → Option Nat
  | 0, _ => none
  | n + 1, i => if p i then some i else firstFrom p n (i + 1)

/-- The first of the indices `0 … n-1` that satisfies a test. -/
def firstIdx (n : Nat) (p : Nat → Bool) : Option Nat := firstFrom p n 0

end Sys2Proof
end

