-- ==== Sys2Proof/Machine/Types.lean ====
section
/-!
DEFINITION. Machine/Types.lean: the data that commands, messages and state share: paths and interfaces, blocks
with their metadata (spec/04), capsules (spec/02), Cadastre entries, journal records (spec/05), windows and keys
(spec/08), pair records and Zeber messages (spec/13). Hosts are named by their host index, queues by a number.
-/
namespace Sys2Proof.Machine

/-- The paths a register access arrives by (R443, R449). -/
inductive Path where
  | endpoint | management | security
deriving DecidableEq, Repr

/-- The path's code in `ERR_LAST` (R449). -/
def Path.code : Path → Nat
  | .endpoint => 0
  | .management => 1
  | .security => 2

/-- The interfaces that carry vendor and security messages (R423, R424). -/
inductive MgmtIf where
  | mgmtPort | mgmtTarget | doe | mgmtRing
deriving DecidableEq, Repr

/-- A number for an interface. -/
def MgmtIf.code : MgmtIf → Nat
  | .mgmtPort => 0
  | .mgmtTarget => 1
  | .doe => 2
  | .mgmtRing => 3

/-- The programmable engine kinds that can fail (R10, R11). -/
inductive EngineKind where
  | parse | storage | mgmt | pseq
deriving DecidableEq, Repr

/-- An engine kind's code in events 0x060D and 0x060E. -/
def EngineKind.code : EngineKind → Nat
  | .parse => 0
  | .storage => 1
  | .mgmt => 3
  | .pseq => 4

/-- A 4 KiB block of user data with its covered metadata (R112, Table 7). -/
structure Blk where
  data : Nat := 0
  wgen : Nat := 0
  kepoch : Nat := 0
  zero : Bool := false
  wstamp : Nat := 0
  guard : Nat := 0
  rmSlot : Nat := 0
  rmParcel : Nat := 0
  rmOffset : Nat := 0
  rmTrav : Nat := 0
deriving DecidableEq, Repr

/-- A stored block as the drive side and cipher deliver it: whether the member read it, the 4,096 plaintext
bytes and covered bytes 16 to 55 as one number, the sealing generation of a P or Q block, and whether
the tag verified (R113, R115). -/
structure Raw where
  ok : Bool := true
  cov : Nat := 0
  pwgen : Nat := 0
  pkepoch : Nat := 0
  tagOk : Bool := true
deriving DecidableEq, Repr

/-- What is stored in a member's block: the bytes parity covers, and the block's own sealing generation. -/
structure Stored where
  cov : Nat
  gen : Nat
  kepoch : Nat
deriving DecidableEq, Repr

/-- An I/O command of a capsule (R42, R52, R59, R157, R205). Counts of blocks are 1-based here. -/
inductive IoOp where
  | read (slba nlb : Nat)
  | write (slba nlb : Nat)
  | zeroes (slba nlb : Nat)
  | dsm (dealloc : Bool) (ranges : List (Nat × Nat))
  | flush
  | resvRegister (action curKey newKey : Nat) (ignoreKey : Bool)
  | resvAcquire (action curKey preKey rtype : Nat) (ignoreKey : Bool)
  | resvRelease (action curKey rtype : Nat) (ignoreKey : Bool)
  | resvReport
  | stakeWrite (slba nlb stake : Nat)
  | traverse (travId ndesc len fuse : Nat)
  | winBind (action policy : Nat) (pin : Bool) (win stall slba size : Nat)
  | keyCreate (rights : Nat) (hostOnly : Bool) (win offset len : Nat)
  | keyRevoke (rkey : Nat)
  | unbind (win : Nat)
  | winAccess (kind win offset len data compare : Nat)
  | other (opc : Nat)
deriving DecidableEq, Repr

/-- A submission entry: its identifier, namespace and command. -/
structure Capsule where
  cid : Nat
  nsid : Nat
  op : IoOp
deriving DecidableEq, Repr

/-- A traverse descriptor (R158, Tables 2 and 3): a write extent or a condition; `kind` other than 1 or 2
is a reserved `TYPE`. -/
structure TravDesc where
  kind : Nat
  nsid : Nat
  lba : Nat
  nlb : Nat := 1
  staked : Bool := false
  zeroes : Bool := false
  stake : Nat := 0
  op : Nat := 0
  len : Nat := 8
  offset : Nat := 0
  value : Nat := 0
  mask : Nat := 0
deriving DecidableEq, Repr

/-- Reservation state of a namespace: registered keys by host, the holder and the type (R42). -/
structure Resv where
  keys : Tab Nat := []
  holder : Option Nat := none
  rtype : Nat := 0
  gen : Nat := 0
deriving DecidableEq, Repr

/-- A Cadastre entry (R104, Table 5), its home lease (R110), and whether it is yet on every home copy. -/
structure CadEntry where
  state : Nat := 0
  layout : Nat := 0
  epoch : Nat := 0
  sweep : Bool := false
  loss : Bool := false
  reloc0 : Nat := 31
  reloc1 : Nat := 31
  spares : Nat := 0
  mset : Nat := 0
  format : Nat := 0
  seed : Nat := 0
  gen : Nat := 0
  column : Nat := 0
deriving DecidableEq, Repr

/-- A namespace (spec/02, Tables 2 and 3). `state`: 1 FORMING, 2 ACTIVE, 3 DELETING; `adm` is the number
most recently stamped; `host` lists attached host indices. -/
structure Ns where
  state : Nat := 1
  subsys : Nat := 0
  nsid : Nat := 0
  nsze : Nat := 0
  layout : Nat := 0
  enc : Bool := false
  stakeMode : Bool := false
  witness : Bool := false
  prefOwner : Nat := 0
  deadline : Nat := 20
  shared : Bool := false
  hosts : List Nat := []
  adm : Nat := 0
  lease : Nat := 0
  leaseAsked : Nat := 0
  leaseMseq : Nat := 0
  base : Nat := 0
  parcels : Nat := 0
  owner : Nat := 0
  ready : Bool := false
  moving : Bool := false
  admHold : Bool := false
  reshaping : Bool := false
  resv : Resv := {}
deriving DecidableEq, Repr

/-- A loss-map record (R138). `count` 0 means through the end of the namespace. -/
structure LossRec where
  slot : Nat
  reason : Nat
  count : Nat
  lba : Nat
  time : Nat
deriving DecidableEq, Repr

/-- A traverse outcome entry (R169, Table 7). -/
structure Outcome where
  travId : Nat
  host : Nat
  outcome : Nat
  index : Nat
  offset : Nat
  time : Nat
deriving DecidableEq, Repr

/-- A persistent window (R205, R208). `state`: 0 UNBOUND to 3 UNBINDING; `adm` is its BIND's admission number. -/
structure Window where
  state : Nat := 0
  policy : Nat := 0
  pin : Bool := false
  stall : Nat := 0
  slot : Nat := 0
  slba : Nat := 0
  pages : Nat := 0
  adm : Nat := 0
  ctrs : Tab Nat := []
deriving DecidableEq, Repr

/-- A key table entry (R217, Table 7) with its in-flight count (R220). -/
structure Key where
  state : Nat := 0
  rights : Nat := 0
  hostOnly : Bool := false
  tag : Nat := 0
  win : Nat := 0
  host : Nat := 0
  offset : Nat := 0
  length : Nat := 0
  tCreate : Nat := 0
  tRevoke : Nat := 0
  inflight : Nat := 0
deriving DecidableEq, Repr

/-- The extent of a CLOSURE record (R168, Table 6). -/
structure XExt where
  slot : Nat
  slba : Nat
  nlb : Nat
  zeroes : Bool
  stage : Nat
  stamp : Nat
deriving DecidableEq, Repr

/-- The body of a journal record (R143, R168). -/
inductive JBody where
  | stripe (slot parcel stripe : Nat) (rows strips : List Nat) (place : CadEntry) (wgen kepoch method relPos flags adm : Nat)
  | retire (rjseq : Nat)
  | closure (travId host coord : Nat) (slots : List (Nat × Nat)) (exts : List XExt)
  | checkpoint (kind bay cslot entry cursor : Nat)
  | rehome (homes : List Nat) (epoch : Nat)
deriving DecidableEq, Repr

/-- A journal record: its number, its place in the ring, its writer and time. -/
structure JRec where
  jseq : Nat
  pos : Nat
  ctrl : Nat
  time : Nat
  body : JBody
deriving DecidableEq, Repr

/-- What a STATE_PUT carries (R348, Table 4). -/
inductive StatePut where
  | cad (idx : Nat) (e : CadEntry) (lease : Nat)
  | counter (slot adm : Nat)
  | window (w : Nat) (x : Window)
  | key (k : Nat) (x : Key)
  | resident (slot lba adm : Nat) (data : Nat)
  | outcome (o : Outcome)
  | loss (slot : Nat) (recs : List LossRec)
deriving DecidableEq, Repr

/-- What a CLEAN_NOTE frees (R348): the blocks of a stripe now CLEAN, each with the admission number flushed, a
staging handle, or a writer's blocks. -/
inductive CleanNote where
  | stripe (slot : Nat) (blocks : List (Nat × Nat))
  | staging (handle : Nat)
  | writer (slot adm : Nat)
deriving DecidableEq, Repr

/-- A forwarded command context (R41, R157): the receiving controller's tag, the host, the subsystem and
the capsule; `trav` carries a traverse's pulled table. -/
structure FwdCmd where
  tag : Nat
  host : Nat
  subsys : Nat
  cap : Capsule
deriving DecidableEq, Repr

/-- Namespace state handed over by a move (R347). -/
structure MoveState where
  slot : Nat
  adm : Nat
  resv : Resv
  windows : Tab Window
  loss : List LossRec
  entries : Tab CadEntry
deriving DecidableEq, Repr

/-- A pair record (R349). -/
inductive PairRec where
  | nsCreate (slot : Nat) (ns : Ns) (entries : Tab CadEntry) (key : Nat)
  | nsDelete (slot : Nat)
  | nsFree (slot : Nat)
  | attach (slot host : Nat)
  | detach (slot host : Nat)
  | resv (slot : Nat) (r : Resv)
  | bind (w : Nat) (x : Window)
  | unbind (w : Nat)
  | unbound (w : Nat)
  | keyCreate (k : Nat) (x : Key)
  | keyRevoke (k : Nat)
  | keyFree (k : Nat)
  | keyStore (slot keySlot state key : Nat)
  | keyImport (slot keySlot state epochNo key : Nat)
  | keyRetire (slot keySlot : Nat)
  | memberCmd (bay cmd : Nat)
  | reshapeCmd (cmd kind slot layout mset : Nat)
  | bayCmd (bay cmd : Nat)
  | settings (vals : Tab Nat)
  | move (slot owner : Nat)
deriving DecidableEq, Repr

/-- What a write outside the striped area holds (R103, R109, R130, R142, R85). -/
inductive SysWrite where
  | journal (r : JRec)
  | home (idx : Nat) (e : CadEntry)
  | label (seq : Nat)
  | loss (count : Nat)
  | dirtyMap (bay entry : Nat)
  | checkpoint (kind entry cursor : Nat)
  | vaultHeader (state seq : Nat)
  | vaultRecords (count : Nat)
deriving DecidableEq, Repr

/-- A one-sided request (R126): blocks to read or to write at a drive address, or a write into the reserved region. -/
structure StripReq where
  tag : Nat
  bay : Nat
  lba : Nat
  n : Nat
  write : List Stored
  sys : Option SysWrite := none
deriving DecidableEq, Repr

/-- What a RESYNC_PUT carries (R359): a block, a journal record, or a piece of state. -/
inductive ResyncItem where
  | block (slot lba adm stage : Nat) (blk : Blk)
  | journal (r : JRec)
  | put (p : StatePut)
deriving DecidableEq, Repr

/-- What the headers of a RoCEv2 packet say of it (R175, R183): its PSN, the spray fields, payload bytes, whether it is the Last or Only
packet of its message, marks, whether its QP type, opcode and P_Key are of Table 1, ESP: 0 none, 1 verified, 2 ICV failed or replayed, and whether
its ICRC holds, with the port it came in on. -/
structure Pkt where
  psn : Nat
  msn : Nat := 0
  offset : Nat := 0
  length : Nat := 0
  len : Nat := 0
  last : Bool := true
  ackreq : Bool := false
  path : Nat := 0
  ce : Bool := false
  ok : Bool := true
  esp : Nat := 0
  icrcOk : Bool := true
  port : Nat := 0
deriving DecidableEq, Repr

/-- What a REQ asks for: its station, the spray block, the path MTU code, the first PSN of the host, retry counts, Initiator Depth, the flow hash,
and the line rate of its port. -/
structure CmReq where
  station : Nat
  peer : Nat := 0
  block : List Nat
  cntlid : Nat := 0
  pmtu : Nat := 2
  ipv6 : Bool := false
  psn : Nat := 0
  retry : Nat := 7
  rnrRetry : Nat := 7
  depth : Nat := 128
  hash : Nat := 0
  lineMbs : Nat := 100000
deriving DecidableEq, Repr

/-- The request a packet carries (R175, R198). -/
inductive Rdma where
  | send (cap : Option Capsule)
  | write (va rkey data : Nat) (imm : Option Nat)
  | read (va rkey len : Nat)
  | fetchAdd (va rkey add : Nat)
  | cas (va rkey swap compare : Nat)
  | cas16 (va rkey swap compare : Nat)
deriving DecidableEq, Repr

/-- The width of an Eopin field operand (R233): 1, 2 or 4 bytes; 3 is reserved. -/
inductive FieldW where
  | b1 | b2 | b4
deriving DecidableEq, Repr

/-- Bytes of a field. -/
def FieldW.bytes : FieldW → Nat
  | .b1 => 1
  | .b2 => 2
  | .b4 => 4

/-- An Eopin field operand: width, whether its offset counts from the window start, and the offset. -/
structure EopField where
  w : FieldW
  abs : Bool
  off : Fin 256
deriving DecidableEq, Repr

/-- The output fields that `SETF` and `SETW` name (R233); 7 is reserved. -/
inductive OutField where
  | cls | colour | prio | queue | sampler | context | flags
deriving DecidableEq, Repr

/-- The state of a weighted round-robin arbiter (R303): the rings of the round with what each has left, in order; the place in the present pass; and
the ring that led the last round. -/
structure Wrr where
  order : List (Nat × Nat) := []
  pos : Nat := 0
  lead : Option Nat := none
deriving DecidableEq, Repr

/-- A DIMM found at training (R461): its channel, capacity, ranks, and whether it trained and is an RDIMM with ECC. -/
structure Dimm where
  channel : Nat
  gib : Nat
  ranks : Nat := 2
  ok : Bool := true
deriving DecidableEq, Repr

/-- What a cold start finds (R369, R10, R461, R480, R357): the straps; whether the main die's trims and the lockstep pair pass; the NOR devices
that answer; the entry torn by the loss of supply; whether the active and the previous datum verify; archived keys no copy of which
verifies, as slot × 2 + key slot; the engines, lanes and stacks that fail their tests; rows repaired at HBM training; the DIMMs; and the
bays found powered, with their feed. -/
structure StartFacts where
  ctrlId : Nat := 0
  epSris : Bool := false
  trimOk : Bool := true
  lockstepOk : Bool := true
  norA : Bool := true
  norB : Bool := true
  torn : Bool := false
  activeOk : Bool := true
  prevOk : Bool := true
  keysBad : List Nat := []
  parseFail : List Nat := []
  storageFail : List Nat := []
  parityFail : List Nat := []
  mgmtFail : List Nat := []
  pseqFail : List Nat := []
  lanesFail : List Nat := []
  hbmFail : List Nat := []
  hbmRepairs : Nat := 0
  dimms : List Dimm := []
  powered : List (Nat × Nat) := []
deriving DecidableEq, Repr

/-- A Zeber message (R340, Table 4). -/
inductive ZMsg where
  | hello (ctrl version setId epoch datum : Nat) (paired : Bool)
  | range (time pstate verdict lastRange dirtyLimit holdup : Nat)
  | stopping (cause : Nat)
  | mirrorPut (mseq slot lba adm stage : Nat) (blk : Blk)
  | mirrorAck (mseq : Nat)
  | journalPut (mseq : Nat) (r : JRec)
  | cleanNote (mseq : Nat) (n : CleanNote)
  | lease (mseq slot limit : Nat)
  | statePut (mseq : Nat) (p : StatePut)
  | fwdCmd (c : FwdCmd)
  | fwdData (tag : Nat) (blocks : List (Nat × Nat))
  | fwdCpl (tag adm sct sc : Nat) (dnr : Option Bool) (dw0 dw1 : Nat)
  | stripReq (r : StripReq)
  | stripRsp (tag : Nat) (ok : Bool) (blocks : List Raw)
  | xstampReq (tag travId : Nat) (slots : List Nat) (exts : List XExt)
  | xstampRsp (tag : Nat) (nums : List (Nat × Nat)) (ok : Bool)
  | record (num tag : Nat) (r : PairRec)
  | recordAck (num : Nat)
  | moveState (m : MoveState)
  | frame (len port prio : Nat) (bytes : List Nat)
  | session (data : List Nat)
  | resyncPut (x : ResyncItem)
  | resyncDone
deriving DecidableEq, Repr

end Sys2Proof.Machine
end

