-- ==== Sys2Proof/Machine/StBay.lean ====
section
/-!
DEFINITION. Machine/StBay.lean: the state of the drive ports, the bay sideband and the bay power controllers (spec/12).
-/
namespace Sys2Proof.Machine

/-- What a label says of one bay's member (R130, Table 2): `MT_ID`, `MT_STATE`, `MT_FAILED`, `MT_DEPART`. -/
structure LabelMt where
  memberId : Nat := 0
  state : Nat := 0
  failed : Bool := false
  depart : Nat := 0
deriving DecidableEq, Repr

/-- A member label whose `CRC` is valid (R130, Table 2). -/
structure Label where
  bay : Nat := 0
  setId : Nat := 0
  memberId : Nat := 0
  serial : Nat := 0
  seq : Nat := 0
  mset0 : Nat := 0
  mset1 : Nat := 0
  msetCur : Nat := 0
  homes0 : Nat := 0
  homes1 : Nat := 0
  homeEpoch : Nat := 0
  mts : Tab LabelMt := []
deriving DecidableEq, Repr

/-- What enumeration finds of a drive (R310, Table 3): class code, version register, whether namespace 1 meets check 2, I/O queue pairs
granted, MQES, MDTS in KiB (0: none), CMIC bit 0, whether namespace 1 is shared and attached to both controllers, its size in blocks, the
serial number, and its valid label. -/
structure DriveFacts where
  cls : Nat := 0x010802
  ver : Nat := 0x20000
  ns1 : Bool := true
  granted : Nat := 128
  mqes : Nat := 4095
  mdtsKib : Nat := 0
  cmic : Bool := true
  shared : Bool := true
  blocks : Nat := 0
  serial : Nat := 0
  label : Option Label := none
deriving DecidableEq, Repr

/-- A root port (R308 to R317). `state`: 0 DISABLED to 6 UNUSABLE; `timeouts` the controller times of the last second's timeouts;
`retried` the frames whose strip writes were issued once more. -/
structure Port where
  state : Nat := 1
  link : Bool := false
  width : Nat := 0
  rate : Nat := 0
  flit : Bool := false
  dual : Bool := false
  check : Nat := 0
  qpairs : Nat := 0
  depth : Nat := 0
  blocks : Nat := 0
  serial : Nat := 0
  label : Option Label := none
  trainFails : Nat := 0
  readyFails : Nat := 0
  narrow : Bool := false
  timeouts : List Nat := []
  retried : List Nat := []
deriving DecidableEq, Repr

/-- A bay of the power chiplet (R322 to R334). `state`: 0 EMPTY to 7 LATCHED; `feed`: 0 none, 1 A, 2 B; `offAt` the time of the last
gate-off; `onWait`: an ON, of its own or of a CYCLE, waits for the minimum off-time. -/
structure Bay where
  state : Nat := 0
  feed : Nat := 0
  pg : Bool := false
  changeover : Option Nat := none   -- 0 to B, A bad; 1 to B, A gate lost; 2 return to A
  fault : Nat := 0
  retries : Nat := 0
  goodA : Bool := false
  goodB : Bool := false
  pwrdis : Bool := false
  offAt : Nat := 0
  onWait : Bool := false
deriving DecidableEq, Repr

/-- The sideband unit (R318 to R321), as masks over the bays: accepted levels, present debounced levels and quarantines of `PRSNT_N`,
`IFDET_N` and `ATTN_BTN_N`, each as 1 = low; the times of the accepted edges of the last second by input × 32 + bay; the presses that
count towards 8 s. -/
structure SideSt where
  raw : List Nat := []              -- inputs whose raw level is low, as input × 32 + bay
  window : List Nat := []           -- inputs whose debounce window runs
  prsnt : Nat := 0
  ifdet : Nat := 0
  attn : Nat := 0
  debPrsnt : Nat := 0
  debIfdet : Nat := 0
  debAttn : Nat := 0
  quarPrsnt : Nat := 0
  quarIfdet : Nat := 0
  quarAttn : Nat := 0
  edges : Tab (List Nat) := []
  counting : Nat := 0
deriving DecidableEq, Repr

/-- Ports, sideband and bay power (spec/12). `starts` holds the controller time of the last start, once there was one. -/
structure BayUnit where
  ports : Tab Port := []
  bays : Tab Bay := []
  side : SideSt := {}
  lastStart : Option Nat := none
  active : List Nat := []           -- bays with I/O since the last LED refresh
  trimBad : Bool := false           -- the power chiplet failed its trim check (R480)
  lastRead : Tab Nat := []          -- the chiplet registers as last reported, while its link is down (R455)
deriving DecidableEq, Repr

end Sys2Proof.Machine
end

