-- ==== Sys2Proof/Machine/StStore.lean ====
section
/-!
DEFINITION. Machine/StStore.lean: the state of the storage side: associations, queues and command contexts
(spec/02), the protected cache, its frames, the mirror region, the extension and the vault (spec/03), the
Cadastre and the drive commands (spec/04), members, journal, loss map, rebuild, scrub and reshape (spec/05),
and traverses (spec/06).
-/
namespace Sys2Proof.Machine

/-- An NVMe-oF association, or the controller of an endpoint function, by CNTLID (R31, R32). -/
structure Assoc where
  host : Nat
  subsys : Nat
  station : Nat
  kato : Nat
  kaAt : Nat := 0
  fn : Option Nat := none
  aer : List Nat := []              -- outstanding Asynchronous Event Requests, as CIDs
  anaNotice : Bool := true
  notices : List (Nat × Nat) := []  -- notices that wait for an Asynchronous Event Request
deriving DecidableEq, Repr

/-- A submission queue: its size, and the capsules held unparsed, in arrival order (R56). -/
structure Queue where
  size : Nat
  held : List Capsule := []
  heldSince : Nat := 0
deriving DecidableEq, Repr

/-- How far a command has come. -/
inductive CtxState where
  | waiting        -- admitted; has not taken effect or pinned
  | effective      -- a writer that has taken effect
  | pinned         -- a reader that has pinned its versions
  | failed         -- a writer that failed before taking effect
  | forwarded      -- sent to the owner, awaiting its outcome
  | bindWait       -- a BIND or UNBIND that completes later
deriving DecidableEq, Repr

/-- A command context (R41, R56). `placed` holds the blocks that have arrived as an invisible version
(R44), `got` the blocks a reader has collected, `need` those it still waits for, `mseqs` the mirror
messages not yet acknowledged, `wtLeft` the blocks not yet on the members in write-through. -/
structure Ctx where
  q : Nat
  cid : Nat
  host : Nat
  slot : Nat
  op : IoOp
  adm : Nat := 0
  ranges : List (Nat × Nat) := []
  writer : Bool := false
  reader : Bool := false
  stake : Option Nat := none
  state : CtxState := .waiting
  deferred : Bool := false
  pulling : Bool := false
  placed : Tab Blk := []
  got : Tab Nat := []
  need : List Nat := []
  mseqs : List Nat := []
  wtLeft : List Nat := []
  err : Option (Nat × Nat × Option Bool × Nat) := none
  fwdTag : Option Nat := none       -- at the owner: the receiving controller's tag
  reserved : Bool := false          -- the association's reserved admin context
  orphan : Bool := false            -- its association ended: the completion is discarded
  cleanMseq : Option Nat := none    -- a refusal waits for its CLEAN_NOTE to be placed (R53)
deriving DecidableEq, Repr

/-- NVMe-oF state (spec/02). -/
structure NvmSt where
  nss : Tab Ns := []
  assocs : Tab Assoc := []
  queues : Tab Queue := []
  ctxs : Tab Ctx := []
  nextCtx : Nat := 0
  hostNqns : Tab Nat := []          -- host index of each host NQN connected that no datum record names
  lastHost : Nat := 0
  lastQueue : Tab Nat := []
  conn : Tab Nat := []              -- queue: the transport connection that carries it
  mgmtPend : Tab Nat := []          -- slot: the context of its create or delete
  atBound : Bool := false
deriving DecidableEq, Repr

/-- A present block of a frame: absent blocks have no cell (R66, R67). -/
structure Cell where
  blk : Blk
  dirty : Bool
  adm : Nat
  wt : Bool := false
deriving DecidableEq, Repr

/-- A flush under way (R71, R72, R144): its method (0 full stripe, 1 reconstruct-write, 2 read-modify-write),
the rows it writes, the placement it uses, its journal record, the writes still out, and the blocks it carries
with their admission numbers. `stage`: 0 reading, 1 journal, 2 strips. -/
structure Flush where
  method : Nat
  rows : List Nat
  place : CadEntry
  stage : Nat := 0
  jseq : Nat := 0
  left : Nat := 0
  carried : List (Nat × Nat) := []
  newP : Tab Nat := []
  newQ : Tab Nat := []
deriving DecidableEq, Repr

/-- The states of a stripe frame (R68); a FREE frame has no entry. -/
inductive FrameState where
  | gathering | full | flushing | clean
deriving DecidableEq, Repr

/-- A stripe frame (R66 to R69). Cell key: strip × 16 + row. `p` and `q` hold, by row, the parity of the
blocks present, exact where no block of the row is absent. -/
structure Frame where
  slot : Nat
  parcel : Nat
  stripe : Nat
  layout : Nat
  n : Nat
  st : FrameState := .gathering
  gen : Nat := 0
  kepoch : Nat := 0
  cells : Tab Cell := []
  p : Tab Nat := []
  q : Tab Nat := []
  oldest : Nat := 0
  queued : Bool := false
  formatted : Bool := false
  heldRow : Bool := false
  rw : Bool := false                -- the next plan is a reconstruct-write: the prior versions could not be read
  oldJ : List Nat := []             -- records of flushes abandoned, retired with the next
  flush : Option Flush := none
deriving DecidableEq, Repr

/-- A dirty block mirrored for the partner, or staging when `stage` is not 0 (R75, R348). -/
structure MirEnt where
  slot : Nat
  lba : Nat
  adm : Nat
  stage : Nat
  blk : Blk
  mseq : Nat
deriving DecidableEq, Repr

/-- An extension entry with its clock reference bit (R77). -/
structure ExtEnt where
  blk : Blk
  used : Bool := true
deriving DecidableEq, Repr

/-- A resident window block (R209). -/
structure ResBlk where
  data : Nat
  dirty : Bool := false
  poisoned : Bool := false
deriving DecidableEq, Repr

/-- What a read job delivers to. -/
inductive JobKind where
  | hostRead (ctx : Nat)
  | stamp (ctx : Nat)
  | flush (key : Nat)
  | condition (trav : Nat)
  | page (win page : Nat)
deriving DecidableEq, Repr

/-- The reads of blocks of one stripe (R116, R117): the cells wanted, those delivered, those failed and by
which check of R115, the strips hedged, and whether a parity job is queued. -/
structure Job where
  kind : JobKind
  slot : Nat
  parcel : Nat
  stripe : Nat
  place : CadEntry
  want : List Nat
  got : Tab Raw := []
  bad : Tab Nat := []
  hedged : List Nat := []
  waited : Bool := false
  recon : Bool := false
deriving DecidableEq, Repr

/-- What a drive command is for. -/
inductive Purpose where
  | read (job strip : Nat) (rows : List Nat) (recon : Bool)
  | flushWrite (key : Nat)
  | journal (jseq : Nat)
  | home (idx : Nat)
  | remote (tag : Nat)
  | other
deriving DecidableEq, Repr

/-- What a drive command carries: the blocks of a strip read or write, a reserved-region structure, or an NVMe command by code with its
argument (1 Reservation Register, 2 Acquire with preempt, 3 Acquire, 4 Format NVM, 5 Abort) (R311, R313). -/
inductive CmdBody where
  | strip (blocks : List Stored)
  | sys (w : SysWrite)
  | op (code arg : Nat)
deriving DecidableEq, Repr

/-- A drive command outstanding. -/
structure DrvCmd where
  bay : Nat
  write : Bool
  lba : Nat
  n : Nat
  purpose : Purpose
  body : CmdBody := .strip []
  deadline : Bool := false
  remote : Bool := false
  discard : Bool := false
  firstTry : Bool := true
  quarantined : Bool := false
  hedged : Bool := false
deriving DecidableEq, Repr

/-- A member (R125 to R131). `map` is its dirty-parcel map where one is held; `done` the entries done in its current
work. -/
structure Member where
  state : Nat := 0
  memberId : Nat := 0
  serial : Nat := 0
  failedId : Bool := false
  departAt : Nat := 0
  oneSided : Bool := false
  map : Option (List Nat) := none
  started : List Nat := []
  done : List Nat := []
  todo : Nat := 0
  moved : Nat := 0
  full : Bool := false
  returnArmed : Bool := false
  returnAt : Nat := 0
  waitSerial : Option Nat := none   -- a different drive present, awaiting ADMIT
  waitCap : Nat := 0
  formatting : Bool := false        -- Format NVM runs on the admitted drive (R311)
  cap : Nat := 0                    -- strips of the drive
  failOrder : Nat := 0
deriving DecidableEq, Repr

/-- Reshape state (R151 to R154): 0 idle, 1 running, 2 suspended. -/
structure ReshapeSt where
  state : Nat := 0
  kind : Nat := 0
  slot : Nat := 0
  layout : Nat := 0
  mset : Nat := 0
  baseline : Nat := 0
  last : Nat := 0
  cursor : Nat := 0
  newPlace : Option CadEntry := none
  oldPlace : CadEntry := {}
  byCmd : Bool := false             -- suspended by `SUSPEND`, not by a departure
  refuse : Nat := 0
deriving DecidableEq, Repr

/-- A vault record's content block (R87, Table 9). -/
structure VData where
  source : Nat
  slot : Nat
  lba : Nat
  adm : Nat
  blk : Blk
deriving DecidableEq, Repr

/-- A vault image (R85 to R87): header fields, the META contents, the DATA blocks in order and the JOURNAL
records. -/
structure VaultImg where
  state : Nat := 0
  seq : Nat := 0
  members : Nat := 0
  bootCount : Nat := 0
  datumId : Nat := 0
  tAccept : Nat := 0
  tComplete : Nat := 0
  dumpBytes : Nat := 0
  metaWritten : Bool := false
  dir : List (Nat × Nat × Nat) := []
  adms : Tab Nat := []
  ents : Tab CadEntry := []
  resvs : Tab Resv := []
  outcomes : List Outcome := []
  windows : Tab Window := []
  keys : Tab Key := []
  data : List VData := []
  journal : List JRec := []
deriving DecidableEq, Repr

/-- Power-failure and vault state (spec/03). -/
structure VaultSt where
  pfLow : Bool := false             -- `PWRFAIL_N` low, its filter running
  accepted : Bool := false
  source : Nat := 0
  acceptAt : Nat := 0
  serdesOff : Bool := false
  dumping : Bool := false           -- a dump is to be written or under way
  dumpDone : Bool := false
  img : VaultImg := {}
  rate : Nat := 0                   -- measured MB/s; 0 before the first check of this start
  rateRun : Bool := false
  replaying : Bool := false
  replayed : Nat := 0               -- blocks replayed in this start
  lastRestart : Nat := 0
  effMib : Nat := 0
  partnerLimit : Option Nat := none
  partnerEffMib : Nat := 0
  partnerHoldup : Nat := 0
  joinerEff : Option Nat := none
  short : Bool := false
deriving DecidableEq, Repr

/-- Storage state (spec/03 to spec/05). -/
structure StoreSt where
  frames : Tab Frame := []
  succs : Tab Frame := []
  ext : Tab ExtEnt := []
  extHand : Nat := 0
  mirror : List MirEnt := []
  mirJournal : List JRec := []
  resident : Tab ResBlk := []
  cad : Tab CadEntry := []
  home : Tab CadEntry := []
  homeLeft : Tab Nat := []          -- home writes still out, by entry
  homeSnap : Tab CadEntry := []
  homeShort : List Nat := []        -- segments with fewer than three readable copies
  wrapHeld : List Nat := []         -- entries whose next wrap is held (R108)
  fmtGen : Tab Nat := []            -- generation drawn when formatting of the entry began
  mset0 : Nat := 0
  mset1 : Nat := 0
  msetCur : Nat := 0
  setId : Nat := 0
  labelSeq : Nat := 0
  homeEpoch : Nat := 0
  members : Tab Member := []
  failSeq : Nat := 0
  jseq : Nat := 0
  jpos : Nat := 0
  unret : List JRec := []
  homes0 : List Nat := []
  homes1 : List Nat := []
  rehoming : List Nat := []         -- departed homes not yet replaced
  jWaiting : List Nat := []         -- frames whose flush waits for ring space
  loss : List LossRec := []
  lossChanges : Tab Nat := []
  lossCoalesced : Bool := false
  heldParcels : List Nat := []      -- entries holding rows under R129
  jobs : Tab Job := []
  nextJob : Nat := 0
  cmds : Tab DrvCmd := []           -- by bay × 16,384 + tag; at the partner's port from 2^20 (R312)
  cmdWait : List DrvCmd := []       -- requests that wait for a tag (R312)
  nextTag : Nat := 1                -- requests issued so far
  rbEntry : Option Nat := none      -- parcel under rebuild
  rbBay : Nat := 0
  rbStripes : List Nat := []
  rbHeld : Bool := false            -- a row of the parcel under rebuild was held
  rbSkip : List Nat := []           -- parcels passed over for held rows
  growTargets : List Nat := []
  reshape : ReshapeSt := {}
  scrubEntry : Nat := 0
  scrubStripe : Nat := 0
  scrubStart : Nat := 0
  checkpoints : Tab Nat := []
  clsBytes : Tab Nat := []          -- bytes the sequencers processed, by class
  seqFailed : List Nat := []        -- parity sequencers removed (R120)
  formed : Bool := false
deriving DecidableEq, Repr

/-- The states of a traverse (R161); end states leave the table. -/
inductive TravState where
  | table | waitDup | staging | stamping | checking | closing | closed
deriving DecidableEq, Repr

/-- An open traverse, or a CLOSED one not yet RETIRED (R160, R161). -/
structure Trav where
  ctx : Nat
  host : Nat
  subsys : Nat
  travId : Nat
  ndesc : Nat
  len : Nat
  state : TravState := .table
  descs : List TravDesc := []
  staged : Tab Nat := []            -- descriptor index × 8192 + offset: data
  conds : Tab Blk := []             -- pinned condition and stamp blocks: slot × 2^48 + lba
  slots : List Nat := []            -- touched namespaces, in order of first naming
  nums : Tab Nat := []              -- admission numbers by slot
  mseqs : List Nat := []
  jseq : Nat := 0
  holdAt : Nat := 0
  stripes : List Nat := []          -- stripes it wrote that are not yet CLEAN
  stage : Nat := 0                  -- staging handle of extent k: stage + k
  deferred : Bool := false
  orphan : Bool := false
  remote : Option Nat := none       -- at the partner: the coordinator's tag
  held : Bool := false              -- CLOSED, its completion held until its blocks are on the members (R172)
  left : List Nat := []             -- those blocks: slot × 2^48 + lba
deriving DecidableEq, Repr

/-- The traverse unit (spec/06). -/
structure TravSt where
  open_ : Tab Trav := []
  nextId : Nat := 0
  nextStage : Nat := 1
  outcomes : List Outcome := []     -- newest first
  full : Bool := false
  refusing : Bool := false
  refusedSince : Nat := 0
deriving DecidableEq, Repr

end Sys2Proof.Machine
end

