-- ==== Sys2Proof/Machine/StPair.lean ====
section
/-!
DEFINITION. Machine/StPair.lean: the state of the Zeber link and the pair logic (spec/13), and of windows and
keys (spec/08).
-/
namespace Sys2Proof.Machine

/-- What completes once both controllers hold a pair record (R349). -/
inductive RecCont where
  | nothing
  | ctx (id dw0 dw1 : Nat)
  | memberDone
  | settings
  | move (slot : Nat)
  | keyFence (key : Nat)
deriving DecidableEq, Repr

/-- A pair record awaiting the partner. -/
structure RecPend where
  what : PairRec
  cont : RecCont
deriving DecidableEq, Repr

/-- Why a preemption runs (R353). -/
inductive PreemptWhy where
  | timedOut | arbitration | seeking
deriving DecidableEq, Repr

/-- The pair logic (spec/13). `state`: 0 SOLO to 6 FENCED; `sense`: 0 absent, 1 present, 2 serving. -/
structure PairSt where
  state : Nat := 1                  -- reset value of `PAIR_STAT.STATE`
  sense : Nat := 0
  senseHigh : Bool := false
  absentSince : Nat := 0
  seekAt : Nat := 0
  epoch : Nat := 0
  ranging : Bool := false           -- RANGE messages arrive
  lastRange : Nat := 0
  partnerTime : Nat := 0
  partnerState : Nat := 0
  partnerSet : Nat := 0
  partnerVersion : Option Nat := none
  partnerDatum : Nat := 0
  helloWait : Option Nat := none    -- the epoch of a HELLO that passed checks 1 to 4 of R358 and is not yet acted on
  conflict : Bool := false          -- both controllers read the same CTRL_ID (R27)
  senseFault : Bool := false
  mseqTx : Nat := 0
  mseqAcked : Nat := 0
  sentAt : Tab Nat := []            -- controller time at which each unacknowledged `MSEQ` was sent
  mseqRx : Nat := 0
  recNum : Nat := 0
  recTag : Nat := 0
  records : Tab RecPend := []
  fwdTag : Nat := 0
  fwds : Tab Nat := []              -- forwarded commands: tag → context
  fwdHeld : List FwdCmd := []       -- forwarded commands held unparsed at the owner
  moveSlot : Option Nat := none
  moveTo : Nat := 0
  moveResult : Nat := 0
  preempt : Option PreemptWhy := none
  arbWaiting : Bool := false
  arbWon : Nat := 0
  arbActive : Nat := 0
  arbWin : Bool := false
  detectUs : Nat := 0
  quiet : Bool := false
  survivor : Bool := false
  resyncing : Bool := false
  copiedMib : Nat := 0
  failback : List Nat := []
  stopSent : Bool := false
  strips : Tab StripReq := []       -- strip requests the partner asked of this controller's port
deriving DecidableEq, Repr

/-- The Zeber link (R337 to R340). `unacked` lists flits in the replay buffer as (sequence number, replays). -/
structure ZebSt where
  lanes : Nat := 0                  -- lanes in use as a mask
  retraining : Bool := false
  retrainCause : Nat := 0
  bad : List Nat := []              -- lanes without lock
  fseqTx : Nat := 0
  fseqRx : Nat := 0
  unacked : List (Nat × Nat) := []
  waiting : List ZMsg := []
  session : Bool := false
deriving DecidableEq, Repr

/-- A window page that is FAULTING or RESIDENT (R209). -/
structure Page where
  resident : Bool := false
  used : Nat := 0
  missing : List Nat := []          -- blocks still to read, as LBAs
  startAt : Nat := 0
deriving DecidableEq, Repr

/-- A window access: a write, a read or an atomic of a QP or a ring (R212, R213, R219). -/
structure WinAcc where
  ctx : Nat                         -- QP or ring
  ring : Bool
  psn : Nat
  kind : Nat                        -- 0 write, 1 read, 2 fetch add, 3 compare swap, 4 compare swap 16
  win : Nat
  key : Option Nat
  offset : Nat
  len : Nat
  data : Nat := 0
  compare : Nat := 0
  cid : Nat := 0
  msn : Nat := 0
  tally : Option (Nat × Nat) := none  -- a ring's WIN_WRITE: counter and increment
  fwd : Option Nat := none          -- at the owner: the receiving controller's tag
deriving DecidableEq, Repr

/-- A placement or atomic whose mirror is in flight, with the original value an atomic returns (R215). -/
structure PlaceWait where
  acc : WinAcc
  mseqs : List Nat
  orig : Nat := 0
deriving DecidableEq, Repr

/-- A tally word not yet applied (R222): it waits for the placements of its message, by QP and PSN. -/
structure TallyWait where
  ctx : Nat
  win : Nat
  ctr : Nat
  inc : Nat
  psns : List Nat
deriving DecidableEq, Repr

/-- A chain wait pending at a ring (R223). -/
structure ChainWait where
  win : Nat
  ctr : Nat
  target : Nat
  cid : Nat
deriving DecidableEq, Repr

/-- Who asked for a revoke, and what completes it (R220). -/
structure Revoke where
  byHost : Bool
  q : Nat := 0
  cid : Nat := 0
  fenceAt : Nat := 0
deriving DecidableEq, Repr

/-- Windows and keys (spec/08). Page key: window × 2^24 + page. -/
structure WinSt where
  windows : Tab Window := []
  keys : Tab Key := []
  pages : Tab Page := []
  lru : Nat := 0
  stalled : List WinAcc := []
  placing : List PlaceWait := []
  tally : List TallyWait := []
  fwds : Tab WinAcc := []           -- accesses forwarded to the owner, by tag
  chains : Tab ChainWait := []      -- by ring
  revokes : Tab Revoke := []
  binds : Tab Nat := []             -- window: the context of its BIND
  unbinds : Tab (Option Nat) := []  -- window: the context of its UNBIND, none for WIN_CMD
  keyRefused : Nat := 0
  stallDiscards : Nat := 0
  poolFull : Bool := false
  stallFull : Bool := false
deriving DecidableEq, Repr

end Sys2Proof.Machine
end

