-- ==== Sys2Proof/Machine/StEndpoint.lean ====
section
/-!
DEFINITION. Machine/StEndpoint.lean: the state of the host endpoint and the native work rings (spec/11), and of the key
store (spec/10).
-/
namespace Sys2Proof.Machine

/-- A completion of an NVMe queue of a function, held while Bus Master Enable is 0 (R290). -/
structure HeldCpl where
  q : Nat
  cid : Nat
  sct : Nat
  sc : Nat
  dnr : Option Bool
  dw0 : Nat
  dw1 : Nat
deriving DecidableEq, Repr

/-- An endpoint function (R283 to R291). -/
structure Fn where
  present : Bool := false
  bme : Bool := false
  mse : Bool := false
  flr : Bool := false
  cntlid : Option Nat := none
  heldMsix : List Nat := []
  heldCpl : List HeldCpl := []
deriving DecidableEq, Repr

/-- What a host read fetches (R289). -/
inductive EpRead where
  | writeData (ctx block : Nat)
  | entry (q idx : Nat)
  | descriptor (ring : Nat)
  | fragment (ring tag : Nat)
  | travTable (ctx : Nat)
deriving DecidableEq, Repr

/-- What a host read delivers: a block of write data, a traverse's table, a ring descriptor, or an entry, list or fragment table that its
command's own row carries (R288, R289). -/
inductive HostData where
  | block (lba data : Nat)
  | table (descs : List TravDesc)
  | bytes
deriving DecidableEq, Repr

/-- An NVMe queue of an endpoint function: the tail the host has rung, how far entries have been fetched, and the host's completion head
(R282, R283). -/
structure EpQueue where
  tail : Nat := 0
  fetched : Nat := 0
  cqHead : Nat := 0
deriving DecidableEq, Repr

/-- An outstanding or quarantined endpoint tag (R288, R289). -/
structure EpTag where
  fn : Nat
  issued : Nat := 0
  what : EpRead
  first : Bool := true
  quarantined : Bool := false
deriving DecidableEq, Repr

/-- A descriptor (R296, Tables 9 and 10): the fields its opcode uses; `bad` a reserved field or a `DPTR` that
breaks R296. -/
structure Desc where
  opc : Nat
  fence : Bool := false
  chain : Bool := false
  nocpl : Bool := false
  tag : Nat := 0
  slot : Nat := 0
  bad : Bool := false
  frag : Bool := false                  -- a `DPTR` of it names a fragment table (`NFRAG` is not 0)
  rkey : Nat := 0
  va : Nat := 0
  len : Nat := 0
  tally : Nat := 0
  add : Nat := 0
  compare : Nat := 0
  swap : Nat := 0
  win : Nat := 0
  ctr : Nat := 0
  timeoutUs : Nat := 0
  target : Nat := 0
  refuse : Option (Nat × Nat) := none   -- the ring-level status it completes with (R298)
deriving DecidableEq, Repr

/-- A completion record (R301, Table 12). -/
structure CplRec where
  tag : Nat
  ring : Nat
  head : Nat
  phase : Bool
  sct : Nat
  sc : Nat
  dnr : Option Bool
  result : Nat
  result16 : Nat
deriving DecidableEq, Repr

/-- The states of a ring (R295). -/
inductive RingState where
  | disabled | active | paused | draining | stopped | error
deriving DecidableEq, Repr

/-- The code of a ring state (Table 8). -/
def RingState.code : RingState → Nat
  | .disabled => 0
  | .active => 1
  | .paused => 2
  | .draining => 3
  | .stopped => 4
  | .error => 5

/-- A function ring, by global index (R294 to R302). `granted` lists descriptors granted and not yet executed,
`flying` those executed and not yet completed, `pushed` the descriptors in the prefetch cache by slot. -/
structure Ring where
  fn : Nat := 0
  local_ : Nat := 0
  state : RingState := .disabled
  before : RingState := .active
  completion : Bool := false
  arm : Bool := false
  cpl : Nat := 0
  vector : Nat := 0
  n : Nat := 4
  base : Nat := 0
  weight : Nat := 1
  burst : Nat := 4
  coalN : Nat := 1
  coalUs : Nat := 0
  err : Nat := 0
  head : Nat := 0
  tail : Nat := 0
  phase : Bool := true
  invDone : Bool := false
  granted : List Desc := []
  flying : List Desc := []
  pushed : Tab Desc := []
  lastOk : Bool := true
  lastSlot : Nat := 0               -- the descriptor executed last, whose success `lastOk` tells once it completes
  held : List CplRec := []
  unsignalled : Nat := 0
  disableWhenDone : Bool := false
deriving DecidableEq, Repr

/-- The endpoint and ring engine (spec/11). -/
structure EpSt where
  link : Bool := false
  width : Nat := 0
  rate : Nat := 0
  ready : Bool := false
  ideSecure : Bool := false
  flit : Bool := false
  perst : Bool := true
  idle : Bool := false
  ltrIdle : Bool := false
  vfEnable : Bool := false
  numVfs : Nat := 0
  fns : Tab Fn := []
  tags : Tab EpTag := []
  nextTag : Nat := 0
  nvq : Tab EpQueue := []             -- by CNTLID × 256 + queue
  queue : List (Nat × Bool × EpRead) := []   -- requests that wait for a tag (R288), and whether each is issued for the first time
  rings : Tab Ring := []
  arb : Wrr := {}
  blocked : Bool := false             -- IDE: every function behaves as though Bus Master Enable were 0 (R285)
deriving DecidableEq, Repr

/-- A key slot of a namespace (R272): 0 EMPTY, 1 CURRENT, 2 OLD. -/
structure KsKey where
  state : Nat := 0
  key : Nat := 0
  epochNo : Nat := 0
deriving DecidableEq, Repr

/-- A record of the key archive (R274), with what the KEK that wraps it was derived from: D_dbg and the owner key in force (R365). -/
structure KsArch where
  key : KsKey
  dbg : Nat
  owner : Nat
deriving DecidableEq, Repr

/-- An escrow record (R276, Table 7): header fields, the sealed key. -/
structure EscRec where
  slot : Nat
  kslot : Nat
  kstate : Nat
  epochNo : Nat
  time : Nat
  iv : Nat
  sealed : Nat
  tag : Nat
deriving DecidableEq, Repr

/-- The key store (R271 to R276). Key: slot × 2 + key slot. -/
structure KsSt where
  keys : Tab KsKey := []
  archive : Tab KsArch := []        -- the key archive of the NOR devices
  roll : List Nat := []             -- slots with a rollover waiting for the partner
  rollWait : List Nat := []         -- rollovers that wait for room among the escrow records
  esc : List EscRec := []
  escCount : Nat := 0
  cmdResult : Nat := 0
  sweepEntry : Nat := 0
  sweepStripe : Nat := 0
deriving DecidableEq, Repr

end Sys2Proof.Machine
end

