-- ==== Sys2Proof/Machine/StXport.lean ====
section
/-!
DEFINITION. Machine/StXport.lean: the state of the RDMA transport and of NVMe/TCP connections (spec/07).
-/
namespace Sys2Proof.Machine

/-- An exact value n / 2^e. -/
structure Dy where
  n : Nat := 0
  e : Nat := 0
deriving DecidableEq, Repr

/-- An open-message record (R186): its first PSN and packet count, its request, length, bytes placed and bytes received; `whole` once its
length is known, `started` once a read or atomic has been given to the window unit, and the window, counter and increment of its tally word. -/
structure OpenMsg where
  first : Nat
  req : Rdma
  length : Nat
  count : Nat := 1
  bytes : Nat := 0
  recv : Nat := 0
  whole : Bool := false
  started : Bool := false
  tally : Option (Nat × Nat × Nat) := none
  psns : List Nat := []
deriving DecidableEq, Repr

/-- A packet sent and not yet covered (R180, R192). -/
structure SentPkt where
  psn : Nat
  msn : Nat := 0
  sends : Nat := 1
  path : Nat := 0
  covered : Bool := false           -- a read request that an acknowledgement covers
deriving DecidableEq, Repr

/-- A read issued to a host (R196): what it is for, its PSNs and the bytes that have arrived. -/
structure ReadOut where
  ctx : Nat
  blocks : List Nat
  first : Nat
  count : Nat
  got : Tab (Nat × Nat) := []       -- offset: length, data
deriving DecidableEq, Repr

/-- A pull that waits for a bound of R196. -/
structure PullWait where
  qp : Nat
  ctx : Nat
  blocks : List Nat
deriving DecidableEq, Repr

/-- An atomic result in the replay cache (R197); a 16-byte one takes two entries. -/
structure AtomRes where
  psn : Nat
  wide : Bool
  orig : Nat
deriving DecidableEq, Repr

/-- A queue-pair context (R177, R178). `cursor` is the delivery cursor, or the expected PSN on a standard QP; `accepted` the PSNs
accepted at or above it or not yet acknowledged; `undurable` those whose placement is not yet in both caches. -/
structure Qp where
  state : Nat := 0
  quiet : Bool := false
  spray : Bool := false
  atom16 : Bool := false
  pmtu : Nat := 2
  ipv6 : Bool := false
  station : Nat := 0
  peer : Nat := 0
  sa : Option Nat := none
  hash : Nat := 0
  cntlid : Nat := 0
  lineMbs : Nat := 100000
  paths : Nat := 1
  window : Nat := 4096
  openMax : Nat := 16
  depth : Nat := 128
  readCap : Nat := 128
  retry : Nat := 7
  rnrRetry : Nat := 7
  tries : Nat := 0
  rnrTries : Nat := 0
  rnrWait : Bool := false           -- the RNR timer of a host's RNR NAK runs
  rnrPsn : Nat := 0                 -- what that NAK refused
  cursor : Nat := 0
  msn : Nat := 0
  ackBase : Nat := 0
  accepted : List Nat := []
  undurable : List Nat := []
  sinceAck : Nat := 0
  ackDue : Bool := false
  lastPath : Nat := 0
  recs : Tab OpenMsg := []
  naked : Bool := false
  behind : List (Pkt × Rdma) := []
  atoms : List AtomRes := []
  txPsn : Nat := 0
  txMsn : Nat := 0
  txBase : Nat := 0                 -- below it everything sent is acknowledged
  unsent : List SentPkt := []       -- packets that wait for the peer's window
  sent : List SentPkt := []
  reads : Tab ReadOut := []
  nextPath : Nat := 0
  penalty : Tab Nat := []           -- path: when its penalty ends
  rate : Dy := {}
  target : Dy := {}
  alpha : Dy := { n := 1, e := 0 }
  stage : Nat := 0
  cnpAt : Option Nat := none
deriving DecidableEq, Repr

/-- An NVMe/TCP connection (R202). -/
structure TcpConn where
  station : Nat
  sa : Option Nat := none
  hdgst : Bool
  ddgst : Bool
deriving DecidableEq, Repr

/-- The transport (spec/07). `cache` lists the QPs of the on-die context cache, most recently used first. -/
structure XpSt where
  qps : Tab Qp := []
  cache : List Nat := []
  waits : List PullWait := []
  rxEmpty : Bool := false
  readBound : Bool := false
  tcp : Tab TcpConn := []
  nextTcp : Nat := 0
deriving DecidableEq, Repr

/-- What the transport puts on the wire. -/
inductive Tx where
  | ack (psn msn path : Nat) (sack : List (Nat × Nat))
  | nak (psn code : Nat)            -- 0 PSN sequence, 1 invalid request, 2 remote access, 3 remote operation
  | rnr (psn timer : Nat)
  | readResp (psn len data : Nat)
  | atomAck (psn orig : Nat) (wide : Bool)
  | request (psn path : Nat) (retx : Bool)
  | cnp (path : Nat)
  | rep (station : Nat) (spray atom16 : Bool) (window openMax paths : Nat)
  | rej (station reason : Nat)
  | dreq
  | drep
deriving DecidableEq, Repr

end Sys2Proof.Machine
end

