-- ==== Sys2Proof/Machine/StNet.lean ====
section
/-!
DEFINITION. Machine/StNet.lean: the state of the packet path (spec/09): ports, the shared buffer, egress queues, the Eopin engines, the
classifier, fragments, timestamps and samplers; and of the cipher pools, the DRBG and the wire SAs (spec/10).
-/
namespace Sys2Proof.Machine

/-- What the wire pool finds in an ESP packet (R263): whether its ICV and its padding verify, its next header, and the decrypted datagram
with its UDP destination port. -/
structure EspIn where
  icvOk : Bool := true
  padOk : Bool := true
  nextHdr : Nat := 17
  dport : Nat := 4791
  bytes : List Nat := []
  len : Nat := 0
deriving DecidableEq, Repr

/-- A frame in the shared buffer: its first bytes, its length, ingress port, timestamp, ingress priority, station, internal source, what
its ESP content is, and the cells charged for it. -/
structure NetFrame where
  seq : Nat := 0
  bytes : List Nat := []
  len : Nat := 64
  port : Nat := 0
  time : Nat := 0
  prio : Nat := 0
  station : Option Nat := none
  src : Option Nat := none
  esp : EspIn := {}
  cMin : Nat := 0
  cShared : Nat := 0
  cHead : Nat := 0
deriving DecidableEq, Repr

/-- The output record (R235, Table 4). -/
structure OutRec where
  cls : Nat := 0
  colour : Nat := 0
  prio : Nat := 0
  queue : Nat := 0
  station : Option Nat := none
  port : Nat := 0
  sampler : Nat := 0
  sample : Bool := false
  flags : Nat := 0
  length : Nat := 0
  hash : Nat := 0
  offs : List Nat := []
  rule : Nat := 0
  cycles : Nat := 0
  context : Nat := 0
deriving DecidableEq, Repr

/-- A flow entry (R239, Table 8); `cp` is byte 18. -/
structure Flow where
  key : Nat
  profile : Nat := 0
  pin : Bool := false
  slice : Nat := 0
  cls : Nat := 0
  cp : Nat := 0
  queue : Nat := 0
  context : Nat := 0
  lastHit : Nat := 0
deriving DecidableEq, Repr

/-- A ternary rule (R238, R241): value and mask as 44 byte numbers, byte i at bits 8i, and the action of Table 7 as a 16 byte number. -/
structure Rule where
  valid : Bool := false
  epochBit : Nat := 0
  anyEpoch : Bool := false
  value : Nat := 0
  mask : Nat := 0
  action : Nat := 0
  hits : Nat := 0
deriving DecidableEq, Repr

/-- A lookup submitted (R238): the key as it stood, the profile, whether the flow table is asked, and the engine's cycle count. -/
structure LookReq where
  key : List Nat
  flow : Bool
  at_ : Nat
deriving DecidableEq, Repr

/-- The result of a lookup: the rule matched with its action, and the flow entry hit. -/
structure LookRes where
  rule : Option (Nat × Nat)
  flow : Option Flow
deriving DecidableEq, Repr

/-- An Eopin engine with a frame (spec/09): program counter, cursor, working registers, key register, flow-hash accumulator with the
number of bits folded, output record, cycles used, and the lookup under way. -/
structure Engine where
  frame : NetFrame
  pc : Nat := 0
  cur : Nat := 0
  w : List Nat := List.replicate 8 0
  key : List Nat := List.replicate 60 0
  hash : Nat := 0
  folded : Nat := 0
  out : OutRec := {}
  prioSet : Bool := false
  overran : Bool := false
  cycles : Nat := 0
  look : Option LookReq := none
  res : Option LookRes := none
  waitAct : Bool := false
  slice : Option Nat := none
deriving DecidableEq, Repr

/-- A frame whose output record is complete and waits for its turn (R236). -/
structure Parsed where
  frame : NetFrame
  out : OutRec
  slice : Option Nat
deriving DecidableEq, Repr

/-- A frame that an internal source sends (R230, R231, R245): its source, station, flow hash, priority, length, colour, ECN field, whether it is
marked for timestamping and with which PTP sequence ID, the SA of its packet or the queue pair that sends it, and the first bytes. -/
structure EgFrame where
  src : Nat := 0
  station : Nat := 0
  hash : Nat := 0
  prio : Nat := 0
  len : Nat := 64
  colour : Nat := 0
  ecn : Nat := 0
  ts : Option Nat := none
  qp : Option Nat := none
  bytes : List Nat := []
deriving DecidableEq, Repr

/-- Buffer use of a port-priority (R244). -/
structure PpUse where
  cMin : Nat := 0
  cShared : Nat := 0
  cHead : Nat := 0
deriving DecidableEq, Repr

/-- A station's token bucket (R230), in thousandths of a byte, and when it was last filled. -/
structure Bucket where
  tokens : Nat
  filled : Nat
deriving DecidableEq, Repr

/-- A fragment held: offset and data bytes, whether more follow, the headers before it, and what the datagram it completes holds as ESP. -/
structure Piece where
  off : Nat
  len : Nat
  more : Bool
  hdr : List Nat := []
  data : List Nat := []
  esp : EspIn := {}
deriving DecidableEq, Repr

/-- A datagram in reassembly (R243): its protocol, port and station. -/
structure Datagram where
  proto : Nat
  port : Nat
  station : Option Nat
  prio : Nat := 0
  pieces : List Piece := []
deriving DecidableEq, Repr

/-- A transmit timestamp entry (R232). -/
structure TxStamp where
  sub : Nat
  seqId : Nat
  time : Nat
deriving DecidableEq, Repr

/-- The arbiter of a port's priority among output rings (R303): what is left of the last grant, and to which station. -/
structure OutArb where
  arb : Wrr := {}
  stn : Nat := 0
  left : Nat := 0
deriving DecidableEq, Repr

/-- The packet path. Ports are 8g + s, port-priorities 8 × port + priority. -/
structure NetSt where
  ups : List Nat := []
  paused : Tab Nat := []            -- port-priority: paused without a break since
  xoff : List Nat := []             -- port-priorities in XOFF towards the peer
  ppUse : Tab PpUse := []
  srcUse : Tab Nat := []
  egress : Tab (List EgFrame) := [] -- by port-priority, oldest first
  deficit : Tab Nat := []
  turn : Tab Nat := []              -- by port: the priority whose DWRR turn it is
  outArb : Tab OutArb := []         -- by port-priority
  buckets : Tab Bucket := []
  limited : List Nat := []
  heldIn : List NetFrame := []      -- frames of internal sources at their bound (R245)
  heldEg : List EgFrame := []
  waiting : List NetFrame := []
  engines : Tab Engine := []
  done : List Parsed := []
  nextSeq : Nat := 0
  rules : Tab Rule := []
  flows : Tab Flow := []            -- index 4 × bucket + way
  frags : Tab Datagram := []
  fragFull : Bool := false
  txts : Tab (List TxStamp) := []
  txtsOver : List Nat := []
  smpGap : Tab Nat := []
  smpSeq : Tab Nat := []
  smpStat : List Nat := []
  banks : Tab Nat := []             -- 2 × cluster + bank: digest of the verified image
deriving DecidableEq, Repr

/-- A wire SA (R262, Table 3); an inbound one's window is the numbers seen above `floor`. -/
structure Sa where
  state : Nat := 1
  outbound : Bool := false
  ipv6 : Bool := false
  station : Nat := 0
  spi : Nat := 0
  salt : Nat := 0
  succ : Option Nat := none
  key : Nat := 0
  peer : Nat := 0
  seq : Nat := 0
  soft : Nat := 0
  hard : Nat := 0
  pkts : Nat := 0
  seen : List Nat := []
  floor : Nat := 0
deriving DecidableEq, Repr

/-- A lane (R255): the blocks run on its seed, seeds ready for it, and whether it stopped for want of one. -/
structure Lane where
  seeds : Nat := 2
  stopped : Bool := false
deriving DecidableEq, Repr

/-- The cipher pools, the DRBG and the wire SAs. Lanes: the wire pool's 0 to 399, the storage pool's 400 to 799. -/
structure CiphSt where
  lanesOut : List Nat := []
  lanes : Tab Lane := []
  drbgReqs : Nat := 0
  drbgStopped : Bool := false
  retests : Nat := 0
  entropyFail : Bool := false
  sas : Tab Sa := []
  cache : List Nat := []
deriving DecidableEq, Repr

end Sys2Proof.Machine
end

