-- ==== Sys2Proof/Syntax.lean ====
section
/-!
DEFINITION. The commands of the controller: one constructor for each row of spec/opcode_table.json, in the
table's order, each with the operands its rule names.

A command is a register command, a host's command, a message of the partner, a packet, or an event at a pin or
of a timer of the controller.  The controller takes them one at a time from its queue (Machine/Step.lean).
Operands that stand for what lies outside the block (the bytes a drive returned, the verdict over a signature,
the contents a host memory read brought) arrive with the command that brings them.
-/
namespace Sys2Proof
open Sys2Proof.Machine

/-- The commands, one constructor per row of the command table. -/
inductive Instr where
  /-- CHIPLET_LINK_FAIL (R7): The chiplet link between main die and power chiplet fails; bays hold their state, the main die raises FATAL and stops admitting commands. -/
  | chipletLinkFail
  /-- HBM_STACK_FAULT (R8): An HBM3E stack fails in service; FATAL event 0x5801 is raised and in a pair the partner serves from its mirror. -/
  | hbmStackFault (stack : Nat)
  /-- ENGINE_RUNTIME_FAIL (R12): An engine fails at run time and is removed at its next instruction boundary, its work restarted elsewhere. -/
  | engineRuntimeFail (k : EngineKind) (no : Nat)
  /-- LOCKSTEP_DISAGREE (R13): The security cores disagree in lockstep; the controller reports FATAL and stops serving. -/
  | lockstepDisagree
  /-- REFCLK_OUT_OF_TOLERANCE (R403): A reference clock leaves its tolerance or stops; its family is taken out of service, with REFCLK_SYS loss handled as FATAL with relock and vault dump. -/
  | refclkOutOfTolerance (ref : Nat) (ppm : Nat)
  /-- REFCLK_RESTORED (R403): A reference has stayed within tolerance for 100 ms and is declared restored. -/
  | refclkRestored (ref : Nat)
  /-- CRYSTAL_FAIL (R404): The crystal fails; AON and SLOW move to the backup oscillator, FATAL 0x0303 is raised and the vault is dumped. -/
  | crystalFail
  /-- CONNECT (R31): An NVMe-oF Connect capsule is checked against allow-list, station, CNTLID and association bounds and forms or refuses a queue. -/
  | connect (conn : Nat) (cid : Nat) (nqn : Nat) (subsys : Nat) (station : Nat) (cntlid : Nat) (qid : Nat) (size : Nat) (kato : Nat)
  /-- KEEP_ALIVE (R32): A Keep Alive command restarts the association's Keep Alive timer, answered without a context. -/
  | keepAlive (cntlid : Nat) (cid : Nat)
  /-- KEEP_ALIVE_EXPIRE (R32): The Keep Alive timer expires and the association ends, admitted commands run on with completions discarded. -/
  | keepAliveExpire (cntlid : Nat)
  /-- NAMESPACE_CREATE (R34): Namespace Management create checks size, format, vendor area and capacity, assigns an NSID and enters FORMING. -/
  | namespaceCreate (q : Nat) (cid : Nat) (nsze : Nat) (ncap : Nat) (flbas : Nat) (shared : Bool) (vendor : List Nat)
  /-- NAMESPACE_ACTIVE (R37): Parcels are allocated unwritten and key epoch 0 generated; the slot enters ACTIVE and the create completes. -/
  | namespaceActive (slot : Nat)
  /-- NAMESPACE_DELETE (R38): Namespace Management delete detaches the namespace everywhere and stops admission to it. -/
  | namespaceDelete (q : Nat) (cid : Nat) (nsid : Nat)
  /-- NAMESPACE_DELETE_COMPLETE (R38): Once admitted commands have completed, dirty data is discarded, both key epochs destroyed and the delete completes, entries entering RELEASING. -/
  | namespaceDeleteComplete (slot : Nat)
  /-- PARCEL_RELEASED (R105): A RELEASING Cadastre entry is persisted and becomes UNALLOCATED, its columns freed and the slot returning to FREE when all are done. -/
  | parcelReleased (idx : Nat)
  /-- NAMESPACE_ATTACH (R39): Namespace Attachment attach binds a namespace to a host NQN of the subsystem, with refusals for invalid, duplicate or private cases. -/
  | namespaceAttach (q : Nat) (cid : Nat) (nsid : Nat) (cntlids : List Nat)
  /-- NAMESPACE_DETACH (R39): Namespace Attachment detach removes a host's attachment and posts Namespace Attribute Changed notices. -/
  | namespaceDetach (q : Nat) (cid : Nat) (nsid : Nat) (cntlids : List Nat)
  /-- IDENTIFY (R51): Identify returns namespace attributes, vendor area and atomic units. -/
  | identify (q : Nat) (cid : Nat) (cns : Nat) (nsid : Nat)
  /-- READ (R45): A Read capsule is parsed, stamped with an admission number, checked for overlap and served from cache, extension or members. -/
  | read (q : Nat) (cid : Nat) (nsid : Nat) (opc : Nat) (fuse : Nat) (slba : Nat) (nlb : Nat)
  /-- WRITE (R44): A Write capsule is admitted as a writer and its data pulled by RDMA READ or deferred at the dirty limit. -/
  | write (q : Nat) (cid : Nat) (nsid : Nat) (fuse : Nat) (slba : Nat) (nlb : Nat)
  /-- WRITE_ZEROES (R42): A Write Zeroes capsule is admitted as a writer over its blocks. -/
  | writeZeroes (q : Nat) (cid : Nat) (nsid : Nat) (slba : Nat) (nlb : Nat)
  /-- DATASET_MANAGEMENT (R42): Dataset Management with deallocate acts as a writer over each range; without deallocate it completes at once. -/
  | datasetManagement (q : Nat) (cid : Nat) (nsid : Nat) (dealloc : Bool) (ranges : List (Nat × Nat))
  /-- FLUSH (R42): Flush completes once every writer admitted before it has completed. -/
  | flush (q : Nat) (cid : Nat) (nsid : Nat)
  /-- RESERVATION_REGISTER (R42): Reservation Register changes the registrations seen by later admissions, as a pair record in a pair. -/
  | reservationRegister (q : Nat) (cid : Nat) (nsid : Nat) (action : Nat) (cur : Nat) (new : Nat) (ignoreKey : Bool)
  /-- RESERVATION_ACQUIRE (R42): Reservation Acquire acquires or preempts the reservation, preempt-and-abort executed as preempt. -/
  | reservationAcquire (q : Nat) (cid : Nat) (nsid : Nat) (action : Nat) (cur : Nat) (pre : Nat) (rtype : Nat) (ignoreKey : Bool)
  /-- RESERVATION_RELEASE (R42): Reservation Release releases the reservation for later admissions. -/
  | reservationRelease (q : Nat) (cid : Nat) (nsid : Nat) (action : Nat) (cur : Nat) (rtype : Nat) (ignoreKey : Bool)
  /-- RESERVATION_REPORT (R42): Reservation Report returns the reservation state as of its admission. -/
  | reservationReport (q : Nat) (cid : Nat) (nsid : Nat)
  /-- STAKE_CONDITIONED_WRITE (R52): Vendor opcode 0x85 is admitted as a writer carrying a stake to be compared at its turn. -/
  | stakeConditionedWrite (q : Nat) (cid : Nat) (nsid : Nat) (fuse : Nat) (slba : Nat) (nlb : Nat) (stake : Nat)
  /-- CONTEXT_FREED (R57): A general command context frees and the next held capsule is admitted round-robin among hosts below quota. -/
  | contextFreed
  /-- WRITE_BLOCK_PLACED (R67): A 4 KiB block of write data arrives, is placed in its stripe frame as an invisible version and P and Q are updated inline. -/
  | writeBlockPlaced (id : Nat) (lba : Nat) (data : Nat)
  /-- WRITER_TAKE_EFFECT (R44): A writer whose data is all placed and whose earlier overlapping writers have taken effect or failed takes effect, making its version visible. -/
  | writerTakeEffect (id : Nat)
  /-- WRITER_FAIL (R46): A writer fails before taking effect, its placed blocks discarded at both controllers after a CLEAN_NOTE, and waiting readers return the earlier state. -/
  | writerFail (id : Nat) (access : Bool)
  /-- GATHER_AGE_EXPIRE (R70): A frame's oldest dirty block passes GATHER_AGE_US and the frame is queued for a partial flush. -/
  | gatherAgeExpire (slot : Nat) (parcel : Nat) (stripe : Nat)
  /-- FLUSH_START (R70): A flush slot frees and the next waiting frame, FULL first then oldest, starts its flush. -/
  | flushStart
  /-- JOURNAL_RECORD_WRITTEN (R144): A flush's STRIPE record is on all three journal homes and its strip writes are issued. -/
  | journalRecordWritten (slot : Nat) (parcel : Nat) (stripe : Nat)
  /-- FLUSH_STRIPS_DONE (R144): Every strip of a flush is on its members; a RETIRE record is written, the frame becomes CLEAN and write-through completions and deferred writers proceed. -/
  | flushStripsDone (slot : Nat) (parcel : Nat) (stripe : Nat)
  /-- MEMORY_ERROR (R78): A memory error in cache or extension is corrected, dropped, refetched from the mirror, recomputed or recorded lost per its kind. -/
  | memoryError (kind : Nat) (slot : Nat) (lba : Nat)
  /-- PWRFAIL_N_FALL (R79): PWRFAIL_N falls and its filter timer starts. -/
  | pwrfailNFall
  /-- PWRFAIL_GLITCH (R79): PWRFAIL_N returns high before the filter ends and the pulse is counted in PF_GLITCHES. -/
  | pwrfailGlitch
  /-- POWER_FAILURE_ACCEPT (R80): PWRFAIL_N low for PF_FILTER_US is accepted: admission stops, work is stopped and the vault dump begins. -/
  | powerFailureAccept
  /-- FEED_MONITOR_FAIL (R79): Both feeds below UV for 10 µs with PF_FEED_EN set are accepted as a power failure. -/
  | feedMonitorFail
  /-- SERDES_OFF_TIMER (R82): 100 µs after acceptance the network and Zeber SerDes are turned off. -/
  | serdesOffTimer
  /-- VAULT_HEADER_WRITING (R82): Drive commands in flight have finished and the vault header is written with state WRITING before records follow. -/
  | vaultHeaderWriting
  /-- VAULT_DUMP_COMPLETE (R82): The END record is written, drives flushed and the header written COMPLETE. -/
  | vaultDumpComplete
  /-- POST_DUMP_RESET_TIMER (R83): Rails still good 100 ms after COMPLETE trigger a warm reset that replays the vault. -/
  | postDumpResetTimer
  /-- VAULT_REPLAY (R88): After assembly the controller selects, unwraps, reads and replays its vault image, closes stripes, flushes and marks namespaces ready. -/
  | vaultReplay (keyOk : Bool) (metaOk : Bool) (endOk : Bool) (unread : List Nat) (partner : Option VaultImg) (raws : Tab (Tab Raw)) (rate : Nat) (ms : Nat)
  /-- DRIVE_READ_COMPLETE (R115): A strip read completes from a member and each block is checked for reverse map, generation, tag and guard, failures becoming erasures. -/
  | driveReadComplete (tag : Nat) (raws : List Raw)
  /-- DRIVE_WRITE_COMPLETE (R144): A write to a member completes, advancing the flush, journal, label or home write that issued it. -/
  | driveWriteComplete (tag : Nat) (ok : Bool)
  /-- DEADLINE_EXPIRE (R116): A strip read's deadline expires and the strip is hedged by reconstruction reads, or the wait is counted when two erasures exist. -/
  | deadlineExpire (tag : Nat)
  /-- PARITY_JOB_DONE (R119): A parity sequencer finishes a job of encoding or reconstructing a row set. -/
  | parityJobDone (j : Nat)
  /-- SEQUENCER_FAIL (R120): A parity sequencer fails an internal check and is removed; its jobs rerun on others. -/
  | sequencerFail (no : Nat)
  /-- CADASTRE_PERSIST_TIMER (R110): A changed entry's home block is written to every available copy within PERSIST_MS. -/
  | cadastrePersistTimer (idx : Nat)
  /-- FORMAT_STRIPE (R106): The formatter writes the next stripe of a FORMATTING parcel and advances FORMAT, the parcel becoming WRITTEN at the last. -/
  | formatStripe (slot : Nat) (parcel : Nat)
  /-- LAYOUT_STATUS (R121): Log page 0xC2 returns layout status for a namespace or subsystem. -/
  | layoutStatus (q : Nat) (cid : Nat) (nsid : Nat)
  /-- MEMBER_DEPART (R126): A member departs on port loss, presence or power-good loss or a drive report, entering MISSING or REBUILDING or becoming one-sided. -/
  | memberDepart (bay : Nat) (cause : Nat) (both : Bool)
  /-- REHOME_DONE (R145): The unretired ring and map halves have been copied to the new home and a REHOME record and labels written. -/
  | rehomeDone (bay : Nat)
  /-- HOME_COPY_RELOCATE (R146): A Cadastre home copy on a non-ACTIVE bay is written to the next ACTIVE bay within 1 s. -/
  | homeCopyRelocate (seg : Nat)
  /-- RETURN_WAIT_EXPIRE (R127): The return wait of a MISSING bay expires and it enters REBUILDING when AUTO_REBUILD is set. -/
  | returnWaitExpire (bay : Nat)
  /-- HELD_ROW_REPLAN (R129): A frame held on a row with a MISSING erasure re-plans its flush once per second or on a bay state change. -/
  | heldRowReplan (slot : Nat) (parcel : Nat) (stripe : Nat)
  /-- FAIL (R127): MEMBER_CMD FAIL moves a MISSING bay to REBUILDING at once. -/
  | memberFail (p : Path)
  /-- ADMIT (R131): MEMBER_CMD ADMIT admits a waiting different drive into RESTORING, or makes a CANDIDATE a grow target. -/
  | memberAdmit (p : Path)
  /-- RESYNC_FULL (R155): MEMBER_CMD RESYNC_FULL makes every parcel of a RESYNC bay be filled. -/
  | resyncFull (p : Path)
  /-- REBUILD_STRIPE (R133): The rebuild engine reconstructs one stripe's missing strip into the spare position under the stripe lock. -/
  | rebuildStripe (raws : Tab Raw)
  /-- LOSS_MAP (R141): Log page 0xC1 returns loss-map records for a namespace or subsystem. -/
  | lossMap (q : Nat) (cid : Nat) (nsid : Nat)
  /-- FILL_PARCEL (R148): A parcel of a RESYNC or RESTORING bay is filled per Table 9 and its dirty bit and relocation cleared. -/
  | fillParcel (bay : Nat) (raws : Tab (Tab Raw))
  /-- SCRUB_STRIPE (R149): Scrub reads and checks one stripe, rewriting failed blocks or differing parity, and at a pass end checks homes and labels. -/
  | scrubStripe (raws : Tab Raw)
  /-- RESHAPE_START (R151): RESHAPE_CMD START begins a layout or member-set reshape, or is refused with a reason. -/
  | reshapeStart (p : Path)
  /-- RESHAPE_SUSPEND (R155): RESHAPE_CMD SUSPEND suspends a running reshape. -/
  | reshapeSuspend (p : Path)
  /-- RESHAPE_RESUME (R154): RESHAPE_CMD RESUME resumes a suspended reshape from its checkpoint. -/
  | reshapeResume (p : Path)
  /-- FORM (R155): RESHAPE_CMD FORM forms the member set from CANDIDATE bays when both sets are empty. -/
  | setForm (p : Path)
  /-- MOVER_STRIPE (R152): The mover writes one new-layout stripe of the parcel at the baseline and advances CURSOR, finishing the parcel and baseline at the last. -/
  | moverStripe (blocks : Tab Raw)
  /-- TRAVERSE (R157): A traverse capsule is admitted at its coordinator and its descriptor table pulled. -/
  | traverse (q : Nat) (cid : Nat) (nsid : Nat) (travId : Nat) (ndesc : Nat) (len : Nat) (fuse : Nat)
  /-- TRAVERSE_TABLE_CHECK (R159): The pulled descriptor table is checked and the traverse refused or enters STAGING, duplicates answered from the outcome memory. -/
  | traverseTableCheck (t : Nat) (descs : List TravDesc)
  /-- TRAVERSE_STAGED (R163): Every extent is staged and mirrored and the traverse draws its admission numbers in one step. -/
  | traverseStaged (t : Nat)
  /-- TRAVERSE_STAGE_TIMEOUT (R162): Staging not complete within STAGE_TIMEOUT_MS abandons the traverse with reason 1. -/
  | traverseStageTimeout (t : Nat)
  /-- XSTAMP_TIMEOUT (R164): No stamp answer within XSTAMP_TIMEOUT_US; admission resumes and the traverse is abandoned with reason 5. -/
  | xstampTimeout (t : Nat)
  /-- TRAVERSE_CHECK (R165): Once earlier overlapping writers have settled, reservations, window bindings, conditions and stakes are judged in order. -/
  | traverseCheck (t : Nat) (partner : Option (Nat × Nat × Nat))
  /-- TRAVERSE_CLOSURE (R166): Every copy of the CLOSURE record and outcome entry is in place; the traverse takes effect, links its blocks and completes. -/
  | traverseClosure (t : Nat)
  /-- TRAVERSE_LOOKUP (R173): A write of LOOKUP_ID_HI looks up the outcome memory and sets LOOKUP_RESULT. -/
  | traverseLookup (p : Path) (v : Nat)
  /-- SEND (R186): A SEND packet is PSN-checked and placed into its receive buffer, delivering a capsule when the message closes. -/
  | send (qp : Nat) (p : Pkt) (cap : Option Capsule)
  /-- RDMA_WRITE (R186): An RDMA WRITE packet passes the key check and is placed, in a window subject to fault and ICV holds. -/
  | rdmaWrite (qp : Nat) (p : Pkt) (va : Nat) (rkey : Nat) (data : Nat) (imm : Option Nat)
  /-- RDMA_READ_REQUEST (R188): An RDMA READ request from a host executes once earlier messages have closed and returns responses. -/
  | rdmaReadRequest (qp : Nat) (p : Pkt) (va : Nat) (rkey : Nat) (len : Nat)
  /-- FETCH_ADD (R219): An 8-byte FETCH ADD executes in order on a window and records its result in the replay cache. -/
  | fetchAdd (qp : Nat) (p : Pkt) (va : Nat) (rkey : Nat) (add : Nat)
  /-- COMPARE_SWAP (R219): An 8-byte COMPARE SWAP executes in order on a window and records its result in the replay cache. -/
  | compareSwap (qp : Nat) (p : Pkt) (va : Nat) (rkey : Nat) (swap : Nat) (compare : Nat)
  /-- COMPARE_SWAP_16 (R198): A 16-byte compare-swap, opcode 0xC0, executes on a spray QP with the grant. -/
  | compareSwap16 (qp : Nat) (p : Pkt) (va : Nat) (rkey : Nat) (swap : Nat) (compare : Nat)
  /-- ACKNOWLEDGE (R192): An acknowledgement with SACK retires covered packets and marks lost ones for resend. -/
  | acknowledge (qp : Nat) (psn : Nat) (kind : Nat) (sack : List (Nat × Nat))
  /-- RDMA_READ_RESPONSE (R186): An RDMA READ response packet places write data pulled from a host. -/
  | rdmaReadResponse (qp : Nat) (p : Pkt) (data : Nat)
  /-- CNP (R200): A received CNP reduces the QP's rate and on spray penalises the named path. -/
  | cnp (qp : Nat) (path : Nat)
  /-- RC_TIMER (R200): Every RC_TIMER_US without a CNP, alpha decays and the rate recovers towards the target. -/
  | rcTimer (qp : Nat)
  /-- PATH_PENALTY_END (R201): A path's penalty after a CNP ends and new packets may use it again. -/
  | pathPenaltyEnd (qp : Nat) (path : Nat)
  /-- ACK_DELAY_EXPIRE (R191): ACK_DELAY_NS since the oldest unacknowledged accepted packet sends an acknowledgement. -/
  | ackDelayExpire (qp : Nat)
  /-- SPRAY_RTO_EXPIRE (R192): SPRAY_RTO_US passes for an unacknowledged packet, which is resent or the QP errors at the retry limit. -/
  | sprayRtoExpire (qp : Nat) (psn : Nat)
  /-- ACK_TIMEOUT (R180): On a standard QP the Local ACK Timeout expires and go-back-N retransmission runs, or the QP enters ERROR. -/
  | ackTimeout (qp : Nat)
  /-- CM_REQ (R182): A CM REQ is accepted with REP, negotiating spray mode, or rejected with reason 28. -/
  | cmReq (r : CmReq)
  /-- CM_RTU (R178): A CM RTU moves a CONNECTING QP to ACTIVE. -/
  | cmRtu (qp : Nat)
  /-- CM_DREQ (R178): A CM DREQ moves the QP to DRAINING and ends its NVMe-oF queue. -/
  | cmDreq (qp : Nat)
  /-- CM_DREP (R178): A CM DREP lets an ERROR QP proceed to its quiet time. -/
  | cmDrep (qp : Nat)
  /-- CM_RESPONSE_TIMEOUT (R178): No RTU arrives within the CM response timeout and the QP returns to FREE. -/
  | cmResponseTimeout (qp : Nat)
  /-- QP_ERROR_TIMEOUT (R178): 1 s in ERROR without DREQ and DREP moves the QP to its quiet time. -/
  | qpErrorTimeout (qp : Nat)
  /-- QP_QUIET_END (R178): The 100 ms quiet time of a released QP ends and its index becomes FREE. -/
  | qpQuietEnd (qp : Nat)
  /-- ICREQ (R202): An NVMe/TCP ICReq PDU sets up the connection and digests, answered with ICResp. -/
  | icreq (station : Nat) (peer : Nat) (hdgst : Bool) (ddgst : Bool)
  /-- CAPSULECMD (R202): An NVMe/TCP CapsuleCmd PDU delivers a command capsule. -/
  | capsulecmd (conn : Nat) (digestOk : Bool) (c : Capsule)
  /-- H2CDATA (R202): An NVMe/TCP H2CData PDU delivers write data for an R2T. -/
  | h2cdata (conn : Nat) (cid : Nat) (digestOk : Bool) (lba : Nat) (data : Nat)
  /-- H2CTERMREQ (R202): An NVMe/TCP H2CTermReq PDU terminates the connection. -/
  | h2ctermreq (conn : Nat)
  /-- BIND (R207): Window binding BIND draws an admission number and acts as a writer over its range, entering BINDING. -/
  | bind (q : Nat) (cid : Nat) (nsid : Nat) (policy : Nat) (pin : Bool) (win : Nat) (stall : Nat) (slba : Nat) (size : Nat)
  /-- BIND_COMPLETE (R208): Earlier writers have settled and pinned pages are resident; the window becomes BOUND and BIND completes. -/
  | bindComplete (win : Nat)
  /-- UNBIND (R207): Window binding UNBIND revokes the window's keys and writes back its dirty blocks. -/
  | unbind (q : Nat) (cid : Nat) (win : Nat)
  /-- UNBIND_COMPLETE (R207): Every key is FREE and every dirty block written back; the window becomes UNBOUND. -/
  | unbindComplete (win : Nat)
  /-- KEY_CREATE (R217): Window binding KEY_CREATE issues a VALID key with a raised tag over a window range. -/
  | keyCreate (q : Nat) (cid : Nat) (rights : Nat) (hostOnly : Bool) (win : Nat) (offset : Nat) (len : Nat)
  /-- KEY_REVOKE (R220): Window binding KEY_REVOKE puts the key in REVOKING on both controllers at the fence point. -/
  | keyRevoke (q : Nat) (cid : Nat) (rkey : Nat)
  /-- KEY_CMD_REVOKE (R220): KEYS.KEY_CMD REVOKE revokes the selected key at once. -/
  | keyCmdRevoke (p : Path) (v : Nat)
  /-- WIN_CMD_UNBIND (R208): WIN.WIN_CMD UNBIND unbinds the selected window at once. -/
  | winCmdUnbind (p : Path) (v : Nat)
  /-- REVOKE_DRAIN (R220): A revoking key's in-flight count reaches 0, the key becomes FREE and KEY_REVOKE completes. -/
  | revokeDrain (k : Nat) (partner : Nat)
  /-- REVOKE_TIMEOUT (R220): REVOKE_TIMEOUT_MS after the fence point the remaining stalled packets are discarded and the key freed. -/
  | revokeTimeout (k : Nat)
  /-- FAULT_COMPLETE (R209): All 512 blocks of a faulting page are present; the page is RESIDENT and stalled packets are placed. -/
  | faultComplete (win : Nat) (page : Nat)
  /-- WINDOW_WRITEBACK_AGE (R211): A window block dirty for WB_AGE_MS is written back by an internal writer. -/
  | windowWritebackAge (win : Nat) (block : Nat)
  /-- STALL_BUDGET_EXPIRE (R212): Under policy 2 a stalled packet's stall budget passes and it is discarded for resend. -/
  | stallBudgetExpire (qp : Nat) (psn : Nat)
  /-- CHAIN_WAIT_TIMEOUT (R223): A chain wait's timeout passes before its counter target and it completes Chain Wait Timeout. -/
  | chainWaitTimeout (ring : Nat)
  /-- FRAME_RECEIVED (R228): A frame is checked and timestamped by the MAC, charged to the buffer and handed to a parse engine. -/
  | frameReceived (port : Nat) (len : Nat) (bytes : List Nat) (fcsOk : Bool) (esp : EspIn)
  /-- PFC_XOFF_REFRESH (R244): Every 10 µs while XOFF holds, it is refreshed. -/
  | pfcXoffRefresh (port : Nat) (prio : Nat)
  /-- FRAME_TRANSMITTED (R231): A frame is chosen by ETS and station limiter and sent on a port chosen by flow hash, with ECN marking. -/
  | frameTransmitted (port : Nat) (fs : List EgFrame)
  /-- PFC_FRAME_RECEIVED (R246): A received PFC frame pauses a priority on the port for its quanta. -/
  | pfcFrameReceived (port : Nat) (enable : Nat) (quanta : List Nat)
  /-- PFC_PAUSE_EXPIRE (R246): A received pause's quanta run out and the priority resumes. -/
  | pfcPauseExpire (port : Nat) (prio : Nat)
  /-- PFC_WATCHDOG_EXPIRE (R246): A priority paused for PFC_WD_MS raises event 0x0803. -/
  | pfcWatchdogExpire (port : Nat) (prio : Nat)
  /-- NET_LINK_CHANGE (R228): A network link goes up or down; frames queued for a down port are discarded. -/
  | netLinkChange (port : Nat) (up : Bool)
  /-- NOP (R233): Eopin NOP does nothing. -/
  | eopNop (e : Nat)
  /-- EXT (R233): Eopin EXT extracts a shifted masked field into a register. -/
  | eopExt (e : Nat) (d : Fin 8) (f : EopField) (sh : Fin 32) (imm : BitVec 32)
  /-- MOVI (R233): Eopin MOVI loads an immediate. -/
  | eopMovi (e : Nat) (d : Fin 8) (imm : BitVec 32)
  /-- ADD (R233): Eopin ADD adds an immediate to a register. -/
  | eopAdd (e : Nat) (d : Fin 8) (r : Fin 8) (imm : BitVec 32)
  /-- ADDW (R233): Eopin ADDW adds a register to the destination. -/
  | eopAddw (e : Nat) (d : Fin 8) (r : Fin 8)
  /-- SUB (R233): Eopin SUB subtracts an immediate. -/
  | eopSub (e : Nat) (d : Fin 8) (r : Fin 8) (imm : BitVec 32)
  /-- AND (R233): Eopin AND masks a register with an immediate. -/
  | eopAnd (e : Nat) (d : Fin 8) (r : Fin 8) (imm : BitVec 32)
  /-- OR (R233): Eopin OR ORs an immediate into a register. -/
  | eopOr (e : Nat) (d : Fin 8) (r : Fin 8) (imm : BitVec 32)
  /-- SHL (R233): Eopin SHL shifts a register left. -/
  | eopShl (e : Nat) (d : Fin 8) (r : Fin 8) (sh : Fin 32)
  /-- SHR (R233): Eopin SHR shifts a register right. -/
  | eopShr (e : Nat) (d : Fin 8) (r : Fin 8) (sh : Fin 32)
  /-- MB (R233): Eopin MB branches when a masked field equals a value. -/
  | eopMb (e : Nat) (wide : Bool) (abs : Bool) (off : Fin 256) (tgt : Fin 8192) (mask : BitVec 16) (val : BitVec 16)
  /-- MBN (R233): Eopin MBN branches when a masked field differs from a value. -/
  | eopMbn (e : Nat) (wide : Bool) (abs : Bool) (off : Fin 256) (tgt : Fin 8192) (mask : BitVec 16) (val : BitVec 16)
  /-- BEQ (R233): Eopin BEQ branches when a register equals an immediate. -/
  | eopBeq (e : Nat) (r : Fin 8) (tgt : Fin 8192) (imm : BitVec 32)
  /-- BNE (R233): Eopin BNE branches when a register differs from an immediate. -/
  | eopBne (e : Nat) (r : Fin 8) (tgt : Fin 8192) (imm : BitVec 32)
  /-- BLT (R233): Eopin BLT branches when a register is below an immediate. -/
  | eopBlt (e : Nat) (r : Fin 8) (tgt : Fin 8192) (imm : BitVec 32)
  /-- JMP (R233): Eopin JMP jumps to a target. -/
  | eopJmp (e : Nat) (tgt : Fin 8192)
  /-- JTAB (R233): Eopin JTAB jumps through a table indexed by a register. -/
  | eopJtab (e : Nat) (r : Fin 8) (tgt : Fin 8192) (imm : BitVec 32)
  /-- ADV (R233): Eopin ADV advances the cursor by an immediate. -/
  | eopAdv (e : Nat) (imm : BitVec 32)
  /-- ADVW (R233): Eopin ADVW advances the cursor by a shifted register. -/
  | eopAdvw (e : Nat) (r : Fin 8) (sh : Fin 32)
  /-- MARK (R233): Eopin MARK records a header offset. -/
  | eopMark (e : Nat) (no : Fin 8) (abs : Bool) (off : Fin 256)
  /-- KEY (R233): Eopin KEY copies window bytes into the key register. -/
  | eopKey (e : Nat) (abs : Bool) (off : Fin 256) (len : Nat) (dst : Nat)
  /-- KEYW (R233): Eopin KEYW writes a register into the key. -/
  | eopKeyw (e : Nat) (r : Fin 8) (dst : Nat)
  /-- HASH (R242): Eopin HASH folds window bytes into the flow hash. -/
  | eopHash (e : Nat) (abs : Bool) (off : Fin 256) (len : Nat)
  /-- HASHW (R242): Eopin HASHW folds a register into the flow hash. -/
  | eopHashw (e : Nat) (r : Fin 8)
  /-- LOOK (R238): Eopin LOOK submits the key to the ternary table and optionally the flow table. -/
  | eopLook (e : Nat) (profile : Fin 16) (flow : Bool)
  /-- ACT (R238): Eopin ACT waits for the lookup result and applies default, rule and flow actions. -/
  | eopAct (e : Nat)
  /-- CLASSIFIER_LOOKUP_DONE (R238): The ternary and flow lookup result becomes available to a waiting ACT. -/
  | classifierLookupDone (e : Nat)
  /-- SETF (R233): Eopin SETF sets an output field to an immediate. -/
  | eopSetf (e : Nat) (f : OutField) (imm : BitVec 32)
  /-- SETW (R233): Eopin SETW sets an output field from a register. -/
  | eopSetw (e : Nat) (f : OutField) (r : Fin 8)
  /-- EMIT (R236): Eopin EMIT releases the output record in arrival order and the engine takes its next frame. -/
  | eopEmit (e : Nat)
  /-- TRAP (R233): Eopin TRAP sends the frame to the management cores with a reason and emits. -/
  | eopTrap (e : Nat) (reason : Fin 256)
  /-- EOPIN_CYCLE_LIMIT (R234): A frame using CYCLE_LIMIT cycles without EMIT is emitted to class 3 with reason 3. -/
  | eopinCycleLimit (e : Nat)
  /-- FLOW_INSERT (R240): FLOW_CMD INSERT places a flow entry, moving entries as needed, or returns EXISTS or FULL. -/
  | flowInsert (p : Path)
  /-- FLOW_DELETE (R240): FLOW_CMD DELETE clears a flow entry's VALID. -/
  | flowDelete (p : Path)
  /-- FLOW_REPLACE (R240): FLOW_CMD REPLACE rewrites an entry's action bytes in one step. -/
  | flowReplace (p : Path)
  /-- FLOW_LOOKUP (R240): FLOW_CMD LOOKUP reads an entry back into FLOW_DATA. -/
  | flowLookup (p : Path)
  /-- RULE_WRITE (R241): RULE_CMD WRITE stores a rule invalid and then sets VALID as its last step. -/
  | ruleWrite (p : Path)
  /-- RULE_INVALIDATE (R241): RULE_CMD INVALIDATE clears a rule. -/
  | ruleInvalidate (p : Path)
  /-- RULE_READ (R241): RULE_CMD READ loads a rule and its hits into the rule registers. -/
  | ruleRead (p : Path)
  /-- FRAGMENT_RECEIVED (R243): A fragment joins a reassembly, and a complete RoCEv2 or ESP datagram is re-injected. -/
  | fragmentReceived (k : Nat) (proto : Nat) (port : Nat) (station : Option Nat) (prio : Nat) (p : Piece)
  /-- FRAG_TIMEOUT (R243): A datagram not complete within FRAG_TIMEOUT_MS is discarded. -/
  | fragTimeout (k : Nat)
  /-- TXTS_HI_READ (R454): Reading NET.TXTS_HI releases the oldest transmit timestamp entry. -/
  | txtsHiRead (p : Path) (g : Nat)
  /-- LANE_RESEED (R255): After 65,536 blocks a lane reseeds its mask generator and runs a known-answer block, or stops without a seed. -/
  | laneReseed (pool : Nat) (lane : Nat) (katOk : Bool)
  /-- DRBG_RESEED (R256): After 2^20 generate requests the DRBG reseeds from the entropy source. -/
  | drbgReseed (ok : Bool)
  /-- ENTROPY_HEALTH_FAIL (R257): The entropy source fails a health test and is retested up to 3 times at 10 ms intervals. -/
  | entropyHealthFail
  /-- ENTROPY_RETEST (R257): A retest after 10 ms passes or, after the third failure, entropy failure measures and write-through take effect. -/
  | entropyRetest (pass : Bool)
  /-- INSTALL (R262): SA_CMD INSTALL installs an SA image, inserting its inbound flow entry. -/
  | saInstall (p : Path)
  /-- DELETE (R266): SA_CMD DELETE removes the flow entry, drains packets and frees the SA. -/
  | saDelete (p : Path)
  /-- SA_READ (R262): SA_CMD READ returns the SA image with its key as zeros. -/
  | saRead (p : Path)
  /-- ROLL (R272): KEY_CMD ROLL starts a key rollover of the selected namespace. -/
  | ksRoll (p : Path)
  /-- ESC_READ (R276): KEY_CMD ESC_READ moves the oldest pending escrow record into ESC_DATA. -/
  | escRead (p : Path)
  /-- IMPORT (R276): KEY_CMD IMPORT installs the escrow record in ESC_DATA into an EMPTY slot when its tag verifies. -/
  | ksImport (p : Path)
  /-- REKEY_SWEEP_STRIPE (R273): The rekey sweep rewrites a stripe carrying the OLD slot under a new generation; at the end the OLD key is destroyed. -/
  | rekeySweepStripe (raws : Tab Raw)
  /-- EP_PERST_N_ASSERT (R292): EP_PERST_N is asserted and every function is handled as a surprise removal. -/
  | epPerstNAssert
  /-- EP_LINK_DOWN (R292): A link-down the controller did not initiate is a surprise removal of every function. -/
  | epLinkDown
  /-- EP_LINK_UP (R286): The endpoint link trains to L0 and configuration requests are answered once ready. -/
  | epLinkUp (width : Nat) (rate : Nat) (flit : Bool)
  /-- FLR (R291): A Function Level Reset stops fetching, discards held work and ends the function's association. -/
  | flr (fn : Nat)
  /-- FLR_COMPLETE (R291): Outstanding requests are settled and the function's registers and rings return to reset within 100 ms. -/
  | flrComplete (fn : Nat)
  /-- BUS_MASTER_CLEAR (R290): Bus Master Enable goes to 0; dependent commands end Host Access Aborted and rings enter STOPPED. -/
  | busMasterClear (fn : Nat) (mse : Bool)
  /-- BUS_MASTER_SET (R290): Bus Master Enable returns to 1; held completions are written and rings resume. -/
  | busMasterSet (fn : Nat) (mse : Bool)
  /-- VF_ENABLE (R284): Setting or clearing VF Enable or NumVFs creates VFs or resets removed ones. -/
  | vfEnable (enable : Bool) (num : Nat)
  /-- IDE_CHECK_FAIL (R285): An IDE integrity failure moves the stream to Insecure and every function is handled as Bus Master cleared. -/
  | ideCheckFail
  /-- CC_EN (R283): CC.EN of a function's NVMe controller creates or ends its host association. -/
  | ccEn (fn : Nat) (en : Bool) (subsys : Nat)
  /-- EP_COMPLETION_TIMEOUT (R288): A host read not completed within CTO_MS times out, its tag quarantined and the read issued once more or failed. -/
  | epCompletionTimeout (tag : Nat) (refused : Bool)
  /-- EP_TAG_QUARANTINE_END (R288): 4 x CTO_MS after issue a quarantined endpoint tag is released. -/
  | epTagQuarantineEnd (tag : Nat)
  /-- EP_LATE_COMPLETION (R288): A completion for a timed-out tag is discarded and lifts its quarantine. -/
  | epLateCompletion (tag : Nat)
  /-- EP_IDLE (R287): IDLE_US without traffic lets the link enter L0p or L1 and switches LTR to idle. -/
  | epIdle
  /-- DB (R299): A ring doorbell write moves a work ring's tail or a completion ring's head. -/
  | db (fn : Nat) (n : Nat) (v : Nat)
  /-- PUSH (R299): A 64 B push enters the prefetch cache as a descriptor or acts as a doorbell. -/
  | push (fn : Nat) (n : Nat) (whole : Bool) (d : Desc)
  /-- RING_CTL_WRITE (R294): A write of a ring page's CTL enables or disables the ring, checked against its completion ring. -/
  | ringCtlWrite (fn : Nat) (n : Nat) (off : Nat) (v : Nat)
  /-- DRAIN (R305): Ring CMD DRAIN stops granting and takes the ring to DISABLED once granted work completes. -/
  | drain (fn : Nat) (n : Nat)
  /-- PAUSE (R295): Ring CMD PAUSE stops the ring granting. -/
  | pause (fn : Nat) (n : Nat)
  /-- RING_RESUME (R295): Ring CMD RESUME returns a paused ring to ACTIVE. -/
  | ringResume (fn : Nat) (n : Nat)
  /-- INVALIDATE (R299): Ring CMD INVALIDATE discards a paused ring's prefetched lines and sets INV_DONE. -/
  | invalidate (fn : Nat) (n : Nat)
  /-- RING_GRANT (R303): The weighted round-robin arbiter grants the next descriptors of busy work rings. -/
  | ringGrant (mem : List (Nat × Nat × Desc))
  /-- RING_NOP (R296): Descriptor NOP completes, as a barrier with FENCE. -/
  | ringNop (g : Nat)
  /-- NVME_IO (R296): Descriptor NVME_IO executes an NVMe I/O submission entry in the function's association. -/
  | nvmeIo (g : Nat) (c : Capsule)
  /-- NVME_ADMIN (R296): Descriptor NVME_ADMIN executes an NVMe admin submission entry. -/
  | nvmeAdmin (g : Nat)
  /-- MGMT (R296): Descriptor MGMT carries an MCTP request to the management cores, PF only. -/
  | mgmt (g : Nat) (rspLen : Nat)
  /-- WIN_READ (R297): Descriptor WIN_READ reads window bytes into host memory. -/
  | winRead (g : Nat)
  /-- WIN_WRITE (R297): Descriptor WIN_WRITE writes host bytes into a window, raising a tally when given. -/
  | winWrite (g : Nat) (data : Nat)
  /-- WIN_FADD (R297): Descriptor WIN_FADD performs an 8-byte fetch-add on a window. -/
  | winFadd (g : Nat)
  /-- WIN_CAS8 (R297): Descriptor WIN_CAS8 performs an 8-byte compare-swap on a window. -/
  | winCas8 (g : Nat)
  /-- WIN_CAS16 (R297): Descriptor WIN_CAS16 performs a 16-byte compare-swap on a window. -/
  | winCas16 (g : Nat)
  /-- CHAIN_WAIT (R304): Descriptor CHAIN_WAIT holds its ring until a tally counter reaches its target, times out or aborts. -/
  | chainWait (g : Nat)
  /-- COAL_DELAY_EXPIRE (R302): The COAL delay since the oldest unsignalled record passes and the ring's MSI-X vector is written. -/
  | coalDelayExpire (g : Nat)
  /-- PERST_DELAY_EXPIRE (R309): PERST_DLY_MS after power-good and entry to HELD, PERST_N is released and the port enters TRAINING. -/
  | perstDelayExpire (n : Nat)
  /-- RP_TRAINING_TIMEOUT (R309): 100 ms without L0 returns the port to HELD, the third in a row making it UNUSABLE. -/
  | rpTrainingTimeout (n : Nat)
  /-- RP_LINK_UP (R310): The root port reaches L0 and enumerates, configures and checks the drive, creates queues and reads its label. -/
  | rpLinkUp (n : Nat) (width : Nat) (rate : Nat) (flit : Bool)
  /-- DRIVE_READY_TIMEOUT (R310): CSTS.RDY fails to reach 1 in time; PERST_N is asserted and the port retries, UNUSABLE at the third. -/
  | driveReadyTimeout (n : Nat)
  /-- DRIVE_FORMAT_COMPLETE (R311): Format NVM of namespace 1 completes and filling of the admitted drive starts. -/
  | driveFormatComplete (n : Nat)
  /-- RP_COMMAND_TIMEOUT (R313): A drive command or TLP times out; its tag is quarantined, an Abort sent and the request reconstructed, re-planned or reissued. -/
  | rpCommandTimeout (n : Nat) (tag : Nat) (tlp : Bool) (again : Bool)
  /-- RP_TAG_QUARANTINE_END (R314): 4 x CTO_MS after issue a quarantined drive tag is released. -/
  | rpTagQuarantineEnd (n : Nat) (tag : Nat)
  /-- RP_LATE_COMPLETION (R314): A late completion for a quarantined tag is discarded and lifts the quarantine. -/
  | rpLateCompletion (n : Nat) (tag : Nat)
  /-- RP_LATE_DATA (R314): An inbound write to a quarantined tag's aperture is discarded and counted. -/
  | rpLateData (n : Nat) (tag : Nat)
  /-- RP_CONTAIN (R315): A poisoned, out-of-aperture or malformed TLP or link error contains the port and the member departs. -/
  | rpContain (n : Nat) (code : Nat)
  /-- RP_CONTAIN_END (R315): 100 ms after containment the port goes to HELD and retrains. -/
  | rpContainEnd (n : Nat)
  /-- RP_LINK_LOSS (R316): An uninitiated link-down or an all-ones register read asserts PERST_N, enters HELD and the member departs. -/
  | rpLinkLoss (n : Nat) (allOnes : Bool)
  /-- RP_IDLE (R317): IDLE_US without a TLP narrows the root port link to x1. -/
  | rpIdle (n : Nat)
  /-- SIDEBAND_LEVEL_ACCEPT (R319): A sideband input stable for 16 ms is accepted, giving presence, removal, IFDET or a press, or quarantine at chatter. -/
  | sidebandLevelAccept (bay : Nat) (input : Nat)
  /-- LONG_PRESS (R320): A press held 8 s raises 0x4C03 once and applies OFF when LONG_OFF_EN is set. -/
  | longPress (bay : Nat)
  /-- QUARANTINE_CLEAR (R319): Writing 1 to a QUAR bit ends the quarantine and accepts the present debounced level. -/
  | quarantineClear (p : Path) (input : Nat) (v : Nat)
  /-- LED_REFRESH (R321): Every 10 ms the 96-bit LED chain is shifted out and latched. -/
  | ledRefresh
  /-- INSERTION_DELAY_END (R324): The later of insertion delay and minimum off-time ends and the bay moves to QUEUED or OFF. -/
  | insertionDelayEnd (bay : Nat)
  /-- BAY_START (R333): A QUEUED bay enters RAMPING when fewer than RAMP_MAX ramp and STAGGER_MS has passed. -/
  | bayStart
  /-- BAY_FAULT_TIMER_EXPIRE (R325): T_FLT expires while limiting, the gate is pulled down and a start or run fault recorded. -/
  | bayFaultTimerExpire (bay : Nat)
  /-- BAY_FAST_TRIP (R326): Bay current above k x I_LIM fires the strong pull-down within 300 ns as a fault. -/
  | bayFastTrip (bay : Nat)
  /-- BAY_POWER_GOOD (R327): Gate enhancement and output voltage hold together for 1 ms and power-good is asserted, the bay entering ON. -/
  | bayPowerGood (bay : Nat)
  /-- BAY_POWER_GOOD_LOST (R327): Power-good deasserts, PERST_N is asserted within 1 µs, and an uncommanded loss is a run fault with member departure. -/
  | bayPowerGoodLost (bay : Nat)
  /-- BAY_RETRY_WAIT_END (R329): Retry-wait ends and the bay returns to QUEUED. -/
  | bayRetryWaitEnd (bay : Nat)
  /-- BAY_RETRIES_RESET (R329): 60 s in ON resets RETRIES to 0. -/
  | bayRetriesReset (bay : Nat)
  /-- FEED_BAD (R330): Feed A bad with B good starts a changeover from A to B. -/
  | feedBad (bay : Nat) (feedB : Bool)
  /-- FEED_GOOD (R323): A feed returns within its window and is marked good. -/
  | feedGood (bay : Nat) (feedB : Bool)
  /-- FEED_RETURN (R330): Feed A good for 500 ms with the partner serving starts the return from B to A. -/
  | feedReturn (bay : Nat)
  /-- GATE_TURNOFF_FAIL (R330): A gate not below 1 V within 8 µs of turn-off leaves the other gate off and records GATE_FAIL. -/
  | gateTurnoffFail (bay : Nat)
  /-- BOTH_GATES (R330): Both gate V_GS above 1 V at once turn feed B off and record BOTH_GATES. -/
  | bothGates (bay : Nat)
  /-- FEED_A_GATE_LOST (R331): Controller 1 sees A's V_GS fall while A is good and the bay on, and turns B on. -/
  | feedAGateLost (bay : Nat)
  /-- OFF (R334): BAY_CMD OFF turns the gates off, asserts PWRDIS and the member departs. -/
  | bayOff (p : Path) (bay : Nat)
  /-- ON (R334): BAY_CMD ON moves an OFF bay to QUEUED. -/
  | bayOn (p : Path) (bay : Nat)
  /-- CLEAR (R334): BAY_CMD CLEAR moves a LATCHED bay to QUEUED with RETRIES 0. -/
  | bayClear (p : Path) (bay : Nat)
  /-- CYCLE (R334): BAY_CMD CYCLE applies OFF and then ON after the minimum off-time. -/
  | bayCycle (p : Path) (bay : Nat)
  /-- CYCLE_OFF_TIME_END (R334): The minimum off-time of a CYCLE passes and ON is applied. -/
  | cycleOffTimeEnd (bay : Nat)
  /-- ZEBER_RETRAIN (R337): A lane losing lock or exceeding the error rate starts a retrain to the widest whole group. -/
  | zeberRetrain (lane : Nat)
  /-- ZEBER_TRAINED (R337): Link training or retraining completes and flits move again, or the link is down below MIN_WIDTH. -/
  | zeberTrained (locked : Nat)
  /-- ZEBER_FLIT_RECEIVED (R338): A flit is CRC-checked and acknowledged, or NAKed for replay. -/
  | zeberFlitReceived (crcOk : Bool) (ctrl : Bool) (typeOk : Bool) (fseq : Nat) (ack : Nat) (bytes : Nat)
  /-- ZEBER_NAK (R338): A received NAK makes the sender replay from the named flit. -/
  | zeberNak (fseq : Nat)
  /-- ZEBER_REPLAY_TIMEOUT (R338): A flit unacknowledged for 2 µs is replayed, and 8 replays retrain the link. -/
  | zeberReplayTimeout
  /-- HELLO (R358): A HELLO is checked for CTRL_ID, version, PAIRED, SET_ID and session, and starts or refuses a join. -/
  | hello (ctrl : Nat) (version : Nat) (setId : Nat) (epoch : Nat) (datum : Nat) (paired : Bool)
  /-- RANGE (R342): A RANGE message updates ranging and records the round trip. -/
  | pairRange (time : Nat) (pstate : Nat) (verdict : Nat) (rtt : Nat) (dirtyLimit : Nat) (effMib : Nat) (holdup : Nat)
  /-- RANGE_SEND_TIMER (R342): Every RANGING_US a RANGE is sent on VC 0. -/
  | rangeSendTimer
  /-- STOPPING (R343): A STOPPING message declares the partner lost at once, without preemption. -/
  | stopping (cause : Nat)
  /-- MIRROR_PUT (R348): The partner places a mirrored block or staging block in its mirror region in MSEQ order. -/
  | mirrorPut (mseq : Nat) (slot : Nat) (lba : Nat) (adm : Nat) (stage : Nat) (blk : Blk)
  /-- MIRROR_ACK (R348): MIRROR_ACK covers placed MSEQs and writers whose data is in both caches may complete. -/
  | mirrorAck (mseq : Nat)
  /-- JOURNAL_PUT (R348): The partner places a mirrored journal record, linking staging named by a CLOSURE. -/
  | journalPut (mseq : Nat) (r : JRec)
  /-- CLEAN_NOTE (R348): The partner frees mirror copies of a CLEAN stripe, abandoned traverse or refused writer. -/
  | cleanNote (mseq : Nat) (n : CleanNote)
  /-- LEASE (R346): The partner places a raised admission-number lease for a namespace. -/
  | lease (mseq : Nat) (slot : Nat) (limit : Nat)
  /-- STATE_PUT (R348): The partner applies a mirrored Cadastre, counter, window or key-table change. -/
  | statePut (mseq : Nat) (p : StatePut)
  /-- FWD_CMD (R41): The owner receives a forwarded command context and parses and stamps it. -/
  | fwdCmd (c : FwdCmd)
  /-- FWD_DATA (R348): Forwarded data arrives at the owner for a write or at the receiving controller for a read. -/
  | fwdData (toOwner : Bool) (tag : Nat) (blocks : List (Nat × Nat))
  /-- FWD_CPL (R348): A forwarded outcome arrives and the receiving controller sends the completion. -/
  | fwdCpl (tag : Nat) (adm : Nat) (sct : Nat) (sc : Nat) (dnr : Option Bool) (dw0 : Nat) (dw1 : Nat)
  /-- STRIP_REQ (R126): The partner issues a one-sided strip request on its own port. -/
  | stripReq (r : StripReq)
  /-- STRIP_RSP (R126): A one-sided strip response completes the forwarded strip I/O. -/
  | stripRsp (tag : Nat) (ok : Bool) (blocks : List Raw)
  /-- XSTAMP_REQ (R164): The partner draws one number in each named namespace in one step and returns them. -/
  | xstampReq (tag : Nat) (travId : Nat) (host : Nat) (slots : List Nat) (exts : List XExt)
  /-- XSTAMP_RSP (R164): The coordinator receives the partner's numbers, draws its own and resumes admission. -/
  | xstampRsp (tag : Nat) (nums : List (Nat × Nat)) (ok : Bool)
  /-- RECORD (R349): A pair record is numbered and applied by controller 0, or applied by controller 1 and acknowledged. -/
  | pairRecord (num : Nat) (tag : Nat) (r : PairRec)
  /-- RECORD_ACK (R349): RECORD_ACK completes a pair record. -/
  | recordAck (num : Nat)
  /-- MOVE_STATE (R347): The new owner takes the namespace state, admits held capsules and ANA states flip. -/
  | moveState (m : MoveState)
  /-- FRAME (R339): A class-4 switch frame arrives from the partner and is parsed again. -/
  | pairFrame (len : Nat) (port : Nat) (prio : Nat) (bytes : List Nat) (esp : EspIn)
  /-- SESSION (R378): Security session data of the pair session is processed by the security cores. -/
  | pairSession (done : Bool) (failed : Bool) (reply : List Nat)
  /-- RESYNC_PUT (R359): The joiner places resynchronised state in its mirror region. -/
  | resyncPut (x : ResyncItem)
  /-- RESYNC_DONE (R359): Resynchronisation ends and both controllers enter PAIRED. -/
  | resyncDone (rate : Nat)
  /-- PAIR_SENSE_TIMEOUT (R341): 2 ms without an edge on PAIR_SENSE_IN makes the verdict present or absent. -/
  | pairSenseTimeout (high : Bool)
  /-- PAIR_SENSE_EDGE (R341): An edge on PAIR_SENSE_IN makes the verdict serving. -/
  | pairSenseEdge
  /-- RANGING_TIMEOUT (R343): No RANGE for RANGING_TIMEOUT_US judges the partner under Table 5: lost, arbitration or fenced. -/
  | rangingTimeout
  /-- ARB_DELAY_END (R354): Controller 1's arbitration delay ends and it preempts. -/
  | arbDelayEnd
  /-- PREEMPTION_DONE (R353): Reservation preempts have answered or timed out and the controller has won or enters FENCED. -/
  | preemptionDone (won : Nat)
  /-- SEEKING_TIMEOUT (R344): In SEEKING the verdict absent for 2 s or JOIN_WAIT_S passing leads to PARTNER_LOST. -/
  | seekingTimeout
  /-- QUIET_INTERVAL_END (R351): The quiet interval after takeover ends and the partner's journal records are closed and flushes resume. -/
  | quietIntervalEnd (raws : Tab (Tab Raw))
  /-- MOVE (R347): PAIR.MOVE_CMD MOVE starts an ownership move of the selected slot as a pair record. -/
  | pairMove (p : Path) (v : Nat)
  /-- MOVE_DRAINED (R347): The old owner's commands, traverses and key counts drain, frames flush and MOVE_STATE is sent. -/
  | moveDrained
  /-- MOVE_HOLD_EXPIRE (R347): A capsule held longer than MOVE_HOLD_MS completes with ANA Transition. -/
  | moveHoldExpire (q : Nat)
  /-- FIELD_BOOK_ENTRY_WRITTEN (R375): A Field Book entry is programmed and read back and the request that caused it proceeds. -/
  | fieldBookEntryWritten (okA : Bool) (okB : Bool) (burnOk : Bool)
  /-- BOOT_CONFIRM (R371): BOOT_CONFIRM confirms the boot and clears the attempt count. -/
  | bootConfirm (p : Path)
  /-- SVN_ADVANCE (R372): SVN_CMD ADVANCE writes an SVN entry and burns the selected counter. -/
  | svnAdvance (p : Path)
  /-- ACTIVATE (R379): ACT_CMD ACTIVATE verifies the other slot, writes ACT_BEGIN and activates changed components. -/
  | activate (p : Path)
  /-- ACTIVATION_COMPONENT_DONE (R379): A component reloads with new code, or fails and switched components return, ACT_END written at the last. -/
  | activationComponentDone (ok : Bool)
  /-- DEBUG_UNLOCK (R380): A signed debug request is checked, a DEBUG entry written and the scope takes effect. -/
  | debugUnlock (scope : Nat) (nonce : Nat) (serial : Nat) (ownerSig : Bool) (vendorSig : Bool)
  /-- FIELD_BOOK_EXPORT (R377): Log page 0xC0 returns Field Book entries. -/
  | fieldBookExport (q : Nat) (cid : Nat) (offset : Nat) (len : Nat)
  /-- GET_MEASUREMENTS (R377): SPDM GET_MEASUREMENTS returns signed measurement digests. -/
  | getMeasurements (ifc : MgmtIf) (req : Nat) (index : Nat)
  /-- CHALLENGE (R377): SPDM CHALLENGE returns CHALLENGE_AUTH signed with the alias key. -/
  | challenge (ifc : MgmtIf) (req : Nat) (nonce : Nat)
  /-- KEY_EXCHANGE (R378): SPDM KEY_EXCHANGE establishes a secured session. -/
  | keyExchange (ifc : MgmtIf) (req : Nat) (ownerAuth : Bool)
  /-- KEY_UPDATE (R378): SPDM KEY_UPDATE renews session keys. -/
  | keyUpdate (ifc : MgmtIf) (req : Nat)
  /-- SET_CERTIFICATE (R377): SPDM SET_CERTIFICATE installs the owner's LDevID chain in slot 1. -/
  | setCertificate (ifc : MgmtIf) (req : Nat) (chain : Nat)
  /-- OWNER_ENROL (R378): An authenticated owner enrolment burns the first owner key and LIFECYCLE OWNED. -/
  | ownerEnrol (req : Nat) (digest : Nat)
  /-- OWNER_ROTATE (R378): An owner rotation signed by the current key burns the next slot and revokes the old. -/
  | ownerRotate (req : Nat) (digest : Nat) (signedByCurrent : Bool)
  /-- ESCROW_KEY_INSTALL (R276): An escrow key is installed through a mutually authenticated SPDM session. -/
  | escrowKeyInstall (req : Nat) (key : Nat)
  /-- FIELD_BOOK_ENTRY_VENDOR_GET (R377): A vendor-defined SPDM request returns Field Book entries by SEQ or certificates. -/
  | fieldBookEntryVendorGet (ifc : MgmtIf) (req : Nat) (seq : Nat)
  /-- COMMIT (R389): DATUM_CMD COMMIT cross-checks, records and arms the staged datum, then quiesces and closes. -/
  | datumCommit (p : Path)
  /-- CLOSURE (R390): Parse and switch stop, the closure strobe swaps shadow registers in every block and service resumes. -/
  | datumClosure (hold : Nat)
  /-- QUIESCE_RETRY (R390): Not still after 1.5 µs, the quiesce is released and retried after 100 µs, refused after 16 attempts. -/
  | quiesceRetry
  /-- CONFIRM (R392): DATUM_CMD CONFIRM marks the active datum confirmed. -/
  | datumConfirm (p : Path)
  /-- CONFIRM_EXPIRE (R392): CONFIRM_LEFT_S reaches 0 and the datum reverts automatically. -/
  | confirmExpire
  /-- REVERT (R393): DATUM_CMD REVERT makes the previous datum active at one closure. -/
  | datumRevert (p : Path)
  /-- DISCARD (R388): DATUM_CMD DISCARD drops the staged datum. -/
  | datumDiscard (p : Path)
  /-- SEAL (R394): DATUM_CMD SEAL seals the confirmed active datum. -/
  | datumSeal (p : Path)
  /-- LOAD (R388): DATUM_CMD LOAD makes the security cores verify the delivered plat. -/
  | datumLoad (p : Path)
  /-- LOAD_DONE (R383): Plat verification ends and the plat is staged as a new base or refused. -/
  | loadDone
  /-- REGISTER_WRITE (R450): A write to a register with no row of its own acts per its access type, staging RWD values after range checks. -/
  | registerWrite (p : Path) (page : Nat) (off : Nat) (be : Nat) (v : Nat)
  /-- COLD_RESET (R406): SYS_PWROK rising starts a cold start: straps, fuses, PLLs, secure boot, training, release, assembly and replay. -/
  | coldReset (f : StartFacts)
  /-- SYS_PWROK_FALL (R398): SYS_PWROK falls and the controller holds itself in cold reset. -/
  | sysPwrokFall
  /-- VDD_PC_RISE (R480): VDD_PC rises and the power chiplet checks its own trims. -/
  | vddPcRise (trimOk : Bool)
  /-- SYS_RST_N (R407): SYS_RST_N low for 1 µs requests a cold reset, preceded by a vault dump when serving with dirty data. -/
  | sysRstN
  /-- COLD (R406): RST_CMD COLD requests a cold reset. -/
  | rstCold (p : Path)
  /-- WARM (R408): RST_CMD WARM performs a warm reset after a vault dump. -/
  | rstWarm (p : Path)
  /-- SHUTDOWN (R413): RST_CMD SHUTDOWN stops admission, moves namespaces, completes commands and flushes all dirty data. -/
  | rstShutdown (p : Path)
  /-- SHUTDOWN_FLUSHED (R413): Every stripe is CLEAN; STOPPING is sent, bays are turned off if solo and SHUTDOWN_DONE is set. -/
  | shutdownFlushed
  /-- SD_TIMEOUT (R413): Shutdown flush not complete within SD_TIMEOUT_S dumps the vault in its place. -/
  | sdTimeout
  /-- BLOCK (R409): RST_CMD BLOCK resets one block per Table 5, or is refused. -/
  | rstBlock (p : Path)
  /-- RAIL_FAULT (R400): A rail out of window for 10 µs raises FATAL 0x0202 and dumps, or fails the chiplet link for VDD_PC. -/
  | railFault (rail : Nat) (mv : Nat)
  /-- THERMAL_WARNING (R400): The hottest sensor above THERM_WARN_C for 1 ms raises event 0x0203. -/
  | thermalWarning (sensor : Nat) (temp : Nat)
  /-- THERMAL_TRIP (R400): Above 115 °C for 1 ms, THERMTRIP_N is driven low, FATAL 0x0204 raised and the vault dumped. -/
  | thermalTrip (sensor : Nat) (temp : Nat)
  /-- AVS_TRIM (R399): At most once per 1 ms the VDD_CORE setpoint is trimmed over AVSBus, three failures raising 0x0201. -/
  | avsTrim (ok : Bool) (up : Bool)
  /-- TIME_ADJ_PPB_WRITE (R405): TIME_ADJ_PPB sets the rate offset of controller time at once. -/
  | timeAdjPpbWrite (p : Path) (v : Nat)
  /-- TIME_SLEW_NS_WRITE (R405): TIME_SLEW_NS adds a phase correction applied at 500 ppm. -/
  | timeSlewNsWrite (p : Path) (v : Nat)
  /-- TIME_STEP (R405): A write of TIME_STEP_HI steps controller time while not disciplined, refused otherwise. -/
  | timeStep (p : Path) (hi : Nat)
  /-- SET_DISCIPLINED (R405): TIME_CMD SET_DISCIPLINED marks controller time disciplined. -/
  | setDisciplined (p : Path)
  /-- CLEAR_DISCIPLINED (R405): TIME_CMD CLEAR_DISCIPLINED clears discipline and re-allows steps. -/
  | clearDisciplined (p : Path)
  /-- ASSEMBLY_WAIT_EXPIRE (R410): ASSEMBLY_WAIT_S after release the member set is taken from the labels and replay begins. -/
  | assemblyWaitExpire
  /-- STARTUP_POWERFAIL_RECOVER (R411): After a start-up power failure, PWRFAIL_N high for 100 ms triggers a warm reset. -/
  | startupPowerfailRecover
  /-- WDT_KICK (R412): A write of WDT_KICK restarts the watchdog. -/
  | wdtKick (p : Path)
  /-- WATCHDOG_EXPIRE (R412): A missed kick raises FATAL 0x0403 and performs a warm reset. -/
  | watchdogExpire
  /-- FATAL_RESET_TIMER (R412): 100 ms after a FATAL's dump or the FATAL, with FATAL_RESET set, a warm reset is performed. -/
  | fatalResetTimer
  /-- EVENT_TOKEN_TICK (R420): At each multiple of 1/EVT_RATE every source's bucket gains a token up to EVT_BURST. -/
  | eventTokenTick
  /-- SUPPRESSION_REPORT (R420): One second after suppression starts, and each second after, event 0x0501 reports the count for the source. -/
  | suppressionReport (code : Nat) (inst : Nat)
  /-- EVENT_N_SPACING_END (R421): EVENTN_MIN_US after release, EVENT_N may be driven low again for pending records. -/
  | eventNSpacingEnd
  /-- MSIX_SPACING_END (R421): MSIX_MIN_NS after a vector's last message, a merged pending message is sent. -/
  | msixSpacingEnd (fn : Nat) (vec : Nat)
  /-- SNAPSHOT (R422): Every SNAP_MS the snapshot list is read at one instant and written as snapshot records. -/
  | snapshot
  /-- READ_REG (R424): Vendor command READ_REG returns window registers. -/
  | readReg (ifc : MgmtIf) (req : Nat) (off : Nat) (n : Nat)
  /-- WRITE_REG (R424): Vendor command WRITE_REG writes window registers when authorised. -/
  | writeReg (ifc : MgmtIf) (req : Nat) (off : Nat) (data : List Nat)
  /-- PLAT_DATA (R424): Vendor command PLAT_DATA writes plat bytes in order into the staged plat slot. -/
  | platData (ifc : MgmtIf) (req : Nat) (off : Nat) (data : List Nat) (norOk : Bool)
  /-- PLAT_END (R424): Vendor command PLAT_END completes a plat delivery of the stated length. -/
  | platEnd (ifc : MgmtIf) (req : Nat) (len : Nat)
  /-- EVENT_READ (R424): Vendor command EVENT_READ returns event records and advances the queue head. -/
  | eventRead (ifc : MgmtIf) (req : Nat) (q : Nat) (n : Nat)
  /-- SM_HEARTBEAT (R425): A write of SM_HEARTBEAT restarts the shelf-manager heartbeat. -/
  | smHeartbeat (p : Path)
  /-- SM_HEARTBEAT_MISS (R425): SM_HB_S passes without a heartbeat and event 0x6004 is raised. -/
  | smHeartbeatMiss
  /-- PMBUS_POLL (R423): Every 10 ms the regulator's current, temperature and status are read, a fault raising 0x6002. -/
  | pmbusPoll (ok : Bool) (amps : Nat) (status : Nat)
  /-- MGMT_PORT_LINK_CHANGE (R423): The management port link goes up or down and event 0x6003 is raised. -/
  | mgmtPortLinkChange (up : Bool)
  /-- TR_HEAD_WRITE (R422): A write of TR_HEAD moves a telemetry ring's consumer index. -/
  | trHeadWrite (p : Path) (v : Nat)
  /-- Q_HEAD_WRITE (R459): A write of Q_HEAD moves an event queue's consumer index when within range. -/
  | qHeadWrite (p : Path) (v : Nat)
  /-- EVT_FORCE (R448): Writing 1 to an EVT_FORCE bit raises that event with detail 0xFF and none of its actions. -/
  | evtForce (p : Path) (page : Nat) (mask : Nat)
  /-- LO_READ_LATCH (R453): Reading a _LO register latches its _HI half in the reading path's latch. -/
  | loReadLatch (p : Path) (page : Nat) (off : Nat)
  /-- CAD_ENTRY_READ (R454): Reading CAD_ENTRY[0] returns the selected entry's first dword and latches the other three. -/
  | cadEntryRead (p : Path)
  /-- EP_PERST_N_RELEASE (R286): Release of EP_PERST_N lets the endpoint block leave reset and start link training, t0 of the readiness table. -/
  | epPerstNRelease
  /-- HOST_READ_COMPLETION (R288): A PCIe completion arrives for a read the controller issued to host memory (submission entry, PRP/SGL list, descriptor, fragment table or write data) and its data is used. -/
  | hostReadCompletion (tag : Nat) (data : HostData)
  /-- NVME_DOORBELL (R282): A host write of an NVMe submission-queue tail or completion-queue head doorbell in BAR2 makes entries available for fetch or frees completion slots. -/
  | nvmeDoorbell (fn : Nat) (queue : Nat) (completion : Bool) (v : Nat)
  /-- IDE_KM (R285): Host software keys the Link IDE stream through IDE_KM in a secured SPDM session, making it Secure so that service returns. -/
  | ideKm (secured : Bool)
  /-- DRIVE_READY (R310): The drive sets CSTS.RDY within the allowed time, and the port goes on to its checks, queue creation and label read towards READY. -/
  | driveReady (n : Nat) (d : DriveFacts)
  /-- SIDEBAND_EDGE (R319): A raw level change on a sideband input restarts its 16 ms debounce window. -/
  | sidebandEdge (bay : Nat) (input : Nat) (low : Bool)
  /-- CHANGEOVER_COMPLETE (R330): The newly turned-on gate is enhanced by 9 V, the changeover ends, the power-good hold is released and event 0x4806 or 0x4807 is raised. -/
  | changeoverComplete (bay : Nat)
  /-- RETURN_TO_A_TIMEOUT (R331): V_GS of feed A has not risen above 1 V within 50 µs of B's gate-off during a return, and controller 1 turns B on again. -/
  | returnToATimeout (bay : Nat)
  /-- RESET_HOLD_EXPIRE (R407): TDUMP_MAX_US + 5 ms after a held SYS_RST_N request, the cold reset proceeds even though the vault header is not COMPLETE. -/
  | resetHoldExpire
  /-- RNR_TIMER_EXPIRE (R180): After a host's RNR NAK to a controller request, the RNR timer expires and the request is resent, or the QP enters ERROR when its RNR retry count is exhausted. -/
  | rnrTimerExpire (qp : Nat)
  /-- ASYNCHRONOUS_EVENT_REQUEST (R345): A host's Asynchronous Event Request is held until an ANA change or Namespace Attribute Changed notice completes it. -/
  | asynchronousEventRequest (q : Nat) (cid : Nat)
  /-- MCTP_EID_ASSIGN (R423): The bus owner assigns the management target's MCTP EID through MCTP control, and MCTP_EID reports it. -/
  | mctpEidAssign (eid : Nat)
deriving DecidableEq, Repr

end Sys2Proof
end

