-- ==== Sys2Proof/WellFormed.lean ====
section
/-!
DEFINITION. WellFormed.lean: the range of every operand a command's encoding or index space bounds: bays, ports,
pages, identifiers and the widths of a host's or a packet's fields.

An operand that carries an arbitrary quantity (a block's contents, a time, a tag of the block's own) has no bound
here.  `exec` does not ask for well-formedness: a command that names something that does not exist has the effect its
rule gives, or none.
-/
namespace Sys2Proof

/-- Whether every operand of a command lies in its range. -/
def wellFormed (i : Instr) : Bool :=
  match i with
  | .chipletLinkFail => true
  | .hbmStackFault stack => decide (stack < 2)
  | .engineRuntimeFail _ _ => true
  | .lockstepDisagree => true
  | .refclkOutOfTolerance ref _ => decide (ref < 5)
  | .refclkRestored ref => decide (ref < 5)
  | .crystalFail => true
  | .connect _ cid _ subsys station cntlid qid _ kato => decide (cid < 2 ^ 16) && decide (subsys < 2 ^ 16) && decide (station < 1024) && decide (cntlid < 2 ^ 16) && decide (qid < 2 ^ 16) && decide (kato < 2 ^ 32)
  | .keepAlive cntlid cid => decide (cntlid < 2 ^ 16) && decide (cid < 2 ^ 16)
  | .keepAliveExpire cntlid => decide (cntlid < 2 ^ 16)
  | .namespaceCreate q cid nsze ncap flbas _ vendor => decide (q < 2 ^ 33) && decide (cid < 2 ^ 16) && decide (nsze < 2 ^ 64) && decide (ncap < 2 ^ 64) && decide (flbas < 256) && vendor.all (fun b => decide (b < 256))
  | .namespaceActive slot => decide (slot < 16384)
  | .namespaceDelete q cid nsid => decide (q < 2 ^ 33) && decide (cid < 2 ^ 16) && decide (nsid < 2 ^ 32)
  | .namespaceDeleteComplete slot => decide (slot < 16384)
  | .parcelReleased _ => true
  | .namespaceAttach q cid nsid cntlids => decide (q < 2 ^ 33) && decide (cid < 2 ^ 16) && decide (nsid < 2 ^ 32) && cntlids.all (fun b => decide (b < 2 ^ 16))
  | .namespaceDetach q cid nsid cntlids => decide (q < 2 ^ 33) && decide (cid < 2 ^ 16) && decide (nsid < 2 ^ 32) && cntlids.all (fun b => decide (b < 2 ^ 16))
  | .identify q cid cns nsid => decide (q < 2 ^ 33) && decide (cid < 2 ^ 16) && decide (cns < 256) && decide (nsid < 2 ^ 32)
  | .read q cid nsid opc fuse slba nlb => decide (q < 2 ^ 33) && decide (cid < 2 ^ 16) && decide (nsid < 2 ^ 32) && decide (opc < 256) && decide (fuse < 4) && decide (slba < 2 ^ 64) && decide (nlb < 2 ^ 16)
  | .write q cid nsid fuse slba nlb => decide (q < 2 ^ 33) && decide (cid < 2 ^ 16) && decide (nsid < 2 ^ 32) && decide (fuse < 4) && decide (slba < 2 ^ 64) && decide (nlb < 2 ^ 16)
  | .writeZeroes q cid nsid slba nlb => decide (q < 2 ^ 33) && decide (cid < 2 ^ 16) && decide (nsid < 2 ^ 32) && decide (slba < 2 ^ 64) && decide (nlb < 2 ^ 16)
  | .datasetManagement q cid nsid _ _ => decide (q < 2 ^ 33) && decide (cid < 2 ^ 16) && decide (nsid < 2 ^ 32)
  | .flush q cid nsid => decide (q < 2 ^ 33) && decide (cid < 2 ^ 16) && decide (nsid < 2 ^ 32)
  | .reservationRegister q cid nsid action cur new _ => decide (q < 2 ^ 33) && decide (cid < 2 ^ 16) && decide (nsid < 2 ^ 32) && decide (action < 8) && decide (cur < 2 ^ 64) && decide (new < 2 ^ 64)
  | .reservationAcquire q cid nsid action cur pre rtype _ => decide (q < 2 ^ 33) && decide (cid < 2 ^ 16) && decide (nsid < 2 ^ 32) && decide (action < 8) && decide (cur < 2 ^ 64) && decide (pre < 2 ^ 64) && decide (rtype < 256)
  | .reservationRelease q cid nsid action cur rtype _ => decide (q < 2 ^ 33) && decide (cid < 2 ^ 16) && decide (nsid < 2 ^ 32) && decide (action < 8) && decide (cur < 2 ^ 64) && decide (rtype < 256)
  | .reservationReport q cid nsid => decide (q < 2 ^ 33) && decide (cid < 2 ^ 16) && decide (nsid < 2 ^ 32)
  | .stakeConditionedWrite q cid nsid fuse slba nlb stake => decide (q < 2 ^ 33) && decide (cid < 2 ^ 16) && decide (nsid < 2 ^ 32) && decide (fuse < 4) && decide (slba < 2 ^ 64) && decide (nlb < 2 ^ 16) && decide (stake < 2 ^ 64)
  | .contextFreed => true
  | .writeBlockPlaced _ _ _ => true
  | .writerTakeEffect _ => true
  | .writerFail _ _ => true
  | .gatherAgeExpire slot _ _ => decide (slot < 16384)
  | .flushStart => true
  | .journalRecordWritten slot _ _ => decide (slot < 16384)
  | .flushStripsDone slot _ _ => decide (slot < 16384)
  | .memoryError _ slot _ => decide (slot < 16384)
  | .pwrfailNFall => true
  | .pwrfailGlitch => true
  | .powerFailureAccept => true
  | .feedMonitorFail => true
  | .serdesOffTimer => true
  | .vaultHeaderWriting => true
  | .vaultDumpComplete => true
  | .postDumpResetTimer => true
  | .vaultReplay _ _ _ _ _ _ _ _ => true
  | .driveReadComplete _ _ => true
  | .driveWriteComplete _ _ => true
  | .deadlineExpire _ => true
  | .parityJobDone _ => true
  | .sequencerFail _ => true
  | .cadastrePersistTimer _ => true
  | .formatStripe slot _ => decide (slot < 16384)
  | .layoutStatus q cid nsid => decide (q < 2 ^ 33) && decide (cid < 2 ^ 16) && decide (nsid < 2 ^ 32)
  | .memberDepart bay _ _ => decide (bay < 24)
  | .rehomeDone bay => decide (bay < 24)
  | .homeCopyRelocate _ => true
  | .returnWaitExpire bay => decide (bay < 24)
  | .heldRowReplan slot _ _ => decide (slot < 16384)
  | .memberFail _ => true
  | .memberAdmit _ => true
  | .resyncFull _ => true
  | .rebuildStripe _ => true
  | .lossMap q cid nsid => decide (q < 2 ^ 33) && decide (cid < 2 ^ 16) && decide (nsid < 2 ^ 32)
  | .fillParcel bay _ => decide (bay < 24)
  | .scrubStripe _ => true
  | .reshapeStart _ => true
  | .reshapeSuspend _ => true
  | .reshapeResume _ => true
  | .setForm _ => true
  | .moverStripe _ => true
  | .traverse q cid nsid _ ndesc _ fuse => decide (q < 2 ^ 33) && decide (cid < 2 ^ 16) && decide (nsid < 2 ^ 32) && decide (ndesc < 2 ^ 16) && decide (fuse < 4)
  | .traverseTableCheck _ _ => true
  | .traverseStaged _ => true
  | .traverseStageTimeout _ => true
  | .xstampTimeout _ => true
  | .traverseCheck _ _ => true
  | .traverseClosure _ => true
  | .traverseLookup _ v => decide (v < 2 ^ 32)
  | .send qp _ _ => decide (qp < 2 ^ 18)
  | .rdmaWrite qp _ va rkey _ _ => decide (qp < 2 ^ 18) && decide (va < 2 ^ 64) && decide (rkey < 2 ^ 32)
  | .rdmaReadRequest qp _ va rkey _ => decide (qp < 2 ^ 18) && decide (va < 2 ^ 64) && decide (rkey < 2 ^ 32)
  | .fetchAdd qp _ va rkey add => decide (qp < 2 ^ 18) && decide (va < 2 ^ 64) && decide (rkey < 2 ^ 32) && decide (add < 2 ^ 64)
  | .compareSwap qp _ va rkey swap compare => decide (qp < 2 ^ 18) && decide (va < 2 ^ 64) && decide (rkey < 2 ^ 32) && decide (swap < 2 ^ 64) && decide (compare < 2 ^ 64)
  | .compareSwap16 qp _ va rkey swap compare => decide (qp < 2 ^ 18) && decide (va < 2 ^ 64) && decide (rkey < 2 ^ 32) && decide (swap < 2 ^ 128) && decide (compare < 2 ^ 128)
  | .acknowledge qp psn _ _ => decide (qp < 2 ^ 18) && decide (psn < 2 ^ 24)
  | .rdmaReadResponse qp _ _ => decide (qp < 2 ^ 18)
  | .cnp qp _ => decide (qp < 2 ^ 18)
  | .rcTimer qp => decide (qp < 2 ^ 18)
  | .pathPenaltyEnd qp _ => decide (qp < 2 ^ 18)
  | .ackDelayExpire qp => decide (qp < 2 ^ 18)
  | .sprayRtoExpire qp psn => decide (qp < 2 ^ 18) && decide (psn < 2 ^ 24)
  | .ackTimeout qp => decide (qp < 2 ^ 18)
  | .cmReq _ => true
  | .cmRtu qp => decide (qp < 2 ^ 18)
  | .cmDreq qp => decide (qp < 2 ^ 18)
  | .cmDrep qp => decide (qp < 2 ^ 18)
  | .cmResponseTimeout qp => decide (qp < 2 ^ 18)
  | .qpErrorTimeout qp => decide (qp < 2 ^ 18)
  | .qpQuietEnd qp => decide (qp < 2 ^ 18)
  | .icreq station _ _ _ => decide (station < 1024)
  | .capsulecmd _ _ _ => true
  | .h2cdata _ cid _ _ _ => decide (cid < 2 ^ 16)
  | .h2ctermreq _ => true
  | .bind q cid nsid _ _ win _ slba _ => decide (q < 2 ^ 33) && decide (cid < 2 ^ 16) && decide (nsid < 2 ^ 32) && decide (win < 4096) && decide (slba < 2 ^ 64)
  | .bindComplete win => decide (win < 4096)
  | .unbind q cid win => decide (q < 2 ^ 33) && decide (cid < 2 ^ 16) && decide (win < 4096)
  | .unbindComplete win => decide (win < 4096)
  | .keyCreate q cid _ _ win _ _ => decide (q < 2 ^ 33) && decide (cid < 2 ^ 16) && decide (win < 4096)
  | .keyRevoke q cid rkey => decide (q < 2 ^ 33) && decide (cid < 2 ^ 16) && decide (rkey < 2 ^ 32)
  | .keyCmdRevoke _ v => decide (v < 2 ^ 32)
  | .winCmdUnbind _ v => decide (v < 2 ^ 32)
  | .revokeDrain _ _ => true
  | .revokeTimeout _ => true
  | .faultComplete win page => decide (win < 4096) && decide (page < 2 ^ 40)
  | .windowWritebackAge win _ => decide (win < 4096)
  | .stallBudgetExpire qp psn => decide (qp < 2 ^ 18) && decide (psn < 2 ^ 24)
  | .chainWaitTimeout _ => true
  | .frameReceived port _ bytes _ _ => decide (port < 64) && bytes.all (fun b => decide (b < 256))
  | .pfcXoffRefresh port prio => decide (port < 64) && decide (prio < 8)
  | .frameTransmitted port _ => decide (port < 64)
  | .pfcFrameReceived port _ quanta => decide (port < 64) && quanta.all (fun b => decide (b < 2 ^ 16))
  | .pfcPauseExpire port prio => decide (port < 64) && decide (prio < 8)
  | .pfcWatchdogExpire port prio => decide (port < 64) && decide (prio < 8)
  | .netLinkChange port _ => decide (port < 64)
  | .eopNop e => decide (e < 64)
  | .eopExt e _ _ _ _ => decide (e < 64)
  | .eopMovi e _ _ => decide (e < 64)
  | .eopAdd e _ _ _ => decide (e < 64)
  | .eopAddw e _ _ => decide (e < 64)
  | .eopSub e _ _ _ => decide (e < 64)
  | .eopAnd e _ _ _ => decide (e < 64)
  | .eopOr e _ _ _ => decide (e < 64)
  | .eopShl e _ _ _ => decide (e < 64)
  | .eopShr e _ _ _ => decide (e < 64)
  | .eopMb e _ _ _ _ _ _ => decide (e < 64)
  | .eopMbn e _ _ _ _ _ _ => decide (e < 64)
  | .eopBeq e _ _ _ => decide (e < 64)
  | .eopBne e _ _ _ => decide (e < 64)
  | .eopBlt e _ _ _ => decide (e < 64)
  | .eopJmp e _ => decide (e < 64)
  | .eopJtab e _ _ _ => decide (e < 64)
  | .eopAdv e _ => decide (e < 64)
  | .eopAdvw e _ _ => decide (e < 64)
  | .eopMark e _ _ _ => decide (e < 64)
  | .eopKey e _ _ len dst => decide (e < 64) && decide (len < 256) && decide (dst < 256)
  | .eopKeyw e _ dst => decide (e < 64) && decide (dst < 256)
  | .eopHash e _ _ len => decide (e < 64) && decide (len < 256)
  | .eopHashw e _ => decide (e < 64)
  | .eopLook e _ _ => decide (e < 64)
  | .eopAct e => decide (e < 64)
  | .classifierLookupDone e => decide (e < 64)
  | .eopSetf e _ _ => decide (e < 64)
  | .eopSetw e _ _ => decide (e < 64)
  | .eopEmit e => decide (e < 64)
  | .eopTrap e _ => decide (e < 64)
  | .eopinCycleLimit e => decide (e < 64)
  | .flowInsert _ => true
  | .flowDelete _ => true
  | .flowReplace _ => true
  | .flowLookup _ => true
  | .ruleWrite _ => true
  | .ruleInvalidate _ => true
  | .ruleRead _ => true
  | .fragmentReceived _ proto port _ prio _ => decide (proto < 256) && decide (port < 64) && decide (prio < 8)
  | .fragTimeout _ => true
  | .txtsHiRead _ g => decide (g < 8)
  | .laneReseed _ _ _ => true
  | .drbgReseed _ => true
  | .entropyHealthFail => true
  | .entropyRetest _ => true
  | .saInstall _ => true
  | .saDelete _ => true
  | .saRead _ => true
  | .ksRoll _ => true
  | .escRead _ => true
  | .ksImport _ => true
  | .rekeySweepStripe _ => true
  | .epPerstNAssert => true
  | .epLinkDown => true
  | .epLinkUp width _ _ => decide (width < 17)
  | .flr fn => decide (fn < 256)
  | .flrComplete fn => decide (fn < 256)
  | .busMasterClear fn _ => decide (fn < 256)
  | .busMasterSet fn _ => decide (fn < 256)
  | .vfEnable _ num => decide (num < 256)
  | .ideCheckFail => true
  | .ccEn fn _ subsys => decide (fn < 256) && decide (subsys < 2 ^ 16)
  | .epCompletionTimeout _ _ => true
  | .epTagQuarantineEnd _ => true
  | .epLateCompletion _ => true
  | .epIdle => true
  | .db fn _ _ => decide (fn < 256)
  | .push fn _ _ _ => decide (fn < 256)
  | .ringCtlWrite fn _ off _ => decide (fn < 256) && decide (off < 2 ^ 24)
  | .drain fn _ => decide (fn < 256)
  | .pause fn _ => decide (fn < 256)
  | .ringResume fn _ => decide (fn < 256)
  | .invalidate fn _ => decide (fn < 256)
  | .ringGrant _ => true
  | .ringNop _ => true
  | .nvmeIo _ _ => true
  | .nvmeAdmin _ => true
  | .mgmt _ _ => true
  | .winRead _ => true
  | .winWrite _ _ => true
  | .winFadd _ => true
  | .winCas8 _ => true
  | .winCas16 _ => true
  | .chainWait _ => true
  | .coalDelayExpire _ => true
  | .perstDelayExpire n => decide (n < 24)
  | .rpTrainingTimeout n => decide (n < 24)
  | .rpLinkUp n width _ _ => decide (n < 24) && decide (width < 17)
  | .driveReadyTimeout n => decide (n < 24)
  | .driveFormatComplete n => decide (n < 24)
  | .rpCommandTimeout n _ _ _ => decide (n < 24)
  | .rpTagQuarantineEnd n _ => decide (n < 24)
  | .rpLateCompletion n _ => decide (n < 24)
  | .rpLateData n _ => decide (n < 24)
  | .rpContain n code => decide (n < 24) && decide (code < 2 ^ 16)
  | .rpContainEnd n => decide (n < 24)
  | .rpLinkLoss n _ => decide (n < 24)
  | .rpIdle n => decide (n < 24)
  | .sidebandLevelAccept bay _ => decide (bay < 24)
  | .longPress bay => decide (bay < 24)
  | .quarantineClear _ _ v => decide (v < 2 ^ 32)
  | .ledRefresh => true
  | .insertionDelayEnd bay => decide (bay < 24)
  | .bayStart => true
  | .bayFaultTimerExpire bay => decide (bay < 24)
  | .bayFastTrip bay => decide (bay < 24)
  | .bayPowerGood bay => decide (bay < 24)
  | .bayPowerGoodLost bay => decide (bay < 24)
  | .bayRetryWaitEnd bay => decide (bay < 24)
  | .bayRetriesReset bay => decide (bay < 24)
  | .feedBad bay _ => decide (bay < 24)
  | .feedGood bay _ => decide (bay < 24)
  | .feedReturn bay => decide (bay < 24)
  | .gateTurnoffFail bay => decide (bay < 24)
  | .bothGates bay => decide (bay < 24)
  | .feedAGateLost bay => decide (bay < 24)
  | .bayOff _ bay => decide (bay < 24)
  | .bayOn _ bay => decide (bay < 24)
  | .bayClear _ bay => decide (bay < 24)
  | .bayCycle _ bay => decide (bay < 24)
  | .cycleOffTimeEnd bay => decide (bay < 24)
  | .zeberRetrain lane => decide (lane < 32)
  | .zeberTrained locked => decide (locked < 2 ^ 32)
  | .zeberFlitReceived _ _ _ _ _ _ => true
  | .zeberNak _ => true
  | .zeberReplayTimeout => true
  | .hello ctrl _ _ _ _ _ => decide (ctrl < 2)
  | .pairRange _ _ _ _ _ _ _ => true
  | .rangeSendTimer => true
  | .stopping _ => true
  | .mirrorPut _ slot _ _ _ _ => decide (slot < 16384)
  | .mirrorAck _ => true
  | .journalPut _ _ => true
  | .cleanNote _ _ => true
  | .lease _ slot _ => decide (slot < 16384)
  | .statePut _ _ => true
  | .fwdCmd _ => true
  | .fwdData _ _ _ => true
  | .fwdCpl _ _ sct sc _ dw0 dw1 => decide (sct < 8) && decide (sc < 256) && decide (dw0 < 2 ^ 32) && decide (dw1 < 2 ^ 32)
  | .stripReq _ => true
  | .stripRsp _ _ _ => true
  | .xstampReq _ _ _ slots _ => slots.all (fun b => decide (b < 16384))
  | .xstampRsp _ _ _ => true
  | .pairRecord _ _ _ => true
  | .recordAck _ => true
  | .moveState _ => true
  | .pairFrame _ port prio bytes _ => decide (port < 64) && decide (prio < 8) && bytes.all (fun b => decide (b < 256))
  | .pairSession _ _ reply => reply.all (fun b => decide (b < 256))
  | .resyncPut _ => true
  | .resyncDone _ => true
  | .pairSenseTimeout _ => true
  | .pairSenseEdge => true
  | .rangingTimeout => true
  | .arbDelayEnd => true
  | .preemptionDone _ => true
  | .seekingTimeout => true
  | .quietIntervalEnd _ => true
  | .pairMove _ v => decide (v < 2 ^ 32)
  | .moveDrained => true
  | .moveHoldExpire q => decide (q < 2 ^ 33)
  | .fieldBookEntryWritten _ _ _ => true
  | .bootConfirm _ => true
  | .svnAdvance _ => true
  | .activate _ => true
  | .activationComponentDone _ => true
  | .debugUnlock _ _ _ _ _ => true
  | .fieldBookExport q cid _ _ => decide (q < 2 ^ 33) && decide (cid < 2 ^ 16)
  | .getMeasurements _ req _ => decide (req < 2 ^ 16)
  | .challenge _ req _ => decide (req < 2 ^ 16)
  | .keyExchange _ req _ => decide (req < 2 ^ 16)
  | .keyUpdate _ req => decide (req < 2 ^ 16)
  | .setCertificate _ req _ => decide (req < 2 ^ 16)
  | .ownerEnrol req _ => decide (req < 2 ^ 16)
  | .ownerRotate req _ _ => decide (req < 2 ^ 16)
  | .escrowKeyInstall req _ => decide (req < 2 ^ 16)
  | .fieldBookEntryVendorGet _ req _ => decide (req < 2 ^ 16)
  | .datumCommit _ => true
  | .datumClosure _ => true
  | .quiesceRetry => true
  | .datumConfirm _ => true
  | .confirmExpire => true
  | .datumRevert _ => true
  | .datumDiscard _ => true
  | .datumSeal _ => true
  | .datumLoad _ => true
  | .loadDone => true
  | .registerWrite _ page off be v => decide (page < 256) && decide (off < 65536) && decide (be < 16) && decide (v < 2 ^ 32)
  | .coldReset _ => true
  | .sysPwrokFall => true
  | .vddPcRise _ => true
  | .sysRstN => true
  | .rstCold _ => true
  | .rstWarm _ => true
  | .rstShutdown _ => true
  | .shutdownFlushed => true
  | .sdTimeout => true
  | .rstBlock _ => true
  | .railFault rail _ => decide (rail < 32)
  | .thermalWarning sensor _ => decide (sensor < 64)
  | .thermalTrip sensor _ => decide (sensor < 64)
  | .avsTrim _ _ => true
  | .timeAdjPpbWrite _ v => decide (v < 2 ^ 32)
  | .timeSlewNsWrite _ v => decide (v < 2 ^ 32)
  | .timeStep _ hi => decide (hi < 2 ^ 32)
  | .setDisciplined _ => true
  | .clearDisciplined _ => true
  | .assemblyWaitExpire => true
  | .startupPowerfailRecover => true
  | .wdtKick _ => true
  | .watchdogExpire => true
  | .fatalResetTimer => true
  | .eventTokenTick => true
  | .suppressionReport code inst => decide (code < 2 ^ 16) && decide (inst < 2 ^ 16)
  | .eventNSpacingEnd => true
  | .msixSpacingEnd fn vec => decide (fn < 256) && decide (vec < 4096)
  | .snapshot => true
  | .readReg _ req off _ => decide (req < 2 ^ 16) && decide (off < 2 ^ 24)
  | .writeReg _ req off data => decide (req < 2 ^ 16) && decide (off < 2 ^ 24) && data.all (fun b => decide (b < 256))
  | .platData _ req off data _ => decide (req < 2 ^ 16) && decide (off < 2 ^ 24) && data.all (fun b => decide (b < 256))
  | .platEnd _ req _ => decide (req < 2 ^ 16)
  | .eventRead _ req q _ => decide (req < 2 ^ 16) && decide (q < 2 ^ 33)
  | .smHeartbeat _ => true
  | .smHeartbeatMiss => true
  | .pmbusPoll _ _ _ => true
  | .mgmtPortLinkChange _ => true
  | .trHeadWrite _ v => decide (v < 2 ^ 32)
  | .qHeadWrite _ v => decide (v < 2 ^ 32)
  | .evtForce _ page mask => decide (page < 256) && decide (mask < 2 ^ 32)
  | .loReadLatch _ page off => decide (page < 256) && decide (off < 65536)
  | .cadEntryRead _ => true
  | .epPerstNRelease => true
  | .hostReadCompletion _ _ => true
  | .nvmeDoorbell fn _ _ _ => decide (fn < 256)
  | .ideKm _ => true
  | .driveReady n _ => decide (n < 24)
  | .sidebandEdge bay _ _ => decide (bay < 24)
  | .changeoverComplete bay => decide (bay < 24)
  | .returnToATimeout bay => decide (bay < 24)
  | .resetHoldExpire => true
  | .rnrTimerExpire qp => decide (qp < 2 ^ 18)
  | .asynchronousEventRequest q cid => decide (q < 2 ^ 33) && decide (cid < 2 ^ 16)
  | .mctpEidAssign eid => decide (eid < 256)

/-- A well-formed command. -/
abbrev WellFormed (i : Instr) : Prop := wellFormed i = true

end Sys2Proof
end

