-- ==== Sys2Proof/Config.lean ====
section
/-!
DEFINITION. Config.lean: what one part or its environment fixes and the spec leaves open. Every constant
here is opaque: nothing in Lean can evaluate it, so a claim that holds of the model holds whatever it is.
-/
namespace Sys2Proof.Config

/-- A value the spec leaves open, fresh at each draw: the argument is the state's own draw counter
(assumption 1). Also the DRBG's output (R256). -/
opaque freeValue : Nat → Nat

/-- SHA-384 of a list of bytes or fields (R373, R374). -/
opaque sha384 : List Nat → Nat

/-- Whether the ECDSA P-384 and ML-DSA-87 signatures of R367 over these bytes both verify under an
unrevoked key of the class given (0 vendor, 1 owner). -/
opaque signaturesVerify : List Nat → Nat → Bool

/-- The 64-bit fuse `SERIAL` (R363). -/
opaque serialFuse : Nat

/-- The fused `VDD_CORE` setpoint above 700 mV, before reduction to the range of R399. -/
opaque coreMvFuseRaw : Nat

/-- The fused `VDD_CORE` setpoint, 700 to 800 mV (R399). -/
def coreMvFused : Nat := 700 + coreMvFuseRaw % 101

/-- Word `i` of the Toeplitz key as drawn at manufacture (`CLASS.HASH_KEY`, reset "drawn"). -/
opaque hashKeyDrawn : Nat → Nat

/-- AES-256-GCM tag of a block: key, initialisation vector, additional data, plaintext (R252, R271). -/
opaque gcmTag : Nat → List Nat → List Nat → List Nat → Nat

/-- The AES-256-GCM key stream of a key and initialisation vector (R276), as a number. -/
opaque gcmStream : Nat → Nat → Nat

/-- HKDF-SHA-384 of a secret and an info string (R365). -/
opaque hkdf : Nat → List Nat → Nat

/-- The two hashes of a flow key's 17 bytes that choose its buckets (R239): which, key, profile. -/
opaque flowHash : Nat → Nat → Nat → Nat

/-- The Toeplitz key window past the end of the 40 key bytes (R242 states none): the key, the bit position. -/
opaque toeplitzPast : Nat → Nat → Nat

/-- Instruction words of a verified Eopin image (R237): its measured digest and the instruction index. -/
opaque eopinWord : Nat → Nat → Nat

end Sys2Proof.Config
end

