-- ==== Sys2Proof/Machine/RegMap.lean ====
section
/-!
DEFINITION. Machine/RegMap.lean: the register map of every page of the management window, written out
from the register tables of spec/02 to spec/19 (the Offset, Access and Reset columns; the ranges of the
Summary column and of the field tables as checks; the selector ranges each page's text states).
R443, R445, R446 and R450 say how the rows are read.
-/
namespace Sys2Proof.Machine

/-- The access types of R450; `sel` is an RW selector, of which every path has its own copy (R444). -/
inductive Acc where
  | ro | rw | sel | rw1c | wo | rws | rwd | rwl
deriving DecidableEq, Repr

/-- A range check of a field: least significant bit, width, least and greatest value, whether 0 is
allowed besides. -/
structure FieldChk where
  lsb : Nat
  width : Nat
  lo : Nat
  hi : Nat
  zeroOk : Bool
deriving DecidableEq, Repr

/-- One register of a page. `sel` is the offset of the selector that indexes it (0: none), `pair` is 1 for
the low and 2 for the high half of a latched 64-bit value (R453). -/
structure RegRow where
  off : Nat
  acc : Acc
  rst : Nat
  mask : Nat
  sel : Nat
  pair : Nat
  chk : List FieldChk
deriving DecidableEq, Repr

/-- A register of the window: its page (instance included) and its offset. -/
structure RegId where
  page : Nat
  off : Nat
deriving DecidableEq, Repr

/-- The `TOP` rows: offset, access, reset, writable bits, selector, pair, checks. -/
def topRows : List RegRow := [
  ⟨0x100, .rwd, 0x7, 0x7, 0x0, 0, []⟩,
  ⟨0x104, .ro, 0x0, 0xFFFFFFFF, 0x0, 0, []⟩,
  ⟨0x108, .ro, 0xB01, 0xFFFFFFFF, 0x0, 0, []⟩,
  ⟨0x10C, .ro, 0x24481F3C, 0xFFFFFFFF, 0x0, 0, []⟩,
  ⟨0x110, .ro, 0x0, 0xFFFFFFFF, 0x0, 1, []⟩,
  ⟨0x114, .ro, 0x0, 0xFFFFFFFF, 0x0, 2, []⟩,
  ⟨0x118, .ro, 0x0, 0xFFFFFFFF, 0x0, 0, []⟩,
  ⟨0x11C, .ro, 0x0, 0xFFFFFFFF, 0x0, 0, []⟩,
  ⟨0x120, .ro, 0x0, 0xFFFFFFFF, 0x0, 0, []⟩,
  ⟨0x124, .ro, 0x0, 0xFFFFFFFF, 0x0, 0, []⟩,
  ⟨0x128, .ro, 0x0, 0xFFFFFFFF, 0x0, 0, []⟩,
  ⟨0x12C, .ro, 0x0, 0xFFFFFFFF, 0x0, 0, []⟩,
  ⟨0x130, .ro, 0x0, 0xFFFFFFFF, 0x0, 0, []⟩,
  ⟨0x134, .ro, 0x0, 0xFFFFFFFF, 0x0, 0, []⟩,
  ⟨0x138, .ro, 0x0, 0xFFFFFFFF, 0x0, 0, []⟩,
  ⟨0x13C, .ro, 0x0, 0xFFFFFFFF, 0x0, 0, []⟩,
  ⟨0x140, .ro, 0x0, 0xFFFFFFFF, 0x0, 0, []⟩,
  ⟨0x144, .ro, 0x0, 0xFFFFFFFF, 0x0, 0, []⟩,
  ⟨0x148, .ro, 0x0, 0xFFFFFFFF, 0x0, 0, []⟩]

/-- The `DATUM` rows: offset, access, reset, writable bits, selector, pair, checks. -/
def datumRows : List RegRow := [
  ⟨0x100, .rwl, 0x12C, 0xFFFFFFFF, 0x0, 0, [⟨0, 32, 5, 3600, false⟩]⟩,
  ⟨0x104, .ro, 0x0, 0xFFFFFFFF, 0x0, 0, []⟩,
  ⟨0x108, .ro, 0x0, 0xFFFFFFFF, 0x0, 1, []⟩,
  ⟨0x10C, .ro, 0x0, 0xFFFFFFFF, 0x0, 2, []⟩,
  ⟨0x110, .ro, 0x0, 0xFFFFFFFF, 0x0, 1, []⟩,
  ⟨0x114, .ro, 0x0, 0xFFFFFFFF, 0x0, 2, []⟩,
  ⟨0x118, .ro, 0x0, 0xFFFFFFFF, 0x0, 1, []⟩,
  ⟨0x11C, .ro, 0x0, 0xFFFFFFFF, 0x0, 2, []⟩,
  ⟨0x120, .wo, 0x0, 0xFFFFFFFF, 0x0, 0, []⟩,
  ⟨0x124, .ro, 0x0, 0xFFFFFFFF, 0x0, 0, []⟩,
  ⟨0x128, .ro, 0x0, 0xFFFFFFFF, 0x0, 0, []⟩,
  ⟨0x12C, .ro, 0x0, 0xFFFFFFFF, 0x0, 0, []⟩,
  ⟨0x130, .ro, 0x0, 0xFFFFFFFF, 0x0, 0, []⟩,
  ⟨0x134, .ro, 0x0, 0xFFFFFFFF, 0x0, 0, []⟩,
  ⟨0x138, .ro, 0x0, 0xFFFFFFFF, 0x0, 0, []⟩,
  ⟨0x13C, .ro, 0x0, 0xFFFFFFFF, 0x0, 0, []⟩,
  ⟨0x140, .ro, 0x0, 0xFFFFFFFF, 0x0, 0, []⟩,
  ⟨0x144, .ro, 0x0, 0xFFFFFFFF, 0x0, 0, []⟩,
  ⟨0x148, .ro, 0x0, 0xFFFFFFFF, 0x0, 0, []⟩,
  ⟨0x14C, .sel, 0x0, 0x3FFFFF, 0x0, 0, []⟩,
  ⟨0x150, .sel, 0x0, 0x3FFFFFF, 0x0, 0, []⟩,
  ⟨0x154, .ro, 0x0, 0xFFFFFFFF, 0x0, 0, []⟩,
  ⟨0x158, .ro, 0x0, 0xFFFFFFFF, 0x0, 0, []⟩,
  ⟨0x15C, .ro, 0x0, 0xFFFFFFFF, 0x0, 0, []⟩,
  ⟨0x160, .ro, 0x0, 0xFFFFFFFF, 0x0, 1, []⟩,
  ⟨0x164, .ro, 0x0, 0xFFFFFFFF, 0x0, 2, []⟩,
  ⟨0x168, .ro, 0x0, 0xFFFFFFFF, 0x0, 0, []⟩,
  ⟨0x16C, .ro, 0x0, 0xFFFFFFFF, 0x0, 0, []⟩,
  ⟨0x170, .ro, 0x0, 0xFFFFFFFF, 0x0, 0, []⟩,
  ⟨0x174, .ro, 0x0, 0xFFFFFFFF, 0x0, 0, []⟩]

/-- The `PWR` rows: offset, access, reset, writable bits, selector, pair, checks. -/
def pwrRows : List RegRow := [
  ⟨0x100, .rwd, 0x3, 0x3, 0x0, 0, []⟩,
  ⟨0x104, .ro, 0x0, 0xFFFFFFFF, 0x0, 0, []⟩,
  ⟨0x108, .ro, 0x0, 0xFFFFFFFF, 0x0, 1, []⟩,
  ⟨0x10C, .ro, 0x0, 0xFFFFFFFF, 0x0, 2, []⟩,
  ⟨0x110, .ro, 0x2EE, 0xFFFFFFFF, 0x0, 0, []⟩,
  ⟨0x114, .ro, 0x0, 0xFFFFFFFF, 0x0, 0, []⟩,
  ⟨0x118, .ro, 0x0, 0xFFFFFFFF, 0x0, 0, []⟩,
  ⟨0x11C, .sel, 0x0, 0x7, 0x0, 0, []⟩,
  ⟨0x120, .ro, 0x0, 0xFFFFFFFF, 0x11C, 0, []⟩,
  ⟨0x124, .ro, 0x0, 0xFFFFFFFF, 0x0, 0, []⟩,
  ⟨0x128, .ro, 0x0, 0xFFFFFFFF, 0x0, 0, []⟩,
  ⟨0x12C, .rwd, 0x64, 0xFFFFFFFF, 0x0, 0, [⟨0, 32, 80, 105, false⟩]⟩,
  ⟨0x130, .ro, 0x0, 0xFFFFFFFF, 0x0, 0, []⟩,
  ⟨0x134, .ro, 0x0, 0xFFFFFFFF, 0x0, 0, []⟩,
  ⟨0x138, .ro, 0x0, 0xFFFFFFFF, 0x0, 0, []⟩]

/-- The `CLK` rows: offset, access, reset, writable bits, selector, pair, checks. -/
def clkRows : List RegRow := [
  ⟨0x100, .ro, 0x0, 0xFFFFFFFF, 0x0, 0, []⟩,
  ⟨0x104, .ro, 0x0, 0xFFFFFFFF, 0x0, 0, []⟩,
  ⟨0x108, .sel, 0x0, 0x7, 0x0, 0, []⟩,
  ⟨0x10C, .ro, 0x0, 0xFFFFFFFF, 0x108, 0, []⟩,
  ⟨0x110, .ro, 0x0, 0xFFFFFFFF, 0x0, 1, []⟩,
  ⟨0x114, .ro, 0x0, 0xFFFFFFFF, 0x0, 2, []⟩,
  ⟨0x118, .rw, 0x0, 0xFFFFFFFF, 0x0, 0, []⟩,
  ⟨0x11C, .rw, 0x0, 0xFFFFFFFF, 0x0, 0, []⟩,
  ⟨0x120, .ro, 0x0, 0xFFFFFFFF, 0x0, 0, []⟩,
  ⟨0x124, .wo, 0x0, 0xFFFFFFFF, 0x0, 0, []⟩,
  ⟨0x128, .wo, 0x0, 0xFFFFFFFF, 0x0, 0, []⟩,
  ⟨0x12C, .wo, 0x0, 0xFFFFFFFF, 0x0, 0, []⟩,
  ⟨0x130, .ro, 0x0, 0xFFFFFFFF, 0x0, 0, []⟩,
  ⟨0x134, .ro, 0x0, 0xFFFFFFFF, 0x0, 0, []⟩]

/-- The `RST` rows: offset, access, reset, writable bits, selector, pair, checks. -/
def rstRows : List RegRow := [
  ⟨0x100, .rwd, 0x5, 0x7, 0x0, 0, []⟩,
  ⟨0x104, .ro, 0x0, 0xFFFFFFFF, 0x0, 0, []⟩,
  ⟨0x108, .wo, 0x0, 0xFFFFFFFF, 0x0, 0, []⟩,
  ⟨0x10C, .ro, 0x0, 0xFFFFFFFF, 0x0, 0, []⟩,
  ⟨0x110, .sel, 0x0, 0xFF, 0x0, 0, []⟩,
  ⟨0x114, .rwd, 0x7D0, 0xFFFFFFFF, 0x0, 0, [⟨0, 32, 100, 60000, false⟩]⟩,
  ⟨0x118, .wo, 0x0, 0xFFFFFFFF, 0x0, 0, []⟩,
  ⟨0x11C, .rwd, 0x1E, 0xFFFFFFFF, 0x0, 0, [⟨0, 32, 5, 600, false⟩]⟩,
  ⟨0x120, .rwd, 0x78, 0xFFFFFFFF, 0x0, 0, [⟨0, 32, 10, 3600, false⟩]⟩,
  ⟨0x124, .ro, 0x0, 0xFFFFFFFF, 0x0, 0, []⟩,
  ⟨0x128, .ro, 0x0, 0xFFFFFFFF, 0x0, 0, []⟩,
  ⟨0x12C, .ro, 0x0, 0xFFFFFFFF, 0x0, 0, []⟩,
  ⟨0x130, .ro, 0x0, 0xFFFFFFFF, 0x0, 0, []⟩,
  ⟨0x134, .rws, 0x0, 0xFFFF, 0x0, 0, []⟩,
  ⟨0x140, .rws, 0x0, 0xFFFFFFFF, 0x0, 0, []⟩,
  ⟨0x144, .rws, 0x0, 0xFFFFFFFF, 0x0, 0, []⟩,
  ⟨0x148, .rws, 0x0, 0xFFFFFFFF, 0x0, 0, []⟩,
  ⟨0x14C, .rws, 0x0, 0xFFFFFFFF, 0x0, 0, []⟩]

/-- The `EVT` rows: offset, access, reset, writable bits, selector, pair, checks. -/
def evtRows : List RegRow := [
  ⟨0x100, .rwd, 0x1, 0x1, 0x0, 0, []⟩,
  ⟨0x104, .ro, 0x0, 0xFFFFFFFF, 0x0, 0, []⟩,
  ⟨0x108, .ro, 0x0, 0xFFFFFFFF, 0x0, 0, []⟩,
  ⟨0x10C, .ro, 0x0, 0xFFFFFFFF, 0x0, 0, []⟩,
  ⟨0x110, .ro, 0x0, 0xFFFFFFFF, 0x0, 0, []⟩,
  ⟨0x114, .ro, 0x0, 0xFFFFFFFF, 0x0, 0, []⟩,
  ⟨0x118, .ro, 0x0, 0xFFFFFFFF, 0x0, 0, []⟩,
  ⟨0x11C, .ro, 0x0, 0xFFFFFFFF, 0x0, 0, []⟩,
  ⟨0x120, .sel, 0x0, 0x3F, 0x0, 0, []⟩,
  ⟨0x124, .rwd, 0x0, 0x3FFFFF, 0x120, 0, []⟩,
  ⟨0x128, .rwd, 0x0, 0xFFFFF000, 0x120, 1, []⟩,
  ⟨0x12C, .rwd, 0x0, 0xFFFFFFFF, 0x120, 2, []⟩,
  ⟨0x130, .rw, 0x0, 0x3FFF, 0x120, 0, []⟩,
  ⟨0x134, .ro, 0x0, 0xFFFFFFFF, 0x120, 0, []⟩,
  ⟨0x138, .ro, 0x0, 0xFFFFFFFF, 0x120, 0, []⟩,
  ⟨0x13C, .ro, 0x0, 0xFFFFFFFF, 0x120, 0, []⟩]

/-- The `TRUST` rows, part 1: offset, access, reset, writable bits, selector, pair, checks. -/
def trustRows1 : List RegRow := [
  ⟨0x100, .rwd, 0x3, 0x3, 0x0, 0, []⟩,
  ⟨0x104, .ro, 0x0, 0xFFFFFFFF, 0x0, 0, []⟩,
  ⟨0x108, .ro, 0x0, 0xFFFFFFFF, 0x0, 1, []⟩,
  ⟨0x10C, .ro, 0x0, 0xFFFFFFFF, 0x0, 2, []⟩,
  ⟨0x110, .ro, 0x0, 0xFFFFFFFF, 0x0, 1, []⟩,
  ⟨0x114, .ro, 0x0, 0xFFFFFFFF, 0x0, 2, []⟩,
  ⟨0x118, .ro, 0x0, 0xFFFFFFFF, 0x0, 1, []⟩,
  ⟨0x11C, .ro, 0x0, 0xFFFFFFFF, 0x0, 2, []⟩,
  ⟨0x120, .ro, 0x0, 0xFFFFFFFF, 0x0, 0, []⟩,
  ⟨0x124, .ro, 0x0, 0xFFFFFFFF, 0x0, 0, []⟩,
  ⟨0x128, .ro, 0x0, 0xFFFFFFFF, 0x0, 0, []⟩,
  ⟨0x12C, .ro, 0x3, 0xFFFFFFFF, 0x0, 0, []⟩,
  ⟨0x130, .wo, 0x0, 0xFFFFFFFF, 0x0, 0, []⟩,
  ⟨0x134, .rwd, 0x258, 0xFFFFFFFF, 0x0, 0, [⟨0, 32, 60, 3600, false⟩]⟩,
  ⟨0x138, .wo, 0x0, 0xFFFFFFFF, 0x0, 0, []⟩,
  ⟨0x13C, .ro, 0x0, 0xFFFFFFFF, 0x0, 0, []⟩,
  ⟨0x140, .sel, 0x0, 0x7, 0x0, 0, []⟩,
  ⟨0x144, .ro, 0x0, 0xFFFFFFFF, 0x140, 0, []⟩,
  ⟨0x148, .wo, 0x0, 0xFFFFFFFF, 0x0, 0, []⟩,
  ⟨0x14C, .ro, 0x0, 0xFFFFFFFF, 0x0, 0, []⟩,
  ⟨0x150, .ro, 0x0, 0xFFFFFFFF, 0x0, 0, []⟩,
  ⟨0x154, .ro, 0x0, 0xFFFFFFFF, 0x0, 0, []⟩,
  ⟨0x158, .ro, 0x0, 0xFFFFFFFF, 0x0, 0, []⟩,
  ⟨0x15C, .ro, 0x0, 0xFFFFFFFF, 0x0, 0, []⟩,
  ⟨0x160, .ro, 0x0, 0xFFFFFFFF, 0x0, 0, []⟩,
  ⟨0x164, .ro, 0x0, 0xFFFFFFFF, 0x0, 0, []⟩,
  ⟨0x168, .ro, 0x0, 0xFFFFFFFF, 0x0, 0, []⟩,
  ⟨0x16C, .ro, 0x0, 0xFFFFFFFF, 0x0, 0, []⟩,
  ⟨0x170, .ro, 0x0, 0xFFFFFFFF, 0x0, 0, []⟩,
  ⟨0x174, .sel, 0x1, 0xF, 0x0, 0, []⟩]

/-- The `TRUST` rows, part 2: offset, access, reset, writable bits, selector, pair, checks. -/
def trustRows2 : List RegRow := [
  ⟨0x178, .ro, 0x0, 0xFFFFFFFF, 0x174, 0, []⟩,
  ⟨0x17C, .ro, 0x0, 0xFFFFFFFF, 0x174, 0, []⟩,
  ⟨0x180, .ro, 0x0, 0xFFFFFFFF, 0x174, 0, []⟩,
  ⟨0x184, .ro, 0x0, 0xFFFFFFFF, 0x174, 0, []⟩,
  ⟨0x188, .ro, 0x0, 0xFFFFFFFF, 0x174, 0, []⟩,
  ⟨0x18C, .ro, 0x0, 0xFFFFFFFF, 0x174, 0, []⟩,
  ⟨0x190, .ro, 0x0, 0xFFFFFFFF, 0x174, 0, []⟩,
  ⟨0x194, .ro, 0x0, 0xFFFFFFFF, 0x174, 0, []⟩,
  ⟨0x198, .ro, 0x0, 0xFFFFFFFF, 0x174, 0, []⟩,
  ⟨0x19C, .ro, 0x0, 0xFFFFFFFF, 0x174, 0, []⟩,
  ⟨0x1A0, .ro, 0x0, 0xFFFFFFFF, 0x174, 0, []⟩,
  ⟨0x1A4, .ro, 0x0, 0xFFFFFFFF, 0x174, 0, []⟩,
  ⟨0x1A8, .ro, 0x0, 0xFFFFFFFF, 0x174, 0, []⟩]

/-- The `TRUST` rows. -/
def trustRows : List RegRow := trustRows1 ++ trustRows2

/-- The `NET` rows: offset, access, reset, writable bits, selector, pair, checks. -/
def netRows : List RegRow := [
  ⟨0x100, .rwd, 0x1C, 0x1F, 0x0, 0, []⟩,
  ⟨0x104, .ro, 0x0, 0xFFFFFFFF, 0x0, 0, []⟩,
  ⟨0x108, .rwd, 0x2400, 0xFFFFFFFF, 0x0, 0, [⟨0, 32, 1518, 9216, false⟩]⟩,
  ⟨0x10C, .rwd, 0xFE, 0x1FF, 0x0, 0, []⟩,
  ⟨0x110, .rwd, 0x80, 0xFF, 0x0, 0, []⟩,
  ⟨0x114, .rwd, 0x10101010, 0xFFFFFFFF, 0x0, 1, [⟨0, 8, 1, 255, false⟩, ⟨8, 8, 1, 255, false⟩, ⟨16, 8, 1, 255, false⟩, ⟨24, 8, 1, 255, false⟩]⟩,
  ⟨0x118, .rwd, 0x10101010, 0xFFFFFFFF, 0x0, 2, [⟨0, 8, 1, 255, false⟩, ⟨8, 8, 1, 255, false⟩, ⟨16, 8, 1, 255, false⟩, ⟨24, 8, 1, 255, false⟩]⟩,
  ⟨0x11C, .rwd, 0x64, 0xFFFFFFFF, 0x0, 0, [⟨0, 32, 0, 10000, false⟩]⟩,
  ⟨0x120, .sel, 0x0, 0x7, 0x0, 0, []⟩,
  ⟨0x124, .ro, 0x0, 0xFFFFFFFF, 0x120, 0, []⟩,
  ⟨0x128, .ro, 0x0, 0xFFFFFFFF, 0x120, 0, []⟩,
  ⟨0x12C, .ro, 0x0, 0xFFFFFFFF, 0x120, 1, []⟩,
  ⟨0x130, .ro, 0x0, 0xFFFFFFFF, 0x120, 2, []⟩,
  ⟨0x134, .ro, 0x0, 0xFFFFFFFF, 0x120, 0, []⟩,
  ⟨0x138, .ro, 0x0, 0xFFFFFFFF, 0x120, 1, []⟩,
  ⟨0x13C, .ro, 0x0, 0xFFFFFFFF, 0x120, 2, []⟩,
  ⟨0x140, .ro, 0x0, 0xFFFFFFFF, 0x120, 0, []⟩,
  ⟨0x144, .ro, 0x0, 0xFFFFFFFF, 0x120, 0, []⟩,
  ⟨0x148, .ro, 0x0, 0xFFFFFFFF, 0x120, 0, []⟩,
  ⟨0x14C, .ro, 0x0, 0xFFFFFFFF, 0x120, 0, []⟩,
  ⟨0x150, .ro, 0x0, 0xFFFFFFFF, 0x120, 0, []⟩,
  ⟨0x154, .ro, 0x0, 0xFFFFFFFF, 0x120, 0, []⟩,
  ⟨0x158, .ro, 0x0, 0xFFFFFFFF, 0x120, 0, []⟩,
  ⟨0x15C, .ro, 0x0, 0xFFFFFFFF, 0x120, 0, []⟩,
  ⟨0x160, .ro, 0x0, 0xFFFFFFFF, 0x0, 0, []⟩,
  ⟨0x164, .ro, 0x0, 0xFFFFFFFF, 0x0, 0, []⟩,
  ⟨0x168, .ro, 0x0, 0xFFFFFFFF, 0x0, 1, []⟩,
  ⟨0x16C, .ro, 0x0, 0xFFFFFFFF, 0x0, 2, []⟩]

/-- The `PARSE` rows: offset, access, reset, writable bits, selector, pair, checks. -/
def parseRows : List RegRow := [
  ⟨0x100, .rwd, 0x0, 0x1, 0x0, 0, []⟩,
  ⟨0x104, .ro, 0x0, 0xFFFFFFFF, 0x0, 0, []⟩,
  ⟨0x108, .ro, 0x0, 0xFFFFFFFF, 0x0, 0, []⟩,
  ⟨0x10C, .ro, 0x0, 0xFFFFFFFF, 0x0, 0, []⟩,
  ⟨0x110, .rwd, 0x80, 0xFFFFFFFF, 0x0, 0, [⟨0, 32, 32, 1024, false⟩]⟩,
  ⟨0x114, .sel, 0x0, 0x11FFF, 0x0, 0, []⟩,
  ⟨0x118, .ro, 0x0, 0xFFFFFFFF, 0x114, 1, []⟩,
  ⟨0x11C, .ro, 0x0, 0xFFFFFFFF, 0x114, 2, []⟩,
  ⟨0x120, .ro, 0x0, 0xFFFFFFFF, 0x0, 0, []⟩,
  ⟨0x124, .ro, 0x0, 0xFFFFFFFF, 0x0, 0, []⟩,
  ⟨0x128, .ro, 0x0, 0xFFFFFFFF, 0x0, 0, []⟩,
  ⟨0x12C, .ro, 0x0, 0xFFFFFFFF, 0x0, 1, []⟩,
  ⟨0x130, .ro, 0x0, 0xFFFFFFFF, 0x0, 2, []⟩,
  ⟨0x134, .ro, 0x0, 0xFFFFFFFF, 0x0, 0, []⟩,
  ⟨0x138, .ro, 0x0, 0xFFFFFFFF, 0x0, 0, []⟩,
  ⟨0x13C, .ro, 0x0, 0xFFFFFFFF, 0x0, 0, []⟩,
  ⟨0x140, .ro, 0x0, 0xFFFFFFFF, 0x0, 0, []⟩,
  ⟨0x144, .ro, 0x0, 0xFFFFFFFF, 0x0, 0, []⟩,
  ⟨0x148, .ro, 0x0, 0xFFFFFFFF, 0x0, 0, []⟩]

/-- The `CLASS` rows, part 1: offset, access, reset, writable bits, selector, pair, checks. -/
def classRows1 : List RegRow := [
  ⟨0x100, .rwd, 0x2, 0x3, 0x0, 0, []⟩,
  ⟨0x104, .ro, 0x0, 0xFFFFFFFF, 0x0, 0, []⟩,
  ⟨0x108, .rwd, 0x0, 0xFFFFFFFF, 0x0, 0, []⟩,
  ⟨0x10C, .rwd, 0x0, 0xFFFFFFFF, 0x0, 0, []⟩,
  ⟨0x110, .rwd, 0x0, 0xFFFFFFFF, 0x0, 0, []⟩,
  ⟨0x114, .rwd, 0x0, 0xFFFFFFFF, 0x0, 0, []⟩,
  ⟨0x118, .ro, 0x0, 0xFFFFFFFF, 0x0, 0, []⟩,
  ⟨0x11C, .ro, 0x0, 0xFFFFFFFF, 0x0, 0, []⟩,
  ⟨0x120, .sel, 0x0, 0x7FFF, 0x0, 0, []⟩,
  ⟨0x124, .rw, 0x0, 0x7, 0x0, 0, []⟩,
  ⟨0x128, .rw, 0x0, 0xFFFFFFFF, 0x0, 0, []⟩,
  ⟨0x12C, .rw, 0x0, 0xFFFFFFFF, 0x0, 0, []⟩,
  ⟨0x130, .rw, 0x0, 0xFFFFFFFF, 0x0, 0, []⟩,
  ⟨0x134, .rw, 0x0, 0xFFFFFFFF, 0x0, 0, []⟩,
  ⟨0x138, .rw, 0x0, 0xFFFFFFFF, 0x0, 0, []⟩,
  ⟨0x13C, .rw, 0x0, 0xFFFFFFFF, 0x0, 0, []⟩,
  ⟨0x140, .rw, 0x0, 0xFFFFFFFF, 0x0, 0, []⟩,
  ⟨0x144, .rw, 0x0, 0xFFFFFFFF, 0x0, 0, []⟩,
  ⟨0x148, .rw, 0x0, 0xFFFFFFFF, 0x0, 0, []⟩,
  ⟨0x14C, .rw, 0x0, 0xFFFFFFFF, 0x0, 0, []⟩,
  ⟨0x150, .rw, 0x0, 0xFFFFFFFF, 0x0, 0, []⟩,
  ⟨0x154, .rw, 0x0, 0xFFFFFFFF, 0x0, 0, []⟩,
  ⟨0x158, .rw, 0x0, 0xFFFFFFFF, 0x0, 0, []⟩,
  ⟨0x15C, .rw, 0x0, 0xFFFFFFFF, 0x0, 0, []⟩,
  ⟨0x160, .rw, 0x0, 0xFFFFFFFF, 0x0, 0, []⟩,
  ⟨0x164, .rw, 0x0, 0xFFFFFFFF, 0x0, 0, []⟩,
  ⟨0x168, .rw, 0x0, 0xFFFFFFFF, 0x0, 0, []⟩,
  ⟨0x16C, .rw, 0x0, 0xFFFFFFFF, 0x0, 0, []⟩,
  ⟨0x170, .rw, 0x0, 0xFFFFFFFF, 0x0, 0, []⟩,
  ⟨0x174, .rw, 0x0, 0xFFFFFFFF, 0x0, 0, []⟩]

/-- The `CLASS` rows, part 2: offset, access, reset, writable bits, selector, pair, checks. -/
def classRows2 : List RegRow := [
  ⟨0x178, .rw, 0x0, 0xFFFFFFFF, 0x0, 0, []⟩,
  ⟨0x17C, .rw, 0x0, 0xFFFFFFFF, 0x0, 0, []⟩,
  ⟨0x180, .rw, 0x0, 0xFFFFFFFF, 0x0, 0, []⟩,
  ⟨0x184, .rw, 0x0, 0xFFFFFFFF, 0x0, 0, []⟩,
  ⟨0x188, .rw, 0x0, 0xFFFFFFFF, 0x0, 0, []⟩,
  ⟨0x18C, .rw, 0x0, 0xFFFFFFFF, 0x0, 0, []⟩,
  ⟨0x190, .wo, 0x0, 0xFFFFFFFF, 0x0, 0, []⟩,
  ⟨0x194, .ro, 0x0, 0xFFFFFFFF, 0x0, 0, []⟩,
  ⟨0x198, .rw, 0x0, 0xFFFFFFFF, 0x0, 0, []⟩,
  ⟨0x19C, .rw, 0x0, 0xFFFFFFFF, 0x0, 0, []⟩,
  ⟨0x1A0, .rw, 0x0, 0xFFFFFFFF, 0x0, 0, []⟩,
  ⟨0x1A4, .rw, 0x0, 0xFFFFFFFF, 0x0, 0, []⟩,
  ⟨0x1A8, .rw, 0x0, 0xFFFFFFFF, 0x0, 0, []⟩,
  ⟨0x1AC, .rw, 0x0, 0xFFFFFFFF, 0x0, 0, []⟩,
  ⟨0x1B0, .rw, 0x0, 0xFFFFFFFF, 0x0, 0, []⟩,
  ⟨0x1B4, .rw, 0x0, 0xFFFFFFFF, 0x0, 0, []⟩,
  ⟨0x1B8, .wo, 0x0, 0xFFFFFFFF, 0x0, 0, []⟩,
  ⟨0x1BC, .ro, 0x0, 0xFFFFFFFF, 0x0, 0, []⟩,
  ⟨0x1C0, .rwd, 0x0, 0xFFFFFFFF, 0x0, 0, []⟩,
  ⟨0x1C4, .rwd, 0x0, 0xFFFFFFFF, 0x0, 0, []⟩,
  ⟨0x1C8, .rwd, 0x0, 0xFFFFFFFF, 0x0, 0, []⟩,
  ⟨0x1CC, .rwd, 0x0, 0xFFFFFFFF, 0x0, 0, []⟩,
  ⟨0x1D0, .rwd, 0x0, 0xFFFFFFFF, 0x0, 0, []⟩,
  ⟨0x1D4, .rwd, 0x0, 0xFFFFFFFF, 0x0, 0, []⟩,
  ⟨0x1D8, .rwd, 0x0, 0xFFFFFFFF, 0x0, 0, []⟩,
  ⟨0x1DC, .rwd, 0x0, 0xFFFFFFFF, 0x0, 0, []⟩,
  ⟨0x1E0, .rwd, 0x0, 0xFFFFFFFF, 0x0, 0, []⟩,
  ⟨0x1E4, .rwd, 0x0, 0xFFFFFFFF, 0x0, 0, []⟩,
  ⟨0x1E8, .ro, 0x0, 0xFFFFFFFF, 0x0, 0, []⟩,
  ⟨0x1EC, .ro, 0x0, 0xFFFFFFFF, 0x0, 0, []⟩]

/-- The `CLASS` rows, part 3: offset, access, reset, writable bits, selector, pair, checks. -/
def classRows3 : List RegRow := [
  ⟨0x1F0, .ro, 0x0, 0xFFFFFFFF, 0x0, 0, []⟩]

/-- The `CLASS` rows. -/
def classRows : List RegRow := classRows1 ++ classRows2 ++ classRows3

/-- The `SWITCH` rows, part 1: offset, access, reset, writable bits, selector, pair, checks. -/
def switchRows1 : List RegRow := [
  ⟨0x100, .rwd, 0x0, 0x1F, 0x0, 0, []⟩,
  ⟨0x104, .ro, 0x0, 0xFFFFFFFF, 0x0, 0, []⟩,
  ⟨0x108, .ro, 0x0, 0xFFFFFFFF, 0x0, 0, []⟩,
  ⟨0x10C, .ro, 0x0, 0xFFFFFFFF, 0x0, 0, []⟩,
  ⟨0x110, .sel, 0x0, 0x3FF, 0x0, 0, []⟩,
  ⟨0x114, .rwd, 0x0, 0x3FF, 0x110, 0, []⟩,
  ⟨0x118, .rwd, 0x0, 0xFFFFFFFF, 0x110, 1, []⟩,
  ⟨0x11C, .rwd, 0x0, 0xFFFF, 0x110, 2, []⟩,
  ⟨0x120, .rwd, 0x0, 0xFFFFFFFF, 0x110, 1, []⟩,
  ⟨0x124, .rwd, 0x0, 0xFFFFFFFF, 0x110, 2, []⟩,
  ⟨0x128, .rwd, 0x0, 0x1FFF1FFF, 0x110, 0, []⟩,
  ⟨0x12C, .rwd, 0x0, 0x1FFF1FFF, 0x110, 0, []⟩,
  ⟨0x130, .rwd, 0x0, 0x1FFF1FFF, 0x110, 0, []⟩,
  ⟨0x134, .rwd, 0x0, 0x1FFF1FFF, 0x110, 0, []⟩,
  ⟨0x138, .rwd, 0x0, 0xFFFFFFFF, 0x110, 0, []⟩,
  ⟨0x13C, .rwd, 0x0, 0xFFFFFFFF, 0x110, 0, []⟩,
  ⟨0x140, .rwd, 0x0, 0xFFFFFFFF, 0x110, 0, []⟩,
  ⟨0x144, .rwd, 0x0, 0xFFFFFFFF, 0x110, 0, []⟩,
  ⟨0x148, .rwd, 0x0, 0xFFFFFFFF, 0x110, 0, []⟩,
  ⟨0x14C, .rwd, 0x0, 0xFFFFFFFF, 0x110, 0, []⟩,
  ⟨0x150, .rwd, 0x0, 0xFFFFFFFF, 0x110, 0, []⟩,
  ⟨0x154, .rwd, 0x0, 0xFFFFFFFF, 0x110, 0, []⟩,
  ⟨0x158, .rwd, 0x0, 0xFFFFFFFF, 0x110, 0, []⟩,
  ⟨0x15C, .rwd, 0x0, 0xFFFFFFFF, 0x110, 0, []⟩,
  ⟨0x160, .rwd, 0x0, 0xFFFFFFFF, 0x110, 0, []⟩,
  ⟨0x164, .rwd, 0x0, 0xFFFFFFFF, 0x110, 0, []⟩,
  ⟨0x168, .rwd, 0x0, 0xFFFFFFFF, 0x110, 0, []⟩,
  ⟨0x16C, .rwd, 0x0, 0xFFFFFFFF, 0x110, 0, []⟩,
  ⟨0x170, .rwd, 0x0, 0xFFFFFFFF, 0x110, 0, []⟩,
  ⟨0x174, .rwd, 0x0, 0xFFFFFFFF, 0x110, 0, []⟩]

/-- The `SWITCH` rows, part 2: offset, access, reset, writable bits, selector, pair, checks. -/
def switchRows2 : List RegRow := [
  ⟨0x178, .rwd, 0x0, 0xFFFFFFFF, 0x110, 0, [⟨0, 32, 100, 100000, true⟩]⟩,
  ⟨0x17C, .rwd, 0x100, 0xFFFFFFFF, 0x110, 0, [⟨0, 32, 16, 4096, false⟩]⟩,
  ⟨0x180, .ro, 0x0, 0xFFFFFFFF, 0x110, 1, []⟩,
  ⟨0x184, .ro, 0x0, 0xFFFFFFFF, 0x110, 2, []⟩,
  ⟨0x188, .ro, 0x0, 0xFFFFFFFF, 0x110, 1, []⟩,
  ⟨0x18C, .ro, 0x0, 0xFFFFFFFF, 0x110, 2, []⟩,
  ⟨0x190, .ro, 0x0, 0xFFFFFFFF, 0x110, 0, []⟩,
  ⟨0x194, .rwd, 0x3E8, 0xFFFFFFFF, 0x0, 0, [⟨0, 32, 100, 30000, false⟩]⟩,
  ⟨0x198, .ro, 0x0, 0xFFFFFFFF, 0x0, 0, []⟩,
  ⟨0x19C, .ro, 0x0, 0xFFFFFFFF, 0x0, 0, []⟩,
  ⟨0x1A0, .ro, 0x0, 0xFFFFFFFF, 0x0, 0, []⟩]

/-- The `SWITCH` rows. -/
def switchRows : List RegRow := switchRows1 ++ switchRows2

/-- The `BUF` rows: offset, access, reset, writable bits, selector, pair, checks. -/
def bufRows : List RegRow := [
  ⟨0x100, .rwd, 0x1, 0x1, 0x0, 0, []⟩,
  ⟨0x104, .ro, 0x0, 0xFFFFFFFF, 0x0, 0, []⟩,
  ⟨0x108, .ro, 0x40000, 0xFFFFFFFF, 0x0, 0, []⟩,
  ⟨0x10C, .ro, 0x40000, 0xFFFFFFFF, 0x0, 0, []⟩,
  ⟨0x110, .ro, 0x0, 0xFFFFFFFF, 0x0, 0, []⟩,
  ⟨0x114, .ro, 0x0, 0xFFFFFFFF, 0x0, 0, []⟩,
  ⟨0x118, .sel, 0x0, 0x1FF, 0x0, 0, []⟩,
  ⟨0x11C, .rwd, 0x20, 0xFFFFFFFF, 0x118, 0, [⟨0, 32, 0, 4096, false⟩]⟩,
  ⟨0x120, .rwd, 0x400, 0xFFFFFFFF, 0x118, 0, [⟨0, 32, 0, 16384, false⟩]⟩,
  ⟨0x124, .rwd, 0x3, 0xFFFF0007, 0x118, 0, []⟩,
  ⟨0x128, .rwd, 0x40, 0xFFFFFFFF, 0x118, 0, [⟨0, 32, 2, 4096, false⟩]⟩,
  ⟨0x12C, .ro, 0x0, 0xFFFFFFFF, 0x118, 0, []⟩,
  ⟨0x130, .ro, 0x0, 0xFFFFFFFF, 0x118, 0, []⟩,
  ⟨0x134, .ro, 0x0, 0xFFFFFFFF, 0x118, 0, []⟩,
  ⟨0x138, .ro, 0x0, 0xFFFFFFFF, 0x118, 0, []⟩,
  ⟨0x13C, .rwd, 0x50, 0xFFFFFFFF, 0x118, 0, [⟨0, 32, 1, 65535, false⟩]⟩,
  ⟨0x140, .rwd, 0x320, 0xFFFFFFFF, 0x118, 0, [⟨0, 32, 1, 65535, false⟩]⟩,
  ⟨0x144, .rwd, 0x40, 0xFF, 0x118, 0, []⟩,
  ⟨0x148, .ro, 0x0, 0xFFFFFFFF, 0x118, 0, []⟩,
  ⟨0x14C, .ro, 0x0, 0xFFFFFFFF, 0x118, 0, []⟩,
  ⟨0x150, .sel, 0x0, 0x7, 0x0, 0, []⟩,
  ⟨0x154, .rwd, 0x800, 0xFFFFFFFF, 0x150, 0, [⟨0, 32, 256, 16384, false⟩]⟩,
  ⟨0x158, .ro, 0x0, 0xFFFFFFFF, 0x150, 0, []⟩,
  ⟨0x15C, .ro, 0x0, 0xFFFFFFFF, 0x150, 0, []⟩]

/-- The `SAMPLE` rows: offset, access, reset, writable bits, selector, pair, checks. -/
def sampleRows : List RegRow := [
  ⟨0x100, .rwd, 0x0, 0xFFFF, 0x0, 0, []⟩,
  ⟨0x104, .ro, 0x0, 0xFFFFFFFF, 0x0, 0, []⟩,
  ⟨0x108, .sel, 0x0, 0xF, 0x0, 0, []⟩,
  ⟨0x10C, .rwd, 0x0, 0xF07, 0x108, 0, []⟩,
  ⟨0x110, .rwd, 0x400, 0xFFFFFFFF, 0x108, 0, [⟨0, 32, 1, 16777216, false⟩]⟩,
  ⟨0x114, .rwd, 0x0, 0xFFFFFFFF, 0x108, 1, []⟩,
  ⟨0x118, .rwd, 0x0, 0xFFFFFFFF, 0x108, 2, []⟩,
  ⟨0x11C, .ro, 0x0, 0xFFFFFFFF, 0x108, 0, []⟩,
  ⟨0x120, .ro, 0x0, 0xFFFFFFFF, 0x108, 0, []⟩,
  ⟨0x124, .ro, 0x0, 0xFFFFFFFF, 0x108, 0, []⟩]

/-- The `XPORT` rows, part 1: offset, access, reset, writable bits, selector, pair, checks. -/
def xportRows1 : List RegRow := [
  ⟨0x100, .rwd, 0x1F, 0x1F, 0x0, 0, []⟩,
  ⟨0x104, .ro, 0x0, 0xFFFFFFFF, 0x0, 0, []⟩,
  ⟨0x108, .ro, 0x40000, 0xFFFFFFFF, 0x0, 0, []⟩,
  ⟨0x10C, .ro, 0x0, 0xFFFFFFFF, 0x0, 0, []⟩,
  ⟨0x110, .ro, 0x0, 0xFFFFFFFF, 0x0, 0, []⟩,
  ⟨0x114, .ro, 0x0, 0xFFFFFFFF, 0x0, 0, []⟩,
  ⟨0x118, .ro, 0x0, 0xFFFFFFFF, 0x0, 0, []⟩,
  ⟨0x11C, .rwd, 0x200000, 0xFFFFFFFF, 0x0, 0, [⟨0, 32, 262144, 4194304, false⟩]⟩,
  ⟨0x120, .ro, 0x200000, 0xFFFFFFFF, 0x0, 0, []⟩,
  ⟨0x124, .rwd, 0x2, 0x1F, 0x0, 0, [⟨0, 5, 2, 31, false⟩]⟩,
  ⟨0x128, .ro, 0x0, 0xFFFFFFFF, 0x0, 0, []⟩,
  ⟨0x12C, .ro, 0x0, 0xFFFFFFFF, 0x0, 0, []⟩,
  ⟨0x130, .rwd, 0x80, 0xFFFFFFFF, 0x0, 0, [⟨0, 32, 1, 128, false⟩]⟩,
  ⟨0x134, .ro, 0x0, 0xFFFFFFFF, 0x0, 0, []⟩,
  ⟨0x138, .rwd, 0x10, 0xFFFFFFFF, 0x0, 0, [⟨0, 32, 1, 64, false⟩]⟩,
  ⟨0x13C, .rwd, 0x7D0, 0xFFFFFFFF, 0x0, 0, [⟨0, 32, 100, 20000, false⟩]⟩,
  ⟨0x140, .rwd, 0x10, 0xFFFFFFFF, 0x0, 0, [⟨0, 32, 1, 64, false⟩]⟩,
  ⟨0x144, .rwd, 0x40, 0xFFFFFFFF, 0x0, 0, [⟨0, 32, 8, 1024, false⟩]⟩,
  ⟨0x148, .rwd, 0x64, 0xFFFFFFFF, 0x0, 0, [⟨0, 32, 10, 100000, false⟩]⟩,
  ⟨0x14C, .rwd, 0xC8, 0xFFFFFFFF, 0x0, 0, [⟨0, 32, 0, 10000, false⟩]⟩,
  ⟨0x150, .rwd, 0x32, 0xFFFFFFFF, 0x0, 0, [⟨0, 32, 1, 1000, false⟩]⟩,
  ⟨0x154, .rwd, 0x64, 0xFFFFFFFF, 0x0, 0, [⟨0, 32, 10, 10000, false⟩]⟩,
  ⟨0x158, .rwd, 0x32, 0xFFFFFFFF, 0x0, 0, [⟨0, 32, 1, 10000, false⟩]⟩,
  ⟨0x15C, .rwd, 0x1F4, 0xFFFFFFFF, 0x0, 0, [⟨0, 32, 1, 50000, false⟩]⟩,
  ⟨0x160, .rwd, 0x37, 0xFFFFFFFF, 0x0, 0, [⟨0, 32, 10, 1000, false⟩]⟩,
  ⟨0x164, .rwd, 0x4, 0xFFFFFFFF, 0x0, 0, [⟨0, 32, 1, 1023, false⟩]⟩,
  ⟨0x168, .rwd, 0x5, 0xFFFFFFFF, 0x0, 0, [⟨0, 32, 1, 16, false⟩]⟩,
  ⟨0x16C, .ro, 0x0, 0xFFFFFFFF, 0x0, 0, []⟩,
  ⟨0x170, .ro, 0x0, 0xFFFFFFFF, 0x0, 0, []⟩,
  ⟨0x174, .ro, 0x0, 0xFFFFFFFF, 0x0, 0, []⟩]

/-- The `XPORT` rows, part 2: offset, access, reset, writable bits, selector, pair, checks. -/
def xportRows2 : List RegRow := [
  ⟨0x178, .ro, 0x0, 0xFFFFFFFF, 0x0, 0, []⟩,
  ⟨0x17C, .ro, 0x0, 0xFFFFFFFF, 0x0, 0, []⟩,
  ⟨0x180, .ro, 0x0, 0xFFFFFFFF, 0x0, 0, []⟩,
  ⟨0x184, .ro, 0x0, 0xFFFFFFFF, 0x0, 0, []⟩,
  ⟨0x188, .ro, 0x0, 0xFFFFFFFF, 0x0, 0, []⟩,
  ⟨0x18C, .ro, 0x0, 0xFFFFFFFF, 0x0, 0, []⟩,
  ⟨0x190, .ro, 0x0, 0xFFFFFFFF, 0x0, 0, []⟩,
  ⟨0x194, .ro, 0x0, 0xFFFFFFFF, 0x0, 0, []⟩,
  ⟨0x198, .ro, 0x0, 0xFFFFFFFF, 0x0, 0, []⟩,
  ⟨0x19C, .sel, 0x0, 0x3FFFF, 0x0, 0, []⟩,
  ⟨0x1A0, .ro, 0x0, 0xFFFFFFFF, 0x19C, 0, []⟩,
  ⟨0x1A4, .ro, 0x0, 0xFFFFFFFF, 0x19C, 0, []⟩,
  ⟨0x1A8, .ro, 0x0, 0xFFFFFFFF, 0x19C, 0, []⟩,
  ⟨0x1AC, .ro, 0x0, 0xFFFFFFFF, 0x19C, 0, []⟩,
  ⟨0x1B0, .ro, 0x0, 0xFFFFFFFF, 0x19C, 0, []⟩]

/-- The `XPORT` rows. -/
def xportRows : List RegRow := xportRows1 ++ xportRows2

/-- The `KEYS` rows: offset, access, reset, writable bits, selector, pair, checks. -/
def keysRows : List RegRow := [
  ⟨0x100, .rwd, 0x1, 0x1, 0x0, 0, []⟩,
  ⟨0x104, .ro, 0x0, 0xFFFFFFFF, 0x0, 0, []⟩,
  ⟨0x108, .ro, 0x100000, 0xFFFFFFFF, 0x0, 0, []⟩,
  ⟨0x10C, .ro, 0x0, 0xFFFFFFFF, 0x0, 0, []⟩,
  ⟨0x110, .ro, 0x0, 0xFFFFFFFF, 0x0, 0, []⟩,
  ⟨0x114, .ro, 0x0, 0xFFFFFFFF, 0x0, 0, []⟩,
  ⟨0x118, .ro, 0x0, 0xFFFFFFFF, 0x0, 0, []⟩,
  ⟨0x11C, .ro, 0x0, 0xFFFFFFFF, 0x0, 0, []⟩,
  ⟨0x120, .rwd, 0xA, 0xFFFFFFFF, 0x0, 0, [⟨0, 32, 1, 1000, false⟩]⟩,
  ⟨0x124, .sel, 0x0, 0xFFFFF, 0x0, 0, []⟩,
  ⟨0x128, .ro, 0x0, 0xFFFFFFFF, 0x124, 0, []⟩,
  ⟨0x12C, .ro, 0x0, 0xFFFFFFFF, 0x124, 0, []⟩,
  ⟨0x130, .ro, 0x0, 0xFFFFFFFF, 0x124, 0, []⟩,
  ⟨0x134, .wo, 0x0, 0xFFFFFFFF, 0x124, 0, []⟩]

/-- The `WIN` rows, part 1: offset, access, reset, writable bits, selector, pair, checks. -/
def winRows1 : List RegRow := [
  ⟨0x100, .rwd, 0x1, 0x1, 0x0, 0, []⟩,
  ⟨0x104, .ro, 0x0, 0xFFFFFFFF, 0x0, 0, []⟩,
  ⟨0x108, .rwd, 0x2000, 0xFFFFFFFF, 0x0, 0, [⟨0, 32, 512, 32768, true⟩]⟩,
  ⟨0x10C, .ro, 0x1000, 0xFFFFFFFF, 0x0, 0, []⟩,
  ⟨0x110, .ro, 0x0, 0xFFFFFFFF, 0x0, 0, []⟩,
  ⟨0x114, .ro, 0x0, 0xFFFFFFFF, 0x0, 0, []⟩,
  ⟨0x118, .rwd, 0x1F4, 0xFFFFFFFF, 0x0, 0, [⟨0, 32, 10, 10000, false⟩]⟩,
  ⟨0x11C, .rwd, 0x2000, 0xFFFFFFFF, 0x0, 0, [⟨0, 32, 0, 32768, false⟩]⟩,
  ⟨0x120, .ro, 0x0, 0xFFFFFFFF, 0x0, 0, []⟩,
  ⟨0x124, .rwd, 0x64, 0xFFFFFFFF, 0x0, 0, [⟨0, 32, 1, 10000, false⟩]⟩,
  ⟨0x128, .ro, 0x0, 0xFFFFFFFF, 0x0, 0, []⟩,
  ⟨0x12C, .ro, 0x0, 0xFFFFFFFF, 0x0, 0, []⟩,
  ⟨0x130, .ro, 0x0, 0xFFFFFFFF, 0x0, 0, []⟩,
  ⟨0x134, .ro, 0x0, 0xFFFFFFFF, 0x0, 0, []⟩,
  ⟨0x138, .ro, 0x0, 0xFFFFFFFF, 0x0, 0, []⟩,
  ⟨0x13C, .ro, 0x0, 0xFFFFFFFF, 0x0, 0, []⟩,
  ⟨0x140, .ro, 0x0, 0xFFFFFFFF, 0x0, 0, []⟩,
  ⟨0x144, .ro, 0x0, 0xFFFFFFFF, 0x0, 0, []⟩,
  ⟨0x148, .ro, 0x0, 0xFFFFFFFF, 0x0, 0, []⟩,
  ⟨0x14C, .ro, 0x0, 0xFFFFFFFF, 0x0, 0, []⟩,
  ⟨0x150, .sel, 0x0, 0xFFF, 0x0, 0, []⟩,
  ⟨0x154, .ro, 0x0, 0xFFFFFFFF, 0x150, 0, []⟩,
  ⟨0x158, .ro, 0x0, 0xFFFFFFFF, 0x150, 0, []⟩,
  ⟨0x15C, .ro, 0x0, 0xFFFFFFFF, 0x150, 1, []⟩,
  ⟨0x160, .ro, 0x0, 0xFFFFFFFF, 0x150, 2, []⟩,
  ⟨0x164, .ro, 0x0, 0xFFFFFFFF, 0x150, 0, []⟩,
  ⟨0x168, .ro, 0x0, 0xFFFFFFFF, 0x150, 0, []⟩,
  ⟨0x16C, .ro, 0x0, 0xFFFFFFFF, 0x150, 0, []⟩,
  ⟨0x170, .sel, 0x0, 0xF, 0x0, 0, []⟩,
  ⟨0x174, .ro, 0x0, 0xFFFFFFFF, 0x0, 1, []⟩]

/-- The `WIN` rows, part 2: offset, access, reset, writable bits, selector, pair, checks. -/
def winRows2 : List RegRow := [
  ⟨0x178, .ro, 0x0, 0xFFFFFFFF, 0x0, 2, []⟩,
  ⟨0x17C, .wo, 0x0, 0xFFFFFFFF, 0x0, 0, []⟩]

/-- The `WIN` rows. -/
def winRows : List RegRow := winRows1 ++ winRows2

/-- The `CIPHW` rows: offset, access, reset, writable bits, selector, pair, checks. -/
def ciphwRows : List RegRow := [
  ⟨0x100, .rwd, 0x3, 0x3, 0x0, 0, []⟩,
  ⟨0x104, .ro, 0x0, 0xFFFFFFFF, 0x0, 0, []⟩,
  ⟨0x108, .ro, 0x190, 0xFFFFFFFF, 0x0, 0, []⟩,
  ⟨0x10C, .sel, 0x0, 0x3FF, 0x0, 0, []⟩,
  ⟨0x110, .rwd, 0x0, 0x1, 0x10C, 0, []⟩,
  ⟨0x114, .ro, 0x0, 0xFFFFFFFF, 0x0, 1, []⟩,
  ⟨0x118, .ro, 0x0, 0xFFFFFFFF, 0x0, 2, []⟩,
  ⟨0x11C, .ro, 0x0, 0xFFFFFFFF, 0x0, 1, []⟩,
  ⟨0x120, .ro, 0x0, 0xFFFFFFFF, 0x0, 2, []⟩,
  ⟨0x124, .ro, 0x0, 0xFFFFFFFF, 0x0, 0, []⟩,
  ⟨0x128, .ro, 0x0, 0xFFFFFFFF, 0x0, 0, []⟩,
  ⟨0x12C, .ro, 0x0, 0xFFFFFFFF, 0x0, 0, []⟩,
  ⟨0x130, .ro, 0x0, 0xFFFFFFFF, 0x0, 0, []⟩,
  ⟨0x134, .ro, 0x0, 0xFFFFFFFF, 0x0, 0, []⟩,
  ⟨0x138, .ro, 0x0, 0xFFFFFFFF, 0x0, 0, []⟩,
  ⟨0x13C, .ro, 0x0, 0xFFFFFFFF, 0x0, 0, []⟩,
  ⟨0x140, .ro, 0x0, 0xFFFFFFFF, 0x0, 0, []⟩,
  ⟨0x144, .ro, 0x0, 0xFFFFFFFF, 0x0, 0, []⟩,
  ⟨0x148, .ro, 0x0, 0xFFFFFFFF, 0x0, 0, []⟩,
  ⟨0x14C, .ro, 0x0, 0xFFFFFFFF, 0x0, 0, []⟩]

/-- The `CIPHS` rows: offset, access, reset, writable bits, selector, pair, checks. -/
def ciphsRows : List RegRow := [
  ⟨0x100, .ro, 0x0, 0xFFFFFFFF, 0x0, 0, []⟩,
  ⟨0x104, .ro, 0x190, 0xFFFFFFFF, 0x0, 0, []⟩,
  ⟨0x108, .ro, 0x0, 0xFFFFFFFF, 0x0, 1, []⟩,
  ⟨0x10C, .ro, 0x0, 0xFFFFFFFF, 0x0, 2, []⟩,
  ⟨0x110, .ro, 0x0, 0xFFFFFFFF, 0x0, 1, []⟩,
  ⟨0x114, .ro, 0x0, 0xFFFFFFFF, 0x0, 2, []⟩,
  ⟨0x118, .ro, 0x0, 0xFFFFFFFF, 0x0, 0, []⟩,
  ⟨0x11C, .ro, 0x0, 0xFFFFFFFF, 0x0, 0, []⟩,
  ⟨0x120, .ro, 0x0, 0xFFFFFFFF, 0x0, 0, []⟩,
  ⟨0x124, .ro, 0x0, 0xFFFFFFFF, 0x0, 0, []⟩,
  ⟨0x128, .ro, 0x0, 0xFFFFFFFF, 0x0, 0, []⟩,
  ⟨0x12C, .ro, 0x0, 0xFFFFFFFF, 0x0, 0, []⟩,
  ⟨0x130, .ro, 0x0, 0xFFFFFFFF, 0x0, 0, []⟩]

/-- The `KSTORE` rows, part 1: offset, access, reset, writable bits, selector, pair, checks. -/
def kstoreRows1 : List RegRow := [
  ⟨0x100, .rwd, 0x1, 0x3, 0x0, 0, []⟩,
  ⟨0x104, .ro, 0x0, 0xFFFFFFFF, 0x0, 0, []⟩,
  ⟨0x108, .rwd, 0x1F4, 0xFFFFFFFF, 0x0, 0, [⟨0, 32, 10, 10000, false⟩]⟩,
  ⟨0x10C, .ro, 0x0, 0xFFFFFFFF, 0x0, 1, []⟩,
  ⟨0x110, .ro, 0x0, 0xFFFFFFFF, 0x0, 2, []⟩,
  ⟨0x114, .sel, 0x0, 0x3FFF, 0x0, 0, []⟩,
  ⟨0x11C, .ro, 0x0, 0xFFFFFFFF, 0x114, 0, []⟩,
  ⟨0x120, .ro, 0x0, 0xFFFFFFFF, 0x114, 0, []⟩,
  ⟨0x124, .ro, 0x0, 0xFFFFFFFF, 0x114, 0, []⟩,
  ⟨0x128, .wo, 0x0, 0xFFFFFFFF, 0x0, 0, []⟩,
  ⟨0x12C, .ro, 0x0, 0xFFFFFFFF, 0x0, 0, []⟩,
  ⟨0x130, .ro, 0x0, 0xFFFFFFFF, 0x0, 0, []⟩,
  ⟨0x134, .sel, 0x0, 0x7FFFF, 0x0, 0, []⟩,
  ⟨0x138, .wo, 0x0, 0xFFFFFFFF, 0x0, 0, []⟩,
  ⟨0x13C, .ro, 0x0, 0xFFFFFFFF, 0x0, 0, []⟩,
  ⟨0x140, .rw, 0x0, 0xFFFFFFFF, 0x0, 0, []⟩,
  ⟨0x144, .rw, 0x0, 0xFFFFFFFF, 0x0, 0, []⟩,
  ⟨0x148, .rw, 0x0, 0xFFFFFFFF, 0x0, 0, []⟩,
  ⟨0x14C, .rw, 0x0, 0xFFFFFFFF, 0x0, 0, []⟩,
  ⟨0x150, .rw, 0x0, 0xFFFFFFFF, 0x0, 0, []⟩,
  ⟨0x154, .rw, 0x0, 0xFFFFFFFF, 0x0, 0, []⟩,
  ⟨0x158, .rw, 0x0, 0xFFFFFFFF, 0x0, 0, []⟩,
  ⟨0x15C, .rw, 0x0, 0xFFFFFFFF, 0x0, 0, []⟩,
  ⟨0x160, .rw, 0x0, 0xFFFFFFFF, 0x0, 0, []⟩,
  ⟨0x164, .rw, 0x0, 0xFFFFFFFF, 0x0, 0, []⟩,
  ⟨0x168, .rw, 0x0, 0xFFFFFFFF, 0x0, 0, []⟩,
  ⟨0x16C, .rw, 0x0, 0xFFFFFFFF, 0x0, 0, []⟩,
  ⟨0x170, .rw, 0x0, 0xFFFFFFFF, 0x0, 0, []⟩,
  ⟨0x174, .rw, 0x0, 0xFFFFFFFF, 0x0, 0, []⟩,
  ⟨0x178, .rw, 0x0, 0xFFFFFFFF, 0x0, 0, []⟩]

/-- The `KSTORE` rows, part 2: offset, access, reset, writable bits, selector, pair, checks. -/
def kstoreRows2 : List RegRow := [
  ⟨0x17C, .rw, 0x0, 0xFFFFFFFF, 0x0, 0, []⟩,
  ⟨0x180, .rw, 0x0, 0xFFFFFFFF, 0x0, 0, []⟩,
  ⟨0x184, .rw, 0x0, 0xFFFFFFFF, 0x0, 0, []⟩,
  ⟨0x188, .rw, 0x0, 0xFFFFFFFF, 0x0, 0, []⟩,
  ⟨0x18C, .rw, 0x0, 0xFFFFFFFF, 0x0, 0, []⟩,
  ⟨0x190, .rw, 0x0, 0xFFFFFFFF, 0x0, 0, []⟩,
  ⟨0x194, .rw, 0x0, 0xFFFFFFFF, 0x0, 0, []⟩,
  ⟨0x198, .rw, 0x0, 0xFFFFFFFF, 0x0, 0, []⟩,
  ⟨0x19C, .rw, 0x0, 0xFFFFFFFF, 0x0, 0, []⟩,
  ⟨0x1A0, .rw, 0x0, 0xFFFFFFFF, 0x0, 0, []⟩,
  ⟨0x1A4, .rw, 0x0, 0xFFFFFFFF, 0x0, 0, []⟩,
  ⟨0x1A8, .rw, 0x0, 0xFFFFFFFF, 0x0, 0, []⟩,
  ⟨0x1AC, .rw, 0x0, 0xFFFFFFFF, 0x0, 0, []⟩,
  ⟨0x1B0, .rw, 0x0, 0xFFFFFFFF, 0x0, 0, []⟩,
  ⟨0x1B4, .rw, 0x0, 0xFFFFFFFF, 0x0, 0, []⟩,
  ⟨0x1B8, .rw, 0x0, 0xFFFFFFFF, 0x0, 0, []⟩,
  ⟨0x1BC, .rw, 0x0, 0xFFFFFFFF, 0x0, 0, []⟩,
  ⟨0x1C0, .rw, 0x0, 0xFFFFFFFF, 0x0, 0, []⟩,
  ⟨0x1C4, .rw, 0x0, 0xFFFFFFFF, 0x0, 0, []⟩,
  ⟨0x1C8, .rw, 0x0, 0xFFFFFFFF, 0x0, 0, []⟩,
  ⟨0x1CC, .rw, 0x0, 0xFFFFFFFF, 0x0, 0, []⟩,
  ⟨0x1D0, .rw, 0x0, 0xFFFFFFFF, 0x0, 0, []⟩,
  ⟨0x1D4, .rw, 0x0, 0xFFFFFFFF, 0x0, 0, []⟩,
  ⟨0x1D8, .rw, 0x0, 0xFFFFFFFF, 0x0, 0, []⟩,
  ⟨0x1DC, .rw, 0x0, 0xFFFFFFFF, 0x0, 0, []⟩,
  ⟨0x1E0, .rw, 0x0, 0xFFFFFFFF, 0x0, 0, []⟩,
  ⟨0x1E4, .rw, 0x0, 0xFFFFFFFF, 0x0, 0, []⟩,
  ⟨0x1E8, .rw, 0x0, 0xFFFFFFFF, 0x0, 0, []⟩,
  ⟨0x1EC, .rw, 0x0, 0xFFFFFFFF, 0x0, 0, []⟩,
  ⟨0x1F0, .rw, 0x0, 0xFFFFFFFF, 0x0, 0, []⟩]

/-- The `KSTORE` rows, part 3: offset, access, reset, writable bits, selector, pair, checks. -/
def kstoreRows3 : List RegRow := [
  ⟨0x1F4, .rw, 0x0, 0xFFFFFFFF, 0x0, 0, []⟩,
  ⟨0x1F8, .rw, 0x0, 0xFFFFFFFF, 0x0, 0, []⟩,
  ⟨0x1FC, .rw, 0x0, 0xFFFFFFFF, 0x0, 0, []⟩,
  ⟨0x200, .rw, 0x0, 0xFFFFFFFF, 0x0, 0, []⟩,
  ⟨0x204, .rw, 0x0, 0xFFFFFFFF, 0x0, 0, []⟩,
  ⟨0x208, .rw, 0x0, 0xFFFFFFFF, 0x0, 0, []⟩,
  ⟨0x20C, .rw, 0x0, 0xFFFFFFFF, 0x0, 0, []⟩,
  ⟨0x210, .ro, 0x0, 0xFFFFFFFF, 0x0, 0, []⟩,
  ⟨0x214, .ro, 0x0, 0xFFFFFFFF, 0x0, 0, []⟩,
  ⟨0x218, .ro, 0x0, 0xFFFFFFFF, 0x0, 0, []⟩,
  ⟨0x21C, .ro, 0x0, 0xFFFFFFFF, 0x0, 0, []⟩]

/-- The `KSTORE` rows. -/
def kstoreRows : List RegRow := kstoreRows1 ++ kstoreRows2 ++ kstoreRows3

/-- The `NVMF` rows: offset, access, reset, writable bits, selector, pair, checks. -/
def nvmfRows : List RegRow := [
  ⟨0x100, .rwd, 0xF, 0xF, 0x0, 0, []⟩,
  ⟨0x104, .ro, 0x0, 0xFFFFFFFF, 0x0, 0, []⟩,
  ⟨0x108, .ro, 0x100000, 0xFFFFFFFF, 0x0, 0, []⟩,
  ⟨0x10C, .ro, 0x2000, 0xFFFFFFFF, 0x0, 0, []⟩,
  ⟨0x110, .ro, 0x0, 0xFFFFFFFF, 0x0, 0, []⟩,
  ⟨0x114, .ro, 0x0, 0xFFFFFFFF, 0x0, 0, []⟩,
  ⟨0x118, .ro, 0x0, 0xFFFFFFFF, 0x0, 0, []⟩,
  ⟨0x11C, .rwd, 0x10000, 0xFFFFFFFF, 0x0, 0, [⟨0, 32, 1, 1040384, false⟩]⟩,
  ⟨0x120, .sel, 0x0, 0xFFF, 0x0, 0, []⟩,
  ⟨0x124, .rwd, 0x0, 0xFFFFFFFF, 0x120, 0, [⟨0, 32, 0, 1040384, false⟩]⟩,
  ⟨0x128, .ro, 0x0, 0xFFFFFFFF, 0x120, 0, []⟩,
  ⟨0x12C, .ro, 0x0, 0xFFFFFFFF, 0x120, 0, []⟩,
  ⟨0x130, .ro, 0x0, 0xFFFFFFFF, 0x0, 0, []⟩,
  ⟨0x134, .ro, 0x0, 0xFFFFFFFF, 0x0, 0, []⟩,
  ⟨0x138, .ro, 0x0, 0xFFFFFFFF, 0x0, 0, []⟩,
  ⟨0x13C, .rwd, 0x3E8, 0xFFFFFFFF, 0x0, 0, [⟨0, 32, 100, 60000, false⟩]⟩,
  ⟨0x140, .ro, 0x0, 0xFFFFFFFF, 0x0, 0, []⟩,
  ⟨0x144, .ro, 0x0, 0xFFFFFFFF, 0x0, 0, []⟩]

/-- The `NSMGR` rows: offset, access, reset, writable bits, selector, pair, checks. -/
def nsmgrRows : List RegRow := [
  ⟨0x100, .rwd, 0x7, 0x7, 0x0, 0, []⟩,
  ⟨0x104, .ro, 0x0, 0xFFFFFFFF, 0x0, 0, []⟩,
  ⟨0x108, .sel, 0x0, 0x3FFF, 0x0, 0, []⟩,
  ⟨0x10C, .ro, 0x0, 0xFFFFFFFF, 0x108, 0, []⟩,
  ⟨0x110, .ro, 0x0, 0xFFFFFFFF, 0x108, 0, []⟩,
  ⟨0x114, .ro, 0x0, 0xFFFFFFFF, 0x108, 0, []⟩,
  ⟨0x118, .rwd, 0x14, 0x3FF, 0x108, 0, [⟨0, 10, 2, 500, false⟩]⟩,
  ⟨0x120, .ro, 0x0, 0xFFFFFFFF, 0x108, 1, []⟩,
  ⟨0x124, .ro, 0x0, 0xFFFFFFFF, 0x108, 2, []⟩,
  ⟨0x128, .ro, 0x0, 0xFFFFFFFF, 0x108, 0, []⟩,
  ⟨0x12C, .ro, 0x0, 0xFFFFFFFF, 0x108, 0, []⟩,
  ⟨0x130, .ro, 0x0, 0xFFFFFFFF, 0x108, 0, []⟩,
  ⟨0x134, .ro, 0x0, 0xFFFFFFFF, 0x108, 0, []⟩,
  ⟨0x138, .ro, 0x0, 0xFFFFFFFF, 0x108, 0, []⟩,
  ⟨0x140, .sel, 0x0, 0xFF, 0x0, 0, []⟩,
  ⟨0x144, .ro, 0x0, 0xFFFFFFFF, 0x140, 0, []⟩,
  ⟨0x148, .ro, 0x0, 0xFFFFFFFF, 0x140, 0, []⟩,
  ⟨0x14C, .ro, 0x0, 0xFFFFFFFF, 0x140, 0, []⟩,
  ⟨0x150, .ro, 0x0, 0xFFFFFFFF, 0x0, 0, []⟩,
  ⟨0x154, .rwd, 0x4000, 0xFFFFFFFF, 0x0, 0, []⟩]

/-- The `CACHE` rows: offset, access, reset, writable bits, selector, pair, checks. -/
def cacheRows : List RegRow := [
  ⟨0x100, .rwd, 0x33, 0x3F, 0x0, 0, [⟨2, 2, 0, 2, false⟩]⟩,
  ⟨0x104, .ro, 0x20, 0xFFFFFFFF, 0x0, 0, []⟩,
  ⟨0x108, .rwd, 0x10000, 0xFFFFFFFF, 0x0, 0, [⟨0, 32, 4096, 65536, false⟩]⟩,
  ⟨0x10C, .rwd, 0x200, 0xFFFFFFFF, 0x0, 0, [⟨0, 32, 64, 2432, false⟩]⟩,
  ⟨0x110, .ro, 0x0, 0xFFFFFFFF, 0x0, 0, []⟩,
  ⟨0x114, .ro, 0x0, 0xFFFFFFFF, 0x0, 0, []⟩,
  ⟨0x118, .rwd, 0x4B, 0xFFFFFFFF, 0x0, 0, [⟨0, 32, 50, 95, false⟩]⟩,
  ⟨0x11C, .rwd, 0x7D0, 0xFFFFFFFF, 0x0, 0, [⟨0, 32, 100, 100000, false⟩]⟩,
  ⟨0x120, .rwd, 0x0, 0xFFFFFFFF, 0x0, 0, [⟨0, 32, 1000, 100000, true⟩]⟩,
  ⟨0x124, .rwd, 0x5, 0xFFFFFFFF, 0x0, 0, [⟨0, 32, 1, 50, false⟩]⟩,
  ⟨0x128, .ro, 0x0, 0xFFFFFFFF, 0x0, 0, []⟩,
  ⟨0x12C, .ro, 0x0, 0xFFFFFFFF, 0x0, 0, []⟩,
  ⟨0x130, .ro, 0x0, 0xFFFFFFFF, 0x0, 0, []⟩,
  ⟨0x134, .ro, 0x0, 0xFFFFFFFF, 0x0, 0, []⟩,
  ⟨0x138, .ro, 0x1388, 0xFFFFFFFF, 0x0, 0, []⟩,
  ⟨0x13C, .ro, 0x1388, 0xFFFFFFFF, 0x0, 0, []⟩,
  ⟨0x140, .ro, 0x0, 0xFFFFFFFF, 0x0, 0, []⟩,
  ⟨0x144, .ro, 0x0, 0xFFFFFFFF, 0x0, 0, []⟩,
  ⟨0x148, .ro, 0x0, 0xFFFFFFFF, 0x0, 0, []⟩,
  ⟨0x14C, .ro, 0x0, 0xFFFFFFFF, 0x0, 1, []⟩,
  ⟨0x150, .ro, 0x0, 0xFFFFFFFF, 0x0, 2, []⟩,
  ⟨0x154, .ro, 0x0, 0xFFFFFFFF, 0x0, 0, []⟩,
  ⟨0x158, .ro, 0x0, 0xFFFFFFFF, 0x0, 0, []⟩,
  ⟨0x15C, .ro, 0x0, 0xFFFFFFFF, 0x0, 0, []⟩,
  ⟨0x160, .ro, 0x0, 0xFFFFFFFF, 0x0, 0, []⟩,
  ⟨0x164, .ro, 0x0, 0xFFFFFFFF, 0x0, 0, []⟩,
  ⟨0x168, .ro, 0x0, 0xFFFFFFFF, 0x0, 0, []⟩,
  ⟨0x16C, .ro, 0x0, 0xFFFFFFFF, 0x0, 0, []⟩]

/-- The `PARITY` rows: offset, access, reset, writable bits, selector, pair, checks. -/
def parityRows : List RegRow := [
  ⟨0x100, .rwd, 0x1FF, 0x1FF, 0x0, 0, [⟨0, 8, 1, 255, false⟩]⟩,
  ⟨0x104, .ro, 0x0, 0xFFFFFFFF, 0x0, 0, []⟩,
  ⟨0x110, .ro, 0x0, 0xFFFFFFFF, 0x0, 0, []⟩,
  ⟨0x114, .ro, 0x0, 0xFFFFFFFF, 0x0, 0, []⟩,
  ⟨0x118, .ro, 0x0, 0xFFFFFFFF, 0x0, 0, []⟩,
  ⟨0x11C, .ro, 0x0, 0xFFFFFFFF, 0x0, 0, []⟩,
  ⟨0x120, .ro, 0x0, 0xFFFFFFFF, 0x0, 0, []⟩,
  ⟨0x124, .ro, 0x0, 0xFFFFFFFF, 0x0, 0, []⟩,
  ⟨0x128, .ro, 0x0, 0xFFFFFFFF, 0x0, 0, []⟩,
  ⟨0x12C, .ro, 0x0, 0xFFFFFFFF, 0x0, 0, []⟩,
  ⟨0x130, .ro, 0x0, 0xFFFFFFFF, 0x0, 0, []⟩,
  ⟨0x134, .ro, 0x0, 0xFFFFFFFF, 0x0, 0, []⟩,
  ⟨0x138, .ro, 0x0, 0xFFFFFFFF, 0x0, 0, []⟩,
  ⟨0x13C, .ro, 0x0, 0xFFFFFFFF, 0x0, 0, []⟩,
  ⟨0x140, .ro, 0x0, 0xFFFFFFFF, 0x0, 0, []⟩,
  ⟨0x144, .ro, 0x0, 0xFFFFFFFF, 0x0, 0, []⟩]

/-- The `REBUILD` rows, part 1: offset, access, reset, writable bits, selector, pair, checks. -/
def rebuildRows1 : List RegRow := [
  ⟨0x100, .rwd, 0x7, 0x7, 0x0, 0, []⟩,
  ⟨0x104, .ro, 0x0, 0xFFFFFFFF, 0x0, 0, []⟩,
  ⟨0x108, .rwd, 0x7D0, 0xFFFFFFFF, 0x0, 0, [⟨0, 32, 100, 20000, false⟩]⟩,
  ⟨0x10C, .rwd, 0x1F40, 0xFFFFFFFF, 0x0, 0, [⟨0, 32, 100, 40000, false⟩]⟩,
  ⟨0x110, .rwd, 0x1F4, 0xFFFFFFFF, 0x0, 0, []⟩,
  ⟨0x114, .rwd, 0x3C, 0xFFFFFFFF, 0x0, 0, [⟨0, 32, 0, 3600, false⟩]⟩,
  ⟨0x118, .rwd, 0x1F4, 0xFFFFFFFF, 0x0, 0, [⟨0, 32, 10, 10000, false⟩]⟩,
  ⟨0x11C, .rwd, 0x3E8, 0xFFFFFFFF, 0x0, 0, [⟨0, 32, 10, 20000, false⟩]⟩,
  ⟨0x120, .sel, 0x0, 0x1F, 0x0, 0, []⟩,
  ⟨0x124, .ro, 0x0, 0xFFFFFFFF, 0x120, 0, []⟩,
  ⟨0x128, .ro, 0x0, 0xFFFFFFFF, 0x120, 0, []⟩,
  ⟨0x12C, .ro, 0x0, 0xFFFFFFFF, 0x120, 0, []⟩,
  ⟨0x130, .ro, 0x0, 0xFFFFFFFF, 0x120, 0, []⟩,
  ⟨0x134, .wo, 0x0, 0xFFFFFFFF, 0x120, 0, []⟩,
  ⟨0x138, .ro, 0x0, 0xFFFFFFFF, 0x120, 0, []⟩,
  ⟨0x13C, .ro, 0x0, 0xFFFFFFFF, 0x120, 0, []⟩,
  ⟨0x140, .rw, 0x0, 0x1, 0x0, 0, []⟩,
  ⟨0x144, .rw, 0x0, 0x3FFF, 0x0, 0, []⟩,
  ⟨0x148, .rw, 0x0, 0x3, 0x0, 0, []⟩,
  ⟨0x14C, .rw, 0x0, 0xFFFFFF, 0x0, 0, []⟩,
  ⟨0x150, .wo, 0x0, 0xFFFFFFFF, 0x0, 0, []⟩,
  ⟨0x154, .ro, 0x0, 0xFFFFFFFF, 0x0, 0, []⟩,
  ⟨0x158, .ro, 0x0, 0xFFFFFFFF, 0x0, 0, []⟩,
  ⟨0x15C, .ro, 0x0, 0xFFFFFFFF, 0x0, 0, []⟩,
  ⟨0x160, .ro, 0x0, 0xFFFFFFFF, 0x0, 0, []⟩,
  ⟨0x164, .ro, 0x0, 0xFFFFFFFF, 0x0, 0, []⟩,
  ⟨0x168, .ro, 0x0, 0xFFFFFFFF, 0x0, 0, []⟩,
  ⟨0x16C, .ro, 0x0, 0xFFFFFFFF, 0x0, 0, []⟩,
  ⟨0x170, .ro, 0x0, 0xFFFFFFFF, 0x0, 0, []⟩,
  ⟨0x174, .ro, 0x0, 0xFFFFFFFF, 0x0, 0, []⟩]

/-- The `REBUILD` rows, part 2: offset, access, reset, writable bits, selector, pair, checks. -/
def rebuildRows2 : List RegRow := [
  ⟨0x178, .ro, 0x0, 0xFFFFFFFF, 0x0, 0, []⟩,
  ⟨0x17C, .ro, 0x0, 0xFFFFFFFF, 0x0, 0, []⟩,
  ⟨0x180, .ro, 0x0, 0xFFFFFFFF, 0x0, 0, []⟩,
  ⟨0x184, .ro, 0x0, 0xFFFFFFFF, 0x0, 0, []⟩]

/-- The `REBUILD` rows. -/
def rebuildRows : List RegRow := rebuildRows1 ++ rebuildRows2

/-- The `CADASTRE` rows: offset, access, reset, writable bits, selector, pair, checks. -/
def cadastreRows : List RegRow := [
  ⟨0x100, .rwd, 0x1, 0x3, 0x0, 0, [⟨0, 2, 0, 2, false⟩]⟩,
  ⟨0x104, .ro, 0x0, 0xFFFFFFFF, 0x0, 0, []⟩,
  ⟨0x108, .ro, 0x0, 0xFFFFFFFF, 0x0, 0, []⟩,
  ⟨0x10C, .ro, 0x0, 0xFFFFFFFF, 0x0, 0, []⟩,
  ⟨0x110, .ro, 0x0, 0xFFFFFFFF, 0x0, 0, []⟩,
  ⟨0x114, .rwd, 0x32, 0xFFFFFFFF, 0x0, 0, [⟨0, 32, 5, 1000, false⟩]⟩,
  ⟨0x118, .ro, 0x0, 0xFFFFFFFF, 0x0, 0, []⟩,
  ⟨0x11C, .ro, 0x0, 0xFFFFFFFF, 0x0, 0, []⟩,
  ⟨0x120, .ro, 0x0, 0xFFFFFFFF, 0x0, 0, []⟩,
  ⟨0x124, .ro, 0x0, 0xFFFFFFFF, 0x0, 0, []⟩,
  ⟨0x128, .ro, 0x0, 0xFFFFFFFF, 0x0, 0, []⟩,
  ⟨0x12C, .ro, 0x0, 0xFFFFFFFF, 0x0, 0, []⟩,
  ⟨0x130, .ro, 0x0, 0xFFFFFFFF, 0x0, 0, []⟩,
  ⟨0x134, .ro, 0x0, 0xFFFFFFFF, 0x0, 0, []⟩,
  ⟨0x138, .sel, 0x0, 0x3FFFFFF, 0x0, 0, []⟩,
  ⟨0x13C, .ro, 0x0, 0xFFFFFFFF, 0x0, 0, []⟩,
  ⟨0x140, .ro, 0x0, 0xFFFFFFFF, 0x0, 0, []⟩,
  ⟨0x144, .ro, 0x0, 0xFFFFFFFF, 0x0, 0, []⟩,
  ⟨0x148, .ro, 0x0, 0xFFFFFFFF, 0x0, 0, []⟩,
  ⟨0x14C, .ro, 0x0, 0xFFFFFFFF, 0x0, 0, []⟩]

/-- The `TRAV` rows: offset, access, reset, writable bits, selector, pair, checks. -/
def travRows : List RegRow := [
  ⟨0x100, .rwd, 0x3, 0x3, 0x0, 0, []⟩,
  ⟨0x104, .ro, 0x0, 0xFFFFFFFF, 0x0, 0, []⟩,
  ⟨0x108, .ro, 0x10000, 0xFFFFFFFF, 0x0, 0, []⟩,
  ⟨0x10C, .ro, 0x0, 0xFFFFFFFF, 0x0, 0, []⟩,
  ⟨0x110, .rwd, 0x3E8, 0xFFFFFFFF, 0x0, 0, [⟨0, 32, 10, 60000, false⟩]⟩,
  ⟨0x114, .rwd, 0x32, 0xFFFFFFFF, 0x0, 0, [⟨0, 32, 10, 1000, false⟩]⟩,
  ⟨0x118, .ro, 0x0, 0xFFFFFFFF, 0x0, 0, []⟩,
  ⟨0x11C, .ro, 0x0, 0xFFFFFFFF, 0x0, 0, []⟩,
  ⟨0x120, .ro, 0x0, 0xFFFFFFFF, 0x0, 0, []⟩,
  ⟨0x124, .ro, 0x0, 0xFFFFFFFF, 0x0, 0, []⟩,
  ⟨0x128, .ro, 0x0, 0xFFFFFFFF, 0x0, 0, []⟩,
  ⟨0x12C, .ro, 0x0, 0xFFFFFFFF, 0x0, 0, []⟩,
  ⟨0x130, .ro, 0x0, 0xFFFFFFFF, 0x0, 0, []⟩,
  ⟨0x134, .ro, 0x0, 0xFFFFFFFF, 0x0, 0, []⟩,
  ⟨0x138, .ro, 0x0, 0xFFFFFFFF, 0x0, 0, []⟩,
  ⟨0x13C, .sel, 0x0, 0xFFF, 0x0, 0, []⟩,
  ⟨0x140, .sel, 0x0, 0xFFFFFFFF, 0x0, 0, []⟩,
  ⟨0x144, .rw, 0x0, 0xFFFFFFFF, 0x0, 0, []⟩,
  ⟨0x148, .ro, 0x0, 0xFFFFFFFF, 0x0, 0, []⟩]

/-- The `EP` rows: offset, access, reset, writable bits, selector, pair, checks. -/
def epRows : List RegRow := [
  ⟨0x100, .rwd, 0x7, 0xF, 0x0, 0, []⟩,
  ⟨0x104, .ro, 0x0, 0xFFFFFFFF, 0x0, 0, []⟩,
  ⟨0x108, .ro, 0x0, 0xFFFFFFFF, 0x0, 0, []⟩,
  ⟨0x10C, .rwd, 0xA, 0xFFFFFFFF, 0x0, 0, [⟨0, 32, 1, 50, false⟩]⟩,
  ⟨0x110, .rwd, 0x64, 0xFFFFFFFF, 0x0, 0, [⟨0, 32, 10, 100000, false⟩]⟩,
  ⟨0x114, .rwd, 0x3E8, 0xFFFFFFFF, 0x0, 0, [⟨0, 32, 0, 1000000, false⟩]⟩,
  ⟨0x118, .rwd, 0x64, 0xFFFFFFFF, 0x0, 0, [⟨0, 32, 0, 10000, false⟩]⟩,
  ⟨0x11C, .ro, 0x0, 0xFFFFFFFF, 0x0, 0, []⟩,
  ⟨0x120, .ro, 0x0, 0xFFFFFFFF, 0x0, 0, []⟩,
  ⟨0x124, .ro, 0x0, 0xFFFFFFFF, 0x0, 0, []⟩,
  ⟨0x128, .ro, 0x0, 0xFFFFFFFF, 0x0, 0, []⟩,
  ⟨0x12C, .ro, 0x0, 0xFFFFFFFF, 0x0, 0, []⟩,
  ⟨0x130, .ro, 0x0, 0xFFFFFFFF, 0x0, 0, []⟩,
  ⟨0x134, .ro, 0x0, 0xFFFFFFFF, 0x0, 0, []⟩,
  ⟨0x138, .ro, 0x0, 0xFFFFFFFF, 0x0, 0, []⟩,
  ⟨0x13C, .sel, 0x0, 0xFF, 0x0, 0, []⟩,
  ⟨0x140, .ro, 0x0, 0xFFFFFFFF, 0x13C, 0, []⟩,
  ⟨0x144, .rwd, 0x0, 0xFFF, 0x13C, 0, []⟩,
  ⟨0x148, .ro, 0x0, 0xFFFFFFFF, 0x13C, 0, []⟩]

/-- The `RINGS` rows: offset, access, reset, writable bits, selector, pair, checks. -/
def ringsRows : List RegRow := [
  ⟨0x100, .rwd, 0x3, 0x3, 0x0, 0, []⟩,
  ⟨0x104, .ro, 0x0, 0xFFFFFFFF, 0x0, 0, []⟩,
  ⟨0x108, .ro, 0x10000, 0xFFFFFFFF, 0x0, 0, []⟩,
  ⟨0x10C, .ro, 0xE000, 0xFFFFFFFF, 0x0, 0, []⟩,
  ⟨0x110, .ro, 0x0, 0xFFFFFFFF, 0x0, 0, []⟩,
  ⟨0x114, .rwd, 0x4, 0xFFFFFFFF, 0x0, 0, [⟨0, 32, 1, 16, false⟩]⟩,
  ⟨0x118, .ro, 0x0, 0xFFFFFFFF, 0x0, 0, []⟩,
  ⟨0x11C, .ro, 0x0, 0xFFFFFFFF, 0x0, 0, []⟩,
  ⟨0x120, .ro, 0x0, 0xFFFFFFFF, 0x0, 0, []⟩,
  ⟨0x124, .ro, 0x0, 0xFFFFFFFF, 0x0, 0, []⟩,
  ⟨0x128, .ro, 0x0, 0xFFFFFFFF, 0x0, 0, []⟩,
  ⟨0x12C, .ro, 0x0, 0xFFFFFFFF, 0x0, 0, []⟩,
  ⟨0x130, .sel, 0x0, 0xFF, 0x0, 0, []⟩,
  ⟨0x134, .rwd, 0x0, 0xFFFF, 0x130, 0, []⟩,
  ⟨0x138, .rwd, 0x0, 0xFFFFFFFF, 0x130, 0, [⟨0, 32, 0, 57344, false⟩]⟩,
  ⟨0x13C, .rwd, 0xFF, 0xFFFFFFFF, 0x130, 0, [⟨0, 32, 1, 255, false⟩]⟩,
  ⟨0x140, .sel, 0x0, 0xFFFF, 0x0, 0, []⟩,
  ⟨0x144, .ro, 0x0, 0xFFFFFFFF, 0x140, 0, []⟩,
  ⟨0x148, .ro, 0x0, 0xFFFFFFFF, 0x140, 0, []⟩,
  ⟨0x14C, .ro, 0x0, 0xFFFFFFFF, 0x140, 0, []⟩,
  ⟨0x150, .rwd, 0x401, 0x3FFF, 0x140, 0, [⟨0, 8, 1, 255, false⟩, ⟨8, 6, 1, 32, false⟩]⟩]

/-- The `RP` rows: offset, access, reset, writable bits, selector, pair, checks. -/
def rpRows : List RegRow := [
  ⟨0x100, .rwd, 0x7, 0x7, 0x0, 0, []⟩,
  ⟨0x104, .ro, 0x1, 0xFFFFFFFF, 0x0, 0, []⟩,
  ⟨0x108, .rwd, 0x10, 0xFFFFFFFF, 0x0, 0, [⟨0, 32, 1, 100, false⟩]⟩,
  ⟨0x10C, .rwd, 0x4, 0xFFFFFFFF, 0x0, 0, [⟨0, 32, 1, 64, false⟩]⟩,
  ⟨0x110, .rwd, 0x32, 0xFFFFFFFF, 0x0, 0, [⟨0, 32, 1, 1000, false⟩]⟩,
  ⟨0x114, .rwd, 0x4E20, 0xFFFFFFFF, 0x0, 0, [⟨0, 32, 1000, 60000, false⟩]⟩,
  ⟨0x118, .rwd, 0x64, 0xFFFFFFFF, 0x0, 0, [⟨0, 32, 10, 100000, false⟩]⟩,
  ⟨0x11C, .ro, 0x0, 0xFFFFFFFF, 0x0, 0, []⟩,
  ⟨0x120, .ro, 0x0, 0xFFFFFFFF, 0x0, 0, []⟩,
  ⟨0x124, .ro, 0x0, 0xFFFFFFFF, 0x0, 0, []⟩,
  ⟨0x128, .ro, 0x0, 0xFFFFFFFF, 0x0, 0, []⟩,
  ⟨0x12C, .ro, 0x0, 0xFFFFFFFF, 0x0, 0, []⟩,
  ⟨0x130, .ro, 0x0, 0xFFFFFFFF, 0x0, 0, []⟩,
  ⟨0x134, .ro, 0x0, 0xFFFFFFFF, 0x0, 0, []⟩,
  ⟨0x138, .ro, 0x0, 0xFFFFFFFF, 0x0, 0, []⟩,
  ⟨0x13C, .ro, 0x0, 0xFFFFFFFF, 0x0, 1, []⟩,
  ⟨0x140, .ro, 0x0, 0xFFFFFFFF, 0x0, 2, []⟩,
  ⟨0x144, .ro, 0x0, 0xFFFFFFFF, 0x0, 0, []⟩,
  ⟨0x148, .ro, 0x0, 0xFFFFFFFF, 0x0, 0, []⟩]

/-- The `BAYPWR` rows, part 1: offset, access, reset, writable bits, selector, pair, checks. -/
def baypwrRows1 : List RegRow := [
  ⟨0x100, .rwd, 0x1, 0x1, 0x0, 0, []⟩,
  ⟨0x104, .ro, 0x0, 0xFFFFFFFF, 0x0, 0, []⟩,
  ⟨0x108, .rwd, 0x27D8, 0xFFFFFFFF, 0x0, 0, [⟨0, 32, 8000, 11500, false⟩]⟩,
  ⟨0x10C, .rwd, 0x3390, 0xFFFFFFFF, 0x0, 0, [⟨0, 32, 12600, 14500, false⟩]⟩,
  ⟨0x110, .rwd, 0xFA, 0xFFFFFFFF, 0x0, 0, [⟨0, 32, 0, 10000, false⟩]⟩,
  ⟨0x114, .rwd, 0x64, 0xFFFFFFFF, 0x0, 0, [⟨0, 32, 100, 10000, false⟩]⟩,
  ⟨0x118, .rwd, 0x32, 0xFFFFFFFF, 0x0, 0, [⟨0, 32, 0, 1000, false⟩]⟩,
  ⟨0x11C, .rwd, 0x4, 0xFFFFFFFF, 0x0, 0, [⟨0, 32, 1, 24, false⟩]⟩,
  ⟨0x200, .rwd, 0x1, 0x1, 0x0, 0, []⟩,
  ⟨0x240, .rwd, 0x1, 0x1, 0x0, 0, []⟩,
  ⟨0x280, .rwd, 0x1, 0x1, 0x0, 0, []⟩,
  ⟨0x2C0, .rwd, 0x1, 0x1, 0x0, 0, []⟩,
  ⟨0x300, .rwd, 0x1, 0x1, 0x0, 0, []⟩,
  ⟨0x340, .rwd, 0x1, 0x1, 0x0, 0, []⟩,
  ⟨0x204, .rwd, 0x17864, 0x3FFFF, 0x0, 0, [⟨0, 8, 10, 200, false⟩, ⟨8, 8, 20, 200, false⟩]⟩,
  ⟨0x244, .rwd, 0x17864, 0x3FFFF, 0x0, 0, [⟨0, 8, 10, 200, false⟩, ⟨8, 8, 20, 200, false⟩]⟩,
  ⟨0x284, .rwd, 0x17864, 0x3FFFF, 0x0, 0, [⟨0, 8, 10, 200, false⟩, ⟨8, 8, 20, 200, false⟩]⟩,
  ⟨0x2C4, .rwd, 0x17864, 0x3FFFF, 0x0, 0, [⟨0, 8, 10, 200, false⟩, ⟨8, 8, 20, 200, false⟩]⟩,
  ⟨0x304, .rwd, 0x17864, 0x3FFFF, 0x0, 0, [⟨0, 8, 10, 200, false⟩, ⟨8, 8, 20, 200, false⟩]⟩,
  ⟨0x344, .rwd, 0x17864, 0x3FFFF, 0x0, 0, [⟨0, 8, 10, 200, false⟩, ⟨8, 8, 20, 200, false⟩]⟩,
  ⟨0x208, .rwd, 0x14, 0x7F, 0x0, 0, [⟨0, 7, 5, 100, false⟩]⟩,
  ⟨0x248, .rwd, 0x14, 0x7F, 0x0, 0, [⟨0, 7, 5, 100, false⟩]⟩,
  ⟨0x288, .rwd, 0x14, 0x7F, 0x0, 0, [⟨0, 7, 5, 100, false⟩]⟩,
  ⟨0x2C8, .rwd, 0x14, 0x7F, 0x0, 0, [⟨0, 7, 5, 100, false⟩]⟩,
  ⟨0x308, .rwd, 0x14, 0x7F, 0x0, 0, [⟨0, 7, 5, 100, false⟩]⟩,
  ⟨0x348, .rwd, 0x14, 0x7F, 0x0, 0, [⟨0, 7, 5, 100, false⟩]⟩,
  ⟨0x20C, .rwd, 0x64, 0xFF, 0x0, 0, [⟨0, 8, 5, 250, false⟩]⟩,
  ⟨0x24C, .rwd, 0x64, 0xFF, 0x0, 0, [⟨0, 8, 5, 250, false⟩]⟩,
  ⟨0x28C, .rwd, 0x64, 0xFF, 0x0, 0, [⟨0, 8, 5, 250, false⟩]⟩,
  ⟨0x2CC, .rwd, 0x64, 0xFF, 0x0, 0, [⟨0, 8, 5, 250, false⟩]⟩]

/-- The `BAYPWR` rows, part 2: offset, access, reset, writable bits, selector, pair, checks. -/
def baypwrRows2 : List RegRow := [
  ⟨0x30C, .rwd, 0x64, 0xFF, 0x0, 0, [⟨0, 8, 5, 250, false⟩]⟩,
  ⟨0x34C, .rwd, 0x64, 0xFF, 0x0, 0, [⟨0, 8, 5, 250, false⟩]⟩,
  ⟨0x210, .rwd, 0x700A0, 0xFF1FFF, 0x0, 0, [⟨0, 13, 10, 6000, false⟩]⟩,
  ⟨0x250, .rwd, 0x700A0, 0xFF1FFF, 0x0, 0, [⟨0, 13, 10, 6000, false⟩]⟩,
  ⟨0x290, .rwd, 0x700A0, 0xFF1FFF, 0x0, 0, [⟨0, 13, 10, 6000, false⟩]⟩,
  ⟨0x2D0, .rwd, 0x700A0, 0xFF1FFF, 0x0, 0, [⟨0, 13, 10, 6000, false⟩]⟩,
  ⟨0x310, .rwd, 0x700A0, 0xFF1FFF, 0x0, 0, [⟨0, 13, 10, 6000, false⟩]⟩,
  ⟨0x350, .rwd, 0x700A0, 0xFF1FFF, 0x0, 0, [⟨0, 13, 10, 6000, false⟩]⟩,
  ⟨0x214, .ro, 0x0, 0xFFFFFFFF, 0x0, 0, []⟩,
  ⟨0x254, .ro, 0x0, 0xFFFFFFFF, 0x0, 0, []⟩,
  ⟨0x294, .ro, 0x0, 0xFFFFFFFF, 0x0, 0, []⟩,
  ⟨0x2D4, .ro, 0x0, 0xFFFFFFFF, 0x0, 0, []⟩,
  ⟨0x314, .ro, 0x0, 0xFFFFFFFF, 0x0, 0, []⟩,
  ⟨0x354, .ro, 0x0, 0xFFFFFFFF, 0x0, 0, []⟩,
  ⟨0x218, .rw1c, 0x0, 0xFFFFFFFF, 0x0, 0, []⟩,
  ⟨0x258, .rw1c, 0x0, 0xFFFFFFFF, 0x0, 0, []⟩,
  ⟨0x298, .rw1c, 0x0, 0xFFFFFFFF, 0x0, 0, []⟩,
  ⟨0x2D8, .rw1c, 0x0, 0xFFFFFFFF, 0x0, 0, []⟩,
  ⟨0x318, .rw1c, 0x0, 0xFFFFFFFF, 0x0, 0, []⟩,
  ⟨0x358, .rw1c, 0x0, 0xFFFFFFFF, 0x0, 0, []⟩,
  ⟨0x21C, .ro, 0x0, 0xFFFFFFFF, 0x0, 0, []⟩,
  ⟨0x25C, .ro, 0x0, 0xFFFFFFFF, 0x0, 0, []⟩,
  ⟨0x29C, .ro, 0x0, 0xFFFFFFFF, 0x0, 0, []⟩,
  ⟨0x2DC, .ro, 0x0, 0xFFFFFFFF, 0x0, 0, []⟩,
  ⟨0x31C, .ro, 0x0, 0xFFFFFFFF, 0x0, 0, []⟩,
  ⟨0x35C, .ro, 0x0, 0xFFFFFFFF, 0x0, 0, []⟩,
  ⟨0x220, .ro, 0x0, 0xFFFFFFFF, 0x0, 0, []⟩,
  ⟨0x260, .ro, 0x0, 0xFFFFFFFF, 0x0, 0, []⟩,
  ⟨0x2A0, .ro, 0x0, 0xFFFFFFFF, 0x0, 0, []⟩,
  ⟨0x2E0, .ro, 0x0, 0xFFFFFFFF, 0x0, 0, []⟩]

/-- The `BAYPWR` rows, part 3: offset, access, reset, writable bits, selector, pair, checks. -/
def baypwrRows3 : List RegRow := [
  ⟨0x320, .ro, 0x0, 0xFFFFFFFF, 0x0, 0, []⟩,
  ⟨0x360, .ro, 0x0, 0xFFFFFFFF, 0x0, 0, []⟩,
  ⟨0x224, .ro, 0x0, 0xFFFFFFFF, 0x0, 0, []⟩,
  ⟨0x264, .ro, 0x0, 0xFFFFFFFF, 0x0, 0, []⟩,
  ⟨0x2A4, .ro, 0x0, 0xFFFFFFFF, 0x0, 0, []⟩,
  ⟨0x2E4, .ro, 0x0, 0xFFFFFFFF, 0x0, 0, []⟩,
  ⟨0x324, .ro, 0x0, 0xFFFFFFFF, 0x0, 0, []⟩,
  ⟨0x364, .ro, 0x0, 0xFFFFFFFF, 0x0, 0, []⟩,
  ⟨0x228, .ro, 0x0, 0xFFFFFFFF, 0x0, 0, []⟩,
  ⟨0x268, .ro, 0x0, 0xFFFFFFFF, 0x0, 0, []⟩,
  ⟨0x2A8, .ro, 0x0, 0xFFFFFFFF, 0x0, 0, []⟩,
  ⟨0x2E8, .ro, 0x0, 0xFFFFFFFF, 0x0, 0, []⟩,
  ⟨0x328, .ro, 0x0, 0xFFFFFFFF, 0x0, 0, []⟩,
  ⟨0x368, .ro, 0x0, 0xFFFFFFFF, 0x0, 0, []⟩,
  ⟨0x22C, .wo, 0x0, 0xFFFFFFFF, 0x0, 0, []⟩,
  ⟨0x26C, .wo, 0x0, 0xFFFFFFFF, 0x0, 0, []⟩,
  ⟨0x2AC, .wo, 0x0, 0xFFFFFFFF, 0x0, 0, []⟩,
  ⟨0x2EC, .wo, 0x0, 0xFFFFFFFF, 0x0, 0, []⟩,
  ⟨0x32C, .wo, 0x0, 0xFFFFFFFF, 0x0, 0, []⟩,
  ⟨0x36C, .wo, 0x0, 0xFFFFFFFF, 0x0, 0, []⟩,
  ⟨0x230, .ro, 0x0, 0xFFFFFFFF, 0x0, 0, []⟩,
  ⟨0x270, .ro, 0x0, 0xFFFFFFFF, 0x0, 0, []⟩,
  ⟨0x2B0, .ro, 0x0, 0xFFFFFFFF, 0x0, 0, []⟩,
  ⟨0x2F0, .ro, 0x0, 0xFFFFFFFF, 0x0, 0, []⟩,
  ⟨0x330, .ro, 0x0, 0xFFFFFFFF, 0x0, 0, []⟩,
  ⟨0x370, .ro, 0x0, 0xFFFFFFFF, 0x0, 0, []⟩,
  ⟨0x234, .ro, 0x0, 0xFFFFFFFF, 0x0, 0, []⟩,
  ⟨0x274, .ro, 0x0, 0xFFFFFFFF, 0x0, 0, []⟩,
  ⟨0x2B4, .ro, 0x0, 0xFFFFFFFF, 0x0, 0, []⟩,
  ⟨0x2F4, .ro, 0x0, 0xFFFFFFFF, 0x0, 0, []⟩]

/-- The `BAYPWR` rows, part 4: offset, access, reset, writable bits, selector, pair, checks. -/
def baypwrRows4 : List RegRow := [
  ⟨0x334, .ro, 0x0, 0xFFFFFFFF, 0x0, 0, []⟩,
  ⟨0x374, .ro, 0x0, 0xFFFFFFFF, 0x0, 0, []⟩,
  ⟨0x238, .ro, 0x0, 0xFFFFFFFF, 0x0, 0, []⟩,
  ⟨0x278, .ro, 0x0, 0xFFFFFFFF, 0x0, 0, []⟩,
  ⟨0x2B8, .ro, 0x0, 0xFFFFFFFF, 0x0, 0, []⟩,
  ⟨0x2F8, .ro, 0x0, 0xFFFFFFFF, 0x0, 0, []⟩,
  ⟨0x338, .ro, 0x0, 0xFFFFFFFF, 0x0, 0, []⟩,
  ⟨0x378, .ro, 0x0, 0xFFFFFFFF, 0x0, 0, []⟩]

/-- The `BAYPWR` rows. -/
def baypwrRows : List RegRow := baypwrRows1 ++ baypwrRows2 ++ baypwrRows3 ++ baypwrRows4

/-- The `SIDEBAND` rows: offset, access, reset, writable bits, selector, pair, checks. -/
def sidebandRows : List RegRow := [
  ⟨0x100, .rwd, 0x7, 0x7, 0x0, 0, []⟩,
  ⟨0x104, .ro, 0x0, 0xFFFFFFFF, 0x0, 0, []⟩,
  ⟨0x108, .ro, 0x0, 0xFFFFFFFF, 0x0, 0, []⟩,
  ⟨0x10C, .ro, 0x0, 0xFFFFFFFF, 0x0, 0, []⟩,
  ⟨0x110, .ro, 0x0, 0xFFFFFFFF, 0x0, 0, []⟩,
  ⟨0x114, .rw1c, 0x0, 0xFFFFFF, 0x0, 0, []⟩,
  ⟨0x118, .rw1c, 0x0, 0xFFFFFFFF, 0x0, 0, []⟩,
  ⟨0x11C, .rw1c, 0x0, 0xFFFFFFFF, 0x0, 0, []⟩,
  ⟨0x120, .ro, 0x0, 0xFFFFFFFF, 0x0, 0, []⟩,
  ⟨0x124, .ro, 0x0, 0xFFFFFFFF, 0x0, 0, []⟩,
  ⟨0x128, .ro, 0x0, 0xFFFFFFFF, 0x0, 0, []⟩,
  ⟨0x12C, .rwd, 0x0, 0xFFFFFFFF, 0x0, 0, []⟩,
  ⟨0x130, .rwd, 0x0, 0xFFFFFFFF, 0x0, 0, []⟩,
  ⟨0x134, .rwd, 0x0, 0xFFFFFFFF, 0x0, 0, []⟩,
  ⟨0x138, .rwd, 0x0, 0xFFFFFFFF, 0x0, 0, []⟩,
  ⟨0x13C, .rwd, 0x0, 0xFFFFFFFF, 0x0, 0, []⟩,
  ⟨0x140, .rwd, 0x0, 0xFFFFFFFF, 0x0, 0, []⟩,
  ⟨0x144, .ro, 0x0, 0xFFFFFFFF, 0x0, 0, []⟩,
  ⟨0x148, .ro, 0x0, 0xFFFFFFFF, 0x0, 0, []⟩,
  ⟨0x14C, .ro, 0x0, 0xFFFFFFFF, 0x0, 0, []⟩,
  ⟨0x150, .ro, 0x0, 0xFFFFFFFF, 0x0, 0, []⟩]

/-- The `ZEBER` rows: offset, access, reset, writable bits, selector, pair, checks. -/
def zeberRows : List RegRow := [
  ⟨0x100, .rwd, 0x1, 0x7, 0x0, 0, [⟨1, 2, 0, 2, false⟩]⟩,
  ⟨0x104, .ro, 0x0, 0xFFFFFFFF, 0x0, 0, []⟩,
  ⟨0x108, .ro, 0x0, 0xFFFFFFFF, 0x0, 0, []⟩,
  ⟨0x10C, .ro, 0x0, 0xFFFFFFFF, 0x0, 0, []⟩,
  ⟨0x110, .ro, 0x0, 0xFFFFFFFF, 0x0, 0, []⟩,
  ⟨0x114, .ro, 0x0, 0xFFFFFFFF, 0x0, 0, []⟩,
  ⟨0x118, .ro, 0x0, 0xFFFFFFFF, 0x0, 0, []⟩,
  ⟨0x11C, .ro, 0x0, 0xFFFFFFFF, 0x0, 0, []⟩,
  ⟨0x120, .ro, 0x0, 0xFFFFFFFF, 0x0, 1, []⟩,
  ⟨0x124, .ro, 0x0, 0xFFFFFFFF, 0x0, 2, []⟩,
  ⟨0x128, .ro, 0x0, 0xFFFFFFFF, 0x0, 1, []⟩,
  ⟨0x12C, .ro, 0x0, 0xFFFFFFFF, 0x0, 2, []⟩,
  ⟨0x130, .ro, 0x0, 0xFFFFFFFF, 0x0, 0, []⟩,
  ⟨0x134, .ro, 0x0, 0xFFFFFFFF, 0x0, 0, []⟩,
  ⟨0x138, .ro, 0x0, 0xFFFFFFFF, 0x0, 0, []⟩,
  ⟨0x13C, .ro, 0x0, 0xFFFFFFFF, 0x0, 0, []⟩]

/-- The `PAIR` rows: offset, access, reset, writable bits, selector, pair, checks. -/
def pairRows : List RegRow := [
  ⟨0x100, .rwd, 0x7, 0x7, 0x0, 0, []⟩,
  ⟨0x104, .ro, 0x1, 0xFFFFFFFF, 0x0, 0, []⟩,
  ⟨0x108, .ro, 0x0, 0xFFFFFFFF, 0x0, 1, []⟩,
  ⟨0x10C, .ro, 0x0, 0xFFFFFFFF, 0x0, 2, []⟩,
  ⟨0x110, .rwd, 0xA, 0xFFFFFFFF, 0x0, 0, [⟨0, 32, 5, 100, false⟩]⟩,
  ⟨0x114, .rwd, 0x5DC, 0xFFFFFFFF, 0x0, 0, [⟨0, 32, 500, 20000, false⟩]⟩,
  ⟨0x118, .rwd, 0x1F4, 0xFFFFFFFF, 0x0, 0, [⟨0, 32, 0, 10000, false⟩]⟩,
  ⟨0x11C, .rwd, 0x32, 0xFFFFFFFF, 0x0, 0, [⟨0, 32, 10, 1000, false⟩]⟩,
  ⟨0x120, .rwd, 0x1E, 0xFFFFFFFF, 0x0, 0, [⟨0, 32, 5, 600, false⟩]⟩,
  ⟨0x124, .ro, 0x0, 0xFFFFFFFF, 0x0, 0, []⟩,
  ⟨0x128, .ro, 0x0, 0xFFFFFFFF, 0x0, 0, []⟩,
  ⟨0x12C, .sel, 0x0, 0x3FFF, 0x0, 0, []⟩,
  ⟨0x130, .wo, 0x0, 0xFFFFFFFF, 0x0, 0, []⟩,
  ⟨0x134, .ro, 0x0, 0xFFFFFFFF, 0x0, 0, []⟩,
  ⟨0x138, .ro, 0x0, 0xFFFFFFFF, 0x0, 0, []⟩,
  ⟨0x13C, .ro, 0x0, 0xFFFFFFFF, 0x0, 0, []⟩,
  ⟨0x140, .ro, 0x0, 0xFFFFFFFF, 0x0, 0, []⟩,
  ⟨0x144, .ro, 0x0, 0xFFFFFFFF, 0x0, 0, []⟩,
  ⟨0x148, .ro, 0x0, 0xFFFFFFFF, 0x0, 0, []⟩,
  ⟨0x14C, .ro, 0x0, 0xFFFFFFFF, 0x0, 0, []⟩,
  ⟨0x150, .ro, 0x0, 0xFFFFFFFF, 0x0, 0, []⟩]

/-- The `HBM` rows: offset, access, reset, writable bits, selector, pair, checks. -/
def hbmRows : List RegRow := [
  ⟨0x100, .ro, 0x0, 0xFFFFFFFF, 0x0, 0, []⟩,
  ⟨0x104, .ro, 0x60, 0xFFFFFFFF, 0x0, 0, []⟩,
  ⟨0x108, .ro, 0x0, 0xFFFFFFFF, 0x0, 0, []⟩,
  ⟨0x10C, .ro, 0x0, 0xFFFFFFFF, 0x0, 0, []⟩,
  ⟨0x110, .ro, 0x0, 0xFFFFFFFF, 0x0, 0, []⟩,
  ⟨0x114, .ro, 0x0, 0xFFFFFFFF, 0x0, 0, []⟩]

/-- The `DDR` rows: offset, access, reset, writable bits, selector, pair, checks. -/
def ddrRows : List RegRow := [
  ⟨0x100, .ro, 0x0, 0xFFFFFFFF, 0x0, 0, []⟩,
  ⟨0x104, .ro, 0x0, 0xFFFFFFFF, 0x0, 0, []⟩,
  ⟨0x108, .sel, 0x0, 0x7, 0x0, 0, []⟩,
  ⟨0x10C, .ro, 0x0, 0xFFFFFFFF, 0x108, 0, []⟩,
  ⟨0x110, .ro, 0x0, 0xFFFFFFFF, 0x108, 0, []⟩,
  ⟨0x114, .ro, 0x0, 0xFFFFFFFF, 0x108, 0, []⟩,
  ⟨0x118, .ro, 0x0, 0xFFFFFFFF, 0x108, 0, []⟩,
  ⟨0x11C, .ro, 0x0, 0xFFFFFFFF, 0x108, 0, []⟩]

/-- The `TELEM` rows, part 1: offset, access, reset, writable bits, selector, pair, checks. -/
def telemRows1 : List RegRow := [
  ⟨0x100, .rwd, 0x3, 0x3, 0x0, 0, []⟩,
  ⟨0x104, .ro, 0x0, 0xFFFFFFFF, 0x0, 0, []⟩,
  ⟨0x108, .rwd, 0x64, 0xFFFFFFFF, 0x0, 0, [⟨0, 32, 1, 10000, false⟩]⟩,
  ⟨0x10C, .rwd, 0x20, 0xFFFFFFFF, 0x0, 0, [⟨0, 32, 1, 255, false⟩]⟩,
  ⟨0x110, .rwd, 0x64, 0xFFFFFFFF, 0x0, 0, [⟨0, 32, 10, 100000, false⟩]⟩,
  ⟨0x114, .rwd, 0x3E8, 0xFFFFFFFF, 0x0, 0, [⟨0, 32, 0, 1000000, false⟩]⟩,
  ⟨0x118, .ro, 0x0, 0xFFFFFFFF, 0x0, 0, []⟩,
  ⟨0x11C, .ro, 0x0, 0xFFFFFFFF, 0x0, 0, []⟩,
  ⟨0x120, .sel, 0x0, 0xFF, 0x0, 0, []⟩,
  ⟨0x124, .ro, 0x0, 0xFFFFFFFF, 0x120, 0, []⟩,
  ⟨0x128, .ro, 0x0, 0xFFFFFFFF, 0x120, 0, []⟩,
  ⟨0x12C, .ro, 0x0, 0xFFFFFFFF, 0x120, 0, []⟩,
  ⟨0x130, .ro, 0x0, 0xFFFFFFFF, 0x120, 0, []⟩,
  ⟨0x134, .ro, 0x0, 0xFFFFFFFF, 0x120, 0, []⟩,
  ⟨0x138, .ro, 0x0, 0xFFFFFFFF, 0x120, 0, []⟩,
  ⟨0x13C, .ro, 0x0, 0xFFFFFFFF, 0x120, 0, []⟩,
  ⟨0x140, .ro, 0x0, 0xFFFFFFFF, 0x120, 0, []⟩,
  ⟨0x144, .rwd, 0x3E8, 0xFFFFFFFF, 0x0, 0, [⟨0, 32, 10, 60000, false⟩]⟩,
  ⟨0x148, .rwd, 0x0, 0xF, 0x0, 0, []⟩,
  ⟨0x14C, .sel, 0x0, 0xFF, 0x0, 0, []⟩,
  ⟨0x150, .rwd, 0x0, 0xFFFFFD, 0x14C, 0, []⟩,
  ⟨0x154, .sel, 0x0, 0xF, 0x0, 0, []⟩,
  ⟨0x158, .rwd, 0x0, 0x3F, 0x154, 0, [⟨2, 4, 0, 10, false⟩]⟩,
  ⟨0x15C, .rwd, 0x0, 0xFFFFF000, 0x154, 1, []⟩,
  ⟨0x160, .rwd, 0x0, 0xFFFFFFFF, 0x154, 2, []⟩,
  ⟨0x164, .ro, 0x0, 0xFFFFFFFF, 0x154, 0, []⟩,
  ⟨0x168, .rw, 0x0, 0xFFFF, 0x154, 0, []⟩,
  ⟨0x16C, .ro, 0x0, 0xFFFFFFFF, 0x154, 0, []⟩,
  ⟨0x170, .rwd, 0x1, 0x3, 0x0, 0, []⟩,
  ⟨0x174, .rwd, 0x0, 0xFFFFFFFF, 0x0, 0, []⟩]

/-- The `TELEM` rows, part 2: offset, access, reset, writable bits, selector, pair, checks. -/
def telemRows2 : List RegRow := [
  ⟨0x178, .rwd, 0x0, 0xFFFFFFFF, 0x0, 0, []⟩,
  ⟨0x17C, .rwd, 0x0, 0xFFFFFFFF, 0x0, 0, []⟩,
  ⟨0x180, .rwd, 0x0, 0xFFFFFFFF, 0x0, 0, []⟩,
  ⟨0x184, .rwd, 0x0, 0xFFFFFFFF, 0x0, 0, []⟩,
  ⟨0x188, .rwd, 0x0, 0xFFFFFFFF, 0x0, 0, []⟩,
  ⟨0x18C, .rwd, 0x0, 0xFFFFFFFF, 0x0, 0, []⟩,
  ⟨0x190, .rwd, 0x0, 0xFFFFFFFF, 0x0, 0, []⟩,
  ⟨0x194, .rwd, 0x10621063, 0xFFFFFFFF, 0x0, 0, []⟩,
  ⟨0x198, .ro, 0x0, 0xFFFFFFFF, 0x0, 0, []⟩,
  ⟨0x19C, .rwd, 0x0, 0xFFFFFFFF, 0x0, 0, [⟨0, 32, 0, 3600, false⟩]⟩,
  ⟨0x1A0, .wo, 0x0, 0xFFFFFFFF, 0x0, 0, []⟩,
  ⟨0x1A4, .rwd, 0x40, 0x7F, 0x0, 0, []⟩]

/-- The `TELEM` rows. -/
def telemRows : List RegRow := telemRows1 ++ telemRows2

/-- The `HDR` rows: offset, access, reset, writable bits, selector, pair, checks. -/
def hdrRows : List RegRow := [
  ⟨0x000, .ro, 0x0, 0xFFFFFFFF, 0x0, 0, []⟩,
  ⟨0x004, .ro, 0x0, 0xFFFFFFFF, 0x0, 0, []⟩,
  ⟨0x008, .rwd, 0x1, 0x1, 0x0, 0, []⟩,
  ⟨0x00C, .ro, 0x0, 0xFFFFFFFF, 0x0, 0, []⟩,
  ⟨0x010, .rw1c, 0x0, 0xFFFFFFFF, 0x0, 0, []⟩,
  ⟨0x014, .rwd, 0xFFFFFFFF, 0xFFFFFFFF, 0x0, 0, []⟩,
  ⟨0x018, .wo, 0x0, 0xFFFFFFFF, 0x0, 0, []⟩,
  ⟨0x01C, .rwd, 0x0, 0xFFFFFFFF, 0x0, 0, [⟨0, 32, 0, 63, false⟩]⟩,
  ⟨0x020, .ro, 0x0, 0xFFFFFFFF, 0x0, 0, []⟩,
  ⟨0x024, .ro, 0x0, 0xFFFFFFFF, 0x0, 0, []⟩,
  ⟨0x028, .ro, 0x0, 0xFFFFFFFF, 0x0, 0, []⟩,
  ⟨0x02C, .ro, 0x0, 0xFFFFFFFF, 0x0, 0, []⟩,
  ⟨0x030, .ro, 0x0, 0xFFFFFFFF, 0x0, 0, []⟩]

/-- The page number of instance 0 of the block a page belongs to (R445, Table 1); none for an absent page. -/
def blockBase (page : Nat) : Option Nat :=
  if page = 0x0 then some 0x0
  else if page = 0x1 then some 0x1
  else if page = 0x2 then some 0x2
  else if page = 0x3 then some 0x3
  else if page = 0x4 then some 0x4
  else if page = 0x5 then some 0x5
  else if page = 0x6 then some 0x6
  else if 0x8 ≤ page ∧ page < 0x10 then some 0x8
  else if 0x10 ≤ page ∧ page < 0x12 then some 0x10
  else if page = 0x12 then some 0x12
  else if page = 0x13 then some 0x13
  else if page = 0x14 then some 0x14
  else if page = 0x15 then some 0x15
  else if page = 0x18 then some 0x18
  else if page = 0x19 then some 0x19
  else if page = 0x1A then some 0x1A
  else if page = 0x1C then some 0x1C
  else if page = 0x1D then some 0x1D
  else if page = 0x1E then some 0x1E
  else if page = 0x20 then some 0x20
  else if page = 0x21 then some 0x21
  else if page = 0x22 then some 0x22
  else if page = 0x23 then some 0x23
  else if page = 0x24 then some 0x24
  else if page = 0x25 then some 0x25
  else if page = 0x26 then some 0x26
  else if page = 0x28 then some 0x28
  else if page = 0x29 then some 0x29
  else if 0x30 ≤ page ∧ page < 0x48 then some 0x30
  else if 0x48 ≤ page ∧ page < 0x4C then some 0x48
  else if page = 0x4C then some 0x4C
  else if page = 0x50 then some 0x50
  else if page = 0x51 then some 0x51
  else if page = 0x58 then some 0x58
  else if page = 0x59 then some 0x59
  else if page = 0x60 then some 0x60
  else none

/-- The block rows of a page (empty for an absent page). -/
def pageRows (page : Nat) : List RegRow :=
  match blockBase page with
  | none => []
  | some b =>
    match b with
    | 0x0 => topRows
    | 0x1 => datumRows
    | 0x2 => pwrRows
    | 0x3 => clkRows
    | 0x4 => rstRows
    | 0x5 => evtRows
    | 0x6 => trustRows
    | 0x8 => netRows
    | 0x10 => parseRows
    | 0x12 => classRows
    | 0x13 => switchRows
    | 0x14 => bufRows
    | 0x15 => sampleRows
    | 0x18 => xportRows
    | 0x19 => keysRows
    | 0x1A => winRows
    | 0x1C => ciphwRows
    | 0x1D => ciphsRows
    | 0x1E => kstoreRows
    | 0x20 => nvmfRows
    | 0x21 => nsmgrRows
    | 0x22 => cacheRows
    | 0x23 => parityRows
    | 0x24 => rebuildRows
    | 0x25 => cadastreRows
    | 0x26 => travRows
    | 0x28 => epRows
    | 0x29 => ringsRows
    | 0x30 => rpRows
    | 0x48 => baypwrRows
    | 0x4C => sidebandRows
    | 0x50 => zeberRows
    | 0x51 => pairRows
    | 0x58 => hbmRows
    | 0x59 => ddrRows
    | 0x60 => telemRows
    | _ => []

/-- The number of pages of a block (R446, Table 4, `INSTANCES`). -/
def blockInstances (base : Nat) : Nat :=
  match base with
  | 0x8 => 8
  | 0x10 => 2
  | 0x30 => 24
  | 0x48 => 4
  | _ => 1

/-- The first reserved block offset of a block (R446, Table 4, `END` times 4). -/
def blockEnd (base : Nat) : Nat :=
  match base with
  | 0x0 => 0x14C
  | 0x1 => 0x178
  | 0x2 => 0x13C
  | 0x3 => 0x138
  | 0x4 => 0x150
  | 0x5 => 0x140
  | 0x6 => 0x1AC
  | 0x8 => 0x170
  | 0x10 => 0x14C
  | 0x12 => 0x1F4
  | 0x13 => 0x1A4
  | 0x14 => 0x160
  | 0x15 => 0x128
  | 0x18 => 0x1B4
  | 0x19 => 0x138
  | 0x1A => 0x180
  | 0x1C => 0x150
  | 0x1D => 0x134
  | 0x1E => 0x220
  | 0x20 => 0x148
  | 0x21 => 0x158
  | 0x22 => 0x170
  | 0x23 => 0x148
  | 0x24 => 0x188
  | 0x25 => 0x150
  | 0x26 => 0x14C
  | 0x28 => 0x14C
  | 0x29 => 0x154
  | 0x30 => 0x14C
  | 0x48 => 0x380
  | 0x4C => 0x154
  | 0x50 => 0x140
  | 0x51 => 0x154
  | 0x58 => 0x118
  | 0x59 => 0x120
  | 0x60 => 0x1A8
  | _ => 0x100

/-- The row of a register: the common header below 0x100, the block's own rows from there; none where the
offset is reserved or the page absent. -/
def regRow (r : RegId) : Option RegRow :=
  if r.off < 0x100 then
    match blockBase r.page with
    | none => none
    | some _ => hdrRows.find? fun x => x.off == r.off
  else (pageRows r.page).find? fun x => x.off == r.off

namespace Reg

/-- NVMF 0x100, RWD: Transport and admission enables -/
def NVMF_NVMF_CTL : RegId := ⟨0x20, 0x100⟩
/-- NVMF 0x104, RO: Bound and admission status -/
def NVMF_NVMF_STAT : RegId := ⟨0x20, 0x104⟩
/-- NVMF 0x108, RO: Command contexts provided, 1,048,576 -/
def NVMF_CTX_LIMIT : RegId := ⟨0x20, 0x108⟩
/-- NVMF 0x10C, RO: Contexts reserved for admin commands, 8,192 -/
def NVMF_CTX_ADMIN_RSV : RegId := ⟨0x20, 0x10C⟩
/-- NVMF 0x110, RO: Contexts in use, general and reserved -/
def NVMF_CTX_INUSE : RegId := ⟨0x20, 0x110⟩
/-- NVMF 0x114, RO: Capsules held unparsed at a bound -/
def NVMF_CAP_HELD : RegId := ⟨0x20, 0x114⟩
/-- NVMF 0x118, RO: Times the general-context bound was reached -/
def NVMF_BOUND_HITS : RegId := ⟨0x20, 0x118⟩
/-- NVMF 0x11C, RWD: Default host quota, 1 to 1,040,384 -/
def NVMF_HOST_QUOTA_DFLT : RegId := ⟨0x20, 0x11C⟩
/-- NVMF 0x120, RW: [11:0] host index for 0x124 to 0x12C -/
def NVMF_HOST_SEL : RegId := ⟨0x20, 0x120⟩
/-- NVMF 0x124, RWD: Quota of the selected host; 0 = use default -/
def NVMF_HOST_QUOTA : RegId := ⟨0x20, 0x124⟩
/-- NVMF 0x128, RO: General contexts held by the selected host -/
def NVMF_HOST_INUSE : RegId := ⟨0x20, 0x128⟩
/-- NVMF 0x12C, RO: Capsules of the selected host held at a bound -/
def NVMF_HOST_HELD : RegId := ⟨0x20, 0x12C⟩
/-- NVMF 0x130, RO: Associations open, 0 to 8,192 -/
def NVMF_ASSOC_INUSE : RegId := ⟨0x20, 0x130⟩
/-- NVMF 0x134, RO: Distinct hosts connected, 0 to 4,096 -/
def NVMF_HOSTS_INUSE : RegId := ⟨0x20, 0x134⟩
/-- NVMF 0x138, RO: 0x0001 on controller 0; 0x8001 on controller 1 -/
def NVMF_CNTLID_BASE : RegId := ⟨0x20, 0x138⟩
/-- NVMF 0x13C, RWD: Minimum Keep Alive timeout in ms, 100 to 60,000 -/
def NVMF_KATO_MIN : RegId := ⟨0x20, 0x13C⟩
/-- NVMF 0x140, RO: Associations ended by Keep Alive expiry -/
def NVMF_KATO_EXPIRED : RegId := ⟨0x20, 0x140⟩
/-- NVMF 0x144, RO: Connects refused under R31 -/
def NVMF_CONN_REFUSED : RegId := ⟨0x20, 0x144⟩
/-- NSMGR 0x100, RWD: Host namespace-management enables -/
def NSMGR_NSMGR_CTL : RegId := ⟨0x21, 0x100⟩
/-- NSMGR 0x104, RO: Slots in ACTIVE -/
def NSMGR_NS_ACTIVE : RegId := ⟨0x21, 0x104⟩
/-- NSMGR 0x108, RW: [13:0] namespace slot selected -/
def NSMGR_NS_SEL : RegId := ⟨0x21, 0x108⟩
/-- NSMGR 0x10C, RO: State, ownership and subsystem of the slot -/
def NSMGR_NS_STATE : RegId := ⟨0x21, 0x10C⟩
/-- NSMGR 0x110, RO: NSID of the slot; 0 when FREE -/
def NSMGR_NS_NSID : RegId := ⟨0x21, 0x110⟩
/-- NSMGR 0x114, RO: Fixed attributes of the slot -/
def NSMGR_NS_ATTR : RegId := ⟨0x21, 0x114⟩
/-- NSMGR 0x118, RWD: Read deadline of the slot -/
def NSMGR_NS_DEADLINE : RegId := ⟨0x21, 0x118⟩
/-- NSMGR 0x120, RO: Admission number most recently stamped, [31:0]; reading latches [63:32] -/
def NSMGR_NS_ADMSEQ_LO : RegId := ⟨0x21, 0x120⟩
/-- NSMGR 0x124, RO: Latched [63:32] -/
def NSMGR_NS_ADMSEQ_HI : RegId := ⟨0x21, 0x124⟩
/-- NSMGR 0x128, RO: Parcels allocated -/
def NSMGR_NS_PARCELS : RegId := ⟨0x21, 0x128⟩
/-- NSMGR 0x12C, RO: Contexts in use for the slot -/
def NSMGR_NS_CTX : RegId := ⟨0x21, 0x12C⟩
/-- NSMGR 0x130, RO: Commands waiting under R44 -/
def NSMGR_NS_OVLP_WAIT : RegId := ⟨0x21, 0x130⟩
/-- NSMGR 0x134, RO: Stake Stale and Stake Required completions -/
def NSMGR_NS_STAKE_REFUSED : RegId := ⟨0x21, 0x134⟩
/-- NSMGR 0x138, RO: Associations to which the slot is attached -/
def NSMGR_NS_ATTACHED : RegId := ⟨0x21, 0x138⟩
/-- NSMGR 0x140, RW: [7:0] subsystem selected -/
def NSMGR_SUBSYS_SEL : RegId := ⟨0x21, 0x140⟩
/-- NSMGR 0x144, RO: [0] defined in the datum; [31:1] reserved -/
def NSMGR_SUBSYS_STATE : RegId := ⟨0x21, 0x144⟩
/-- NSMGR 0x148, RO: Namespaces in the subsystem -/
def NSMGR_SUBSYS_NSCNT : RegId := ⟨0x21, 0x148⟩
/-- NSMGR 0x14C, RO: Associations open to the subsystem -/
def NSMGR_SUBSYS_ASSOC : RegId := ⟨0x21, 0x14C⟩
/-- NSMGR 0x150, RO: Parcels of class 8+2 at SPARES_DFLT that the free space outside the spare reserve holds, under R34 -/
def NSMGR_PARCELS_FREE : RegId := ⟨0x21, 0x150⟩
/-- NSMGR 0x154, RWD: Threshold for event 0x2104, in parcels -/
def NSMGR_PARCELS_LOW : RegId := ⟨0x21, 0x154⟩
/-- CACHE 0x100, RWD: Extension, solo policy and power-fail sources -/
def CACHE_CACHE_CTL : RegId := ⟨0x22, 0x100⟩
/-- CACHE 0x104, RO: Cache and vault status -/
def CACHE_CACHE_STAT : RegId := ⟨0x22, 0x104⟩
/-- CACHE 0x108, RWD: Protected cache size, 4,096 to 65,536 MiB -/
def CACHE_CACHE_SIZE_MIB : RegId := ⟨0x22, 0x108⟩
/-- CACHE 0x10C, RWD: Dirty limit, 64 to 2,432 MiB solo, 64 to 576 MiB paired -/
def CACHE_DIRTY_LIMIT_MIB : RegId := ⟨0x22, 0x10C⟩
/-- CACHE 0x110, RO: Effective dirty limit under R73 -/
def CACHE_EFF_LIMIT_MIB : RegId := ⟨0x22, 0x110⟩
/-- CACHE 0x114, RO: Partner's DIRTY_LIMIT_MIB; 0 when solo -/
def CACHE_PARTNER_LIMIT_MIB : RegId := ⟨0x22, 0x114⟩
/-- CACHE 0x118, RWD: Pressure threshold, 50 to 95 % -/
def CACHE_FLUSH_HIGH_PCT : RegId := ⟨0x22, 0x118⟩
/-- CACHE 0x11C, RWD: Age trigger, 100 to 100,000 µs -/
def CACHE_GATHER_AGE_US : RegId := ⟨0x22, 0x11C⟩
/-- CACHE 0x120, RWD: Shelf hold-up time, 0 or 1,000 to 100,000 µs -/
def CACHE_HOLDUP_US : RegId := ⟨0x22, 0x120⟩
/-- CACHE 0x124, RWD: PWRFAIL_N filter, 1 to 50 µs -/
def CACHE_PF_FILTER_US : RegId := ⟨0x22, 0x124⟩
/-- CACHE 0x128, RO: Own dirty data -/
def CACHE_DIRTY_OWN_KIB : RegId := ⟨0x22, 0x128⟩
/-- CACHE 0x12C, RO: Dirty data held for the partner -/
def CACHE_MIRROR_KIB : RegId := ⟨0x22, 0x12C⟩
/-- CACHE 0x130, RO: Open traverse staging -/
def CACHE_TRAV_RSV_KIB : RegId := ⟨0x22, 0x130⟩
/-- CACHE 0x134, RO: Dirty window blocks, included in DIRTY_OWN_KIB -/
def CACHE_WIN_DIRTY_KIB : RegId := ⟨0x22, 0x134⟩
/-- CACHE 0x138, RO: t_dump for the present D -/
def CACHE_TDUMP_NOW_US : RegId := ⟨0x22, 0x138⟩
/-- CACHE 0x13C, RO: t_dump at both effective limits -/
def CACHE_TDUMP_MAX_US : RegId := ⟨0x22, 0x13C⟩
/-- CACHE 0x140, RO: Vault data capacity under R86 -/
def CACHE_VAULT_CAP_MIB : RegId := ⟨0x22, 0x140⟩
/-- CACHE 0x144, RO: Measured vault rate -/
def CACHE_VAULT_RATE_MBS : RegId := ⟨0x22, 0x144⟩
/-- CACHE 0x148, RO: Image state and last restart outcome -/
def CACHE_VAULT_STATE : RegId := ⟨0x22, 0x148⟩
/-- CACHE 0x14C, RO: IMAGE_SEQ [31:0]; reading latches [63:32] -/
def CACHE_VAULT_SEQ_LO : RegId := ⟨0x22, 0x14C⟩
/-- CACHE 0x150, RO: Latched [63:32] -/
def CACHE_VAULT_SEQ_HI : RegId := ⟨0x22, 0x150⟩
/-- CACHE 0x154, RO: Duration of the last dump -/
def CACHE_LAST_DUMP_US : RegId := ⟨0x22, 0x154⟩
/-- CACHE 0x158, RO: Duration of the last replay -/
def CACHE_LAST_REPLAY_MS : RegId := ⟨0x22, 0x158⟩
/-- CACHE 0x15C, RO: Clean read-cache extension size under R16 -/
def CACHE_EXT_SIZE_MIB : RegId := ⟨0x22, 0x15C⟩
/-- CACHE 0x160, RO: Full-stripe flushes -/
def CACHE_FULL_FLUSHES : RegId := ⟨0x22, 0x160⟩
/-- CACHE 0x164, RO: Partial flushes -/
def CACHE_PARTIAL_FLUSHES : RegId := ⟨0x22, 0x164⟩
/-- CACHE 0x168, RO: Writers deferred under R74 -/
def CACHE_LIMIT_WAITS : RegId := ⟨0x22, 0x168⟩
/-- CACHE 0x16C, RO: PWRFAIL_N pulses shorter than the filter -/
def CACHE_PF_GLITCHES : RegId := ⟨0x22, 0x16C⟩
/-- PARITY 0x100, RWD: Sequencer and hedging enables -/
def PARITY_PAR_CTL : RegId := ⟨0x23, 0x100⟩
/-- PARITY 0x104, RO: Sequencers in service and failed -/
def PARITY_PAR_STAT : RegId := ⟨0x23, 0x104⟩
/-- PARITY 0x110, RO: MiB processed, inline P/Q -/
def PARITY_CLS_MIB_0 : RegId := ⟨0x23, 0x110⟩
/-- PARITY 0x114, RO: MiB processed, host-read reconstruction -/
def PARITY_CLS_MIB_1 : RegId := ⟨0x23, 0x114⟩
/-- PARITY 0x118, RO: MiB processed, rebuild -/
def PARITY_CLS_MIB_2 : RegId := ⟨0x23, 0x118⟩
/-- PARITY 0x11C, RO: MiB processed, scrub and reshape -/
def PARITY_CLS_MIB_3 : RegId := ⟨0x23, 0x11C⟩
/-- PARITY 0x120, RO: Strips hedged under R116 -/
def PARITY_HEDGES : RegId := ⟨0x23, 0x120⟩
/-- PARITY 0x124, RO: Hedges that finished before the original read -/
def PARITY_HEDGE_WON : RegId := ⟨0x23, 0x124⟩
/-- PARITY 0x128, RO: Original reads that completed after their reconstruction -/
def PARITY_HEDGE_LATE : RegId := ⟨0x23, 0x128⟩
/-- PARITY 0x12C, RO: Expiries that waited at 2 erasures -/
def PARITY_HEDGE_LIMITED : RegId := ⟨0x23, 0x12C⟩
/-- PARITY 0x130, RO: Blocks failing R115 check 1 -/
def PARITY_RECON_RMAP : RegId := ⟨0x23, 0x130⟩
/-- PARITY 0x134, RO: Blocks failing R115 check 2 -/
def PARITY_RECON_WGEN : RegId := ⟨0x23, 0x134⟩
/-- PARITY 0x138, RO: Blocks failing R115 check 3 -/
def PARITY_RECON_TAG : RegId := ⟨0x23, 0x138⟩
/-- PARITY 0x13C, RO: Blocks failing R115 check 4 -/
def PARITY_RECON_GUARD : RegId := ⟨0x23, 0x13C⟩
/-- PARITY 0x140, RO: Rows recovered from two erasures -/
def PARITY_DECODE_DOUBLE : RegId := ⟨0x23, 0x140⟩
/-- PARITY 0x144, RO: Reconstructions that failed -/
def PARITY_RECON_FAILED : RegId := ⟨0x23, 0x144⟩
/-- CADASTRE 0x100, RWD: Default spare positions -/
def CADASTRE_CAD_CTL : RegId := ⟨0x25, 0x100⟩
/-- CADASTRE 0x104, RO: Home, wrap and compaction status -/
def CADASTRE_CAD_STAT : RegId := ⟨0x25, 0x104⟩
/-- CADASTRE 0x108, RO: [23:0] bays of member set 0 -/
def CADASTRE_MSET0 : RegId := ⟨0x25, 0x108⟩
/-- CADASTRE 0x10C, RO: [23:0] bays of member set 1 -/
def CADASTRE_MSET1 : RegId := ⟨0x25, 0x10C⟩
/-- CADASTRE 0x110, RO: [0] set used by new parcels -/
def CADASTRE_MSET_CUR : RegId := ⟨0x25, 0x110⟩
/-- CADASTRE 0x114, RWD: Home persistence bound, 5 to 1,000 ms -/
def CADASTRE_PERSIST_MS : RegId := ⟨0x25, 0x114⟩
/-- CADASTRE 0x118, RO: Entries not UNALLOCATED -/
def CADASTRE_ENTRIES_USED : RegId := ⟨0x25, 0x118⟩
/-- CADASTRE 0x11C, RO: Entries not yet on every home copy -/
def CADASTRE_ENTRIES_DIRTY : RegId := ⟨0x25, 0x11C⟩
/-- CADASTRE 0x120, RO: On-die cache hits -/
def CADASTRE_CACHE_HITS : RegId := ⟨0x25, 0x120⟩
/-- CADASTRE 0x124, RO: On-die cache misses -/
def CADASTRE_CACHE_MISSES : RegId := ⟨0x25, 0x124⟩
/-- CADASTRE 0x128, RO: Parcels FORMATTING -/
def CADASTRE_FORMATTING : RegId := ⟨0x25, 0x128⟩
/-- CADASTRE 0x12C, RO: Parcels with RELOC0 set -/
def CADASTRE_RELOC_ONE : RegId := ⟨0x25, 0x12C⟩
/-- CADASTRE 0x130, RO: Parcels with RELOC1 set -/
def CADASTRE_RELOC_TWO : RegId := ⟨0x25, 0x130⟩
/-- CADASTRE 0x134, RO: Generation wraps under R108 -/
def CADASTRE_WRAPS : RegId := ⟨0x25, 0x134⟩
/-- CADASTRE 0x138, RW: [25:0] entry index -/
def CADASTRE_CAD_SEL : RegId := ⟨0x25, 0x138⟩
/-- CADASTRE 0x13C, RO: Bytes 0–3 of the selected entry -/
def CADASTRE_CAD_ENTRY_0 : RegId := ⟨0x25, 0x13C⟩
/-- CADASTRE 0x140, RO: Bytes 4–7, latched -/
def CADASTRE_CAD_ENTRY_1 : RegId := ⟨0x25, 0x140⟩
/-- CADASTRE 0x144, RO: Bytes 8–11, latched -/
def CADASTRE_CAD_ENTRY_2 : RegId := ⟨0x25, 0x144⟩
/-- CADASTRE 0x148, RO: Bytes 12–15, latched -/
def CADASTRE_CAD_ENTRY_3 : RegId := ⟨0x25, 0x148⟩
/-- CADASTRE 0x14C, RO: Cadastre base of the slot selected by NSMGR.NS_SEL -/
def CADASTRE_CAD_NSBASE : RegId := ⟨0x25, 0x14C⟩
/-- REBUILD 0x100, RWD: Automatic rebuild, admission and scrub -/
def REBUILD_RB_CTL : RegId := ⟨0x24, 0x100⟩
/-- REBUILD 0x104, RO: Work in progress -/
def REBUILD_RB_STAT : RegId := ⟨0x24, 0x104⟩
/-- REBUILD 0x108, RWD: Rebuild, resync and restore ceiling, 100 to 20,000 MB/s -/
def REBUILD_RATE_MBS : RegId := ⟨0x24, 0x108⟩
/-- REBUILD 0x10C, RWD: Tier-1 ceiling, 100 to 40,000 MB/s -/
def REBUILD_RATE_CRIT_MBS : RegId := ⟨0x24, 0x10C⟩
/-- REBUILD 0x110, RWD: Guaranteed floor, 0 to RATE_MBS -/
def REBUILD_MIN_MBS : RegId := ⟨0x24, 0x110⟩
/-- REBUILD 0x114, RWD: Return wait, 0 to 3,600 s -/
def REBUILD_RETURN_WAIT_S : RegId := ⟨0x24, 0x114⟩
/-- REBUILD 0x118, RWD: Scrub ceiling, 10 to 10,000 MB/s -/
def REBUILD_SCRUB_MBS : RegId := ⟨0x24, 0x118⟩
/-- REBUILD 0x11C, RWD: Reshape ceiling, 10 to 20,000 MB/s -/
def REBUILD_RESHAPE_MBS : RegId := ⟨0x24, 0x11C⟩
/-- REBUILD 0x120, RW: [4:0] bay selected -/
def REBUILD_MEMBER_SEL : RegId := ⟨0x24, 0x120⟩
/-- REBUILD 0x124, RO: State of the bay -/
def REBUILD_MEMBER_STATE : RegId := ⟨0x24, 0x124⟩
/-- REBUILD 0x128, RO: Parcels done in the bay's current work -/
def REBUILD_MEMBER_DONE : RegId := ⟨0x24, 0x128⟩
/-- REBUILD 0x12C, RO: Parcels in the bay's current work -/
def REBUILD_MEMBER_TODO : RegId := ⟨0x24, 0x12C⟩
/-- REBUILD 0x130, RO: Bits set in the bay's dirty-parcel map -/
def REBUILD_MEMBER_DIRTY : RegId := ⟨0x24, 0x130⟩
/-- REBUILD 0x134, WO: Command for the bay -/
def REBUILD_MEMBER_CMD : RegId := ⟨0x24, 0x134⟩
/-- REBUILD 0x138, RO: Outcome of the last command -/
def REBUILD_MEMBER_CMD_STAT : RegId := ⟨0x24, 0x138⟩
/-- REBUILD 0x13C, RO: Return wait remaining, in s -/
def REBUILD_MEMBER_RETURN_S : RegId := ⟨0x24, 0x13C⟩
/-- REBUILD 0x140, RW: [0] 0 = layout of one namespace; 1 = member set -/
def REBUILD_RESHAPE_KIND : RegId := ⟨0x24, 0x140⟩
/-- REBUILD 0x144, RW: [13:0] slot -/
def REBUILD_RESHAPE_SLOT : RegId := ⟨0x24, 0x144⟩
/-- REBUILD 0x148, RW: [1:0] target layout class -/
def REBUILD_RESHAPE_LAYOUT : RegId := ⟨0x24, 0x148⟩
/-- REBUILD 0x14C, RW: [23:0] target member set -/
def REBUILD_RESHAPE_MSET : RegId := ⟨0x24, 0x14C⟩
/-- REBUILD 0x150, WO: Reshape command -/
def REBUILD_RESHAPE_CMD : RegId := ⟨0x24, 0x150⟩
/-- REBUILD 0x154, RO: Reshape state -/
def REBUILD_RESHAPE_STAT : RegId := ⟨0x24, 0x154⟩
/-- REBUILD 0x158, RO: [25:0] baseline parcel index or entry index -/
def REBUILD_BASELINE : RegId := ⟨0x24, 0x158⟩
/-- REBUILD 0x15C, RO: [25:0] index at which the reshape ends -/
def REBUILD_BASELINE_END : RegId := ⟨0x24, 0x15C⟩
/-- REBUILD 0x160, RO: [23:0] journal homes of controller 0 -/
def REBUILD_JHOME0 : RegId := ⟨0x24, 0x160⟩
/-- REBUILD 0x164, RO: [23:0] journal homes of controller 1 -/
def REBUILD_JHOME1 : RegId := ⟨0x24, 0x164⟩
/-- REBUILD 0x168, RO: Unretired records of this controller -/
def REBUILD_JRING_USED : RegId := ⟨0x24, 0x168⟩
/-- REBUILD 0x16C, RO: Flushes that waited for ring space -/
def REBUILD_JRING_WAITS : RegId := ⟨0x24, 0x16C⟩
/-- REBUILD 0x170, RO: Loss-map records held -/
def REBUILD_LOSS_RECORDS : RegId := ⟨0x24, 0x170⟩
/-- REBUILD 0x174, RO: Blocks covered -/
def REBUILD_LOSS_BLOCKS : RegId := ⟨0x24, 0x174⟩
/-- REBUILD 0x178, RO: [25:0] entry index being scrubbed -/
def REBUILD_SCRUB_CURSOR : RegId := ⟨0x24, 0x178⟩
/-- REBUILD 0x17C, RO: Duration of the last pass, in s -/
def REBUILD_SCRUB_PASS_S : RegId := ⟨0x24, 0x17C⟩
/-- REBUILD 0x180, RO: Passes completed -/
def REBUILD_SCRUB_PASSES : RegId := ⟨0x24, 0x180⟩
/-- REBUILD 0x184, RO: MiB written by rebuild, resync and restore -/
def REBUILD_REBUILT_MIB : RegId := ⟨0x24, 0x184⟩
/-- TRAV 0x100, RWD: Traverse enables -/
def TRAV_TRAV_CTL : RegId := ⟨0x26, 0x100⟩
/-- TRAV 0x104, RO: Bound and refusal status -/
def TRAV_TRAV_STAT : RegId := ⟨0x26, 0x104⟩
/-- TRAV 0x108, RO: Open traverses provided, 65,536 -/
def TRAV_OPEN_LIMIT : RegId := ⟨0x26, 0x108⟩
/-- TRAV 0x10C, RO: Traverses open at this coordinator -/
def TRAV_OPEN_NOW : RegId := ⟨0x26, 0x10C⟩
/-- TRAV 0x110, RWD: Staging timeout, 10 to 60,000 ms -/
def TRAV_STAGE_TIMEOUT_MS : RegId := ⟨0x26, 0x110⟩
/-- TRAV 0x114, RWD: Stamp answer timeout, 10 to 1,000 µs -/
def TRAV_XSTAMP_TIMEOUT_US : RegId := ⟨0x26, 0x114⟩
/-- TRAV 0x118, RO: Longest admission hold under R164 -/
def TRAV_XSTAMP_HOLD_MAX_NS : RegId := ⟨0x26, 0x118⟩
/-- TRAV 0x11C, RO: Entries held, 0 to 1,048,576 -/
def TRAV_OUTCOME_ENTRIES : RegId := ⟨0x26, 0x11C⟩
/-- TRAV 0x120, RO: Age of the oldest entry -/
def TRAV_OUTCOME_SPAN_MS : RegId := ⟨0x26, 0x120⟩
/-- TRAV 0x124, RO: Traverses reaching CLOSED -/
def TRAV_COMMITTED : RegId := ⟨0x26, 0x124⟩
/-- TRAV 0x128, RO: Traverses ending FAILED -/
def TRAV_FAILED : RegId := ⟨0x26, 0x128⟩
/-- TRAV 0x12C, RO: Traverses ending ABANDONED -/
def TRAV_ABANDONED : RegId := ⟨0x26, 0x12C⟩
/-- TRAV 0x130, RO: Traverses refused under R159 -/
def TRAV_REFUSED : RegId := ⟨0x26, 0x130⟩
/-- TRAV 0x134, RO: Traverses answered from the outcome memory -/
def TRAV_DUP_ANSWERED : RegId := ⟨0x26, 0x134⟩
/-- TRAV 0x138, RO: Stamps run under R164 -/
def TRAV_XSTAMPS : RegId := ⟨0x26, 0x138⟩
/-- TRAV 0x13C, RW: [11:0] host index to look up -/
def TRAV_LOOKUP_HOST : RegId := ⟨0x26, 0x13C⟩
/-- TRAV 0x140, RW: TRAV_ID [31:0] -/
def TRAV_LOOKUP_ID_LO : RegId := ⟨0x26, 0x140⟩
/-- TRAV 0x144, RW: TRAV_ID [63:32]; a write starts the lookup -/
def TRAV_LOOKUP_ID_HI : RegId := ⟨0x26, 0x144⟩
/-- TRAV 0x148, RO: Outcome found -/
def TRAV_LOOKUP_RESULT : RegId := ⟨0x26, 0x148⟩
/-- XPORT 0x100, RWD: Dialect, ECN and atomic enables -/
def XPORT_XP_CTL : RegId := ⟨0x18, 0x100⟩
/-- XPORT 0x104, RO: Bound status -/
def XPORT_XP_STAT : RegId := ⟨0x18, 0x104⟩
/-- XPORT 0x108, RO: QPs provided, 262,144 -/
def XPORT_QP_LIMIT : RegId := ⟨0x18, 0x108⟩
/-- XPORT 0x10C, RO: QPs not FREE -/
def XPORT_QP_INUSE : RegId := ⟨0x18, 0x10C⟩
/-- XPORT 0x110, RO: QPs in spray mode -/
def XPORT_QP_SPRAY : RegId := ⟨0x18, 0x110⟩
/-- XPORT 0x114, RO: On-die context hits -/
def XPORT_QPC_HITS : RegId := ⟨0x18, 0x114⟩
/-- XPORT 0x118, RO: On-die context misses -/
def XPORT_QPC_MISSES : RegId := ⟨0x18, 0x118⟩
/-- XPORT 0x11C, RWD: Receive buffers, 262,144 to 4,194,304 -/
def XPORT_RXBUF_COUNT : RegId := ⟨0x18, 0x11C⟩
/-- XPORT 0x120, RO: Receive buffers free -/
def XPORT_RXBUF_FREE : RegId := ⟨0x18, 0x120⟩
/-- XPORT 0x124, RWD: RNR timer code -/
def XPORT_RNR_TIMER : RegId := ⟨0x18, 0x124⟩
/-- XPORT 0x128, RO: RNR NAKs sent -/
def XPORT_RNR_SENT : RegId := ⟨0x18, 0x128⟩
/-- XPORT 0x12C, RO: Reads to hosts outstanding, 0 to 524,288 -/
def XPORT_READS_OUT : RegId := ⟨0x18, 0x12C⟩
/-- XPORT 0x130, RWD: Outstanding reads per QP, 1 to 128 -/
def XPORT_READ_PER_QP : RegId := ⟨0x18, 0x130⟩
/-- XPORT 0x134, RO: Pulls that waited under R196 -/
def XPORT_READ_WAITS : RegId := ⟨0x18, 0x134⟩
/-- XPORT 0x138, RWD: Spray acknowledgement coalescing, 1 to 64 packets -/
def XPORT_ACK_COALESCE : RegId := ⟨0x18, 0x138⟩
/-- XPORT 0x13C, RWD: Spray acknowledgement delay, 100 to 20,000 ns -/
def XPORT_ACK_DELAY_NS : RegId := ⟨0x18, 0x13C⟩
/-- XPORT 0x140, RWD: Paths offered, 1 to 64 -/
def XPORT_SPRAY_PATHS : RegId := ⟨0x18, 0x140⟩
/-- XPORT 0x144, RWD: Loss distance under R192, 8 to 1,024 packets -/
def XPORT_SPRAY_REORDER : RegId := ⟨0x18, 0x144⟩
/-- XPORT 0x148, RWD: Retransmit timer, 10 to 100,000 µs -/
def XPORT_SPRAY_RTO_US : RegId := ⟨0x18, 0x148⟩
/-- XPORT 0x14C, RWD: Path avoidance after a CNP, 0 to 10,000 µs -/
def XPORT_PATH_PENALTY_US : RegId := ⟨0x18, 0x14C⟩
/-- XPORT 0x150, RWD: Minimum CNP spacing per QP, 1 to 1,000 µs -/
def XPORT_CNP_INTERVAL_US : RegId := ⟨0x18, 0x150⟩
/-- XPORT 0x154, RWD: Rate floor, 10 to 10,000 MB/s -/
def XPORT_RC_RATE_MIN_MBS : RegId := ⟨0x18, 0x154⟩
/-- XPORT 0x158, RWD: Additive increase, 1 to 10,000 MB/s -/
def XPORT_RC_AI_MBS : RegId := ⟨0x18, 0x158⟩
/-- XPORT 0x15C, RWD: Hyper increase, 1 to 50,000 MB/s -/
def XPORT_RC_HAI_MBS : RegId := ⟨0x18, 0x15C⟩
/-- XPORT 0x160, RWD: Increase interval, 10 to 1,000 µs -/
def XPORT_RC_TIMER_US : RegId := ⟨0x18, 0x160⟩
/-- XPORT 0x164, RWD: Alpha gain in 1/1,024, 1 to 1,023 -/
def XPORT_RC_G : RegId := ⟨0x18, 0x164⟩
/-- XPORT 0x168, RWD: Fast-recovery steps, 1 to 16 -/
def XPORT_RC_F : RegId := ⟨0x18, 0x168⟩
/-- XPORT 0x16C, RO: CNPs sent -/
def XPORT_CNP_SENT : RegId := ⟨0x18, 0x16C⟩
/-- XPORT 0x170, RO: CNPs received -/
def XPORT_CNP_RCVD : RegId := ⟨0x18, 0x170⟩
/-- XPORT 0x174, RO: Duplicate packets discarded -/
def XPORT_DUP_DROPPED : RegId := ⟨0x18, 0x174⟩
/-- XPORT 0x178, RO: Acknowledgements with COUNT above 0 -/
def XPORT_SACK_SENT : RegId := ⟨0x18, 0x178⟩
/-- XPORT 0x17C, RO: Packets retransmitted by the controller -/
def XPORT_RETX_PKTS : RegId := ⟨0x18, 0x17C⟩
/-- XPORT 0x180, RO: Packets discarded under R190 -/
def XPORT_BEYOND_WINDOW : RegId := ⟨0x18, 0x180⟩
/-- XPORT 0x184, RO: Packets discarded under R186 -/
def XPORT_REC_FULL : RegId := ⟨0x18, 0x184⟩
/-- XPORT 0x188, RO: Duplicate atomics answered from the cache -/
def XPORT_ATOM_REPLAYED : RegId := ⟨0x18, 0x188⟩
/-- XPORT 0x18C, RO: Duplicate atomics with no entry -/
def XPORT_ATOM_UNMATCHED : RegId := ⟨0x18, 0x18C⟩
/-- XPORT 0x190, RO: Packets not counted under R193 for ICV or anti-replay -/
def XPORT_ICV_DISCARD : RegId := ⟨0x18, 0x190⟩
/-- XPORT 0x194, RO: QPs that entered ERROR -/
def XPORT_QP_ERRORS : RegId := ⟨0x18, 0x194⟩
/-- XPORT 0x198, RO: Packets discarded under R176 -/
def XPORT_UNSUP_DROPPED : RegId := ⟨0x18, 0x198⟩
/-- XPORT 0x19C, RW: [17:0] QP index selected -/
def XPORT_QP_SEL : RegId := ⟨0x18, 0x19C⟩
/-- XPORT 0x1A0, RO: State and dialect of the QP -/
def XPORT_QP_STATE : RegId := ⟨0x18, 0x1A0⟩
/-- XPORT 0x1A4, RO: Current rate under R200 -/
def XPORT_QP_RATE_MBS : RegId := ⟨0x18, 0x1A4⟩
/-- XPORT 0x1A8, RO: [23:0] delivery cursor, or expected PSN on a standard QP -/
def XPORT_QP_RXPSN : RegId := ⟨0x18, 0x1A8⟩
/-- XPORT 0x1AC, RO: [23:0] next PSN to send -/
def XPORT_QP_TXPSN : RegId := ⟨0x18, 0x1AC⟩
/-- XPORT 0x1B0, RO: [9:0] station of the QP -/
def XPORT_QP_STATION : RegId := ⟨0x18, 0x1B0⟩
/-- KEYS 0x100, RWD: Key enables -/
def KEYS_KEYS_CTL : RegId := ⟨0x19, 0x100⟩
/-- KEYS 0x104, RO: Bound status -/
def KEYS_KEYS_STAT : RegId := ⟨0x19, 0x104⟩
/-- KEYS 0x108, RO: Keys provided, 1,048,576 -/
def KEYS_KEY_LIMIT : RegId := ⟨0x19, 0x108⟩
/-- KEYS 0x10C, RO: Keys VALID -/
def KEYS_KEYS_VALID : RegId := ⟨0x19, 0x10C⟩
/-- KEYS 0x110, RO: Keys REVOKING -/
def KEYS_KEYS_REVOKING : RegId := ⟨0x19, 0x110⟩
/-- KEYS 0x114, RO: Key checks passed -/
def KEYS_KEY_CHECKS : RegId := ⟨0x19, 0x114⟩
/-- KEYS 0x118, RO: Key checks failed under R218 -/
def KEYS_KEY_FAILS : RegId := ⟨0x19, 0x118⟩
/-- KEYS 0x11C, RO: Longest time from fence point to FREE -/
def KEYS_REVOKE_MAX_US : RegId := ⟨0x19, 0x11C⟩
/-- KEYS 0x120, RWD: Revoke timeout, 1 to 1,000 ms -/
def KEYS_REVOKE_TIMEOUT_MS : RegId := ⟨0x19, 0x120⟩
/-- KEYS 0x124, RW: [19:0] key index selected -/
def KEYS_KEY_SEL : RegId := ⟨0x19, 0x124⟩
/-- KEYS 0x128, RO: State, tag and rights of the key -/
def KEYS_KEY_STATE : RegId := ⟨0x19, 0x128⟩
/-- KEYS 0x12C, RO: [11:0] window of the key -/
def KEYS_KEY_WIN : RegId := ⟨0x19, 0x12C⟩
/-- KEYS 0x130, RO: In-flight count under R220 -/
def KEYS_KEY_INFLIGHT : RegId := ⟨0x19, 0x130⟩
/-- KEYS 0x134, WO: [1:0] 1 = REVOKE the selected key; others reserved -/
def KEYS_KEY_CMD : RegId := ⟨0x19, 0x134⟩
/-- WIN 0x100, RWD: Window enable -/
def WIN_WIN_CTL : RegId := ⟨0x1A, 0x100⟩
/-- WIN 0x104, RO: Pool and stall status -/
def WIN_WIN_STAT : RegId := ⟨0x1A, 0x104⟩
/-- WIN 0x108, RWD: Resident pool, 0 or 512 to 32,768 MiB, even -/
def WIN_POOL_MIB : RegId := ⟨0x1A, 0x108⟩
/-- WIN 0x10C, RO: Pages free -/
def WIN_POOL_FREE : RegId := ⟨0x1A, 0x10C⟩
/-- WIN 0x110, RO: Resident pages holding a dirty block -/
def WIN_PAGES_DIRTY : RegId := ⟨0x1A, 0x110⟩
/-- WIN 0x114, RO: Pinned pages -/
def WIN_PAGES_PINNED : RegId := ⟨0x1A, 0x114⟩
/-- WIN 0x118, RWD: Default stall budget, 10 to 10,000 µs -/
def WIN_STALL_US_DFLT : RegId := ⟨0x1A, 0x118⟩
/-- WIN 0x11C, RWD: Stalled bytes allowed in the shared buffer, 0 to 32,768 KiB -/
def WIN_STALL_MAX_KIB : RegId := ⟨0x1A, 0x11C⟩
/-- WIN 0x120, RO: Stalled bytes now held -/
def WIN_STALL_NOW_KIB : RegId := ⟨0x1A, 0x120⟩
/-- WIN 0x124, RWD: Write-back age, 1 to 10,000 ms -/
def WIN_WB_AGE_MS : RegId := ⟨0x1A, 0x124⟩
/-- WIN 0x128, RO: Faults completed -/
def WIN_FAULTS : RegId := ⟨0x1A, 0x128⟩
/-- WIN 0x12C, RO: Longest fault -/
def WIN_FAULT_US_MAX : RegId := ⟨0x1A, 0x12C⟩
/-- WIN 0x130, RO: Packets stalled -/
def WIN_STALLS : RegId := ⟨0x1A, 0x130⟩
/-- WIN 0x134, RO: Packets discarded under Table 6 -/
def WIN_RESENDS : RegId := ⟨0x1A, 0x134⟩
/-- WIN 0x138, RO: Pages evicted -/
def WIN_EVICTIONS : RegId := ⟨0x1A, 0x138⟩
/-- WIN 0x13C, RO: Atomics executed -/
def WIN_ATOMICS : RegId := ⟨0x1A, 0x13C⟩
/-- WIN 0x140, RO: Tally words applied -/
def WIN_TALLY_RAISES : RegId := ⟨0x1A, 0x140⟩
/-- WIN 0x144, RO: Chain waits pending -/
def WIN_CHAIN_WAITS : RegId := ⟨0x1A, 0x144⟩
/-- WIN 0x148, RO: Packets held under R216 -/
def WIN_ICV_HOLDS : RegId := ⟨0x1A, 0x148⟩
/-- WIN 0x14C, RO: Immediate data without effect under R222 -/
def WIN_IMM_IGNORED : RegId := ⟨0x1A, 0x14C⟩
/-- WIN 0x150, RW: [11:0] window selected -/
def WIN_WIN_SEL : RegId := ⟨0x1A, 0x150⟩
/-- WIN 0x154, RO: State and policy of the window -/
def WIN_WIN_STATE : RegId := ⟨0x1A, 0x154⟩
/-- WIN 0x158, RO: [13:0] backing namespace slot -/
def WIN_WIN_NS : RegId := ⟨0x1A, 0x158⟩
/-- WIN 0x15C, RO: SLBA [31:0]; reading latches [63:32] -/
def WIN_WIN_SLBA_LO : RegId := ⟨0x1A, 0x15C⟩
/-- WIN 0x160, RO: Latched [63:32] -/
def WIN_WIN_SLBA_HI : RegId := ⟨0x1A, 0x160⟩
/-- WIN 0x164, RO: [23:0] window size in pages -/
def WIN_WIN_PAGES : RegId := ⟨0x1A, 0x164⟩
/-- WIN 0x168, RO: Pages resident -/
def WIN_WIN_RESIDENT : RegId := ⟨0x1A, 0x168⟩
/-- WIN 0x16C, RO: Keys VALID or REVOKING on the window -/
def WIN_WIN_KEYS : RegId := ⟨0x1A, 0x16C⟩
/-- WIN 0x170, RW: [3:0] counter selected -/
def WIN_CTR_SEL : RegId := ⟨0x1A, 0x170⟩
/-- WIN 0x174, RO: Counter [31:0]; reading latches [63:32] -/
def WIN_CTR_LO : RegId := ⟨0x1A, 0x174⟩
/-- WIN 0x178, RO: Latched [63:32] -/
def WIN_CTR_HI : RegId := ⟨0x1A, 0x178⟩
/-- WIN 0x17C, WO: [1:0] 1 = UNBIND the selected window; others reserved -/
def WIN_WIN_CMD : RegId := ⟨0x1A, 0x17C⟩
/-- NET 0x100, RWD: Mode and link enables -/
def NET_NET_CTL (k : Nat) : RegId := ⟨0x8 + k, 0x100⟩
/-- NET 0x104, RO: [7:0] link up per sub-port; [15:8] any priority paused by the peer -/
def NET_NET_STAT (k : Nat) : RegId := ⟨0x8 + k, 0x104⟩
/-- NET 0x108, RWD: Largest frame, 1,518 to 9,216 B -/
def NET_MTU (k : Nat) : RegId := ⟨0x8 + k, 0x108⟩
/-- NET 0x10C, RWD: Lossless priorities and trust -/
def NET_PFC_CTL (k : Nat) : RegId := ⟨0x8 + k, 0x10C⟩
/-- NET 0x110, RWD: [7:0] STRICT priorities -/
def NET_ETS_CTL (k : Nat) : RegId := ⟨0x8 + k, 0x110⟩
/-- NET 0x114, RWD: DWRR weights of priorities 0–3, 8 bits each, 1 to 255 -/
def NET_ETS_WEIGHT_LO (k : Nat) : RegId := ⟨0x8 + k, 0x114⟩
/-- NET 0x118, RWD: Weights of priorities 4–7 -/
def NET_ETS_WEIGHT_HI (k : Nat) : RegId := ⟨0x8 + k, 0x118⟩
/-- NET 0x11C, RWD: Pause watchdog, 0 = off, to 10,000 ms -/
def NET_PFC_WD_MS (k : Nat) : RegId := ⟨0x8 + k, 0x11C⟩
/-- NET 0x120, RW: [2:0] sub-port -/
def NET_PORT_SEL (k : Nat) : RegId := ⟨0x8 + k, 0x120⟩
/-- NET 0x124, RO: Sub-port status -/
def NET_PORT_STAT (k : Nat) : RegId := ⟨0x8 + k, 0x124⟩
/-- NET 0x128, RO: Frames received -/
def NET_RX_FRAMES (k : Nat) : RegId := ⟨0x8 + k, 0x128⟩
/-- NET 0x12C, RO: Bytes received [31:0] -/
def NET_RX_BYTES_LO (k : Nat) : RegId := ⟨0x8 + k, 0x12C⟩
/-- NET 0x130, RO: Latched [63:32] -/
def NET_RX_BYTES_HI (k : Nat) : RegId := ⟨0x8 + k, 0x130⟩
/-- NET 0x134, RO: Frames sent -/
def NET_TX_FRAMES (k : Nat) : RegId := ⟨0x8 + k, 0x134⟩
/-- NET 0x138, RO: Bytes sent [31:0] -/
def NET_TX_BYTES_LO (k : Nat) : RegId := ⟨0x8 + k, 0x138⟩
/-- NET 0x13C, RO: Latched [63:32] -/
def NET_TX_BYTES_HI (k : Nat) : RegId := ⟨0x8 + k, 0x13C⟩
/-- NET 0x140, RO: Bad FCS -/
def NET_RX_FCS_ERR (k : Nat) : RegId := ⟨0x8 + k, 0x140⟩
/-- NET 0x144, RO: Runts and oversize -/
def NET_RX_LEN_ERR (k : Nat) : RegId := ⟨0x8 + k, 0x144⟩
/-- NET 0x148, RO: Bad ICRC under R175 -/
def NET_ICRC_ERR (k : Nat) : RegId := ⟨0x8 + k, 0x148⟩
/-- NET 0x14C, RO: Codewords corrected -/
def NET_FEC_CORR (k : Nat) : RegId := ⟨0x8 + k, 0x14C⟩
/-- NET 0x150, RO: Codewords uncorrectable -/
def NET_FEC_UNCORR (k : Nat) : RegId := ⟨0x8 + k, 0x150⟩
/-- NET 0x154, RO: PFC frames sent -/
def NET_PFC_TX (k : Nat) : RegId := ⟨0x8 + k, 0x154⟩
/-- NET 0x158, RO: PFC frames received -/
def NET_PFC_RX (k : Nat) : RegId := ⟨0x8 + k, 0x158⟩
/-- NET 0x15C, RO: Frames discarded under R228 -/
def NET_DOWN_DISCARD (k : Nat) : RegId := ⟨0x8 + k, 0x15C⟩
/-- NET 0x160, RO: [4:0] entries held; [5] OVERFLOW -/
def NET_TXTS_STAT (k : Nat) : RegId := ⟨0x8 + k, 0x160⟩
/-- NET 0x164, RO: Oldest entry: [15:0] sequence ID; [18:16] sub-port -/
def NET_TXTS_SEQ (k : Nat) : RegId := ⟨0x8 + k, 0x164⟩
/-- NET 0x168, RO: Timestamp [31:0] -/
def NET_TXTS_LO (k : Nat) : RegId := ⟨0x8 + k, 0x168⟩
/-- NET 0x16C, RO: Timestamp [63:32]; reading releases the entry -/
def NET_TXTS_HI (k : Nat) : RegId := ⟨0x8 + k, 0x16C⟩
/-- PARSE 0x100, RWD: [0] BANK: active program bank -/
def PARSE_PARSE_CTL (k : Nat) : RegId := ⟨0x10 + k, 0x100⟩
/-- PARSE 0x104, RO: Bank and quiesce status -/
def PARSE_PARSE_STAT (k : Nat) : RegId := ⟨0x10 + k, 0x104⟩
/-- PARSE 0x108, RO: Bit i = 1: engine slot i in service -/
def PARSE_ENG_UP (k : Nat) : RegId := ⟨0x10 + k, 0x108⟩
/-- PARSE 0x10C, RO: [1:0] spares substituted -/
def PARSE_ENG_SPARED (k : Nat) : RegId := ⟨0x10 + k, 0x10C⟩
/-- PARSE 0x110, RWD: Cycles per frame, 32 to 1,024 -/
def PARSE_CYCLE_LIMIT (k : Nat) : RegId := ⟨0x10 + k, 0x110⟩
/-- PARSE 0x114, RW: [12:0] instruction; [16] bank -/
def PARSE_PROG_SEL (k : Nat) : RegId := ⟨0x10 + k, 0x114⟩
/-- PARSE 0x118, RO: Instruction [31:0] -/
def PARSE_PROG_DATA_LO (k : Nat) : RegId := ⟨0x10 + k, 0x118⟩
/-- PARSE 0x11C, RO: Instruction [63:32] -/
def PARSE_PROG_DATA_HI (k : Nat) : RegId := ⟨0x10 + k, 0x11C⟩
/-- PARSE 0x120, RO: Low 32 bits of the measured digest of bank 0 -/
def PARSE_BANK_ID0 (k : Nat) : RegId := ⟨0x10 + k, 0x120⟩
/-- PARSE 0x124, RO: Same, bank 1 -/
def PARSE_BANK_ID1 (k : Nat) : RegId := ⟨0x10 + k, 0x124⟩
/-- PARSE 0x128, RO: Frames parsed -/
def PARSE_FRAMES (k : Nat) : RegId := ⟨0x10 + k, 0x128⟩
/-- PARSE 0x12C, RO: Cycles used [31:0]; reading latches [63:32] -/
def PARSE_CYCLES_LO (k : Nat) : RegId := ⟨0x10 + k, 0x12C⟩
/-- PARSE 0x130, RO: Latched [63:32] -/
def PARSE_CYCLES_HI (k : Nat) : RegId := ⟨0x10 + k, 0x130⟩
/-- PARSE 0x134, RO: Most cycles taken by one frame -/
def PARSE_CYCLE_MAX (k : Nat) : RegId := ⟨0x10 + k, 0x134⟩
/-- PARSE 0x138, RO: Frames emitted by TRAP -/
def PARSE_TRAPS (k : Nat) : RegId := ⟨0x10 + k, 0x138⟩
/-- PARSE 0x13C, RO: Accesses under R234 -/
def PARSE_OVERRUNS (k : Nat) : RegId := ⟨0x10 + k, 0x13C⟩
/-- PARSE 0x140, RO: Frames at CYCLE_LIMIT -/
def PARSE_LIMIT_HITS (k : Nat) : RegId := ⟨0x10 + k, 0x140⟩
/-- PARSE 0x144, RO: Frames parsed again under R12 -/
def PARSE_REPARSED (k : Nat) : RegId := ⟨0x10 + k, 0x144⟩
/-- PARSE 0x148, RO: Frames waiting for an engine -/
def PARSE_WAITING (k : Nat) : RegId := ⟨0x10 + k, 0x148⟩
/-- CLASS 0x100, RWD: [0] EPOCH; [1] FLOW_EN: 0 = flow lookups miss -/
def CLASS_CLS_CTL : RegId := ⟨0x12, 0x100⟩
/-- CLASS 0x104, RO: [0] rule command busy; [1] flow command busy -/
def CLASS_CLS_STAT : RegId := ⟨0x12, 0x104⟩
/-- CLASS 0x108, RWD: Action on no match, Table 7; 0 = discard -/
def CLASS_DEFAULT_ACT (i : Nat) : RegId := ⟨0x12, 0x108 + 4 * i⟩
/-- CLASS 0x118, RO: Valid rules -/
def CLASS_RULES_VALID : RegId := ⟨0x12, 0x118⟩
/-- CLASS 0x11C, RO: Valid flow entries -/
def CLASS_FLOWS_VALID : RegId := ⟨0x12, 0x11C⟩
/-- CLASS 0x120, RW: [14:0] rule index -/
def CLASS_RULE_SEL : RegId := ⟨0x12, 0x120⟩
/-- CLASS 0x124, RW: [0] VALID; [1] EPOCH; [2] ANY_EPOCH -/
def CLASS_RULE_CTRL : RegId := ⟨0x12, 0x124⟩
/-- CLASS 0x128, RW: Key value, 44 B -/
def CLASS_RULE_VALUE (i : Nat) : RegId := ⟨0x12, 0x128 + 4 * i⟩
/-- CLASS 0x154, RW: Key mask, 44 B -/
def CLASS_RULE_MASK (i : Nat) : RegId := ⟨0x12, 0x154 + 4 * i⟩
/-- CLASS 0x180, RW: Action, 16 B -/
def CLASS_RULE_ACTION (i : Nat) : RegId := ⟨0x12, 0x180 + 4 * i⟩
/-- CLASS 0x190, WO: [1:0] 1 = WRITE; 2 = INVALIDATE; 3 = READ -/
def CLASS_RULE_CMD : RegId := ⟨0x12, 0x190⟩
/-- CLASS 0x194, RO: Hits of the rule read -/
def CLASS_RULE_HITS : RegId := ⟨0x12, 0x194⟩
/-- CLASS 0x198, RW: Flow entry image -/
def CLASS_FLOW_DATA (i : Nat) : RegId := ⟨0x12, 0x198 + 4 * i⟩
/-- CLASS 0x1B8, WO: [2:0] 1 = INSERT; 2 = DELETE; 3 = REPLACE; 4 = LOOKUP -/
def CLASS_FLOW_CMD : RegId := ⟨0x12, 0x1B8⟩
/-- CLASS 0x1BC, RO: Outcome of the last flow command -/
def CLASS_FLOW_CMD_STAT : RegId := ⟨0x12, 0x1BC⟩
/-- CLASS 0x1C0, RWD: Toeplitz key, 40 B -/
def CLASS_HASH_KEY (i : Nat) : RegId := ⟨0x12, 0x1C0 + 4 * i⟩
/-- CLASS 0x1E8, RO: Lookups with no rule matched -/
def CLASS_RULE_MISSES : RegId := ⟨0x12, 0x1E8⟩
/-- CLASS 0x1EC, RO: Flow hits -/
def CLASS_FLOW_HITS : RegId := ⟨0x12, 0x1EC⟩
/-- CLASS 0x1F0, RO: Flow misses -/
def CLASS_FLOW_MISSES : RegId := ⟨0x12, 0x1F0⟩
/-- SWITCH 0x100, RWD: [4:0] SLICE_BIT -/
def SWITCH_SW_CTL : RegId := ⟨0x13, 0x100⟩
/-- SWITCH 0x104, RO: [0] quiesced at a closure -/
def SWITCH_SW_STAT : RegId := ⟨0x13, 0x104⟩
/-- SWITCH 0x108, RO: Cells moved by slice 0 -/
def SWITCH_SLICE0_CELLS : RegId := ⟨0x13, 0x108⟩
/-- SWITCH 0x10C, RO: Cells moved by slice 1 -/
def SWITCH_SLICE1_CELLS : RegId := ⟨0x13, 0x10C⟩
/-- SWITCH 0x110, RW: [9:0] station -/
def SWITCH_STN_SEL : RegId := ⟨0x13, 0x110⟩
/-- SWITCH 0x114, RWD: Station enables -/
def SWITCH_STN_CTL : RegId := ⟨0x13, 0x114⟩
/-- SWITCH 0x118, RWD: MAC [31:0] -/
def SWITCH_STN_MAC_LO : RegId := ⟨0x13, 0x118⟩
/-- SWITCH 0x11C, RWD: [15:0] MAC [47:32] -/
def SWITCH_STN_MAC_HI : RegId := ⟨0x13, 0x11C⟩
/-- SWITCH 0x120, RWD: Ports 0–31 -/
def SWITCH_STN_PORTS_LO : RegId := ⟨0x13, 0x120⟩
/-- SWITCH 0x124, RWD: Ports 32–63 -/
def SWITCH_STN_PORTS_HI : RegId := ⟨0x13, 0x124⟩
/-- SWITCH 0x128, RWD: Each: [11:0] VID; [12] valid; [27:16] VID; [28] valid -/
def SWITCH_STN_VLAN (i : Nat) : RegId := ⟨0x13, 0x128 + 4 * i⟩
/-- SWITCH 0x138, RWD: Address i in STN_IP[4i] to STN_IP[4i+3], most significant dword first; IPv4 in STN_IP[4i+3] -/
def SWITCH_STN_IP (i : Nat) : RegId := ⟨0x13, 0x138 + 4 * i⟩
/-- SWITCH 0x178, RWD: 0 = unlimited, or 100 to 100,000 MB/s -/
def SWITCH_STN_RATE_MBS : RegId := ⟨0x13, 0x178⟩
/-- SWITCH 0x17C, RWD: 16 to 4,096 KiB -/
def SWITCH_STN_BURST_KIB : RegId := ⟨0x13, 0x17C⟩
/-- SWITCH 0x180, RO: [31:0]; reading latches [63:32] -/
def SWITCH_STN_TX_BYTES_LO : RegId := ⟨0x13, 0x180⟩
/-- SWITCH 0x184, RO: Latched -/
def SWITCH_STN_TX_BYTES_HI : RegId := ⟨0x13, 0x184⟩
/-- SWITCH 0x188, RO: [31:0]; reading latches [63:32] -/
def SWITCH_STN_RX_BYTES_LO : RegId := ⟨0x13, 0x188⟩
/-- SWITCH 0x18C, RO: Latched -/
def SWITCH_STN_RX_BYTES_HI : RegId := ⟨0x13, 0x18C⟩
/-- SWITCH 0x190, RO: Times the limiter held frames -/
def SWITCH_STN_LIMITED : RegId := ⟨0x13, 0x190⟩
/-- SWITCH 0x194, RWD: 100 to 30,000 ms -/
def SWITCH_FRAG_TIMEOUT_MS : RegId := ⟨0x13, 0x194⟩
/-- SWITCH 0x198, RO: Datagrams in reassembly, 0 to 64 -/
def SWITCH_FRAG_ACTIVE : RegId := ⟨0x13, 0x198⟩
/-- SWITCH 0x19C, RO: Datagrams re-injected -/
def SWITCH_FRAG_REINJECTED : RegId := ⟨0x13, 0x19C⟩
/-- SWITCH 0x1A0, RO: Fragments discarded under R243 -/
def SWITCH_FRAG_DROPPED : RegId := ⟨0x13, 0x1A0⟩
/-- BUF 0x100, RWD: [0] ECN_EN -/
def BUF_BUF_CTL : RegId := ⟨0x14, 0x100⟩
/-- BUF 0x104, RO: [0] shared cells free below 10 %; [1] any XOFF in force -/
def BUF_BUF_STAT : RegId := ⟨0x14, 0x104⟩
/-- BUF 0x108, RO: 262,144 cells -/
def BUF_CELLS_TOTAL : RegId := ⟨0x14, 0x108⟩
/-- BUF 0x10C, RO: Cells free -/
def BUF_CELLS_FREE : RegId := ⟨0x14, 0x10C⟩
/-- BUF 0x110, RO: Shared pool after reservations -/
def BUF_SHARED_CELLS : RegId := ⟨0x14, 0x110⟩
/-- BUF 0x114, RO: Shared cells in use -/
def BUF_SHARED_USED : RegId := ⟨0x14, 0x114⟩
/-- BUF 0x118, RW: [8:0] port-priority -/
def BUF_PP_SEL : RegId := ⟨0x14, 0x118⟩
/-- BUF 0x11C, RWD: 0 to 4,096 cells -/
def BUF_PP_MIN_CELLS : RegId := ⟨0x14, 0x11C⟩
/-- BUF 0x120, RWD: 0 to 16,384 cells -/
def BUF_PP_HDRM_CELLS : RegId := ⟨0x14, 0x120⟩
/-- BUF 0x124, RWD: XOFF threshold -/
def BUF_PP_ALPHA : RegId := ⟨0x14, 0x124⟩
/-- BUF 0x128, RWD: 2 to 4,096 cells -/
def BUF_PP_XON_DELTA : RegId := ⟨0x14, 0x128⟩
/-- BUF 0x12C, RO: Cells charged -/
def BUF_PP_USED : RegId := ⟨0x14, 0x12C⟩
/-- BUF 0x130, RO: Headroom cells charged -/
def BUF_PP_HDRM_USED : RegId := ⟨0x14, 0x130⟩
/-- BUF 0x134, RO: XOFF transitions -/
def BUF_PP_XOFF_SENT : RegId := ⟨0x14, 0x134⟩
/-- BUF 0x138, RO: Frames discarded under R244 -/
def BUF_PP_DISCARD : RegId := ⟨0x14, 0x138⟩
/-- BUF 0x13C, RWD: 1 to 65,535 cells -/
def BUF_EQ_KMIN : RegId := ⟨0x14, 0x13C⟩
/-- BUF 0x140, RWD: EQ_KMIN + 1 to 65,535 cells -/
def BUF_EQ_KMAX : RegId := ⟨0x14, 0x140⟩
/-- BUF 0x144, RWD: [7:0] probability in 1/256 -/
def BUF_EQ_PMAX : RegId := ⟨0x14, 0x144⟩
/-- BUF 0x148, RO: Egress queue depth in cells -/
def BUF_EQ_DEPTH : RegId := ⟨0x14, 0x148⟩
/-- BUF 0x14C, RO: Frames marked -/
def BUF_EQ_MARKED : RegId := ⟨0x14, 0x14C⟩
/-- BUF 0x150, RW: [2:0] 0 = transport; 1 = wire cipher; 2 = management; 3 = storage; 4 = Zeber receive; 5 = sampler; 6 = re-injection -/
def BUF_SRC_SEL : RegId := ⟨0x14, 0x150⟩
/-- BUF 0x154, RWD: 256 to 16,384 cells -/
def BUF_SRC_CREDIT : RegId := ⟨0x14, 0x154⟩
/-- BUF 0x158, RO: Cells held -/
def BUF_SRC_USED : RegId := ⟨0x14, 0x158⟩
/-- BUF 0x15C, RO: Times the source waited under R245 -/
def BUF_SRC_STALLS : RegId := ⟨0x14, 0x15C⟩
/-- SAMPLE 0x100, RWD: [15:0] bit i = 1: sampler i enabled -/
def SAMPLE_SMP_CTL : RegId := ⟨0x15, 0x100⟩
/-- SAMPLE 0x104, RO: [15:0] bit i = 1: sampler i discarded since last read -/
def SAMPLE_SMP_STAT : RegId := ⟨0x15, 0x104⟩
/-- SAMPLE 0x108, RW: [3:0] sampler -/
def SAMPLE_SMP_SEL : RegId := ⟨0x15, 0x108⟩
/-- SAMPLE 0x10C, RWD: Direction, truncation, selection, ring -/
def SAMPLE_SMP_CFG : RegId := ⟨0x15, 0x10C⟩
/-- SAMPLE 0x110, RWD: 1 to 16,777,216 -/
def SAMPLE_SMP_N : RegId := ⟨0x15, 0x110⟩
/-- SAMPLE 0x114, RWD: Egress ports 0–31 -/
def SAMPLE_SMP_PORTS_LO : RegId := ⟨0x15, 0x114⟩
/-- SAMPLE 0x118, RWD: Egress ports 32–63 -/
def SAMPLE_SMP_PORTS_HI : RegId := ⟨0x15, 0x118⟩
/-- SAMPLE 0x11C, RO: Copies taken -/
def SAMPLE_SMP_TAKEN : RegId := ⟨0x15, 0x11C⟩
/-- SAMPLE 0x120, RO: Copies discarded -/
def SAMPLE_SMP_DROPPED : RegId := ⟨0x15, 0x120⟩
/-- SAMPLE 0x124, RO: SEQ [31:0] of the last copy -/
def SAMPLE_SMP_SEQ : RegId := ⟨0x15, 0x124⟩
/-- CIPHW 0x100, RWD: ESP and padding enables -/
def CIPHW_CW_CTL : RegId := ⟨0x1C, 0x100⟩
/-- CIPHW 0x104, RO: [0] pool full; [1] a lane removed since cold start -/
def CIPHW_CW_STAT : RegId := ⟨0x1C, 0x104⟩
/-- CIPHW 0x108, RO: Lanes in service, 0 to 400 -/
def CIPHW_LANES_UP : RegId := ⟨0x1C, 0x108⟩
/-- CIPHW 0x10C, RW: [9:0] station -/
def CIPHW_STN_SEL : RegId := ⟨0x1C, 0x10C⟩
/-- CIPHW 0x110, RWD: [0] ESP_REQ: 1 = plaintext refused at the station -/
def CIPHW_STN_POLICY : RegId := ⟨0x1C, 0x110⟩
/-- CIPHW 0x114, RO: Bytes encrypted [31:0] -/
def CIPHW_ENC_BYTES_LO : RegId := ⟨0x1C, 0x114⟩
/-- CIPHW 0x118, RO: Latched [63:32] -/
def CIPHW_ENC_BYTES_HI : RegId := ⟨0x1C, 0x118⟩
/-- CIPHW 0x11C, RO: Bytes decrypted [31:0] -/
def CIPHW_DEC_BYTES_LO : RegId := ⟨0x1C, 0x11C⟩
/-- CIPHW 0x120, RO: Latched [63:32] -/
def CIPHW_DEC_BYTES_HI : RegId := ⟨0x1C, 0x120⟩
/-- CIPHW 0x124, RO: R263 step 4 -/
def CIPHW_ICV_DROP : RegId := ⟨0x1C, 0x124⟩
/-- CIPHW 0x128, RO: R263 step 2 -/
def CIPHW_REPLAY_DROP : RegId := ⟨0x1C, 0x128⟩
/-- CIPHW 0x12C, RO: R263 step 1 -/
def CIPHW_NOSA_DROP : RegId := ⟨0x1C, 0x12C⟩
/-- CIPHW 0x130, RO: Plaintext at ESP_REQ stations -/
def CIPHW_PLAIN_DROP : RegId := ⟨0x1C, 0x130⟩
/-- CIPHW 0x134, RO: Bad padding or next header -/
def CIPHW_PAD_DROP : RegId := ⟨0x1C, 0x134⟩
/-- CIPHW 0x138, RO: Inbound packets to HARD SAs -/
def CIPHW_HARD_DROP : RegId := ⟨0x1C, 0x138⟩
/-- CIPHW 0x13C, RO: Decrypted datagrams re-injected -/
def CIPHW_REINJECTED : RegId := ⟨0x1C, 0x13C⟩
/-- CIPHW 0x140, RO: Requests refused under R259 -/
def CIPHW_LEN_REFUSED : RegId := ⟨0x1C, 0x140⟩
/-- CIPHW 0x144, RO: Lane reseeds -/
def CIPHW_RESEEDS : RegId := ⟨0x1C, 0x144⟩
/-- CIPHW 0x148, RO: Lanes stopped for want of a seed -/
def CIPHW_RESEED_WAITS : RegId := ⟨0x1C, 0x148⟩
/-- CIPHW 0x14C, RO: Known-answer failures -/
def CIPHW_KAT_FAILS : RegId := ⟨0x1C, 0x14C⟩
/-- CIPHS 0x100, RO: [0] pool full; [1] a lane removed since cold start -/
def CIPHS_CS_STAT : RegId := ⟨0x1D, 0x100⟩
/-- CIPHS 0x104, RO: Lanes in service, 0 to 400 -/
def CIPHS_LANES_UP : RegId := ⟨0x1D, 0x104⟩
/-- CIPHS 0x108, RO: Blocks sealed [31:0] -/
def CIPHS_ENC_BLOCKS_LO : RegId := ⟨0x1D, 0x108⟩
/-- CIPHS 0x10C, RO: Latched [63:32] -/
def CIPHS_ENC_BLOCKS_HI : RegId := ⟨0x1D, 0x10C⟩
/-- CIPHS 0x110, RO: Blocks opened [31:0] -/
def CIPHS_DEC_BLOCKS_LO : RegId := ⟨0x1D, 0x110⟩
/-- CIPHS 0x114, RO: Latched [63:32] -/
def CIPHS_DEC_BLOCKS_HI : RegId := ⟨0x1D, 0x114⟩
/-- CIPHS 0x118, RO: Blocks of ENC = 0 namespaces -/
def CIPHS_GMAC_BLOCKS : RegId := ⟨0x1D, 0x118⟩
/-- CIPHS 0x11C, RO: Blocks sent again under R271 -/
def CIPHS_RESENT : RegId := ⟨0x1D, 0x11C⟩
/-- CIPHS 0x120, RO: Completions with Integrity Unverified -/
def CIPHS_UNVERIFIED : RegId := ⟨0x1D, 0x120⟩
/-- CIPHS 0x124, RO: Requests refused under R259 -/
def CIPHS_LEN_REFUSED : RegId := ⟨0x1D, 0x124⟩
/-- CIPHS 0x128, RO: Lane reseeds -/
def CIPHS_RESEEDS : RegId := ⟨0x1D, 0x128⟩
/-- CIPHS 0x12C, RO: Lanes stopped for want of a seed -/
def CIPHS_RESEED_WAITS : RegId := ⟨0x1D, 0x12C⟩
/-- CIPHS 0x130, RO: Known-answer failures -/
def CIPHS_KAT_FAILS : RegId := ⟨0x1D, 0x130⟩
/-- KSTORE 0x100, RWD: [0] SWEEP_EN; [1] ESCROW_EN -/
def KSTORE_KS_CTL : RegId := ⟨0x1E, 0x100⟩
/-- KSTORE 0x104, RO: Key store and DRBG status -/
def KSTORE_KS_STAT : RegId := ⟨0x1E, 0x104⟩
/-- KSTORE 0x108, RWD: Sweep ceiling, 10 to 10,000 MB/s -/
def KSTORE_SWEEP_MBS : RegId := ⟨0x1E, 0x108⟩
/-- KSTORE 0x10C, RO: [31:0] -/
def KSTORE_DRBG_REQ_LO : RegId := ⟨0x1E, 0x10C⟩
/-- KSTORE 0x110, RO: Latched [63:32] -/
def KSTORE_DRBG_REQ_HI : RegId := ⟨0x1E, 0x110⟩
/-- KSTORE 0x114, RW: [13:0] slot -/
def KSTORE_NS_SEL : RegId := ⟨0x1E, 0x114⟩
/-- KSTORE 0x11C, RO: Key slot states -/
def KSTORE_NS_KEYS : RegId := ⟨0x1E, 0x11C⟩
/-- KSTORE 0x120, RO: Epoch number of the CURRENT key -/
def KSTORE_NS_EPOCH : RegId := ⟨0x1E, 0x120⟩
/-- KSTORE 0x124, RO: Parcels with SWEEP = 1 -/
def KSTORE_NS_SWEEP_LEFT : RegId := ⟨0x1E, 0x124⟩
/-- KSTORE 0x128, WO: Key command -/
def KSTORE_KEY_CMD : RegId := ⟨0x1E, 0x128⟩
/-- KSTORE 0x12C, RO: Outcome of the last key command -/
def KSTORE_KEY_CMD_STAT : RegId := ⟨0x1E, 0x12C⟩
/-- KSTORE 0x130, RO: Escrow records pending, 0 to 64 -/
def KSTORE_ESC_PENDING : RegId := ⟨0x1E, 0x130⟩
/-- KSTORE 0x134, RW: [18:0] SA index -/
def KSTORE_SA_SEL : RegId := ⟨0x1E, 0x134⟩
/-- KSTORE 0x138, WO: SA command -/
def KSTORE_SA_CMD : RegId := ⟨0x1E, 0x138⟩
/-- KSTORE 0x13C, RO: Outcome of the last SA command -/
def KSTORE_SA_CMD_STAT : RegId := ⟨0x1E, 0x13C⟩
/-- KSTORE 0x140, RW: SA image, Table 3; SA_DATA[4..11] write-only -/
def KSTORE_SA_DATA (i : Nat) : RegId := ⟨0x1E, 0x140 + 4 * i⟩
/-- KSTORE 0x1C0, RW: Escrow record, Table 7 -/
def KSTORE_ESC_DATA (i : Nat) : RegId := ⟨0x1E, 0x1C0 + 4 * i⟩
/-- KSTORE 0x210, RO: SAs not FREE -/
def KSTORE_SA_VALID : RegId := ⟨0x1E, 0x210⟩
/-- KSTORE 0x214, RO: SA cache hits -/
def KSTORE_SAC_HITS : RegId := ⟨0x1E, 0x214⟩
/-- KSTORE 0x218, RO: SA cache misses -/
def KSTORE_SAC_MISSES : RegId := ⟨0x1E, 0x218⟩
/-- KSTORE 0x21C, RO: Key archive records written -/
def KSTORE_ARCHIVE_WRITES : RegId := ⟨0x1E, 0x21C⟩
/-- EP 0x100, RWD: Endpoint, power and IDE enables -/
def EP_EP_CTL : RegId := ⟨0x28, 0x100⟩
/-- EP 0x104, RO: Link, readiness and IDE status -/
def EP_EP_STAT : RegId := ⟨0x28, 0x104⟩
/-- EP 0x108, RO: VFs enabled by the host -/
def EP_NUM_VFS : RegId := ⟨0x28, 0x108⟩
/-- EP 0x10C, RWD: Completion timeout, 1 to 50 ms -/
def EP_CTO_MS : RegId := ⟨0x28, 0x10C⟩
/-- EP 0x110, RWD: Idle time before L0p, L1 and idle LTR, 10 to 100,000 µs -/
def EP_IDLE_US : RegId := ⟨0x28, 0x110⟩
/-- EP 0x114, RWD: LTR while active, 0 to 1,000,000 ns -/
def EP_LTR_ACTIVE_NS : RegId := ⟨0x28, 0x114⟩
/-- EP 0x118, RWD: LTR while idle, 0 to 10,000 µs -/
def EP_LTR_IDLE_US : RegId := ⟨0x28, 0x118⟩
/-- EP 0x11C, RO: Non-posted requests outstanding, 0 to 16,384 -/
def EP_TAGS_OUT : RegId := ⟨0x28, 0x11C⟩
/-- EP 0x120, RO: Tags quarantined -/
def EP_TAGS_QUAR : RegId := ⟨0x28, 0x120⟩
/-- EP 0x124, RO: Requests timed out -/
def EP_CPL_TIMEOUTS : RegId := ⟨0x28, 0x124⟩
/-- EP 0x128, RO: Late completions discarded -/
def EP_LATE_CPL : RegId := ⟨0x28, 0x128⟩
/-- EP 0x12C, RO: FLRs completed -/
def EP_FLRS : RegId := ⟨0x28, 0x12C⟩
/-- EP 0x130, RO: Removals under R292 -/
def EP_SURPRISE_DOWNS : RegId := ⟨0x28, 0x130⟩
/-- EP 0x134, RO: IDE check failures -/
def EP_IDE_FAILS : RegId := ⟨0x28, 0x134⟩
/-- EP 0x138, RO: Width reductions -/
def EP_L0P_ENTRIES : RegId := ⟨0x28, 0x138⟩
/-- EP 0x13C, RW: [7:0] 0 = PF; v = VF v -/
def EP_FN_SEL : RegId := ⟨0x28, 0x13C⟩
/-- EP 0x140, RO: State of the function -/
def EP_FN_STATE : RegId := ⟨0x28, 0x140⟩
/-- EP 0x144, RWD: [11:0] host index of the function's NQN -/
def EP_FN_HOSTIDX : RegId := ⟨0x28, 0x144⟩
/-- EP 0x148, RO: Commands ended with Host Access Aborted -/
def EP_FN_ABORTED : RegId := ⟨0x28, 0x148⟩
/-- RINGS 0x100, RWD: Ring and push enables -/
def RINGS_RINGS_CTL : RegId := ⟨0x29, 0x100⟩
/-- RINGS 0x104, RO: Cache and holding status -/
def RINGS_RINGS_STAT : RegId := ⟨0x29, 0x104⟩
/-- RINGS 0x108, RO: Rings provided, 65,536 -/
def RINGS_RING_LIMIT : RegId := ⟨0x29, 0x108⟩
/-- RINGS 0x10C, RO: Function rings provided, 57,344 -/
def RINGS_FN_RINGS_MAX : RegId := ⟨0x29, 0x10C⟩
/-- RINGS 0x110, RO: Function rings not DISABLED -/
def RINGS_RINGS_ACTIVE : RegId := ⟨0x29, 0x110⟩
/-- RINGS 0x114, RWD: Descriptors read ahead, 1 to 16 -/
def RINGS_PREFETCH_DEPTH : RegId := ⟨0x29, 0x114⟩
/-- RINGS 0x118, RO: Prefetch lines in use, 0 to 16,384 -/
def RINGS_PF_LINES_USED : RegId := ⟨0x29, 0x118⟩
/-- RINGS 0x11C, RO: Descriptors granted -/
def RINGS_GRANTS : RegId := ⟨0x29, 0x11C⟩
/-- RINGS 0x120, RO: Pushes accepted -/
def RINGS_PUSH_ACCEPTED : RegId := ⟨0x29, 0x120⟩
/-- RINGS 0x124, RO: Pushes taken as doorbells -/
def RINGS_PUSH_REJECTED : RegId := ⟨0x29, 0x124⟩
/-- RINGS 0x128, RO: Records held under R290 and R302 -/
def RINGS_CPL_HELD : RegId := ⟨0x29, 0x128⟩
/-- RINGS 0x12C, RO: Chain waits pending on rings -/
def RINGS_CHAIN_PENDING : RegId := ⟨0x29, 0x12C⟩
/-- RINGS 0x130, RW: [7:0] function -/
def RINGS_FN_SEL : RegId := ⟨0x29, 0x130⟩
/-- RINGS 0x134, RWD: [15:0] first global ring of the function -/
def RINGS_FN_RING_BASE : RegId := ⟨0x29, 0x134⟩
/-- RINGS 0x138, RWD: Rings of the function; PF 0 to 57,344, VF 0 to 1,024 -/
def RINGS_FN_RING_COUNT : RegId := ⟨0x29, 0x138⟩
/-- RINGS 0x13C, RWD: Weight ceiling, 1 to 255 -/
def RINGS_FN_WEIGHT_MAX : RegId := ⟨0x29, 0x13C⟩
/-- RINGS 0x140, RW: [15:0] global ring -/
def RINGS_RING_SEL : RegId := ⟨0x29, 0x140⟩
/-- RINGS 0x144, RO: State, kind and function -/
def RINGS_RING_STATE : RegId := ⟨0x29, 0x144⟩
/-- RINGS 0x148, RO: [15:0] head; [31:16] tail -/
def RINGS_RING_PTRS : RegId := ⟨0x29, 0x148⟩
/-- RINGS 0x14C, RO: Descriptors granted and not completed -/
def RINGS_RING_INFLIGHT : RegId := ⟨0x29, 0x14C⟩
/-- RINGS 0x150, RWD: Output ring: [7:0] weight, 1 to 255; [13:8] burst, 1 to 32 packets -/
def RINGS_OUT_SCHED : RegId := ⟨0x29, 0x150⟩
/-- RP 0x100, RWD: [0] PORT_EN; [1] L0P_EN; [2] CONTAIN_EN -/
def RP_RP_CTL (k : Nat) : RegId := ⟨0x30 + k, 0x100⟩
/-- RP 0x104, RO: Port state and link -/
def RP_RP_STAT (k : Nat) : RegId := ⟨0x30 + k, 0x104⟩
/-- RP 0x108, RWD: Completion timeout, 1 to 100 ms -/
def RP_CTO_MS (k : Nat) : RegId := ⟨0x30 + k, 0x108⟩
/-- RP 0x10C, RWD: Timeouts in 1 s before recovery, 1 to 64 -/
def RP_TO_ESCALATE (k : Nat) : RegId := ⟨0x30 + k, 0x10C⟩
/-- RP 0x110, RWD: Power-good to PERST_N release, 1 to 1,000 ms -/
def RP_PERST_DLY_MS (k : Nat) : RegId := ⟨0x30 + k, 0x110⟩
/-- RP 0x114, RWD: Ceiling on CSTS.RDY wait, 1,000 to 60,000 ms -/
def RP_READY_MS (k : Nat) : RegId := ⟨0x30 + k, 0x114⟩
/-- RP 0x118, RWD: L0p idle time, 10 to 100,000 µs -/
def RP_IDLE_US (k : Nat) : RegId := ⟨0x30 + k, 0x118⟩
/-- RP 0x11C, RO: Tags outstanding, 0 to 16,384 -/
def RP_TAGS_OUT (k : Nat) : RegId := ⟨0x30 + k, 0x11C⟩
/-- RP 0x120, RO: Tags quarantined -/
def RP_TAGS_QUAR (k : Nat) : RegId := ⟨0x30 + k, 0x120⟩
/-- RP 0x124, RO: Timeouts under R313 -/
def RP_CMD_TIMEOUTS (k : Nat) : RegId := ⟨0x30 + k, 0x124⟩
/-- RP 0x128, RO: Late completions discarded -/
def RP_LATE_CPL (k : Nat) : RegId := ⟨0x30 + k, 0x128⟩
/-- RP 0x12C, RO: Inbound writes to quarantined apertures -/
def RP_LATE_DATA (k : Nat) : RegId := ⟨0x30 + k, 0x12C⟩
/-- RP 0x130, RO: Containments -/
def RP_CONTAINS (k : Nat) : RegId := ⟨0x30 + k, 0x130⟩
/-- RP 0x134, RO: Link losses under R316 -/
def RP_LINK_DOWNS (k : Nat) : RegId := ⟨0x30 + k, 0x134⟩
/-- RP 0x138, RO: [7:0] I/O queue pairs; [28:16] entries per queue -/
def RP_QPAIRS (k : Nat) : RegId := ⟨0x30 + k, 0x138⟩
/-- RP 0x13C, RO: Namespace 1 size in blocks [31:0]; reading latches [63:32] -/
def RP_DRV_BLOCKS_LO (k : Nat) : RegId := ⟨0x30 + k, 0x13C⟩
/-- RP 0x140, RO: Latched [63:32] -/
def RP_DRV_BLOCKS_HI (k : Nat) : RegId := ⟨0x30 + k, 0x140⟩
/-- RP 0x144, RO: Correctable errors -/
def RP_CORR_ERRS (k : Nat) : RegId := ⟨0x30 + k, 0x144⟩
/-- RP 0x148, RO: Narrowings under R317 -/
def RP_L0P_ENTRIES (k : Nat) : RegId := ⟨0x30 + k, 0x148⟩
/-- BAYPWR 0x100, RWD: [0] AUTO_ON: 1 = bays power on insertion -/
def BAYPWR_BP_CTL (k : Nat) : RegId := ⟨0x48 + k, 0x100⟩
/-- BAYPWR 0x104, RO: Feeds and chiplet link -/
def BAYPWR_BP_STAT (k : Nat) : RegId := ⟨0x48 + k, 0x104⟩
/-- BAYPWR 0x108, RWD: UV, 8,000 to 11,500 mV -/
def BAYPWR_UV_MV (k : Nat) : RegId := ⟨0x48 + k, 0x108⟩
/-- BAYPWR 0x10C, RWD: OV, 12,600 to 14,500 mV -/
def BAYPWR_OV_MV (k : Nat) : RegId := ⟨0x48 + k, 0x10C⟩
/-- BAYPWR 0x110, RWD: Insertion delay, 0 to 10,000 ms -/
def BAYPWR_INS_DLY_MS (k : Nat) : RegId := ⟨0x48 + k, 0x110⟩
/-- BAYPWR 0x114, RWD: Minimum off-time, 100 to 10,000 ms -/
def BAYPWR_OFF_MIN_MS (k : Nat) : RegId := ⟨0x48 + k, 0x114⟩
/-- BAYPWR 0x118, RWD: Start spacing, 0 to 1,000 ms -/
def BAYPWR_STAGGER_MS (k : Nat) : RegId := ⟨0x48 + k, 0x118⟩
/-- BAYPWR 0x11C, RWD: Bays ramping at once, 1 to 24 -/
def BAYPWR_RAMP_MAX (k : Nat) : RegId := ⟨0x48 + k, 0x11C⟩
/-- BAYPWR 0x200+0x40j, RWD: [0] EN: 0 = bay never powered -/
def BAY_CTL (bay : Nat) : RegId := ⟨0x48 + bay / 6, 0x200 + 0x40 * (bay % 6)⟩
/-- BAYPWR 0x204+0x40j, RWD: Current limits and fast-trip factor -/
def BAY_ILIM (bay : Nat) : RegId := ⟨0x48 + bay / 6, 0x204 + 0x40 * (bay % 6)⟩
/-- BAYPWR 0x208+0x40j, RWD: [6:0] P_LIM, 5 to 100 W -/
def BAY_PLIM (bay : Nat) : RegId := ⟨0x48 + bay / 6, 0x208 + 0x40 * (bay % 6)⟩
/-- BAYPWR 0x20C+0x40j, RWD: [7:0] T_FLT in 0.1 ms, 5 to 250 -/
def BAY_TFLT (bay : Nat) : RegId := ⟨0x48 + bay / 6, 0x20C + 0x40 * (bay % 6)⟩
/-- BAYPWR 0x210+0x40j, RWD: [12:0] RETRY_WAIT in 10 ms, 10 to 6,000; [23:16] RETRY_MAX -/
def BAY_RETRY (bay : Nat) : RegId := ⟨0x48 + bay / 6, 0x210 + 0x40 * (bay % 6)⟩
/-- BAYPWR 0x214+0x40j, RO: State, feed, limiting and fault -/
def BAY_STAT (bay : Nat) : RegId := ⟨0x48 + bay / 6, 0x214 + 0x40 * (bay % 6)⟩
/-- BAYPWR 0x218+0x40j, RW1C: Faults seen -/
def BAY_FAULT (bay : Nat) : RegId := ⟨0x48 + bay / 6, 0x218 + 0x40 * (bay % 6)⟩
/-- BAYPWR 0x21C+0x40j, RO: [15:0] VIN_A; [31:16] VIN_B, mV -/
def BAY_VIN (bay : Nat) : RegId := ⟨0x48 + bay / 6, 0x21C + 0x40 * (bay % 6)⟩
/-- BAYPWR 0x220+0x40j, RO: [15:0] V_OUT, mV -/
def BAY_VOUT (bay : Nat) : RegId := ⟨0x48 + bay / 6, 0x220 + 0x40 * (bay % 6)⟩
/-- BAYPWR 0x224+0x40j, RO: [15:0] bay current, mA -/
def BAY_IOUT (bay : Nat) : RegId := ⟨0x48 + bay / 6, 0x224 + 0x40 * (bay % 6)⟩
/-- BAYPWR 0x228+0x40j, RO: [7:0] V_GS of A; [15:8] V_GS of B; [23:16] gate enhancement; 0.1 V -/
def BAY_VGS (bay : Nat) : RegId := ⟨0x48 + bay / 6, 0x228 + 0x40 * (bay % 6)⟩
/-- BAYPWR 0x22C+0x40j, WO: [2:0] 1 = OFF; 2 = ON; 3 = CLEAR; 4 = CYCLE -/
def BAY_CMD (bay : Nat) : RegId := ⟨0x48 + bay / 6, 0x22C + 0x40 * (bay % 6)⟩
/-- BAYPWR 0x230+0x40j, RO: [1:0] 0 = done; 1 = wrong state; 2 = reserved command -/
def BAY_CMD_STAT (bay : Nat) : RegId := ⟨0x48 + bay / 6, 0x230 + 0x40 * (bay % 6)⟩
/-- BAYPWR 0x234+0x40j, RO: Entries to RAMPING -/
def BAY_STARTS (bay : Nat) : RegId := ⟨0x48 + bay / 6, 0x234 + 0x40 * (bay % 6)⟩
/-- BAYPWR 0x238+0x40j, RO: Changeovers and returns -/
def BAY_CHANGES (bay : Nat) : RegId := ⟨0x48 + bay / 6, 0x238 + 0x40 * (bay % 6)⟩
/-- SIDEBAND 0x100, RWD: [0] LONG_OFF_EN; [1] LED_EN; [2] IFDET_REQ -/
def SIDEBAND_SB_CTL : RegId := ⟨0x4C, 0x100⟩
/-- SIDEBAND 0x104, RO: [0] an input quarantined; [1] this controller drives the LED chain -/
def SIDEBAND_SB_STAT : RegId := ⟨0x4C, 0x104⟩
/-- SIDEBAND 0x108, RO: [23:0] 1 = presence accepted -/
def SIDEBAND_PRSNT : RegId := ⟨0x4C, 0x108⟩
/-- SIDEBAND 0x10C, RO: [23:0] 1 = IFDET_N low, accepted -/
def SIDEBAND_IFDET : RegId := ⟨0x4C, 0x10C⟩
/-- SIDEBAND 0x110, RO: [23:0] 1 = button pressed, accepted -/
def SIDEBAND_ATTN : RegId := ⟨0x4C, 0x110⟩
/-- SIDEBAND 0x114, RW1C: [23:0] 1 = quarantined; write 1 to end -/
def SIDEBAND_QUAR_PRSNT : RegId := ⟨0x4C, 0x114⟩
/-- SIDEBAND 0x118, RW1C: As above -/
def SIDEBAND_QUAR_IFDET : RegId := ⟨0x4C, 0x118⟩
/-- SIDEBAND 0x11C, RW1C: As above -/
def SIDEBAND_QUAR_ATTN : RegId := ⟨0x4C, 0x11C⟩
/-- SIDEBAND 0x120, RO: [23:0] 1 = PERST_N released -/
def SIDEBAND_PERST_REL : RegId := ⟨0x4C, 0x120⟩
/-- SIDEBAND 0x124, RO: [23:0] 1 = PWRDIS asserted -/
def SIDEBAND_PWRDIS : RegId := ⟨0x4C, 0x124⟩
/-- SIDEBAND 0x128, RO: [0] 1 = DUALPORTEN_N driven low -/
def SIDEBAND_DPEN : RegId := ⟨0x4C, 0x128⟩
/-- SIDEBAND 0x12C, RWD: LED modes, Table 20 -/
def SIDEBAND_LED_MODE (i : Nat) : RegId := ⟨0x4C, 0x12C + 4 * i⟩
/-- SIDEBAND 0x144, RO: Presses -/
def SIDEBAND_PRESSES : RegId := ⟨0x4C, 0x144⟩
/-- SIDEBAND 0x148, RO: Long presses -/
def SIDEBAND_LONG_PRESSES : RegId := ⟨0x4C, 0x148⟩
/-- SIDEBAND 0x14C, RO: Quarantines under R319 -/
def SIDEBAND_QUARANTINES : RegId := ⟨0x4C, 0x14C⟩
/-- SIDEBAND 0x150, RO: Accepted edges, all inputs -/
def SIDEBAND_EDGES : RegId := ⟨0x4C, 0x150⟩
/-- ZEBER 0x100, RWD: Link enable and minimum width -/
def ZEBER_ZB_CTL : RegId := ⟨0x50, 0x100⟩
/-- ZEBER 0x104, RO: Link status -/
def ZEBER_ZB_STAT : RegId := ⟨0x50, 0x104⟩
/-- ZEBER 0x108, RO: Bit i = 1: lane i in use -/
def ZEBER_LANES_UP : RegId := ⟨0x50, 0x108⟩
/-- ZEBER 0x10C, RO: Retrains -/
def ZEBER_RETRAINS : RegId := ⟨0x50, 0x10C⟩
/-- ZEBER 0x110, RO: Flits replayed under R338 -/
def ZEBER_FLIT_REPLAYS : RegId := ⟨0x50, 0x110⟩
/-- ZEBER 0x114, RO: Flits failing their CRC -/
def ZEBER_CRC_ERRS : RegId := ⟨0x50, 0x114⟩
/-- ZEBER 0x118, RO: Codewords corrected -/
def ZEBER_FEC_CORR : RegId := ⟨0x50, 0x118⟩
/-- ZEBER 0x11C, RO: Codewords uncorrectable -/
def ZEBER_FEC_UNCORR : RegId := ⟨0x50, 0x11C⟩
/-- ZEBER 0x120, RO: Payload bytes sent [31:0] -/
def ZEBER_TX_BYTES_LO : RegId := ⟨0x50, 0x120⟩
/-- ZEBER 0x124, RO: Latched [63:32] -/
def ZEBER_TX_BYTES_HI : RegId := ⟨0x50, 0x124⟩
/-- ZEBER 0x128, RO: Payload bytes received [31:0] -/
def ZEBER_RX_BYTES_LO : RegId := ⟨0x50, 0x128⟩
/-- ZEBER 0x12C, RO: Latched [63:32] -/
def ZEBER_RX_BYTES_HI : RegId := ⟨0x50, 0x12C⟩
/-- ZEBER 0x130, RO: Last MSEQ sent [31:0] -/
def ZEBER_MSEQ_TX : RegId := ⟨0x50, 0x130⟩
/-- ZEBER 0x134, RO: Last MSEQ acknowledged [31:0] -/
def ZEBER_MSEQ_ACKED : RegId := ⟨0x50, 0x134⟩
/-- ZEBER 0x138, RO: Longest put-to-acknowledgement time -/
def ZEBER_MIRROR_LAG_NS_MAX : RegId := ⟨0x50, 0x138⟩
/-- ZEBER 0x13C, RO: Messages that waited for credits -/
def ZEBER_CREDIT_STALLS : RegId := ⟨0x50, 0x13C⟩
/-- PAIR 0x100, RWD: Topology, failback and arbitration -/
def PAIR_PAIR_CTL : RegId := ⟨0x51, 0x100⟩
/-- PAIR 0x104, RO: Pair state and sense -/
def PAIR_PAIR_STAT : RegId := ⟨0x51, 0x104⟩
/-- PAIR 0x108, RO: PAIR_EPOCH [31:0] -/
def PAIR_PAIR_EPOCH_LO : RegId := ⟨0x51, 0x108⟩
/-- PAIR 0x10C, RO: Latched [63:32] -/
def PAIR_PAIR_EPOCH_HI : RegId := ⟨0x51, 0x10C⟩
/-- PAIR 0x110, RWD: Ranging interval, 5 to 100 µs -/
def PAIR_RANGING_US : RegId := ⟨0x51, 0x110⟩
/-- PAIR 0x114, RWD: 500 to 20,000 µs, at least 10 × RANGING_US -/
def PAIR_RANGING_TIMEOUT_US : RegId := ⟨0x51, 0x114⟩
/-- PAIR 0x118, RWD: Controller 1's arbitration delay, 0 to 10,000 µs -/
def PAIR_ARB_DELAY_US : RegId := ⟨0x51, 0x118⟩
/-- PAIR 0x11C, RWD: Capsule hold during a move, 10 to 1,000 ms -/
def PAIR_MOVE_HOLD_MS : RegId := ⟨0x51, 0x11C⟩
/-- PAIR 0x120, RWD: SEEKING limit with partner present, 5 to 600 s -/
def PAIR_JOIN_WAIT_S : RegId := ⟨0x51, 0x120⟩
/-- PAIR 0x124, RO: Last ranging round trip -/
def PAIR_RANGE_RTT_NS : RegId := ⟨0x51, 0x124⟩
/-- PAIR 0x128, RO: Detection time of the last loss -/
def PAIR_LAST_DETECT_US : RegId := ⟨0x51, 0x128⟩
/-- PAIR 0x12C, RW: [13:0] slot to move -/
def PAIR_MOVE_SLOT : RegId := ⟨0x51, 0x12C⟩
/-- PAIR 0x130, WO: [1:0] 1 = MOVE the slot to the other controller; others reserved -/
def PAIR_MOVE_CMD : RegId := ⟨0x51, 0x130⟩
/-- PAIR 0x134, RO: Move state and outcome -/
def PAIR_MOVE_STAT : RegId := ⟨0x51, 0x134⟩
/-- PAIR 0x138, RO: Namespaces owned here -/
def PAIR_NS_OWNED : RegId := ⟨0x51, 0x138⟩
/-- PAIR 0x13C, RO: Pair records awaiting the partner -/
def PAIR_RECORDS_PENDING : RegId := ⟨0x51, 0x13C⟩
/-- PAIR 0x140, RO: Data still to copy under R359 -/
def PAIR_RESYNC_MIB_LEFT : RegId := ⟨0x51, 0x140⟩
/-- PAIR 0x144, RO: Entries to PARTNER_LOST -/
def PAIR_FAILOVERS : RegId := ⟨0x51, 0x144⟩
/-- PAIR 0x148, RO: Entries to ARBITRATING -/
def PAIR_ARBITRATIONS : RegId := ⟨0x51, 0x148⟩
/-- PAIR 0x14C, RO: Last preemption -/
def PAIR_ARB_LAST : RegId := ⟨0x51, 0x14C⟩
/-- PAIR 0x150, RO: Moves completed -/
def PAIR_MOVES : RegId := ⟨0x51, 0x150⟩
/-- TRUST 0x100, RWD: Export enables -/
def TRUST_TRUST_CTL : RegId := ⟨0x6, 0x100⟩
/-- TRUST 0x104, RO: Lifecycle, boot and debug state -/
def TRUST_TRUST_STAT : RegId := ⟨0x6, 0x104⟩
/-- TRUST 0x108, RO: [31:0] -/
def TRUST_BOOT_COUNT_LO : RegId := ⟨0x6, 0x108⟩
/-- TRUST 0x10C, RO: Latched [63:32] -/
def TRUST_BOOT_COUNT_HI : RegId := ⟨0x6, 0x10C⟩
/-- TRUST 0x110, RO: Newest SEQ [31:0] -/
def TRUST_FB_NEWEST_LO : RegId := ⟨0x6, 0x110⟩
/-- TRUST 0x114, RO: Latched [63:32] -/
def TRUST_FB_NEWEST_HI : RegId := ⟨0x6, 0x114⟩
/-- TRUST 0x118, RO: Oldest retained SEQ [31:0] -/
def TRUST_FB_OLDEST_LO : RegId := ⟨0x6, 0x118⟩
/-- TRUST 0x11C, RO: Latched [63:32] -/
def TRUST_FB_OLDEST_HI : RegId := ⟨0x6, 0x11C⟩
/-- TRUST 0x120, RO: GAP entries written -/
def TRUST_FB_GAPS : RegId := ⟨0x6, 0x120⟩
/-- TRUST 0x124, RO: WRAP entries written -/
def TRUST_FB_WRAPS : RegId := ⟨0x6, 0x124⟩
/-- TRUST 0x128, RO: Entries queued, 0 to 16 -/
def TRUST_FB_PENDING : RegId := ⟨0x6, 0x128⟩
/-- TRUST 0x12C, RO: [0] device A writable; [1] device B writable -/
def TRUST_FB_DEV_STAT : RegId := ⟨0x6, 0x12C⟩
/-- TRUST 0x130, WO: [0] 1 = confirm the boot under R371 -/
def TRUST_BOOT_CONFIRM : RegId := ⟨0x6, 0x130⟩
/-- TRUST 0x134, RWD: Confirmation window, 60 to 3,600 s -/
def TRUST_BOOT_CONFIRM_S : RegId := ⟨0x6, 0x134⟩
/-- TRUST 0x138, WO: [1:0] 1 = ACTIVATE; others reserved -/
def TRUST_ACT_CMD : RegId := ⟨0x6, 0x138⟩
/-- TRUST 0x13C, RO: Activation state -/
def TRUST_ACT_STAT : RegId := ⟨0x6, 0x13C⟩
/-- TRUST 0x140, RW: [2:0] counter -/
def TRUST_SVN_SEL : RegId := ⟨0x6, 0x140⟩
/-- TRUST 0x144, RO: [6:0] value of the selected counter -/
def TRUST_SVN_FUSED : RegId := ⟨0x6, 0x144⟩
/-- TRUST 0x148, WO: [1:0] 1 = ADVANCE; others reserved -/
def TRUST_SVN_CMD : RegId := ⟨0x6, 0x148⟩
/-- TRUST 0x14C, RO: Debug nonce, 32 B -/
def TRUST_DBG_NONCE (i : Nat) : RegId := ⟨0x6, 0x14C + 4 * i⟩
/-- TRUST 0x16C, RO: Debug scope and attempts -/
def TRUST_DBG_STAT : RegId := ⟨0x6, 0x16C⟩
/-- TRUST 0x170, RO: [3:0] owner slots burnt; [7:4] revoked; [11:8] vendor slots revoked -/
def TRUST_OWNER_STAT : RegId := ⟨0x6, 0x170⟩
/-- TRUST 0x174, RW: [3:0] component, 1 to 8 -/
def TRUST_MEAS_SEL : RegId := ⟨0x6, 0x174⟩
/-- TRUST 0x178, RO: SHA-384 of the running component -/
def TRUST_MEAS_DIGEST (i : Nat) : RegId := ⟨0x6, 0x178 + 4 * i⟩
/-- TRUST 0x1A8, RO: [15:0] SVN; [17:16] slot -/
def TRUST_MEAS_INFO : RegId := ⟨0x6, 0x1A8⟩
/-- DATUM 0x100, RWL: Confirmation window, 5 to 3,600 s; applies to the next commit -/
def DATUM_CONFIRM_S : RegId := ⟨0x1, 0x100⟩
/-- DATUM 0x104, RO: Datum state -/
def DATUM_DATUM_STAT : RegId := ⟨0x1, 0x104⟩
/-- DATUM 0x108, RO: Active datum ID [31:0] -/
def DATUM_ACTIVE_ID_LO : RegId := ⟨0x1, 0x108⟩
/-- DATUM 0x10C, RO: Latched [63:32] -/
def DATUM_ACTIVE_ID_HI : RegId := ⟨0x1, 0x10C⟩
/-- DATUM 0x110, RO: Previous datum ID [31:0] -/
def DATUM_PREV_ID_LO : RegId := ⟨0x1, 0x110⟩
/-- DATUM 0x114, RO: Latched [63:32] -/
def DATUM_PREV_ID_HI : RegId := ⟨0x1, 0x114⟩
/-- DATUM 0x118, RO: Staged datum ID [31:0] -/
def DATUM_STAGED_ID_LO : RegId := ⟨0x1, 0x118⟩
/-- DATUM 0x11C, RO: Latched [63:32] -/
def DATUM_STAGED_ID_HI : RegId := ⟨0x1, 0x11C⟩
/-- DATUM 0x120, WO: Datum command -/
def DATUM_DATUM_CMD : RegId := ⟨0x1, 0x120⟩
/-- DATUM 0x124, RO: Outcome of the last command -/
def DATUM_CMD_STAT : RegId := ⟨0x1, 0x124⟩
/-- DATUM 0x128, RO: Confirmation time remaining -/
def DATUM_CONFIRM_LEFT_S : RegId := ⟨0x1, 0x128⟩
/-- DATUM 0x12C, RO: Bit 32i + b = 1: page 32i + b has staged changes -/
def DATUM_STAGED_PAGES (i : Nat) : RegId := ⟨0x1, 0x12C + 4 * i⟩
/-- DATUM 0x14C, RW: [7:0] page; [21:8] offset [15:2] -/
def DATUM_PEEK_SEL : RegId := ⟨0x1, 0x14C⟩
/-- DATUM 0x150, RW: [25:0] selector index -/
def DATUM_PEEK_INDEX : RegId := ⟨0x1, 0x150⟩
/-- DATUM 0x154, RO: Staged or running value under R387 -/
def DATUM_PEEK_VALUE : RegId := ⟨0x1, 0x154⟩
/-- DATUM 0x158, RO: Hold of the last closure -/
def DATUM_QUIESCE_NS_LAST : RegId := ⟨0x1, 0x158⟩
/-- DATUM 0x15C, RO: Longest hold since cold start -/
def DATUM_QUIESCE_NS_MAX : RegId := ⟨0x1, 0x15C⟩
/-- DATUM 0x160, RO: Controller time of the last closure [31:0] -/
def DATUM_CLOSURE_TIME_LO : RegId := ⟨0x1, 0x160⟩
/-- DATUM 0x164, RO: Latched [63:32] -/
def DATUM_CLOSURE_TIME_HI : RegId := ⟨0x1, 0x164⟩
/-- DATUM 0x168, RO: Closures of commits -/
def DATUM_COMMITS : RegId := ⟨0x1, 0x168⟩
/-- DATUM 0x16C, RO: Reverts, manual and automatic -/
def DATUM_REVERTS : RegId := ⟨0x1, 0x16C⟩
/-- DATUM 0x170, RO: Commands refused -/
def DATUM_REFUSED : RegId := ⟨0x1, 0x170⟩
/-- DATUM 0x174, RO: Quiesce attempts repeated under R390 -/
def DATUM_QUIESCE_RETRIES : RegId := ⟨0x1, 0x174⟩
/-- PWR 0x100, RWD: [0] AVS_EN; [1] DOM_AUTO -/
def PWR_PWR_CTL : RegId := ⟨0x2, 0x100⟩
/-- PWR 0x104, RO: Rails, AVS and thermal status -/
def PWR_PWR_STAT : RegId := ⟨0x2, 0x104⟩
/-- PWR 0x108, RO: Bit i = 1: PDi on, i = 0 to 31 -/
def PWR_DOM_ON_LO : RegId := ⟨0x2, 0x108⟩
/-- PWR 0x10C, RO: [15:0] PD32 to PD47 -/
def PWR_DOM_ON_HI : RegId := ⟨0x2, 0x10C⟩
/-- PWR 0x110, RO: VDD_CORE setpoint, mV -/
def PWR_CORE_MV : RegId := ⟨0x2, 0x110⟩
/-- PWR 0x114, RO: Fused setpoint, 700 to 800 mV -/
def PWR_CORE_MV_FUSED : RegId := ⟨0x2, 0x114⟩
/-- PWR 0x118, RO: VDD_CORE current from PMBus, A -/
def PWR_CORE_A : RegId := ⟨0x2, 0x118⟩
/-- PWR 0x11C, RW: [2:0] 0 = VDD_CORE; 1 = VDD_SRAM; 2 = VDD_AON; 3 = VDD_SDS_L; 4 = VDD_SDS_H; 5 = VDDQ; 6 = VDD_IO; 7 = VDD_PC -/
def PWR_RAIL_SEL : RegId := ⟨0x2, 0x11C⟩
/-- PWR 0x120, RO: Selected rail at the die, mV -/
def PWR_RAIL_MV : RegId := ⟨0x2, 0x120⟩
/-- PWR 0x124, RO: [7:0] hottest junction, °C; [13:8] sensor -/
def PWR_TEMP_C : RegId := ⟨0x2, 0x124⟩
/-- PWR 0x128, RO: [7:0] highest since cold start, °C -/
def PWR_TEMP_MAX_C : RegId := ⟨0x2, 0x128⟩
/-- PWR 0x12C, RWD: Warning threshold, 80 to 105 °C -/
def PWR_THERM_WARN_C : RegId := ⟨0x2, 0x12C⟩
/-- PWR 0x130, RO: Failed AVSBus transactions -/
def PWR_AVS_ERRS : RegId := ⟨0x2, 0x130⟩
/-- PWR 0x134, RO: Rail window violations -/
def PWR_RAIL_FAULTS : RegId := ⟨0x2, 0x134⟩
/-- PWR 0x138, RO: Domain switches -/
def PWR_DOM_SWITCHES : RegId := ⟨0x2, 0x138⟩
/-- CLK 0x100, RO: Lock, backup and discipline status -/
def CLK_CLK_STAT : RegId := ⟨0x3, 0x100⟩
/-- CLK 0x104, RO: [4:0] 1 = within tolerance: REFCLK_SYS, NET0, NET1, EP_REFCLK, crystal -/
def CLK_REF_STAT : RegId := ⟨0x3, 0x104⟩
/-- CLK 0x108, RW: [2:0] reference, as REF_STAT bit order -/
def CLK_REF_SEL : RegId := ⟨0x3, 0x108⟩
/-- CLK 0x10C, RO: Signed deviation of the selected reference, ppm -/
def CLK_REF_PPM : RegId := ⟨0x3, 0x10C⟩
/-- CLK 0x110, RO: Controller time [31:0] -/
def CLK_TIME_LO : RegId := ⟨0x3, 0x110⟩
/-- CLK 0x114, RO: Latched [63:32] -/
def CLK_TIME_HI : RegId := ⟨0x3, 0x114⟩
/-- CLK 0x118, RW: Signed rate offset, ±1,000,000 ppb -/
def CLK_TIME_ADJ_PPB : RegId := ⟨0x3, 0x118⟩
/-- CLK 0x11C, RW: Signed phase correction to slew -/
def CLK_TIME_SLEW_NS : RegId := ⟨0x3, 0x11C⟩
/-- CLK 0x120, RO: Signed correction not yet applied -/
def CLK_SLEW_LEFT_NS : RegId := ⟨0x3, 0x120⟩
/-- CLK 0x124, WO: Step [31:0] -/
def CLK_TIME_STEP_LO : RegId := ⟨0x3, 0x124⟩
/-- CLK 0x128, WO: Step [63:32], signed; a write applies the step -/
def CLK_TIME_STEP_HI : RegId := ⟨0x3, 0x128⟩
/-- CLK 0x12C, WO: [1:0] 1 = SET_DISCIPLINED; 2 = CLEAR_DISCIPLINED; others reserved -/
def CLK_TIME_CMD : RegId := ⟨0x3, 0x12C⟩
/-- CLK 0x130, RO: References declared out of tolerance -/
def CLK_REF_FAULTS : RegId := ⟨0x3, 0x130⟩
/-- CLK 0x134, RO: PLL losses of lock -/
def CLK_PLL_UNLOCKS : RegId := ⟨0x3, 0x134⟩
/-- RST 0x100, RWD: [0] WDT_EN; [1] FATAL_RESET; [2] SD_BAYS_OFF -/
def RST_RST_CTL : RegId := ⟨0x4, 0x100⟩
/-- RST 0x104, RO: Last reset and start-up status -/
def RST_RST_STAT : RegId := ⟨0x4, 0x104⟩
/-- RST 0x108, WO: Reset command -/
def RST_RST_CMD : RegId := ⟨0x4, 0x108⟩
/-- RST 0x10C, RO: [2:0] RESULT: 0 = accepted; 1 = bad key; 2 = block not resettable or off; 3 = commit, activation or start-up in progress; 4 = power failure accepted; 5 = reserved command -/
def RST_RST_CMD_STAT : RegId := ⟨0x4, 0x10C⟩
/-- RST 0x110, RW: [7:0] page for BLOCK -/
def RST_BLK_SEL : RegId := ⟨0x4, 0x110⟩
/-- RST 0x114, RWD: Watchdog period, 100 to 60,000 ms -/
def RST_WDT_MS : RegId := ⟨0x4, 0x114⟩
/-- RST 0x118, WO: Any write restarts the watchdog -/
def RST_WDT_KICK : RegId := ⟨0x4, 0x118⟩
/-- RST 0x11C, RWD: Assembly wait, 5 to 600 s -/
def RST_ASSEMBLY_WAIT_S : RegId := ⟨0x4, 0x11C⟩
/-- RST 0x120, RWD: Shutdown flush limit, 10 to 3,600 s -/
def RST_SD_TIMEOUT_S : RegId := ⟨0x4, 0x120⟩
/-- RST 0x124, RO: SYS_PWROK or warm reset to release -/
def RST_T_RELEASE_MS : RegId := ⟨0x4, 0x124⟩
/-- RST 0x128, RO: SYS_PWROK or warm reset to namespaces ready -/
def RST_T_ONLINE_MS : RegId := ⟨0x4, 0x128⟩
/-- RST 0x12C, RO: Warm resets since cold start -/
def RST_WARM_RESETS : RegId := ⟨0x4, 0x12C⟩
/-- RST 0x130, RO: Block resets -/
def RST_BLK_RESETS : RegId := ⟨0x4, 0x130⟩
/-- RST 0x134, RWS: [15:0] event code that caused the last warm reset -/
def RST_LAST_CAUSE : RegId := ⟨0x4, 0x134⟩
/-- RST 0x140, RWS: Firmware scratch, kept across warm reset -/
def RST_SCRATCH (i : Nat) : RegId := ⟨0x4, 0x140 + 4 * i⟩
/-- TELEM 0x100, RWD: Snapshot, authorisation and port enables -/
def TELEM_TELEM_CTL : RegId := ⟨0x60, 0x100⟩
/-- TELEM 0x104, RO: Interface status -/
def TELEM_TELEM_STAT : RegId := ⟨0x60, 0x104⟩
/-- TELEM 0x108, RWD: Tokens per second per source, 1 to 10,000 -/
def TELEM_EVT_RATE : RegId := ⟨0x60, 0x108⟩
/-- TELEM 0x10C, RWD: Bucket depth, 1 to 255 -/
def TELEM_EVT_BURST : RegId := ⟨0x60, 0x10C⟩
/-- TELEM 0x110, RWD: EVENT_N re-assertion spacing, 10 to 100,000 µs -/
def TELEM_EVENTN_MIN_US : RegId := ⟨0x60, 0x110⟩
/-- TELEM 0x114, RWD: MSI-X spacing per vector, 0 to 1,000,000 ns -/
def TELEM_MSIX_MIN_NS : RegId := ⟨0x60, 0x114⟩
/-- TELEM 0x118, RO: Events suppressed under R420 -/
def TELEM_SUPPRESSED : RegId := ⟨0x60, 0x118⟩
/-- TELEM 0x11C, RO: Records in the sticky log, 0 to 256 -/
def TELEM_STICKY_COUNT : RegId := ⟨0x60, 0x11C⟩
/-- TELEM 0x120, RW: [7:0] record, 0 = newest -/
def TELEM_STICKY_SEL : RegId := ⟨0x60, 0x120⟩
/-- TELEM 0x124, RO: Selected record, 32 B -/
def TELEM_STICKY_REC (i : Nat) : RegId := ⟨0x60, 0x124 + 4 * i⟩
/-- TELEM 0x144, RWD: Snapshot period, 10 to 60,000 ms -/
def TELEM_SNAP_MS : RegId := ⟨0x60, 0x144⟩
/-- TELEM 0x148, RWD: [3:0] ring for snapshots -/
def TELEM_SNAP_RING : RegId := ⟨0x60, 0x148⟩
/-- TELEM 0x14C, RW: [7:0] snapshot list entry -/
def TELEM_SNAP_SEL : RegId := ⟨0x60, 0x14C⟩
/-- TELEM 0x150, RWD: [0] valid; [23:2] window offset [23:2] -/
def TELEM_SNAP_ADDR : RegId := ⟨0x60, 0x150⟩
/-- TELEM 0x154, RW: [3:0] ring -/
def TELEM_TR_SEL : RegId := ⟨0x60, 0x154⟩
/-- TELEM 0x158, RWD: Ring enable, target, size -/
def TELEM_TR_CFG : RegId := ⟨0x60, 0x158⟩
/-- TELEM 0x15C, RWD: Host base [31:12]; 4 KiB aligned -/
def TELEM_TR_BASE_LO : RegId := ⟨0x60, 0x15C⟩
/-- TELEM 0x160, RWD: Host base [63:32] -/
def TELEM_TR_BASE_HI : RegId := ⟨0x60, 0x160⟩
/-- TELEM 0x164, RO: [15:0] producer index -/
def TELEM_TR_TAIL : RegId := ⟨0x60, 0x164⟩
/-- TELEM 0x168, RW: [15:0] consumer index -/
def TELEM_TR_HEAD : RegId := ⟨0x60, 0x168⟩
/-- TELEM 0x16C, RO: Records discarded -/
def TELEM_TR_DROPPED : RegId := ⟨0x60, 0x16C⟩
/-- TELEM 0x170, RWD: [0] port enable; [1] 0 = IPv4, 1 = IPv6 -/
def TELEM_MP_CTL : RegId := ⟨0x60, 0x170⟩
/-- TELEM 0x174, RWD: Port address, most significant dword first; IPv4 in MP_IP[3] -/
def TELEM_MP_IP (i : Nat) : RegId := ⟨0x60, 0x174 + 4 * i⟩
/-- TELEM 0x184, RWD: Collector address, as MP_IP -/
def TELEM_MP_COLLECTOR (i : Nat) : RegId := ⟨0x60, 0x184 + 4 * i⟩
/-- TELEM 0x194, RWD: [15:0] collector UDP port; [31:16] SPDM, SPDM TCP port -/
def TELEM_MP_PORTS : RegId := ⟨0x60, 0x194⟩
/-- TELEM 0x198, RO: [7:0] assigned EID; 0 = none -/
def TELEM_MCTP_EID : RegId := ⟨0x60, 0x198⟩
/-- TELEM 0x19C, RWD: Heartbeat period, 0 = off, 1 to 3,600 s -/
def TELEM_SM_HB_S : RegId := ⟨0x60, 0x19C⟩
/-- TELEM 0x1A0, WO: Any write restarts the heartbeat -/
def TELEM_SM_HEARTBEAT : RegId := ⟨0x60, 0x1A0⟩
/-- TELEM 0x1A4, RWD: [6:0] regulator address -/
def TELEM_PMBUS_ADDR : RegId := ⟨0x60, 0x1A4⟩
/-- HDR 0x000, RO: Block code, instance and layout version -/
def HDR_PAGE_ID (page : Nat) : RegId := ⟨page, 0x000⟩
/-- HDR 0x004, RO: Capabilities of the page -/
def HDR_PAGE_CAP (page : Nat) : RegId := ⟨page, 0x004⟩
/-- HDR 0x008, RWD: Page control -/
def HDR_PAGE_CTL (page : Nat) : RegId := ⟨page, 0x008⟩
/-- HDR 0x00C, RO: Ready, quiesced, domain on -/
def HDR_PAGE_STAT (page : Nat) : RegId := ⟨page, 0x00C⟩
/-- HDR 0x010, RW1C: Events raised since last cleared -/
def HDR_EVT_STAT (page : Nat) : RegId := ⟨page, 0x010⟩
/-- HDR 0x014, RWD: Events recorded -/
def HDR_EVT_EN (page : Nat) : RegId := ⟨page, 0x014⟩
/-- HDR 0x018, WO: Raise an event by writing its bit -/
def HDR_EVT_FORCE (page : Nat) : RegId := ⟨page, 0x018⟩
/-- HDR 0x01C, RWD: [5:0] event queue of the page's events -/
def HDR_EVT_ROUTE (page : Nat) : RegId := ⟨page, 0x01C⟩
/-- HDR 0x020, RO: Corrected errors in the block's arrays and datapaths -/
def HDR_ERR_CNT_CORR (page : Nat) : RegId := ⟨page, 0x020⟩
/-- HDR 0x024, RO: Uncorrected errors in the same -/
def HDR_ERR_CNT_UNCORR (page : Nat) : RegId := ⟨page, 0x024⟩
/-- HDR 0x028, RO: Last register or block error -/
def HDR_ERR_LAST (page : Nat) : RegId := ⟨page, 0x028⟩
/-- HDR 0x02C, RO: Controller time [47:16] of the last error -/
def HDR_ERR_LAST_TS (page : Nat) : RegId := ⟨page, 0x02C⟩
/-- HDR 0x030, RO: Staged changes pending -/
def HDR_STAGED (page : Nat) : RegId := ⟨page, 0x030⟩
/-- TOP 0x100, RWD: Endpoint writes and management I/O enables -/
def TOP_TOP_CTL : RegId := ⟨0x0, 0x100⟩
/-- TOP 0x104, RO: Straps and service state -/
def TOP_TOP_STAT : RegId := ⟨0x0, 0x104⟩
/-- TOP 0x108, RO: Silicon stepping, B1 -/
def TOP_STEPPING : RegId := ⟨0x0, 0x108⟩
/-- TOP 0x10C, RO: [15:0] Vendor ID; [31:16] PF Device ID -/
def TOP_PCI_IDS : RegId := ⟨0x0, 0x10C⟩
/-- TOP 0x110, RO: Fuse SERIAL [31:0]; reading latches [63:32] -/
def TOP_SERIAL_LO : RegId := ⟨0x0, 0x110⟩
/-- TOP 0x114, RO: Latched [63:32] -/
def TOP_SERIAL_HI : RegId := ⟨0x0, 0x114⟩
/-- TOP 0x118, RO: Bit 32i + b = 1: page 32i + b is in Table 1 -/
def TOP_PAGES_PRESENT (i : Nat) : RegId := ⟨0x0, 0x118 + 4 * i⟩
/-- TOP 0x138, RO: Engines in service -/
def TOP_ENGINES : RegId := ⟨0x0, 0x138⟩
/-- TOP 0x13C, RO: Spares unused -/
def TOP_SPARES : RegId := ⟨0x0, 0x13C⟩
/-- TOP 0x140, RO: NOR devices -/
def TOP_QSPI_STAT : RegId := ⟨0x0, 0x140⟩
/-- TOP 0x144, RO: Seconds since the last cold reset -/
def TOP_UPTIME_S : RegId := ⟨0x0, 0x144⟩
/-- TOP 0x148, RO: [0] CTRL_ID; [1] EP_SRIS; [31:2] reserved -/
def TOP_STRAPS : RegId := ⟨0x0, 0x148⟩
/-- EVT 0x100, RWD: [0] EVENTN_EN: 0 = EVENT_N never driven -/
def EVT_EVT_CTL : RegId := ⟨0x5, 0x100⟩
/-- EVT 0x104, RO: [0] EVENT_N driven low; [1] a queue is full -/
def EVT_EVT_GSTAT : RegId := ⟨0x5, 0x104⟩
/-- EVT 0x108, RO: Bit q = 1: queue q, 0 to 31, holds unread records -/
def EVT_Q_PENDING_LO : RegId := ⟨0x5, 0x108⟩
/-- EVT 0x10C, RO: Queues 32 to 63; not latched -/
def EVT_Q_PENDING_HI : RegId := ⟨0x5, 0x10C⟩
/-- EVT 0x110, RO: Bit q = 1: queue q full -/
def EVT_Q_FULL_LO : RegId := ⟨0x5, 0x110⟩
/-- EVT 0x114, RO: Queues 32 to 63; not latched -/
def EVT_Q_FULL_HI : RegId := ⟨0x5, 0x114⟩
/-- EVT 0x118, RO: Records written to all queues -/
def EVT_RECORDS : RegId := ⟨0x5, 0x118⟩
/-- EVT 0x11C, RO: Events raised under R448 -/
def EVT_FORCED : RegId := ⟨0x5, 0x11C⟩
/-- EVT 0x120, RW: [5:0] queue -/
def EVT_Q_SEL : RegId := ⟨0x5, 0x120⟩
/-- EVT 0x124, RWD: Queue configuration -/
def EVT_Q_CFG : RegId := ⟨0x5, 0x124⟩
/-- EVT 0x128, RWD: Host base [31:12]; 4 KiB aligned -/
def EVT_Q_BASE_LO : RegId := ⟨0x5, 0x128⟩
/-- EVT 0x12C, RWD: Host base [63:32] -/
def EVT_Q_BASE_HI : RegId := ⟨0x5, 0x12C⟩
/-- EVT 0x130, RW: [13:0] consumer index -/
def EVT_Q_HEAD : RegId := ⟨0x5, 0x130⟩
/-- EVT 0x134, RO: [13:0] producer index -/
def EVT_Q_TAIL : RegId := ⟨0x5, 0x134⟩
/-- EVT 0x138, RO: SEQ of the next record -/
def EVT_Q_SEQ : RegId := ⟨0x5, 0x138⟩
/-- EVT 0x13C, RO: Records refused while full, R418 -/
def EVT_Q_REFUSED : RegId := ⟨0x5, 0x13C⟩
/-- HBM 0x100, RO: [0] stack 0 in service; [1] stack 1 in service; [2] training complete -/
def HBM_HBM_STAT : RegId := ⟨0x58, 0x100⟩
/-- HBM 0x104, RO: Capacity, 96 GiB -/
def HBM_HBM_GIB : RegId := ⟨0x58, 0x104⟩
/-- HBM 0x108, RO: [7:0] stack 0, °C; [15:8] stack 1, °C -/
def HBM_HBM_TEMP_C : RegId := ⟨0x58, 0x108⟩
/-- HBM 0x10C, RO: Corrected errors, stack 0 -/
def HBM_HBM_CORR_0 : RegId := ⟨0x58, 0x10C⟩
/-- HBM 0x110, RO: Corrected errors, stack 1 -/
def HBM_HBM_CORR_1 : RegId := ⟨0x58, 0x110⟩
/-- HBM 0x114, RO: [7:0] rows repaired at training, stack 0; [15:8] stack 1 -/
def HBM_HBM_REPAIRS : RegId := ⟨0x58, 0x114⟩
/-- DDR 0x100, RO: [7:0] bit c = 1: channel c in service; [8] training complete -/
def DDR_DDR_STAT : RegId := ⟨0x59, 0x100⟩
/-- DDR 0x104, RO: Capacity in service, 64 to 512 GiB -/
def DDR_DDR_GIB : RegId := ⟨0x59, 0x104⟩
/-- DDR 0x108, RW: [2:0] channel -/
def DDR_CH_SEL : RegId := ⟨0x59, 0x108⟩
/-- DDR 0x10C, RO: [9:0] DIMM GiB; [13:10] ranks; [14] RDIMM with ECC; [15] excluded at training -/
def DDR_CH_INFO : RegId := ⟨0x59, 0x10C⟩
/-- DDR 0x110, RO: [7:0] DIMM sensor, °C -/
def DDR_CH_TEMP_C : RegId := ⟨0x59, 0x110⟩
/-- DDR 0x114, RO: Corrected errors -/
def DDR_CH_CORR : RegId := ⟨0x59, 0x114⟩
/-- DDR 0x118, RO: Uncorrected errors -/
def DDR_CH_UNCORR : RegId := ⟨0x59, 0x118⟩
/-- DDR 0x11C, RO: [15:0] transfer rate in MT/s; 6,400 at speed -/
def DDR_CH_RATE : RegId := ⟨0x59, 0x11C⟩

end Reg

end Sys2Proof.Machine
end

