-- ==== Sys2Proof/Machine/EventTab.lean ====
section
/-!
DEFINITION. Machine/EventTab.lean: every event of the controller and its severity, from the event tables of
each chapter (spec/02 to spec/19). An instanced page's events are listed under the page number of instance
0 (R445). Where a table gives two severities the first is listed, and the raising rule names its own.
-/
namespace Sys2Proof.Machine

/-- Event code (of instance 0) and severity: 0 INFO, 1 REPAIRED, 2 DEGRADED, 3 LOST, 4 FATAL (R416). -/
abbrev EvDef := Nat × Nat

/-- Events, part 1. -/
def eventRows1 : List EvDef := [
  (0x0101, 0), -- INFO: A commit reaches closure
  (0x0102, 0), -- INFO: A datum is confirmed
  (0x0103, 2), -- DEGRADED: Automatic revert
  (0x0104, 0), -- INFO: Manual revert
  (0x0105, 0), -- INFO: A command is refused
  (0x0106, 0), -- INFO: The datum is sealed
  (0x0201, 2), -- DEGRADED: AVSBus failed
  (0x0202, 4), -- FATAL: A rail out of window
  (0x0203, 2), -- DEGRADED: Temperature above `THERM_WARN_C`
  (0x0204, 4), -- FATAL: Thermal trip
  (0x0205, 4), -- FATAL: Chiplet link failed, R7
  (0x0206, 0), -- INFO: A domain switched
  (0x0207, 4), -- FATAL: Trim CRC failed at cold reset or at the rise of `VDD_PC`, R480
  (0x0301, 4), -- FATAL or DEGRADED: A reference out of tolerance
  (0x0302, 0), -- INFO: A reference restored
  (0x0303, 4), -- FATAL: Crystal failed
  (0x0304, 0), -- INFO: Controller time disciplined
  (0x0401, 0), -- INFO: Namespaces ready after start
  (0x0402, 2), -- DEGRADED: Assembly wait expired
  (0x0403, 4), -- FATAL: Watchdog expired
  (0x0404, 0), -- INFO: Shutdown complete
  (0x0405, 0), -- INFO: Block reset complete
  (0x0501, 0), -- INFO: Events suppressed under R420
  (0x0502, 0), -- INFO: Records lost to a full queue (R418), or unread at a reconfiguring closure (R460); written into that queue whatever the routing
  (0x0601, 0), -- INFO: BOOT entry written
  (0x0602, 2), -- DEGRADED: Boot from the non-preferred slot
  (0x0603, 0), -- INFO: Activation ended
  (0x0605, 2), -- DEGRADED: A NOR device failed a Field Book write
  (0x0606, 4), -- FATAL: No NOR device writable
  (0x0607, 0)] -- INFO: WRAP entry written

/-- Events, part 2. -/
def eventRows2 : List EvDef := [
  (0x0608, 0), -- INFO: Debug scope unlocked, or attempts refused
  (0x0609, 0), -- INFO: Counter advanced
  (0x060A, 2), -- DEGRADED: Image, plat or header refused, or header copy replaced
  (0x060B, 4), -- FATAL: Recovery entered
  (0x060C, 2), -- DEGRADED: Fuse burn failed
  (0x060D, 1), -- REPAIRED: An engine failing its self-test replaced by a spare, R10
  (0x060E, 2), -- DEGRADED: An engine left out of service with no spare, R10 and R11
  (0x060F, 4), -- FATAL: Start-up or service stopped by an engine failure, R11
  (0x0801, 0), -- INFO: A link goes up or down
  (0x0803, 2), -- DEGRADED: A priority stays paused beyond `PFC_WD_MS`
  (0x0804, 0), -- INFO: Transmit timestamp FIFO overflow
  (0x1001, 2), -- DEGRADED: An engine is removed under R12
  (0x1002, 0), -- INFO: A frame reaches the cycle limit
  (0x1201, 0), -- INFO: A flow insert returns FULL
  (0x1301, 0), -- INFO: The fragment table fills
  (0x1401, 2), -- DEGRADED: Headroom overflow discard
  (0x1501, 0), -- INFO: Samples discarded
  (0x1801, 0), -- INFO: The receive-buffer pool is exhausted and RNR NAKs begin
  (0x1802, 0), -- INFO: 524,288 reads outstanding
  (0x1803, 0), -- INFO: A QP enters ERROR
  (0x1804, 0), -- INFO: A duplicate atomic found no replay entry
  (0x1805, 0), -- INFO: A spray offer was refused
  (0x1901, 0), -- INFO: A revoke completes
  (0x1902, 0), -- INFO: A revoke reaches its timeout
  (0x1903, 0), -- INFO: Every key is VALID or REVOKING
  (0x1A01, 0), -- INFO: A window state changes
  (0x1A02, 0), -- INFO: A fault waits under R210
  (0x1A03, 0), -- INFO: `STALL_MAX_KIB` reached
  (0x1A04, 0), -- INFO: A fault finds a block in the loss map
  (0x1C01, 0)] -- INFO: ICV failures on an SA

/-- Events, part 3. -/
def eventRows3 : List EvDef := [
  (0x1C02, 0), -- INFO: An SA becomes SOFT
  (0x1C03, 2), -- DEGRADED: An SA becomes HARD with no successor
  (0x1E01, 0), -- INFO: A rollover starts, or an old epoch is retired
  (0x1E02, 2), -- DEGRADED: Entropy source failed, or recovered
  (0x1E03, 4), -- FATAL: DRBG request limit reached
  (0x1E04, 0), -- INFO: An escrow record is pending
  (0x1E05, 0), -- INFO: SA table empty after start
  (0x1E06, 3), -- LOST: No verifiable copy of a key
  (0x1E07, 2), -- DEGRADED: A random-IV key reaches 2³² invocations
  (0x2001, 0), -- INFO: general contexts reach 1,040,384 in use
  (0x2002, 0), -- INFO: a host reaches its quota
  (0x2003, 0), -- INFO: an association ends by Keep Alive expiry
  (0x2004, 0), -- INFO: Connect refused at a bound
  (0x2101, 0), -- INFO: namespace reaches ACTIVE
  (0x2102, 0), -- INFO: namespace slot returns to FREE
  (0x2103, 0), -- INFO: a write is refused with Stake Stale
  (0x2104, 2), -- DEGRADED: free parcels outside the spare reserve fall below `NSMGR.PARCELS_LOW`
  (0x2201, 0), -- INFO: A writer is deferred at the effective limit
  (0x2202, 0), -- INFO: A power failure is accepted
  (0x2203, 0), -- INFO: Dump COMPLETE
  (0x2204, 1), -- REPAIRED: Incomplete image made whole from the partner
  (0x2205, 3), -- LOST: Incomplete image; blocks recorded in the loss map
  (0x2206, 0), -- INFO: Replay complete
  (0x2207, 2), -- DEGRADED: Vault rate below 240 GB/s
  (0x2208, 2), -- DEGRADED: Effective limit below `DIRTY_LIMIT_MIB`, or vault short of 12 members
  (0x2209, 1), -- REPAIRED: Memory error absorbed, per Table 6
  (0x220A, 3), -- LOST: Dirty block lost to a memory error
  (0x2301, 1), -- REPAIRED: A block failing R115 reconstructed and rewritten
  (0x2302, 0), -- INFO: A deadline expiry waited under R116
  (0x2303, 3)] -- LOST: A reconstruction failed

/-- Events, part 4. -/
def eventRows4 : List EvDef := [
  (0x2304, 2), -- DEGRADED: A parity sequencer removed under R120
  (0x2401, 0), -- INFO: A bay changes state
  (0x2402, 2), -- DEGRADED: A member departs
  (0x2403, 2), -- DEGRADED: A member becomes one-sided
  (0x2404, 1), -- REPAIRED: A bay reaches RETIRED with every parcel relocated
  (0x2405, 2), -- DEGRADED: A bay reaches RETIRED with parcels unrelocated
  (0x2406, 1), -- REPAIRED: A bay returns to ACTIVE
  (0x2407, 3), -- LOST: Blocks recorded in the loss map
  (0x2408, 2), -- DEGRADED: A journal home departs
  (0x2409, 1), -- REPAIRED: Re-homing complete
  (0x240A, 1), -- REPAIRED: Scrub rewrote parity
  (0x240B, 0), -- INFO: Scrub pass complete
  (0x240C, 0), -- INFO: Reshape started or complete
  (0x240D, 2), -- DEGRADED: Reshape suspended
  (0x240E, 0), -- INFO: Drive not admitted
  (0x240F, 2), -- DEGRADED: Loss map coalesced
  (0x2410, 2), -- DEGRADED: A parcel begins to hold rows under R129
  (0x2501, 2), -- DEGRADED: A home segment has fewer than three readable copies
  (0x2502, 1), -- REPAIRED: A home segment restored to three copies
  (0x2503, 0), -- INFO: A parcel's generation wrapped under R108
  (0x2504, 2), -- DEGRADED: Writers held at a second wrap
  (0x2505, 3), -- LOST: No readable copy of a home segment and no vault image covering it
  (0x2601, 0), -- INFO: Open traverses reach 65,536
  (0x2602, 0), -- INFO: A traverse is abandoned
  (0x2603, 2), -- DEGRADED: Traverses refused under R172
  (0x2604, 2), -- DEGRADED: A stamp request timed out under R164
  (0x2801, 0), -- INFO: The link goes up or down
  (0x2802, 0), -- INFO: An FLR completes
  (0x2803, 0), -- INFO: Bus Master Enable cleared with work outstanding
  (0x2804, 2)] -- DEGRADED: Surprise removal or `EP_PERST_N`

/-- Events, part 5. -/
def eventRows5 : List EvDef := [
  (0x2805, 2), -- DEGRADED: IDE check failed
  (0x2806, 0), -- INFO: A host read timed out
  (0x2901, 0), -- INFO: A ring enters ERROR
  (0x2902, 0), -- INFO: A completion ring is full and holds records
  (0x2903, 0), -- INFO: A chain wait timed out
  (0x3001, 0), -- INFO: Port link up or down
  (0x3003, 0), -- INFO: Late completion discarded
  (0x3004, 2), -- DEGRADED: Containment
  (0x3005, 0), -- INFO: Drive unusable
  (0x3006, 2), -- DEGRADED: Link loss under R316
  (0x4801, 0), -- INFO: Bay state change
  (0x4802, 2), -- DEGRADED: Start fault
  (0x4803, 2), -- DEGRADED: Run fault
  (0x4805, 2), -- DEGRADED: Bay LATCHED
  (0x4806, 1), -- REPAIRED: Changeover to B
  (0x4807, 0), -- INFO: Return to A
  (0x4808, 2), -- DEGRADED: GATE_FAIL or BOTH_GATES
  (0x4C01, 0), -- INFO: Presence accepted or removed
  (0x4C02, 0), -- INFO: Attention press
  (0x4C03, 0), -- INFO: Long press
  (0x4C04, 2), -- DEGRADED: Input quarantined
  (0x5001, 0), -- INFO: The link goes up or down
  (0x5002, 2), -- DEGRADED: The link retrains to fewer lanes
  (0x5003, 2), -- DEGRADED: A retrain under R338 or R340
  (0x5101, 0), -- INFO: Pair state change
  (0x5102, 2), -- DEGRADED: Partner declared lost
  (0x5103, 2), -- DEGRADED: Arbitration starts
  (0x5104, 4), -- FATAL: This controller enters FENCED
  (0x5105, 1), -- REPAIRED: Resynchronisation complete; pair serving
  (0x5106, 0)] -- INFO: An ownership move completes

/-- Events, part 6. -/
def eventRows6 : List EvDef := [
  (0x5107, 2), -- DEGRADED: `PAIR_SENSE` disagrees with ranging
  (0x5108, 0), -- INFO: Join refused
  (0x5109, 4), -- FATAL: Both controllers read the same `CTRL_ID`, R27
  (0x5801, 4), -- FATAL: A stack fails training or in service
  (0x5901, 2), -- DEGRADED or FATAL: A channel excluded at training
  (0x6001, 0), -- INFO: Telemetry records discarded
  (0x6002, 2), -- DEGRADED: Regulator fault over PMBus
  (0x6003, 0), -- INFO: Management port link up or down
  (0x6004, 2)] -- DEGRADED: Shelf-manager heartbeat missed

/-- Every event the spec defines. -/
def eventRows : List EvDef := eventRows1 ++ eventRows2 ++ eventRows3 ++ eventRows4 ++ eventRows5 ++ eventRows6

/-- The code of an event as listed for instance 0 of its block; none for a page that is absent. -/
def eventBase (code : Nat) : Option Nat :=
  (blockBase (code / 256)).map fun b => b * 256 + code % 256

/-- The severity of an event, none where no event has the code. -/
def eventSev (code : Nat) : Option Nat :=
  match eventBase code with
  | none => none
  | some c => (eventRows.find? fun r => r.1 == c).map (·.2)

/-- Whether a block raises events (R446, Table 4, `EVENTS`). -/
def blockHasEvents (base : Nat) : Bool := eventRows.any fun r => r.1 / 256 == base

end Sys2Proof.Machine
end

