-- ==== Sys2Proof/Machine/StCore.lean ====
section
/-!
DEFINITION. Machine/StCore.lean: the state of the blocks every other block leans on: the event queues and
telemetry (spec/17, spec/19), the datum (spec/15), power, clocks and reset (spec/16), the root of trust and
the Field Book (spec/14), and the engine inventory (spec/01).
-/
namespace Sys2Proof.Machine

/-- An event record (R416, Table 1). -/
structure EvRec where
  code : Nat
  sev : Nat
  ctrl : Nat
  inst : Nat
  seq : Nat
  time : Nat
  detail : List Nat
deriving DecidableEq, Repr

/-- An event queue: its unread records, oldest first, its indices, its next `SEQ`, and the records lost
that a 0x0502 record still has to report (R417, R418, R460). -/
structure EvQueue where
  recs : List EvRec := []
  head : Nat := 0
  tail : Nat := 0
  seq : Nat := 0
  lost : Nat := 0
  firstLost : Nat := 0
deriving DecidableEq, Repr

/-- A telemetry ring (R422): its consumer and producer index. -/
structure TelRing where
  head : Nat := 0
  tail : Nat := 0
deriving DecidableEq, Repr

/-- Events, telemetry and the shelf-manager interfaces (spec/17). -/
structure EvtSt where
  queues : Tab EvQueue := []
  sticky : List EvRec := []        -- newest first, at most 256 (R419)
  tokens : Tab Nat := []           -- per source, code * 256 + instance (R420)
  tokenDflt : Nat := 32            -- tokens of a source that has raised nothing yet
  suppressed : Tab Nat := []       -- events suppressed per source since its last 0x0501
  eventN : Bool := false           -- `EVENT_N` driven low (R421)
  eventNSpacing : Bool := false    -- `EVENTN_MIN_US` since release still runs
  msixBusy : List Nat := []        -- vectors within `MSIX_MIN_NS` of their last message
  msixPend : List Nat := []        -- vectors with a merged message waiting
  rings : Tab TelRing := []
  snapSeq : Nat := 0               -- snapshots since cold reset
  mpLink : Bool := false
  i3cMode : Bool := false
  pmbusOk : Bool := false
  hbMissed : Bool := false
  lastHeartbeat : Nat := 0
  mctpEid : Nat := 0
deriving DecidableEq, Repr

/-- A host NQN, subsystem, rule or flow record a plat may carry (spec/15, Table 2), by its index; the
bytes are kept as delivered. -/
abbrev PlatRecs := Tab (List Nat)

/-- A configuration version (R384): the base plat's number, the delta number, the values its registers
take where they differ from reset, and the plat's other records. -/
structure Datum where
  no : Nat := 1
  delta : Nat := 0
  vals : Tab Nat := []
  platSealed : Bool := false
  sealed : Bool := false
  subsystems : PlatRecs := []
  hosts : PlatRecs := []
  rules : PlatRecs := []
  flows : PlatRecs := []
deriving DecidableEq, Repr

/-- The staged datum: what it is built on, the register changes staged on top of that, and whether the
base came from a plat (R387, R388). -/
structure Staged where
  base : Datum
  changes : Tab Nat := []
  fromPlat : Bool := false
deriving DecidableEq, Repr

/-- Why a closure is on its way. -/
inductive ClosureKind where
  | commit | revertManual | revertExpired | bankSwitch
deriving DecidableEq, Repr

/-- How far a commit or revert has come (R389, R393). -/
inductive CommitPhase where
  | idle | waitEntry | waitPair | armed
deriving DecidableEq, Repr

/-- The datum unit (spec/15). -/
structure DatumSt where
  active : Datum := {}
  prev : Option Datum := none
  staged : Option Staged := none
  confirmed : Bool := true
  phase : CommitPhase := .idle
  kind : ClosureKind := .commit
  target : Option Datum := none      -- the datum whose closure is under way
  attempts : Nat := 0                -- quiesce attempts of this commit
  loading : Bool := false            -- a LOAD runs
  result : Nat := 0                  -- `CMD_STAT.RESULT`
  resultPage : Nat := 0
  confirmAt : Nat := 0               -- controller time at which `CONFIRM_LEFT_S` reaches 0
  platBytes : List Nat := []         -- staged plat slot of the NOR devices
  platDone : Bool := false           -- a delivery is complete
  tornCommit : Option Datum := none  -- abandoned after its role record was written (R391)
  tornRevert : Option Datum := none
  closureTime : Nat := 0
  holdLast : Nat := 0
  holdMax : Nat := 0
deriving DecidableEq, Repr

/-- Power, clocks, reset and start-up (spec/16). -/
structure PwrSt where
  ctrlId : Nat := 0
  epSris : Bool := false
  kind : Nat := 0                   -- `RST_STAT.KIND`
  held : Bool := true               -- held in cold reset (`SYS_PWROK` low or a held request)
  released : Bool := false
  assembling : Bool := false
  serving : Bool := false           -- namespaces ready
  online : Bool := false            -- replay has ended in this start, whatever has stopped service since
  admitStop : Bool := false         -- stopped: a FATAL, a shutdown or a conflict admits nothing further
  fatal : Bool := false             -- stopped by a FATAL
  fatalCode : Nat := 0
  needCold : Bool := false          -- this FATAL needs a cold reset (R408)
  shuttingDown : Bool := false
  shutdownDone : Bool := false
  resetAfterDump : Option Nat := none   -- a reset waits for the vault dump; its `KIND`
  cmdResult : Nat := 0              -- `RST_CMD_STAT.RESULT`
  startFail : Bool := false         -- a power failure ended the start-up (R411)
  startAt : Nat := 0                -- controller time at which this start began
  domOff : List Nat := []           -- power domains that are off, rising
  upNs : Nat := 0                   -- nanoseconds since the last cold reset
  refBad : List Nat := []           -- references out of tolerance (0 SYS … 4 crystal)
  famDown : List Nat := []          -- clock families out of service, as `CLK_STAT` bits
  relocked : Bool := false          -- CORE, CIPH, HBM, DDR, RP relocked to the crystal (R20)
  xtalBackup : Bool := false
  disciplined : Bool := false
  adjPpb : Int := 0
  adjFrac : Int := 0                -- thousandths of a nanosecond not yet counted
  slewLeft : Int := 0
  coreMv : Nat := 750
  avsFails : Nat := 0               -- AVSBus transactions failed in a row
  avsOk : Bool := false
  trimming : Bool := false
  thermWarn : Bool := false
  railsBad : List Nat := []
  thermtrip : Bool := false         -- `THERMTRIP_N` driven low
  enginesStopped : Bool := false    -- every engine held stopped until a cold reset (R400)
  chipletLink : Bool := true
  wdtKickAt : Nat := 0
deriving DecidableEq, Repr

/-- The engines of each kind out of service, the spares substituted, and the memories in service (R10,
R11, R12, R8, R461). -/
structure ArchSt where
  parseOut : List Nat := []
  storageOut : List Nat := []
  parityOut : List Nat := []
  mgmtOut : List Nat := []
  pseqOut : List Nat := []
  parseSub : Tab Nat := []          -- place of a failed parse engine: the spare, 64 to 67, that holds it
  storageSub : Tab Nat := []        -- place of a failed storage core: the spare, 32 or 33, that holds it
  tested : Bool := false            -- self-tests have run; ENGINES and SPARES are final
  securityHeld : Bool := false      -- the lockstep pair failed or disagreed
  hbmBad : List Nat := []
  hbmTrained : Bool := false
  ddrIn : List Nat := []            -- channels in service
  ddrGib : Nat := 0
  ddrTrained : Bool := false
deriving DecidableEq, Repr

/-- What proceeds once a Field Book entry is written (R375). -/
inductive FbCont where
  | nothing
  | release
  | datumCommit
  | datumConfirm
  | datumSeal
  | svnBurn (n v : Nat)
  | debugUnlock (scope : Nat)
  | ownerBurn (req slot digest : Nat) (rotate : Bool)
  | actBegin
  | actEnd
deriving DecidableEq, Repr

/-- A Field Book entry (R373, Table 5): the body is the list of the fields Table 6 names. -/
structure FbEntry where
  type : Nat
  seq : Nat
  bootCount : Nat
  time : Nat
  datumId : Nat
  ctrl : Nat
  paired : Bool
  prevHash : Nat
  body : List Nat
deriving DecidableEq, Repr

/-- An entry asked for and not yet written. -/
structure FbReq where
  type : Nat
  body : List Nat
  cont : FbCont
deriving DecidableEq, Repr

/-- One component of an image slot (R374). -/
structure Component where
  svn : Nat := 0
  version : Nat := 0
  digest : Nat := 0
  sigOk : Bool := true
deriving DecidableEq, Repr

/-- An image slot of a NOR device: its components 1 to 6, the Zeber protocol version of its management
firmware, and its header's certificate match (R366). -/
structure ImageSlot where
  comps : Tab Component := []
  zeberVersion : Nat := 1
  headerOk : Bool := true
deriving DecidableEq, Repr

/-- The root of trust (spec/14). -/
structure TrustSt where
  lifecycle : Nat := 1
  vendorRevoked : Nat := 0
  ownerDigests : List Nat := []     -- digests burnt, slot 0 first
  ownerRevoked : Nat := 0
  ownerCosign : Bool := false
  svn : Tab Nat := []
  debugDisable : Nat := 0
  slotA : ImageSlot := {}
  slotB : ImageSlot := {}
  attempts : Tab Nat := []          -- per slot
  booted : Nat := 0
  preferred : Nat := 0
  fallback : Nat := 0
  confirmed : Bool := false
  platSrc : Nat := 0
  recovery : Bool := false
  bootCount : Nat := 0
  queue : List FbReq := []          -- at most 16
  entries : Tab FbEntry := []       -- retained, by SEQ
  nextSeq : Nat := 0
  oldest : Nat := 0
  devBad : List Nat := []           -- NOR devices marked failed
  norOut : List Nat := []           -- NOR devices that do not answer
  certEcdsa : Nat := 0
  certMldsa : Nat := 0
  torn : Bool := false              -- an entry was torn by the loss of supply
  fbLost : Bool := false            -- neither device took an entry: a GAP entry of cause 1 is due at the next cold start
  meas : Tab Component := []        -- running components 1 to 8
  measSlot : Tab Nat := []
  actState : Nat := 0
  actResult : Nat := 0
  actTodo : List Nat := []          -- components still to switch, in Table 7 order
  actDone : List Nat := []          -- components switched, newest first
  actFailed : Nat := 0
  debugScope : Nat := 0
  debugPending : Nat := 0
  kekDbg : Nat := 0                 -- D_dbg, the debug scope in force at cold reset
  kekOwner : Nat := 0               -- digest of the owner key in force when the KEK was derived
  dbgFails : Nat := 0
  dbgNonce : Nat := 0
  sessions : Tab Bool := []         -- secured SPDM sessions by requester: chains to an owner key
  ldevid : Option Nat := none       -- owner's LDevID chain in slot 1
  escrowKey : Option Nat := none
deriving DecidableEq, Repr

end Sys2Proof.Machine
end

