-- ==== Sys2Proof/Machine/State.lean ====
section
/-!
DEFINITION. Machine/State.lean: the state of one controller, its reasons to stop, and the state right after
reset.

A register whose value its commands and the block's own counting determine lies in `regs`; a register whose
value follows from the state of a unit (a status, a level, an occupancy) is computed from that unit where it is
read (Machine/Views.lean), so that one fact has one home.  What stands in a datum lies in `datum`.
-/
namespace Sys2Proof.Machine

/-- What the block drives out: pins, host memory, hosts, drives, packets, the partner and management answers,
in the order driven. -/
inductive Out where
  /-- `EVENT_N` driven low or released (R421). -/
  | eventN (low : Bool)
  /-- An MSI-X message of a function's vector (R421). -/
  | msix (fn vec : Nat)
  /-- An event record written to a host-memory queue (R417). -/
  | hostEvent (q : Nat) (r : EvRec)
  /-- An SPDM response on a management interface (R377, R378). -/
  | spdm (ifc req : Nat) (body : List Nat)
  /-- A completion of a host command: queue, CID, status type and code, `DNR` where the spec states it, and the
  two result words (R41, R60). -/
  | complete (q cid sct sc : Nat) (dnr : Option Bool) (dw0 dw1 : Nat)
  /-- A vendor message's response: its status, data bytes and event records (R424). -/
  | vendor (ifc req status : Nat) (data : List Nat) (recs : List EvRec)
  /-- A telemetry record written to a ring, or sent over UDP (R422). -/
  | telemetry (ring : Nat) (udp : Bool) (hdr data : List Nat)
  /-- The value a register read returned to a path. -/
  | readData (path v : Nat)
  /-- `THERMTRIP_N` driven low or released (R400). -/
  | thermtrip (low : Bool)
  /-- A setpoint sent over AVSBus, in millivolts (R399). -/
  | avs (mv : Nat)
  /-- A piece of the Field Book log returned to a host (R377). -/
  | fbPage (q cid : Nat) (hdr : List Nat) (entries : List FbEntry)
  /-- A block of data sent to a host (R45). -/
  | hostData (q cid lba : Nat) (data : Nat)
  /-- Data of a host's write requested from the host (R67, R188). -/
  | pull (q cid : Nat) (blocks : List Nat)
  /-- A data structure returned to a host: its fields by offset, and its records (R51, R121, R141). -/
  | page (q cid : Nat) (fields : List (Nat × Nat)) (recs : List (List Nat))
  /-- An asynchronous event notice to a host (R345). -/
  | notice (cntlid cid kind arg : Nat)
  /-- A read or a write issued to a drive, under its internal tag (R312). -/
  | drive (tag bay : Nat) (write : Bool) (lba n : Nat) (blocks : List Stored)
  /-- A write to a drive's reserved region (R112). -/
  | sysWrite (tag bay : Nat) (w : SysWrite)
  /-- Another command to a drive: its operation and argument (R311, R313). -/
  | driveOp (tag bay op arg : Nat)
  /-- The LED word shifted out (R321). -/
  | leds (word : Nat)
  /-- A message flit on ZEBER (R338, R339). -/
  | zeber (m : ZMsg)
  /-- A ZEBER control flit: 0 acknowledgement, 1 negative, 2 replay from a sequence number (R338). -/
  | zeberCtl (kind seq : Nat)
  /-- A completion record written to a work ring (R298). -/
  | cplRec (ring idx : Nat) (r : CplRec)
  /-- A read of host memory issued, under its tag (R288). -/
  | epRead (tag fn : Nat) (what : EpRead)
  /-- Data written to the host buffer of a ring's descriptor (R297). -/
  | ringData (ring slot len data : Nat)
  /-- A packet of a queue pair (R186). -/
  | roce (qp : Nat) (t : Tx)
  /-- A PDU of an NVMe/TCP connection (R202). -/
  | tcpPdu (conn kind : Nat) (fields : List Nat)
  /-- A PFC frame's pause or release of one priority (R244). -/
  | pfc (port prio : Nat) (xoff : Bool)
  /-- A frame transmitted at a port, marked CE, with the sequence number of its transmit time stamp (R231, R248). -/
  | frame (port : Nat) (f : EgFrame) (ce : Bool) (seq : Option Nat)
  /-- A frame handed to its class's consumer: its output record, source and slice (R236). -/
  | parsed (r : OutRec) (src : Option Nat) (slice : Nat)
deriving DecidableEq, Repr

/-- Why the machine stops with a fault: never.  The spec gives the block no state in which it stops answering
commands; every error it names is a status, an event or a reset, which are effects on the state. -/
inductive Fault where
deriving DecidableEq, Repr

/-- Why a command has no meaning. -/
inductive Refusal where
  /-- No meaning is written for the command.  Raised by no arm of `exec`: every command has its meaning.  Safe: a
  refusal claims nothing about the hardware. -/
  | notModelled (mnemonic : String)
deriving DecidableEq, Repr

/-- The state of one controller and of the commands waiting for it. -/
structure State where
  /-- Registers held as values, by `regKey`: only entries that differ from the reset value (R443, R450). -/
  regs : Tab Nat := []
  /-- Each path's own copy of the selector registers, by `selKey` (R444). -/
  sels : Tab Nat := []
  /-- Latched `_HI` halves of 64-bit reads and latched entry reads, by path and register (R453, R454). -/
  latches : Tab Nat := []
  /-- What the block has driven out, oldest first. -/
  out : List Out := []
  /-- The model's own field: how many free values have been drawn (assumption 1). -/
  free : Nat := 0
  /-- Controller time in nanoseconds (R405). -/
  time : Nat := 0
  /-- Event queues, telemetry and management links (spec/17). -/
  evt : EvtSt := {}
  /-- The datum unit (spec/15). -/
  datum : DatumSt := {}
  /-- Power, clocks, reset, start-up (spec/16). -/
  pwr : PwrSt := {}
  /-- Engines, lanes, stacks and links in service (spec/01). -/
  arch : ArchSt := {}
  /-- Root of trust, fuses, images, Field Book (spec/14). -/
  trust : TrustSt := {}
  /-- Power failure, dump and replay (spec/03). -/
  vault : VaultSt := {}
  /-- Associations, namespaces, contexts, admission (spec/02). -/
  nvm : NvmSt := {}
  /-- Protected cache, cadastre, parity, rebuild, scrub, reshape (spec/03 to spec/05). -/
  store : StoreSt := {}
  /-- Traverses (spec/06). -/
  trav : TravSt := {}
  /-- The pair (spec/13). -/
  pair : PairSt := {}
  /-- The ZEBER link (spec/13). -/
  zeb : ZebSt := {}
  /-- Persistent windows and keys (spec/08). -/
  win : WinSt := {}
  /-- The endpoint and the work rings (spec/11). -/
  ep : EpSt := {}
  /-- Namespace keys, escrow, security associations (spec/10). -/
  ks : KsSt := {}
  /-- Queue pairs and NVMe/TCP connections (spec/07). -/
  xp : XpSt := {}
  /-- Ports, parsers, classifier, switch, egress (spec/09). -/
  net : NetSt := {}
  /-- Cipher lanes, DRBG, entropy (spec/10). -/
  ciph : CiphSt := {}
  /-- Drive ports, bay power, sideband (spec/12). -/
  bay : BayUnit := {}
  /-- The commands that wait, first in, first out. -/
  pending : List Instr := []
deriving DecidableEq, Repr

/-- The machine right after reset: every register at its reset value (the register tables list nothing), held in cold
reset until COLD_RESET starts it (R406), nothing queued, nothing driven; the defaults of the units' structures
are the other values, each from the rule its field names or from the assumption log. -/
def State.reset : State := {}

end Sys2Proof.Machine
end

