-- ==== Sys2Proof/Machine/Ops.lean ====
section
/-!
DEFINITION. Machine/Ops.lean: the operations every meaning shares: reading and writing registers (R443,
R450), saturating counters, driving an output, drawing a free value, and stopping on a FATAL.
-/
namespace Sys2Proof.Machine

/-- What every meaning answers. -/
abbrev Res := Host.Outcome State Fault Refusal

/-- The key of a register and selector index in the register tables: offsets have 16 bits, indices 26. -/
def regKey (r : RegId) (i : Nat) : Nat := (r.page * 0x10000 + r.off) * 0x4000000 + i

/-- The reset value of a register at a selector index: the register map's, and the values the map names
otherwise: queue 0's `Q_CFG` (R417), the drawn hash key, the fused setpoint. -/
def rstVal (r : RegId) (i : Nat) : Nat :=
  if r = Reg.EVT_Q_CFG ∧ i = 0 then 0x2A9
  else if r = Reg.PWR_CORE_MV_FUSED then Config.coreMvFused
  else if r.page = 0x12 ∧ 0x1C0 ≤ r.off ∧ r.off ≤ 0x1E4 then Config.hashKeyDrawn ((r.off - 0x1C0) / 4)
  else match regRow r with
    | none => 0
    | some row => row.rst

/-- The value a datum gives an RWD register (R450): its own, or the register's reset value. -/
def Datum.val (d : Datum) (r : RegId) (i : Nat) : Nat := tgetD d.vals (regKey r i) (rstVal r i)

/-- The 64-bit datum ID (R384). -/
def Datum.id (d : Datum) : Nat := d.no * 2 ^ 32 + d.delta

/-- The running value of an RWD register at a selector index. -/
def cfgAt (s : State) (r : RegId) (i : Nat) : Nat := s.datum.active.val r i

/-- The running value of an RWD register without a selector. -/
def cfg (s : State) (r : RegId) : Nat := cfgAt s r 0

/-- The stored value of any other register at a selector index. -/
def rdAt (s : State) (r : RegId) (i : Nat) : Nat := tgetD s.regs (regKey r i) (rstVal r i)

/-- The stored value of any other register without a selector. -/
def rd (s : State) (r : RegId) : Nat := rdAt s r 0

/-- Store a register's value; the reset value leaves no entry. -/
def wrAt (r : RegId) (i v : Nat) (s : State) : State :=
  { s with regs := tput (rstVal r i) s.regs (regKey r i) v }

/-- Store the value of a register without a selector. -/
def wr (r : RegId) (v : Nat) (s : State) : State := wrAt r 0 v s

/-- Count a saturating 32-bit counter up (R450). -/
def bumpAt (r : RegId) (i n : Nat) (s : State) : State := wrAt r i (satAdd32 (rdAt s r i) n) s

/-- Count a saturating counter without a selector up by one. -/
def bump (r : RegId) (s : State) : State := bumpAt r 0 1 s

/-- Count a 64-bit counter, held whole under its `_LO` register, up. -/
def bump64 (r : RegId) (i n : Nat) (s : State) : State := wrAt r i ((rdAt s r i + n) % 2 ^ 64) s

/-- The key of a path's own copy of a selector (R444). -/
def selKey (p : Path) (r : RegId) : Nat := p.code * 2 ^ 32 + r.page * 0x10000 + r.off

/-- A selector as one path holds it. -/
def sel (s : State) (p : Path) (r : RegId) : Nat := tgetD s.sels (selKey p r) (rstVal r 0)

/-- Write a path's copy of a selector. -/
def setSel (p : Path) (r : RegId) (v : Nat) (s : State) : State :=
  { s with sels := tput (rstVal r 0) s.sels (selKey p r) v }

/-- Drive something out of the block. -/
def drive (o : Out) (s : State) : State := { s with out := s.out ++ [o] }

/-- Drive several things out of the block, in order. -/
def driveAll (os : List Out) (s : State) : State := { s with out := s.out ++ os }

/-- A value the spec leaves open, and the state whose next draw is another (assumption 1). -/
def drawFree (s : State) : Nat × State := (Config.freeValue s.free, { s with free := s.free + 1 })

/-- A request of the DRBG (R256): counted since the last reseed; its output is a value the spec leaves open. -/
def drbgDraw (s : State) : Nat × State :=
  drawFree { s with ciph := { s.ciph with drbgReqs := s.ciph.drbgReqs + 1 } }

/-- Record a register or block error in a page's header (R449, Tables 6 and 7): code, offset, path
(3: the block itself). -/
def errLast (page code off path : Nat) (s : State) : State :=
  wr (Reg.HDR_ERR_LAST_TS page) (s.time / 65536 % 2 ^ 32)
    (wr (Reg.HDR_ERR_LAST page) (code + off / 4 % 2 ^ 14 * 256 + path * 2 ^ 22) s)

/-- The power domain whose being off silences a page: the switchable domains of R401 (Table 2); none for a page
whose domain is always on. -/
def pageDomain (page : Nat) : Option Nat :=
  if 0x08 ≤ page ∧ page ≤ 0x0F then some (page - 4)
  else if page = 0x1C then some 14
  else if page = 0x50 then some 21
  else if page = 0x28 then some 22
  else if 0x30 ≤ page ∧ page ≤ 0x47 then some (page - 0x30 + 24)
  else none

/-- A page of the power chiplet (R445, Table 1). -/
def isChipletPage (page : Nat) : Bool := decide (0x48 ≤ page) && decide (page ≤ 0x4B)

/-- Whether a page's block can take a command: its domain is on, and the chiplet link up for a chiplet page
(R455). -/
def pageAlive (s : State) (page : Nat) : Bool :=
  (match pageDomain page with
   | none => true
   | some d => !s.pwr.domOff.contains d) && (!isChipletPage page || s.pwr.chipletLink)

/-- A write of a command register: discarded with code 0x09 for the endpoint path while `HOST_WR_EN` = 0 (R457),
with code 0x07 while the page's domain is off (R455); else the command acts. -/
def cmdWrite (p : Path) (r : RegId) (f : State → State) (s : State) : State :=
  if p = .endpoint ∧ !bitAt (cfg s Reg.TOP_TOP_CTL) 0 then errLast r.page 0x09 r.off p.code s
  else if !pageAlive s r.page then errLast r.page 0x07 r.off p.code s
  else f s

/-- Whether the controller may write and read a function's host memory: Bus Master Enable, no FLR, and the IDE
rule (R285, R290, R291). -/
def State.fnBme (s : State) (fn : Nat) : Bool :=
  let f := tgetD s.ep.fns fn {}
  f.bme && !f.flr && !s.ep.blocked

/-- Bus Master Enable of the PF. -/
def State.pfBme (s : State) : Bool := s.fnBme 0

/-- Whether an Eopin program bank holds a verified program (R237). -/
def State.bankLoaded (s : State) (b : Nat) : Bool := thas s.net.banks b

/-- Whether a namespace slot is ACTIVE (R36). -/
def State.slotActive (s : State) (i : Nat) : Bool :=
  match tget s.nvm.nss i with
  | none => false
  | some n => n.state == 2

/-- The paired topology: any pair state but SOLO (R344). -/
def State.pairedNow (s : State) : Bool := s.pair.state != 0

/-- Pages of pinned windows (R205). -/
def State.pinnedPages (s : State) : Nat :=
  s.win.windows.foldl (fun a w => if w.2.pin ∧ w.2.state ≠ 0 then a + w.2.pages else a) 0

/-- This controller is controller 1 (`CTRL_ID`, R335). -/
def isCtrl1 (s : State) : Bool := s.pwr.ctrlId == 1

end Sys2Proof.Machine
end

