-- ==== Sys2Proof/Machine/Clock.lean ====
section
/-!
DEFINITION. Machine/Clock.lean: how controller time runs (spec/16, R405): the nominal time, the rate offset of
`TIME_ADJ_PPB`, and the slew of `TIME_SLEW_NS` at 500 ppm.
-/
namespace Sys2Proof.Machine

/-- Nanoseconds of the block's own clock that pass while no command waits (assumption 2). -/
def tickNs : Nat := 1000000

/-- The part of a pending slew that one tick applies: at most 500 ppm of it, in the slew's direction (R405). -/
def slewPart (left : Int) : Int := max (-500) (min 500 left)

/-- The correction a tick adds to the nominal time: the rate offset, in thousandths of a nanosecond with what the
last tick left over, and the slew. -/
def tickAdj (s : State) : Int := (s.pwr.adjFrac + s.pwr.adjPpb) / 1000 + slewPart s.pwr.slewLeft

/-- A tick of the clock: controller time and the time since the cold reset go on; held in reset nothing does. -/
def tick (s : State) : State :=
  if s.pwr.held then s
  else { s with
    time := s.time + (tickNs + tickAdj s).toNat
    pwr := { s.pwr with
      upNs := s.pwr.upNs + tickNs
      adjFrac := (s.pwr.adjFrac + s.pwr.adjPpb) % 1000
      slewLeft := s.pwr.slewLeft - slewPart s.pwr.slewLeft } }

end Sys2Proof.Machine
end

