-- ==== Sys2Proof/Machine/Flags.lean ====
section
/-!
DEFINITION. Machine/Flags.lean: how an event sets its `EVT_STAT` flag, reaches its queue, the sticky log,
`EVENT_N` and MSI-X (R416 to R421, R447, R458, spec/17 and spec/19).
-/
namespace Sys2Proof.Machine

/-- `k` of a queue: its ring holds 2^k records (R417). -/
def qSize (s : State) (q : Nat) : Nat := 2 ^ bits (cfgAt s Reg.EVT_Q_CFG q) 2 4

/-- Whether a queue is full: tail + 1 equals head modulo 2^k (R458); a host-memory queue also while the
function that owns it has Bus Master Enable 0 (R418, R290). -/
def qFull (s : State) (q : Nat) : Bool :=
  let e := tgetD s.evt.queues q {}
  (e.tail + 1) % qSize s q == e.head || (bitAt (cfgAt s Reg.EVT_Q_CFG q) 1 && !s.pfBme)

/-- A queue's state, replaced. -/
def setQueue (q : Nat) (e : EvQueue) (s : State) : State :=
  { s with evt := { s.evt with queues := tput {} s.evt.queues q e } }

/-- Whether some queue that may drive `EVENT_N` holds an unread record at or above its floor (R421). -/
def eventNWanted (s : State) : Bool :=
  bitAt (cfg s Reg.EVT_EVT_CTL) 0 && s.evt.queues.any fun (q, e) =>
    bitAt (cfgAt s Reg.EVT_Q_CFG q) 9 && e.recs.any fun r => bits (cfgAt s Reg.EVT_Q_CFG q) 6 3 ≤ r.sev

/-- `EVENT_N` follows the queues: released when nothing is wanted, and then spaced; driven low again only
once the spacing has ended, or at once for a LOST or FATAL record (R421). -/
def updateEventN (urgent : Bool) (s : State) : State :=
  let want := eventNWanted s
  if want && !s.evt.eventN && (urgent || !s.evt.eventNSpacing) then
    drive (.eventN true) { s with evt := { s.evt with eventN := true } }
  else if !want && s.evt.eventN then
    drive (.eventN false) { s with evt := { s.evt with eventN := false, eventNSpacing := true } }
  else s

/-- The key of a function's MSI-X vector. -/
def vecKey (fn vec : Nat) : Nat := fn * 4096 + vec

/-- Write an MSI-X vector, or merge the message into the one that falls due at the end of the vector's
spacing (R421). -/
def msix (fn vec : Nat) (s : State) : State :=
  let k := vecKey fn vec
  if !s.fnBme fn then   -- R290: held until Bus Master Enable returns
    let hold (f : Fn) : Fn := if f.heldMsix.contains vec then f else { f with heldMsix := f.heldMsix ++ [vec] }
    { s with ep := { s.ep with fns := tput {} s.ep.fns fn (hold (tgetD s.ep.fns fn {})) } }
  else if s.evt.msixBusy.contains k then
    if s.evt.msixPend.contains k then s
    else { s with evt := { s.evt with msixPend := s.evt.msixPend ++ [k] } }
  else
    let s := drive (.msix fn vec) s
    if cfg s Reg.TELEM_MSIX_MIN_NS = 0 then s
    else { s with evt := { s.evt with msixBusy := s.evt.msixBusy ++ [k] } }

/-- Append one record to a queue that has room: it draws the queue's next `SEQ`, lies at the tail index,
and may raise the queue's vector (R416, R458). -/
def qAppend (q : Nat) (r : EvRec) (s : State) : State :=
  let e := tgetD s.evt.queues q {}
  let r := { r with seq := e.seq }
  let s := setQueue q { e with
    recs := e.recs ++ [r], tail := (e.tail + 1) % qSize s q, seq := (e.seq + 1) % 2 ^ 32 } s
  let s := bump Reg.EVT_RECORDS s
  let s := if bitAt (cfgAt s Reg.EVT_Q_CFG q) 1 then drive (.hostEvent q r) s else s
  if bitAt (cfgAt s Reg.EVT_Q_CFG q) 1 && bitAt (cfgAt s Reg.EVT_Q_CFG q) 10 then
    msix 0 (bits (cfgAt s Reg.EVT_Q_CFG q) 11 11) s
  else s

/-- Event 0x0502 for a queue: how many records were lost and the first `SEQ` lost (R418, R460). -/
def lostRec (s : State) (q : Nat) (e : EvQueue) : EvRec :=
  { code := 0x0502, sev := 0, ctrl := s.pwr.ctrlId, inst := 0, seq := 0, time := s.time,
    detail := q :: leBytes 4 e.lost ++ leBytes 4 e.firstLost }

/-- Count one record refused by a queue (R418). -/
def qRefuse (q : Nat) (s : State) : State :=
  let e := tgetD s.evt.queues q {}
  bumpAt Reg.EVT_Q_REFUSED q 1
    (setQueue q { e with lost := e.lost + 1, firstLost := if e.lost = 0 then e.seq else e.firstLost } s)

/-- Write a record to a queue: nothing while a power failure is accepted, refused and counted when the
queue is full, a waiting 0x0502 first (R418); a queue not in use only counts (Table 13). -/
def qWrite (q : Nat) (r : EvRec) (s : State) : State :=
  if s.vault.accepted then s
  else if !bitAt (cfgAt s Reg.EVT_Q_CFG q) 0 then bumpAt Reg.EVT_Q_REFUSED q 1 s
  else if qFull s q then qRefuse q s
  else
    let e := tgetD s.evt.queues q {}
    let s :=
      if e.lost = 0 then s
      else qAppend q (lostRec s q e) (setQueue q { e with lost := 0, firstLost := 0 } s)
    let s := if qFull s q then qRefuse q s else qAppend q r s
    updateEventN (decide (3 ≤ r.sev)) s

/-- The sticky log takes a record, newest first, and keeps 256 (R419). -/
def stickyAdd (r : EvRec) (s : State) : State :=
  { s with evt := { s.evt with sticky := (r :: s.evt.sticky).take 256 } }

/-- The source of an event, for its token bucket (R420). -/
def evSource (code inst : Nat) : Nat := code * 256 + inst

/-- The instance of a page within its block (R446, Table 3). -/
def pageInstance (page : Nat) : Nat :=
  match blockBase page with
  | none => 0
  | some b => page - b

/-- Raise an event: its `EVT_STAT` bit is set whatever keeps it from its queue (R447), the sticky log
takes severity DEGRADED and above (R419), `EVT_ON`, `EVT_EN` and the source's bucket decide about the
queue unless the event is LOST or FATAL (R417, R420). -/
def raiseSev (code sev : Nat) (detail : List Nat) (s : State) : State :=
  let page := code / 256
  let inst := pageInstance page
  let bit := code % 256 - 1
  let r : EvRec := { code := code, sev := sev, ctrl := s.pwr.ctrlId, inst := inst, seq := 0,
                     time := s.time, detail := detail }
  let s := wr (Reg.HDR_EVT_STAT page) (setBit (rd s (Reg.HDR_EVT_STAT page)) bit) s
  let s := if 2 ≤ sev then stickyAdd r s else s
  let q := cfg s (Reg.HDR_EVT_ROUTE page)
  if 3 ≤ sev then qWrite q r s
  else if !(bitAt (cfg s (Reg.HDR_PAGE_CTL page)) 0 && bitAt (cfg s (Reg.HDR_EVT_EN page)) bit) then s
  else if code = 0x0501 ∨ code = 0x0502 then qWrite q r s
  else
    let src := evSource code inst
    let tok := tgetD s.evt.tokens src s.evt.tokenDflt
    if tok = 0 then
      bump Reg.TELEM_SUPPRESSED
        { s with evt := { s.evt with suppressed := tset s.evt.suppressed src (tgetD s.evt.suppressed src 0 + 1) } }
    else qWrite q r { s with evt := { s.evt with tokens := tset s.evt.tokens src (tok - 1) } }

/-- Raise an event of the severity its table gives. -/
def raise (code : Nat) (detail : List Nat) (s : State) : State :=
  raiseSev code ((eventSev code).getD 0) detail s

/-- Raise an event forced by `EVT_FORCE`: every detail byte 0xFF, counted, and no action of the raising rule
(R448); a bit with no event has no effect. -/
def raiseForced (code : Nat) (s : State) : State :=
  match eventSev code with
  | none => s
  | some sev => bump Reg.EVT_FORCED (raiseSev code sev (List.replicate 16 0xFF) s)

end Sys2Proof.Machine
end

