-- ==== Sys2Proof/Machine/TrustOps.lean ====
section
/-!
DEFINITION. Machine/TrustOps.lean: the Field Book as a ring of entries (R373 to R376) and the keys of the
root of trust (R365), as operations other families ask for.
-/
namespace Sys2Proof.Machine

/-- Ask for a Field Book entry; `k` proceeds once it is written (R375). -/
def fbRequest (type : Nat) (body : List Nat) (k : FbCont) (s : State) : State :=
  { s with trust := { s.trust with queue := s.trust.queue ++ [⟨type, body, k⟩] } }

/-- The fields of an entry as one list, for its hash. -/
def FbEntry.fields (e : FbEntry) : List Nat :=
  [e.type, e.seq, e.bootCount, e.time, e.datumId, e.ctrl, b2n e.paired, e.prevHash] ++ e.body

/-- SHA-384 of the entry with a `SEQ`; 0 before the first entry. -/
def fbHash (t : TrustSt) (seq : Nat) : Nat :=
  match tget t.entries seq with
  | none => 0
  | some e => Config.sha384 e.fields

/-- Append one entry with the next `SEQ`, whatever the sector (R373, Table 5). -/
def fbPlace (type : Nat) (body : List Nat) (s : State) : State :=
  let t := s.trust
  let e : FbEntry :=
    { type := type, seq := t.nextSeq, bootCount := t.bootCount,
      time := if s.pwr.disciplined then s.time else 0, datumId := s.datum.active.id,
      ctrl := s.pwr.ctrlId, paired := s.pairedNow, prevHash := if t.nextSeq = 0 then 0 else fbHash t (t.nextSeq - 1),
      body := body }
  { s with trust := { t with
    entries := tset t.entries t.nextSeq e, nextSeq := t.nextSeq + 1
    certEcdsa := if type = 5 ∧ body = [0] then t.nextSeq else t.certEcdsa
    certMldsa := if type = 5 ∧ body = [1] then t.nextSeq else t.certMldsa } }

/-- The `SEQ` numbers of the sector that must be erased before the sector starting at `seq` is filled:
eight slots, one erased sector ahead (R376); none before the ring has gone round. -/
def fbEraseRange (seq : Nat) : Option (Nat × Nat) :=
  if seq % 8 = 0 ∧ 8192 ≤ seq + 8 then some (seq + 8 - 8192, seq + 15 - 8192) else none

/-- Write a certificate in force again when the sector to be erased holds its last copy (R376). -/
def fbKeepCerts (first last : Nat) (s : State) : State :=
  let s := if first ≤ s.trust.certEcdsa ∧ s.trust.certEcdsa ≤ last then fbPlace 5 [0] s else s
  if first ≤ s.trust.certMldsa ∧ s.trust.certMldsa ≤ last then fbPlace 5 [1] s else s

/-- Make room ahead of the next entry: a WRAP entry names the sector erased (R376, event 0x0607). -/
def fbWrap (s : State) : State :=
  match fbEraseRange s.trust.nextSeq with
  | none => s
  | some (first, last) =>
    let s := fbKeepCerts first last s
    let s := fbPlace 6 [first, last, fbHash s.trust last] s
    let s := bump Reg.TRUST_FB_WRAPS s
    let s := { s with trust := { s.trust with
      entries := tfilter s.trust.entries fun k _ => decide (last < k), oldest := last + 1 } }
    raise 0x0607 (leBytes 8 last) s

/-- Write one entry to the Field Book. -/
def fbWrite (type : Nat) (body : List Nat) (s : State) : State := fbPlace type body (fbWrap s)

/-- The fields of a measurement record (R374). -/
def measRecord (t : TrustSt) (c : Nat) : List Nat :=
  let m := tgetD t.meas c {}
  [c, tgetD t.measSlot c 2, m.svn, m.version, m.digest]

/-- The digest of the owner key in force: that of the newest slot burnt and not revoked. -/
def ownerKeyInForce (t : TrustSt) : Nat :=
  ((List.range t.ownerDigests.length).foldl (fun acc i =>
    if bitAt t.ownerRevoked i then acc else t.ownerDigests.getD i 0) 0)

/-- What the alias keys are derived from (R365, Table 2): M_sec and D_dbg. -/
def aliasInputs (t : TrustSt) : List Nat :=
  let m := tgetD t.meas 1 {}
  [m.digest, m.svn, tgetD t.measSlot 1 2, t.kekDbg]

/-- The image slot with an index: 0 = A, 1 = B. -/
def imageSlot (t : TrustSt) (i : Nat) : ImageSlot := if i = 0 then t.slotA else t.slotB

/-- The anti-rollback counter of a component (R369, Table 4): component c has `SVN[c-1]`. -/
def svnOf (t : TrustSt) (c : Nat) : Nat := tgetD t.svn (c - 1) 0

/-- Why a component of a slot is refused: 0 signature, 1 rollback; none where it verifies (R367, R372). -/
def componentRefusal (t : TrustSt) (slot c : Nat) : Option Nat :=
  let m := tgetD (imageSlot t slot).comps c {}
  if !m.sigOk then some 0 else if m.svn < svnOf t c then some 1 else none

/-- The first component of a slot that is refused, with the reason. -/
def slotRefusal (t : TrustSt) (slot : Nat) (cs : List Nat) : Option (Nat × Nat) :=
  cs.findSome? fun c => (componentRefusal t slot c).map fun w => (c, w)

/-- Measure the components of a slot as running (R369 steps 3 and 5). -/
def measureSlot (slot : Nat) (cs : List Nat) (t : TrustSt) : TrustSt :=
  cs.foldl (fun t c => { t with
    meas := tset t.meas c (tgetD (imageSlot t slot).comps c {}), measSlot := tset t.measSlot c slot }) t

/-- ACT_END of an activation: outcome, and the measurements now running (R379 step 6). -/
def actEndRequest (s : State) : State :=
  fbRequest 3 (s.trust.actFailed :: (List.range 8).flatMap fun c => measRecord s.trust (c + 1)) .actEnd s

/-- Every component runs its new code: the new slot is preferred, and ACT_END follows (R379 steps 5 and 6). -/
def actFinish (s : State) : State := actEndRequest { s with trust := { s.trust with preferred := 1 - s.trust.booted } }

/-- An activation fails at a component: those already switched return to their old code (R379). -/
def actReturn (c : Nat) (s : State) : State :=
  let t := measureSlot s.trust.booted s.trust.actDone s.trust
  actEndRequest { s with trust := { t with actState := 3, actTodo := [], actFailed := c } }

end Sys2Proof.Machine
end

