-- ==== Sys2Proof/Machine/DatumOps.lean ====
section
/-!
DEFINITION. Machine/DatumOps.lean: staging register changes, checking their ranges, reading a plat, and the
outcome of a datum command (spec/15, R383 to R396, R450, R451).
-/
namespace Sys2Proof.Machine

/-- Whether a field of a value passes a range check. -/
def FieldChk.ok (c : FieldChk) (v : Nat) : Bool :=
  let f := bits v c.lsb c.width
  (decide (c.lo ≤ f) && decide (f ≤ c.hi)) || (c.zeroOk && f == 0)

/-- The page of a register key. -/
def keyPage (k : Nat) : Nat := k / 0x4000000 / 0x10000

/-- The value a register would have once the staged datum is committed: staged, or else running (R387). -/
def stagedAt (s : State) (r : RegId) (i : Nat) : Nat :=
  match s.datum.staged with
  | none => cfgAt s r i
  | some st => tgetD st.changes (regKey r i) (st.base.val r i)

/-- Write 64 MiB of journal, the resident pool, the partner's effective limit while paired: the parts of the
protected cache that are not the write area, in MiB (R65, Table 1). -/
def cacheFixedMib (s : State) (pool : Nat) : Nat :=
  64 + pool + (if s.pairedNow then s.vault.partnerEffMib else 0)

/-- R66: the write area keeps 1 GiB plus the dirty limit. -/
def cacheSizeOk (s : State) (size limit pool : Nat) : Bool :=
  decide (cacheFixedMib s pool + 1024 + limit ≤ size)

/-- R307: a function's block of rings ends below ring 57,344, fits the function's BAR, and overlaps no other
function's staged block. -/
def ringBlockOk (s : State) (fn base count : Nat) : Bool :=
  decide (base + count ≤ 57344) && (fn == 0 || decide (count ≤ 1024)) &&
    (List.range 256).all fun g =>
      let b := stagedAt s Reg.RINGS_FN_RING_BASE g
      let c := stagedAt s Reg.RINGS_FN_RING_COUNT g
      g == fn || count == 0 || c == 0 || decide (base + count ≤ b) || decide (b + c ≤ base)

/-- Checks of an RWD value that look beyond the value itself, register by register: the rules named are those
of the page's own chapter. -/
def crossOk (s : State) (r : RegId) (i v : Nat) : Bool :=
  if r = Reg.CACHE_CACHE_SIZE_MIB then        -- R66
    cacheSizeOk s v (stagedAt s Reg.CACHE_DIRTY_LIMIT_MIB 0) (stagedAt s Reg.WIN_POOL_MIB 0)
  else if r = Reg.CACHE_DIRTY_LIMIT_MIB then  -- R95
    decide (64 ≤ v) && decide (v ≤ if bitAt (stagedAt s Reg.PAIR_PAIR_CTL 0) 0 then 576 else 2432)
  else if r = Reg.WIN_POOL_MIB then           -- R226
    decide (v % 2 = 0) && cacheSizeOk s (stagedAt s Reg.CACHE_CACHE_SIZE_MIB 0) (stagedAt s Reg.CACHE_DIRTY_LIMIT_MIB 0) v
      && decide (2 * s.pinnedPages + 256 ≤ v ∨ v = 0 ∧ s.pinnedPages = 0)
  else if r = Reg.REBUILD_MIN_MBS then        -- R156
    decide (v ≤ stagedAt s Reg.REBUILD_RATE_MBS 0)
  else if r = Reg.REBUILD_RATE_MBS then
    decide (stagedAt s Reg.REBUILD_MIN_MBS 0 ≤ v)
  else if r = Reg.BUF_EQ_KMAX then            -- R251: EQ_KMIN + 1 to 65,535
    decide (stagedAt s Reg.BUF_EQ_KMIN i < v)
  else if r = Reg.PAIR_RANGING_TIMEOUT_US then -- R362
    decide (10 * stagedAt s Reg.PAIR_RANGING_US 0 ≤ v)
  else if r = Reg.EVT_Q_CFG then              -- R460
    !bitAt v 0 || (decide (4 ≤ bits v 2 4) && decide (bits v 2 4 ≤ 14)
      && !(bitAt v 10 && !bitAt v 1) && decide (bits v 6 3 ≤ 4))
  else if 0x48 ≤ r.page ∧ r.page ≤ 0x4B ∧ r.off % 0x40 = 0x10 ∧ 0x200 ≤ r.off then -- R336: BAY_RETRY
    decide (stagedAt s ⟨r.page, r.off - 4⟩ 0 % 256 ≤ bits v 0 13)
  else if r = ⟨0x10, 0x100⟩ ∨ r = ⟨0x11, 0x100⟩ then -- R237: BANK names a loaded bank
    s.bankLoaded (2 * (r.page - 0x10) + v % 2)
  else if r = Reg.RINGS_FN_RING_BASE ∨ r = Reg.RINGS_FN_RING_COUNT then -- R307
    ringBlockOk s i (if r = Reg.RINGS_FN_RING_BASE then v % 65536 else stagedAt s Reg.RINGS_FN_RING_BASE i)
      (if r = Reg.RINGS_FN_RING_COUNT then v else stagedAt s Reg.RINGS_FN_RING_COUNT i)
  else true

/-- Whether a selector index exists for a register: the widths the selectors state. -/
def indexOk (r : RegId) (i : Nat) : Bool :=
  match regRow r with
  | none => false
  | some row =>
    if row.sel = 0 then decide (i = 0)
    else match regRow ⟨r.page, row.sel⟩ with
      | none => false
      | some srow => decide (i ≤ srow.mask)

/-- Whether a value is inside a register's stated range and holds no reserved encoding. -/
def rangeOk (row : RegRow) (v : Nat) : Bool := row.chk.all fun c => c.ok v

/-- Merge the enabled bytes of a write into an old value (R451, R453). -/
def mergeBytes (be old v : Nat) : Nat :=
  (List.range 4).foldl (fun acc b =>
    acc + (if bitAt be b then v / 2 ^ (8 * b) % 256 else old / 2 ^ (8 * b) % 256) * 2 ^ (8 * b)) 0

/-- Record a change in the staged datum, creating it as a copy of the active one (R387). -/
def stagePut (r : RegId) (i v : Nat) (s : State) : State :=
  let st : Staged := match s.datum.staged with
    | none => { base := s.datum.active, changes := [], fromPlat := false }
    | some st => st
  { s with datum := { s.datum with staged := some { st with changes := tset st.changes (regKey r i) v } } }

/-- A commit, a revert or a LOAD runs (R451). -/
def datumBusy (s : State) : Bool := s.datum.loading || s.datum.phase != .idle

/-- A datum command runs: also CONFIRM and SEAL until their entry is written (R375, Table 8). -/
def datumCmdRuns (s : State) : Bool :=
  datumBusy s || s.trust.queue.any fun r => r.cont == .datumConfirm || r.cont == .datumSeal

/-- A write of an RWD register (R387, R394, R450, R451): code 0x04 while sealed, 0x08 while a commit, revert
or LOAD runs, 0x01 outside its range, 0x10 for `NS_DEADLINE` of a slot that is not ACTIVE; otherwise staged. -/
def stageWrite (p : Path) (r : RegId) (row : RegRow) (i be v : Nat) (s : State) : State :=
  if s.datum.active.sealed then errLast r.page 0x04 r.off p.code s
  else if datumBusy s then errLast r.page 0x08 r.off p.code s
  else
    let x := mergeBytes be (stagedAt s r i) v
    let x := (x &&& row.mask) ||| (rstVal r i &&& (0xFFFFFFFF - row.mask))
    if !(rangeOk row x && crossOk s r i x) then errLast r.page 0x01 r.off p.code s
    else if r = Reg.NSMGR_NS_DEADLINE ∧ !s.slotActive i then errLast r.page 0x10 r.off p.code s
    else stagePut r i x s

/-- The page set, as a mask, of staged changes: the registers staged, and what a loaded plat's base changes
against the active datum (`STAGED_PAGES`). -/
def stagedPageList (s : State) : List Nat :=
  match s.datum.staged with
  | none => []
  | some st =>
    let base := if st.fromPlat then
        (st.base.vals.filter fun p => tget s.datum.active.vals p.1 != some p.2).map (fun p => keyPage p.1)
          ++ (s.datum.active.vals.filter fun p => !thas st.base.vals p.1).map (fun p => keyPage p.1)
      else []
    (base ++ st.changes.map fun p => keyPage p.1).eraseDups

/-- The datum a commit would make active: the base with the changes on top, its delta number by R384. -/
def Staged.result (st : Staged) : Datum :=
  let b := st.base
  let vals := st.changes.foldl (fun t p => tset t p.1 p.2) b.vals
  if st.fromPlat then
    { b with vals := vals, delta := if st.changes.isEmpty then 0 else 1, sealed := b.platSealed }
  else { b with vals := vals, delta := b.delta + 1 }

/-- Answer a datum command with a `RESULT` other than 0: counted and reported (R395, event 0x0105). -/
def datumRefuse (cmd result page : Nat) (s : State) : State :=
  let s := { s with datum := { s.datum with result := result, resultPage := page } }
  raise 0x0105 [cmd, result, page] (bump Reg.DATUM_REFUSED s)

/-- Answer a datum command with `RESULT` 0. -/
def datumDone (s : State) : State := { s with datum := { s.datum with result := 0, resultPage := 0 } }

/-- Take `n` items of `l` from offset `o`. -/
def slice (l : List Nat) (o n : Nat) : List Nat := (l.drop o).take n

/-- A little-endian field of a byte string. -/
def fieldLE (l : List Nat) (o n : Nat) : Nat := leNat (slice l o n)

/-- Split a byte string into records of `n` bytes; `k` is how many. -/
def splitRecs (n : Nat) : Nat → List Nat → List (List Nat)
  | 0, _ => []
  | k + 1, l => l.take n :: splitRecs n k (l.drop n)

/-- The record size of a plat section type (R383, Table 2). -/
def platRecSize : Nat → Option Nat
  | 1 => some 16
  | 2 => some 1024
  | 3 => some 260
  | 4 => some 112
  | 5 => some 32
  | _ => none

/-- One register record of a plat (Table 2, type 1): refused for a page, offset or index that does not exist,
an access type other than RWD or RWL, or a value outside its range; otherwise its key and value. -/
def platReg (rec : List Nat) : Except Nat (Nat × Nat) :=
  let page := rec.getD 0 0
  let off := fieldLE rec 2 2
  let idx := fieldLE rec 4 4
  let v := fieldLE rec 8 4
  match regRow ⟨page, off⟩ with
  | none => .error page
  | some row =>
    let i := if row.sel = 0 then 0 else idx
    if (row.acc = .rwd ∨ row.acc = .rwl) ∧ (row.sel ≠ 0 ∨ idx = 0xFFFFFFFF) ∧ indexOk ⟨page, off⟩ i
        ∧ rangeOk row v ∧ v &&& (0xFFFFFFFF - row.mask) = 0 then
      .ok (regKey ⟨page, off⟩ i, v)
    else .error page

/-- Apply the register records of a plat in record order. -/
def platRegs : List (List Nat) → Datum → Except Nat Datum
  | [], d => .ok d
  | r :: rs, d =>
    match platReg r with
    | .error p => .error p
    | .ok (k, v) => platRegs rs { d with vals := tset d.vals k v }

/-- Apply one section to a datum being built; `applies` says whether `S_CTRL` names this controller. -/
def platSection (type : Nat) (recs : List (List Nat)) (d : Datum) : Except Nat Datum :=
  match type with
  | 1 => platRegs recs d
  | 2 => .ok { d with subsystems := recs.foldl (fun t r => tset t (r.getD 0 0) r) d.subsystems }
  | 3 => .ok { d with hosts := recs.foldl (fun t r => tset t (fieldLE r 0 2 % 4096) r) d.hosts }
  | 4 => .ok { d with rules := recs.foldl (fun t r => tset t (fieldLE r 0 2 % 32768) r) d.rules }
  | _ => .ok { d with flows := recs.foldl (fun t r => tset t t.length r) d.flows }

/-- Read `n` section descriptors and their sections (Table 1); an inconsistent descriptor refuses the plat (page 0), and so does an invalid
record of either controller's section. -/
def platSections (ctrl : Nat) (b : List Nat) : Nat → Nat → Datum → Except Nat Datum
  | 0, _, d => .ok d
  | n + 1, i, d =>
    let o := 64 + 16 * i
    let type := b.getD o 0
    let off := fieldLE b (o + 4) 4
    let len := fieldLE b (o + 8) 4
    match platRecSize type with
    | none => .error 0
    | some sz =>
      if len % sz ≠ 0 ∨ b.length < off + len + 4723 ∨ 2 < b.getD (o + 1) 0 % 4 then .error 0
      else
        let c := b.getD (o + 1) 0 % 4
        match platSection type (splitRecs sz (len / sz) (slice b off len)) d with
        | .error p => .error p
        | .ok d' => platSections ctrl b n (i + 1) (if c = 2 ∨ c = ctrl then d' else d)

/-- Verify a delivered plat under R383: the datum it makes, or the `RESULT` and page of its refusal. -/
def platVerify (s : State) (b : List Nat) : Except (Nat × Nat) Datum :=
  let n := fieldLE b 6 2
  if b.length < 64 + 4723 ∨ 2621440 < b.length ∨ slice b 0 4 ≠ [0x48, 0x50, 0x4C, 0x54] ∨ b.getD 4 0 ≠ 1
      ∨ fieldLE b 8 4 ≠ b.length ∨ n = 0 ∨ 16 < n ∨ fieldLE b 12 4 = 0 then .error (4, 0)
  else if !(Config.signaturesVerify b 1 || (s.trust.lifecycle == 1 && Config.signaturesVerify b 0)) then .error (4, 0)
  else if fieldLE b 16 2 < svnOf s.trust 7 then .error (5, 0)
  else if fieldLE b 24 8 ≠ 0 ∧ fieldLE b 24 8 ≠ Config.serialFuse % 2 ^ 64 then .error (4, 0)
  else
    match platSections s.pwr.ctrlId b n 0 { no := fieldLE b 12 4, delta := 0, platSealed := bitAt (b.getD 5 0) 0 } with
    | .error p => .error (4, p)
    | .ok d => .ok d

end Sys2Proof.Machine
end

