-- ==== Sys2Proof/Machine/ParityOps.lean ====
section
/-!
DEFINITION. Machine/ParityOps.lean: layout geometry and placement (R96, R99, R100), P and Q over GF(2^8) (R97),
recovery from one or two erasures (R98), block metadata and its checks (R112, R113, R115).
-/
namespace Sys2Proof.Machine

/-- One byte into a CRC-64 with the NVMe guard polynomial 0xAD93_D235_94C9_3659, bit-reflected (R112). -/
def crcByte (c b : Nat) : Nat :=
  (List.range 8).foldl (fun c _ => if c % 2 = 1 then (c / 2) ^^^ 0x9A6C9329AC4BC9B5 else c / 2) (c ^^^ b)

/-- The CRC-64 of a block's 4,096 bytes, as the NVMe 64-bit guard (R112; the initial value and the final inversion are
the NVMe guard's, assumption 41). -/
def blockGuard (data : Nat) : Nat :=
  (leBytes 4096 data).foldl crcByte 0xFFFFFFFFFFFFFFFF ^^^ 0xFFFFFFFFFFFFFFFF

/-- Bits of a block's data. -/
def blockBits : Nat := 32768

/-- The bytes parity covers: 4,096 plaintext bytes, then metadata bytes 16 to 55 (R97, R112). -/
def Blk.cov (b : Blk) : Nat :=
  b.data % 2 ^ blockBits + 2 ^ blockBits *
    (b.wgen % 2 ^ 24 + 2 ^ 24 * (b.kepoch % 2 + 2 * b2n b.zero) + 2 ^ 32 * (b.wstamp % 2 ^ 64)
      + 2 ^ 96 * (b.guard % 2 ^ 64) + 2 ^ 160 * (b.rmSlot % 2 ^ 32) + 2 ^ 192 * (b.rmParcel % 2 ^ 32)
      + 2 ^ 224 * (b.rmOffset % 2 ^ 32) + 2 ^ 256 * (b.rmTrav % 2 ^ 64))

/-- The block whose covered bytes are given. -/
def Blk.ofCov (c : Nat) : Blk :=
  let m := c / 2 ^ blockBits
  { data := c % 2 ^ blockBits, wgen := bits m 0 24, kepoch := bits m 24 1, zero := bitAt m 25,
    wstamp := bits m 32 64, guard := bits m 96 64, rmSlot := bits m 160 32, rmParcel := bits m 192 32,
    rmOffset := bits m 224 32, rmTrav := bits m 256 64 }

/-- How many bytes parity covers. -/
def covBytes : Nat := 4136

/-- 0x01 in every covered byte. -/
def ones : Nat := (256 ^ covBytes - 1) / 255

/-- Every covered byte multiplied by 2 in GF(2^8) with the polynomial 0x11D (spec/04). -/
def gfDouble (x : Nat) : Nat :=
  ((x &&& (ones * 0x7F)) * 2) ^^^ (((x / 128) &&& ones) * 0x1D)

/-- Every covered byte multiplied by g^i. -/
def gfPow : Nat → Nat → Nat
  | 0, x => x
  | i + 1, x => gfPow i (gfDouble x)

/-- Every covered byte multiplied by the scalar `c`. -/
def gfScale (c x : Nat) : Nat :=
  (List.range 8).foldl (fun a i => if bitAt c i then a ^^^ gfPow i x else a) 0

/-- The product of two field elements. -/
def gfMul (a b : Nat) : Nat := gfScale a (b % 256)

/-- The inverse of a field element: its 254th power (R98). -/
def gfInv (a : Nat) : Nat := (List.range 253).foldl (fun p _ => gfMul p a) a

/-- The Q coefficient of data strip `i`: g^i (R97). -/
def gfCoef (i : Nat) : Nat := gfPow i 1

/-- P of a row: the XOR of its data (R97). -/
def rowP (ds : List (Nat × Nat)) : Nat := ds.foldl (fun a d => a ^^^ d.2) 0

/-- Q of a row: the XOR of g^i times data strip i (R97); `ds` pairs strip index and covered bytes. -/
def rowQ (ds : List (Nat × Nat)) : Nat := ds.foldl (fun a d => a ^^^ gfPow d.1 d.2) 0

/-- The data of an n-strip row recovered by Table 2 of R98 from the data strips present (index, bytes) and P and Q where
they are present; none with more erasures than these can mend. -/
def recoverRow (n : Nat) (ds : List (Nat × Nat)) (p q : Option Nat) : Option (List (Nat × Nat)) :=
  let lost := (List.range n).filter fun i => !ds.any fun d => d.1 == i
  match lost, p, q with
  | [], _, _ => some ds
  | [x], some p, _ => some ((x, p ^^^ rowP ds) :: ds)
  | [x], none, some q => some ((x, gfScale (gfInv (gfCoef x)) (q ^^^ rowQ ds)) :: ds)
  | [x, y], some p, some q =>
    let p' := p ^^^ rowP ds
    let q' := q ^^^ rowQ ds
    let dy := gfScale (gfInv (gfCoef x ^^^ gfCoef y)) (q' ^^^ gfPow x p')
    some ((x, p' ^^^ dy) :: (y, dy) :: ds)
  | _, _, _ => none

/-- Data strips n of a full stripe of a layout class (R96, Table 1). -/
def layoutN : Nat → Nat
  | 0 => 8
  | 1 => 10
  | 2 => 16
  | _ => 20

/-- Stripes per parcel. -/
def stripesPer : Nat → Nat
  | 0 => 128
  | 1 => 103
  | 2 => 64
  | _ => 52

/-- Strips per parcel, N. -/
def stripsPer : Nat → Nat
  | 0 => 1280
  | 1 => 1230
  | 2 => 1152
  | _ => 1128

/-- Data strips of stripe `st`: the last stripe of a 10+2 or 20+2 parcel is short, 4+2 (R96). -/
def stripeN (layout st : Nat) : Nat :=
  if (layout = 1 ∨ layout = 3) ∧ st + 1 = stripesPer layout then 4 else layoutN layout

/-- The full-stripe width w. -/
def layoutW (layout : Nat) : Nat := layoutN layout + 2

/-- The atomic unit of a class in blocks (R51, Table 6). -/
def unitBlocks : Nat → Nat
  | 0 => 128
  | 1 => 32
  | 2 => 256
  | _ => 64

/-- The bays of a 24-bit set mask, ascending. -/
def maskBays (m : Nat) : List Nat := (List.range 24).filter fun b => bitAt m b

/-- The mask of a list of bays. -/
def baysMask (bs : List Nat) : Nat := bs.foldl (fun m b => setBit m b) 0

/-- The set mask a Cadastre entry uses (R99). -/
def setMask (s : State) (mset : Nat) : Nat := if mset = 1 then s.store.mset1 else s.store.mset0

/-- Rows R of a parcel's column on each member (R99). -/
def colRows (layout members spares : Nat) : Nat := ceilDiv (stripsPer layout) (members - spares)

/-- The position of strip `j` of stripe `st`, before relocation, with its row (R100). -/
def position (m : Nat) (e : CadEntry) (st j : Nat) : Nat × Nat :=
  let v := m - e.spares
  let n := layoutN e.layout
  let shift := if n + 2 + 1 ≤ v then 1 else 0
  let k := st * (n + 2) + j
  (k / v, (k % v + k / v * shift) % v)

/-- The spare position a relocated position moved to (R100, R101). -/
def relocate (m : Nat) (e : CadEntry) (q : Nat) : Nat :=
  if q = e.reloc0 then m - e.spares else if q = e.reloc1 then m - e.spares + 1 else q

/-- The spare position the next relocation of a parcel takes (R101, R132). -/
def spareFor (m : Nat) (e : CadEntry) : Nat := m - e.spares + if e.reloc0 = 31 then 0 else 1

/-- The bay of a position under the entry's seed: an affine permutation of the set (R100). -/
def posBay (bays : List Nat) (seed q : Nat) : Nat :=
  let m := bays.length
  let units := (List.range m).filter fun a => decide (1 ≤ a) && Nat.gcd a m == 1
  let a := units.getD (seed % units.length) 1
  bays.getD ((a * q + seed / 256 % m) % m) 0

/-- The bay and drive LBA of row `b` of strip `j` of stripe `st` (R100). -/
def locate (mask : Nat) (e : CadEntry) (st j b : Nat) : Nat × Nat :=
  let bays := maskBays mask
  let (r, q) := position bays.length e st j
  (posBay bays e.seed (relocate bays.length e q), (e.column + r) * 16 + b)

/-- The position, before relocation, that stands on a bay; none where the bay holds only spare space. -/
def bayPos (mask : Nat) (e : CadEntry) (bay : Nat) : Option Nat :=
  let bays := maskBays mask
  (List.range (bays.length - e.spares)).find? fun q => posBay bays e.seed q == bay

/-- The position relocated onto a bay's spare space, while that stands in its place (R101). -/
def relPos (mask : Nat) (e : CadEntry) (bay : Nat) : Option Nat :=
  let bays := maskBays mask
  let on (q v : Nat) : Bool := q != 31 && posBay bays e.seed v == bay
  if on e.reloc0 (bays.length - e.spares) then some e.reloc0
  else if on e.reloc1 (bays.length - e.spares + 1) then some e.reloc1 else none

/-- The parcel, stripe, and cell (strip × 16 + row) of a namespace block under a layout (R100). -/
def blockPlace (layout lba : Nat) : Nat × Nat × Nat :=
  let o := lba % 16384
  let w := 16 * layoutN layout
  (lba / 16384, o / w, o % w)

/-- The namespace block of a cell. -/
def cellLba (layout parcel st cell : Nat) : Nat := parcel * 16384 + st * (16 * layoutN layout) + cell

/-- The key of a stripe in the frame tables. -/
def stripeKey (slot parcel st : Nat) : Nat := (slot * 2 ^ 32 + parcel) * 256 + st

/-- The key of a namespace block in the block tables. -/
def blkKey (slot lba : Nat) : Nat := slot * 2 ^ 48 + lba

/-- A zero block as the formatter, Write Zeroes and deallocation write it (R112). -/
def zeroBlk (slot lba gen kepoch : Nat) : Blk :=
  { data := 0, wgen := gen, kepoch := kepoch, zero := true, guard := blockGuard 0,
    rmSlot := slot, rmParcel := lba / 16384, rmOffset := lba % 16384 }

/-- A block of user data before its frame gives it a generation. -/
def mkBlk (slot lba data stamp trav : Nat) (zero : Bool) : Blk :=
  { data := data, zero := zero, wstamp := stamp, guard := blockGuard data, rmSlot := slot,
    rmParcel := lba / 16384, rmOffset := lba % 16384, rmTrav := trav }

/-- Whether a generation is non-zero and not newer than the entry's `GEN` in the entry's epoch (R108, R115 check 2). -/
def genOk (e : CadEntry) (gen kepoch : Nat) : Bool :=
  gen != 0 && (kepoch != e.epoch || decide (gen ≤ e.gen))

/-- The checks of R115 on a data block read from its place; 0 when all pass, else the number of the first
that fails. -/
def checkData (e : CadEntry) (slot lba : Nat) (r : Raw) : Nat :=
  let b := Blk.ofCov r.cov
  if b.rmSlot ≠ slot ∨ b.rmParcel ≠ lba / 16384 ∨ b.rmOffset ≠ lba % 16384 then 1
  else if !genOk e b.wgen b.kepoch then 2
  else if !r.tagOk then 3
  else if b.guard ≠ blockGuard b.data then 4
  else 0

/-- The checks of R115 on a P or Q block: the reverse map is exempt, and its own sealing generation is
checked. -/
def checkParity (e : CadEntry) (r : Raw) : Nat :=
  if !genOk e r.pwgen r.pkepoch then 2 else if !r.tagOk then 3 else 0

/-- The checks a reconstructed block must pass before it is written: 2 and 4, its tag being computed anew (R135). -/
def checkRebuilt (e : CadEntry) (slot lba cov : Nat) : Bool :=
  checkData e slot lba { cov := cov } == 0

/-- The newer of two generations of a parcel (R108). -/
def newerGen (e : CadEntry) (a b : Nat × Nat) : Nat × Nat :=
  if a.2 = b.2 then if a.1 < b.1 then b else a else if a.2 = e.epoch then a else b

/-- The newest generation and epoch among a row's data blocks: what its P and Q are sealed under (R113). -/
def rowGen (e : CadEntry) (ds : List (Nat × Nat)) : Nat × Nat :=
  ds.foldl (fun g d => let b := Blk.ofCov d.2; newerGen e g (b.wgen, b.kepoch)) (0, e.epoch)

end Sys2Proof.Machine
end

