-- ==== Sys2Proof/Machine/TxOps.lean ====
section
/-!
DEFINITION. Machine/TxOps.lean: what leaves for a host on the connection its queue uses: responses, read data and reads of host memory, on
RDMA queue pairs (R180, R185, R192, R196), NVMe/TCP connections (R202) and the endpoint (R288).
-/
namespace Sys2Proof.Machine

/-- A queue pair. -/
def qpAt (s : State) (i : Nat) : Qp := tgetD s.xp.qps i {}

/-- Replace a queue pair. -/
def setQp (i : Nat) (q : Qp) (s : State) : State := { s with xp := { s.xp with qps := tput {} s.xp.qps i q } }

/-- Change a queue pair. -/
def modQp (i : Nat) (f : Qp → Qp) (s : State) : State := setQp i (f (qpAt s i)) s

/-- The number of the first NVMe/TCP connection; connections below it are QP indices. -/
def tcpBase : Nat := 2 ^ 20

/-- The connection of a queue, or of a Connect not yet answered. -/
def queueConn (s : State) (q : Nat) : Option Nat :=
  if 2 ^ 40 ≤ q then some (q - 2 ^ 40) else if 2 ^ 32 ≤ q then none else tget s.nvm.conn q

/-- The queue pair of a queue. -/
def queueQp (s : State) (q : Nat) : Option Nat :=
  match queueConn s q with
  | none => none
  | some c => if c < tcpBase ∧ (qpAt s c).state ≠ 0 then some c else none

/-- Path MTU in bytes. -/
def Qp.mtu (q : Qp) : Nat := 1024 * 2 ^ q.pmtu

/-- PSNs a message of `len` bytes takes (R184). -/
def Qp.pkts (q : Qp) (len : Nat) : Nat := max 1 (ceilDiv len q.mtu)

/-- Distance of a PSN above a base. -/
def psnRel (base n : Nat) : Nat := (n + 2 ^ 24 - base % 2 ^ 24) % 2 ^ 24

/-- The paths a queue pair spreads over: one on a standard queue pair, and on IPv4 under ESP, which hides the UDP source port (R185). -/
def Qp.spread (q : Qp) : Nat := if !q.spray || (q.sa.isSome && !q.ipv6) then 1 else max 1 q.paths

/-- The path of the next new packet (R185, R201): the paths in turn, those under penalty left out; with all under penalty, the one whose
penalty ends first. -/
def Qp.path (q : Qp) : Nat :=
  if q.spread ≤ 1 then 0
  else
    let order := (List.range q.spread).map fun i => (q.nextPath + i) % q.spread
    match order.find? fun p => !thas q.penalty p with
    | some p => p
    | none => (q.penalty.foldl (fun (b : Option (Nat × Nat)) p => match b with
        | none => some p
        | some o => if p.2 < o.2 then some p else b) none).elim 0 fun p => p.1

/-- Whether a waiting packet may be sent (R182): on a spray queue pair within the peer's `SP_WINDOW` of what it has acknowledged, and its message
open already or one of the peer's `SP_OPEN`; on a standard one while no RNR timer runs. -/
def Qp.maySend (q : Qp) (x : SentPkt) : Bool :=
  if !q.spray then !q.rnrWait
  else
    let opened := ((q.sent.filter fun y => !y.covered).map fun y => y.msn).eraseDups
    decide (psnRel q.txBase x.psn < q.window) && (opened.contains x.msn || decide (opened.length < q.openMax))

/-- Send waiting packets, in order, as far as they may be sent. -/
def sendPkts (i : Nat) : Nat → State → State
  | 0, s => s
  | n + 1, s =>
    let q := qpAt s i
    match q.unsent with
    | [] => s
    | x :: rest =>
      if !q.maySend x then s
      else
        let p := q.path
        let q' := { q with nextPath := (p + 1) % q.spread, unsent := rest, sent := q.sent ++ [{ x with path := p }] }
        sendPkts i n (drive (.roce i (.request x.psn p false)) (setQp i q' s))

/-- Send what waits on a queue pair and may be sent. -/
def sendMore (i : Nat) (s : State) : State := sendPkts i (qpAt s i).unsent.length s

/-- A message of `n` packets as requester, which takes `k` PSNs and the next MSN (R183, R184). -/
def queueMsg (q : Qp) (n k : Nat) : Qp :=
  { q with
    unsent := q.unsent ++ (List.range n).map fun j => { psn := (q.txPsn + j) % 2 ^ 24, msn := q.txMsn }
    txPsn := (q.txPsn + k) % 2 ^ 24, txMsn := (q.txMsn + 1) % 2 ^ 24 }

/-- Send a message of `len` bytes as requester. -/
def sendMsg (i len : Nat) (s : State) : State :=
  sendMore i (modQp i (fun q => queueMsg q (q.pkts len) (q.pkts len)) s)

/-- A message for a host on its queue's connection, where that is a queue pair. -/
def txQueue (q len : Nat) (s : State) : State :=
  match queueQp s q with
  | none => s
  | some i => sendMsg i len s

/-- The endpoint function of a queue: of its ring, or of its association. -/
def queueFn (s : State) (q : Nat) : Option Nat :=
  if 2 ^ 40 ≤ q then none
  else if 2 ^ 32 ≤ q then some (tgetD s.ep.rings (q - 2 ^ 32) {}).fn
  else (tget s.nvm.assocs (q / 256)).bind fun a => a.fn

/-- The endpoint function of a queue whose Bus Master Enable is 0 (R290). -/
def queueMute (s : State) (q : Nat) : Option Nat := (queueFn s q).bind fun fn => if s.fnBme fn then none else some fn

/-- A response capsule (R60); one of an endpoint function is held while its Bus Master Enable is 0 (R290). -/
def respond (q cid sct sc : Nat) (dnr : Option Bool) (dw0 dw1 : Nat) (s : State) : State :=
  match queueMute s q with
  | some fn =>
    let f := tgetD s.ep.fns fn {}
    let x : HeldCpl := { q := q, cid := cid, sct := sct, sc := sc, dnr := dnr, dw0 := dw0, dw1 := dw1 }
    { s with ep := { s.ep with fns := tput {} s.ep.fns fn { f with heldCpl := f.heldCpl ++ [x] } } }
  | none => txQueue q 16 (drive (.complete q cid sct sc dnr dw0 dw1) s)

/-- A notice completes an association's oldest Asynchronous Event Request; with none outstanding it waits for one (R345), and at an endpoint
function for Bus Master Enable (R290). `kind` 0 Namespace
Attribute Changed, 1 ANA change. -/
def postNotice (cntlid kind arg : Nat) (s : State) : State :=
  match tget s.nvm.assocs cntlid with
  | none => s
  | some a => match (if (queueMute s (cntlid * 256)).isSome then [] else a.aer) with
    | [] =>
      if a.notices.contains (kind, arg) then s
      else { s with nvm := { s.nvm with assocs := tset s.nvm.assocs cntlid { a with notices := a.notices ++ [(kind, arg)] } } }
    | c :: rest =>
      txQueue (cntlid * 256) 16
        (drive (.notice cntlid c kind arg) { s with nvm := { s.nvm with assocs := tset s.nvm.assocs cntlid { a with aer := rest } } })

/-- A block of read data. -/
def sendData (q cid lba data : Nat) (s : State) : State := txQueue q 4096 (drive (.hostData q cid lba data) s)

/-- Reads to hosts outstanding (R196). -/
def readsOut (s : State) : Nat := s.xp.qps.foldl (fun a q => a + q.2.reads.length) 0

/-- At 524,288 reads outstanding event 0x1802 is raised, once until there are fewer (R203). -/
def readBoundCheck (s : State) : State :=
  if readsOut s < 524288 then { s with xp := { s.xp with readBound := false } }
  else if s.xp.readBound then s
  else raise 0x1802 (leBytes 4 s.xp.waits.length) { s with xp := { s.xp with readBound := true } }

/-- Issue a read to a host (R196): its responses take the PSNs of their packets. -/
def issueRead (i ctx : Nat) (blocks : List Nat) (s : State) : State :=
  let q := qpAt s i
  let n := q.pkts (4096 * blocks.length)
  let rd : ReadOut := { ctx := ctx, blocks := blocks, first := q.txPsn, count := n }
  readBoundCheck (sendMore i (setQp i { queueMsg q 1 n with reads := tset q.reads q.txPsn rd } s))

/-- Whether a read may be issued on a queue pair (R196, R204). -/
def readRoom (s : State) (i : Nat) : Bool :=
  let q := qpAt s i
  decide (q.reads.length < min (min q.readCap (cfg s Reg.XPORT_READ_PER_QP)) q.depth) && decide (readsOut s < 524288)

/-- Pull from a host over a queue pair, or wait at a bound: `READ_WAITS` (R196). -/
def pullQp (i ctx : Nat) (blocks : List Nat) (s : State) : State :=
  if readRoom s i ∧ s.xp.waits.all (fun w => w.qp != i) then issueRead i ctx blocks s
  else bump Reg.XPORT_READ_WAITS { s with xp := { s.xp with waits := s.xp.waits ++ [{ qp := i, ctx := ctx, blocks := blocks }] } }

/-- Issue the pulls that waited and now have room, in order. -/
def pullRetry : Nat → State → State
  | 0, s => s
  | n + 1, s =>
    let s := readBoundCheck s
    match s.xp.waits.find? fun w => readRoom s w.qp with
    | none => s
    | some w => pullRetry n (issueRead w.qp w.ctx w.blocks { s with xp := { s.xp with waits := s.xp.waits.erase w } })

/-- Issue a host read at the endpoint under a new tag, or let it wait while 16,384 are in use (R288, R289). -/
def epSend (first : Bool) (fn : Nat) (what : EpRead) (s : State) : State :=
  if 16384 ≤ s.ep.tags.length ∨ s.ep.queue ≠ [] then { s with ep := { s.ep with queue := s.ep.queue ++ [(fn, first, what)] } }
  else
    let t := s.ep.nextTag
    drive (.epRead t fn what) { s with ep := { s.ep with
      nextTag := t + 1, idle := false, ltrIdle := false, tags := tset s.ep.tags t { fn := fn, what := what, issued := s.time, first := first } } }

/-- Issue a host read for the first time. -/
def epIssue (fn : Nat) (what : EpRead) (s : State) : State := epSend true fn what s

/-- Requests that waited for a tag are issued. -/
def epDrain : Nat → State → State
  | 0, s => s
  | n + 1, s =>
    match s.ep.queue with
    | [] => s
    | (fn, first, w) :: rest =>
      if 16384 ≤ s.ep.tags.length then s
      else
        let s := epSend first fn w { s with ep := { s.ep with queue := [] } }
        epDrain n { s with ep := { s.ep with queue := rest } }

/-- A host read completes: its tag is free (R288). -/
def epArrived (what : EpRead) (s : State) : State :=
  match tfind s.ep.tags fun _ t => t.what == what && !t.quarantined with
  | none => s
  | some (t, _) => epDrain s.ep.queue.length { s with ep := { s.ep with tags := tdel s.ep.tags t } }

/-- Pull a command's data, or with no blocks a traverse's table, from its host. -/
def pullHost (ctx q cid : Nat) (blocks : List Nat) (s : State) : State :=
  match queueFn s q with
  | some fn =>
    if blocks = [] then epIssue fn (.travTable ctx) s
    else blocks.foldl (fun s b => epIssue fn (.writeData ctx b) s) s
  | none =>
    let s := drive (.pull q cid blocks) s
    match queueQp s q with
    | none => s
    | some i => pullQp i ctx blocks s

end Sys2Proof.Machine
end

