-- ==== Sys2Proof/Machine/RingOps.lean ====
section
/-!
DEFINITION. Machine/RingOps.lean: completion records of the native work rings, and how a completion reaches the
queue or ring its command came from (spec/11, R301, R302).
-/
namespace Sys2Proof.Machine

/-- A function's state. -/
def fnAt (s : State) (fn : Nat) : Fn := tgetD s.ep.fns fn {}

/-- Replace a function's state. -/
def setFn (fn : Nat) (f : Fn) (s : State) : State :=
  { s with ep := { s.ep with fns := tput {} s.ep.fns fn f } }

/-- A ring, by global index. -/
def ringAt (s : State) (g : Nat) : Ring := tgetD s.ep.rings g {}

/-- Replace a ring. -/
def setRing (g : Nat) (r : Ring) (s : State) : State :=
  { s with ep := { s.ep with rings := tput {} s.ep.rings g r } }

/-- The global index of a function-local ring (R294). -/
def ringGlobal (s : State) (fn n : Nat) : Nat := cfgAt s Reg.RINGS_FN_RING_BASE fn % 65536 + n

/-- Whether a function-local ring exists: below the function's count (R282), or not yet DISABLED after the block shrank (R307). -/
def ringExists (s : State) (fn n : Nat) : Bool :=
  decide (n < cfgAt s Reg.RINGS_FN_RING_COUNT fn) ||
    (let r := ringAt s (ringGlobal s fn n)
     r.state != .disabled && r.fn == fn)

/-- A ring's entries. -/
def Ring.len (r : Ring) : Nat := 2 ^ r.n

/-- A completion ring is full when one more record would reach its head (R302). -/
def Ring.full (r : Ring) : Bool := (r.tail + 1) % r.len == r.head

/-- Descriptors a work ring holds between head and tail. -/
def Ring.waiting (r : Ring) : Nat := (r.tail + r.len - r.head % r.len) % r.len

/-- Write one record: phase, the work ring's head as it is now, tail, and the interrupt its count makes due (R301, R302). -/
def writeRec (g : Nat) (c : CplRec) (s : State) : State :=
  let r := ringAt s g
  let s := drive (.cplRec g r.tail { c with phase := r.phase, head := (ringAt s (ringGlobal s r.fn c.ring)).head }) s
  let tail := (r.tail + 1) % r.len
  let fire := r.arm && decide (r.coalN ≤ r.unsignalled + 1)
  let s := setRing g { r with
    tail := tail, phase := if tail = 0 then !r.phase else r.phase,
    unsignalled := if fire then 0 else r.unsignalled + 1 } s
  if fire then msix r.fn r.vector s else s

/-- Write the records a completion ring holds while it has room and Bus Master Enable is 1 (R290, R302). -/
def drainHeld (g : Nat) : Nat → State → State
  | 0, s => s
  | n + 1, s =>
    let r := ringAt s g
    match r.held with
    | [] => s
    | c :: cs =>
      if r.full || !s.fnBme r.fn then s
      else drainHeld g n (writeRec g c (setRing g { r with held := cs } s))

/-- Give a record to a completion ring: written, or held while the ring is full (event 0x2902) or Bus Master Enable
is 0 (R290, R302). -/
def putRec (g : Nat) (c : CplRec) (s : State) : State :=
  let r := ringAt s g
  if !r.held.isEmpty || r.full || !s.fnBme r.fn then
    let s := setRing g { r with held := r.held ++ [c] } s
    if r.held.isEmpty && r.full then raise 0x2902 (leBytes 2 g ++ [r.fn]) s else s
  else writeRec g c s

/-- The end of a drain or of a disable once nothing granted is left (R295). -/
def ringSettle (g : Nat) (s : State) : State :=
  let r := ringAt s g
  if r.granted.isEmpty && r.flying.isEmpty && (r.state == .draining || r.disableWhenDone) then
    setRing g { r with state := .disabled, disableWhenDone := false, head := 0, tail := 0, pushed := [], lastOk := true } s
  else s

/-- The descriptor of a work ring that lies in a slot completes (R296, R301): its record, unless `NOCPL` and success. -/
def ringDone (g slot sct sc : Nat) (dnr : Option Bool) (result result16 : Nat) (s : State) : State :=
  let r := ringAt s g
  match r.flying.find? fun d => d.slot == slot with
  | none => s
  | some d =>
    let ok := sct == 0 && sc == 0
    let s := setRing g { r with flying := r.flying.erase d, lastOk := if r.lastSlot = slot then ok else r.lastOk } s
    let s := if d.nocpl && ok then s
      else putRec (ringGlobal s r.fn r.cpl)
        { tag := d.tag, ring := r.local_, head := r.head, phase := true, sct := sct, sc := sc, dnr := dnr,
          result := result, result16 := result16 } s
    ringSettle g s

/-- The next grant of an arbiter (R303) among the rings with work, ascending: the ring and its units. -/
def Wrr.pick (work : List Nat) (weight burst waiting : Nat → Nat) (w : Wrr) : Option (Nat × Nat) × Wrr :=
  let can (p : Nat × Nat) : Bool := decide (0 < p.2) && work.contains p.1
  let find (w : Wrr) : Option Nat :=
    match firstIdx w.order.length fun i => decide (w.pos ≤ i) && (w.order[i]?).elim false can with
    | some i => some i
    | none => firstIdx w.order.length fun i => (w.order[i]?).elim false can
  let take (i : Nat) (w : Wrr) : Option (Nat × Nat) × Wrr :=
    match w.order[i]? with
    | none => (none, w)
    | some (g, left) =>
      let n := min left (min (burst g) (waiting g))
      (some (g, n), { w with order := w.order.set i (g, left - n), pos := i + 1 })
  match find w with
  | some i => take i w
  | none =>
    let after := match w.lead with
      | none => work
      | some l => (work.filter fun g => decide (l < g)) ++ work.filter fun g => decide (g ≤ l)
    match after with
    | [] => (none, w)
    | g :: _ => take 0 { order := after.map fun h => (h, weight h), pos := 0, lead := some g }

/-- The queue number that stands for a work ring. -/
def ringQ (g : Nat) : Nat := 2 ^ 32 + g

/-- Answer a command on the queue or ring it came from. -/
def answer (q cid sct sc : Nat) (dnr : Option Bool) (dw0 dw1 : Nat) (s : State) : State :=
  if 2 ^ 32 ≤ q then ringDone (q - 2 ^ 32) cid sct sc dnr (dw0 + 2 ^ 32 * dw1) 0 s
  else respond q cid sct sc dnr dw0 dw1 s

end Sys2Proof.Machine
end

