-- ==== Sys2Proof/Machine/ZebOps.lean ====
section
/-!
DEFINITION. Machine/ZebOps.lean: sending over the Zeber link (R337 to R340), the mirror sequence (R348), and pair
records (R349).
-/
namespace Sys2Proof.Machine

/-- Bytes of a message, header included, where the spec gives its body's size (R340, Table 4, R143, R168). -/
def zBytes : ZMsg → Nat
  | .mirrorPut .. => 4192
  | .resyncPut (.block ..) => 4192
  | .journalPut _ r => 16 + (match r.body with
      | .closure _ _ _ sl ex => ceilDiv (72 + 16 * sl.length + 16 * ex.length) 128 * 128
      | _ => 128)
  | .fwdData _ bs => 16 + 4096 * bs.length
  | .frame n _ _ _ => 16 + n
  | .session d => 16 + d.length
  | _ => 16

/-- Whether flits move: the link is up and not retraining (R337). -/
def zebUp (s : State) : Bool := s.zeb.lanes != 0 && !s.zeb.retraining

/-- Put a message on the wire: its flits stay in the replay buffer until acknowledged (R338). -/
def zebWire (m : ZMsg) (s : State) : State :=
  let z := s.zeb
  let f := (z.fseqTx + ceilDiv (zBytes m) 248) % 4096
  bump64 Reg.ZEBER_TX_BYTES_LO 0 (zBytes m)
    (drive (.zeber m) { s with zeb := { z with fseqTx := f, unacked := z.unacked ++ [(f, 0)] } })

/-- Send a message; while the link is down or retraining it waits and nothing is lost (R337). -/
def zsend (m : ZMsg) (s : State) : State :=
  if zebUp s then zebWire m s
  else { s with zeb := { s.zeb with waiting := s.zeb.waiting ++ [m] } }

/-- Whether a message travels on VC 0 (Table 2). -/
def ZMsg.first : ZMsg → Bool
  | .hello .. => true
  | .range .. => true
  | .stopping _ => true
  | _ => false

/-- Send the messages that waited: VC 0 before all others, each VC in order (R339). -/
def zebDrain (s : State) : State :=
  let ms := s.zeb.waiting
  ((ms.filter fun m => m.first) ++ ms.filter fun m => !m.first).foldl (fun s m => zebWire m s) { s with zeb := { s.zeb with waiting := [] } }

/-- The pair serves as one: PAIRED, or ARBITRATING, in which everything still crosses (R344, R354). -/
def inPair (s : State) : Bool := s.pair.state == 3 || s.pair.state == 4

/-- A change is sent on VC 1: while paired, and by the survivor while it resynchronises a joiner (R348, R359). -/
def mirrors (s : State) : Bool := inPair s || (s.pair.state == 2 && s.pair.survivor)

/-- Whether this controller serves namespaces in its pair state (R344, Table 6). -/
def servesNow (s : State) : Bool :=
  match s.pair.state with
  | 1 => false
  | 2 => s.pair.survivor
  | 6 => false
  | _ => true

/-- Send a VC 1 message under the next `MSEQ` of this direction (R348): the number and the new state. -/
def mseqSend (f : Nat → ZMsg) (s : State) : Nat × State :=
  let m := s.pair.mseqTx + 1
  (m, zsend (f m) { s with pair := { s.pair with mseqTx := m, sentAt := tset s.pair.sentAt m s.time } })

/-- Send a VC 1 message while changes are mirrored, without waiting for it. -/
def mirrorNote (f : Nat → ZMsg) (s : State) : State :=
  if mirrors s then (mseqSend f s).2 else s

/-- Make a pair record (R349, R40): alone it takes effect and completes at once; controller 0 numbers it, applies it
and awaits the acknowledgement; controller 1 sends it to be numbered. `fin` is what `cont` stands for. -/
def requestRecord (r : PairRec) (cont : RecCont) (apply fin : State → State) (s : State) : State :=
  if !inPair s then fin (apply s)
  else if !isCtrl1 s then
    let n := s.pair.recNum + 1
    let s := apply { s with pair := { s.pair with recNum := n } }
    zsend (.record n 0 r) { s with pair := { s.pair with records := tset s.pair.records n { what := r, cont := cont } } }
  else
    let t := s.pair.recTag + 1
    zsend (.record 0 t r) { s with pair := { s.pair with
      recTag := t, records := tset s.pair.records t { what := r, cont := cont } } }

/-- Whether this controller's index owns a namespace: alone it owns all (R28, R344). -/
def ownsNs (s : State) (n : Ns) : Bool := !s.pairedNow || n.owner == s.pwr.ctrlId

end Sys2Proof.Machine
end

