-- ==== Sys2Proof/Machine/StoreOps.lean ====
section
/-!
DEFINITION. Machine/StoreOps.lean: the operations of the storage side that several commands share: members and the
dirty limit (R73, R76, R86), Cadastre entries, homes and generations (R107 to R110), keys (R272), drive
commands, the journal (R144), frames (R67 to R70), the extension (R77) and the loss map (R138 to R140).
-/
namespace Sys2Proof.Machine

/-- A member, by bay. -/
def memberAt (s : State) (b : Nat) : Member := tgetD s.store.members b {}

/-- Replace a member. -/
def setMember (b : Nat) (m : Member) (s : State) : State :=
  { s with store := { s.store with members := tput {} s.store.members b m } }

/-- The set new parcels use, as a mask (R99). -/
def curMask (s : State) : Nat := setMask s s.store.msetCur

/-- A member whose drive is present and in the set's service: ACTIVE, RESYNC or RESTORING. -/
def memberPresent (s : State) (b : Nat) : Bool :=
  let st := (memberAt s b).state
  st == 2 || st == 6 || st == 7

/-- Vault members present (R76, R86). -/
def vaultMembers (s : State) : Nat := ((maskBays (curMask s)).filter (memberPresent s)).length

/-- Fewer than 12 members are present: the vault is unusable (R76). -/
def vaultShort (s : State) : Bool := decide (vaultMembers s < 12)

/-- `CACHE.VAULT_CAP_MIB` (R86). -/
def vaultCapMib (s : State) : Nat :=
  if vaultShort s then 0
  else (if s.pairedNow then 1 else 2) * vaultMembers s * 640 / 12 - 128

/-- The hold-up of the shelf: the lesser of the controllers' non-zero values (R73). -/
def holdupUs (s : State) : Option Nat :=
  let a := cfg s Reg.CACHE_HOLDUP_US
  let b := if s.pairedNow then s.vault.partnerHoldup else 0
  if a = 0 ∧ b = 0 then none else if a = 0 then some b else if b = 0 then some a else some (min a b)

/-- The partner's dirty limit: as reported, else this controller's own (R73). -/
def partnerDirtyMib (s : State) : Nat := s.vault.partnerLimit.getD (cfg s Reg.CACHE_DIRTY_LIMIT_MIB)

/-- The effective dirty limit in MiB by the procedure of R73. -/
def effLimit (s : State) : Nat :=
  let own := cfg s Reg.CACHE_DIRTY_LIMIT_MIB
  if vaultShort s then own
  else if !s.vault.rateRun then 0
  else
    let cap := if s.pairedNow then vaultCapMib s / 2 else vaultCapMib s
    let lim := min (own * 2 ^ 20) (cap * 2 ^ 20)
    match holdupUs s with
    | none => lim / 2 ^ 20
    | some h =>
      let budget := (h - cfg s Reg.CACHE_PF_FILTER_US - 5000) * min 240000 s.vault.rate
      let share := if s.pairedNow then budget * own / (own + partnerDirtyMib s) else budget
      min lim share / 2 ^ 20

/-- Evaluate the limit anew; event 0x2208 when it changes to stand below `DIRTY_LIMIT_MIB`, or when the vault becomes
short (R73, R94). -/
def setLimit (s : State) : State :=
  let e := effLimit s
  let short := vaultShort s
  let low := decide (e < cfg s Reg.CACHE_DIRTY_LIMIT_MIB)
  let report := (low && e != s.vault.effMib) || (short && !s.vault.short)
  let s := { s with vault := { s.vault with effMib := e, short := short } }
  if report then raise 0x2208 (leBytes 4 e ++ [vaultMembers s]) s else s

/-- Whether write-through is in force (R76, Table 5): the vault short, or, when not mirroring, an entropy failure (R257) or the solo policy. -/
def writeThrough (s : State) : Bool :=
  vaultShort s ||
    (let p := bits (cfg s Reg.CACHE_CACHE_CTL) 2 2
     if inPair s then false
     else if s.ciph.entropyFail then true
     else if !s.pairedNow then p == 2
     else p == 1 || p == 2)

/-- Dirty blocks of a frame. -/
def Frame.dirty (f : Frame) : Nat := tcount f.cells fun _ c => c.dirty

/-- Own dirty blocks: of frames, successors and window pages. -/
def dirtyBlocks (s : State) : Nat :=
  s.store.frames.foldl (fun a f => a + f.2.dirty) 0 + s.store.succs.foldl (fun a f => a + f.2.dirty) 0
    + tcount s.store.resident fun _ b => b.dirty

/-- Blocks staged by traverses that have not reached closure. -/
def stagedBlocks (s : State) : Nat :=
  s.trav.open_.foldl (fun a t => if t.2.state = .closed then a else a + t.2.staged.length) 0

/-- Dirty blocks held for the partner, staging not counted. -/
def mirrorBlocks (s : State) : Nat := (s.store.mirror.filter fun m => m.stage == 0).length

/-- Dump bytes D (spec/03, The dirty limit). -/
def dumpBytes (s : State) : Nat := 4096 * (dirtyBlocks s + mirrorBlocks s)

/-- A namespace. -/
def nsAt (s : State) (slot : Nat) : Option Ns := tget s.nvm.nss slot

/-- Replace a namespace. -/
def setNs (slot : Nat) (n : Ns) (s : State) : State :=
  { s with nvm := { s.nvm with nss := tset s.nvm.nss slot n } }

/-- Change a namespace, if the slot holds one. -/
def modNs (slot : Nat) (f : Ns → Ns) (s : State) : State :=
  { s with nvm := { s.nvm with nss := tmod s.nvm.nss slot f } }

/-- The index of a parcel's Cadastre entry (spec/04, The Cadastre). -/
def entIdx (s : State) (slot parcel : Nat) : Nat :=
  match nsAt s slot with
  | none => parcel
  | some n => n.base + parcel

/-- A Cadastre entry. -/
def entAt (s : State) (i : Nat) : CadEntry := tgetD s.store.cad i {}

/-- Write a Cadastre entry; a change not yet persisted goes to the partner (R110). -/
def setEnt (i : Nat) (e : CadEntry) (s : State) : State :=
  mirrorNote (fun m => .statePut m (.cad i e (tgetD s.store.home i {}).gen))
    { s with store := { s.store with cad := tput {} s.store.cad i e } }

/-- The namespace slot and parcel of an entry index. -/
def entOwner (s : State) (i : Nat) : Option (Nat × Nat) :=
  match s.nvm.nss.find? fun p => decide (p.2.base ≤ i) && decide (i < p.2.base + p.2.parcels) with
  | none => none
  | some p => some (p.1, i - p.2.base)

/-- Whether a bay is ACTIVE. -/
def bayActive (s : State) (b : Nat) : Bool := (memberAt s b).state == 2

/-- The first tag of a port from `t` on that no request holds, outstanding or quarantined (R312, R313). -/
def freeTag (used : Nat → Bool) : Nat → Nat → Nat
  | 0, t => t
  | n + 1, t => if used t then freeTag used n ((t + 1) % 16384) else t

/-- Tags a port's requests hold, quarantined ones included. -/
def tagsHeld (s : State) (bay : Nat) : Nat := tcount s.store.cmds fun k _ => k / 16384 == bay

/-- What goes out for a drive command. -/
def cmdOut (k : Nat) (c : DrvCmd) : Out :=
  match c.body with
  | .strip bs => .drive k c.bay c.write c.lba c.n bs
  | .sys w => .sysWrite k c.bay w
  | .op code arg => .driveOp k c.bay code arg

/-- Issue a request under the next free tag of its port, which widens the link (R312, R317). -/
def putCmd (c : DrvCmd) (s : State) : State :=
  let k := c.bay * 16384 + freeTag (fun t => thas s.store.cmds (c.bay * 16384 + t)) 16383 (s.store.nextTag % 16384)
  drive (cmdOut k c) { s with
    store := { s.store with nextTag := s.store.nextTag + 1, cmds := tset s.store.cmds k c }
    bay := { s.bay with
      ports := tmod s.bay.ports c.bay fun p => { p with narrow := false }
      active := if s.bay.active.contains c.bay then s.bay.active else s.bay.active ++ [c.bay] } }

/-- A port's request: at 16,384 outstanding it waits; nothing is refused (R312). -/
def portCmd (c : DrvCmd) (s : State) : State :=
  if tagsHeld s c.bay < 16384 then putCmd c s
  else { s with store := { s.store with nextTag := s.store.nextTag + 1, cmdWait := s.store.cmdWait ++ [c] } }

/-- A tag of a port lifts, and the port's next request that waits goes out (R312). -/
def freeCmd (k : Nat) (s : State) : State :=
  let s := { s with store := { s.store with cmds := tdel s.store.cmds k } }
  match s.store.cmdWait.find? fun c => c.bay == k / 16384 with
  | none => s
  | some c =>
    let s := { s with store := { s.store with cmdWait := s.store.cmdWait.erase c, nextTag := s.store.nextTag - 1 } }
    if c.discard then s else putCmd c s

/-- Issue a drive command: on this controller's port, or over the Zeber link for a one-sided member (R126); none
is issued for a member that cannot be reached. -/
def issue (bay : Nat) (write : Bool) (lba n : Nat) (purpose : Purpose) (blocks : List Stored) (deadline : Bool) (s : State) : State :=
  let remote := (memberAt s bay).oneSided
  let c : DrvCmd := { bay := bay, write := write, lba := lba, n := n, purpose := purpose, body := .strip blocks, deadline := deadline, remote := remote }
  if !remote then portCmd c s
  else if s.pair.state ≠ 3 then s
  else
    let t := 2 ^ 20 + s.store.nextTag
    zsend (.stripReq { tag := t, bay := bay, lba := lba, n := n, write := blocks })
      { s with store := { s.store with nextTag := s.store.nextTag + 1, cmds := tset s.store.cmds t c } }

/-- Blocks pass the storage pool, sealed (`ENC_BLOCKS`) or opened (`DEC_BLOCKS`); those of an `ENC` = 0 namespace count in `GMAC_BLOCKS` too (R268). -/
def poolBlocks (r : RegId) (slot n : Nat) (s : State) : State :=
  if n = 0 then s
  else
    let s := bump64 r 0 n s
    if (nsAt s slot).any fun x => !x.enc then bumpAt Reg.CIPHS_GMAC_BLOCKS 0 n s else s

/-- Blocks read from members that were returned pass the storage pool (R271). -/
def opened (slot : Nat) (raws : List Raw) (s : State) : State :=
  poolBlocks Reg.CIPHS_DEC_BLOCKS_LO slot (raws.filter fun r => r.ok).length s

/-- Seal blocks of a namespace and write them (R268). -/
def issueSealed (slot bay lba n : Nat) (purpose : Purpose) (blocks : List Stored) (s : State) : State :=
  issue bay true lba n purpose blocks false (poolBlocks Reg.CIPHS_ENC_BLOCKS_LO slot blocks.length s)

/-- Issue a write into the reserved region of a member (R103), over the Zeber link for a one-sided one (R126). -/
def issueSys (bay : Nat) (purpose : Purpose) (w : SysWrite) (s : State) : State :=
  let remote := (memberAt s bay).oneSided
  let c : DrvCmd := { bay := bay, write := true, lba := 0, n := 1, purpose := purpose, body := .sys w, remote := remote }
  if !remote then portCmd c s
  else if s.pair.state ≠ 3 then s
  else
    let t := 2 ^ 20 + s.store.nextTag
    zsend (.stripReq { tag := t, bay := bay, lba := 0, n := 1, write := [], sys := some w })
      { s with store := { s.store with nextTag := s.store.nextTag + 1, cmds := tset s.store.cmds t c } }

/-- Issue an NVMe command other than a read or write to a drive (R311, R313, R353). -/
def issueOp (bay code arg : Nat) (s : State) : State :=
  portCmd { bay := bay, write := true, lba := 0, n := 0, purpose := .other, body := .op code arg } s

/-- The requests outstanding or waiting for a tag. -/
def allCmds (s : State) : List DrvCmd := s.store.cmds.map (fun p => p.2) ++ s.store.cmdWait

/-- Change every request. -/
def mapCmds (f : DrvCmd → DrvCmd) (s : State) : State :=
  { s with store := { s.store with cmds := tmap s.store.cmds fun _ c => f c, cmdWait := s.store.cmdWait.map f } }

/-- The journal homes of a controller (R145). -/
def homesOf (s : State) (c : Nat) : List Nat := if c = 1 then s.store.homes1 else s.store.homes0

/-- This controller's journal homes. -/
def myHomes (s : State) : List Nat := homesOf s s.pwr.ctrlId

/-- Write a structure of the journal strip area to every journal home of this controller (R142). -/
def journalArea (w : SysWrite) (s : State) : State :=
  (myHomes s).foldl (fun s b => issueSys b .other w s) s

/-- The places of 128 B that a record takes in the ring: one, but for a CLOSURE (R143, R168). -/
def JBody.places : JBody → Nat
  | .closure _ _ _ slots exts => ceilDiv (72 + 16 * slots.length + 16 * exts.length) 128
  | _ => 1

/-- Where a record of `k` places goes: it never straddles a 4 KiB block (R143). -/
def ringPlace (s : State) (k : Nat) : Nat :=
  if s.store.jpos % 32 + k ≤ 32 then s.store.jpos else (s.store.jpos / 32 + 1) % 6144 * 32

/-- Whether the ring has room for a record of `k` places (R144): a block is reused only when every record in it is retired. -/
def ringRoomFor (k : Nat) (s : State) : Bool :=
  let p := ringPlace s k
  !(myHomes s).isEmpty && (p % 32 != 0 || !s.store.unret.any fun r => r.pos / 32 == p / 32)

/-- Whether the ring has room for a record of one place. -/
def ringRoom (s : State) : Bool := ringRoomFor 1 s

/-- Add a journal record: numbered, mirrored, and written to every home (R75, R144). -/
def journalAdd (b : JBody) (keep : Bool) (s : State) : Nat × State :=
  let j := s.store.jseq + 1
  let r : JRec := { jseq := j, pos := ringPlace s b.places, ctrl := s.pwr.ctrlId, time := s.time, body := b }
  let s := { s with store := { s.store with
    jseq := j, jpos := (r.pos + b.places) % 196608, unret := if keep then s.store.unret ++ [r] else s.store.unret } }
  let s := mirrorNote (fun m => .journalPut m r) s
  (j, (myHomes s).foldl (fun s h => issueSys h (.journal j) (.journal r) s) s)

/-- Retire a record (R144). -/
def journalRetire (j : Nat) (s : State) : State :=
  let s := (journalAdd (.retire j) false s).2
  { s with store := { s.store with unret := s.store.unret.filter fun r => r.jseq != j } }

/-- Write the label to every ACTIVE member (R130). -/
def writeLabels (s : State) : State :=
  let q := s.store.labelSeq + 1
  ((List.range 24).filter (bayActive s)).foldl (fun s b => issueSys b .other (.label q) s)
    { s with store := { s.store with labelSeq := q } }

/-- The bays of the copies of a Cadastre home segment: the members R109 names, each not ACTIVE replaced by the next
ACTIVE bay that does not already hold the segment (R146). -/
def homeBays (s : State) (g : Nat) : List Nat :=
  let bays := maskBays (curMask s)
  let m := bays.length
  if m = 0 then []
  else
    let third := ceilDiv m 3
    [g % m, (g + third) % m, (g + 2 * third) % m].foldl (fun acc i =>
      let order := (List.range m).map fun d => bays.getD ((i + d) % m) 0
      match order.find? fun b => bayActive s b && !acc.contains b with
      | none => acc
      | some b => acc ++ [b]) []

/-- The lease to write for a generation: the next multiple of 4,096 above it (R110), within 24 bits. -/
def leaseFor (gen : Nat) : Nat := min ((gen / 4096 + 1) * 4096) 0xFFFFFF

/-- Write an entry's home block to every available copy (R110): it is persisted once every write is done. With no copy available
nothing is written. -/
def persist (i lease : Nat) (s : State) : State :=
  let e := { entAt s i with gen := lease }
  let bs := homeBays s (i / 2097152)
  if bs = [] then s
  else
    let s := { s with store := { s.store with
      homeLeft := tset s.store.homeLeft i (tgetD s.store.homeLeft i 0 + bs.length), homeSnap := tset s.store.homeSnap i e } }
    bs.foldl (fun s b => issueSys b (.home i) (.home i e) s) s

/-- The lease an ordinary persistence writes: never below the persisted one within one epoch. -/
def leaseNow (s : State) (i : Nat) : Nat :=
  let e := entAt s i
  let h := tgetD s.store.home i {}
  if h.epoch = e.epoch ∧ h.state ≠ 0 then max h.gen (leaseFor e.gen) else leaseFor e.gen

/-- A namespace's key slot (R272). -/
def ksAt (s : State) (slot k : Nat) : KsKey := tgetD s.ks.keys (slot * 2 + k) {}

/-- Bytes 0 to 7 of an archive or escrow record (R274, Table 6). -/
def keyHeader (slot k st ep : Nat) : List Nat := leBytes 2 slot ++ [k % 2 + st % 4 * 2, 0] ++ leBytes 4 ep

/-- The first 16 bytes of an escrow record, its AAD (R276, Table 7). -/
def escAad (slot k st ep t : Nat) : List Nat := keyHeader slot k st ep ++ leBytes 8 t

/-- A 32-byte key sealed with AES-256-GCM under a key and IV, or opened again: counter mode (R276). -/
def sealKey (ek iv key : Nat) : Nat := key % 2 ^ 256 ^^^ Config.gcmStream ek iv % 2 ^ 256

/-- Queue the escrow record of a key change, and event 0x1E04; the escrow key's use is counted, and refused at 2^32 records with event 0x1E07
(R276, R259). -/
def escrowKey (slot k : Nat) (s : State) : State :=
  match s.trust.escrowKey with
  | none => s
  | some ek =>
    if !bitAt (cfg s Reg.KSTORE_KS_CTL) 1 ∨ 2 ^ 32 ≤ s.ks.escCount then s
    else
      let (iv, s) := drbgDraw s
      let iv := iv % 2 ^ 96
      let x := ksAt s slot k
      let ct := sealKey ek iv x.key
      let r : EscRec := { slot := slot, kslot := k, kstate := x.state, epochNo := x.epochNo, time := s.time, iv := iv
                          sealed := ct, tag := Config.gcmTag ek [iv] (escAad slot k x.state x.epochNo s.time) [ct] % 2 ^ 128 }
      let s := { s with ks := { s.ks with escCount := s.ks.escCount + 1, esc := s.ks.esc ++ [r] } }
      let s := raise 0x1E04 [s.ks.esc.length] s
      if s.ks.escCount = 2 ^ 32 then raise 0x1E07 [0] s else s

/-- Whether a key change may be made: fewer than 64 escrow records pending (R276). -/
def keyChangeOk (s : State) : Bool := decide (s.ks.esc.length < 64)

/-- Set a key slot. -/
def setKey (slot k : Nat) (x : KsKey) (s : State) : State :=
  let i := slot * 2 + k
  let a : KsArch := { key := x, dbg := s.trust.kekDbg, owner := s.trust.kekOwner }
  { s with ks := { s.ks with
    keys := tput {} s.ks.keys i x
    archive := if x = {} then tdel s.ks.archive i else tset s.ks.archive i a } }

/-- A new namespace's keys: slot 0 CURRENT with an epoch-0 key drawn from the DRBG, slot 1 EMPTY (R272). -/
def keyCreate (slot k : Nat) (s : State) : State :=
  escrowKey slot 0 (bump Reg.KSTORE_ARCHIVE_WRITES
    (setKey slot 1 {} (setKey slot 0 { state := 1, key := k % 2 ^ 256, epochNo := 0 } s)))

/-- The key slot that is CURRENT. -/
def ksCurrent (s : State) (slot : Nat) : Nat := if (ksAt s slot 1).state = 1 then 1 else 0

/-- The parcels' side of a rollover: every WRITTEN or FORMATTING parcel takes the new epoch, `GEN` 1 and `SWEEP`, every
UNWRITTEN one the epoch alone; all are persisted (R272). One whose `GEN` was used up has wrapped: event 0x2503 (R108). -/
def rollParcels (slot k : Nat) (s : State) : State :=
  match nsAt s slot with
  | none => s
  | some n => (List.range n.parcels).foldl (fun s p =>
      let i := n.base + p
      let e := entAt s i
      let s := if e.gen = 0xFFFFFF then raise 0x2503 (leBytes 2 slot ++ leBytes 4 p) (bump Reg.CADASTRE_WRAPS s) else s
      let s := { s with store := { s.store with fmtGen := tmod s.store.fmtGen i fun _ => 1 } }
      let s := if e.state = 3 ∨ e.state = 2 ∨ e.state = 4 then setEnt i { e with epoch := k, gen := 1, sweep := true } s
        else if e.state = 1 then setEnt i { e with epoch := k } s else s
      persist i (leaseFor (entAt s i).gen) s) s

/-- A rollover takes place: the other slot is filled with the key drawn and becomes CURRENT, the old one OLD (R272). -/
def rollNow (slot k : Nat) (s : State) : State :=
  let c := ksCurrent s slot
  let old := ksAt s slot c
  let s := setKey slot c { old with state := 2 }
    (setKey slot (1 - c) { state := 1, key := k % 2 ^ 256, epochNo := (old.epochNo + 1) % 2 ^ 32 } s)
  let s := rollParcels slot (1 - c) (escrowKey slot (1 - c) (bump Reg.KSTORE_ARCHIVE_WRITES s))
  let s := raise 0x1E01 (leBytes 2 slot ++ [0] ++ leBytes 4 (ksAt s slot (1 - c)).epochNo) s
  { s with ks := { s.ks with roll := s.ks.roll.filter fun x => x != slot } }

/-- An escrowed key enters its EMPTY slot and the archive (R276). -/
def keyImport (slot k st ep key : Nat) (s : State) : State :=
  bump Reg.KSTORE_ARCHIVE_WRITES (setKey slot k { state := st, key := key % 2 ^ 256, epochNo := ep } s)

/-- An OLD key is destroyed once no parcel carries it, with event 0x1E01 (R273). -/
def keyRetire (slot k : Nat) (s : State) : State :=
  raise 0x1E01 (leBytes 2 slot ++ [1] ++ leBytes 4 (ksAt s slot k).epochNo) (setKey slot k {} s)

/-- Start a rollover: in a pair it takes effect once both controllers have recorded it (R275). -/
def startRoll (slot : Nat) (s : State) : State :=
  if s.ks.roll.contains slot then s
  else
    let (k, s) := drbgDraw s
    requestRecord (.keyStore slot (1 - ksCurrent s slot) 1 k) .nothing (rollNow slot k) id
    (if inPair s then { s with ks := { s.ks with roll := s.ks.roll ++ [slot] } } else s)

/-- A draw of a write generation from a parcel's entry (R107): none while it must wait for the lease (R110), for a
rollover, or for a sweep (R108, R272; event 0x2504). -/
def drawGen (slot parcel : Nat) (s : State) : Option (Nat × Nat) × State :=
  let i := entIdx s slot parcel
  let e := entAt s i
  if e.gen = 0xFFFFFF then
    if e.sweep || (ksAt s slot (1 - ksCurrent s slot)).state == 2 || !keyChangeOk s then
      if s.store.wrapHeld.contains i then (none, s)
      else (none, raise 0x2504 (leBytes 2 slot ++ leBytes 4 parcel)
        { s with store := { s.store with wrapHeld := s.store.wrapHeld ++ [i] } })
    else
      let s := startRoll slot s
      let e := entAt s i
      if e.gen = 0xFFFFFF then (none, s)
      else (some (e.gen, e.epoch), s)
  else
    let g := e.gen + 1
    let h := tgetD s.store.home i {}
    let s := if g + 1024 ≤ h.gen ∨ thas s.store.homeLeft i then s
      else persist i (min 0xFFFFFF (max (leaseFor e.gen) (h.gen + 4096))) s
    if h.gen < g ∨ h.epoch ≠ e.epoch then (none, s)
    else (some (g, e.epoch), setEnt i { e with gen := g } s)

/-- The new placement of a parcel the mover is moving (R152, R153). -/
def movingTo (s : State) (slot parcel : Nat) : Option CadEntry :=
  let r := s.store.reshape
  if r.state = 0 then none
  else if r.kind = 0 then if r.slot = slot ∧ r.baseline = parcel then r.newPlace else none
  else if r.baseline = entIdx s slot parcel then r.newPlace else none

/-- The layout class in which frames of a parcel are built (R153). -/
def frameLayout (s : State) (slot parcel : Nat) : Nat :=
  match movingTo s slot parcel with
  | some e => e.layout
  | none => (entAt s (entIdx s slot parcel)).layout

/-- The frame key and cell of a namespace block. -/
def cellOf (s : State) (slot lba : Nat) : Nat × Nat :=
  let (p, st, c) := blockPlace (frameLayout s slot (lba / 16384)) lba
  (stripeKey slot p st, c)

/-- The visible version of a block in the protected cache: the successor's, else the frame's (R69). -/
def visCell (s : State) (slot lba : Nat) : Option Cell :=
  let (k, c) := cellOf s slot lba
  match tget s.store.succs k with
  | some f => tget f.cells c
  | none => match tget s.store.frames k with
    | some f => tget f.cells c
    | none => none

/-- Cells a full frame holds. -/
def Frame.size (f : Frame) : Nat := 16 * f.n

/-- Place a block in a frame, its row's P and Q updated in the same pass (R67). -/
def Frame.put (f : Frame) (c : Nat) (x : Cell) (now : Nat) : Frame :=
  let old := (tget f.cells c).elim 0 fun o => o.blk.cov
  let d := x.blk.cov ^^^ old
  let b := c % 16
  let cells := tset f.cells c x
  { f with
    cells := cells
    p := tset f.p b (tgetD f.p b 0 ^^^ d)
    q := tset f.q b (tgetD f.q b 0 ^^^ gfPow (c / 16) d)
    oldest := if x.dirty ∧ f.dirty = 0 then now else f.oldest
    st := if f.st = .flushing then .flushing
      else if !(x.dirty || f.dirty != 0) then .clean
      else if cells.length = 16 * f.n then .full else .gathering }

/-- Replace a frame; as the stripe's successor when `succ`. -/
def setFrame (succ : Bool) (k : Nat) (f : Frame) (s : State) : State :=
  if succ then { s with store := { s.store with succs := tset s.store.succs k f } }
  else { s with store := { s.store with frames := tset s.store.frames k f } }

/-- The extension's capacity in blocks (R16). -/
def extBlocks (s : State) : Nat := rd s Reg.CACHE_EXT_SIZE_MIB * 256

/-- Enter a clean block into the extension, replacing by the clock when it is full (R77). -/
def extPut (slot lba : Nat) (b : Blk) (s : State) : State :=
  let k := blkKey slot lba
  let t := s.store.ext
  if extBlocks s = 0 then s
  else if thas t k ∨ t.length < extBlocks s then
    { s with store := { s.store with ext := tset t k { blk := b } } }
  else
    let order := (t.filter fun p => decide (s.store.extHand ≤ p.1)) ++ t.filter fun p => decide (p.1 < s.store.extHand)
    let victim := match order.find? fun p => !p.2.used with
      | some p => p.1
      | none => (order.headD (0, { blk := {} })).1
    let passed := (order.takeWhile fun p => p.1 != victim).map fun p => p.1
    let t := passed.foldl (fun t k => tmod t k fun e => { e with used := false }) t
    { s with store := { s.store with ext := tset (tdel t victim) k { blk := b }, extHand := victim + 1 } }

/-- Remove a block from the extension (R77). -/
def extDrop (slot lba : Nat) (s : State) : State :=
  { s with store := { s.store with ext := tdel s.store.ext (blkKey slot lba) } }

/-- Evict a CLEAN frame: it becomes FREE and its blocks enter the extension when `EXT_EN` is 1 (R68, R77). -/
def evictFrame (k : Nat) (s : State) : State :=
  match tget s.store.frames k with
  | none => s
  | some f =>
    let s' := { s with store := { s.store with frames := tdel s.store.frames k } }
    if !bitAt (cfg s Reg.CACHE_CACHE_CTL) 0 then s'
    else f.cells.foldl (fun s c => extPut f.slot (cellLba f.layout f.parcel f.stripe c.1) c.2.blk s) s'

/-- Bytes of the write area a frame takes. -/
def Frame.bytes (f : Frame) : Nat := (f.n + 2) * 65536

/-- The write area: the cache less the journal, the window pool and the mirror region (R65). -/
def writeAreaBytes (s : State) : Nat :=
  (cfg s Reg.CACHE_CACHE_SIZE_MIB - 64 - cfg s Reg.WIN_POOL_MIB - (if s.pairedNow then s.vault.partnerEffMib else 0)) * 2 ^ 20

/-- Bytes of frames held. -/
def frameBytes (s : State) : Nat :=
  s.store.frames.foldl (fun a f => a + f.2.bytes) 0 + s.store.succs.foldl (fun a f => a + f.2.bytes) 0

/-- Evict clean frames until `need` more bytes fit; dirty data is never evicted (R66), nor is a frame of a parcel being moved, which may
revert (R154). -/
def evictTo (need : Nat) : Nat → State → State
  | 0, s => s
  | n + 1, s =>
    if frameBytes s + need ≤ writeAreaBytes s then s
    else match tfind s.store.frames fun k f => f.st == .clean && !thas s.store.succs k && (movingTo s f.slot f.parcel).isNone with
      | none => s
      | some (k, _) => evictTo need n (evictFrame k s)

/-- Make room for a frame of `n` data strips. -/
def makeRoom (n : Nat) (s : State) : State := evictTo ((n + 2) * 65536) s.store.frames.length s

/-- The frame a writer of a stripe places its data in (R68, R69): an existing frame that is not FLUSHING, the
successor, or a new one, with its generation drawn (R107); none while a draw must wait. -/
def writerFrame (slot parcel st : Nat) (s : State) : Option (Bool × Frame) × State :=
  let k := stripeKey slot parcel st
  let lay := frameLayout s slot parcel
  let n := stripeN lay st
  match tget s.store.succs k, tget s.store.frames k with
  | some f, _ => (some (true, f), s)
  | none, some f =>
    if f.st = .gathering ∨ f.st = .full then (some (false, f), s)
    else
      match drawGen slot parcel s with
      | (none, s) => (none, s)
      | (some (g, ep), s) =>
        if f.st = .flushing then
          let f' := { f with cells := tmap f.cells fun _ c => { c with dirty := false, wt := false },
                             st := .gathering, gen := g, kepoch := ep, queued := false, flush := none, formatted := false }
          (some (true, f'), setFrame true k f' s)
        else
          let f' := { f with st := .gathering, gen := g, kepoch := ep, queued := false }
          (some (false, f'), setFrame false k f' s)
  | none, none =>
    let s := makeRoom n s
    match drawGen slot parcel s with
    | (none, s) => (none, s)
    | (some (g, ep), s) =>
      let f : Frame := { slot := slot, parcel := parcel, stripe := st, layout := lay, n := n, gen := g, kepoch := ep }
      (some (false, f), setFrame false k f s)

/-- Whether a record of the loss map covers a block (R138, R140). -/
def LossRec.covers (r : LossRec) (slot lba : Nat) : Bool :=
  r.slot == slot && decide (r.lba ≤ lba) && (r.count == 0 || decide (lba < r.lba + r.count))

/-- Whether the loss map covers a block. -/
def lost (s : State) (slot lba : Nat) : Bool := s.store.loss.any fun r => r.covers slot lba

/-- The blocks a record covers. -/
def LossRec.blocks (s : State) (r : LossRec) : Nat :=
  if r.count = 0 then ((nsAt s r.slot).elim 0 fun n => n.nsze) - r.lba else r.count

/-- Whether a record touches a parcel. -/
def LossRec.inParcel (r : LossRec) (slot parcel : Nat) : Bool :=
  r.slot == slot && decide (r.lba < (parcel + 1) * 16384) && (r.count == 0 || decide (parcel * 16384 < r.lba + r.count))

/-- A change of a namespace's loss records: its `LOSS` bits follow, `CHANGES` rises, the map's block is written to the
journal homes, and the partner is told (R138, R141, R142). -/
def lossChanged (slot : Nat) (s : State) : State :=
  let s := match nsAt s slot with
    | none => s
    | some n => (List.range n.parcels).foldl (fun s p =>
        let i := n.base + p
        let e := entAt s i
        let l := s.store.loss.any fun r => r.inParcel slot p
        if e.state ≠ 0 ∧ e.loss ≠ l then setEnt i { e with loss := l } s else s) s
  let s := { s with store := { s.store with lossChanges := tset s.store.lossChanges slot (tgetD s.store.lossChanges slot 0 + 1) } }
  let s := journalArea (.loss s.store.loss.length) s
  mirrorNote (fun m => .statePut m (.loss slot (s.store.loss.filter fun r => r.slot == slot))) s

/-- How many records touch each parcel: the parcel (slot, index) with the most, if more than one (R139). -/
def lossCrowd (s : State) : Option (Nat × Nat) :=
  let score (r : LossRec) : Nat := (s.store.loss.filter fun x => x.slot == r.slot && x.lba / 16384 == r.lba / 16384).length
  let best := s.store.loss.foldl (fun (b : Nat × Nat × Nat) r =>
    if b.1 < score r then (score r, r.slot, r.lba / 16384) else b) (1, 0, 0)
  if best.1 ≤ 1 then none else some (best.2.1, best.2.2)

/-- Make room for a record by widening: the records of the parcel holding the most become one for that parcel; with
none holding more than one, those of the namespace holding the most become one for the namespace; event 0x240F (R139). -/
def lossCoalesce (s : State) : State :=
  let mark (s : State) : State := { s with store := { s.store with lossCoalesced := true } }
  match lossCrowd s with
  | some (slot, parcel) =>
    let rest := s.store.loss.filter fun r => !(r.slot == slot && r.lba / 16384 == parcel)
    let reason := ((s.store.loss.find? fun r => r.slot == slot && r.lba / 16384 == parcel).elim 1 fun r => r.reason)
    raise 0x240F [1] (mark { s with store := { s.store with loss := rest ++ [{
      slot := slot, reason := reason, count := 16384, lba := parcel * 16384, time := s.time }] } })
  | none =>
    match s.store.loss.head? with
    | none => s
    | some r =>
      let n (r : LossRec) : Nat := (s.store.loss.filter fun x => x.slot == r.slot).length
      let r := s.store.loss.foldl (fun b x => if n b < n x then x else b) r
      raise 0x240F [2] (mark { s with store := { s.store with
        loss := (s.store.loss.filter fun x => x.slot != r.slot) ++ [{ r with count := 0, lba := 0, time := s.time }] } })

/-- The records the loss map holds for this controller's namespaces (R138). -/
def lossLimit : Nat := 524288

/-- Record lost blocks, then raise event 0x2407 (R138). -/
def lossAdd (slot reason lba count : Nat) (s : State) : State :=
  if lost s slot lba ∧ count = 1 then s
  else
    let s := if s.store.loss.length < lossLimit then s else lossCoalesce s
    let s := { s with store := { s.store with
      loss := s.store.loss ++ [{ slot := slot, reason := reason, count := count, lba := lba, time := s.time }] } }
    raise 0x2407 (leBytes 2 slot ++ leBytes 8 lba ++ leBytes 4 count ++ [reason]) (lossChanged slot s)

/-- What is left of a record once block `lba` leaves it (R140). -/
def LossRec.without (s : State) (r : LossRec) (lba : Nat) : List LossRec :=
  let n := r.blocks s
  (if r.lba < lba then [{ r with count := lba - r.lba }] else []) ++
    (if lba + 1 < r.lba + n then [{ r with lba := lba + 1, count := r.lba + n - lba - 1 }] else [])

/-- A writer took effect on a block: the map covers it no more (R140). -/
def lossRemove (slot lba : Nat) (s : State) : State :=
  if !lost s slot lba then s
  else
    let grown := s.store.loss.flatMap fun r => if r.covers slot lba then r.without s lba else [r]
    let s := if grown.length ≤ lossLimit then s else lossCoalesce s
    let s := { s with store := { s.store with
      loss := s.store.loss.flatMap fun r => if r.covers slot lba then r.without s lba else [r] } }
    lossChanged slot s

/-- A block changes in the cache, and so does what a traverse pinned of it for a condition (R162). -/
def condsFollow (slot lba : Nat) (b : Blk) (s : State) : State :=
  { s with trav := { s.trav with open_ := tmap s.trav.open_ fun _ v => { v with conds := tmod v.conds (blkKey slot lba) fun _ => b } } }

/-- Put a block that has taken effect into its frame as dirty data (R67, R107): it takes the frame's generation, leaves
the extension and the loss map. None while the frame's draw must wait. -/
def landBlock (slot lba adm : Nat) (wt : Bool) (b : Blk) (s : State) : Option State :=
  let (k, c) := cellOf s slot lba
  let (_, st, _) := blockPlace (frameLayout s slot (lba / 16384)) lba
  match writerFrame slot (lba / 16384) st s with
  | (none, _) => none
  | (some (succ, f), s) =>
    let x : Cell := { blk := { b with wgen := f.gen, kepoch := f.kepoch }, dirty := true, adm := adm, wt := wt }
    let f := f.put c x s.time
    let f := if wt then { f with queued := true } else f
    some (lossRemove slot lba (condsFollow slot lba x.blk (extDrop slot lba (setFrame succ k f s))))

/-- Put several blocks. -/
def landBlocks (slot adm : Nat) (wt : Bool) : List (Nat × Blk) → State → Option State
  | [], s => some s
  | (lba, b) :: bs, s =>
    match landBlock slot lba adm wt b s with
    | none => none
    | some s => landBlocks slot adm wt bs s

/-- Enter a clean block read for a frame: the frame becomes CLEAN on a read fill where there was none (R68). -/
def fillClean (slot lba : Nat) (b : Blk) (s : State) : State :=
  let (k, c) := cellOf s slot lba
  let (_, st, _) := blockPlace (frameLayout s slot (lba / 16384)) lba
  let put (f : Frame) : Frame := if thas f.cells c then f else f.put c { blk := b, dirty := false, adm := 0 } 0
  match tget s.store.frames k with
  | some f => { s with store := { s.store with frames := tset s.store.frames k (put f), succs := tmod s.store.succs k put } }
  | none =>
    let lay := frameLayout s slot (lba / 16384)
    let s := makeRoom (stripeN lay st) s
    setFrame false k (put { slot := slot, parcel := lba / 16384, stripe := st, layout := lay, n := stripeN lay st, st := .clean }) s

/-- Mark the oldest frames for flushing while dirty data stands above the pressure threshold (R70, Table 3). -/
def pressure : Nat → Nat → State → State
  | 0, _, s => s
  | n + 1, queuedBlocks, s =>
    if (dirtyBlocks s - queuedBlocks) * 100 ≤ cfg s Reg.CACHE_FLUSH_HIGH_PCT * s.vault.effMib * 256 then s
    else
      let pick := s.store.frames.foldl (fun (b : Option (Nat × Frame)) p =>
        if p.2.st = .gathering ∧ !p.2.queued then
          match b with
          | none => some p
          | some o => if p.2.oldest < o.2.oldest then some p else b
        else b) none
      match pick with
      | none => s
      | some (k, f) => pressure n (queuedBlocks + f.dirty) (setFrame false k { f with queued := true } s)

/-- The pressure trigger. -/
def pressureCheck (s : State) : State :=
  pressure s.store.frames.length
    (s.store.frames.foldl (fun a p => if p.2.queued ∨ p.2.st = .full ∨ p.2.st = .flushing then a + p.2.dirty else a) 0) s

end Sys2Proof.Machine
end

