-- ==== Sys2Proof/Machine/IoOps.lean ====
section
/-!
DEFINITION. Machine/IoOps.lean: the order of commands (R44 to R47), completion, read jobs with hedging and
reconstruction (R115 to R118), and flushes (R70 to R72, R144).
-/
namespace Sys2Proof.Machine

/-- A context. -/
def ctxAt (s : State) (id : Nat) : Option Ctx := tget s.nvm.ctxs id

/-- Replace a context. -/
def setCtx (id : Nat) (c : Ctx) (s : State) : State :=
  { s with nvm := { s.nvm with ctxs := tset s.nvm.ctxs id c } }

/-- Change a context, if it exists. -/
def modCtx (id : Nat) (f : Ctx → Ctx) (s : State) : State :=
  { s with nvm := { s.nvm with ctxs := tmod s.nvm.ctxs id f } }

/-- The blocks of a list of ranges, in order. -/
def rangeBlocks (rs : List (Nat × Nat)) : List Nat := rs.flatMap fun r => (List.range r.2).map fun i => r.1 + i

/-- Two range lists share a block (R44). -/
def overlap (a b : List (Nat × Nat)) : Bool :=
  a.any fun x => b.any fun y => decide (x.1 < y.1 + y.2) && decide (y.1 < x.1 + x.2)

/-- The write extents of a traverse in one namespace. -/
def travRanges (s : State) (t : Trav) (slot : Nat) : List (Nat × Nat) :=
  match nsAt s slot with
  | none => []
  | some n => (t.descs.filter fun d => d.kind == 1 && d.nsid == n.nsid && n.subsys == t.subsys).map fun d => (d.lba, d.nlb)

/-- A traverse stamped in a namespace that has not reached its outcome acts as a writer there (R165). -/
def travPending (t : Trav) : Bool := t.state == .checking || t.state == .closing || t.state == .stamping

/-- Some writer admitted in the namespace before `adm` overlaps the ranges and has neither taken effect nor failed. -/
def writerBefore (s : State) (slot adm : Nat) (rs : List (Nat × Nat)) : Bool :=
  (s.nvm.ctxs.any fun p => let c := p.2
    c.slot == slot && c.writer && c.state == .waiting && decide (c.adm < adm) && c.adm != 0 && overlap c.ranges rs) ||
  (s.trav.open_.any fun p => let t := p.2
    travPending t && (match tget t.nums slot with
      | none => false
      | some n => decide (n < adm)) && overlap (travRanges s t slot) rs)

/-- Some reader admitted before `adm` overlaps the ranges and has not pinned. -/
def readerBefore (s : State) (slot adm : Nat) (rs : List (Nat × Nat)) : Bool :=
  s.nvm.ctxs.any fun p => let c := p.2
    c.slot == slot && c.reader && c.state == .waiting && decide (c.adm < adm) && overlap c.ranges rs

/-- Send a command's outcome: to its queue or ring, to the controller that received it, or nowhere once its association
has ended (R32). -/
def sendOutcome (c : Ctx) (sct sc : Nat) (dnr : Option Bool) (dw0 dw1 : Nat) (s : State) : State :=
  match c.fwdTag with
  | some t => zsend (.fwdCpl t c.adm sct sc dnr dw0 dw1) s
  | none => if c.orphan then s else answer c.q c.cid sct sc dnr dw0 dw1 s

/-- Whether a Flush may complete: no writer admitted before it remains (R42). -/
def flushClear (s : State) (slot adm : Nat) : Bool :=
  !(s.nvm.ctxs.any fun p => p.2.slot == slot && p.2.writer && decide (p.2.adm < adm)) &&
  !(s.trav.open_.any fun p => p.2.state != .closed && (match tget p.2.nums slot with
    | none => false
    | some n => decide (n < adm)))

/-- Complete the Flush commands that no earlier writer holds any more. -/
def flushSettle : Nat → State → State
  | 0, s => s
  | n + 1, s =>
    match s.nvm.ctxs.find? fun p => p.2.op == .flush && flushClear s p.2.slot p.2.adm with
    | none => s
    | some (id, c) =>
      flushSettle n (sendOutcome c 0 0 (some false) 0 0 { s with nvm := { s.nvm with ctxs := tdel s.nvm.ctxs id } })

/-- A command completes and its context is freed (R56, R60, R61). -/
def finish (id sct sc : Nat) (dnr : Option Bool) (dw0 dw1 : Nat) (s : State) : State :=
  match ctxAt s id with
  | none => s
  | some c =>
    let s := sendOutcome c sct sc dnr dw0 dw1 { s with nvm := { s.nvm with ctxs := tdel s.nvm.ctxs id } }
    if c.writer then flushSettle s.nvm.ctxs.length s else s

/-- Send what a writer owes its host once nothing holds it: its success when it has taken effect, its blocks are placed at
the partner, and in write-through are on the members (R47, R76); a refusal once its CLEAN_NOTE is placed
(R53). In ARBITRATING no write completes (R354). -/
def tryComplete (id : Nat) (s : State) : State :=
  match ctxAt s id with
  | none => s
  | some c =>
    if s.pair.state == 4 || s.vault.accepted then s
    else if c.state = .effective ∧ c.mseqs = [] ∧ c.wtLeft = [] then finish id 0 0 (some false) 0 0 s
    else if c.state = .failed ∧ c.cleanMseq = none then
      match c.err with
      | none => s
      | some (sct, sc, dnr, dw0) => finish id sct sc dnr dw0 0 s
    else s

/-- Blocks a writer would newly make dirty. -/
def newBlocks (s : State) (c : Ctx) : Nat :=
  ((rangeBlocks c.ranges).filter fun l => match visCell s c.slot l with
    | some x => !x.dirty
    | none => true).length

/-- Blocks held or promised under the dirty limit, one context left out (R73, R74). -/
def promised (s : State) (except : Nat) : Nat :=
  dirtyBlocks s + stagedBlocks s +
    s.nvm.ctxs.foldl (fun a p =>
      if p.1 ≠ except ∧ p.2.writer ∧ p.2.state = .waiting ∧ !p.2.deferred ∧ p.2.pulling then a + newBlocks s p.2 else a) 0

/-- The limit writers meet: the effective one, and a joiner's while it resynchronises (R73, R359). -/
def limitBlocks (s : State) : Nat :=
  256 * (match s.vault.joinerEff with
    | none => s.vault.effMib
    | some j => min j s.vault.effMib)

/-- Whether a writer finds room under the limit. -/
def roomFor (s : State) (id : Nat) (c : Ctx) : Bool :=
  let n := newBlocks s c
  n == 0 || decide (promised s id + n ≤ limitBlocks s)

/-- The parity sequencers processed some bytes in a class (Table 10, `CLS_MIB`). -/
def parityBytes (cls n : Nat) (s : State) : State :=
  { s with store := { s.store with clsBytes := tset s.store.clsBytes cls (tgetD s.store.clsBytes cls 0 + n) } }

/-- A block of a writer's data arrives (R44, R67): it is placed in a version no reader sees, under its frame's generation,
and mirrored at once (R53, R75). At the controller that received a forwarded write it is kept as the mirror copy. -/
def placeBlock (id lba : Nat) (b : Blk) (s : State) : State :=
  match ctxAt s id with
  | none => s
  | some c =>
    if c.state = .forwarded then
      let s := setCtx id { c with placed := tset c.placed lba b } s
      if c.placed.length + 1 < (rangeBlocks c.ranges).length then s
      else
        let all : Tab Blk := tset c.placed lba b
        let s := { s with store := { s.store with mirror := s.store.mirror ++ all.map fun (p : Nat × Blk) =>
          ({ slot := c.slot, lba := p.1, adm := 0, stage := 0, blk := p.2, mseq := id } : MirEnt) } }
        match s.pair.fwds.find? fun f => f.2 == id with
        | none => s
        | some (t, _) => zsend (.fwdData t (all.map fun p => (p.1, p.2.data))) s
    else if c.state ≠ .waiting ∨ !c.writer then s
    else
      let (f, s) := writerFrame c.slot (lba / 16384) (blockPlace (frameLayout s c.slot (lba / 16384)) lba).2.1 s
      let b := match f with
        | some (_, f) => { b with wgen := f.gen, kepoch := f.kepoch }
        | none => b
      let s := parityBytes 0 4096 s
      if !mirrors s ∨ c.fwdTag.isSome then setCtx id { c with placed := tset c.placed lba b } s
      else
        let (m, s) := mseqSend (fun m => .mirrorPut m c.slot lba c.adm 0 b) s
        setCtx id { c with placed := tset c.placed lba b, mseqs := if inPair s then c.mseqs ++ [m] else c.mseqs } s

/-- Pull a writer's data from its host, or place zeros at once; at the limit the pull is deferred, with event 0x2201 (R74,
R42). -/
def pullData (id : Nat) (s : State) : State :=
  match ctxAt s id with
  | none => s
  | some c =>
    if !roomFor s id c then
      if c.deferred then s
      else raise 0x2201 (leBytes 4 (dirtyBlocks s / 256)) (bump Reg.CACHE_LIMIT_WAITS (setCtx id { c with deferred := true } s))
    else
      let zeros := match c.op with
        | .zeroes .. => true
        | .dsm .. => true
        | _ => false
      if zeros then
        (rangeBlocks c.ranges).foldl (fun s l => placeBlock id l (mkBlk c.slot l 0 0 0 true) s)
          (setCtx id { c with deferred := false, pulling := true } s)
      else if c.pulling then setCtx id { c with deferred := false } s
      else
        let s := setCtx id { c with deferred := false, pulling := true } s
        if c.fwdTag.isSome then s else pullHost id c.q c.cid (rangeBlocks c.ranges) s

/-- Deferred writers resume in admission order as room appears (R74). -/
def resumeDeferred (s : State) : State :=
  (s.nvm.ctxs.filter fun p => p.2.deferred).foldl (fun s p => pullData p.1 s) s

/-- Where a block stands on the members: the placement, stripe and cell (R153 while its parcel moves). -/
def memberPlace (s : State) (slot lba : Nat) : CadEntry × Nat × Nat :=
  let e := entAt s (entIdx s slot (lba / 16384))
  match movingTo s slot (lba / 16384) with
  | none => let (_, st, c) := blockPlace e.layout lba; (e, st, c)
  | some n =>
    let (_, st', c') := blockPlace n.layout lba
    if st' < s.store.reshape.cursor then (n, st', c')
    else let (_, st, c) := blockPlace e.layout lba; (e, st, c)

/-- Whether a block has never been written to the members: the parcel UNWRITTEN, or its stripe not yet formatted (R105). -/
def unwritten (s : State) (slot lba : Nat) : Bool :=
  let e := entAt s (entIdx s slot (lba / 16384))
  let (_, st, _) := blockPlace e.layout lba
  e.state == 1 || e.state == 0 || (e.state == 2 && decide (e.format ≤ st))

/-- The bay of a strip under a placement. -/
def stripBay (s : State) (e : CadEntry) (st j : Nat) : Nat := (locate (setMask s e.mset) e st j 0).1

/-- Whether a bay's strips of a parcel can be read: ACTIVE, or filled already in RESYNC or RESTORING (R128, R148); one-sided
strips count as erasures while arbitrating (R354). -/
def bayReads (s : State) (idx bay : Nat) : Bool :=
  let m := memberAt s bay
  (m.state == 2 || ((m.state == 6 || m.state == 7) && m.done.contains idx)) && !(m.oneSided && s.pair.state != 3)

/-- Whether flushes write a bay's strips of a parcel: as for reads, and parcels being filled (`MEMBER_FILL`, R148). -/
def bayWrites (s : State) (idx bay : Nat) : Bool :=
  bayReads s idx bay ||
    (let m := memberAt s bay
     (m.state == 6 || m.state == 7) && m.started.contains idx && !(m.oneSided && s.pair.state != 3))

/-- A position whose erasure may still clear: MISSING, or RESYNC not yet filled, which reads as MISSING (R129, R148). -/
def bayHeld (s : State) (bay : Nat) : Bool :=
  let st := (memberAt s bay).state
  st == 3 || st == 6

/-- A job. -/
def jobAt (s : State) (j : Nat) : Option Job := tget s.store.jobs j

/-- Replace a job. -/
def setJob (j : Nat) (x : Job) (s : State) : State :=
  { s with store := { s.store with jobs := tset s.store.jobs j x } }

/-- Data strips of a job's stripe. -/
def Job.n (x : Job) : Nat := stripeN x.place.layout x.stripe

/-- A strip of a job's stripe cannot be read. -/
def jobDead (s : State) (x : Job) (j : Nat) : Bool :=
  !bayReads s (entIdx s x.slot x.parcel) (stripBay s x.place x.stripe j)

/-- A cell of a job is an erasure: its strip dead or hedged, or the block failed. -/
def jobErased (s : State) (x : Job) (c : Nat) : Bool :=
  !thas x.got c && (thas x.bad c || jobDead s x (c / 16) || x.hedged.contains (c / 16))

/-- A read of a cell is outstanding for a job. -/
def jobReading (s : State) (id c : Nat) : Bool :=
  (allCmds s).any fun p => match p.purpose with
    | .read j strip rows _ => j == id && strip == c / 16 && rows.contains (c % 16) && !p.discard
    | _ => false

/-- Read cells of a job's stripe: one command a strip (R116). -/
def jobRead (id : Nat) (x : Job) (cells : List Nat) (recon : Bool) (s : State) : State :=
  (cells.map fun c => c / 16).eraseDups.foldl (fun s j =>
    let rows := (cells.filter fun c => c / 16 == j).map fun c => c % 16
    let (bay, lba) := locate (setMask s x.place.mset) x.place x.stripe j (rows.foldl min 15)
    issue bay false lba rows.length (.read id j rows recon) [] (bitAt (cfg s Reg.PARITY_PAR_CTL) 8) s) s

/-- The strips a row needs for its reconstruction (R98): its other data, P, and Q where P cannot serve alone. -/
def rowNeeds (s : State) (x : Job) (b : Nat) : List Nat :=
  let n := x.n
  let data := (List.range n).map fun j => j * 16 + b
  let gone := data.filter fun c => jobErased s x c
  let pc := n * 16 + b
  let useQ := decide (2 ≤ gone.length) || jobErased s x pc
  (data ++ [pc] ++ if useQ then [(n + 1) * 16 + b] else []).filter fun c => !jobErased s x c

/-- Erasures of a row. -/
def rowErased (s : State) (x : Job) (b : Nat) : List Nat :=
  ((List.range (x.n + 2)).map fun j => j * 16 + b).filter fun c => jobErased s x c

/-- Erasures of a row that no original read still out can end (R117). -/
def rowGone (s : State) (id : Nat) (x : Job) (b : Nat) : List Nat :=
  (rowErased s x b).filter fun c => !jobReading s id c

/-- Cells of a job that are wanted and still missing. -/
def Job.missing (x : Job) : List Nat := x.want.filter fun c => !thas x.got c

/-- Rows of a job that must be reconstructed: a wanted cell of theirs is an erasure. -/
def reconRows (s : State) (x : Job) : List Nat :=
  ((x.missing.filter fun c => jobErased s x c).map fun c => c % 16).eraseDups

/-- The namespace block of a data cell of a job. -/
def Job.lba (x : Job) (c : Nat) : Nat := cellLba x.place.layout x.parcel x.stripe c

/-- Drop a job; its reads still out are discarded when they complete. -/
def dropJob (id : Nat) (s : State) : State :=
  let drop (c : DrvCmd) : DrvCmd := match c.purpose with
    | .read j _ _ _ => if j = id then { c with discard := true } else c
    | _ => c
  mapCmds drop { s with store := { s.store with jobs := tdel s.store.jobs id } }

/-- A parcel comes to hold rows under R129: event 0x2410 once. -/
def holdRow (slot parcel : Nat) (s : State) : State :=
  let i := entIdx s slot parcel
  if s.store.heldParcels.contains i then s
  else raise 0x2410 (leBytes 2 slot ++ leBytes 4 parcel)
    { s with store := { s.store with heldParcels := s.store.heldParcels ++ [i] } }

/-- Send a reader its blocks, then its completion; a forwarded read answers over the Zeber link (R45). -/
def sendRead (id : Nat) (s : State) : State :=
  match ctxAt s id with
  | none => s
  | some c =>
    let s := match c.fwdTag with
      | some t => zsend (.fwdData t c.got) s
      | none => if c.orphan then s else c.got.foldl (fun s p => sendData c.q c.cid p.1 p.2 s) s
    finish id 0 0 (some false) 0 0 s

/-- Deliver a cell to a flush: absent blocks are put as clean; nothing else is done before the whole job is in. -/
def flushFill (k : Nat) (x : Job) (s : State) : State :=
  match tget s.store.frames k with
  | none => s
  | some f =>
    match f.flush with
    | none => s
    | some fl =>
      if fl.method = 1 then
        let put (f : Frame) (c : Nat) : Frame :=
          match tget x.got c with
          | none => f
          | some r => if thas f.cells c then f else f.put c { blk := Blk.ofCov r.cov, dirty := false, adm := 0 } s.time
        let f := x.want.foldl put f
        let s := setFrame false k { f with flush := some { fl with
          newP := fl.rows.map fun b => (b, tgetD f.p b 0), newQ := fl.rows.map fun b => (b, tgetD f.q b 0) } } s
        { s with store := { s.store with succs := tmod s.store.succs k fun g => x.want.foldl put g } }
      else
        let delta (b : Nat) (q : Bool) : Nat :=
          let base := (tget x.got ((f.n + if q then 1 else 0) * 16 + b)).elim 0 fun r => r.cov
          f.cells.foldl (fun a (c : Nat × Cell) =>
            if c.1 % 16 = b ∧ c.2.dirty then
              let d := c.2.blk.cov ^^^ ((tget x.got c.1).elim 0 fun r => r.cov)
              a ^^^ (if q then gfPow (c.1 / 16) d else d)
            else a) base
        setFrame false k { f with flush := some { fl with
          newP := fl.rows.map fun b => (b, delta b false), newQ := fl.rows.map fun b => (b, delta b true) } } s

/-- The spare bay and the position that a rebuild is relocating in a parcel, while its entry is not yet updated (R133). -/
def relocating (s : State) (idx : Nat) : Option Nat :=
  if s.store.rbEntry = some idx ∨ s.store.rbSkip.contains idx then
    bayPos (setMask s (entAt s idx).mset) (entAt s idx) s.store.rbBay
  else none

/-- The position of a parcel that stands on a bay in RESYNC or RESTORING where the parcel has been started: flushes write it with
`MEMBER_FILL` (R148). -/
def filling (s : State) (idx : Nat) (place : CadEntry) : Option Nat :=
  let mask := setMask s place.mset
  let on (b : Nat) : Bool := let m := memberAt s b; (m.state == 6 || m.state == 7) && m.started.contains idx
  ((maskBays mask).find? on).bind fun b => bayPos mask place b

/-- The STRIPE record of a flush (R143, R144): written to the homes once the ring has room; until then the flush waits
(`JRING_WAITS`). -/
def flushJournal (k : Nat) (s : State) : State :=
  match tget s.store.frames k with
  | none => s
  | some f =>
    match f.flush with
    | none => s
    | some fl =>
      if !ringRoom s then
        bump Reg.REBUILD_JRING_WAITS { s with store := { s.store with jWaiting := s.store.jWaiting ++ [k] } }
      else
        let dirty := f.cells.filter fun c => c.2.dirty
        let strips := ((dirty.map fun (c : Nat × Cell) => c.1 / 16) ++ [f.n, f.n + 1]).eraseDups
        let adm := dirty.foldl (fun a c => max a c.2.adm) 0
        let idx := entIdx s f.slot f.parcel
        let rel := relocating s idx
        let fill := filling s idx fl.place
        let (j, s) := journalAdd (.stripe f.slot f.parcel f.stripe fl.rows strips fl.place f.gen f.kepoch fl.method
          (rel.getD (fill.getD 31)) (b2n rel.isSome + 8 * b2n fill.isSome) adm) true s
        setFrame false k { f with flush := some { fl with
          stage := 1, jseq := j, carried := dirty.map fun c => (cellLba f.layout f.parcel f.stripe c.1, c.2.adm) } } s

/-- Take the next step of flushes that waited for the ring, in order (R144). -/
def ringRetry (s : State) : State :=
  match s.store.jWaiting with
  | [] => s
  | k :: ks => if ringRoom s then flushJournal k { s with store := { s.store with jWaiting := ks } } else s

/-- A job's blocks are all in: hand them to what asked for them. -/
def deliver (id : Nat) (x : Job) (s : State) : State :=
  let s := dropJob id s
  let blocks := x.want.filterMap fun c => (tget x.got c).map fun r => (c, Blk.ofCov r.cov)
  match x.kind with
  | .hostRead ctx =>
    let s := if bitAt (cfg s Reg.CACHE_CACHE_CTL) 1 ∧ bitAt (cfg s Reg.CACHE_CACHE_CTL) 0 then
        blocks.foldl (fun s b => match visCell s x.slot (x.lba b.1) with
          | some _ => s
          | none => extPut x.slot (x.lba b.1) b.2 s) s
      else s
    let s := modCtx ctx (fun c => { c with
      got := blocks.foldl (fun t (b : Nat × Blk) => tset t (x.lba b.1) b.2.data) c.got
      need := c.need.filter fun l => !blocks.any fun b => x.lba b.1 == l }) s
    match ctxAt s ctx with
    | none => s
    | some c => if c.need = [] then sendRead ctx s else s
  | .stamp ctx =>
    let s := blocks.foldl (fun s b => match visCell s x.slot (x.lba b.1) with
      | some _ => s
      | none => fillClean x.slot (x.lba b.1) b.2 s) s
    modCtx ctx (fun c => { c with need := c.need.filter fun l => !blocks.any fun b => x.lba b.1 == l }) s
  | .condition t =>
    { s with trav := { s.trav with open_ := tmod s.trav.open_ t fun v => { v with
      conds := blocks.foldl (fun c (b : Nat × Blk) => tset c (blkKey x.slot (x.lba b.1)) b.2) v.conds } } }
  | .page w p =>
    let s := { s with store := { s.store with resident := blocks.foldl (fun t (b : Nat × Blk) =>
      tset t (blkKey x.slot (x.lba b.1)) { data := b.2.data }) s.store.resident } }
    { s with win := { s.win with pages := tmod s.win.pages (w * 2 ^ 24 + p) fun g => { g with
      missing := g.missing.filter fun l => !blocks.any fun b => x.lba b.1 == l } } }
  | .flush k => flushJournal k (flushFill k x s)

/-- Put a frame's flush back for a later plan: the frame is GATHERING again (R68, R129). -/
def replan (k : Nat) (heldRow : Bool) (s : State) : State :=
  let drop (c : DrvCmd) : DrvCmd := if c.purpose = .flushWrite k then { c with discard := true } else c
  let s := mapCmds drop s
  { s with store := { s.store with frames := tmod s.store.frames k fun f => { f with
    st := if f.cells.length = 16 * f.n then .full else .gathering
    queued := true
    heldRow := heldRow
    oldJ := match f.flush with
      | some fl => if fl.jseq = 0 then f.oldJ else f.oldJ ++ [fl.jseq]
      | none => f.oldJ
    flush := none } } }

/-- Start a job on a stripe's cells. -/
def addJob (x : Job) (s : State) : Nat × State :=
  let id := s.store.nextJob
  (id, { s with store := { s.store with nextJob := id + 1, jobs := tset s.store.jobs id x } })

/-- Plan a flush by one of R71's methods: 1 reads the absent blocks, 2 the prior versions. -/
def flushPlan (k method : Nat) (s : State) : Option Nat × State :=
  match tget s.store.frames k with
  | none => (none, s)
  | some f =>
    let e := entAt s (entIdx s f.slot f.parcel)
    let place := match movingTo s f.slot f.parcel with
      | some n => n
      | none => e
    let dirty := f.cells.filter fun c => c.2.dirty
    let rows := (dirty.map fun c => c.1 % 16).eraseDups
    let want :=
      if method = 0 then []
      else if method = 1 then (List.range (16 * f.n)).filter fun c => !thas f.cells c
      else dirty.map (fun c => c.1) ++ rows.flatMap fun b => [f.n * 16 + b, (f.n + 1) * 16 + b]
    let fl : Flush :=
      { method := method, rows := rows, place := place
        newP := rows.map fun b => (b, tgetD f.p b 0)
        newQ := rows.map fun b => (b, tgetD f.q b 0) }
    let s := setFrame false k { f with st := .flushing, flush := some fl, heldRow := false } s
    if want = [] then (none, s)
    else
      let (id, s) := addJob { kind := .flush k, slot := f.slot, parcel := f.parcel, stripe := f.stripe, place := place, want := want } s
      (some id, s)

/-- The blocks of a row that a flush cannot read by either method are lost: recorded with reason 2, taken as zero blocks
under the flush's generation, and P and Q completed over the row (R71). -/
def flushLose (k : Nat) (x : Job) (cells : List Nat) (s : State) : State :=
  match tget s.store.frames k with
  | none => s
  | some f =>
    let data := cells.filter fun c => decide (c < 16 * f.n) && !thas f.cells c
    let s := data.foldl (fun s c => lossAdd x.slot 2 (x.lba c) 1 s) s
    let f := data.foldl (fun f c => f.put c { blk := zeroBlk x.slot (x.lba c) f.gen f.kepoch, dirty := true, adm := 0 } s.time) f
    setFrame false k f s

/-- What is left of a job once some of the cells it wanted are given up: it is delivered when nothing is missing. -/
def restJob (id : Nat) (x : Job) (cells : List Nat) (s : State) : State :=
  let x := { x with want := x.want.filter fun c => !cells.contains c }
  if x.missing = [] then deliver id x s else setJob id x s

/-- A row that a job needs has three or more erasures. With a position MISSING it is held (R129); otherwise its erased blocks
are lost (R71, R271). -/
def failRows (id : Nat) (x : Job) (rows : List Nat) (s : State) : State :=
  let cells := x.missing.filter fun c => rows.contains (c % 16) && jobErased s x c
  let held := rows.any fun b => (rowErased s x b).any fun c => bayHeld s (stripBay s x.place x.stripe (c / 16))
  let s := if held then holdRow x.slot x.parcel s else bumpAt Reg.PARITY_RECON_FAILED 0 1 s
  let lostEvents (s : State) : State :=
    (cells.filter fun c => decide (c < 16 * x.n)).foldl (fun s c =>
      raise 0x2303 (leBytes 2 x.slot ++ leBytes 8 (x.lba c)) (lossAdd x.slot 2 (x.lba c) 1 s)) s
  let first := (cells.map fun c => x.lba c).foldl min (x.lba (cells.headD 0))
  match x.kind with
  | .hostRead ctx =>
    let s := dropJob id s
    match ctxAt s ctx with
    | none => s
    | some c =>
      if held then finish ctx 0 0x82 (some false) 0 0 s
      else
        let auth := x.bad.any fun p => p.2 == 3 && x.want.contains p.1
        let off := first - (c.ranges.headD (0, 0)).1
        let s := lostEvents s
        if auth then finish ctx 7 0x90 (some true) off 0 (bump Reg.CIPHS_UNVERIFIED s) else finish ctx 2 0x81 (some true) off 0 s
  | .stamp ctx =>
    if held then modCtx ctx (fun c => { c with need := [], err := some (0, 0x82, some false, 0), state := .failed }) (dropJob id s)
    else restJob id x cells
      (modCtx ctx (fun c => { c with need := c.need.filter fun l => !cells.any fun e => x.lba e == l }) (lostEvents s))
  | .condition t =>
    if held then dropJob id s
    else
      let s := lostEvents s
      restJob id x cells { s with trav := { s.trav with open_ := tmod s.trav.open_ t fun v => { v with
        conds := cells.foldl (fun m c => tset m (blkKey x.slot (x.lba c)) { zero := true }) v.conds } } }
  | .page w p =>
    if held then dropJob id s
    else
      let s := lostEvents s
      let s := { s with store := { s.store with resident := cells.foldl (fun t c =>
        tset t (blkKey x.slot (x.lba c)) { data := 0, poisoned := true }) s.store.resident } }
      restJob id x cells { s with win := { s.win with pages := tmod s.win.pages (w * 2 ^ 24 + p) fun g => { g with
        missing := g.missing.filter fun l => !cells.any fun c => x.lba c == l } } }
  | .flush k =>
    let s := dropJob id s
    if held then replan k true s
    else
      match tget s.store.frames k with
      | none => s
      | some f =>
        match f.flush with
        | none => s
        | some fl =>
          if fl.method = 2 then
            let s := replan k false s
            { s with store := { s.store with frames := tmod s.store.frames k fun f => { f with rw := true } } }
          else replan k false (flushLose k x cells s)

/-- Advance a job: deliver it, fail its hopeless rows, issue the reads a reconstruction needs, or queue the parity job once
they are in (R98, R116, R117, R119). -/
def jobStep (id : Nat) (s : State) : State :=
  match jobAt s id with
  | none => s
  | some x =>
    if x.missing = [] then deliver id x s
    else
      let dead := (reconRows s x).filter fun b => decide (3 ≤ (rowGone s id x b).length)
      let s := if dead ≠ [] then failRows id x dead s else s
      match jobAt s id with
      | none => s
      | some x =>
        let rows := (reconRows s x).filter fun b => decide ((rowErased s x b).length ≤ 2)
        let needs := rows.flatMap fun b => rowNeeds s x b
        let toRead := needs.filter fun c => !thas x.got c && !jobReading s id c
        let s := jobRead id x toRead true s
        if rows ≠ [] ∧ needs.all (fun c => thas x.got c) then setJob id { x with recon := true } s else s

/-- Start a job's direct reads: strips that cannot be read are reconstructed at once (R117). -/
def startJob (id : Nat) (s : State) : State :=
  match jobAt s id with
  | none => s
  | some x => jobStep id (jobRead id x (x.want.filter fun c => !jobErased s x c) false s)

/-- Read namespace blocks for one purpose: one job a stripe. -/
def readBlocks (kind : JobKind) (slot : Nat) (lbas : List Nat) (s : State) : State :=
  let places := lbas.map fun l => (l, memberPlace s slot l)
  let keys := (places.map fun p => (p.1 / 16384, p.2.1, p.2.2.1)).eraseDups
  let (ids, s) := keys.foldl (fun (acc : List Nat × State) k =>
    let want := (places.filter fun p => (p.1 / 16384, p.2.1, p.2.2.1) == k).map fun p => p.2.2.2
    let (id, s) := addJob { kind := kind, slot := slot, parcel := k.1, stripe := k.2.2, place := k.2.1, want := want } acc.2
    (acc.1 ++ [id], s)) ([], s)
  ids.foldl (fun s id => startJob id s) s

/-- Before a parcel's first flush omits a bay, the parcel's bit in the bay's dirty-parcel map is set and the map block written to the homes
(R128). -/
def markOmitted (idx : Nat) (e : CadEntry) (st : Nat) (s : State) : State :=
  let bays := ((List.range (stripeN e.layout st + 2)).map fun j => stripBay s e st j).eraseDups
  (bays.filter fun b => !bayWrites s idx b).foldl (fun s b =>
    let m := memberAt s b
    match m.map with
    | none => s
    | some d => if d.contains idx then s
      else journalArea (.dirtyMap b idx) (setMember b { m with map := some (d ++ [idx]) } s)) s

/-- Begin the flush of a frame by the method that reads fewer blocks, or by reconstruct-write where the prior versions could not be read
(R71); dirty-parcel bits of the bays it omits are set
first (R128). -/
def startFlush (k : Nat) (s : State) : State :=
  match tget s.store.frames k with
  | none => s
  | some f =>
    let idx := entIdx s f.slot f.parcel
    let e := entAt s idx
    let s := markOmitted idx e f.stripe s
    let dirty := (f.cells.filter fun c => c.2.dirty)
    let rows := (dirty.map fun c => c.1 % 16).eraseDups
    let a := 16 * f.n - f.cells.length
    let b := dirty.length + 2 * rows.length
    let method := if a = 0 then 0 else if f.rw ∨ a ≤ b then 1 else 2
    let s := if a = 0 then bump Reg.CACHE_FULL_FLUSHES s else bump Reg.CACHE_PARTIAL_FLUSHES s
    match flushPlan k method s with
    | (none, s) => flushJournal k s
    | (some id, s) => startJob id s

/-- Write the strips of a flush (R144): each dirty block, P and Q of each row, and the relocated position's strip to its
spare as well (R133). -/
def flushStrips (k : Nat) (s : State) : State :=
  match tget s.store.frames k with
  | none => s
  | some f =>
    match f.flush with
    | none => s
    | some fl =>
      let idx := entIdx s f.slot f.parcel
      let mask := setMask s fl.place.mset
      let rel := relocating s idx
      let data := (f.cells.filter fun c => c.2.dirty).map fun c =>
        (c.1, ({ cov := c.2.blk.cov, gen := c.2.blk.wgen, kepoch := c.2.blk.kepoch } : Stored))
      let par := fl.rows.flatMap fun b =>
        [(f.n * 16 + b, ({ cov := tgetD fl.newP b 0, gen := f.gen, kepoch := f.kepoch } : Stored)),
         ((f.n + 1) * 16 + b, { cov := tgetD fl.newQ b 0, gen := f.gen, kepoch := f.kepoch })]
      let put (c : Nat × Stored) (s : State) : State :=
        let (bay, lba) := locate mask fl.place f.stripe (c.1 / 16) (c.1 % 16)
        let s := if bayWrites s idx bay then issueSealed f.slot bay lba 1 (.flushWrite k) [c.2] s else s
        let (r, q) := position (maskBays mask).length fl.place f.stripe (c.1 / 16)
        if rel = some q then
          issueSealed f.slot (posBay (maskBays mask) fl.place.seed (spareFor (maskBays mask).length fl.place)) ((fl.place.column + r) * 16 + c.1 % 16) 1 (.flushWrite k)
            [c.2] s
        else s
      let before := s.store.nextTag
      let s := (data ++ par).foldl (fun s c => put c s) s
      { s with store := { s.store with frames := tmod s.store.frames k fun f => { f with
        flush := f.flush.map fun fl => { fl with stage := 2, left := s.store.nextTag - before } } } }

/-- The completion of a CLOSED traverse that waits for its blocks goes out once they are on the members (R172). -/
def travHeld (slot : Nat) (carried : List (Nat × Nat)) (s : State) : State :=
  (s.trav.open_.filter fun p => p.2.held).foldl (fun s p =>
    let v := p.2
    let left := v.left.filter fun k => !carried.any fun c => blkKey slot c.1 == k && decide (tgetD v.nums slot 0 ≤ c.2)
    let s := { s with trav := { s.trav with open_ := tset s.trav.open_ p.1 { v with left := left, held := left != [] } } }
    if left = [] then finish v.ctx 0 0 (some false) 0 0 s else s) s

/-- Blocks are on the members: the partner frees its copies, and the write-through writers of those blocks complete (R75, R76). -/
def carriedClean (slot : Nat) (carried : List (Nat × Nat)) (s : State) : State :=
  let s := travHeld slot carried (mirrorNote (fun m => .cleanNote m (.stripe slot carried)) s)
  (s.nvm.ctxs.filter fun p => p.2.slot == slot && p.2.wtLeft != []).foldl (fun s p =>
    let left := p.2.wtLeft.filter fun l => !carried.any fun c => c.1 == l && decide (p.2.adm ≤ c.2)
    tryComplete p.1 (modCtx p.1 (fun c => { c with wtLeft := left }) s)) s

/-- A frame's strips are on the members: its records are retired, its blocks clean, its successor takes its place, the partner
frees its copies, write-through completions and deferred writers proceed (R68, R69, R75, R76, R144). -/
def flushDone (k : Nat) (s : State) : State :=
  match tget s.store.frames k with
  | none => s
  | some f =>
    match f.flush with
    | none => s
    | some fl =>
      let s := (f.oldJ ++ [fl.jseq]).foldl (fun s j => journalRetire j s) s
      let clean : Frame := { f with
        cells := tmap f.cells (fun _ c => { c with dirty := false, wt := false }), st := .clean, queued := false, flush := none, rw := false, oldJ := [] }
      let s := match tget s.store.succs k with
        | none => setFrame false k clean s
        | some g => { s with store := { s.store with frames := tset s.store.frames k g, succs := tdel s.store.succs k } }
      ringRetry (resumeDeferred (carriedClean f.slot fl.carried s))

/-- The frames that may start a flush now (R70, R105, R106, R129, R153, R351, R354). -/
def flushable (s : State) (k : Nat) (f : Frame) : Bool :=
  let e := entAt s (entIdx s f.slot f.parcel)
  let moving := (movingTo s f.slot f.parcel).isSome && decide (s.store.reshape.cursor ≤ f.stripe)
  let torn := s.pair.quiet && s.store.mirJournal.any fun r => match r.body with
    | .stripe sl p st _ _ _ _ _ _ _ _ _ => stripeKey sl p st == k
    | _ => false
  (f.st == .full || (f.st == .gathering && f.queued)) && !f.heldRow && f.dirty != 0 && !moving && !torn
    && !(e.state == 2 && decide (e.format ≤ f.stripe)) && !f.formatted

/-- The next frame to flush: FULL frames first, then the others by the age of their oldest dirty block (R70). -/
def nextFlush (s : State) : Option Nat :=
  let older (b : Option (Nat × Frame)) (p : Nat × Frame) : Option (Nat × Frame) :=
    match b with
    | none => some p
    | some o => if p.2.oldest < o.2.oldest then some p else b
  let all := s.store.frames.filter fun p => flushable s p.1 p.2
  let full := (all.filter fun p => p.2.st == .full).foldl older none
  match full with
  | some p => some p.1
  | none => (all.foldl older none).map fun p => p.1

end Sys2Proof.Machine
end

