-- ==== Sys2Proof/Machine/EffectOps.lean ====
section
/-!
DEFINITION. Machine/EffectOps.lean: what a reader pins (R45, R46), a writer taking effect or failing (R44, R46,
R53, R140, R207), and the reservation rules (R43).
-/
namespace Sys2Proof.Machine

/-- Where a reader finds a block (R45). -/
inductive Source where
  | bytes (d : Nat)
  | lost
  | member
deriving DecidableEq, Repr

/-- A block's source: the window page, the protected cache, the extension, zeros where never written, else the members; a
block of the loss map or a poisoned one is lost (R45, R105, R140, R207). -/
def sourceOf (s : State) (slot lba : Nat) : Source :=
  match tget s.store.resident (blkKey slot lba) with
  | some r => if r.poisoned then .lost else .bytes r.data
  | none =>
    if lost s slot lba then .lost
    else match visCell s slot lba with
      | some c => .bytes c.blk.data
      | none => match tget s.store.ext (blkKey slot lba) with
        | some e => .bytes e.blk.data
        | none => if unwritten s slot lba then .bytes 0 else .member

/-- A reader pins the versions it returns (R46): a lost block ends it with Unrecovered Read Error and the offset of the
first; blocks not held are read from the members. -/
def pinReader (id : Nat) (s : State) : State :=
  match ctxAt s id with
  | none => s
  | some c =>
    let ls := rangeBlocks c.ranges
    match ls.find? fun l => sourceOf s c.slot l == .lost with
    | some l => finish id 2 0x81 (some true) (l - (c.ranges.headD (0, 0)).1) 0 s
    | none =>
      let got := ls.foldl (fun t l => match sourceOf s c.slot l with
        | .bytes d => tset t l d
        | _ => t) []
      let need := ls.filter fun l => sourceOf s c.slot l == .member
      let s := { s with store := { s.store with ext := tmap s.store.ext fun k e =>
        if (ls.any fun l => blkKey c.slot l == k) then { e with used := true } else e } }
      let s := setCtx id { c with state := .pinned, got := got, need := need } s
      if need = [] then sendRead id s else readBlocks (.hostRead id) c.slot need s

/-- Every waiting reader that no earlier writer holds any more pins its blocks (R46). -/
def pinReaders (s : State) : State :=
  (s.nvm.ctxs.filter fun p => p.2.reader && p.2.state == .waiting).foldl (fun s p =>
    if writerBefore s p.2.slot p.2.adm p.2.ranges then s else pinReader p.1 s) s

/-- A writer fails before taking effect: its placed blocks are discarded at both controllers after a CLEAN_NOTE, and
waiting readers return the earlier state (R46, R53). -/
def failWriter (id sct sc : Nat) (dnr : Option Bool) (dw0 : Nat) (s : State) : State :=
  match ctxAt s id with
  | none => s
  | some c =>
    let fail (m : Option Nat) (s : State) : State :=
      setCtx id { c with state := .failed, placed := [], mseqs := [], deferred := false, err := some (sct, sc, dnr, dw0), cleanMseq := m } s
    let s := if c.mseqs ≠ [] ∧ mirrors s then
        let (m, s) := mseqSend (fun m => .cleanNote m (.writer c.slot c.adm)) s
        fail (if inPair s then some m else none) s
      else fail none s
    tryComplete id (pinReaders s)

/-- The write stamp of a block as left by the writers before (R53, R55); a block not held reads from its member. -/
def stampOf (s : State) (slot lba : Nat) : Option Nat :=
  match visCell s slot lba with
  | some c => some c.blk.wstamp
  | none => match tget s.store.ext (blkKey slot lba) with
    | some e => some e.blk.wstamp
    | none => if unwritten s slot lba ∨ lost s slot lba then some 0 else none

/-- Some window bound by a BIND admitted before `adm` overlaps the ranges (R207). -/
def boundRange (s : State) (slot adm : Nat) (rs : List (Nat × Nat)) : Bool :=
  s.win.windows.any fun w => w.2.state != 0 && w.2.slot == slot && decide (w.2.adm < adm)
    && overlap rs [(w.2.slba, w.2.pages * 512)]

/-- Whether a writer's turn has come (R44): all its data placed, its stamps read, and nothing earlier that overlaps it
pending. -/
def writerReady (s : State) (c : Ctx) : Bool :=
  c.writer && c.state == .waiting && ((rangeBlocks c.ranges).all fun l => thas c.placed l) && c.need == []
    && !writerBefore s c.slot c.adm c.ranges && !readerBefore s c.slot c.adm c.ranges

/-- A writer takes effect at its turn: refused where a window binds its range (R207) or a stamp is newer than its stake
(R53, event 0x2103); else its version becomes the visible one and readers waiting on it pin (R44, R46). -/
def takeEffect (id : Nat) (s : State) : State :=
  match ctxAt s id with
  | none => s
  | some c =>
    if !writerReady s c then s
    else if boundRange s c.slot c.adm c.ranges then failWriter id 2 0x86 none 0 s
    else
      let ls := rangeBlocks c.ranges
      let stale := match c.stake with
        | none => none
        | some k => ls.find? fun l => decide (k < (stampOf s c.slot l).getD 0)
      match stale with
      | some l =>
        let s := bumpAt Reg.NSMGR_NS_STAKE_REFUSED c.slot 1 s
        let s := raise 0x2103 (leBytes 2 c.slot ++ leBytes 8 (c.stake.getD 0) ++ leBytes 6 l) s
        failWriter id 7 0x80 (some true) (l - (c.ranges.headD (0, 0)).1) s
      | none =>
        let wt := writeThrough s
        let blks := c.placed.map fun p => (p.1, { p.2 with wstamp := c.stake.getD 0 })
        match landBlocks c.slot c.adm wt blks s with
        | none => s
        | some s =>
          let s := modCtx id (fun c => { c with state := .effective, placed := [], wtLeft := if wt then ls else [] }) s
          tryComplete id (pressureCheck (pinReaders s))

/-- Whether a reservation refuses a host's command (R43, by the reservation types of the NVMe base specification,
assumption 42). -/
def resvRefuses (r : Resv) (host : Nat) (write : Bool) : Bool :=
  match r.holder with
  | none => false
  | some h =>
    let reg := thas r.keys host
    if r.rtype = 1 then write && h != host
    else if r.rtype = 2 then h != host
    else if r.rtype = 3 ∨ r.rtype = 5 then write && !reg
    else !reg

/-- The reservation released, as when its holder unregisters: types 5 and 6 stand while a registrant is left. -/
def Resv.drop (r : Resv) (host : Nat) : Resv :=
  let keys := tdel r.keys host
  if r.rtype = 5 ∨ r.rtype = 6 then
    if keys.isEmpty then { r with keys := keys, holder := none, rtype := 0 }
    else { r with keys := keys, holder := if r.holder = some host then keys.head?.map fun k => k.1 else r.holder }
  else if r.holder = some host then { r with keys := keys, holder := none, rtype := 0 }
  else { r with keys := keys }

/-- Reservation Register: 0 register, 1 unregister, 2 replace; none is a conflict. -/
def Resv.register (r : Resv) (host action cur new : Nat) (ignore : Bool) : Option Resv :=
  let bump (r : Resv) : Resv := { r with gen := r.gen + 1 }
  match action, tget r.keys host with
  | 0, none => some (bump { r with keys := tset r.keys host new })
  | 0, some k => if k = new then some r else none
  | 1, some k => if ignore ∨ k = cur then some (bump (r.drop host)) else none
  | 1, none => none
  | _, some k => if ignore ∨ k = cur then some (bump { r with keys := tset r.keys host new }) else none
  | _, none => if ignore then some (bump { r with keys := tset r.keys host new }) else none

/-- Reservation Acquire: 0 acquire, 1 preempt, 2 preempt and abort, executed as a preempt (R42). -/
def Resv.acquire (r : Resv) (host action cur pre rtype : Nat) : Option Resv :=
  if tget r.keys host ≠ some cur then none
  else if action = 0 then
    match r.holder with
    | none => some { r with holder := some host, rtype := rtype }
    | some h => if (h = host ∨ r.rtype = 5 ∨ r.rtype = 6) ∧ r.rtype = rtype then some r else none
  else
    let shared := r.rtype == 5 || r.rtype == 6
    let holds := match r.holder with
      | none => false
      | some h => (tget r.keys h == some pre) || (shared && pre == 0)
    let keys := r.keys.filter fun k => k.1 == host || (k.2 != pre && !(shared && pre == 0))
    if holds then some { keys := keys, holder := some host, rtype := rtype, gen := r.gen + 1 }
    else if keys.length < r.keys.length then some { r with keys := keys, gen := r.gen + 1 }
    else none

/-- Reservation Release: 0 release, 1 clear; `inr none` is a type mismatch. -/
def Resv.release (r : Resv) (host action cur rtype : Nat) : Option (Option Resv) :=
  if tget r.keys host ≠ some cur then none
  else if action = 1 then some (some { gen := r.gen + 1 })
  else
    let holds := r.holder == some host || ((r.rtype == 5 || r.rtype == 6) && r.holder.isSome)
    if !holds then some (some r)
    else if r.rtype ≠ rtype then some none
    else some (some { r with holder := none, rtype := 0 })

end Sys2Proof.Machine
end

