-- ==== Sys2Proof/Machine/TravOps.lean ====
section
/-!
DEFINITION. Machine/TravOps.lean: traverses (spec/06): admission, checks, staging, stamping, judgement, closure,
abandonment and the outcome memory.
-/
namespace Sys2Proof.Machine

/-- An open traverse. -/
def travAt (s : State) (t : Nat) : Option Trav := tget s.trav.open_ t

/-- Replace a traverse. -/
def setTrav (t : Nat) (v : Trav) (s : State) : State :=
  { s with trav := { s.trav with open_ := tset s.trav.open_ t v } }

/-- Open traverses this controller coordinates (R160). -/
def travOpen (s : State) : Nat := tcount s.trav.open_ fun _ v => v.state != .closed && v.remote == none

/-- The namespace a descriptor names, in the traverse's subsystem. -/
def descSlot (s : State) (v : Trav) (d : TravDesc) : Option Nat :=
  (s.nvm.nss.find? fun p => p.2.subsys == v.subsys && p.2.nsid == d.nsid && p.2.state == 2).map fun p => p.1

/-- The recorded outcome of a host's traverse (R169). -/
def outcomeOf (s : State) (host travId : Nat) : Option Outcome :=
  s.trav.outcomes.find? fun o => o.host == host && o.travId == travId

/-- The status and dword 0 of an outcome (R170, Table 8). -/
def outcomeStatus (o : Outcome) : Nat × Nat × Option Bool × Nat :=
  match o.outcome with
  | 0 => (0, 0, some false, 0)
  | 1 => (7, 0x84, some true, o.index)
  | 2 => (7, 0x80, some true, o.index + o.offset % 2 ^ 16 * 256)
  | 3 => (0, 0x83, none, o.index)
  | _ => (2, 0x86, none, o.index)

/-- Record an outcome; the oldest gives way (R169). -/
def outcomePut (o : Outcome) (s : State) : State :=
  if s.trav.outcomes.length < 1048576 then { s with trav := { s.trav with outcomes := o :: s.trav.outcomes } }
  else { s with trav := { s.trav with outcomes := o :: s.trav.outcomes.dropLast, full := true } }

/-- Answer a traverse from the outcome memory: the recorded status, dword 1 bit 0 set (R169). -/
def travAnswer (t : Nat) (o : Outcome) (s : State) : State :=
  match travAt s t with
  | none => s
  | some v =>
    let (sct, sc, dnr, dw0) := outcomeStatus o
    finish v.ctx sct sc dnr dw0 1 (bump Reg.TRAV_DUP_ANSWERED
      { s with trav := { s.trav with open_ := tdel s.trav.open_ t } })

/-- Refuse a traverse under R159: no number, no outcome entry, no effect. -/
def travRefuse (t sct sc : Nat) (dnr : Option Bool) (dw0 : Nat) (s : State) : State :=
  match travAt s t with
  | none => s
  | some v => finish v.ctx sct sc dnr dw0 0 (bump Reg.TRAV_REFUSED
      { s with trav := { s.trav with open_ := tdel s.trav.open_ t } })

/-- Ask for the descriptor table (R158). -/
def travPull (t : Nat) (s : State) : State :=
  match travAt s t with
  | none => s
  | some v => match ctxAt s v.ctx with
    | none => s
    | some c => if c.fwdTag.isSome then s else pullHost v.ctx c.q c.cid [] s

/-- The traverses that waited for another of the same host and ID: answered from its entry, or the first executed in its
own right when it was abandoned (R169). -/
def travWake (host travId : Nat) (s : State) : State :=
  let waits := s.trav.open_.filter fun p => p.2.state == .waitDup && p.2.host == host && p.2.travId == travId
  match outcomeOf s host travId with
  | some o => waits.foldl (fun s p => travAnswer p.1 o s) s
  | none => match waits with
    | [] => s
    | p :: _ => travPull p.1 (setTrav p.1 { p.2 with state := .table } s)

/-- Free a traverse's staging and its mirror copies (R348). -/
def travFree (v : Trav) (s : State) : State :=
  (List.range v.descs.length).foldl (fun s i =>
    if v.staged.any fun p => p.1 / 8192 == i then mirrorNote (fun m => .cleanNote m (.staging (v.stage + i))) s else s) s

/-- Resume admission of the namespaces a cross-owner stamp held (R164). -/
def travUnhold (v : Trav) (s : State) : State :=
  v.slots.foldl (fun s sl => modNs sl (fun n => { n with admHold := false }) s) s

/-- Abandon a traverse: its staging discarded, event 0x2602, its number free again (R161, R162, R169); the completion carries
the reason unless the status given replaces it. -/
def travAbandon (t reason : Nat) (status : Option (Nat × Nat × Option Bool)) (s : State) : State :=
  match travAt s t with
  | none => s
  | some v =>
    let s := travUnhold v (travFree v { s with trav := { s.trav with open_ := tdel s.trav.open_ t } })
    let s := { s with store := { s.store with jobs := s.store.jobs.filter fun p => p.2.kind != .condition t } }
    let s := raise 0x2602 (leBytes 2 v.host ++ leBytes 8 v.travId ++ [reason]) (bump Reg.TRAV_ABANDONED s)
    let s := if v.orphan then { s with nvm := { s.nvm with ctxs := tdel s.nvm.ctxs v.ctx } }
      else match status with
        | some (sct, sc, dnr) => finish v.ctx sct sc dnr 0 0 s
        | none => finish v.ctx 7 0x86 (some false) reason 0 s
    travWake v.host v.travId (pinReaders s)

/-- The traverses that may be abandoned: in STAGING (R162, R172), before any number is drawn. -/
def travStaging (s : State) : List Nat :=
  (s.trav.open_.filter fun p => p.2.remote == none && (p.2.state == .staging || p.2.state == .table || p.2.state == .waitDup)).map fun p => p.1

/-- Vault shortness begins or ends: traverses are refused and those in STAGING abandoned with reason 4; event 0x2603 (R172). -/
def travVault (s : State) : State :=
  let short := vaultShort s
  if short = s.trav.refusing then s
  else
    let s := raise 0x2603 [b2n short] { s with trav := { s.trav with refusing := short } }
    if short then (travStaging s).foldl (fun s t => travAbandon t 4 none s) s else s

/-- A capsule of opcode 0x81 is parsed at its coordinator (R157, R159, R169): checked, answered from the memory, made to wait
for a duplicate, or its table pulled. -/
def travAdmit (ctx host subsys travId ndesc len fuse : Nat) (s : State) : State :=
  let t := s.trav.nextId
  let v : Trav := { ctx := ctx, host := host, subsys := subsys, travId := travId, ndesc := ndesc, len := len }
  let room := decide (travOpen s < 65536)
  let s := setTrav t v { s with trav := { s.trav with nextId := t + 1 } }
  let opened (s : State) : State :=
    if travOpen s = 65536 then raise 0x2601 (leBytes 4 s.trav.refusedSince) { s with trav := { s.trav with refusedSince := 0 } } else s
  if !bitAt (cfg s Reg.TRAV_TRAV_CTL) 0 then travRefuse t 0 0x01 none 0 s
  else if fuse ≠ 0 ∨ travId = 0 ∨ 79 < ndesc ∨ len ≠ 64 * (ndesc + 1) then travRefuse t 0 0x02 none 0 s
  else if !room then
    travRefuse t 7 0x85 (some true) 4 { s with trav := { s.trav with refusedSince := s.trav.refusedSince + 1 } }
  else if s.trav.refusing then travRefuse t 7 0x86 (some false) 4 s
  else match outcomeOf s host travId with
    | some o => travAnswer t o s
    | none =>
      let dup := s.trav.open_.any fun p => p.1 != t && p.2.remote == none && p.2.host == host && p.2.travId == travId && p.2.state != .closed
      opened (if dup then setTrav t { v with state := .waitDup } s else travPull t s)

/-- Two write extents share a block (R159). -/
def extentsClash (ds : List TravDesc) : Bool :=
  match ds with
  | [] => false
  | d :: rest => (rest.any fun e => e.nsid == d.nsid && overlap [(d.lba, d.nlb)] [(e.lba, e.nlb)]) || extentsClash rest

/-- The checks of Table 4 on the pulled table, in its order: the status and dword 0 of the first that fails. -/
def travChecks (s : State) (v : Trav) (assocHost : Nat) : Option (Nat × Nat × Option Bool × Nat) :=
  let w := v.descs.filter fun d => d.kind == 1
  let c := v.descs.filter fun d => d.kind == 2
  let bad (d : TravDesc) : Bool := d.kind != 1 && d.kind != 2 || (d.kind == 2 && (decide (1 < d.op) ||
    (d.op == 0 && (d.len == 0 || decide (16 < d.len) || decide (4096 < d.offset + d.len)))))
  let ns (d : TravDesc) : Option Ns := (descSlot s v d).bind fun sl => nsAt s sl
  let attached (d : TravDesc) : Bool := match ns d with
    | none => false
    | some n => n.hosts.contains assocHost
  let beyond (d : TravDesc) : Bool := match ns d with
    | none => false
    | some n => decide (n.nsze < d.lba + d.nlb)
  let nsids := (v.descs.map fun d => d.nsid).eraseDups
  let blocks := w.foldl (fun a d => a + d.nlb) 0
  let foreign := nsids.any fun i => match (s.nvm.nss.find? fun p => p.2.subsys == v.subsys && p.2.nsid == i) with
    | none => false
    | some p => !ownsNs s p.2
  let plain := w.any fun d => match ns d with
    | none => false
    | some n => n.stakeMode && !d.staked
  if v.descs.length ≠ v.ndesc + 1 ∨ v.descs.any bad ∨ w = [] ∨ extentsClash w then some (0, 0x02, none, 0)
  else if v.descs.any beyond then some (0, 0x80, none, 0)
  else if v.descs.any fun d => !attached d then some (0, 0x0B, none, 0)
  else if 64 < w.length then some (7, 0x85, some true, 1)
  else if 16 < c.length then some (7, 0x85, some true, 5)
  else if 8 < nsids.length then some (7, 0x85, some true, 2)
  else if 8192 < blocks then some (7, 0x85, some true, 3)
  else if foreign ∧ !bitAt (cfg s Reg.TRAV_TRAV_CTL) 1 then some (7, 0x85, some true, 6)
  else if plain then some (7, 0x81, some true, 0)
  else if s.trav.refusing then some (7, 0x86, some false, 4)
  else none

/-- A block of an extent is staged: invisible, mirrored under its staging handle, adding nothing to P and Q (R162). `key` is
descriptor index × 8192 + block offset. -/
def stageBlock (t key data : Nat) (s : State) : State :=
  match travAt s t with
  | none => s
  | some v =>
    if v.state ≠ .staging then s
    else match v.descs[key / 8192]? with
      | none => s
      | some d => match descSlot s v d with
        | none => s
        | some sl =>
          if d.kind ≠ 1 ∨ d.nlb ≤ key % 8192 then s
          else
            let s := setTrav t { v with staged := tset v.staged key data } s
            if !mirrors s then s
            else
              let lba := d.lba + key % 8192
              let (m, s) := mseqSend (fun m => .mirrorPut m sl lba 0 (v.stage + key / 8192)
                (mkBlk sl lba data (if d.staked then d.stake else 0) v.travId d.zeroes)) s
              if !inPair s then s
              else { s with trav := { s.trav with open_ := tmod s.trav.open_ t fun v => { v with mseqs := v.mseqs ++ [m] } } }

/-- The blocks a traverse must stage. -/
def travKeys (v : Trav) : List Nat :=
  (List.range v.descs.length).flatMap fun i => match v.descs[i]? with
    | none => []
    | some d => if d.kind = 1 then (List.range d.nlb).map fun o => i * 8192 + o else []

/-- Pull the extents, or defer them at the dirty limit (R74, R162); extents of zeros are staged at once. -/
def travPullData (t : Nat) (s : State) : State :=
  match travAt s t with
  | none => s
  | some v =>
    let keys := (travKeys v).filter fun k => !thas v.staged k
    if limitBlocks s < promised s v.ctx + keys.length then
      if v.deferred then s
      else raise 0x2201 (leBytes 4 (dirtyBlocks s / 256)) (bump Reg.CACHE_LIMIT_WAITS (setTrav t { v with deferred := true } s))
    else
      let s := setTrav t { v with deferred := false } s
      let z := keys.filter fun k => (v.descs[k / 8192]?).elim false fun d => d.zeroes
      let s := z.foldl (fun s k => stageBlock t k 0 s) s
      match ctxAt s v.ctx with
      | none => s
      | some c => if c.fwdTag.isSome then s else pullHost v.ctx c.q c.cid (keys.filter fun k => !z.contains k) s

/-- Traverses deferred at the dirty limit resume in admission order as room appears (R74). -/
def travResume (s : State) : State :=
  (s.trav.open_.filter fun p => p.2.deferred).foldl (fun s p => travPullData p.1 s) s

/-- The dirty limit and what follows it, evaluated whenever members, the datum, the pair state or the rate change (R73, R172). -/
def limitEval (s : State) : State := travResume (resumeDeferred (travVault (setLimit s)))

/-- The blocks whose content or stamp a traverse's judgement needs: condition blocks and the blocks of staked extents, of the
namespaces owned here (R162). -/
def travLooks (s : State) (v : Trav) : List (Nat × Nat) :=
  v.descs.flatMap fun d => match descSlot s v d with
    | none => []
    | some sl =>
      if !((nsAt s sl).elim false fun n => ownsNs s n) then []
      else if d.kind = 2 then [(sl, d.lba)]
      else if d.staked then (List.range d.nlb).map fun i => (sl, d.lba + i) else []

/-- The table has been pulled (R159): refused, answered, or STAGING begins (R162). -/
def travTable (t : Nat) (descs : List TravDesc) (s : State) : State :=
  match travAt s t with
  | none => s
  | some v =>
    if v.state ≠ .table then s
    else
      let v := { v with descs := descs, slots := (descs.filterMap fun d => descSlot s v d).eraseDups }
      match travChecks s v v.host with
      | some (sct, sc, dnr, dw0) => travRefuse t sct sc dnr dw0 s
      | none =>
        let st := s.trav.nextStage
        let s := setTrav t { v with state := .staging, stage := st }
          { s with trav := { s.trav with nextStage := st + descs.length } }
        let s := travPullData t s
        let need := (travLooks s v).eraseDups.filter fun b => sourceOf s b.1 b.2 == .member
        (need.map fun b => b.1).eraseDups.foldl (fun s sl =>
          readBlocks (.condition t) sl ((need.filter fun b => b.1 == sl).map fun b => b.2) s) s

/-- A block as a condition sees it: never written reads as zeros with stamp 0; none for a lost block, which fails (R158). -/
def condBlk (s : State) (v : Trav) (sl lba : Nat) : Option Blk :=
  if lost s sl lba then none
  else match visCell s sl lba with
    | some c => some c.blk
    | none => match tget s.store.ext (blkKey sl lba) with
      | some e => some e.blk
      | none => match tget v.conds (blkKey sl lba) with
        | some b => some b
        | none => some {}

/-- Whether a condition holds (R158, Table 3). -/
def condHolds (s : State) (v : Trav) (d : TravDesc) : Bool :=
  match descSlot s v d with
  | none => false
  | some sl => match condBlk s v sl d.lba with
    | none => false
    | some b =>
      if d.op = 1 then decide (b.wstamp ≤ d.value % 2 ^ 64)
      else
        let m := d.mask % 2 ^ (8 * d.len)
        (b.data / 2 ^ (8 * d.offset)) &&& m == d.value &&& m

/-- The first index of a list that satisfies a test. -/
def firstFail (ds : List TravDesc) (p : TravDesc → Bool) : Option Nat :=
  firstIdx ds.length fun i => (ds[i]?).elim false p

/-- The namespaces a traverse writes, as its record lists them, and then those that only its conditions name (R168). -/
def travOrder (s : State) (v : Trav) : List Nat :=
  (v.slots.filter fun sl => travRanges s v sl != []) ++ v.slots.filter fun sl => travRanges s v sl == []

/-- The judgement of R165 on what this controller owns: reservations, window ranges, conditions, stakes, in that order; none
when all pass, else outcome, index and offset. -/
def travJudge (s : State) (v : Trav) : Option (Nat × Nat × Nat) :=
  let own (sl : Nat) : Bool := (nsAt s sl).elim false fun n => ownsNs s n
  let ownD (d : TravDesc) : Bool := (descSlot s v d).elim false own
  let order := travOrder s v
  let resv := firstIdx order.length fun i => match order[i]? with
    | none => false
    | some sl => match nsAt s sl with
      | none => false
      | some n => own sl && resvRefuses n.resv v.host ((travRanges s v sl) != [])
  let bound := firstFail v.descs fun d => d.kind == 1 && ownD d && (match descSlot s v d with
    | none => false
    | some sl => boundRange s sl (tgetD v.nums sl 0) [(d.lba, d.nlb)])
  let cond := firstFail v.descs fun d => d.kind == 2 && ownD d && !condHolds s v d
  let staleAt (d : TravDesc) : Option Nat := match descSlot s v d with
    | none => none
    | some sl => firstIdx d.nlb fun i => match condBlk s v sl (d.lba + i) with
      | none => false
      | some b => decide (d.stake < b.wstamp)
  let stale := firstFail v.descs fun d => d.kind == 1 && d.staked && ownD d && (staleAt d).isSome
  match resv, bound, cond, stale with
  | some i, _, _, _ => some (3, i, 0)
  | none, some i, _, _ => some (4, i, 0)
  | none, none, some i, _ => some (1, i, 0)
  | none, none, none, some i => some (2, i, ((v.descs[i]?).bind staleAt).getD 0)
  | none, none, none, none => none

/-- Whether a stamped traverse's turn has come: earlier overlapping writers settled, earlier readers of its extents pinned
(R165). -/
def travTurn (s : State) (v : Trav) : Bool :=
  v.slots.all fun sl =>
    let n := tgetD v.nums sl 0
    let all := v.descs.filterMap fun d => if descSlot s v d = some sl then some (d.lba, if d.kind = 1 then d.nlb else 1) else none
    !(((nsAt s sl).elim false fun x => ownsNs s x)) || (!writerBefore s sl n all && !readerBefore s sl n (travRanges s v sl))

/-- A traverse ends FAILED: its outcome is recorded and mirrored before the completion (R165, R169). -/
def travFail (t outcome index offset : Nat) (s : State) : State :=
  match travAt s t with
  | none => s
  | some v =>
    let o : Outcome := { travId := v.travId, host := v.host, outcome := outcome, index := index, offset := offset, time := s.time }
    let s := travFree v (outcomePut o { s with trav := { s.trav with open_ := tdel s.trav.open_ t } })
    let s := if outcome = 2 then
        match (v.descs[index]?).bind (descSlot s v) with
        | none => s
        | some sl => bumpAt Reg.NSMGR_NS_STAKE_REFUSED sl 1 s
      else s
    let s := bump Reg.TRAV_FAILED s
    let (sct, sc, dnr, dw0) := outcomeStatus o
    let s := if mirrors s then
        let (m, s) := mseqSend (fun m => .statePut m (.outcome o)) s
        modCtx v.ctx (fun c => { c with state := .failed, err := some (sct, sc, dnr, dw0), cleanMseq := if inPair s then some m else none }) s
      else modCtx v.ctx (fun c => { c with state := .failed, err := some (sct, sc, dnr, dw0), cleanMseq := none }) s
    travWake v.host v.travId (tryComplete v.ctx (pinReaders s))

/-- The extents of a traverse's CLOSURE record (R168). -/
def travExts (s : State) (v : Trav) : List XExt :=
  (List.range v.descs.length).filterMap fun i => match v.descs[i]? with
    | none => none
    | some d => if d.kind ≠ 1 then none else (descSlot s v d).map fun sl =>
        { slot := sl, slba := d.lba, nlb := d.nlb, zeroes := d.zeroes, stage := v.stage + i, stamp := if d.staked then d.stake else 0 }

/-- Every check passed: the CLOSURE record and the outcome entry are written here and to the partner (R166, R167). -/
def travClose (t : Nat) (s : State) : State :=
  match travAt s t with
  | none => s
  | some v =>
    let slots := (travOrder s v).filter fun sl => travRanges s v sl != []
    let rec_ : JBody := .closure v.travId v.host s.pwr.ctrlId (slots.map fun sl => (sl, tgetD v.nums sl 0)) (travExts s v)
    if !ringRoomFor rec_.places s then s
    else
      let o : Outcome := { travId := v.travId, host := v.host, outcome := 0, index := 0, offset := 0, time := s.time }
      let first := s.pair.mseqTx
      let (j, s) := journalAdd rec_ true s
      let s := mirrorNote (fun m => .statePut m (.outcome o)) (outcomePut o s)
      let ms := if inPair s then (List.range (s.pair.mseqTx - first)).map fun i => first + 1 + i else []
      setTrav t { v with state := .closing, jseq := j, mseqs := ms } s

/-- Land the staged blocks of an extent owned here (R166). -/
def travLand (v : Trav) (wt : Bool) (s : State) : Option State :=
  v.staged.foldl (fun (acc : Option State) p => match acc with
    | none => none
    | some s => match v.descs[p.1 / 8192]? with
      | none => some s
      | some d => match descSlot s v d with
        | none => some s
        | some sl =>
          let lba := d.lba + p.1 % 8192
          if !((nsAt s sl).elim false fun n => ownsNs s n) then
            some { s with store := { s.store with mirror := s.store.mirror ++ [{
              slot := sl, lba := lba, adm := tgetD v.nums sl 0, stage := 0,
              blk := mkBlk sl lba p.2 (if d.staked then d.stake else 0) v.travId d.zeroes, mseq := 0 }] } }
          else landBlock sl lba (tgetD v.nums sl 0) wt (mkBlk sl lba p.2 (if d.staked then d.stake else 0) v.travId d.zeroes) s) (some s)

/-- The stripes a traverse wrote. -/
def travStripes (s : State) (v : Trav) : List Nat :=
  (v.staged.filterMap fun p => (v.descs[p.1 / 8192]?).bind fun d => (descSlot s v d).map fun sl =>
    (cellOf s sl (d.lba + p.1 % 8192)).1).eraseDups

/-- A stripe still holds dirty or flushing data. -/
def stripeDirty (s : State) (k : Nat) : Bool :=
  thas s.store.succs k || (match tget s.store.frames k with
    | none => false
    | some f => f.st != .clean)

/-- CLOSED traverses whose stripes are all CLEAN are RETIRED, their CLOSURE records retired, and held completions sent (R144,
R161, R172); deferred ones resume where there is room (R74). -/
def travRetire (s : State) : State :=
  travResume <| (s.trav.open_.filter fun p => p.2.state == .closed).foldl (fun s p =>
    let left := p.2.stripes.filter (stripeDirty s)
    if left ≠ [] then setTrav p.1 { p.2 with stripes := left } s
    else
      let s := journalRetire p.2.jseq { s with trav := { s.trav with open_ := tdel s.trav.open_ p.1 } }
      if p.2.held then finish p.2.ctx 0 0 (some false) 0 0 s else s) s

/-- The commit point: every copy of the record is in place, the traverse takes effect in every namespace at once, its blocks
are linked, and it completes (R166, R172). -/
def travCommit (t : Nat) (s : State) : State :=
  match travAt s t with
  | none => s
  | some v =>
    if v.state ≠ .closing ∨ v.mseqs ≠ [] then s
    else
      let wt := writeThrough s
      match travLand v wt s with
      | none => s
      | some s =>
        let own := v.staged.filterMap fun p => (v.descs[p.1 / 8192]?).bind fun d => (descSlot s v d).bind fun sl =>
          if (nsAt s sl).elim false fun n => ownsNs s n then some (blkKey sl (d.lba + p.1 % 8192)) else none
        let wt := wt && own != []
        let s := setTrav t { v with state := .closed, staged := [], stripes := travStripes s v, held := wt, left := if wt then own else [] } s
        let s := bump Reg.TRAV_COMMITTED s
        let s := if wt then modCtx v.ctx (fun c => { c with state := .effective, wtLeft := [2 ^ 64] }) s
          else finish v.ctx 0 0 (some false) 0 0 s
        travRetire (travWake v.host v.travId (pressureCheck (pinReaders s)))

end Sys2Proof.Machine
end

