-- ==== Sys2Proof/Machine/WinOps.lean ====
section
/-!
DEFINITION. Machine/WinOps.lean: binding and unbinding windows, window pages and their write-back, memory keys and their
revocation, tally counters and chain waits (spec/08).
-/
namespace Sys2Proof.Machine

/-- Whether a slot is owned here. -/
def ownsSlot (s : State) (sl : Nat) : Bool := (nsAt s sl).elim false fun n => ownsNs s n

/-- A window. -/
def winAt (s : State) (w : Nat) : Window := tgetD s.win.windows w {}

/-- Replace a window; its partner copy follows (R224, R348). -/
def setWin (w : Nat) (x : Window) (s : State) : State :=
  mirrorNote (fun m => .statePut m (.window w x)) { s with win := { s.win with windows := tput {} s.win.windows w x } }

/-- Move a window to a state: event 0x1A01 (R208). -/
def winState (w st : Nat) (s : State) : State :=
  raise 0x1A01 (leBytes 2 w ++ [st]) (setWin w { winAt s w with state := st } s)

/-- A key. -/
def keyAt (s : State) (k : Nat) : Key := tgetD s.win.keys k {}

/-- Replace a key; its partner copy follows. -/
def setKeyEnt (k : Nat) (x : Key) (s : State) : State :=
  mirrorNote (fun m => .statePut m (.key k x)) { s with win := { s.win with keys := tput {} s.win.keys k x } }

/-- The pages of the resident pool (R209). -/
def poolPages (s : State) : Nat := min 16384 (cfg s Reg.WIN_POOL_MIB / 2)

/-- The key of a window page. -/
def pageKey (w p : Nat) : Nat := w * 2 ^ 24 + p

/-- The blocks of a window page, as namespace blocks. -/
def pageBlocks (x : Window) (p : Nat) : List Nat := (List.range 512).map fun i => x.slba + p * 512 + i

/-- A page holds a dirty block. -/
def pageDirty (s : State) (w p : Nat) : Bool :=
  let x := winAt s w
  (pageBlocks x p).any fun l => (tget s.store.resident (blkKey x.slot l)).elim false fun b => b.dirty

/-- A window page is resident. -/
def pageResident (s : State) (w p : Nat) : Bool := (tget s.win.pages (pageKey w p)).elim false fun g => g.resident

/-- Drop a page's blocks: it is ABSENT again (R209). -/
def pageDrop (w p : Nat) (s : State) : State :=
  let x := winAt s w
  { s with
    win := { s.win with pages := tdel s.win.pages (pageKey w p) }
    store := { s.store with resident := (pageBlocks x p).foldl (fun t l => tdel t (blkKey x.slot l)) s.store.resident } }

/-- Draw the next admission number of a namespace (R41): the LEASE is raised ahead of need and its limit never passed while the
partner serves (R346); none while it must wait. -/
def stamp (slot : Nat) (s : State) : Option Nat × State :=
  match nsAt s slot with
  | none => (none, s)
  | some n =>
    let a := n.adm + 1
    let s := if inPair s ∧ n.lease - a < 2 ^ 19 ∧ n.leaseAsked ≤ n.lease then
        let lim := n.lease + 2 ^ 20
        let (m, s) := mseqSend (fun m => .lease m slot lim) s
        modNs slot (fun n => { n with leaseAsked := lim, leaseMseq := m }) s
      else s
    if inPair s ∧ n.lease < a then (none, s) else (some a, modNs slot (fun n => { n with adm := a }) s)

/-- Write one dirty window block back: an internal writer draws a number and places the block in the write area with stamp
and traverse ID 0; the block is then clean (R211). A block still poisoned stays in the loss map: what was placed in part of it is
dropped, which no read can show (R209). -/
def writeBack (slot lba : Nat) (s : State) : State :=
  match tget s.store.resident (blkKey slot lba) with
  | none => s
  | some b =>
    if !b.dirty then s
    else if b.poisoned then { s with store := { s.store with resident := tset s.store.resident (blkKey slot lba) { b with dirty := false } } }
    else match stamp slot s with
      | (none, s) => s
      | (some a, s) =>
        match landBlock slot lba a (writeThrough s) (mkBlk slot lba b.data 0 0 false) s with
        | none => s
        | some s => { s with store := { s.store with resident := tset s.store.resident (blkKey slot lba) { b with dirty := false } } }

/-- Write a page's dirty blocks back. -/
def writeBackPage (w p : Nat) (s : State) : State :=
  let x := winAt s w
  (pageBlocks x p).foldl (fun s l => writeBack x.slot l s) s

/-- The page of a window that holds an unpinned resident page used least recently, among those that satisfy a test (R210). -/
def lruPage (s : State) (ok : Nat → Nat → Bool) : Option (Nat × Nat) :=
  let best := s.win.pages.foldl (fun (b : Option (Nat × Page)) p =>
    let w := p.1 / 2 ^ 24
    let g := p.1 % 2 ^ 24
    if p.2.resident ∧ !(winAt s w).pin ∧ ok w g then
      match b with
      | none => some p
      | some o => if p.2.used < o.2.used then some p else b
    else b) none
  best.map fun p => (p.1 / 2 ^ 24, p.1 % 2 ^ 24)

/-- Find the page a fault takes: a free one, else the least recently used clean unpinned one, which is evicted; else a
write-back is started and the fault waits (R210, event 0x1A02). -/
def takePage (w p : Nat) (s : State) : Bool × State :=
  if s.win.pages.length < poolPages s then (true, s)
  else match lruPage s fun w p => !pageDirty s w p with
    | some (w', p') =>
      let s := bump Reg.WIN_EVICTIONS (pageDrop w' p' s)
      (decide (s.win.pages.length < poolPages s), s)
    | none =>
      let s := if s.win.poolFull then s
        else raise 0x1A02 (leBytes 2 w ++ leBytes 4 p) { s with win := { s.win with poolFull := true } }
      match lruPage s fun _ _ => true with
      | none => (false, s)
      | some (w', p') =>
        let s := writeBackPage w' p' s
        if pageDirty s w' p' then (false, s)
        else
          let s := bump Reg.WIN_EVICTIONS (pageDrop w' p' { s with win := { s.win with poolFull := false } })
          (decide (s.win.pages.length < poolPages s), s)

/-- Fault a page in (R209): blocks held here are copied, lost ones poisoned (event 0x1A04), the rest read from the members. -/
def faultPage (w p : Nat) (s : State) : State :=
  if thas s.win.pages (pageKey w p) then s
  else match takePage w p s with
    | (false, s) => s
    | (true, s) =>
      let x := winAt s w
      let ls := pageBlocks x p
      let src := ls.map fun l => (l, sourceOf s x.slot l)
      let need := (src.filter fun q => q.2 == .member).map fun q => q.1
      let s := src.foldl (fun s q => match q.2 with
        | .bytes d => { s with store := { s.store with resident := tset s.store.resident (blkKey x.slot q.1) { data := d } } }
        | .lost =>
          raise 0x1A04 (leBytes 2 w ++ leBytes 8 ((q.1 - x.slba) * 4096))
            { s with store := { s.store with resident := tset s.store.resident (blkKey x.slot q.1) { data := 0, poisoned := true } } }
        | .member => s) s
      let s := { s with win := { s.win with
        lru := s.win.lru + 1
        pages := tset s.win.pages (pageKey w p) { used := s.win.lru, missing := need, startAt := s.time } } }
      readBlocks (.page w p) x.slot need s

/-- End every chain wait on a window that satisfies a test (R223): its ring goes on. -/
def chainEnd (p : ChainWait → Bool) (sct sc : Nat) (s : State) : State :=
  (s.win.chains.filter fun c => p c.2).foldl (fun s c =>
    let ctr := tgetD (winAt s c.2.win).ctrs c.2.ctr 0
    ringDone c.1 c.2.cid sct sc (some false) ctr 0 { s with win := { s.win with chains := tdel s.win.chains c.1 } }) s

/-- A tally counter satisfies a target (R223): (c − t) mod 2^64 < 2^63. -/
def tallyMet (c t : Nat) : Bool := decide ((c + (2 ^ 64 - t % 2 ^ 64)) % 2 ^ 64 < 2 ^ 63)

/-- Chain waits here follow a window changed at the other controller: satisfied by its counters, or aborted when it is BOUND no more (R223). -/
def chainCheck (w : Nat) (s : State) : State :=
  let x := winAt s w
  if x.state ≠ 2 then chainEnd (fun c => c.win == w) 7 0xA1 s
  else chainEnd (fun c => c.win == w && tallyMet (tgetD x.ctrs c.ctr 0) c.target) 0 0 s

/-- Raise a tally counter; the chain waits it satisfies end (R222, R223). -/
def tallyRaise (w ctr inc : Nat) (s : State) : State :=
  let x := winAt s w
  let v := (tgetD x.ctrs ctr 0 + inc) % 2 ^ 64
  let s := bump Reg.WIN_TALLY_RAISES (setWin w { x with ctrs := tput 0 x.ctrs ctr v } s)
  chainEnd (fun c => c.win == w && c.ctr == ctr && tallyMet v c.target) 0 0 s

/-- Bind checks in the order of Table 3: the reason of the first that fails (R206). -/
def bindReason (s : State) (slot : Option Nat) (n : Option Ns) (w : Option Nat) (slba size : Nat) (pin : Bool) : Option Nat :=
  match w, slot, n with
  | none, _, _ => some 1
  | some _, some slot, some n =>
    if slba % 512 ≠ 0 ∨ size = 0 ∨ 8388608 < size ∨ n.nsze < slba + size * 512 then some 3
    else if s.win.windows.any fun x => x.2.state != 0 && x.2.slot == slot && overlap [(slba, size * 512)] [(x.2.slba, x.2.pages * 512)] then some 4
    else if pin ∧ poolPages s < s.pinnedPages + size + 128 then some 5
    else if cfg s Reg.WIN_POOL_MIB = 0 ∨ !bitAt (cfg s Reg.WIN_WIN_CTL) 0 then some 8
    else if n.witness ∨ n.reshaping ∨ n.state ≠ 2 then some 9
    else none
  | some _, _, _ => some 9

/-- Answer a context of a window command refused (R206). -/
def winRefuse (id reason : Nat) (s : State) : State := finish id 7 0x88 (some true) reason 0 s

/-- The window a BIND takes: the one named if UNBOUND, or the lowest UNBOUND one. -/
def bindWindow (s : State) (want : Nat) : Option Nat :=
  if want = 0xFFFF then firstIdx 4096 fun w => (winAt s w).state == 0
  else if (winAt s want).state = 0 then some want else none

/-- BIND is admitted (R205 to R208): the window enters BINDING; pinned pages are faulted in. -/
def bindAdmit (id slot policy : Nat) (pin : Bool) (want stall slba size : Nat) (s : State) : State :=
  if 4096 ≤ want ∧ want ≠ 0xFFFF then finish id 0 0x02 none 0 0 s
  else if policy = 3 ∨ 1000 < stall then finish id 0 0x02 none 0 0 s
  else
    let w := bindWindow s want
    match bindReason s (some slot) (nsAt s slot) w slba size pin, w with
    | some r, _ => winRefuse id r s
    | none, none => winRefuse id 1 s
    | none, some w =>
      let adm := (ctxAt s id).elim 0 fun c => c.adm
      let x : Window := { state := 1, policy := policy, pin := pin, slot := slot, slba := slba, pages := size, adm := adm,
                          stall := if stall = 0 then cfg s Reg.WIN_STALL_US_DFLT / 10 else stall }
      let s := raise 0x1A01 (leBytes 2 w ++ [1]) (setWin w x { s with win := { s.win with binds := tset s.win.binds w id } })
      if pin then (List.range size).foldl (fun s p => faultPage w p s) s else s

/-- A BIND whose earlier writers have settled, and whose pinned pages are resident, makes its window BOUND and completes once both
controllers have recorded it (R206 to R208). -/
def bindComplete (w : Nat) (s : State) : State :=
  match tget s.win.binds w with
  | none => s
  | some id => match ctxAt s id with
    | none => s
    | some c =>
      let x := winAt s w
      if x.state ≠ 1 ∨ writerBefore s c.slot c.adm c.ranges ∨ (x.pin ∧ !(List.range x.pages).all fun p => pageResident s w p) then s
      else
        let s := modCtx id (fun c => { c with state := .bindWait }) { s with win := { s.win with binds := tdel s.win.binds w } }
        let x := { x with state := 2 }
        pinReaders (requestRecord (.bind w x) (.ctx id w 0)
          (fun s => raise 0x1A01 (leBytes 2 w ++ [2]) (setWin w x s)) (fun s => finish id 0 0 (some false) w 0 s) s)

/-- Begin the revocation of a VALID key: both controllers enter it at the fence point (R220). -/
def revokeStart (k : Nat) (r : Revoke) (s : State) : State :=
  let x := keyAt s k
  if x.state ≠ 1 then s
  else
    let s := { s with win := { s.win with revokes := tset s.win.revokes k r } }
    requestRecord (.keyRevoke k) (.keyFence k)
      (fun s => setKeyEnt k { keyAt s k with state := 2, tRevoke := s.time } s)
      (fun s => { s with win := { s.win with revokes := tmod s.win.revokes k fun r => { r with fenceAt := s.time } } }) s

/-- A key is FREE, its tag kept; where its revoke was run from here, event 0x1901 and the longest time (R217, R220). -/
def keyFreed (k : Nat) (s : State) : State :=
  let free (s : State) : State := { s with win := { s.win with
    keys := tput {} s.win.keys k { state := 0, tag := (keyAt s k).tag }, revokes := tdel s.win.revokes k } }
  match tget s.win.revokes k with
  | none => free s
  | some r =>
    let us := (s.time - r.fenceAt) / 1000
    raise 0x1901 (leBytes 3 k ++ [if r.byHost then 0 else 1]) (free (wr Reg.KEYS_REVOKE_MAX_US (max (rd s Reg.KEYS_REVOKE_MAX_US) us) s))

/-- A key in REVOKING becomes FREE on both controllers, and the KEY_REVOKE that asked completes (R206, R220). -/
def revokeEnd (k discarded : Nat) (s : State) : State :=
  if (keyAt s k).state ≠ 2 ∨ s.pair.records.any (fun r => r.2.what == .keyFree k) then s
  else
    let r := tgetD s.win.revokes k { byHost := false, fenceAt := (keyAt s k).tRevoke }
    let s := { s with win := { s.win with revokes := tset s.win.revokes k r } }
    requestRecord (.keyFree k) (if r.byHost then .ctx r.cid 0 discarded else .nothing) (keyFreed k)
      (fun s => if r.byHost then finish r.cid 0 0 (some false) 0 discarded s else s) s

/-- What UNBINDING does at a controller: chain waits are aborted, and at the owner every key of the window is revoked and every dirty block
written back (R207, R211, R220, R223). -/
def unbindBegin (w : Nat) (s : State) : State :=
  let s := chainEnd (fun c => c.win == w) 7 0xA1 s
  let x := winAt s w
  if !((nsAt s x.slot).elim true fun n => ownsNs s n) then s
  else
    let s := if thas s.win.unbinds w then s else { s with win := { s.win with unbinds := tset s.win.unbinds w none } }
    let s := (s.win.keys.filter fun k => k.2.state == 1 && k.2.win == w).foldl (fun s k => revokeStart k.1 { byHost := false } s) s
    (List.range x.pages).foldl (fun s p => if thas s.win.pages (pageKey w p) then writeBackPage w p s else s) s

/-- UNBIND is admitted, or `WIN_CMD` orders it: UNBINDING (R207, R208). -/
def unbindStart (w : Nat) (ctx : Option Nat) (s : State) : State :=
  let s := match ctx with
    | none => s
    | some _ => { s with win := { s.win with unbinds := tset s.win.unbinds w ctx } }
  unbindBegin w (requestRecord (.unbind w) .nothing (fun s => winState w 3 s) id s)

/-- The windows of a namespace that is deleted end with it, their keys FREE (assumption 73). -/
def windowsEnd (slot : Nat) (s : State) : State :=
  (s.win.windows.filter fun x => x.2.state != 0 && x.2.slot == slot).foldl (fun s x =>
    let w := x.1
    let s := chainEnd (fun c => c.win == w) 7 0xA1 s
    let s := { s with win := { s.win with
      windows := tput {} s.win.windows w {}
      keys := tmap s.win.keys fun _ k => if k.state ≠ 0 ∧ k.win = w then { state := 0, tag := k.tag } else k
      pages := tfilter s.win.pages fun k _ => k / 2 ^ 24 != w
      stalled := s.win.stalled.filter fun a => a.win != w
      binds := tdel s.win.binds w, unbinds := tdel s.win.unbinds w } }
    raise 0x1A01 (leBytes 2 w ++ [0]) s) s

/-- Every key is VALID or REVOKING: event 0x1903 with the refusals since the last (R225). -/
def keysFull (s : State) : State :=
  if tcount s.win.keys (fun _ k => k.state != 0) < 1048576 then s
  else raise 0x1903 (leBytes 4 s.win.keyRefused) { s with win := { s.win with keyRefused := 0 } }

/-- UNBIND completes once every key of the window is FREE and no block of it is dirty (R207). -/
def unbindComplete (w : Nat) (s : State) : State :=
  match tget s.win.unbinds w with
  | none => s
  | some ctx =>
    let x := winAt s w
    let keys := s.win.keys.any fun k => k.2.state != 0 && k.2.win == w
    let dirty := (s.win.pages.filter fun g => g.1 / 2 ^ 24 == w).any fun g => pageDirty s w (g.1 % 2 ^ 24)
    let early : Bool := match ctx with
      | none => false
      | some id => match ctxAt s id with
        | none => false
        | some c => writerBefore s c.slot c.adm c.ranges
    if x.state ≠ 3 ∨ keys ∨ dirty ∨ early then s
    else
      let s := (s.win.pages.filter fun g => g.1 / 2 ^ 24 == w).foldl (fun s g => pageDrop w (g.1 % 2 ^ 24) s) s
      let s := { s with win := { s.win with unbinds := tdel s.win.unbinds w } }
      requestRecord (.unbound w) (match ctx with
          | some id => .ctx id 0 0
          | none => .nothing)
        (fun s => raise 0x1A01 (leBytes 2 w ++ [0]) (setWin w {} s))
        (fun s => match ctx with
          | some id => pinReaders (finish id 0 0 (some false) 0 0 s)
          | none => s) s

/-- KEY_CREATE (R206, R217): the lowest FREE index takes its next tag; completes once both controllers have recorded it. -/
def keyCreateAdmit (id host rights : Nat) (hostOnly : Bool) (w off len : Nat) (s : State) : State :=
  if 4096 ≤ w then finish id 0 0x02 none 0 0 s
  else
    let x := winAt s w
    let asked (k : Nat) : Bool := s.pair.records.any fun r => match r.2.what with
      | .keyCreate i _ => i == k
      | _ => false
    match firstIdx 1048576 fun k => (keyAt s k).state == 0 && !asked k with
    | none => winRefuse id 2 { s with win := { s.win with keyRefused := s.win.keyRefused + 1 } }
    | some k =>
      if x.state ≠ 2 then winRefuse id 6 s
      else if rights % 16 = 0 ∨ len = 0 ∨ x.pages * 2097152 < off + len then winRefuse id 10 s
      else if !bitAt (cfg s Reg.KEYS_KEYS_CTL) 0 then winRefuse id 11 s
      else
        let tag := (keyAt s k).tag % 4095 + 1
        let y : Key := { state := 1, rights := rights % 16, hostOnly := hostOnly, tag := tag, win := w, host := host,
                         offset := off, length := len, tCreate := s.time }
        let rkey := k * 4096 + tag
        let s := modCtx id (fun c => { c with state := .bindWait }) s
        requestRecord (.keyCreate k y) (.ctx id rkey 0) (fun s => keysFull (setKeyEnt k { y with tCreate := s.time } s))
          (fun s => finish id 0 0 (some false) rkey 0 s) s

/-- KEY_REVOKE (R206, R220). -/
def keyRevokeAdmit (id subsys rkey : Nat) (s : State) : State :=
  let k := rkey / 4096 % 1048576
  let x := keyAt s k
  let inSub := (nsAt s (winAt s x.win).slot).elim false fun n => n.subsys == subsys
  if x.state ≠ 1 ∨ x.tag ≠ rkey % 4096 ∨ !inSub then winRefuse id 7 s
  else if (winAt s x.win).state ≠ 2 then winRefuse id 6 s
  else revokeStart k { byHost := true, cid := id } (modCtx id (fun c => { c with state := .bindWait }) s)

/-- UNBIND as a command (R206, R207). -/
def unbindAdmit (id w : Nat) (s : State) : State :=
  if 4096 ≤ w then finish id 0 0x02 none 0 0 s
  else if (winAt s w).state ≠ 2 then winRefuse id 6 s
  else unbindStart w (some id) s

end Sys2Proof.Machine
end

