-- ==== Sys2Proof/Machine/AdmitOps.lean ====
section
/-!
DEFINITION. Machine/AdmitOps.lean: hosts, associations and queues (R30 to R32), the bounds on work in flight (R56 to R58), and
the admission of a capsule: lookup, forwarding, stamping, checks (R41 to R43, R52 to R55, R59, R157, R205). A queue is numbered
CNTLID × 256 + queue identifier; queue identifier 0 is the admin queue.
-/
namespace Sys2Proof.Machine

/-- The NQN of a subsystem or host record, as a number (spec/15, Table 2). -/
def recNqn (r : List Nat) : Nat := fieldLE r 4 256

/-- The host index of a host NQN: the datum's, else one given while the host is connected. -/
def hostIdx (s : State) (nqn : Nat) : Option Nat :=
  match s.datum.active.hosts.find? fun p => recNqn p.2 == nqn with
  | some p => some p.1
  | none => (s.nvm.hostNqns.find? fun p => p.2 == nqn).map fun p => p.1

/-- A host index no record and no connected host has. -/
def hostFree (s : State) : Option Nat :=
  firstIdx 4096 fun i => !thas s.datum.active.hosts i && !thas s.nvm.hostNqns i

/-- An association, by CNTLID. -/
def assocAt (s : State) (c : Nat) : Option Assoc := tget s.nvm.assocs c

/-- The distinct hosts connected. -/
def hostsIn (s : State) : List Nat := (s.nvm.assocs.map fun a => a.2.host).eraseDups

/-- The CNTLID of the association a queue or ring belongs to. -/
def queueCntlid (s : State) (q : Nat) : Option Nat :=
  if 2 ^ 40 ≤ q then none
  else if 2 ^ 32 ≤ q then (fnAt s (ringAt s (q - 2 ^ 32)).fn).cntlid
  else some (q / 256)

/-- The association a queue or ring belongs to. -/
def queueAssoc (s : State) (q : Nat) : Option Assoc := (queueCntlid s q).bind (assocAt s)

/-- General contexts in use (R56). -/
def generalInUse (s : State) : Nat := tcount s.nvm.ctxs fun _ c => !c.reserved

/-- General contexts a host holds. -/
def hostInUse (s : State) (h : Nat) : Nat := tcount s.nvm.ctxs fun _ c => !c.reserved && c.host == h

/-- General contexts provided (Table 8). -/
def generalLimit : Nat := 1040384

/-- A host's quota (R58, R63). -/
def hostQuota (s : State) (h : Nat) : Nat :=
  let q := cfgAt s Reg.NVMF_HOST_QUOTA h
  if q = 0 then cfg s Reg.NVMF_HOST_QUOTA_DFLT else q

/-- Capsules held unparsed. -/
def heldCount (s : State) : Nat := s.nvm.queues.foldl (fun a q => a + q.2.held.length) 0

/-- Admission runs: `ADMIT_EN`, no accepted power failure, not stopped by a FATAL or a shutdown, not fenced (R56, R80, R353). -/
def admitRuns (s : State) : Bool :=
  bitAt (cfg s Reg.NVMF_NVMF_CTL) 3 && !s.vault.accepted && !s.pwr.admitStop && s.pair.state != 6

/-- The subsystem of a queue's association has a namespace with an NSID, ACTIVE and attached to its host. -/
def attachedSlot (s : State) (subsys host nsid : Nat) : Option Nat :=
  (s.nvm.nss.find? fun p => p.2.subsys == subsys && p.2.nsid == nsid && p.2.state == 2 && p.2.hosts.contains host).map fun p => p.1

/-- The ranges of a command and its role (R42, Table 4). -/
def opRanges : IoOp → List (Nat × Nat)
  | .read a n => [(a, n)]
  | .write a n => [(a, n)]
  | .zeroes a n => [(a, n)]
  | .stakeWrite a n _ => [(a, n)]
  | .dsm true rs => rs
  | .winBind _ _ _ _ _ a n => [(a, n * 512)]
  | _ => []

/-- A command acts as a writer over its ranges. -/
def opWriter : IoOp → Bool
  | .write .. => true
  | .zeroes .. => true
  | .stakeWrite .. => true
  | .dsm true _ => true
  | .winBind .. => true
  | .unbind _ => true
  | _ => false

/-- A writer that must carry a stake where stakes are required (R54). -/
def opPlain : IoOp → Bool
  | .write .. => true
  | .zeroes .. => true
  | .dsm true _ => true
  | _ => false

/-- A command draws an admission number when parsed (R42, R207); a traverse draws its own later, a key action none. -/
def opStamps : IoOp → Bool
  | .traverse .. => false
  | .keyCreate .. => false
  | .keyRevoke _ => false
  | .other _ => false
  | _ => true

/-- A command that names its namespace by the window it names. -/
def opWindow : IoOp → Option Nat
  | .keyCreate _ _ w _ _ => some w
  | .unbind w => some w
  | .keyRevoke _ => some 0
  | _ => none

/-- A command whose data would exceed `MDTS`, 512 blocks (R30). -/
def opTooBig : IoOp → Bool
  | .read _ n => decide (512 < n)
  | .write _ n => decide (512 < n)
  | .stakeWrite _ n _ => decide (512 < n)
  | _ => false

/-- Allocate a command context. -/
def newCtx (c : Ctx) (s : State) : Nat × State :=
  let id := s.nvm.nextCtx
  (id, { s with nvm := { s.nvm with nextCtx := id + 1, ctxs := tset s.nvm.ctxs id c } })

/-- While the pair is armed, the witness namespace's reservation is the pair's own (R352). -/
def armed (s : State) : Bool :=
  s.pairedNow && bitAt (cfg s Reg.PAIR_PAIR_CTL) 2 && s.nvm.nss.any fun p => p.2.witness && p.2.state == 2

/-- The reservation page: generation, type, then each registrant's host index, key and whether it holds. -/
def resvPage (r : Resv) : List (Nat × Nat) × List (List Nat) :=
  ([(0, r.gen), (1, if r.holder.isSome then r.rtype else 0)],
   r.keys.map fun k => [k.1, k.2, b2n (r.holder == some k.1 || (r.holder.isSome && (r.rtype == 5 || r.rtype == 6)))])

/-- A reservation command changes the reservation seen by later admissions: as a pair record in a pair (R42, R349). -/
def resvApply (id slot : Nat) (r : Option Resv) (s : State) : State :=
  match r with
  | none => finish id 0 0x83 none 0 0 s
  | some r =>
    let s := modNs slot (fun n => { n with resv := r }) (modCtx id (fun c => { c with state := .bindWait }) s)
    requestRecord (.resv slot r) (.ctx id 0 0) (fun s => s) (fun s => finish id 0 0 (some false) 0 0 s) s

/-- The key a controller of the pair registers on a member (R352). -/
def pairKey (s : State) (c : Nat) : Nat := s.pair.epoch * 256 + 0x10 + c

/-- ACTIVE members of the label (R353). -/
def activeMembers (s : State) : List Nat := (List.range 24).filter (bayActive s)

/-- Register this controller's key on a member, and at controller 0 take the reservation (R352): operations 1 Reservation Register, 2
Acquire with preempt, 3 Acquire. -/
def registerMember (b : Nat) (s : State) : State :=
  let s := issueOp b 1 (pairKey s s.pwr.ctrlId) s
  if isCtrl1 s then s else issueOp b 3 (pairKey s 0) s

/-- Register on every ACTIVE member while armed in PAIRED. -/
def registerAll (s : State) : State :=
  if s.pair.state = 3 ∧ armed s then (activeMembers s).foldl (fun s b => registerMember b s) s else s

/-- The controller that last won a preemption (R352): this one where it has won since its last reset, controller 0, which takes the
reservation first, where no partner was ever declared lost; else a value this controller's state does not tell (assumption 46). -/
def witnessHolder (s : State) : Nat × State :=
  if s.pair.arbWin then (s.pwr.ctrlId, s)
  else if s.pair.epoch = 0 then (0, s)
  else
    let (v, s) := drawFree s
    (v % 2, s)

/-- Reservation commands (R42, R43, R352). -/
def resvExec (id slot : Nat) (n : Ns) (host : Nat) (op : IoOp) (s : State) : State :=
  let shut : Bool := n.witness && armed s
  match op with
  | .resvReport =>
    let (h, s) := if shut then witnessHolder s else (0, s)
    let (f, r) := if shut then
        ([(0, n.resv.gen), (1, 5)], [[0, pairKey s 0, b2n (h == 0)], [1, pairKey s 1, b2n (h == 1)]])
      else resvPage n.resv
    let s := match ctxAt s id with
      | none => s
      | some c => if c.fwdTag.isSome then s else drive (.page c.q c.cid f r) s
    finish id 0 0 (some false) 0 0 s
  | .resvRegister a cur new ign => resvApply id slot (if shut then none else n.resv.register host a cur new ign) s
  | .resvAcquire a cur pre ty _ => resvApply id slot (if shut then none else n.resv.acquire host a cur pre ty) s
  | .resvRelease a cur ty _ =>
    if shut then resvApply id slot none s
    else match n.resv.release host a cur ty with
      | none => resvApply id slot none s
      | some none => finish id 0 0x02 none 0 0 s
      | some (some r) => resvApply id slot (some r) s
  | _ => s

/-- The blocks of a stake-conditioned write whose stamps must be read from the members (R55). -/
def stampNeeds (s : State) (slot : Nat) (rs : List (Nat × Nat)) : List Nat :=
  (rangeBlocks rs).filter fun l => (stampOf s slot l).isNone

/-- Carry out a command that has its context, its number and its namespace: the checks of admission, then the start of its work
(R42, R43, R45, R52 to R55). -/
def startOp (id slot : Nat) (n : Ns) (host : Nat) (op : IoOp) (s : State) : State :=
  let rs := opRanges op
  let adm := (ctxAt s id).elim 0 fun c => c.adm
  let isIo : Bool := match op with
    | .winBind .. => false
    | .unbind _ => false
    | _ => true
  if isIo ∧ rs.any (fun r => decide (n.nsze < r.1 + r.2)) then finish id 0 0x80 none 0 0 s
  else if opTooBig op then finish id 0 0x02 none 0 0 s
  else if isIo && (opWriter op && resvRefuses n.resv host true || (match op with
      | .read .. => resvRefuses n.resv host false
      | _ => false)) then finish id 0 0x83 none 0 0 s
  else if opPlain op ∧ n.stakeMode then
    finish id 7 0x81 (some true) 0 0 (bumpAt Reg.NSMGR_NS_STAKE_REFUSED slot 1 s)
  else match op with
    | .read .. => if writerBefore s slot adm rs then s else pinReader id s
    | .write .. => pullData id s
    | .zeroes .. => pullData id s
    | .stakeWrite .. =>
      let need := stampNeeds s slot rs
      readBlocks (.stamp id) slot need (pullData id (modCtx id (fun c => { c with need := need }) s))
    | .dsm true _ => pullData id s
    | .dsm false _ => finish id 0 0 (some false) 0 0 s
    | .flush => if flushClear s slot adm then finish id 0 0 (some false) 0 0 s else s
    | .winBind action policy pin w stall slba size =>
      if action ≠ 1 then finish id 0 0x02 none 0 0 s else bindAdmit id slot policy pin w stall slba size s
    | .unbind w => unbindAdmit id w s
    | .resvReport => resvExec id slot n host op s
    | .resvRegister .. => resvExec id slot n host op s
    | .resvAcquire .. => resvExec id slot n host op s
    | .resvRelease .. => resvExec id slot n host op s
    | _ => s

/-- The context of a command at its owner: `base` carries its queue, identifier and forwarding. -/
def ctxFor (base : Ctx) (slot adm : Nat) (op : IoOp) : Ctx :=
  { base with
    slot := slot
    op := op
    adm := adm
    ranges := opRanges op
    writer := opWriter op
    reader := match op with
      | .read .. => true
      | _ => false
    stake := match op with
      | .stakeWrite _ _ k => some k
      | _ => none }

/-- Admit a command at the owner of its namespace: it draws its number and starts (R41). None while it must be held: the namespace
moving, held by a stamp, or out of lease (R164, R346, R347). -/
def ownerAdmit (base : Ctx) (slot : Nat) (n : Ns) (op : IoOp) (s : State) : Option State :=
  if n.moving ∨ n.admHold then none
  else if !opStamps op then none
  else
    match stamp slot s with
    | (none, _) => none
    | (some a, s) =>
      let (id, s) := newCtx (ctxFor base slot a op) s
      some (startOp id slot n base.host op s)

/-- A window command that names its window (R205 to R207): a key action draws no number; UNBIND draws one in the window's
namespace and acts as a writer over its range. -/
def windowAdmit (base : Ctx) (subsys w : Nat) (op : IoOp) (s : State) : Option State :=
  let x := winAt s w
  match op with
  | .unbind w =>
    if 4096 ≤ w ∨ x.state ≠ 2 then
      let (id, s) := newCtx (ctxFor base x.slot 0 op) s
      some (unbindAdmit id w s)
    else match nsAt s x.slot with
      | none => none
      | some n =>
        if n.moving ∨ n.admHold then none
        else match stamp x.slot s with
          | (none, _) => none
          | (some a, s) =>
            let (id, s) := newCtx { ctxFor base x.slot a op with ranges := [(x.slba, x.pages * 512)] } s
            some (unbindAdmit id w s)
  | .keyCreate rights ho w off len =>
    let (id, s) := newCtx (ctxFor base x.slot 0 op) s
    some (keyCreateAdmit id base.host rights ho w off len s)
  | .keyRevoke k =>
    let (id, s) := newCtx (ctxFor base x.slot 0 op) s
    some (keyRevokeAdmit id subsys k s)
  | _ => none

/-- Forward a command to the owner (R41): a writer's data is pulled here and becomes the mirror copy. -/
def forward (base : Ctx) (subsys slot : Nat) (cap : Capsule) (s : State) : State :=
  let t := s.pair.fwdTag + 1
  let (id, s) := newCtx { ctxFor base slot 0 cap.op with state := .forwarded } s
  let s := { s with pair := { s.pair with fwdTag := t, fwds := tset s.pair.fwds t id } }
  let s := zsend (.fwdCmd { tag := t, host := base.host, subsys := subsys, cap := cap }) s
  match cap.op with
  | .write .. => pullHost id base.q base.cid (rangeBlocks (opRanges cap.op)) s
  | .stakeWrite .. => pullHost id base.q base.cid (rangeBlocks (opRanges cap.op)) s
  | .traverse .. => pullHost id base.q base.cid [] s
  | _ => s

/-- Complete a command that needs no context beyond its own step. -/
def quick (base : Ctx) (sct sc : Nat) (dnr : Option Bool) (s : State) : State :=
  sendOutcome base sct sc dnr 0 0 s

/-- Parse and admit a capsule (R41, R42, R59, R61). None while it must be held unparsed. -/
def parse (base : Ctx) (subsys : Nat) (cap : Capsule) (s : State) : Option State :=
  match cap.op with
  | .other _ => some (quick base 0 0x01 none s)
  | .traverse tid ndesc len fuse =>
    match attachedSlot s subsys base.host cap.nsid with
    | none => some (quick base 0 0x0B none s)
    | some slot => match nsAt s slot with
      | none => none
      | some n =>
        if n.moving then none
        else if !servesNow s then some (quick base 0 0x82 (some false) s)
        else if !ownsNs s n ∧ base.fwdTag.isNone then (if s.pair.state = 4 then none else some (forward base subsys slot cap s))
        else if !n.ready then some (quick base 0 0x82 (some false) s)
        else
          let (id, s) := newCtx (ctxFor base slot 0 cap.op) s
          some (travAdmit id base.host subsys tid ndesc len fuse s)
  | op =>
    match opWindow op with
    | some w =>
      let x := winAt s w
      let away : Bool := op == .unbind w && x.state == 2 && base.fwdTag.isNone && (nsAt s x.slot).elim false fun n => !ownsNs s n && !n.moving
      if !away then windowAdmit base subsys w op s
      else if !servesNow s then some (quick base 0 0x82 (some false) s)
      else if s.pair.state = 4 then none
      else some (forward base subsys x.slot cap s)
    | none =>
      match attachedSlot s subsys base.host cap.nsid with
      | none => some (quick base 0 0x0B none s)
      | some slot => match nsAt s slot with
        | none => none
        | some n =>
          if n.moving then none
          else if !servesNow s then some (quick base 0 0x82 (some false) s)
          else if !ownsNs s n ∧ base.fwdTag.isNone then (if s.pair.state = 4 then none else some (forward base subsys slot cap s))
          else if !n.ready then some (quick base 0 0x82 (some false) s)
          else ownerAdmit base slot n op s

/-- The command context a queue's capsule starts from. -/
def baseCtx (q host cid : Nat) : Ctx := { q := q, cid := cid, host := host, slot := 0, op := .flush }

/-- Report a bound when it is reached (R62). -/
def boundCheck (host : Nat) (s : State) : State :=
  let s :=
    if generalLimit ≤ generalInUse s then
      if s.nvm.atBound then s
      else raise 0x2001 (leBytes 4 (heldCount s)) (bump Reg.NVMF_BOUND_HITS { s with nvm := { s.nvm with atBound := true } })
    else { s with nvm := { s.nvm with atBound := false } }
  if hostInUse s host = hostQuota s host then raise 0x2002 (leBytes 2 host ++ leBytes 4 (hostQuota s host)) s else s

/-- Whether a host's next capsule may be parsed (R56 to R58). -/
def mayParse (s : State) (host : Nat) : Bool :=
  admitRuns s && decide (generalInUse s < generalLimit) && decide (hostInUse s host < hostQuota s host)

/-- Admit a queue's oldest held capsule, if it may be; whether it was. -/
def admitHead (q : Nat) (s : State) : Bool × State :=
  match tget s.nvm.queues q, queueAssoc s q with
  | some x, some a => match x.held with
    | [] => (false, s)
    | c :: cs =>
      if !mayParse s a.host then (false, s)
      else match parse (baseCtx q a.host c.cid) a.subsys c s with
        | none => (false, s)
        | some s => (true, boundCheck a.host { s with nvm := { s.nvm with
            queues := tmod s.nvm.queues q fun x => { x with held := cs } } })
  | _, _ => (false, s)

/-- Count one packet against a key. -/
def keyCount (k : Nat) (up : Bool) (s : State) : State :=
  let x := keyAt s k
  { s with win := { s.win with keys := tput {} s.win.keys k { x with inflight := if up then x.inflight + 1 else x.inflight - 1 } } }

/-- The key of a read or atomic that waits for its turn, counted in flight since its key check (R218). -/
def Rdma.turnKey (r : Rdma) : Option Nat :=
  match r with
  | .read _ k _ => some (k / 4096 % 1048576)
  | .fetchAdd _ k _ => some (k / 4096 % 1048576)
  | .cas _ k _ _ => some (k / 4096 % 1048576)
  | .cas16 _ k _ _ => some (k / 4096 % 1048576)
  | _ => none

/-- The transport's work for a queue pair ends (R179, R189): reads of write data are abandoned, their writers fail and their traverses are abandoned with
reason 2 (R162), nothing further is sent,
open messages are never delivered, and packets held for a window are discarded; pulls that waited for a bound of R196 go on. -/
def qpClear (i : Nat) (s : State) : State :=
  let q := qpAt s i
  let rs := (q.reads.map fun r => r.2.ctx) ++ (s.xp.waits.filter fun w => w.qp == i).map fun w => w.ctx
  let mine (a : WinAcc) : Bool := a.ctx == i && !a.ring && a.fwd.isNone
  let held := ((s.win.stalled.filter mine).filterMap fun a => a.key)
    ++ q.recs.filterMap fun r => if r.2.started then none else r.2.req.turnKey
  let s := setQp i { q with reads := [], sent := [], unsent := [], recs := [], behind := [], accepted := [], undurable := [] } s
  let s := { s with
    xp := { s.xp with waits := s.xp.waits.filter fun w => w.qp != i }
    win := { s.win with stalled := s.win.stalled.filter fun a => !mine a, tally := s.win.tally.filter fun t => t.ctx != i } }
  let s := held.foldl (fun s k => keyCount k false s) s
  let s := pullRetry s.xp.waits.length s
  rs.eraseDups.foldl (fun s id => match ctxAt s id with
    | none => s
    | some c => match tfind s.trav.open_ fun _ v => v.ctx == id && v.remote.isNone with
      | some (t, _) => if (travStaging s).contains t then travAbandon t 2 none s else s
      | none => if c.writer ∧ c.state = .waiting then failWriter id 0 0x04 none 0 s else s) s

/-- A connection is released by this controller: a queue pair is drained with a DREQ (R178), an NVMe/TCP connection closed. -/
def connEnd (c : Nat) (s : State) : State :=
  if tcpBase ≤ c then { s with xp := { s.xp with tcp := tdel s.xp.tcp c } }
  else if (qpAt s c).state = 2 then
    drive (.roce c .dreq) (modQp c (fun q => { q with state := 3 }) (qpClear c s))
  else s

/-- End an association (R32): capsules not yet admitted are discarded, commands admitted run on with their completions
discarded, traverses in STAGING are abandoned with reason 3. -/
def endAssociation (cntlid : Nat) (s : State) : State :=
  match assocAt s cntlid with
  | none => s
  | some a =>
    let mine (q : Nat) : Bool := queueCntlid s q == some cntlid
    let conns := (s.nvm.conn.filter fun p => mine p.1).map fun p => p.2
    let trs := (s.trav.open_.filter fun p => p.2.remote == none && (match ctxAt s p.2.ctx with
      | none => false
      | some c => mine c.q)).map fun p => p.1
    let s := { s with nvm := { s.nvm with
      assocs := tdel s.nvm.assocs cntlid
      queues := tfilter s.nvm.queues fun q _ => !mine q
      conn := tfilter s.nvm.conn fun q _ => !mine q
      ctxs := tmap s.nvm.ctxs fun _ c => if mine c.q then { c with orphan := true } else c } }
    let s := { s with trav := { s.trav with open_ := tmap s.trav.open_ fun t v => if trs.contains t then { v with orphan := true } else v } }
    let s := (trs.filter fun t => (travStaging s).contains t).foldl (fun s t => travAbandon t 3 none s) s
    let s := conns.foldl (fun s c => connEnd c s) s
    let keep := (hostsIn s).contains a.host
    let s := { s with nvm := { s.nvm with hostNqns := if keep then s.nvm.hostNqns else tdel s.nvm.hostNqns a.host } }
    match a.fn with
    | none => s
    | some f => setFn f { fnAt s f with cntlid := none } s

/-- A capsule arrives on a queue: behind those already held, and parsed at once where nothing holds it (R41, R56). One beyond the
queue's size is a protocol violation that ends the association. -/
def submit (q : Nat) (c : Capsule) (s : State) : State :=
  match tget s.nvm.queues q, queueAssoc s q with
  | some x, some _ =>
    let out := (tcount s.nvm.ctxs fun _ c => c.q == q) + x.held.length
    if x.size ≤ out then endAssociation (q / 256) s
    else
      let s := { s with nvm := { s.nvm with queues := tset s.nvm.queues q { x with
        held := x.held ++ [c], heldSince := if x.held = [] then s.time else x.heldSince } } }
      if x.held = [] then (admitHead q s).2 else s
  | _, _ => s

/-- A capsule of an endpoint work ring, whose function is the host of R283; a ring's command that is held waits at the ring. -/
def submitRing (g host subsys : Nat) (c : Capsule) (s : State) : Option State :=
  if !mayParse s host then none
  else (parse (baseCtx (ringQ g) host c.cid) subsys c s).map (boundCheck host)

/-- The queues of a host that hold a capsule, in round-robin order after the one served last. -/
def hostQueues (s : State) (h : Nat) : List Nat :=
  let qs := (s.nvm.queues.filter fun q => q.2.held != [] && (queueAssoc s q.1).elim false fun a => a.host == h).map fun q => q.1
  let l := tgetD s.nvm.lastQueue h 0
  (qs.filter fun q => decide (l < q)) ++ qs.filter fun q => decide (q ≤ l)

/-- Admit one held capsule by R57: hosts in round-robin order after the one served last, and each host's queues likewise. -/
def admitNext (s : State) : State :=
  let hs := hostsIn s
  let order := (hs.filter fun h => decide (s.nvm.lastHost < h)) ++ hs.filter fun h => decide (h ≤ s.nvm.lastHost)
  (order.foldl (fun (acc : Bool × State) h =>
    if acc.1 then acc
    else (hostQueues acc.2 h).foldl (fun (acc : Bool × State) q =>
      if acc.1 then acc
      else match admitHead q acc.2 with
        | (true, s) => (true, { s with nvm := { s.nvm with lastHost := h, lastQueue := tset s.nvm.lastQueue h q } })
        | (false, s) => (false, s)) acc) (false, s)).2

/-- The admission of forwarded commands that waited at the owner, in order. -/
def admitForwarded : Nat → State → State
  | 0, s => s
  | n + 1, s =>
    match s.pair.fwdHeld with
    | [] => s
    | f :: fs =>
      let base : Ctx := { q := 0, cid := f.cap.cid, host := f.host, slot := 0, op := .flush, fwdTag := some f.tag }
      if !mayParse s f.host then s
      else match parse base f.subsys f.cap s with
        | none => s
        | some s => admitForwarded n { s with pair := { s.pair with fwdHeld := fs } }

/-- A 4 KiB block of a context's data arrives (R44, R67); for a traverse `lba` is descriptor index × 8192 + block offset, and the block is
staged (R162). -/
def blockArrives (id lba data : Nat) (s : State) : State :=
  match ctxAt s id with
  | none => s
  | some c =>
    match c.op with
    | .traverse .. =>
      (match tfind s.trav.open_ fun _ v => v.ctx == id && v.remote.isNone with
        | none => s
        | some (t, v) => if v.deferred then s else stageBlock t lba data s)
    | _ =>
      if c.deferred ∨ thas c.placed lba ∨ !(rangeBlocks c.ranges).contains lba then s
      else if c.state = .waiting ∧ !c.pulling then s
      else placeBlock id lba (mkBlk c.slot lba data (c.stake.getD 0) 0 false) s

end Sys2Proof.Machine
end

