-- ==== Sys2Proof/Machine/WinAccOps.lean ====
section
/-!
DEFINITION. Machine/WinAccOps.lean: accesses of windows by queue pairs and rings: the key check, faults and stalls, placement, atomics,
acknowledgement and tally words (spec/08, R208 to R223; spec/07, R187 to R191, R197).
-/
namespace Sys2Proof.Machine

/-! ### Acknowledgement (R191) -/

/-- The PSN below which everything is accepted and placed. -/
def Qp.cover (q : Qp) : Nat → Nat → Nat
  | 0, c => c
  | n + 1, c => if q.accepted.contains c ∧ !q.undurable.contains c then q.cover n ((c + 1) % 2 ^ 24) else c

/-- Ranges of accepted and placed packets above a PSN, lowest first (Table 6). -/
def Qp.ranges (q : Qp) (c : Nat) : List (Nat × Nat) :=
  ((List.range 4096).foldl (fun (acc : List (Nat × Nat) × Bool) i =>
    let p := (c + i) % 2 ^ 24
    if q.accepted.contains p && !q.undurable.contains p then
      (if acc.2 then (match acc.1 with
        | (a, n) :: t => ((a, n + 1) :: t, true)
        | [] => ([(p, 1)], true)) else ((p, 1) :: acc.1, true))
    else (acc.1, false)) ([], false)).1.reverse.take 8

/-- Send an acknowledgement: the PSN below which all is accepted, the last message delivered, and on a spray queue pair the SACK block. -/
def sendAck (i path : Nat) (s : State) : State :=
  let q := qpAt s i
  let c := q.cover 4096 q.ackBase
  let sack := if q.spray then q.ranges c else []
  let keep (p : Nat) : Bool := decide (psnRel q.cursor p < 2 ^ 23) || decide (psnRel c p < 2 ^ 23)
  let s := setQp i { q with ackBase := c, accepted := q.accepted.filter keep, sinceAck := 0, ackDue := false } s
  let s := if sack = [] then s else bump Reg.XPORT_SACK_SENT s
  drive (.roce i (.ack ((c + 2 ^ 24 - 1) % 2 ^ 24) ((q.msn + 2 ^ 24 - 1) % 2 ^ 24) path sack)) s

/-- Whether an acknowledgement would cover something not yet covered. -/
def Qp.ackable (q : Qp) : Bool := q.accepted.any fun p => decide (psnRel q.ackBase p < 2 ^ 23) && !q.undurable.contains p

/-- Send the acknowledgement that is due, once it covers a placed packet (R191). -/
def ackIfDue (i : Nat) (s : State) : State :=
  let q := qpAt s i
  if q.ackDue ∧ q.ackable then sendAck i q.lastPath s else s

/-- The effect of a packet, or of a read request's `n` PSNs, is in both caches: acknowledgements may cover it. -/
def psnDurable (i psn n : Nat) (s : State) : State :=
  ackIfDue i (modQp i (fun q => { q with undurable := q.undurable.filter fun p => decide (n ≤ psnRel psn p) }) s)

/-- The PSNs an access of a queue pair takes: a read request takes those of its responses (R184). -/
def accPsns (s : State) (a : WinAcc) : Nat := if a.kind = 1 then (qpAt s a.ctx).pkts a.len else 1

/-- A packet discarded after it was accepted: its bit is cleared, and the record of an atomic closed; on a standard queue pair an RNR NAK asks for it again (Table 6). -/
def psnDrop (i psn msn len : Nat) (s : State) : State :=
  let q := qpAt s i
  if q.spray then
    let atomic : Bool := (tget q.recs msn).elim false fun r => r.req.turnKey.isSome
    setQp i { q with accepted := q.accepted.filter fun p => p != psn, undurable := q.undurable.filter fun p => p != psn
                     recs := if atomic then tdel q.recs msn else q.recs } s
  else
    let s := setQp i { q with
      accepted := q.accepted.filter fun p => p != psn, undurable := q.undurable.filter fun p => p != psn, cursor := psn, naked := true
      behind := [], recs := tmod q.recs msn fun r => { r with recv := r.recv - len, whole := false } } s
    drive (.roce i (.rnr psn (cfg s Reg.XPORT_RNR_TIMER % 32))) (bump Reg.XPORT_RNR_SENT s)

/-! ### Tally words (R222) -/

/-- Whether immediate data is a tally word. -/
def isTally (imm : Nat) : Bool := bits imm 30 2 == 2 && bits imm 20 10 == 0

/-- Raise a tally counter at the owner of its window (R208, R222). -/
def tallyAt (w ctr inc : Nat) (s : State) : State :=
  if (nsAt s (winAt s w).slot).elim true fun n => ownsNs s n then tallyRaise w ctr inc s
  else
    let t := s.pair.fwdTag + 1
    zsend (.fwdCmd { tag := t, host := 0, subsys := 0, cap := { cid := 0, nsid := 0, op := .winAccess 5 w ctr 0 inc 0 } })
      { s with pair := { s.pair with fwdTag := t } }

/-- Apply the tally words of a queue pair, in order, whose message is placed in both caches. -/
def tallyApply (i : Nat) : Nat → State → State
  | 0, s => s
  | n + 1, s =>
    match s.win.tally.find? fun t => t.ctx == i with
    | none => s
    | some t =>
      if t.psns.any (fun p => (qpAt s i).undurable.contains p) then s
      else tallyApply i n (tallyAt t.win t.ctr t.inc { s with win := { s.win with tally := s.win.tally.erase t } })

/-! ### Keys (R217, R218, R220) -/

/-- The right an access needs: READ, WRITE, ATOMIC. -/
def accRight (kind : Nat) : Nat := if kind = 0 then 1 else if kind = 1 then 0 else 2

/-- The bytes an access touches. -/
def accLen (kind len : Nat) : Nat := if kind ≤ 1 then len else if kind = 4 then 16 else 8

/-- The key check of R218 for an association's host and subsystem. -/
def keyPasses (s : State) (host subsys rkey kind offset len : Nat) : Bool :=
  let k := rkey / 4096 % 1048576
  let x := keyAt s k
  let w := winAt s x.win
  let n := accLen kind len
  x.state == 1 && x.tag == rkey % 4096
    && ((nsAt s w.slot).elim false fun ns => ns.subsys == subsys && ns.hosts.contains host)
    && (!x.hostOnly || x.host == host)
    && bitAt x.rights (accRight kind)
    && decide (x.offset ≤ offset) && decide (offset + n ≤ x.offset + x.length) && decide (offset + n ≤ w.pages * 2097152)
    && (kind ≤ 1 || offset % n == 0)

/-! ### Access -/

/-- The window unit's view of who owns an access's pages (R208). -/
def accOwned (s : State) (a : WinAcc) : Bool :=
  match nsAt s (winAt s a.win).slot with
  | none => true
  | some n => ownsNs s n

/-- Pages an access touches. -/
def accPages (a : WinAcc) : List Nat :=
  if a.len = 0 then []
  else (List.range ((a.offset + a.len - 1) / 2097152 - a.offset / 2097152 + 1)).map fun i => a.offset / 2097152 + i

/-- The pieces of an access by block: block, byte in the block, bytes, and byte in the access. -/
def accPieces (x : Window) (a : WinAcc) : List (Nat × Nat × Nat × Nat) :=
  if a.len = 0 then []
  else (List.range ((a.offset + a.len - 1) / 4096 - a.offset / 4096 + 1)).map fun i =>
    let b := a.offset / 4096 + i
    let from_ := max a.offset (b * 4096)
    let to_ := min (a.offset + a.len) ((b + 1) * 4096)
    (x.slba + b, from_ - b * 4096, to_ - from_, from_ - a.offset)

/-- A resident block of a window. -/
def resAt (s : State) (slot lba : Nat) : ResBlk := tgetD s.store.resident (blkKey slot lba) { data := 0 }

/-- A placement would turn a clean block dirty while dirty data stands at the limit (R211). -/
def limitHold (s : State) (x : Window) (a : WinAcc) : Bool :=
  a.kind != 1 && decide (limitBlocks s ≤ dirtyBlocks s + stagedBlocks s) && (accPieces x a).any fun p => !(resAt s x.slot p.1).dirty

/-- Whether an access may execute now. -/
def accReady (s : State) (a : WinAcc) : Bool :=
  (accPages a).all (fun p => pageResident s a.win p) && !limitHold s (winAt s a.win) a

/-- The bytes an access addresses, as one little-endian number. -/
def accBytes (s : State) (x : Window) (a : WinAcc) : Nat :=
  (accPieces x a).foldl (fun v p => v + bits (resAt s x.slot p.1).data (8 * p.2.1) (8 * p.2.2.1) * 2 ^ (8 * p.2.2.2)) 0

/-- An access touches a poisoned block (R209). -/
def accPoisoned (s : State) (x : Window) (a : WinAcc) : Bool := (accPieces x a).any fun p => (resAt s x.slot p.1).poisoned

/-- Place bytes: blocks become dirty and go to the partner; a whole block written is poisoned no more and leaves the loss map (R209,
R214). The messages that carry them. -/
def accPlace (x : Window) (a : WinAcc) (data : Nat) (s : State) : List Nat × State :=
  (accPieces x a).foldl (fun (acc : List Nat × State) p =>
    let s := acc.2
    let b := resAt s x.slot p.1
    let d := putBits b.data (8 * p.2.1) (8 * p.2.2.1) (data / 2 ^ (8 * p.2.2.2))
    let whole := p.2.2.1 == 4096
    let s := if b.poisoned && whole then lossRemove x.slot p.1 s else s
    let nb : ResBlk := { data := d, dirty := true, poisoned := b.poisoned && !whole }
    let s := { s with store := { s.store with resident := tset s.store.resident (blkKey x.slot p.1) nb } }
    if !mirrors s ∨ nb.poisoned then (acc.1, s)
    else
      let adm := (nsAt s x.slot).elim 1 fun n => n.adm + 1
      let (m, s) := mseqSend (fun m => .statePut m (.resident x.slot p.1 adm d)) s
      (if inPair s then acc.1 ++ [m] else acc.1, s)) ([], s)

/-- Mark an access's pages as used. -/
def accTouch (a : WinAcc) (s : State) : State :=
  let touch (p : Nat) (s : State) : State :=
    let use_ (g : Page) : Page := { g with used := s.win.lru }
    { s with win := { s.win with lru := s.win.lru + 1, pages := tmod s.win.pages (pageKey a.win p) use_ } }
  (accPages a).foldl (fun s p => touch p s) s

/-- The bytes of a write count towards its message (R186, R187). -/
def recBytes (i msn n : Nat) (s : State) : State :=
  modQp i (fun q => { q with recs := tmod q.recs msn fun r => { r with bytes := r.bytes + n } }) s

/-- An access is over: its key count falls, and it is answered to the controller, ring or queue pair it came from (R191, R215, R219). -/
def accDone (a : WinAcc) (result : Nat) (s : State) : State :=
  let s := match a.key with
    | none => s
    | some k => keyCount k false s
  match a.fwd with
  | some t => zsend (.fwdCpl t 0 0 0 (some false) 0 0) (if a.kind = 0 then s else zsend (.fwdData t [(0, result)]) s)
  | none =>
    if a.ring then
      let s := match a.tally with
        | some (c, n) => tallyAt a.win c n s
        | none => s
      let s := if a.kind = 1 then drive (.ringData a.ctx a.cid a.len result) s else s
      let r := if a.kind = 2 ∨ a.kind = 3 then result % 2 ^ 64 else 0
      ringDone a.ctx a.cid 0 0 (some false) r (if a.kind = 4 then result % 2 ^ 128 else 0) s
    else if a.kind = 0 then tallyApply a.ctx s.win.tally.length (psnDurable a.ctx a.psn 1 s)
    else if a.kind = 1 then drive (.roce a.ctx (.readResp a.psn a.len result)) (psnDurable a.ctx a.psn (accPsns s a) s)
    else psnDurable a.ctx a.psn 1 (drive (.roce a.ctx (.atomAck a.psn result (a.kind == 4))) s)

/-- An access touched a poisoned block: NAK Remote Operation Error; at a ring, Unrecovered Read Error (R209, R297). -/
def accPoison (a : WinAcc) (s : State) : State :=
  let s := match a.key with
    | none => s
    | some k => keyCount k false s
  match a.fwd with
  | some t => zsend (.fwdCpl t 0 2 0x81 (some true) 0 0) s
  | none =>
    if a.ring then ringDone a.ctx a.cid 2 0x81 (some true) 0 0 s
    else psnDurable a.ctx a.psn (accPsns s a) (drive (.roce a.ctx (.nak a.psn 3)) s)

/-- Keep an atomic's result in its queue pair's replay cache: 64 entries, two for a 16-byte one (R197). -/
def atomKeep (i : Nat) (r : AtomRes) (s : State) : State :=
  let room (rs : List AtomRes) : List AtomRes := (rs.foldl (fun (acc : List AtomRes × Nat) x =>
    let n := acc.2 + if x.wide then 2 else 1
    if n ≤ 64 then (acc.1 ++ [x], n) else (acc.1, 65)) ([], 0)).1
  modQp i (fun q => { q with atoms := room (r :: q.atoms) }) s

/-- The new value of an atomic, where it writes one (R219). -/
def atomNew (a : WinAcc) (orig : Nat) : Option Nat :=
  if a.kind = 2 then some ((orig + a.data) % 2 ^ 64)
  else if orig = a.compare then some a.data else none

/-- Execute an access whose pages are resident (R212 to R215, R219). -/
def accExec (a : WinAcc) (s : State) : State :=
  let x := winAt s a.win
  let s := accTouch a s
  let wait (ms : List Nat) (orig : Nat) (s : State) : State :=
    if ms = [] then accDone a orig s
    else { s with win := { s.win with placing := s.win.placing ++ [{ acc := a, mseqs := ms, orig := orig }] } }
  let counts := a.fwd.isNone && !a.ring
  if a.kind = 0 then
    let (ms, s) := accPlace x a a.data s
    wait ms 0 (if counts then recBytes a.ctx a.msn a.len s else s)
  else if accPoisoned s x a then accPoison a s
  else
    let orig := accBytes s x a
    if a.kind = 1 then accDone a orig s
    else
      let s := bump Reg.WIN_ATOMICS s
      let s := if counts then atomKeep a.ctx { psn := a.psn, wide := a.kind == 4, orig := orig } s else s
      match atomNew a orig with
      | none => wait [] orig s
      | some v =>
        let (ms, s) := accPlace x a v s
        wait ms orig s

/-- Stalled bytes held (R212). -/
def stalledBytes (s : State) : Nat :=
  s.win.stalled.foldl (fun n a => if a.kind = 1 ∨ a.kind = 2 ∨ a.kind = 3 ∨ a.ring then n else n + a.len) 0

/-- Discard an access unplaced. -/
def accDrop (a : WinAcc) (s : State) : State :=
  let s := match a.key with
    | none => s
    | some k => keyCount k false s
  match a.fwd with
  | some t => zsend (.fwdCpl t 0 7 0xFF none 0 0) s
  | none => if a.ring then ringDone a.ctx a.cid 7 0x91 (some false) 0 0 s else psnDrop a.ctx a.psn a.msn a.len s

/-- Discard an access under Table 6: the packet is to be sent again. -/
def accDiscard (a : WinAcc) (s : State) : State := accDrop a (bump Reg.WIN_RESENDS s)

/-- Fault in every absent page of an access. -/
def accFault (a : WinAcc) (s : State) : State := (accPages a).foldl (fun s p => faultPage a.win p s) s

/-- Hold an access until its pages are resident. -/
def accStall (a : WinAcc) (s : State) : State :=
  accFault a { (bump Reg.WIN_STALLS s) with win := { (bump Reg.WIN_STALLS s).win with stalled := s.win.stalled ++ [a] } }

/-- An access at its turn: forwarded to the owner of its pages, executed, held, or discarded (R208, R212, R213, R297); whether it was
executed. -/
def accTry (a : WinAcc) (s : State) : Bool × State :=
  if !accOwned s a then
    let t := s.pair.fwdTag + 1
    (false, zsend (.fwdCmd { tag := t, host := 0, subsys := 0, cap := { cid := 0, nsid := 0, op := .winAccess a.kind a.win a.offset a.len a.data a.compare } })
      { s with pair := { s.pair with fwdTag := t }, win := { s.win with fwds := tset s.win.fwds t a } })
  else if accReady s a then (true, accExec a s)
  else if a.ring ∨ a.kind = 1 ∨ a.kind = 2 ∨ a.kind = 3 then (false, accStall a s)
  else if cfg s Reg.WIN_STALL_MAX_KIB * 1024 < stalledBytes s + a.len then
    let s := if s.win.stallFull then s
      else raise 0x1A03 (leBytes 4 s.win.stallDiscards) { s with win := { s.win with stallFull := true, stallDiscards := 0 } }
    (false, accFault a (accDiscard a { s with win := { s.win with stallDiscards := s.win.stallDiscards + 1 } }))
  else if (winAt s a.win).policy = 1 then (false, accFault a (accDiscard a s))
  else (false, accStall a { s with win := { s.win with stallFull := false } })

/-- Mirrors of placements that are now in both caches: those accesses are over (R215). -/
def winAcked (gone : Nat → Bool) (s : State) : State :=
  let left (p : PlaceWait) : List Nat := p.mseqs.filter fun m => !gone m
  let done := s.win.placing.filter fun p => left p == []
  let rest := (s.win.placing.filter fun p => left p != []).map fun p => { p with mseqs := left p }
  done.foldl (fun s p => accDone p.acc p.orig s) { s with win := { s.win with placing := rest } }

end Sys2Proof.Machine
end

