-- ==== Sys2Proof/Machine/XportOps.lean ====
section
/-!
DEFINITION. Machine/XportOps.lean: queue pairs as operations (spec/07): their states, arrival of requests in both dialects, delivery,
duplicates, retransmission and rate control.
-/
namespace Sys2Proof.Machine

/-! ### Exact values of the rate control -/

/-- A whole number. -/
def Dy.ofNat (n : Nat) : Dy := { n := n, e := 0 }

/-- Sum. -/
def Dy.add (a b : Dy) : Dy := { n := a.n * 2 ^ b.e + b.n * 2 ^ a.e, e := a.e + b.e }

/-- Difference, not below 0. -/
def Dy.sub (a b : Dy) : Dy := { n := a.n * 2 ^ b.e - b.n * 2 ^ a.e, e := a.e + b.e }

/-- Product. -/
def Dy.mul (a b : Dy) : Dy := { n := a.n * b.n, e := a.e + b.e }

/-- Half. -/
def Dy.half (a : Dy) : Dy := { n := a.n, e := a.e + 1 }

/-- Comparison. -/
def Dy.le (a b : Dy) : Bool := decide (a.n * 2 ^ b.e ≤ b.n * 2 ^ a.e)

/-- The lesser. -/
def Dy.min (a b : Dy) : Dy := if a.le b then a else b

/-- The greater. -/
def Dy.max (a b : Dy) : Dy := if a.le b then b else a

/-! ### Queue pairs and their queues -/

/-- The queues a queue pair carries. -/
def connQueues (s : State) (c : Nat) : List Nat := (s.nvm.conn.filter fun p => p.2 == c).map fun p => p.1

/-- The association of a queue pair: its queue's, else the one its REQ named. -/
def qpAssoc (s : State) (i : Nat) : Option Assoc :=
  match connQueues s i with
  | q :: _ => queueAssoc s q
  | [] => assocAt s (qpAt s i).cntlid

/-- The queue a queue pair or NVMe/TCP connection carries ends, and its association with it (R179). -/
def connQueuesEnd (c : Nat) (s : State) : State := (connQueues s c).foldl (fun s q => endAssociation (q / 256) s) s

/-- A queue pair enters ERROR (R178, R179, event 0x1803): `cause` 0 retries, 1 RNR retries, 2 protocol violation, 3 local fault. -/
def qpError (i cause : Nat) (s : State) : State :=
  if (qpAt s i).state ≠ 2 then s
  else
    let s := raise 0x1803 (leBytes 3 i ++ [cause]) (bump Reg.XPORT_QP_ERRORS (modQp i (fun q => { q with state := 4 }) s))
    connQueuesEnd i (drive (.roce i .dreq) (qpClear i s))

/-- The on-die context cache is used for a queue pair (R177): contexts with work in the pipeline are never evicted. -/
def qpTouch (i : Nat) (s : State) : State :=
  let busy (j : Nat) : Bool :=
    let q := qpAt s j
    !q.sent.isEmpty || !q.reads.isEmpty || !q.recs.isEmpty || s.win.stalled.any fun a => a.ctx == j && !a.ring
  if s.xp.cache.contains i then
    bump Reg.XPORT_QPC_HITS { s with xp := { s.xp with cache := i :: s.xp.cache.filter fun j => j != i } }
  else
    let full : Bool := decide (16384 ≤ s.xp.cache.length)
    let victim := if full then s.xp.cache.reverse.find? fun j => !busy j else none
    let cache := match victim with
      | some v => i :: s.xp.cache.filter fun j => j != v
      | none => if full then s.xp.cache else i :: s.xp.cache
    bump Reg.XPORT_QPC_MISSES { s with xp := { s.xp with cache := cache } }

/-- The SEND messages that begin in the packets held behind a stalled one, and whether the last is still open. -/
def Qp.behindSends (q : Qp) : Nat × Bool :=
  q.behind.foldl (fun (a : Nat × Bool) x => match x.2 with
    | .send _ => (if a.2 then a.1 else a.1 + 1, !x.1.last)
    | _ => (a.1, false)) (0, (tget q.recs q.msn).elim false fun r => match r.req with
      | .send _ => !r.whole
      | _ => false)

/-- Receive buffers in use (R195): one for each open SEND and each capsule held. -/
def rxUsed (s : State) : Nat :=
  s.xp.qps.foldl (fun n q => n + q.2.behindSends.1 + tcount q.2.recs fun _ r => match r.req with
    | .send _ => true
    | _ => false) 0 + heldCount s

/-- No receive buffer is free: an RNR NAK, and event 0x1801 once per exhaustion (R195). -/
def rxRefuse (i psn : Nat) (s : State) : State :=
  let s := if s.xp.rxEmpty then s
    else raise 0x1801 (leBytes 4 (heldCount s)) { s with xp := { s.xp with rxEmpty := true } }
  drive (.roce i (.rnr psn (cfg s Reg.XPORT_RNR_TIMER % 32))) (bump Reg.XPORT_RNR_SENT s)

/-- Whether a receive buffer is free. -/
def rxFree (s : State) : Bool := decide (rxUsed s < cfg s Reg.XPORT_RXBUF_COUNT)

/-- The notification point (R199): a CNP to the source of a marked packet, spaced per queue pair. -/
def cnpMaybe (i : Nat) (p : Pkt) (s : State) : State :=
  let q := qpAt s i
  let due := match q.cnpAt with
    | none => true
    | some t => decide (t + cfg s Reg.XPORT_CNP_INTERVAL_US * 1000 ≤ s.time)
  if !p.ce ∨ !bitAt (cfg s Reg.XPORT_XP_CTL) 2 ∨ !due then s
  else bump Reg.XPORT_CNP_SENT (drive (.roce i (.cnp (if q.spray then p.path else 0))) (setQp i { q with cnpAt := some s.time } s))

/-! ### Window requests of a queue pair -/

/-- The window access of a request: kind, VA, key, length, operand and comparand. -/
def Rdma.access (r : Rdma) (len data : Nat) : Option (Nat × Nat × Nat × Nat × Nat × Nat) :=
  match r with
  | .send _ => none
  | .write va k _ _ => some (0, va, k, len, data, 0)
  | .read va k n => some (1, va, k, n, 0, 0)
  | .fetchAdd va k a => some (2, va, k, 8, a % 2 ^ 64, 0)
  | .cas va k sw c => some (3, va, k, 8, sw % 2 ^ 64, c % 2 ^ 64)
  | .cas16 va k sw c => some (4, va, k, 16, sw % 2 ^ 128, c % 2 ^ 128)

/-- The key check of a packet (R218): counted, and on failure answered with NAK Remote Access Error and the queue pair in ERROR. The access
that passes is counted against its key. -/
def qpKey (i : Nat) (p : Pkt) (msn : Nat) (r : Rdma) (len data : Nat) (s : State) : Option WinAcc × State :=
  match r.access len data with
  | none => (none, s)
  | some (kind, va, rkey, n, d, c) =>
    let pass : Bool := match qpAssoc s i with
      | none => false
      | some a => keyPasses s a.host a.subsys rkey kind va n
    if !pass then
      (none, qpError i 2 (drive (.roce i (.nak p.psn 2)) (bump Reg.KEYS_KEY_FAILS s)))
    else
      let k := rkey / 4096 % 1048576
      let w := (keyAt s k).win
      (some { ctx := i, ring := false, psn := p.psn, kind := kind, win := w, key := some k, offset := va, len := n, data := d,
              compare := c, msn := msn },
       keyCount k true (bump Reg.KEYS_KEY_CHECKS s))

/-! ### Delivery (R187, R188) -/

/-- A record is closed. -/
def OpenMsg.closed (r : OpenMsg) : Bool :=
  match r.req with
  | .send _ => r.whole && decide (r.length ≤ r.bytes)
  | .write .. => r.whole && decide (r.length ≤ r.bytes)
  | _ => true

/-- The delivery cursor passes a message. -/
def qpAdvance (i : Nat) (r : OpenMsg) (s : State) : State :=
  modQp i (fun q => { q with
    msn := (q.msn + 1) % 2 ^ 24, recs := tdel q.recs q.msn
    cursor := if q.spray then (r.first + r.count) % 2 ^ 24 else q.cursor }) s

/-- The tally word of a write's immediate data, where the key that carries it has WRITE and TALLY (R222). -/
def tallyWord (s : State) (rkey imm : Nat) : Option (Nat × Nat × Nat) :=
  let k := keyAt s (rkey / 4096 % 1048576)
  if isTally imm ∧ bitAt k.rights 3 ∧ bitAt k.rights 1 then some (k.win, bits imm 16 4, bits imm 0 16) else none

/-- The immediate data of a delivered write: a tally word waits for the placements, anything else is ignored (R222). -/
def qpImm (i : Nat) (r : OpenMsg) (s : State) : State :=
  match r.tally with
  | some (w, c, n) =>
    let t : TallyWait := { ctx := i, win := w, ctr := c, inc := n, psns := r.psns }
    tallyApply i (s.win.tally.length + 1) { s with win := { s.win with tally := s.win.tally ++ [t] } }
  | none => bump Reg.WIN_IMM_IGNORED s

/-- Deliver closed messages in MSN order from the cursor; a read or an atomic is executed at its turn (R187, R188). -/
def qpDeliver (i : Nat) : Nat → State → State
  | 0, s => s
  | n + 1, s =>
    let q := qpAt s i
    match tget q.recs q.msn with
    | none => s
    | some r =>
      if !r.closed ∨ q.state ≠ 2 then s
      else match r.req with
        | .send cap =>
          let s := qpAdvance i r s
          let s := match cap, connQueues s i with
            | some c, qn :: _ => submit qn c s
            | _, _ => s
          qpDeliver i n s
        | .write _ _ _ imm =>
          let s := qpAdvance i r s
          qpDeliver i n (if imm.isSome then qpImm i r s else s)
        | req =>
          if r.started then s
          else match req.access 0 0 with
            | none => s
            | some (kind, va, rkey, len, d, c) =>
              let k := rkey / 4096 % 1048576
              let a : WinAcc := { ctx := i, ring := false, psn := r.first, kind := kind, win := (keyAt s k).win, key := some k, offset := va, len := len,
                                  data := d, compare := c, msn := q.msn }
              match accTry a (setQp i { q with recs := tset q.recs q.msn { r with started := true } } s) with
              | (false, s) => s
              | (true, s) => qpDeliver i n (qpAdvance i r s)

/-- Deliver what may be delivered. -/
def qpGo (i : Nat) (s : State) : State := qpDeliver i ((qpAt s i).recs.length + 1) s

/-- A read or atomic that waited was executed: its message is delivered and delivery goes on. -/
def qpExecuted (i msn : Nat) (s : State) : State :=
  let q := qpAt s i
  match tget q.recs msn with
  | none => qpGo i s
  | some r => match r.req with
    | .send _ => qpGo i s
    | .write .. => qpGo i s
    | _ => if q.msn = msn ∧ r.started then qpGo i (qpAdvance i r s) else qpGo i s

/-! ### Arrival -/

/-- Bytes a request's headers give for its whole message. -/
def Rdma.msgLen (r : Rdma) (p : Pkt) : Nat :=
  match r with
  | .read _ _ n => n
  | .send _ => p.length
  | .write .. => p.length
  | _ => 0

/-- A request carries payload. -/
def Rdma.payload (r : Rdma) : Bool :=
  match r with
  | .send _ => true
  | .write .. => true
  | _ => false

/-- A request is an atomic. -/
def Rdma.atomic (r : Rdma) : Bool :=
  match r with
  | .fetchAdd .. => true
  | .cas .. => true
  | .cas16 .. => true
  | _ => false

/-- A duplicate (R190, R194): a read executes again, an atomic is answered from the replay cache, anything else is acknowledged. -/
def qpDup (i : Nat) (p : Pkt) (r : Rdma) (s : State) : State :=
  let q := qpAt s i
  let pending := q.recs.any fun x => x.2.first == p.psn && !x.2.req.payload
  if r.payload ∨ pending then sendAck i p.path (bump Reg.XPORT_DUP_DROPPED s)
  else if r.atomic then
    match q.atoms.find? fun a => a.psn == p.psn with
    | some a => drive (.roce i (.atomAck p.psn a.orig a.wide)) (bump Reg.XPORT_ATOM_REPLAYED s)
    | none =>
      raise 0x1804 (leBytes 3 i ++ leBytes 3 p.psn) (drive (.roce i (.nak p.psn 1)) (bump Reg.XPORT_ATOM_UNMATCHED s))
  else match qpKey i p p.msn r 0 0 s with
    | (none, s) => s
    | (some a, s) => (accTry a s).2

/-- Give an accepted packet to its message: payload of a SEND is counted, of a write placed after the key check; a read or an atomic waits for its
turn (R186, R188, R218). -/
def qpPlace (i : Nat) (p : Pkt) (msn : Nat) (r : Rdma) (data : Nat) (s : State) : State :=
  match r with
  | .send _ => qpGo i (recBytes i msn p.len s)
  | .write va k d imm =>
    match qpKey i p msn (.write va k d imm) p.len data s with
    | (none, s) => s
    | (some a, s) =>
      let s := match imm.bind (tallyWord s k) with
        | none => s
        | some t => modQp i (fun q => { q with recs := tmod q.recs msn fun x => { x with tally := some t } }) s
      qpGo i (accTry a s).2
  | r =>
    match qpKey i p msn r 0 0 s with
    | (none, s) => s
    | (some _, s) => qpGo i s

/-- Acknowledge by R191: at the coalescing count, a new gap, or when asked. -/
def qpAck (i : Nat) (p : Pkt) (gap : Bool) (s : State) : State :=
  let q := qpAt s i
  let due := gap || p.ackreq || decide (cfg s Reg.XPORT_ACK_COALESCE ≤ q.sinceAck)
  ackIfDue i (setQp i { q with ackDue := q.ackDue || due, lastPath := p.path } s)

/-- The relations of R184 that a packet of a message must satisfy. -/
def sprayFits (q : Qp) (p : Pkt) (r : Rdma) : Bool :=
  let u := q.mtu
  if !r.payload then p.offset == 0
  else p.offset % u == 0 && decide (p.offset < max 1 p.length) && p.len == min u (p.length - p.offset)

/-- The PSNs a request packet takes: a read request takes those of its responses (R184). -/
def Qp.psnsOf (q : Qp) (p : Pkt) (r : Rdma) : List Nat :=
  match r with
  | .read _ _ n => (List.range (q.pkts n)).map fun j => (p.psn + j) % 2 ^ 24
  | _ => [p.psn]

/-- A request arrives on a spray queue pair (R184, R186, R190, R195). -/
def rxSpray (i : Nat) (p : Pkt) (r : Rdma) (data : Nat) (s : State) : State :=
  let q := qpAt s i
  let rel := psnRel q.cursor p.psn
  if 2 ^ 23 ≤ rel then qpDup i p r s
  else if 4096 ≤ rel then bump Reg.XPORT_BEYOND_WINDOW s
  else if q.accepted.contains p.psn then qpDup i p r s
  else if !sprayFits q p r then qpError i 2 s
  else
    let len := r.msgLen p
    let first := psnRel (p.offset / q.mtu) p.psn
    match tget q.recs p.msn with
    | some x =>
      if x.length ≠ len ∨ x.first ≠ first ∨ !r.payload then qpError i 2 s
      else
        let gap := p.psn != q.cover 4096 q.ackBase && !q.accepted.contains ((p.psn + 2 ^ 24 - 1) % 2 ^ 24)
        let dur := match r with
          | .send _ => q.undurable
          | _ => q.undurable ++ [p.psn]
        let s := setQp i { q with accepted := q.accepted ++ [p.psn], undurable := dur, sinceAck := q.sinceAck + 1
                                  recs := tset q.recs p.msn { x with psns := x.psns ++ [p.psn], req := (match x.req, r with
                                    | .write va k d none, .write _ _ _ imm => .write va k d imm
                                    | .send none, .send c => .send c
                                    | y, _ => y) } } s
        qpAck i p gap (qpPlace i p p.msn r data s)
    | none =>
      let isSend : Bool := match r with
        | .send _ => true
        | _ => false
      if 16 ≤ q.recs.length then bump Reg.XPORT_REC_FULL s
      else if isSend && !rxFree s then rxRefuse i p.psn s
      else
        let x : OpenMsg := { first := first, req := r, length := len, count := q.pkts len, whole := true, psns := [p.psn] }
        let gap := p.psn != q.cover 4096 q.ackBase && !q.accepted.contains ((p.psn + 2 ^ 24 - 1) % 2 ^ 24)
        let psns := q.psnsOf p r
        let s := setQp i { q with accepted := q.accepted ++ psns, sinceAck := q.sinceAck + 1, recs := tset q.recs p.msn x
                                  undurable := if isSend then q.undurable else q.undurable ++ psns } s
        let s := if isSend then { s with xp := { s.xp with rxEmpty := false } } else s
        qpAck i p gap (qpPlace i p p.msn r data s)

/-- Process a packet in order on a standard queue pair: the first packet of a message gives its key and address. -/
def stdProcess (i : Nat) (p : Pkt) (r : Rdma) (data : Nat) (s : State) : State :=
  let q := qpAt s i
  let x := match tget q.recs q.msn with
    | some x => x
    | none => { first := p.psn, req := r, length := r.msgLen p, count := 1 }
  let here : Rdma := match x.req, r with
    | .write va k _ _, .write _ _ d imm => .write (va + x.recv) k d imm
    | _, r => r
  let req : Rdma := match x.req, r with
    | .write va k d none, .write _ _ _ imm => .write va k d imm
    | .send none, .send c => .send c
    | y, _ => y
  let x := { x with req := req, recv := x.recv + p.len, psns := x.psns ++ [p.psn], whole := p.last || !r.payload
                    length := if r.payload then x.recv + p.len else x.length }
  let psns := q.psnsOf p r
  let dur := match r with
    | .send _ => q.undurable
    | _ => q.undurable ++ psns
  let m := q.msn
  let s := setQp i { q with recs := tset q.recs m x, accepted := q.accepted ++ psns, undurable := dur, sinceAck := q.sinceAck + 1 } s
  qpAck i p (p.last && r.payload) (qpPlace i p m here data s)

/-- A packet of a standard queue pair is stalled, so later ones are held behind it (R212). -/
def stdHeld (s : State) (i : Nat) : Bool :=
  !(qpAt s i).behind.isEmpty || (s.win.stalled.any fun a => a.ctx == i && !a.ring && a.fwd.isNone)
    || (qpAt s i).recs.any fun r => r.2.started

/-- A request arrives on a standard queue pair (R180, R194, R195). -/
def rxStd (i : Nat) (p : Pkt) (r : Rdma) (data : Nat) (s : State) : State :=
  let q := qpAt s i
  let rel := psnRel q.cursor p.psn
  let isSend : Bool := match r with
    | .send _ => true
    | _ => false
  if 2 ^ 23 ≤ rel then qpDup i p r s
  else if rel ≠ 0 then
    if q.naked then s else drive (.roce i (.nak q.cursor 0)) (setQp i { q with naked := true } s)
  else if isSend && !q.behindSends.2 && !rxFree s then rxRefuse i p.psn (setQp i { q with naked := true } s)
  else
    let n := match r with
      | .read _ _ len => q.pkts len
      | _ => 1
    let s := setQp i { q with cursor := (q.cursor + n) % 2 ^ 24, naked := false } s
    let s := if isSend then { s with xp := { s.xp with rxEmpty := false } } else s
    if stdHeld s i then
      let r' : Rdma := match r with
        | .write va k _ imm => .write va k data imm
        | r => r
      modQp i (fun q => { q with behind := q.behind ++ [(p, r')] }) s
    else stdProcess i p r data s

/-- Release packets held behind a stalled one, until one stalls again. -/
def stdRelease (i : Nat) : Nat → State → State
  | 0, s => s
  | n + 1, s =>
    let q := qpAt s i
    match q.behind with
    | [] => s
    | (p, r) :: rest =>
      if (s.win.stalled.any fun a => a.ctx == i && !a.ring && a.fwd.isNone) || q.recs.any (fun r => r.2.started) then s
      else
        let d := match r with
          | .write _ _ d _ => d
          | _ => 0
        stdRelease i n (stdProcess i p r d (setQp i { q with behind := rest } s))

/-- A packet other than a request arrives for a queue pair (R176, R177, R178): discarded and counted where the queue pair takes none, otherwise the
first one moves it to ACTIVE. -/
def rxOther (i : Nat) (ok : Bool) (s : State) : Bool × State :=
  let q := qpAt s i
  if !ok ∨ q.quiet ∨ !(q.state = 1 ∨ q.state = 2 ∨ q.state = 3) then (false, bump Reg.XPORT_UNSUP_DROPPED s)
  else (true, qpTouch i (if q.state = 1 then setQp i { q with state := 2 } s else s))

/-- A request packet arrives (R175, R176, R178, R193, R199, R216). -/
def rxPacket (i : Nat) (p : Pkt) (r : Rdma) (data : Nat) (s : State) : State :=
  let q := qpAt s i
  let wide : Bool := match r with
    | .cas16 .. => true
    | _ => false
  if !p.icrcOk then bumpAt (Reg.NET_ICRC_ERR (p.port / 8 % 8)) (p.port % 8) 1 s
  else if !p.ok ∨ q.quiet ∨ !(q.state = 1 ∨ q.state = 2 ∨ q.state = 3) ∨ (wide ∧ !(q.spray && q.atom16)) then bump Reg.XPORT_UNSUP_DROPPED s
  else if q.state = 3 then s
  else if p.esp = 2 then bump Reg.XPORT_ICV_DISCARD s
  else
    let s := cnpMaybe i p (qpTouch i (modQp i (fun q => { q with state := 2 }) s))
    let isWin : Bool := match r with
      | .send _ => false
      | _ => true
    let s := if isWin && p.esp == 1 then bump Reg.WIN_ICV_HOLDS s else s
    if q.spray then rxSpray i p r data s else rxStd i p r data s

/-! ### Stalled accesses that may go on -/

/-- Fault in the pages of a pinned window that are still absent, at its owner (R208, R224). -/
def pinFault (w : Nat) (s : State) : State :=
  let x := winAt s w
  if !x.pin ∨ x.state = 0 ∨ x.state = 3 ∨ !ownsSlot s x.slot then s
  else (List.range x.pages).foldl (fun s p => faultPage w p s) s

/-- Fault in pages that stalled accesses and pinned windows still need, where a page has come free (R210). -/
def faultRetry (s : State) : State :=
  s.win.windows.foldl (fun s w => pinFault w.1 s) (s.win.stalled.foldl (fun s a => accFault a s) s)

/-- A pinned window of a namespace still has pages to make resident (R224). -/
def pinPending (s : State) (slot : Nat) : Bool :=
  s.win.windows.any fun w => w.2.pin && w.2.state == 2 && w.2.slot == slot && (List.range w.2.pages).any fun p => !pageResident s w.1 p

/-- Execute the stalled accesses whose pages are resident, in order, and let their queue pairs go on (R212, R213). -/
def stallRelease : Nat → State → State
  | 0, s => s
  | n + 1, s =>
    match s.win.stalled.find? fun a => accReady s a with
    | none => s
    | some a =>
      let s := accExec a { s with win := { s.win with stalled := s.win.stalled.erase a } }
      let s := if a.ring ∨ a.fwd.isSome then s
        else
          let s := qpExecuted a.ctx a.msn s
          stdRelease a.ctx (qpAt s a.ctx).behind.length s
      stallRelease n s

/-- Let everything that waits for pages go on. -/
def stallGo (s : State) : State := stallRelease s.win.stalled.length (faultRetry s)

/-- Every station stops: no queue pair and no connection is left (R355). -/
def xportEnd (s : State) : State :=
  { s with
    xp := { s.xp with qps := [], cache := [], waits := [], tcp := [] }
    win := { s.win with stalled := s.win.stalled.filter (fun a => a.ring), tally := [] } }

/-! ### Retransmission (R180, R192) -/

/-- Resend one packet, on a path other than its last where there is one; more often than the REQ's retry count allows moves a spray queue pair to
ERROR. What an RNR NAK refused is not counted so. -/
def resend (i : Nat) (rnr : Bool) (p : SentPkt) (s : State) : State :=
  let q := qpAt s i
  if q.spray ∧ !rnr ∧ q.retry < p.sends then qpError i 0 s
  else
    let path := if 1 < q.spread then (if q.path = p.path then (p.path + 1) % q.spread else q.path) else 0
    let again (x : SentPkt) : SentPkt := { x with sends := if rnr then x.sends else x.sends + 1, path := path }
    let s := setQp i { q with sent := q.sent.map fun x => if x.psn = p.psn then again x else x } s
    drive (.roce i (.request p.psn path true)) (bump Reg.XPORT_RETX_PKTS s)

/-- Resend several packets, while the queue pair stands. -/
def resendAll (i : Nat) (rnr : Bool) (ps : List SentPkt) (s : State) : State :=
  ps.foldl (fun s p => if (qpAt s i).state = 4 then s else resend i rnr p s) s

/-- Whether an acknowledgement covers a PSN. -/
def ackCovers (psn : Nat) (sack : List (Nat × Nat)) (n : Nat) : Bool :=
  decide (psnRel n psn < 2 ^ 23) || sack.any fun r => decide (psnRel r.1 n < r.2)

/-- A stage of recovery of the reaction point (R200). -/
def rcRecover (s : State) (q : Qp) : Qp :=
  let g := cfg s Reg.XPORT_RC_G
  let f := cfg s Reg.XPORT_RC_F
  let alpha := Dy.mul { n := 1024 - g, e := 10 } q.alpha
  let stage := q.stage + 1
  let target := if 2 * f < stage then q.target.add (Dy.ofNat (cfg s Reg.XPORT_RC_HAI_MBS))
    else if f < stage then q.target.add (Dy.ofNat (cfg s Reg.XPORT_RC_AI_MBS))
    else q.target
  let target := target.min (Dy.ofNat q.lineMbs)
  { q with alpha := alpha, stage := stage, target := target, rate := (q.rate.add target).half }

/-- A CNP at the reaction point (R200). -/
def rcReduce (s : State) (q : Qp) : Qp :=
  let g := cfg s Reg.XPORT_RC_G
  let cut := Dy.mul q.rate ((Dy.ofNat 2).sub q.alpha).half
  { q with
    target := q.rate
    rate := (Dy.ofNat (cfg s Reg.XPORT_RC_RATE_MIN_MBS)).max cut
    alpha := (Dy.mul { n := 1024 - g, e := 10 } q.alpha).add { n := g, e := 10 }
    stage := 0 }

end Sys2Proof.Machine
end

