-- ==== Sys2Proof/Machine/Cache.lean ====
section
/-!
DEFINITION. Machine/Cache.lean: write data arriving, writers taking effect or failing, flushes, and memory errors in the cache
(spec/02, spec/03, rows 29 to 36).
-/
namespace Sys2Proof.Machine

/-- WRITE_BLOCK_PLACED: a block of write data arrives (R44, R67, R162). -/
def execWriteBlockPlaced (id lba data : Nat) (s : State) : Res := .next <| blockArrives id lba data (epArrived (.writeData id lba) s)

/-- WRITER_TAKE_EFFECT: a writer whose turn has come takes effect (R44). -/
def execWriterTakeEffect (id : Nat) (s : State) : Res := .next <| takeEffect id s

/-- WRITER_FAIL: a writer fails before taking effect (R46, R53). `access` tells a host access ended by bus-master clear or function
reset (R60); otherwise the transfer failed. A traverse whose pull fails is abandoned with reason 2 (R162). -/
def execWriterFail (id : Nat) (access : Bool) (s : State) : Res := .next <|
  match ctxAt s id with
  | none => s
  | some c =>
    match tfind s.trav.open_ fun _ v => v.ctx == id && v.remote.isNone with
    | some (t, _) =>
      if !(travStaging s).contains t then s
      else travAbandon t 2 (if access then some (7, 0x91, some false) else none) s
    | none =>
    if c.state ≠ .waiting ∨ !c.writer then s
    else if access then failWriter id 7 0x91 (some false) 0 s
    else failWriter id 0 0x04 none 0 s

/-- GATHER_AGE_EXPIRE: a frame's oldest dirty block passes `GATHER_AGE_US` (R70, Table 3). -/
def execGatherAgeExpire (slot parcel stripe : Nat) (s : State) : Res := .next <|
  let k := stripeKey slot parcel stripe
  match tget s.store.frames k with
  | none => s
  | some f => if f.st = .gathering ∧ f.dirty ≠ 0 then setFrame false k { f with queued := true } s else s

/-- A parcel's first flush: it is FORMATTING, and the generation of its unwritten stripes is drawn (R105, R106). -/
def formatBegin (slot parcel : Nat) (s : State) : State :=
  let i := entIdx s slot parcel
  match drawGen slot parcel s with
  | (none, s) => s
  | (some (g, _), s) =>
    let s := setEnt i { entAt s i with state := 2, format := 0 } s
    persist i (leaseNow s i) { s with store := { s.store with fmtGen := tset s.store.fmtGen i g } }

/-- FLUSH_START: the next frame, FULL first and then the oldest, starts its flush (R70); the first flush of an UNWRITTEN parcel starts
its formatting instead (R105, R106). None starts after an accepted power failure, while arbitrating or fenced (R80, R354). -/
def execFlushStart (s : State) : Res := .next <|
  if s.vault.accepted ∨ s.pair.state = 4 ∨ s.pair.state = 6 ∨ s.pwr.fatal then s
  else match nextFlush s with
    | none => s
    | some k => match tget s.store.frames k with
      | none => s
      | some f =>
        if (entAt s (entIdx s f.slot f.parcel)).state = 1 then formatBegin f.slot f.parcel s
        else startFlush k s

/-- JOURNAL_RECORD_WRITTEN: a flush's record is on its journal homes; its strips are written (R72, R144). -/
def execJournalRecordWritten (slot parcel stripe : Nat) (s : State) : Res := .next <|
  let k := stripeKey slot parcel stripe
  match tget s.store.frames k with
  | none => s
  | some f => match f.flush with
    | none => s
    | some fl =>
      let out := (allCmds s).any fun c => match c.purpose with
        | .journal j => j == fl.jseq && !c.discard
        | _ => false
      if fl.stage = 1 ∧ !out then flushStrips k s else s

/-- FLUSH_STRIPS_DONE: every strip of a flush is on its members (R68, R144). -/
def execFlushStripsDone (slot parcel stripe : Nat) (s : State) : Res := .next <|
  let k := stripeKey slot parcel stripe
  match tget s.store.frames k with
  | none => s
  | some f => match f.flush with
    | none => s
    | some fl => if fl.stage = 2 ∧ fl.left = 0 then stallGo (travRetire (flushDone k s)) else s

/-- Remove a block from a frame and from its row's P and Q. -/
def Frame.remove (f : Frame) (c : Nat) : Frame :=
  match tget f.cells c with
  | none => f
  | some x =>
    let d := x.blk.cov
    let b := c % 16
    let cells := tdel f.cells c
    { f with
      cells := cells
      p := tset f.p b (tgetD f.p b 0 ^^^ d)
      q := tset f.q b (tgetD f.q b 0 ^^^ gfPow (c / 16) d)
      st := if f.st = .full then (if cells.any fun y => y.2.dirty then .gathering else .clean) else f.st }

/-- Drop a block from its frame or the extension. -/
def dropCell (slot lba : Nat) (s : State) : State :=
  let (k, c) := cellOf s slot lba
  extDrop slot lba { s with store := { s.store with
    frames := tmod s.store.frames k fun f => f.remove c
    succs := tmod s.store.succs k fun f => f.remove c } }

/-- The P and Q of a frame, recomputed over the blocks present (R78). -/
def Frame.recompute (f : Frame) : Frame :=
  f.cells.foldl (fun g x => { g with
    p := tset g.p (x.1 % 16) (tgetD g.p (x.1 % 16) 0 ^^^ x.2.blk.cov)
    q := tset g.q (x.1 % 16) (tgetD g.q (x.1 % 16) 0 ^^^ gfPow (x.1 / 16) x.2.blk.cov) }) { f with p := [], q := [] }

/-- MEMORY_ERROR of R78, Table 6: `kind` 0 a correctable error, 1 an uncorrectable one of a clean block or the extension, 2 of a dirty
block, 3 of a frame's P or Q, 4 of the mirror region. -/
def execMemoryError (kind slot lba : Nat) (s : State) : Res := .next <|
  let d := leBytes 2 slot ++ leBytes 8 lba
  if kind = 0 then bump (Reg.HDR_ERR_CNT_CORR 0x22) s
  else if kind = 1 then
    match visCell s slot lba with
    | some c => if c.dirty then s else raise 0x2209 d (bump (Reg.HDR_ERR_CNT_UNCORR 0x22) (dropCell slot lba s))
    | none => if thas s.store.ext (blkKey slot lba) then raise 0x2209 d (bump (Reg.HDR_ERR_CNT_UNCORR 0x22) (extDrop slot lba s)) else s
  else if kind = 2 then
    match visCell s slot lba with
    | none => s
    | some c =>
      if !c.dirty then s
      else if inPair s then raise 0x2209 d (bump (Reg.HDR_ERR_CNT_UNCORR 0x22) s)
      else raise 0x220A d (lossAdd slot 5 lba 1 (bump (Reg.HDR_ERR_CNT_UNCORR 0x22) (dropCell slot lba s)))
  else if kind = 3 then
    let (k, _) := cellOf s slot lba
    if thas s.store.frames k then
      raise 0x2209 d (bump (Reg.HDR_ERR_CNT_UNCORR 0x22) { s with store := { s.store with
        frames := tmod s.store.frames k Frame.recompute, succs := tmod s.store.succs k Frame.recompute } })
    else s
  else if kind = 4 then
    if s.store.mirror.any fun m => m.slot == slot && m.lba == lba then raise 0x2209 d (bump (Reg.HDR_ERR_CNT_UNCORR 0x22) s) else s
  else s

end Sys2Proof.Machine
end

