-- ==== Sys2Proof/Machine/DriveIo.lean ====
section
/-!
DEFINITION. Machine/DriveIo.lean: completions from the members, read deadlines, parity jobs, persistence of the Cadastre, the formatter
and the layout status page (spec/04, rows 46 to 53).
-/
namespace Sys2Proof.Machine

/-- Fail the writers whose stamp reads could not be made (R55, R129). -/
def settleFailed (s : State) : State :=
  (s.nvm.ctxs.filter fun p => p.2.writer && p.2.state == .failed && p.2.cleanMseq.isNone).foldl (fun s p =>
    match p.2.err with
    | none => s
    | some (sct, sc, dnr, dw0) => failWriter p.1 sct sc dnr dw0 s) s

/-- Count a block that fails a check of R115 (Table 10). -/
def countCheck (k : Nat) (s : State) : State :=
  if k = 1 then bump Reg.PARITY_RECON_RMAP s
  else if k = 2 then bump Reg.PARITY_RECON_WGEN s
  else if k = 3 then bump Reg.PARITY_RECON_TAG s
  else if k = 4 then bump Reg.PARITY_RECON_GUARD s
  else s

/-- A block under a key epoch whose slot holds no key fails its tag (R274). -/
def keyed (s : State) (slot kepoch : Nat) (r : Raw) : Raw :=
  if (ksAt s slot kepoch).state = 0 then { r with tagOk := false } else r

/-- What the checks of R115 say of a cell read: 0 passes, 1 to 4 the failing check, 5 not read. -/
def cellCheck (s : State) (x : Job) (c : Nat) (r : Raw) : Nat :=
  let e := entAt s (entIdx s x.slot x.parcel)
  if !r.ok then 5
  else if c < 16 * x.n then checkData e x.slot (x.lba c) (keyed s x.slot (Blk.ofCov r.cov).kepoch r)
  else checkParity e (keyed s x.slot r.pkepoch r)

/-- Take the blocks a strip read delivered into its job (R115, R117). -/
def takeRead (j strip : Nat) (rows : List Nat) (raws : List Raw) (s : State) : State :=
  match jobAt s j with
  | none => s
  | some x =>
    let (x, s) := (rows.zip raws).foldl (fun (acc : Job × State) p =>
      let c := strip * 16 + p.1
      let k := cellCheck acc.2 acc.1 c p.2
      if thas acc.1.got c then acc
      else if k = 0 then ({ acc.1 with got := tset acc.1.got c p.2 }, acc.2)
      else ({ acc.1 with bad := tset acc.1.bad c k }, countCheck k acc.2)) (x, s)
    jobStep j (setJob j x (opened x.slot raws s))

/-- A late completion for a quarantined tag is discarded and lifts the quarantine: code 0x10, event 0x3003 (R314). -/
def lateCompletion (k : Nat) (s : State) : State :=
  let n := k / 16384
  raise (0x3003 + 256 * n) (n :: leBytes 2 (k % 16384))
    (freeCmd k (bump (Reg.RP_LATE_CPL n) (errLast (0x30 + n) 0x10 0 3 s)))

/-- A strip read completes, on this controller's port or the partner's (R115, R117, R126). -/
def driveReadDone (tag : Nat) (raws : List Raw) (s : State) : State :=
  match tget s.store.cmds tag with
  | none => s
  | some c =>
    if c.quarantined then lateCompletion tag s
    else if c.write then s
    else
      let s := freeCmd tag s
      if c.discard then (if c.hedged then bump Reg.PARITY_HEDGE_LATE s else s)
      else match c.purpose with
        | .read j strip rows _ =>
          let late := c.hedged && (jobAt s j).elim true fun x => rows.all fun b => thas x.got (strip * 16 + b)
          settleFailed (takeRead j strip rows raws (if late then bump Reg.PARITY_HEDGE_LATE s else s))
        | .remote t => zsend (.stripRsp t (raws.all fun r => r.ok) raws) s
        | _ => s

/-- DRIVE_READ_COMPLETE: a strip read completes; `raws` are its blocks, in the order of the rows it asked for (R115, R117). -/
def execDriveReadComplete (tag : Nat) (raws : List Raw) (s : State) : Res := .next <| driveReadDone tag raws s

/-- Frames of a parcel the formatter wrote become CLEAN once its entry is WRITTEN on every home copy (R106). -/
def formattedClean (idx : Nat) (s : State) : State :=
  match entOwner s idx with
  | none => s
  | some (slot, parcel) =>
    (s.store.frames.filter fun f => f.2.slot == slot && f.2.parcel == parcel && f.2.formatted).foldl (fun s f =>
      let carried := (f.2.cells.filter fun c => c.2.dirty).map fun c => (cellLba f.2.layout parcel f.2.stripe c.1, c.2.adm)
      let s := setFrame false f.1 { f.2 with
        cells := tmap f.2.cells fun _ c => { c with dirty := false, wt := false }
        st := .clean, queued := false, formatted := false } s
      let s := match tget s.store.succs f.1 with
        | none => s
        | some g => { s with store := { s.store with frames := tset s.store.frames f.1 g, succs := tdel s.store.succs f.1 } }
      carriedClean slot carried s) s

/-- The OLD key of a namespace is destroyed on both controllers once no parcel has `SWEEP` on any home copy (R273). -/
def sweepRetire (slot : Nat) (s : State) : State :=
  let o := 1 - ksCurrent s slot
  let left : Bool := match nsAt s slot with
    | none => true
    | some n => (List.range n.parcels).any fun p =>
        (entAt s (n.base + p)).sweep || (tgetD s.store.home (n.base + p) {}).sweep || thas s.store.homeLeft (n.base + p)
  let asked : Bool := s.pair.records.any fun r => match r.2.what with
    | .keyRetire sl k => sl == slot && k == o
    | _ => false
  if left ∨ asked ∨ (ksAt s slot o).state ≠ 2 then s
  else requestRecord (.keyRetire slot o) .nothing (keyRetire slot o) id s

/-- A home write of an entry is done; with the last, the entry is persisted (R110). -/
def homeWritten (idx : Nat) (s : State) : State :=
  match tget s.store.homeLeft idx with
  | none => s
  | some n =>
    if 1 < n then { s with store := { s.store with homeLeft := tset s.store.homeLeft idx (n - 1) } }
    else
      let e := tgetD s.store.homeSnap idx {}
      let s := { s with store := { s.store with
        homeLeft := tdel s.store.homeLeft idx, homeSnap := tdel s.store.homeSnap idx, home := tset s.store.home idx e } }
      let s := if e.state = 3 then formattedClean idx s else s
      let s := match entOwner s idx with
        | some (slot, _) => if (nsAt s slot).any fun n => ownsNs s n then sweepRetire slot s else s
        | none => s
      stallGo (travRetire (resumeDeferred s))

/-- A write completes, advancing what issued it (R68, R110, R126, R144). -/
def driveWriteDone (tag : Nat) (ok : Bool) (s : State) : State :=
  match tget s.store.cmds tag with
  | none => s
  | some c =>
    if c.quarantined then lateCompletion tag s
    else if !c.write then s
    else
      let s := freeCmd tag s
      if c.discard then s
      else match c.purpose with
        | .flushWrite k =>
          if ok then { s with store := { s.store with frames := tmod s.store.frames k fun f => { f with
            flush := f.flush.map fun fl => { fl with left := fl.left - 1 } } } }
          else
            replan k false s
        | .home idx => homeWritten idx s
        | .remote t => zsend (.stripRsp t ok []) s
        | _ => s

/-- DRIVE_WRITE_COMPLETE: a write completes, advancing what issued it (R68, R110, R126, R144). -/
def execDriveWriteComplete (tag : Nat) (ok : Bool) (s : State) : Res := .next <| driveWriteDone tag ok s

/-- The strips of a job's stripe that count as erasures (R116). -/
def stripErasures (s : State) (x : Job) : List Nat :=
  (List.range (x.n + 2)).filter fun j =>
    jobDead s x j || x.bad.any (fun b => b.1 / 16 == j) ||
      s.store.jobs.any fun y => y.2.slot == x.slot && y.2.parcel == x.parcel && y.2.stripe == x.stripe && y.2.hedged.contains j

/-- DEADLINE_EXPIRE: a strip read passes D_read: hedged by reconstruction reads, or the wait is counted where the stripe already has two
erasures (R116, event 0x2302). -/
def execDeadlineExpire (tag : Nat) (s : State) : Res := .next <|
  match tget s.store.cmds tag with
  | none => s
  | some c => match c.purpose with
    | .read j strip _ _ =>
      if c.write ∨ c.discard ∨ c.hedged ∨ !c.deadline then s
      else match jobAt s j with
        | none => s
        | some x =>
          if 2 ≤ (stripErasures s x).length then
            raise 0x2302 (leBytes 2 x.slot ++ leBytes 4 x.parcel ++ [x.stripe % 256])
              (bump Reg.PARITY_HEDGE_LIMITED (setJob j { x with waited := true } s))
          else
            let s := bump Reg.PARITY_HEDGES { s with store := { s.store with cmds := tset s.store.cmds tag { c with hedged := true } } }
            settleFailed (jobStep j (setJob j { x with hedged := x.hedged ++ [strip] } s))
    | _ => s

/-- The full data of a row of a job, recovered from what has been read (R98). -/
def rowData (x : Job) (b : Nat) : Option (List (Nat × Nat)) :=
  let ds := ((List.range x.n).filterMap fun j => (tget x.got (j * 16 + b)).map fun r => (j, r.cov))
  recoverRow x.n ds ((tget x.got (x.n * 16 + b)).map fun r => r.cov) ((tget x.got ((x.n + 1) * 16 + b)).map fun r => r.cov)

/-- The covered bytes of a cell in a recovered row. -/
def cellOfRow (x : Job) (ds : List (Nat × Nat)) (c : Nat) : Nat :=
  let j := c / 16
  if j < x.n then (ds.find? fun (d : Nat × Nat) => d.1 == j).elim 0 fun d => d.2
  else if j = x.n then rowP ds else rowQ ds

/-- A block that failed a check of R115 and was reconstructed is rewritten in place, and event 0x2301 raised; that of a P or Q block names the
block of data strip 0 in its row (R113, R115, R122). `gen` is the generation it is sealed under. -/
def rewriteCell (x : Job) (c cov : Nat) (gen : Nat × Nat) (s : State) : State :=
  match tget x.bad c with
  | none => s
  | some k =>
    if k = 5 then s
    else
      let (bay, lba) := locate (setMask s x.place.mset) x.place x.stripe (c / 16) (c % 16)
      let s := issueSealed x.slot bay lba 1 .other [{ cov := cov, gen := gen.1, kepoch := gen.2 }] s
      let s := match x.kind with
        | .hostRead _ => if k = 3 then bump Reg.CIPHS_RESENT s else s
        | _ => s
      raise 0x2301 (leBytes 2 x.slot ++ leBytes 8 (x.lba (if c < 16 * x.n then c else c % 16)) ++ [k]) s

/-- Reconstruct the erased cells of one row: those that pass R115 again are taken; a result that does not counts one more erasure, P
first, then Q (R98, R115, R135). -/
def rebuildRow (b : Nat) (x : Job) (s : State) : Job × State :=
  match rowData x b with
  | none => (x, s)
  | some ds =>
    let e := entAt s (entIdx s x.slot x.parcel)
    let want := x.missing.filter fun c => c % 16 == b && jobErased s x c
    let lostData := ((List.range x.n).map fun j => j * 16 + b).filter fun c => !thas x.got c
    if lostData.all fun c => checkRebuilt e x.slot (x.lba c) (cellOfRow x ds c) then
      let s := if lostData.length = 2 then bump Reg.PARITY_DECODE_DOUBLE s else s
      let s := lostData.foldl (fun s c =>
        let v := cellOfRow x ds c
        rewriteCell x c v ((Blk.ofCov v).wgen, (Blk.ofCov v).kepoch) s) s
      let s := [x.n * 16 + b, (x.n + 1) * 16 + b].foldl (fun s c => rewriteCell x c (cellOfRow x ds c) (rowGen e ds) s) s
      let cells := (want ++ lostData).eraseDups
      ({ x with got := cells.foldl (fun t c => tset t c { cov := cellOfRow x ds c }) x.got }, s)
    else
      let pc := x.n * 16 + b
      let pick := if thas x.got pc then pc else (x.n + 1) * 16 + b
      ({ x with got := tdel x.got pick, bad := tset x.bad pick 4 }, s)

/-- The parity class of a job (R119, R118). -/
def Job.cls (x : Job) : Nat :=
  match x.kind with
  | .flush _ => 0
  | _ => 1

/-- The strip reads of a job that are still out, hedged, when its reconstruction has the rows: hedges won (R116). -/
def hedgesWon (s : State) (j : Nat) (hedged : List Nat) : Nat :=
  s.store.cmds.foldl (fun n c => match c.2.purpose with
    | .read k strip _ _ => if k = j ∧ c.2.hedged ∧ hedged.contains strip then n + 1 else n
    | _ => n) 0

/-- PARITY_JOB_DONE: a sequencer finishes a job's rows (R119). -/
def execParityJobDone (j : Nat) (s : State) : Res := .next <|
  match jobAt s j with
  | none => s
  | some x =>
    if !x.recon then s
    else
      let rows := (reconRows s x).filter fun b => decide ((rowErased s x b).length ≤ 2)
      let (y, s) := rows.foldl (fun (acc : Job × State) b => rebuildRow b acc.1 acc.2) (x, s)
      let s := parityBytes x.cls (4096 * (rows.flatMap fun b => rowNeeds s x b).length) s
      let s := bumpAt Reg.PARITY_HEDGE_WON 0 (hedgesWon s j x.hedged) s
      settleFailed (jobStep j (setJob j { y with recon := false } s))

/-- SEQUENCER_FAIL: removed, and its jobs run again on the others; event 0x2304 (R120). -/
def execSequencerFail (i : Nat) (s : State) : Res := .next <|
  if 8 ≤ i ∨ s.store.seqFailed.contains i then s
  else raise 0x2304 [i] { s with
    store := { s.store with seqFailed := s.store.seqFailed ++ [i] }
    arch := { s.arch with parityOut := (i :: s.arch.parityOut).eraseDups } }

/-- Whether an entry's home copies are behind it. -/
def entStale (s : State) (i : Nat) : Bool :=
  let h := tgetD s.store.home i {}
  tgetD s.store.cad i {} != { h with gen := (entAt s i).gen }

/-- CADASTRE_PERSIST_TIMER: a changed entry is written to every available home copy (R110). -/
def execCadastrePersistTimer (idx : Nat) (s : State) : Res := .next <|
  if entStale s idx ∧ !thas s.store.homeLeft idx ∧ !s.vault.accepted then persist idx (leaseNow s idx) s else s

/-- The frame the formatter writes a stripe from: a dirty frame with its absent blocks taken as zeros under its generation (R106). -/
def formatFrame (f : Frame) (now : Nat) : Frame :=
  ((List.range (16 * f.n)).filter fun c => !thas f.cells c).foldl (fun g c =>
    g.put c { blk := zeroBlk f.slot (cellLba f.layout f.parcel f.stripe c) f.gen f.kepoch, dirty := true, adm := 0 } now) f

/-- The blocks of a stripe, in cell order, with P and Q rows after the data. -/
def stripeBlocks (n : Nat) (data : Nat → Blk) (gen kepoch : Nat) : List (Nat × Stored) :=
  let d := (List.range (16 * n)).map fun c => (c, ({ cov := (data c).cov, gen := gen, kepoch := kepoch } : Stored))
  let row (b : Nat) : List (Nat × Nat) := (List.range n).map fun j => (j, (data (j * 16 + b)).cov)
  let p := (List.range 16).map fun b => (n * 16 + b, ({ cov := rowP (row b), gen := gen, kepoch := kepoch } : Stored))
  let q := (List.range 16).map fun b => ((n + 1) * 16 + b, ({ cov := rowQ (row b), gen := gen, kepoch := kepoch } : Stored))
  d ++ p ++ q

/-- Write a whole stripe, a strip a command, with its journal record retired after it (R106, R144, R152): strips of bays that are omitted
set the bay's dirty bit, and the strip of a position being relocated goes to its spare as well (R128, R133). `flags` are those of byte 27 of
the record. -/
def writeStripe (slot parcel st : Nat) (place : CadEntry) (blocks : List (Nat × Stored)) (gen kepoch flags adm : Nat) (s : State) : State :=
  let n := stripeN place.layout st
  let idx := entIdx s slot parcel
  let rel := relocating s idx
  let fill := filling s idx place
  let (j, s) := journalAdd (.stripe slot parcel st (List.range 16) (List.range (n + 2)) place gen kepoch 0
    (rel.getD (fill.getD 31)) (flags + b2n rel.isSome + 8 * b2n fill.isSome) adm) true (markOmitted idx place st s)
  let bays := maskBays (setMask s place.mset)
  let s := (List.range (n + 2)).foldl (fun s k =>
    let (bay, lba) := locate (setMask s place.mset) place st k 0
    let data := (blocks.filter fun b => b.1 / 16 == k).map fun b => b.2
    let s := if bayWrites s idx bay then issueSealed slot bay lba 16 .other data s else s
    let (r, q) := position bays.length place st k
    if rel = some q then issueSealed slot (posBay bays place.seed (spareFor bays.length place)) ((place.column + r) * 16) 16 .other data s
    else s) s
  journalRetire j s

/-- FORMAT_STRIPE: the formatter writes the next stripe of a FORMATTING parcel and advances `FORMAT`; at the last the parcel is WRITTEN and
the entry persisted (R105, R106). A frame it writes is FLUSHING, so that later writers take a successor (R69), until that entry is on every
home copy. -/
def execFormatStripe (slot parcel : Nat) (s : State) : Res := .next <|
  let idx := entIdx s slot parcel
  let e := entAt s idx
  if e.state ≠ 2 ∨ s.vault.accepted ∨ !ringRoom s then s
  else
    let st := e.format
    let k := stripeKey slot parcel st
    let n := stripeN e.layout st
    let s := match tget s.store.frames k with
      | some f =>
        if f.dirty = 0 then
          let g := tgetD s.store.fmtGen idx e.gen
          writeStripe slot parcel st e (stripeBlocks n (fun c => zeroBlk slot (cellLba e.layout parcel st c) g e.epoch) g e.epoch) g e.epoch 4 0 s
        else
          let f := formatFrame f s.time
          let adm := f.cells.foldl (fun a c => max a c.2.adm) 0
          writeStripe slot parcel st e (stripeBlocks n (fun c => (tget f.cells c).elim {} fun x => x.blk) f.gen f.kepoch) f.gen f.kepoch 4 adm
            (setFrame false k { f with st := .flushing, formatted := true } s)
      | none =>
        let g := tgetD s.store.fmtGen idx e.gen
        writeStripe slot parcel st e (stripeBlocks n (fun c => zeroBlk slot (cellLba e.layout parcel st c) g e.epoch) g e.epoch) g e.epoch 4 0 s
    let e := entAt s idx
    let last := st + 1 == stripesPer e.layout
    let s := setEnt idx { e with format := st + 1, state := if last then 3 else 2 } s
    if last then persist idx (leaseNow s idx) { s with store := { s.store with fmtGen := tdel s.store.fmtGen idx } } else s

/-- The entries of a namespace. -/
def nsEntries (s : State) (n : Ns) : List CadEntry := (List.range n.parcels).map fun p => entAt s (n.base + p)

/-- A position of an entry on a failed bay that is not relocated. -/
def entUnrelocated (s : State) (e : CadEntry) : Bool :=
  let mask := setMask s e.mset
  (maskBays mask).any fun b =>
    let st := (memberAt s b).state
    (st == 4 || st == 5) && (match bayPos mask e b with
      | none => false
      | some q => q != e.reloc0 && q != e.reloc1)

/-- Blocks the loss map covers in a namespace. -/
def lostBlocks (s : State) (slot : Nat) : Nat :=
  (s.store.loss.filter fun r => r.slot == slot).foldl (fun a r => a + r.blocks s) 0

/-- The namespaces a log page covers: the attached one named, or every one of the subsystem (R121, R141). -/
def pageSlots (s : State) (a : Assoc) (nsid : Nat) : Option (List Nat) :=
  if nsid = 0xFFFFFFFF then some ((s.nvm.nss.filter fun p => p.2.subsys == a.subsys && p.2.state == 2).map fun p => p.1)
  else (attachedSlot s a.subsys a.host nsid).map fun sl => [sl]

/-- LAYOUT_STATUS: log page 0xC2 (R121, Table 8): byte offset and value of each field. -/
def execLayoutStatus (q cid nsid : Nat) (s : State) : Res := .next <|
  match queueAssoc s q with
  | none => s
  | some a => match pageSlots s a nsid with
    | none => adminDone' q cid 0 0x0B s
    | some slots =>
      let nss := slots.filterMap fun sl => nsAt s sl
      let es := nss.flatMap fun n => nsEntries s n
      let cnt (p : CadEntry → Bool) : Nat := (es.filter p).length
      let bays := maskBays (curMask s)
      let r := s.store.reshape
      let base := if r.state ≠ 0 ∧ (r.kind = 1 ∨ slots.contains r.slot) then r.baseline else 2 ^ 64 - 1
      let fields : List (Nat × Nat) :=
        [(0, 1), (1, if nsid = 0xFFFFFFFF then 0xFF else (nss.head?).elim 0 fun n => n.layout), (2, bays.length),
         (3, cfg s Reg.CADASTRE_CAD_CTL % 4), (4, curMask s),
         (8, baysMask (bays.filter fun b => decide (3 ≤ (memberAt s b).state) && decide ((memberAt s b).state ≤ 5))),
         (16, cnt fun e => e.state != 0), (24, cnt fun e => e.state == 1), (32, cnt fun e => e.state == 2),
         (40, cnt fun e => e.reloc0 != 31), (48, cnt fun e => e.reloc1 != 31), (56, cnt (entUnrelocated s)),
         (64, slots.foldl (fun a sl => a + lostBlocks s sl) 0), (72, rd s Reg.PARITY_HEDGES), (80, base)]
      adminDone' q cid 0 0 (drive (.page q cid fields []) s)
where
  /-- Complete the page's command. -/
  adminDone' (q cid sct sc : Nat) (s : State) : State :=
    answer q cid sct sc (if sc = 0 then some false else none) 0 0 s

end Sys2Proof.Machine
end

