-- ==== Sys2Proof/Machine/AllocOps.lean ====
section
/-!
DEFINITION. Machine/AllocOps.lean: allocation of parcels in columns and of Cadastre entries in runs (R34, R99, R102, R103,
spec/04), and the lowest free capacity event (R62).
-/
namespace Sys2Proof.Machine

/-- The first strip a column may take (R103). -/
def firstColumn : Nat := 65536

/-- Strips of the smallest member of a set of bays (R103). -/
def setStrips (s : State) (mask : Nat) : Nat :=
  match (maskBays mask).map fun b => (memberAt s b).cap with
  | [] => 0
  | c :: cs => cs.foldl min c

/-- The rows of an entry's column. -/
def entRows (s : State) (e : CadEntry) : Nat := colRows e.layout (maskBays (setMask s e.mset)).length e.spares

/-- The columns in use, as first strip and rows, by first strip; a parcel being moved holds its new one too (R105), and one that an entry
released is held until the entry is on every home copy (R110). -/
def usedColumns (s : State) : Tab Nat :=
  let put (t : Tab Nat) (e : CadEntry) : Tab Nat := if e.state = 0 then t else tset t e.column (max (tgetD t e.column 0) (entRows s e))
  let t := s.store.home.foldl (fun t p => put t p.2) (s.store.cad.foldl (fun t p => put t p.2) [])
  match s.store.reshape.newPlace with
  | none => t
  | some e => tset t e.column (max (tgetD t e.column 0) (entRows s e))

/-- The gaps between the columns in use, as first strip and length. -/
def freeGaps (s : State) (mask : Nat) : List (Nat × Nat) :=
  let fin := setStrips s mask
  let (at_, gaps) := (usedColumns s).foldl (fun (acc : Nat × List (Nat × Nat)) p =>
    (max acc.1 (p.1 + p.2), if acc.1 < p.1 then acc.2 ++ [(acc.1, p.1 - acc.1)] else acc.2)) (firstColumn, [])
  if at_ < fin then gaps ++ [(at_, fin - at_)] else gaps

/-- Spare positions a new parcel of a layout keeps over `m` members (R99). -/
def newSpares (s : State) (layout m : Nat) : Nat := min (cfg s Reg.CADASTRE_CAD_CTL % 4) (m - layoutW layout)

/-- The Cadastre entries provided. -/
def entryLimit : Nat := 67108864

/-- Entries not UNALLOCATED. -/
def entriesUsed (s : State) : Nat := tcount s.store.cad fun _ e => e.state != 0

/-- Parcels of a layout the free columns hold. -/
def parcelsFor (s : State) (mask layout : Nat) : Nat :=
  let m := (maskBays mask).length
  if m < layoutW layout then 0
  else
    let r := colRows layout m (newSpares s layout m)
    (freeGaps s mask).foldl (fun a g => a + g.2 / r) 0

/-- `NSMGR.PARCELS_FREE` (R34). -/
def parcelsFree (s : State) : Nat := min (parcelsFor s (curMask s) 0) (entryLimit - entriesUsed s)

/-- The lowest free column of some rows. -/
def lowColumn (s : State) (mask rows : Nat) : Option Nat :=
  ((freeGaps s mask).find? fun g => decide (rows ≤ g.2)).map fun g => g.1

/-- The columns of `n` parcels, lowest first. -/
def takeColumns (rows : Nat) (n : Nat) : List (Nat × Nat) → List Nat
  | [] => []
  | g :: gs =>
    let k := min n (g.2 / rows)
    ((List.range k).map fun i => g.1 + i * rows) ++ takeColumns rows (n - k) gs

/-- Runs of entries in use, by base. -/
def usedRuns (s : State) : Tab Nat :=
  s.nvm.nss.foldl (fun t p => if p.2.parcels = 0 then t else tset t p.2.base p.2.parcels) []

/-- The lowest free run of entries that holds `n`. -/
def freeRun (s : State) (n : Nat) : Option Nat :=
  let (at_, found) := (usedRuns s).foldl (fun (acc : Nat × Option Nat) p =>
    (max acc.1 (p.1 + p.2), match acc.2 with
      | some b => some b
      | none => if acc.1 + n ≤ p.1 then some acc.1 else none)) (0, none)
  match found with
  | some b => some b
  | none => if at_ + n ≤ entryLimit then some at_ else none

/-- Move an index with the run it lies in. -/
def runMove (runs : List (Nat × Nat × Nat)) (i : Nat) : Nat :=
  match runs.find? fun r => decide (r.1 ≤ i) && decide (i < r.1 + r.2.1) with
  | none => i
  | some r => r.2.2 + (i - r.1)

/-- Close the gaps between runs: the storage cores move entries, touching no member (spec/04, The Cadastre). -/
def compactRuns (s : State) : State :=
  let (_, runs) := (usedRuns s).foldl (fun (acc : Nat × List (Nat × Nat × Nat)) p =>
    (acc.1 + p.2, acc.2 ++ [(p.1, p.2, acc.1)])) (0, [])
  let f := runMove runs
  let mv {α : Type} (t : Tab α) : Tab α := t.map fun p => (f p.1, p.2)
  { s with
    nvm := { s.nvm with nss := tmap s.nvm.nss fun _ n => { n with base := f n.base } }
    store := { s.store with
      cad := mv s.store.cad
      home := mv s.store.home
      homeLeft := mv s.store.homeLeft
      homeSnap := mv s.store.homeSnap
      fmtGen := mv s.store.fmtGen
      wrapHeld := s.store.wrapHeld.map f
      heldParcels := s.store.heldParcels.map f
      rbEntry := s.store.rbEntry.map f
      rbSkip := s.store.rbSkip.map f
      reshape := if s.store.reshape.kind = 1 then { s.store.reshape with baseline := f s.store.reshape.baseline } else s.store.reshape
      cmds := tmap s.store.cmds fun _ c => match c.purpose with
        | .home i => { c with purpose := .home (f i) }
        | _ => c
      scrubEntry := f s.store.scrubEntry
      members := tmap s.store.members fun _ m => { m with
        map := m.map.map fun l => l.map f
        started := m.started.map f
        done := m.done.map f } } }

/-- Event 0x2104 when the free parcels fall below `PARCELS_LOW` (R62). -/
def parcelsLow (before : Nat) (s : State) : State :=
  let n := parcelsFree s
  let low := cfg s Reg.NSMGR_PARCELS_LOW
  if low ≤ before ∧ n < low then raise 0x2104 (leBytes 8 n) s else s

/-- New UNWRITTEN entries for `n` parcels of a layout: lowest free columns, each `SEED` drawn from the DRBG (R99, R100). -/
def newEntries (layout epoch n : Nat) (s : State) : List CadEntry × State :=
  let mask := curMask s
  let m := (maskBays mask).length
  let sp := newSpares s layout m
  (takeColumns (colRows layout m sp) n (freeGaps s mask)).foldl (fun (acc : List CadEntry × State) c =>
    let (x, s) := drbgDraw acc.2
    (acc.1 ++ [{ state := 1, layout := layout, epoch := epoch, spares := sp, mset := s.store.msetCur, seed := x % 2 ^ 32, column := c }], s)) ([], s)

end Sys2Proof.Machine
end

