-- ==== Sys2Proof/Machine/VaultOps.lean ====
section
/-!
DEFINITION. Machine/VaultOps.lean: accepting a power failure, a FATAL, the vault image, and the closure of journalled rows (R22,
R23, R80 to R87, R90, R147, R171, R342, R412).
-/
namespace Sys2Proof.Machine

/-- Send STOPPING once before ranging stops (R342): cause 0 power failure, 1 FATAL, 2 orderly shutdown. -/
def sendStopping (cause : Nat) (s : State) : State :=
  if s.pairedNow ∧ !s.pair.stopSent then
    zsend (.stopping cause) { s with pair := { s.pair with stopSent := true } }
  else s

/-- Traverses at an accepted power failure (R171, Table 10): one whose CLOSURE record stands in the protected cache is committed,
every other is abandoned without a trace. -/
def travPower (s : State) : State :=
  let s := s.trav.open_.foldl (fun s p =>
    if p.2.state = .closing ∧ p.2.remote = none then
      match travLand p.2 false s with
      | none => s
      | some s => setTrav p.1 { p.2 with state := .closed, staged := [] } s
    else s) s
  { s with trav := { s.trav with open_ := tfilter s.trav.open_ fun _ v => v.state == .closed } }

/-- Work stopped at acceptance (R22, R80): commands end without completion, reads and jobs are dropped, forwarded and held
capsules too; drive writes already issued complete. -/
def stopWork (s : State) : State :=
  { s with
    nvm := { s.nvm with ctxs := [], queues := tmap s.nvm.queues fun _ q => { q with held := [] } }
    pair := { s.pair with fwds := [], fwdHeld := [] }
    win := { s.win with stalled := [], placing := [], tally := [], chains := [], revokes := [], binds := [], unbinds := [] }
    store := { s.store with
      jobs := []
      cmds := tmap s.store.cmds fun _ c => if c.write then c else { c with discard := true }
      cmdWait := s.store.cmdWait.filter fun c => c.write } }

/-- A commit that has not reached its closure, or an activation, is abandoned (R23, R379, R391). -/
def abandonPending (s : State) : State :=
  let begun : Bool := s.datum.phase == .waitPair || s.datum.phase == .armed
  let commit : Option Datum := if begun && s.datum.kind == .commit then s.datum.target else s.datum.tornCommit
  let revert : Option Datum :=
    if begun && (s.datum.kind == .revertManual || s.datum.kind == .revertExpired) then s.datum.target else s.datum.tornRevert
  { s with
    datum := { s.datum with phase := .idle, target := none, loading := false, tornCommit := commit, tornRevert := revert }
    trust := { s.trust with actState := 0, actTodo := [], actDone := [], actFailed := 0
                            queue := s.trust.queue.filter fun r => r.cont = .nothing } }

/-- Accept a power failure or begin a dump (R22, R23, R79 to R81): `src` 0 `PWRFAIL_N`, 1 the feed monitors, 2 a FATAL or reset.
Before replay it ends the start with nothing written (R411); with the vault short, and in FENCED, no image is written (R86,
R354). -/
def acceptPower (src : Nat) (s : State) : State :=
  if s.vault.accepted then s
  else
    let s := { s with vault := { s.vault with accepted := true, source := src, acceptAt := s.time, dumpDone := false, dumping := false } }
    let s := raise 0x2202 [src] s
    let s := if src = 2 then s else sendStopping 0 s
    let early := !s.pwr.online && !s.vault.replaying
    let none_ := early || s.vault.replaying || vaultShort s || s.pair.state == 6
    let s := travPower (abandonPending s)
    let s := stopWork s
    { s with
      pwr := { s.pwr with serving := false, startFail := s.pwr.startFail || (src != 2 && (early || s.vault.replaying)) }
      vault := { s.vault with replaying := false, dumping := !none_, dumpDone := none_ } }

/-- A FATAL (R412): service stops, STOPPING is sent, and with `FATAL_DUMP_EN` the vault is written unless the cause excludes it
(R81). -/
def fatalStop (code : Nat) (dump : Bool) (s : State) : State :=
  let s := sendStopping 1 s
  let s := { s with pwr := { s.pwr with fatal := true, fatalCode := code, admitStop := true } }
  let s := if dump && bitAt (cfg s Reg.CACHE_CACHE_CTL) 5 then acceptPower 2 s else s
  { s with pwr := { s.pwr with serving := false } }

/-- A FATAL event and the stop it brings. -/
def fatalEvent (code : Nat) (detail : List Nat) (dump : Bool) (s : State) : State := fatalStop code dump (raise code detail s)

/-- The key of a vault DATA record: `SOURCE`, `SLOT`, LBA in ascending order (R87). -/
def vdKey (d : VData) : Nat := d.source * 2 ^ 64 + d.slot * 2 ^ 48 + d.lba

/-- Add a block, keeping the highest admission number of one key. -/
def vdPut (t : Tab VData) (d : VData) : Tab VData :=
  match tget t (vdKey d) with
  | none => tset t (vdKey d) d
  | some o => if o.adm ≤ d.adm then tset t (vdKey d) d else t

/-- The dirty blocks of a frame. -/
def frameData (f : Frame) : List VData :=
  (f.cells.filter fun c => c.2.dirty).map fun c =>
    { source := 0, slot := f.slot, lba := cellLba f.layout f.parcel f.stripe c.1, adm := c.2.adm, blk := c.2.blk }

/-- Every DATA block of a dump, in order (R87): dirty blocks that have taken effect, dirty window blocks, and the mirror region. -/
def dumpData (s : State) : List VData :=
  let own := s.store.frames.flatMap (fun f => frameData f.2) ++ s.store.succs.flatMap fun f => frameData f.2
  let win := (s.store.resident.filter fun b => b.2.dirty && !b.2.poisoned).map fun b =>
    let slot := b.1 / 2 ^ 48
    ({ source := 0, slot := slot, lba := b.1 % 2 ^ 48, adm := (nsAt s slot).elim 1 fun n => n.adm + 1
       blk := mkBlk slot (b.1 % 2 ^ 48) b.2.data 0 0 false } : VData)
  let mir := (s.store.mirror.filter fun m => m.stage == 0).map fun m =>
    ({ source := 1, slot := m.slot, lba := m.lba, adm := m.adm, blk := m.blk } : VData)
  ((own ++ win ++ mir).foldl vdPut []).map fun p => p.2

/-- The image a dump writes (R85 to R87), in state WRITING. -/
def buildImage (s : State) : VaultImg :=
  let data := dumpData s
  { state := 1
    seq := s.vault.img.seq + 1
    members := baysMask ((maskBays (curMask s)).filter (memberPresent s))
    bootCount := s.trust.bootCount
    datumId := s.datum.active.id
    tAccept := s.vault.acceptAt
    dumpBytes := 4096 * data.length
    metaWritten := true
    dir := data.map fun d => (d.slot, d.lba, d.adm)
    adms := s.nvm.nss.map fun p => (p.1, p.2.adm)
    ents := s.store.cad.filter fun p => tgetD s.store.home p.1 {} != { p.2 with gen := (tgetD s.store.home p.1 {}).gen }
    resvs := s.nvm.nss.map fun p => (p.1, p.2.resv)
    outcomes := s.trav.outcomes
    windows := s.win.windows
    keys := s.win.keys
    data := data
    journal := s.store.unret ++ s.store.mirJournal }

/-- Write the header to every vault member (R82, R85). -/
def writeHeader (s : State) : State :=
  ((maskBays (curMask s)).filter (memberPresent s)).foldl (fun s b =>
    issueSys b .other (.vaultHeader s.vault.img.state s.vault.img.seq) s) s

/-- Persist an entry's lease at once, where a replay or a takeover must draw before its writes complete (R110). -/
def persistNow (i : Nat) (s : State) : State :=
  let e := entAt s i
  if e.state = 0 then s
  else
    let s := persist i (leaseFor e.gen) s
    { s with store := { s.store with
      home := tset s.store.home i { e with gen := leaseFor e.gen }
      homeLeft := tdel s.store.homeLeft i } }

/-- Place a block that has taken effect, whatever its entry's lease (R88 step 5, R75 at a takeover). -/
def landForced (slot lba adm : Nat) (b : Blk) (s : State) : State :=
  match landBlock slot lba adm false b s with
  | some s => s
  | none => (landBlock slot lba adm false b (persistNow (entIdx s slot (lba / 16384)) s)).getD s

/-- Write one block of a row in place, where its member is present. -/
def writeCell (slot : Nat) (place : CadEntry) (st c cov gen kepoch : Nat) (s : State) : State :=
  let (bay, lba) := locate (setMask s place.mset) place st (c / 16) (c % 16)
  if memberPresent s bay then issueSealed slot bay lba 1 .other [{ cov := cov, gen := gen, kepoch := kepoch }] s else s

end Sys2Proof.Machine
end

