-- ==== Sys2Proof/Machine/MemberOps.lean ====
section
/-!
DEFINITION. Machine/MemberOps.lean: members leaving and changing state, journal homes, home copies, rebuild and reshape bookkeeping
(R125 to R136, R144 to R154).
-/
namespace Sys2Proof.Machine

/-- Segments of the Cadastre home in use. -/
def segsUsed (s : State) : List Nat := (s.store.cad.map fun p => p.1 / 2097152).eraseDups

/-- Whether a segment's three places of R109 include a bay. -/
def segOnBay (s : State) (g b : Nat) : Bool :=
  let bays := maskBays (curMask s)
  let m := bays.length
  m != 0 && [g % m, (g + ceilDiv m 3) % m, (g + 2 * ceilDiv m 3) % m].any fun i => bays.getD i 24 == b

/-- A home for a controller's journal: the lowest ACTIVE bay that is a home of neither controller; else, where too few are left, one
that is not already its own (R145). -/
def newHome (s : State) (c : Nat) : Option Nat :=
  let own := homesOf s c
  let other := homesOf s (1 - c)
  match firstIdx 24 fun b => bayActive s b && !own.contains b && !other.contains b with
  | some b => some b
  | none => firstIdx 24 fun b => bayActive s b && !own.contains b

/-- Replace the homes of a controller. -/
def setHomes (c : Nat) (hs : List Nat) (s : State) : State :=
  if c = 1 then { s with store := { s.store with homes1 := hs } } else { s with store := { s.store with homes0 := hs } }

/-- The unretired part of the ring and the loss-map, dirty-map and checkpoint halves are copied to a new home (R145 step 3). -/
def homeCopy (b : Nat) (s : State) : State :=
  let s := s.store.unret.foldl (fun s r => issueSys b .other (.journal r) s) s
  let s := issueSys b .other (.loss s.store.loss.length) s
  let s := s.store.members.foldl (fun s m => (m.2.map.getD []).foldl (fun s i => issueSys b .other (.dirtyMap m.1 i) s) s) s
  s.store.checkpoints.foldl (fun s c => issueSys b .other (.checkpoint c.1 (c.2 / 65536) (c.2 % 65536)) s) s

/-- A controller with fewer than three homes takes a new one; its copies follow, ended by REHOME_DONE (R145). -/
def fillHomes (c : Nat) (s : State) : State :=
  if 3 ≤ (homesOf s c).length ∨ homesOf s c = [] ∧ !s.store.formed then s
  else match newHome s c with
    | none => s
    | some b =>
      let s := setHomes c (homesOf s c ++ [b]) s
      if c = s.pwr.ctrlId then homeCopy b { s with store := { s.store with rehoming := s.store.rehoming ++ [b] } } else s

/-- A journal home departs: event 0x2408, and a new home is taken (R145). -/
def homeGone (c b : Nat) (s : State) : State :=
  if !(homesOf s c).contains b then s
  else
    let s := setHomes c ((homesOf s c).filter fun h => h != b) s
    let s := if c = s.pwr.ctrlId then
        raise 0x2408 [b, c] { s with store := { s.store with rehoming := s.store.rehoming.filter fun h => h != b } }
      else s
    fillHomes c s

/-- The controllers whose journals the set carries: both in a pair (R142). -/
def journalCtrls (s : State) : List Nat := if s.pairedNow then [0, 1] else [s.pwr.ctrlId]

/-- The home copies that belong on a bay return to it when it is ACTIVE again (R146). -/
def homesBack (b : Nat) (s : State) : State :=
  (s.store.cad.filter fun p => segOnBay s (p.1 / 2097152) b).foldl (fun s p => persist p.1 (leaseNow s p.1) s) s

/-- A reshape that a departure suspended runs again when every bay of the sets is ACTIVE (R154). -/
def reshapeAuto (s : State) : State :=
  if s.store.reshape.state = 2 ∧ !s.store.reshape.byCmd ∧ (maskBays (s.store.mset0 ||| s.store.mset1)).all (bayActive s) then
    { s with store := { s.store with reshape := { s.store.reshape with state := 1 } } }
  else s

/-- Move a bay to a member state: event 0x2401, labels written, held frames planned again, and the limit evaluated (R125, R129, R130,
R73). -/
def bayState (b st : Nat) (s : State) : State :=
  let m := memberAt s b
  if m.state = st then s
  else
    let s := setMember b { m with state := st } s
    let s := raise 0x2401 [b, m.state, st] s
    let s := { s with store := { s.store with
      frames := tmap s.store.frames fun _ f => { f with heldRow := false }
      rbSkip := [] } }
    let s := if (List.range 24).any (bayHeld s) then s else { s with store := { s.store with heldParcels := [] } }
    let s := if st = 2 then reshapeAuto (homesBack b ((journalCtrls s).foldl (fun s c => fillHomes c s) s)) else s
    limitEval (writeLabels s)

/-- The commands a bay takes with it: reads become erasures, flushes that wrote to it are planned again, home and journal writes
are over (R68, R117). -/
def bayCmdsGone (b : Nat) (s : State) : State :=
  let gone := (allCmds s).filter fun c => c.bay == b && !c.discard
  let s := mapCmds (fun c => if c.bay == b then { c with discard := true } else c) s
  let s := gone.foldl (fun s c => match c.purpose with
    | .read j strip rows _ => takeRead j strip rows (rows.map fun _ => { ok := false }) s
    | .flushWrite k => replan k false s
    | .home idx => homeWritten idx s
    | .remote t => zsend (.stripRsp t false []) s
    | _ => s) s
  settleFailed s

/-- The cached blocks of a parcel whose move reverts are gathered in frames of its old placement (R154): those that are dirty, or that the old
placement does not hold, are dirty there. The journal records of its flushes name columns that are released, and are retired. -/
def reframe (slot parcel : Nat) (old : CadEntry) (s : State) : State :=
  let mine (f : Frame) : Bool := f.slot == slot && f.parcel == parcel
  let blocks (t : Tab Frame) : List (Nat × Cell) := (t.filter fun f => mine f.2).flatMap fun f =>
    f.2.cells.map fun (c : Nat × Cell) => (cellLba f.2.layout parcel f.2.stripe c.1, c.2)
  let newer (b : Blk) : Bool := b.kepoch != old.epoch || decide (old.gen < b.wgen)
  let fs := s.store.frames.filter fun f => mine f.2
  let js := fs.flatMap fun f => f.2.oldJ ++ (f.2.flush.map fun fl => fl.jseq).toList
  let keep := (blocks s.store.frames ++ blocks s.store.succs).filter fun c => c.2.dirty || newer c.2.blk
  let s := { s with store := { s.store with
    frames := tfilter s.store.frames fun _ f => !mine f, succs := tfilter s.store.succs fun _ f => !mine f } }
  let s := (js.filter fun j => j != 0).foldl (fun s j => journalRetire j s) s
  keep.foldl (fun s c =>
    let (_, st, i) := blockPlace old.layout c.1
    let k := stripeKey slot parcel st
    let f := tgetD s.store.frames k { slot := slot, parcel := parcel, stripe := st, layout := old.layout, n := stripeN old.layout st
                                      gen := (entAt s (entIdx s slot parcel)).gen, kepoch := (entAt s (entIdx s slot parcel)).epoch }
    setFrame false k (f.put i { c.2 with dirty := true } s.time) s) s

/-- A running reshape is suspended; the parcel being moved reverts to its old placement (R154, event 0x240D). -/
def reshapeSuspend (b : Option Nat) (s : State) : State :=
  let r := s.store.reshape
  if r.state ≠ 1 then s
  else
    let i := if r.kind = 0 then entIdx s r.slot r.baseline else r.baseline
    let s := if (entAt s i).state = 4 then setEnt i { entAt s i with state := 3 } s else s
    let s := { s with store := { s.store with reshape := { r with state := 2, byCmd := b.isNone, newPlace := none, cursor := 0 } } }
    let s := match r.newPlace, entOwner s i with
      | some _, some (slot, parcel) => reframe slot parcel r.oldPlace s
      | _, _ => s
    match b with
    | none => s
    | some b => raise 0x240D [b] s

/-- Home copies that stood on a bay are short until they are written elsewhere (R110, R146, event 0x2501). -/
def homesShort (gs : List Nat) (s : State) : State :=
  gs.foldl (fun s g =>
    let again := s.store.homeShort.contains g
    raise 0x2501 [g, if again then 1 else 2]
      (if again then s else { s with store := { s.store with homeShort := s.store.homeShort ++ [g] } })) s

/-- The entries of the Cadastre that place a strip on a bay, in its own position or in spare space that holds a relocated one. -/
def bayEntries (s : State) (b : Nat) : List Nat :=
  (s.store.cad.filter fun p => p.2.state != 0 && p.2.state != 5 &&
    ((bayPos (setMask s p.2.mset) p.2 b).isSome || (relPos (setMask s p.2.mset) p.2 b).isSome)).map fun p => p.1

/-- A bay's positions still to be relocated: a free spare position, or an earlier claim to the only one, decides (R132). -/
def rbTodo (s : State) (b : Nat) : List Nat :=
  (bayEntries s b).filter fun i =>
    let e := entAt s i
    match bayPos (setMask s e.mset) e b with
    | none => false
    | some q => q != e.reloc0 && q != e.reloc1 &&
        ((e.reloc0 == 31 && decide (1 ≤ e.spares)) || (e.reloc1 == 31 && decide (2 ≤ e.spares)))

/-- Bays in REBUILDING, the one that failed first leading (R132). -/
def rbBays (s : State) : List Nat :=
  let bs := (List.range 24).filter fun b => (memberAt s b).state == 4
  let early (a b : Nat) : Bool := decide ((memberAt s a).failOrder ≤ (memberAt s b).failOrder)
  bs.filter (fun a => bs.all (early a)) ++ bs.filter fun a => !bs.all (early a)

/-- Parcels of a bay left unrelocated. -/
def rbLeft (s : State) (b : Nat) : Nat :=
  ((bayEntries s b).filter fun i =>
    let e := entAt s i
    match bayPos (setMask s e.mset) e b with
    | none => false
    | some q => q != e.reloc0 && q != e.reloc1).length

/-- A bay in REBUILDING whose every position is done enters RETIRED: event 0x2404 or 0x2405 (R132). -/
def rbRetire (b : Nat) (s : State) : State :=
  if (memberAt s b).state ≠ 4 ∨ rbTodo s b ≠ [] then s
  else
    let left := rbLeft s b
    let s := bayState b 5 s
    let own := (bayEntries s b).filter fun i => (bayPos (setMask s (entAt s i).mset) (entAt s i) b).isSome
    if left = 0 then raise 0x2404 (b :: leBytes 4 own.length) s else raise 0x2405 (b :: leBytes 4 left) s

/-- A bay enters REBUILDING; held rows come under R136, and a rebuild in progress restarts at tier 1 (R127, R132). -/
def startRebuild (b : Nat) (s : State) : State :=
  let n := s.store.failSeq + 1
  let s := { s with store := { s.store with failSeq := n, rbEntry := none, rbStripes := [] } }
  let m := memberAt s b
  let s := setMember b { m with failOrder := n, returnArmed := false, done := [], started := [], todo := (rbTodo s b).length } s
  rbRetire b (bayState b 4 s)

/-- A member departs (R126, R127, R128, R148): `cause` 0 presence, 1 power-good, 2 port, 3 drive report, 4 command. -/
def memberDepart (b cause : Nat) (s : State) : State :=
  let m := memberAt s b
  if m.state = 1 then bayState b 0 (setMember b { m with waitSerial := none } s)
  else if m.state ≠ 2 ∧ m.state ≠ 6 ∧ m.state ≠ 7 then setMember b { m with waitSerial := none } s
  else
    let homes := (segsUsed s).filter fun g => (homeBays s g).contains b
    let maps := tcount s.store.members fun _ x => x.map.isSome
    let undone := (bayEntries s b).filter fun i => !m.done.contains i
    let map := if m.state = 7 then (if maps < 3 then some undone else none)
      else if m.state = 6 then m.map
      else if maps < 3 then some [] else none
    let s := raise 0x2402 [b, cause] s
    let s := setMember b { m with
      map := map, departAt := s.time, oneSided := false, started := [], done := []
      failedId := m.failedId || cause == 3, waitSerial := none
      returnArmed := cause != 3, returnAt := s.time + cfg s Reg.REBUILD_RETURN_WAIT_S * 1000000000 } s
    let s := if cause = 3 then startRebuild b s else bayState b 3 s
    let s := (journalCtrls s).foldl (fun s c => homeGone c b s) s
    homesShort homes (reshapeSuspend (some b) (bayCmdsGone b s))

/-- A port lost by this controller only makes the member one-sided (R126, event 0x2403). -/
def oneSide (b : Nat) (s : State) : State :=
  let m := memberAt s b
  if m.oneSided ∨ !memberPresent s b then s
  else bayCmdsGone b (raise 0x2403 [b, s.pwr.ctrlId] (setMember b { m with oneSided := true } s))

/-- The checks of a journalled or scrubbed row say it is lost: every erased data block is recorded, written as a zero block under a newly
drawn generation, and P and Q recomputed (R136). -/
def loseRow (slot parcel st : Nat) (place : CadEntry) (b reason : Nat) (good fails : List (Nat × Nat)) (s : State) : State :=
  let (g, s) := match drawGen slot parcel s with
    | (some (g, _), s) => (g, s)
    | (none, s) => ((entAt s (entIdx s slot parcel)).gen, s)
  let ep := place.epoch
  let zs := fails.map fun f => (f.1, (zeroBlk slot (cellLba place.layout parcel st f.1) g ep).cov)
  let s := zs.foldl (fun s (z : Nat × Nat) => writeCell slot place st z.1 z.2 g ep (lossAdd slot reason (cellLba place.layout parcel st z.1) 1 s)) s
  let ds := (good ++ zs).map fun (z : Nat × Nat) => (z.1 / 16, z.2)
  let n := stripeN place.layout st
  writeCell slot place st ((n + 1) * 16 + b) (rowQ ds) g ep (writeCell slot place st (n * 16 + b) (rowP ds) g ep s)

/-- What a row of a stripe read whole yields: the data recovered, none where it cannot be, with the data and parity cells that failed and the
check of R115 each failed, 5 for a read error and 6 for a strip that cannot be read (R98, R115, R135). -/
structure RowRead where
  good : List (Nat × Nat)
  fails : List (Nat × Nat)
  pfails : List (Nat × Nat)
  data : Option (List (Nat × Nat))
  erased : Nat
  held : Bool
deriving DecidableEq, Repr

/-- Read one row of a stripe from its raws; a strip whose bay cannot be read is an erasure. -/
def readRow (s : State) (slot parcel st : Nat) (place : CadEntry) (b : Nat) (raws : Tab Raw) : RowRead :=
  let idx := entIdx s slot parcel
  let e := entAt s idx
  let n := stripeN place.layout st
  let alive (j : Nat) : Bool := bayReads s idx (stripBay s place st j)
  let chk (c : Nat) : Nat :=
    if !alive (c / 16) then 6
    else match tget raws c with
      | none => 5
      | some r =>
        if !r.ok then 5
        else if c < 16 * n then checkData e slot (cellLba place.layout parcel st c) (keyed s slot (Blk.ofCov r.cov).kepoch r)
        else checkParity e (keyed s slot r.pkepoch r)
  let cov (c : Nat) : Nat := (tget raws c).elim 0 fun r => r.cov
  let cells := (List.range n).map fun j => j * 16 + b
  let good := (cells.filter fun c => chk c == 0).map fun c => (c, cov c)
  let fails := (cells.filter fun c => chk c != 0).map fun c => (c, chk c)
  let par (c : Nat) : Option Nat := if chk c = 0 then some (cov c) else none
  let p := par (n * 16 + b)
  let q := par ((n + 1) * 16 + b)
  let try_ (p q : Option Nat) : Option (List (Nat × Nat)) :=
    match recoverRow n (good.map fun c => (c.1 / 16, c.2)) p q with
    | none => none
    | some ds => if fails.all fun f => checkRebuilt e slot (cellLba place.layout parcel st f.1)
        ((ds.find? fun (d : Nat × Nat) => d.1 == f.1 / 16).elim 0 fun d => d.2) then some ds else none
  let data := match try_ p q with
    | some ds => some ds
    | none => try_ none q
  { good := good, fails := fails, data := data
    erased := fails.length + b2n p.isNone + b2n q.isNone
    pfails := [n * 16 + b, (n + 1) * 16 + b].filterMap fun c => if chk c = 0 then none else some (c, chk c)
    held := data.isNone && (List.range (n + 2)).any fun j => bayHeld s (stripBay s place st j) && !alive j }

/-- A cell of a row whose data is known. -/
def rowCell (n : Nat) (ds : List (Nat × Nat)) (j : Nat) : Nat :=
  if j < n then (ds.find? fun (d : Nat × Nat) => d.1 == j).elim 0 fun d => d.2
  else if j = n then rowP ds else rowQ ds

/-- Rewrite in place the blocks of a row that failed a check of R115, with event 0x2301, or returned a media error (R115, R134); that of a P or Q
block names the block of data strip 0 in its row (R113). -/
def mendRow (slot parcel st : Nat) (place : CadEntry) (rr : RowRead) (ds : List (Nat × Nat)) (s : State) : State :=
  let n := stripeN place.layout st
  ((rr.fails ++ rr.pfails).filter fun f => f.2 != 6).foldl (fun s f =>
    let cov := rowCell n ds (f.1 / 16)
    let data : Bool := f.1 < 16 * n
    let g := if data then ((Blk.ofCov cov).wgen, (Blk.ofCov cov).kepoch) else rowGen place ds
    let s := writeCell slot place st f.1 cov g.1 g.2 s
    if f.2 = 5 then s
    else raise 0x2301 (leBytes 2 slot ++ leBytes 8 (cellLba place.layout parcel st (if data then f.1 else f.1 % 16)) ++ [f.2]) s) s

/-- P and Q of a row that passed R115 and differ from those of its data are recomputed and rewritten: whether any was (R147, R149). -/
def mendParity (slot : Nat) (place : CadEntry) (st b : Nat) (raws : Tab Raw) (rr : RowRead) (ds : List (Nat × Nat)) (s : State) : Bool × State :=
  let n := stripeN place.layout st
  [n * 16 + b, (n + 1) * 16 + b].foldl (fun (acc : Bool × State) c =>
    let v := rowCell n ds (c / 16)
    if rr.pfails.any (fun f => f.1 == c) ∨ ((tget raws c).elim 0 fun r => r.cov) = v then acc
    else (true, writeCell slot place st c v (rowGen place ds).1 (rowGen place ds).2 acc.2)) (false, s)

/-- Close one journalled row (R147, Table 8): the state, and whether the row is held. -/
def closeRow (slot parcel st : Nat) (place : CadEntry) (b : Nat) (raws : Tab Raw) (s : State) : Bool × State :=
  let rr := readRow s slot parcel st place b raws
  match rr.data with
  | some ds => (false, (mendParity slot place st b raws rr ds (mendRow slot parcel st place rr ds s)).2)
  | none =>
    if rr.held then (true, holdRow slot parcel s)
    else (false, loseRow slot parcel st place b 3 rr.good rr.fails s)

/-- Close the rows of an unretired STRIPE record: whether one is held (R147). -/
def closeRows (r : JRec) (raws : Tab Raw) (s : State) : Bool × State :=
  match r.body with
  | .stripe slot parcel st rows _ place _ _ _ _ _ _ =>
    rows.foldl (fun (acc : Bool × State) b =>
      let (h, s) := closeRow slot parcel st place b raws acc.2
      (acc.1 || h, s)) (false, s)
  | _ => (true, s)

/-- Close an unretired STRIPE record: a RETIRE record follows once every row is closed; a held row keeps it (R147). -/
def closeRecord (r : JRec) (raws : Tab Raw) (s : State) : State :=
  let (held, s) := closeRows r raws s
  if held then s else journalRetire r.jseq s

/-- Close the unretired records of a lost partner (R147, R351); one with a held row is kept as a record of this controller. -/
def closePartner (rs : List JRec) (raws : Nat → Tab Raw) (s : State) : State :=
  rs.foldl (fun s r => match r.body with
    | .stripe .. =>
      let (held, s) := closeRows r (raws r.jseq) s
      if held then (journalAdd r.body true s).2 else (journalAdd (.retire r.jseq) false s).2
    | _ => (journalAdd (.retire r.jseq) false s).2) s

/-- Whether a record is that of a flush under way. -/
def recInUse (s : State) (j : Nat) : Bool :=
  s.store.frames.any fun f => f.2.oldJ.contains j || f.2.flush.any fun fl => fl.jseq == j

/-- A record kept for held rows of a stripe is closed when the stripe is read whole again (R147). -/
def closeHeld (slot parcel st : Nat) (raws : Tab Raw) (s : State) : State :=
  (s.store.unret.filter fun r => !recInUse s r.jseq && (match r.body with
    | .stripe sl p x _ _ _ _ _ _ _ _ _ => sl == slot && p == parcel && x == st
    | _ => false)).foldl (fun s r => closeRecord r raws s) s

/-- The strip of a stripe that stands on a position. -/
def stripAt (s : State) (place : CadEntry) (st q : Nat) : Option Nat :=
  let m := (maskBays (setMask s place.mset)).length
  (List.range (stripeN place.layout st + 2)).find? fun j => (position m place st j).2 == q

/-- Recover one strip of a stripe row by row and write it where `put` says (R133 to R136, R148): the state, and whether a row is held. -/
def recoverStrip (slot parcel st : Nat) (place : CadEntry) (j : Nat) (raws : Tab Raw) (reason : Nat)
    (put : Nat → Stored → State → State) (s : State) : Bool × State :=
  let n := stripeN place.layout st
  let s := opened slot (raws.map fun r => r.2) s
  (List.range 16).foldl (fun (acc : Bool × State) b =>
    let s := acc.2
    let rr := readRow s slot parcel st place b raws
    match rr.data with
    | some ds =>
      let s := mendRow slot parcel st place rr ds s
      let cov := rowCell n ds j
      let g := if j < n then let k := Blk.ofCov cov; (k.wgen, k.kepoch) else rowGen place ds
      (acc.1, put b { cov := cov, gen := g.1, kepoch := g.2 } s)
    | none =>
      if rr.held then (true, holdRow slot parcel s)
      else
        let s := loseRow slot parcel st place b reason rr.good rr.fails s
        let g := (entAt s (entIdx s slot parcel)).gen
        let ds := rr.good.map (fun c => (c.1 / 16, c.2)) ++
          rr.fails.map fun f => (f.1 / 16, (zeroBlk slot (cellLba place.layout parcel st f.1) g place.epoch).cov)
        (acc.1, put b { cov := rowCell n ds j, gen := g, kepoch := place.epoch } s)) (false, s)

/-- A CHECKPOINT record (R143, Table 7). -/
def checkpoint (kind bay cslot entry cursor : Nat) (s : State) : State :=
  let (j, s) := journalAdd (.checkpoint kind bay cslot entry cursor) false s
  let s := { s with store := { s.store with checkpoints := tset s.store.checkpoints kind (entry * 65536 + cursor) } }
  let _ := j
  journalArea (.checkpoint kind entry cursor) s

end Sys2Proof.Machine
end

