-- ==== Sys2Proof/Machine/Member.lean ====
section
/-!
DEFINITION. Machine/Member.lean: departures, rebuild, member return, scrub and reshape as commands (spec/05, rows 54 to 70).
-/
namespace Sys2Proof.Machine

/-- MEMBER_DEPART: `cause` 0 presence, 1 power-good, 2 port, 3 drive report; `both` tells that the partner has lost it too. In a pair a
port lost on one side only makes the member one-sided (R126). -/
def execMemberDepart (bay cause : Nat) (both : Bool) (s : State) : Res := .next <|
  if 24 ≤ bay then s
  else if cause = 2 ∧ inPair s ∧ !both then oneSide bay s
  else memberDepart bay cause s

/-- REHOME_DONE: the unretired ring and map halves stand on the new home; a REHOME record and the labels are written (R145, event
0x2409). -/
def execRehomeDone (bay : Nat) (s : State) : Res := .next <|
  if !s.store.rehoming.contains bay then s
  else
    let s := { s with store := { s.store with
      rehoming := s.store.rehoming.filter fun b => b != bay, homeEpoch := s.store.homeEpoch + 1 } }
    let (_, s) := journalAdd (.rehome (myHomes s) s.store.homeEpoch) false s
    ringRetry (raise 0x2409 [bay, s.pwr.ctrlId] (writeLabels s))

/-- HOME_COPY_RELOCATE: a home copy is written to the next ACTIVE bay; event 0x2502 at three copies (R146). -/
def execHomeCopyRelocate (seg : Nat) (s : State) : Res := .next <|
  if !s.store.homeShort.contains seg ∨ (homeBays s seg).length < 3 then s
  else
    let s := (s.store.cad.filter fun p => p.1 / 2097152 == seg).foldl (fun s p =>
      if thas s.store.homeLeft p.1 then s else persist p.1 (leaseNow s p.1) s) s
    raise 0x2502 [seg] { s with store := { s.store with homeShort := s.store.homeShort.filter fun g => g != seg } }

/-- RETURN_WAIT_EXPIRE: with `AUTO_REBUILD` the bay enters REBUILDING; otherwise it stays MISSING (R127). -/
def execReturnWaitExpire (bay : Nat) (s : State) : Res := .next <|
  let m := memberAt s bay
  if m.state ≠ 3 ∨ !m.returnArmed then s
  else
    let s := setMember bay { m with returnArmed := false } s
    if bitAt (cfg s Reg.REBUILD_RB_CTL) 0 then startRebuild bay s else s

/-- HELD_ROW_REPLAN: a frame held on a row plans its flush again (R129). -/
def execHeldRowReplan (slot parcel stripe : Nat) (s : State) : Res := .next <|
  let k := stripeKey slot parcel stripe
  match tget s.store.frames k with
  | none => s
  | some f => if f.heldRow then setFrame false k { f with heldRow := false, queued := true } s else s

/-- Answer a member command. -/
def memberResult (r : Nat) (s : State) : State := wr Reg.REBUILD_MEMBER_CMD_STAT r s

/-- A member command, once both controllers have recorded it (R156, R349). -/
def memberCmd (bay cmd : Nat) (act : State → State) (s : State) : State :=
  requestRecord (.memberCmd bay cmd) .memberDone act (fun s => s) (memberResult 0 s)

/-- MEMBER_CMD = FAIL (R127). -/
def failOp (p : Path) (s : State) : State :=
  let b := sel s p Reg.REBUILD_MEMBER_SEL % 32
  if (memberAt s b).state ≠ 3 then memberResult 1 s else memberCmd b 1 (startRebuild b) s

/-- FAIL (R127, R155). -/
def execFail (p : Path) (s : State) : Res := .next <| cmdWrite p Reg.REBUILD_MEMBER_CMD (failOp p) s

/-- Format NVM goes to a drive that is admitted, or joins the set by formation or a grow reshape: secure erase settings 1, the format of
check 2 (R311). -/
def formatDrive (b : Nat) (s : State) : State :=
  issueOp b 4 1 (setMember b { memberAt s b with formatting := true } s)

/-- A different drive enters RESTORING in a bay under a new identity (R131). -/
def startRestore (b : Nat) (s : State) : State :=
  let m := memberAt s b
  let (x, s) := drbgDraw s
  let m := { m with memberId := x % 2 ^ 128, serial := m.waitSerial.getD m.serial, waitSerial := none, failedId := false,
                    map := none, returnArmed := false, started := [], done := [], full := true, cap := m.waitCap, moved := 0
                    todo := (bayEntries s b).length }
  let s := setMember b m s
  formatDrive b (bayState b 7 s)

/-- The end of the set's usable strips (R103). -/
def setEnd (s : State) : Nat :=
  s.store.cad.foldl (fun a p => if p.2.state = 0 then a else max a (p.2.column + entRows s p.2)) (setStrips s (curMask s))

/-- MEMBER_CMD = ADMIT (R131, Table 16): a waiting drive enters RESTORING, or a CANDIDATE becomes a grow target. -/
def admitOp (p : Path) (s : State) : State :=
  let b := sel s p Reg.REBUILD_MEMBER_SEL % 32
  let m := memberAt s b
  if m.state = 1 then
    memberCmd b 2 (fun s => { s with store := { s.store with growTargets := (s.store.growTargets ++ [b]).eraseDups } }) s
  else if m.state ≠ 3 ∧ m.state ≠ 4 ∧ m.state ≠ 5 then memberResult 1 s
  else if m.waitSerial.isNone then memberResult 2 s
  else if m.waitCap < setStrips s (clrBit (curMask s) b) then memberResult 3 s
  else memberCmd b 2 (startRestore b) s

/-- ADMIT (R131, R155). -/
def execAdmit (p : Path) (s : State) : Res := .next <| cmdWrite p Reg.REBUILD_MEMBER_CMD (admitOp p) s

/-- MEMBER_CMD = RESYNC_FULL (Table 16). -/
def resyncFullOp (p : Path) (s : State) : State :=
  let b := sel s p Reg.REBUILD_MEMBER_SEL % 32
  if (memberAt s b).state ≠ 6 then memberResult 1 s
  else memberCmd b 3 (fun s => setMember b { memberAt s b with full := true, todo := (bayEntries s b).length } s) s

/-- RESYNC_FULL (R155). -/
def execResyncFull (p : Path) (s : State) : Res := .next <| cmdWrite p Reg.REBUILD_MEMBER_CMD (resyncFullOp p) s

/-! ### Rebuild -/

/-- A reserved `MEMBER_CMD`: `RESULT` 4. -/
def memberCmdReserved (s : State) : State := memberResult 4 s

/-- How many of an entry's positions stand on bays in REBUILDING and are not relocated. -/
def entRebuilding (s : State) (i : Nat) : Nat :=
  ((rbBays s).filter fun b => (rbTodo s b).contains i).length

/-- The next parcel to rebuild and its bay: tier 1 before tier 2, ascending entries, the bay that failed first (R132). -/
def rbNext (s : State) : Option (Nat × Nat) :=
  let cand := ((rbBays s).flatMap (rbTodo s)).eraseDups.filter fun i => !s.store.rbSkip.contains i && (match entOwner s i with
    | none => false
    | some (sl, _) => (nsAt s sl).elim false fun n => ownsNs s n)
  let low (l : List Nat) : Option Nat := match l with
    | [] => none
    | x :: xs => some (xs.foldl min x)
  let pick := match low (cand.filter fun i => entRebuilding s i == 2 && (entAt s i).reloc0 == 31) with
    | some i => some i
    | none => low cand
  match pick with
  | none => none
  | some i => ((rbBays s).find? fun b => (rbTodo s b).contains i).map fun b => (i, b)

/-- The stripes of a parcel in rebuild order: two erased strips first (R132). -/
def rbOrder (s : State) (i : Nat) : List Nat :=
  let e := entAt s i
  let all := List.range (if e.state = 1 then 0 else if e.state = 2 then e.format else stripesPer e.layout)
  let two (st : Nat) : Bool := decide (2 ≤ ((List.range (stripeN e.layout st + 2)).filter fun j => !bayReads s i (stripBay s e st j)).length)
  all.filter two ++ all.filter fun st => !two st

/-- A parcel's relocation is complete: its entry is updated and persisted, and a CHECKPOINT written (R101, R133). -/
def rbFinish (i b : Nat) (s : State) : State :=
  let e := entAt s i
  match bayPos (setMask s e.mset) e b with
  | none => s
  | some q =>
    let e := if e.reloc0 = 31 then { e with reloc0 := q } else { e with reloc1 := q }
    let s := setEnt i e s
    let s := persist i (leaseNow s i) { s with store := { s.store with rbEntry := none, rbStripes := [] } }
    let m := memberAt s b
    checkpoint 1 b 0 i 0xFFFF (setMember b { m with done := m.done ++ [i] } s)

/-- `REBUILT_MIB` counts a strip of 64 KiB: sixteen make a MiB. -/
def rebuiltCount (s : State) : State :=
  let n := tgetD s.store.clsBytes 4 0 + 65536
  let s := parityBytes 4 65536 s
  wr Reg.REBUILD_REBUILT_MIB (min 0xFFFFFFFF (n / 1048576)) s

/-- The strip of a stripe that lay on a departed bay is recovered and written to the entry's spare column (R133). -/
def rebuildStrip (slot parcel st i b : Nat) (raws : Tab Raw) (s : State) : State :=
  let e := entAt s i
  match bayPos (setMask s e.mset) e b with
  | none => s
  | some q => match stripAt s e st q with
    | none => s
    | some j =>
      let (r, _) := position (maskBays (setMask s e.mset)).length e st j
      let dst := posBay (maskBays (setMask s e.mset)) e.seed (spareFor (maskBays (setMask s e.mset)).length e)
      let put (row : Nat) (x : Stored) (s : State) : State :=
        issueSealed slot dst ((e.column + r) * 16 + row) 1 .other [x] s
      let (held, s) := recoverStrip slot parcel st e j raws 1 put s
      rebuiltCount (parityBytes 2 (65536 * stripeN e.layout st) { s with store := { s.store with rbHeld := s.store.rbHeld || held } })

/-- REBUILD_STRIPE: the engine rebuilds the next stripe of the parcel in work, its strip read from `raws` and recovered into the spare
position (R132 to R136); a stripe that is FLUSHING holds it. -/
def execRebuildStripe (raws : Tab Raw) (s : State) : Res := .next <|
  if s.vault.accepted ∨ !s.pwr.serving then s
  else
    let s := match s.store.rbEntry with
      | some _ => s
      | none => match rbNext s with
        | none => (rbBays s).foldl (fun s b => rbRetire b s) s
        | some (i, b) => { s with store := { s.store with rbEntry := some i, rbBay := b, rbStripes := rbOrder s i, rbHeld := false } }
    match s.store.rbEntry with
    | none => s
    | some i => match entOwner s i with
      | none => { s with store := { s.store with rbEntry := none } }
      | some (slot, parcel) =>
        let b := s.store.rbBay
        match s.store.rbStripes with
        | [] =>
          let s := if s.store.rbHeld then
              { s with store := { s.store with rbEntry := none, rbSkip := s.store.rbSkip ++ [i] } }
            else rbFinish i b s
          (rbBays s).foldl (fun s b => rbRetire b s) s
        | st :: rest =>
          let busy : Bool := match tget s.store.frames (stripeKey slot parcel st) with
            | none => false
            | some f => f.st == .flushing
          if busy then s
          else
            let s := { s with store := { s.store with rbStripes := rest } }
            let s := closeHeld slot parcel st raws (rebuildStrip slot parcel st i b raws s)
            match s.store.rbStripes with
            | [] =>
              let s := if s.store.rbHeld then
                  { s with store := { s.store with rbEntry := none, rbSkip := s.store.rbSkip ++ [i] } }
                else rbFinish i b s
              (rbBays s).foldl (fun s b => rbRetire b s) s
            | _ => s

/-- LOSS_MAP: log page 0xC1, a header and a record each, in ascending NSID and then SLBA (R141, Table 4). -/
def execLossMap (q cid nsid : Nat) (s : State) : Res := .next <|
  match queueAssoc s q with
  | none => s
  | some a => match pageSlots s a nsid with
    | none => adminDone q cid 0 0x0B none s
    | some slots =>
      let key (sl : Nat) : Nat := (nsAt s sl).elim 0 fun n => n.nsid
      let tab : Tab (List LossRec) := slots.foldl (fun t sl =>
        let rs := ((s.store.loss.filter fun r => r.slot == sl).foldl (fun (t : Tab LossRec) r => tset t r.lba r) []).map fun p => p.2
        tset t (key sl) rs) []
      let recs := tab.flatMap fun p => p.2.map fun r => [p.1, r.reason, r.lba, r.count, r.time]
      let fields := [(0, 1), (1, b2n s.store.lossCoalesced), (8, recs.length), (16, slots.foldl (fun a sl => a + lostBlocks s sl) 0),
        (24, slots.foldl (fun a sl => a + tgetD s.store.lossChanges sl 0) 0)]
      adminDone q cid 0 0 (some false) (drive (.page q cid fields recs) s)
where
  /-- Complete the page's command. -/
  adminDone (q cid sct sc : Nat) (dnr : Option Bool) (s : State) : State := answer q cid sct sc dnr 0 0 s

/-! ### Member return -/

/-- Whether a filled parcel needs its column: RESTORING and full resyncs always, RESYNC where the dirty bit is set (Table 9). -/
def fillNeeds (m : Member) (i : Nat) : Bool :=
  m.state == 7 || m.full || (match m.map with
    | none => true
    | some l => l.contains i)

/-- Relocations that name a position are cleared. -/
def CadEntry.unreloc (e : CadEntry) (q : Nat) : CadEntry :=
  { e with reloc0 := if e.reloc0 = q then 31 else e.reloc0, reloc1 := if e.reloc1 = q then 31 else e.reloc1 }

/-- Every parcel of a bay is done: ACTIVE, labels, event 0x2406 (R148). -/
def fillEnd (b : Nat) (s : State) : State :=
  let m := memberAt s b
  let left := (bayEntries s b).filter fun i => !m.done.contains i
  if left ≠ [] then s
  else
    let restore := m.state == 7
    let s := setMember b { m with map := none, done := [], started := [], full := false, todo := 0 } s
    raise 0x2406 ([b, b2n restore] ++ leBytes 4 m.done.length) (bayState b 2 s)

/-- FILL_PARCEL: the next parcel of a bay in RESYNC or RESTORING is filled (R148, Table 9); `raws` holds the strips of each stripe. -/
def execFillParcel (bay : Nat) (raws : Tab (Tab Raw)) (s : State) : Res := .next <|
  let m := memberAt s bay
  if (m.state ≠ 6 ∧ m.state ≠ 7) ∨ m.formatting ∨ s.vault.accepted ∨ !s.pwr.serving then s
  else match (bayEntries s bay).find? fun i => !m.done.contains i with
    | none => fillEnd bay s
    | some i => match entOwner s i with
      | none => s
      | some (slot, parcel) =>
        let e := entAt s i
        let mask := setMask s e.mset
        let spot := match bayPos mask e bay with
          | some q => some (q, e.unreloc q)
          | none => (relPos mask e bay).map fun q => (q, e)
        match spot with
        | none => s
        | some (q, e') =>
          let stripes := if !fillNeeds m i ∨ e.state = 1 then [] else List.range (if e.state = 2 then e.format else stripesPer e.layout)
          let busy := stripes.any fun st => match tget s.store.frames (stripeKey slot parcel st) with
            | none => false
            | some f => f.st == .flushing
          if busy ∨ s.store.rbEntry = some i then s
          else
            let (held, s) := stripes.foldl (fun (acc : Bool × State) st =>
              match stripAt acc.2 e st q with
              | none => acc
              | some j =>
                let home := locate mask e' st j 0
                let put (row : Nat) (x : Stored) (s : State) : State := issueSealed slot home.1 (home.2 + row) 1 .other [x] s
                let (h, s) := recoverStrip slot parcel st e j (tgetD raws st []) 1 put acc.2
                (acc.1 || h, rebuiltCount (parityBytes 2 (65536 * stripeN e.layout st) s))) (false, s)
            if held then setMember bay { memberAt s bay with started := ((memberAt s bay).started ++ [i]).eraseDups } s
            else
              let e'' := { entAt s i with reloc0 := e'.reloc0, reloc1 := e'.reloc1 }
              let s := setEnt i e'' s
              let s := if e' = e then s else persist i (leaseNow s i) s
              let m := memberAt s bay
              let s := setMember bay { m with
                done := m.done ++ [i], started := (m.started ++ [i]).eraseDups
                map := m.map.map fun l => l.filter fun x => x != i } s
              let s := stripes.foldl (fun s st => closeHeld slot parcel st (tgetD raws st []) s) s
              fillEnd bay (checkpoint (if m.state = 7 then 5 else 4) bay 0 i 0xFFFF s)

/-! ### Scrub -/

/-- Scrub is suspended while a bay is rebuilt or filled (R150). -/
def scrubRuns (s : State) : Bool :=
  bitAt (cfg s Reg.REBUILD_RB_CTL) 2 && s.pwr.serving && !s.vault.accepted &&
    !(List.range 24).any fun b => let st := (memberAt s b).state; st == 4 || st == 6 || st == 7

/-- The WRITTEN parcels scrubbed, of namespaces owned here, in entry order. -/
def scrubEntries (s : State) : List Nat :=
  (s.store.cad.filter fun p => p.2.state == 3 && (match entOwner s p.1 with
    | none => false
    | some (sl, _) => (nsAt s sl).elim false fun n => ownsNs s n)).map fun p => p.1

/-- The end of a pass: home copies and labels that fail are restored; event 0x240B (R149). -/
def scrubPass (s : State) : State :=
  let secs := (s.time - s.store.scrubStart) / 1000000000
  let s := bump Reg.REBUILD_SCRUB_PASSES (wr Reg.REBUILD_SCRUB_PASS_S secs s)
  raise 0x240B (leBytes 4 secs) { s with store := { s.store with scrubEntry := 0, scrubStripe := 0, scrubStart := s.time } }

/-- One row of a stripe scrubbed (R149). -/
def scrubRow (slot parcel st : Nat) (e : CadEntry) (raws : Tab Raw) (b : Nat) (s : State) : State :=
  let rr := readRow s slot parcel st e b raws
  match rr.data with
  | none => if rr.held then holdRow slot parcel s else loseRow slot parcel st e b 1 rr.good rr.fails s
  | some ds =>
    let (fixed, s) := mendParity slot e st b raws rr ds (mendRow slot parcel st e rr ds s)
    if fixed && rr.fails.isEmpty then raise 0x240A (leBytes 2 slot ++ leBytes 4 parcel ++ leBytes 2 st) s else s

/-- SCRUB_STRIPE: the next stripe of the pass is read and checked (R149, R150); one with a dirty or FLUSHING frame is skipped. -/
def execScrubStripe (raws : Tab Raw) (s : State) : Res := .next <|
  if !scrubRuns s then s
  else match (scrubEntries s).find? fun i => decide (s.store.scrubEntry ≤ i) with
    | none => if scrubEntries s = [] then s else scrubPass s
    | some i => match entOwner s i with
      | none => s
      | some (slot, parcel) =>
        let e := entAt s i
        let st := if i = s.store.scrubEntry then s.store.scrubStripe else 0
        let s := if stripeDirty s (stripeKey slot parcel st) then s
          else closeHeld slot parcel st raws
            ((List.range 16).foldl (fun s b => scrubRow slot parcel st e raws b s)
              (opened slot (raws.map fun r => r.2) (parityBytes 3 (65536 * (stripeN e.layout st + 2)) s)))
        if st + 1 < stripesPer e.layout then { s with store := { s.store with scrubEntry := i, scrubStripe := st + 1 } }
        else
          let s := checkpoint 3 31 0 i 0xFFFF { s with store := { s.store with scrubEntry := i + 1, scrubStripe := 0 } }
          if ((scrubEntries s).find? fun k => decide (i < k)).isNone then scrubPass s else s

/-! ### Reshape -/

/-- Refuse a reshape with its reason (R151). -/
def reshapeRefuse (r : Nat) (s : State) : State :=
  { s with store := { s.store with reshape := { s.store.reshape with refuse := r } } }

/-- A reshape command, once both controllers have recorded it (R156, R349). -/
def reshapeCmd (cmd kind slot layout mset : Nat) (act : State → State) (s : State) : State :=
  requestRecord (.reshapeCmd cmd kind slot layout mset) .nothing act (fun s => s) (reshapeRefuse 0 s)

/-- The widest full stripe in use. -/
def widest (s : State) : Nat := s.store.cad.foldl (fun a p => if p.2.state = 0 then a else max a (layoutW p.2.layout)) 0

/-- Whether the free columns hold the grown footprint plus one parcel of the target (R151, reason 4). -/
def reshapeFits (s : State) (kind slot layout mset : Nat) : Bool :=
  if kind = 0 then
    let old := (nsAt s slot).elim 0 fun n => n.layout
    let m := (maskBays (curMask s)).length
    let r := colRows layout m (newSpares s layout m)
    let ro := colRows old m (newSpares s old m)
    let n := (nsAt s slot).elim 0 fun n => n.parcels
    let free := (freeGaps s (curMask s)).foldl (fun a g => a + g.2) 0
    decide ((r - ro) * n + r ≤ free) && (lowColumn s (curMask s) r).isSome
  else
    let m := (maskBays mset).length
    let used := s.store.cad.filter fun p => p.2.state != 0
    let grown := used.foldl (fun a p =>
      let r := colRows p.2.layout m (min p.2.spares (m - layoutW p.2.layout))
      a + (r - entRows s p.2)) 0
    let big := used.foldl (fun a p => max a (colRows p.2.layout m (min p.2.spares (m - layoutW p.2.layout)))) 0
    let both := setBitMask (curMask s) mset
    let free := (freeGaps s both).foldl (fun a g => a + g.2) 0
    decide (grown + big ≤ free) && (big == 0 || (lowColumn s both big).isSome)
where
  /-- The union of two sets. -/
  setBitMask (a b : Nat) : Nat := a ||| b

/-- The reason a START is refused for, in the order of R151. -/
def reshapeReason (s : State) (kind slot layout mset : Nat) : Option Nat :=
  let all := maskBays (s.store.mset0 ||| s.store.mset1)
  let inactive := all.any fun b => !bayActive s b
  if s.store.reshape.state ≠ 0 then some 1
  else if inactive ∨ (kind = 1 ∧ (maskBays mset).any fun b => !bayActive s b && (memberAt s b).state != 1) then some 2
  else if (kind = 1 ∧ ((maskBays mset).length < 12 ∨ (maskBays mset).length < widest s)) ∨
      (kind = 0 ∧ (maskBays (curMask s)).length < layoutW layout) then some 3
  else if !reshapeFits s kind slot layout mset then some 4
  else if kind = 0 ∧ !s.slotActive slot then some 5
  else none

/-- A reshape begins at both controllers (R151): event 0x240C. -/
def reshapeBegin (kind slot layout mset : Nat) (s : State) : State :=
  let s :=
    if kind = 1 then
      let cur := s.store.msetCur
      let s := { s with store := { s.store with
        mset0 := if cur = 0 then s.store.mset0 else mset
        mset1 := if cur = 0 then mset else s.store.mset1
        msetCur := 1 - cur
        growTargets := [] } }
      (maskBays mset).foldl (fun s b =>
        if (memberAt s b).state = 1 then
          let (x, s) := drbgDraw s
          formatDrive b (bayState b 2 (setMember b { memberAt s b with memberId := x % 2 ^ 128 } s))
        else s) s
    else
      let s := modNs slot (fun n => { n with reshaping := true }) s
      match nsAt s slot with
      | none => s
      | some n => n.hosts.foldl (fun s h => s.nvm.assocs.foldl (fun s a =>
          if a.2.host = h ∧ a.2.subsys = n.subsys then postNotice a.1 0 n.nsid s else s) s) s
  let last := if kind = 0 then (nsAt s slot).elim 0 fun n => n.parcels
    else s.store.cad.foldl (fun a p => max a (p.1 + 1)) 0
  raise 0x240C ([0, kind] ++ leBytes 2 slot) (limitEval { s with store := { s.store with reshape :=
    { state := 1, kind := kind, slot := slot, layout := layout, mset := mset, last := last } } })

/-- RESHAPE_CMD = START (R151). -/
def reshapeStartOp (s : State) : State :=
  let kind := rd s Reg.REBUILD_RESHAPE_KIND % 2
  let slot := rd s Reg.REBUILD_RESHAPE_SLOT % 16384
  let layout := rd s Reg.REBUILD_RESHAPE_LAYOUT % 4
  let mset := rd s Reg.REBUILD_RESHAPE_MSET % 2 ^ 24
  match reshapeReason s kind slot layout mset with
  | some r => reshapeRefuse r s
  | none => reshapeCmd 1 kind slot layout mset (reshapeBegin kind slot layout mset) s

/-- RESHAPE_START (R151). -/
def execReshapeStart (p : Path) (s : State) : Res := .next <| cmdWrite p Reg.REBUILD_RESHAPE_CMD reshapeStartOp s

/-- RESHAPE_CMD = SUSPEND. -/
def reshapeSuspendOp (s : State) : State :=
  if s.store.reshape.state ≠ 1 then s else reshapeCmd 2 0 0 0 0 (reshapeSuspend none) s

/-- RESHAPE_SUSPEND (R155). -/
def execReshapeSuspend (p : Path) (s : State) : Res := .next <| cmdWrite p Reg.REBUILD_RESHAPE_CMD reshapeSuspendOp s

/-- A suspended reshape runs again. -/
def reshapeResume (s : State) : State :=
  let r := s.store.reshape
  if r.state = 2 then { s with store := { s.store with reshape := { r with state := 1, byCmd := false } } } else s

/-- RESHAPE_CMD = RESUME (R154). -/
def reshapeResumeOp (s : State) : State :=
  if s.store.reshape.state ≠ 2 then s else reshapeCmd 3 0 0 0 0 reshapeResume s

/-- RESHAPE_RESUME (R154). -/
def execReshapeResume (p : Path) (s : State) : Res := .next <| cmdWrite p Reg.REBUILD_RESHAPE_CMD reshapeResumeOp s

/-- The set forms from CANDIDATE bays: a set identifier, member identifiers, homes and labels (R125, R130, R145, R155). -/
def formSet (mask : Nat) (s : State) : State :=
  let (x, s) := drbgDraw s
  let s := { s with store := { s.store with mset0 := mask, mset1 := mask, msetCur := 0, setId := x % 2 ^ 128, formed := true } }
  let s := (maskBays mask).foldl (fun s b =>
    let (y, s) := drbgDraw s
    let m := memberAt s b
    formatDrive b (raise 0x2401 [b, m.state, 2] (setMember b { m with state := 2, memberId := y % 2 ^ 128 } s))) s
  let bays := maskBays mask
  let s := { s with store := { s.store with homes0 := bays.take 3, homes1 := if s.pairedNow then (bays.drop 3).take 3 else [] } }
  let s := if isCtrl1 s ∧ !s.pairedNow then { s with store := { s.store with homes1 := bays.take 3, homes0 := [] } } else s
  limitEval (writeLabels s)

/-- RESHAPE_CMD = FORM: with both sets empty, from bays that are all CANDIDATE (Table 17). -/
def formOp (s : State) : State :=
  let mask := rd s Reg.REBUILD_RESHAPE_MSET % 2 ^ 24
  if s.store.mset0 ≠ 0 ∨ s.store.mset1 ≠ 0 ∨ mask = 0 ∨ (maskBays mask).any fun b => (memberAt s b).state != 1 then s
  else reshapeCmd 4 0 0 0 mask (formSet mask) s

/-- FORM (R155). -/
def execForm (p : Path) (s : State) : Res := .next <| cmdWrite p Reg.REBUILD_RESHAPE_CMD formOp s

/-- The parcel at the baseline: entry, slot and parcel index. -/
def reshapeAt (s : State) : Option (Nat × Nat × Nat) :=
  let r := s.store.reshape
  if r.kind = 0 then some (entIdx s r.slot r.baseline, r.slot, r.baseline)
  else (entOwner s r.baseline).map fun o => (r.baseline, o.1, o.2)

/-- The end of a reshape (R151, event 0x240C): a set change leaves both registers at the target and removed bays EMPTY. -/
def reshapeEnd (s : State) : State :=
  let r := s.store.reshape
  let s := { s with store := { s.store with reshape := { r with state := 0, newPlace := none } } }
  let s :=
    if r.kind = 1 then
      let gone := (List.range 24).filter fun b => bitAt (s.store.mset0 ||| s.store.mset1) b && !bitAt r.mset b
      let s := { s with store := { s.store with mset0 := r.mset, mset1 := r.mset } }
      let s := gone.foldl (fun s b => setMember b { memberAt s b with map := none, memberId := 0 } (bayState b 0 s)) s
      (journalCtrls s).foldl (fun s c => gone.foldl (fun s b => homeGone c b s) s) s
    else
      let s := modNs r.slot (fun n => { n with reshaping := false, layout := r.layout }) s
      match nsAt s r.slot with
      | none => s
      | some n => n.hosts.foldl (fun s h => s.nvm.assocs.foldl (fun s a =>
          if a.2.host = h ∧ a.2.subsys = n.subsys then postNotice a.1 0 n.nsid s else s) s) s
  raise 0x240C ([1, r.kind] ++ leBytes 2 r.slot) (limitEval s)

/-- The baseline passes a parcel; past the last, the reshape ends. -/
def reshapeNext (i slot : Nat) (s : State) : State :=
  let s := checkpoint 2 31 slot i 0xFFFF s
  let r := s.store.reshape
  let s := { s with store := { s.store with reshape := { r with baseline := r.baseline + 1, cursor := 0, newPlace := none } } }
  if r.last ≤ r.baseline + 1 then reshapeEnd s else s

/-- MOVER_STRIPE: one new-layout stripe of the parcel at the baseline is written and `CURSOR` advances (R152, R153); `blocks` holds the
parcel's blocks that the mover read and verified, by block within the parcel. -/
def execMoverStripe (blocks : Tab Raw) (s : State) : Res := .next <|
  let r := s.store.reshape
  if r.state ≠ 1 ∨ s.vault.accepted ∨ !ringRoom s then s
  else if r.last ≤ r.baseline then reshapeEnd s
  else match reshapeAt s with
    | none => reshapeNext r.baseline r.slot s
    | some (i, slot, parcel) =>
      let e := entAt s i
      if e.state = 0 ∨ e.state = 5 then reshapeNext i slot s
      else if e.state = 2 then s
      else match r.newPlace with
        | none =>
          let busy := s.store.frames.any fun f => f.2.slot == slot && f.2.parcel == parcel && (f.2.st != .clean || thas s.store.succs f.1)
          if busy ∧ e.state = 3 then
            { s with store := { s.store with frames := tmap s.store.frames fun _ f =>
              if f.slot = slot ∧ f.parcel = parcel ∧ f.st = .gathering then { f with queued := true } else f } }
          else
            let lay := if r.kind = 0 then r.layout else e.layout
            let ms := if r.kind = 0 then e.mset else s.store.msetCur
            let m := (maskBays (setMask s ms)).length
            let sp := newSpares s lay m
            match lowColumn s (setMask s ms) (colRows lay m sp) with
            | none => s
            | some c =>
              let (x, s) := drbgDraw s
              let n : CadEntry := { e with layout := lay, mset := ms, spares := sp, seed := x % 2 ^ 32, column := c, reloc0 := 31, reloc1 := 31 }
              if e.state = 1 then
                let s := setEnt i n s
                reshapeNext i slot (persist i (leaseNow s i) s)
              else
                let s := setEnt i { e with state := 4 } s
                let s := { s with store := { s.store with
                  frames := tfilter s.store.frames fun _ f => !(f.slot == slot && f.parcel == parcel)
                  reshape := { r with newPlace := some n, oldPlace := e, cursor := 0 } } }
                checkpoint 2 31 slot i 0 s
        | some n =>
          let st := r.cursor
          let k := stripeKey slot parcel st
          match drawGen slot parcel s with
          | (none, s) => s
          | (some (g, ep), s) =>
            let f := tget s.store.frames k
            let s := opened slot ((blocks.filter fun x => x.1 / (16 * layoutN n.layout) == st).map fun x => x.2) s
            let blk (c : Nat) : Blk :=
              let lba := cellLba n.layout parcel st c
              match f.bind fun f => tget f.cells c with
              | some x => { x.blk with wgen := g, kepoch := ep }
              | none => match tget blocks (st * (16 * layoutN n.layout) + c) with
                | some x => { Blk.ofCov x.cov with wgen := g, kepoch := ep }
                | none => zeroBlk slot lba g ep
            let adm := f.elim 0 fun f => f.cells.foldl (fun a (c : Nat × Cell) => max a c.2.adm) 0
            let s := writeStripe slot parcel st n (stripeBlocks (stripeN n.layout st) blk g ep) g ep 2 adm s
            let s := match f with
              | none => s
              | some f =>
                let carried := (f.cells.filter fun (c : Nat × Cell) => c.2.dirty).map fun (c : Nat × Cell) => (cellLba f.layout parcel st c.1, c.2.adm)
                carriedClean slot carried (setFrame false k (Frame.recompute { f with
                  cells := tmap f.cells (fun _ c => { c with blk := { c.blk with wgen := g, kepoch := ep }, dirty := false, wt := false })
                  st := .clean, queued := false }) s)
            let s := parityBytes 3 (65536 * (stripeN n.layout st + 2))
              { s with store := { s.store with reshape := { s.store.reshape with cursor := st + 1 } } }
            if st + 1 < stripesPer n.layout then stallGo (travRetire (resumeDeferred (checkpoint 2 31 slot i (st + 1) s)))
            else
              let e := entAt s i
              let s := setEnt i { n with state := 3, gen := e.gen, epoch := e.epoch, sweep := e.sweep, loss := e.loss } s
              stallGo (travRetire (resumeDeferred (reshapeNext i slot (persist i (leaseNow s i) s))))

end Sys2Proof.Machine
end

