-- ==== Sys2Proof/Machine/BayOps.lean ====
section
/-!
DEFINITION. Machine/BayOps.lean: root ports going down, the judgement of a drive's identity, the assembly of the member set and the
bay power machine, shared by the rows of spec/12 and by resets (R126, R131, R309 to R334, R357, R410).
-/
namespace Sys2Proof.Machine

/-! ### Root ports -/

/-- A root port. -/
def portAt (s : State) (n : Nat) : Port := tgetD s.bay.ports n {}

/-- Replace a root port. -/
def setPort (n : Nat) (p : Port) (s : State) : State :=
  { s with bay := { s.bay with ports := tput {} s.bay.ports n p } }

/-- Whether a port holds `PERST_N` released (R309). -/
def Port.perstRel (p : Port) : Bool := p.state == 2 || p.state == 3 || p.state == 4

/-- An event of port `n`: RP instances carry their own page in the high byte (R335). -/
def rpEvent (n low : Nat) (detail : List Nat) (s : State) : State := raise ((0x30 + n) * 256 + low) (n :: detail) s

/-- A member's port is lost: in a pair it becomes one-sided, else it departs with cause 2 (R126). -/
def portDepart (n : Nat) (s : State) : State := if inPair s then oneSide n s else memberDepart n 2 s

/-- `PERST_N` is asserted: the link goes down, the port enters a state, and every tag lifts once what its requests carried has been
reconstructed or planned again; `lose` says what becomes of the member first (R309, R314, R315, R316). -/
def portDown (n st check : Nat) (lose : State → State) (s : State) : State :=
  let p := portAt s n
  let s := setMember n { memberAt s n with waitSerial := none } s
  let s := setPort n { p with
    state := st, link := false, width := 0, rate := 0, flit := false, check := check, qpairs := 0, depth := 0, label := none
    narrow := false, timeouts := [], retried := [] } s
  let s := if p.link then rpEvent n 0x01 [0, p.width] s else s
  let s := bayCmdsGone n (lose s)
  { s with store := { s.store with
    cmds := tfilter s.store.cmds fun k _ => k / 16384 != n
    cmdWait := s.store.cmdWait.filter fun c => c.bay != n } }

/-- Port recovery (R313): `PERST_N`, HELD, and the member departs with cause 2. -/
def portRecover (n : Nat) (s : State) : State := portDown n 1 0 (portDepart n) s

/-- A port is left UNUSABLE with its check: event 0x3005, and a member of the bay departs with cause 2 (R310). -/
def portUnusable (n check : Nat) (s : State) : State :=
  portDown n 6 check (portDepart n) (rpEvent n 0x05 [check] s)

/-- Presence or power-good of a bay is gone: its port enters HELD, unless it is DISABLED, and its counts of failures restart (R309,
R310). -/
def portUnpowered (n : Nat) (lose : State → State) (s : State) : State :=
  let p := portAt s n
  let s := setPort n { p with trainFails := 0, readyFails := 0 } s
  if p.state = 0 then lose s else portDown n 1 0 lose s

/-! ### Identity and assembly (R130, R131, R410) -/

/-- Whether a bay is in one of the set's masks. -/
def inSet (s : State) (b : Nat) : Bool := bitAt (s.store.mset0 ||| s.store.mset1) b

/-- The same identity: `SET_ID`, `MEMBER_ID` and serial number together (R131). -/
def sameIdentity (s : State) (b : Nat) : Bool :=
  let p := portAt s b
  match p.label with
  | none => false
  | some l => s.store.setId != 0 && l.setId == s.store.setId && l.memberId == (memberAt s b).memberId && l.serial == p.serial

/-- A label that names a member of another bay of this set (R131). -/
def displaced (s : State) (b : Nat) : Bool :=
  match (portAt s b).label with
  | none => false
  | some l => s.store.setId != 0 && l.setId == s.store.setId &&
      s.store.members.any fun m => m.1 != b && m.2.memberId != 0 && m.2.memberId == l.memberId

/-- Strips of the drive on a port. -/
def portStrips (s : State) (b : Nat) : Nat := (portAt s b).blocks / 16

/-- A different drive stays out, awaiting `ADMIT`: event 0x240E with its cause (R131). -/
def keepOut (b cause : Nat) (wait : Bool) (s : State) : State :=
  let m := memberAt s b
  let s := if wait then setMember b { m with waitSerial := some (portAt s b).serial, waitCap := portStrips s b } s else s
  raise 0x240E [b, cause] s

/-- DRIVE_IDENTITY_JUDGE (R131): a drive found READY in a bay enters RESYNC or RESTORING, becomes a CANDIDATE, or stays out of the set. -/
def judgeDrive (b : Nat) (s : State) : State :=
  let m := memberAt s b
  let cap := portStrips s b
  if m.state = 2 ∨ m.state = 6 ∨ m.state = 7 then
    if sameIdentity s b then setMember b { m with oneSided := false, cap := cap } s else s
  else if m.state = 0 then
    let s := if displaced s b then raise 0x240E [b, 1] s else s
    bayState b 1 (setMember b { memberAt s b with serial := (portAt s b).serial, cap := cap } s)
  else if m.state = 3 ∨ m.state = 4 ∨ m.state = 5 then
    if sameIdentity s b then
      if m.failedId then keepOut b 2 true s
      else
        let s := setMember b { m with
          cap := cap, returnArmed := false, full := m.map.isNone, started := [], done := [], todo := (bayEntries s b).length } s
        bayState b 6 s
    else if displaced s b then keepOut b 1 false s
    else if cap < setStrips s (clrBit (curMask s) b) then keepOut b 3 true s
    else
      let wait := keepOut b 0 true s
      if bitAt (cfg s Reg.REBUILD_RB_CTL) 1 then
        startRestore b (setMember b { m with waitSerial := some (portAt s b).serial, waitCap := cap } s)
      else wait
  else s

/-- The label with the highest `LABEL_SEQ` among the present members (R130). -/
def bestLabel (s : State) : Option Label :=
  s.bay.ports.foldl (fun (best : Option Label) p =>
    if p.2.state ≠ 4 then best
    else match p.2.label, best with
      | none, b => b
      | some l, none => some l
      | some l, some b => if b.seq < l.seq then some l else some b) none

/-- The set that a label defines (R130). -/
def takeLabel (l : Label) (s : State) : State :=
  let s := { s with store := { s.store with
    setId := l.setId, mset0 := l.mset0, mset1 := l.mset1, msetCur := l.msetCur, labelSeq := l.seq, homeEpoch := l.homeEpoch
    homes0 := maskBays l.homes0, homes1 := maskBays l.homes1, formed := true } }
  (List.range 24).foldl (fun s b =>
    let t := tgetD l.mts b {}
    setMember b { memberAt s b with
      memberId := t.memberId, state := if inSet s b then t.state else 0, failedId := t.failed, departAt := t.depart
      waitSerial := none, returnArmed := false, oneSided := false } s) s

/-- A bay of the set at assembly: a member whose own drive is READY serves; one that is not departs; a bay that was not in service is
judged (R125, R131, R410). -/
def assembleBay (b : Nat) (s : State) : State :=
  let m := memberAt s b
  let ready := (portAt s b).state == 4
  if m.state = 2 ∨ m.state = 6 ∨ m.state = 7 then
    if ready && sameIdentity s b then setMember b { m with cap := portStrips s b } s
    else
      let s := memberDepart b 0 s
      if ready then judgeDrive b s else s
  else if ready then judgeDrive b s
  else if m.state = 1 then bayState b 0 s
  else s

/-- ASSEMBLY_COMPLETE (R410): the member set is taken from the labels under R130; the replay of R88 follows. -/
def assembleNow (s : State) : State :=
  let s := { s with pwr := { s.pwr with assembling := false } }
  let s := match bestLabel s with
    | none => s
    | some l => takeLabel l s
  limitEval ((List.range 24).foldl (fun s b => assembleBay b s) s)

/-- Bays with accepted presence whose port is neither READY nor UNUSABLE (R410), as a mask. -/
def waitingBays (s : State) : Nat :=
  baysMask ((List.range 24).filter fun b =>
    bitAt s.bay.side.prsnt b && (portAt s b).state != 4 && (portAt s b).state != 6)

/-- The wait of R410 ends when no bay is waited for. -/
def assemblyCheck (s : State) : State :=
  if s.pwr.assembling ∧ waitingBays s = 0 then assembleNow s else s

/-- A port is READY or UNUSABLE: assembly may be complete; after it, the drive is judged as a returning member (R310, R410). -/
def portSettled (n : Nat) (s : State) : State :=
  if s.pwr.assembling then assemblyCheck s
  else if (portAt s n).state = 4 then judgeDrive n s else s

/-! ### Bay power -/

/-- A bay. -/
def bayAt (s : State) (b : Nat) : Bay := tgetD s.bay.bays b {}

/-- Replace a bay. -/
def setBay (b : Nat) (x : Bay) (s : State) : State :=
  { s with bay := { s.bay with bays := tput {} s.bay.bays b x } }

/-- An event of a bay's power page (R335). -/
def bpEvent (b low : Nat) (detail : List Nat) (s : State) : State := raise ((0x48 + b / 6) * 256 + low) (b :: detail) s

/-- Move a bay to a power state: event 0x4801 (R324). `PWRDIS` is asserted in OFF and LATCHED and released at QUEUED (R318). -/
def bayMove (b st : Nat) (s : State) : State :=
  let x := bayAt s b
  if x.state = st then s
  else
    let dis := if st = 2 ∨ st = 7 then true else if st = 3 then false else x.pwrdis
    bpEvent b 0x01 [x.state, st] (setBay b { x with state := st, pwrdis := dis } s)

/-- A bay's gates go off: power-good is deasserted and, within 1 µs, `PERST_N` asserted; the member is lost as `lose` says (R327). -/
def gatesOff (b : Nat) (lose : State → State) (s : State) : State :=
  let x := bayAt s b
  let s := setBay b { x with
    feed := 0, pg := false, changeover := none, offAt := if x.feed = 0 then x.offAt else s.time } s
  portUnpowered b lose s

/-- Record a fault code: `BAY_STAT.FAULT` and its bit of `BAY_FAULT` (Table 18). -/
def bayFaultCode (b code : Nat) (s : State) : State :=
  wr (Reg.BAY_FAULT b) (setBit (rd s (Reg.BAY_FAULT b)) (code - 1)) (setBay b { bayAt s b with fault := code } s)

/-- A start or run fault: the gate goes off, `RETRIES` counts, and the bay waits for its retry or, with none left, is LATCHED
(BAY_FAULT_LATCH; R325 to R329). `RETRY_MAX` 0 never latches. -/
def bayFault (b code : Nat) (s : State) : State :=
  let x := bayAt s b
  let start := x.state == 4
  let n := min 255 (x.retries + 1)
  let max := bits (cfg s (Reg.BAY_RETRY b)) 16 8
  let latch := decide (max ≠ 0) && decide (max < x.retries + 1)
  let s := gatesOff b (fun s => if start then s else memberDepart b 1 s) s
  let s := bayFaultCode b code (setBay b { bayAt s b with retries := n } s)
  let s := bpEvent b (if start then 0x02 else 0x03) [code, n] s
  if latch then bpEvent b 0x05 [code] (bayMove b 7 s) else bayMove b 6 s

/-- The feed gates this controller drives, as `BP_STAT.FEEDS`: both in the solo topology, its own in a pair (R28, R29). -/
def feedsDriven (s : State) : Nat := if !s.pairedNow then 3 else if isCtrl1 s then 2 else 1

/-- Whether a gate of feed `f` (1 A, 2 B) is driven by this controller or a partner that is present (R331); none in a conflict of
`CTRL_ID` (R27). -/
def feedHas (s : State) (f : Nat) : Bool :=
  !s.pair.conflict && (bits (feedsDriven s) (f - 1) 1 == 1 || s.pair.sense != 0)

/-- The feed a start uses: A when A is good, else B when B is good (R330, R331). -/
def startFeed (s : State) (x : Bay) : Option Nat :=
  if x.goodA && feedHas s 1 then some 1 else if x.goodB && feedHas s 2 then some 2 else none

/-- OFF: the gates go off, `PWRDIS` is asserted, the member departs with cause 4 (R334). -/
def bayOff (b : Nat) (s : State) : State :=
  let s := setBay b { bayAt s b with onWait := false } s
  bayMove b 2 (gatesOff b (memberDepart b 4) s)

/-- The states OFF and CYCLE apply to: every state but EMPTY and OFF (R324, R334). -/
def canOff (x : Bay) : Bool := x.state != 0 && x.state != 2

/-- The minimum off-time since the last gate-off has passed (R324, R334). -/
def offTimeOver (s : State) (b : Nat) : Bool :=
  let x := bayAt s b
  x.offAt == 0 || decide (x.offAt + cfg s (Reg.BAYPWR_OFF_MIN_MS (b / 6)) * 1000000 ≤ s.time)

/-- `BAY_CTL.EN` of a bay. -/
def bayEn (s : State) (b : Nat) : Bool := bitAt (cfg s (Reg.BAY_CTL b)) 0

/-- ON: an OFF bay is QUEUED, at once or when its minimum off-time has passed (R324, R334). -/
def bayOn (b : Nat) (s : State) : State :=
  if offTimeOver s b then bayMove b 3 (setBay b { bayAt s b with onWait := false } s)
  else setBay b { bayAt s b with onWait := true } s

/-- CLEAR: a LATCHED bay is QUEUED with `RETRIES` 0 (R334). -/
def bayClear (b : Nat) (s : State) : State := bayMove b 3 (setBay b { bayAt s b with retries := 0 } s)

/-- CYCLE: OFF, and then ON once the minimum off-time has passed (R334). -/
def bayCycle (b : Nat) (s : State) : State := bayOn b (bayOff b s)

/-- Whether a bay takes a command in its state: 1 OFF, 2 ON, 3 CLEAR, 4 CYCLE; a bay with `EN` = 0 is never powered (R324, R334). -/
def bayTakes (s : State) (b cmd : Nat) : Bool :=
  if cmd = 1 then canOff (bayAt s b)
  else if cmd = 2 then (bayAt s b).state == 2 && bayEn s b
  else if cmd = 3 then (bayAt s b).state == 7 && bayEn s b
  else canOff (bayAt s b) && bayEn s b

/-- The effect of a bay command on a bay in a state that takes it (R334). -/
def bayCmdEffect (b cmd : Nat) (s : State) : State :=
  if !bayTakes s b cmd then s
  else if cmd = 1 then bayOff b s
  else if cmd = 2 then bayOn b s
  else if cmd = 3 then bayClear b s
  else bayCycle b s

/-- A bay command recorded by the partner takes effect here too (R331, R349). -/
def bayRecord (b cmd : Nat) (s : State) : State := if b < 24 then bayCmdEffect b cmd s else s

/-- A bay command: in the wrong state no effect and `RESULT` 1; in a pair it takes effect once the partner has recorded it (R331, R334). -/
def bayCommand (b cmd : Nat) (s : State) : State :=
  if !bayTakes s b cmd then wr (Reg.BAY_CMD_STAT b) 1 s
  else requestRecord (.bayCmd b cmd) .nothing (bayCmdEffect b cmd) id (wr (Reg.BAY_CMD_STAT b) 0 s)

/-- A reserved bay command: `RESULT` 2. -/
def bayCmdReserved (b : Nat) (s : State) : State := wr (Reg.BAY_CMD_STAT b) 2 s

/-- Every bay off in descending order (R413). -/
def baysOffDescending (s : State) : State :=
  (List.range 24).reverse.foldl (fun s b => if canOff (bayAt s b) then bayOff b s else s) s

/-- The power chiplet starts afresh at the rise of `VDD_PC`: no gate is on, and a bay with accepted presence is in INSERT_WAIT, any
other EMPTY (R324, R480); with bad trims no gate is turned on until it rises again. -/
def chipletStart (trimOk : Bool) (s : State) : State :=
  let s := (List.range 24).foldl (fun s b =>
    let x := bayAt s b
    let s := if x.feed = 0 then s else gatesOff b (memberDepart b 1) s
    setBay b { state := if bitAt s.bay.side.prsnt b then 1 else 0, goodA := x.goodA, goodB := x.goodB } s) s
  { s with bay := { s.bay with trimBad := !trimOk, lastStart := none } }

/-- No bay gate is driven: a conflict of `CTRL_ID` (R27). A bay that was on waits in QUEUED for a feed it may use. -/
def allGatesOff (s : State) : State :=
  (List.range 24).foldl (fun s b =>
    let s := if (bayAt s b).feed = 0 then s else gatesOff b (memberDepart b 1) s
    if (bayAt s b).state = 4 ∨ (bayAt s b).state = 5 then bayMove b 3 s else s) s

/-- Changeover from A to B (R330, R331): A bad and B good on a bay that A feeds. The A gate goes off and B is turned on where this controller
or a present partner drives it; power-good is held until CHANGEOVER_COMPLETE, or lost. With both feeds bad no gate changes. -/
def changeover (b cause : Nat) (s : State) : State :=
  let x := bayAt s b
  if (x.state ≠ 4 ∧ x.state ≠ 5) ∨ x.feed ≠ 1 ∨ !x.goodB ∨ s.pair.conflict then s
  else setBay b { x with feed := if feedHas s 2 then 2 else 0, changeover := some cause } s

/-- Whether this controller drives the LED chain (R321). -/
def drivesLeds (s : State) : Bool :=
  bitAt (cfg s Reg.SIDEBAND_SB_CTL) 1 && (!s.pairedNow || !isCtrl1 s || s.pair.state == 5)

/-- A port block reset is port recovery (R409, Table 5). -/
def rpBlockReset (n : Nat) (s : State) : State :=
  if (portAt s n).state = 0 then s else portRecover n s

/-- What staged `RP` and `BAYPWR` values do at their closure (R336): clearing `PORT_EN` takes the port to DISABLED and the member departs
with cause 2, setting it leaves the port HELD, and clearing `BAY_CTL.EN` acts as `OFF`. -/
def bayClosure (old new : RegId → Nat) (s : State) : State :=
  let s := (List.range 24).foldl (fun s n =>
    let was := bitAt (old (Reg.RP_RP_CTL n)) 0
    let now := bitAt (new (Reg.RP_RP_CTL n)) 0
    if was && !now then portDown n 0 0 (portDepart n) s
    else if !was && now && (portAt s n).state == 0 then setPort n { portAt s n with state := 1 } s
    else s) s
  (List.range 24).foldl (fun s b =>
    if bitAt (old (Reg.BAY_CTL b)) 0 && !bitAt (new (Reg.BAY_CTL b)) 0 && canOff (bayAt s b) then bayOff b s else s) s

end Sys2Proof.Machine
end

