-- ==== Sys2Proof/Machine/Bay.lean ====
section
/-!
DEFINITION. Machine/Bay.lean: the bay sideband and the bay power controllers (spec/12, rows 224 to 246).
-/
namespace Sys2Proof.Machine

/-! ### Sideband -/

/-- Set a bay's bit of a mask. Inputs are numbered as in event 0x4C04: 0 `PRSNT_N`, 1 `IFDET_N`, 2 `ATTN_BTN_N`. -/
def putMask (m b : Nat) (on : Bool) : Nat := if on then setBit m b else clrBit m b

/-- The accepted levels of an input, as a mask of low levels. -/
def SideSt.acc (x : SideSt) (input : Nat) : Nat := if input = 0 then x.prsnt else if input = 1 then x.ifdet else x.attn

/-- The quarantines of an input. -/
def SideSt.quar (x : SideSt) (input : Nat) : Nat := if input = 0 then x.quarPrsnt else if input = 1 then x.quarIfdet else x.quarAttn

/-- The present debounced levels of an input. -/
def SideSt.deb (x : SideSt) (input : Nat) : Nat := if input = 0 then x.debPrsnt else if input = 1 then x.debIfdet else x.debAttn

/-- Set an accepted level. -/
def SideSt.setAcc (x : SideSt) (input b : Nat) (low : Bool) : SideSt :=
  if input = 0 then { x with prsnt := putMask x.prsnt b low }
  else if input = 1 then { x with ifdet := putMask x.ifdet b low }
  else { x with attn := putMask x.attn b low }

/-- Set a quarantine. -/
def SideSt.setQuar (x : SideSt) (input b : Nat) (on : Bool) : SideSt :=
  if input = 0 then { x with quarPrsnt := putMask x.quarPrsnt b on }
  else if input = 1 then { x with quarIfdet := putMask x.quarIfdet b on }
  else { x with quarAttn := putMask x.quarAttn b on }

/-- Set a debounced level. -/
def SideSt.setDeb (x : SideSt) (input b : Nat) (low : Bool) : SideSt :=
  if input = 0 then { x with debPrsnt := putMask x.debPrsnt b low }
  else if input = 1 then { x with debIfdet := putMask x.debIfdet b low }
  else { x with debAttn := putMask x.debAttn b low }

/-- Change the sideband. -/
def modSide (f : SideSt → SideSt) (s : State) : State := { s with bay := { s.bay with side := f s.bay.side } }

/-- BAY_REMOVAL (R332): gates off, `PERST_N` and `PWRDIS` asserted, the fault state cleared, EMPTY. -/
def bayRemoval (b : Nat) (s : State) : State :=
  let s := raise 0x4C01 [b, 0] s
  let s := gatesOff b (memberDepart b 0) s
  let s := setBay b { bayAt s b with retries := 0, fault := 0, onWait := false, pwrdis := true } s
  assemblyCheck (bayMove b 0 s)

/-- What an accepted level does (R319, R320, R324): presence, removal, or a press (ATTENTION_PRESS). -/
def sideAct (input b : Nat) (low : Bool) (s : State) : State :=
  if input = 0 then
    if low then
      let s := raise 0x4C01 [b, 1] s
      if (bayAt s b).state = 0 then bayMove b 1 s else s
    else bayRemoval b s
  else if input = 1 then s
  else if low then raise 0x4C02 [b] (bump Reg.SIDEBAND_PRESSES (modSide (fun x => { x with counting := setBit x.counting b }) s))
  else modSide (fun x => { x with counting := clrBit x.counting b }) s

/-- Accept a level of an input: an edge that is counted; more than 32 within 1 s quarantine the input, with the level just accepted held
and a counting press cancelled (R319, R320). -/
def sideAccept (input b : Nat) (low : Bool) (s : State) : State :=
  let key := input * 32 + b
  let es := ((tgetD s.bay.side.edges key []).filter fun t => decide (s.time < t + 1000000000)) ++ [s.time]
  let s := bump Reg.SIDEBAND_EDGES (modSide (fun x => { (x.setAcc input b low) with edges := tset x.edges key es }) s)
  let s := sideAct input b low s
  if 32 < es.length then
    let s := modSide (fun x => { (x.setQuar input b true) with counting := if input = 2 then clrBit x.counting b else x.counting }) s
    raise 0x4C04 [b, input] (bump Reg.SIDEBAND_QUARANTINES s)
  else s

/-- SIDEBAND_EDGE (R319): a raw level change restarts the input's 16 ms debounce window. -/
def execSidebandEdge (bay input : Nat) (low : Bool) (s : State) : Res := .next <|
  let k := input * 32 + bay
  if 24 ≤ bay ∨ 3 ≤ input ∨ s.bay.side.raw.contains k = low then s
  else modSide (fun x => { x with
    raw := if low then x.raw ++ [k] else x.raw.filter fun i => i != k
    window := if x.window.contains k then x.window else x.window ++ [k] }) s

/-- SIDEBAND_LEVEL_ACCEPT (R319, with BAY_REMOVAL and ATTENTION_PRESS): the level of an input has been stable for 16 ms. -/
def execSidebandLevelAccept (bay input : Nat) (s : State) : Res := .next <|
  let k := input * 32 + bay
  if 24 ≤ bay ∨ 3 ≤ input ∨ !s.bay.side.window.contains k then s
  else
    let low := s.bay.side.raw.contains k
    let s := modSide (fun x => { (x.setDeb input bay low) with window := x.window.filter fun i => i != k }) s
    if bitAt (s.bay.side.quar input) bay ∨ bitAt (s.bay.side.acc input) bay = low then s
    else sideAccept input bay low s

/-- LONG_PRESS (R320): a press held 8 s; once for the hold, and with `LONG_OFF_EN` = 1 OFF applies to the bay. -/
def execLongPress (bay : Nat) (s : State) : Res := .next <|
  if !bitAt s.bay.side.counting bay then s
  else
    let s := bump Reg.SIDEBAND_LONG_PRESSES (modSide (fun x => { x with counting := clrBit x.counting bay }) s)
    let off : Bool := bitAt (cfg s Reg.SIDEBAND_SB_CTL) 0 && bayTakes s bay 1
    let s := raise 0x4C03 [bay, b2n off] s
    if off then requestRecord (.bayCmd bay 1) .nothing (bayCmdEffect bay 1) id s else s

/-- Writing 1 to a quarantine bit ends it: the present debounced level is accepted at once and the edge count restarts (R319). -/
def quarClearOp (input v : Nat) (s : State) : State :=
  (List.range 24).foldl (fun s b =>
    if bitAt v b ∧ bitAt (s.bay.side.quar input) b then
      let s := modSide (fun x => { (x.setQuar input b false) with edges := tdel x.edges (input * 32 + b) }) s
      let low := bitAt (s.bay.side.deb input) b
      if bitAt (s.bay.side.acc input) b = low then s else sideAccept input b low s
    else s) s

/-- The quarantine register of an input. -/
def quarReg (input : Nat) : RegId :=
  if input = 0 then Reg.SIDEBAND_QUAR_PRSNT else if input = 1 then Reg.SIDEBAND_QUAR_IFDET else Reg.SIDEBAND_QUAR_ATTN

/-- QUARANTINE_CLEAR (R319). -/
def execQuarantineClear (p : Path) (input v : Nat) (s : State) : Res := .next <| cmdWrite p (quarReg input) (quarClearOp input v) s

/-- The automatic state of LED `i` of a bay (R321): how activity blinks is not stated, so with I/O since the last refresh it is a value
the spec leaves open. -/
def ledAuto (b i : Nat) (s : State) : Bool × State :=
  if i = 0 then ((bayAt s b).pg, s)
  else if i = 1 then
    if s.bay.active.contains b then let (v, s) := drawFree s; (v % 2 == 1, s) else (false, s)
  else if i = 2 then ((memberAt s b).state == 4 || (memberAt s b).state == 5 || (bayAt s b).state == 7, s)
  else (false, s)

/-- The chain's 96 bits: bit 4b + i is LED i of bay b by its `LED_MODE` (R321, Table 20). -/
def ledWord (s : State) : Nat × State :=
  (List.range 96).foldl (fun (acc : Nat × State) k =>
    let b := k / 4
    let mode := bits (cfg acc.2 (Reg.SIDEBAND_LED_MODE (b / 4))) (8 * (b % 4) + 2 * (k % 4)) 2
    let (on, s) :=
      if mode = 0 then ledAuto b (k % 4) acc.2
      else (mode == 2 || (mode == 3 && acc.2.time / 250000000 % 2 == 0), acc.2)
    (if on then setBit acc.1 k else acc.1, s)) (0, s)

/-- LED_REFRESH (R321): every 10 ms the chain is shifted out, bit 95 first, and latched. -/
def execLedRefresh (s : State) : Res := .next <|
  if !drivesLeds s then s
  else
    let (w, s) := ledWord s
    drive (.leds w) { s with bay := { s.bay with active := [] } }

/-! ### Bay power -/

/-- INSERTION_DELAY_END (R324): the later of insertion delay and minimum off-time ends; QUEUED with `EN` and `AUTO_ON`, else OFF, as when
`IFDET_N` is high and `IFDET_REQ` = 1. -/
def execInsertionDelayEnd (bay : Nat) (s : State) : Res := .next <|
  if (bayAt s bay).state ≠ 1 then s
  else if bayEn s bay ∧ bitAt (cfg s (Reg.BAYPWR_BP_CTL (bay / 6))) 0 ∧
      !(bitAt (cfg s Reg.SIDEBAND_SB_CTL) 2 && !bitAt s.bay.side.ifdet bay) then bayMove bay 3 s
  else bayMove bay 2 s

/-- The lowest QUEUED bay that a good feed can start (R330, R333). -/
def nextStart (s : State) : Option Nat :=
  firstIdx 24 fun b => (bayAt s b).state == 3 && (startFeed s (bayAt s b)).isSome

/-- BAY_START (R333): with fewer than `RAMP_MAX` bays RAMPING and `STAGGER_MS` since the last start, the lowest QUEUED bay enters RAMPING;
before release of the engines none does (spec/16, Table 6). -/
def execBayStart (s : State) : Res := .next <|
  let ramping := tcount s.bay.bays fun _ x => x.state == 4
  let spaced : Bool := match s.bay.lastStart with
    | none => true
    | some t => decide (t + cfg s (Reg.BAYPWR_STAGGER_MS 0) * 1000000 ≤ s.time)
  if cfg s (Reg.BAYPWR_RAMP_MAX 0) ≤ ramping ∨ !spaced ∨ s.bay.trimBad ∨ !s.pwr.released then s
  else match nextStart s with
    | none => s
    | some b =>
      let s := setBay b { bayAt s b with feed := (startFeed s (bayAt s b)).getD 0 } s
      bump (Reg.BAY_STARTS b) (bayMove b 4 { s with bay := { s.bay with lastStart := some s.time } })

/-- BAY_FAULT_TIMER_EXPIRE (R325): T_FLT expires: START_FAULT in RAMPING, RUN_OVERCURRENT in ON. -/
def execBayFaultTimerExpire (bay : Nat) (s : State) : Res := .next <|
  let x := bayAt s bay
  if x.state = 4 then bayFault bay 1 s else if x.state = 5 then bayFault bay 2 s else s

/-- BAY_FAST_TRIP (R326): code 3 in RAMPING, 4 in ON. -/
def execBayFastTrip (bay : Nat) (s : State) : Res := .next <|
  let x := bayAt s bay
  if x.state = 4 then bayFault bay 3 s else if x.state = 5 then bayFault bay 4 s else s

/-- BAY_POWER_GOOD (R327): the bay enters ON. -/
def execBayPowerGood (bay : Nat) (s : State) : Res := .next <|
  let x := bayAt s bay
  if x.state = 4 then bayMove bay 5 (setBay bay { x with pg := true } s) else s

/-- BAY_POWER_GOOD_LOST (R327): a loss that was not commanded is a run fault with code 6, and the member departs with cause 1. -/
def execBayPowerGoodLost (bay : Nat) (s : State) : Res := .next <|
  if (bayAt s bay).state = 5 then bayFault bay 6 s else s

/-- BAY_RETRY_WAIT_END (R329). -/
def execBayRetryWaitEnd (bay : Nat) (s : State) : Res := .next <|
  if (bayAt s bay).state = 6 then bayMove bay 3 s else s

/-- BAY_RETRIES_RESET (R329): 60 s in ON. -/
def execBayRetriesReset (bay : Nat) (s : State) : Res := .next <|
  let x := bayAt s bay
  if x.state = 5 then setBay bay { x with retries := 0 } s else s

/-- FEED_BAD (R323, R330): `feedB` names the feed, below UV or above OV for 10 µs at the bay; A bad with B good starts a changeover, and a return to A
under way is given up. -/
def execFeedBad (bay : Nat) (feedB : Bool) (s : State) : Res := .next <|
  if 24 ≤ bay then s
  else
    let x := bayAt s bay
    let back := !feedB && x.changeover == some 2
    let s := setBay bay { x with
      goodA := x.goodA && feedB, goodB := x.goodB && !feedB, changeover := if back then none else x.changeover } s
    if feedB then s else changeover bay 0 s

/-- FEED_GOOD (R323): a feed lies within its window again; B good while A is bad lets a changeover proceed (R330). -/
def execFeedGood (bay : Nat) (feedB : Bool) (s : State) : Res := .next <|
  if 24 ≤ bay then s
  else
    let x := bayAt s bay
    let s := setBay bay { x with goodA := x.goodA || !feedB, goodB := x.goodB || feedB } s
    if feedB ∧ !x.goodA then changeover bay 0 s else s

/-- FEED_RETURN (R330, R331): A good for 500 ms; at controller 1 only while ranging reports the partner serving. B is turned off first. -/
def execFeedReturn (bay : Nat) (s : State) : Res := .next <|
  let x := bayAt s bay
  if x.feed ≠ 2 ∨ !x.goodA ∨ s.pair.conflict ∨ x.changeover.isSome then s
  else if s.pairedNow ∧ isCtrl1 s ∧ !(s.pair.ranging && (s.pair.partnerState == 3 || s.pair.partnerState == 4)) then s
  else setBay bay { x with changeover := some 2 } s

/-- CHANGEOVER_COMPLETE (R330, Table 10): the gate turned on is enhanced by 9 V; power-good was held. Event 0x4806 to B, 0x4807 to A. -/
def execChangeoverComplete (bay : Nat) (s : State) : Res := .next <|
  let x := bayAt s bay
  match x.changeover with
  | none => s
  | some c =>
    if c ≠ 2 ∧ x.feed ≠ 2 then s
    else
      let s := bump (Reg.BAY_CHANGES bay) (setBay bay { x with feed := if c = 2 then 1 else 2, changeover := none } s)
      if c = 2 then bpEvent bay 0x07 [] s else bpEvent bay 0x06 [c] s

/-- RETURN_TO_A_TIMEOUT (R331): V_GS of A has not risen above 1 V within 50 µs of B's gate-off; controller 1 turns B on again. -/
def execReturnToATimeout (bay : Nat) (s : State) : Res := .next <|
  let x := bayAt s bay
  if x.changeover = some 2 ∧ s.pairedNow ∧ isCtrl1 s then setBay bay { x with feed := 2, changeover := none } s else s

/-- GATE_TURNOFF_FAIL (R330): V_GS of the gate being turned off does not fall below 1 V within 8 µs: the other gate stays off, and code 5 is
recorded. The bay stays on the gate that conducts. -/
def execGateTurnoffFail (bay : Nat) (s : State) : Res := .next <|
  if 24 ≤ bay then s
  else
    let x := bayAt s bay
    let on := match x.changeover with
      | none => x.feed
      | some c => if c = 2 then 2 else 1
    bpEvent bay 0x08 [5] (bayFaultCode bay 5 (setBay bay { x with feed := on, changeover := none } s))

/-- BOTH_GATES (R330): both V_GS exceed 1 V at once; the feed-B gate is turned off, and code 7 recorded. -/
def execBothGates (bay : Nat) (s : State) : Res := .next <|
  if 24 ≤ bay then s
  else
    let x := bayAt s bay
    bpEvent bay 0x08 [7] (bayFaultCode bay 7 (setBay bay { x with feed := if x.feed = 0 then 0 else 1 } s))

/-- FEED_A_GATE_LOST (R331): controller 1 sees V_GS of A fall while A is good and the bay is on, and turns B on. -/
def execFeedAGateLost (bay : Nat) (s : State) : Res := .next <|
  let x := bayAt s bay
  if !s.pairedNow ∨ !isCtrl1 s ∨ (x.state ≠ 4 ∧ x.state ≠ 5) ∨ x.feed ≠ 1 ∨ !x.goodA ∨ s.pair.conflict then s
  else setBay bay { x with feed := 2, changeover := some 1 } s

/-- OFF (R334). -/
def execOff (p : Path) (bay : Nat) (s : State) : Res := .next <|
  if 24 ≤ bay then s else cmdWrite p (Reg.BAY_CMD bay) (bayCommand bay 1) s

/-- ON (R334). -/
def execOn (p : Path) (bay : Nat) (s : State) : Res := .next <|
  if 24 ≤ bay then s else cmdWrite p (Reg.BAY_CMD bay) (bayCommand bay 2) s

/-- CLEAR (R334). -/
def execClear (p : Path) (bay : Nat) (s : State) : Res := .next <|
  if 24 ≤ bay then s else cmdWrite p (Reg.BAY_CMD bay) (bayCommand bay 3) s

/-- CYCLE (R334). -/
def execCycle (p : Path) (bay : Nat) (s : State) : Res := .next <|
  if 24 ≤ bay then s else cmdWrite p (Reg.BAY_CMD bay) (bayCommand bay 4) s

/-- CYCLE_OFF_TIME_END (R334): the minimum off-time has passed and ON is applied. -/
def execCycleOffTimeEnd (bay : Nat) (s : State) : Res := .next <|
  let x := bayAt s bay
  if x.state = 2 ∧ x.onWait then bayMove bay 3 (setBay bay { x with onWait := false } s) else s

end Sys2Proof.Machine
end

