-- ==== Sys2Proof/Machine/ClassOps.lean ====
section
/-!
DEFINITION. Machine/ClassOps.lean: classification (spec/09, R238 to R242): the Toeplitz flow hash, the ternary rules, the flow table and its
commands, and how an action is applied.
-/
namespace Sys2Proof.Machine

/-! ### The flow hash (R242) -/

/-- The Toeplitz key: the 40 bytes of `HASH_KEY[0..9]`, the first byte most significant. -/
def hashKey (s : State) : Nat :=
  (List.range 10).foldl (fun a i =>
    let v := cfg s (Reg.CLASS_HASH_KEY i)
    a * 2 ^ 32 + (v % 256 * 2 ^ 24 + v / 256 % 256 * 2 ^ 16 + v / 65536 % 256 * 256 + v / 2 ^ 24 % 256)) 0

/-- The 32 key bits that stand at a bit position. -/
def keyWindow (k n : Nat) : Nat := if n + 32 ≤ 320 then k / 2 ^ (288 - n) % 2 ^ 32 else Config.toeplitzPast k n % 2 ^ 32

/-- Fold one byte into the accumulator, most significant bit first: hash and bits folded. -/
def foldByte (k : Nat) (a : Nat × Nat) (b : Nat) : Nat × Nat :=
  ((List.range 8).foldl (fun h i => if bitAt b (7 - i) then h ^^^ keyWindow k (a.2 + i) else h) a.1, a.2 + 8)

/-- Fold bytes in order. -/
def foldBytes (k : Nat) (a : Nat × Nat) (bs : List Nat) : Nat × Nat := bs.foldl (foldByte k) a

/-! ### Rules (R238, R241) -/

/-- The low 44 bytes of a key as a number. -/
def ternaryKey (key : List Nat) : Nat := leNat (key.take 44)

/-- Whether a rule qualifies and matches (R238, R241). -/
def Rule.matches (r : Rule) (epochBit key : Nat) : Bool :=
  r.valid && (r.anyEpoch || r.epochBit == epochBit) && (key &&& r.mask) == (r.value &&& r.mask)

/-- The matching rule of the lowest index. -/
def ruleMatch (s : State) (key : Nat) : Option (Nat × Rule) :=
  tfind s.net.rules fun _ r => r.matches (b2n (bitAt (cfg s Reg.CLASS_CLS_CTL) 0)) key

/-- The default action as a 16 byte number. -/
def defaultAct (s : State) : Nat :=
  (List.range 4).foldl (fun a i => a + cfg s (Reg.CLASS_DEFAULT_ACT i) * 2 ^ (32 * i)) 0

/-! ### The flow table (R239, R240) -/

/-- Key bytes 44 to 59 and the profile. -/
def flowKeyOf (key : List Nat) : Nat × Nat := (leNat ((key.drop 44).take 16), key.getD 0 0 % 16)

/-- The two buckets of a flow key. -/
def flowBuckets (key profile : Nat) : Nat × Nat :=
  (Config.flowHash 0 key profile % 262144, Config.flowHash 1 key profile % 262144)

/-- The places of a bucket. -/
def bucketPlaces (b : Nat) : List Nat := [4 * b, 4 * b + 1, 4 * b + 2, 4 * b + 3]

/-- Where a key stands. -/
def flowFind (t : Tab Flow) (key profile : Nat) : Option (Nat × Flow) :=
  let (a, b) := flowBuckets key profile
  (bucketPlaces a ++ bucketPlaces b).findSome? fun i => match tget t i with
    | some f => if f.key = key ∧ f.profile = profile then some (i, f) else none
    | none => none

/-- A free place in either bucket. -/
def flowFree (t : Tab Flow) (a b : Nat) : Option Nat := (bucketPlaces a ++ bucketPlaces b).find? fun i => !thas t i

/-- The other bucket of an entry that stands in one. -/
def otherBucket (f : Flow) (b : Nat) : Nat :=
  let (x, y) := flowBuckets f.key f.profile
  if x = b then y else x

/-- Make room in bucket `b` by moving residents to their other bucket, at most `n` moves (R240): the table with a free place in `b`, and that
place; none where no room is found and nothing is moved. -/
def flowRoom : Nat → Tab Flow → Nat → Option (Tab Flow × Nat)
  | 0, _, _ => none
  | n + 1, t, b =>
    match (bucketPlaces b).findSome? fun i => match tget t i with
      | none => none
      | some f => ((bucketPlaces (otherBucket f b)).find? fun j => !thas t j).map fun j => (i, j, f) with
    | some (i, j, f) => some (tdel (tset t j f) i, i)
    | none =>
      let i := 4 * b + n % 4
      match tget t i with
      | none => some (t, i)
      | some f =>
        if otherBucket f b = b then none
        else match flowRoom n t (otherBucket f b) with
          | none => none
          | some (t, j) =>
            if tget t i = some f then some (tdel (tset t j f) i, i) else if thas t i then none else some (t, i)

/-- Insert a flow entry (R240): the result code of Table 18 and the index. -/
def flowInsert (f : Flow) (s : State) : (Nat × Nat) × State :=
  let t := s.net.flows
  match flowFind t f.key f.profile with
  | some (i, _) => ((1, i), s)
  | none =>
    let (a, b) := flowBuckets f.key f.profile
    match flowFree t a b with
    | some i => ((0, i), { s with net := { s.net with flows := tset t i f } })
    | none => match flowRoom 32 t a with
      | some (t, i) => ((0, i), { s with net := { s.net with flows := tset t i f } })
      | none => ((3, 0), raise 0x1201 (leBytes 4 t.length) s)

/-- The entry image in `FLOW_DATA` (Table 8) as a 32 byte number. -/
def flowImage (s : State) : Nat :=
  (List.range 8).foldl (fun a i => a + rd s (Reg.CLASS_FLOW_DATA i) * 2 ^ (32 * i)) 0

/-- The entry an image stands for. -/
def flowOfImage (v : Nat) : Flow :=
  { key := v % 2 ^ 128, profile := bits v 128 4, pin := bitAt v 132, slice := bits v 133 1, cls := bits v 136 8, cp := bits v 144 8
    queue := bits v 160 12, context := bits v 192 20, lastHit := bits v 224 32 }

/-- The image of an entry. -/
def Flow.image (f : Flow) : Nat :=
  f.key + (f.profile + b2n f.pin * 16 + f.slice * 32 + 128) * 2 ^ 128 + f.cls * 2 ^ 136 + f.cp * 2 ^ 144 + f.queue * 2 ^ 160
    + f.context * 2 ^ 192 + f.lastHit * 2 ^ 224

/-- Record a flow command's outcome (Table 18). -/
def flowStat (result index : Nat) (s : State) : State := wr Reg.CLASS_FLOW_CMD_STAT (result * 2 + index * 4096) s

/-! ### A lookup and its action (R238) -/

/-- The result of a lookup, with the hit counts and times it leaves (R238, R239). -/
def lookupRun (q : LookReq) (s : State) : LookRes × State :=
  let m := ruleMatch s (ternaryKey q.key)
  let s := match m with
    | some (i, r) => { s with net := { s.net with rules := tset s.net.rules i { r with hits := satAdd32 r.hits 1 } } }
    | none => bump Reg.CLASS_RULE_MISSES s
  let rule := m.map fun p => (p.1, p.2.action)
  if !q.flow then ({ rule := rule, flow := none }, s)
  else
    let (k, p) := flowKeyOf q.key
    let hit := if bitAt (cfg s Reg.CLASS_CLS_CTL) 1 then flowFind s.net.flows k p else none
    match hit with
    | none => ({ rule := rule, flow := none }, bump Reg.CLASS_FLOW_MISSES s)
    | some (i, f) =>
      ({ rule := rule, flow := some f }, bump Reg.CLASS_FLOW_HITS
        { s with net := { s.net with flows := tset s.net.flows i { f with lastHit := s.time / 65536 % 2 ^ 32 } } })

/-- Apply byte 1 of an action: colour and priority, unless it keeps the program's (Table 7). The priority counts as set where it is written. -/
def applyCp (cp : Nat) (o : OutRec × Bool) : OutRec × Bool :=
  let (r, set) := o
  let r := if bitAt cp 6 then r else { r with colour := bits cp 0 2 }
  if bitAt cp 5 then (r, set) else ({ r with prio := bits cp 2 3 }, true)

/-- Apply a rule's or the default action (Table 7). -/
def applyAct (act hash : Nat) (o : OutRec × Bool) : OutRec × Bool :=
  let (r, set) := applyCp (bits act 8 8) o
  ({ r with cls := bits act 0 8, queue := (bits act 16 12 + hash % 2 ^ min 12 (bits act 32 4)) % 4096
            sampler := bits act 40 4, sample := bitAt act 44, context := bits act 64 20 }, set)

/-- Apply a flow entry's fields. -/
def applyFlow (f : Flow) (o : OutRec × Bool) : OutRec × Bool :=
  let (r, set) := applyCp f.cp o
  ({ r with cls := f.cls, queue := f.queue, context := f.context, flags := setBit r.flags 9 }, set)

/-- Apply a lookup's result in the order of R238. -/
def applyLook (s : State) (x : LookRes) (hash : Nat) (o : OutRec × Bool) : OutRec × Bool :=
  let o := match x.rule with
    | none => applyAct (defaultAct s) hash o
    | some (i, a) =>
      let (r, set) := applyAct a hash o
      ({ r with rule := i, flags := setBit r.flags 8 }, set)
  match x.flow with
  | none => o
  | some f => applyFlow f o

end Sys2Proof.Machine
end

