-- ==== Sys2Proof/Machine/Class.lean ====
section
/-!
DEFINITION. Machine/Class.lean: the rule and flow commands of the CLASS page (spec/09, R240, R241).
-/
namespace Sys2Proof.Machine

/-- FLOW_INSERT. -/
def flowInsertOp (s : State) : State :=
  let ((r, i), s) := flowInsert (flowOfImage (flowImage s)) s
  flowStat r i s

/-- FLOW_INSERT (R240). -/
def execFlowInsert (p : Path) (s : State) : Res := .next (cmdWrite p Reg.CLASS_FLOW_CMD flowInsertOp s)

/-- An operation on the entry whose key the image has; RESULT 2 where there is none. -/
def flowOn (f : Nat → Flow → State → State) (s : State) : State :=
  let x := flowOfImage (flowImage s)
  match flowFind s.net.flows x.key x.profile with
  | none => flowStat 2 0 s
  | some (i, e) => flowStat 0 i (f i e s)

/-- FLOW_DELETE clears `VALID`. -/
def flowDeleteOp (s : State) : State := flowOn (fun i _ s => { s with net := { s.net with flows := tdel s.net.flows i } }) s

/-- FLOW_DELETE (R240). -/
def execFlowDelete (p : Path) (s : State) : Res := .next (cmdWrite p Reg.CLASS_FLOW_CMD flowDeleteOp s)

/-- FLOW_REPLACE rewrites the action bytes, 17 to 27. -/
def flowReplaceOp (s : State) : State :=
  let x := flowOfImage (flowImage s)
  let act (e : Flow) : Flow := { e with cls := x.cls, cp := x.cp, queue := x.queue, context := x.context }
  flowOn (fun i e s => { s with net := { s.net with flows := tset s.net.flows i (act e) } }) s

/-- FLOW_REPLACE (R240). -/
def execFlowReplace (p : Path) (s : State) : Res := .next (cmdWrite p Reg.CLASS_FLOW_CMD flowReplaceOp s)

/-- Put an image into `FLOW_DATA`. -/
def putFlowData (v : Nat) (s : State) : State :=
  (List.range 8).foldl (fun s i => wr (Reg.CLASS_FLOW_DATA i) (bits v (32 * i) 32) s) s

/-- FLOW_LOOKUP reads the entry back into `FLOW_DATA`. -/
def flowLookupOp (s : State) : State := flowOn (fun _ e s => putFlowData e.image s) s

/-- FLOW_LOOKUP (R240). -/
def execFlowLookup (p : Path) (s : State) : Res := .next (cmdWrite p Reg.CLASS_FLOW_CMD flowLookupOp s)

/-- A reserved `FLOW_CMD` value: RESULT 4, invalid command (Table 18). -/
def flowInvalidOp (s : State) : State := flowStat 4 0 s

/-! ### Rules (R241) -/

/-- An image held in consecutive registers, four bytes each. -/
def regImage (r : Nat → RegId) (n : Nat) (s : State) : Nat :=
  (List.range n).foldl (fun a i => a + rd s (r i) * 2 ^ (32 * i)) 0

/-- Put an image into consecutive registers. -/
def putImage (r : Nat → RegId) (n v : Nat) (s : State) : State :=
  (List.range n).foldl (fun s i => wr (r i) (bits v (32 * i) 32) s) s

/-- The rule selected by a path. -/
def ruleSel (p : Path) (s : State) : Nat := sel s p Reg.CLASS_RULE_SEL % 32768

/-- Write a rule. -/
def setRule (i : Nat) (r : Rule) (s : State) : State := { s with net := { s.net with rules := tput {} s.net.rules i r } }

/-- RULE_WRITE: value, mask and action are stored, and `VALID` as its last step. -/
def ruleWriteOp (p : Path) (s : State) : State :=
  let c := rd s Reg.CLASS_RULE_CTRL
  setRule (ruleSel p s) {
    valid := bitAt c 0, epochBit := bits c 1 1, anyEpoch := bitAt c 2
    value := regImage Reg.CLASS_RULE_VALUE 11 s, mask := regImage Reg.CLASS_RULE_MASK 11 s
    action := regImage Reg.CLASS_RULE_ACTION 4 s } s

/-- RULE_WRITE (R241). -/
def execRuleWrite (p : Path) (s : State) : Res := .next (cmdWrite p Reg.CLASS_RULE_CMD (ruleWriteOp p) s)

/-- RULE_INVALIDATE. -/
def ruleInvalidateOp (p : Path) (s : State) : State :=
  let i := ruleSel p s
  setRule i { tgetD s.net.rules i {} with valid := false } s

/-- RULE_INVALIDATE (R241). -/
def execRuleInvalidate (p : Path) (s : State) : Res := .next (cmdWrite p Reg.CLASS_RULE_CMD (ruleInvalidateOp p) s)

/-- RULE_READ loads the entry and its hits into the rule registers. -/
def ruleReadOp (p : Path) (s : State) : State :=
  let r := tgetD s.net.rules (ruleSel p s) {}
  let s := wr Reg.CLASS_RULE_CTRL (b2n r.valid + r.epochBit * 2 + b2n r.anyEpoch * 4) s
  let s := putImage Reg.CLASS_RULE_ACTION 4 r.action (putImage Reg.CLASS_RULE_MASK 11 r.mask (putImage Reg.CLASS_RULE_VALUE 11 r.value s))
  wr Reg.CLASS_RULE_HITS r.hits s

/-- RULE_READ (R241). -/
def execRuleRead (p : Path) (s : State) : Res := .next (cmdWrite p Reg.CLASS_RULE_CMD (ruleReadOp p) s)

/-- A rule or flow record carried in a plat (R241, R389 step 5): a rule enters with the epoch that is not active. -/
def platRule (epoch : Nat) (b : List Nat) (s : State) : State :=
  let c := b.getD 2 0
  setRule (leNat (b.take 2) % 32768) {
    valid := bitAt c 0, epochBit := epoch, anyEpoch := bitAt c 2
    value := leNat ((b.drop 4).take 44), mask := leNat ((b.drop 48).take 44), action := leNat ((b.drop 92).take 16) } s

end Sys2Proof.Machine
end

