-- ==== Sys2Proof/Machine/Operands.lean ====
section
/-!
DEFINITION. Machine/Operands.lean: the operand forms of the Eopin instructions (spec/09, R233 to R235): working
registers, fields of the window, output fields, and numbers in network order.  The other commands carry plain values.
-/
namespace Sys2Proof.Machine

/-- Big-endian value of a list of bytes. -/
def beNat (bs : List Nat) : Nat := bs.foldl (fun a b => a * 256 + b % 256) 0

/-- A working register. -/
def Engine.reg (x : Engine) (i : Fin 8) : Nat := x.w.getD i.val 0

/-- Write a working register: 32 bits. -/
def Engine.setReg (x : Engine) (i : Fin 8) (v : Nat) : Engine := { x with w := x.w.set i.val (v % 2 ^ 32) }

/-- Go on to the next instruction. -/
def Engine.adv (x : Engine) : Engine := { x with pc := x.pc + 1 }

/-- Bytes of the window: 256, or the whole frame if shorter. -/
def Engine.window (x : Engine) : Nat := min 256 x.frame.len

/-- The bytes of the window from an offset; none beyond its end (R234). -/
def Engine.read (x : Engine) (abs : Bool) (off n : Nat) : Option (List Nat) :=
  let a := if abs then off else x.cur + off
  if a + n ≤ x.window then some ((List.range n).map fun i => x.frame.bytes.getD (a + i) 0) else none

/-- A field, most significant byte first (R233). -/
def Engine.field (x : Engine) (f : EopField) : Option Nat := (x.read f.abs f.off.val f.w.bytes).map beNat

/-- Set an output field (R233). -/
def Engine.setOut (x : Engine) (f : OutField) (v : Nat) : Engine :=
  match f with
  | .cls => { x with out := { x.out with cls := v % 256 } }
  | .colour => { x with out := { x.out with colour := v % 4 } }
  | .prio => { x with out := { x.out with prio := v % 8 }, prioSet := true }
  | .queue => { x with out := { x.out with queue := v % 4096 } }
  | .sampler => { x with out := { x.out with sampler := v % 16, sample := true } }
  | .context => { x with out := { x.out with context := v % 2 ^ 20 } }
  | .flags => { x with out := { x.out with flags := x.out.flags ||| v % 65536 } }

end Sys2Proof.Machine
end

