-- ==== Sys2Proof/Machine/CiphOps.lean ====
section
/-!
DEFINITION. Machine/CiphOps.lean: the wire SAs (spec/10, R260 to R267), the lanes (R255, R258) and the DRBG (R256, R257).
-/
namespace Sys2Proof.Machine

/-! ### Security associations -/

/-- An SA. -/
def saAt (s : State) (i : Nat) : Option Sa := tget s.ciph.sas i

/-- Write an SA. -/
def setSa (i : Nat) (a : Sa) (s : State) : State := { s with ciph := { s.ciph with sas := tset s.ciph.sas i a } }

/-- An SA leaving the cache: an inbound one keeps only its highest verified number (R261). -/
def saEvict (i : Nat) (s : State) : State :=
  match saAt s i with
  | none => s
  | some a => if a.outbound then s else setSa i { a with seen := [], floor := a.seq } s

/-- The SA cache is used (R261): 32,768 SAs, most recently used first. -/
def saTouch (i : Nat) (s : State) : State :=
  let c := s.ciph.cache
  if c.contains i then
    bump Reg.KSTORE_SAC_HITS { s with ciph := { s.ciph with cache := i :: c.filter fun j => j != i } }
  else
    let s := bump Reg.KSTORE_SAC_MISSES s
    let s := if c.length < 32768 then s else (c.drop 32767).foldl (fun s j => saEvict j s) s
    { s with ciph := { s.ciph with cache := i :: s.ciph.cache.take 32767 } }

/-- The 64-bit sequence number of a packet from its low 32 bits and the highest number verified, by a 4,096-packet window (R260, RFC 4303
Appendix A). -/
def inferSeq (t lo : Nat) : Nat :=
  let tl := t % 2 ^ 32
  let th := t / 2 ^ 32
  if 4095 ≤ tl then (if tl - 4095 ≤ lo then th else th + 1) * 2 ^ 32 + lo
  else if tl + 2 ^ 32 - 4095 ≤ lo then (if th = 0 then 2 ^ 32 - 1 else th - 1) * 2 ^ 32 + lo
  else th * 2 ^ 32 + lo

/-- Whether an inbound sequence number is refused before decryption (R263 step 2, R261). -/
def Sa.replayed (a : Sa) (n : Nat) : Bool :=
  decide (n + 4095 < a.seq) || decide (n ≤ a.floor && a.floor != 0) || a.seen.contains n

/-- Mark a verified sequence number seen; the window keeps 4,096 numbers. -/
def Sa.see (a : Sa) (n : Nat) : Sa :=
  let t := max a.seq n
  { a with seq := t, seen := (n :: a.seen).filter fun m => decide (t ≤ m + 4095) }

/-- Whether SA `j` may succeed an outbound SA (R265). -/
def succOk (s : State) (a : Sa) (j : Nat) : Bool :=
  match saAt s j with
  | none => false
  | some b => b.outbound && b.state == 1 && b.station == a.station && b.peer == a.peer

/-- Every queue pair and connection bound to an SA rebinds (R265). -/
def rebind (i j : Nat) (s : State) : State :=
  let qps := tmap s.xp.qps fun _ q => if q.sa = some i then { q with sa := some j } else q
  let tcp := tmap s.xp.tcp fun _ c => if c.sa = some i then { c with sa := some j } else c
  { s with xp := { s.xp with qps := qps, tcp := tcp } }

/-- After a packet of an SA: SOFT past `SOFT_PKTS` with event 0x1C02, HARD at `HARD_PKTS` or the last sequence number, rebinding to the
successor or raising event 0x1C03 (R265). -/
def saLife (i : Nat) (s : State) : State :=
  match saAt s i with
  | none => s
  | some a =>
    let s := if a.state = 1 ∧ a.soft < a.pkts then raise 0x1C02 (leBytes 3 i) (setSa i { a with state := 2 } s) else s
    if (a.state = 1 ∨ a.state = 2) ∧ (a.hard ≤ a.pkts ∨ 2 ^ 64 - 1 ≤ a.seq) then
      let s := setSa i { a with state := 3 } s
      match a.succ with
      | some j => if a.outbound ∧ succOk s a j then rebind i j s else raise 0x1C03 (leBytes 3 i) s
      | none => raise 0x1C03 (leBytes 3 i) s
    else s

/-- Where a decrypted packet goes (R263 step 5). -/
inductive EspTo where
  | nowhere | transport | again
deriving DecidableEq, Repr

/-- An inbound ESP packet (R263): SA, low sequence number, SPI, station and peer as the packet has them. -/
def espInbound (i lo spi : Nat) (station : Option Nat) (peer : Nat) (e : EspIn) (s : State) : EspTo × State :=
  match saAt s i with
  | none => (.nowhere, bump Reg.CIPHW_NOSA_DROP s)
  | some a =>
    if a.outbound then (.nowhere, bump Reg.CIPHW_NOSA_DROP s)
    else if a.state = 3 then (.nowhere, bump Reg.CIPHW_HARD_DROP s)
    else if a.spi ≠ spi ∨ some a.station ≠ station ∨ a.peer ≠ peer then (.nowhere, bump Reg.CIPHW_NOSA_DROP s)
    else
      let s := saTouch i s
      let a := (saAt s i).getD a
      let n := inferSeq a.seq lo
      if a.replayed n then (.nowhere, bump Reg.CIPHW_REPLAY_DROP s)
      else
        let s := bump64 Reg.CIPHW_DEC_BYTES_LO 0 e.len s
        if !e.icvOk then
          (.nowhere, raise 0x1C01 (leBytes 3 i ++ leBytes 3 1) (bump Reg.CIPHW_ICV_DROP s))
        else
          let s := setSa i (a.see n) s
          if bitAt (cfg s Reg.CIPHW_CW_CTL) 1 && !e.padOk then (.nowhere, bump Reg.CIPHW_PAD_DROP s)
          else
            let s := saLife i (setSa i { a.see n with pkts := a.pkts + 1 } s)
            if e.nextHdr = 17 ∧ e.dport = 4791 then (.transport, s)
            else if e.nextHdr = 17 ∨ e.nextHdr = 6 then (.again, bump Reg.CIPHW_REINJECTED s)
            else (.nowhere, bump Reg.CIPHW_PAD_DROP s)

/-- The VALID outbound SA that a new connection binds (R264); none with `ESP_EN` = 0. -/
def saFor (s : State) (station peer : Nat) : Option Nat :=
  if bitAt (cfg s Reg.CIPHW_CW_CTL) 0 then
    (tfind s.ciph.sas fun _ a => a.outbound && a.state == 1 && a.station == station && a.peer == peer).map fun p => p.1
  else none

/-- Whether a station refuses plaintext (`STN_POLICY.ESP_REQ`). -/
def espReq (s : State) (station : Nat) : Bool := bitAt (cfgAt s Reg.CIPHW_STN_POLICY station) 0

/-- What the wire pool does with a packet of a queue pair (R264, R265, R259): sent in plaintext, sent with so many bytes added, refused for its
length, or waiting for an SA. -/
inductive EspOut where
  | plain | sealed_ (added : Nat) | tooLong | wait
deriving DecidableEq, Repr

/-- Bytes ESP adds to a frame of `len` bytes through the FCS (R260): header, IV, the least trailer for 4-byte alignment, and ICV. What stands outside
the ESP payload of such a frame is 2 more than a multiple of 4. -/
def espAdded (len : Nat) : Nat := 8 + 8 + (2 + (4 - len % 4) % 4) + 16

/-- Pass a queue pair's packet through the wire pool: it takes the SA's `SEQ`, which is then raised (R264). -/
def espOutbound (sa : Option Nat) (len mtu : Nat) (s : State) : EspOut × State :=
  match sa with
  | none => (.plain, s)
  | some i => match saAt s i with
    | none => (.wait, s)
    | some a =>
      if a.state = 3 then (.wait, s)
      else if mtu < len + espAdded len then
        (.tooLong, raise 0x1C05 [2] (errLast 0x1C 0x03 0 3 (bump Reg.CIPHW_LEN_REFUSED s)))
      else
        let s := saTouch i s
        let n := max 1 a.seq
        let s := bump64 Reg.CIPHW_ENC_BYTES_LO 0 len (setSa i { a with seq := n + 1, pkts := a.pkts + 1 } s)
        (.sealed_ (espAdded len), saLife i s)

/-! ### Lanes (R255, R258) -/

/-- The page of a pool: 0 wire, 1 storage. -/
def poolPage (pool : Nat) : Nat := 0x1C + pool % 2

/-- Lanes of a pool in service. -/
def lanesUp (s : State) (pool : Nat) : Nat := 400 - (s.ciph.lanesOut.filter fun l => l / 400 == pool % 2).length

/-- A lane fails its known-answer block: it leaves service with event 0x1C04 or 0x1D04; a pool with no lane left is FATAL (R258). -/
def laneFail (pool lane : Nat) (s : State) : State :=
  let k := pool % 2 * 400 + lane
  if s.ciph.lanesOut.contains k then s
  else
    let s := bump (if pool % 2 = 0 then Reg.CIPHW_KAT_FAILS else Reg.CIPHS_KAT_FAILS) s
    let s := { s with ciph := { s.ciph with lanesOut := s.ciph.lanesOut ++ [k] } }
    let s := raise (poolPage pool * 256 + 4) (leBytes 2 lane) s
    if lanesUp s pool = 0 then fatalStop (poolPage pool * 256 + 4) true s else s

/-! ### The DRBG (R256, R257) -/

/-- 2^32 requests since the last reseed: the DRBG refuses more, FATAL 0x1E03, and no dump follows (R257, R81). -/
def drbgLimit (s : State) : State :=
  if 2 ^ 32 ≤ s.ciph.drbgReqs ∧ !s.ciph.drbgStopped then
    fatalEvent 0x1E03 [] false { s with ciph := { s.ciph with drbgStopped := true }, pwr := { s.pwr with needCold := true } }
  else s

/-- One seed request; none is served once the DRBG has stopped. -/
def drbgSeed (s : State) : Bool × State :=
  if s.ciph.drbgStopped then (false, s)
  else (true, drbgLimit { s with ciph := { s.ciph with drbgReqs := s.ciph.drbgReqs + 1 } })

/-- A successful reseed from the entropy source ends the measures of R257. -/
def drbgReseed (s : State) : State :=
  let was := s.ciph.entropyFail
  let s := { s with ciph := { s.ciph with drbgReqs := 0, entropyFail := false, retests := 0 } }
  if was then raise 0x1E02 [0] s else s

end Sys2Proof.Machine
end

