-- ==== Sys2Proof/Machine/Rdma.lean ====
section
/-!
DEFINITION. Machine/Rdma.lean: RoCEv2 packets, connection management, timers and NVMe/TCP PDUs as commands (spec/07, rows 79 to 103). A packet
names its queue pair by index.
-/
namespace Sys2Proof.Machine

/-- SEND: checked, placed in its receive buffer, and delivered as a capsule when its message closes (R186, R187, R195). -/
def execSend (qp : Nat) (p : Pkt) (cap : Option Capsule) (s : State) : Res := .next <| rxPacket qp p (.send cap) 0 s

/-- RDMA_WRITE: the key check, then placement in its window (R186, R212, R218); `imm` is the immediate data of the last packet. -/
def execRdmaWrite (qp : Nat) (p : Pkt) (va rkey data : Nat) (imm : Option Nat) (s : State) : Res := .next <|
  rxPacket qp p (.write va rkey 0 imm) data s

/-- RDMA_READ_REQUEST (R188, R194, R213). -/
def execRdmaReadRequest (qp : Nat) (p : Pkt) (va rkey len : Nat) (s : State) : Res := .next <| rxPacket qp p (.read va rkey len) 0 s

/-- FETCH_ADD (R197, R219). -/
def execFetchAdd (qp : Nat) (p : Pkt) (va rkey add : Nat) (s : State) : Res := .next <| rxPacket qp p (.fetchAdd va rkey add) 0 s

/-- COMPARE_SWAP (R197, R219). -/
def execCompareSwap (qp : Nat) (p : Pkt) (va rkey swap compare : Nat) (s : State) : Res := .next <|
  rxPacket qp p (.cas va rkey swap compare) 0 s

/-- COMPARE_SWAP_16, on a spray queue pair with the grant (R198, R219). -/
def execCompareSwap16 (qp : Nat) (p : Pkt) (va rkey swap compare : Nat) (s : State) : Res := .next <|
  rxPacket qp p (.cas16 va rkey swap compare) 0 s

/-- What an acknowledgement up to a PSN, with its SACK ranges, does to a queue pair's sent packets: those covered are retired, but for read requests,
which stay until their responses have arrived. -/
def Qp.acked (q : Qp) (psn : Nat) (sack : List (Nat × Nat)) : Qp :=
  let moved : Bool := q.sent.any fun x => ackCovers psn sack x.psn && !x.covered
  let left := (q.sent.filter fun x => !ackCovers psn sack x.psn || thas q.reads x.psn).map fun x =>
    { x with covered := x.covered || ackCovers psn sack x.psn }
  let base := (psn + 1) % 2 ^ 24
  { q with
    sent := left, tries := if moved then 0 else q.tries, rnrTries := if moved then 0 else q.rnrTries
    txBase := if psnRel q.txBase base ≤ psnRel q.txBase q.txPsn then base else q.txBase }

/-- ACKNOWLEDGE: covered packets are retired and lost ones resent (R180, R192): `kind` 0 acknowledgement, 1 PSN sequence error, 2 RNR, 3 any other
NAK; an RNR or other NAK names the first packet it does not acknowledge. -/
def execAcknowledge (qp psn kind : Nat) (sack : List (Nat × Nat)) (s : State) : Res := .next <|
  match rxOther qp true s with
  | (false, s) => s
  | (true, s) =>
    let q := (qpAt s qp).acked (if kind = 0 then psn else (psn + 2 ^ 24 - 1) % 2 ^ 24) sack
    let s := setQp qp q s
    if kind = 3 then qpError qp 2 s
    else if kind = 2 then sendMore qp (setQp qp { q with rnrWait := true, rnrPsn := psn } s)
    else if q.spray then
      let far := cfg s Reg.XPORT_SPRAY_REORDER
      let lost (x : SentPkt) : Bool := !x.covered && sack.any fun r =>
        decide (far ≤ psnRel x.psn ((r.1 + r.2 - 1) % 2 ^ 24)) && decide (psnRel x.psn (r.1 + r.2 - 1) < 2 ^ 23)
      sendMore qp (resendAll qp false (q.sent.filter lost) s)
    else if kind = 1 then
      if q.retry ≤ q.tries then qpError qp 0 s
      else sendMore qp (resendAll qp false q.sent (setQp qp { q with tries := q.tries + 1 } s))
    else sendMore qp s

/-- RNR_TIMER_EXPIRE: after a host's RNR NAK what is unacknowledged is sent again, or with the RNR retry count used up the queue pair enters ERROR
(R180); a count of 7 has no end. -/
def execRnrTimerExpire (qp : Nat) (s : State) : Res := .next <|
  let q := qpAt s qp
  if !q.rnrWait ∨ (q.state ≠ 2 ∧ q.state ≠ 3) then s
  else
    let s := setQp qp { q with rnrWait := false, rnrTries := q.rnrTries + 1 } s
    if q.rnrRetry < 7 ∧ q.rnrRetry ≤ q.rnrTries then qpError qp 1 s
    else sendMore qp (resendAll qp true (q.sent.filter fun x => !q.spray || x.psn == q.rnrPsn) s)

/-- The oldest read outstanding on a queue pair. -/
def Qp.oldestRead (q : Qp) : Option Nat :=
  q.reads.foldl (fun (b : Option Nat) r => match b with
    | none => some r.1
    | some f => if psnRel f q.txPsn < psnRel r.1 q.txPsn then some r.1 else b) none

/-- All the bytes of a read have arrived. -/
def ReadOut.whole (r : ReadOut) : Bool :=
  r.got != [] && decide (4096 * r.blocks.length ≤ r.got.foldl (fun n g => n + g.2.1) 0)

/-- A block of a read's data. -/
def ReadOut.block (r : ReadOut) (i : Nat) : Nat :=
  r.got.foldl (fun v g => if 4096 * i ≤ g.1 ∧ g.1 < 4096 * (i + 1) then v + g.2.2 % 2 ^ (8 * g.2.1) * 2 ^ (8 * (g.1 - 4096 * i)) else v) 0

/-- Reads whose responses have closed complete, oldest first; one that closes while an earlier is open waits for it (R187). -/
def readsDone (i : Nat) : Nat → State → State
  | 0, s => s
  | n + 1, s =>
    let q := qpAt s i
    match q.oldestRead with
    | none => s
    | some f => match tget q.reads f with
      | none => s
      | some r =>
        if !r.whole then s
        else
          let s := setQp i { q with reads := tdel q.reads f, sent := q.sent.filter fun x => x.psn != f, tries := 0 } s
          readsDone i n ((List.range r.blocks.length).foldl (fun s j => blockArrives r.ctx (r.blocks.getD j 0) (r.block j) s) s)

/-- RDMA_READ_RESPONSE: write data pulled from a host is placed; the read completes with its last byte (R186, R193, R196). -/
def execRdmaReadResponse (qp : Nat) (p : Pkt) (data : Nat) (s : State) : Res := .next <|
  if !p.icrcOk then bumpAt (Reg.NET_ICRC_ERR (p.port / 8 % 8)) (p.port % 8) 1 s
  else if p.esp = 2 then bump Reg.XPORT_ICV_DISCARD s
  else match rxOther qp p.ok s with
  | (false, s) => s
  | (true, s) =>
    let s := cnpMaybe qp p s
    let q := qpAt s qp
    match tfind q.reads fun f r => decide (psnRel f p.psn < r.count) with
    | none => s
    | some (f, r) =>
      let off := psnRel f p.psn * q.mtu
      let all := 4096 * r.blocks.length
      if thas r.got off then bump Reg.XPORT_DUP_DROPPED s
      else if q.spray ∧ r.blocks ≠ [] ∧ (p.offset ≠ off ∨ p.length ≠ all ∨ p.len ≠ min q.mtu (all - off)) then qpError qp 2 s
      else if !q.spray ∧ (r.got.length * q.mtu ≠ off ∨ q.oldestRead ≠ some f) then s
      else
        let s := setQp qp { q with
          reads := tset q.reads f { r with got := tset r.got off (p.len, data) }
          sent := if q.spray then q.sent
            else q.sent.filter fun x => decide (2 ^ 23 ≤ psnRel x.psn f) || thas q.reads x.psn } s
        let s := readsDone qp q.reads.length s
        sendMore qp (pullRetry s.xp.waits.length s)

/-- CNP: the rate is reduced, and on spray the path it names is avoided for `PATH_PENALTY_US` (R200, R201). -/
def execCnp (qp path : Nat) (s : State) : Res := .next <|
  match rxOther qp true s with
  | (false, s) => s
  | (true, s) =>
    let q := qpAt s qp
    let us := cfg s Reg.XPORT_PATH_PENALTY_US
    let q := if bitAt (cfg s Reg.XPORT_XP_CTL) 3 then rcReduce s q else q
    let q := if q.spray ∧ us ≠ 0 ∧ path < q.paths then { q with penalty := tset q.penalty path (s.time + us * 1000) } else q
    bump Reg.XPORT_CNP_RCVD (setQp qp q s)

/-- RC_TIMER: `RC_TIMER_US` without a CNP (R200). -/
def execRcTimer (qp : Nat) (s : State) : Res := .next <|
  let q := qpAt s qp
  if (q.state ≠ 2 ∧ q.state ≠ 3) ∨ !bitAt (cfg s Reg.XPORT_XP_CTL) 3 then s else setQp qp (rcRecover s q) s

/-- PATH_PENALTY_END: new packets may use a path again (R201). -/
def execPathPenaltyEnd (qp path : Nat) (s : State) : Res := .next <| modQp qp (fun q => { q with penalty := tdel q.penalty path }) s

/-- ACK_DELAY_EXPIRE: the oldest packet not acknowledged has waited `ACK_DELAY_NS` (R191). -/
def execAckDelayExpire (qp : Nat) (s : State) : Res := .next <|
  let q := qpAt s qp
  if q.state ≠ 2 ∨ q.sinceAck = 0 then s else ackIfDue qp (setQp qp { q with ackDue := true } s)

/-- SPRAY_RTO_EXPIRE: `SPRAY_RTO_US` since a packet was last sent (R192). -/
def execSprayRtoExpire (qp psn : Nat) (s : State) : Res := .next <|
  let q := qpAt s qp
  if !q.spray ∨ (q.state ≠ 2 ∧ q.state ≠ 3) then s
  else match q.sent.find? fun x => x.psn == psn with
    | none => s
    | some x => resend qp false x s

/-- ACK_TIMEOUT on a standard queue pair: go-back-N, or ERROR at the retry count (R180). -/
def execAckTimeout (qp : Nat) (s : State) : Res := .next <|
  let q := qpAt s qp
  if q.spray ∨ (q.state ≠ 2 ∧ q.state ≠ 3) ∨ q.sent = [] then s
  else if q.retry ≤ q.tries then qpError qp 0 s
  else resendAll qp false q.sent (setQp qp { q with tries := q.tries + 1 } s)

/-! ### Connection management -/

/-- The spray block of a REQ (Table 3): whether it is all zero, whether its fields are valid, and its values. -/
structure SprayOffer where
  zero : Bool
  valid : Bool
  on : Bool
  atom16 : Bool
  required : Bool
  window : Nat
  openMax : Nat
  paths : Nat
deriving DecidableEq, Repr

/-- Read the block's 16 bytes. -/
def sprayOffer (b : List Nat) : SprayOffer :=
  let w := fieldLE b 4 2
  let o := b.getD 6 0
  let p := b.getD 7 0
  { zero := b.all fun x => x == 0
    valid := fieldLE b 0 2 == 0x5350 && b.getD 2 0 == 1 && decide (64 ≤ w) && decide (w ≤ 4096) && decide (1 ≤ o) && decide (o ≤ 64)
      && decide (1 ≤ p) && decide (p ≤ 64)
    on := bitAt (b.getD 3 0) 0, atom16 := bitAt (b.getD 3 0) 1, required := bitAt (b.getD 3 0) 2
    window := w, openMax := o, paths := p }

/-- CM_REQ: accepted with a REP on the lowest FREE queue pair, the dialect negotiated (R181, R182), or rejected. -/
def execCmReq (r : CmReq) (s : State) : Res := .next <|
  let ctl := cfg s Reg.XPORT_XP_CTL
  let o := sprayOffer r.block
  let offered : Bool := !o.zero && (o.on || !o.valid)
  let accept : Bool := offered && o.valid && bitAt ctl 1
  let s := if offered && !accept then raise 0x1805 (leBytes 2 r.station ++ [if o.valid then 1 else 0]) s else s
  let rej (reason : Nat) : State := drive (.roce 0 (.rej r.station reason)) s
  let sa := saFor s r.station r.peer
  if (offered && !accept && o.required) || (espReq s r.station && sa.isNone) then rej 28
  else if !bitAt ctl 0 ∨ !bitAt (cfgAt s Reg.SWITCH_STN_CTL r.station) 0 ∨ s.pwr.admitStop ∨ s.vault.accepted ∨ s.pair.state = 6 then rej 0
  else match firstIdx 262144 fun i => !thas s.xp.qps i with
    | none => rej 1
    | some i =>
      let (psn, s) := drawFree s
      let line := Dy.ofNat r.lineMbs
      let paths := if accept then min (cfg s Reg.XPORT_SPRAY_PATHS) o.paths else 1
      let atom := accept && o.atom16 && bitAt ctl 4
      let q : Qp := {
        state := 1, spray := accept, atom16 := atom, pmtu := r.pmtu % 3, ipv6 := r.ipv6, station := r.station, peer := r.peer, sa := sa, hash := r.hash, cntlid := r.cntlid
        lineMbs := r.lineMbs, paths := paths, window := if accept then o.window else 0, openMax := if accept then o.openMax else 0
        depth := r.depth, readCap := cfg s Reg.XPORT_READ_PER_QP, retry := r.retry % 8, rnrRetry := r.rnrRetry % 8
        cursor := r.psn % 2 ^ 24, ackBase := r.psn % 2 ^ 24, txPsn := psn % 2 ^ 24, txBase := psn % 2 ^ 24, rate := line, target := line }
      drive (.roce i (.rep r.station accept atom (if accept then 4096 else 0) (if accept then 16 else 0) (if accept then paths else 0)))
        (setQp i q s)

/-- CM_RTU (R178). -/
def execCmRtu (qp : Nat) (s : State) : Res := .next <|
  if (qpAt s qp).state = 1 then modQp qp (fun q => { q with state := 2 }) s else s

/-- CM_DREQ: the queue pair drains, and the queue it carries ends (R178, R179); in ERROR its quiet time begins. -/
def execCmDreq (qp : Nat) (s : State) : Res := .next <|
  let q := qpAt s qp
  if q.state = 2 then
    connQueuesEnd qp (drive (.roce qp .drep) (modQp qp (fun q => { q with state := 3 }) (qpClear qp s)))
  else if q.state = 4 then drive (.roce qp .drep) (setQp qp { q with quiet := true } s)
  else s

/-- CM_DREP: a queue pair in ERROR proceeds to its quiet time (R178). -/
def execCmDrep (qp : Nat) (s : State) : Res := .next <|
  if (qpAt s qp).state = 4 then modQp qp (fun q => { q with quiet := true }) s else s

/-- CM_RESPONSE_TIMEOUT: no RTU arrived; the queue pair is FREE, and its index is not assigned again within the quiet time (R178). -/
def execCmResponseTimeout (qp : Nat) (s : State) : Res := .next <|
  if (qpAt s qp).state = 1 then setQp qp { quiet := true } { s with xp := { s.xp with cache := s.xp.cache.filter fun j => j != qp } } else s

/-- QP_ERROR_TIMEOUT: 1 s in ERROR (R178). -/
def execQpErrorTimeout (qp : Nat) (s : State) : Res := .next <|
  if (qpAt s qp).state = 4 then modQp qp (fun q => { q with quiet := true }) s else s

/-- QP_QUIET_END: the index is FREE (R178). -/
def execQpQuietEnd (qp : Nat) (s : State) : Res := .next <|
  let q := qpAt s qp
  if q.state = 3 ∨ ((q.state = 0 ∨ q.state = 4) ∧ q.quiet) then
    { s with xp := { s.xp with qps := tdel s.xp.qps qp, cache := s.xp.cache.filter fun j => j != qp } }
  else s

/-! ### NVMe/TCP (R202) -/

/-- ICREQ: a connection on a station enabled for TCP, answered with ICResp and MAXH2CDATA of 131,072; otherwise C2HTermReq. It binds an SA as a
queue pair does (R264). -/
def execIcreq (station peer : Nat) (hdgst ddgst : Bool) (s : State) : Res := .next <|
  let ctl := cfgAt s Reg.SWITCH_STN_CTL station
  let c := tcpBase + s.xp.nextTcp
  let sa := saFor s station peer
  if (espReq s station && sa.isNone) then drive (.tcpPdu c 3 []) s
  else if !bitAt ctl 0 ∨ !bitAt ctl 1 ∨ s.pwr.admitStop ∨ s.vault.accepted ∨ s.pair.state = 6 then drive (.tcpPdu c 3 []) s
  else drive (.tcpPdu c 1 [131072, b2n hdgst, b2n ddgst])
    { s with xp := { s.xp with nextTcp := s.xp.nextTcp + 1, tcp := tset s.xp.tcp c { station := station, sa := sa, hdgst := hdgst, ddgst := ddgst } } }

/-- A connection terminates, with the queue it carries. -/
def tcpEnd (c : Nat) (s : State) : State := connQueuesEnd c { s with xp := { s.xp with tcp := tdel s.xp.tcp c } }

/-- CAPSULECMD: a command capsule; `digestOk` tells that its digests hold. -/
def execCapsulecmd (conn : Nat) (digestOk : Bool) (c : Capsule) (s : State) : Res := .next <|
  if !thas s.xp.tcp conn then s
  else if !digestOk then drive (.tcpPdu conn 3 []) (tcpEnd conn s)
  else match connQueues s conn with
    | [] => s
    | q :: _ => submit q c s

/-- H2CDATA: a block of write data for an R2T. -/
def execH2cdata (conn cid : Nat) (digestOk : Bool) (lba data : Nat) (s : State) : Res := .next <|
  if !thas s.xp.tcp conn then s
  else if !digestOk then drive (.tcpPdu conn 3 []) (tcpEnd conn s)
  else match s.nvm.ctxs.find? fun p => p.2.cid == cid && (connQueues s conn).contains p.2.q && p.2.fwdTag.isNone with
    | none => s
    | some (id, _) => blockArrives id lba data s

/-- H2CTERMREQ: the connection terminates. -/
def execH2ctermreq (conn : Nat) (s : State) : Res := .next <| if thas s.xp.tcp conn then tcpEnd conn s else s

end Sys2Proof.Machine
end

