-- ==== Sys2Proof/Machine/Ciph.lean ====
section
/-!
DEFINITION. Machine/Ciph.lean: the cipher lanes, the DRBG, wire SAs and key commands (spec/10).
-/
namespace Sys2Proof.Machine

/-! ### Lanes and randomness (R255 to R258) -/

/-- LANE_RESEED: a lane takes a seed and runs a known-answer block, or stops for want of one (R255, R258). -/
def execLaneReseed (pool lane : Nat) (katOk : Bool) (s : State) : Res := .next <|
  let k := pool % 2 * 400 + lane
  let wire : Bool := pool % 2 == 0
  let l := tgetD s.ciph.lanes k {}
  let set (l : Lane) (s : State) : State := { s with ciph := { s.ciph with lanes := tput {} s.ciph.lanes k l } }
  if s.ciph.lanesOut.contains k ∨ 400 ≤ lane then s
  else if l.seeds = 0 then
    let (got, s) := drbgSeed s
    if got then set { l with stopped := false, seeds := 1 } s
    else if l.stopped then s
    else bump (if wire then Reg.CIPHW_RESEED_WAITS else Reg.CIPHS_RESEED_WAITS) (set { l with stopped := true } s)
  else
    let (got, s) := drbgSeed s
    let s := set { seeds := if got then l.seeds else l.seeds - 1, stopped := false } s
    let s := bump (if wire then Reg.CIPHW_RESEEDS else Reg.CIPHS_RESEEDS) s
    if katOk then s else laneFail pool lane s

/-- DRBG_RESEED: after 2^20 requests the DRBG reseeds from the entropy source; a success also ends an entropy failure (R256, R257). -/
def execDrbgReseed (ok : Bool) (s : State) : Res := .next <|
  if s.ciph.drbgStopped then s
  else if ok ∧ (2 ^ 20 ≤ s.ciph.drbgReqs ∨ s.ciph.entropyFail) then drbgReseed s
  else drbgLimit s

/-- ENTROPY_HEALTH_FAIL: the security cores will test the source again, up to 3 times (R257). -/
def execEntropyHealthFail (s : State) : Res := .next <|
  if s.ciph.entropyFail ∨ s.ciph.retests ≠ 0 then s else { s with ciph := { s.ciph with retests := 3 } }

/-- ENTROPY_RETEST: a pass ends the matter; the third failure sets `ENTROPY_FAIL`, raises 0x1E02 and brings write-through (R257). -/
def execEntropyRetest (pass : Bool) (s : State) : Res := .next <|
  if s.ciph.retests = 0 then s
  else if pass then { s with ciph := { s.ciph with retests := 0 } }
  else if 1 < s.ciph.retests then { s with ciph := { s.ciph with retests := s.ciph.retests - 1 } }
  else drbgLimit (raise 0x1E02 [1] { s with ciph := { s.ciph with retests := 0, entropyFail := true } })

/-! ### Wire SAs (R262, R266) -/

/-- The image in `SA_DATA` as a 128-byte number. -/
def saImage (s : State) : Nat := regImage Reg.KSTORE_SA_DATA 32 s

/-- The SA an image stands for (Table 3). -/
def saOfImage (v : Nat) : Sa :=
  { outbound := bitAt v 2, ipv6 := bitAt v 3, station := bits v 16 10, spi := bits v 32 32, salt := bits v 64 32
    succ := if bitAt v 127 then some (bits v 96 19) else none
    key := bits v 128 256, peer := beNat (leBytes 16 (bits v 384 128)), seq := if bitAt v 2 then bits v 512 64 else 0
    soft := bits v 576 64, hard := bits v 640 64 }

/-- Whether every field of an image is as Table 3 allows. -/
def saImageOk (v : Nat) : Bool :=
  let a := saOfImage v
  bits v 4 12 == 0 && bits v 26 6 == 0 && bits v 115 12 == 0 && bits v 768 256 == 0
    && decide (256 ≤ a.spi) && decide (2 ^ 20 ≤ a.hard) && decide (a.hard ≤ 2 ^ 48) && decide (a.soft < a.hard)

/-- The image of an SA with its key as zeros. -/
def Sa.image (a : Sa) : Nat :=
  a.state + b2n a.outbound * 4 + b2n a.ipv6 * 8 + a.station * 2 ^ 16 + a.spi * 2 ^ 32 + a.salt * 2 ^ 64
    + (match a.succ with
       | some j => (j + 2 ^ 31) * 2 ^ 96
       | none => 0)
    + leNat (leBytes 16 a.peer).reverse * 2 ^ 384 + a.seq * 2 ^ 512 + a.soft * 2 ^ 576 + a.hard * 2 ^ 640 + a.pkts * 2 ^ 704

/-- The flow key of an inbound SA: SPI and station, most significant byte first (R262). -/
def saFlowKey (a : Sa) : Nat := leNat ((leBytes 4 a.spi).reverse ++ (leBytes 2 a.station).reverse)

/-- The SA that `SA_SEL` of a path names. -/
def saSel (p : Path) (s : State) : Nat := sel s p Reg.KSTORE_SA_SEL % 2 ^ 19

/-- Record an SA command's outcome (Table 16). -/
def saStat (r : Nat) (s : State) : State := wr Reg.KSTORE_SA_CMD_STAT (r * 2) s

/-- Clear `SA_DATA`. -/
def saClear (s : State) : State := putImage Reg.KSTORE_SA_DATA 32 0 s

/-- SA_CMD = INSTALL: the entry and, for an inbound SA, its flow entry of profile 15 (R262). -/
def saInstallOp (p : Path) (s : State) : State :=
  let i := saSel p s
  let v := saImage s
  let a := saOfImage v
  saClear <|
    if thas s.ciph.sas i then saStat 1 s
    else if !saImageOk v then saStat 2 s
    else if a.outbound then saStat 0 (setSa i a s)
    else if s.ciph.sas.any fun b => !b.2.outbound && b.2.station == a.station && b.2.spi == a.spi then saStat 5 s
    else match flowInsert { key := saFlowKey a, profile := 15, cls := 2, context := i } s with
      | ((0, _), s) => saStat 0 (setSa i a s)
      | ((1, _), s) => saStat 5 s
      | (_, s) => saStat 3 s

/-- INSTALL (R262). -/
def execInstall (p : Path) (s : State) : Res := .next (cmdWrite p Reg.KSTORE_SA_CMD (saInstallOp p) s)

/-- A deleted outbound SA: its queue pairs and connections rebind, or end with a local fault (R266). -/
def saOrphans (i : Nat) (a : Sa) (s : State) : State :=
  match a.succ with
  | some j => if succOk s a j then rebind i j s else gone s
  | none => gone s
where
  gone (s : State) : State :=
    let s := s.xp.qps.foldl (fun s q => if q.2.sa = some i then qpError q.1 3 s else s) s
    s.xp.tcp.foldl (fun s c => if c.2.sa = some i then tcpEnd c.1 s else s) s

/-- SA_CMD = DELETE: the flow entry first, then the SA (R266). -/
def saDeleteOp (p : Path) (s : State) : State :=
  let i := saSel p s
  saClear <| match saAt s i with
    | none => saStat 1 s
    | some a =>
      let flows := match a.outbound, flowFind s.net.flows (saFlowKey a) 15 with
        | false, some (k, _) => tdel s.net.flows k
        | _, _ => s.net.flows
      let s := { s with
        net := { s.net with flows := flows }
        ciph := { s.ciph with sas := tdel s.ciph.sas i, cache := s.ciph.cache.filter fun j => j != i } }
      saStat 0 (if a.outbound then saOrphans i a s else s)

/-- DELETE (R266). -/
def execDelete (p : Path) (s : State) : Res := .next (cmdWrite p Reg.KSTORE_SA_CMD (saDeleteOp p) s)

/-- SA_CMD = READ: the image with its key as zeros. -/
def saReadOp (p : Path) (s : State) : State :=
  let v := match saAt s (saSel p s) with
    | some a => a.image
    | none => 0
  saStat 0 (putImage Reg.KSTORE_SA_DATA 32 v s)

/-- SA_READ (R262). -/
def execSaRead (p : Path) (s : State) : Res := .next (cmdWrite p Reg.KSTORE_SA_CMD (saReadOp p) s)

/-- A reserved `SA_CMD` value: RESULT 4; `SA_DATA` is cleared as after every command (R262). -/
def saReservedOp (s : State) : State := saClear (saStat 4 s)

/-! ### Keys (R272 to R276) -/

/-- Record a key command's outcome (Table 15). -/
def keyStat (r : Nat) (s : State) : State := wr Reg.KSTORE_KEY_CMD_STAT r s

/-- The slot that `NS_SEL` of a path names. -/
def nsSelOf (p : Path) (s : State) : Nat := sel s p Reg.KSTORE_NS_SEL % 2 ^ 14

/-- Whether an escrow key is installed and below its limit. -/
def escUsable (s : State) : Bool := s.trust.escrowKey.isSome && decide (s.ks.escCount < 2 ^ 32)

/-- KEY_CMD = ROLL (R272): refused with an OLD slot or no CURRENT one, or while the installed escrow key is at its limit; it waits while 64 escrow
records are pending. -/
def rollOp (p : Path) (s : State) : State :=
  let slot := nsSelOf p s
  let c := ksCurrent s slot
  if (ksAt s slot c).state ≠ 1 ∨ (ksAt s slot (1 - c)).state ≠ 0 ∨ !s.slotActive slot then keyStat 1 s
  else if bitAt (cfg s Reg.KSTORE_KS_CTL) 1 && s.trust.escrowKey.isSome && !escUsable s then keyStat 4 s
  else if !keyChangeOk s then keyStat 0 { s with ks := { s.ks with rollWait := (s.ks.rollWait ++ [slot]).eraseDups } }
  else keyStat 0 (startRoll slot s)

/-- ROLL (R272). -/
def execRoll (p : Path) (s : State) : Res := .next (cmdWrite p Reg.KSTORE_KEY_CMD (rollOp p) s)

/-- The bytes of an escrow record (Table 7). -/
def EscRec.bytes (r : EscRec) : List Nat :=
  escAad r.slot r.kslot r.kstate r.epochNo r.time ++ leBytes 12 r.iv ++ leBytes 32 r.sealed ++ leBytes 16 r.tag ++ [0, 0, 0, 0]

/-- KEY_CMD = ESC_READ: the oldest pending record enters `ESC_DATA`, and a rollover that waited for room starts (R276). -/
def escReadOp (s : State) : State :=
  match s.ks.esc with
  | [] => keyStat 2 s
  | r :: rest =>
    let s := { s with ks := { s.ks with esc := rest } }
    let s := keyStat 0 (putImage Reg.KSTORE_ESC_DATA 20 (leNat r.bytes) s)
    match s.ks.rollWait with
    | [] => s
    | slot :: w => startRoll slot { s with ks := { s.ks with rollWait := w } }

/-- ESC_READ (R276). -/
def execEscRead (p : Path) (s : State) : Res := .next (cmdWrite p Reg.KSTORE_KEY_CMD escReadOp s)

/-- KEY_CMD = IMPORT: the record in `ESC_DATA` enters its slot if that is EMPTY and its tag verifies (R276, R275). -/
def importOp (s : State) : State :=
  let v := regImage Reg.KSTORE_ESC_DATA 20 s
  let slot := bits v 0 14
  let k := bits v 16 1
  let st := bits v 17 2
  let ep := bits v 32 32
  let iv := bits v 128 96
  let ct := bits v 224 256
  match s.trust.escrowKey with
  | none => keyStat 4 s
  | some ek =>
    if !escUsable s then keyStat 4 s
    else if (ksAt s slot k).state ≠ 0 then keyStat 1 s
    else if Config.gcmTag ek [iv] (leBytes 16 v) [ct] % 2 ^ 128 ≠ bits v 480 128 then keyStat 3 s
    else
      let key := sealKey ek iv ct
      keyStat 0 (requestRecord (.keyImport slot k st ep key) .nothing (keyImport slot k st ep key) id s)

/-- IMPORT (R276). -/
def execImport (p : Path) (s : State) : Res := .next (cmdWrite p Reg.KSTORE_KEY_CMD importOp s)

/-- A reserved `KEY_CMD` value: RESULT 5. -/
def keyReservedOp (s : State) : State := keyStat 5 s

/-! ### The rekey sweep (R273) -/

/-- Parcels to sweep, of namespaces owned here, in entry order. -/
def sweepEntries (s : State) : List Nat :=
  (s.store.cad.filter fun p => p.2.sweep && p.2.state == 3 && (match entOwner s p.1 with
    | none => false
    | some (sl, _) => (nsAt s sl).elim false fun n => ownsNs s n)).map fun p => p.1

/-- Whether the sweep runs: enabled, and suspended as scrub is (R273, R150). -/
def sweepRuns (s : State) : Bool :=
  bitAt (cfg s Reg.KSTORE_KS_CTL) 0 && s.pwr.serving && !s.vault.accepted &&
    !(List.range 24).any fun b => let st := (memberAt s b).state; st == 4 || st == 6 || st == 7

/-- Whether a block read carries a key slot. -/
def carriesSlot (n k : Nat) (c : Nat) (r : Raw) : Bool :=
  if c < 16 * n then (Blk.ofCov r.cov).kepoch == k else r.pkepoch == k

/-- Rewrite a stripe under a newly drawn generation (R273 step 3): false where it must wait. -/
def sweepStripe (slot parcel st : Nat) (e : CadEntry) (raws : Tab Raw) (s : State) : Bool × State :=
  let n := stripeN e.layout st
  let rows := (List.range 16).map fun b => readRow s slot parcel st e b raws
  if rows.any fun r => r.held then (false, s)
  else if !ringRoom s then (false, s)
  else match drawGen slot parcel s with
    | (none, s) => (false, s)
    | (some (g, ep), s) =>
      let s := (List.range 16).foldl (fun s b => match rows[b]? with
        | some rr => if rr.data.isNone then loseRow slot parcel st e b 1 rr.good rr.fails s else s
        | none => s) s
      let blk (c : Nat) : Blk :=
        match (rows[c % 16]?).bind fun rr => rr.data with
        | some ds => { Blk.ofCov (rowCell n ds (c / 16)) with wgen := g, kepoch := ep }
        | none => zeroBlk slot (cellLba e.layout parcel st c) g ep
      let s := writeStripe slot parcel st e (stripeBlocks n blk g ep) g ep 0 0 (parityBytes 3 (65536 * (n + 2)) s)
      let s := match tget s.store.frames (stripeKey slot parcel st) with
        | none => s
        | some f => setFrame false (stripeKey slot parcel st)
            { f with cells := tmap f.cells fun _ c => { c with blk := { c.blk with wgen := g, kepoch := ep } } } s
      (true, s)

/-- The last stripe of a parcel is done: its `SWEEP` is cleared, and the entry persisted (R273). -/
def sweepDone (i : Nat) (s : State) : State :=
  let s := setEnt i { entAt s i with sweep := false } s
  persist i (leaseNow s i) { s with ks := { s.ks with sweepEntry := i + 1, sweepStripe := 0 } }

/-- REKEY_SWEEP_STRIPE: the sweep's next stripe; `raws` holds its blocks as read. It waits for a frame of the stripe to reach CLEAN (R273). -/
def execRekeySweepStripe (raws : Tab Raw) (s : State) : Res := .next <|
  if !sweepRuns s then s
  else
    let es := sweepEntries s
    let pick := match es.find? fun i => decide (s.ks.sweepEntry ≤ i) with
      | some i => some i
      | none => es.head?
    match pick with
    | none => s
    | some i => match entOwner s i with
      | none => s
      | some (slot, parcel) =>
        let e := entAt s i
        let st := if i = s.ks.sweepEntry then s.ks.sweepStripe else 0
        let k := stripeKey slot parcel st
        let busy : Bool := thas s.store.succs k || (match tget s.store.frames k with
          | none => false
          | some f => f.st != .clean)
        if busy then s
        else
          let o := 1 - ksCurrent s slot
          let old := raws.any fun r => r.2.ok && carriesSlot (stripeN e.layout st) o r.1 r.2
          let s := opened slot (raws.map fun r => r.2) s
          let (ok, s) := if old then sweepStripe slot parcel st e raws s else (true, s)
          if !ok then s
          else if st + 1 < stripesPer e.layout then { s with ks := { s.ks with sweepEntry := i, sweepStripe := st + 1 } }
          else sweepDone i s

end Sys2Proof.Machine
end

