-- ==== Sys2Proof/Machine/EpOps.lean ====
section
/-!
DEFINITION. Machine/EpOps.lean: the endpoint's functions and their host reads (spec/11, R284 to R293), and the work rings (R294 to R304).
-/
namespace Sys2Proof.Machine

/-! ### Functions -/

/-- Whether a function exists (R284). -/
def fnPresent (s : State) (fn : Nat) : Bool := s.ep.link && (fn == 0 || (s.ep.vfEnable && decide (fn ≤ s.ep.numVfs)))

/-- Whether a function takes memory requests: it exists, is not in FLR, decodes its BARs, and no IDE rule discards them (R282, R285, R291). -/
def fnHears (s : State) (fn : Nat) : Bool := fnPresent s fn && !(fnAt s fn).flr && (fnAt s fn).mse && !s.ep.blocked

/-- The global rings of a function. -/
def fnRings (s : State) (fn : Nat) : List Nat := (s.ep.rings.filter fun r => r.2.fn == fn).map fun r => r.1

/-- Change every ring of a function. -/
def mapRings (fn : Nat) (f : Ring → Ring) (s : State) : State :=
  { s with ep := { s.ep with rings := tmap s.ep.rings fun _ r => if r.fn = fn then f r else r } }

/-- Whether a function has a completion or message held (R290). -/
def fnHeld (s : State) (fn : Nat) : Bool :=
  !(fnAt s fn).heldMsix.isEmpty || !(fnAt s fn).heldCpl.isEmpty || s.ep.rings.any fun r => r.2.fn == fn && !r.2.held.isEmpty

/-- Records held under R290 and R302. -/
def recsHeld (s : State) : Nat := s.ep.rings.foldl (fun a r => a + r.2.held.length) 0

/-- Prefetch lines in use. -/
def pfLines (s : State) : Nat := s.ep.rings.foldl (fun a r => a + r.2.pushed.length) 0

/-- A command ends because its host memory cannot be reached (R290): a writer or traverse that waits for data, a reader that has not answered. -/
def hostAbort (id : Nat) (s : State) : State :=
  match ctxAt s id with
  | none => s
  | some c =>
    match tfind s.trav.open_ fun _ v => v.ctx == id && v.remote.isNone with
    | some (t, _) => if (travStaging s).contains t then travAbandon t 2 (some (7, 0x91, some false)) s else s
    | none =>
      if c.writer then (if c.state = .waiting then failWriter id 7 0x91 (some false) 0 s else s)
      else if c.reader then finish id 7 0x91 (some false) 0 0 s
      else s

/-- The commands that depend on host reads or on read data of a function. -/
def fnDepend (s : State) (fn : Nat) : List Nat :=
  let rd := (s.ep.tags.filter fun t => t.2.fn == fn && !t.2.quarantined).filterMap fun t => match t.2.what with
    | .writeData c _ => some c
    | .travTable c => some c
    | _ => none
  let wait := (s.ep.queue.filter fun t => t.1 == fn).filterMap fun t => match t.2.2 with
    | .writeData c _ => some c
    | .travTable c => some c
    | _ => none
  let rds := (s.nvm.ctxs.filter fun c => c.2.reader && !c.2.writer && !c.2.orphan && queueFn s c.2.q == some fn).map fun c => c.1
  (rd ++ wait ++ rds).eraseDups

/-- The queues of a function's submission entries that are being read. -/
def fnEntries (s : State) (fn : Nat) : List Nat :=
  ((s.ep.tags.filter fun t => t.2.fn == fn && !t.2.quarantined).map fun t => t.2.what) ++
    ((s.ep.queue.filter fun t => t.1 == fn).map fun t => t.2.2)
  |>.filterMap fun w => match w with
    | .entry q _ => some q
    | _ => none

/-- The window accesses of some rings that still need host memory end (R290, R291): the reads that are held, or forwarded to the owner. -/
def ringReadsEnd (gs : List Nat) (s : State) : State :=
  let mine (a : WinAcc) : Bool := a.ring && gs.contains a.ctx && a.kind == 1
  let rs := s.win.stalled.filter mine ++ (s.win.fwds.filter fun p => mine p.2).map fun p => p.2
  rs.foldl (fun s a => accDrop a s) { s with win := { s.win with
    stalled := s.win.stalled.filter fun a => !mine a, fwds := tfilter s.win.fwds fun _ a => !mine a } }

/-- What the rings of a function do when its host memory is out of reach (R290): they stop, prefetched lines go, and descriptors granted and not
yet executed end as Host Access Aborted. -/
def ringsStop (fn : Nat) (s : State) : State :=
  let gs := fnRings s fn
  let s := mapRings fn (fun r => if r.state = .active ∨ r.state = .paused then
    { r with state := .stopped, before := r.state, pushed := [] } else { r with pushed := [] }) s
  gs.foldl (fun s g =>
    let r := ringAt s g
    let ds := r.granted
    let s := setRing g { r with granted := [], flying := r.flying ++ ds } s
    ds.foldl (fun s d => ringDone g d.slot 7 0x91 (some false) 0 0 s) s) s

/-- Host memory of a function is out of reach (R290): the number of commands ended. -/
def fnStop (fn : Nat) (s : State) : Nat × State :=
  let ids := fnDepend s fn
  let es := fnEntries s fn
  let gs := fnRings s fn
  let granted := gs.foldl (fun a g => a + (ringAt s g).granted.length) 0
  let reads := (s.win.stalled.filter fun a => a.ring && gs.contains a.ctx && a.kind == 1).length +
    tcount s.win.fwds fun _ a => a.ring && gs.contains a.ctx && a.kind == 1
  let tags := tfilter s.ep.tags fun _ t => t.fn != fn || t.quarantined
  let s := { s with ep := { s.ep with tags := tags, queue := s.ep.queue.filter fun t => t.1 != fn } }
  let s := ids.foldl (fun s id => hostAbort id s) s
  let s := es.foldl (fun s q =>   -- the entry was not read, and which CID answers is not stated
    let (cid, s) := drawFree s
    answer q (cid % 65536) 7 0x91 (some false) 0 0 s) s
  let s := ringReadsEnd gs s
  let n := ids.length + es.length + granted + reads
  (n, bumpAt Reg.EP_FN_ABORTED fn n (ringsStop fn s))

/-- Fetch the submission entries of a function's queue that its tail shows and no read has asked for (R282, R289). -/
def nvFetch (fn q : Nat) (s : State) : State :=
  let x := tgetD s.ep.nvq q {}
  let n := if s.fnBme fn then (x.tail + 4096 - x.fetched) % 4096 else 0
  let s := { s with ep := { s.ep with nvq := tput {} s.ep.nvq q { x with fetched := (x.fetched + n) % 4096 } } }
  (List.range n).foldl (fun s i => epIssue fn (.entry q ((x.fetched + i) % 4096)) s) s

/-- Host memory of a function is within reach again (R290): held completions and messages are written, rings go on as before. -/
def fnGo (fn : Nat) (s : State) : State :=
  if !s.fnBme fn then s
  else
    let s := match (fnAt s fn).cntlid with
      | none => s
      | some c => ((s.ep.nvq.filter fun x => x.1 / 256 == c).map fun x => x.1).foldl (fun s q => nvFetch fn q s) s
    let f := fnAt s fn
    let vs := f.heldMsix
    let s := setFn fn { f with heldMsix := [], heldCpl := [] } s
    let s := f.heldCpl.foldl (fun s x => respond x.q x.cid x.sct x.sc x.dnr x.dw0 x.dw1 s) s
    let s := match f.cntlid.bind fun c => (assocAt s c).map fun a => (c, a) with
      | none => s
      | some (c, a) => a.notices.foldl (fun s x => postNotice c x.1 x.2 s)
          { s with nvm := { s.nvm with assocs := tset s.nvm.assocs c { a with notices := [] } } }
    let s := vs.foldl (fun s v => msix fn v s) s
    let s := mapRings fn (fun r => if r.state = .stopped then { r with state := r.before } else r) s
    (fnRings s fn).foldl (fun s g => if (ringAt s g).completion then drainHeld g (ringAt s g).held.length s else s) s

/-- Begin a function-level reset (R291): fetching stops, prefetched descriptors, held completions and chain waits are discarded, and the
association ends under R32. A window access already made takes effect where it needs no host memory, and is not answered. -/
def flrBegin (fn : Nat) (s : State) : State :=
  let f := fnAt s fn
  let gs := fnRings s fn
  let s := ringReadsEnd gs { s with win := { s.win with chains := tfilter s.win.chains fun g _ => !gs.contains g } }
  let mute (a : WinAcc) : WinAcc := if a.ring ∧ gs.contains a.ctx then { a with cid := 2 ^ 16 } else a
  let s := { s with win := { s.win with
    stalled := s.win.stalled.map mute
    fwds := tmap s.win.fwds fun _ a => mute a
    placing := s.win.placing.map fun p => { p with acc := mute p.acc } } }
  let s := match f.cntlid with
    | none => s
    | some c => endAssociation c s
  let s := mapRings fn (fun r => { r with granted := [], flying := [], pushed := [], held := [], state := .disabled, disableWhenDone := false }) s
  setFn fn { fnAt s fn with flr := true, heldMsix := [], heldCpl := [], cntlid := none } s

/-- Complete a function-level reset (R291): requests not yet answered are quarantined, and registers and ring pages are at reset values. -/
def flrEnd (fn : Nat) (s : State) : State :=
  let open_ := (s.ep.tags.filter fun t => t.2.fn == fn && !t.2.quarantined).map fun t => t.1
  let tags := tmap s.ep.tags fun _ t => if t.fn = fn then { t with quarantined := true } else t
  let rings := tfilter s.ep.rings fun _ r => r.fn != fn
  let s := { s with ep := { s.ep with tags := tags, rings := rings, queue := s.ep.queue.filter fun t => t.1 != fn } }
  let s := open_.foldl (fun s t => raise 0x2806 (fn :: leBytes 2 t) (bump Reg.EP_CPL_TIMEOUTS s)) s
  setFn fn {} s

/-- A whole function-level reset, with its event. -/
def flrWhole (fn : Nat) (s : State) : State :=
  raise 0x2802 [fn] (bump Reg.EP_FLRS (flrEnd fn (flrBegin fn s)))

/-- Functions with state. -/
def fnsUsed (s : State) : List Nat :=
  ((s.ep.fns.map fun f => f.1) ++ s.ep.rings.map fun r => r.2.fn).eraseDups

/-- A surprise removal (R292): 0 link down, 1 `EP_PERST_N`. Every function is handled as an FLR, VF Enable is 0, and network hosts are served on. -/
def surpriseRemoval (bit : Nat) (s : State) : State :=
  if !s.ep.link then { s with ep := { s.ep with ready := false } }
  else
    let fs := (List.range 256).filter fun fn => fnPresent s fn
    let s := fs.foldl (fun s fn => flrBegin fn s) s
    let s := { s with ep := { s.ep with
      link := false, width := 0, rate := 0, ready := false, ideSecure := false, flit := false, vfEnable := false, numVfs := 0
      idle := false, ltrIdle := false, blocked := false } }
    let s := raise 0x2804 [bit] (bump Reg.EP_SURPRISE_DOWNS (raise 0x2801 [0, 0, 0] s))
    fs.foldl (fun s fn => raise 0x2802 [fn] (bump Reg.EP_FLRS (flrEnd fn s))) s

/-- The IDE rule (R285): with `IDE_REQ` and no Secure stream every function behaves as though Bus Master Enable were 0. -/
def ideEval (failed : Bool) (s : State) : State :=
  let was := s.ep.blocked
  let now : Bool := failed || (bitAt (cfg s Reg.EP_EP_CTL) 3 && !s.ep.ideSecure)
  if was == now then s
  else if now then
    (fnsUsed s).foldl (fun s fn => (fnStop fn s).2) { s with ep := { s.ep with blocked := true } }
  else
    (fnsUsed s).foldl (fun s fn => fnGo fn s) { s with ep := { s.ep with blocked := false } }

/-- A host read that cannot be completed (R289). -/
def readFailed (t : EpTag) (s : State) : State :=
  match t.what with
  | .writeData c _ => ctxFail c s
  | .travTable c => ctxFail c s
  | .entry q _ =>   -- the entry was not read, and which CID answers is not stated
    let (cid, s) := drawFree s
    answer q (cid % 65536) 0 0x04 (some false) 0 0 s
  | .fragment g slot =>
    let r := ringAt s g
    match r.granted.find? fun d => d.slot == slot with
    | none => s
    | some d => ringDone g slot 0 0x04 (some false) 0 0
        (setRing g { r with granted := r.granted.erase d, flying := r.flying ++ [d], lastSlot := slot } s)
  | .descriptor g =>
    let r := ringAt s g
    raise 0x2901 (leBytes 2 g ++ [r.fn]) (setRing g { r with state := .error, err := 2, pushed := [] } s)
where
  ctxFail (c : Nat) (s : State) : State :=
    match tfind s.trav.open_ fun _ v => v.ctx == c && v.remote.isNone with
    | some (t, _) => travAbandon t 2 none s
    | none => failWriter c 0 0x04 (some false) 0 s

/-! ### Work rings -/

/-- A chain wait stands at a ring, granted or pending (R304). -/
def chainAt (s : State) (g : Nat) : Bool :=
  thas s.win.chains g || (ringAt s g).granted.any fun d => d.opc == 0x20 && d.refuse.isNone

/-- Whether a work ring's next descriptor may be granted now (R290, R295, R302, R304, R56). -/
def ringWork (s : State) (g : Nat) : Bool :=
  let r := ringAt s g
  let c := ringAt s (ringGlobal s r.fn r.cpl)
  !r.completion && r.state == .active && !r.disableWhenDone && decide (0 < r.waiting) && s.fnBme r.fn
    && !c.full && c.held.isEmpty && !chainAt s g
    && (match (fnAt s r.fn).cntlid.bind (assocAt s) with
        | none => true
        | some a => decide (hostInUse s a.host < hostQuota s a.host))

/-- Work rings with work, ascending. -/
def ringsWork (s : State) : List Nat := (s.ep.rings.map fun r => r.1).filter fun g => ringWork s g

/-- Whether an opcode of a descriptor is one of Table 10. -/
def descOpcode (o : Nat) : Bool := o ≤ 3 || (0x10 ≤ o && o ≤ 0x14) || o == 0x20

/-- The ring-level status of a descriptor that may not run (R298, Table 11). -/
def descRefuse (s : State) (fn slot : Nat) (d : Desc) : Option (Nat × Nat) :=
  let assoc := (fnAt s fn).cntlid.isSome
  if !descOpcode d.opc ∨ (d.opc = 3 ∧ fn ≠ 0) then some (0, 0x01)
  else if d.slot ≠ slot ∨ d.bad ∨ (d.opc = 0x20 ∧ 100000000 < d.timeoutUs) then some (0, 0x02)
  else if !assoc ∧ d.opc ≠ 0 ∧ d.opc ≠ 3 then some (0, 0x0C)
  else none

/-- Granted descriptors at the front that may not run complete with their status. -/
def refuseFront (g : Nat) : Nat → State → State
  | 0, s => s
  | n + 1, s =>
    let r := ringAt s g
    match r.granted with
    | [] => s
    | d :: ds => match d.refuse with
      | none => s
      | some (sct, sc) =>
        refuseFront g n (ringDone g d.slot sct sc none 0 0
          (setRing g { r with granted := ds, flying := r.flying ++ [d], lastSlot := d.slot } s))

/-- Grant up to `n` descriptors of a ring: pushed ones, and those that ring memory holds; one that is in neither is fetched first (R299,
R300). The fragment table of a granted descriptor is read (R296). -/
def grantN (g : Nat) (mem : List (Nat × Nat × Desc)) : Nat → State → State
  | 0, s => s
  | n + 1, s =>
    let r := ringAt s g
    let slot := r.head % r.len
    let found := match tget r.pushed slot with
      | some d => some d
      | none => (mem.find? fun (m : Nat × Nat × Desc) => m.1 == g && m.2.1 == slot).map fun (m : Nat × Nat × Desc) => m.2.2
    if !ringWork s g then s
    else match found with
      | none =>
        let out : Bool := (s.ep.tags.any fun t => t.2.what == EpRead.descriptor g && !t.2.quarantined) || s.ep.queue.any fun t => t.2.2 == EpRead.descriptor g
        if out then s else epIssue r.fn (.descriptor g) s
      | some d =>
        if d.fence ∧ (r.granted ≠ [] ∨ r.flying ≠ []) then s
        else
          let d := { d with refuse := descRefuse s r.fn slot d, slot := slot }
          let s := setRing g { r with head := (slot + 1) % r.len, pushed := tdel r.pushed slot, granted := r.granted ++ [d] } s
          let s := bump Reg.RINGS_GRANTS (epArrived (.descriptor g) s)
          let s := if d.frag && d.refuse.isNone then epIssue r.fn (.fragment g slot) s else s
          grantN g mem n (refuseFront g (r.granted.length + 1) s)

/-- A ring's oldest granted descriptor is taken to be executed: its fragment table has arrived. -/
def descTake (g : Nat) (d : Desc) (s : State) : State :=
  let r := ringAt s g
  setRing g { r with granted := r.granted.tail, flying := r.flying ++ [d], lastSlot := d.slot }
    (if d.frag then epArrived (.fragment g d.slot) s else s)

/-- Execute a ring's oldest granted descriptor where it has the opcode (R296). One with `CHAIN` waits for the one before it, and is skipped where
that did not succeed. -/
def withDesc (g opc : Nat) (f : Desc → State → State) (s : State) : State :=
  let r := ringAt s g
  match r.granted with
  | [] => s
  | d :: ds =>
    if d.opc ≠ opc ∨ (d.chain ∧ r.flying ≠ []) then s
    else
      let run := descTake g d s
      let s := if d.chain && !r.lastOk then ringDone g d.slot 7 0xA2 none 0 0 run else f d run
      refuseFront g (ds.length + 1) s

/-- The host and subsystem of a ring's function. -/
def ringAssoc (s : State) (g : Nat) : Option Assoc := (fnAt s (ringAt s g).fn).cntlid.bind (assocAt s)

/-- A window operation of a ring (R297): the key check of R218, then the access, which stalls on a fault whatever the policy. -/
def ringAccess (g kind : Nat) (d : Desc) (data compare : Nat) (s : State) : State :=
  let len := accLen kind d.len
  let pass : Bool := match ringAssoc s g with
    | none => false
    | some a => keyPasses s a.host a.subsys d.rkey kind d.va len
  if !pass then ringDone g d.slot 2 0x86 none 0 0 (bump Reg.KEYS_KEY_FAILS s)
  else
    let k := d.rkey / 4096 % 1048576
    let x := keyAt s k
    let tally := if kind = 0 ∧ isTally d.tally ∧ bitAt x.rights 3 then some (bits d.tally 16 4, bits d.tally 0 16) else none
    let a : WinAcc := { ctx := g, ring := true, psn := 0, kind := kind, win := x.win, key := some k, offset := d.va, len := len, data := data
                        compare := compare, cid := d.slot, tally := tally }
    (accTry a (keyCount k true (bump Reg.KEYS_KEY_CHECKS s))).2

/-- Move a work ring's tail, or a completion ring's head (R299, R302). -/
def doorbell (g v : Nat) (s : State) : State :=
  let r := ringAt s g
  let i := v % r.len
  let s := { s with ep := { s.ep with idle := false, ltrIdle := false } }
  if r.state = .disabled then s
  else if r.completion then drainHeld g r.held.length (setRing g { r with head := i } s)
  else
    let more := (i + r.len - r.tail % r.len) % r.len
    if r.len - 1 < r.waiting + r.granted.length + r.flying.length + more then setRing g { r with err := 1 } s
    else setRing g { r with tail := i } s

end Sys2Proof.Machine
end

