-- ==== Sys2Proof/Machine/TelemOps.lean ====
section
/-!
DEFINITION. Machine/TelemOps.lean: writing a telemetry record (R422) and moving an event queue's head (R459),
for the families that produce or consume records.
-/
namespace Sys2Proof.Machine

/-- Slots of a telemetry ring: 2^(`SIZE` + 6) (TELEM Table 7). -/
def telSize (s : State) (ring : Nat) : Nat := 2 ^ (bits (cfgAt s Reg.TELEM_TR_CFG ring) 2 4 + 6)

/-- A record discarded: counted, and event 0x6001 (R422, R426). -/
def telDrop (ring : Nat) (s : State) : State :=
  raise 0x6001 (ring :: leBytes 4 1) (bumpAt Reg.TELEM_TR_DROPPED ring 1 s)

/-- Whether a ring would take a record now (R422). -/
def telRoom (s : State) (ring : Nat) : Bool :=
  let c := cfgAt s Reg.TELEM_TR_CFG ring
  let t := tgetD s.evt.rings ring {}
  bitAt c 0 && (if bitAt c 1 then s.evt.mpLink && bitAt (cfg s Reg.TELEM_MP_CTL) 0
    else (t.tail + 1) % telSize s ring != t.head && s.pfBme)

/-- Write one record to a telemetry ring: to its next slot of PF host memory, or as one UDP datagram to the
collector; discarded when the ring is full or not in use, or the management port is down (R422). -/
def telWrite (ring : Nat) (hdr data : List Nat) (s : State) : State :=
  let c := cfgAt s Reg.TELEM_TR_CFG ring
  let t := tgetD s.evt.rings ring {}
  if !bitAt c 0 then telDrop ring s
  else if bitAt c 1 then
    if s.evt.mpLink && bitAt (cfg s Reg.TELEM_MP_CTL) 0 then drive (.telemetry ring true hdr data) s
    else telDrop ring s
  else if (t.tail + 1) % telSize s ring = t.head ∨ !s.pfBme then telDrop ring s
  else
    drive (.telemetry ring false hdr data)
      { s with evt := { s.evt with rings := tput {} s.evt.rings ring { t with tail := (t.tail + 1) % telSize s ring } } }

/-- Move an event queue's head forward over `n` unread records (R458, R459, R424). -/
def qAdvance (q n : Nat) (s : State) : State :=
  let e := tgetD s.evt.queues q {}
  updateEventN false
    (setQueue q { e with recs := e.recs.drop n, head := (e.head + min n e.recs.length) % qSize s q } s)

/-- SM_HEARTBEAT (R425): any write restarts the heartbeat. -/
def smHeartbeatOp (s : State) : State :=
  { s with evt := { s.evt with lastHeartbeat := s.time, hbMissed := false } }

/-- The consumer index of the telemetry ring a path selects (R422). -/
def trHeadOp (p : Path) (v : Nat) (s : State) : State :=
  let ring := sel s p Reg.TELEM_TR_SEL
  let t := tgetD s.evt.rings ring {}
  { s with evt := { s.evt with rings := tput {} s.evt.rings ring { t with head := v % telSize s ring } } }

/-- A write of `Q_HEAD` (R459): applied only from the current head to the tail, going forward modulo 2^k; any other
value is ignored with code 0x10. -/
def qHeadOp (p : Path) (v : Nat) (s : State) : State :=
  let q := sel s p Reg.EVT_Q_SEL
  let e := tgetD s.evt.queues q {}
  let n := qSize s q
  let d := (v % 2 ^ 14 + n - e.head % n) % n
  if v % 2 ^ 14 < n ∧ d ≤ (e.tail + n - e.head % n) % n then qAdvance q d s
  else errLast 0x05 0x10 0x130 p.code s

/-- Raise every event whose bit is written as 1 on a page (R448). -/
def evtForceOp (page mask : Nat) (s : State) : State :=
  (List.range 32).foldl (fun s i => if bitAt mask i then raiseForced (page * 256 + i + 1) s else s) s

end Sys2Proof.Machine
end

