-- ==== Sys2Proof/Machine/NetOps.lean ====
section
/-!
DEFINITION. Machine/NetOps.lean: ports and stations (spec/09, R227 to R231), the shared buffer and PFC (R244, R245), sampling (R249), ECN (R247),
the hand-over of parsed frames (R235, R236) and egress (R230 to R232, R246).
-/
namespace Sys2Proof.Machine

/-! ### Ports and stations -/

/-- Whether a physical port 8g + s exists in the group's port mode (R227). -/
def portExists (s : State) (p : Nat) : Bool := decide (p < 64) && decide (p % 8 < 2 ^ bits (cfg s (Reg.NET_NET_CTL (p / 8))) 0 2)

/-- Whether a port's link is up. -/
def portUp (s : State) (p : Nat) : Bool := s.net.ups.contains p

/-- Whether a priority of a port is lossless (`PFC_EN`). -/
def lossless (s : State) (port prio : Nat) : Bool := bitAt (cfg s (Reg.NET_PFC_CTL (port / 8))) prio

/-- Enabled stations, ascending. -/
def stationsOn (s : State) : List Nat :=
  s.datum.active.vals.filterMap fun p => if p.1 / 2 ^ 26 = 0x130114 ∧ bitAt p.2 0 then some (p.1 % 2 ^ 26) else none

/-- A station's MAC address. -/
def stnMac (s : State) (t : Nat) : Nat :=
  cfgAt s Reg.SWITCH_STN_MAC_LO t + cfgAt s Reg.SWITCH_STN_MAC_HI t % 65536 * 2 ^ 32

/-- Whether a VLAN ID, 0 for untagged, is in a station's set (R229). -/
def stnVlan (s : State) (t vid : Nat) : Bool :=
  (List.range 4).any fun i =>
    let v := cfgAt s (Reg.SWITCH_STN_VLAN i) t
    (bitAt v 12 && bits v 0 12 == vid) || (bitAt v 28 && bits v 16 12 == vid)

/-- A station's ports. -/
def stnPort (s : State) (t p : Nat) : Bool :=
  if p < 32 then bitAt (cfgAt s Reg.SWITCH_STN_PORTS_LO t) p else bitAt (cfgAt s Reg.SWITCH_STN_PORTS_HI t) (p - 32)

/-- The 802.1Q tag of a frame. -/
def frameTag (b : List Nat) : Option Nat :=
  if b.getD 12 0 = 0x81 ∧ b.getD 13 0 = 0 then some (b.getD 14 0 * 256 + b.getD 15 0) else none

/-- The station a received frame belongs to; a broadcast or multicast one belongs to none (R229). -/
def stationOf (s : State) (port : Nat) (b : List Nat) : Option Nat :=
  let mac := beNat (b.take 6)
  if b.getD 0 0 % 2 = 1 then none else
  let vid := ((frameTag b).getD 0) % 4096
  (stationsOn s).find? fun t => stnMac s t == mac && stnVlan s t vid && stnPort s t port

/-- Ingress priority: the PCP of a tag, the DSCP's upper bits of an untagged IP frame with `TRUST`, else 0. -/
def ingressPrio (s : State) (port : Nat) (b : List Nat) : Nat :=
  match frameTag b with
  | some t => t / 8192 % 8
  | none =>
    let et := b.getD 12 0 * 256 + b.getD 13 0
    if !bitAt (cfg s (Reg.NET_PFC_CTL (port / 8))) 8 then 0
    else if et = 0x0800 then b.getD 15 0 / 32 % 8
    else if et = 0x86DD then b.getD 14 0 % 16 / 2
    else 0

/-- The port a station's frame leaves on: `ports[h mod u]` (R231). -/
def egressPort (s : State) (t hash : Nat) : Option Nat :=
  let ps := (List.range 64).filter fun p => stnPort s t p && portUp s p && portExists s p
  if ps = [] then none else ps[bits hash 16 16 % ps.length]?

/-! ### The shared buffer (R244, R245, R248) -/

/-- Cells of a frame. -/
def cells (len : Nat) : Nat := ceilDiv len 256

/-- Cells the settings of a datum reserve (R248). -/
def reservedCells (d : Datum) : Nat :=
  let ports := (List.range 64).filter fun p => decide (p % 8 < 2 ^ bits (d.val (Reg.NET_NET_CTL (p / 8)) 0) 0 2)
  let pp := ports.foldl (fun a p =>
    let en := d.val (Reg.NET_PFC_CTL (p / 8)) 0
    (List.range 8).foldl (fun a q => a + d.val Reg.BUF_PP_MIN_CELLS (8 * p + q)
      + if bitAt en q then d.val Reg.BUF_PP_HDRM_CELLS (8 * p + q) else 0) a) 0
  let src := (List.range 7).foldl (fun a i => a + d.val Reg.BUF_SRC_CREDIT i) 0
  pp + src + d.val Reg.WIN_STALL_MAX_KIB 0 * 4

/-- The shared pool after reservations. -/
def sharedCells (s : State) : Nat := 262144 - reservedCells s.datum.active

/-- Shared cells in use. -/
def sharedUsed (s : State) : Nat := s.net.ppUse.foldl (fun a u => a + u.2.cShared) 0

/-- Cells in use altogether. -/
def cellsUsed (s : State) : Nat :=
  s.net.ppUse.foldl (fun a u => a + u.2.cMin + u.2.cShared + u.2.cHead) 0 + s.net.srcUse.foldl (fun a u => a + u.2) 0

/-- Use of a port-priority. -/
def ppUse (s : State) (pp : Nat) : PpUse := tgetD s.net.ppUse pp {}

/-- Write the use of a port-priority. -/
def setPp (pp : Nat) (u : PpUse) (s : State) : State := { s with net := { s.net with ppUse := tput {} s.net.ppUse pp u } }

/-- Whether so much shared use, in eighths of a cell, lies above the threshold of a port-priority: α × the shared cells free, or the static one. -/
def overThreshold (s : State) (pp use : Nat) : Bool :=
  let a := cfgAt s Reg.BUF_PP_ALPHA pp
  if bits a 0 3 = 7 then decide (bits a 16 16 < use)
  else decide ((sharedCells s - sharedUsed s) * 2 ^ bits a 0 3 < use * 8)

/-- Send PFC XOFF or XON for a port-priority. -/
def sendPfc (pp : Nat) (off : Bool) (s : State) : State :=
  drive (.pfc (pp / 8) (pp % 8) off) (bumpAt (Reg.NET_PFC_TX (pp / 64)) (pp / 8 % 8) 1 s)

/-- Enter XOFF. -/
def enterXoff (pp : Nat) (s : State) : State :=
  if s.net.xoff.contains pp then s
  else sendPfc pp true (bumpAt Reg.BUF_PP_XOFF_SENT pp 1 { s with net := { s.net with xoff := s.net.xoff ++ [pp] } })

/-- Leave XOFF wherever shared use has fallen `PP_XON_DELTA` below the threshold. -/
def xonCheck (s : State) : State :=
  s.net.xoff.foldl (fun s pp =>
    let u := (ppUse s pp).cShared
    if overThreshold s pp (u + cfgAt s Reg.BUF_PP_XON_DELTA pp) then s
    else sendPfc pp false { s with net := { s.net with xoff := s.net.xoff.filter fun x => x != pp } }) s

/-- Discard an arriving frame (R244): counted, with event 0x1401 on a lossless priority. -/
def ppDiscard (pp : Nat) (lost : Bool) (s : State) : State :=
  let s := bumpAt Reg.BUF_PP_DISCARD pp 1 s
  if lost then raise 0x1401 [pp / 8, pp % 8] s else s

/-- Charge an arriving frame to its port-priority (R244): the frame with its charge, or none where it is discarded. -/
def chargePp (f : NetFrame) (s : State) : Option NetFrame × State :=
  let pp := 8 * f.port + f.prio
  let u := ppUse s pp
  let n := cells f.len
  let ll := lossless s f.port f.prio
  let head (s : State) : Option NetFrame × State :=
    if u.cHead + n ≤ cfgAt s Reg.BUF_PP_HDRM_CELLS pp then
      (some { f with cHead := n }, setPp pp { u with cHead := u.cHead + n } s)
    else (none, ppDiscard pp true s)
  if ll && s.net.xoff.contains pp then head s
  else
    let m := min n (cfgAt s Reg.BUF_PP_MIN_CELLS pp - u.cMin)
    let sh := n - m
    let fits : Bool := decide (sharedUsed s + sh ≤ sharedCells s)
    if !ll && (overThreshold s pp (u.cShared + sh) && sh != 0 || !fits) then (none, ppDiscard pp false s)
    else if !fits then head (enterXoff pp s)
    else
      let u' : PpUse := { u with cMin := u.cMin + m, cShared := u.cShared + sh }
      let s := setPp pp u' s
      let s := if ll && overThreshold s pp u'.cShared then enterXoff pp s else s
      (some { f with cMin := m, cShared := sh }, s)

/-- Use of an internal source. -/
def srcUsed (s : State) (i : Nat) : Nat := tgetD s.net.srcUse i 0

/-- Whether a source may hold so many more cells (R245). -/
def srcRoom (s : State) (i n : Nat) : Bool := decide (srcUsed s i + n ≤ cfgAt s Reg.BUF_SRC_CREDIT i)

/-- Charge or free cells of a source. -/
def srcAdd (i n : Nat) (s : State) : State := { s with net := { s.net with srcUse := tput 0 s.net.srcUse i (srcUsed s i + n) } }

/-- Free cells of a source. -/
def srcFree (i n : Nat) (s : State) : State := { s with net := { s.net with srcUse := tput 0 s.net.srcUse i (srcUsed s i - n) } }

/-- A frame of an internal source enters the parse queue, or waits at the source's bound (R245). -/
def inject (f : NetFrame) (s : State) : State :=
  let i := f.src.getD 4
  let n := cells f.len
  if srcRoom s i n && !(s.net.heldIn.any fun g => g.src == f.src) then
    let s := srcAdd i n s
    { s with net := { s.net with waiting := s.net.waiting ++ [{ f with seq := s.net.nextSeq }], nextSeq := s.net.nextSeq + 1 } }
  else
    let s := if s.net.heldIn.any fun g => g.src == f.src then s else bumpAt Reg.BUF_SRC_STALLS i 1 s
    { s with net := { s.net with heldIn := s.net.heldIn ++ [f] } }

/-- Frames held at their source's bound enter as cells free. -/
def injectHeld (s : State) : State :=
  let hs := s.net.heldIn
  hs.foldl (fun s f =>
    if srcRoom s (f.src.getD 4) (cells f.len) && !(s.net.heldIn.any fun g => g.src == f.src) then inject f s
    else { s with net := { s.net with heldIn := s.net.heldIn ++ [f] } }) { s with net := { s.net with heldIn := [] } }

/-- A frame leaves the buffer. -/
def uncharge (f : NetFrame) (s : State) : State :=
  match f.src with
  | some i => injectHeld (srcFree i (cells f.len) s)
  | none =>
    let pp := 8 * f.port + f.prio
    let u := ppUse s pp
    xonCheck (setPp pp { cMin := u.cMin - f.cMin, cShared := u.cShared - f.cShared, cHead := u.cHead - f.cHead } s)

/-! ### Sampling (R249) -/

/-- The gap to a sampler's next copy. -/
def smpNext (i : Nat) (s : State) : Nat × State :=
  let n := cfgAt s Reg.SAMPLE_SMP_N i
  if bitAt (cfgAt s Reg.SAMPLE_SMP_CFG i) 2 then
    let (r, s) := drawFree s
    (1 + r % (2 * n - 1), s)
  else (n, s)

/-- The 32-byte header of a sample record (Table 9). -/
def smpHeader (i cfgv len port cls time hash rule : Nat) (station : Option Nat) (hit : Bool) (seq : Nat) : List Nat :=
  [i + bits cfgv 0 1 * 16 + bits cfgv 1 1 * 32, 0] ++ leBytes 2 len ++ [port] ++ leBytes 2 (station.getD 0x8000) ++ [cls]
    ++ leBytes 8 time ++ leBytes 4 hash ++ leBytes 2 (rule + b2n hit * 32768) ++ [0, 0] ++ leBytes 8 seq

/-- Offer a frame to a sampler: one in `SMP_N` is copied to its ring, or discarded there with event 0x1501. -/
def smpOffer (i dir : Nat) (hdr : Nat → Nat → List Nat) (bytes : List Nat) (s : State) : State :=
  let c := cfgAt s Reg.SAMPLE_SMP_CFG i
  if !bitAt (cfg s Reg.SAMPLE_SMP_CTL) i ∨ bits c 0 1 ≠ dir then s
  else
    let (gap, s) := if thas s.net.smpGap i then (tgetD s.net.smpGap i 1, s) else smpNext i s
    if 1 < gap then { s with net := { s.net with smpGap := tset s.net.smpGap i (gap - 1) } }
    else
      let (g, s) := smpNext i s
      let q := tgetD s.net.smpSeq i 0 + 1
      let s := { s with net := { s.net with smpGap := tset s.net.smpGap i g, smpSeq := tset s.net.smpSeq i q } }
      let s := wrAt Reg.SAMPLE_SMP_SEQ i (q % 2 ^ 32) (bumpAt Reg.SAMPLE_SMP_TAKEN i 1 s)
      let ring := bits c 8 4
      let n := if bitAt c 1 then 256 else 128
      let data := (bytes ++ List.replicate n 0).take n
      let room := telRoom s ring
      let s := telWrite ring (hdr c q) data s
      if room then s
      else
        let s := bumpAt Reg.SAMPLE_SMP_DROPPED i 1 { s with net := { s.net with smpStat := (i :: s.net.smpStat).eraseDups } }
        raise 0x1501 (i :: leBytes 4 1) s

/-! ### ECN (R247) -/

/-- Whether a frame of a colour is marked at a depth, by the thresholds of a port-priority; between them with a probability. -/
def ecnMark (pp d colour : Nat) (s : State) : Bool × State :=
  let lo := cfgAt s Reg.BUF_EQ_KMIN pp
  let hi := cfgAt s Reg.BUF_EQ_KMAX pp
  let d := if colour = 1 then 2 * d else d
  if !bitAt (cfg s Reg.BUF_BUF_CTL) 0 ∨ d < lo then (false, s)
  else if colour = 2 ∨ hi < d then (true, s)
  else
    let w := cfgAt s Reg.BUF_EQ_PMAX pp % 256 * (d - lo)
    if w = 0 then (false, s)
    else
      let (r, s) := drawFree s
      (decide (r % (256 * (hi - lo)) < w), s)

/-- The ECN field of the IP header at an offset. -/
def ecnField (b : List Nat) (off : Nat) : Nat :=
  if b.getD off 0 / 16 = 4 then b.getD (off + 1) 0 % 4 else if b.getD off 0 / 16 = 6 then b.getD (off + 1) 0 / 16 % 4 else 0

/-- The source address of the IP header at an offset, as a GID. -/
def ipSource (b : List Nat) (off : Nat) : Nat :=
  if b.getD off 0 / 16 = 4 then 0xFFFF * 2 ^ 32 + beNat ((b.drop (off + 12)).take 4) else beNat ((b.drop (off + 8)).take 16)

/-! ### Parsing (R234 to R236) -/

/-- The parse cluster takes frames: not before release, nor while a closure quiesces it (R237). -/
def parseRuns (s : State) : Bool := s.pwr.released && s.datum.phase != .armed && !s.pwr.enginesStopped

/-- An engine as it starts on a frame. -/
def engineFor (f : NetFrame) : Engine :=
  { frame := f
    w := [f.len, f.port, f.station.getD 0xFFFFFFFF, f.prio, 0, 0, 0, 0]
    out := { station := f.station, port := f.port, length := f.len, prio := f.prio, offs := List.replicate 8 0
             flags := if f.src = some 1 ∨ f.src = some 6 then 128 else 0 } }

/-- Idle engines in service take the frames that wait, oldest first. -/
def assign : Nat → State → State
  | 0, s => s
  | n + 1, s =>
    if !parseRuns s then s
    else match s.net.waiting, firstIdx 64 fun e => !thas s.net.engines e && !s.arch.parseOut.contains e with
      | f :: rest, some e =>
        assign n { s with net := { s.net with waiting := rest, engines := tset s.net.engines e (engineFor f) } }
      | _, _ => s

/-- Give idle engines their frames. -/
def feed (s : State) : State := assign s.net.waiting.length s

/-- Frames of one ingress port, or of one internal source, keep their order (R236). -/
def sameStream (a b : NetFrame) : Bool := a.src == b.src && (a.src.isSome || a.port == b.port)

/-- Whether an older frame of a frame's stream has not been released. -/
def olderHeld (s : State) (f : NetFrame) : Bool :=
  let o (g : NetFrame) : Bool := sameStream f g && decide (g.seq < f.seq)
  s.net.waiting.any o || (s.net.engines.any fun e => o e.2.frame) || s.net.done.any fun p => o p.frame

/-- The slice of a frame (R242). -/
def sliceOf (s : State) (p : Parsed) : Nat :=
  match p.slice with
  | some x => x
  | none => bits p.out.hash (cfg s Reg.SWITCH_SW_CTL % 32) 1

/-- Hand a frame to its destination (R235, Table 5). -/
def handOver (p : Parsed) (s : State) : State :=
  let f := p.frame
  let r := p.out
  let s := if r.sample then
      smpOffer r.sampler 0 (fun c q => smpHeader r.sampler c f.len f.port r.cls f.time r.hash r.rule r.station (bitAt r.flags 8) q) f.bytes s
    else s
  let sl := sliceOf s p
  let s := bumpAt (if sl = 0 then Reg.SWITCH_SLICE0_CELLS else Reg.SWITCH_SLICE1_CELLS) 0 (cells f.len) s
  let pp := 8 * f.port + f.prio
  let u := ppUse s pp
  let ect := ecnField f.bytes (r.offs.getD 1 0)
  let inside : Bool := r.cls != 0 && r.cls != 4 && (ect == 1 || ect == 2)
  let (ce, s) := if inside then ecnMark pp (u.cMin + u.cShared + u.cHead) r.colour s else (false, s)
  let s := if ce then bumpAt Reg.BUF_EQ_MARKED pp 1 s else s
  let r := if ce then { r with flags := setBit r.flags 4 } else r
  let s := uncharge f s
  let pass (s : State) : State := drive (.parsed r f.src sl) s
  let plain : Bool := f.src != some 1 && (match r.station with
    | some t => espReq s t
    | none => false)
  match r.cls with
  | 0 => s
  | 1 => if plain then bump Reg.CIPHW_PLAIN_DROP s else pass s
  | 2 =>
    if !bitAt (cfg s Reg.CIPHW_CW_CTL) 0 then bump Reg.CIPHW_NOSA_DROP s
    else
      let h := r.offs.getD 3 0
      let spi := beNat ((f.bytes.drop h).take 4)
      let lo := beNat ((f.bytes.drop (h + 4)).take 4)
      match espInbound r.context lo spi r.station (ipSource f.bytes (r.offs.getD 1 0)) f.esp s with
      | (.nowhere, s) => s
      | (.transport, s) => pass s
      | (.again, s) => inject { f with src := some 1, bytes := f.esp.bytes.take 256, len := f.esp.len, cMin := 0, cShared := 0, cHead := 0 } s
  | 4 => if s.zeb.lanes = 0 then s else zsend (.frame f.len f.port f.prio f.bytes) s
  | 5 => if plain then bump Reg.CIPHW_PLAIN_DROP s else pass s
  | _ => pass s

/-- Release the output records whose turn has come, in arrival order of each stream. -/
def releaseDone : Nat → State → State
  | 0, s => s
  | n + 1, s =>
    match s.net.done.find? fun p => !olderHeld s p.frame with
    | none => s
    | some p => releaseDone n (handOver p { s with net := { s.net with done := s.net.done.erase p } })

/-- The `PARSE` instance of an engine. -/
def engPage (e : Nat) : Nat := if e < 32 then 0 else 1

/-- EMIT: the output record is released in its turn, and the engine takes its next frame (R235, R236). A reserved class is handled as 3 with
reason 4. -/
def emitOp (e : Nat) (x : Engine) (s : State) : State :=
  let r := { x.out with hash := x.hash, cycles := min x.cycles 2047 }
  let r := if r.cls < 7 then r else { r with cls := 3, context := 4 }
  let k := engPage e
  let s := bump64 (Reg.PARSE_CYCLES_LO k) 0 x.cycles (bump (Reg.PARSE_FRAMES k) s)
  let s := wr (Reg.PARSE_CYCLE_MAX k) (max (rd s (Reg.PARSE_CYCLE_MAX k)) x.cycles) s
  let s := { s with net := { s.net with
    engines := tdel s.net.engines e, done := s.net.done ++ [{ frame := x.frame, out := r, slice := x.slice }] } }
  feed (releaseDone (s.net.done.length + 1) s)

/-- A parse engine leaves service: its frame is parsed again on another (R12). -/
def engineOut (e : Nat) (s : State) : State :=
  match tget s.net.engines e with
  | none => s
  | some x =>
    feed (bump (Reg.PARSE_REPARSED (engPage e)) { s with net := { s.net with
      engines := tdel s.net.engines e, waiting := x.frame :: s.net.waiting } })

/-- The parse cluster and switch core are still: no engine holds a frame and no record waits (R389). -/
def netStill (s : State) : Bool := s.net.engines.isEmpty && s.net.done.isEmpty

/-- A frame that crossed the Zeber link is parsed by this controller's switch core (Table 5, class 4). -/
def frameFromPartner (len port prio : Nat) (bytes : List Nat) (esp : EspIn) (s : State) : State :=
  feed (inject { bytes := bytes.take 256, len := len, port := port, prio := prio, time := s.time
                 station := stationOf s port bytes, src := some 4, esp := esp } s)

/-! ### Egress (R230 to R232, R246) -/

/-- The egress queue of a port and priority. -/
def egQueue (s : State) (pp : Nat) : List EgFrame := tgetD s.net.egress pp []

/-- Depth of an egress queue in cells. -/
def egDepth (s : State) (pp : Nat) : Nat := (egQueue s pp).foldl (fun a f => a + cells f.len) 0

/-- A station's bucket, filled to now (R230): tokens in thousandths of a byte. -/
def bucketNow (s : State) (t : Nat) : Nat :=
  let depth := cfgAt s Reg.SWITCH_STN_BURST_KIB t * 1024000
  match tget s.net.buckets t with
  | none => depth
  | some b => min depth (b.tokens + (s.time - b.filled) * cfgAt s Reg.SWITCH_STN_RATE_MBS t)

/-- Whether the station limiter lets a frame go. -/
def limOk (s : State) (f : EgFrame) : Bool :=
  cfgAt s Reg.SWITCH_STN_RATE_MBS f.station == 0 || decide (f.len * 1000 ≤ bucketNow s f.station)

/-- Take a frame's bytes from its station's bucket. -/
def limTake (f : EgFrame) (s : State) : State :=
  if cfgAt s Reg.SWITCH_STN_RATE_MBS f.station = 0 then s
  else { s with net := { s.net with
    buckets := tset s.net.buckets f.station { tokens := bucketNow s f.station - f.len * 1000, filled := s.time }
    limited := s.net.limited.filter fun t => t != f.station } }

/-- Stations with a frame in a queue, ascending. -/
def egStations (s : State) (pp : Nat) : List Nat :=
  ((egQueue s pp).foldl (fun (t : Tab Unit) f => tset t f.station ()) []).map fun p => p.1

/-- A station's first frame in a queue. -/
def stnHead (s : State) (pp t : Nat) : Option EgFrame := (egQueue s pp).find? fun f => f.station == t

/-- Note the stations whose limiter holds their frames of a port. -/
def limNote (port : Nat) (s : State) : State :=
  (List.range 8).foldl (fun s q => (egStations s (8 * port + q)).foldl (fun s t => match stnHead s (8 * port + q) t with
    | none => s
    | some f => if limOk s f ∨ s.net.limited.contains t then s
      else bumpAt Reg.SWITCH_STN_LIMITED t 1 { s with net := { s.net with limited := s.net.limited ++ [t] } }) s) s

/-- The output rings of a queue with work: stations whose limiter lets their first frame go. -/
def egWork (s : State) (pp : Nat) : List Nat := (egStations s pp).filter fun t => (stnHead s pp t).elim false fun f => limOk s f

/-- Whether a queue has a frame that may leave: not paused by the peer, and let go by its station's limiter. -/
def egReady (s : State) (pp : Nat) : Bool := !thas s.net.paused pp && egWork s pp != []

/-- The next frame of a queue by the arbiter of its output rings (R303). -/
def egNext (pp : Nat) (s : State) : Option EgFrame × State :=
  let x := tgetD s.net.outArb pp {}
  let work := egWork s pp
  if 0 < x.left ∧ work.contains x.stn then (stnHead s pp x.stn, s)
  else
    let sched (t : Nat) : Nat := cfgAt s Reg.RINGS_OUT_SCHED (57344 + 8 * t + pp % 8)
    let units (t : Nat) : Nat := ((egQueue s pp).filter fun f => f.station == t).length
    match x.arb.pick work (fun t => bits (sched t) 0 8) (fun t => bits (sched t) 8 6) units with
    | (none, _) => (none, s)
    | (some (t, n), w) =>
      (stnHead s pp t, { s with net := { s.net with outArb := tset s.net.outArb pp { arb := w, stn := t, left := n } } })

/-- DWRR weight of a priority. -/
def etsWeight (s : State) (port q : Nat) : Nat :=
  if q < 4 then bits (cfg s (Reg.NET_ETS_WEIGHT_LO (port / 8))) (8 * q) 8
  else bits (cfg s (Reg.NET_ETS_WEIGHT_HI (port / 8))) (8 * (q - 4)) 8

/-- Deficit round robin among the priorities that are not strict (R246): `k` is twice the priority whose turn it is, plus 1 once its quantum of
this round is given. -/
def dwrr : Nat → Nat → Nat → State → Option Nat × State
  | 0, _, _, s => (none, s)
  | n + 1, port, k, s =>
    let q := k / 2 % 8
    let pp := 8 * port + q
    let next := (q + 1) % 8 * 2
    if !egReady s pp ∨ bitAt (cfg s (Reg.NET_ETS_CTL (port / 8))) q then
      let s := if egQueue s pp = [] then { s with net := { s.net with deficit := tdel s.net.deficit pp } } else s
      dwrr n port next s
    else
      let d := tgetD s.net.deficit pp 0 + if k % 2 = 0 then 256 * etsWeight s port q else 0
      match egNext pp s with
      | (none, s) => (none, s)
      | (some f, s) =>
        if f.len ≤ d then
          (some q, { s with net := { s.net with deficit := tset s.net.deficit pp (d - f.len), turn := tset s.net.turn port (2 * q + 1) } })
        else dwrr n port next { s with net := { s.net with deficit := tset s.net.deficit pp d } }

/-- The priority ETS serves next on a port (R246): strict ones in descending order, then the rest. -/
def etsPick (port : Nat) (s : State) : Option Nat × State :=
  let strict := cfg s (Reg.NET_ETS_CTL (port / 8))
  match [7, 6, 5, 4, 3, 2, 1, 0].find? fun q => bitAt strict q && egReady s (8 * port + q) with
  | some q => (some q, s)
  | none =>
    if (List.range 8).any fun q => egReady s (8 * port + q) then dwrr 400 port (tgetD s.net.turn port 0) s else (none, s)

/-- Capture a marked frame's departure (R232): into the group's FIFO of 16, or none with `OVERFLOW` and event 0x0804. -/
def txStamp (port : Nat) (f : EgFrame) (s : State) : State :=
  match f.ts with
  | none => s
  | some id =>
    let g := port / 8
    let q := tgetD s.net.txts g []
    if q.length < 16 then { s with net := { s.net with txts := tset s.net.txts g (q ++ [{ sub := port % 8, seqId := id, time := s.time }]) } }
    else raise (0x0804 + g * 256) [port % 8] { s with net := { s.net with txtsOver := (g :: s.net.txtsOver).eraseDups } }

/-- Send the next frame of a queue. -/
def egSend (port q : Nat) (s : State) : State :=
  let pp := 8 * port + q
  match egNext pp s with
  | (none, s) => s
  | (some f, s) =>
    let d := egDepth s pp
    let rest := (egQueue s pp).erase f
    let x := tgetD s.net.outArb pp {}
    let s := { s with net := { s.net with outArb := tset s.net.outArb pp { x with left := x.left - 1 } } }
    let (ce, s) := if f.ecn = 1 ∨ f.ecn = 2 then ecnMark pp d f.colour s else (false, s)
    let s := if ce then bumpAt Reg.BUF_EQ_MARKED pp 1 s else s
    let s := limTake f { s with net := { s.net with egress := tput [] s.net.egress pp rest } }
    let s := srcFree f.src (cells f.len) s
    let g := port / 8
    let s := bump64 (Reg.NET_TX_BYTES_LO g) (port % 8) f.len (bumpAt (Reg.NET_TX_FRAMES g) (port % 8) 1 s)
    let s := bump64 Reg.SWITCH_STN_TX_BYTES_LO f.station f.len s
    let s := (List.range 16).foldl (fun s i =>
      let m := if port < 32 then bitAt (cfgAt s Reg.SAMPLE_SMP_PORTS_LO i) port else bitAt (cfgAt s Reg.SAMPLE_SMP_PORTS_HI i) (port - 32)
      if m then smpOffer i 1 (fun c n => smpHeader i c f.len port 0 s.time f.hash 0 (some f.station) false n) f.bytes s else s) s
    let s := txStamp port f s
    drive (.frame port f ce f.ts) s

/-- A frame of an internal source enters its egress queue; it waits where the source is at its bound or waits already (R245) or its SA cannot carry
it (R265), and is lost where the wire pool refuses its length (R259), or where its station has no port up or its connection has ended. A connection
with an SA ends where `ESP_EN` is 0 (R259). `new`: it has not waited yet. -/
def egEnter (new : Bool) (f : EgFrame) (s : State) : State :=
  let behind : Bool := s.net.heldEg.any fun g => g.src == f.src
  let hold (s : State) : State :=
    let s := if new && !behind then bumpAt Reg.BUF_SRC_STALLS f.src 1 s else s
    { s with net := { s.net with heldEg := s.net.heldEg ++ [f] } }
  let gone : Bool := f.qp.any fun c => if tcpBase ≤ c then !thas s.xp.tcp c else (qpAt s c).state == 0
  match egressPort s f.station f.hash with
  | none => s
  | some port =>
    let sa := f.qp.bind fun c => if tcpBase ≤ c then (tget s.xp.tcp c).bind fun t => t.sa else (qpAt s c).sa
    if gone then s
    else if sa.isSome && !bitAt (cfg s Reg.CIPHW_CW_CTL) 0 then
      let c := f.qp.getD 0
      if tcpBase ≤ c then connQueuesEnd c (connEnd c s) else qpError c 3 s
    else if behind || !srcRoom s f.src (cells f.len) then hold s
    else match espOutbound sa f.len (cfg s (Reg.NET_MTU (port / 8))) s with
      | (.wait, s) => { s with net := { s.net with heldEg := s.net.heldEg ++ [f] } }
      | (.tooLong, s) => s
      | (r, s) =>
        let f := match r with
          | .sealed_ n => { f with len := f.len + n }
          | _ => f
        let pp := 8 * port + f.prio
        let s := srcAdd f.src (cells f.len) s
        { s with net := { s.net with egress := tset s.net.egress pp (egQueue s pp ++ [f]) } }

/-- Discard the frames queued for a port (R228). -/
def egDrop (port : Nat) (s : State) : State :=
  (List.range 8).foldl (fun s q =>
    let pp := 8 * port + q
    let fs := egQueue s pp
    let s := fs.foldl (fun s f => srcFree f.src (cells f.len) s) s
    let s := { s with net := { s.net with egress := tdel s.net.egress pp, deficit := tdel s.net.deficit pp } }
    if fs = [] then s else bumpAt (Reg.NET_DOWN_DISCARD (port / 8)) (port % 8) fs.length s) s

/-- A link goes down: its queued frames are discarded, pauses end, and event 0x0801 (R228). -/
def linkDown (port : Nat) (s : State) : State :=
  if !portUp s port then s
  else
    let s := egDrop port { s with net := { s.net with
      ups := s.net.ups.filter fun p => p != port
      paused := tfilter s.net.paused fun pp _ => pp / 8 != port
      xoff := s.net.xoff.filter fun pp => pp / 8 != port } }
    raise (0x0801 + port / 8 * 256) [port % 8, 0] s

/-- Every link of a group goes down: the group is off, retrains, or is reset (R228, R406). -/
def netGroupDown (g : Nat) (s : State) : State := (List.range 8).foldl (fun s i => linkDown (8 * g + i) s) s

/-- Reading `TXTS_HI` releases the oldest entry (R454). -/
def txtsRelease (g : Nat) (s : State) : State :=
  { s with net := { s.net with txts := tput [] s.net.txts g ((tgetD s.net.txts g []).drop 1) } }

end Sys2Proof.Machine
end

