-- ==== Sys2Proof/Machine/Nvmf.lean ====
section
/-!
DEFINITION. Machine/Nvmf.lean: Connect and Keep Alive, namespace management, and the I/O commands of NVMe-oF queues (spec/02,
rows 7 to 28).
-/
namespace Sys2Proof.Machine

/-- The number that stands for the answer to a Connect, which has no queue yet. -/
def connQ (conn : Nat) : Nat := 2 ^ 40 + conn

/-- Refuse a Connect (R31): counted, and with no state held. -/
def refuseConnect (conn cid sc : Nat) (dnr : Bool) (s : State) : State :=
  respond (connQ conn) cid 1 sc (some dnr) 0 0 (bump Reg.NVMF_CONN_REFUSED s)

/-- Whether a subsystem's record allows a host: `ANY_HOST`, or its bit of the allow mask (spec/15, Table 2). -/
def hostAllowed (r : List Nat) (idx : Option Nat) : Bool :=
  bitAt (r.getD 2 0) 0 || (match idx with
    | none => false
    | some i => bitAt (fieldLE r 388 512) i)

/-- The lowest CNTLID of this controller not in use (R30). -/
def freeCntlid (s : State) : Option Nat :=
  (firstIdx 8192 fun i => !thas s.nvm.assocs ((if isCtrl1 s then 0x8001 else 1) + i)).map fun i => (if isCtrl1 s then 0x8001 else 1) + i

/-- Open an association with its admin queue (R30, R31, R32). -/
def openAssoc (conn cid nqn subsys station kato size : Nat) (fn : Option Nat) (s : State) : State :=
  let known := hostIdx s nqn
  let inUse := known.elim false fun h => (hostsIn s).contains h
  if 8192 ≤ s.nvm.assocs.length then
    refuseConnect conn cid 0x81 false (raise 0x2004 (leBytes 2 station ++ [0]) s)
  else if !inUse ∧ 4096 ≤ (hostsIn s).length then
    refuseConnect conn cid 0x81 false (raise 0x2004 (leBytes 2 station ++ [1]) s)
  else
    match (match known with
      | some h => some h
      | none => hostFree s), freeCntlid s with
    | some h, some c =>
      let s := if thas s.datum.active.hosts h then s else { s with nvm := { s.nvm with hostNqns := tset s.nvm.hostNqns h nqn } }
      let s := { s with nvm := { s.nvm with
        assocs := tset s.nvm.assocs c { host := h, subsys := subsys, station := station, kato := max kato (cfg s Reg.NVMF_KATO_MIN), kaAt := s.time, fn := fn }
        queues := tset s.nvm.queues (c * 256) { size := min size 128 }
        conn := tset s.nvm.conn (c * 256) conn } }
      respond (connQ conn) cid 0 0 (some false) c 0 s
    | _, _ => refuseConnect conn cid 0x81 false s

/-- CONNECT on a transport connection: an admin queue (`qid` 0) forms an association, an I/O queue joins one (R30, R31). -/
def execConnect (conn cid nqn subsys station cntlid qid size kato : Nat) (s : State) : Res := .next <|
  match tget s.datum.active.subsystems subsys with
  | none => refuseConnect conn cid 0x82 true s
  | some r =>
    if !hostAllowed r (hostIdx s nqn) then refuseConnect conn cid 0x84 true s
    else if qid = 0 then
      if !bitAt (fieldLE r 260 128) station then refuseConnect conn cid 0x82 true s
      else openAssoc conn cid nqn subsys station kato size none s
    else match assocAt s cntlid with
      | none => refuseConnect conn cid 0x82 true s
      | some a =>
        if a.station ≠ station ∨ some a.host ≠ hostIdx s nqn ∨ a.subsys ≠ subsys ∨ 128 < qid ∨ thas s.nvm.queues (cntlid * 256 + qid) then
          refuseConnect conn cid 0x82 true s
        else
          respond (connQ conn) cid 0 0 (some false) cntlid 0 { s with nvm := { s.nvm with
            queues := tset s.nvm.queues (cntlid * 256 + qid) { size := min size 4096 }
            conn := tset s.nvm.conn (cntlid * 256 + qid) conn } }

/-- KEEP_ALIVE: the timer restarts; it is answered without a context (R32, R56). -/
def execKeepAlive (cntlid cid : Nat) (s : State) : Res := .next <|
  match assocAt s cntlid with
  | none => s
  | some a =>
    respond (cntlid * 256) cid 0 0 (some false) 0 0
      { s with nvm := { s.nvm with assocs := tset s.nvm.assocs cntlid { a with kaAt := s.time } } }

/-- KEEP_ALIVE_EXPIRE: the association ends, with event 0x2003 (R32, R62). -/
def execKeepAliveExpire (cntlid : Nat) (s : State) : Res := .next <|
  match assocAt s cntlid with
  | none => s
  | some a =>
    raise 0x2003 (leBytes 2 cntlid ++ leBytes 2 a.station) (bump Reg.NVMF_KATO_EXPIRED (endAssociation cntlid s))

/-- Whether a queue's association may issue namespace management: its enable, and `VFN_EN` for a virtual function (Table 17). -/
def mgmtAllowed (s : State) (q bit : Nat) : Bool :=
  bitAt (cfg s Reg.NSMGR_NSMGR_CTL) bit && (match queueAssoc s q with
    | none => false
    | some a => match a.fn with
      | none => true
      | some f => f == 0 || bitAt (cfg s Reg.NSMGR_NSMGR_CTL) 2)

/-- Answer an admin command. -/
def adminDone (q cid sct sc : Nat) (dnr : Option Bool) (dw0 : Nat) (s : State) : State :=
  answer q cid sct sc dnr dw0 0 s

/-- The attributes of a create's vendor area (R35, Table 2); none where one is out of its range. -/
def vendorArea (v : List Nat) : Option Ns :=
  let f := v.getD 2 0
  let d := fieldLE v 4 2
  if v.all (fun b => b == 0) then some {}
  else if v.getD 0 0 ≠ 1 ∨ (d ≠ 0 ∧ (d < 2 ∨ 500 < d)) then none
  else some { layout := v.getD 1 0 % 4, enc := bitAt f 0, stakeMode := bitAt f 1, witness := bitAt f 2,
              prefOwner := b2n (bitAt f 3), deadline := if d = 0 then 20 else d }

/-- The lowest free NSID of a subsystem (R34). -/
def freeNsid (s : State) (subsys : Nat) : Option Nat :=
  (firstIdx 16384 fun i => !s.nvm.nss.any fun p => p.2.subsys == subsys && p.2.nsid == i + 1).map fun i => i + 1

/-- NAMESPACE_CREATE: the checks of R34 and R35; the slot enters FORMING. -/
def execNamespaceCreate (q cid nsze ncap flbas : Nat) (shared : Bool) (vendor : List Nat) (s : State) : Res := .next <|
  match queueAssoc s q with
  | none => s
  | some a =>
    if !mgmtAllowed s q 0 then adminDone q cid 0 0x01 none 0 s
    else if nsze ≠ ncap then adminDone q cid 1 0x1B none 0 s
    else if nsze = 0 ∨ bits flbas 0 4 ≠ 0 ∨ bits flbas 5 2 ≠ 0 then adminDone q cid 0 0x02 none 0 s
    else match vendorArea vendor with
      | none => adminDone q cid 7 0x82 (some true) 0 s
      | some n =>
        let m := (maskBays (curMask s)).length
        let parcels := ceilDiv nsze 16384
        if n.witness ∧ s.nvm.nss.any (fun p => p.2.witness) ∨ m < layoutW n.layout then adminDone q cid 7 0x82 (some true) 0 s
        else if parcelsFor s (curMask s) n.layout < parcels ∨ entryLimit - entriesUsed s < parcels then adminDone q cid 1 0x15 none 0 s
        else match firstIdx 16384 (fun i => !thas s.nvm.nss i), freeNsid s a.subsys with
          | some slot, some nsid =>
            let owner := if inPair s then n.prefOwner else s.pwr.ctrlId
            let (id, s) := newCtx { baseCtx q a.host cid with slot := slot, op := .other 0x0D, reserved := true, state := .bindWait } s
            let s := setNs slot { n with state := 1, subsys := a.subsys, nsid := nsid, nsze := nsze, shared := shared, owner := owner } s
            { s with nvm := { s.nvm with mgmtPend := tset s.nvm.mgmtPend slot id } }
          | _, _ => adminDone q cid 1 0x16 none 0 s

/-- A namespace becomes ACTIVE at a controller: its entries, keys and first lease (R37, R40, R346). -/
def nsActivate (slot : Nat) (n : Ns) (entries : Tab CadEntry) (key : Nat) (s : State) : State :=
  let before := parcelsFree s
  let s := setNs slot { n with state := 2 } s
  let s := entries.foldl (fun s p => { s with store := { s.store with
    cad := tset s.store.cad p.1 p.2, home := tset s.store.home p.1 { p.2 with gen := 4096 } } }) s
  let s := keyCreate slot key s
  let s := if n.witness then registerAll s else s
  raise 0x2101 (leBytes 2 slot ++ leBytes 4 n.nsid ++ [n.subsys]) (parcelsLow before s)

/-- NAMESPACE_ACTIVE: parcels are allocated UNWRITTEN, key epoch 0 is generated and the create completes once both controllers have
recorded it (R34, R37, R40); while 64 escrow records are pending it waits (R276). -/
def execNamespaceActive (slot : Nat) (s : State) : Res := .next <|
  match nsAt s slot, tget s.nvm.mgmtPend slot with
  | some n, some id =>
    if n.state ≠ 1 ∨ !keyChangeOk s then s
    else
      let parcels := ceilDiv n.nsze 16384
      let s := if (freeRun s parcels).isSome then s else compactRuns s
      match freeRun s parcels with
      | none => s
      | some base =>
        let (es, s) := newEntries n.layout 0 parcels s
        let (key, s) := drbgDraw s
        let n := { n with base := base, parcels := parcels, ready := true, lease := if s.pairedNow then 2 ^ 20 else 0 }
        let tab : Tab CadEntry := (List.range es.length).map fun i => (base + i, es.getD i {})
        let s := { s with nvm := { s.nvm with mgmtPend := tdel s.nvm.mgmtPend slot } }
        requestRecord (.nsCreate slot n tab key) (.ctx id n.nsid 0) (nsActivate slot n tab key)
          (fun s => finish id 0 0 (some false) n.nsid 0 s) s
  | _, _ => s

/-- The slot of a namespace of an association's subsystem, ACTIVE. -/
def nsidSlot (s : State) (subsys nsid : Nat) : Option Nat :=
  (s.nvm.nss.find? fun p => p.2.subsys == subsys && p.2.nsid == nsid && p.2.state == 2).map fun p => p.1

/-- Post a notice to every association of a host with a subsystem. -/
def noticeHost (host subsys kind arg : Nat) (s : State) : State :=
  (s.nvm.assocs.filter fun a => a.2.host == host && a.2.subsys == subsys).foldl (fun s a =>
    postNotice a.1 kind arg s) s

/-- Post the ANA change notice on every association that asked for it (R345). -/
def anaNotice (slot : Nat) (s : State) : State :=
  (s.nvm.assocs.filter fun a => a.2.anaNotice).foldl (fun s a => postNotice a.1 1 (slot + 1) s) s

/-- Step 1 of R38: detached from every association, and admission to it stopped. -/
def nsDeleting (slot : Nat) (s : State) : State :=
  match nsAt s slot with
  | none => s
  | some n => n.hosts.foldl (fun s h => noticeHost h n.subsys 0 n.nsid s) (setNs slot { n with state := 3, hosts := [] } s)

/-- NAMESPACE_DELETE (R38): the namespace is detached everywhere and stops admitting. -/
def execNamespaceDelete (q cid nsid : Nat) (s : State) : Res := .next <|
  match queueAssoc s q with
  | none => s
  | some a =>
    if !mgmtAllowed s q 0 then adminDone q cid 0 0x01 none 0 s
    else match nsidSlot s a.subsys nsid with
      | none => adminDone q cid 0 0x0B none 0 s
      | some slot =>
        let (id, s) := newCtx { baseCtx q a.host cid with slot := slot, op := .other 0x0D, reserved := true, state := .bindWait } s
        requestRecord (.nsDelete slot) .nothing (nsDeleting slot) (fun s => s)
          { s with nvm := { s.nvm with mgmtPend := tset s.nvm.mgmtPend slot id } }

/-- Steps 3, 4 and 6 of R38 at a controller: dirty data is discarded, both key epochs destroyed, the entries enter RELEASING and
the slot's loss records go (R105, R140). -/
def nsRelease (slot : Nat) (s : State) : State :=
  match nsAt s slot with
  | none => s
  | some n =>
    let mine (k : Nat) : Bool := k / 2 ^ 48 == slot
    let s := { s with store := { s.store with
      frames := tfilter s.store.frames fun _ f => f.slot != slot
      succs := tfilter s.store.succs fun _ f => f.slot != slot
      ext := tfilter s.store.ext fun k _ => !mine k
      resident := tfilter s.store.resident fun k _ => !mine k
      mirror := s.store.mirror.filter fun m => m.slot != slot
      jobs := tfilter s.store.jobs fun _ j => j.slot != slot
      loss := s.store.loss.filter fun r => r.slot != slot } }
    let s := setKey slot 0 {} (setKey slot 1 {} (windowsEnd slot s))
    let s := { s with ks := { s.ks with roll := s.ks.roll.filter fun x => x != slot } }
    let r := s.store.reshape
    let s :=
      if r.state ≠ 0 ∧ r.kind = 0 ∧ r.slot = slot then
        raise 0x240C ([1, 0] ++ leBytes 2 slot) { s with store := { s.store with reshape := { r with state := 0, newPlace := none } } }
      else s
    (List.range n.parcels).foldl (fun s p =>
      let i := n.base + p
      let s := { s with store := { s.store with cad := tmod s.store.cad i fun e => { e with state := 5 } } }
      if ownsNs s n then persist i 0 s else s) s

/-- NAMESPACE_DELETE_COMPLETE (R38 steps 2 to 6): acts once every command admitted has completed. -/
def execNamespaceDeleteComplete (slot : Nat) (s : State) : Res := .next <|
  match nsAt s slot, tget s.nvm.mgmtPend slot with
  | some n, some id =>
    let busy := s.nvm.ctxs.any fun p => p.2.slot == slot && p.1 != id
    let trav := s.trav.open_.any fun p => p.2.state != .closed && p.2.slots.contains slot
    if n.state ≠ 3 ∨ busy ∨ trav ∨ !keyChangeOk s then s
    else
      let s := { s with nvm := { s.nvm with mgmtPend := tdel s.nvm.mgmtPend slot } }
      requestRecord (.keyStore slot 0 0 0) (.ctx id 0 0) (nsRelease slot) (fun s => finish id 0 0 (some false) 0 0 s) s
  | _, _ => s

/-- The slot returns to FREE (R38 step 6): event 0x2102. -/
def nsFree (slot : Nat) (s : State) : State :=
  raise 0x2102 (leBytes 2 slot) { s with
    nvm := { s.nvm with nss := tdel s.nvm.nss slot }
    store := { s.store with lossChanges := tdel s.store.lossChanges slot } }

/-- PARCEL_RELEASED: a RELEASING entry, persisted, becomes UNALLOCATED and its columns free; the last one frees the slot (R38,
R105). -/
def execParcelReleased (idx : Nat) (s : State) : Res := .next <|
  let e := entAt s idx
  let h := tgetD s.store.home idx {}
  match entOwner s idx with
  | none => s
  | some (slot, _) =>
    if e.state ≠ 5 ∨ (h.state ≠ 5 ∧ homeBays s (idx / 2097152) ≠ []) then s
    else
      let s := setEnt idx {} { s with store := { s.store with
        home := tdel s.store.home idx, homeLeft := tdel s.store.homeLeft idx, homeSnap := tdel s.store.homeSnap idx
        fmtGen := tdel s.store.fmtGen idx, heldParcels := s.store.heldParcels.filter fun i => i != idx
        wrapHeld := s.store.wrapHeld.filter fun i => i != idx } }
      match nsAt s slot with
      | none => s
      | some n =>
        if (List.range n.parcels).any fun p => (entAt s (n.base + p)).state != 0 then s
        else requestRecord (.nsFree slot) .nothing (nsFree slot) (fun s => s) s

/-- The hosts that a controller list names; none where an entry is not a live controller of the subsystem (R39). -/
def listHosts (s : State) (subsys : Nat) (cntlids : List Nat) : Option (List Nat) :=
  if cntlids = [] then none
  else cntlids.foldl (fun (acc : Option (List Nat)) c =>
    match acc, assocAt s c with
    | some hs, some a => if a.subsys = subsys then some (if hs.contains a.host then hs else hs ++ [a.host]) else none
    | _, _ => none) (some [])

/-- Record a change for each host of a list, completing the command with the last (R40). -/
def hostRecords (id slot : Nat) (mk : Nat → PairRec) (ap : Nat → State → State) : List Nat → State → State
  | [], s => finish id 0 0 (some false) 0 0 s
  | [h], s => requestRecord (mk h) (.ctx id 0 0) (ap h) (fun s => finish id 0 0 (some false) 0 0 s) s
  | h :: hs, s => hostRecords id slot mk ap hs (requestRecord (mk h) .nothing (ap h) (fun s => s) s)

/-- A context for an admin command that completes once both controllers have recorded it. -/
def adminCtx (q cid host slot op : Nat) (s : State) : Nat × State :=
  newCtx { baseCtx q host cid with slot := slot, op := .other op, reserved := true, state := .bindWait } s

/-- Attach a host to a namespace. -/
def nsAttach (slot h : Nat) (s : State) : State := modNs slot (fun n => { n with hosts := n.hosts ++ [h] }) s

/-- NAMESPACE_ATTACH (R39, R40). -/
def execNamespaceAttach (q cid nsid : Nat) (cntlids : List Nat) (s : State) : Res := .next <|
  match queueAssoc s q with
  | none => s
  | some a =>
    if !mgmtAllowed s q 1 then adminDone q cid 0 0x01 none 0 s
    else match nsidSlot s a.subsys nsid, listHosts s a.subsys cntlids with
      | none, _ => adminDone q cid 0 0x0B none 0 s
      | _, none => adminDone q cid 1 0x1C none 0 s
      | some slot, some hs => match nsAt s slot with
        | none => s
        | some n =>
          if hs.any fun h => n.hosts.contains h then adminDone q cid 1 0x18 none 0 s
          else if !n.shared ∧ 1 < n.hosts.length + hs.length then adminDone q cid 1 0x19 none 0 s
          else
            let (id, s) := adminCtx q cid a.host slot 0x15 s
            hostRecords id slot (.attach slot) (nsAttach slot) hs s

/-- Detach a host from a namespace, with a notice to each of its associations (R39). -/
def nsDetach (slot h : Nat) (s : State) : State :=
  match nsAt s slot with
  | none => s
  | some n => noticeHost h n.subsys 0 n.nsid (setNs slot { n with hosts := n.hosts.filter fun x => x != h } s)

/-- NAMESPACE_DETACH (R39, R40). -/
def execNamespaceDetach (q cid nsid : Nat) (cntlids : List Nat) (s : State) : Res := .next <|
  match queueAssoc s q with
  | none => s
  | some a =>
    if !mgmtAllowed s q 1 then adminDone q cid 0 0x01 none 0 s
    else match nsidSlot s a.subsys nsid, listHosts s a.subsys cntlids with
      | none, _ => adminDone q cid 0 0x0B none 0 s
      | _, none => adminDone q cid 1 0x1C none 0 s
      | some slot, some hs => match nsAt s slot with
        | none => s
        | some n =>
          if hs.any fun h => !n.hosts.contains h then adminDone q cid 1 0x1A none 0 s
          else
            let (id, s) := adminCtx q cid a.host slot 0x15 s
            hostRecords id slot (.detach slot) (nsDetach slot) hs s

/-- Identify Namespace (R35, R51, Table 6): byte offset and value of each field the spec gives. -/
def identifyNs (slot : Nat) (n : Ns) : List (Nat × Nat) :=
  let u := unitBlocks n.layout - 1
  [(0, n.nsze), (8, n.nsze), (24, 2), (26, 0), (30, b2n n.shared), (34, u), (36, u), (40, u), (42, 0), (44, u), (130, 12),
   (3072, 1), (3073, n.layout), (3074, b2n n.enc + 2 * b2n n.stakeMode + 4 * b2n n.witness + 8 * n.prefOwner),
   (3076, n.deadline), (3080, slot), (3088, n.parcels), (3096, n.adm)]

/-- Identify Controller: the values of Table 1, R33 and R51 (R30). -/
def identifyCtrl (cntlid : Nat) : List (Nat × Nat) :=
  [(77, 9), (78, cntlid), (342, 10), (516, 16384), (525, 0), (526, 0), (528, 0), (540, 16384), (1792, 68), (1803, 1)]

/-- IDENTIFY: `cns` 0 a namespace attached to the host, 1 the controller (R51). -/
def execIdentify (q cid cns nsid : Nat) (s : State) : Res := .next <|
  match queueAssoc s q with
  | none => s
  | some a =>
    if cns = 1 then adminDone q cid 0 0 (some false) 0 (drive (.page q cid (identifyCtrl (q / 256)) []) s)
    else if cns = 0 then
      match attachedSlot s a.subsys a.host nsid with
      | none => adminDone q cid 0 0x0B none 0 s
      | some slot => match nsAt s slot with
        | none => s
        | some n =>
          let d := cfgAt s Reg.NSMGR_NS_DEADLINE slot
          adminDone q cid 0 0 (some false) 0 (drive (.page q cid (identifyNs slot { n with deadline := if d = 20 then n.deadline else d }) []) s)
    else adminDone q cid 0 0x02 none 0 s

/-- The I/O opcodes the controller supports (R42, R59). -/
def ioOpcodes : List Nat := [0x00, 0x01, 0x02, 0x08, 0x09, 0x0D, 0x0E, 0x11, 0x15, 0x81, 0x85, 0x88]

/-- READ: a capsule of opcode 0x02; one of an opcode no command has, or fused, is refused (R42, R45, R59). -/
def execRead (q cid nsid opc fuse slba nlb : Nat) (s : State) : Res := .next <|
  if fuse ≠ 0 ∨ !ioOpcodes.contains opc then submit q { cid := cid, nsid := nsid, op := .other opc } s
  else if opc = 0x02 then submit q { cid := cid, nsid := nsid, op := .read slba nlb } s
  else s

/-- WRITE (R42, R44). -/
def execWrite (q cid nsid fuse slba nlb : Nat) (s : State) : Res := .next <|
  submit q { cid := cid, nsid := nsid, op := if fuse = 0 then .write slba nlb else .other 0x01 } s

/-- WRITE_ZEROES (R42). -/
def execWriteZeroes (q cid nsid slba nlb : Nat) (s : State) : Res := .next <|
  submit q { cid := cid, nsid := nsid, op := .zeroes slba nlb } s

/-- DATASET_MANAGEMENT (R42). -/
def execDatasetManagement (q cid nsid : Nat) (dealloc : Bool) (ranges : List (Nat × Nat)) (s : State) : Res := .next <|
  submit q { cid := cid, nsid := nsid, op := .dsm dealloc ranges } s

/-- FLUSH (R42). -/
def execFlush (q cid nsid : Nat) (s : State) : Res := .next <| submit q { cid := cid, nsid := nsid, op := .flush } s

/-- RESERVATION_REGISTER (R42, R43). -/
def execReservationRegister (q cid nsid action cur new : Nat) (ignoreKey : Bool) (s : State) : Res := .next <|
  submit q { cid := cid, nsid := nsid, op := .resvRegister action cur new ignoreKey } s

/-- RESERVATION_ACQUIRE (R42, R43). -/
def execReservationAcquire (q cid nsid action cur pre rtype : Nat) (ignoreKey : Bool) (s : State) : Res := .next <|
  submit q { cid := cid, nsid := nsid, op := .resvAcquire action cur pre rtype ignoreKey } s

/-- RESERVATION_RELEASE (R42, R43). -/
def execReservationRelease (q cid nsid action cur rtype : Nat) (ignoreKey : Bool) (s : State) : Res := .next <|
  submit q { cid := cid, nsid := nsid, op := .resvRelease action cur rtype ignoreKey } s

/-- RESERVATION_REPORT (R42). -/
def execReservationReport (q cid nsid : Nat) (s : State) : Res := .next <|
  submit q { cid := cid, nsid := nsid, op := .resvReport } s

/-- STAKE_CONDITIONED_WRITE: `FUSE` must be 0b00 (R52). -/
def execStakeConditionedWrite (q cid nsid fuse slba nlb stake : Nat) (s : State) : Res := .next <|
  submit q { cid := cid, nsid := nsid, op := if fuse = 0 then .stakeWrite slba nlb stake else .other 0x85 } s

/-- CONTEXT_FREED: the next held capsule is admitted (R57); commands forwarded by the partner wait their turn likewise. -/
def execContextFreed (s : State) : Res := .next <| admitForwarded s.pair.fwdHeld.length (admitNext s)

end Sys2Proof.Machine
end

