-- ==== Sys2Proof/Machine/Traverse.lean ====
section
/-!
DEFINITION. Machine/Traverse.lean: traverses as commands (spec/06, rows 71 to 78).
-/
namespace Sys2Proof.Machine

/-- TRAVERSE: a capsule of opcode 0x81 arrives (R157). -/
def execTraverse (q cid nsid travId ndesc len fuse : Nat) (s : State) : Res := .next <|
  submit q { cid := cid, nsid := nsid, op := .traverse travId ndesc len fuse } s

/-- TRAVERSE_TABLE_CHECK: the pulled table is checked (R159, R162, R169). -/
def execTraverseTableCheck (t : Nat) (descs : List TravDesc) (s : State) : Res := .next <|
  travTable t descs (match travAt s t with
    | none => s
    | some v => epArrived (.travTable v.ctx) s)

/-- Draw a traverse's number in each namespace of a list, in one step; none where one must wait (R163). -/
def stampAll : List Nat → Tab Nat → State → Option (Tab Nat × State)
  | [], t, s => some (t, s)
  | sl :: sls, t, s => match stamp sl s with
    | (none, _) => none
    | (some a, s) => stampAll sls (tset t sl a) s

/-- Whether a namespace may be stamped: owned here, not moving, not held. -/
def mayStamp (s : State) (sl : Nat) : Bool := (nsAt s sl).elim false fun n => !n.moving && !n.admHold

/-- TRAVERSE_STAGED: every extent is staged and mirrored; the numbers are drawn at once, or the partner is asked for its own while
admission of the coordinator's namespaces is held (R162 to R164). -/
def execTraverseStaged (t : Nat) (s : State) : Res := .next <|
  match travAt s t with
  | none => s
  | some v =>
    let own := v.slots.filter (ownsSlot s)
    let other := v.slots.filter fun sl => !ownsSlot s sl
    if v.state ≠ .staging ∨ !(travKeys v).all (fun k => thas v.staged k) ∨ v.mseqs ≠ [] ∨ !own.all (mayStamp s) then s
    else if other = [] then
      match stampAll own v.nums s with
      | none => s
      | some (nums, s) => setTrav t { v with nums := nums, state := .checking } s
    else
      let s := own.foldl (fun s sl => modNs sl (fun n => { n with admHold := true }) s) s
      let s := bump Reg.TRAV_XSTAMPS (setTrav t { v with state := .stamping, holdAt := s.time } s)
      zsend (.xstampReq t v.travId other (travExts s v)) s

/-- The partner's answer to a stamp request: its numbers, then the coordinator's own, and admission resumes (R164 step 4). -/
def xstampAnswer (t : Nat) (nums : List (Nat × Nat)) (ok : Bool) (s : State) : State :=
  match travAt s t with
  | none => s
  | some v =>
    if v.state ≠ .stamping ∨ v.remote ≠ none then s
    else
      let s := wr Reg.TRAV_XSTAMP_HOLD_MAX_NS (max (rd s Reg.TRAV_XSTAMP_HOLD_MAX_NS) (s.time - v.holdAt)) (travUnhold v s)
      if !ok then travAbandon t 5 none s
      else
        let theirs := nums.foldl (fun m p => tset m p.1 p.2) v.nums
        match stampAll (v.slots.filter (ownsSlot s)) theirs s with
        | none => travAbandon t 5 none s
        | some (all, s) => setTrav t { v with nums := all, state := .checking } s

/-- TRAVERSE_STAGE_TIMEOUT: abandoned with reason 1 (R162). -/
def execTraverseStageTimeout (t : Nat) (s : State) : Res := .next <|
  match travAt s t with
  | none => s
  | some v => if (v.state = .staging ∨ v.state = .table) ∧ v.remote = none then travAbandon t 1 none s else s

/-- XSTAMP_TIMEOUT: no stamp answer; admission resumes and the traverse is abandoned with reason 5 (R164, event 0x2604). -/
def execXstampTimeout (t : Nat) (s : State) : Res := .next <|
  match travAt s t with
  | none => s
  | some v =>
    if v.state ≠ .stamping ∨ v.remote ≠ none then s
    else
      let s := wr Reg.TRAV_XSTAMP_HOLD_MAX_NS (max (rd s Reg.TRAV_XSTAMP_HOLD_MAX_NS) (s.time - v.holdAt)) s
      travAbandon t 5 none (raise 0x2604 (leBytes 2 v.host ++ leBytes 8 v.travId ++ [1 - s.pwr.ctrlId]) s)

/-- The place of an outcome in the order of R165: reservations, window ranges, conditions, stakes. -/
def outcomeRank (o : Nat × Nat × Nat) : Nat :=
  (if o.1 = 3 then 0 else if o.1 = 4 then 1 else if o.1 = 1 then 2 else 3) * 256 + o.2.1

/-- TRAVERSE_CHECK: once earlier overlapping writers have settled, the judgement of R165; `partner` is what the partner found of its own
blocks. -/
def execTraverseCheck (t : Nat) (partner : Option (Nat × Nat × Nat)) (s : State) : Res := .next <|
  match travAt s t with
  | none => s
  | some v =>
    let reading := s.store.jobs.any fun j => j.2.kind == .condition t
    if v.state ≠ .checking ∨ v.remote ≠ none ∨ !travTurn s v ∨ reading then s
    else match travJudge s v, partner with
      | none, none => travClose t s
      | some (o, i, f), none => travFail t o i f s
      | none, some (o, i, f) => travFail t o i f s
      | some a, some b =>
        let (o, i, f) := if outcomeRank a ≤ outcomeRank b then a else b
        travFail t o i f s

/-- TRAVERSE_CLOSURE: every copy of the CLOSURE record and outcome entry is in place; the commit point (R166). In ARBITRATING nothing
completes (R354). -/
def execTraverseClosure (t : Nat) (s : State) : Res := .next <|
  if s.pair.state = 4 ∨ s.vault.accepted then s else travCommit t s

/-- A lookup of the outcome memory (R173, Table 17). -/
def lookupOp (p : Path) (v : Nat) (s : State) : State :=
  let s := wr Reg.TRAV_LOOKUP_ID_HI (v % 2 ^ 32) s
  let host := sel s p Reg.TRAV_LOOKUP_HOST % 4096
  let id := sel s p Reg.TRAV_LOOKUP_ID_LO + v % 2 ^ 32 * 2 ^ 32
  let open_ := s.trav.open_.any fun p => p.2.host == host && p.2.travId == id && p.2.remote == none && p.2.state != .closed
  match outcomeOf s host id with
  | some o => wr Reg.TRAV_LOOKUP_RESULT (1 + o.outcome % 16 * 4 + o.index % 256 * 64) s
  | none => wr Reg.TRAV_LOOKUP_RESULT (if open_ then 2 else 0) s

/-- TRAVERSE_LOOKUP: a write of `LOOKUP_ID_HI` (spec/06, TRAV register page). -/
def execTraverseLookup (p : Path) (v : Nat) (s : State) : Res := .next <| cmdWrite p Reg.TRAV_LOOKUP_ID_HI (lookupOp p v) s

end Sys2Proof.Machine
end

