-- ==== Sys2Proof/Machine/PairOps.lean ====
section
/-!
DEFINITION. Machine/PairOps.lean: the pair as operations (spec/13): the state of Table 6, pair records, ownership, what a partner's loss
does, arbitration and joining.
-/
namespace Sys2Proof.Machine

/-- Admit every capsule that may be, of queues and of the partner's forwarding. -/
def admitAll (s : State) : State :=
  let s := admitForwarded s.pair.fwdHeld.length s
  (List.range (heldCount s)).foldl (fun s _ => admitNext s) s

/-- Move to a pair state: event 0x5101 (R344). -/
def setPairState (st : Nat) (s : State) : State :=
  if s.pair.state = st then s
  else raise 0x5101 [s.pair.state, st] { s with pair := { s.pair with state := st } }

/-- `PAIR_SENSE_OUT` (R341): 2 the 1 kHz wave, 1 static high, 0 not driven. -/
def senseOut (s : State) : Nat :=
  if !s.pwr.online ∨ s.pwr.held then 0
  else if s.pwr.fatal ∨ s.vault.accepted then 1
  else if s.pair.state = 3 ∨ s.pair.state = 4 ∨ s.pair.state = 5 ∨ (s.pair.state = 2 ∧ s.pair.survivor) then 2
  else 1

/-- A preemption begins on every ACTIVE member at once (R353). -/
def preemptStart (why : PreemptWhy) (s : State) : State :=
  (activeMembers s).foldl (fun s b => issueOp b 2 (pairKey s (1 - s.pwr.ctrlId)) s)
    { s with pair := { s.pair with preempt := some why, arbWaiting := false } }

/-- Begin an ownership move at a controller (R347 steps 1 and 2). -/
def moveBegin (slot owner : Nat) (s : State) : State :=
  anaNotice slot (modNs slot (fun n => { n with moving := true })
    { s with pair := { s.pair with moveSlot := some slot, moveTo := owner } })

/-- The end of a move at a controller: ownership changes, event 0x5106, and the held capsules proceed (R347 step 6). -/
def moveEnd (slot owner : Nat) (s : State) : State :=
  let s := modNs slot (fun n => { n with moving := false, owner := owner, ready := n.ready || owner == s.pwr.ctrlId })
    { s with pair := { s.pair with moveSlot := none, moveResult := 0 } }
  let s := raise 0x5106 (leBytes 2 slot ++ [owner]) (bump Reg.PAIR_MOVES s)
  anaNotice slot s

/-- Start a move, as a pair record (R347). -/
def moveStart (slot : Nat) (s : State) : State :=
  match nsAt s slot with
  | none => s
  | some n =>
    let to_ := 1 - n.owner
    requestRecord (.move slot to_) (.move slot) (moveBegin slot to_) (fun s => s) s

/-- Start the next move of a list due one at a time (R360, R413). -/
def nextMove (s : State) : State :=
  match s.pair.failback with
  | [] => s
  | f :: fs =>
    let s := { s with pair := { s.pair with failback := fs } }
    if s.pair.state = 3 ∧ s.pair.moveSlot.isNone then moveStart f s else s

/-- A window's copy, without telling the partner. -/
def winPut (w : Nat) (x : Window) (s : State) : State := { s with win := { s.win with windows := tput {} s.win.windows w x } }

/-- A key's copy, without telling the partner. -/
def keyPut (k : Nat) (x : Key) (s : State) : State := { s with win := { s.win with keys := tput {} s.win.keys k x } }

/-- Apply a pair record made at the other controller, or one of this controller once it is numbered (R349). -/
def applyRecord (r : PairRec) (s : State) : State :=
  match r with
  | .nsCreate slot ns entries key => nsActivate slot ns entries key s
  | .nsDelete slot => nsDeleting slot s
  | .nsFree slot => nsFree slot s
  | .attach slot h => nsAttach slot h s
  | .detach slot h => nsDetach slot h s
  | .resv slot r => modNs slot (fun n => { n with resv := r }) s
  | .bind w x => raise 0x1A01 (leBytes 2 w ++ [2]) (winPut w x s)
  | .unbind w => unbindBegin w (raise 0x1A01 (leBytes 2 w ++ [3]) (winPut w { winAt s w with state := 3 } s))
  | .unbound w => chainCheck w (raise 0x1A01 (leBytes 2 w ++ [0]) (winPut w {} s))
  | .keyCreate k x => keysFull (keyPut k { x with tCreate := s.time } s)
  | .keyRevoke k => keyPut k { keyAt s k with state := 2, tRevoke := s.time } s
  | .keyFree k => keyFreed k s
  | .keyStore slot _ st key => if st = 0 then nsRelease slot s else rollNow slot key s
  | .keyImport slot k st ep key => keyImport slot k st ep key s
  | .keyRetire slot k => keyRetire slot k s
  | .memberCmd b c =>
    if c = 1 then startRebuild b s
    else if c = 3 then setMember b { memberAt s b with full := true, todo := (bayEntries s b).length } s
    else if (memberAt s b).state = 1 then
      { s with store := { s.store with growTargets := (s.store.growTargets ++ [b]).eraseDups } }
    else startRestore b s
  | .reshapeCmd c kind slot layout mset =>
    if c = 1 then reshapeBegin kind slot layout mset s
    else if c = 2 then reshapeSuspend none s
    else if c = 3 then reshapeResume s
    else formSet mset s
  | .bayCmd b c => bayRecord b c s
  | .settings vals =>
    let old := s.datum.active
    let new := { old with vals := vals.foldl (fun t v => tset t v.1 v.2) old.vals }
    bayClosure (fun r => old.val r 0) (fun r => new.val r 0) { s with datum := { s.datum with active := new } }
  | .move slot owner => moveBegin slot owner s

/-- What completes once both controllers hold a record (R349). -/
def runCont (c : RecCont) (s : State) : State :=
  match c with
  | .nothing => s
  | .ctx id dw0 dw1 => pinReaders (finish id 0 0 (some false) dw0 dw1 s)
  | .memberDone => memberResult 0 s
  | .settings => { s with datum := { s.datum with phase := .armed } }
  | .move _ => s
  | .keyFence k => { s with win := { s.win with revokes := tmod s.win.revokes k fun r => { r with fenceAt := s.time } } }

/-- Records the partner's loss leaves unacknowledged complete alone (R349): controller 1 applies its own first. -/
def recordsAlone (s : State) : State :=
  s.pair.records.foldl (fun s r => runCont r.2.cont (if isCtrl1 s ∧ r.2.cont ≠ .settings then applyRecord r.2.what s else s))
    { s with pair := { s.pair with records := [] } }

/-- Land mirrored blocks of namespaces as own dirty data, each block at its highest admission number (R75, R347, R350 step 4). A
forwarded write's copy whose outcome has not arrived is left out: its command is executed again. -/
def takeMirror (mine : MirEnt → Bool) (s : State) : State :=
  let ms := s.store.mirror.filter fun m => mine m && m.stage == 0 && m.adm != 0
  let s := { s with store := { s.store with mirror := s.store.mirror.filter fun m => !mine m } }
  ms.foldl (fun s m => match visCell s m.slot m.lba with
    | some c => if c.dirty ∧ m.adm < c.adm then s else landForced m.slot m.lba m.adm m.blk s
    | none => landForced m.slot m.lba m.adm m.blk s) s

/-- Execute again a command that was forwarded to the lost partner, from its context and the data held for it (R350). -/
def reexecute (id : Nat) (s : State) : State :=
  match ctxAt s id with
  | none => s
  | some c =>
    let going : Option Nat := match c.op with
      | .unbind w => if (winAt s w).state = 3 then some w else none
      | _ => none
    if let some w := going then
      modCtx id (fun c => { c with state := .waiting }) { s with win := { s.win with unbinds := tset s.win.unbinds w (some id) } }
    else
    let s := { s with nvm := { s.nvm with ctxs := tdel s.nvm.ctxs id } }
    let subsys := (queueAssoc s c.q).elim 0 fun a => a.subsys
    let nsid := (nsAt s c.slot).elim 0 fun n => n.nsid
    let cap : Capsule := { cid := c.cid, nsid := nsid, op := c.op }
    let base : Ctx := { baseCtx c.q c.host c.cid with orphan := c.orphan }
    let new := s.nvm.nextCtx
    match parse base subsys cap s with
    | some s => c.placed.foldl (fun s b => placeBlock new b.1 b.2 s) s
    | none => { s with nvm := { s.nvm with queues := tmod s.nvm.queues c.q fun x => { x with held := cap :: x.held } } }

/-- Blocks of a writer that has taken effect and still stand dirty. -/
def dirtyOf (s : State) (c : Ctx) : List Nat :=
  (rangeBlocks c.ranges).filter fun l => (visCell s c.slot l).elim false fun x => x.dirty

/-- Every mirror still in flight is over: what waited for it completes under the solo policy (R24, R76). -/
def mirrorsOver (s : State) : State :=
  let wt := writeThrough s
  let s := { s with
    pair := { s.pair with mseqAcked := s.pair.mseqTx, sentAt := [] }
    trav := { s.trav with open_ := tmap s.trav.open_ fun _ v => { v with mseqs := [] } } }
  let s := winAcked (fun _ => true) s
  let s := s.nvm.ctxs.foldl (fun s p =>
    let left := if wt ∧ p.2.state = .effective ∧ p.2.mseqs ≠ [] then dirtyOf s p.2 else p.2.wtLeft
    tryComplete p.1 (modCtx p.1 (fun c => { c with mseqs := [], cleanMseq := none, wtLeft := left }) s)) s
  (s.trav.open_.filter fun p => p.2.state == .closing && p.2.remote.isNone).foldl (fun s p => travCommit p.1 s) s

/-- Traverses at the loss of the partner (R171, Table 10): its own leave no trace unless their CLOSURE record is here; a cross-owner one
coordinated here that has not closed is abandoned with reason 5. -/
def travPartnerLost (s : State) : State :=
  let cross := (s.trav.open_.filter fun p => p.2.remote.isNone && (p.2.state == .staging || p.2.state == .stamping || p.2.state == .checking)
    && p.2.slots.any fun sl => !ownsSlot s sl).map fun p => p.1
  let s := cross.foldl (fun s t => travAbandon t 5 none s) s
  { s with trav := { s.trav with open_ := tfilter s.trav.open_ fun _ v => v.remote.isNone } }

/-- Take every namespace the partner owned, each counter continuing at lease + 1; moves and holds end (R346, R350 step 3). None is served before the
replay of this controller's vault has settled (R358). -/
def takeAll (s : State) : State :=
  { s with
    pair := { s.pair with moveSlot := none }
    nvm := { s.nvm with nss := tmap s.nvm.nss fun _ n =>
      if n.owner = s.pwr.ctrlId then { n with moving := false, admHold := false }
      else { n with owner := s.pwr.ctrlId, adm := max n.adm n.lease, ready := s.pwr.serving, moving := false, admHold := false } } }

/-- What the link held for the partner is dropped. -/
def zebClear (s : State) : State :=
  { s with zeb := { s.zeb with waiting := [], unacked := [] } }

/-- Windows at the loss of the partner (R224): a BIND it had not finished is gone, and an UNBIND it had begun goes on here. -/
def windowsAlone (s : State) : State :=
  let s := { s with win := { s.win with windows := tfilter s.win.windows fun w x => x.state != 1 || thas s.win.binds w } }
  (s.win.windows.filter fun x => x.2.state == 3 && !thas s.win.unbinds x.1).foldl (fun s x => unbindBegin x.1 s) s

/-- The partner is declared lost (R350): `cause` 0 STOPPING, 1 timed out, 2 arbitration won. -/
def partnerLost (cause : Nat) (s : State) : State :=
  let fwds := s.pair.fwds.map fun f => f.2
  let s := travPartnerLost s
  let s := bump Reg.PAIR_FAILOVERS (setPairState 5 { s with pair := { s.pair with
    epoch := (s.pair.epoch + 1) % 2 ^ 64, ranging := false, preempt := none, arbWaiting := false, resyncing := false, survivor := false
    fwds := [], fwdHeld := [], quiet := true, failback := [] } })
  let s := raise 0x5102 (cause :: leBytes 4 s.pair.detectUs) s
  let s := takeAll (zebClear { s with vault := { s.vault with joinerEff := none } })
  let s := s.nvm.nss.foldl (fun s p => (List.range p.2.parcels).foldl (fun s q =>
    let i := p.2.base + q
    if (tgetD s.store.home i {}) = { entAt s i with gen := (tgetD s.store.home i {}).gen } then s else persistNow i s) s) s
  let s := takeMirror (fun _ => true) s
  let s := { s with nvm := { s.nvm with ctxs := tmap s.nvm.ctxs fun _ c =>
    if c.fwdTag.isSome then { c with fwdTag := none, orphan := true } else c } }
  let s := windowsAlone (mirrorsOver (limitEval s))
  let s := fwds.foldl (fun s id => reexecute id s) (recordsAlone s)
  let accs := s.win.fwds.map fun a => a.2
  let s := { s with win := { s.win with fwds := [], stalled := s.win.stalled.filter fun a => a.fwd.isNone } }
  let s := accs.foldl (fun s a => match accTry a s with
    | (true, s) => if a.ring then s else qpExecuted a.ctx a.msn s
    | (false, s) => s) s
  let s := ((List.range 24).filter fun b => (memberAt s b).oneSided).foldl (fun s b => memberDepart b 2 s) s
  let s := s.nvm.nss.foldl (fun s p => anaNotice p.1 s) s
  admitAll (pinReaders (limitEval s))

/-- Enter FENCED (R353, R355): stations and functions stop, associations end with their commands uncompleted, event 0x5104. -/
def fenced (won total : Nat) (s : State) : State :=
  let s := setPairState 6 { s with pair := { s.pair with preempt := none, arbWaiting := false, ranging := false } }
  let s := fatalEvent 0x5104 [won, total] false s
  let s := xportEnd (stopWork s)
  s.nvm.assocs.foldl (fun s a => endAssociation a.1 s) s

/-- Arbitration starts (R354): event 0x5103; controller 0 preempts at once, controller 1 after `ARB_DELAY_US`. -/
def arbitrate (s : State) : State :=
  let s := raise 0x5103 [] (bump Reg.PAIR_ARBITRATIONS (setPairState 4 s))
  if isCtrl1 s then { s with pair := { s.pair with arbWaiting := true } } else preemptStart .arbitration s

/-- The join fails: the joiner discards its copies and seeks again, the survivor serves alone under the same epoch (R359). -/
def joinAbort (s : State) : State :=
  if s.pair.state ≠ 2 then s
  else if s.pair.survivor then
    let s := bump Reg.PAIR_FAILOVERS (setPairState 5 { s with
      pair := { s.pair with survivor := false, resyncing := false, ranging := false }
      vault := { s.vault with joinerEff := none } })
    resumeDeferred (mirrorsOver (zebClear s))
  else
    zebClear (setPairState 1 { s with
      pair := { s.pair with seekAt := s.time, ranging := false, resyncing := false }
      store := { s.store with mirror := [], mirJournal := [], cad := s.store.home, loss := [] }
      trav := { s.trav with outcomes := [] }
      win := { s.win with windows := [], keys := [] } })

/-- The verdict of Table 5 on a timed-out row. -/
def judgeTimedOut (s : State) : State :=
  if s.pair.sense = 2 then
    if armed s then arbitrate s
    else if isCtrl1 s then fenced 0 (activeMembers s).length s
    else partnerLost 1 s
  else if armed s then preemptStart .timedOut s
  else partnerLost 1 s

/-- A join begins (R358, R359): the survivor takes every namespace and its limit meets the joiner's; the joiner serves nothing. -/
def joinBegin (survivor : Bool) (s : State) : State :=
  let s := setPairState 2 { s with pair := { s.pair with
    survivor := survivor, copiedMib := 0, mseqTx := 0, mseqAcked := 0, mseqRx := 0, sentAt := [], recNum := 0, records := [] } }
  if survivor then
    limitEval (takeAll { s with vault := { s.vault with joinerEff := some s.vault.partnerEffMib } })
  else
    { s with
      store := { s.store with mirror := [], mirJournal := [] }
      nvm := { s.nvm with nss := tmap s.nvm.nss fun _ n => { n with owner := 1 - s.pwr.ctrlId, ready := false } } }

/-- The partner serves alone, as its RANGE and the `PAIR_SENSE` verdict tell: it is the survivor of a join (R341, R344). -/
def partnerServes (s : State) : Bool := s.pair.partnerState == 5 || (s.pair.partnerState == 2 && s.pair.sense == 2)

/-- Checks 1 to 4 of R358, in order: the number of the first that fails. -/
def joinCheck (s : State) (ctrl version setId : Nat) (paired : Bool) : Option Nat :=
  if ctrl = s.pwr.ctrlId then some 1
  else if version ≠ 1 then some 2
  else if !(paired && s.pairedNow) then some 3
  else if setId ≠ s.store.setId ∧ setId ≠ 0 ∧ s.store.setId ≠ 0 then some 4
  else none

/-- A HELLO that passed is acted on once the security session stands (R358, check 5) and, in SEEKING, a RANGE has told the partner's state:
controller 0 is the survivor of two seekers. -/
def joinTry (s : State) : State :=
  match s.pair.helloWait with
  | none => s
  | some epoch =>
    let t := { s with pair := { s.pair with helloWait := none, epoch := max s.pair.epoch epoch } }
    if !s.zeb.session then s
    else if s.pair.state = 5 then joinBegin true t
    else if s.pair.state = 1 ∧ s.pair.ranging then joinBegin (!isCtrl1 s && !partnerServes s) t
    else s

/-- Both controllers read the same `CTRL_ID` (R27): FATAL 0x5109, no capsules, no gate driven. -/
def ctrlConflict (ctrl : Nat) (s : State) : State :=
  if s.pair.conflict then s
  else allGatesOff (fatalEvent 0x5109 [ctrl] true { s with pair := { s.pair with conflict := true } })

/-- The copy of R359: every dirty block, journal record, piece of staging, Cadastre entry not yet persisted, outcome, loss map, window and
counter, on VC 7. What the joiner knows of a namespace's limit is a new LEASE (R346). -/
def resyncCopy (s : State) : State :=
  let send (x : ResyncItem) (s : State) : State := zsend (.resyncPut x) s
  let s := (dumpData s).foldl (fun s d => if d.source = 0 then send (.block d.slot d.lba d.adm 0 d.blk) s else s) s
  let s := s.trav.open_.foldl (fun s t => t.2.staged.foldl (fun s b => match t.2.descs[b.1 / 8192]? with
    | none => s
    | some d => match descSlot s t.2 d with
      | none => s
      | some sl => send (.block sl (d.lba + b.1 % 8192) 0 (t.2.stage + b.1 / 8192)
          (mkBlk sl (d.lba + b.1 % 8192) b.2 (if d.staked then d.stake else 0) t.2.travId d.zeroes)) s) s) s
  let s := s.store.unret.foldl (fun s r => send (.journal r) s) s
  let s := (s.store.cad.filter fun p => tgetD s.store.home p.1 {} != { p.2 with gen := (tgetD s.store.home p.1 {}).gen }).foldl
    (fun s p => send (.put (.cad p.1 p.2 (tgetD s.store.home p.1 {}).gen)) s) s
  let s := s.trav.outcomes.reverse.foldl (fun s o => send (.put (.outcome o)) s) s
  let s := s.nvm.nss.foldl (fun s n => send (.put (.counter n.1 n.2.adm))
    (send (.put (.loss n.1 (s.store.loss.filter fun r => r.slot == n.1))) s)) s
  let s := s.win.windows.foldl (fun s w => send (.put (.window w.1 w.2)) s) s
  let s := s.win.keys.foldl (fun s k => send (.put (.key k.1 k.2)) s) s
  s.nvm.nss.foldl (fun s n =>
    let lim := n.2.adm + 2 ^ 20
    let (m, s) := mseqSend (fun m => .lease m n.1 lim) s
    modNs n.1 (fun n => { n with lease := n.adm, leaseAsked := lim, leaseMseq := m }) s) s

/-- A change the owner mirrors is placed here (R348). -/
def applyPut (p : StatePut) (s : State) : State :=
  match p with
  | .cad i e lease => { s with store := { s.store with
      cad := tput {} s.store.cad i e, home := tmod s.store.home i fun h => { h with gen := lease } } }
  | .counter slot adm => modNs slot (fun n => { n with adm := max n.adm adm }) s
  | .window w x => chainCheck w (winPut w x s)
  | .key k x => keyPut k { x with inflight := (keyAt s k).inflight } s
  | .resident slot lba adm data =>
    let old := s.store.mirror.filter fun m => !(m.slot == slot && m.lba == lba && m.stage == 0 && decide (m.adm ≤ adm))
    { s with store := { s.store with mirror := old ++ [{
        slot := slot, lba := lba, adm := adm, stage := 0, blk := mkBlk slot lba data 0 0 false, mseq := 0 }] } }
  | .outcome o => outcomePut o s
  | .loss slot recs => { s with store := { s.store with loss := (s.store.loss.filter fun r => r.slot != slot) ++ recs } }

/-- Place a mirrored block (R75, R348): staging is held apart. -/
def placeMirror (mseq slot lba adm stage : Nat) (blk : Blk) (s : State) : State :=
  { s with store := { s.store with mirror := s.store.mirror ++ [{ slot := slot, lba := lba, adm := adm, stage := stage, blk := blk, mseq := mseq }] } }

/-- A CLOSURE record is in place here: staging it names is linked into the order of its namespaces; what this controller owns takes
effect (R166, R348). -/
def placeClosure (slots : List (Nat × Nat)) (exts : List XExt) (s : State) : State :=
  let admOf (sl : Nat) : Nat := (slots.find? fun (p : Nat × Nat) => p.1 == sl).elim 0 fun p => p.2
  let named (m : MirEnt) : Bool := m.stage != 0 && exts.any fun x => x.stage == m.stage
  let link (m : MirEnt) : MirEnt := if named m then { m with stage := 0, adm := admOf m.slot } else m
  let s := { s with store := { s.store with mirror := s.store.mirror.map link } }
  let mine := slots.filter fun p => ownsSlot s p.1
  let isMine (m : MirEnt) : Bool := mine.any fun (p : Nat × Nat) => p.1 == m.slot && p.2 == m.adm
  let s := if mine = [] then s else takeMirror isMine s
  let done (v : Trav) : Bool := v.remote.isSome && exts.any fun x => x.stage == v.stage
  pinReaders { s with trav := { s.trav with open_ := tfilter s.trav.open_ fun _ v => !done v } }

/-- Place a journal record of the partner (R75, R348). -/
def placeJournal (r : JRec) (s : State) : State :=
  match r.body with
  | .retire j => { s with store := { s.store with mirJournal := s.store.mirJournal.filter fun x => x.jseq != j } }
  | .stripe .. => { s with store := { s.store with mirJournal := s.store.mirJournal ++ [r] } }
  | .closure _ _ _ slots exts => placeClosure slots exts { s with store := { s.store with mirJournal := s.store.mirJournal ++ [r] } }
  | _ => s

/-- Free the mirror copies a CLEAN_NOTE names (R348). -/
def applyClean (n : CleanNote) (s : State) : State :=
  match n with
  | .stripe slot bs => { s with store := { s.store with mirror := s.store.mirror.filter fun m =>
      !(m.slot == slot && m.stage == 0 && bs.any fun (b : Nat × Nat) => b.1 == m.lba && decide (m.adm ≤ b.2)) } }
  | .staging h =>
    let s := { s with store := { s.store with mirror := s.store.mirror.filter fun m => m.stage != h } }
    let gone (v : Trav) : Bool := v.remote.isSome && decide (v.stage ≤ h) && decide (h < v.stage + v.len)
    pinReaders { s with trav := { s.trav with open_ := tfilter s.trav.open_ fun _ v => !gone v } }
  | .writer slot adm => { s with store := { s.store with mirror := s.store.mirror.filter fun m =>
      !(m.slot == slot && m.adm == adm && m.stage == 0) } }

/-- Whether VC 1 traffic is placed here: paired, arbitrating, or the joiner of a join. -/
def takesMirror (s : State) : Bool := inPair s || (s.pair.state == 2 && !s.pair.survivor)

/-- Apply one VC 1 message in `MSEQ` order and acknowledge it (R348). -/
def vc1 (mseq : Nat) (f : State → State) (s : State) : State :=
  if !takesMirror s ∨ mseq ≠ s.pair.mseqRx + 1 then s
  else zsend (.mirrorAck mseq) (f { s with pair := { s.pair with mseqRx := mseq } })

/-- Retrain the link (R337, R338, R340): event 0x5003 for `cause` 0 replays and 1 a message error; 2 a lane. -/
def zebRetrain (cause : Nat) (s : State) : State :=
  if s.zeb.lanes = 0 ∨ s.zeb.retraining then s
  else
    let s := bump Reg.ZEBER_RETRAINS { s with zeb := { s.zeb with retraining := true, retrainCause := cause } }
    if cause = 2 then s else raise 0x5003 [cause] s

/-- The widest whole group of lanes among those locked (R337). -/
def laneGroup (locked : Nat) : Nat :=
  let has (m : Nat) : Bool := locked &&& m == m
  if has 0xFFFFFFFF then 0xFFFFFFFF
  else if has 0xFFFF then 0xFFFF
  else if has 0xFFFF0000 then 0xFFFF0000
  else match [0xFF, 0xFF00, 0xFF0000, 0xFF000000].find? has with
    | some m => m
    | none => 0

/-- Lanes of a mask. -/
def laneCount (m : Nat) : Nat := ((List.range 32).filter (bitAt m)).length

/-- The link goes down: event 0x5001; the session ends, and a join in progress is over (R337, R359). -/
def zebLost (s : State) : State :=
  if s.zeb.lanes = 0 then s
  else joinAbort (raise 0x5001 [0, 0] { s with
    zeb := { s.zeb with lanes := 0, retraining := false, session := false }, pair := { s.pair with helloWait := none } })

/-- Replay the flits from `f` on (R338): each counted; a flit replayed 8 times retrains the link. -/
def zebReplay (f : Nat) (s : State) : State :=
  let here (u : Nat × Nat) : Bool := decide ((u.1 + 4096 - f % 4096) % 4096 < 2048)
  let us := s.zeb.unacked.map fun u => if here u then (u.1, u.2 + 1) else u
  let n := (s.zeb.unacked.filter here).length
  let s := bumpAt Reg.ZEBER_FLIT_REPLAYS 0 n (drive (.zeberCtl 2 (f % 4096)) { s with zeb := { s.zeb with unacked := us } })
  if us.any (fun u => decide (8 ≤ u.2)) then
    zebRetrain 0 { s with zeb := { s.zeb with unacked := us.map fun u => (u.1, 0) } }
  else s

end Sys2Proof.Machine
end

