-- ==== Sys2Proof/Machine/ClosureOps.lean ====
section
/-!
DEFINITION. Machine/ClosureOps.lean: the cross-checks of a commit, arming it, what its closure does in every block, and the switching of
power domains (R389, R390, R402 and each page's staging rule).
-/
namespace Sys2Proof.Machine

/-! ### Differences of two datums -/

/-- The register keys whose values two datums set differently. -/
def changedKeys (a b : Datum) : List Nat :=
  ((a.vals.filter fun p => tget b.vals p.1 != some p.2) ++ (b.vals.filter fun p => tget a.vals p.1 != some p.2)).map (fun p => p.1)
    |>.eraseDups

/-- The register of a key. -/
def keyReg (k : Nat) : RegId := ⟨k / 0x4000000 / 0x10000, k / 0x4000000 % 0x10000⟩

/-- The pages whose register values differ between two datums, as a mask. -/
def changedPageMask (a b : Datum) : Nat :=
  ((changedKeys a b).map keyPage).eraseDups.foldl (fun m p => m + 2 ^ p) 0

/-- The digest of a datum's base and delta (R389 step 3). -/
def datumDigest (d : Datum) : Nat :=
  Config.sha384 (d.no :: d.delta :: d.vals.flatMap fun p => [p.1, p.2])

/-- The body of a DATUM entry (R374, Table 6, type 4). -/
def datumEntryBody (kind : Nat) (old new : Datum) : List Nat :=
  [kind, old.id, new.id, datumDigest new, changedPageMask old new]

/-! ### Cross-checks (R389 step 1) -/

/-- The stations a datum enables, with their MAC address and the VLAN IDs of their sets. -/
def datumStations (d : Datum) : List (Nat × List Nat) :=
  d.vals.filterMap fun p =>
    if p.1 / 2 ^ 26 = 0x130114 ∧ bitAt p.2 0 then
      let t := p.1 % 2 ^ 26
      let words := (List.range 4).map fun i => d.val (Reg.SWITCH_STN_VLAN i) t
      let vids := words.flatMap fun v =>
        (if bitAt v 12 then [bits v 0 12] else []) ++ (if bitAt v 28 then [bits v 16 12] else [])
      some (d.val Reg.SWITCH_STN_MAC_LO t + d.val Reg.SWITCH_STN_MAC_HI t % 65536 * 2 ^ 32, vids)
    else none

/-- Some earlier item of a list stands in a relation to a later one. -/
def anyPair {α : Type} (r : α → α → Bool) : List α → Bool
  | [] => false
  | x :: xs => xs.any (r x) || anyPair r xs

/-- Two enabled stations with the same MAC address and a shared VLAN ID (R229). -/
def stationsClash (d : Datum) : Bool :=
  anyPair (fun a b => a.1 == b.1 && a.2.any b.2.contains) (datumStations d)

/-- R66, R226 and R95 over a whole datum. -/
def cacheDatumOk (s : State) (d : Datum) : Bool :=
  let limit := d.val Reg.CACHE_DIRTY_LIMIT_MIB 0
  let pool := d.val Reg.WIN_POOL_MIB 0
  cacheSizeOk s (d.val Reg.CACHE_CACHE_SIZE_MIB 0) limit pool &&
    decide (64 ≤ limit) && decide (limit ≤ if bitAt (d.val Reg.PAIR_PAIR_CTL 0) 0 then 576 else 2432)

/-- R307 over a whole datum: every function block ends below ring 57,344, fits its BAR, and no two overlap. -/
def ringBlocksOk (d : Datum) : Bool :=
  let blocks := (List.range 256).map fun f => (f, d.val Reg.RINGS_FN_RING_BASE f % 65536, d.val Reg.RINGS_FN_RING_COUNT f)
  (blocks.all fun b => decide (b.2.1 + b.2.2 ≤ 57344) && (b.1 == 0 || decide (b.2.2 ≤ 1024))) &&
    !anyPair (fun a b => decide (0 < a.2.2) && decide (0 < b.2.2) &&
      decide (a.2.1 < b.2.1 + b.2.2) && decide (b.2.1 < a.2.1 + a.2.2)) blocks

/-- R460: no queue in use lies in host memory at base 0. -/
def queueBasesOk (d : Datum) : Bool :=
  (List.range 64).all fun q =>
    let c := d.val Reg.EVT_Q_CFG q
    !(bitAt c 0 && bitAt c 1 && d.val Reg.EVT_Q_BASE_LO q == 0 && d.val Reg.EVT_Q_BASE_HI q == 0)

/-- The page of the first cross-check of step 1 that a datum fails (R389). -/
def crossCheckPage (s : State) (d : Datum) : Option Nat :=
  if stationsClash d then some 0x13
  else if 131072 < reservedCells d then some 0x14
  else if !cacheDatumOk s d then some 0x22
  else if !ringBlocksOk d then some 0x29
  else if !queueBasesOk d then some 0x05
  else none

/-- The pair state is JOINING or ARBITRATING (R389, R379). -/
def pairJoinOrArb (s : State) : Bool := s.pair.state == 2 || s.pair.state == 4

/-! ### Arming (R389 steps 5 and 6) -/

/-- Write the rules and flows of a plat: the rules with an epoch (R241). -/
def platEntries (epoch : Nat) (d : Datum) (s : State) : State :=
  let s := d.rules.foldl (fun s r => platRule epoch r.2 s) s
  d.flows.foldl (fun s f => (flowInsert (flowOfImage (leNat f.2)) s).2) s

/-- A page whose changes go to the partner as a pair record (R389 step 6). -/
def pairPage (page : Nat) : Bool :=
  page == 0x24 || (decide (0x48 ≤ page) && decide (page ≤ 0x4B)) || (decide (0x30 ≤ page) && decide (page ≤ 0x47))

/-- The changed values that a pair record carries. -/
def pairSettings (old new : Datum) : Tab Nat :=
  ((changedKeys old new).filter fun k => pairPage (keyPage k)).foldl
    (fun t k => tset t k (new.val (keyReg k) (k % 0x4000000))) []

/-- Steps 5 and 6: new rules with the inactive epoch, and in a pair the changed `REBUILD`, `BAYPWR` and `RP` values as a pair record. -/
def armClosure (s : State) : State :=
  match s.datum.target with
  | none => s
  | some t =>
    let old := s.datum.active
    let s := if t.rules = old.rules ∧ t.flows = old.flows then s
      else platEntries (1 - b2n (bitAt (cfg s Reg.CLASS_CLS_CTL) 0)) t s
    let vals := pairSettings old t
    if inPair s ∧ vals ≠ [] then
      requestRecord (.settings vals) .settings (fun s => s) (fun s => s) { s with datum := { s.datum with phase := .waitPair } }
    else { s with datum := { s.datum with phase := .armed } }

/-! ### Power domains (R401, R402) -/

/-- Whether a switchable domain's condition for being off holds (Table 2). -/
def domainIdle (s : State) (d : Nat) : Bool :=
  if 4 ≤ d ∧ d ≤ 11 then !bitAt (cfg s (Reg.NET_NET_CTL (d - 4))) 4
  else if d = 14 then !bitAt (cfg s Reg.CIPHW_CW_CTL) 0 && !s.ciph.sas.any fun a => a.2.state == 1
  else if d = 21 then !bitAt (cfg s Reg.ZEBER_ZB_CTL) 0 || !s.pairedNow
  else if d = 22 then !bitAt (cfg s Reg.EP_EP_CTL) 0
  else if 24 ≤ d ∧ d ≤ 47 then !bitAt (cfg s (Reg.RP_RP_CTL (d - 24))) 0
  else false

/-- The domains that are off under `DOM_AUTO` (R402). -/
def domainsOff (s : State) : List Nat :=
  if bitAt (cfg s Reg.PWR_PWR_CTL) 1 then (List.range 48).filter (domainIdle s) else []

/-- The page a domain silences. -/
def domainPage (d : Nat) : Option Nat := (List.range 256).find? fun p => pageDomain p == some d

/-- A register whose stored value is lost while its domain is off: all but RW, RWS, RWL and RWD ones (R401, R455). -/
def lostWhenOff (r : RegId) : Bool :=
  match regRow r with
  | none => true
  | some row => row.acc == .ro || row.acc == .rw1c

/-- The stored values of a page's status and counters are lost. -/
def pageLost (page : Nat) (s : State) : State :=
  { s with regs := tfilter s.regs fun k _ => !(keyPage k == page && lostWhenOff (keyReg k)) }

/-- A domain switches: event 0x0206 (R402). -/
def domainSwitch (d : Nat) (on : Bool) (s : State) : State :=
  let s := match domainPage d with
    | none => s
    | some p => pageLost p s
  let offs := if on then s.pwr.domOff.filter (· != d) else (List.range 48).filter fun x => x == d || s.pwr.domOff.contains x
  raise 0x0206 [d, b2n on] (bump Reg.PWR_DOM_SWITCHES { s with pwr := { s.pwr with domOff := offs } })

/-- The domains follow their conditions; none switches while a power failure is accepted (R402). -/
def domainsEval (s : State) : State :=
  if s.vault.accepted then s
  else
    let want := domainsOff s
    (List.range 48).foldl (fun s d =>
      if want.contains d == s.pwr.domOff.contains d then s else domainSwitch d (!want.contains d) s) s

/-! ### What a closure does in each block -/

/-- Queues whose `EN`, `TARGET`, `SIZE` or `Q_BASE` changed start empty; what was unread is lost, and the next record is preceded by a
0x0502 (R460). -/
def queuesClosure (old new : Datum) (s : State) : State :=
  (List.range 64).foldl (fun s q =>
    let same := bits (old.val Reg.EVT_Q_CFG q) 0 6 == bits (new.val Reg.EVT_Q_CFG q) 0 6
      && old.val Reg.EVT_Q_BASE_LO q == new.val Reg.EVT_Q_BASE_LO q && old.val Reg.EVT_Q_BASE_HI q == new.val Reg.EVT_Q_BASE_HI q
    if same then s
    else
      let e := tgetD s.evt.queues q {}
      let first := match e.recs with
        | [] => e.firstLost
        | r :: _ => r.seq
      updateEventN false
        (setQueue q { recs := [], head := 0, tail := 0, seq := e.seq, lost := e.lost + e.recs.length, firstLost := first } s)) s

/-- Telemetry: a resized ring starts empty, and buckets keep their tokens up to the new depth (R427). -/
def telemClosure (old new : Datum) (s : State) : State :=
  let burst := new.val Reg.TELEM_EVT_BURST 0
  let kept := tfilter s.evt.rings fun k _ => bits (old.val Reg.TELEM_TR_CFG k) 2 4 == bits (new.val Reg.TELEM_TR_CFG k) 2 4
  { s with evt := { s.evt with
    rings := kept, tokens := tmap s.evt.tokens fun _ t => min t burst, tokenDflt := min s.evt.tokenDflt burst } }

/-- Deadlines of slots that have left ACTIVE are dropped (R64). -/
def deadlinesClosure (s : State) : State :=
  let gone (k : Nat) : Bool := k / 0x4000000 == 0x210118 && !s.slotActive (k % 0x4000000)
  { s with datum := { s.datum with active := { s.datum.active with
      vals := tfilter s.datum.active.vals fun k _ => !gone k } } }

/-- Rules that only the old plat carries are invalidated after the closure (R389). -/
def rulesClosure (old new : Datum) (s : State) : State :=
  if old.rules = new.rules then s
  else old.rules.foldl (fun s r =>
    if thas new.rules r.1 then s
    else { s with net := { s.net with rules := tmod s.net.rules r.1 fun x => { x with valid := false } } }) s

/-- The old Eopin bank is freed where `PARSE_CTL.BANK` changed (R389). -/
def banksClosure (old new : Datum) (s : State) : State :=
  [0, 1].foldl (fun s c =>
    let was := old.val ⟨0x10 + c, 0x100⟩ 0 % 2
    if was = new.val ⟨0x10 + c, 0x100⟩ 0 % 2 then s
    else { s with net := { s.net with banks := tdel s.net.banks (2 * c + was) } }) s

/-- A group whose `PORT_MODE` changed, or that is no longer enabled, loses its links (R227, R402). -/
def groupsClosure (old new : Datum) (s : State) : State :=
  (List.range 8).foldl (fun s g =>
    let o := old.val (Reg.NET_NET_CTL g) 0
    let n := new.val (Reg.NET_NET_CTL g) 0
    if bits o 0 2 ≠ bits n 0 2 ∨ (bitAt o 4 ∧ !bitAt n 4) then netGroupDown g s else s) s

/-- Pages beyond a smaller pool: the least recently used clean unpinned ones go, dirty ones are written back first (R226). -/
def poolClosure : Nat → State → State
  | 0, s => s
  | n + 1, s =>
    if s.win.pages.length ≤ poolPages s then s
    else match lruPage s fun w p => !pageDirty s w p with
      | some (w, p) => poolClosure n (bump Reg.WIN_EVICTIONS (pageDrop w p s))
      | none => match lruPage s fun _ _ => true with
        | none => s
        | some (w, p) => poolClosure n (writeBackPage w p s)

/-- `AVS_EN`: set, the fused setpoint is requested; cleared, trimming stops (R399, R415). -/
def avsClosure (old new : Datum) (s : State) : State :=
  let was := bitAt (old.val Reg.PWR_PWR_CTL 0) 0
  let now := bitAt (new.val Reg.PWR_PWR_CTL 0) 0
  if !was && now then
    drive (.avs Config.coreMvFused) { s with pwr := { s.pwr with coreMv := Config.coreMvFused, avsFails := 0, trimming := true } }
  else if was && !now then { s with pwr := { s.pwr with trimming := false, avsOk := false } }
  else s

/-- Whether a bit of an RWD register goes from 1 to 0. -/
def cleared (old new : Datum) (r : RegId) (i : Nat) : Bool := bitAt (old.val r 0) i && !bitAt (new.val r 0) i

/-- The closure strobe: every block takes the new datum's values, which it reads from then on; what a change does beyond that (R390 and the
staging rule of each page). -/
def onClosure (old new : Datum) (s : State) : State :=
  let s := deadlinesClosure s
  let s := banksClosure old new (rulesClosure old new s)
  let s := queuesClosure old new (telemClosure old new s)
  let s := groupsClosure old new s
  let s := if cleared old new Reg.EP_EP_CTL 0 then surpriseRemoval 0 s else s
  let s := ideEval false s
  let s := if cleared old new Reg.ZEBER_ZB_CTL 0 then zebLost s else s
  let s := bayClosure (fun r => old.val r 0) (fun r => new.val r 0) s
  let s := poolClosure (2 * s.win.pages.length + 1) (evictTo 0 s.store.frames.length s)
  let s := pressureCheck (limitEval s)
  let s := avsClosure old new s
  let s := if !bitAt (old.val Reg.PAIR_PAIR_CTL 0) 2 && bitAt (new.val Reg.PAIR_PAIR_CTL 0) 2 then registerAll s else s
  feed (domainsEval s)

/-! ### Block resets (R409, Table 5) and whole-controller questions -/

/-- SAMPLE: samplers emptied; `SEQ` continues. -/
def sampleBlockReset (s : State) : State := { s with net := { s.net with smpGap := [], smpStat := [] } }

/-- ZEBER: the link is retrained and no flit is lost. -/
def zeberBlockReset (s : State) : State := zebRetrain 2 s

/-- Whether dirty or mirror data is held (R407). -/
def dirtyOrMirror (s : State) : Bool := decide (0 < dirtyBlocks s) || !s.store.mirror.isEmpty

/-- Every stripe is CLEAN (R413). -/
def allClean (s : State) : Bool := dirtyBlocks s == 0

/-- Shutdown, steps 2 to 4: in a pair every owned namespace moves one at a time, and every dirty frame is queued for its flush (R413). -/
def shutdownMoves (s : State) : State :=
  let mine := (s.nvm.nss.filter fun n => n.2.owner == s.pwr.ctrlId && n.2.state == 2).map fun n => n.1
  let s : State := s.win.pages.foldl (fun (s : State) g => writeBackPage (g.1 / 2 ^ 24) (g.1 % 2 ^ 24) s) s
  let queue (f : Frame) : Frame := if 0 < f.dirty then { f with queued := true } else f
  let s : State := { s with store := { s.store with frames := tmap s.store.frames fun _ f => queue f } }
  if s.pair.state = 3 then nextMove { s with pair := { s.pair with failback := mine } } else s

end Sys2Proof.Machine
end

