-- ==== Sys2Proof/Machine/Start.lean ====
section
/-!
DEFINITION. Machine/Start.lean: what each kind of reset keeps and loses, secure boot up to the BOOT entry, the release of the engines, and
the cold start itself (R369 to R371, R386, R391, R406, R408, R410, R10, R11, R16, R461, R480; row 313).
-/
namespace Sys2Proof.Machine

/-! ### What a reset loses (R406, Table 4) -/

/-- The Cadastre as its home copies hold it, the loss map, the journal ring, the set of the labels: what the members keep. -/
def storeKept (s : State) : StoreSt :=
  { cad := s.store.home, home := s.store.home, unret := s.store.unret, jseq := s.store.jseq, jpos := s.store.jpos
    loss := s.store.loss, lossCoalesced := s.store.lossCoalesced, checkpoints := s.store.checkpoints
    mset0 := s.store.mset0, mset1 := s.store.mset1, msetCur := s.store.msetCur, setId := s.store.setId, labelSeq := s.store.labelSeq
    reshape := s.store.reshape, homeEpoch := s.store.homeEpoch, homes0 := s.store.homes0, homes1 := s.store.homes1, formed := s.store.formed
    members := tmap s.store.members fun _ m => { memberId := m.memberId, serial := m.serial, state := m.state, failedId := m.failedId
                                                 departAt := m.departAt, map := m.map, cap := m.cap, failOrder := m.failOrder } }

/-- Namespaces and their numbers stand; what runs in them is gone. -/
def nssKept (s : State) : Tab Ns :=
  tmap (tfilter s.nvm.nss fun _ n => n.state != 1) fun _ n =>
    { n with ready := false, moving := false, admHold := false, leaseAsked := 0, leaseMseq := 0 }

/-- Root ports after a reset: HELD, or DISABLED by the datum, with nothing known of a drive (R309, R406). -/
def portsHeld (s : State) : Tab Port :=
  (List.range 24).foldl (fun t n => tput {} t n { state := b2n (bitAt (cfg s (Reg.RP_RP_CTL n)) 0) }) []

/-- Registers of an access type that a warm reset returns to their reset values (R450, Table 8). -/
def warmLoses (r : RegId) : Bool :=
  match regRow r with
  | none => false
  | some row => row.acc == .rw || row.acc == .rw1c

/-- The pool, engine and link state that neither a warm nor a cold reset keeps. -/
def enginesLost (s : State) : State :=
  { s with
    sels := [], latches := []
    nvm := { nss := nssKept s }
    store := storeKept s
    trav := {}
    pair := {}
    zeb := {}
    win := {}
    ep := { perst := s.ep.perst }
    xp := {}
    net := { nextSeq := 0 }
    vault := { pfLow := s.vault.pfLow, img := s.vault.img }
    ciph := {}
    bay := { s.bay with ports := [], active := [] } }

/-! ### Secure boot -/

/-- The default datum built into the management firmware: every station, endpoint function and bay disabled (R370). -/
def defaultDatum : Datum :=
  { no := 0
    vals := (List.range 24).foldl (fun t b => tset t (regKey (Reg.BAY_CTL b) 0) (clrBit (rstVal (Reg.BAY_CTL b) 0) 0))
      [(regKey Reg.EP_EP_CTL 0, clrBit (rstVal Reg.EP_EP_CTL 0) 0)] }

/-- Return to the previous datum at a start: a DATUM entry of kind 2 and event 0x0103 (R386, R391, R395). -/
def datumReturn (frm to_ : Datum) (s : State) : State :=
  raise 0x0103 (leBytes 8 frm.id ++ [1]) (fbRequest 4 (datumEntryBody 2 frm to_) .nothing s)

/-- A commit or revert that a power failure or a reset cut off is completed (R391, R393). -/
def datumMend (s : State) : State :=
  let s := match s.datum.tornRevert with
    | none => s
    | some p => { s with datum := { s.datum with active := p, prev := none, confirmed := true } }
  let s := match s.datum.tornCommit with
    | none => s
    | some t => datumReturn t s.datum.active { s with trust := { s.trust with platSrc := 1 } }
  { s with datum := { s.datum with tornCommit := none, tornRevert := none, staged := none } }

/-- The datum a cold start boots (R370, R386): the active one if confirmed and it verifies, else the previous one, else the default. -/
def datumBoot (activeOk prevOk : Bool) (s : State) : State :=
  let src (n : Nat) (s : State) : State := { s with trust := { s.trust with platSrc := n } }
  let use (d : Datum) (s : State) : State := { s with datum := { s.datum with active := d, prev := none, confirmed := true } }
  let back : Option Datum := if prevOk then s.datum.prev else none
  if s.datum.confirmed && activeOk then s
  else
    let old := s.datum.active
    let refused (s : State) : State := if activeOk then s else raise 0x060A [7, 0] s
    match back with
    | some p =>
      let s := if s.datum.confirmed then s else datumReturn old p s
      src 1 (use p (refused s))
    | none => src 2 (use defaultDatum (refused s))

/-- The registers that act at once until sealed take the values of the datum (R394). -/
def rwlLoad (s : State) : State :=
  s.datum.active.vals.foldl (fun s p =>
    match regRow (keyReg p.1) with
    | none => s
    | some row => if row.acc = .rwl then wrAt (keyReg p.1) (p.1 % 0x4000000) p.2 s else s) s

/-- The attempt count a slot's header shows. -/
def attemptsOf (t : TrustSt) (slot : Nat) : Nat := tgetD t.attempts slot 0

/-- Steps 1 to 5 of R369 on one slot: its header, the attempt count, and every component verified and measured; event 0x060A names what is
refused. -/
def bootSlot (slot : Nat) (s : State) : Option Nat × State :=
  let t := s.trust
  let s := if (imageSlot t slot).headerOk then s
    else
      let mend (x : ImageSlot) : ImageSlot := { x with headerOk := true }
      if slot = 0 then raise 0x060A [0, 2] { s with trust := { t with slotA := mend t.slotA } }
      else raise 0x060A [0, 2] { s with trust := { t with slotB := mend t.slotB } }
  let s := if (componentRefusal t slot 1).isNone then
      { s with trust := { s.trust with attempts := tset s.trust.attempts slot (attemptsOf s.trust slot + 1) } }
    else s
  match slotRefusal t slot [1, 2, 3, 4, 5, 6] with
  | some (c, why) => (some why, raise 0x060A [c, why] s)
  | none => (none, { s with trust := { (measureSlot slot [1, 2, 3, 4, 5, 6] s.trust) with booted := slot } })

/-- The slot that boots (R369, R371): the preferred one, unless its attempt count is 3; after a failure the other; when both fail the
security firmware stays in recovery with FATAL 0x060B. Whether a slot booted. -/
def bootImages (s : State) : Bool × State :=
  let tries := decide (3 ≤ attemptsOf s.trust s.trust.preferred)
  let s := if tries then { s with trust := { s.trust with preferred := 1 - s.trust.preferred, fallback := 2 } }
    else { s with trust := { s.trust with fallback := 0 } }
  let first := s.trust.preferred
  match bootSlot first s with
  | (none, s) => (true, if tries then raise 0x0602 [2] s else s)
  | (some why, s) =>
    match bootSlot (1 - first) s with
    | (none, s) =>
      let cause := if why = 1 then 3 else 1
      (true, raise 0x0602 [cause] { s with trust := { s.trust with fallback := cause } })
    | (some _, s) =>
      (false, fatalEvent 0x060B [] false { s with trust := { s.trust with recovery := true }, pwr := { s.pwr with needCold := true } })

/-- Unwrap the key archive into the key store (R274): a record wrapped under another KEK, or no copy of which verifies, leaves its slot
EMPTY with event 0x1E06. -/
def keysUnwrap (bad : List Nat) (s : State) : State :=
  let s := { s with ks := { s.ks with keys := [] } }
  s.ks.archive.foldl (fun s a =>
    if a.2.dbg = s.trust.kekDbg ∧ a.2.owner = s.trust.kekOwner ∧ !bad.contains a.1 then
      { s with ks := { s.ks with keys := tset s.ks.keys a.1 a.2.key } }
    else raise 0x1E06 (leBytes 2 (a.1 / 2) ++ [a.1 % 2]) s) s

/-- New CERT entries where the alias keys have changed (R366, R373). -/
def certsRenew (old : List Nat) (s : State) : State :=
  if aliasInputs s.trust = old then s else fbRequest 5 [1] .nothing (fbRequest 5 [0] .nothing s)

/-! ### Self-tests and training (R10, R11, R461, R16) -/

/-- Engines of a kind that fail their self-test: each is replaced by a spare while spares of the kind remain, else left out of service. -/
def spareOut (kind n spares : Nat) (failed : List Nat) (s : State) : (Tab Nat × List Nat) × State :=
  (List.range n).foldl (fun (acc : (Tab Nat × List Nat) × State) i =>
    let ((sub, out), s) := acc
    if !failed.contains i then ((sub, out), s)
    else match (List.range spares).find? fun j => !failed.contains (n + j) && !sub.any fun p => p.2 == n + j with
      | some j => ((tset sub i (n + j), out), raise 0x060D [kind, i, n + j] s)
      | none => ((sub, out ++ [i]), raise 0x060E [kind, i, 0] s)) (([], []), s)

/-- Self-tests of every engine kind; FATAL 0x060F where no management core or no power-sequencer microcontroller is left. -/
def selfTests (f : StartFacts) (s : State) : State :=
  let ((psub, pout), s) := spareOut 0 64 4 f.parseFail s
  let ((ssub, sout), s) := spareOut 1 32 2 f.storageFail s
  let par := (List.range 8).filter f.parityFail.contains
  let mg := (List.range 4).filter f.mgmtFail.contains
  let ps := (List.range 2).filter f.pseqFail.contains
  let s := par.foldl (fun s i => raise 0x2304 [i] s) s
  let s := mg.foldl (fun s i => raise 0x060E [3, i, 0] s) s
  let s := ps.foldl (fun s i => raise 0x060E [4, i, 0] s) s
  let s := { s with
    arch := { s.arch with parseSub := psub, parseOut := pout, storageSub := ssub, storageOut := sout, parityOut := par, mgmtOut := mg
                          pseqOut := ps, tested := true }
    store := { s.store with seqFailed := par } }
  let s := if mg.length = 4 then fatalEvent 0x060F [3] false { s with pwr := { s.pwr with needCold := true } } else s
  let s := if ps.length = 2 then allGatesOff (fatalEvent 0x060F [4] false { s with pwr := { s.pwr with needCold := true } }) else s
  f.lanesFail.foldl (fun s l => laneFail (l / 400) (l % 400) s) s

/-- Channel facts of `CH_INFO` (Table 15). -/
def dimmInfo (d : Dimm) : Nat :=
  d.gib % 1024 + d.ranks % 16 * 2 ^ 10 + b2n d.ok * 2 ^ 14 + b2n (!d.ok) * 2 ^ 15

/-- HBM3E and DDR5 training: a stack that fails is FATAL 0x5801; a DIMM that fails is excluded with 0x5901, FATAL below 64 GiB; what is
left sizes the clean read-cache extension (R16, R461). -/
def memoryTrain (f : StartFacts) (s : State) : State :=
  let ds := f.dimms.filter fun d => decide (d.channel < 8)
  let gib := (ds.filter fun d => d.ok).foldl (fun a d => a + d.gib) 0
  let good := (ds.filter fun d => d.ok).map fun d => d.channel
  let s := ds.foldl (fun s d =>
    wrAt Reg.DDR_CH_RATE d.channel (if d.ok then 6400 else 0) (wrAt Reg.DDR_CH_INFO d.channel (dimmInfo d) s)) s
  let s := { s with arch := { s.arch with
    hbmBad := f.hbmFail, hbmTrained := f.hbmFail.isEmpty, ddrIn := good, ddrGib := gib, ddrTrained := true } }
  let s := wr Reg.HBM_HBM_REPAIRS f.hbmRepairs (wr Reg.CACHE_EXT_SIZE_MIB (min 448 (gib - 8) * 1024) s)
  let bad := ds.filter fun d => !d.ok
  let s := if gib < 64 then
      let c := (bad.head?).elim 0 fun d => d.channel
      fatalStop 0x5901 false (raiseSev 0x5901 4 (c :: leBytes 2 gib) { s with pwr := { s.pwr with needCold := true } })
    else bad.foldl (fun s d => raiseSev 0x5901 2 (d.channel :: leBytes 2 gib) s) s
  f.hbmFail.foldl (fun s k => fatalEvent 0x5801 [k] false { s with pwr := { s.pwr with needCold := true } }) s

/-! ### The BOOT entry and release -/

/-- The body of a BOOT entry (R374, Table 6). -/
def bootBody (cause : Nat) (t : TrustSt) (a : ArchSt) : List Nat :=
  [t.booted, cause, attemptsOf t t.booted, t.platSrc] ++ (List.range 8).map (fun n => tgetD t.svn n 0)
    ++ a.parseSub.flatMap (fun p => [p.1, p.2]) ++ a.storageSub.flatMap (fun p => [p.1, p.2])
    ++ [t.certEcdsa, t.certMldsa] ++ (List.range 8).flatMap fun c => measRecord t (c + 1)

/-- Step 8 of R369: the BOOT entry, whose writing releases the engines unless something has stopped the start. -/
def bootEntry (s : State) : State :=
  if s.pwr.fatal then fbRequest 1 (bootBody s.trust.fallback s.trust s.arch) .nothing s
  else fbRequest 1 (bootBody s.trust.fallback s.trust s.arch) .release s

/-- The banks that the datum names hold the Eopin image that runs (R237, R386). -/
def banksLoad (s : State) : State :=
  let d := (tgetD s.trust.meas 4 {}).digest
  let banks : Tab Nat := tset (tset [] (cfg s ⟨0x10, 0x100⟩ % 2) d) (2 + cfg s ⟨0x11, 0x100⟩ % 2) d
  { s with net := { s.net with banks := banks } }

/-- A bay found powered is adopted as ON with its feed (R357). -/
def adoptBay (b feed : Nat) (s : State) : State :=
  if (bayAt s b).feed ≠ 0 then s
  else setBay b { bayAt s b with state := 5, feed := feed, pg := true, pwrdis := false } s

/-- The power unit at the release: every domain on at first, the watchdog starts (R369, R401, R412). -/
def releasePower (s : State) : State :=
  wr Reg.RST_T_RELEASE_MS ((s.time - s.pwr.startAt) / 1000000) { s with pwr := { s.pwr with
    released := true, held := false, assembling := true, wdtKickAt := s.time, domOff := [] } }

/-- The topology of this start, from the datum booted: the pair state is SEEKING, or SOLO (R344, Table 13). -/
def pairBegin (s : State) : State :=
  { s with pair := { s.pair with state := b2n (bitAt (cfg s Reg.PAIR_PAIR_CTL) 0) } }

/-- The ports are held for their drives, the endpoint is ready once its link is up, and SEEKING runs from here (R286, R309, R344). -/
def releaseUnits (s : State) : State :=
  { s with
    bay := { s.bay with ports := portsHeld s }
    ep := { s.ep with ready := s.ep.link }
    pair := { s.pair with seekAt := s.time } }

/-- The domains of engines not configured go off, and `VDD_CORE` is trimmed where AVS is enabled (R399, R401). -/
def releaseRails (s : State) : State :=
  let s := { s with pwr := { s.pwr with domOff := domainsOff s } }
  if bitAt (cfg s Reg.PWR_PWR_CTL) 0 then
    drive (.avs Config.coreMvFused) { s with pwr := { s.pwr with coreMv := Config.coreMvFused, trimming := true } }
  else s

/-- Step 9 of R369: the engines are released with the datum applied, its rules and flows in place under the running epoch; ports leave
reset and assembly begins (R386, R410). -/
def releaseEngines (s : State) : State :=
  if s.pwr.released ∨ s.pwr.fatal then s
  else
    let s := banksLoad (releasePower s)
    let s := platEntries (b2n (bitAt (cfg s Reg.CLASS_CLS_CTL) 0)) s.datum.active s
    assemblyCheck (ideEval false (raise 0x1E05 [] (releaseRails (releaseUnits s))))

/-! ### Cold reset -/

/-- The controller is held in cold reset: fuses, NOR and drive contents and the bays' power stand; everything on die is lost; `THERMTRIP_N` stays low
until `SYS_PWROK` falls (R398, R406, R467). -/
def coldHold (kind : Nat) (s : State) : State :=
  let t := s.trust
  let trust : TrustSt := {
    lifecycle := t.lifecycle, vendorRevoked := t.vendorRevoked, ownerDigests := t.ownerDigests, ownerRevoked := t.ownerRevoked
    ownerCosign := t.ownerCosign, svn := t.svn, debugDisable := t.debugDisable, slotA := t.slotA, slotB := t.slotB
    attempts := t.attempts, preferred := t.preferred, bootCount := t.bootCount, entries := t.entries, nextSeq := t.nextSeq
    oldest := t.oldest, devBad := t.devBad, certEcdsa := t.certEcdsa, certMldsa := t.certMldsa, debugPending := t.debugPending
    meas := t.meas, measSlot := t.measSlot, kekDbg := t.kekDbg, ldevid := t.ldevid, escrowKey := t.escrowKey, fbLost := t.fbLost }
  let d := s.datum
  let plat : List Nat := if d.platDone then d.platBytes else []
  let s := if s.pwr.thermtrip ∧ kind = 0 then drive (.thermtrip false) s else s
  let s := if s.evt.eventN then drive (.eventN false) s else s
  let s := enginesLost s
  { s with
    regs := []
    time := 0
    evt := { mpLink := s.evt.mpLink }
    datum := { active := d.active, prev := d.prev, confirmed := d.confirmed, platBytes := plat, platDone := d.platDone
               tornCommit := d.tornCommit, tornRevert := d.tornRevert }
    pwr := { ctrlId := s.pwr.ctrlId, epSris := s.pwr.epSris, kind := kind, railsBad := s.pwr.railsBad.filter fun r => r == 7
             chipletLink := s.pwr.chipletLink, thermtrip := s.pwr.thermtrip && kind != 0 }
    arch := {}
    trust := trust
    ks := { archive := s.ks.archive }
    bay := { s.bay with side := { raw := s.bay.side.raw, window := s.bay.side.raw } } }

/-- The cold start from the rise of `SYS_PWROK`, up to the BOOT entry whose writing releases the engines (R369, R480). Straps are sampled at
the rise of `SYS_PWROK` only. -/
def coldStart (f : StartFacts) (s : State) : State :=
  let s := if s.pwr.kind = 0 then { s with pwr := { s.pwr with ctrlId := f.ctrlId % 2, epSris := f.epSris } } else s
  let bad : List Nat := (if f.norA then [] else [0]) ++ (if f.norB then [] else [1])
  let s := { s with
    time := 0
    pwr := { s.pwr with held := false, startAt := 0 }
    trust := { s.trust with
      bootCount := s.trust.bootCount + 1, platSrc := 0, confirmed := false, dbgFails := 0
      debugScope := s.trust.debugPending, debugPending := 0, kekDbg := s.trust.debugPending, kekOwner := ownerKeyInForce s.trust
      devBad := bad, norOut := bad } }
  let s := wr Reg.TRUST_FB_DEV_STAT (b2n f.norA + 2 * b2n f.norB) s
  if !f.lockstepOk then
    fatalEvent 0x060F [5] false { s with arch := { s.arch with securityHeld := true }, pwr := { s.pwr with needCold := true } }
  else if !f.trimOk then
    let s := fatalEvent 0x0207 [0] false { s with pwr := { s.pwr with needCold := true } }
    let (cause, s) := drawFree s
    fbRequest 1 (bootBody cause s.trust s.arch) .nothing s
  else
    let alias0 := aliasInputs { s.trust with kekDbg := (s.trust.entries.head?).elim 4 fun _ => s.trust.kekDbg }
    let (nonce, s) := drbgDraw s
    let s := { s with trust := { s.trust with dbgNonce := nonce % 2 ^ 256 } }
    match bootImages s with
    | (false, s) => s
    | (true, s) =>
      let s := keysUnwrap f.keysBad (pairBegin (rwlLoad (datumBoot f.activeOk f.prevOk (datumMend s))))
      let s := { s with evt := { s.evt with tokens := [], tokenDflt := cfg s Reg.TELEM_EVT_BURST } }
      let s := memoryTrain f (selfTests f s)
      let s := if f.torn ∨ s.trust.fbLost then
          bump Reg.TRUST_FB_GAPS (fbRequest 7 [s.trust.nextSeq, b2n s.trust.fbLost] .nothing { s with trust := { s.trust with fbLost := false } })
        else s
      let s := f.powered.foldl (fun s p => adoptBay p.1 p.2 s) s
      bootEntry (certsRenew alias0 s)

/-- COLD_RESET (R406): the cold start of a controller held in cold reset; one that is not held has no rise of `SYS_PWROK` to start from. -/
def execColdReset (f : StartFacts) (s : State) : Res := .next (if s.pwr.held then coldStart f s else s)

/-! ### Warm reset (R408) -/

/-- The event code kept in `LAST_CAUSE`: the watchdog's, the power failure of R83, the fencing, the FATAL; 0 for `RST_CMD`. -/
def warmCause (kind : Nat) (s : State) : Nat :=
  if kind = 4 then 0x0403 else if kind = 5 then 0x2202 else if kind = 6 then 0x5104 else if kind = 7 then s.pwr.fatalCode else 0

/-- A warm reset: the endpoint is removed, the engines' state is lost, the security firmware runs R369 from step 5 and asks for a BOOT entry
with `BOOT_COUNT` unchanged. A FATAL that needs a cold reset outlasts it, and releases nothing (R408). -/
def warmReset (kind : Nat) (s : State) : State :=
  let s := surpriseRemoval 0 s
  let cause := warmCause kind s
  let kept := s
  let s := enginesLost s
  let s := { s with
    regs := tfilter s.regs fun k _ => !warmLoses (keyReg k)
    evt := { kept.evt with
      queues := tmap kept.evt.queues fun _ q => { seq := q.seq }
      tokens := [], tokenDflt := cfg s Reg.TELEM_EVT_BURST, suppressed := [], eventNSpacing := false, msixBusy := [], msixPend := []
      rings := [], pmbusOk := false, hbMissed := false }
    datum := { kept.datum with staged := none, phase := .idle, target := none, loading := false }
    pwr := { ctrlId := kept.pwr.ctrlId, epSris := kept.pwr.epSris, kind := kind, held := false, startAt := kept.time, upNs := kept.pwr.upNs
             refBad := kept.pwr.refBad, famDown := kept.pwr.famDown, xtalBackup := kept.pwr.xtalBackup
             disciplined := kept.pwr.disciplined, adjFrac := kept.pwr.adjFrac, slewLeft := kept.pwr.slewLeft
             coreMv := kept.pwr.coreMv, avsFails := kept.pwr.avsFails, avsOk := kept.pwr.avsOk
             thermWarn := kept.pwr.thermWarn, railsBad := kept.pwr.railsBad, chipletLink := kept.pwr.chipletLink
             fatal := kept.pwr.needCold, fatalCode := if kept.pwr.needCold then kept.pwr.fatalCode else 0, needCold := kept.pwr.needCold
             admitStop := kept.pwr.needCold, thermtrip := kept.pwr.thermtrip, enginesStopped := kept.pwr.enginesStopped }
    ciph := { lanesOut := kept.ciph.lanesOut, drbgReqs := kept.ciph.drbgReqs, drbgStopped := kept.ciph.drbgStopped
              retests := kept.ciph.retests, entropyFail := kept.ciph.entropyFail }
    ks := { kept.ks with roll := [], rollWait := [] }
    pair := { state := b2n kept.pairedNow, sense := kept.pair.sense, senseHigh := kept.pair.senseHigh, absentSince := kept.pair.absentSince, epoch := kept.pair.epoch }
    store := { s.store with seqFailed := kept.store.seqFailed }
    trust := { kept.trust with confirmed := false } }
  let s := bump Reg.RST_WARM_RESETS (if kind = 3 then s else wr Reg.RST_LAST_CAUSE cause s)
  let s := updateEventN false (datumMend s)
  match slotRefusal s.trust s.trust.booted [2, 3, 4, 5, 6] with
  | none => bootEntry { s with trust := measureSlot s.trust.booted [2, 3, 4, 5, 6] s.trust }
  | some (c, why) =>
    match bootSlot (1 - s.trust.booted) (raise 0x060A [c, why] s) with
    | (none, s) =>
      let cause := if why = 1 then 3 else 1
      bootEntry (raise 0x0602 [cause] { s with trust := { s.trust with fallback := cause } })
    | (some _, s) =>
      fatalEvent 0x060B [] false { s with trust := { s.trust with recovery := true }, pwr := { s.pwr with needCold := true } }

end Sys2Proof.Machine
end

