-- ==== Sys2Proof/Machine/Datum.lean ====
section
/-!
DEFINITION. Machine/Datum.lean: the datum commands (spec/15): COMMIT, CONFIRM, REVERT, DISCARD, SEAL, LOAD,
the end of a LOAD, the quiesce and the closure.
-/
namespace Sys2Proof.Machine

/-- The refusals of COMMIT before its cross-checks (R389), as `RESULT`. -/
def commitRefusal (s : State) : Option Nat :=
  if s.vault.accepted then some 11
  else match s.datum.staged with
    | none => some 2
    | some st =>
      if !s.datum.confirmed then some 1
      else if s.trust.actState ≠ 0 then some 7
      else if pairJoinOrArb s then some 8
      else if s.datum.active.sealed ∧ !(st.fromPlat && st.changes.isEmpty) then some 6
      else none

/-- Start a commit or revert: the DATUM entry of its kind is asked for, and the closure waits for it. -/
def startClosure (kind : ClosureKind) (entryKind : Nat) (t : Datum) (s : State) : State :=
  fbRequest 4 (datumEntryBody entryKind s.datum.active t) .datumCommit
    { s with datum := { s.datum with phase := .waitEntry, kind := kind, target := some t, attempts := 0,
                                     result := 0, resultPage := 0 } }

/-- DATUM_CMD = COMMIT (R389): ignored while a command runs; refused with nothing changed, or after a failed
cross-check with code 0x02 on the failing page; else steps 2 and 3. -/
def commitOp (s : State) : State :=
  if datumCmdRuns s then s
  else match commitRefusal s, s.datum.staged with
    | some r, _ => datumRefuse 1 r 0 s
    | none, none => s
    | none, some st =>
      match crossCheckPage s st.result with
      | some page => datumRefuse 1 3 page (errLast page 0x02 0 3 s)
      | none => startClosure .commit 0 st.result s

/-- COMMIT (R389). -/
def execCommit (p : Path) (s : State) : Res := .next (cmdWrite p Reg.DATUM_DATUM_CMD commitOp s)

/-- DATUM_CMD = CONFIRM (R392): only while the active datum awaits confirmation. -/
def confirmOp (s : State) : State :=
  if datumCmdRuns s then s
  else if s.vault.accepted then datumRefuse 2 11 0 s
  else if s.datum.confirmed then datumRefuse 2 1 0 s
  else fbRequest 4 (datumEntryBody 1 s.datum.active s.datum.active) .datumConfirm s

/-- CONFIRM (R392). -/
def execConfirm (p : Path) (s : State) : Res := .next (cmdWrite p Reg.DATUM_DATUM_CMD confirmOp s)

/-- CONFIRM_EXPIRE (R392, R393): the window ends without confirmation and the previous datum returns. -/
def execConfirmExpire (s : State) : Res :=
  match s.datum.prev with
  | none => .next s
  | some p =>
    if s.datum.confirmed ∨ datumCmdRuns s then .next s
    else .next (startClosure .revertExpired 2 p s)

/-- DATUM_CMD = REVERT (R393, R394). -/
def revertOp (s : State) : State :=
  if datumCmdRuns s then s
  else if s.vault.accepted then datumRefuse 3 11 0 s
  else match s.datum.prev with
    | none => datumRefuse 3 9 0 s
    | some p =>
      if s.datum.active.sealed ∧ !p.sealed then datumRefuse 3 6 0 s
      else startClosure .revertManual 3 p s

/-- REVERT (R393). -/
def execRevert (p : Path) (s : State) : Res := .next (cmdWrite p Reg.DATUM_DATUM_CMD revertOp s)

/-- DATUM_CMD = DISCARD (R388): the staged datum is dropped. -/
def discardOp (s : State) : State :=
  if datumCmdRuns s then s
  else if s.datum.staged.isNone then datumRefuse 4 2 0 s
  else datumDone { s with datum := { s.datum with staged := none } }

/-- DISCARD (R388). -/
def execDiscard (p : Path) (s : State) : Res := .next (cmdWrite p Reg.DATUM_DATUM_CMD discardOp s)

/-- DATUM_CMD = SEAL (R394): only a confirmed active datum, not sealed already, is sealed; a kind-4 entry. -/
def sealOp (s : State) : State :=
  if datumCmdRuns s then s
  else if s.vault.accepted then datumRefuse 5 11 0 s
  else if !s.datum.confirmed ∨ s.datum.active.sealed then datumRefuse 5 1 0 s
  else fbRequest 4 (datumEntryBody 4 s.datum.active s.datum.active) .datumSeal s

/-- SEAL (R394). -/
def execSeal (p : Path) (s : State) : Res := .next (cmdWrite p Reg.DATUM_DATUM_CMD sealOp s)

/-- DATUM_CMD = LOAD (R388): verification of the delivered plat begins, with `CMD_STAT.BUSY` = 1. -/
def loadOp (s : State) : State :=
  if datumCmdRuns s then s
  else if s.vault.accepted then datumRefuse 6 11 0 s
  else { s with datum := { s.datum with loading := true } }

/-- LOAD (R388). -/
def execLoad (p : Path) (s : State) : Res := .next (cmdWrite p Reg.DATUM_DATUM_CMD loadOp s)

/-- LOAD_DONE (R383, R388): the plat is staged as a new base in place of any staged datum, or refused whole. -/
def execLoadDone (s : State) : Res :=
  if !s.datum.loading then .next s
  else
    let s := { s with datum := { s.datum with loading := false } }
    let v := if s.datum.platDone then platVerify s s.datum.platBytes else .error (4, 0)
    match v with
    | .error (r, page) => .next (datumRefuse 6 r page s)
    | .ok d => .next (datumDone { s with datum := { s.datum with
        staged := some { base := d, changes := [], fromPlat := true } } })

/-- QUIESCE_RETRY (R390): parse and switch were not still 1.5 µs after the stop; the sixteenth attempt refuses the
commit with `RESULT` 10, restores the role record and writes a DATUM entry of kind 2. An activation whose Eopin image cannot be switched fails (R379). -/
def execQuiesceRetry (s : State) : Res :=
  match s.datum.phase, s.datum.target with
  | .armed, some t =>
    if netStill s then .next s
    else
    let n := s.datum.attempts + 1
    let s := bump Reg.DATUM_QUIESCE_RETRIES s
    if n < 16 then .next { s with datum := { s.datum with attempts := n } }
    else
      let s := { s with datum := { s.datum with phase := .idle, target := none, attempts := 0 } }
      let s := fbRequest 4 (datumEntryBody 2 t s.datum.active) .nothing s
      let s := raise 0x0103 (leBytes 8 t.id ++ [2]) s
      let s := if s.datum.kind == .bankSwitch && s.trust.actState == 2 then actReturn 4 s else s
      .next (feed (datumRefuse (if s.datum.kind == .revertManual then 3 else 1) 10 0 s))
  | _, _ => .next s

/-- What becomes of the datums at a closure (R389, R393, R396); a staged datum that is a copy of the active one follows a bank switch. -/
def swapDatum (kind : ClosureKind) (t : Datum) (confirmS : Nat) (s : State) : State :=
  let old := s.datum.active
  match kind with
  | .commit =>
    bump Reg.DATUM_COMMITS { s with datum := { s.datum with
      active := t, prev := some old, staged := none, confirmed := false, confirmAt := s.time + confirmS * 1000000000 } }
  | .bankSwitch =>
    let follow (st : Staged) : Staged := if st.fromPlat then st else { st with base := t }
    { s with datum := { s.datum with active := t, staged := s.datum.staged.map follow } }
  | .revertManual | .revertExpired =>
    bump Reg.DATUM_REVERTS { s with datum := { s.datum with
      active := t, prev := none, staged := none, confirmed := true } }

/-- The event a closure raises (R395). -/
def closureEvent (kind : ClosureKind) (old t : Datum) (hold : Nat) (s : State) : State :=
  match kind with
  | .commit => raise 0x0101 (leBytes 8 t.id ++ leBytes 2 hold) s
  | .bankSwitch => s
  | .revertManual => raise 0x0104 (leBytes 8 old.id) s
  | .revertExpired => raise 0x0103 (leBytes 8 old.id ++ [0]) s

/-- CLOSURE (R390): parse and switch are still, the strobe swaps every block's shadow registers at one instant,
and parsing resumes after `hold` nanoseconds; an activation that ends with the Eopin image is then over (R379); without an armed commit nothing happens. -/
def execClosure (hold : Nat) (s : State) : Res :=
  match s.datum.phase, s.datum.target with
  | .armed, some t =>
    if !netStill s then .next s
    else
    let old := s.datum.active
    let kind := s.datum.kind
    let s := swapDatum kind t (rd s Reg.DATUM_CONFIRM_S) s
    let s := { s with datum := { s.datum with
      phase := .idle, target := none, attempts := 0, closureTime := s.time, holdLast := hold,
      holdMax := max hold s.datum.holdMax, result := 0, resultPage := 0 } }
    let s := closureEvent kind old t hold (onClosure old t s)
    .next (if kind == .bankSwitch && s.trust.actState == 2 && s.trust.actTodo.isEmpty then actFinish s else s)
  | _, _ => .next s

end Sys2Proof.Machine
end

