-- ==== Sys2Proof/Machine/EopOps.lean ====
section
/-!
DEFINITION. Machine/EopOps.lean: what the Eopin instructions share (spec/09, R233 to R235): running one instruction on an engine,
the overrun rule and the cycle limit.
-/
namespace Sys2Proof.Machine

/-- Put an engine back. -/
def setEngine (e : Nat) (x : Engine) (s : State) : State := { s with net := { s.net with engines := tset s.net.engines e x } }

/-- Trap with a reason: class 3, the reason in `CONTEXT`, and EMIT. -/
def trapOp (e : Nat) (x : Engine) (reason : Nat) (s : State) : State :=
  emitOp e { x with out := { x.out with cls := 3, context := reason } } (bump (Reg.PARSE_TRAPS (engPage e)) s)

/-- An access beyond the window (R234): to instruction 0x0010 with `W7` = 1 and `FLAGS.OVERRUN`; the second traps with reason 2. -/
def overrunOp (e : Nat) (x : Engine) (s : State) : State :=
  let s := bump (Reg.PARSE_OVERRUNS (engPage e)) s
  if x.overran then trapOp e x 2 s
  else setEngine e { (x.setReg 7 1).setOut .flags 32 with pc := 16, overran := true } s

/-- The frame has used `CYCLE_LIMIT` cycles (R234): class 3, reason 3, `FLAGS.LIMIT`, and event 0x1002. -/
def limitOp (e : Nat) (x : Engine) (s : State) : State :=
  let k := engPage e
  let s := bump (Reg.PARSE_LIMIT_HITS k) s
  let s := raise (0x1002 + k * 256) (x.frame.port :: leBytes 3 x.out.rule) s
  emitOp e { x.setOut .flags 64 with out := { (x.setOut .flags 64).out with cls := 3, context := 3 } } s

/-- The cycle limit of an engine. -/
def cycleLimit (s : State) (e : Nat) : Nat := cfg s (Reg.PARSE_CYCLE_LIMIT (engPage e))

/-- Run one instruction on an engine that holds a frame and is not waiting for a lookup: its cycles are counted, and at the limit the frame is
emitted instead. -/
def runEop (e cost : Nat) (f : Engine → State → State) (s : State) : State :=
  match tget s.net.engines e with
  | none => s
  | some x =>
    if x.waitAct then s
    else if cycleLimit s e ≤ x.cycles then limitOp e x s
    else f { x with cycles := x.cycles + cost } s

/-- An instruction whose only effect is on the engine. -/
def runReg (e cost : Nat) (f : Engine → Engine) (s : State) : State := runEop e cost (fun x s => setEngine e (f x).adv s) s

/-- A branch: two cycles when taken (Table 3). -/
def branch (e : Nat) (x : Engine) (taken : Bool) (tgt : Nat) (s : State) : State :=
  if taken then setEngine e { x with pc := tgt, cycles := x.cycles + 1 } s else setEngine e x.adv s

/-- Key bytes 0 to 3 (Table 6); the station field of a frame with no station is a value the spec leaves open. -/
def keyMeta (x : Engine) (profile stn : Nat) : List Nat :=
  leBytes 4 (profile % 16 + x.frame.port % 64 * 16 + stn % 1024 * 1024 + b2n x.frame.station.isNone * 2 ^ 20 + x.frame.prio % 8 * 2 ^ 21)

/-- Apply a lookup result that an ACT waited for (R238): the result stands 8 cycles after the LOOK. -/
def actOp (e : Nat) (x : Engine) (r : LookRes) (s : State) : State :=
  let at_ := match x.look with
    | some q => q.at_ + 8
    | none => 0
  let (o, set) := applyLook s r x.hash (x.out, x.prioSet)
  let slice := match r.flow with
    | some f => if f.pin then some f.slice else none
    | none => none
  setEngine e { x with
    out := o, prioSet := set, slice := slice, waitAct := false, res := none, look := none, cycles := max x.cycles at_, pc := x.pc + 1 } s

end Sys2Proof.Machine
end

