-- ==== Sys2Proof/Machine/Eopin.lean ====
section
/-!
DEFINITION. Machine/Eopin.lean: the Eopin instructions (spec/09, R233 to R238), one command each: engine `e` executes the instruction with the
operands given. An engine without a frame executes nothing.
-/
namespace Sys2Proof.Machine

/-- NOP. -/
def execEopNop (e : Nat) (s : State) : Res := .next (runReg e 1 (fun x => x) s)

/-- EXT: D = (field >> SH) AND IMM. -/
def execEopExt (e : Nat) (d : Fin 8) (f : EopField) (sh : Fin 32) (imm : BitVec 32) (s : State) : Res :=
  .next <| runEop e 1 (fun x s => match x.field f with
    | none => overrunOp e x s
    | some v => setEngine e (x.setReg d (v / 2 ^ sh.val &&& imm.toNat)).adv s) s

/-- MOVI: D = IMM. -/
def execEopMovi (e : Nat) (d : Fin 8) (imm : BitVec 32) (s : State) : Res := .next (runReg e 1 (fun x => x.setReg d imm.toNat) s)

/-- ADD: D = S + IMM. -/
def execEopAdd (e : Nat) (d r : Fin 8) (imm : BitVec 32) (s : State) : Res :=
  .next (runReg e 1 (fun x => x.setReg d (x.reg r + imm.toNat)) s)

/-- ADDW: D = D + S. -/
def execEopAddw (e : Nat) (d r : Fin 8) (s : State) : Res := .next (runReg e 1 (fun x => x.setReg d (x.reg d + x.reg r)) s)

/-- SUB: D = S − IMM. -/
def execEopSub (e : Nat) (d r : Fin 8) (imm : BitVec 32) (s : State) : Res :=
  .next (runReg e 1 (fun x => x.setReg d (x.reg r + (2 ^ 32 - imm.toNat))) s)

/-- AND: D = S AND IMM. -/
def execEopAnd (e : Nat) (d r : Fin 8) (imm : BitVec 32) (s : State) : Res :=
  .next (runReg e 1 (fun x => x.setReg d (x.reg r &&& imm.toNat)) s)

/-- OR: D = S OR IMM. -/
def execEopOr (e : Nat) (d r : Fin 8) (imm : BitVec 32) (s : State) : Res :=
  .next (runReg e 1 (fun x => x.setReg d (x.reg r ||| imm.toNat)) s)

/-- SHL: D = S << SH. -/
def execEopShl (e : Nat) (d r : Fin 8) (sh : Fin 32) (s : State) : Res :=
  .next (runReg e 1 (fun x => x.setReg d (x.reg r * 2 ^ sh.val)) s)

/-- SHR: D = S >> SH. -/
def execEopShr (e : Nat) (d r : Fin 8) (sh : Fin 32) (s : State) : Res :=
  .next (runReg e 1 (fun x => x.setReg d (x.reg r / 2 ^ sh.val)) s)

/-- MB: if (field AND MASK) = VAL, go to TGT; the field has 1 byte, or 2 with `wide`. -/
def execEopMb (e : Nat) (wide abs : Bool) (off : Fin 256) (tgt : Fin 8192) (mask val : BitVec 16) (s : State) : Res :=
  .next <| runEop e 1 (fun x s => match x.field { w := if wide then .b2 else .b1, abs := abs, off := off } with
    | none => overrunOp e x s
    | some v => branch e x ((v &&& mask.toNat) == val.toNat) tgt.val s) s

/-- MBN: if (field AND MASK) ≠ VAL, go to TGT. -/
def execEopMbn (e : Nat) (wide abs : Bool) (off : Fin 256) (tgt : Fin 8192) (mask val : BitVec 16) (s : State) : Res :=
  .next <| runEop e 1 (fun x s => match x.field { w := if wide then .b2 else .b1, abs := abs, off := off } with
    | none => overrunOp e x s
    | some v => branch e x ((v &&& mask.toNat) != val.toNat) tgt.val s) s

/-- BEQ: if S = IMM, go to TGT. -/
def execEopBeq (e : Nat) (r : Fin 8) (tgt : Fin 8192) (imm : BitVec 32) (s : State) : Res :=
  .next (runEop e 1 (fun x s => branch e x (x.reg r == imm.toNat) tgt.val s) s)

/-- BNE: if S ≠ IMM, go to TGT. -/
def execEopBne (e : Nat) (r : Fin 8) (tgt : Fin 8192) (imm : BitVec 32) (s : State) : Res :=
  .next (runEop e 1 (fun x s => branch e x (x.reg r != imm.toNat) tgt.val s) s)

/-- BLT: if S < IMM unsigned, go to TGT. -/
def execEopBlt (e : Nat) (r : Fin 8) (tgt : Fin 8192) (imm : BitVec 32) (s : State) : Res :=
  .next (runEop e 1 (fun x s => branch e x (decide (x.reg r < imm.toNat)) tgt.val s) s)

/-- JMP: go to TGT. -/
def execEopJmp (e : Nat) (tgt : Fin 8192) (s : State) : Res := .next (runEop e 1 (fun x s => branch e x true tgt.val s) s)

/-- JTAB: if S < IMM, go to TGT + S. -/
def execEopJtab (e : Nat) (r : Fin 8) (tgt : Fin 8192) (imm : BitVec 32) (s : State) : Res :=
  .next (runEop e 1 (fun x s => branch e x (decide (x.reg r < imm.toNat)) (tgt.val + x.reg r) s) s)

/-- Move the cursor; past 255 it is an overrun (R234). -/
def advance (e : Nat) (x : Engine) (n : Nat) (s : State) : State :=
  if 255 < x.cur + n then overrunOp e x s else setEngine e { x with cur := x.cur + n, pc := x.pc + 1 } s

/-- ADV: C = C + IMM. -/
def execEopAdv (e : Nat) (imm : BitVec 32) (s : State) : Res := .next (runEop e 1 (fun x s => advance e x imm.toNat s) s)

/-- ADVW: C = C + (S << SH). -/
def execEopAdvw (e : Nat) (r : Fin 8) (sh : Fin 32) (s : State) : Res :=
  .next (runEop e 1 (fun x s => advance e x (x.reg r * 2 ^ sh.val % 2 ^ 32) s) s)

/-- MARK: `OFFS[i]` = C + OFF, or OFF with ABS. -/
def execEopMark (e : Nat) (i : Fin 8) (abs : Bool) (off : Fin 256) (s : State) : Res :=
  .next <| runReg e 1 (fun x =>
    { x with out := { x.out with offs := x.out.offs.set i.val ((if abs then off.val else x.cur + off.val) % 256) } }) s

/-- Key bytes the spec does not state: a KEY or KEYW whose immediate lies outside its range (R233) leaves every
key byte a free value. -/
def keyUnstated (e : Nat) (x : Engine) (s : State) : State :=
  let (v, s) := drawFree s
  setEngine e { x with key := leBytes 60 v, pc := x.pc + 1 } s

/-- KEY: copy `len` bytes (1 to 16) from OFF into key bytes from `dst` (4 to 59). -/
def execEopKey (e : Nat) (abs : Bool) (off : Fin 256) (len dst : Nat) (s : State) : Res :=
  .next <| runEop e (ceilDiv len 8) (fun x s => match x.read abs off.val len with
    | none => overrunOp e x s
    | some bs =>
      if len = 0 ∨ 16 < len ∨ dst < 4 ∨ 60 < dst + len then keyUnstated e x s
      else setEngine e { x with key := x.key.take dst ++ bs ++ x.key.drop (dst + len), pc := x.pc + 1 } s) s

/-- KEYW: four key bytes from `dst` = S, most significant first. -/
def execEopKeyw (e : Nat) (r : Fin 8) (dst : Nat) (s : State) : Res :=
  .next <| runEop e 1 (fun x s =>
    if 56 < dst then keyUnstated e x s
    else setEngine e { x with key := x.key.take dst ++ (leBytes 4 (x.reg r)).reverse ++ x.key.drop (dst + 4), pc := x.pc + 1 } s) s

/-- Fold bytes into the flow hash (R242). -/
def Engine.fold (x : Engine) (k : Nat) (bs : List Nat) : Engine :=
  let (h, n) := foldBytes k (x.hash, x.folded) bs
  { x with hash := h, folded := n }

/-- The flow hash after a HASH whose length lies outside its range (R233): a free value. -/
def hashUnstated (e len : Nat) (x : Engine) (s : State) : State :=
  let (v, s) := drawFree s
  setEngine e { x with hash := v % 2 ^ 32, folded := x.folded + len, pc := x.pc + 1 } s

/-- HASH: fold `len` bytes (1 to 40) from OFF into the flow hash. -/
def execEopHash (e : Nat) (abs : Bool) (off : Fin 256) (len : Nat) (s : State) : Res :=
  .next <| runEop e (ceilDiv len 8) (fun x s => match x.read abs off.val len with
    | none => overrunOp e x s
    | some bs =>
      if len = 0 ∨ 40 < len then hashUnstated e len x s
      else setEngine e (x.fold (hashKey s) bs).adv s) s

/-- HASHW: fold S, 4 bytes, into the flow hash. -/
def execEopHashw (e : Nat) (r : Fin 8) (s : State) : Res :=
  .next <| runEop e 1 (fun x s => setEngine e (x.fold (hashKey s) (leBytes 4 (x.reg r)).reverse).adv s) s

/-- LOOK: fill key bytes 0 to 3 and submit the key (R238). -/
def execEopLook (e : Nat) (profile : Fin 16) (flow : Bool) (s : State) : Res :=
  .next <| runEop e 1 (fun x s =>
    let (stn, s) := match x.frame.station with
      | some t => (t, s)
      | none => drawFree s
    let key := keyMeta x profile.val stn ++ x.key.drop 4
    setEngine e { x with key := key, look := some { key := key, flow := flow, at_ := x.cycles }, res := none, pc := x.pc + 1 } s) s

/-- ACT: apply the lookup's result, or wait for it (R238). -/
def execEopAct (e : Nat) (s : State) : Res :=
  .next <| runEop e 1 (fun x s => match x.res with
    | some r => actOp e x r s
    | none => setEngine e { x with waitAct := true } s) s

/-- CLASSIFIER_LOOKUP_DONE: the result of an engine's lookup stands, and an ACT that waited applies it (R238). -/
def execClassifierLookupDone (e : Nat) (s : State) : Res :=
  .next <| match tget s.net.engines e with
    | none => s
    | some x => match x.look, x.res with
      | some q, none =>
        let (r, s) := lookupRun q s
        if x.waitAct then actOp e x r s else setEngine e { x with res := some r } s
      | _, _ => s

/-- SETF: output field D = IMM. -/
def execEopSetf (e : Nat) (f : OutField) (imm : BitVec 32) (s : State) : Res := .next (runReg e 1 (fun x => x.setOut f imm.toNat) s)

/-- SETW: output field D = S. -/
def execEopSetw (e : Nat) (f : OutField) (r : Fin 8) (s : State) : Res := .next (runReg e 1 (fun x => x.setOut f (x.reg r)) s)

/-- EMIT. -/
def execEopEmit (e : Nat) (s : State) : Res := .next (runEop e 1 (fun x s => emitOp e x s) s)

/-- TRAP: class 3, `CONTEXT` = IMM[7:0], then EMIT. -/
def execEopTrap (e : Nat) (reason : Fin 256) (s : State) : Res := .next (runEop e 1 (fun x s => trapOp e x reason.val s) s)

/-- EOPIN_CYCLE_LIMIT: a frame that has used `CYCLE_LIMIT` cycles, those spent waiting for a lookup included, is emitted (R234). -/
def execEopinCycleLimit (e : Nat) (s : State) : Res :=
  .next <| match tget s.net.engines e with
    | none => s
    | some x => if cycleLimit s e ≤ x.cycles ∨ x.waitAct then limitOp e { x with cycles := max x.cycles (cycleLimit s e) } s else s

end Sys2Proof.Machine
end

