-- ==== Sys2Proof/Machine/Ep.lean ====
section
/-!
DEFINITION. Machine/Ep.lean: the endpoint's link, functions and host reads (spec/11, R283 to R292).
-/
namespace Sys2Proof.Machine

/-- EP_PERST_N_ASSERT: handled as a surprise removal (R286, R292). -/
def execEpPerstNAssert (s : State) : Res := .next <|
  let s := surpriseRemoval 1 s
  { s with ep := { s.ep with perst := true } }

/-- EP_LINK_DOWN: a link-down the controller did not initiate (R292). -/
def execEpLinkDown (s : State) : Res := .next <| surpriseRemoval 0 s

/-- EP_PERST_N_RELEASE: the endpoint block leaves reset and starts link training (R286, t0 of Table 5). -/
def execEpPerstNRelease (s : State) : Res := .next <| { s with ep := { s.ep with perst := false } }

/-- EP_LINK_UP: the link trains; configuration requests are answered normally once the engines are released (R286). `width` is log2 + 1 of the
lanes, `rate` the code of Table 17. The IDE stream is not Secure until it is keyed (R285). -/
def execEpLinkUp (width rate : Nat) (flit : Bool) (s : State) : Res := .next <|
  if !bitAt (cfg s Reg.EP_EP_CTL) 0 ∨ s.ep.perst ∨ s.ep.link ∨ s.pwr.famDown.contains 5 then s
  else
    let s := { s with ep := { s.ep with
      link := true, width := width % 16, rate := rate % 8, flit := flit, ideSecure := false, ready := s.pwr.released } }
    ideEval false (raise 0x2801 [1, width, rate] s)

/-- IDE_KM: host software keys the Link IDE stream; in flit mode and a secured SPDM session it becomes Secure, and service returns (R285). -/
def execIdeKm (secured : Bool) (s : State) : Res := .next <|
  if !s.ep.link ∨ !s.ep.flit ∨ !secured then s
  else ideEval false { s with ep := { s.ep with ideSecure := true } }

/-- NVME_DOORBELL: a submission-queue tail makes entries available, each fetched by a host read; a completion-queue head frees its slots (R282,
R283, R289). -/
def execNvmeDoorbell (fn queue : Nat) (completion : Bool) (v : Nat) (s : State) : Res := .next <|
  let f := fnAt s fn
  match f.cntlid with
  | none => s
  | some c =>
    let q := c * 256 + queue
    if !fnHears s fn ∨ 128 < queue ∨ 4096 ≤ v then s
    else
      let x := tgetD s.ep.nvq q {}
      let s := { s with ep := { s.ep with idle := false, ltrIdle := false } }
      if completion then { s with ep := { s.ep with nvq := tput {} s.ep.nvq q { x with cqHead := v } } }
      else nvFetch fn q { s with ep := { s.ep with nvq := tput {} s.ep.nvq q { x with tail := v } } }

/-- HOST_READ_COMPLETION: the completion of a host read arrives, its tag is free, and its data is used (R288): a block of write data is placed, a
traverse's table checked; entries, lists, fragment tables and descriptors are taken up by their own commands' rows. One for a quarantined tag
is late. -/
def execHostReadCompletion (tag : Nat) (data : HostData) (s : State) : Res := .next <|
  match tget s.ep.tags tag with
  | none => s
  | some t =>
    let s' := epDrain s.ep.queue.length { s with ep := { s.ep with tags := tdel s.ep.tags tag } }
    if t.quarantined then bump Reg.EP_LATE_CPL s'
    else match t.what, data with
      | .writeData c _, .block lba d => blockArrives c lba d s'
      | .travTable c, .table ds => match tfind s'.trav.open_ fun _ v => v.ctx == c && v.remote.isNone with
        | none => s'
        | some (t, _) => travTable t ds s'
      | _, _ => s'

/-- ASYNCHRONOUS_EVENT_REQUEST: held until a notice completes it; at once where one waits (R345). -/
def execAsynchronousEventRequest (q cid : Nat) (s : State) : Res := .next <|
  match queueCntlid s q with
  | none => s
  | some c => match tget s.nvm.assocs c with
    | none => s
    | some a =>
      let b := { a with aer := a.aer ++ [cid], notices := a.notices.drop 1 }
      let s := { s with nvm := { s.nvm with assocs := tset s.nvm.assocs c b } }
      match a.notices with
      | [] => s
      | (k, x) :: _ => postNotice c k x s

/-- FLR of a function (R291). -/
def execFlr (fn : Nat) (s : State) : Res := .next <| if fnPresent s fn ∧ !(fnAt s fn).flr then flrBegin fn s else s

/-- FLR_COMPLETE (R291). -/
def execFlrComplete (fn : Nat) (s : State) : Res := .next <|
  if (fnAt s fn).flr then raise 0x2802 [fn] (bump Reg.EP_FLRS (flrEnd fn s)) else s

/-- BUS_MASTER_CLEAR (R290): `mse` is Memory Space Enable as the same write leaves it. -/
def execBusMasterClear (fn : Nat) (mse : Bool) (s : State) : Res := .next <|
  if !fnPresent s fn ∨ (fnAt s fn).flr then s
  else
    let s := setFn fn { fnAt s fn with mse := mse } s
    if !(fnAt s fn).bme then s
    else
      let s := setFn fn { fnAt s fn with bme := false } s
      let (n, s) := fnStop fn s
      if n = 0 then s else raise 0x2803 (fn :: leBytes 4 n) s

/-- BUS_MASTER_SET (R290). -/
def execBusMasterSet (fn : Nat) (mse : Bool) (s : State) : Res := .next <|
  if !fnPresent s fn ∨ (fnAt s fn).flr then s
  else fnGo fn (setFn fn { fnAt s fn with present := true, bme := true, mse := mse } s)

/-- VF_ENABLE: VFs come to be, or are reset with their associations ended (R284). -/
def execVfEnable (enable : Bool) (num : Nat) (s : State) : Res := .next <|
  if !s.ep.link then s
  else
    let n := min num 255
    let last := if enable then n else 0
    let gone := (List.range 256).filter fun fn => fnPresent s fn && decide (last < fn)
    let s := gone.foldl (fun s fn => flrWhole fn s) s
    { s with ep := { s.ep with vfEnable := enable, numVfs := n } }

/-- IDE_CHECK_FAIL: the stream is Insecure and every function is handled as under R290 until it is keyed again (R285). -/
def execIdeCheckFail (s : State) : Res := .next <|
  if !s.ep.link ∨ !s.ep.ideSecure then s
  else
    let s := raise 0x2805 [] (bump Reg.EP_IDE_FAILS { s with ep := { s.ep with ideSecure := false } })
    ideEval true s

/-- CC_EN of a function's NVMe controller (R283): its association begins with the host NQN of `FN_HOSTIDX`, in a subsystem that allows it, with an
admin queue and 128 I/O queue pairs; or ends. -/
def execCcEn (fn : Nat) (en : Bool) (subsys : Nat) (s : State) : Res := .next <|
  let f := fnAt s fn
  if !fnHears s fn then s
  else if !en then
    match f.cntlid with
    | none => s
    | some c => endAssociation c (setFn fn { f with heldCpl := [] } s)
  else if f.cntlid.isSome ∨ !bitAt (cfg s Reg.NVMF_NVMF_CTL) 2 ∨ 8192 ≤ s.nvm.assocs.length then s
  else
    let h := cfgAt s Reg.EP_FN_HOSTIDX fn % 4096
    match thas s.datum.active.hosts h, tget s.datum.active.subsystems subsys, freeCntlid s with
    | true, some r, some c =>
      if !hostAllowed r (some h) then s
      else
        let qs := (List.range 129).foldl (fun t i => tset t (c * 256 + i) { size := 4096 }) s.nvm.queues
        setFn fn { f with present := true, cntlid := some c } { s with ep := { s.ep with nvq := tfilter s.ep.nvq fun q _ => q / 256 != c }, nvm := { s.nvm with
          queues := qs
          assocs := tset s.nvm.assocs c { host := h, subsys := subsys, station := 0xFFFF, kato := 0, kaAt := s.time, fn := some fn } } }
    | _, _, _ => s

/-- EP_COMPLETION_TIMEOUT: a host read times out: its tag is quarantined and the read issued once more, or failed (R288, R289). `refused` tells that
the host answered Unsupported Request, Completer Abort or poison instead, which fails it at once. -/
def execEpCompletionTimeout (tag : Nat) (refused : Bool) (s : State) : Res := .next <|
  match tget s.ep.tags tag with
  | none => s
  | some t =>
    if t.quarantined then s
    else if refused then
      readFailed t (epDrain s.ep.queue.length { s with ep := { s.ep with tags := tdel s.ep.tags tag } })
    else
      let s := raise 0x2806 (t.fn :: leBytes 2 tag) (bump Reg.EP_CPL_TIMEOUTS s)
      let s := { s with ep := { s.ep with tags := tset s.ep.tags tag { t with quarantined := true } } }
      if t.first ∧ s.fnBme t.fn then
        epSend false t.fn t.what s
      else readFailed t s

/-- Lift a tag's quarantine. -/
def tagFree (tag : Nat) (s : State) : State :=
  epDrain s.ep.queue.length { s with ep := { s.ep with tags := tdel s.ep.tags tag } }

/-- EP_TAG_QUARANTINE_END (R288). -/
def execEpTagQuarantineEnd (tag : Nat) (s : State) : Res := .next <|
  match tget s.ep.tags tag with
  | none => s
  | some t => if t.quarantined then tagFree tag s else s

/-- EP_LATE_COMPLETION: discarded with its data, counted, and the quarantine lifted (R288). -/
def execEpLateCompletion (tag : Nat) (s : State) : Res := .next <|
  match tget s.ep.tags tag with
  | none => s
  | some t => if t.quarantined then bump Reg.EP_LATE_CPL (tagFree tag s) else s

/-- EP_IDLE: after `IDLE_US` without a TLP the link narrows or enters L1, and LTR shows idle (R287). -/
def execEpIdle (s : State) : Res := .next <|
  if !s.ep.link ∨ s.ep.tags.any (fun t => !t.2.quarantined) then s
  else
    let busy : Bool := s.ep.rings.any fun r => decide (0 < r.2.waiting) && !r.2.completion
    let c := cfg s Reg.EP_EP_CTL
    let s := if bitAt c 1 && !s.ep.idle && decide (3 < s.ep.width) then bump Reg.EP_L0P_ENTRIES s else s
    { s with ep := { s.ep with idle := bitAt c 1 || (bitAt c 2 && !busy), ltrIdle := !busy } }

end Sys2Proof.Machine
end

