-- ==== Sys2Proof/Machine/Net.lean ====
section
/-!
DEFINITION. Machine/Net.lean: frames at the ports, PFC, links, fragments and transmit timestamps (spec/09).
-/
namespace Sys2Proof.Machine

/-! ### Reception (R228, R229, R232, R244) -/

/-- FRAME_RECEIVED: the MAC checks length and FCS, timestamps the frame and counts it; the buffer charges it, and an engine takes it. -/
def execFrameReceived (port len : Nat) (bytes : List Nat) (fcsOk : Bool) (esp : EspIn) (s : State) : Res := .next <|
  let g := port / 8
  let i := port % 8
  if !portUp s port then s
  else if len < 64 ∨ cfg s (Reg.NET_MTU g) < len then bumpAt (Reg.NET_RX_LEN_ERR g) i 1 s
  else if !fcsOk then bumpAt (Reg.NET_RX_FCS_ERR g) i 1 s
  else
    let s := bump64 (Reg.NET_RX_BYTES_LO g) i len (bumpAt (Reg.NET_RX_FRAMES g) i 1 s)
    let t := stationOf s port bytes
    let s := match t with
      | some t => bump64 Reg.SWITCH_STN_RX_BYTES_LO t len s
      | none => s
    let f : NetFrame := { seq := s.net.nextSeq, bytes := bytes.take 256, len := len, port := port, time := s.time
                          prio := ingressPrio s port bytes, station := t, esp := esp }
    match chargePp f s with
    | (none, s) => s
    | (some f, s) =>
      feed { s with net := { s.net with waiting := s.net.waiting ++ [f], nextSeq := s.net.nextSeq + 1 } }

/-- PFC_XOFF_REFRESH: while XOFF holds for a port-priority it is sent again (R244). -/
def execPfcXoffRefresh (port prio : Nat) (s : State) : Res := .next <|
  let s := xonCheck s
  if s.net.xoff.contains (8 * port + prio) then sendPfc (8 * port + prio) true s else s

/-! ### Transmission (R230 to R232, R246, R247) -/

/-- FRAME_TRANSMITTED: frames that internal sources hand over enter their egress queues, and the port sends the frame that ETS chooses among those
that PFC and their station's limiter let go. -/
def execFrameTransmitted (port : Nat) (fs : List EgFrame) (s : State) : Res := .next <|
  let held := s.net.heldEg
  let s := held.foldl (fun s f => egEnter false f s) { s with net := { s.net with heldEg := [] } }
  let s := fs.foldl (fun s f => egEnter true f s) s
  if !portUp s port then s
  else match etsPick port (limNote port s) with
    | (none, s) => s
    | (some q, s) => egSend port q s

/-! ### Received PFC (R246) -/

/-- PFC_FRAME_RECEIVED: each enabled priority of the frame pauses for its quanta, or resumes with quanta 0. -/
def execPfcFrameReceived (port enable : Nat) (quanta : List Nat) (s : State) : Res := .next <|
  if !portUp s port then s
  else
    let s := bumpAt (Reg.NET_PFC_RX (port / 8)) (port % 8) 1 s
    (List.range 8).foldl (fun s q =>
      let pp := 8 * port + q
      if !bitAt enable q then s
      else if quanta.getD q 0 = 0 then { s with net := { s.net with paused := tdel s.net.paused pp } }
      else if thas s.net.paused pp then s
      else { s with net := { s.net with paused := tset s.net.paused pp s.time } }) s

/-- PFC_PAUSE_EXPIRE: the quanta run out and the priority resumes. -/
def execPfcPauseExpire (port prio : Nat) (s : State) : Res :=
  .next { s with net := { s.net with paused := tdel s.net.paused (8 * port + prio) } }

/-- PFC_WATCHDOG_EXPIRE: a priority paused for `PFC_WD_MS` without a break raises event 0x0803; the pause is still honoured. -/
def execPfcWatchdogExpire (port prio : Nat) (s : State) : Res := .next <|
  if thas s.net.paused (8 * port + prio) ∧ cfg s (Reg.NET_PFC_WD_MS (port / 8)) ≠ 0 then
    raise (0x0803 + port / 8 * 256) [port % 8, prio] s
  else s

/-! ### Links (R228) -/

/-- NET_LINK_CHANGE: a sub-port's link goes up or down. -/
def execNetLinkChange (port : Nat) (up : Bool) (s : State) : Res := .next <|
  if !up then linkDown port s
  else if portUp s port ∨ !portExists s port ∨ !bitAt (cfg s (Reg.NET_NET_CTL (port / 8))) 4 ∨ !s.pwr.released then s
  else raise (0x0801 + port / 8 * 256) [port % 8, 1] { s with net := { s.net with ups := port :: s.net.ups } }

/-! ### Fragments (R243) -/

/-- Whether two pieces overlap. -/
def Piece.overlaps (a b : Piece) : Bool := decide (a.off < b.off + b.len) && decide (b.off < a.off + a.len)

/-- Whether the pieces of a datagram are all of it. -/
def Datagram.complete (d : Datagram) : Bool :=
  match d.pieces.find? fun p => !p.more with
  | none => false
  | some l => d.pieces.foldl (fun a p => a + p.len) 0 == l.off + l.len

/-- The bytes of a complete datagram: the first fragment's headers, then the data in order. -/
def Datagram.bytes (d : Datagram) : List Nat :=
  let ps : Tab Piece := d.pieces.foldl (fun t p => tset t p.off p) []
  ((ps.head?.map fun p => p.2.hdr).getD []) ++ ps.flatMap fun p => p.2.data

/-- Its length. -/
def Datagram.len (d : Datagram) : Nat :=
  d.pieces.foldl (fun a p => a + p.len) 0 + ((d.pieces.find? fun p => p.off == 0).map fun p => p.hdr.length).getD 0

/-- Whether a complete datagram is RoCEv2 or ESP: protocol 50, or UDP to port 4791. -/
def Datagram.forTransport (d : Datagram) : Bool :=
  d.proto == 50 || (d.proto == 17 && (match d.pieces.find? fun p => p.off == 0 with
    | some p => p.data.getD 2 0 * 256 + p.data.getD 3 0 == 4791
    | none => false))

/-- Discard a datagram in reassembly. -/
def fragDiscard (k n : Nat) (s : State) : State :=
  bumpAt Reg.SWITCH_FRAG_DROPPED 0 n { s with net := { s.net with frags := tdel s.net.frags k } }

/-- FRAGMENT_RECEIVED: a fragment joins the datagram of its key (source, destination, protocol, identification); an overlap, a datagram above 9,216 B
or a 65th datagram is discarded; a complete RoCEv2 or ESP datagram is parsed again from source 6. -/
def execFragmentReceived (k proto port : Nat) (station : Option Nat) (prio : Nat) (p : Piece) (s : State) : Res := .next <|
  let d := tgetD s.net.frags k { proto := proto, port := port, station := station, prio := prio }
  if !thas s.net.frags k ∧ 64 ≤ s.net.frags.length then bump Reg.SWITCH_FRAG_DROPPED s
  else if (d.pieces.any fun q => q.overlaps p) ∨ 9216 < p.off + p.len then fragDiscard k (d.pieces.length + 1) s
  else
    let d := { d with pieces := d.pieces ++ [p] }
    if d.complete then
      let s := { s with net := { s.net with frags := tdel s.net.frags k } }
      if d.forTransport then
        feed (inject { bytes := d.bytes.take 256, len := d.len, port := d.port, prio := d.prio, time := s.time
                       station := d.station, src := some 6, esp := p.esp } (bump Reg.SWITCH_FRAG_REINJECTED s))
      else s
    else
      let s := { s with net := { s.net with frags := tset s.net.frags k d } }
      if s.net.frags.length = 64 ∧ !s.net.fragFull then
        raise 0x1301 (leBytes 4 (rd s Reg.SWITCH_FRAG_DROPPED)) { s with net := { s.net with fragFull := true } }
      else s

/-- FRAG_TIMEOUT: a datagram not complete within `FRAG_TIMEOUT_MS` is discarded. -/
def execFragTimeout (k : Nat) (s : State) : Res := .next <|
  match tget s.net.frags k with
  | none => s
  | some d => fragDiscard k d.pieces.length s

/-! ### Transmit timestamps (R232) -/

/-- The oldest entry of a group's FIFO. -/
def txtsHead (s : State) (g : Nat) : Option TxStamp := (tgetD s.net.txts g []).head?

/-- TXTS_HI_READ: the high half of the oldest timestamp is answered and its entry released. -/
def execTxtsHiRead (p : Path) (g : Nat) (s : State) : Res := .next <|
  let v := match txtsHead s g with
    | some t => t.time / 2 ^ 32 % 2 ^ 32
    | none => 0
  if !pageAlive s (0x08 + g) then drive (.readData p.code 0) s
  else drive (.readData p.code v) (txtsRelease g s)

end Sys2Proof.Machine
end

