-- ==== Sys2Proof/Machine/Pair.lean ====
section
/-!
DEFINITION. Machine/Pair.lean: the Zeber link and the pair as commands (spec/13, rows 247 to 285).
-/
namespace Sys2Proof.Machine

/-- ZEBER_RETRAIN: a lane in use loses lock or exceeds its error rate (R337). -/
def execZeberRetrain (lane : Nat) (s : State) : Res := .next <|
  if bitAt s.zeb.lanes lane then zebRetrain 2 s else s

/-- ZEBER_TRAINED: training or retraining ends with the lanes of `locked` in lock; the link is up on the widest whole group, or down
below `MIN_WIDTH` (R337, events 0x5001 and 0x5002). -/
def execZeberTrained (locked : Nat) (s : State) : Res := .next <|
  let ctl := cfg s Reg.ZEBER_ZB_CTL
  if !bitAt ctl 0 ∨ (s.zeb.lanes ≠ 0 ∧ !s.zeb.retraining) ∨ s.pwr.held ∨ !s.pwr.released then s
  else
    let g := laneGroup locked
    let n := laneCount g
    let was := laneCount s.zeb.lanes
    if n < 8 * 2 ^ bits ctl 1 2 then zebLost s
    else
      let s := { s with zeb := { s.zeb with lanes := g, retraining := false } }
      let s := if was = 0 then raise 0x5001 [1, n] s else s
      let s := if was ≠ 0 ∧ n < was then raise 0x5002 [n] s else s
      let s := if was = 0 ∧ s.pairedNow then
          zsend (.hello s.pwr.ctrlId 1 s.store.setId s.pair.epoch s.datum.active.id true) s
        else s
      zebDrain s

/-- ZEBER_FLIT_RECEIVED: a flit whose CRC fails, or that is out of order, is NAKed; one in order is acknowledged (R338). `ctrl` with
`ack` marks a control flit, `bytes` counts message bytes, `typeOk` tells that its messages are of Table 4 and on their VC (R340). -/
def execZeberFlitReceived (crcOk ctrl typeOk : Bool) (fseq ack bytes : Nat) (s : State) : Res := .next <|
  if !zebUp s then s
  else
    let next := (s.zeb.fseqRx + 1) % 4096
    if !crcOk then drive (.zeberCtl 1 next) (bump Reg.ZEBER_CRC_ERRS s)
    else if ctrl then
      let left := s.zeb.unacked.filter fun u => !decide ((ack + 4096 - u.1) % 4096 < 2048)
      { s with zeb := { s.zeb with unacked := left } }
    else if fseq ≠ next then drive (.zeberCtl 1 next) s
    else
      let s := bump64 Reg.ZEBER_RX_BYTES_LO 0 bytes (drive (.zeberCtl 0 fseq) { s with zeb := { s.zeb with fseqRx := fseq } })
      if typeOk then s else zebRetrain 1 s

/-- ZEBER_NAK: the sender replays from the flit named (R338). -/
def execZeberNak (fseq : Nat) (s : State) : Res := .next <| if zebUp s then zebReplay fseq s else s

/-- ZEBER_REPLAY_TIMEOUT: a flit unacknowledged for 2 µs is replayed (R338). -/
def execZeberReplayTimeout (s : State) : Res := .next <|
  match s.zeb.unacked with
  | [] => s
  | u :: _ => if zebUp s then zebReplay u.1 s else s

/-- HELLO: the checks of R358; a join starts in SEEKING and PARTNER_LOST. -/
def execHello (ctrl version setId epoch datum : Nat) (paired : Bool) (s : State) : Res := .next <|
  if s.zeb.lanes = 0 then s
  else
    let s := { s with pair := { s.pair with partnerVersion := some version, partnerSet := setId, partnerDatum := datum } }
    match joinCheck s ctrl version setId paired with
    | some 1 => raise 0x5108 [1] (ctrlConflict ctrl s)
    | some n => raise 0x5108 [n] s
    | none =>
      if s.pair.state = 5 ∨ s.pair.state = 1 then joinTry { s with pair := { s.pair with helloWait := some epoch } } else s

/-- RANGE: ranging arrives, with the partner's time, pair state and dirty limits; the round trip is recorded (R342, R73). -/
def execRange (time pstate verdict rtt dirtyLimit effMib holdup : Nat) (s : State) : Res := .next <|
  if s.zeb.lanes = 0 ∨ !s.pairedNow then s
  else
    let changed := s.vault.partnerLimit ≠ some dirtyLimit ∨ s.vault.partnerEffMib ≠ effMib ∨ s.vault.partnerHoldup ≠ holdup
    let s := wr Reg.PAIR_RANGE_RTT_NS (rtt % 2 ^ 32) { s with
      pair := { s.pair with ranging := true, lastRange := s.time, partnerTime := time, partnerState := pstate }
      vault := { s.vault with partnerLimit := some dirtyLimit, partnerEffMib := effMib, partnerHoldup := holdup } }
    let s := if changed then limitEval s else s
    let _ := verdict
    joinTry <| if s.pair.sense ≠ 2 ∧ !s.pair.senseFault ∧ (inPair s || s.pair.state == 2) then
      raise 0x5107 [s.pair.sense] { s with pair := { s.pair with senseFault := true } }
    else s

/-- RANGE_SEND_TIMER: a RANGE on VC 0 every `RANGING_US`, until the controller has sent STOPPING (R342). -/
def execRangeSendTimer (s : State) : Res := .next <|
  if s.pairedNow ∧ zebUp s ∧ !s.pair.stopSent ∧ !s.vault.accepted then
    zsend (.range s.time s.pair.state s.pair.sense s.pair.lastRange (cfg s Reg.CACHE_DIRTY_LIMIT_MIB) (cfg s Reg.CACHE_HOLDUP_US)) s
  else s

/-- STOPPING: the partner is lost at once, with no preemption (R343). -/
def execStopping (cause : Nat) (s : State) : Res := .next <|
  let _ := cause
  let s := wr Reg.PAIR_LAST_DETECT_US ((s.time - s.pair.lastRange) / 1000) s
  let s := { s with pair := { s.pair with ranging := false, detectUs := (s.time - s.pair.lastRange) / 1000 } }
  if inPair s then partnerLost 0 s
  else joinAbort s

/-- MIRROR_PUT: a mirrored block, or staging, is placed in `MSEQ` order (R75, R348). -/
def execMirrorPut (mseq slot lba adm stage : Nat) (blk : Blk) (s : State) : Res := .next <|
  vc1 mseq (placeMirror mseq slot lba adm stage blk) s

/-- MIRROR_ACK: every message up to `mseq` is placed at the partner; what waited for it goes on (R47, R222, R346, R348). -/
def execMirrorAck (mseq : Nat) (s : State) : Res := .next <|
  if mseq ≤ s.pair.mseqAcked ∨ s.pair.mseqTx < mseq then s
  else
    let lag := s.pair.sentAt.foldl (fun a p => if p.1 ≤ mseq then max a (s.time - p.2) else a) 0
    let s := wr Reg.ZEBER_MIRROR_LAG_NS_MAX (max (rd s Reg.ZEBER_MIRROR_LAG_NS_MAX) lag % 2 ^ 32) s
    let open_ (m : Nat) : Bool := decide (mseq < m)
    let lease (n : Ns) : Ns := if n.lease < n.leaseAsked ∧ n.leaseMseq ≤ mseq then { n with lease := n.leaseAsked } else n
    let s := { s with
      pair := { s.pair with mseqAcked := mseq, sentAt := tfilter s.pair.sentAt fun m _ => open_ m }
      trav := { s.trav with open_ := tmap s.trav.open_ fun _ v => { v with mseqs := v.mseqs.filter open_ } }
      nvm := { s.nvm with nss := tmap s.nvm.nss fun _ n => lease n } }
    let s := winAcked (fun m => !open_ m) s
    let s := s.nvm.ctxs.foldl (fun s p =>
      let clean := match p.2.cleanMseq with
        | none => none
        | some m => if open_ m then some m else none
      if p.2.mseqs.all open_ ∧ clean = p.2.cleanMseq then s
      else tryComplete p.1 (modCtx p.1 (fun c => { c with mseqs := c.mseqs.filter open_, cleanMseq := clean }) s)) s
    admitAll s

/-- JOURNAL_PUT: a journal record of the partner is placed; a CLOSURE links the staging it names (R348). -/
def execJournalPut (mseq : Nat) (r : JRec) (s : State) : Res := .next <| vc1 mseq (placeJournal r) s

/-- CLEAN_NOTE: the mirror copies it names are freed (R348). -/
def execCleanNote (mseq : Nat) (n : CleanNote) (s : State) : Res := .next <| vc1 mseq (applyClean n) s

/-- LEASE: a namespace's raised limit is placed (R346). -/
def execLease (mseq slot limit : Nat) (s : State) : Res := .next <|
  vc1 mseq (modNs slot fun n => { n with lease := max n.lease limit }) s

/-- STATE_PUT: a mirrored change is applied (R348). -/
def execStatePut (mseq : Nat) (p : StatePut) (s : State) : Res := .next <| vc1 mseq (applyPut p) s

/-- FWD_CMD: a command forwarded to this owner is parsed and stamped, behind those already held (R41). -/
def execFwdCmd (c : FwdCmd) (s : State) : Res := .next <|
  if !inPair s then s
  else match c.cap.op with
  | .winAccess kind w off len d cmp =>
    if kind = 5 then tallyRaise w off d s
    else (accTry {
              ctx := 0, ring := false, psn := 0, kind := kind, win := w, key := none, offset := off, len := len, data := d, compare := cmp
              fwd := some c.tag } s).2
  | _ =>
    let first := s.pair.fwdHeld.isEmpty
    let s := { s with pair := { s.pair with fwdHeld := s.pair.fwdHeld ++ [c] } }
    if first then admitForwarded 1 s else s

/-- FWD_DATA: `toOwner`, the blocks of a forwarded write or traverse; otherwise a forwarded read's data for the host (R41, R348). -/
def execFwdData (toOwner : Bool) (tag : Nat) (blocks : List (Nat × Nat)) (s : State) : Res := .next <|
  if toOwner then
    match s.nvm.ctxs.find? fun p => p.2.fwdTag == some tag with
    | none => s
    | some (id, c) =>
      match tfind s.trav.open_ fun _ v => v.ctx == id && v.remote.isNone with
      | some (t, _) => blocks.foldl (fun s b => stageBlock t b.1 b.2 s) s
      | none => blocks.foldl (fun s b => placeBlock id b.1 (mkBlk c.slot b.1 b.2 (c.stake.getD 0) 0 false) s) s
  else
    let keep (a : WinAcc) : WinAcc := { a with data := (blocks.headD (0, 0)).2 }
    match tget s.pair.fwds tag with
    | none => { s with win := { s.win with fwds := tmod s.win.fwds tag keep } }
    | some id => match ctxAt s id with
      | none => s
      | some c => if c.orphan then s else blocks.foldl (fun s b => sendData c.q c.cid b.1 b.2 s) s

/-- The owner has answered a window access forwarded to it (R208): placed or executed, discarded, or poisoned. -/
def accReturn (a : WinAcc) (sct sc : Nat) (s : State) : State :=
  if sct = 0 ∧ sc = 0 then
    let s := if a.kind = 0 ∧ !a.ring then recBytes a.ctx a.msn a.len s
      else if 2 ≤ a.kind ∧ !a.ring then atomKeep a.ctx { psn := a.psn, wide := a.kind == 4, orig := a.data } s
      else s
    let s := accDone a a.data s
    if a.ring then s else qpExecuted a.ctx a.msn s
  else if sct = 7 then accDiscard a s
  else if a.ring then accPoison a s
  else qpExecuted a.ctx a.msn (accPoison a s)

/-- FWD_CPL: the outcome of a forwarded command; the copy of a write that has taken effect stands under the number it drew (R41, R348). -/
def execFwdCpl (tag adm sct sc : Nat) (dnr : Option Bool) (dw0 dw1 : Nat) (s : State) : Res := .next <|
  match tget s.pair.fwds tag with
  | none => (match tget s.win.fwds tag with
    | none => s
    | some a => accReturn a sct sc { s with win := { s.win with fwds := tdel s.win.fwds tag } })
  | some id =>
    let ok := sct == 0 && sc == 0
    let mine (m : MirEnt) : Bool := m.adm == 0 && m.stage == 0 && m.mseq == id
    let take (m : MirEnt) : MirEnt := if mine m then { m with adm := adm, mseq := 0 } else m
    let s := { s with
      pair := { s.pair with fwds := tdel s.pair.fwds tag }
      store := { s.store with mirror := if ok then s.store.mirror.map take else s.store.mirror.filter fun m => !mine m } }
    admitAll (finish id sct sc dnr dw0 dw1 s)

/-- STRIP_REQ: a request of the partner for a one-sided member is issued on this controller's port, or fails where the port is gone (R126). -/
def execStripReq (r : StripReq) (s : State) : Res := .next <|
  if !inPair s then s
  else if !memberPresent s r.bay ∨ (memberAt s r.bay).oneSided then zsend (.stripRsp r.tag false []) s
  else match r.sys with
    | some w => issueSys r.bay (.remote r.tag) w s
    | none => issue r.bay (r.write != []) r.lba r.n (.remote r.tag) r.write false s

/-- STRIP_RSP: a one-sided strip request of this controller is answered (R126). -/
def execStripRsp (tag : Nat) (ok : Bool) (blocks : List Raw) (s : State) : Res := .next <|
  match tget s.store.cmds tag with
  | none => s
  | some c =>
    if !c.remote then s
    else if c.write then driveWriteDone tag ok s
    else driveReadDone tag (if ok then blocks else List.replicate c.n { ok := false }) s

/-- XSTAMP_REQ: one number is drawn in each named namespace owned here, in one step, and they are returned; the traverse stands in their
order as a writer (R164, R165). A request that cannot be stamped now is not answered. -/
def execXstampReq (tag travId host : Nat) (slots : List Nat) (exts : List XExt) (s : State) : Res := .next <|
  if !inPair s ∨ !slots.all (fun sl => ownsSlot s sl && mayStamp s sl) then s
  else match stampAll slots [] s with
    | none => s
    | some (nums, s) =>
      let subsys := (slots.head?.bind fun sl => nsAt s sl).elim 0 fun n => n.subsys
      let descs := exts.map fun x => ({ kind := 1, nsid := (nsAt s x.slot).elim 0 fun n => n.nsid, lba := x.slba, nlb := x.nlb,
                                        zeroes := x.zeroes, stake := x.stamp } : TravDesc)
      let t := s.trav.nextId
      let s := setTrav t { ctx := 0, host := host, subsys := subsys, travId := travId, ndesc := exts.length, len := exts.length, state := .stamping
                           descs := descs, slots := slots, nums := nums, remote := some tag
                           stage := (exts.head?).elim 0 fun x => x.stage } { s with trav := { s.trav with nextId := t + 1 } }
      zsend (.xstampRsp tag nums true) s

/-- XSTAMP_RSP: the partner's numbers; the coordinator draws its own and resumes admission (R164). -/
def execXstampRsp (tag : Nat) (nums : List (Nat × Nat)) (ok : Bool) (s : State) : Res := .next <| admitAll (xstampAnswer tag nums ok s)

/-- RECORD: controller 0 numbers a record of the partner, applies it and sends it back; controller 1 applies a numbered record and
acknowledges it, which completes one of its own (R349). -/
def execRecord (num tag : Nat) (r : PairRec) (s : State) : Res := .next <|
  if !inPair s then s
  else if isCtrl1 s then
    let own : Bool := (tget s.pair.records tag).elim false fun p => tag != 0 && p.cont == .settings
    let s := { s with pair := { s.pair with recNum := num } }
    let s := if own then s else applyRecord r s
    let s := zsend (.recordAck num) s
    if tag = 0 then s
    else match tget s.pair.records tag with
      | none => s
      | some p => runCont p.cont { s with pair := { s.pair with records := tdel s.pair.records tag } }
  else
    let n := s.pair.recNum + 1
    let s := applyRecord r { s with pair := { s.pair with recNum := n, records := tset s.pair.records n { what := r, cont := .nothing } } }
    zsend (.record n tag r) s

/-- RECORD_ACK: a record both controllers hold completes (R349). -/
def execRecordAck (num : Nat) (s : State) : Res := .next <|
  match tget s.pair.records num with
  | none => s
  | some p =>
    if isCtrl1 s then s
    else admitAll (runCont p.cont { s with pair := { s.pair with records := tdel s.pair.records num } })

/-- MOVE_STATE: the new owner takes the namespace: its mirror copies become its own dirty data, the held capsules are admitted, and the
ANA states flip (R347). -/
def execMoveState (m : MoveState) (s : State) : Res := .next <|
  if s.pair.moveSlot ≠ some m.slot ∨ s.pair.moveTo ≠ s.pwr.ctrlId then s
  else
    let s := modNs m.slot (fun n => { n with adm := max n.adm m.adm, resv := m.resv, owner := s.pwr.ctrlId }) s
    let s := { s with
      win := { s.win with windows := m.windows.foldl (fun t w => tput {} t w.1 w.2) s.win.windows }
      store := { s.store with
        loss := (s.store.loss.filter fun r => r.slot != m.slot) ++ m.loss
        cad := m.entries.foldl (fun t e => tput {} t e.1 e.2) s.store.cad } }
    let s := takeMirror (fun e => e.slot == m.slot) s
    admitAll (pinReaders (moveEnd m.slot s.pwr.ctrlId s))

/-- FRAME: a class-4 switch frame from the partner is parsed again (R339); `esp` is what it holds as ESP. -/
def execFrame (len port prio : Nat) (bytes : List Nat) (esp : EspIn) (s : State) : Res := .next <|
  if s.zeb.lanes = 0 then s else frameFromPartner len port prio bytes esp s

/-- SESSION: data of the pair session is processed by the security cores; `done` tells that the mutually authenticated exchange has
succeeded, `failed` that it has failed, which refuses a join that waited for it with check 5 (R358, R378). -/
def execSession (done failed : Bool) (reply : List Nat) (s : State) : Res := .next <|
  if s.zeb.lanes = 0 then s
  else
    let s := if reply = [] then s else zsend (.session reply) s
    if done then joinTry { s with zeb := { s.zeb with session := true } }
    else if failed then
      let s' := { s with zeb := { s.zeb with session := false }, pair := { s.pair with helloWait := none } }
      if s.pair.helloWait.isSome then raise 0x5108 [5] s' else s'
    else s

/-- RESYNC_PUT: the joiner places one piece of the survivor's state (R359). -/
def execResyncPut (x : ResyncItem) (s : State) : Res := .next <|
  if s.pair.state ≠ 2 ∨ s.pair.survivor then s
  else
    let mib := s.pair.copiedMib
    let s := { s with pair := { s.pair with resyncing := true } }
    match x with
    | .block slot lba adm stage blk => placeMirror 0 slot lba adm stage blk { s with pair := { s.pair with copiedMib := mib + 1 } }
    | .journal r => placeJournal r s
    | .put p => applyPut p s

/-- RESYNC_DONE: the survivor, its dirty data within the joiner's limit, sends its copy and ends it; the joiner receives the end. Both
enter PAIRED (event 0x5105), the joint rate check runs with `rate`, keys are registered, and failback is due (R92, R352, R359, R360). -/
def execResyncDone (rate : Nat) (s : State) : Res := .next <|
  let blocked : Bool := s.pair.survivor && decide (256 * s.vault.joinerEff.getD 0 < dirtyBlocks s)
  if s.pair.state ≠ 2 ∨ blocked then s
  else
    let blocks := if s.pair.survivor then dirtyBlocks s else s.pair.copiedMib
    let surv := s.pair.survivor
    let s := if surv then zsend .resyncDone (resyncCopy s) else s
    let s := setPairState 3 { s with
      pair := { s.pair with survivor := false, resyncing := false, stopSent := false
                            failback := if surv ∧ bitAt (cfg s Reg.PAIR_PAIR_CTL) 1 then
                                (s.nvm.nss.filter fun p => p.2.prefOwner != s.pwr.ctrlId && p.2.state == 2).map fun p => p.1
                              else [] }
      vault := { s.vault with joinerEff := none } }
    let s := raise 0x5105 (leBytes 4 (blocks / 256)) s
    let s :=
      if vaultShort s then s
      else
        let s := { s with vault := { s.vault with rate := rate, rateRun := true } }
        if rate < 240000 then raise 0x2207 (leBytes 4 rate) s else s
    nextMove (registerAll (limitEval s))

/-- PAIR_SENSE_TIMEOUT: 2 ms without an edge; the level decides present or absent (R341); a sense fault while ranging arrives (R343). -/
def execPairSenseTimeout (high : Bool) (s : State) : Res := .next <|
  let v := if high then 1 else 0
  let at_ := if high then 0 else if s.pair.sense = 0 ∧ s.pair.absentSince ≠ 0 then s.pair.absentSince else s.time
  let fault := s.pair.ranging && !s.pair.senseFault && (inPair s || s.pair.state == 2)
  let s := { s with pair := { s.pair with sense := v, senseHigh := high, absentSince := at_, senseFault := s.pair.senseFault || fault } }
  if fault then raise 0x5107 [v] s else s

/-- PAIR_SENSE_EDGE: the verdict is serving (R341). -/
def execPairSenseEdge (s : State) : Res := .next <|
  { s with pair := { s.pair with sense := 2, absentSince := 0, senseFault := false } }

/-- RANGING_TIMEOUT: no RANGE for `RANGING_TIMEOUT_US`; the verdict of Table 5, or the end of a join (R343, R356, R359). -/
def execRangingTimeout (s : State) : Res := .next <|
  if !s.pair.ranging then s
  else
    let us := (s.time - s.pair.lastRange) / 1000
    let s := wr Reg.PAIR_LAST_DETECT_US us { s with pair := { s.pair with ranging := false, detectUs := us } }
    if s.pair.state = 3 then judgeTimedOut s else joinAbort s

/-- ARB_DELAY_END: controller 1 preempts (R354). -/
def execArbDelayEnd (s : State) : Res := .next <| if s.pair.arbWaiting then preemptStart .arbitration s else s

/-- PREEMPTION_DONE: `won` members answered with success; a majority, or half of them at controller 0, wins (R353). The winner
preempts again on the members not won, which the command does not tell apart from the others, and takes the reservation. -/
def execPreemptionDone (won : Nat) (s : State) : Res := .next <|
  match s.pair.preempt with
  | none => s
  | some why =>
    let a := (activeMembers s).length
    let win : Bool := decide (a < 2 * won) || (2 * won == a && !isCtrl1 s)
    let s := { s with pair := { s.pair with preempt := none, arbWon := won, arbActive := a, arbWin := win } }
    if !win then fenced won a s
    else
      let again (b : Nat) (s : State) : State :=
        if won = a then s else issueOp b 2 (pairKey s (1 - s.pwr.ctrlId)) (issueOp b 1 (pairKey s s.pwr.ctrlId) s)
      let s := (activeMembers s).foldl (fun s b => issueOp b 3 (pairKey s s.pwr.ctrlId) (again b s)) s
      partnerLost (if why = .arbitration then 2 else 1) s

/-- SEEKING_TIMEOUT: absent for 2 s, or `JOIN_WAIT_S` passed: PARTNER_LOST, after winning a preemption when armed (R344, R356). -/
def execSeekingTimeout (s : State) : Res := .next <|
  if s.pair.state ≠ 1 ∨ s.pair.preempt ≠ none then s
  else if armed s then preemptStart .seeking s
  else partnerLost 1 s

/-- QUIET_INTERVAL_END: the partner's unretired records are closed and flushes of their stripes resume (R147, R351); `raws` holds the
strips of each record. -/
def execQuietIntervalEnd (raws : Tab (Tab Raw)) (s : State) : Res := .next <|
  if !s.pair.quiet then s
  else
    let rs := s.store.mirJournal
    closePartner rs (fun j => tgetD raws j []) { s with pair := { s.pair with quiet := false }, store := { s.store with mirJournal := [] } }

/-- MOVE_CMD: refused with the `RESULT` of Table 15, or a move of `MOVE_SLOT` begins (R347). -/
def moveOp (p : Path) (v : Nat) (s : State) : State :=
  let slot := sel s p Reg.PAIR_MOVE_SLOT % 16384
  let result (r : Nat) : State := { s with pair := { s.pair with moveResult := r } }
  if bits v 0 2 ≠ 1 then result 4
  else if !s.slotActive slot then result 1
  else if s.pair.state ≠ 3 then result 2
  else if s.pair.moveSlot.isSome ∨ s.pair.records.any (fun r => match r.2.what with
      | .move .. => true
      | _ => false) then result 3
  else moveStart slot (result 0)

/-- MOVE (R347). -/
def execMove (p : Path) (v : Nat) (s : State) : Res := .next <| cmdWrite p Reg.PAIR_MOVE_CMD (moveOp p v) s

/-- What a namespace waits for before it is handed over (R347 steps 3 and 4). -/
def moveBusy (s : State) (slot : Nat) : Bool :=
  (s.nvm.ctxs.any fun p => p.2.slot == slot && p.2.state != .forwarded) ||
  (s.trav.open_.any fun p => p.2.state != .closed && thas p.2.nums slot) ||
  (s.win.keys.any fun k => k.2.inflight != 0 && (winAt s k.2.win).slot == slot && (winAt s k.2.win).state != 0) ||
  (s.store.frames.any fun f => f.2.slot == slot && (f.2.st == .full || f.2.st == .flushing))

/-- MOVE_DRAINED: nothing of the namespace is in flight and its FULL and FLUSHING frames are flushed: MOVE_STATE is sent, and this
controller's GATHERING data becomes the mirror of the new owner's (R347 steps 3 to 6). -/
def execMoveDrained (s : State) : Res := .next <|
  match s.pair.moveSlot with
  | none => s
  | some slot => match nsAt s slot with
    | none => s
    | some n =>
      if n.owner ≠ s.pwr.ctrlId ∨ s.pair.moveTo = s.pwr.ctrlId ∨ moveBusy s slot ∨ !inPair s then s
      else
        let wins := s.win.windows.filter fun w => w.2.state != 0 && w.2.slot == slot
        let ents := s.store.cad.filter fun e => decide (n.base ≤ e.1) && decide (e.1 < n.base + n.parcels)
          && tgetD s.store.home e.1 {} != { e.2 with gen := (tgetD s.store.home e.1 {}).gen }
        let s := zsend (.moveState { slot := slot, adm := n.adm, resv := n.resv, windows := wins
                                     loss := s.store.loss.filter fun r => r.slot == slot, entries := ents }) s
        let copies := ((dumpData s).filter fun d => d.source == 0 && d.slot == slot).map fun d =>
          ({ slot := slot, lba := d.lba, adm := d.adm, stage := 0, blk := d.blk, mseq := 0 } : MirEnt)
        let s := { s with
          store := { s.store with
            mirror := s.store.mirror ++ copies
            frames := tfilter s.store.frames fun _ f => f.slot != slot
            succs := tfilter s.store.succs fun _ f => f.slot != slot
            ext := tfilter s.store.ext fun k _ => k / 2 ^ 48 != slot
            resident := tfilter s.store.resident fun k _ => k / 2 ^ 48 != slot }
          win := { s.win with pages := tfilter s.win.pages fun k _ => (winAt s (k / 2 ^ 24)).slot != slot || (winAt s (k / 2 ^ 24)).state == 0 } }
        let s := moveEnd slot s.pair.moveTo s
        admitAll (nextMove s)

/-- MOVE_HOLD_EXPIRE: the capsule a queue has held longest for a moving namespace completes with ANA Transition (R347). -/
def execMoveHoldExpire (q : Nat) (s : State) : Res := .next <|
  match tget s.nvm.queues q, queueAssoc s q with
  | some x, some a => match x.held with
    | [] => s
    | c :: cs =>
      let moving := s.nvm.nss.any fun p => p.2.subsys == a.subsys && p.2.nsid == c.nsid && p.2.moving
      if !moving then s
      else answer q c.cid 3 0x03 (some false) 0 0 { s with nvm := { s.nvm with queues := tset s.nvm.queues q { x with held := cs } } }
  | _, _ => s

end Sys2Proof.Machine
end

