-- ==== Sys2Proof/Machine/Views.lean ====
section
/-!
DEFINITION. Machine/Views.lean: the read-only registers of every page that stand for state held elsewhere, page by page and by offset, as
the pages' register maps and field tables give them (spec/02 to spec/17, spec/19). A register not named here reads as stored, or, where it
counts or measures something outside the block, as a value the spec leaves open.
-/
namespace Sys2Proof.Machine

/-- Bits `f 0` to `f (n - 1)` as a mask. -/
def maskOf (n : Nat) (f : Nat → Bool) : Nat := (List.range n).foldl (fun a i => if f i then a + 2 ^ i else a) 0

/-- The power domain of a page (R445, Table 1), as a number; 48 is the power chiplet. -/
def domainOf (page : Nat) : Nat :=
  if page = 0x00 then 2
  else if page ≤ 0x04 ∧ page ≠ 0x01 ∨ page = 0x4C then 0
  else if page = 0x06 ∨ page = 0x1E then 1
  else if page = 0x10 ∨ page = 0x11 then page - 4
  else if page = 0x1D then 15
  else if page = 0x23 ∨ page = 0x24 then 20
  else if page = 0x58 ∨ page = 0x59 then 23
  else if isChipletPage page then 48
  else (pageDomain page).getD 3

/-- Whether a domain is on: none while the controller is held in cold reset, then every one that has not been switched off (R401). -/
def domainOn (s : State) (d : Nat) : Bool := !s.pwr.held && !s.pwr.domOff.contains d

/-- Whether a page is held at a closure: parse and switch, from the stop of step 4 of R389 to the strobe (R390). -/
def quiesced (s : State) (page : Nat) : Bool :=
  s.datum.phase == .armed && (page == 0x10 || page == 0x11 || page == 0x13)

/-- Whether a page raises events (`PAGE_CAP.EVENTS`). -/
def pageRaises (page : Nat) : Bool := (List.range 32).any fun i => (eventSev (page * 256 + i + 1)).isSome

/-- Whether a page takes a block reset (R409, Table 5). -/
def blockResettable (page : Nat) : Bool :=
  (decide (0x08 ≤ page) && decide (page ≤ 0x0F)) || page == 0x15 || page == 0x50 || page == 0x28 ||
    (decide (0x30 ≤ page) && decide (page ≤ 0x47))

/-- `PAGE_ID`, `PAGE_CAP`, `PAGE_STAT` and `STAGED` of a page (R446, Tables 3 to 5). -/
def hdrView (page off : Nat) (s : State) : Option Nat :=
  match blockBase page with
  | none => none
  | some base =>
    match off with
    | 0x000 => some (1 + (page - base) * 256 + (0xB000 + base) * 65536)
    | 0x004 => some (1 + 2 * b2n (pageRaises page) + 4 * b2n (blockResettable page)
        + 8 * b2n (pageDomain page).isSome + blockInstances base * 256 + blockEnd base / 4 * 65536)
    | 0x00C =>
      let on : Bool := if isChipletPage page then s.pwr.chipletLink && !s.pwr.held else domainOn s (domainOf page)
      some (b2n (s.pwr.released && on) + 2 * b2n (quiesced s page) + 4 * b2n on)
    | 0x030 =>
      let n := match s.datum.staged with
        | none => 0
        | some st => tcount st.changes fun k _ => keyPage k == page
      some (b2n ((stagedPageList s).contains page) + min n 0xFFFF * 65536)
    | _ => none

/-- Engines in service of each kind (Table 11). -/
def enginesWord (s : State) : Nat :=
  let a := s.arch
  if !a.tested then 0
  else 64 - a.parseOut.length + (32 - a.storageOut.length) * 2 ^ 8 + (8 - s.store.seqFailed.length) * 2 ^ 14
    + (4 - a.mgmtOut.length) * 2 ^ 18

/-- TOP (Tables 9 to 11). -/
def topView (off : Nat) (s : State) : Option Nat :=
  match off with
  | 0x104 => some (s.pwr.ctrlId + 2 * b2n s.pwr.epSris + 4 * b2n (s.pairedNow && !s.pwr.held) + 8 * b2n s.pwr.serving
      + 16 * b2n s.trust.recovery + 32 * s.trust.debugScope)
  | 0x110 => some (Config.serialFuse % 2 ^ 64)
  | 0x118 => some 0x7716FF7F
  | 0x11C => some 0xFFFF037F
  | 0x120 => some 0x03031FFF
  | 0x124 => some 0x00000001
  | 0x138 => some (enginesWord s)
  | 0x13C => some (if !s.arch.tested then 0 else 4 - s.arch.parseSub.length + (2 - s.arch.storageSub.length) * 8)
  | 0x140 =>
    let here (d : Nat) : Bool := !s.pwr.held && !s.trust.norOut.contains d
    let busy (d : Nat) : Bool := here d && !s.trust.queue.isEmpty && !s.trust.devBad.contains d
    some (b2n (here 0) + 2 * b2n (here 1) + 4 * b2n (busy 0) + 8 * b2n (busy 1))
  | 0x144 => some (s.pwr.upNs / 1000000000)
  | 0x148 => some (s.pwr.ctrlId + 2 * b2n s.pwr.epSris)
  | _ => none

/-- Controller time until `CONFIRM_EXPIRE`, in whole seconds. -/
def confirmLeft (s : State) : Nat := if s.datum.confirmed then 0 else ceilDiv (s.datum.confirmAt - s.time) 1000000000

/-- The register `PEEK_SEL` names on a path. -/
def peekReg (p : Path) (s : State) : RegId :=
  ⟨bits (sel s p Reg.DATUM_PEEK_SEL) 0 8, bits (sel s p Reg.DATUM_PEEK_SEL) 8 14 * 4⟩

/-- The staged or running value of an RWD register; 0 for any other (R387). -/
def peekValue (p : Path) (s : State) : Nat :=
  let r := peekReg p s
  match regRow r with
  | none => 0
  | some row =>
    let i := if row.sel = 0 then 0 else sel s p Reg.DATUM_PEEK_INDEX
    if row.acc = .rwd then stagedAt s r i else 0

/-- DATUM (Tables 5 to 8). -/
def datumView (p : Path) (off : Nat) (s : State) : Option Nat :=
  let d := s.datum
  match off with
  | 0x104 => some ((if d.phase ≠ .idle then 1 else if !d.confirmed then 2 else 0) + 4 * b2n d.staged.isSome
      + 8 * b2n (d.staged.any fun st => st.fromPlat) + 16 * b2n d.active.sealed + 32 * b2n d.prev.isSome + 64 * b2n (d.phase == .waitPair))
  | 0x108 => some d.active.id
  | 0x110 => some (d.prev.elim 0 fun x => x.id)
  | 0x118 => some (d.staged.elim 0 fun st => st.result.id)
  | 0x124 => some (b2n (datumCmdRuns s) + d.result * 2 + d.resultPage * 256)
  | 0x128 => some (confirmLeft s)
  | 0x154 => some (peekValue p s)
  | 0x158 => some d.holdLast
  | 0x15C => some d.holdMax
  | 0x160 => some d.closureTime
  | _ =>
    if 0x12C ≤ off ∧ off ≤ 0x148 then
      let i := (off - 0x12C) / 4
      some (maskOf 32 fun b => (stagedPageList s).contains (32 * i + b))
    else none

/-- PWR (Tables 8 and 9). -/
def pwrView (off i : Nat) (s : State) : Option Nat :=
  match off with
  | 0x104 => some (b2n (!s.pwr.held && s.pwr.railsBad.isEmpty) + 2 * b2n s.pwr.avsOk + 4 * b2n s.pwr.trimming + 8 * b2n s.pwr.thermWarn)
  | 0x108 => some (maskOf 48 (domainOn s))
  | 0x110 => some s.pwr.coreMv
  | 0x120 => if s.pwr.railsBad.contains i then some (rdAt s Reg.PWR_RAIL_MV i) else none
  | 0x124 => if s.pwr.thermWarn then some (rd s Reg.PWR_TEMP_C) else none
  | _ => none

/-- CLK (Tables 10 and 11). -/
def clkView (off i : Nat) (s : State) : Option Nat :=
  match off with
  | 0x100 => some ((if s.pwr.held then 0 else maskOf 11 fun f => !s.pwr.famDown.contains f) + 2 ^ 16 * b2n s.pwr.xtalBackup
      + 2 ^ 17 * b2n s.pwr.disciplined)
  | 0x104 => some (if s.pwr.held then 0 else maskOf 5 fun r => !s.pwr.refBad.contains r)
  | 0x10C => if s.pwr.refBad.contains i then some (rdAt s Reg.CLK_REF_PPM i) else none
  | 0x110 => some s.time
  | 0x120 => some (ofSigned 32 s.pwr.slewLeft)
  | _ => none

/-- RST (Tables 12 and 13). -/
def rstView (off : Nat) (s : State) : Option Nat :=
  match off with
  | 0x104 => some (s.pwr.kind + 8 * b2n s.pwr.released + 16 * b2n s.pwr.assembling + 32 * b2n s.pwr.serving
      + 64 * b2n s.pwr.shuttingDown + 128 * b2n s.pwr.shutdownDone)
  | 0x10C => some s.pwr.cmdResult
  | _ => none

/-- EVT (Table 12); `Q_PENDING_HI` and `Q_FULL_HI` are not latched. -/
def evtView (off i : Nat) (s : State) : Option Nat :=
  let pend (q : Nat) : Bool := !(tgetD s.evt.queues q {}).recs.isEmpty
  let full (q : Nat) : Bool := bitAt (cfgAt s Reg.EVT_Q_CFG q) 0 && qFull s q
  match off with
  | 0x104 => some (b2n s.evt.eventN + 2 * b2n ((List.range 64).any full))
  | 0x108 => some (maskOf 32 pend)
  | 0x10C => some (maskOf 32 fun q => pend (32 + q))
  | 0x110 => some (maskOf 32 full)
  | 0x114 => some (maskOf 32 fun q => full (32 + q))
  | 0x130 => some (tgetD s.evt.queues i {}).head
  | 0x134 => some (tgetD s.evt.queues i {}).tail
  | 0x138 => some (tgetD s.evt.queues i {}).seq
  | _ => none

/-- TRUST (spec/14, Tables 8 to 10). -/
def trustView (off i : Nat) (s : State) : Option Nat :=
  let t := s.trust
  match off with
  | 0x104 => some (if s.pwr.held then 0 else t.lifecycle % 4 + 4 * t.booted + 8 * t.preferred + 16 * b2n t.confirmed + 32 * t.platSrc + 128 * b2n t.recovery)
  | 0x108 => some t.bootCount
  | 0x110 => some (t.nextSeq - 1)
  | 0x118 => some t.oldest
  | 0x128 => some t.queue.length
  | 0x13C => some (t.actState + t.actResult * 4)
  | 0x144 => some (tgetD t.svn i 0)
  | 0x16C => some (t.debugScope + t.debugPending * 4 + t.dbgFails * 16)
  | 0x170 => some (maskOf 4 (fun k => decide (k < t.ownerDigests.length)) + t.ownerRevoked % 16 * 16 + t.vendorRevoked % 16 * 256)
  | 0x1A8 => some ((tgetD t.meas i {}).svn % 65536 + tgetD t.measSlot i 0 % 4 * 65536)
  | _ =>
    if 0x14C ≤ off ∧ off ≤ 0x168 then some (bits t.dbgNonce (32 * ((off - 0x14C) / 4)) 32)
    else if 0x178 ≤ off ∧ off ≤ 0x1A4 then some (bits (tgetD t.meas i {}).digest (32 * ((off - 0x178) / 4)) 32)
    else none

/-- Sub-port facts of a group, by sub-port. -/
def subMask (s : State) (g : Nat) (f : Nat → Bool) : Nat := maskOf 8 fun k => portExists s (8 * g + k) && f (8 * g + k)

/-- NETg (spec/09); the auto-negotiation, training and FEC lock of a link stand with the link. -/
def netView (g off i : Nat) (s : State) : Option Nat :=
  let port := 8 * g + i
  let stamps := tgetD s.net.txts g []
  match off with
  | 0x104 => some (subMask s g (portUp s) + 256 * subMask s g fun p => (List.range 8).any fun q => thas s.net.paused (8 * p + q))
  | 0x124 => some (15 * b2n (portUp s port) + 16 * maskOf 8 (fun q => thas s.net.paused (8 * port + q))
      + 4096 * maskOf 8 fun q => s.net.xoff.contains (8 * port + q))
  | 0x160 => some (stamps.length + 32 * b2n (s.net.txtsOver.contains g))
  | 0x164 => some (stamps.head?.elim 0 fun x => x.seqId % 65536 + x.sub % 8 * 65536)
  | 0x168 => some (stamps.head?.elim 0 fun x => x.time % 2 ^ 32)
  | 0x16C => some (stamps.head?.elim 0 fun x => x.time / 2 ^ 32 % 2 ^ 32)
  | _ => none

/-- PARSEk (spec/09). -/
def parseView (k off i : Nat) (s : State) : Option Nat :=
  let digest (b : Nat) : Nat := tgetD s.net.banks (2 * k + b) 0
  let word : Nat := if thas s.net.banks (2 * k + bits i 16 1) then Config.eopinWord (digest (bits i 16 1)) (i % 8192) else 0
  match off with
  | 0x104 => some (b2n (s.bankLoaded (2 * k)) + 2 * b2n (s.bankLoaded (2 * k + 1)) + 4 * (cfg s (Reg.PARSE_PARSE_CTL k) % 2)
      + 8 * b2n (quiesced s (0x10 + k)))
  | 0x108 => some (if s.arch.tested then maskOf 32 fun e => !s.arch.parseOut.contains (32 * k + e) else 0)
  | 0x10C => some (tcount s.arch.parseSub fun e _ => e / 32 == k)
  | 0x118 => some (word % 2 ^ 32)
  | 0x11C => some (word / 2 ^ 32 % 2 ^ 32)
  | 0x120 => some (digest 0 % 2 ^ 32)
  | 0x124 => some (digest 1 % 2 ^ 32)
  | 0x148 => some s.net.waiting.length
  | _ => none

/-- CLASS, SWITCH, BUF and SAMPLE (spec/09). -/
def switchView (page off i : Nat) (s : State) : Option Nat :=
  match page, off with
  | 0x12, 0x118 => some (tcount s.net.rules fun _ r => r.valid)
  | 0x12, 0x11C => some s.net.flows.length
  | 0x13, 0x104 => some (b2n (quiesced s 0x13))
  | 0x13, 0x198 => some s.net.frags.length
  | 0x14, 0x104 => some (b2n (decide ((sharedCells s - sharedUsed s) * 10 < sharedCells s)) + 2 * b2n (!s.net.xoff.isEmpty))
  | 0x14, 0x10C => some (262144 - cellsUsed s)
  | 0x14, 0x110 => some (if s.pwr.held then 0 else sharedCells s)
  | 0x14, 0x114 => some (sharedUsed s)
  | 0x14, 0x12C => some ((ppUse s i).cMin + (ppUse s i).cShared)
  | 0x14, 0x130 => some (ppUse s i).cHead
  | 0x14, 0x148 => some (egDepth s i)
  | 0x14, 0x158 => some (srcUsed s i)
  | 0x15, 0x104 => some (maskOf 16 s.net.smpStat.contains)
  | _, _ => none

/-- Whether every context of the full on-die cache is held (R177). -/
def qpcAllHeld (s : State) : Bool :=
  decide (16384 ≤ s.xp.cache.length) && s.xp.cache.all fun j =>
    let q := qpAt s j
    !q.sent.isEmpty || !q.reads.isEmpty || !q.recs.isEmpty || s.win.stalled.any fun a => a.ctx == j && !a.ring

/-- XPORT (spec/07). -/
def xportView (off i : Nat) (s : State) : Option Nat :=
  let q := qpAt s i
  match off with
  | 0x104 => some (b2n (!rxFree s) + 2 * b2n (decide (524288 ≤ readsOut s)) + 4 * b2n (qpcAllHeld s))
  | 0x10C => some (tcount s.xp.qps fun _ q => q.state != 0)
  | 0x110 => some (tcount s.xp.qps fun _ q => q.state != 0 && q.spray)
  | 0x120 => some (cfg s Reg.XPORT_RXBUF_COUNT - rxUsed s)
  | 0x12C => some (readsOut s)
  | 0x1A0 => some (if q.state = 0 then 0 else q.state + 8 * b2n q.spray + 16 * b2n q.atom16 + 32 * (q.pmtu % 4) + 128 * b2n q.ipv6
      + 256 * min q.recs.length 31 + 65536 * min q.reads.length 255 + 2 ^ 24 * b2n (s.xp.cache.contains i))
  | 0x1A4 => some (if q.state = 0 then 0 else if bitAt (cfg s Reg.XPORT_XP_CTL) 3 then q.rate.n / 2 ^ q.rate.e else q.lineMbs)
  | 0x1A8 => some (q.cursor % 2 ^ 24)
  | 0x1AC => some (q.txPsn % 2 ^ 24)
  | 0x1B0 => some (q.station % 1024)
  | _ => none

/-- KEYS (spec/08). -/
def keysView (off i : Nat) (s : State) : Option Nat :=
  let k := keyAt s i
  match off with
  | 0x104 => some (b2n (decide (1048576 ≤ tcount s.win.keys fun _ k => k.state != 0)) + 2 * b2n (s.win.keys.any fun k => k.2.state == 2))
  | 0x10C => some (tcount s.win.keys fun _ k => k.state == 1)
  | 0x110 => some (tcount s.win.keys fun _ k => k.state == 2)
  | 0x128 => some (k.state + k.tag % 4096 * 16 + k.rights % 16 * 65536 + b2n k.hostOnly * 2 ^ 20)
  | 0x12C => some (k.win % 4096)
  | 0x130 => some k.inflight
  | _ => none

/-- WIN (spec/08). `CTR_SEL` selects a counter of the window `WIN_SEL` selects. -/
def winView (p : Path) (off i : Nat) (s : State) : Option Nat :=
  let w := winAt s i
  match off with
  | 0x104 => some (b2n s.win.poolFull + 2 * b2n s.win.stallFull
      + 4 * b2n (decide (poolPages s < s.pinnedPages + 1 + 128)))
  | 0x10C => some (poolPages s - s.win.pages.length)
  | 0x110 => some (tcount s.win.pages fun k x => x.resident && pageDirty s (k / 2 ^ 24) (k % 2 ^ 24))
  | 0x114 => some s.pinnedPages
  | 0x120 => some (ceilDiv (stalledBytes s) 1024)
  | 0x144 => some s.win.chains.length
  | 0x154 => some (w.state + 4 * (w.policy % 4) + 16 * b2n w.pin
      + 32 * b2n (w.state != 0 && (nsAt s w.slot).any (ownsNs s)) + w.stall % 1024 * 65536)
  | 0x158 => some w.slot
  | 0x15C => some w.slba
  | 0x164 => some w.pages
  | 0x168 => some (tcount s.win.pages fun k x => x.resident && k / 2 ^ 24 == i)
  | 0x16C => some (tcount s.win.keys fun _ k => k.state != 0 && k.win == i)
  | 0x174 => some (tgetD (winAt s (sel s p Reg.WIN_WIN_SEL)).ctrs (sel s p Reg.WIN_CTR_SEL) 0)
  | _ => none

/-- CIPHW and CIPHS (spec/10). The pools complete each request at once here, so a pool is never full. -/
def ciphView (page off : Nat) (s : State) : Option Nat :=
  let removed (pool : Nat) : Nat := 2 * b2n (decide (lanesUp s pool < 400))
  match page, off with
  | 0x1C, 0x104 => some (removed 0)
  | 0x1C, 0x108 => some (lanesUp s 0)
  | 0x1D, 0x100 => some (removed 1)
  | 0x1D, 0x104 => some (lanesUp s 1)
  | _, _ => none

/-- The Cadastre entries of a slot, with their indices. -/
def slotEntries (s : State) (slot : Nat) : List (Nat × CadEntry) :=
  match nsAt s slot with
  | none => []
  | some n => s.store.cad.filter fun p => decide (n.base ≤ p.1) && decide (p.1 < n.base + n.parcels)

/-- KSTORE (spec/10). -/
def kstoreView (off i : Nat) (s : State) : Option Nat :=
  match off with
  | 0x104 => some (b2n (s.store.cad.any fun e => e.2.sweep) + 2 * b2n s.ciph.entropyFail + 4 * b2n s.ciph.drbgStopped
      + 8 * b2n (decide (64 ≤ s.ks.esc.length)) + 16 * b2n (s.trust.escrowKey.isSome && decide (s.ks.escCount < 2 ^ 32)))
  | 0x10C => some s.ciph.drbgReqs
  | 0x11C => some ((ksAt s i 0).state + 4 * (ksAt s i 1).state)
  | 0x120 => some (if (ksAt s i 0).state = 1 then (ksAt s i 0).epochNo else if (ksAt s i 1).state = 1 then (ksAt s i 1).epochNo else 0)
  | 0x124 => some ((slotEntries s i).filter fun e => e.2.sweep).length
  | 0x130 => some s.ks.esc.length
  | 0x210 => some (tcount s.ciph.sas fun _ a => a.state != 0)
  | _ => none

/-- NVMF (spec/02). -/
def nvmfView (off i : Nat) (s : State) : Option Nat :=
  match off with
  | 0x104 => some (b2n (decide (generalLimit ≤ generalInUse s))
      + 2 * b2n ((hostsIn s).any fun h => decide (hostQuota s h ≤ hostInUse s h)) + 4 * b2n (!admitRuns s))
  | 0x110 => some s.nvm.ctxs.length
  | 0x114 => some (heldCount s)
  | 0x128 => some (hostInUse s i)
  | 0x12C => some ((hostQueues s i).foldl (fun a q => a + (tget s.nvm.queues q).elim 0 fun x => x.held.length) 0)
  | 0x130 => some s.nvm.assocs.length
  | 0x134 => some (hostsIn s).length
  | 0x138 => some (1 + 0x8000 * s.pwr.ctrlId)
  | _ => none

/-- NSMGR (spec/02). -/
def nsmgrView (off i : Nat) (s : State) : Option Nat :=
  let here := nsAt s i
  let n := here.getD {}
  match off with
  | 0x104 => some (tcount s.nvm.nss fun _ n => n.state == 2)
  | 0x10C => some (here.elim 0 fun n => n.state + 4 * b2n (ownsNs s n) + 256 * (n.subsys % 256))
  | 0x110 => some (here.elim 0 fun n => n.nsid)
  | 0x114 => some (here.elim 0 fun n => n.layout % 4 + 4 * b2n n.enc + 8 * b2n n.stakeMode + 16 * b2n n.witness + 32 * b2n n.shared
      + 64 * b2n n.reshaping)
  | 0x120 => some (here.elim 0 fun n => n.adm)
  | 0x128 => some (here.elim 0 fun n => n.parcels)
  | 0x12C => some (tcount s.nvm.ctxs fun _ c => c.slot == i)
  | 0x130 => some (tcount s.nvm.ctxs fun _ c => c.slot == i && c.state == .waiting
      && (writerBefore s i c.adm c.ranges || c.writer && readerBefore s i c.adm c.ranges))
  | 0x138 => some (if here.isNone then 0 else tcount s.nvm.assocs fun _ a => a.subsys == n.subsys && n.hosts.contains a.host)
  | 0x144 => some (b2n (thas s.datum.active.subsystems i))
  | 0x148 => some (tcount s.nvm.nss fun _ n => n.subsys == i)
  | 0x14C => some (tcount s.nvm.assocs fun _ a => a.subsys == i)
  | 0x150 => some (parcelsFree s)
  | _ => none

/-- t_dump in µs for so many bytes (R82): 5 ms and the bytes at 240 GB/s, or at the measured rate where that is lower. -/
def tDumpUs (s : State) (bytes : Nat) : Nat :=
  let r := if s.vault.rateRun ∧ 0 < s.vault.rate then min 240000 s.vault.rate else 240000
  5000 + ceilDiv bytes r

/-- CACHE (spec/03). -/
def cacheView (off : Nat) (s : State) : Option Nat :=
  let v := s.vault
  match off with
  | 0x104 => some (b2n (mirrors s) + 2 * b2n (s.nvm.ctxs.any fun c => c.2.deferred) + 4 * b2n v.accepted + 8 * b2n v.replaying
      + 16 * b2n (s.store.formed && writeThrough s) + 32 * b2n (cfg s Reg.CACHE_HOLDUP_US == 0) + 64 * b2n (v.rateRun && decide (v.rate < 240000))
      + 128 * b2n (s.store.formed && vaultShort s))
  | 0x110 => some v.effMib
  | 0x114 => some (if s.pairedNow && !s.pwr.held then partnerDirtyMib s else 0)
  | 0x128 => some (4 * dirtyBlocks s)
  | 0x12C => some (4 * mirrorBlocks s)
  | 0x130 => some (4 * stagedBlocks s)
  | 0x134 => some (4 * tcount s.store.resident fun _ b => b.dirty)
  | 0x138 => some (tDumpUs s (dumpBytes s))
  | 0x13C => some (tDumpUs s ((v.effMib + if s.pairedNow then v.partnerEffMib else 0) * 2 ^ 20))
  | 0x140 => some (if s.store.formed then vaultCapMib s else 0)
  | 0x144 => some v.rate
  | 0x148 => some (v.img.state % 4 + v.lastRestart % 8 * 4 + vaultMembers s % 32 * 256)
  | 0x14C => some v.img.seq
  | _ => none

/-- PARITY (spec/04). -/
def parityView (off : Nat) (s : State) : Option Nat :=
  match off with
  | 0x104 =>
    let bad := maskOf 8 s.store.seqFailed.contains
    some (if s.arch.tested then 255 - bad + 256 * bad else 0)
  | 0x110 => some (min (tgetD s.store.clsBytes 0 0 / 2 ^ 20) 0xFFFFFFFF)
  | 0x114 => some (min (tgetD s.store.clsBytes 1 0 / 2 ^ 20) 0xFFFFFFFF)
  | 0x118 => some (min (tgetD s.store.clsBytes 2 0 / 2 ^ 20) 0xFFFFFFFF)
  | 0x11C => some (min (tgetD s.store.clsBytes 3 0 / 2 ^ 20) 0xFFFFFFFF)
  | _ => none

/-- The 16 bytes of a Cadastre entry as a number (Table 5); an unallocated one reads 0. -/
def entWord (e : CadEntry) : Nat :=
  if e.state = 0 then 0
  else e.state % 8 + e.layout % 4 * 2 ^ 3 + e.epoch % 2 * 2 ^ 5 + b2n e.sweep * 2 ^ 6 + b2n e.loss * 2 ^ 7
    + e.reloc0 % 32 * 2 ^ 8 + e.spares % 4 * 2 ^ 13 + e.mset % 2 * 2 ^ 15 + e.reloc1 % 32 * 2 ^ 16 + e.format % 256 * 2 ^ 24
    + e.seed % 2 ^ 32 * 2 ^ 32 + e.gen % 2 ^ 24 * 2 ^ 64 + e.column % 2 ^ 32 * 2 ^ 96

/-- CADASTRE (spec/04). `CAD_ENTRY[1..3]` come from the path's latch. -/
def cadView (p : Path) (off : Nat) (s : State) : Option Nat :=
  let cnt (f : CadEntry → Bool) : Nat := tcount s.store.cad fun _ e => e.state != 0 && f e
  match off with
  | 0x104 => some (b2n (!s.store.homeShort.isEmpty) + 2 * b2n (!s.store.wrapHeld.isEmpty) + 8 * b2n (s.store.mset0 != s.store.mset1))
  | 0x108 => some s.store.mset0
  | 0x10C => some s.store.mset1
  | 0x110 => some s.store.msetCur
  | 0x118 => some (cnt fun _ => true)
  | 0x11C => some (tcount s.store.cad fun i e =>
      let h := tgetD s.store.home i {}
      thas s.store.homeLeft i || h != { e with gen := h.gen })
  | 0x128 => some (cnt fun e => e.state == 2)
  | 0x12C => some (cnt fun e => e.reloc0 != 31)
  | 0x130 => some (cnt fun e => e.reloc1 != 31)
  | 0x14C => some ((nsAt s (sel s p Reg.NSMGR_NS_SEL)).elim 0 fun n => n.base)
  | _ => none

/-- A parcel with two positions in REBUILDING, neither relocated (`RB_STAT.CRITICAL`). -/
def rbCritical (s : State) : Bool :=
  let bs := rbBays s
  decide (2 ≤ bs.length) && s.store.cad.any fun e => e.2.state != 0 &&
    decide (2 ≤ (bs.filter fun b => match bayPos (setMask s e.2.mset) e.2 b with
      | none => false
      | some q => q != e.2.reloc0 && q != e.2.reloc1).length)

/-- REBUILD (spec/05). -/
def rebuildView (off i : Nat) (s : State) : Option Nat :=
  let m := memberAt s i
  let r := s.store.reshape
  match off with
  | 0x104 => some (b2n (!(rbBays s).isEmpty) + 2 * b2n (rbCritical s)
      + 4 * b2n ((List.range 24).any fun b => (memberAt s b).state == 6 || (memberAt s b).state == 7)
      + 8 * b2n (bitAt (cfg s Reg.REBUILD_RB_CTL) 2 && s.store.formed && s.pwr.serving) + 16 * b2n (r.state != 0)
      + 32 * b2n (!s.store.rehoming.isEmpty) + 64 * b2n s.store.lossCoalesced + 128 * b2n (!s.store.heldParcels.isEmpty))
  | 0x124 => some (m.state % 8 + 8 * b2n m.oneSided + 16 * b2n m.map.isSome + 32 * b2n m.failedId
      + 64 * b2n (s.store.homes0.contains i || s.store.homes1.contains i) + 128 * b2n m.waitSerial.isSome)
  | 0x128 => some m.done.length
  | 0x12C => some m.todo
  | 0x130 => some (m.map.elim 0 fun x => x.length)
  | 0x13C => some (if m.returnArmed then ceilDiv (m.returnAt - s.time) 1000000000 else 0)
  | 0x154 => some (r.state + 4 * (r.kind % 2) + 16 * r.refuse)
  | 0x158 => some r.baseline
  | 0x15C => some r.last
  | 0x160 => some (baysMask s.store.homes0)
  | 0x164 => some (baysMask s.store.homes1)
  | 0x168 => some s.store.unret.length
  | 0x170 => some s.store.loss.length
  | 0x174 => some (min (s.store.loss.foldl (fun a x => a + x.blocks s) 0) 0xFFFFFFFF)
  | 0x178 => some s.store.scrubEntry
  | _ => none

/-- TRAV (spec/06). -/
def travView (off : Nat) (s : State) : Option Nat :=
  match off with
  | 0x104 => some (b2n (decide (65536 ≤ travOpen s)) + 2 * b2n s.trav.refusing + 4 * b2n s.trav.full)
  | 0x10C => some (travOpen s)
  | 0x11C => some s.trav.outcomes.length
  | 0x120 => some (s.trav.outcomes.getLast?.elim 0 fun o => (s.time - o.time) / 1000000)
  | _ => none

/-- Lanes in use as log2 plus 1 (EP Table 17). -/
def widthCode (w : Nat) : Nat := if w = 0 then 0 else w.log2 + 1

/-- EP (spec/11). -/
def epView (off i : Nat) (s : State) : Option Nat :=
  let e := s.ep
  match off with
  | 0x104 => some (b2n e.link + widthCode (if e.link then e.width else 0) % 16 * 2 + (if e.link then e.rate % 8 else 0) * 32
      + 256 * b2n e.ready + 512 * b2n e.ideSecure + 1024 * b2n (e.link && e.flit))
  | 0x108 => some (if e.vfEnable then e.numVfs else 0)
  | 0x11C => some (tcount e.tags fun _ t => !t.quarantined)
  | 0x120 => some (tcount e.tags fun _ t => t.quarantined)
  | 0x140 =>
    let f := fnAt s i
    some (b2n (fnPresent s i) + 2 * b2n f.bme + 4 * b2n f.mse + 8 * b2n f.flr + 16 * b2n f.cntlid.isSome
      + 32 * b2n (!f.heldMsix.isEmpty || (fnHeld s i)))
  | _ => none

/-- Packets queued on an output ring: station and priority (R303). -/
def outRing (s : State) (o : Nat) : Nat :=
  s.net.egress.foldl (fun a q => if q.1 % 8 = o % 8 then a + (q.2.filter fun f => f.station == some (o / 8)).length else a) 0

/-- RINGS (spec/11). Rings 57,344 and up are output rings, which are always ACTIVE. -/
def ringsView (off i : Nat) (s : State) : Option Nat :=
  let g := ringAt s i
  let output := decide (57344 ≤ i)
  match off with
  | 0x104 => some (b2n (decide (16384 ≤ pfLines s)) + 2 * b2n (s.ep.rings.any fun x => !x.2.held.isEmpty && x.2.full))
  | 0x110 => some (tcount s.ep.rings fun _ x => x.state != .disabled)
  | 0x118 => some (pfLines s)
  | 0x128 => some (recsHeld s)
  | 0x12C => some s.win.chains.length
  | 0x144 => some (if output then 1 + 2 * 8
      else g.state.code + 8 * b2n g.completion + g.fn % 256 * 32 + b2n (thas s.win.chains i) * 2 ^ 13)
  | 0x148 => some (if output then 0 else g.head % 65536 + g.tail % 65536 * 65536)
  | 0x14C => some (if output then outRing s (i - 57344) else g.granted.length + g.flying.length)
  | _ => none

/-- RPnn (spec/12). -/
def rpView (n off : Nat) (s : State) : Option Nat :=
  let p := portAt s n
  let tags (quar : Bool) : Nat := tcount s.store.cmds fun k c => k / 16384 == n && c.quarantined == quar
  match off with
  | 0x104 => some (p.state % 8 + 8 * b2n p.link + 16 * (if p.width = 4 then 2 else if p.width = 2 then 1 else 0)
      + 64 * (p.rate % 8) + 512 * b2n p.flit + 1024 * b2n p.dual + 4096 * (p.check % 8))
  | 0x11C => some (tags false)
  | 0x120 => some (tags true)
  | 0x138 => some (p.qpairs % 256 + p.depth % 8192 * 65536)
  | 0x13C => some p.blocks
  | _ => none

/-- The status registers of a bay block (Table 19). LIMITING, FOLDBACK and the measurements are values the spec leaves open. -/
def bayWord (s : State) (b : Nat) : Nat :=
  let x := bayAt s b
  x.state % 8 + 8 * (x.feed % 4) + 32 * b2n x.pg + 256 * b2n x.changeover.isSome + 4096 * (x.fault % 16) + 65536 * (x.retries % 256)

/-- BAYPWR0 to BAYPWR3 (spec/12); a feed counts as good on a page when all its bays find it good. -/
def bayView (k off : Nat) (s : State) : Option Nat :=
  let bs := (List.range 6).map fun j => bayAt s (6 * k + j)
  if off = 0x104 then
    some (if s.pwr.held then 0 else feedsDriven s + 4 * b2n (bs.all fun x => x.goodA) + 8 * b2n (bs.all fun x => x.goodB) + 16 * b2n s.pwr.chipletLink)
  else if 0x200 ≤ off ∧ off < 0x380 ∧ off % 0x40 = 0x14 then some (bayWord s (6 * k + (off - 0x200) / 0x40))
  else none

/-- SIDEBAND (spec/12). -/
def sidebandView (off : Nat) (s : State) : Option Nat :=
  let d := s.bay.side
  match off with
  | 0x104 => some (if s.pwr.held then 0 else b2n (d.quarPrsnt != 0 || d.quarIfdet != 0 || d.quarAttn != 0) + 2 * b2n (drivesLeds s))
  | 0x108 => some d.prsnt
  | 0x10C => some d.ifdet
  | 0x110 => some d.attn
  | 0x114 => some d.quarPrsnt
  | 0x118 => some d.quarIfdet
  | 0x11C => some d.quarAttn
  | 0x120 => some (maskOf 24 fun n => (portAt s n).perstRel)
  | 0x124 => some (maskOf 24 fun b => (bayAt s b).pwrdis)
  | 0x128 => some (b2n (s.pairedNow && !s.pwr.held))
  | _ => none

/-- ZEBER (spec/13). -/
def zeberView (off : Nat) (s : State) : Option Nat :=
  let n := laneCount s.zeb.lanes
  match off with
  | 0x104 => some (b2n (zebUp s) + 2 * (if !zebUp s then 0 else if n = 32 then 3 else if n = 16 then 2 else 1)
      + 8 * b2n s.zeb.retraining + 16 * b2n s.zeb.session)
  | 0x108 => some s.zeb.lanes
  | 0x130 => some (s.pair.mseqTx % 2 ^ 32)
  | 0x134 => some (s.pair.mseqAcked % 2 ^ 32)
  | _ => none

/-- Whether a message carries a block of a resynchronisation. -/
def isResyncBlock : ZMsg → Bool
  | .resyncPut (.block ..) => true
  | _ => false

/-- MiB still to copy of a resynchronisation (R359): the blocks that wait for the link. -/
def resyncLeftMib (s : State) : Nat := ceilDiv (4096 * (s.zeb.waiting.filter isResyncBlock).length) (2 ^ 20)

/-- PAIR (spec/13). -/
def pairView (off : Nat) (s : State) : Option Nat :=
  let p := s.pair
  match off with
  | 0x104 => some (p.state % 8 + 8 * (s.pwr.ctrlId % 2) + 16 * (p.sense % 4) + 64 * b2n (armed s) + 128 * b2n (p.state == 2 &&
      if p.survivor then decide (dirtyBlocks s ≤ 256 * s.vault.joinerEff.getD 0) else p.resyncing))
  | 0x108 => some p.epoch
  | 0x134 => some (b2n p.moveSlot.isSome + 2 * p.moveResult)
  | 0x138 => some (tcount s.nvm.nss fun _ n => ownsNs s n)
  | 0x13C => some p.records.length
  | 0x140 => some (resyncLeftMib s)
  | 0x14C => some (p.arbWon % 32 + p.arbActive % 32 * 256 + b2n p.arbWin * 65536)
  | _ => none

/-- HBM and DDR (spec/19). -/
def memView (page off : Nat) (s : State) : Option Nat :=
  match page, off with
  | 0x58, 0x100 => some (if s.arch.ddrTrained then b2n (!s.arch.hbmBad.contains 0) + 2 * b2n (!s.arch.hbmBad.contains 1)
      + 4 * b2n s.arch.hbmTrained else 0)
  | 0x59, 0x100 => some (maskOf 8 s.arch.ddrIn.contains + 256 * b2n s.arch.ddrTrained)
  | 0x59, 0x104 => some s.arch.ddrGib
  | _, _ => none

/-- The 32 bytes of an event record as a number (R416, Table 1). -/
def EvRec.word (r : EvRec) : Nat :=
  leNat (leBytes 2 r.code ++ [r.sev % 8 + r.ctrl % 2 * 8, r.inst] ++ leBytes 4 r.seq ++ leBytes 8 r.time
    ++ (r.detail ++ List.replicate 16 0).take 16)

/-- TELEM (spec/17). -/
def telemView (p : Path) (off i : Nat) (s : State) : Option Nat :=
  match off with
  | 0x104 => some (b2n s.evt.mpLink + 2 * b2n s.evt.i3cMode + 4 * b2n s.evt.pmbusOk + 8 * b2n s.evt.hbMissed)
  | 0x11C => some s.evt.sticky.length
  | 0x164 => some (tgetD s.evt.rings i {}).tail
  | 0x168 => some (tgetD s.evt.rings i {}).head
  | 0x198 => some s.evt.mctpEid
  | _ =>
    if 0x124 ≤ off ∧ off ≤ 0x140 then
      some (((s.evt.sticky[sel s p Reg.TELEM_STICKY_SEL]?).elim 0 fun r => bits r.word (32 * ((off - 0x124) / 4)) 32))
    else none

/-- The value of a register that stands for state held elsewhere, whole where it is 64 bits wide; none for a register that is stored. -/
def view (p : Path) (r : RegId) (i : Nat) (s : State) : Option Nat :=
  if r.off < 0x100 then hdrView r.page r.off s
  else match blockBase r.page with
    | none => none
    | some b =>
      if b = 0x00 then topView r.off s
      else if b = 0x01 then datumView p r.off s
      else if b = 0x02 then pwrView r.off i s
      else if b = 0x03 then clkView r.off i s
      else if b = 0x04 then rstView r.off s
      else if b = 0x05 then evtView r.off i s
      else if b = 0x06 then trustView r.off i s
      else if b = 0x08 then netView (r.page - b) r.off i s
      else if b = 0x10 then parseView (r.page - b) r.off (sel s p ⟨r.page, 0x114⟩) s
      else if b ≤ 0x15 then switchView r.page r.off i s
      else if b = 0x18 then xportView r.off i s
      else if b = 0x19 then keysView r.off i s
      else if b = 0x1A then winView p r.off i s
      else if b ≤ 0x1D then ciphView r.page r.off s
      else if b = 0x1E then kstoreView r.off i s
      else if b = 0x20 then nvmfView r.off i s
      else if b = 0x21 then nsmgrView r.off i s
      else if b = 0x22 then cacheView r.off s
      else if b = 0x23 then parityView r.off s
      else if b = 0x24 then rebuildView r.off i s
      else if b = 0x25 then cadView p r.off s
      else if b = 0x26 then travView r.off s
      else if b = 0x28 then epView r.off i s
      else if b = 0x29 then ringsView r.off i s
      else if b = 0x30 then rpView (r.page - b) r.off s
      else if b = 0x48 then bayView (r.page - b) r.off s
      else if b = 0x4C then sidebandView r.off s
      else if b = 0x50 then zeberView r.off s
      else if b = 0x51 then pairView r.off s
      else if b ≤ 0x59 then memView r.page r.off s
      else telemView p r.off i s

/-- A register that measures, or counts errors of, something outside the block's commands: its value is one the spec leaves open. -/
def measured (r : RegId) : Bool :=
  match blockBase r.page with
  | none => false
  | some b =>
    if b = 0x02 then r.off == 0x120 || r.off == 0x124
    else if b = 0x03 then r.off == 0x10C || r.off == 0x134
    else if b = 0x08 then r.off == 0x148 || r.off == 0x14C || r.off == 0x150
    else if b = 0x1D then r.off == 0x108 || r.off == 0x110 || r.off == 0x118
    else if b = 0x25 then r.off == 0x120 || r.off == 0x124
    else if b = 0x30 then r.off == 0x144
    else if b = 0x48 then decide (0x200 ≤ r.off) && decide (r.off < 0x380)
      && (r.off % 0x40 == 0x1C || r.off % 0x40 == 0x20 || r.off % 0x40 == 0x24 || r.off % 0x40 == 0x28)
    else if b = 0x50 then r.off == 0x118 || r.off == 0x11C || r.off == 0x13C
    else if b = 0x58 then r.off == 0x108 || r.off == 0x10C || r.off == 0x110
    else if b = 0x59 then r.off == 0x110 || r.off == 0x114 || r.off == 0x118
    else false

/-! ### Reading (R443, R444, R449 to R455) -/

/-- The selector index a path reads a register at. -/
def pathIndex (p : Path) (r : RegId) (row : RegRow) (s : State) : Nat :=
  if row.sel = 0 then 0 else sel s p ⟨r.page, row.sel⟩

/-- Whether a page's registers other than its header and its RWD, RWL and RWS ones read 0: its domain is off (R455). -/
def pageSilent (s : State) (page : Nat) : Bool :=
  match pageDomain page with
  | none => false
  | some d => s.pwr.domOff.contains d

/-- The value of a register other than a latched half, whole where it is 64 bits wide. -/
def regWhole (p : Path) (r : RegId) (row : RegRow) (s : State) : Nat × State :=
  let i := pathIndex p r row s
  if isChipletPage r.page ∧ !s.pwr.chipletLink ∧ 0x104 < r.off ∧ (row.acc = .ro ∨ row.acc = .rw1c) then
    (tgetD s.bay.lastRead (regKey r 0) 0, s)
  else match row.acc with
    | .wo => (0, s)
    | .rwd => (cfgAt s r i, s)
    | .sel => (sel s p r, s)
    | _ =>
      match view p r i s with
      | some v => (v, s)
      | none =>
        if measured r && !s.pwr.held then drawFree s
        else (rdAt s r i, s)

/-- The value a read of a register returns, its side effects apart: 0 for what does not exist and in a page whose domain is off, the path's
latch for a `_HI` half and for `CAD_ENTRY[1..3]`. -/
def regValue (p : Path) (r : RegId) (s : State) : Nat × State :=
  match regRow r with
  | none => (0, s)
  | some row =>
    if pageSilent s r.page ∧ 0x100 ≤ r.off ∧ row.acc ≠ .rwd ∧ row.acc ≠ .rwl ∧ row.acc ≠ .rws then (0, s)
    else if row.pair = 2 ∨ r = Reg.CADASTRE_CAD_ENTRY_1 ∨ r = Reg.CADASTRE_CAD_ENTRY_2 ∨ r = Reg.CADASTRE_CAD_ENTRY_3 then
      (tgetD s.latches (selKey p r) 0, s)
    else if r = Reg.CADASTRE_CAD_ENTRY_0 then (entWord (entAt s (sel s p Reg.CADASTRE_CAD_SEL)) % 2 ^ 32, s)
    else
      let (v, s) := regWhole p r row s
      (v % 2 ^ 32, s)

/-- The register after another on its page. -/
def nextReg (r : RegId) (n : Nat) : RegId := ⟨r.page, r.off + 4 * n⟩

/-- Set a path's latch. -/
def setLatch (p : Path) (r : RegId) (v : Nat) (s : State) : State :=
  { s with latches := tput 0 s.latches (selKey p r) v }

/-- A read of a register on a path: its value, and the state with the latches of R453 and R454 taken and the timestamp entry released. -/
def regRead (p : Path) (r : RegId) (s : State) : Nat × State :=
  match regRow r with
  | none => (0, s)
  | some row =>
    if pageSilent s r.page ∧ 0x100 ≤ r.off then regValue p r s
    else if row.pair = 1 then
      let (v, s) := regWhole p r row s
      (v % 2 ^ 32, setLatch p (nextReg r 1) (v / 2 ^ 32 % 2 ^ 32) s)
    else if r = Reg.CADASTRE_CAD_ENTRY_0 then
      let w := entWord (entAt s (sel s p Reg.CADASTRE_CAD_SEL))
      let s := setLatch p (nextReg r 1) (bits w 32 32) s
      let s := setLatch p (nextReg r 2) (bits w 64 32) s
      (w % 2 ^ 32, setLatch p (nextReg r 3) (bits w 96 32) s)
    else if blockBase r.page = some 0x08 ∧ r.off = 0x16C then
      let (v, s) := regValue p r s
      (v, txtsRelease (r.page - 0x08) s)
    else regValue p r s

/-- Keep the chiplet's registers as last reported, when its link goes down (R455). -/
def chipletFreeze (s : State) : State :=
  let rs : List RegId := (List.range 4).flatMap fun k =>
    (baypwrRows.filter fun row => row.acc == .ro || row.acc == .rw1c).map fun row => ⟨0x48 + k, row.off⟩
  let (t, s) := rs.foldl (fun (acc : Tab Nat × State) r =>
    let (v, s) := regValue .security r acc.2
    (tput 0 acc.1 (regKey r 0) v, s)) ([], s)
  { s with bay := { s.bay with lastRead := t } }

end Sys2Proof.Machine
end

