-- ==== Sys2Proof/Machine/PwrClk.lean ====
section
/-!
DEFINITION. Machine/PwrClk.lean: supplies, clocks, controller time, resets other than the cold start itself, the
watchdog and orderly shutdown (spec/16), and the engine and memory failures of spec/01.
-/
namespace Sys2Proof.Machine

/-! ### Faults of the package (R7, R8, R12, R13) -/

/-- The chiplet link is down: the main die raises FATAL 0x0205 and admits nothing further; every bay holds its
last commanded state (R7). -/
def chipletLinkFailOp (s : State) : State :=
  let s := chipletFreeze s
  fatalEvent 0x0205 [] true { s with pwr := { s.pwr with chipletLink := false } }

/-- CHIPLET_LINK_FAIL (R7). -/
def execChipletLinkFail (s : State) : Res := .next (chipletLinkFailOp s)

/-- HBM_STACK_FAULT (R8): FATAL 0x5801 without a dump (R81); only a cold reset ends it (R408). -/
def execHbmStackFault (stack : Nat) (s : State) : Res :=
  let s := { s with arch := { s.arch with hbmBad := (stack :: s.arch.hbmBad).eraseDups } }
  .next (fatalEvent 0x5801 [stack] false { s with pwr := { s.pwr with needCold := true } })

/-- The place in service that a physical engine holds: its own, or the one a spare was substituted into; none where it holds none. -/
def enginePlace (n i : Nat) (sub : Tab Nat) : Option Nat :=
  if n ≤ i then (tfind sub fun _ x => x == i).map fun p => p.1
  else if thas sub i then none
  else some i

/-- The place an engine holds in service, by its kind. -/
def engineHolds (k : EngineKind) (i : Nat) (a : ArchSt) : Option Nat :=
  match k with
  | .parse => enginePlace 64 i a.parseSub
  | .storage => enginePlace 32 i a.storageSub
  | .mgmt => if i < 4 then some i else none
  | .pseq => if i < 2 then some i else none

/-- The engines of a kind out of service. -/
def enginesOut (k : EngineKind) (a : ArchSt) : List Nat :=
  match k with
  | .parse => a.parseOut
  | .storage => a.storageOut
  | .mgmt => a.mgmtOut
  | .pseq => a.pseqOut

/-- Remove an engine of a kind at its next instruction boundary (R12). -/
def removeEngine (k : EngineKind) (i : Nat) (a : ArchSt) : ArchSt :=
  match k with
  | .parse => { a with parseOut := i :: a.parseOut }
  | .storage => { a with storageOut := i :: a.storageOut }
  | .mgmt => { a with mgmtOut := i :: a.mgmtOut }
  | .pseq => { a with pseqOut := i :: a.pseqOut }

/-- Whether this removal takes the last engine of a kind that has no substitute (R11). -/
def lastOfKind (k : EngineKind) (a : ArchSt) : Bool :=
  match k with
  | .mgmt => decide (4 ≤ a.mgmtOut.length)
  | .pseq => decide (2 ≤ a.pseqOut.length)
  | _ => false

/-- ENGINE_RUNTIME_FAIL (R11, R12): the engine leaves service, its work restarts elsewhere and no command fails; a
parse engine is also reported on its `PARSE` page (0x1001); the last management core or both power-sequencer
microcontrollers lost raise FATAL 0x060F. An engine that is not in service cannot fail. -/
def execEngineRuntimeFail (k : EngineKind) (i : Nat) (s : State) : Res :=
  match engineHolds k i s.arch with
  | none => .next s
  | some at_ =>
    if (enginesOut k s.arch).contains at_ then .next s
    else
      let s := { s with arch := removeEngine k at_ s.arch }
      let s := raise 0x060E [k.code, i, 1] s
      let s := if k = .parse then
          let page := if i < 32 ∨ i = 64 ∨ i = 65 then 0x10 else 0x11
          engineOut at_ (raise (page * 256 + 1) [i] s)
        else s
      .next (if lastOfKind k s.arch then fatalEvent 0x060F [k.code] true s else s)

/-- LOCKSTEP_DISAGREE (R13): FATAL, and service stops; in a pair the partner takes over. No dump is made (R81) and only
a cold reset ends it (R408). -/
def execLockstepDisagree (s : State) : Res :=
  let s := { s with arch := { s.arch with securityHeld := true },
                    pwr := { s.pwr with needCold := true, serving := false } }
  .next (fatalEvent 0x060F [5] false s)

/-! ### Rails and temperature (R398 to R400) -/

/-- SYS_PWROK_FALL (R398): the controller holds itself in cold reset. -/
def execSysPwrokFall (s : State) : Res := .next (coldHold 0 (abandonPending s))

/-- VDD_PC_RISE (R480): the power chiplet checks its own trims; on a failure it keeps every gate off, the chiplet link
reads down and R7 applies with every bay off. -/
def execVddPcRise (trimOk : Bool) (s : State) : Res :=
  let s := chipletStart trimOk s
  if trimOk then .next { s with pwr := { s.pwr with chipletLink := true } }
  else .next (chipletLinkFailOp (raise 0x0207 [1] s))

/-- RAIL_FAULT (R400): `VDD_PC` (7) fails the chiplet link; `VDD_IO` below 1.60 V fails the HBM stacks with no dump; any
other rail raises FATAL 0x0202 and dumps. -/
def execRailFault (rail mv : Nat) (s : State) : Res :=
  let s := bump Reg.PWR_RAIL_FAULTS s
  let s := { s with pwr := { s.pwr with railsBad := (rail :: s.pwr.railsBad).eraseDups } }
  let s := wrAt Reg.PWR_RAIL_MV rail mv s
  if rail = 7 then .next (chipletLinkFailOp s)
  else if rail = 6 ∧ mv < 1600 then
    let s := raise 0x0202 (rail :: leBytes 2 mv) s
    .next (fatalEvent 0x5801 [0] false { s with
      arch := { s.arch with hbmBad := [0, 1] }, pwr := { s.pwr with needCold := true } })
  else .next (fatalEvent 0x0202 (rail :: leBytes 2 mv) true s)

/-- Note the hottest junction (`TEMP_C`, `TEMP_MAX_C`). -/
def noteTemp (sensor temp : Nat) (s : State) : State :=
  wr Reg.PWR_TEMP_MAX_C (max temp (rd s Reg.PWR_TEMP_MAX_C)) (wr Reg.PWR_TEMP_C (temp + sensor * 256) s)

/-- THERMAL_WARNING (R400): once per crossing of `THERM_WARN_C`; a reading not above it ends the crossing. -/
def execThermalWarning (sensor temp : Nat) (s : State) : Res :=
  let s := noteTemp sensor temp s
  if temp ≤ cfg s Reg.PWR_THERM_WARN_C then .next { s with pwr := { s.pwr with thermWarn := false } }
  else if s.pwr.thermWarn then .next s
  else .next (raise 0x0203 [sensor, temp] { s with pwr := { s.pwr with thermWarn := true } })

/-- THERMAL_TRIP (R400, R467): `THERMTRIP_N` low, FATAL 0x0204, the dump, and every engine held stopped until a cold
reset. -/
def execThermalTrip (sensor temp : Nat) (s : State) : Res :=
  let s := noteTemp sensor temp s
  let s := drive (.thermtrip true) { s with pwr := { s.pwr with thermtrip := true, needCold := true } }
  let s := fatalEvent 0x0204 [sensor, temp] true s
  .next { s with pwr := { s.pwr with enginesStopped := true } }

/-- AVS_TRIM (R399): one AVSBus transaction moving the setpoint a 5 mV step within 25 mV of the fused value; three
failures in a row raise 0x0201 and trimming stops until one succeeds. -/
def execAvsTrim (ok up : Bool) (s : State) : Res :=
  if !bitAt (cfg s Reg.PWR_PWR_CTL) 0 ∨ !s.pwr.released then .next s
  else if ok then
    let f := Config.coreMvFused
    let base := s.pwr.coreMv
    let mv := if up then min (base + 5) (min (f + 25) 800) else max (base - 5) (max (f - 25) 700)
    .next (drive (.avs mv) { s with pwr := { s.pwr with coreMv := mv, avsOk := true, avsFails := 0, trimming := true } })
  else
    let n := s.pwr.avsFails + 1
    let s := bump Reg.PWR_AVS_ERRS { s with pwr := { s.pwr with avsFails := n, avsOk := false } }
    .next (if n = 3 then raise 0x0201 [n] { s with pwr := { s.pwr with trimming := false } } else s)

/-! ### References and controller time (R20, R403 to R405) -/

/-- Every family but `SLOW` and `AON` stops until a cold reset (R20). -/
def famStop (s : State) : State :=
  { s with pwr := { s.pwr with famDown := [0, 1, 2, 3, 4, 5, 6, 7, 8], relocked := false } }

/-- `REFCLK_SYS` is lost (R20, R403): FATAL; the network, Zeber and endpoint families end service. Unless the crystal is bad too, the others
relock to it and the vault is written whatever `FATAL_DUMP_EN`; with no dump to write they stop at once. -/
def refSysLost (ppm : Nat) (s : State) : State :=
  let s := { s with pwr := { s.pwr with famDown := [2, 3, 4, 5], relocked := true, needCold := true, admitStop := true } }
  let s := fatalEvent 0x0301 (0 :: leBytes 2 ppm) false s
  let s := if s.pwr.refBad.contains 4 ∨ s.pwr.xtalBackup then famStop s
    else
      let s := acceptPower 2 s
      if s.vault.dumpDone then famStop s else s
  surpriseRemoval 0 (zebLost ((List.range 8).foldl (fun s g => netGroupDown g s) s))

/-- The crystal fails (R404): `AON` and `SLOW` run from the backup oscillator, FATAL 0x0303, and a dump when
`REFCLK_SYS` is good. -/
def crystalFailOp (s : State) : State :=
  let s := { s with pwr := { s.pwr with xtalBackup := true, refBad := (4 :: s.pwr.refBad).eraseDups } }
  fatalEvent 0x0303 [] (!s.pwr.refBad.contains 0) (bump Reg.CLK_REF_FAULTS s)

/-- REFCLK_OUT_OF_TOLERANCE (R403): 0 `REFCLK_SYS`, 1 and 2 the network references, 3 `EP_REFCLK`, 4 the crystal (R404); `ppm` is the
signed deviation in 16 bits. -/
def execRefclkOutOfTolerance (ref ppm : Nat) (s : State) : Res :=
  if s.pwr.refBad.contains ref then .next s
  else if ref = 4 then .next (crystalFailOp (wrAt Reg.CLK_REF_PPM 4 (ofSigned 32 (toSigned 16 ppm)) s))
  else
    let s := wrAt Reg.CLK_REF_PPM ref (ofSigned 32 (toSigned 16 ppm)) (bump Reg.CLK_REF_FAULTS
      { s with pwr := { s.pwr with refBad := (ref :: s.pwr.refBad).eraseDups } })
    if ref = 0 then .next (refSysLost ppm s)
    else if ref = 1 then
      .next (raiseSev 0x0301 2 (1 :: leBytes 2 ppm) ((List.range 4).foldl (fun s g => netGroupDown g s)
        { s with pwr := { s.pwr with famDown := (2 :: s.pwr.famDown).eraseDups } }))
    else if ref = 2 then
      .next (raiseSev 0x0301 2 (2 :: leBytes 2 ppm) ((List.range 4).foldl (fun s g => netGroupDown (g + 4) s)
        { s with pwr := { s.pwr with famDown := (3 :: s.pwr.famDown).eraseDups } }))
    else
      .next (raiseSev 0x0301 2 (3 :: leBytes 2 ppm) (surpriseRemoval 0
        { s with pwr := { s.pwr with famDown := (5 :: s.pwr.famDown).eraseDups } }))

/-- REFCLK_RESTORED (R403): within tolerance for 100 ms; the family returns to service, except after the loss of
`REFCLK_SYS`, which a cold reset ends. -/
def execRefclkRestored (ref : Nat) (s : State) : Res :=
  if !s.pwr.refBad.contains ref then .next s
  else
    let fam := if ref = 1 then [2] else if ref = 2 then [3] else if ref = 3 then [5] else []
    .next (raise 0x0302 [ref] { s with pwr := { s.pwr with
      refBad := s.pwr.refBad.filter (· != ref), famDown := s.pwr.famDown.filter fun f => !fam.contains f } })

/-- CRYSTAL_FAIL (R404). -/
def execCrystalFail (s : State) : Res := .next (if s.pwr.xtalBackup then s else crystalFailOp s)

/-- TIME_ADJ_PPB (R405): the rate offset, at once; a value beyond ±1,000,000 ppb is ignored with code 0x01 (R415). -/
def timeAdjOp (p : Path) (v : Nat) (s : State) : State :=
  let i := toSigned 32 v
  if i < -1000000 ∨ 1000000 < i then errLast 0x03 0x01 0x118 p.code s
  else wr Reg.CLK_TIME_ADJ_PPB (v % 2 ^ 32) { s with pwr := { s.pwr with adjPpb := i } }

/-- TIME_ADJ_PPB_WRITE (R405). -/
def execTimeAdjPpbWrite (p : Path) (v : Nat) (s : State) : Res :=
  .next (cmdWrite p Reg.CLK_TIME_ADJ_PPB (timeAdjOp p v) s)

/-- TIME_SLEW_NS (R405): adds a signed phase correction, applied at 500 ppm. -/
def timeSlewOp (v : Nat) (s : State) : State :=
  wr Reg.CLK_TIME_SLEW_NS (v % 2 ^ 32) { s with pwr := { s.pwr with slewLeft := s.pwr.slewLeft + toSigned 32 v } }

/-- TIME_SLEW_NS_WRITE (R405). -/
def execTimeSlewNsWrite (p : Path) (v : Nat) (s : State) : Res :=
  .next (cmdWrite p Reg.CLK_TIME_SLEW_NS (timeSlewOp v) s)

/-- A write of `TIME_STEP_HI` applies the step, with the `_LO` half the same path wrote last (R453); ignored with code
0x05 while disciplined (R405). Controller time does not go below 0. -/
def timeStepOp (p : Path) (hi : Nat) (s : State) : State :=
  if s.pwr.disciplined then errLast 0x03 0x05 0x128 p.code s
  else
    let step := toSigned 64 (hi % 2 ^ 32 * 2 ^ 32 + sel s p Reg.CLK_TIME_STEP_LO)
    { s with time := ((s.time : Int) + step).toNat % 2 ^ 64 }

/-- TIME_STEP (R405). -/
def execTimeStep (p : Path) (hi : Nat) (s : State) : Res :=
  .next (cmdWrite p Reg.CLK_TIME_STEP_HI (timeStepOp p hi) s)

/-- Controller time is disciplined (R405): event 0x0304. -/
def setDisciplinedOp (s : State) : State :=
  raise 0x0304 [] { s with pwr := { s.pwr with disciplined := true } }

/-- SET_DISCIPLINED (R405). -/
def execSetDisciplined (p : Path) (s : State) : Res := .next (cmdWrite p Reg.CLK_TIME_CMD setDisciplinedOp s)

/-- Controller time is no longer disciplined and steps are allowed again (R405). -/
def clearDisciplinedOp (s : State) : State := { s with pwr := { s.pwr with disciplined := false } }

/-- CLEAR_DISCIPLINED (R405). -/
def execClearDisciplined (p : Path) (s : State) : Res := .next (cmdWrite p Reg.CLK_TIME_CMD clearDisciplinedOp s)

/-! ### Resets (R406 to R409) -/

/-- An answer of `RST_CMD`. -/
def rstResult (r : Nat) (s : State) : State := { s with pwr := { s.pwr with cmdResult := r } }

/-- RST_CMD = COLD: everything on die is lost and the controller is held for its cold start (R406). -/
def coldOp (s : State) : State := coldHold 2 (rstResult 0 (abandonPending s))

/-- COLD (R406). -/
def execCold (p : Path) (s : State) : Res := .next (cmdWrite p Reg.RST_RST_CMD coldOp s)

/-- A warm reset of a kind: preceded by a vault dump unless one has reached COMPLETE; in a pair STOPPING is sent (R408).
While a power failure is accepted it waits for the dump. -/
def warmRequest (kind cause : Nat) (s : State) : State :=
  if s.vault.accepted then
    if s.vault.dumpDone then warmReset kind s
    else { s with pwr := { s.pwr with resetAfterDump := some kind } }
  else
    let s := acceptPower 2 (sendStopping cause s)
    if s.vault.dumpDone then warmReset kind s
    else { s with pwr := { s.pwr with resetAfterDump := some kind } }

/-- RST_CMD = WARM (R408). -/
def warmOp (s : State) : State := warmRequest 3 2 (rstResult 0 (abandonPending s))

/-- WARM (R408). -/
def execWarm (p : Path) (s : State) : Res := .next (cmdWrite p Reg.RST_RST_CMD warmOp s)

/-- SYS_RST_N (R407): with dirty or mirror data while serving, a power failure is accepted first and the reset held;
otherwise the cold reset follows at once. -/
def execSysRstN (s : State) : Res :=
  if s.pwr.serving ∧ dirtyOrMirror s then
    let s := if s.vault.accepted then s else acceptPower 0 s
    if s.vault.dumpDone then .next (coldHold 1 s)
    else .next { s with pwr := { s.pwr with resetAfterDump := some 1 } }
  else .next (coldHold 1 (abandonPending s))

/-- RESET_HOLD_EXPIRE (R407): the held cold reset proceeds although the header is not COMPLETE. -/
def execResetHoldExpire (s : State) : Res :=
  if s.pwr.resetAfterDump = some 1 then .next (coldHold 1 s) else .next s

/-- The refusals of a block reset (R409), as `RESULT`. -/
def blockRefusal (s : State) (page : Nat) : Option Nat :=
  if !blockResettable page ∨ !pageAlive s page then some 2
  else if s.datum.phase ≠ .idle ∨ s.trust.actState ≠ 0 ∨ !s.pwr.released then some 3
  else if s.vault.accepted then some 4
  else none

/-- The effect of a block reset (Table 5). -/
def blockEffect (page : Nat) (s : State) : State :=
  if page ≤ 0x0F then netGroupDown (page - 8) s
  else if page = 0x15 then sampleBlockReset s
  else if page = 0x50 then zeberBlockReset s
  else if page = 0x28 then surpriseRemoval 0 s
  else rpBlockReset (page - 0x30) s

/-- RST_CMD = BLOCK: the page the path selects is reset, or refused (R409); event 0x0405 at completion. -/
def blockOp (p : Path) (s : State) : State :=
  let page := sel s p Reg.RST_BLK_SEL
  match blockRefusal s page with
  | some r => rstResult r s
  | none => raise 0x0405 [page] (bump Reg.RST_BLK_RESETS (rstResult 0 (blockEffect page s)))

/-- BLOCK (R409). -/
def execBlock (p : Path) (s : State) : Res := .next (cmdWrite p Reg.RST_RST_CMD (blockOp p) s)

/-! ### Watchdog and FATAL (R412) -/

/-- WDT_KICK (R412): any write restarts the watchdog. -/
def wdtKickOp (s : State) : State := { s with pwr := { s.pwr with wdtKickAt := s.time } }

/-- WDT_KICK (R412). -/
def execWdtKick (p : Path) (s : State) : Res := .next (cmdWrite p Reg.RST_WDT_KICK wdtKickOp s)

/-- WATCHDOG_EXPIRE (R412): with `WDT_EN` = 1, FATAL 0x0403 and a warm reset under R408. -/
def execWatchdogExpire (s : State) : Res :=
  if !bitAt (cfg s Reg.RST_RST_CTL) 0 ∨ !s.pwr.released then .next s
  else .next (warmRequest 4 1 (fatalEvent 0x0403 [] true s))

/-- FATAL_RESET_TIMER (R412): 100 ms after a FATAL's dump, or after the FATAL; with `FATAL_RESET` = 1 a warm reset, unless
the FATAL needs a cold one (R408). -/
def execFatalResetTimer (s : State) : Res :=
  if !s.pwr.fatal ∨ s.pwr.needCold ∨ !bitAt (cfg s Reg.RST_RST_CTL) 1 ∨ (s.vault.accepted ∧ !s.vault.dumpDone) then .next s
  else if s.vault.accepted then .next (warmReset 7 s)
  else .next (warmRequest 7 1 s)

/-- STARTUP_POWERFAIL_RECOVER (R411): `PWRFAIL_N` high for 100 ms after a start-up power failure. -/
def execStartupPowerfailRecover (s : State) : Res :=
  if s.pwr.startFail then .next (warmReset 5 s) else .next s

/-- ASSEMBLY_WAIT_EXPIRE (R410): event 0x0402 names the bays still waiting, and the member set is taken from the
labels. -/
def execAssemblyWaitExpire (s : State) : Res :=
  if !s.pwr.assembling then .next s
  else .next (assembleNow (raise 0x0402 (leBytes 3 (waitingBays s)) s))

/-! ### Orderly shutdown (R413) -/

/-- RST_CMD = SHUTDOWN: steps 1 to 4 begin: no admission, ownership moves in a pair, commands complete, every dirty frame
is queued for its flush. -/
def shutdownOp (s : State) : State :=
  shutdownMoves { (rstResult 0 s) with pwr := { s.pwr with
    cmdResult := 0, shuttingDown := true, admitStop := true } }

/-- SHUTDOWN (R413). -/
def execShutdown (p : Path) (s : State) : Res := .next (cmdWrite p Reg.RST_RST_CMD shutdownOp s)

/-- Steps 5 to 7 of R413; `used` says whether the vault dump took the place of the flush. -/
def shutdownFinish (used : Bool) (s : State) : State :=
  let s := sendStopping 2 s
  let s := if !s.pairedNow ∧ bitAt (cfg s Reg.RST_RST_CTL) 2 then baysOffDescending s else s
  raise 0x0404 [b2n used] { s with pwr := { s.pwr with
    shuttingDown := false, shutdownDone := true, serving := false } }

/-- SHUTDOWN_FLUSHED (R413): every stripe is CLEAN. -/
def execShutdownFlushed (s : State) : Res :=
  if s.pwr.shuttingDown ∧ allClean s then .next (shutdownFinish false s) else .next s

/-- SD_TIMEOUT (R413): the flush has not ended within `SD_TIMEOUT_S` and the vault is dumped in its place. -/
def execSdTimeout (s : State) : Res :=
  if s.pwr.shuttingDown ∧ !s.vault.accepted then
    let s := acceptPower 2 s
    .next (if s.vault.dumpDone then shutdownFinish true s else s)
  else .next s

end Sys2Proof.Machine
end

