-- ==== Sys2Proof/Machine/Trust.lean ====
section
/-!
DEFINITION. Machine/Trust.lean: the root of trust's commands (spec/14): Field Book entries, boot
confirmation, anti-rollback, live activation, debug unlock, SPDM requests and owner keys.
-/
namespace Sys2Proof.Machine

/-- Burn a fuse field by an update of the trust state when its read-back verifies; otherwise nothing
changes and event 0x060C reports the field, by its place in Table 1 from 0 (R364). -/
def burnFuse (ok : Bool) (field : Nat) (f : TrustSt → TrustSt) (s : State) : State :=
  if ok then { s with trust := f s.trust } else raise 0x060C [field] s

/-- The owner burn of R378: the next slot, the old slot revoked on a rotation, `LIFECYCLE` OWNED on an
enrolment. -/
def ownerBurn (slot digest : Nat) (rotate : Bool) (t : TrustSt) : TrustSt :=
  { t with
    ownerDigests := t.ownerDigests ++ [digest]
    ownerRevoked := if rotate then setBit t.ownerRevoked (slot - 1) else t.ownerRevoked
    lifecycle := if rotate then t.lifecycle else 2 }

/-- The debug scope takes effect: scope 1 at once, 2 and 3 at the next cold start (R380, Table 8). -/
def debugGrant (scope : Nat) (t : TrustSt) : TrustSt :=
  if scope = 1 then { t with debugScope := 1 } else { t with debugPending := scope }

/-- The request that caused an entry proceeds (R375). -/
def fbProceed (k : FbCont) (burnOk : Bool) (s : State) : State :=
  match k with
  | .nothing => s
  | .release =>
    let s := raise 0x0601 (leBytes 8 (s.trust.nextSeq - 1) ++ [s.trust.booted, s.trust.fallback]) s
    releaseEngines s
  | .datumCommit => armClosure s
  | .datumConfirm =>
    raise 0x0102 (leBytes 8 s.datum.active.id)
      { s with datum := { s.datum with confirmed := true, result := 0, resultPage := 0 } }
  | .datumSeal =>
    raise 0x0106 (leBytes 8 s.datum.active.id)
      { s with datum := { s.datum with active := { s.datum.active with sealed := true }, result := 0, resultPage := 0 } }
  | .svnBurn n v =>
    let s' := burnFuse burnOk 6 (fun t => { t with svn := tset t.svn n (max v (tgetD t.svn n 0)) }) s
    if burnOk then raise 0x0609 [n, v] s' else s'
  | .debugUnlock scope =>
    raise 0x0608 [scope, 0] { s with trust := debugGrant scope s.trust }
  | .ownerBurn req slot digest rotate =>
    if s.trust.ownerDigests.length ≠ slot then drive (.spdm 0 req [0]) s
    else drive (.spdm 0 req [b2n burnOk]) (burnFuse burnOk 4 (ownerBurn slot digest rotate) s)
  | .actBegin => { s with trust := { s.trust with actState := 2 } }
  | .actEnd =>
    let failed := s.trust.actFailed
    raise 0x0603 [b2n (failed != 0), failed]
      { s with trust := { s.trust with actState := 0, actTodo := [], actDone := [], actFailed := 0,
                                       actResult := if failed = 0 then 0 else 6 } }

/-- The request that caused an entry fails because neither device can be written (R375): at boot no engine is
released; a datum command ends with nothing changed. -/
def fbFail (k : FbCont) (s : State) : State :=
  match k with
  | .datumCommit =>
    { s with datum := { s.datum with phase := .idle, target := none, result := 1 } }
  | .datumConfirm | .datumSeal => { s with datum := { s.datum with result := 1 } }
  | .actBegin | .actEnd => { s with trust := { s.trust with actState := 0, actTodo := [], actDone := [] } }
  | .ownerBurn req _ _ _ => drive (.spdm 0 req [0]) s
  | _ => s

/-- Mark a NOR device that failed a write or a read-back (R375, event 0x0605). -/
def norDeviceFail (d : Nat) (ok : Bool) (s : State) : State :=
  if ok ∨ s.trust.devBad.contains d then s
  else
    let s := { s with trust := { s.trust with devBad := if d = 0 then 0 :: s.trust.devBad else s.trust.devBad ++ [d] } }
    raise 0x0605 [d] (wr Reg.TRUST_FB_DEV_STAT (clrBit (rd s Reg.TRUST_FB_DEV_STAT) d) s)

/-- FIELD_BOOK_ENTRY_WRITTEN (R375): the oldest queued entry has been programmed, with the outcome on each
device and of the fuse burn it precedes. No entry is started after a power failure is accepted. -/
def execFieldBookEntryWritten (okA okB burnOk : Bool) (s : State) : Res :=
  match s.trust.queue with
  | [] => .next s
  | r :: rest =>
    if s.vault.accepted then .next s
    else
      let okA := okA && !s.trust.devBad.contains 0
      let okB := okB && !s.trust.devBad.contains 1
      let s := norDeviceFail 1 okB (norDeviceFail 0 okA s)
      let s := { s with trust := { s.trust with queue := rest } }
      if okA || okB then .next (fbProceed r.cont burnOk (fbWrite r.type r.body s))
      else .next (fbFail r.cont (fatalEvent 0x0606 [] true { s with trust := { s.trust with fbLost := true } }))

/-- The boot is confirmed and the booted slot's attempt count cleared (R371). -/
def bootConfirmOp (s : State) : State :=
  { s with trust := { s.trust with
    confirmed := true, attempts := tset s.trust.attempts s.trust.booted 0 } }

/-- BOOT_CONFIRM (R371). -/
def execBootConfirm (p : Path) (s : State) : Res := .next (cmdWrite p Reg.TRUST_BOOT_CONFIRM bootConfirmOp s)

/-- The SVN of the component a counter guards, as it runs (R372). -/
def runningSvn (s : State) (n : Nat) : Nat :=
  (tgetD s.trust.meas (n + 1) {}).svn

/-- Ask for the burn of the counter a path selects; a value not above the present counter is ignored. -/
def svnAdvanceOp (p : Path) (s : State) : State :=
  let n := sel s p Reg.TRUST_SVN_SEL % 8
  let v := runningSvn s n
  if v ≤ tgetD s.trust.svn n 0 then s
  else fbRequest 8 [n, tgetD s.trust.svn n 0, v] (.svnBurn n v) s

/-- SVN_ADVANCE (R372): an SVN entry first, then the burn up to the running component's SVN. -/
def execSvnAdvance (p : Path) (s : State) : Res := .next (cmdWrite p Reg.TRUST_SVN_CMD (svnAdvanceOp p) s)

/-- The components of the slot not booted that differ from what runs, in Table 7 order. -/
def changedComponents (t : TrustSt) (slot : Nat) : List Nat :=
  [6, 5, 4, 3, 2, 1].filter fun c => tgetD (imageSlot t slot).comps c {} != tgetD t.meas c {}

/-- The refusals of step 1 of R379, as `ACT_STAT.RESULT`. -/
def activateRefusal (s : State) : Option Nat :=
  if s.trust.actState ≠ 0 then some 1
  else if s.datum.staged.isSome ∨ !s.datum.confirmed ∨ s.datum.phase ≠ .idle then some 2
  else if pairJoinOrArb s then some 3
  else match s.pair.partnerVersion with
    | none => none
    | some v => if (imageSlot s.trust (1 - s.trust.booted)).zeberVersion ≠ v then some 4 else none

/-- ACT_CMD = ACTIVATE: refusals, verification of the whole slot, then the ACT_BEGIN entry (R379). -/
def activateOp (s : State) : State :=
  match activateRefusal s with
  | some r => { s with trust := { s.trust with actResult := r } }
  | none =>
    let slot := 1 - s.trust.booted
    match slotRefusal s.trust slot [1, 2, 3, 4, 5, 6] with
    | some (c, why) =>
      raise 0x060A [c, why] { s with trust := { s.trust with actResult := 5 } }
    | none =>
      let todo := changedComponents s.trust slot
      let body := todo.flatMap fun c =>
        let m := tgetD (imageSlot s.trust slot).comps c {}
        measRecord s.trust c ++ [c, slot, m.svn, m.version, m.digest]
      fbRequest 2 body .actBegin
        { s with trust := { s.trust with actState := 1, actTodo := todo, actDone := [], actFailed := 0 } }

/-- ACTIVATE (R379). -/
def execActivate (p : Path) (s : State) : Res := .next (cmdWrite p Reg.TRUST_ACT_CMD activateOp s)

/-- The internal commit of the active datum that switches `PARSE_CTL.BANK` (R396, R237). -/
def bankSwitchCommit (s : State) : State :=
  let d := s.datum.active
  let b := d.val ⟨0x10, 0x100⟩ 0
  let t := { d with
    delta := d.delta + 1
    vals := tset (tset d.vals (regKey ⟨0x10, 0x100⟩ 0) (1 - b % 2)) (regKey ⟨0x11, 0x100⟩ 0) (1 - b % 2) }
  let digest := (tgetD s.trust.meas 4 {}).digest
  let s := { s with net := { s.net with banks := tset (tset s.net.banks (1 - b % 2) digest) (3 - b % 2) digest } }
  fbRequest 4 (datumEntryBody 0 d t) .datumCommit
    { s with datum := { s.datum with phase := .waitEntry, kind := .bankSwitch, target := some t, attempts := 0 } }

/-- A component runs its new code. -/
def componentSwitched (c slot : Nat) (rest : List Nat) (s : State) : State :=
  let t := s.trust
  let s := { s with trust := { (measureSlot slot [c] t) with actTodo := rest, actDone := c :: t.actDone } }
  let s := if c = 4 then bankSwitchCommit s else s
  if c = 1 then
    fbRequest 5 [1] .nothing (fbRequest 5 [0] .nothing { s with trust := { s.trust with kekOwner := ownerKeyInForce s.trust } })
  else s

/-- ACTIVATION_COMPONENT_DONE (R379), once the closure that switched an Eopin image is over: the next component of Table 7 has reloaded, or
fails and those already switched return to their old code in reverse order. -/
def execActivationComponentDone (ok : Bool) (s : State) : Res :=
  let slot := 1 - s.trust.booted
  if s.trust.actState ≠ 2 ∨ s.datum.phase ≠ .idle then .next s
  else
    match s.trust.actTodo with
    | [] => .next (actFinish s)
    | c :: rest =>
      if ok then
        let s := componentSwitched c slot rest s
        if rest.isEmpty ∧ c ≠ 4 then .next (actFinish s) else .next s
      else
        let back := { s with trust := measureSlot s.trust.booted s.trust.actDone s.trust }
        .next (actReturn c (if s.trust.actDone.contains 4 then bankSwitchCommit back else back))

/-- A fresh debug nonce (R380 step 1). -/
def freshNonce (s : State) : State :=
  let (v, s) := drbgDraw s
  { s with trust := { s.trust with dbgNonce := v % 2 ^ 256 } }

/-- Whether a debug request is granted (R380 step 3). -/
def debugGranted (scope nonce serial : Nat) (ownerSig vendorSig : Bool) (t : TrustSt) : Bool :=
  decide (nonce = t.dbgNonce) && decide (serial = Config.serialFuse) && !bitAt t.debugDisable (scope - 1) &&
    (if scope = 3 then ownerSig && vendorSig
     else (scope == 1 || scope == 2) && (ownerSig || (vendorSig && decide (t.lifecycle < 2))))

/-- DEBUG_UNLOCK (R380): refused after 8 failures until the next cold start; a failed attempt is counted; a
granted one takes effect once its DEBUG entry is written. Every attempt draws a fresh nonce. -/
def execDebugUnlock (scope nonce serial : Nat) (ownerSig vendorSig : Bool) (s : State) : Res :=
  if 8 ≤ s.trust.dbgFails then .next (raise 0x0608 [scope, 1] (freshNonce s))
  else if debugGranted scope nonce serial ownerSig vendorSig s.trust then
    .next (freshNonce (fbRequest 9 [scope, nonce] (.debugUnlock scope) s))
  else
    let n := s.trust.dbgFails + 1
    let s := freshNonce { s with trust := { s.trust with dbgFails := n } }
    .next (if n = 8 then raise 0x0608 [scope, 1] s else s)

/-- The newest `SEQ`, 0 while the Field Book is empty. -/
def fbNewest (t : TrustSt) : Nat := t.nextSeq - 1

/-- FIELD_BOOK_EXPORT (R377): log page 0xC0 from a byte offset; a piece naming an entry erased meanwhile holds
zeros there (no entry is listed for it). -/
def execFieldBookExport (q cid offset len : Nat) (s : State) : Res :=
  if !bitAt (cfg s Reg.TRUST_TRUST_CTL) 0 then .next (answer q cid 1 0x09 none 0 0 s)
  else
    let t := s.trust
    let hdr := if offset < 512 then
        [1, t.oldest, fbNewest t, rd s Reg.TRUST_FB_WRAPS, rd s Reg.TRUST_FB_GAPS] else []
    let first := (offset - 512) / 8192
    let last := (offset + len - 512 + 8191) / 8192
    let es := (tfilter t.entries fun k _ => decide (t.oldest + first ≤ k) && decide (k < t.oldest + last)).map (·.2)
    .next (answer q cid 0 0 (some false) 0 0 (drive (.fbPage q cid hdr es) s))

/-- Whether SPDM is served on an interface: on the management port only while `FB_TCP_EN` = 1 (R377). -/
def spdmServed (ifc : MgmtIf) (s : State) : Bool :=
  ifc != .mgmtPort || (bitAt (cfg s Reg.TRUST_TRUST_CTL) 1 && bitAt (cfg s Reg.TELEM_MP_CTL) 0)

/-- Answer an SPDM request on its interface, when the interface serves SPDM. -/
def spdmReply (ifc : MgmtIf) (req : Nat) (body : List Nat) (s : State) : State :=
  if spdmServed ifc s then drive (.spdm ifc.code req body) s else s

/-- The digest of a component as measured now (R369, Table 4): component 7 is the active datum, component 8
the fuse state. -/
def measDigest (s : State) (c : Nat) : Nat :=
  if c = 7 then Config.sha384 (s.datum.active.no :: s.datum.active.delta :: s.datum.active.vals.flatMap fun p => [p.1, p.2])
  else if c = 8 then
    Config.sha384 ([s.trust.lifecycle, s.trust.ownerRevoked, s.trust.vendorRevoked, b2n s.trust.ownerCosign,
      s.trust.kekDbg] ++ (List.range 8).map fun n => tgetD s.trust.svn n 0)
  else (tgetD s.trust.meas c {}).digest

/-- GET_MEASUREMENTS (R377): the digest of one index, or of all eight for index 0xFF, signed with the ECDSA
alias key. -/
def execGetMeasurements (ifc : MgmtIf) (req index : Nat) (s : State) : Res :=
  let ds := if index = 0xFF then (List.range 8).map fun c => measDigest s (c + 1) else [measDigest s index]
  .next (spdmReply ifc req (ds ++ [Config.hkdf (Config.sha384 ds) (aliasInputs s.trust)]) s)

/-- CHALLENGE (R377): CHALLENGE_AUTH over the requester's nonce, signed with the ECDSA alias key. -/
def execChallenge (ifc : MgmtIf) (req nonce : Nat) (s : State) : Res :=
  .next (spdmReply ifc req [nonce, Config.hkdf nonce (aliasInputs s.trust)] s)

/-- KEY_EXCHANGE (R378): a secured session, noting whether the requester chains to an unrevoked owner key. -/
def execKeyExchange (ifc : MgmtIf) (req : Nat) (ownerAuth : Bool) (s : State) : Res :=
  if !spdmServed ifc s then .next s
  else
    let s := { s with trust := { s.trust with sessions := tset s.trust.sessions req ownerAuth } }
    .next (spdmReply ifc req [1, Config.hkdf req (aliasInputs s.trust)] s)

/-- KEY_UPDATE (R378): the session's keys are renewed; a requester without a session gets no update. -/
def execKeyUpdate (ifc : MgmtIf) (req : Nat) (s : State) : Res :=
  .next (if thas s.trust.sessions req then spdmReply ifc req [2] s else spdmReply ifc req [0] s)

/-- SET_CERTIFICATE (R377): the owner's LDevID chain in slot 1. -/
def execSetCertificate (ifc : MgmtIf) (req chain : Nat) (s : State) : Res :=
  if !spdmServed ifc s then .next s
  else .next (spdmReply ifc req [1] { s with trust := { s.trust with ldevid := some chain } })

/-- Whether a requester's session is authenticated by an unrevoked owner key (R378). -/
def ownerSession (t : TrustSt) (req : Nat) : Bool := tgetD t.sessions req false

/-- OWNER_ENROL (R378): when PROVISIONED, an OWNER entry and then the burn of the first owner key and
`LIFECYCLE` OWNED, answered when it is over (R375); refused otherwise. -/
def execOwnerEnrol (req digest : Nat) (s : State) : Res :=
  if thas s.trust.sessions req ∧ s.trust.lifecycle = 1 ∧ s.trust.ownerDigests.isEmpty then
    .next (fbRequest 10 [0, 0, digest] (.ownerBurn req 0 digest false) s)
  else .next (drive (.spdm 0 req [0]) s)

/-- OWNER_ROTATE (R378): signed by the current owner key, burns the next of four slots and revokes the old. -/
def execOwnerRotate (req digest : Nat) (signedByCurrent : Bool) (s : State) : Res :=
  let n := s.trust.ownerDigests.length
  if ownerSession s.trust req ∧ signedByCurrent ∧ 0 < n ∧ n < 4 then
    .next (fbRequest 10 [1, n, digest] (.ownerBurn req n digest true) s)
  else .next (drive (.spdm 0 req [0]) s)

/-- ESCROW_KEY_INSTALL (R276, R378): through a session authenticated by an unrevoked owner key. -/
def execEscrowKeyInstall (req key : Nat) (s : State) : Res :=
  if ownerSession s.trust req then
    .next (drive (.spdm 0 req [1]) { s with trust := { s.trust with escrowKey := some key } })
  else .next (drive (.spdm 0 req [0]) s)

/-- FIELD_BOOK_ENTRY_VENDOR_GET (R377): an entry by `SEQ`; none where it is not retained. -/
def execFieldBookEntryVendorGet (ifc : MgmtIf) (req seq : Nat) (s : State) : Res :=
  match tget s.trust.entries seq with
  | none => .next (spdmReply ifc req [] s)
  | some e => .next (spdmReply ifc req e.fields s)

end Sys2Proof.Machine
end

