-- ==== Sys2Proof/Machine/Window.lean ====
section
/-!
DEFINITION. Machine/Window.lean: window binding commands, keys, faults and chain waits as commands (spec/08, rows 104 to 117).
-/
namespace Sys2Proof.Machine

/-- BIND (R205 to R208). -/
def execBind (q cid nsid policy : Nat) (pin : Bool) (win stall slba size : Nat) (s : State) : Res := .next <|
  submit q { cid := cid, nsid := nsid, op := .winBind 1 policy pin win stall slba size } s

/-- BIND_COMPLETE (R206 to R208). -/
def execBindComplete (win : Nat) (s : State) : Res := .next <| bindComplete win s

/-- UNBIND (R206, R207). -/
def execUnbind (q cid win : Nat) (s : State) : Res := .next <| submit q { cid := cid, nsid := 0, op := .unbind win } s

/-- UNBIND_COMPLETE (R207). -/
def execUnbindComplete (win : Nat) (s : State) : Res := .next <| unbindComplete win s

/-- KEY_CREATE (R206, R217). -/
def execKeyCreate (q cid rights : Nat) (hostOnly : Bool) (win offset len : Nat) (s : State) : Res := .next <|
  submit q { cid := cid, nsid := 0, op := .keyCreate rights hostOnly win offset len } s

/-- KEY_REVOKE (R206, R220). -/
def execKeyRevoke (q cid rkey : Nat) (s : State) : Res := .next <| submit q { cid := cid, nsid := 0, op := .keyRevoke rkey } s

/-- KEY_CMD = REVOKE of the selected key; one that is not VALID, and reserved commands, have no effect (R220, KEYS register page). -/
def keyCmdOp (p : Path) (v : Nat) (s : State) : State :=
  if bits v 0 2 ≠ 1 then s else revokeStart (sel s p Reg.KEYS_KEY_SEL % 1048576) { byHost := false } s

/-- KEY_CMD_REVOKE (R220). -/
def execKeyCmdRevoke (p : Path) (v : Nat) (s : State) : Res := .next <| cmdWrite p Reg.KEYS_KEY_CMD (keyCmdOp p v) s

/-- WIN_CMD = UNBIND of the selected window, where it is BOUND (R208, Table 4). -/
def winCmdOp (p : Path) (v : Nat) (s : State) : State :=
  let w := sel s p Reg.WIN_WIN_SEL % 4096
  if bits v 0 2 ≠ 1 ∨ (winAt s w).state ≠ 2 then s else unbindStart w none s

/-- WIN_CMD_UNBIND (R208). -/
def execWinCmdUnbind (p : Path) (v : Nat) (s : State) : Res := .next <| cmdWrite p Reg.WIN_WIN_CMD (winCmdOp p v) s

/-- Whether a key's revoke is still to be recorded by the partner, so that it has no fence point yet (R220). -/
def fencePending (s : State) (k : Nat) : Bool := s.pair.records.any fun r => r.2.what == .keyRevoke k

/-- REVOKE_DRAIN: the in-flight count of a key in REVOKING is 0 on both controllers; `partner` is the partner's count (R220). -/
def execRevokeDrain (k partner : Nat) (s : State) : Res := .next <|
  if (keyAt s k).inflight ≠ 0 ∨ partner ≠ 0 ∨ fencePending s k then s else revokeEnd k 0 s

/-- REVOKE_TIMEOUT: stalled packets of the key are discarded unplaced, event 0x1902, and the key is FREE (R220). -/
def execRevokeTimeout (k : Nat) (s : State) : Res := .next <|
  if (keyAt s k).state ≠ 2 ∨ fencePending s k then s
  else
    let mine := s.win.stalled.filter fun a => a.key == some k
    let s := { s with win := { s.win with stalled := s.win.stalled.filter fun a => a.key != some k } }
    let s := mine.foldl (fun s a => accDrop a s) s
    let unkey (p : PlaceWait) : PlaceWait := if p.acc.key = some k then { p with acc := { p.acc with key := none } } else p
    let s := { s with win := { s.win with placing := s.win.placing.map unkey } }
    revokeEnd k mine.length (raise 0x1902 (leBytes 3 k ++ leBytes 3 mine.length) s)

/-- After a start a namespace is ready once the pages of its pinned windows are resident (R224). -/
def pinReady (slot : Nat) (s : State) : State :=
  match nsAt s slot with
  | none => s
  | some n =>
    if !s.pwr.serving ∨ n.ready ∨ !ownsNs s n ∨ pinPending s slot then s
    else anaNotice slot (setNs slot { n with ready := true } s)

/-- FAULT_COMPLETE: every block of a faulting page is present; the page is RESIDENT and what waits for it goes on (R209, R212, R213). -/
def execFaultComplete (win page : Nat) (s : State) : Res := .next <|
  match tget s.win.pages (pageKey win page) with
  | none => s
  | some g =>
    if g.resident ∨ g.missing ≠ [] then s
    else
      let us := (s.time - g.startAt) / 1000
      let s := bump Reg.WIN_FAULTS { s with win := { s.win with
        lru := s.win.lru + 1, pages := tset s.win.pages (pageKey win page) { g with resident := true, used := s.win.lru } } }
      pinReady (winAt s win).slot (stallGo (wr Reg.WIN_FAULT_US_MAX (max (rd s Reg.WIN_FAULT_US_MAX) us) s))

/-- WINDOW_WRITEBACK_AGE: a block has been dirty for `WB_AGE_MS` (R211). -/
def execWindowWritebackAge (win block : Nat) (s : State) : Res := .next <|
  let x := winAt s win
  if x.state = 0 ∨ x.pages * 512 ≤ block then s else stallGo (writeBack x.slot (x.slba + block) s)

/-- STALL_BUDGET_EXPIRE: under policy 2 a stalled packet is discarded for resend (R212). -/
def execStallBudgetExpire (qp psn : Nat) (s : State) : Res := .next <|
  match s.win.stalled.find? fun a => !a.ring && a.ctx == qp && a.psn == psn && (a.kind == 0 || a.kind == 4) && (winAt s a.win).policy == 2 with
  | none => s
  | some a => accDiscard a { s with win := { s.win with stalled := s.win.stalled.erase a } }

/-- CHAIN_WAIT_TIMEOUT: a ring's chain wait ends as Chain Wait Timeout, with event 0x2903 (R223, R306). -/
def execChainWaitTimeout (ring : Nat) (s : State) : Res := .next <|
  match tget s.win.chains ring with
  | none => s
  | some c =>
    let ctr := tgetD (winAt s c.win).ctrs c.ctr 0
    let s := raise 0x2903 (leBytes 2 ring ++ leBytes 2 c.win ++ [c.ctr]) s
    ringDone ring c.cid 7 0xA0 (some false) ctr 0 { s with win := { s.win with chains := tdel s.win.chains ring } }

end Sys2Proof.Machine
end

