-- ==== Sys2Proof/Machine/RegWrite.lean ====
section
/-!
DEFINITION. Machine/RegWrite.lean: a write of one register on a path, by its access type (R443, R444, R449 to R455, R457), with the command
each write-only register starts (row 312).
-/
namespace Sys2Proof.Machine

/-- `DATUM_CMD` (spec/15, Table 7): a reserved command is answered with `RESULT` 12, unless one runs. -/
def datumCmd (v : Nat) (s : State) : State :=
  match bits v 0 3 with
  | 1 => commitOp s
  | 2 => confirmOp s
  | 3 => revertOp s
  | 4 => discardOp s
  | 5 => sealOp s
  | 6 => loadOp s
  | c => if datumBusy s then s else datumRefuse c 12 0 s

/-- `RST_CMD` (spec/16, Table 14): without the key `RESULT` 1, a reserved command `RESULT` 5. -/
def rstCmd (p : Path) (v : Nat) (s : State) : State :=
  if bits v 16 16 ≠ 0x5253 then rstResult 1 s
  else match bits v 0 3 with
    | 1 => coldOp s
    | 2 => warmOp s
    | 3 => shutdownOp s
    | 4 => blockOp p s
    | _ => rstResult 5 s

/-- `TIME_CMD` (spec/16, Table 10); a reserved value has no effect. -/
def timeCmd (v : Nat) (s : State) : State :=
  match bits v 0 2 with
  | 1 => setDisciplinedOp s
  | 2 => clearDisciplinedOp s
  | _ => s

/-- `RULE_CMD` (spec/09, Table 17). -/
def ruleCmd (p : Path) (v : Nat) (s : State) : State :=
  match bits v 0 2 with
  | 1 => ruleWriteOp p s
  | 2 => ruleInvalidateOp p s
  | 3 => ruleReadOp p s
  | _ => s

/-- `FLOW_CMD` (spec/09, Tables 17 and 18): any other command is invalid, `RESULT` 4. -/
def flowCmd (v : Nat) (s : State) : State :=
  match bits v 0 3 with
  | 1 => flowInsertOp s
  | 2 => flowDeleteOp s
  | 3 => flowReplaceOp s
  | 4 => flowLookupOp s
  | _ => flowStat 4 0 s

/-- `KSTORE.KEY_CMD` (spec/10, Table 15): 0 is reserved, `RESULT` 5. -/
def ksKeyCmd (p : Path) (v : Nat) (s : State) : State :=
  match bits v 0 2 with
  | 1 => rollOp p s
  | 2 => escReadOp s
  | 3 => importOp s
  | _ => keyStat 5 s

/-- `KSTORE.SA_CMD` (spec/10, Table 16): 0 is reserved, `RESULT` 4. -/
def saCmd (p : Path) (v : Nat) (s : State) : State :=
  match bits v 0 2 with
  | 1 => saInstallOp p s
  | 2 => saDeleteOp p s
  | 3 => saReadOp p s
  | _ => saStat 4 s

/-- `MEMBER_CMD` (spec/05, Table 16): any other command is reserved, `RESULT` 4. -/
def memberCmdWrite (p : Path) (v : Nat) (s : State) : State :=
  match bits v 0 4 with
  | 1 => failOp p s
  | 2 => admitOp p s
  | 3 => resyncFullOp p s
  | _ => memberResult 4 s

/-- `RESHAPE_CMD` (spec/05, Table 17); a reserved command has no effect. -/
def reshapeCmdWrite (v : Nat) (s : State) : State :=
  match bits v 0 3 with
  | 1 => reshapeStartOp s
  | 2 => reshapeSuspendOp s
  | 3 => reshapeResumeOp s
  | 4 => formOp s
  | _ => s

/-- `BAY_CMD` of a bay (R334, spec/12): a reserved command is answered with `RESULT` 2. -/
def bayCmdWrite (b v : Nat) (s : State) : State :=
  let c := bits v 0 3
  if c = 0 ∨ 4 < c then bayCmdReserved b s else bayCommand b c s

/-- `ACT_CMD` (spec/14, Table 13): a reserved command is answered with `RESULT` 7. -/
def actCmd (v : Nat) (s : State) : State :=
  if bits v 0 2 = 1 then activateOp s else { s with trust := { s.trust with actResult := 7 } }

/-- A write of a write-only register: the command it starts. -/
def woWrite (p : Path) (r : RegId) (v : Nat) (s : State) : State :=
  if r.off = 0x018 then evtForceOp r.page v s
  else if r = Reg.DATUM_DATUM_CMD then datumCmd v s
  else if r = Reg.RST_RST_CMD then rstCmd p v s
  else if r = Reg.RST_WDT_KICK then wdtKickOp s
  else if r = Reg.CLK_TIME_STEP_LO then setSel p r v s
  else if r = Reg.CLK_TIME_STEP_HI then timeStepOp p v s
  else if r = Reg.CLK_TIME_CMD then timeCmd v s
  else if r = Reg.TRUST_BOOT_CONFIRM then (if bitAt v 0 then bootConfirmOp s else s)
  else if r = Reg.TRUST_ACT_CMD then actCmd v s
  else if r = Reg.TRUST_SVN_CMD then (if bits v 0 2 = 1 then svnAdvanceOp p s else s)
  else if r = Reg.CLASS_RULE_CMD then ruleCmd p v s
  else if r = Reg.CLASS_FLOW_CMD then flowCmd v s
  else if r = Reg.KEYS_KEY_CMD then keyCmdOp p v s
  else if r = Reg.WIN_WIN_CMD then winCmdOp p v s
  else if r = Reg.KSTORE_KEY_CMD then ksKeyCmd p v s
  else if r = Reg.KSTORE_SA_CMD then saCmd p v s
  else if r = Reg.REBUILD_MEMBER_CMD then memberCmdWrite p v s
  else if r = Reg.REBUILD_RESHAPE_CMD then reshapeCmdWrite v s
  else if r = Reg.PAIR_MOVE_CMD then moveOp p v s
  else if r = Reg.TELEM_SM_HEARTBEAT then smHeartbeatOp s
  else if isChipletPage r.page then bayCmdWrite (6 * (r.page - 0x48) + (r.off - 0x200) / 0x40) v s
  else s

/-- A write of an RW register: those whose write is a command of its own act so; any other takes the value (R450). -/
def rwWrite (p : Path) (r : RegId) (v : Nat) (s : State) : State :=
  if r = Reg.EVT_Q_HEAD then qHeadOp p v s
  else if r = Reg.TELEM_TR_HEAD then trHeadOp p v s
  else if r = Reg.CLK_TIME_ADJ_PPB then timeAdjOp p v s
  else if r = Reg.CLK_TIME_SLEW_NS then timeSlewOp v s
  else if r = Reg.TRAV_LOOKUP_ID_HI then lookupOp p v s
  else wr r v s

/-- A write of an RW1C register: each bit written as 1 is cleared (R450); a quarantine bit so written ends that quarantine (R319). -/
def rw1cWrite (r : RegId) (v : Nat) (s : State) : State :=
  if r = Reg.SIDEBAND_QUAR_PRSNT then quarClearOp 0 v s
  else if r = Reg.SIDEBAND_QUAR_IFDET then quarClearOp 1 v s
  else if r = Reg.SIDEBAND_QUAR_ATTN then quarClearOp 2 v s
  else
    let old := rd s r
    wr r (old - (old &&& v)) s

/-- A write of an RWL register (R394, R396): code 0x04 once the datum is sealed, code 0x01 outside its range. -/
def rwlWrite (p : Path) (r : RegId) (row : RegRow) (x : Nat) (s : State) : State :=
  if s.datum.active.sealed then errLast r.page 0x04 r.off p.code s
  else if !rangeOk row x then errLast r.page 0x01 r.off p.code s
  else wr r x s

/-- A write that reaches a register, by access type (R450, Table 8). `be` says which bytes are written; the others keep their value, or are 0
for a write-only register. -/
def rowWrite (p : Path) (r : RegId) (row : RegRow) (be v : Nat) (s : State) : State :=
  match row.acc with
  | .ro => errLast r.page 0x06 r.off p.code s
  | .wo => cmdWrite p r (woWrite p r (mergeBytes be 0 v)) s
  | .rwd => stageWrite p r row (pathIndex p r row s) be v s
  | .rwl => rwlWrite p r row (mergeBytes be (rd s r) v &&& row.mask) s
  | .sel => setSel p r (mergeBytes be (sel s p r) v &&& row.mask) s
  | .rws => wr r (mergeBytes be (rd s r) v &&& row.mask) s
  | .rw1c => rw1cWrite r (mergeBytes be 0 v &&& row.mask) s
  | .rw =>
    let old := (regWhole p r row s).1
    rwWrite p r (mergeBytes be old v &&& row.mask) s

/-- A register write on a path: discarded for the endpoint path while `HOST_WR_EN` = 0 (code 0x09, R457), for a page that does not exist
(R443), for a reserved offset (code 0x06) and for a chiplet register while its link is down (code 0x07, R455). -/
def regWriteFull (p : Path) (r : RegId) (be v : Nat) (s : State) : State :=
  match blockBase r.page with
  | none => s
  | some _ =>
    if p = .endpoint ∧ !bitAt (cfg s Reg.TOP_TOP_CTL) 0 then errLast r.page 0x09 r.off p.code s
    else match regRow r with
      | none => errLast r.page 0x06 r.off p.code s
      | some row =>
        if isChipletPage r.page ∧ 0x100 ≤ r.off ∧ !s.pwr.chipletLink then errLast r.page 0x07 r.off p.code s
        else rowWrite p r row be v s

/-- REGISTER_WRITE (R450): the dword at `off` of a page, with the bytes that `be` names; an access is of one naturally aligned dword (R453). -/
def execRegisterWrite (p : Path) (page off be v : Nat) (s : State) : Res :=
  .next (regWriteFull p ⟨page, off / 4 * 4⟩ (be % 16) (v % 2 ^ 32) s)

end Sys2Proof.Machine
end

