-- ==== Sys2Proof/Machine/Rings.lean ====
section
/-!
DEFINITION. Machine/Rings.lean: the native work rings (spec/11, R294 to R305). Rings are named by function and function-local index at their pages, and
by their global index where the engine acts.
-/
namespace Sys2Proof.Machine

/-- An access to a ring page: nothing for a function that takes no memory request or whose block has no such ring (R282, R285, R291). -/
def ringPage (fn n : Nat) (f : Nat → State → State) (s : State) : State :=
  if !fnHears s fn ∨ !ringExists s fn n then s
  else
    let g := ringGlobal s fn n
    f g (if thas s.ep.rings g then s else { s with ep := { s.ep with rings := tset s.ep.rings g { fn := fn, local_ := n } } })

/-- DB (R299). -/
def execDb (fn n v : Nat) (s : State) : Res := .next (ringPage fn n (fun g s => doorbell g v s) s)

/-- PUSH: one descriptor, `whole` when it came as one aligned 64 B write (R299). -/
def execPush (fn n : Nat) (whole : Bool) (d : Desc) (s : State) : Res := .next <|
  ringPage fn n (fun g s =>
    let r := ringAt s g
    if r.completion ∨ r.state = .disabled then s
    else
      let more := r.waiting + r.granted.length + r.flying.length + 1
      let ok : Bool := whole && bitAt (cfg s Reg.RINGS_RINGS_CTL) 1 && d.slot == r.tail % r.len && decide (pfLines s < 16384)
        && r.state == .active && s.fnBme fn && decide (more ≤ r.len - 1)
      if ok then
        let s := { s with ep := { s.ep with idle := false, ltrIdle := false } }
        bump Reg.RINGS_PUSH_ACCEPTED (setRing g { r with tail := (r.tail + 1) % r.len, pushed := tset r.pushed (r.tail % r.len) d } s)
      else bump Reg.RINGS_PUSH_REJECTED (doorbell g (d.slot + 1) s)) s

/-- A ring's `CTL` is written (R294, R295). -/
def ringCtl (g v : Nat) (s : State) : State :=
  let r := ringAt s g
  let en := bitAt v 0
  let kind := bitAt v 1
  if r.state ≠ .disabled ∧ kind != r.completion then setRing g { r with err := 3 } s
  else
    let r := { r with completion := kind, arm := bitAt v 2, cpl := bits v 4 12, vector := bits v 16 11 }
    if en then
      if r.state ≠ .disabled then setRing g r s
      else
        let c := ringAt s (ringGlobal s r.fn r.cpl)
        let ok : Bool := kind || (ringExists s r.fn r.cpl && c.completion && c.fn == r.fn && c.state != .disabled)
        if ok then setRing g { r with state := if s.fnBme r.fn then .active else .stopped, before := .active } s
        else setRing g { r with err := 1 } s
    else if r.state = .disabled then setRing g r s
    else ringSettle g (setRing g { r with disableWhenDone := true, pushed := [] } s)

/-- RING_CTL_WRITE: a write of a register of a ring page: `CTL`, `SIZE`, `BASE`, `SCHED` or `COAL` (R294). -/
def execRingCtlWrite (fn n off v : Nat) (s : State) : Res := .next <|
  ringPage fn n (fun g s =>
    let r := ringAt s g
    let locked (f : Ring → Ring) (s : State) : State :=
      if r.state = .disabled then setRing g (f r) s else setRing g { r with err := 3 } s
    if off = 0x008 then ringCtl g v s
    else if off = 0x00C then
      (if 4 ≤ v % 32 ∧ v % 32 ≤ 16 then locked (fun r => { r with n := v % 32, head := 0, tail := 0, phase := true }) s
       else setRing g { r with err := 1 } s)
    else if off = 0x010 then locked (fun r => { r with base := putBits r.base 0 32 (v / 4096 * 4096) }) s
    else if off = 0x014 then locked (fun r => { r with base := putBits r.base 32 32 v }) s
    else if off = 0x018 then
      (if bits v 0 8 = 0 ∨ bits v 8 6 = 0 ∨ 32 < bits v 8 6 then setRing g { r with err := 1 } s
       else setRing g { r with weight := bits v 0 8, burst := bits v 8 6 } s)
    else if off = 0x01C then
      (if bits v 0 8 = 0 then setRing g { r with err := 1 } s else setRing g { r with coalN := bits v 0 8, coalUs := bits v 8 16 } s)
    else s) s

/-- DRAIN (R295, R305): a pending chain wait ends as Chain Wait Aborted; the ring is DISABLED once what was granted has completed. -/
def execDrain (fn n : Nat) (s : State) : Res := .next <|
  ringPage fn n (fun g s =>
    let r := ringAt s g
    if r.state ≠ .active ∧ r.state ≠ .paused then setRing g { r with err := 3 } s
    else
      let s := setRing g { r with state := .draining, pushed := [] } s
      let s := match tget s.win.chains g with
        | none => s
        | some c =>
          let ctr := tgetD (winAt s c.win).ctrs c.ctr 0
          ringDone g c.cid 7 0xA1 none ctr 0 { s with win := { s.win with chains := tdel s.win.chains g } }
      ringSettle g s) s

/-- PAUSE (R295). -/
def execPause (fn n : Nat) (s : State) : Res := .next <|
  ringPage fn n (fun g s =>
    let r := ringAt s g
    if r.state ≠ .active then setRing g { r with err := 3 } s else setRing g { r with state := .paused, pushed := [] } s) s

/-- RESUME (R295). -/
def execRingResume (fn n : Nat) (s : State) : Res := .next <|
  ringPage fn n (fun g s =>
    let r := ringAt s g
    if r.state ≠ .paused then setRing g { r with err := 3 } s else setRing g { r with state := .active, invDone := false } s) s

/-- INVALIDATE (R299). -/
def execInvalidate (fn n : Nat) (s : State) : Res := .next <|
  ringPage fn n (fun g s =>
    let r := ringAt s g
    if r.state ≠ .paused then setRing g { r with err := 3 } s else setRing g { r with pushed := [], invDone := true } s) s

/-- RING_GRANT: the arbiter's next grant (R303); `mem` is what ring memory holds: ring, slot and descriptor. -/
def execRingGrant (mem : List (Nat × Nat × Desc)) (s : State) : Res := .next <|
  if !bitAt (cfg s Reg.RINGS_RINGS_CTL) 0 then s
  else
    let weight (g : Nat) : Nat := min (ringAt s g).weight (cfgAt s Reg.RINGS_FN_WEIGHT_MAX (ringAt s g).fn)
    match s.ep.arb.pick (ringsWork s) weight (fun g => (ringAt s g).burst) (fun g => (ringAt s g).waiting) with
    | (none, _) => s
    | (some (g, n), w) => grantN g mem n { s with ep := { s.ep with arb := w, idle := false, ltrIdle := false } }

/-! ### Descriptors (R296, Table 10) -/

/-- NOP completes; with `FENCE` it is a barrier. -/
def execRingNop (g : Nat) (s : State) : Res := .next (withDesc g 0x00 (fun d s => ringDone g d.slot 0 0 (some false) 0 0 s) s)

/-- NVME_IO: the submission entry fetched from `ENTRY` is executed in the function's association; it waits at the ring while no context is free
(R56). -/
def execNvmeIo (g : Nat) (c : Capsule) (s : State) : Res := .next <|
  match ringAssoc s g with
  | none => s
  | some a =>
    if !mayParse s a.host then s
    else withDesc g 0x01 (fun d s => match submitRing g a.host a.subsys { c with cid := d.slot } s with
      | none => ringDone g d.slot 0 0x82 (some false) 0 0 s
      | some s => s) s

/-- NVME_ADMIN: the entry becomes an admin command of the ring, which its own command executes, on the queue that stands for the ring. -/
def execNvmeAdmin (g : Nat) (s : State) : Res := .next (withDesc g 0x02 (fun _ s => s) s)

/-- MGMT: an MCTP request for the management cores, with a response of so many bytes; PF only. -/
def execMgmt (g rspLen : Nat) (s : State) : Res :=
  .next (withDesc g 0x03 (fun d s => ringDone g d.slot 0 0 (some false) rspLen 0 s) s)

/-- WIN_READ (R297). -/
def execWinRead (g : Nat) (s : State) : Res := .next (withDesc g 0x10 (fun d s => ringAccess g 1 d 0 0 s) s)

/-- WIN_WRITE: `data` is what the source holds (R297). -/
def execWinWrite (g data : Nat) (s : State) : Res := .next (withDesc g 0x11 (fun d s => ringAccess g 0 d data 0 s) s)

/-- WIN_FADD (R297, R219). -/
def execWinFadd (g : Nat) (s : State) : Res := .next (withDesc g 0x12 (fun d s => ringAccess g 2 d (d.add % 2 ^ 64) 0 s) s)

/-- WIN_CAS8 (R297, R219). -/
def execWinCas8 (g : Nat) (s : State) : Res :=
  .next (withDesc g 0x13 (fun d s => ringAccess g 3 d (d.swap % 2 ^ 64) (d.compare % 2 ^ 64) s) s)

/-- WIN_CAS16 (R297, R219). -/
def execWinCas16 (g : Nat) (s : State) : Res :=
  .next (withDesc g 0x14 (fun d s => ringAccess g 4 d (d.swap % 2 ^ 128) (d.compare % 2 ^ 128) s) s)

/-- CHAIN_WAIT: the ring waits for a tally counter (R223, R304). -/
def execChainWait (g : Nat) (s : State) : Res := .next <|
  withDesc g 0x20 (fun d s =>
    let x := winAt s d.win
    let allowed : Bool := match ringAssoc s g, nsAt s x.slot with
      | some a, some n => x.state != 0 && n.subsys == a.subsys && n.hosts.contains a.host
      | _, _ => false
    let v := tgetD x.ctrs d.ctr 0
    if !allowed then ringDone g d.slot 2 0x86 none 0 0 s
    else if x.state ≠ 2 ∨ (ringAt s g).state = .draining then ringDone g d.slot 7 0xA1 none v 0 s
    else if tallyMet v d.target then ringDone g d.slot 0 0 (some false) v 0 s
    else { s with win := { s.win with chains := tset s.win.chains g { win := d.win, ctr := d.ctr, target := d.target, cid := d.slot } } }) s

/-- COAL_DELAY_EXPIRE: the delay since the oldest record not signalled has passed (R302). -/
def execCoalDelayExpire (g : Nat) (s : State) : Res := .next <|
  let r := ringAt s g
  if r.completion ∧ r.arm ∧ r.unsignalled ≠ 0 then msix r.fn r.vector (setRing g { r with unsignalled := 0 } s) else s

end Sys2Proof.Machine
end

