-- ==== Sys2Proof/Machine/Rp.lean ====
section
/-!
DEFINITION. Machine/Rp.lean: the drive ports (spec/12, rows 211 to 223).
-/
namespace Sys2Proof.Machine

/-- PERST_DELAY_EXPIRE (R309, R327): `PERST_DLY_MS` after the later of power-good and the entry to HELD, `PERST_N` is released and the port
enters TRAINING; before release of the engines `PD00` holds it asserted (R406). -/
def execPerstDelayExpire (n : Nat) (s : State) : Res := .next <|
  let p := portAt s n
  if 24 ≤ n ∨ p.state ≠ 1 ∨ !(bayAt s n).pg ∨ !s.pwr.released then s
  else setPort n { p with state := 2 } s

/-- RP_TRAINING_TIMEOUT (R309): 100 ms without L0; the third failure in a row leaves the port UNUSABLE with check 6. -/
def execRpTrainingTimeout (n : Nat) (s : State) : Res := .next <|
  let p := portAt s n
  if p.state ≠ 2 then s
  else if 2 ≤ p.trainFails then portSettled n (portUnusable n 6 (setPort n { p with trainFails := 0 } s))
  else portDown n 1 0 id (setPort n { p with trainFails := p.trainFails + 1 } s)

/-- The first check of Table 3 that a drive fails; 0 when it passes all (R310). -/
def driveCheck (s : State) (d : DriveFacts) : Nat :=
  if d.cls ≠ 0x010802 ∨ d.ver < 0x20000 then 1
  else if !d.ns1 then 2
  else if d.granted < 16 then 3
  else if d.mdtsKib ≠ 0 ∧ d.mdtsKib < 128 then 4
  else if s.pairedNow ∧ (!d.cmic ∨ !d.shared) then 5
  else 0

/-- Steps 3 to 5 of R310: the checks of Table 3, the queues, the label; then the drive's role is decided (R131, R410). -/
def enumerateDrive (n : Nat) (d : DriveFacts) (s : State) : State :=
  let p := { portAt s n with dual := d.cmic }
  match driveCheck s d with
  | 0 => portSettled n (setPort n { p with
      state := 4, check := 0, readyFails := 0, qpairs := min 128 d.granted, depth := min 4096 (d.mqes + 1)
      blocks := d.blocks, serial := d.serial, label := d.label } s)
  | c => portSettled n (portUnusable n c (setPort n p s))

/-- RP_LINK_UP (R310): the port reaches L0 and starts to enumerate. -/
def execRpLinkUp (n width rate : Nat) (flit : Bool) (s : State) : Res := .next <|
  let p := portAt s n
  if p.state ≠ 2 then s
  else rpEvent n 0x01 [1, width] (setPort n { p with
    state := 3, link := true, width := width, rate := rate, flit := flit, trainFails := 0 } s)

/-- DRIVE_READY (R310 steps 3 to 5, with DRIVE_IDENTITY_JUDGE of R131 and ASSEMBLY_COMPLETE of R410): CSTS.RDY is 1 in time, and the port goes
on to its checks, queues and label. -/
def execDriveReady (n : Nat) (d : DriveFacts) (s : State) : Res := .next <|
  if (portAt s n).state = 3 then enumerateDrive n d s else s

/-- DRIVE_READY_TIMEOUT (R310): CSTS.RDY not in time; the third in a row leaves the port UNUSABLE with check 7. -/
def execDriveReadyTimeout (n : Nat) (s : State) : Res := .next <|
  let p := portAt s n
  if p.state ≠ 3 then s
  else if 2 ≤ p.readyFails then portSettled n (portUnusable n 7 (setPort n { p with readyFails := 0 } s))
  else portDown n 1 0 id (setPort n { p with readyFails := p.readyFails + 1 } s)

/-- DRIVE_FORMAT_COMPLETE (R311): the drive's labels are written where it is ACTIVE, and its filling may start. -/
def execDriveFormatComplete (n : Nat) (s : State) : Res := .next <|
  let m := memberAt s n
  if !m.formatting then s
  else
    let s := setMember n { m with formatting := false } s
    let s := match (s.store.cmds.find? fun p => p.2.bay == n && p.2.body == .op 4 1) with
      | none => s
      | some p => freeCmd p.1 s
    if m.state = 2 then writeLabels s else s

/-- The blocks of a read that timed out. -/
def noBlocks (n : Nat) : List Raw := List.replicate n { ok := false }

/-- What becomes of a request that timed out once (R313): a strip read is reconstructed, a strip write plans its flush again, a request of
the partner fails, a preempting Acquire counts as not won, and every other command is issued once more. -/
def timedOut (n : Nat) (c : DrvCmd) (s : State) : State :=
  match c.purpose with
  | .read j strip rows _ => settleFailed (takeRead j strip rows (noBlocks rows.length) s)
  | .flushWrite k =>
    replan k false (setPort n { portAt s n with retried := (portAt s n).retried ++ [k] } s)
  | .remote t => zsend (.stripRsp t false []) s
  | _ => match c.body with
    | .op 2 _ => s
    | _ => portCmd { c with firstTry := false } s

/-- RP_COMMAND_TIMEOUT (R313, with PORT_RECOVERY): a drive command, or with `tlp` a non-posted TLP (`again`: one issued once more), times
out: its tag is quarantined, an Abort sent for a command, and the request dealt with; a second timeout, or `TO_ESCALATE` within 1 s, starts
port recovery. -/
def execRpCommandTimeout (n tag : Nat) (tlp again : Bool) (s : State) : Res := .next <|
  let k := n * 16384 + tag % 16384
  let p := portAt s n
  let busy := tget s.store.cmds k
  if 24 ≤ n ∨ !p.perstRel ∨ (if tlp then busy.isSome else busy.elim true fun c => c.quarantined) then s
  else
    let c : DrvCmd := busy.getD { bay := n, write := false, lba := 0, n := 0, purpose := .other, body := .op 0 0, discard := true, firstTry := !again }
    let times := (p.timeouts.filter fun t => decide (s.time < t + 1000000000)) ++ [s.time]
    let s := setPort n { p with timeouts := times } s
    let s := bump (Reg.RP_CMD_TIMEOUTS n) (errLast (0x30 + n) 0x11 0 3 s)
    let second := !c.firstTry || (match c.purpose with
      | .flushWrite f => p.retried.contains f
      | _ => false)
    let s := if tlp then s else drive (.driveOp k n 5 (tag % 16384)) s
    if second ∨ cfg s (Reg.RP_TO_ESCALATE n) ≤ times.length then portRecover n s
    else
      let s := { s with store := { s.store with cmds := tset s.store.cmds k { c with quarantined := true, discard := true } } }
      if c.discard then s else timedOut n c s

/-- Whether a tag of a port is quarantined. -/
def quarantinedTag (s : State) (k : Nat) : Bool := (tget s.store.cmds k).elim false fun c => c.quarantined

/-- RP_TAG_QUARANTINE_END (R314): 4 × `CTO_MS` after issue the tag is released. -/
def execRpTagQuarantineEnd (n tag : Nat) (s : State) : Res := .next <|
  let k := n * 16384 + tag % 16384
  if quarantinedTag s k then freeCmd k s else s

/-- RP_LATE_COMPLETION (R314). -/
def execRpLateCompletion (n tag : Nat) (s : State) : Res := .next <|
  let k := n * 16384 + tag % 16384
  if quarantinedTag s k then lateCompletion k s else s

/-- RP_LATE_DATA (R314): an inbound write to the aperture of a quarantined tag goes nowhere. -/
def execRpLateData (n tag : Nat) (s : State) : Res := .next <|
  if quarantinedTag s (n * 16384 + tag % 16384) then bump (Reg.RP_LATE_DATA n) s else s

/-- RP_CONTAIN (R315): codes 0x12 to 0x15. The port contains when `CONTAIN_EN` = 1; otherwise the TLP is discarded and logged. Any other
code is a correctable error, which is only counted. -/
def execRpContain (n code : Nat) (s : State) : Res := .next <|
  if 24 ≤ n ∨ !(portAt s n).perstRel then s
  else if code < 0x12 ∨ 0x15 < code then bump (Reg.RP_CORR_ERRS n) s
  else
    let s := errLast (0x30 + n) code 0 3 s
    if !bitAt (cfg s (Reg.RP_RP_CTL n)) 2 then s
    else
      let s := bump (Reg.RP_CONTAINS n) (rpEvent n 0x04 [code] s)
      portDown n 5 0 (portDepart n) s

/-- RP_CONTAIN_END (R315): 100 ms after containment the port goes to HELD. -/
def execRpContainEnd (n : Nat) (s : State) : Res := .next <|
  let p := portAt s n
  if p.state = 5 then setPort n { p with state := 1 } s else s

/-- RP_LINK_LOSS (R316): a link-down the port did not initiate (`allOnes` false), or a register read of 0xFFFF_FFFF. -/
def execRpLinkLoss (n : Nat) (allOnes : Bool) (s : State) : Res := .next <|
  let p := portAt s n
  if p.state ≠ 3 ∧ p.state ≠ 4 then s
  else
    let s := bump (Reg.RP_LINK_DOWNS n) (rpEvent n 0x06 [b2n allOnes] s)
    portDown n 1 0 (portDepart n) s

/-- RP_IDLE (R317): `IDLE_US` without a TLP narrows the link to x1, with `L0P_EN` = 1; the next request widens it. -/
def execRpIdle (n : Nat) (s : State) : Res := .next <|
  let p := portAt s n
  if p.state ≠ 4 ∨ p.narrow ∨ !bitAt (cfg s (Reg.RP_RP_CTL n)) 1 then s
  else bump (Reg.RP_L0P_ENTRIES n) (setPort n { p with narrow := true } s)

end Sys2Proof.Machine
end

