-- ==== Sys2Proof/Machine/Telem.lean ====
section
/-!
DEFINITION. Machine/Telem.lean: the commands of events, telemetry and the management interfaces (spec/17,
spec/19).
-/
namespace Sys2Proof.Machine

/-- EVENT_TOKEN_TICK (R420): every bucket gains a token, up to `EVT_BURST`. -/
def execEventTokenTick (s : State) : Res :=
  let b := cfg s Reg.TELEM_EVT_BURST
  .next { s with evt := { s.evt with
    tokens := tmap s.evt.tokens fun _ t => if t < b then t + 1 else t
    tokenDflt := if s.evt.tokenDflt < b then s.evt.tokenDflt + 1 else s.evt.tokenDflt } }

/-- SUPPRESSION_REPORT (R420): event 0x0501 with the count suppressed since the source's last one. -/
def execSuppressionReport (code inst : Nat) (s : State) : Res :=
  match tget s.evt.suppressed (evSource code inst) with
  | none => .next s
  | some n =>
    .next (raise 0x0501 (leBytes 2 code ++ [inst] ++ leBytes 4 n)
      { s with evt := { s.evt with suppressed := tdel s.evt.suppressed (evSource code inst) } })

/-- EVENT_N_SPACING_END (R421). -/
def execEventNSpacingEnd (s : State) : Res :=
  .next (updateEventN false { s with evt := { s.evt with eventNSpacing := false } })

/-- MSIX_SPACING_END (R421): the vector may be written again; a merged message is sent now. -/
def execMsixSpacingEnd (fn vec : Nat) (s : State) : Res :=
  let k := vecKey fn vec
  let s := { s with evt := { s.evt with msixBusy := s.evt.msixBusy.filter (· != k) } }
  if s.evt.msixPend.contains k then
    .next (msix fn vec { s with evt := { s.evt with msixPend := s.evt.msixPend.filter (· != k) } })
  else .next s

/-- The header of a snapshot record (R422, Table 1a): the fields it names, in byte order. -/
def snapHeader (count part parts time seq : Nat) : List Nat :=
  [0xF, 1, 0, 1, count, part, parts, time, seq]

/-- Write the parts of a snapshot, at most 64 dwords each (R422). -/
def snapParts (ring parts time seq : Nat) : Nat → Nat → List Nat → State → State
  | 0, _, _, s => s
  | k + 1, i, ds, s =>
    let part := ds.take 64
    snapParts ring parts time seq k (i + 1) (ds.drop 64)
      (telWrite ring (snapHeader part.length i parts time seq) part s)

/-- The dwords of the snapshot list, read without side effects. -/
def snapRead : List Nat → State → List Nat × State
  | [], s => ([], s)
  | a :: as, s =>
    let (v, s) := regValue .management ⟨a / 65536 % 256, a % 65536 / 4 * 4⟩ s
    let (vs, s) := snapRead as s
    (v :: vs, s)

/-- SNAPSHOT (R422): every valid entry of the snapshot list is read at one instant and written to `SNAP_RING` as
max(1, ⌈n / 64⌉) records; nothing while `SNAP_EN` = 0. -/
def execSnapshot (s : State) : Res :=
  if !bitAt (cfg s Reg.TELEM_TELEM_CTL) 0 then .next s
  else
    let as := ((List.range 256).map fun i => cfgAt s Reg.TELEM_SNAP_ADDR i).filter fun a => bitAt a 0
    let (es, s) := snapRead as s
    let parts := max 1 (ceilDiv es.length 64)
    let seq := s.evt.snapSeq
    .next (snapParts (cfg s Reg.TELEM_SNAP_RING % 16) parts s.time seq parts 0 es
      { s with evt := { s.evt with snapSeq := seq + 1 } })

/-- Whether a vendor command reaches the management cores on an interface: the management port only inside a
secured session, the management target only while enabled (R423, R424, TOP_CTL). -/
def vendorServed (ifc : MgmtIf) (req : Nat) (s : State) : Bool :=
  match ifc with
  | .mgmtPort => bitAt (cfg s Reg.TELEM_MP_CTL) 0 && bitAt (cfg s Reg.TRUST_TRUST_CTL) 1 && thas s.trust.sessions req
  | .mgmtTarget => bitAt (cfg s Reg.TOP_TOP_CTL) 1
  | _ => true

/-- Whether the controller accepts `WRITE_REG`, `PLAT_DATA` and `PLAT_END` (R424). -/
def vendorWriteOk (ifc : MgmtIf) (req : Nat) (s : State) : Bool :=
  tgetD s.trust.sessions req false ||
    ((ifc == .mgmtTarget || ifc == .mgmtRing) && !bitAt (cfg s Reg.TELEM_TELEM_CTL) 1)

/-- Answer a vendor command. -/
def vendorReply (ifc : MgmtIf) (req status : Nat) (data : List Nat) (recs : List EvRec) (s : State) : State :=
  drive (.vendor ifc.code req status data recs) s

/-- The register at a window offset. -/
def windowReg (off : Nat) : RegId := ⟨off / 65536, off % 65536⟩

/-- Read `n` dwords of the window in ascending order on the management path (R453). -/
def readDwords : Nat → Nat → State → List Nat × State
  | 0, _, s => ([], s)
  | n + 1, off, s =>
    let (v, s) := regRead .management (windowReg off) s
    let (vs, s) := readDwords n (off + 4) s
    (v :: vs, s)

/-- Whether a register access of `n` dwords lies in the window, aligned (R443, R453). -/
def windowRangeOk (off n : Nat) : Bool :=
  decide (off % 4 = 0) && decide (1 ≤ n) && decide (n ≤ 64) && decide (off + 4 * n ≤ 0x1000000)

/-- READ_REG (R424). -/
def execReadReg (ifc : MgmtIf) (req off n : Nat) (s : State) : Res :=
  if !vendorServed ifc req s then .next s
  else if !windowRangeOk off n then .next (vendorReply ifc req 2 [] [] s)
  else
    let (vs, s) := readDwords n off s
    .next (vendorReply ifc req 0 vs [] s)

/-- Write dwords of the window in ascending order on the management path. -/
def writeDwords : List Nat → Nat → State → State
  | [], _, s => s
  | v :: vs, off, s => writeDwords vs (off + 4) (regWriteFull .management (windowReg off) 0xF v s)

/-- WRITE_REG (R424): the effect of the same writes through the management window, when authorised. -/
def execWriteReg (ifc : MgmtIf) (req off : Nat) (data : List Nat) (s : State) : Res :=
  if !vendorServed ifc req s then .next s
  else if !vendorWriteOk ifc req s then .next (vendorReply ifc req 1 [] [] s)
  else if !windowRangeOk off data.length then .next (vendorReply ifc req 2 [] [] s)
  else .next (vendorReply ifc req 0 [] [] (writeDwords data off s))

/-- PLAT_DATA (R424): at offset 0 a new delivery starts and a partial one is discarded; any other offset must
equal the bytes delivered so far; the NOR writes are programmed with the outcome given. -/
def execPlatData (ifc : MgmtIf) (req off : Nat) (data : List Nat) (norOk : Bool) (s : State) : Res :=
  if !vendorServed ifc req s then .next s
  else if !vendorWriteOk ifc req s then .next (vendorReply ifc req 1 [] [] s)
  else if data.isEmpty ∨ 1024 < data.length then .next (vendorReply ifc req 2 [] [] s)
  else if s.datum.loading then .next (vendorReply ifc req 4 [] [] s)
  else if off ≠ 0 ∧ (off ≠ s.datum.platBytes.length ∨ s.datum.platDone) then .next (vendorReply ifc req 3 [] [] s)
  else if !norOk then .next (vendorReply ifc req 5 [] [] s)
  else
    let old := if off = 0 then [] else s.datum.platBytes
    .next (vendorReply ifc req 0 [] []
      { s with datum := { s.datum with platBytes := old ++ data, platDone := false } })

/-- PLAT_END (R424): the delivery is complete when its length equals the bytes delivered. -/
def execPlatEnd (ifc : MgmtIf) (req len : Nat) (s : State) : Res :=
  if !vendorServed ifc req s then .next s
  else if !vendorWriteOk ifc req s then .next (vendorReply ifc req 1 [] [] s)
  else if len ≠ s.datum.platBytes.length ∨ len = 0 then .next (vendorReply ifc req 3 [] [] s)
  else .next (vendorReply ifc req 0 [] [] { s with datum := { s.datum with platDone := true } })

/-- EVENT_READ (R424): up to `n` unread records of a queue, whose head moves past them. -/
def execEventRead (ifc : MgmtIf) (req q n : Nat) (s : State) : Res :=
  if !vendorServed ifc req s then .next s
  else if 63 < q ∨ n = 0 ∨ 32 < n then .next (vendorReply ifc req 2 [] [] s)
  else
    let rs := (tgetD s.evt.queues q {}).recs.take n
    .next (vendorReply ifc req 0 [] rs (qAdvance q rs.length s))

/-- SM_HEARTBEAT (R425). -/
def execSmHeartbeat (p : Path) (s : State) : Res := .next (cmdWrite p Reg.TELEM_SM_HEARTBEAT smHeartbeatOp s)

/-- SM_HEARTBEAT_MISS (R425): event 0x6004 and nothing else; not while `SM_HB_S` is 0. -/
def execSmHeartbeatMiss (s : State) : Res :=
  if cfg s Reg.TELEM_SM_HB_S = 0 then .next s
  else .next (raise 0x6004 (leBytes 4 ((s.time - s.evt.lastHeartbeat) / 1000000000))
    { s with evt := { s.evt with hbMissed := true } })

/-- PMBUS_POLL (R423): current, temperature and STATUS_WORD of the regulator; a fault raises event 0x6002. -/
def execPmbusPoll (ok : Bool) (amps status : Nat) (s : State) : Res :=
  let s := { s with evt := { s.evt with pmbusOk := ok } }
  if !ok then .next s
  else
    let s := wr Reg.PWR_CORE_A amps s
    .next (if status = 0 then s else raise 0x6002 (leBytes 2 status) s)

/-- MGMT_PORT_LINK_CHANGE (R423). -/
def execMgmtPortLinkChange (up : Bool) (s : State) : Res :=
  .next (raise 0x6003 [b2n up] { s with evt := { s.evt with mpLink := up } })

/-- TR_HEAD_WRITE (R422). -/
def execTrHeadWrite (p : Path) (v : Nat) (s : State) : Res :=
  .next (cmdWrite p Reg.TELEM_TR_HEAD (trHeadOp p v) s)

/-- Q_HEAD_WRITE (R459). -/
def execQHeadWrite (p : Path) (v : Nat) (s : State) : Res := .next (cmdWrite p Reg.EVT_Q_HEAD (qHeadOp p v) s)

/-- EVT_FORCE (R448). -/
def execEvtForce (p : Path) (page mask : Nat) (s : State) : Res :=
  .next (cmdWrite p (Reg.HDR_EVT_FORCE page) (evtForceOp page mask) s)

/-- Read a register on a path and drive the value to the reader. -/
def regReadOut (p : Path) (r : RegId) (s : State) : State :=
  let (v, s) := regRead p r s
  drive (.readData p.code v) s

/-- LO_READ_LATCH (R453): reading a `_LO` register latches its `_HI` half in the reading path's latch. -/
def execLoReadLatch (p : Path) (page off : Nat) (s : State) : Res := .next (regReadOut p ⟨page, off⟩ s)

/-- CAD_ENTRY_READ (R454): reading `CAD_ENTRY[0]` latches the other three dwords of the selected entry. -/
def execCadEntryRead (p : Path) (s : State) : Res := .next (regReadOut p Reg.CADASTRE_CAD_ENTRY_0 s)

/-- MCTP_EID_ASSIGN (R423): the bus owner assigns the management target's endpoint ID. -/
def execMctpEidAssign (eid : Nat) (s : State) : Res :=
  .next { s with evt := { s.evt with mctpEid := eid } }

end Sys2Proof.Machine
end

