-- ==== Sys2Proof/Machine/Vault.lean ====
section
/-!
DEFINITION. Machine/Vault.lean: power failure, the vault dump and its replay (spec/03, rows 37 to 45).
-/
namespace Sys2Proof.Machine

/-- PWRFAIL_N_FALL: the filter starts (R79). -/
def execPwrfailNFall (s : State) : Res := .next <|
  if s.vault.accepted then s else { s with vault := { s.vault with pfLow := true } }

/-- PWRFAIL_GLITCH: high again before the filter ends; counted (R79). -/
def execPwrfailGlitch (s : State) : Res := .next <|
  if s.vault.pfLow ∧ !s.vault.accepted then bump Reg.CACHE_PF_GLITCHES { s with vault := { s.vault with pfLow := false } } else s

/-- POWER_FAILURE_ACCEPT: low for `PF_FILTER_US` (R79, R80). -/
def execPowerFailureAccept (s : State) : Res := .next <| if s.vault.pfLow then acceptPower 0 s else s

/-- FEED_MONITOR_FAIL: both feeds bad for 10 µs, with `PF_FEED_EN` = 1 (R79). -/
def execFeedMonitorFail (s : State) : Res := .next <|
  if bitAt (cfg s Reg.CACHE_CACHE_CTL) 4 then acceptPower 1 s else s

/-- SERDES_OFF_TIMER: 100 µs after acceptance the network and Zeber SerDes go off (R82). -/
def execSerdesOffTimer (s : State) : Res := .next <|
  if s.vault.accepted ∧ !s.vault.serdesOff then
    zebLost ((List.range 8).foldl (fun s g => netGroupDown g s) { s with vault := { s.vault with serdesOff := true } })
  else s

/-- VAULT_HEADER_WRITING: the drive commands in flight have finished; the header is written WRITING on every vault member, and the
records follow (R82, Table 7, R87). -/
def execVaultHeaderWriting (s : State) : Res := .next <|
  if !s.vault.dumping ∨ s.vault.dumpDone ∨ (s.vault.img.state = 1 ∧ s.vault.img.tAccept = s.vault.acceptAt) ∨ (s.store.cmds.any fun c => !c.2.discard) ∨ s.store.cmdWait ≠ [] then s
  else
    let s := writeHeader { s with vault := { s.vault with img := buildImage s } }
    ((maskBays (curMask s)).filter (memberPresent s)).foldl (fun s b =>
      issueSys b .other (.vaultRecords s.vault.img.data.length) s) s

/-- The reset that waited for the dump (R83, R407, R408, R413). -/
def afterDump (s : State) : State :=
  match s.pwr.resetAfterDump with
  | some 1 => coldHold 1 s
  | some k => warmReset k s
  | none => if s.pwr.shuttingDown then shutdownFinish true s else s

/-- VAULT_DUMP_COMPLETE: END written, drives flushed, the header COMPLETE (R82): event 0x2203. After the loss of `REFCLK_SYS` the families
stop then (R20). -/
def execVaultDumpComplete (s : State) : Res := .next <|
  if !s.vault.dumping ∨ s.vault.dumpDone ∨ s.vault.img.state ≠ 1 then s
  else
    let us := (s.time - s.vault.acceptAt) / 1000
    let s := writeHeader { s with vault := { s.vault with
      dumpDone := true, img := { s.vault.img with state := 2, tComplete := s.time } } }
    let s := raise 0x2203 (leBytes 8 s.vault.img.dumpBytes ++ leBytes 4 us) (wr Reg.CACHE_LAST_DUMP_US us s)
    afterDump (if s.pwr.refBad.contains 0 then famStop s else s)

/-- POST_DUMP_RESET_TIMER: rails still good 100 ms after COMPLETE; a warm reset replays the vault (R83). After a FATAL dump R412 alone
decides, and where no image was written there is no COMPLETE to count from (R86). -/
def execPostDumpResetTimer (s : State) : Res := .next <|
  if s.vault.accepted ∧ s.vault.dumping ∧ s.vault.dumpDone ∧ s.vault.source ≠ 2 ∧ s.pwr.railsBad = [] then warmReset 5 s else s

/-! ### Replay (R88 to R92) -/

/-- The partner's copy of a block, from its COMPLETE image (R90). -/
def partnerBlock (partner : Option VaultImg) (slot lba : Nat) : Option VData :=
  match partner with
  | none => none
  | some p => if p.state ≠ 2 then none else p.data.find? fun d => d.slot == slot && d.lba == lba

/-- The ranges of record keys between verified records that are not consecutive, and past the last where END is missing (R90). -/
def unknownRanges (img : VaultImg) (good : List Nat) (endOk : Bool) : List (Nat × Nat) :=
  let key (i : Nat) : Nat := (img.data[i]?).elim 0 vdKey
  let (prev, rs) := good.foldl (fun (acc : Option Nat × List (Nat × Nat)) i =>
    (some i, match acc.1 with
      | none => if i = 0 then acc.2 else acc.2 ++ [(0, key i)]
      | some a => if i = a + 1 then acc.2 else acc.2 ++ [(key a + 1, key i)])) (none, [])
  if endOk then rs else rs ++ [((prev.elim 0 fun a => key a + 1), 2 ^ 65)]

/-- Whether a parcel of own data has a block in an unknown range. -/
def parcelUnknown (rs : List (Nat × Nat)) (slot p : Nat) : Bool :=
  rs.any fun r => decide (r.1 ≤ slot * 2 ^ 48 + p * 16384 + 16383) && decide (slot * 2 ^ 48 + p * 16384 < r.2)

/-- Restore what META holds (R88 step 4): admission counters never fall; windows return BOUND with every page ABSENT, and a key that was REVOKING
is FREE (R224). -/
def restoreMeta (img : VaultImg) (s : State) : State :=
  let s := img.adms.foldl (fun s p => modNs p.1 (fun n => { n with adm := max n.adm p.2 }) s) s
  let s := img.resvs.foldl (fun s p => modNs p.1 (fun n => { n with resv := p.2 }) s) s
  let s := img.ents.foldl (fun s p => { s with store := { s.store with
    cad := tset s.store.cad p.1 { p.2 with gen := max p.2.gen (entAt s p.1).gen } } }) s
  { s with
    trav := { s.trav with outcomes := img.outcomes }
    win := { s.win with
      windows := (img.windows.filter fun w => w.2.state != 1).map fun w => (w.1, { w.2 with state := 2 })
      keys := tmap img.keys fun _ k => if k.state = 2 then { state := 0, tag := k.tag } else { k with inflight := 0 }
      pages := [] } }

/-- Land blocks of an image in ascending admission order of each block. -/
def landAll (ds : List VData) (s : State) : State :=
  ds.foldl (fun s d =>
    match visCell s d.slot d.lba with
    | some c => if c.dirty ∧ d.adm < c.adm then s else landForced d.slot d.lba d.adm d.blk s
    | none => landForced d.slot d.lba d.adm d.blk s) s

/-- Step 9 and 10 of R88, after step 8 where an image was replayed: the vault rate check, and the namespaces are ready (R92). -/
def replayFinish (rate ms : Nat) (s : State) : State :=
  let s :=
    if s.vault.img.state = 1 ∨ s.vault.img.state = 2 then
      let s := writeHeader { s with vault := { s.vault with img := { s.vault.img with state := 3 } } }
      raise 0x2206 (leBytes 8 s.vault.replayed ++ leBytes 4 ms) (wr Reg.CACHE_LAST_REPLAY_MS ms s)
    else s
  let s := (s.store.unret.filter fun r => match r.body with
    | .closure .. => true
    | _ => false).foldl (fun s r => journalRetire r.jseq s) s
  let s :=
    if vaultShort s then s
    else
      let s := { s with vault := { s.vault with rate := rate, rateRun := true } }
      if rate < 240000 then raise 0x2207 (leBytes 4 rate) s else s
  let online := (s.time - s.pwr.startAt) / 1000000
  let s := raise 0x0401 (leBytes 4 online) (wr Reg.RST_T_ONLINE_MS online s)
  let s := s.win.windows.foldl (fun s w => pinFault w.1 s) s
  limitEval { s with
    vault := { s.vault with replaying := false }
    nvm := { s.nvm with nss := tmap s.nvm.nss fun k n => { n with ready := n.ready || (ownsNs s n && !pinPending s k) } }
    pwr := { s.pwr with serving := true, online := true } }

/-- Steps 1 to 7 of R88: the image selected, unwrapped, read and placed in frames, open stripes closed, and every replayed frame queued
for its flush (R89, R90, R147). `unread` names DATA records that do not verify, `raws` the strips of each unretired record: by
`JSEQ`, and for the partner's, which are closed where its content is adopted, by 2^64 + `JSEQ`. -/
def replayImage (keyOk metaOk endOk : Bool) (unread : List Nat) (partner : Option VaultImg) (raws : Tab (Tab Raw)) (s : State) : State :=
  let img := s.vault.img
  let adopt := partner.elim true fun p => p.state != 2
  let s :=
    if img.state ≠ 1 ∧ img.state ≠ 2 then { s with vault := { s.vault with lastRestart := 0 } }
    else if !keyOk then { s with vault := { s.vault with lastRestart := 4 } }
    else
      let idx := (List.range img.data.length).filter fun i => (img.data[i]?).elim false fun d => d.source == 0 || adopt
      let good := idx.filter fun i => !unread.contains i
      let bad := (idx.filter fun i => unread.contains i).filterMap fun i => img.data[i]?
      let s := if metaOk then restoreMeta img s else s
      let s := landAll (good.filterMap fun i => img.data[i]?) s
      let found := bad.filterMap fun d => partnerBlock partner d.slot d.lba
      let gone := bad.filter fun d => (partnerBlock partner d.slot d.lba).isNone
      let s := landAll found s
      let (lost, s) :=
        if metaOk ∨ img.state = 2 then
          (gone.length, gone.foldl (fun s d => lossAdd d.slot 4 d.lba 1 s) s)
        else if adopt then
          let rs := unknownRanges img good endOk
          s.nvm.nss.foldl (fun (acc : Nat × State) p => (List.range p.2.parcels).foldl (fun (acc : Nat × State) q =>
            if parcelUnknown rs p.1 q then (acc.1 + 16384, lossAdd p.1 4 (q * 16384) 16384 acc.2) else acc) acc) (0, s)
        else (0, s)
      let s := { s with vault := { s.vault with
        replayed := good.length + found.length
        lastRestart := if lost ≠ 0 then 3 else if found ≠ [] then 2 else 1 } }
      let s := if found ≠ [] then raise 0x2204 (leBytes 4 found.length) s else s
      if lost ≠ 0 then raise 0x2205 (leBytes 4 lost) s else s
  let s := (s.store.unret.filter fun r => match r.body with
    | .stripe .. => true
    | _ => false).foldl (fun s r => closeRecord r (tgetD raws r.jseq []) s) s
  let s := if (img.state = 1 ∨ img.state = 2) ∧ keyOk ∧ metaOk ∧ adopt then
      closePartner (img.journal.filter fun r => r.ctrl != s.pwr.ctrlId) (fun j => tgetD raws (2 ^ 64 + j) []) s
    else s
  { s with
    vault := { s.vault with replaying := true }
    store := { s.store with frames := tmap s.store.frames fun _ f => { f with queued := true } } }

/-- VAULT_REPLAY (R88): once assembled, the replay runs to step 7; steps 8 to 10 follow when every replayed block is on the members,
at once where there is none. -/
def execVaultReplay (keyOk metaOk endOk : Bool) (unread : List Nat) (partner : Option VaultImg) (raws : Tab (Tab Raw)) (rate ms : Nat) (s : State) : Res := .next <|
  if !s.pwr.released ∨ s.pwr.assembling ∨ s.vault.accepted ∨ s.pwr.serving ∨ s.pwr.fatal ∨ 2 ≤ s.trust.kekDbg then s
  else
    let s := if s.vault.replaying then s else replayImage keyOk metaOk endOk unread partner raws s
    if dirtyBlocks s = 0 then replayFinish rate ms s else s

end Sys2Proof.Machine
end

