-- ==== Sys2Proof/Machine/Dispatch.lean ====
section
/-!
DEFINITION. Machine/Dispatch.lean: the command selects its meaning.
-/
namespace Sys2Proof.Machine
open Sys2Proof

/-- A command's effect on everything but the queue of waiting commands. -/
def exec (i : Instr) (s : State) : Host.Outcome State Fault Refusal :=
  match i with
  | .chipletLinkFail => Sys2Proof.Machine.execChipletLinkFail s
  | .hbmStackFault stack => Sys2Proof.Machine.execHbmStackFault stack s
  | .engineRuntimeFail k no => Sys2Proof.Machine.execEngineRuntimeFail k no s
  | .lockstepDisagree => Sys2Proof.Machine.execLockstepDisagree s
  | .refclkOutOfTolerance ref ppm => Sys2Proof.Machine.execRefclkOutOfTolerance ref ppm s
  | .refclkRestored ref => Sys2Proof.Machine.execRefclkRestored ref s
  | .crystalFail => Sys2Proof.Machine.execCrystalFail s
  | .connect conn cid nqn subsys station cntlid qid size kato => Sys2Proof.Machine.execConnect conn cid nqn subsys station cntlid qid size kato s
  | .keepAlive cntlid cid => Sys2Proof.Machine.execKeepAlive cntlid cid s
  | .keepAliveExpire cntlid => Sys2Proof.Machine.execKeepAliveExpire cntlid s
  | .namespaceCreate q cid nsze ncap flbas shared vendor => Sys2Proof.Machine.execNamespaceCreate q cid nsze ncap flbas shared vendor s
  | .namespaceActive slot => Sys2Proof.Machine.execNamespaceActive slot s
  | .namespaceDelete q cid nsid => Sys2Proof.Machine.execNamespaceDelete q cid nsid s
  | .namespaceDeleteComplete slot => Sys2Proof.Machine.execNamespaceDeleteComplete slot s
  | .parcelReleased idx => Sys2Proof.Machine.execParcelReleased idx s
  | .namespaceAttach q cid nsid cntlids => Sys2Proof.Machine.execNamespaceAttach q cid nsid cntlids s
  | .namespaceDetach q cid nsid cntlids => Sys2Proof.Machine.execNamespaceDetach q cid nsid cntlids s
  | .identify q cid cns nsid => Sys2Proof.Machine.execIdentify q cid cns nsid s
  | .read q cid nsid opc fuse slba nlb => Sys2Proof.Machine.execRead q cid nsid opc fuse slba nlb s
  | .write q cid nsid fuse slba nlb => Sys2Proof.Machine.execWrite q cid nsid fuse slba nlb s
  | .writeZeroes q cid nsid slba nlb => Sys2Proof.Machine.execWriteZeroes q cid nsid slba nlb s
  | .datasetManagement q cid nsid dealloc ranges => Sys2Proof.Machine.execDatasetManagement q cid nsid dealloc ranges s
  | .flush q cid nsid => Sys2Proof.Machine.execFlush q cid nsid s
  | .reservationRegister q cid nsid action cur new ignoreKey => Sys2Proof.Machine.execReservationRegister q cid nsid action cur new ignoreKey s
  | .reservationAcquire q cid nsid action cur pre rtype ignoreKey => Sys2Proof.Machine.execReservationAcquire q cid nsid action cur pre rtype ignoreKey s
  | .reservationRelease q cid nsid action cur rtype ignoreKey => Sys2Proof.Machine.execReservationRelease q cid nsid action cur rtype ignoreKey s
  | .reservationReport q cid nsid => Sys2Proof.Machine.execReservationReport q cid nsid s
  | .stakeConditionedWrite q cid nsid fuse slba nlb stake => Sys2Proof.Machine.execStakeConditionedWrite q cid nsid fuse slba nlb stake s
  | .contextFreed => Sys2Proof.Machine.execContextFreed s
  | .writeBlockPlaced id lba data => Sys2Proof.Machine.execWriteBlockPlaced id lba data s
  | .writerTakeEffect id => Sys2Proof.Machine.execWriterTakeEffect id s
  | .writerFail id access => Sys2Proof.Machine.execWriterFail id access s
  | .gatherAgeExpire slot parcel stripe => Sys2Proof.Machine.execGatherAgeExpire slot parcel stripe s
  | .flushStart => Sys2Proof.Machine.execFlushStart s
  | .journalRecordWritten slot parcel stripe => Sys2Proof.Machine.execJournalRecordWritten slot parcel stripe s
  | .flushStripsDone slot parcel stripe => Sys2Proof.Machine.execFlushStripsDone slot parcel stripe s
  | .memoryError kind slot lba => Sys2Proof.Machine.execMemoryError kind slot lba s
  | .pwrfailNFall => Sys2Proof.Machine.execPwrfailNFall s
  | .pwrfailGlitch => Sys2Proof.Machine.execPwrfailGlitch s
  | .powerFailureAccept => Sys2Proof.Machine.execPowerFailureAccept s
  | .feedMonitorFail => Sys2Proof.Machine.execFeedMonitorFail s
  | .serdesOffTimer => Sys2Proof.Machine.execSerdesOffTimer s
  | .vaultHeaderWriting => Sys2Proof.Machine.execVaultHeaderWriting s
  | .vaultDumpComplete => Sys2Proof.Machine.execVaultDumpComplete s
  | .postDumpResetTimer => Sys2Proof.Machine.execPostDumpResetTimer s
  | .vaultReplay keyOk metaOk endOk unread partner raws rate ms => Sys2Proof.Machine.execVaultReplay keyOk metaOk endOk unread partner raws rate ms s
  | .driveReadComplete tag raws => Sys2Proof.Machine.execDriveReadComplete tag raws s
  | .driveWriteComplete tag ok => Sys2Proof.Machine.execDriveWriteComplete tag ok s
  | .deadlineExpire tag => Sys2Proof.Machine.execDeadlineExpire tag s
  | .parityJobDone j => Sys2Proof.Machine.execParityJobDone j s
  | .sequencerFail no => Sys2Proof.Machine.execSequencerFail no s
  | .cadastrePersistTimer idx => Sys2Proof.Machine.execCadastrePersistTimer idx s
  | .formatStripe slot parcel => Sys2Proof.Machine.execFormatStripe slot parcel s
  | .layoutStatus q cid nsid => Sys2Proof.Machine.execLayoutStatus q cid nsid s
  | .memberDepart bay cause both => Sys2Proof.Machine.execMemberDepart bay cause both s
  | .rehomeDone bay => Sys2Proof.Machine.execRehomeDone bay s
  | .homeCopyRelocate seg => Sys2Proof.Machine.execHomeCopyRelocate seg s
  | .returnWaitExpire bay => Sys2Proof.Machine.execReturnWaitExpire bay s
  | .heldRowReplan slot parcel stripe => Sys2Proof.Machine.execHeldRowReplan slot parcel stripe s
  | .memberFail p => Sys2Proof.Machine.execFail p s
  | .memberAdmit p => Sys2Proof.Machine.execAdmit p s
  | .resyncFull p => Sys2Proof.Machine.execResyncFull p s
  | .rebuildStripe raws => Sys2Proof.Machine.execRebuildStripe raws s
  | .lossMap q cid nsid => Sys2Proof.Machine.execLossMap q cid nsid s
  | .fillParcel bay raws => Sys2Proof.Machine.execFillParcel bay raws s
  | .scrubStripe raws => Sys2Proof.Machine.execScrubStripe raws s
  | .reshapeStart p => Sys2Proof.Machine.execReshapeStart p s
  | .reshapeSuspend p => Sys2Proof.Machine.execReshapeSuspend p s
  | .reshapeResume p => Sys2Proof.Machine.execReshapeResume p s
  | .setForm p => Sys2Proof.Machine.execForm p s
  | .moverStripe blocks => Sys2Proof.Machine.execMoverStripe blocks s
  | .traverse q cid nsid travId ndesc len fuse => Sys2Proof.Machine.execTraverse q cid nsid travId ndesc len fuse s
  | .traverseTableCheck t descs => Sys2Proof.Machine.execTraverseTableCheck t descs s
  | .traverseStaged t => Sys2Proof.Machine.execTraverseStaged t s
  | .traverseStageTimeout t => Sys2Proof.Machine.execTraverseStageTimeout t s
  | .xstampTimeout t => Sys2Proof.Machine.execXstampTimeout t s
  | .traverseCheck t partner => Sys2Proof.Machine.execTraverseCheck t partner s
  | .traverseClosure t => Sys2Proof.Machine.execTraverseClosure t s
  | .traverseLookup p v => Sys2Proof.Machine.execTraverseLookup p v s
  | .send qp p cap => Sys2Proof.Machine.execSend qp p cap s
  | .rdmaWrite qp p va rkey data imm => Sys2Proof.Machine.execRdmaWrite qp p va rkey data imm s
  | .rdmaReadRequest qp p va rkey len => Sys2Proof.Machine.execRdmaReadRequest qp p va rkey len s
  | .fetchAdd qp p va rkey add => Sys2Proof.Machine.execFetchAdd qp p va rkey add s
  | .compareSwap qp p va rkey swap compare => Sys2Proof.Machine.execCompareSwap qp p va rkey swap compare s
  | .compareSwap16 qp p va rkey swap compare => Sys2Proof.Machine.execCompareSwap16 qp p va rkey swap compare s
  | .acknowledge qp psn kind sack => Sys2Proof.Machine.execAcknowledge qp psn kind sack s
  | .rdmaReadResponse qp p data => Sys2Proof.Machine.execRdmaReadResponse qp p data s
  | .cnp qp path => Sys2Proof.Machine.execCnp qp path s
  | .rcTimer qp => Sys2Proof.Machine.execRcTimer qp s
  | .pathPenaltyEnd qp path => Sys2Proof.Machine.execPathPenaltyEnd qp path s
  | .ackDelayExpire qp => Sys2Proof.Machine.execAckDelayExpire qp s
  | .sprayRtoExpire qp psn => Sys2Proof.Machine.execSprayRtoExpire qp psn s
  | .ackTimeout qp => Sys2Proof.Machine.execAckTimeout qp s
  | .cmReq r => Sys2Proof.Machine.execCmReq r s
  | .cmRtu qp => Sys2Proof.Machine.execCmRtu qp s
  | .cmDreq qp => Sys2Proof.Machine.execCmDreq qp s
  | .cmDrep qp => Sys2Proof.Machine.execCmDrep qp s
  | .cmResponseTimeout qp => Sys2Proof.Machine.execCmResponseTimeout qp s
  | .qpErrorTimeout qp => Sys2Proof.Machine.execQpErrorTimeout qp s
  | .qpQuietEnd qp => Sys2Proof.Machine.execQpQuietEnd qp s
  | .icreq station peer hdgst ddgst => Sys2Proof.Machine.execIcreq station peer hdgst ddgst s
  | .capsulecmd conn digestOk c => Sys2Proof.Machine.execCapsulecmd conn digestOk c s
  | .h2cdata conn cid digestOk lba data => Sys2Proof.Machine.execH2cdata conn cid digestOk lba data s
  | .h2ctermreq conn => Sys2Proof.Machine.execH2ctermreq conn s
  | .bind q cid nsid policy pin win stall slba size => Sys2Proof.Machine.execBind q cid nsid policy pin win stall slba size s
  | .bindComplete win => Sys2Proof.Machine.execBindComplete win s
  | .unbind q cid win => Sys2Proof.Machine.execUnbind q cid win s
  | .unbindComplete win => Sys2Proof.Machine.execUnbindComplete win s
  | .keyCreate q cid rights hostOnly win offset len => Sys2Proof.Machine.execKeyCreate q cid rights hostOnly win offset len s
  | .keyRevoke q cid rkey => Sys2Proof.Machine.execKeyRevoke q cid rkey s
  | .keyCmdRevoke p v => Sys2Proof.Machine.execKeyCmdRevoke p v s
  | .winCmdUnbind p v => Sys2Proof.Machine.execWinCmdUnbind p v s
  | .revokeDrain k partner => Sys2Proof.Machine.execRevokeDrain k partner s
  | .revokeTimeout k => Sys2Proof.Machine.execRevokeTimeout k s
  | .faultComplete win page => Sys2Proof.Machine.execFaultComplete win page s
  | .windowWritebackAge win block => Sys2Proof.Machine.execWindowWritebackAge win block s
  | .stallBudgetExpire qp psn => Sys2Proof.Machine.execStallBudgetExpire qp psn s
  | .chainWaitTimeout ring => Sys2Proof.Machine.execChainWaitTimeout ring s
  | .frameReceived port len bytes fcsOk esp => Sys2Proof.Machine.execFrameReceived port len bytes fcsOk esp s
  | .pfcXoffRefresh port prio => Sys2Proof.Machine.execPfcXoffRefresh port prio s
  | .frameTransmitted port fs => Sys2Proof.Machine.execFrameTransmitted port fs s
  | .pfcFrameReceived port enable quanta => Sys2Proof.Machine.execPfcFrameReceived port enable quanta s
  | .pfcPauseExpire port prio => Sys2Proof.Machine.execPfcPauseExpire port prio s
  | .pfcWatchdogExpire port prio => Sys2Proof.Machine.execPfcWatchdogExpire port prio s
  | .netLinkChange port up => Sys2Proof.Machine.execNetLinkChange port up s
  | .eopNop e => Sys2Proof.Machine.execEopNop e s
  | .eopExt e d f sh imm => Sys2Proof.Machine.execEopExt e d f sh imm s
  | .eopMovi e d imm => Sys2Proof.Machine.execEopMovi e d imm s
  | .eopAdd e d r imm => Sys2Proof.Machine.execEopAdd e d r imm s
  | .eopAddw e d r => Sys2Proof.Machine.execEopAddw e d r s
  | .eopSub e d r imm => Sys2Proof.Machine.execEopSub e d r imm s
  | .eopAnd e d r imm => Sys2Proof.Machine.execEopAnd e d r imm s
  | .eopOr e d r imm => Sys2Proof.Machine.execEopOr e d r imm s
  | .eopShl e d r sh => Sys2Proof.Machine.execEopShl e d r sh s
  | .eopShr e d r sh => Sys2Proof.Machine.execEopShr e d r sh s
  | .eopMb e wide abs off tgt mask val => Sys2Proof.Machine.execEopMb e wide abs off tgt mask val s
  | .eopMbn e wide abs off tgt mask val => Sys2Proof.Machine.execEopMbn e wide abs off tgt mask val s
  | .eopBeq e r tgt imm => Sys2Proof.Machine.execEopBeq e r tgt imm s
  | .eopBne e r tgt imm => Sys2Proof.Machine.execEopBne e r tgt imm s
  | .eopBlt e r tgt imm => Sys2Proof.Machine.execEopBlt e r tgt imm s
  | .eopJmp e tgt => Sys2Proof.Machine.execEopJmp e tgt s
  | .eopJtab e r tgt imm => Sys2Proof.Machine.execEopJtab e r tgt imm s
  | .eopAdv e imm => Sys2Proof.Machine.execEopAdv e imm s
  | .eopAdvw e r sh => Sys2Proof.Machine.execEopAdvw e r sh s
  | .eopMark e no abs off => Sys2Proof.Machine.execEopMark e no abs off s
  | .eopKey e abs off len dst => Sys2Proof.Machine.execEopKey e abs off len dst s
  | .eopKeyw e r dst => Sys2Proof.Machine.execEopKeyw e r dst s
  | .eopHash e abs off len => Sys2Proof.Machine.execEopHash e abs off len s
  | .eopHashw e r => Sys2Proof.Machine.execEopHashw e r s
  | .eopLook e profile flow => Sys2Proof.Machine.execEopLook e profile flow s
  | .eopAct e => Sys2Proof.Machine.execEopAct e s
  | .classifierLookupDone e => Sys2Proof.Machine.execClassifierLookupDone e s
  | .eopSetf e f imm => Sys2Proof.Machine.execEopSetf e f imm s
  | .eopSetw e f r => Sys2Proof.Machine.execEopSetw e f r s
  | .eopEmit e => Sys2Proof.Machine.execEopEmit e s
  | .eopTrap e reason => Sys2Proof.Machine.execEopTrap e reason s
  | .eopinCycleLimit e => Sys2Proof.Machine.execEopinCycleLimit e s
  | .flowInsert p => Sys2Proof.Machine.execFlowInsert p s
  | .flowDelete p => Sys2Proof.Machine.execFlowDelete p s
  | .flowReplace p => Sys2Proof.Machine.execFlowReplace p s
  | .flowLookup p => Sys2Proof.Machine.execFlowLookup p s
  | .ruleWrite p => Sys2Proof.Machine.execRuleWrite p s
  | .ruleInvalidate p => Sys2Proof.Machine.execRuleInvalidate p s
  | .ruleRead p => Sys2Proof.Machine.execRuleRead p s
  | .fragmentReceived k proto port station prio p => Sys2Proof.Machine.execFragmentReceived k proto port station prio p s
  | .fragTimeout k => Sys2Proof.Machine.execFragTimeout k s
  | .txtsHiRead p g => Sys2Proof.Machine.execTxtsHiRead p g s
  | .laneReseed pool lane katOk => Sys2Proof.Machine.execLaneReseed pool lane katOk s
  | .drbgReseed ok => Sys2Proof.Machine.execDrbgReseed ok s
  | .entropyHealthFail => Sys2Proof.Machine.execEntropyHealthFail s
  | .entropyRetest pass => Sys2Proof.Machine.execEntropyRetest pass s
  | .saInstall p => Sys2Proof.Machine.execInstall p s
  | .saDelete p => Sys2Proof.Machine.execDelete p s
  | .saRead p => Sys2Proof.Machine.execSaRead p s
  | .ksRoll p => Sys2Proof.Machine.execRoll p s
  | .escRead p => Sys2Proof.Machine.execEscRead p s
  | .ksImport p => Sys2Proof.Machine.execImport p s
  | .rekeySweepStripe raws => Sys2Proof.Machine.execRekeySweepStripe raws s
  | .epPerstNAssert => Sys2Proof.Machine.execEpPerstNAssert s
  | .epLinkDown => Sys2Proof.Machine.execEpLinkDown s
  | .epLinkUp width rate flit => Sys2Proof.Machine.execEpLinkUp width rate flit s
  | .flr fn => Sys2Proof.Machine.execFlr fn s
  | .flrComplete fn => Sys2Proof.Machine.execFlrComplete fn s
  | .busMasterClear fn mse => Sys2Proof.Machine.execBusMasterClear fn mse s
  | .busMasterSet fn mse => Sys2Proof.Machine.execBusMasterSet fn mse s
  | .vfEnable enable num => Sys2Proof.Machine.execVfEnable enable num s
  | .ideCheckFail => Sys2Proof.Machine.execIdeCheckFail s
  | .ccEn fn en subsys => Sys2Proof.Machine.execCcEn fn en subsys s
  | .epCompletionTimeout tag refused => Sys2Proof.Machine.execEpCompletionTimeout tag refused s
  | .epTagQuarantineEnd tag => Sys2Proof.Machine.execEpTagQuarantineEnd tag s
  | .epLateCompletion tag => Sys2Proof.Machine.execEpLateCompletion tag s
  | .epIdle => Sys2Proof.Machine.execEpIdle s
  | .db fn n v => Sys2Proof.Machine.execDb fn n v s
  | .push fn n whole d => Sys2Proof.Machine.execPush fn n whole d s
  | .ringCtlWrite fn n off v => Sys2Proof.Machine.execRingCtlWrite fn n off v s
  | .drain fn n => Sys2Proof.Machine.execDrain fn n s
  | .pause fn n => Sys2Proof.Machine.execPause fn n s
  | .ringResume fn n => Sys2Proof.Machine.execRingResume fn n s
  | .invalidate fn n => Sys2Proof.Machine.execInvalidate fn n s
  | .ringGrant mem => Sys2Proof.Machine.execRingGrant mem s
  | .ringNop g => Sys2Proof.Machine.execRingNop g s
  | .nvmeIo g c => Sys2Proof.Machine.execNvmeIo g c s
  | .nvmeAdmin g => Sys2Proof.Machine.execNvmeAdmin g s
  | .mgmt g rspLen => Sys2Proof.Machine.execMgmt g rspLen s
  | .winRead g => Sys2Proof.Machine.execWinRead g s
  | .winWrite g data => Sys2Proof.Machine.execWinWrite g data s
  | .winFadd g => Sys2Proof.Machine.execWinFadd g s
  | .winCas8 g => Sys2Proof.Machine.execWinCas8 g s
  | .winCas16 g => Sys2Proof.Machine.execWinCas16 g s
  | .chainWait g => Sys2Proof.Machine.execChainWait g s
  | .coalDelayExpire g => Sys2Proof.Machine.execCoalDelayExpire g s
  | .perstDelayExpire n => Sys2Proof.Machine.execPerstDelayExpire n s
  | .rpTrainingTimeout n => Sys2Proof.Machine.execRpTrainingTimeout n s
  | .rpLinkUp n width rate flit => Sys2Proof.Machine.execRpLinkUp n width rate flit s
  | .driveReadyTimeout n => Sys2Proof.Machine.execDriveReadyTimeout n s
  | .driveFormatComplete n => Sys2Proof.Machine.execDriveFormatComplete n s
  | .rpCommandTimeout n tag tlp again => Sys2Proof.Machine.execRpCommandTimeout n tag tlp again s
  | .rpTagQuarantineEnd n tag => Sys2Proof.Machine.execRpTagQuarantineEnd n tag s
  | .rpLateCompletion n tag => Sys2Proof.Machine.execRpLateCompletion n tag s
  | .rpLateData n tag => Sys2Proof.Machine.execRpLateData n tag s
  | .rpContain n code => Sys2Proof.Machine.execRpContain n code s
  | .rpContainEnd n => Sys2Proof.Machine.execRpContainEnd n s
  | .rpLinkLoss n allOnes => Sys2Proof.Machine.execRpLinkLoss n allOnes s
  | .rpIdle n => Sys2Proof.Machine.execRpIdle n s
  | .sidebandLevelAccept bay input => Sys2Proof.Machine.execSidebandLevelAccept bay input s
  | .longPress bay => Sys2Proof.Machine.execLongPress bay s
  | .quarantineClear p input v => Sys2Proof.Machine.execQuarantineClear p input v s
  | .ledRefresh => Sys2Proof.Machine.execLedRefresh s
  | .insertionDelayEnd bay => Sys2Proof.Machine.execInsertionDelayEnd bay s
  | .bayStart => Sys2Proof.Machine.execBayStart s
  | .bayFaultTimerExpire bay => Sys2Proof.Machine.execBayFaultTimerExpire bay s
  | .bayFastTrip bay => Sys2Proof.Machine.execBayFastTrip bay s
  | .bayPowerGood bay => Sys2Proof.Machine.execBayPowerGood bay s
  | .bayPowerGoodLost bay => Sys2Proof.Machine.execBayPowerGoodLost bay s
  | .bayRetryWaitEnd bay => Sys2Proof.Machine.execBayRetryWaitEnd bay s
  | .bayRetriesReset bay => Sys2Proof.Machine.execBayRetriesReset bay s
  | .feedBad bay feedB => Sys2Proof.Machine.execFeedBad bay feedB s
  | .feedGood bay feedB => Sys2Proof.Machine.execFeedGood bay feedB s
  | .feedReturn bay => Sys2Proof.Machine.execFeedReturn bay s
  | .gateTurnoffFail bay => Sys2Proof.Machine.execGateTurnoffFail bay s
  | .bothGates bay => Sys2Proof.Machine.execBothGates bay s
  | .feedAGateLost bay => Sys2Proof.Machine.execFeedAGateLost bay s
  | .bayOff p bay => Sys2Proof.Machine.execOff p bay s
  | .bayOn p bay => Sys2Proof.Machine.execOn p bay s
  | .bayClear p bay => Sys2Proof.Machine.execClear p bay s
  | .bayCycle p bay => Sys2Proof.Machine.execCycle p bay s
  | .cycleOffTimeEnd bay => Sys2Proof.Machine.execCycleOffTimeEnd bay s
  | .zeberRetrain lane => Sys2Proof.Machine.execZeberRetrain lane s
  | .zeberTrained locked => Sys2Proof.Machine.execZeberTrained locked s
  | .zeberFlitReceived crcOk ctrl typeOk fseq ack bytes => Sys2Proof.Machine.execZeberFlitReceived crcOk ctrl typeOk fseq ack bytes s
  | .zeberNak fseq => Sys2Proof.Machine.execZeberNak fseq s
  | .zeberReplayTimeout => Sys2Proof.Machine.execZeberReplayTimeout s
  | .hello ctrl version setId epoch datum paired => Sys2Proof.Machine.execHello ctrl version setId epoch datum paired s
  | .pairRange time pstate verdict rtt dirtyLimit effMib holdup => Sys2Proof.Machine.execRange time pstate verdict rtt dirtyLimit effMib holdup s
  | .rangeSendTimer => Sys2Proof.Machine.execRangeSendTimer s
  | .stopping cause => Sys2Proof.Machine.execStopping cause s
  | .mirrorPut mseq slot lba adm stage blk => Sys2Proof.Machine.execMirrorPut mseq slot lba adm stage blk s
  | .mirrorAck mseq => Sys2Proof.Machine.execMirrorAck mseq s
  | .journalPut mseq r => Sys2Proof.Machine.execJournalPut mseq r s
  | .cleanNote mseq n => Sys2Proof.Machine.execCleanNote mseq n s
  | .lease mseq slot limit => Sys2Proof.Machine.execLease mseq slot limit s
  | .statePut mseq p => Sys2Proof.Machine.execStatePut mseq p s
  | .fwdCmd c => Sys2Proof.Machine.execFwdCmd c s
  | .fwdData toOwner tag blocks => Sys2Proof.Machine.execFwdData toOwner tag blocks s
  | .fwdCpl tag adm sct sc dnr dw0 dw1 => Sys2Proof.Machine.execFwdCpl tag adm sct sc dnr dw0 dw1 s
  | .stripReq r => Sys2Proof.Machine.execStripReq r s
  | .stripRsp tag ok blocks => Sys2Proof.Machine.execStripRsp tag ok blocks s
  | .xstampReq tag travId host slots exts => Sys2Proof.Machine.execXstampReq tag travId host slots exts s
  | .xstampRsp tag nums ok => Sys2Proof.Machine.execXstampRsp tag nums ok s
  | .pairRecord num tag r => Sys2Proof.Machine.execRecord num tag r s
  | .recordAck num => Sys2Proof.Machine.execRecordAck num s
  | .moveState m => Sys2Proof.Machine.execMoveState m s
  | .pairFrame len port prio bytes esp => Sys2Proof.Machine.execFrame len port prio bytes esp s
  | .pairSession done failed reply => Sys2Proof.Machine.execSession done failed reply s
  | .resyncPut x => Sys2Proof.Machine.execResyncPut x s
  | .resyncDone rate => Sys2Proof.Machine.execResyncDone rate s
  | .pairSenseTimeout high => Sys2Proof.Machine.execPairSenseTimeout high s
  | .pairSenseEdge => Sys2Proof.Machine.execPairSenseEdge s
  | .rangingTimeout => Sys2Proof.Machine.execRangingTimeout s
  | .arbDelayEnd => Sys2Proof.Machine.execArbDelayEnd s
  | .preemptionDone won => Sys2Proof.Machine.execPreemptionDone won s
  | .seekingTimeout => Sys2Proof.Machine.execSeekingTimeout s
  | .quietIntervalEnd raws => Sys2Proof.Machine.execQuietIntervalEnd raws s
  | .pairMove p v => Sys2Proof.Machine.execMove p v s
  | .moveDrained => Sys2Proof.Machine.execMoveDrained s
  | .moveHoldExpire q => Sys2Proof.Machine.execMoveHoldExpire q s
  | .fieldBookEntryWritten okA okB burnOk => Sys2Proof.Machine.execFieldBookEntryWritten okA okB burnOk s
  | .bootConfirm p => Sys2Proof.Machine.execBootConfirm p s
  | .svnAdvance p => Sys2Proof.Machine.execSvnAdvance p s
  | .activate p => Sys2Proof.Machine.execActivate p s
  | .activationComponentDone ok => Sys2Proof.Machine.execActivationComponentDone ok s
  | .debugUnlock scope nonce serial ownerSig vendorSig => Sys2Proof.Machine.execDebugUnlock scope nonce serial ownerSig vendorSig s
  | .fieldBookExport q cid offset len => Sys2Proof.Machine.execFieldBookExport q cid offset len s
  | .getMeasurements ifc req index => Sys2Proof.Machine.execGetMeasurements ifc req index s
  | .challenge ifc req nonce => Sys2Proof.Machine.execChallenge ifc req nonce s
  | .keyExchange ifc req ownerAuth => Sys2Proof.Machine.execKeyExchange ifc req ownerAuth s
  | .keyUpdate ifc req => Sys2Proof.Machine.execKeyUpdate ifc req s
  | .setCertificate ifc req chain => Sys2Proof.Machine.execSetCertificate ifc req chain s
  | .ownerEnrol req digest => Sys2Proof.Machine.execOwnerEnrol req digest s
  | .ownerRotate req digest signedByCurrent => Sys2Proof.Machine.execOwnerRotate req digest signedByCurrent s
  | .escrowKeyInstall req key => Sys2Proof.Machine.execEscrowKeyInstall req key s
  | .fieldBookEntryVendorGet ifc req seq => Sys2Proof.Machine.execFieldBookEntryVendorGet ifc req seq s
  | .datumCommit p => Sys2Proof.Machine.execCommit p s
  | .datumClosure hold => Sys2Proof.Machine.execClosure hold s
  | .quiesceRetry => Sys2Proof.Machine.execQuiesceRetry s
  | .datumConfirm p => Sys2Proof.Machine.execConfirm p s
  | .confirmExpire => Sys2Proof.Machine.execConfirmExpire s
  | .datumRevert p => Sys2Proof.Machine.execRevert p s
  | .datumDiscard p => Sys2Proof.Machine.execDiscard p s
  | .datumSeal p => Sys2Proof.Machine.execSeal p s
  | .datumLoad p => Sys2Proof.Machine.execLoad p s
  | .loadDone => Sys2Proof.Machine.execLoadDone s
  | .registerWrite p page off be v => Sys2Proof.Machine.execRegisterWrite p page off be v s
  | .coldReset f => Sys2Proof.Machine.execColdReset f s
  | .sysPwrokFall => Sys2Proof.Machine.execSysPwrokFall s
  | .vddPcRise trimOk => Sys2Proof.Machine.execVddPcRise trimOk s
  | .sysRstN => Sys2Proof.Machine.execSysRstN s
  | .rstCold p => Sys2Proof.Machine.execCold p s
  | .rstWarm p => Sys2Proof.Machine.execWarm p s
  | .rstShutdown p => Sys2Proof.Machine.execShutdown p s
  | .shutdownFlushed => Sys2Proof.Machine.execShutdownFlushed s
  | .sdTimeout => Sys2Proof.Machine.execSdTimeout s
  | .rstBlock p => Sys2Proof.Machine.execBlock p s
  | .railFault rail mv => Sys2Proof.Machine.execRailFault rail mv s
  | .thermalWarning sensor temp => Sys2Proof.Machine.execThermalWarning sensor temp s
  | .thermalTrip sensor temp => Sys2Proof.Machine.execThermalTrip sensor temp s
  | .avsTrim ok up => Sys2Proof.Machine.execAvsTrim ok up s
  | .timeAdjPpbWrite p v => Sys2Proof.Machine.execTimeAdjPpbWrite p v s
  | .timeSlewNsWrite p v => Sys2Proof.Machine.execTimeSlewNsWrite p v s
  | .timeStep p hi => Sys2Proof.Machine.execTimeStep p hi s
  | .setDisciplined p => Sys2Proof.Machine.execSetDisciplined p s
  | .clearDisciplined p => Sys2Proof.Machine.execClearDisciplined p s
  | .assemblyWaitExpire => Sys2Proof.Machine.execAssemblyWaitExpire s
  | .startupPowerfailRecover => Sys2Proof.Machine.execStartupPowerfailRecover s
  | .wdtKick p => Sys2Proof.Machine.execWdtKick p s
  | .watchdogExpire => Sys2Proof.Machine.execWatchdogExpire s
  | .fatalResetTimer => Sys2Proof.Machine.execFatalResetTimer s
  | .eventTokenTick => Sys2Proof.Machine.execEventTokenTick s
  | .suppressionReport code inst => Sys2Proof.Machine.execSuppressionReport code inst s
  | .eventNSpacingEnd => Sys2Proof.Machine.execEventNSpacingEnd s
  | .msixSpacingEnd fn vec => Sys2Proof.Machine.execMsixSpacingEnd fn vec s
  | .snapshot => Sys2Proof.Machine.execSnapshot s
  | .readReg ifc req off n => Sys2Proof.Machine.execReadReg ifc req off n s
  | .writeReg ifc req off data => Sys2Proof.Machine.execWriteReg ifc req off data s
  | .platData ifc req off data norOk => Sys2Proof.Machine.execPlatData ifc req off data norOk s
  | .platEnd ifc req len => Sys2Proof.Machine.execPlatEnd ifc req len s
  | .eventRead ifc req q n => Sys2Proof.Machine.execEventRead ifc req q n s
  | .smHeartbeat p => Sys2Proof.Machine.execSmHeartbeat p s
  | .smHeartbeatMiss => Sys2Proof.Machine.execSmHeartbeatMiss s
  | .pmbusPoll ok amps status => Sys2Proof.Machine.execPmbusPoll ok amps status s
  | .mgmtPortLinkChange up => Sys2Proof.Machine.execMgmtPortLinkChange up s
  | .trHeadWrite p v => Sys2Proof.Machine.execTrHeadWrite p v s
  | .qHeadWrite p v => Sys2Proof.Machine.execQHeadWrite p v s
  | .evtForce p page mask => Sys2Proof.Machine.execEvtForce p page mask s
  | .loReadLatch p page off => Sys2Proof.Machine.execLoReadLatch p page off s
  | .cadEntryRead p => Sys2Proof.Machine.execCadEntryRead p s
  | .epPerstNRelease => Sys2Proof.Machine.execEpPerstNRelease s
  | .hostReadCompletion tag data => Sys2Proof.Machine.execHostReadCompletion tag data s
  | .nvmeDoorbell fn queue completion v => Sys2Proof.Machine.execNvmeDoorbell fn queue completion v s
  | .ideKm secured => Sys2Proof.Machine.execIdeKm secured s
  | .driveReady n d => Sys2Proof.Machine.execDriveReady n d s
  | .sidebandEdge bay input low => Sys2Proof.Machine.execSidebandEdge bay input low s
  | .changeoverComplete bay => Sys2Proof.Machine.execChangeoverComplete bay s
  | .returnToATimeout bay => Sys2Proof.Machine.execReturnToATimeout bay s
  | .resetHoldExpire => Sys2Proof.Machine.execResetHoldExpire s
  | .rnrTimerExpire qp => Sys2Proof.Machine.execRnrTimerExpire qp s
  | .asynchronousEventRequest q cid => Sys2Proof.Machine.execAsynchronousEventRequest q cid s
  | .mctpEidAssign eid => Sys2Proof.Machine.execMctpEidAssign eid s

end Sys2Proof.Machine
end

