-- ==== Sys2Proof/Safety.lean ====
section
/-!
DEFINITION. Safety.lean: the terms claims are stated in: the parts of the state, what a command leaves alone, the invariant of the
register tables, what the root of trust never takes back, and when a path may write a command register.
-/
namespace Sys2Proof.Machine

/-- The parts of the state a command can touch; the queue is no part, since no command touches it. -/
inductive Part where
  | regs | sels | latches | out | free | time | evt | datum | pwr | arch | trust | vault | nvm | store | trav | pair | zeb | win
  | ep | ks | xp | net | ciph | bay
deriving DecidableEq, Repr

/-- A part stands in `t` as it stood in `s`. -/
def Part.kept (p : Part) (s t : State) : Prop :=
  match p with
  | .regs => t.regs = s.regs
  | .sels => t.sels = s.sels
  | .latches => t.latches = s.latches
  | .out => t.out = s.out
  | .free => t.free = s.free
  | .time => t.time = s.time
  | .evt => t.evt = s.evt
  | .datum => t.datum = s.datum
  | .pwr => t.pwr = s.pwr
  | .arch => t.arch = s.arch
  | .trust => t.trust = s.trust
  | .vault => t.vault = s.vault
  | .nvm => t.nvm = s.nvm
  | .store => t.store = s.store
  | .trav => t.trav = s.trav
  | .pair => t.pair = s.pair
  | .zeb => t.zeb = s.zeb
  | .win => t.win = s.win
  | .ep => t.ep = s.ep
  | .ks => t.ks = s.ks
  | .xp => t.xp = s.xp
  | .net => t.net = s.net
  | .ciph => t.ciph = s.ciph
  | .bay => t.bay = s.bay

/-- The frame of a command: only the named parts may change; every other stands as it stood, and so does the queue. -/
def OnlyParts (touched : List Part) (s t : State) : Prop :=
  (∀ p : Part, p ∉ touched → p.kept s t) ∧ t.pending = s.pending

/-- The named parts stand as they stood, and so does the queue: the frame of a command that may touch most others. -/
def Stands (kept : List Part) (s t : State) : Prop :=
  (∀ p : Part, p ∈ kept → p.kept s t) ∧ t.pending = s.pending

/-- What raising an event may touch: the flag and the counters among the registers, what is driven, the event unit, and an MSI-X
message held for a function (R290, R416 to R421). -/
def evParts : List Part := [.regs, .out, .evt, .ep]

/-- The tables that hold register values rise strictly, so that equal contents are equal data (R443, R444, R453). -/
def Tables (s : State) : Prop := trising s.regs = true ∧ trising s.sels = true ∧ trising s.latches = true

/-- What the root of trust never takes back: an anti-rollback counter, a burnt owner digest, the Field Book's next
`SEQ`, the boot count (R363, R372, R373). -/
structure TrustKeeps (a b : TrustSt) : Prop where
  svn : ∀ c, tgetD a.svn c 0 ≤ tgetD b.svn c 0
  digests : a.ownerDigests <+: b.ownerDigests
  seq : a.nextSeq ≤ b.nextSeq
  boots : a.bootCount ≤ b.bootCount

/-- A FATAL has stopped service: its code kept, nothing admitted further, no namespace served (R412). -/
def Stopped (code : Nat) (s : State) : Prop :=
  s.pwr.fatal = true ∧ s.pwr.fatalCode = code ∧ s.pwr.admitStop = true ∧ s.pwr.serving = false

/-- The controller is held in cold reset, of a kind, with what a cold reset keeps and loses (R398, R406, Table 4): registers, commands,
transport and keys on die are lost; the active datum, the fuses, the Field Book, the key archive and the home copies stand. -/
def HeldCold (kind : Nat) (s t : State) : Prop :=
  t.pwr.held = true ∧ t.pwr.kind = kind ∧ t.pwr.released = false ∧ t.pwr.serving = false ∧ t.time = 0 ∧ t.regs = [] ∧
  t.nvm.ctxs = [] ∧ t.nvm.assocs = [] ∧ t.store.frames = [] ∧ t.xp = {} ∧ t.ks.keys = [] ∧ t.datum.active = s.datum.active ∧
  t.trust.svn = s.trust.svn ∧ t.trust.entries = s.trust.entries ∧ t.trust.nextSeq = s.trust.nextSeq ∧
  t.ks.archive = s.ks.archive ∧ t.store.home = s.store.home ∧ t.store.loss = s.store.loss

/-- A warm reset of a kind waits for the vault dump, or has been done: the engines are not released and hold no work (R408). -/
def WarmUnderWay (kind : Nat) (t : State) : Prop :=
  (t.vault.accepted = true ∧ t.vault.dumpDone = false ∧ t.pwr.resetAfterDump = some kind) ∨
  (t.vault.accepted = false ∧ t.pwr.kind = kind ∧ t.pwr.held = false ∧ t.pwr.released = false ∧ t.pwr.serving = false ∧
    t.nvm.ctxs = [] ∧ t.nvm.assocs = [] ∧ t.xp = {})

/-- The queue and the capsule that a host's I/O command is (spec/02): a fused pair or an opcode no command has is another opcode. -/
def hostCommand (c : Instr) : Option (Nat × Capsule) :=
  match c with
  | .read q cid nsid opc fuse slba nlb =>
    if fuse ≠ 0 ∨ !ioOpcodes.contains opc then some (q, { cid := cid, nsid := nsid, op := .other opc })
    else if opc = 2 then some (q, { cid := cid, nsid := nsid, op := .read slba nlb })
    else none
  | .write q cid nsid fuse slba nlb => some (q, { cid := cid, nsid := nsid, op := if fuse = 0 then .write slba nlb else .other 0x01 })
  | .writeZeroes q cid nsid slba nlb => some (q, { cid := cid, nsid := nsid, op := .zeroes slba nlb })
  | .datasetManagement q cid nsid dealloc rs => some (q, { cid := cid, nsid := nsid, op := .dsm dealloc rs })
  | .flush q cid nsid => some (q, { cid := cid, nsid := nsid, op := .flush })
  | .reservationRegister q cid nsid a cur new ign => some (q, { cid := cid, nsid := nsid, op := .resvRegister a cur new ign })
  | .reservationAcquire q cid nsid a cur pre ty ign => some (q, { cid := cid, nsid := nsid, op := .resvAcquire a cur pre ty ign })
  | .reservationRelease q cid nsid a cur ty ign => some (q, { cid := cid, nsid := nsid, op := .resvRelease a cur ty ign })
  | .reservationReport q cid nsid => some (q, { cid := cid, nsid := nsid, op := .resvReport })
  | .stakeConditionedWrite q cid nsid fuse slba nlb stake =>
    some (q, { cid := cid, nsid := nsid, op := if fuse = 0 then .stakeWrite slba nlb stake else .other 0x85 })
  | .traverse q cid nsid travId ndesc len fuse => some (q, { cid := cid, nsid := nsid, op := .traverse travId ndesc len fuse })
  | .bind q cid nsid policy pin win stall slba size =>
    some (q, { cid := cid, nsid := nsid, op := .winBind 1 policy pin win stall slba size })
  | .unbind q cid win => some (q, { cid := cid, nsid := 0, op := .unbind win })
  | .keyCreate q cid rights hostOnly win offset len =>
    some (q, { cid := cid, nsid := 0, op := .keyCreate rights hostOnly win offset len })
  | .keyRevoke q cid rkey => some (q, { cid := cid, nsid := 0, op := .keyRevoke rkey })
  | _ => none

/-- A state whose queue `q`, until then empty, holds one capsule. -/
def holdCapsule (q : Nat) (cap : Capsule) (x : Queue) (s : State) : State :=
  { s with nvm := { s.nvm with queues := tset s.nvm.queues q { x with held := [cap], heldSince := s.time } } }

/-- A state whose queue `q` holds nothing unparsed. -/
def popCapsule (q : Nat) (s : State) : State :=
  { s with nvm := { s.nvm with queues := tmod s.nvm.queues q fun x => { x with held := [] } } }

/-- A write of a command register on a path acts: the endpoint path needs `HOST_WR_EN` (R457), and the page's domain is on
(R455). -/
def MayWrite (p : Path) (r : RegId) (s : State) : Prop :=
  (p ≠ .endpoint ∨ bitAt (cfg s Reg.TOP_TOP_CTL) 0 = true) ∧ pageAlive s r.page = true

/-- The queue pair, packet, request and data that a request packet is (spec/07, R186). -/
def requestPacket (c : Instr) : Option (Nat × Pkt × Rdma × Nat) :=
  match c with
  | .send qp p cap => some (qp, p, .send cap, 0)
  | .rdmaWrite qp p va rkey data imm => some (qp, p, .write va rkey 0 imm, data)
  | .rdmaReadRequest qp p va rkey len => some (qp, p, .read va rkey len, 0)
  | .fetchAdd qp p va rkey add => some (qp, p, .fetchAdd va rkey add, 0)
  | .compareSwap qp p va rkey swap compare => some (qp, p, .cas va rkey swap compare, 0)
  | .compareSwap16 qp p va rkey swap compare => some (qp, p, .cas16 va rkey swap compare, 0)
  | _ => none

/-- A request that only a queue pair with the 16-byte atomics grant may carry. -/
def Rdma.wide (r : Rdma) : Bool :=
  match r with
  | .cas16 .. => true
  | _ => false

/-- A state whose queue pair has taken a packet: ACTIVE, its context touched, a CNP sent where one is due. -/
def packetTaken (qp : Nat) (p : Pkt) (s : State) : State :=
  cnpMaybe qp p (qpTouch qp (modQp qp (fun q => { q with state := 2 }) s))

/-- The path and the register that a command writes, for the commands that are a write of one register (R444, R450). -/
def pathWrite (c : Instr) : Option (Path × RegId) :=
  match c with
  | .memberFail p => some (p, Reg.REBUILD_MEMBER_CMD)
  | .memberAdmit p => some (p, Reg.REBUILD_MEMBER_CMD)
  | .resyncFull p => some (p, Reg.REBUILD_MEMBER_CMD)
  | .reshapeStart p => some (p, Reg.REBUILD_RESHAPE_CMD)
  | .reshapeSuspend p => some (p, Reg.REBUILD_RESHAPE_CMD)
  | .reshapeResume p => some (p, Reg.REBUILD_RESHAPE_CMD)
  | .setForm p => some (p, Reg.REBUILD_RESHAPE_CMD)
  | .traverseLookup p _ => some (p, Reg.TRAV_LOOKUP_ID_HI)
  | .keyCmdRevoke p _ => some (p, Reg.KEYS_KEY_CMD)
  | .winCmdUnbind p _ => some (p, Reg.WIN_WIN_CMD)
  | .flowInsert p => some (p, Reg.CLASS_FLOW_CMD)
  | .flowDelete p => some (p, Reg.CLASS_FLOW_CMD)
  | .flowReplace p => some (p, Reg.CLASS_FLOW_CMD)
  | .flowLookup p => some (p, Reg.CLASS_FLOW_CMD)
  | .ruleWrite p => some (p, Reg.CLASS_RULE_CMD)
  | .ruleInvalidate p => some (p, Reg.CLASS_RULE_CMD)
  | .ruleRead p => some (p, Reg.CLASS_RULE_CMD)
  | .saInstall p => some (p, Reg.KSTORE_SA_CMD)
  | .saDelete p => some (p, Reg.KSTORE_SA_CMD)
  | .saRead p => some (p, Reg.KSTORE_SA_CMD)
  | .ksRoll p => some (p, Reg.KSTORE_KEY_CMD)
  | .escRead p => some (p, Reg.KSTORE_KEY_CMD)
  | .ksImport p => some (p, Reg.KSTORE_KEY_CMD)
  | .quarantineClear p input _ => some (p, quarReg input)
  | .bayOff p bay => some (p, Reg.BAY_CMD bay)
  | .bayOn p bay => some (p, Reg.BAY_CMD bay)
  | .bayClear p bay => some (p, Reg.BAY_CMD bay)
  | .bayCycle p bay => some (p, Reg.BAY_CMD bay)
  | .pairMove p _ => some (p, Reg.PAIR_MOVE_CMD)
  | .bootConfirm p => some (p, Reg.TRUST_BOOT_CONFIRM)
  | .svnAdvance p => some (p, Reg.TRUST_SVN_CMD)
  | .activate p => some (p, Reg.TRUST_ACT_CMD)
  | .datumCommit p => some (p, Reg.DATUM_DATUM_CMD)
  | .datumConfirm p => some (p, Reg.DATUM_DATUM_CMD)
  | .datumRevert p => some (p, Reg.DATUM_DATUM_CMD)
  | .datumDiscard p => some (p, Reg.DATUM_DATUM_CMD)
  | .datumSeal p => some (p, Reg.DATUM_DATUM_CMD)
  | .datumLoad p => some (p, Reg.DATUM_DATUM_CMD)
  | .rstCold p => some (p, Reg.RST_RST_CMD)
  | .rstWarm p => some (p, Reg.RST_RST_CMD)
  | .rstShutdown p => some (p, Reg.RST_RST_CMD)
  | .rstBlock p => some (p, Reg.RST_RST_CMD)
  | .timeAdjPpbWrite p _ => some (p, Reg.CLK_TIME_ADJ_PPB)
  | .timeSlewNsWrite p _ => some (p, Reg.CLK_TIME_SLEW_NS)
  | .timeStep p _ => some (p, Reg.CLK_TIME_STEP_HI)
  | .setDisciplined p => some (p, Reg.CLK_TIME_CMD)
  | .clearDisciplined p => some (p, Reg.CLK_TIME_CMD)
  | .wdtKick p => some (p, Reg.RST_WDT_KICK)
  | .smHeartbeat p => some (p, Reg.TELEM_SM_HEARTBEAT)
  | .trHeadWrite p _ => some (p, Reg.TELEM_TR_HEAD)
  | .qHeadWrite p _ => some (p, Reg.EVT_Q_HEAD)
  | .evtForce p page _ => some (p, Reg.HDR_EVT_FORCE page)
  | _ => none

/-! ### Families -/

/-- The families of commands, after the sections of the spec. -/
inductive Family where
  /-- Supplies, clocks, time, resets, the start and shutdown (spec/01, spec/16). -/
  | resets
  /-- Power failure, dump and replay (spec/03). -/
  | vault
  /-- Associations, namespaces and host commands (spec/02). -/
  | hostCommands
  /-- Write data, flushes and memory errors (spec/03). -/
  | cache
  /-- Drive completions, parity jobs and formatting (spec/04). -/
  | driveIo
  /-- Members, rebuild, scrub, loss map and reshape (spec/05). -/
  | members
  /-- Traverses (spec/06). -/
  | traverses
  /-- RDMA and NVMe/TCP (spec/07). -/
  | transport
  /-- Persistent windows and keys (spec/08). -/
  | windows
  /-- Network ports and frames (spec/09). -/
  | ports
  /-- The parse engines' instructions (spec/09). -/
  | eopin
  /-- Rules and flows (spec/09). -/
  | classifier
  /-- Lanes, keys and security associations (spec/10). -/
  | cipher
  /-- The PCIe endpoint (spec/11). -/
  | endpoint
  /-- Work rings (spec/11). -/
  | rings
  /-- Drive ports (spec/12). -/
  | rootPorts
  /-- Bay power and the sideband (spec/12). -/
  | bays
  /-- The ZEBER link and the pair (spec/13). -/
  | pair
  /-- The Field Book, images, fuses and SPDM (spec/14). -/
  | rootOfTrust
  /-- The configuration datum (spec/15). -/
  | datum
  /-- Register reads and writes and plat deliveries (spec/17, spec/19). -/
  | registers
  /-- Events, telemetry and the shelf manager (spec/17). -/
  | events
deriving DecidableEq, Repr

/-- The family of a command. -/
def familyOf (i : Instr) : Family :=
  match i with
  | .chipletLinkFail => .resets
  | .hbmStackFault _ => .resets
  | .engineRuntimeFail _ _ => .resets
  | .lockstepDisagree => .resets
  | .refclkOutOfTolerance _ _ => .resets
  | .refclkRestored _ => .resets
  | .crystalFail => .resets
  | .sysPwrokFall => .resets
  | .vddPcRise _ => .resets
  | .sysRstN => .resets
  | .rstCold _ => .resets
  | .rstWarm _ => .resets
  | .rstShutdown _ => .resets
  | .shutdownFlushed => .resets
  | .sdTimeout => .resets
  | .rstBlock _ => .resets
  | .railFault _ _ => .resets
  | .thermalWarning _ _ => .resets
  | .thermalTrip _ _ => .resets
  | .avsTrim _ _ => .resets
  | .timeAdjPpbWrite _ _ => .resets
  | .timeSlewNsWrite _ _ => .resets
  | .timeStep _ _ => .resets
  | .setDisciplined _ => .resets
  | .clearDisciplined _ => .resets
  | .assemblyWaitExpire => .resets
  | .startupPowerfailRecover => .resets
  | .wdtKick _ => .resets
  | .watchdogExpire => .resets
  | .fatalResetTimer => .resets
  | .resetHoldExpire => .resets
  | .vaultDumpComplete => .resets
  | .postDumpResetTimer => .resets
  | .coldReset _ => .resets
  | .pwrfailNFall => .vault
  | .pwrfailGlitch => .vault
  | .powerFailureAccept => .vault
  | .feedMonitorFail => .vault
  | .serdesOffTimer => .vault
  | .vaultHeaderWriting => .vault
  | .vaultReplay _ _ _ _ _ _ _ _ => .vault
  | .connect _ _ _ _ _ _ _ _ _ => .hostCommands
  | .keepAlive _ _ => .hostCommands
  | .keepAliveExpire _ => .hostCommands
  | .namespaceCreate _ _ _ _ _ _ _ => .hostCommands
  | .namespaceActive _ => .hostCommands
  | .namespaceDelete _ _ _ => .hostCommands
  | .namespaceDeleteComplete _ => .hostCommands
  | .parcelReleased _ => .hostCommands
  | .namespaceAttach _ _ _ _ => .hostCommands
  | .namespaceDetach _ _ _ _ => .hostCommands
  | .identify _ _ _ _ => .hostCommands
  | .read _ _ _ _ _ _ _ => .hostCommands
  | .write _ _ _ _ _ _ => .hostCommands
  | .writeZeroes _ _ _ _ _ => .hostCommands
  | .datasetManagement _ _ _ _ _ => .hostCommands
  | .flush _ _ _ => .hostCommands
  | .reservationRegister _ _ _ _ _ _ _ => .hostCommands
  | .reservationAcquire _ _ _ _ _ _ _ _ => .hostCommands
  | .reservationRelease _ _ _ _ _ _ _ => .hostCommands
  | .reservationReport _ _ _ => .hostCommands
  | .stakeConditionedWrite _ _ _ _ _ _ _ => .hostCommands
  | .contextFreed => .hostCommands
  | .writeBlockPlaced _ _ _ => .cache
  | .writerTakeEffect _ => .cache
  | .writerFail _ _ => .cache
  | .gatherAgeExpire _ _ _ => .cache
  | .flushStart => .cache
  | .journalRecordWritten _ _ _ => .cache
  | .flushStripsDone _ _ _ => .cache
  | .memoryError _ _ _ => .cache
  | .driveReadComplete _ _ => .driveIo
  | .driveWriteComplete _ _ => .driveIo
  | .deadlineExpire _ => .driveIo
  | .parityJobDone _ => .driveIo
  | .sequencerFail _ => .driveIo
  | .cadastrePersistTimer _ => .driveIo
  | .formatStripe _ _ => .driveIo
  | .layoutStatus _ _ _ => .driveIo
  | .memberDepart _ _ _ => .members
  | .rehomeDone _ => .members
  | .homeCopyRelocate _ => .members
  | .returnWaitExpire _ => .members
  | .heldRowReplan _ _ _ => .members
  | .memberFail _ => .members
  | .memberAdmit _ => .members
  | .resyncFull _ => .members
  | .rebuildStripe _ => .members
  | .lossMap _ _ _ => .members
  | .fillParcel _ _ => .members
  | .scrubStripe _ => .members
  | .reshapeStart _ => .members
  | .reshapeSuspend _ => .members
  | .reshapeResume _ => .members
  | .setForm _ => .members
  | .moverStripe _ => .members
  | .traverse _ _ _ _ _ _ _ => .traverses
  | .traverseTableCheck _ _ => .traverses
  | .traverseStaged _ => .traverses
  | .traverseStageTimeout _ => .traverses
  | .xstampTimeout _ => .traverses
  | .traverseCheck _ _ => .traverses
  | .traverseClosure _ => .traverses
  | .traverseLookup _ _ => .traverses
  | .send _ _ _ => .transport
  | .rdmaWrite _ _ _ _ _ _ => .transport
  | .rdmaReadRequest _ _ _ _ _ => .transport
  | .fetchAdd _ _ _ _ _ => .transport
  | .compareSwap _ _ _ _ _ _ => .transport
  | .compareSwap16 _ _ _ _ _ _ => .transport
  | .acknowledge _ _ _ _ => .transport
  | .rdmaReadResponse _ _ _ => .transport
  | .cnp _ _ => .transport
  | .rcTimer _ => .transport
  | .pathPenaltyEnd _ _ => .transport
  | .ackDelayExpire _ => .transport
  | .sprayRtoExpire _ _ => .transport
  | .ackTimeout _ => .transport
  | .cmReq _ => .transport
  | .cmRtu _ => .transport
  | .cmDreq _ => .transport
  | .cmDrep _ => .transport
  | .cmResponseTimeout _ => .transport
  | .qpErrorTimeout _ => .transport
  | .qpQuietEnd _ => .transport
  | .icreq _ _ _ _ => .transport
  | .capsulecmd _ _ _ => .transport
  | .h2cdata _ _ _ _ _ => .transport
  | .h2ctermreq _ => .transport
  | .rnrTimerExpire _ => .transport
  | .bind _ _ _ _ _ _ _ _ _ => .windows
  | .bindComplete _ => .windows
  | .unbind _ _ _ => .windows
  | .unbindComplete _ => .windows
  | .keyCreate _ _ _ _ _ _ _ => .windows
  | .keyRevoke _ _ _ => .windows
  | .keyCmdRevoke _ _ => .windows
  | .winCmdUnbind _ _ => .windows
  | .revokeDrain _ _ => .windows
  | .revokeTimeout _ => .windows
  | .faultComplete _ _ => .windows
  | .windowWritebackAge _ _ => .windows
  | .stallBudgetExpire _ _ => .windows
  | .chainWaitTimeout _ => .windows
  | .frameReceived _ _ _ _ _ => .ports
  | .pfcXoffRefresh _ _ => .ports
  | .frameTransmitted _ _ => .ports
  | .pfcFrameReceived _ _ _ => .ports
  | .pfcPauseExpire _ _ => .ports
  | .pfcWatchdogExpire _ _ => .ports
  | .netLinkChange _ _ => .ports
  | .fragmentReceived _ _ _ _ _ _ => .ports
  | .fragTimeout _ => .ports
  | .txtsHiRead _ _ => .ports
  | .eopNop _ => .eopin
  | .eopExt _ _ _ _ _ => .eopin
  | .eopMovi _ _ _ => .eopin
  | .eopAdd _ _ _ _ => .eopin
  | .eopAddw _ _ _ => .eopin
  | .eopSub _ _ _ _ => .eopin
  | .eopAnd _ _ _ _ => .eopin
  | .eopOr _ _ _ _ => .eopin
  | .eopShl _ _ _ _ => .eopin
  | .eopShr _ _ _ _ => .eopin
  | .eopMb _ _ _ _ _ _ _ => .eopin
  | .eopMbn _ _ _ _ _ _ _ => .eopin
  | .eopBeq _ _ _ _ => .eopin
  | .eopBne _ _ _ _ => .eopin
  | .eopBlt _ _ _ _ => .eopin
  | .eopJmp _ _ => .eopin
  | .eopJtab _ _ _ _ => .eopin
  | .eopAdv _ _ => .eopin
  | .eopAdvw _ _ _ => .eopin
  | .eopMark _ _ _ _ => .eopin
  | .eopKey _ _ _ _ _ => .eopin
  | .eopKeyw _ _ _ => .eopin
  | .eopHash _ _ _ _ => .eopin
  | .eopHashw _ _ => .eopin
  | .eopLook _ _ _ => .eopin
  | .eopAct _ => .eopin
  | .classifierLookupDone _ => .eopin
  | .eopSetf _ _ _ => .eopin
  | .eopSetw _ _ _ => .eopin
  | .eopEmit _ => .eopin
  | .eopTrap _ _ => .eopin
  | .eopinCycleLimit _ => .eopin
  | .flowInsert _ => .classifier
  | .flowDelete _ => .classifier
  | .flowReplace _ => .classifier
  | .flowLookup _ => .classifier
  | .ruleWrite _ => .classifier
  | .ruleInvalidate _ => .classifier
  | .ruleRead _ => .classifier
  | .laneReseed _ _ _ => .cipher
  | .drbgReseed _ => .cipher
  | .entropyHealthFail => .cipher
  | .entropyRetest _ => .cipher
  | .saInstall _ => .cipher
  | .saDelete _ => .cipher
  | .saRead _ => .cipher
  | .ksRoll _ => .cipher
  | .escRead _ => .cipher
  | .ksImport _ => .cipher
  | .rekeySweepStripe _ => .cipher
  | .epPerstNAssert => .endpoint
  | .epLinkDown => .endpoint
  | .epLinkUp _ _ _ => .endpoint
  | .flr _ => .endpoint
  | .flrComplete _ => .endpoint
  | .busMasterClear _ _ => .endpoint
  | .busMasterSet _ _ => .endpoint
  | .vfEnable _ _ => .endpoint
  | .ideCheckFail => .endpoint
  | .ccEn _ _ _ => .endpoint
  | .epCompletionTimeout _ _ => .endpoint
  | .epTagQuarantineEnd _ => .endpoint
  | .epLateCompletion _ => .endpoint
  | .epIdle => .endpoint
  | .epPerstNRelease => .endpoint
  | .hostReadCompletion _ _ => .endpoint
  | .nvmeDoorbell _ _ _ _ => .endpoint
  | .ideKm _ => .endpoint
  | .asynchronousEventRequest _ _ => .endpoint
  | .db _ _ _ => .rings
  | .push _ _ _ _ => .rings
  | .ringCtlWrite _ _ _ _ => .rings
  | .drain _ _ => .rings
  | .pause _ _ => .rings
  | .ringResume _ _ => .rings
  | .invalidate _ _ => .rings
  | .ringGrant _ => .rings
  | .ringNop _ => .rings
  | .nvmeIo _ _ => .rings
  | .nvmeAdmin _ => .rings
  | .mgmt _ _ => .rings
  | .winRead _ => .rings
  | .winWrite _ _ => .rings
  | .winFadd _ => .rings
  | .winCas8 _ => .rings
  | .winCas16 _ => .rings
  | .chainWait _ => .rings
  | .coalDelayExpire _ => .rings
  | .perstDelayExpire _ => .rootPorts
  | .rpTrainingTimeout _ => .rootPorts
  | .rpLinkUp _ _ _ _ => .rootPorts
  | .driveReadyTimeout _ => .rootPorts
  | .driveFormatComplete _ => .rootPorts
  | .rpCommandTimeout _ _ _ _ => .rootPorts
  | .rpTagQuarantineEnd _ _ => .rootPorts
  | .rpLateCompletion _ _ => .rootPorts
  | .rpLateData _ _ => .rootPorts
  | .rpContain _ _ => .rootPorts
  | .rpContainEnd _ => .rootPorts
  | .rpLinkLoss _ _ => .rootPorts
  | .rpIdle _ => .rootPorts
  | .driveReady _ _ => .rootPorts
  | .sidebandLevelAccept _ _ => .bays
  | .longPress _ => .bays
  | .quarantineClear _ _ _ => .bays
  | .ledRefresh => .bays
  | .insertionDelayEnd _ => .bays
  | .bayStart => .bays
  | .bayFaultTimerExpire _ => .bays
  | .bayFastTrip _ => .bays
  | .bayPowerGood _ => .bays
  | .bayPowerGoodLost _ => .bays
  | .bayRetryWaitEnd _ => .bays
  | .bayRetriesReset _ => .bays
  | .feedBad _ _ => .bays
  | .feedGood _ _ => .bays
  | .feedReturn _ => .bays
  | .gateTurnoffFail _ => .bays
  | .bothGates _ => .bays
  | .feedAGateLost _ => .bays
  | .bayOff _ _ => .bays
  | .bayOn _ _ => .bays
  | .bayClear _ _ => .bays
  | .bayCycle _ _ => .bays
  | .cycleOffTimeEnd _ => .bays
  | .sidebandEdge _ _ _ => .bays
  | .changeoverComplete _ => .bays
  | .returnToATimeout _ => .bays
  | .zeberRetrain _ => .pair
  | .zeberTrained _ => .pair
  | .zeberFlitReceived _ _ _ _ _ _ => .pair
  | .zeberNak _ => .pair
  | .zeberReplayTimeout => .pair
  | .hello _ _ _ _ _ _ => .pair
  | .pairRange _ _ _ _ _ _ _ => .pair
  | .rangeSendTimer => .pair
  | .stopping _ => .pair
  | .mirrorPut _ _ _ _ _ _ => .pair
  | .mirrorAck _ => .pair
  | .journalPut _ _ => .pair
  | .cleanNote _ _ => .pair
  | .lease _ _ _ => .pair
  | .statePut _ _ => .pair
  | .fwdCmd _ => .pair
  | .fwdData _ _ _ => .pair
  | .fwdCpl _ _ _ _ _ _ _ => .pair
  | .stripReq _ => .pair
  | .stripRsp _ _ _ => .pair
  | .xstampReq _ _ _ _ _ => .pair
  | .xstampRsp _ _ _ => .pair
  | .pairRecord _ _ _ => .pair
  | .recordAck _ => .pair
  | .moveState _ => .pair
  | .pairFrame _ _ _ _ _ => .pair
  | .pairSession _ _ _ => .pair
  | .resyncPut _ => .pair
  | .resyncDone _ => .pair
  | .pairSenseTimeout _ => .pair
  | .pairSenseEdge => .pair
  | .rangingTimeout => .pair
  | .arbDelayEnd => .pair
  | .preemptionDone _ => .pair
  | .seekingTimeout => .pair
  | .quietIntervalEnd _ => .pair
  | .pairMove _ _ => .pair
  | .moveDrained => .pair
  | .moveHoldExpire _ => .pair
  | .fieldBookEntryWritten _ _ _ => .rootOfTrust
  | .bootConfirm _ => .rootOfTrust
  | .svnAdvance _ => .rootOfTrust
  | .activate _ => .rootOfTrust
  | .activationComponentDone _ => .rootOfTrust
  | .debugUnlock _ _ _ _ _ => .rootOfTrust
  | .fieldBookExport _ _ _ _ => .rootOfTrust
  | .getMeasurements _ _ _ => .rootOfTrust
  | .challenge _ _ _ => .rootOfTrust
  | .keyExchange _ _ _ => .rootOfTrust
  | .keyUpdate _ _ => .rootOfTrust
  | .setCertificate _ _ _ => .rootOfTrust
  | .ownerEnrol _ _ => .rootOfTrust
  | .ownerRotate _ _ _ => .rootOfTrust
  | .escrowKeyInstall _ _ => .rootOfTrust
  | .fieldBookEntryVendorGet _ _ _ => .rootOfTrust
  | .datumCommit _ => .datum
  | .datumClosure _ => .datum
  | .quiesceRetry => .datum
  | .datumConfirm _ => .datum
  | .confirmExpire => .datum
  | .datumRevert _ => .datum
  | .datumDiscard _ => .datum
  | .datumSeal _ => .datum
  | .datumLoad _ => .datum
  | .loadDone => .datum
  | .registerWrite _ _ _ _ _ => .registers
  | .snapshot => .registers
  | .readReg _ _ _ _ => .registers
  | .writeReg _ _ _ _ => .registers
  | .platData _ _ _ _ _ => .registers
  | .platEnd _ _ _ => .registers
  | .trHeadWrite _ _ => .registers
  | .qHeadWrite _ _ => .registers
  | .evtForce _ _ _ => .registers
  | .loReadLatch _ _ _ => .registers
  | .cadEntryRead _ => .registers
  | .eventTokenTick => .events
  | .suppressionReport _ _ => .events
  | .eventNSpacingEnd => .events
  | .msixSpacingEnd _ _ => .events
  | .eventRead _ _ _ _ => .events
  | .smHeartbeat _ => .events
  | .smHeartbeatMiss => .events
  | .pmbusPoll _ _ _ => .events
  | .mgmtPortLinkChange _ => .events
  | .mctpEidAssign _ => .events

/-- The parts that no command of a family touches: what the family is isolated from. -/
def Family.kept (f : Family) : List Part :=
  match f with
  | .resets => []
  | .vault => [.sels, .latches, .time, .arch]
  | .hostCommands => [.sels, .latches, .time, .datum, .pwr, .arch, .trust, .vault, .net]
  | .cache => [.sels, .latches, .time, .datum, .pwr, .arch, .trust, .vault, .net]
  | .driveIo => [.sels, .latches, .time, .datum, .pwr, .trust, .vault, .net]
  | .members => [.sels, .latches, .time, .datum, .pwr, .arch, .trust, .net]
  | .traverses => [.sels, .latches, .time, .datum, .pwr, .arch, .trust, .vault, .net]
  | .transport => [.sels, .latches, .time, .datum, .pwr, .arch, .trust, .vault, .net]
  | .windows => [.sels, .latches, .time, .datum, .pwr, .arch, .trust, .vault, .net]
  | .ports => [.sels, .latches, .time, .datum, .pwr, .arch, .trust, .vault, .ks]
  | .eopin => [.sels, .latches, .time, .datum, .pwr, .arch, .trust, .vault, .nvm, .store, .trav, .pair, .win, .ks, .bay]
  | .classifier => [.sels, .latches, .free, .time, .datum, .pwr, .arch, .trust, .vault, .nvm, .store, .trav, .pair, .zeb, .win, .ks, .xp, .ciph, .bay]
  | .cipher => [.sels, .latches, .time, .arch]
  | .endpoint => [.sels, .latches, .time, .datum, .pwr, .arch, .trust, .vault, .net]
  | .rings => [.sels, .latches, .time, .datum, .pwr, .arch, .trust, .vault, .net]
  | .rootPorts => [.sels, .latches, .time, .datum, .arch, .trust, .net]
  | .bays => [.sels, .latches, .time, .datum, .arch, .trust, .net]
  | .pair => [.sels, .latches, .time, .arch]
  | .rootOfTrust => [.sels, .latches, .time, .arch]
  | .datum => [.sels, .latches, .time, .arch]
  | .registers => []
  | .events => [.sels, .latches, .free, .time, .datum, .pwr, .arch, .trust, .vault, .nvm, .store, .trav, .pair, .zeb, .win, .ks, .xp, .net, .ciph, .bay]

end Sys2Proof.Machine
end

