-- ==== Sys2Proof/Certificates/Slice0/Obligations.lean ====
section
/-!
DEFINITION. Certificates/Slice0/Obligations.lean: the statements about the machine, from the numbered rules of the spec, family by
family of its commands.
-/
section
open Sys2Proof Sys2Proof.Machine

/-- For every command c, queue rest and state s, a step of s with c at the front of its queue is exec of c on s with the queue's rest.
What the spec leaves open in it is as in log entry 9. -/
def Obligations.StepRunsTheFrontCommand : Prop :=
  ∀ (c : Instr) (rest : List Instr) (s : State),
    step { s with pending := c :: rest } = exec c { s with pending := rest }

/-- The model's choice (log entry 2): a step with an empty queue lets one tick of 1 ms of the block's clock pass. Held in cold reset nothing
changes. Otherwise the tick answers a state in which only the time and the power unit changed, the time since the cold reset has grown by
1,000,000 ns, a pending slew has moved toward zero by at most 500 ns (500 ppm), and without rate offset and slew controller time has grown by
1,000,000 ns exactly. -/
def Obligations.AnEmptyQueueLetsTheClockTick : Prop :=
  ∀ s : State, s.pending = [] →
    (s.pwr.held = true → step s = .next s) ∧
    (s.pwr.held = false → ∃ t, step s = .next t ∧ OnlyParts [.time, .pwr] s t ∧ t.pwr.upNs = s.pwr.upNs + 1000000 ∧
      (t.pwr.slewLeft - s.pwr.slewLeft).natAbs ≤ 500 ∧ t.pwr.slewLeft.natAbs ≤ s.pwr.slewLeft.natAbs ∧
      (s.pwr.adjPpb = 0 → s.pwr.adjFrac = 0 → s.pwr.slewLeft = 0 → t.time = s.time + 1000000))

/-- For every command, every operand and every state, exec answers a next state (no fault and no refusal), and the commands still waiting are
those that waited. -/
def Obligations.EveryCommandAnswersANextState : Prop :=
  ∀ (c : Instr) (s : State), ∃ t, exec c s = .next t ∧ t.pending = s.pending

/-- Right after reset the controller is held in cold reset, has released no engine, serves nothing and has accepted no power failure; every
register reads its reset value; the active datum changes no register and nothing is staged; no event is unread, no command waits, nothing
has been driven and controller time is 0.
What the spec leaves open in it is as in log entries 3, 4, 5, 7. -/
def Obligations.ResetHoldsTheController : Prop :=
  State.reset.pwr.held = true ∧ State.reset.pwr.released = false ∧ State.reset.pwr.serving = false ∧
  State.reset.vault.accepted = false ∧ (∀ r i, rdAt State.reset r i = rstVal r i) ∧ (∀ r i, cfgAt State.reset r i = rstVal r i) ∧
  State.reset.datum.staged = none ∧ State.reset.evt.queues = [] ∧ State.reset.pending = [] ∧ State.reset.out = [] ∧
  State.reset.time = 0

/-- The three tables that hold register values, selector copies and latched halves rise strictly right after reset. -/
def Obligations.ResetTablesAreCanonical : Prop := Tables State.reset

/-- From every state whose register tables rise strictly, a step that answers a next state, whatever command it runs, gives one whose register
tables rise strictly: a register, a path's copy of a selector and a latched half each have one value and one place. -/
def Obligations.EveryStepKeepsTheTables : Prop :=
  ∀ s t : State, Tables s → step s = .next t → Tables t

/-- From every state, a step that answers a next state, whatever command it runs (resets included), lowers no anti-rollback counter, takes back no
burnt owner digest, and lowers neither the Field Book's next SEQ nor the boot count: with every floor they had reached, they still have it.
What the spec leaves open in it is as in log entries 5, 19. -/
def Obligations.TheRootOfTrustTakesNothingBack : Prop :=
  ∀ s t : State, step s = .next t →
    (∀ c floor, floor ≤ tgetD s.trust.svn c 0 → floor ≤ tgetD t.trust.svn c 0) ∧
    s.trust.ownerDigests <+: t.trust.ownerDigests ∧ s.trust.nextSeq ≤ t.trust.nextSeq ∧ s.trust.bootCount ≤ t.trust.bootCount

/-- For every state: each of these faults raises its FATAL and stops service. The chiplet link lost: 0x0205, and the link reads down. An HBM
stack lost: 0x5801, a cold reset needed, the stack out, no dump. The lockstep pair: 0x060F, a cold reset needed, no dump. The crystal lost
while it was the reference: 0x0303 on the backup oscillator. A rail out of tolerance: VDD_PC (7) as the chiplet link; VDD_IO (6) below 1.60 V
as both HBM stacks, no dump; any other 0x0202 with the rail marked bad. A thermal trip: 0x0204, THERMTRIP_N low, the engines held stopped, a
cold reset needed. REFCLK_SYS out of tolerance: the network, Zeber and endpoint families out of service, or all without the
crystal, and a cold reset needed. The last engine of a kind without
substitute: 0x060F. Each leaves the selectors and latched halves, and each but the reference failures what else it names, as it was.
What the spec leaves open in it is as in log entries 22, 23, 44. -/
def Obligations.FatalFaultsStopService : Prop :=
  ∀ s : State,
    (∃ t, exec .chipletLinkFail s = .next t ∧ Stopped 0x0205 t ∧ t.pwr.chipletLink = false ∧
      Stands [.sels, .latches, .time, .arch, .xp, .net] s t) ∧
    (∀ k, ∃ t, exec (.hbmStackFault k) s = .next t ∧ Stopped 0x5801 t ∧ t.pwr.needCold = true ∧ k ∈ t.arch.hbmBad ∧
      t.vault = s.vault ∧ Stands [.sels, .latches, .time, .xp, .net] s t) ∧
    (∃ t, exec .lockstepDisagree s = .next t ∧ Stopped 0x060F t ∧ t.pwr.needCold = true ∧ t.arch.securityHeld = true ∧
      t.vault = s.vault ∧ Stands [.sels, .latches, .time, .xp, .net] s t) ∧
    (s.pwr.xtalBackup = false → ∃ t, exec .crystalFail s = .next t ∧ Stopped 0x0303 t ∧ t.pwr.xtalBackup = true ∧
      4 ∈ t.pwr.refBad ∧ Stands [.sels, .latches, .time, .arch, .xp, .net] s t) ∧
    (∀ rail mv, ∃ t, exec (.railFault rail mv) s = .next t ∧ rail ∈ t.pwr.railsBad ∧
      Stands [.sels, .latches, .time, .xp, .net] s t ∧
      (rail = 7 → Stopped 0x0205 t ∧ t.pwr.chipletLink = false) ∧
      (rail = 6 → mv < 1600 → Stopped 0x5801 t ∧ t.pwr.needCold = true ∧ t.arch.hbmBad = [0, 1] ∧ t.vault = s.vault) ∧
      (rail ≠ 7 → ¬(rail = 6 ∧ mv < 1600) → Stopped 0x0202 t)) ∧
    (∀ sensor temp, ∃ t, exec (.thermalTrip sensor temp) s = .next t ∧ Stopped 0x0204 t ∧ t.pwr.thermtrip = true ∧
      t.pwr.enginesStopped = true ∧ t.pwr.needCold = true ∧ Stands [.sels, .latches, .time, .arch, .xp, .net] s t) ∧
    (∀ ppm, 0 ∉ s.pwr.refBad → ∃ t, exec (.refclkOutOfTolerance 0 ppm) s = .next t ∧ Stopped 0x0301 t ∧
      t.pwr.needCold = true ∧ 0 ∈ t.pwr.refBad ∧ (∀ f ∈ [2, 3, 4, 5], f ∈ t.pwr.famDown) ∧
      (4 ∈ s.pwr.refBad ∨ s.pwr.xtalBackup = true → t.pwr.famDown = [0, 1, 2, 3, 4, 5, 6, 7, 8]) ∧
      (4 ∉ s.pwr.refBad → s.pwr.xtalBackup = false → t.vault.accepted = true) ∧
      Stands [.sels, .latches, .time, .arch] s t) ∧
    (∀ k i e, engineHolds k i s.arch = some e → e ∉ enginesOut k s.arch →
      ∃ t, exec (.engineRuntimeFail k i) s = .next t ∧ t.arch = removeEngine k e s.arch ∧ e ∈ enginesOut k t.arch ∧
        (lastOfKind k t.arch = true → Stopped 0x060F t) ∧ Stands [.sels, .latches, .time, .xp] s t)

/-- A reference of the networks or of the endpoint lost is noted and its family is out of service; restored, both are undone. On a path that may
write the register: TIME_ADJ_PPB within 1,000,000 ppb sets the rate offset and beyond it changes nothing but the error record; TIME_SLEW_NS adds
to the pending slew; TIME_STEP moves controller time by the signed 64-bit step unless disciplined, and then changes no time; disciplining is set
and cleared; WDT_KICK restarts the watchdog. A setpoint transaction that succeeds moves VDD_CORE up by at most 5 mV within 25 mV of the fused
value; one that fails counts, and the third in a row stops trimming. A temperature above THERM_WARN_C sets the warning and one not above it clears it.
What the spec leaves open in it is as in log entries 1, 10, 17. -/
def Obligations.ClocksAndMeasurementsFollowTheirRules : Prop :=
  ∀ s : State,
    (∀ ref ppm, ref ∈ [1, 2, 3] → ref ∉ s.pwr.refBad → ∃ t, exec (.refclkOutOfTolerance ref ppm) s = .next t ∧
      ref ∈ t.pwr.refBad ∧ (if ref = 3 then 5 else ref + 1) ∈ t.pwr.famDown ∧ Stands [.sels, .latches, .time, .arch] s t) ∧
    (∀ ref, ref ∈ s.pwr.refBad → ∃ t, exec (.refclkRestored ref) s = .next t ∧ ref ∉ t.pwr.refBad ∧
      (ref = 1 → 2 ∉ t.pwr.famDown) ∧ (ref = 2 → 3 ∉ t.pwr.famDown) ∧ (ref = 3 → 5 ∉ t.pwr.famDown) ∧
      (ref ∉ [1, 2, 3] → t.pwr.famDown = s.pwr.famDown) ∧ OnlyParts (.pwr :: evParts) s t) ∧
    (∀ p v, MayWrite p Reg.CLK_TIME_ADJ_PPB s → ∃ t, exec (.timeAdjPpbWrite p v) s = .next t ∧ OnlyParts [.regs, .pwr] s t ∧
      ((toSigned 32 v).natAbs ≤ 1000000 → t.pwr = { s.pwr with adjPpb := toSigned 32 v }) ∧
      (1000000 < (toSigned 32 v).natAbs → t.pwr = s.pwr)) ∧
    (∀ p v, MayWrite p Reg.CLK_TIME_SLEW_NS s → ∃ t, exec (.timeSlewNsWrite p v) s = .next t ∧ OnlyParts [.regs, .pwr] s t ∧
      t.pwr = { s.pwr with slewLeft := s.pwr.slewLeft + toSigned 32 v }) ∧
    (∀ p hi, MayWrite p Reg.CLK_TIME_STEP_HI s → ∃ t, exec (.timeStep p hi) s = .next t ∧ OnlyParts [.regs, .time] s t ∧
      (s.pwr.disciplined = true → t.time = s.time) ∧
      (s.pwr.disciplined = false → t.regs = s.regs ∧
        t.time = ((s.time : Int) + toSigned 64 (hi % 2 ^ 32 * 2 ^ 32 + sel s p Reg.CLK_TIME_STEP_LO)).toNat % 2 ^ 64)) ∧
    (∀ p, MayWrite p Reg.CLK_TIME_CMD s →
      (∃ t, exec (.setDisciplined p) s = .next t ∧ t.pwr = { s.pwr with disciplined := true } ∧ OnlyParts (.pwr :: evParts) s t) ∧
      exec (.clearDisciplined p) s = .next { s with pwr := { s.pwr with disciplined := false } }) ∧
    (∀ p, MayWrite p Reg.RST_WDT_KICK s →
      exec (.wdtKick p) s = .next { s with pwr := { s.pwr with wdtKickAt := s.time } }) ∧
    (∀ up, bitAt (cfg s Reg.PWR_PWR_CTL) 0 = true → s.pwr.released = true →
      (∃ t, exec (.avsTrim true up) s = .next t ∧ t.pwr.avsOk = true ∧ t.pwr.avsFails = 0 ∧ t.pwr.trimming = true ∧
        Out.avs t.pwr.coreMv ∈ t.out ∧
        (s.pwr.trimming = true → t.pwr.coreMv =
          if up then min (s.pwr.coreMv + 5) (min (Config.coreMvFused + 25) 800)
          else max (s.pwr.coreMv - 5) (max (Config.coreMvFused - 25) 700)) ∧
        OnlyParts (.pwr :: evParts) s t) ∧
      (∃ t, exec (.avsTrim false up) s = .next t ∧ t.pwr.avsOk = false ∧ t.pwr.avsFails = s.pwr.avsFails + 1 ∧
        t.pwr.coreMv = s.pwr.coreMv ∧ (s.pwr.avsFails = 2 → t.pwr.trimming = false) ∧ OnlyParts (.pwr :: evParts) s t)) ∧
    (∀ sensor temp, ∃ t, exec (.thermalWarning sensor temp) s = .next t ∧
      t.pwr = { s.pwr with thermWarn := decide (cfg s Reg.PWR_THERM_WARN_C < temp) } ∧ OnlyParts (.pwr :: evParts) s t)

/-- SYS_PWROK falling, RST_CMD = COLD, SYS_RST_N with nothing dirty or not serving, and the end of a held reset's wait each leave the controller
held in cold reset: die state lost; datum, fuses, Field Book, key archive and home copies kept. SYS_RST_N with dirty data while a dump already
runs is held until the dump ends. RST_CMD = WARM, the watchdog (WDT_EN, released; after FATAL 0x0403), the FATAL reset timer (FATAL_RESET, no
cold reset needed), the recovery of a failed start and the timer after a power failure's dump each leave a warm reset waiting for the dump or
done; BOOT_COUNT stands.
What the spec leaves open in it is as in log entries 18, 19, 20, 30. -/
def Obligations.ResetsHoldOrWaitAsTheirKindSays : Prop :=
  ∀ s : State,
    (∃ t, exec .sysPwrokFall s = .next t ∧ HeldCold 0 s t ∧ t.pending = s.pending) ∧
    (∀ p, MayWrite p Reg.RST_RST_CMD s → ∃ t, exec (.rstCold p) s = .next t ∧ HeldCold 2 s t ∧ t.pending = s.pending) ∧
    (¬(s.pwr.serving = true ∧ dirtyOrMirror s = true) → ∃ t, exec .sysRstN s = .next t ∧ HeldCold 1 s t ∧ t.pending = s.pending) ∧
    (s.pwr.serving = true → dirtyOrMirror s = true → s.vault.accepted = true → s.vault.dumpDone = false →
      exec .sysRstN s = .next { s with pwr := { s.pwr with resetAfterDump := some 1 } }) ∧
    (s.pwr.resetAfterDump = some 1 → ∃ t, exec .resetHoldExpire s = .next t ∧ HeldCold 1 s t ∧ t.pending = s.pending) ∧
    (∀ p, MayWrite p Reg.RST_RST_CMD s → ∃ t, exec (.rstWarm p) s = .next t ∧ WarmUnderWay 3 t ∧
      t.trust.bootCount = s.trust.bootCount ∧ Stands [.time, .arch] s t) ∧
    (bitAt (cfg s Reg.RST_RST_CTL) 0 = true → s.pwr.released = true → ∃ t, exec .watchdogExpire s = .next t ∧ WarmUnderWay 4 t ∧
      t.trust.bootCount = s.trust.bootCount ∧ Stands [.time, .arch] s t) ∧
    (s.pwr.fatal = true → s.pwr.needCold = false → bitAt (cfg s Reg.RST_RST_CTL) 1 = true →
      ¬(s.vault.accepted = true ∧ s.vault.dumpDone = false) → ∃ t, exec .fatalResetTimer s = .next t ∧ WarmUnderWay 7 t ∧
      t.trust.bootCount = s.trust.bootCount ∧ Stands [.time, .arch] s t) ∧
    (s.pwr.startFail = true → ∃ t, exec .startupPowerfailRecover s = .next t ∧ WarmUnderWay 5 t ∧
      t.trust.bootCount = s.trust.bootCount ∧ Stands [.time, .arch] s t) ∧
    (s.vault.accepted = true → s.vault.dumping = true → s.vault.dumpDone = true → s.vault.source ≠ 2 → s.pwr.railsBad = [] →
      ∃ t, exec .postDumpResetTimer s = .next t ∧ WarmUnderWay 5 t ∧ t.trust.bootCount = s.trust.bootCount ∧ Stands [.time, .arch] s t)

/-- A held controller's COLD_RESET starts it: BOOT_COUNT grows by one, the straps are sampled after a fall of SYS_PWROK, and it is no longer
held; a lockstep pair that fails stops with FATAL 0x060F, bad trims with 0x0207; with two unusable slots it stops in recovery with 0x060B.
VDD_PC rising with good trims brings the chiplet link up, with bad ones stops service. A block reset is refused with its RESULT and nothing
else, or done with RESULT 0. The assembly wait ends assembling. SHUTDOWN stops admission; flushed, it is done and nothing is served; its
timeout writes the vault in place of the flush, or ends the shutdown where no dump is due.
What the spec leaves open in it is as in log entries 4, 5, 7, 22, 63. -/
def Obligations.StartsAndShutdownsComplete : Prop :=
  ∀ s : State,
    (∀ f, s.pwr.held = true → ∃ t, exec (.coldReset f) s = .next t ∧ t.pwr.held = false ∧
      t.trust.bootCount = s.trust.bootCount + 1 ∧ t.pwr.ctrlId = (if s.pwr.kind = 0 then f.ctrlId % 2 else s.pwr.ctrlId) ∧
      (f.lockstepOk = false → Stopped 0x060F t ∧ t.arch.securityHeld = true ∧ t.pwr.needCold = true) ∧
      (f.lockstepOk = true → f.trimOk = false → Stopped 0x0207 t ∧ t.pwr.needCold = true) ∧
      (f.lockstepOk = true → f.trimOk = true → (t.arch.tested = true ∧
          (t.trust.queue.getLast?.map fun r => r.type) = some 1) ∨ (Stopped 0x060B t ∧ t.trust.recovery = true)) ∧
      Stands [.sels, .latches, .net] s t) ∧
    (∃ t, exec (.vddPcRise true) s = .next t ∧ t.pwr.chipletLink = true ∧ t.bay.trimBad = false ∧
      Stands [.sels, .latches, .time, .arch, .net] s t) ∧
    (∃ t, exec (.vddPcRise false) s = .next t ∧ t.pwr.chipletLink = false ∧ Stopped 0x0205 t ∧
      Stands [.sels, .latches, .time, .arch, .net] s t) ∧
    (∀ p, MayWrite p Reg.RST_RST_CMD s → ∃ t, exec (.rstBlock p) s = .next t ∧
      (∀ r, blockRefusal s (sel s p Reg.RST_BLK_SEL) = some r → t = { s with pwr := { s.pwr with cmdResult := r } }) ∧
      (blockRefusal s (sel s p Reg.RST_BLK_SEL) = none → t.pwr = { s.pwr with cmdResult := 0 } ∧
        Stands [.sels, .latches, .time, .datum, .arch, .trust] s t)) ∧
    (s.pwr.assembling = true → ∃ t, exec .assemblyWaitExpire s = .next t ∧ t.pwr.assembling = false ∧
      Stands [.sels, .latches, .time, .datum, .arch, .trust, .net] s t) ∧
    (∀ p, MayWrite p Reg.RST_RST_CMD s → ∃ t, exec (.rstShutdown p) s = .next t ∧
      t.pwr = { s.pwr with cmdResult := 0, shuttingDown := true, admitStop := true } ∧
      Stands [.sels, .latches, .time, .datum, .arch, .trust, .vault, .win, .net] s t) ∧
    (s.pwr.shuttingDown = true → allClean s = true → ∃ t, exec .shutdownFlushed s = .next t ∧ t.pwr.shutdownDone = true ∧
      t.pwr.shuttingDown = false ∧ t.pwr.serving = false ∧ Stands [.sels, .latches, .time, .datum, .arch, .trust, .net] s t) ∧
    (s.pwr.shuttingDown = true → s.vault.accepted = false → ∃ t, exec .sdTimeout s = .next t ∧
      (t.vault.accepted = true ∨ t.pwr.shutdownDone = true) ∧ t.pwr.serving = false ∧ Stands [.sels, .latches, .time, .arch, .net] s t)

/-- For every command of a family and every state, the next state has the parts that Family.kept lists for the family as they were, and the same
queue. Among them: host, cache, traverse, transport, window, packet, parser, endpoint and ring commands never touch the active or staged
datum, the power unit, controller time, the root of trust, the vault state or any path's selectors; the parse engines' instructions touch
no namespace, store, pair, window or key state either. -/
def Obligations.EveryFamilyStaysWithinItsParts : Prop :=
  ∀ (c : Instr) (s t : State), exec c s = .next t → Stands (familyOf c).kept s t

/-- In a state whose register tables are canonical: a register written reads back the value at its index and every other register and index keeps
its value; a saturating counter counted up reads the sum, at most all ones; a path's selector written reads back on that path, and every
other path and selector keeps its copy; all for offsets of 16 bits, pages of 8 bits and indices of 26 bits.
What the spec leaves open in it is as in log entry 12. -/
def Obligations.RegistersReadBackWhatWasWritten : Prop :=
  ∀ (s : State) (r r' : RegId) (i j v : Nat) (p p' : Path), Tables s → r.off < 0x10000 → r'.off < 0x10000 → r.page < 256 →
    r'.page < 256 → i < 0x4000000 → j < 0x4000000 →
    rdAt (wrAt r i v s) r i = v ∧ ((r', j) ≠ (r, i) → rdAt (wrAt r i v s) r' j = rdAt s r' j) ∧
    rdAt (bumpAt r i v s) r i = min (rdAt s r i + v) 0xFFFFFFFF ∧
    sel (setSel p r v s) p r = v ∧ ((p', r') ≠ (p, r) → sel (setSel p r v s) p' r' = sel s p' r') ∧
    Tables (wrAt r i v s) ∧ Tables (setSel p r v s)

/-- PWRFAIL_N falling starts the filter; high again before it ends is a glitch, counted; low to its end, or both feeds bad with PF_FEED_EN, accepts
a power failure: source and time noted, service stopped, every command context ended, no event record written afterwards. 100 us later the
links go off. The vault header is written WRITING with the image of that moment, its DATA records in the key order the image lists, once no
drive command is in flight. The dump completes: header COMPLETE, and the reset that waited for it follows. A replay with nothing left dirty
serves; another goes on.
What the spec leaves open in it is as in log entries 7, 18, 24, 30, 77. -/
def Obligations.PowerFailureIsAcceptedDumpedAndReplayed : Prop :=
  ∀ s : State,
    (s.vault.accepted = false →
      exec .pwrfailNFall s = .next { s with vault := { s.vault with pfLow := true } }) ∧
    (s.vault.pfLow = true → s.vault.accepted = false → ∃ t, exec .pwrfailGlitch s = .next t ∧
      t.vault = { s.vault with pfLow := false } ∧ OnlyParts [.regs, .vault] s t ∧
      (Tables s → rd t Reg.CACHE_PF_GLITCHES = min (rd s Reg.CACHE_PF_GLITCHES + 1) 0xFFFFFFFF)) ∧
    (s.vault.pfLow = true → s.vault.accepted = false → ∃ t, exec .powerFailureAccept s = .next t ∧ t.vault.accepted = true ∧
      t.vault.source = 0 ∧ t.vault.acceptAt = s.time ∧ t.pwr.serving = false ∧ t.nvm.ctxs = [] ∧ t.store.jobs = []) ∧
    (bitAt (cfg s Reg.CACHE_CACHE_CTL) 4 = true → s.vault.accepted = false → ∃ t, exec .feedMonitorFail s = .next t ∧
      t.vault.accepted = true ∧ t.vault.source = 1 ∧ t.vault.acceptAt = s.time ∧ t.pwr.serving = false ∧ t.nvm.ctxs = [] ∧
      t.store.jobs = []) ∧
    (∀ q r, s.vault.accepted = true → qWrite q r s = s) ∧
    (s.vault.accepted = true → s.vault.serdesOff = false → exec .serdesOffTimer s =
      .next (zebLost ((List.range 8).foldl (fun s g => netGroupDown g s) { s with vault := { s.vault with serdesOff := true } }))) ∧
    (s.vault.dumping = true → s.vault.dumpDone = false → ¬(s.vault.img.state = 1 ∧ s.vault.img.tAccept = s.vault.acceptAt) →
      (∀ c ∈ s.store.cmds, c.2.discard = true) → s.store.cmdWait = [] → ∃ t, exec .vaultHeaderWriting s = .next t ∧
      t.vault = { s.vault with img := buildImage s } ∧ t.vault.img.state = 1 ∧ t.vault.img.seq = s.vault.img.seq + 1 ∧
      t.vault.img.data = dumpData s ∧ t.vault.img.bootCount = s.trust.bootCount ∧ OnlyParts [.regs, .out, .vault, .store, .zeb, .bay] s t) ∧
    (s.vault.dumping = true → s.vault.dumpDone = false → s.vault.img.state = 1 → ∃ t, exec .vaultDumpComplete s = .next t ∧
      (s.pwr.resetAfterDump = none → s.pwr.shuttingDown = false →
        t.vault = { s.vault with dumpDone := true, img := { s.vault.img with state := 2, tComplete := s.time } } ∧
        OnlyParts [.regs, .out, .evt, .pwr, .vault, .store, .zeb, .ep, .bay] s t) ∧
      (s.pwr.resetAfterDump = some 1 → t.pwr.held = true ∧ t.pwr.kind = 1) ∧
      (∀ k, k ≠ 1 → s.pwr.resetAfterDump = some k → WarmUnderWay k t) ∧
      (s.pwr.resetAfterDump = none → s.pwr.shuttingDown = true → t.pwr.shutdownDone = true)) ∧
    (∀ ko mo eo un pa ra rate ms, s.pwr.released = true → s.pwr.assembling = false → s.vault.accepted = false →
      s.pwr.serving = false → s.pwr.fatal = false → s.trust.kekDbg < 2 → ∃ t, exec (.vaultReplay ko mo eo un pa ra rate ms) s = .next t ∧
      (t.pwr.serving = true ∨ t.vault.replaying = true) ∧
      (s.vault.replaying = true → dirtyBlocks s = 0 → t.pwr.serving = true))

/-- A block of data that arrives for a waiting writer that pulls, and is not placed yet, is placed in the writer's version. A writer whose turn has
come fails with 2/86h where a window binds its range, with 7/80h and the offset of the first block newer than its stake, and else, its blocks
landed, is effective and completes as the rules allow. A writer of no traverse that fails before its turn ends
with its cause. A frame past its age is queued.
The next frame flushes, or its unwritten parcel formats. The strips follow the record and the frame is done when all are written. Memory
errors are counted, dropped, recorded as lost or recomputed by kind.
What the spec leaves open in it is as in log entries 25, 29, 74. -/
def Obligations.TheCacheCarriesWritesToTheMembers : Prop :=
  ∀ s : State,
    (∀ id lba data c, ctxAt s id = some c → c.state = .waiting → c.writer = true → c.pulling = true → c.deferred = false →
      thas c.placed lba = false → lba ∈ rangeBlocks c.ranges → (∀ a b d e, c.op ≠ .traverse a b d e) →
      ∃ t, exec (.writeBlockPlaced id lba data) s = .next t ∧ ∃ c', ctxAt t id = some c' ∧ thas c'.placed lba = true) ∧
    (∀ id c, ctxAt s id = some c → writerReady s c = true → boundRange s c.slot c.adm c.ranges = true →
      exec (.writerTakeEffect id) s = .next (failWriter id 2 0x86 none 0 s)) ∧
    (∀ id c u, ctxAt s id = some c → writerReady s c = true → boundRange s c.slot c.adm c.ranges = false → c.stake = none →
      landBlocks c.slot c.adm (writeThrough s) (c.placed.map fun p => (p.1, { p.2 with wstamp := 0 })) s = some u →
      exec (.writerTakeEffect id) s = .next (tryComplete id (pressureCheck (pinReaders (modCtx id (fun c' =>
        { c' with state := .effective, placed := [], wtLeft := if writeThrough s then rangeBlocks c.ranges else [] }) u))))) ∧
    (∀ id c k l, ctxAt s id = some c → writerReady s c = true → boundRange s c.slot c.adm c.ranges = false → c.stake = some k →
      (rangeBlocks c.ranges).find? (fun l => decide (k < (stampOf s c.slot l).getD 0)) = some l →
      ∃ u, OnlyParts evParts s u ∧ exec (.writerTakeEffect id) s =
        .next (failWriter id 7 0x80 (some true) (l - (c.ranges.headD (0, 0)).1) u)) ∧
    (∀ id c, ctxAt s id = some c → c.state = .waiting → c.writer = true →
      tfind s.trav.open_ (fun _ v => v.ctx == id && v.remote.isNone) = none →
      exec (.writerFail id true) s = .next (failWriter id 7 0x91 (some false) 0 s) ∧
      exec (.writerFail id false) s = .next (failWriter id 0 0x04 none 0 s)) ∧
    (∀ slot p st f, tget s.store.frames (stripeKey slot p st) = some f → f.st = .gathering → f.dirty ≠ 0 →
      exec (.gatherAgeExpire slot p st) s = .next { s with store := { s.store with
        frames := tset s.store.frames (stripeKey slot p st) { f with queued := true } } }) ∧
    (∀ k f, s.vault.accepted = false → s.pair.state ≠ 4 → s.pair.state ≠ 6 → s.pwr.fatal = false → nextFlush s = some k →
      tget s.store.frames k = some f → exec .flushStart s = .next (
        if (entAt s (entIdx s f.slot f.parcel)).state = 1 then formatBegin f.slot f.parcel s else startFlush k s)) ∧
    (∀ slot p st f fl, tget s.store.frames (stripeKey slot p st) = some f → f.flush = some fl → fl.stage = 1 →
      (∀ c ∈ allCmds s, c.purpose = .journal fl.jseq → c.discard = true) → exec (.journalRecordWritten slot p st) s = .next (flushStrips (stripeKey slot p st) s)) ∧
    (∀ slot p st f fl, tget s.store.frames (stripeKey slot p st) = some f → f.flush = some fl → fl.stage = 2 → fl.left = 0 →
      exec (.flushStripsDone slot p st) s = .next (stallGo (travRetire (flushDone (stripeKey slot p st) s)))) ∧
    (∀ slot lba, ∃ t, exec (.memoryError 0 slot lba) s = .next t ∧ OnlyParts [.regs] s t ∧
      (Tables s → rd t (Reg.HDR_ERR_CNT_CORR 0x22) = min (rd s (Reg.HDR_ERR_CNT_CORR 0x22) + 1) 0xFFFFFFFF)) ∧
    (∀ slot lba c, visCell s slot lba = some c → c.dirty = true → inPair s = false → ∃ t, exec (.memoryError 2 slot lba) s = .next t ∧
      Stands [.sels, .latches, .time, .datum, .pwr, .arch, .trust, .vault, .net] s t)

/-- A Connect to a subsystem that the datum names and that allows the host: with queue identifier 0, on a permitted station, below 8,192
associations and 4,096 hosts, it opens an association under the lowest free CNTLID with its host index, subsystem, station, the keep-alive
timeout not below KATO_MIN, and an admin queue of at most 128 entries, and answers the CNTLID; with another free identifier up to 128 it adds
an I/O queue of at most 4,096 entries to its association. An unknown subsystem or a host not allowed is refused, holding nothing. Keep Alive
restarts the timer and is answered. Its expiry ends the association, counted, with event 0x2003. Identify returns its page.
What the spec leaves open in it is as in log entries 27, 28. -/
def Obligations.AssociationsOpenAndEnd : Prop :=
  ∀ (s : State) (conn cid nqn subsys station cntlid qid size kato : Nat) (r : List Nat) (a : Assoc) (h c : Nat),
    (tget s.datum.active.subsystems subsys = none →
      exec (.connect conn cid nqn subsys station cntlid qid size kato) s = .next (refuseConnect conn cid 0x82 true s)) ∧
    (tget s.datum.active.subsystems subsys = some r → hostAllowed r (hostIdx s nqn) = false →
      exec (.connect conn cid nqn subsys station cntlid qid size kato) s = .next (refuseConnect conn cid 0x84 true s)) ∧
    (tget s.datum.active.subsystems subsys = some r → hostAllowed r (hostIdx s nqn) = true → bitAt (fieldLE r 260 128) station = true →
      s.nvm.assocs.length < 8192 → (hostsIn s).length < 4096 → (hostIdx s nqn).or (hostFree s) = some h → freeCntlid s = some c →
      ∃ t, exec (.connect conn cid nqn subsys station cntlid 0 size kato) s = .next t ∧
        tget t.nvm.assocs c = some { host := h, subsys := subsys, station := station, kato := max kato (cfg s Reg.NVMF_KATO_MIN),
                                     kaAt := s.time } ∧
        tget t.nvm.queues (c * 256) = some { size := min size 128 } ∧ tget t.nvm.conn (c * 256) = some conn ∧
        OnlyParts [.out, .nvm, .ep, .xp] s t) ∧
    (tget s.datum.active.subsystems subsys = some r → hostAllowed r (hostIdx s nqn) = true → assocAt s cntlid = some a →
      a.station = station → hostIdx s nqn = some a.host → a.subsys = subsys → 0 < qid → qid ≤ 128 →
      tget s.nvm.queues (cntlid * 256 + qid) = none →
      ∃ t, exec (.connect conn cid nqn subsys station cntlid qid size kato) s = .next t ∧
        t.nvm = { s.nvm with queues := tset s.nvm.queues (cntlid * 256 + qid) { size := min size 4096 }
                             conn := tset s.nvm.conn (cntlid * 256 + qid) conn } ∧ OnlyParts [.out, .nvm, .ep, .xp] s t) ∧
    (assocAt s cntlid = some a →
      exec (.keepAlive cntlid cid) s = .next (respond (cntlid * 256) cid 0 0 (some false) 0 0
        { s with nvm := { s.nvm with assocs := tset s.nvm.assocs cntlid { a with kaAt := s.time } } }) ∧
      exec (.keepAliveExpire cntlid) s = .next (raise 0x2003 (leBytes 2 cntlid ++ leBytes 2 a.station)
        (bump Reg.NVMF_KATO_EXPIRED (endAssociation cntlid s)))) ∧
    (∀ q nsid slot n, queueAssoc s q = some a →
      exec (.identify q cid 1 nsid) s = .next (adminDone q cid 0 0 (some false) 0 (drive (.page q cid (identifyCtrl (q / 256)) []) s)) ∧
      (attachedSlot s a.subsys a.host nsid = some slot → nsAt s slot = some n → ∃ t, exec (.identify q cid 0 nsid) s = .next t ∧
        OnlyParts [.regs, .out, .evt, .ep, .xp] s t ∧ ∃ d u, d ∈ [n.deadline, cfgAt s Reg.NSMGR_NS_DEADLINE slot] ∧
          u = drive (.page q cid (identifyNs slot { n with deadline := d }) []) s ∧ t = adminDone q cid 0 0 (some false) 0 u))

/-- Where the association may manage namespaces: a create whose sizes agree and whose attributes, members, parcels and entries are in range puts a
FORMING namespace with the lowest free NSID into the lowest free slot, and waits; once its run of parcels is free it is recorded ACTIVE with
its entries and key. A delete of an ACTIVE namespace is recorded and waits; with nothing of it left it is released. A parcel released and
persisted is freed, and the last one frees the slot. Attach and detach are recorded for each host of the list. Hosts already attached, or not
attached, answer 1/18h and 1/1Ah; sizes that differ 1/1Bh; a command that may not be issued 0/01h.
What the spec leaves open in it is as in log entries 28, 45. -/
def Obligations.NamespacesComeAndGo : Prop :=
  ∀ (s : State) (q cid : Nat) (a : Assoc), queueAssoc s q = some a →
    (∀ nsze ncap flbas shared vendor n slot nsid, mgmtAllowed s q 0 = true → nsze = ncap → nsze ≠ 0 → bits flbas 0 4 = 0 →
      bits flbas 5 2 = 0 → vendorArea vendor = some n → ¬(n.witness = true ∧ s.nvm.nss.any (fun p => p.2.witness) = true) →
      layoutW n.layout ≤ (maskBays (curMask s)).length → ceilDiv nsze 16384 ≤ parcelsFor s (curMask s) n.layout →
      ceilDiv nsze 16384 ≤ entryLimit - entriesUsed s → firstIdx 16384 (fun i => !thas s.nvm.nss i) = some slot →
      freeNsid s a.subsys = some nsid → ∃ t, exec (.namespaceCreate q cid nsze ncap flbas shared vendor) s = .next t ∧
        nsAt t slot = some { n with state := 1, subsys := a.subsys, nsid := nsid, nsze := nsze, shared := shared
                                    owner := if inPair s then n.prefOwner else s.pwr.ctrlId } ∧
        tget t.nvm.mgmtPend slot = some s.nvm.nextCtx ∧ OnlyParts [.nvm] s t) ∧
    (∀ nsze ncap flbas shared vendor, mgmtAllowed s q 0 = true → nsze ≠ ncap →
      exec (.namespaceCreate q cid nsze ncap flbas shared vendor) s = .next (answer q cid 1 0x1B none 0 0 s)) ∧
    (∀ nsid slot, mgmtAllowed s q 0 = true → nsidSlot s a.subsys nsid = some slot → ∃ u, OnlyParts [.nvm] s u ∧
      tget u.nvm.mgmtPend slot = some s.nvm.nextCtx ∧
      exec (.namespaceDelete q cid nsid) s = .next (requestRecord (.nsDelete slot) .nothing (nsDeleting slot) (fun s => s) u)) ∧
    (∀ nsid cntlids slot hs n, mgmtAllowed s q 1 = true → nsidSlot s a.subsys nsid = some slot → listHosts s a.subsys cntlids = some hs →
      nsAt s slot = some n →
      ((hs.any fun h => n.hosts.contains h) = true →
        exec (.namespaceAttach q cid nsid cntlids) s = .next (answer q cid 1 0x18 none 0 0 s)) ∧
      ((hs.any fun h => n.hosts.contains h) = false → (n.shared = true ∨ n.hosts.length + hs.length ≤ 1) →
        exec (.namespaceAttach q cid nsid cntlids) s = .next (hostRecords s.nvm.nextCtx slot (.attach slot) (nsAttach slot) hs
          (adminCtx q cid a.host slot 0x15 s).2)) ∧
      ((hs.any fun h => !n.hosts.contains h) = true →
        exec (.namespaceDetach q cid nsid cntlids) s = .next (answer q cid 1 0x1A none 0 0 s)) ∧
      ((hs.any fun h => !n.hosts.contains h) = false →
        exec (.namespaceDetach q cid nsid cntlids) s = .next (hostRecords s.nvm.nextCtx slot (.detach slot) (nsDetach slot) hs
          (adminCtx q cid a.host slot 0x15 s).2))) ∧
    (∀ nsid cntlids, mgmtAllowed s q 1 = false →
      exec (.namespaceAttach q cid nsid cntlids) s = .next (answer q cid 0 0x01 none 0 0 s) ∧
      exec (.namespaceDetach q cid nsid cntlids) s = .next (answer q cid 0 0x01 none 0 0 s)) ∧
    (∀ slot n id base, nsAt s slot = some n → tget s.nvm.mgmtPend slot = some id → n.state = 1 → keyChangeOk s = true →
      freeRun s (ceilDiv n.nsze 16384) = some base → ∃ tab key u n', n'.base = base ∧ n'.parcels = ceilDiv n.nsze 16384 ∧
        n'.ready = true ∧ OnlyParts [.free, .nvm, .ciph] s u ∧ exec (.namespaceActive slot) s = .next (requestRecord
          (.nsCreate slot n' tab key) (.ctx id n.nsid 0) (nsActivate slot n' tab key)
          (fun s => finish id 0 0 (some false) n.nsid 0 s) u)) ∧
    (∀ slot n id, nsAt s slot = some n → tget s.nvm.mgmtPend slot = some id → n.state = 3 → keyChangeOk s = true →
      (∀ p ∈ s.nvm.ctxs, p.2.slot = slot → p.1 = id) → (∀ p ∈ s.trav.open_, slot ∈ p.2.slots → p.2.state = .closed) →
      exec (.namespaceDeleteComplete slot) s = .next (requestRecord (.keyStore slot 0 0 0) (.ctx id 0 0) (nsRelease slot)
        (fun s => finish id 0 0 (some false) 0 0 s) { s with nvm := { s.nvm with mgmtPend := tdel s.nvm.mgmtPend slot } })) ∧
    (∀ idx slot p, trising s.store.cad = true → trising s.store.home = true → entOwner s idx = some (slot, p) →
      (entAt s idx).state = 5 → (tgetD s.store.home idx {}).state = 5 →
      ∃ u, OnlyParts [.regs, .out, .store, .pair, .zeb] s u ∧ entAt u idx = {} ∧ tget u.store.home idx = none ∧
        (∀ n, nsAt s slot = some n → exec (.parcelReleased idx) s = .next (
          if (List.range n.parcels).any fun p => (entAt u (n.base + p)).state != 0 then u
          else requestRecord (.nsFree slot) .nothing (nsFree slot) (fun s => s) u)))

/-- For a command of a queue of an association that holds nothing unparsed and has room, while admission runs and the bounds allow it, at the
owner of its ACTIVE, attached, ready namespace: READ, WRITE, WRITE_ZEROES, DATASET_MANAGEMENT, FLUSH, STAKE_CONDITIONED_WRITE and the four
reservation commands each draw the namespace's next admission number, take a context that carries it, and start. Started: a range past NSZE
ends 0/80h, more than 512 blocks 0/02h, a reservation conflict 0/83h, a plain write where stakes are required 7/81h; a read behind no writer
pins, a write pulls its data, a flush behind no writer succeeds. A capsule behind others is held in its queue's order. CONTEXT_FREED
admits the next held capsule. A fused or unsupported one answers 0/01h.
What the spec leaves open in it is as in log entries 28, 39, 40. -/
def Obligations.IoCommandsAreAdmittedNumberedAndStarted : Prop :=
  ∀ (s : State) (c : Instr) (q : Nat) (cap : Capsule) (x : Queue) (a : Assoc), hostCommand c = some (q, cap) →
    tget s.nvm.queues q = some x → queueAssoc s q = some a →
    (tcount s.nvm.ctxs fun _ k => k.q == q) + x.held.length < x.size →
    (x.held ≠ [] → exec c s = .next { s with nvm := { s.nvm with queues := tset s.nvm.queues q { x with held := x.held ++ [cap] } } }) ∧
    (∀ slot n adm u, x.held = [] → mayParse (holdCapsule q cap x s) a.host = true →
      attachedSlot s a.subsys a.host cap.nsid = some slot → nsAt s slot = some n → n.moving = false → n.admHold = false →
      ownsNs s n = true → n.ready = true → servesNow s = true → opStamps cap.op = true → opWindow cap.op = none →
      stamp slot (holdCapsule q cap x s) = (some adm, u) →
      adm = n.adm + 1 ∧ exec c s = .next (boundCheck a.host (popCapsule q (startOp u.nvm.nextCtx slot n a.host cap.op
        (newCtx (ctxFor (baseCtx q a.host cap.cid) slot adm cap.op) u).2)))) ∧
    (∀ op, cap.op = .other op → x.held = [] → mayParse (holdCapsule q cap x s) a.host = true →
      exec c s = .next (boundCheck a.host (popCapsule q (sendOutcome (baseCtx q a.host cap.cid) 0 0x01 none 0 0 (holdCapsule q cap x s))))) ∧
    exec .contextFreed s = .next (admitForwarded s.pair.fwdHeld.length (admitNext s))

/-- A started command whose range passes NSZE ends with 0/80h; one of more than 512 blocks with 0/02h; one a reservation refuses with 0/83h; a
plain write in a namespace that requires stakes with 7/81h, counted; a read with no earlier overlapping writer pins its versions and behind
one waits; a write pulls its data; a flush with every earlier writer done succeeds and else waits.
What the spec leaves open in it is as in log entries 28, 42. -/
def Obligations.AStartedCommandMeetsItsChecks : Prop :=
  ∀ (s : State) (id slot host a nlb : Nat) (n : Ns) (c : Ctx), ctxAt s id = some c →
    (n.nsze < a + nlb → startOp id slot n host (.read a nlb) s = finish id 0 0x80 none 0 0 s ∧
      startOp id slot n host (.write a nlb) s = finish id 0 0x80 none 0 0 s ∧
      startOp id slot n host (.zeroes a nlb) s = finish id 0 0x80 none 0 0 s) ∧
    (a + nlb ≤ n.nsze → 512 < nlb → startOp id slot n host (.read a nlb) s = finish id 0 0x02 none 0 0 s ∧
      startOp id slot n host (.write a nlb) s = finish id 0 0x02 none 0 0 s) ∧
    (a + nlb ≤ n.nsze → nlb ≤ 512 →
      (resvRefuses n.resv host true = true → startOp id slot n host (.write a nlb) s = finish id 0 0x83 none 0 0 s) ∧
      (resvRefuses n.resv host true = false → n.stakeMode = true → startOp id slot n host (.write a nlb) s =
        finish id 7 0x81 (some true) 0 0 (bumpAt Reg.NSMGR_NS_STAKE_REFUSED slot 1 s)) ∧
      (resvRefuses n.resv host true = false → n.stakeMode = false → startOp id slot n host (.write a nlb) s = pullData id s) ∧
      (resvRefuses n.resv host false = true → startOp id slot n host (.read a nlb) s = finish id 0 0x83 none 0 0 s) ∧
      (resvRefuses n.resv host false = false → startOp id slot n host (.read a nlb) s =
        if writerBefore s slot c.adm [(a, nlb)] then s else pinReader id s)) ∧
    startOp id slot n host .flush s = if flushClear s slot c.adm then finish id 0 0 (some false) 0 0 s else s

/-- The completion of a tag that is quarantined is discarded, counted, and lifts the quarantine with error code 0x10 and event 0x3003 on its
port. Otherwise the tag is freed, and a read delivers its blocks to the job that asked for them, counted late where it was hedged and the
job had them all, or to the partner that did; a write done
takes one strip from its flush, or plans the flush again where it failed; a home write counts toward the persistence of its entry; a write for
the partner is answered. A completion that is to be discarded only frees its tag.
What the spec leaves open in it is as in log entries 24, 62, 69. -/
def Obligations.DriveCompletionsSettleWhatIssuedThem : Prop :=
  ∀ (s : State) (tag : Nat) (c : DrvCmd), tget s.store.cmds tag = some c →
    (c.quarantined = true → ∀ raws ok,
      exec (.driveReadComplete tag raws) s = .next (lateCompletion tag s) ∧
      exec (.driveWriteComplete tag ok) s = .next (lateCompletion tag s) ∧
      OnlyParts [.regs, .out, .evt, .store, .ep, .bay] s (lateCompletion tag s)) ∧
    (c.quarantined = false → c.write = false → c.discard = false → ∀ raws,
      (∀ j strip rows d, c.purpose = .read j strip rows d →
        let u := freeCmd tag s
        exec (.driveReadComplete tag raws) s = .next (settleFailed (takeRead j strip rows raws
          (if c.hedged && (jobAt u j).elim true fun x => rows.all fun b => thas x.got (strip * 16 + b)
            then bump Reg.PARITY_HEDGE_LATE u else u)))) ∧
      (∀ t, c.purpose = .remote t → exec (.driveReadComplete tag raws) s =
        .next (zsend (.stripRsp t (raws.all fun r => r.ok) raws) (freeCmd tag s)))) ∧
    (c.quarantined = false → c.write = true → c.discard = false →
      (∀ k, c.purpose = .flushWrite k →
        exec (.driveWriteComplete tag false) s = .next (replan k false (freeCmd tag s)) ∧
        ∃ t, exec (.driveWriteComplete tag true) s = .next t ∧
          t.store.frames = tmod (freeCmd tag s).store.frames k (fun f => { f with flush := f.flush.map fun fl => { fl with left := fl.left - 1 } })) ∧
      (∀ idx ok, c.purpose = .home idx → exec (.driveWriteComplete tag ok) s = .next (homeWritten idx (freeCmd tag s))) ∧
      (∀ t ok, c.purpose = .remote t →
        exec (.driveWriteComplete tag ok) s = .next (zsend (.stripRsp t ok []) (freeCmd tag s)))) ∧
    (c.quarantined = false → c.write = true → c.discard = true → ∀ ok,
      exec (.driveWriteComplete tag ok) s = .next (freeCmd tag s))

/-- A strip read past its deadline whose stripe has fewer than two erasures is hedged: counted, its strip marked, and the job goes on; with two
erasures it waits, counted, with event 0x2302. A parity job done rebuilds the rows it asked for that have at most two erasures, counts its bytes in its class and goes on
with nothing left to reconstruct. A sequencer that fails is taken out with event 0x2304, once. A frame held on a row is queued again.
What the spec leaves open in it is as in log entries 24, 69, 75. -/
def Obligations.ParityWorkGoesOn : Prop :=
  ∀ (s : State),
    (∀ tag c j strip rows d x, tget s.store.cmds tag = some c → c.purpose = .read j strip rows d → c.write = false → c.discard = false →
      c.hedged = false → c.deadline = true → jobAt s j = some x →
      (2 ≤ (stripErasures s x).length → exec (.deadlineExpire tag) s =
        .next (raise 0x2302 (leBytes 2 x.slot ++ leBytes 4 x.parcel ++ [x.stripe % 256])
          (bump Reg.PARITY_HEDGE_LIMITED (setJob j { x with waited := true } s)))) ∧
      ((stripErasures s x).length < 2 → exec (.deadlineExpire tag) s =
          .next (settleFailed (jobStep j (setJob j { x with hedged := x.hedged ++ [strip] } (bump Reg.PARITY_HEDGES
            { s with store := { s.store with cmds := tset s.store.cmds tag { c with hedged := true } } })))))) ∧
    (∀ j x, jobAt s j = some x → x.recon = true →
      let rows := (reconRows s x).filter fun b => decide ((rowErased s x b).length ≤ 2)
      let r := rows.foldl (fun (acc : Job × State) b => rebuildRow b acc.1 acc.2) (x, s)
      let u := parityBytes x.cls (4096 * (rows.flatMap fun b => rowNeeds r.2 x b).length) r.2
      exec (.parityJobDone j) s =
        .next (settleFailed (jobStep j (setJob j { r.1 with recon := false } (bumpAt Reg.PARITY_HEDGE_WON 0 (hedgesWon u j x.hedged) u))))) ∧
    (∀ i, i < 8 → i ∉ s.store.seqFailed → ∃ t, exec (.sequencerFail i) s = .next t ∧ t.store.seqFailed = s.store.seqFailed ++ [i] ∧
      i ∈ t.arch.parityOut ∧ OnlyParts [.regs, .out, .evt, .arch, .store, .ep] s t) ∧
    (∀ i, i ∈ s.store.seqFailed → exec (.sequencerFail i) s = .next s) ∧
    (∀ slot parcel stripe f, tget s.store.frames (stripeKey slot parcel stripe) = some f → f.heldRow = true →
      ∃ t, exec (.heldRowReplan slot parcel stripe) s = .next t ∧
        tget t.store.frames (stripeKey slot parcel stripe) = some { f with heldRow := false, queued := true } ∧ OnlyParts [.store] s t)

/-- An entry whose home copies are behind it, with no home write outstanding, is written to every home copy under its lease; one that is not is
left. The formatter writes the stripe at the FORMAT index of a FORMATTING parcel and advances the index by one, and nothing else of the entry;
with the last stripe the entry is WRITTEN and persisted. Log pages 0xC2 and 0xC1 answer with version 1 for an attached
namespace, page 0xC2 with the members of the set, its mask and the hedge count, page 0xC1 with its number of records; other namespaces
answer 0/0Bh.
What the spec leaves open in it is as in log entries 24, 37, 74. -/
def Obligations.TheCadastreIsPersistedFormattedAndReported : Prop :=
  ∀ (s : State),
    (∀ idx, exec (.cadastrePersistTimer idx) s =
      .next (if entStale s idx ∧ !thas s.store.homeLeft idx ∧ !s.vault.accepted then persist idx (leaseNow s idx) s else s)) ∧
    (∀ slot parcel, (entAt s (entIdx s slot parcel)).state = 2 → s.vault.accepted = false → ringRoom s = true →
      ∃ t, exec (.formatStripe slot parcel) s = .next t ∧
        let e := entAt s (entIdx s slot parcel)
        let last := e.format + 1 == stripesPer e.layout
        let e' : CadEntry := { e with format := e.format + 1, state := if last then 3 else 2 }
        entAt t (entIdx s slot parcel) = e' ∧
        (last = true → ∃ u, entAt u (entIdx s slot parcel) = e' ∧
          t = persist (entIdx s slot parcel) (leaseNow u (entIdx s slot parcel)) u)) ∧
    (∀ q cid nsid a, queueAssoc s q = some a →
      (pageSlots s a nsid = none → exec (.layoutStatus q cid nsid) s = .next (answer q cid 0 0x0B none 0 0 s) ∧
        exec (.lossMap q cid nsid) s = .next (answer q cid 0 0x0B none 0 0 s)) ∧
      (∀ slots, pageSlots s a nsid = some slots →
        (∃ fields, exec (.layoutStatus q cid nsid) s = .next (answer q cid 0 0 (some false) 0 0 (drive (.page q cid fields []) s)) ∧
          (0, 1) ∈ fields ∧ (2, (maskBays (curMask s)).length) ∈ fields ∧ (4, curMask s) ∈ fields ∧ (72, rd s Reg.PARITY_HEDGES) ∈ fields) ∧
        ∃ fields recs, exec (.lossMap q cid nsid) s = .next (answer q cid 0 0 (some false) 0 0 (drive (.page q cid fields recs) s)) ∧
          (0, 1) ∈ fields ∧ (8, recs.length) ∈ fields))

/-- A CANDIDATE that departs leaves its bay EMPTY with no waiting drive; a member that departs does so under its cause, but a port lost on one
side of a pair only makes it one-sided. The return wait of a MISSING bay ends in REBUILDING with AUTO_REBUILD, else it only disarms. A re-homing
that ends raises the home epoch and event 0x2409, and a home copy written anew event 0x2502. FAIL, ADMIT and RESYNC_FULL on a bay in the right
state are recorded for both controllers and answer result 0; on another state result 1, ADMIT with no drive waiting 2, with one too small 3.
What the spec leaves open in it is as in log entries 63, 68. -/
def Obligations.MembersDepartFailAndAreAdmitted : Prop :=
  ∀ (s : State) (bay : Nat),
    (∀ cause both, bay < 24 → (cause ≠ 2 ∨ inPair s = false ∨ both = true) →
      exec (.memberDepart bay cause both) s = .next (memberDepart bay cause s) ∧
      ((memberAt s bay).state = 1 → memberDepart bay cause s = bayState bay 0 (setMember bay { memberAt s bay with waitSerial := none } s))) ∧
    (bay < 24 → inPair s = true → exec (.memberDepart bay 2 false) s = .next (oneSide bay s)) ∧
    (bay ∈ s.store.rehoming → ∃ u, exec (.rehomeDone bay) s = .next (ringRetry (raise 0x2409 [bay, s.pwr.ctrlId] (writeLabels u))) ∧
      OnlyParts [.regs, .out, .evt, .store, .pair, .zeb, .ep, .bay] s u) ∧
    (∀ seg, seg ∈ s.store.homeShort → 3 ≤ (homeBays s seg).length → ∃ t, exec (.homeCopyRelocate seg) s = .next t ∧
      seg ∉ t.store.homeShort) ∧
    ((memberAt s bay).state = 3 → (memberAt s bay).returnArmed = true →
      let u := setMember bay { memberAt s bay with returnArmed := false } s
      exec (.returnWaitExpire bay) s = .next (if bitAt (cfg s Reg.REBUILD_RB_CTL) 0 = true then startRebuild bay u else u)) ∧
    (∀ p, MayWrite p Reg.REBUILD_MEMBER_CMD s → bay = sel s p Reg.REBUILD_MEMBER_SEL % 32 →
      let m := memberAt s bay
      (m.state ≠ 3 → exec (.memberFail p) s = .next (memberResult 1 s)) ∧
      (m.state = 3 → exec (.memberFail p) s = .next (memberCmd bay 1 (startRebuild bay) s)) ∧
      (m.state ∉ [1, 3, 4, 5] → exec (.memberAdmit p) s = .next (memberResult 1 s)) ∧
      (m.state ∈ [3, 4, 5] → m.waitSerial = none → exec (.memberAdmit p) s = .next (memberResult 2 s)) ∧
      (m.state ∈ [3, 4, 5] → m.waitSerial.isSome = true → m.waitCap < setStrips s (clrBit (curMask s) bay) →
        exec (.memberAdmit p) s = .next (memberResult 3 s)) ∧
      (m.state ∈ [3, 4, 5] → m.waitSerial.isSome = true → setStrips s (clrBit (curMask s) bay) ≤ m.waitCap →
        exec (.memberAdmit p) s = .next (memberCmd bay 2 (startRestore bay) s)) ∧
      (m.state ≠ 6 → exec (.resyncFull p) s = .next (memberResult 1 s)) ∧
      (m.state = 6 → exec (.resyncFull p) s = .next (memberCmd bay 3
        (fun s => setMember bay { memberAt s bay with full := true, todo := (bayEntries s bay).length } s) s)))

/-- While the controller serves: a rebuild with a parcel in work and a stripe free of flushing rebuilds that stripe's strip and closes the
records held on it; with no stripe of it left the parcel is finished and every bay whose positions are done is retired. A bay in RESYNC or RESTORING with every parcel done is ACTIVE. Scrub, where it runs, skips a
dirty stripe, reads a clean one row by row and advances by a stripe; past the last parcel its pass ends; where it does not run nothing
changes.
What the spec leaves open in it is as in log entries 24, 74, 75. -/
def Obligations.RebuildFillAndScrubAdvance : Prop :=
  ∀ (s : State), s.vault.accepted = false → s.pwr.serving = true →
    (∀ raws i slot parcel st st2 rest, s.store.rbEntry = some i → entOwner s i = some (slot, parcel) → s.store.rbStripes = st :: st2 :: rest →
      (∀ f, tget s.store.frames (stripeKey slot parcel st) = some f → f.st ≠ .flushing) →
      let u := closeHeld slot parcel st raws
        (rebuildStrip slot parcel st i s.store.rbBay raws { s with store := { s.store with rbStripes := st2 :: rest } })
      u.store.rbStripes ≠ [] → exec (.rebuildStripe raws) s = .next u) ∧
    (∀ raws i slot parcel, s.store.rbEntry = some i → entOwner s i = some (slot, parcel) → s.store.rbStripes = [] →
      s.store.rbHeld = false → exec (.rebuildStripe raws) s =
        .next ((rbBays (rbFinish i s.store.rbBay s)).foldl (fun s b => rbRetire b s) (rbFinish i s.store.rbBay s))) ∧
    (∀ bay raws, (memberAt s bay).state = 6 ∨ (memberAt s bay).state = 7 → (memberAt s bay).formatting = false →
      (∀ i ∈ bayEntries s bay, i ∈ (memberAt s bay).done) →
      exec (.fillParcel bay raws) s = .next (fillEnd bay s) ∧ ∃ u, fillEnd bay s =
        raise 0x2406 ([bay, b2n ((memberAt s bay).state == 7)] ++ leBytes 4 (memberAt s bay).done.length) (bayState bay 2 u)) ∧
    (∀ raws, scrubRuns s = false → exec (.scrubStripe raws) s = .next s) ∧
    (∀ raws, scrubRuns s = true → scrubEntries s ≠ [] → (∀ i ∈ scrubEntries s, i < s.store.scrubEntry) →
      exec (.scrubStripe raws) s = .next (scrubPass s)) ∧
    (∀ raws i slot parcel, scrubRuns s = true → (scrubEntries s).find? (fun i => decide (s.store.scrubEntry ≤ i)) = some i →
      i = s.store.scrubEntry → entOwner s i = some (slot, parcel) → s.store.scrubStripe + 1 < stripesPer (entAt s i).layout →
      ∃ t, exec (.scrubStripe raws) s = .next t ∧ t.store.scrubEntry = i ∧ t.store.scrubStripe = s.store.scrubStripe + 1 ∧
        (stripeDirty s (stripeKey slot parcel s.store.scrubStripe) = true →
          t = { s with store := { s.store with scrubStripe := s.store.scrubStripe + 1 } }))

/-- A START that R151 refuses stores its reason and begins nothing; any other is recorded for both controllers with the kind, slot, layout and
set of its registers. SUSPEND acts on a running reshape, RESUME on a suspended one, FORM on an unformed set whose bays are all CANDIDATE;
in another state each changes nothing. The mover ends a reshape whose baseline is past the last parcel and passes a parcel that is not in
use.
What the spec leaves open in it is as in log entries 37, 74. -/
def Obligations.AReshapeBeginsStopsAndMoves : Prop :=
  ∀ (s : State),
    (∀ (p : Path), MayWrite p Reg.REBUILD_RESHAPE_CMD s →
    (let kind := rd s Reg.REBUILD_RESHAPE_KIND % 2
     let slot := rd s Reg.REBUILD_RESHAPE_SLOT % 16384
     let layout := rd s Reg.REBUILD_RESHAPE_LAYOUT % 4
     let mset := rd s Reg.REBUILD_RESHAPE_MSET % 2 ^ 24
     (s.store.reshape.state ≠ 0 → reshapeReason s kind slot layout mset = some 1) ∧
     (∀ r, reshapeReason s kind slot layout mset = some r → ∃ t, exec (.reshapeStart p) s = .next t ∧ t.store.reshape.refuse = r ∧
        t.store.reshape.state = s.store.reshape.state ∧ OnlyParts [.store] s t) ∧
     (reshapeReason s kind slot layout mset = none →
        exec (.reshapeStart p) s = .next (reshapeCmd 1 kind slot layout mset (reshapeBegin kind slot layout mset) s)) ∧
     (s.store.mset0 = 0 → s.store.mset1 = 0 → mset ≠ 0 → (∀ b ∈ maskBays mset, (memberAt s b).state = 1) →
        exec (.setForm p) s = .next (reshapeCmd 4 0 0 0 mset (formSet mset) s))) ∧
    (s.store.mset0 ≠ 0 → exec (.setForm p) s = .next s) ∧
    (s.store.reshape.state = 1 → exec (.reshapeSuspend p) s = .next (reshapeCmd 2 0 0 0 0 (reshapeSuspend none) s)) ∧
    (s.store.reshape.state ≠ 1 → exec (.reshapeSuspend p) s = .next s) ∧
    (s.store.reshape.state = 2 → exec (.reshapeResume p) s = .next (reshapeCmd 3 0 0 0 0 reshapeResume s) ∧
      (reshapeResume s).store.reshape = { s.store.reshape with state := 1, byCmd := false }) ∧
    (s.store.reshape.state ≠ 2 → exec (.reshapeResume p) s = .next s)) ∧
    (∀ blocks, s.store.reshape.state = 1 → s.vault.accepted = false → ringRoom s = true →
      (s.store.reshape.last ≤ s.store.reshape.baseline → exec (.moverStripe blocks) s = .next (reshapeEnd s)) ∧
      (∀ i slot parcel, s.store.reshape.baseline < s.store.reshape.last → reshapeAt s = some (i, slot, parcel) →
        (entAt s i).state = 0 → exec (.moverStripe blocks) s = .next (reshapeNext i slot s)))

/-- On a queue that holds nothing and may be parsed: a TRAVERSE for a namespace owned here takes a context with no number and is checked; a
KEY_CREATE and a KEY_REVOKE take a context and meet their checks; an UNBIND of a window that is not BOUND is refused with reason 6, and one
of a BOUND window draws a number in its namespace and starts. A started BIND meets its checks. A traverse with fuse bits, ID 0, more than 80
descriptors or a length that does not agree is refused 0/02h, one whose outcome is recorded is answered from its entry, one of an ID in
flight waits, any other pulls its table. A key of a window not BOUND is refused with reason 6; rights of none with 10; one with rights and
a range inside its window is created under the next tag, recorded for both controllers.
What the spec leaves open in it is as in log entries 28, 38, 67. -/
def Obligations.TraversesAndWindowCommandsAreAdmitted : Prop :=
  ∀ (s : State),
    (∀ (q cid : Nat) (x : Queue) (a : Assoc), tget s.nvm.queues q = some x → queueAssoc s q = some a → x.held = [] →
    tcount s.nvm.ctxs (fun _ k => k.q == q) < x.size →
    (∀ nsid tid nd len fuse slot n cap u, cap = { cid := cid, nsid := nsid, op := .traverse tid nd len fuse } →
      u = holdCapsule q cap x s → mayParse u a.host = true → attachedSlot s a.subsys a.host nsid = some slot → nsAt s slot = some n →
      n.moving = false → ownsNs s n = true → n.ready = true → servesNow s = true →
      exec (.traverse q cid nsid tid nd len fuse) s = .next (boundCheck a.host (popCapsule q
        (travAdmit s.nvm.nextCtx a.host a.subsys tid nd len fuse (newCtx (ctxFor (baseCtx q a.host cid) slot 0 cap.op) u).2)))) ∧
    (∀ rights ho w off len cap u, cap = { cid := cid, nsid := 0, op := .keyCreate rights ho w off len } → u = holdCapsule q cap x s →
      mayParse u a.host = true → exec (.keyCreate q cid rights ho w off len) s = .next (boundCheck a.host (popCapsule q
        (keyCreateAdmit s.nvm.nextCtx a.host rights ho w off len (newCtx (ctxFor (baseCtx q a.host cid) (winAt s w).slot 0 cap.op) u).2)))) ∧
    (∀ k cap u, cap = { cid := cid, nsid := 0, op := .keyRevoke k } → u = holdCapsule q cap x s → mayParse u a.host = true →
      exec (.keyRevoke q cid k) s = .next (boundCheck a.host (popCapsule q
        (keyRevokeAdmit s.nvm.nextCtx a.subsys k (newCtx (ctxFor (baseCtx q a.host cid) (winAt s 0).slot 0 cap.op) u).2)))) ∧
    (∀ w cap u, cap = { cid := cid, nsid := 0, op := .unbind w } → u = holdCapsule q cap x s → mayParse u a.host = true → w < 4096 →
      ((winAt s w).state ≠ 2 → exec (.unbind q cid w) s = .next (boundCheck a.host (popCapsule q
        (winRefuse s.nvm.nextCtx 6 (newCtx (ctxFor (baseCtx q a.host cid) (winAt s w).slot 0 cap.op) u).2)))) ∧
      (∀ n adm v, (winAt s w).state = 2 → nsAt s (winAt s w).slot = some n → n.moving = false → n.admHold = false → ownsNs s n = true →
        stamp (winAt s w).slot u = (some adm, v) → ∃ c, c.adm = adm ∧ c.ranges = [((winAt s w).slba, (winAt s w).pages * 512)] ∧
        exec (.unbind q cid w) s = .next (boundCheck a.host (popCapsule q (unbindAdmit v.nvm.nextCtx w (newCtx c v).2)))))) ∧
    (∀ id slot n host policy pin w stall slba size, startOp id slot n host (.winBind 1 policy pin w stall slba size) s =
      bindAdmit id slot policy pin w stall slba size s) ∧
    (∀ ctx host subsys tid nd len fuse, bitAt (cfg s Reg.TRAV_TRAV_CTL) 0 = true →
      let v : Trav := { ctx := ctx, host := host, subsys := subsys, travId := tid, ndesc := nd, len := len }
      let u := setTrav s.trav.nextId v { s with trav := { s.trav with nextId := s.trav.nextId + 1 } }
      (fuse ≠ 0 ∨ tid = 0 ∨ 79 < nd ∨ len ≠ 64 * (nd + 1) →
        travAdmit ctx host subsys tid nd len fuse s = travRefuse s.trav.nextId 0 0x02 none 0 u) ∧
      (fuse = 0 → tid ≠ 0 → nd ≤ 79 → len = 64 * (nd + 1) → travOpen s < 65536 → s.trav.refusing = false →
        let dup : Bool := u.trav.open_.any fun p => p.1 != s.trav.nextId && p.2.remote == none && p.2.host == host && p.2.travId == tid &&
          p.2.state != .closed
        (∀ o, outcomeOf s host tid = some o → travAdmit ctx host subsys tid nd len fuse s = travAnswer s.trav.nextId o u) ∧
        (outcomeOf s host tid = none → dup = true → travOpen (setTrav s.trav.nextId { v with state := .waitDup } u) ≠ 65536 →
          travAdmit ctx host subsys tid nd len fuse s = setTrav s.trav.nextId { v with state := .waitDup } u) ∧
        (outcomeOf s host tid = none → dup = false → travOpen (travPull s.trav.nextId u) ≠ 65536 →
          travAdmit ctx host subsys tid nd len fuse s = travPull s.trav.nextId u))) ∧
    (∀ id host rights ho w off len k, w < 4096 → (∀ x ∈ s.pair.records, ∀ i y, x.2.what ≠ .keyCreate i y) →
      firstIdx 1048576 (fun k => (keyAt s k).state == 0) = some k →
      ((winAt s w).state ≠ 2 → keyCreateAdmit id host rights ho w off len s = winRefuse id 6 s) ∧
      ((winAt s w).state = 2 → rights % 16 = 0 → keyCreateAdmit id host rights ho w off len s = winRefuse id 10 s) ∧
      ((winAt s w).state = 2 → rights % 16 ≠ 0 → len ≠ 0 → off + len ≤ (winAt s w).pages * 2097152 → bitAt (cfg s Reg.KEYS_KEYS_CTL) 0 = true →
        let tag := (keyAt s k).tag % 4095 + 1
        let y : Key := { state := 1, rights := rights % 16, hostOnly := ho, tag := tag, win := w, host := host, offset := off, length := len
                         tCreate := s.time }
        keyCreateAdmit id host rights ho w off len s = requestRecord (.keyCreate k y) (.ctx id (k * 4096 + tag) 0)
          (fun t => keysFull (setKeyEnt k { y with tCreate := t.time } t)) (fun t => finish id 0 0 (some false) (k * 4096 + tag) 0 t)
          (modCtx id (fun c => { c with state := .bindWait }) s)))

/-- The pulled table of a traverse is checked. One staged in full in namespaces owned here draws its numbers and is CHECKING; one with extents
at the partner asks it for its stamps while admission is held. Staging that times out is abandoned with reason 1; a stamp request with no
answer with reason 5, event 0x2604. In its turn a traverse that passes its judgement is closed, one that fails it has failed with the outcome,
index and offset of the earlier of the two controllers' findings. The commit point is passed unless the pair is ARBITRATING. A lookup answers
the recorded outcome, 2 for an open one, else 0.
What the spec leaves open in it is as in log entries 60, 67. -/
def Obligations.TraversesAreJudgedAndCommitted : Prop :=
  ∀ (s : State) (t : Nat),
    (∀ v, travAt s t = some v →
    (∀ descs, v.state = .table → exec (.traverseTableCheck t descs) s = .next (travTable t descs (epArrived (.travTable v.ctx) s))) ∧
    (∀ nums u, v.state = .staging → (∀ k ∈ travKeys v, thas v.staged k = true) → v.mseqs = [] →
      (∀ sl ∈ v.slots, ownsSlot s sl = true ∧ mayStamp s sl = true) → stampAll v.slots v.nums s = some (nums, u) →
      exec (.traverseStaged t) s = .next (setTrav t { v with nums := nums, state := .checking } u)) ∧
    (v.state = .staging → v.remote = none → exec (.traverseStageTimeout t) s = .next (travAbandon t 1 none s)) ∧
    (v.state = .stamping → v.remote = none → ∃ u, OnlyParts [.regs, .out, .evt, .ep] s u ∧
      exec (.xstampTimeout t) s = .next (travAbandon t 5 none u)) ∧
    (v.state = .checking → v.remote = none → travTurn s v = true → (∀ j ∈ s.store.jobs, j.2.kind ≠ .condition t) →
      (travJudge s v = none → exec (.traverseCheck t none) s = .next (travClose t s)) ∧
      (∀ o i f, travJudge s v = some (o, i, f) → exec (.traverseCheck t none) s = .next (travFail t o i f s)) ∧
      (∀ o i f, travJudge s v = none → exec (.traverseCheck t (some (o, i, f))) s = .next (travFail t o i f s)) ∧
      (∀ a b, travJudge s v = some a → outcomeRank a ≤ outcomeRank b →
        exec (.traverseCheck t (some b)) s = .next (travFail t a.1 a.2.1 a.2.2 s))) ∧
    (s.pair.state ≠ 4 → s.vault.accepted = false → exec (.traverseClosure t) s = .next (travCommit t s)) ∧
    (s.pair.state = 4 → exec (.traverseClosure t) s = .next s)) ∧
    (∀ p n, MayWrite p Reg.TRAV_LOOKUP_ID_HI s →
      let host := sel s p Reg.TRAV_LOOKUP_HOST % 4096
      let id := sel s p Reg.TRAV_LOOKUP_ID_LO + n % 2 ^ 32 * 2 ^ 32
      (∀ o, outcomeOf s host id = some o → exec (.traverseLookup p n) s = .next (wr Reg.TRAV_LOOKUP_RESULT
        (1 + o.outcome % 16 * 4 + o.index % 256 * 64) (wr Reg.TRAV_LOOKUP_ID_HI (n % 2 ^ 32) s))) ∧
      (∀ k ∈ s.trav.open_, k.2.host = host → k.2.travId = id → k.2.remote = none → k.2.state ≠ .closed → outcomeOf s host id = none →
        exec (.traverseLookup p n) s = .next (wr Reg.TRAV_LOOKUP_RESULT 2 (wr Reg.TRAV_LOOKUP_ID_HI (n % 2 ^ 32) s))) ∧
      ((∀ k ∈ s.trav.open_, k.2.host ≠ host ∨ k.2.travId ≠ id ∨ k.2.remote ≠ none ∨ k.2.state = .closed) → outcomeOf s host id = none →
        exec (.traverseLookup p n) s = .next (wr Reg.TRAV_LOOKUP_RESULT 0 (wr Reg.TRAV_LOOKUP_ID_HI (n % 2 ^ 32) s))))

/-- A BIND whose earlier writers have settled and whose pinned pages are resident makes its window BOUND at both controllers. A window command
UNBIND of a BOUND window starts its unbinding, of another changes nothing; an unbinding with a VALID or revoking key or a dirty page waits,
one with none frees its pages and the window. REVOKE of the selected VALID key begins its revocation; a revoking key whose packets are
all in is freed, one timed out discards what is stalled on it. A fault page with no block missing is resident and used last. A dirty
block's age writes it back. A stalled packet over its budget is discarded for resend, and a chain wait over its time ends 7/A0h with
the counter.
What the spec leaves open in it is as in log entries 53, 73, 77. -/
def Obligations.WindowsAndKeysRunTheirCourse : Prop :=
  ∀ (s : State) (w k : Nat),
    (∀ id c, tget s.win.binds w = some id → ctxAt s id = some c → (winAt s w).state = 1 →
      writerBefore s c.slot c.adm c.ranges = false → ((winAt s w).pin = false ∨ ∀ p < (winAt s w).pages, pageResident s w p = true) →
      ∃ u, OnlyParts [.nvm, .win] s u ∧ tget u.nvm.ctxs id = some { c with state := .bindWait } ∧ exec (.bindComplete w) s = .next (pinReaders
        (requestRecord (.bind w { winAt s w with state := 2 }) (.ctx id w 0)
          (fun s => raise 0x1A01 (leBytes 2 w ++ [2]) (setWin w { winAt u w with state := 2 } s))
          (fun s => finish id 0 0 (some false) w 0 s) u))) ∧
    (∀ ctx p key, tget s.win.unbinds w = some ctx → (p, key) ∈ s.win.keys → key.state ≠ 0 → key.win = w →
      exec (.unbindComplete w) s = .next s) ∧
    (tget s.win.unbinds w = some none → (winAt s w).state = 3 → (∀ p ∈ s.win.keys, p.2.win = w → p.2.state = 0) →
      (∀ g ∈ s.win.pages, g.1 / 2 ^ 24 = w → pageDirty s w (g.1 % 2 ^ 24) = false) →
      ∃ u, OnlyParts [.store, .win] s u ∧ exec (.unbindComplete w) s = .next (requestRecord (.unbound w) .nothing
        (fun s => raise 0x1A01 (leBytes 2 w ++ [0]) (setWin w {} s)) (fun s => s) u)) ∧
    (∀ p v, MayWrite p Reg.WIN_WIN_CMD s → bits v 0 2 = 1 →
      ((winAt s (sel s p Reg.WIN_WIN_SEL % 4096)).state = 2 →
        exec (.winCmdUnbind p v) s = .next (unbindStart (sel s p Reg.WIN_WIN_SEL % 4096) none s)) ∧
      ((winAt s (sel s p Reg.WIN_WIN_SEL % 4096)).state ≠ 2 → exec (.winCmdUnbind p v) s = .next s)) ∧
    (∀ p v, MayWrite p Reg.KEYS_KEY_CMD s →
      (bits v 0 2 = 1 → exec (.keyCmdRevoke p v) s = .next (revokeStart (sel s p Reg.KEYS_KEY_SEL % 1048576) { byHost := false } s)) ∧
      (bits v 0 2 ≠ 1 → exec (.keyCmdRevoke p v) s = .next s)) ∧
    ((keyAt s k).inflight = 0 → fencePending s k = false → exec (.revokeDrain k 0) s = .next (revokeEnd k 0 s)) ∧
    ((keyAt s k).inflight ≠ 0 → ∀ n, exec (.revokeDrain k n) s = .next s) ∧
    (let mine := s.win.stalled.filter fun a => a.key == some k
     let u := mine.foldl (fun s a => accDrop a s) { s with win := { s.win with stalled := s.win.stalled.filter fun a => a.key != some k } }
     (keyAt s k).state = 2 → fencePending s k = false → (∀ p ∈ u.win.placing, p.acc.key ≠ some k) →
      exec (.revokeTimeout k) s = .next (revokeEnd k mine.length (raise 0x1902 (leBytes 3 k ++ leBytes 3 mine.length) u))) ∧
    (∀ page g, tget s.win.pages (pageKey w page) = some g → g.resident = false → g.missing = [] →
      ∃ u, exec (.faultComplete w page) s = .next (pinReady (winAt s w).slot (stallGo u)) ∧ OnlyParts [.regs, .win] s u ∧
        tget u.win.pages (pageKey w page) = some { g with resident := true, used := s.win.lru } ∧ u.win.lru = s.win.lru + 1) ∧
    (∀ block, (winAt s w).state ≠ 0 → block < (winAt s w).pages * 512 →
      exec (.windowWritebackAge w block) s = .next (stallGo (writeBack (winAt s w).slot ((winAt s w).slba + block) s))) ∧
    (∀ qp psn a, s.win.stalled.find? (fun a => !a.ring && a.ctx == qp && a.psn == psn && (a.kind == 0 || a.kind == 4) &&
        (winAt s a.win).policy == 2) = some a →
      exec (.stallBudgetExpire qp psn) s = .next (accDiscard a { s with win := { s.win with stalled := s.win.stalled.erase a } })) ∧
    (∀ ring c, tget s.win.chains ring = some c → ∃ u, OnlyParts [.regs, .out, .evt, .win, .ep] s u ∧ u.win.chains = tdel s.win.chains ring ∧
      exec (.chainWaitTimeout ring) s = .next (ringDone ring c.cid 7 0xA0 (some false) (tgetD (winAt s c.win).ctrs c.ctr 0) 0 u))

/-- A SEND, RDMA WRITE, RDMA READ request, FETCH ADD, COMPARE SWAP or COMPARE SWAP 16 on a connected queue pair that is well formed and passes
its check value makes the queue pair ACTIVE and is received by its dialect; one for a queue pair that has none, in ERROR's quiet time, malformed,
or a 16-byte swap without the grant, is dropped and counted; one that fails its check value is discarded and counted, and so is one whose ICRC
fails, at its port; one for a queue pair that drains is ignored. On spray a packet beyond 4,096 of the cursor is dropped and counted, one already accepted is a duplicate; on a
standard queue pair a packet ahead of the one expected is answered with a NAK once.
What the spec leaves open in it is as in log entries 48, 76. -/
def Obligations.RequestPacketsAreTaken : Prop :=
  ∀ (s : State) (c : Instr) (i : Nat) (p : Pkt) (r : Rdma) (data : Nat), requestPacket c = some (i, p, r, data) →
    let q := qpAt s i
    (p.icrcOk = false → exec c s = .next (bumpAt (Reg.NET_ICRC_ERR (p.port / 8 % 8)) (p.port % 8) 1 s)) ∧
    (p.icrcOk = true → p.ok = false ∨ q.quiet = true ∨ q.state ∉ [1, 2, 3] ∨ (r.wide = true ∧ (q.spray = false ∨ q.atom16 = false)) →
      exec c s = .next (bump Reg.XPORT_UNSUP_DROPPED s)) ∧
    (p.icrcOk = true → p.ok = true → q.quiet = false → (r.wide = true → q.spray = true ∧ q.atom16 = true) →
      (q.state = 3 → exec c s = .next s) ∧
      ((q.state = 1 ∨ q.state = 2) → p.esp = 2 → exec c s = .next (bump Reg.XPORT_ICV_DISCARD s)) ∧
      ((q.state = 1 ∨ q.state = 2) → p.esp = 0 →
        (q.spray = true → exec c s = .next (rxSpray i p r data (packetTaken i p s))) ∧
        (q.spray = false → exec c s = .next (rxStd i p r data (packetTaken i p s))))) ∧
    (let rel := psnRel q.cursor p.psn
     (4096 ≤ rel → rel < 2 ^ 23 → rxSpray i p r data s = bump Reg.XPORT_BEYOND_WINDOW s) ∧
     (rel < 4096 → p.psn ∈ q.accepted → rxSpray i p r data s = qpDup i p r s) ∧
     (2 ^ 23 ≤ rel → rxSpray i p r data s = qpDup i p r s ∧ rxStd i p r data s = qpDup i p r s) ∧
     (0 < rel → rel < 2 ^ 23 → q.naked = false →
       rxStd i p r data s = drive (.roce i (.nak q.cursor 0)) (setQp i { q with naked := true } s)) ∧
     (0 < rel → rel < 2 ^ 23 → q.naked = true → rxStd i p r data s = s))

/-- On a queue pair that is ACTIVE: a plain acknowledgement removes what it covers, but for reads, clears the retry counts where it covers anything
new, and lets what waited be sent; a NAK of another kind is an ERROR. A read response already placed is dropped and counted; on spray one whose
offset, length or payload does not fit its read is an ERROR, and any other is kept and completes the reads that are whole in order. A CNP is counted and
reduces the rate where rate control is on; the recovery timer recovers it; a path's penalty ends. An acknowledgement that is due goes out. A packet
not acknowledged in SPRAY_RTO is sent again; on a standard queue pair the timeout sends all again, or is an ERROR at the retry count; the
receiver-not-ready wait ends likewise, with no limit at a count of 7.
What the spec leaves open in it is as in log entries 49, 51, 76. -/
def Obligations.AcknowledgementsAndTimersDriveRetransmission : Prop :=
  ∀ (s : State) (i : Nat), (qpAt s i).state = 2 →
    let q := qpAt s i
    q.quiet = false →
    (∀ psn sack, q.spray = false → exec (.acknowledge i psn 0 sack) s = .next (sendMore i (setQp i (q.acked psn sack) (qpTouch i s))) ∧
      (∀ x, x ∈ (q.acked psn sack).sent → thas q.reads x.psn = false → ackCovers psn sack x.psn = false) ∧
      ((∃ x, x ∈ q.sent ∧ ackCovers psn sack x.psn = true ∧ x.covered = false) → (q.acked psn sack).tries = 0 ∧ (q.acked psn sack).rnrTries = 0)) ∧
    (∀ psn sack, exec (.acknowledge i psn 3 sack) s =
      .next (qpError i 2 (setQp i (q.acked ((psn + 2 ^ 24 - 1) % 2 ^ 24) sack) (qpTouch i s)))) ∧
    (∀ p data f r, p.icrcOk = true → p.ok = true → p.esp ≠ 2 → p.ce = false → tfind q.reads (fun f r => decide (psnRel f p.psn < r.count)) = some (f, r) →
      (thas r.got (psnRel f p.psn * q.mtu) = true → exec (.rdmaReadResponse i p data) s = .next (bump Reg.XPORT_DUP_DROPPED (qpTouch i s))) ∧
      (let got := tset r.got (psnRel f p.psn * q.mtu) (p.len, data)
       thas r.got (psnRel f p.psn * q.mtu) = false → q.spray = true → r.blocks ≠ [] →
        (let off := psnRel f p.psn * q.mtu
         let all := 4096 * r.blocks.length
         (p.offset ≠ off ∨ p.length ≠ all ∨ p.len ≠ min q.mtu (all - off) →
           exec (.rdmaReadResponse i p data) s = .next (qpError i 2 (qpTouch i s))) ∧
         (p.offset = off → p.length = all → p.len = min q.mtu (all - off) → exec (.rdmaReadResponse i p data) s =
           .next (let u := readsDone i q.reads.length (setQp i { q with reads := tset q.reads f { r with got := got } } (qpTouch i s))
                  sendMore i (pullRetry u.xp.waits.length u)))))) ∧
    (∀ path, q.spray = false → exec (.cnp i path) s = .next (bump Reg.XPORT_CNP_RCVD
      (setQp i (if bitAt (cfg s Reg.XPORT_XP_CTL) 3 = true then rcReduce s q else q) (qpTouch i s)))) ∧
    (bitAt (cfg s Reg.XPORT_XP_CTL) 3 = true → exec (.rcTimer i) s = .next (setQp i (rcRecover s q) s)) ∧
    (∀ path, exec (.pathPenaltyEnd i path) s = .next (modQp i (fun q => { q with penalty := tdel q.penalty path }) s)) ∧
    (q.sinceAck ≠ 0 → exec (.ackDelayExpire i) s = .next (ackIfDue i (setQp i { q with ackDue := true } s))) ∧
    (∀ psn x, q.spray = true → q.sent.find? (fun x => x.psn == psn) = some x → exec (.sprayRtoExpire i psn) s = .next (resend i false x s)) ∧
    (q.spray = false → q.sent ≠ [] →
      (q.tries < q.retry → exec (.ackTimeout i) s = .next (resendAll i false q.sent (setQp i { q with tries := q.tries + 1 } s))) ∧
      (q.retry ≤ q.tries → exec (.ackTimeout i) s = .next (qpError i 0 s))) ∧
    (q.rnrWait = true →
      let u := setQp i { q with rnrWait := false, rnrTries := q.rnrTries + 1 } s
      (q.rnrRetry = 7 → exec (.rnrTimerExpire i) s =
        .next (sendMore i (resendAll i true (q.sent.filter fun x => !q.spray || x.psn == q.rnrPsn) u))) ∧
      (q.rnrRetry < 7 → q.rnrRetry ≤ q.rnrTries → exec (.rnrTimerExpire i) s = .next (qpError i 1 u)))

/-- A REQ without a spray block, with RoCE and the station enabled and no SA required, takes the lowest FREE queue pair to CONNECTING in the
standard dialect at the PSN, retry counts and depth it carries, and is answered REP; with all queue pairs taken it is rejected. RTU makes it ACTIVE;
without one it is FREE again after the quiet time. A DREQ drains an ACTIVE one and is answered DREP; in ERROR a DREQ, a DREP or 1 s begin its quiet time; the quiet time's end
frees it. NVMe/TCP: an ICReq on a station with both enables opens a connection, answered with 131,072; on another it is ended with
C2HTermReq. A capsule or data with a bad digest, and a termination, end the connection; a good capsule goes to its queue.
What the spec leaves open in it is as in log entries 1, 50, 76. -/
def Obligations.ConnectionsOpenDrainAndEnd : Prop :=
  ∀ (s : State),
    (∀ r i, (sprayOffer r.block).zero = true → espReq s r.station = false → bitAt (cfg s Reg.XPORT_XP_CTL) 0 = true →
      bitAt (cfgAt s Reg.SWITCH_STN_CTL r.station) 0 = true → s.pwr.admitStop = false → s.vault.accepted = false → s.pair.state ≠ 6 →
      (firstIdx 262144 (fun i => !thas s.xp.qps i) = none → exec (.cmReq r) s = .next (drive (.roce 0 (.rej r.station 1)) s)) ∧
      (firstIdx 262144 (fun i => !thas s.xp.qps i) = some i → ∃ t q, exec (.cmReq r) s = .next t ∧ tget t.xp.qps i = some q ∧
        q.state = 1 ∧ q.spray = false ∧ q.cursor = r.psn % 2 ^ 24 ∧ q.ackBase = r.psn % 2 ^ 24 ∧ q.retry = r.retry % 8 ∧
        q.rnrRetry = r.rnrRetry % 8 ∧ q.depth = r.depth ∧ q.station = r.station ∧ q.readCap = cfg s Reg.XPORT_READ_PER_QP ∧
        t.out = s.out ++ [.roce i (.rep r.station false false 0 0 0)] ∧ OnlyParts [.out, .free, .xp] s t)) ∧
    (∀ i, (qpAt s i).state = 1 → exec (.cmRtu i) s = .next (modQp i (fun q => { q with state := 2 }) s) ∧
      exec (.cmResponseTimeout i) s =
        .next (setQp i { quiet := true } { s with xp := { s.xp with cache := s.xp.cache.filter fun j => j != i } })) ∧
    (∀ i, (qpAt s i).state = 2 → exec (.cmDreq i) s =
      .next (connQueuesEnd i (drive (.roce i .drep) (modQp i (fun q => { q with state := 3 }) (qpClear i s))))) ∧
    (∀ i, (qpAt s i).state = 4 → exec (.cmDreq i) s = .next (drive (.roce i .drep) (setQp i { qpAt s i with quiet := true } s)) ∧
      exec (.cmDrep i) s = .next (modQp i (fun q => { q with quiet := true }) s) ∧
      exec (.qpErrorTimeout i) s = .next (modQp i (fun q => { q with quiet := true }) s)) ∧
    (∀ i, (qpAt s i).state = 3 ∨ (((qpAt s i).state = 0 ∨ (qpAt s i).state = 4) ∧ (qpAt s i).quiet = true) → ∃ t, exec (.qpQuietEnd i) s = .next t ∧
      t.xp.qps = tdel s.xp.qps i ∧ i ∉ t.xp.cache ∧ OnlyParts [.xp] s t) ∧
    (∀ stn peer h d, espReq s stn = false → s.pwr.admitStop = false → s.vault.accepted = false → s.pair.state ≠ 6 →
      let c := tcpBase + s.xp.nextTcp
      (bitAt (cfgAt s Reg.SWITCH_STN_CTL stn) 0 = true → bitAt (cfgAt s Reg.SWITCH_STN_CTL stn) 1 = true →
        ∃ t x, exec (.icreq stn peer h d) s = .next t ∧ t.out = s.out ++ [.tcpPdu c 1 [131072, b2n h, b2n d]] ∧
        tget t.xp.tcp c = some x ∧ x.station = stn ∧ x.hdgst = h ∧ x.ddgst = d ∧ OnlyParts [.out, .xp] s t) ∧
      (bitAt (cfgAt s Reg.SWITCH_STN_CTL stn) 1 = false → exec (.icreq stn peer h d) s = .next (drive (.tcpPdu c 3 []) s))) ∧
    (∀ conn, thas s.xp.tcp conn = true → exec (.h2ctermreq conn) s = .next (tcpEnd conn s) ∧
      (∀ c, exec (.capsulecmd conn false c) s = .next (drive (.tcpPdu conn 3 []) (tcpEnd conn s))) ∧
      (∀ cid lba data, exec (.h2cdata conn cid false lba data) s = .next (drive (.tcpPdu conn 3 []) (tcpEnd conn s))) ∧
      (∀ q qs c, connQueues s conn = q :: qs → exec (.capsulecmd conn true c) s = .next (submit q c s)) ∧
      (∀ cid lba data id k, s.nvm.ctxs.find? (fun p => p.2.cid == cid && (connQueues s conn).contains p.2.q && p.2.fwdTag.isNone) =
        some (id, k) → exec (.h2cdata conn cid true lba data) s = .next (blockArrives id lba data s)))

/-- At a port that is up: a frame shorter than 64 bytes or above the MTU is counted a length error, one with a bad FCS an FCS error, and dropped;
a good one is counted, charged to the buffer under its ingress priority, and where the buffer takes it, waits for an engine. Frames handed
over for transmission enter their egress queues after those held; nothing is sent by a port that is down. A received PFC frame pauses or
resumes each enabled priority; the pause ends with its quanta; a priority paused too long raises 0x0803 and stays paused. A port that
exists, is enabled and down comes up with event 0x0801. A complete RoCEv2 or ESP datagram is parsed again; an overlap, a size above 9,216, a
65th datagram and a timeout discard what they concern. A read of the timestamp's high half releases the oldest entry.
What the spec leaves open in it is as in log entries 26, 56. -/
def Obligations.PortsTakeAndSendFrames : Prop :=
  ∀ (s : State) (port prio : Nat),
    (∀ len bytes esp, portUp s port = true →
      (len < 64 ∨ cfg s (Reg.NET_MTU (port / 8)) < len → ∀ ok, exec (.frameReceived port len bytes ok esp) s =
        .next (bumpAt (Reg.NET_RX_LEN_ERR (port / 8)) (port % 8) 1 s)) ∧
      (64 ≤ len → len ≤ cfg s (Reg.NET_MTU (port / 8)) → exec (.frameReceived port len bytes false esp) s =
        .next (bumpAt (Reg.NET_RX_FCS_ERR (port / 8)) (port % 8) 1 s)) ∧
      (64 ≤ len → len ≤ cfg s (Reg.NET_MTU (port / 8)) →
        let u₀ := bump64 (Reg.NET_RX_BYTES_LO (port / 8)) (port % 8) len (bumpAt (Reg.NET_RX_FRAMES (port / 8)) (port % 8) 1 s)
        let stn := stationOf u₀ port bytes
        let u := stn.elim u₀ fun t => bump64 Reg.SWITCH_STN_RX_BYTES_LO t len u₀
        let f : NetFrame := { seq := u.net.nextSeq, bytes := bytes.take 256, len := len, port := port, time := u.time,
                              prio := ingressPrio u port bytes, station := stn, esp := esp }
        (∀ v, chargePp f u = (none, v) → exec (.frameReceived port len bytes true esp) s = .next v) ∧
        (∀ g v, chargePp f u = (some g, v) → exec (.frameReceived port len bytes true esp) s =
          .next (feed { v with net := { v.net with waiting := v.net.waiting ++ [g], nextSeq := v.net.nextSeq + 1 } })))) ∧
    (exec (.pfcXoffRefresh port prio) s =
      .next (if (xonCheck s).net.xoff.contains (8 * port + prio) then sendPfc (8 * port + prio) true (xonCheck s) else xonCheck s)) ∧
    (∀ fs, portUp s port = false → ∃ u, OnlyParts [.net] s u ∧ u.net.heldEg = [] ∧
      (let t := fs.foldl (fun s f => egEnter true f s) (s.net.heldEg.foldl (fun s f => egEnter false f s) u)
       portUp t port = false → exec (.frameTransmitted port fs) s = .next t)) ∧
    (∀ q u v, portUp s port = true → s.net.heldEg = [] → etsPick port (limNote port { s with net := { s.net with heldEg := [] } }) = (some q, v) →
      u = egSend port q v → exec (.frameTransmitted port []) s = .next u) ∧
    (∀ quanta, portUp s port = true → exec (.pfcFrameReceived port 0 quanta) s =
      .next (bumpAt (Reg.NET_PFC_RX (port / 8)) (port % 8) 1 s)) ∧
    (∃ t, exec (.pfcPauseExpire port prio) s = .next t ∧ t.net = { s.net with paused := tdel s.net.paused (8 * port + prio) } ∧
      OnlyParts [.net] s t) ∧
    (thas s.net.paused (8 * port + prio) = true → cfg s (Reg.NET_PFC_WD_MS (port / 8)) ≠ 0 →
      exec (.pfcWatchdogExpire port prio) s = .next (raise (0x0803 + port / 8 * 256) [port % 8, prio] s)) ∧
    (exec (.netLinkChange port false) s = .next (linkDown port s)) ∧
    (portUp s port = false → portExists s port = true → bitAt (cfg s (Reg.NET_NET_CTL (port / 8))) 4 = true → s.pwr.released = true →
      exec (.netLinkChange port true) s =
        .next (raise (0x0801 + port / 8 * 256) [port % 8, 1] { s with net := { s.net with ups := port :: s.net.ups } })) ∧
    (∀ k proto stn p d, tget s.net.frags k = some d →
      ((d.pieces.any (fun q => q.overlaps p) = true ∨ 9216 < p.off + p.len) →
        exec (.fragmentReceived k proto port stn prio p) s = .next (fragDiscard k (d.pieces.length + 1) s)) ∧
      (let d' : Datagram := { d with pieces := d.pieces ++ [p] }
       d.pieces.any (fun q => q.overlaps p) = false → p.off + p.len ≤ 9216 → d'.complete = true → d'.forTransport = false →
        exec (.fragmentReceived k proto port stn prio p) s = .next { s with net := { s.net with frags := tdel s.net.frags k } }) ∧
      (let d' : Datagram := { d with pieces := d.pieces ++ [p] }
       d.pieces.any (fun q => q.overlaps p) = false → p.off + p.len ≤ 9216 → d'.complete = true → d'.forTransport = true →
        exec (.fragmentReceived k proto port stn prio p) s = .next (feed (inject
          { bytes := d'.bytes.take 256, len := d'.len, port := d.port, prio := d.prio, time := s.time, station := d.station, src := some 6, esp := p.esp }
          (bump Reg.SWITCH_FRAG_REINJECTED { s with net := { s.net with frags := tdel s.net.frags k } })))) ∧
      exec (.fragTimeout k) s = .next (fragDiscard k d.pieces.length s)) ∧
    (∀ k proto stn p, thas s.net.frags k = false → 64 ≤ s.net.frags.length →
      exec (.fragmentReceived k proto port stn prio p) s = .next (bump Reg.SWITCH_FRAG_DROPPED s)) ∧
    (∀ p g x, pageAlive s (0x08 + g) = true → txtsHead s g = some x →
      exec (.txtsHiRead p g) s = .next (drive (.readData p.code (x.time / 2 ^ 32 % 2 ^ 32)) (txtsRelease g s)))

/-- Where the path may write the command: INSERT of a key not in the table with a free place puts the image's entry there and answers 0 and the
place; of one already there answers 1. DELETE, REPLACE and LOOKUP of a key not in the table answer 2 and change nothing else; of one there
they clear it, rewrite its action bytes alone, and read it back. RULE WRITE stores the control, value, mask and action registers at the selected
index, INVALIDATE clears VALID alone, and READ loads the rule's hits.
What the spec leaves open in it is as in log entry 55. -/
def Obligations.FlowAndRuleCommandsAct : Prop :=
  ∀ (s : State) (p : Path), MayWrite p Reg.CLASS_FLOW_CMD s → MayWrite p Reg.CLASS_RULE_CMD s →
    let x := flowOfImage (flowImage s)
    (∀ i e, flowFind s.net.flows x.key x.profile = some (i, e) →
      exec (.flowInsert p) s = .next (flowStat 1 i s) ∧
      (∃ t, exec (.flowDelete p) s = .next t ∧ t.net.flows = tdel s.net.flows i ∧ OnlyParts [.regs, .net] s t) ∧
      (∃ t, exec (.flowReplace p) s = .next t ∧ OnlyParts [.regs, .net] s t ∧ t.net = { s.net with
        flows := tset s.net.flows i { e with cls := x.cls, cp := x.cp, queue := x.queue, context := x.context } }) ∧
      (∃ t, exec (.flowLookup p) s = .next t ∧ t = flowStat 0 i (putFlowData e.image s) ∧ OnlyParts [.regs] s t)) ∧
    (flowFind s.net.flows x.key x.profile = none →
      (∀ i, flowFree s.net.flows (flowBuckets x.key x.profile).1 (flowBuckets x.key x.profile).2 = some i →
        ∃ t, exec (.flowInsert p) s = .next t ∧ tget t.net.flows i = some x ∧ t.net.flows = tset s.net.flows i x ∧
          OnlyParts [.regs, .net] s t) ∧
      exec (.flowDelete p) s = .next (flowStat 2 0 s) ∧ exec (.flowReplace p) s = .next (flowStat 2 0 s) ∧
      exec (.flowLookup p) s = .next (flowStat 2 0 s)) ∧
    (trising s.net.rules = true → ∃ t, exec (.ruleWrite p) s = .next t ∧ OnlyParts [.net] s t ∧
      tgetD t.net.rules (ruleSel p s) {} = {
        valid := bitAt (rd s Reg.CLASS_RULE_CTRL) 0
        epochBit := bits (rd s Reg.CLASS_RULE_CTRL) 1 1
        anyEpoch := bitAt (rd s Reg.CLASS_RULE_CTRL) 2
        value := regImage Reg.CLASS_RULE_VALUE 11 s
        mask := regImage Reg.CLASS_RULE_MASK 11 s
        action := regImage Reg.CLASS_RULE_ACTION 4 s } ∧
      ∀ j, j ≠ ruleSel p s → tgetD t.net.rules j {} = tgetD s.net.rules j {}) ∧
    (trising s.net.rules = true → ∃ t, exec (.ruleInvalidate p) s = .next t ∧ OnlyParts [.net] s t ∧
      tgetD t.net.rules (ruleSel p s) {} = { tgetD s.net.rules (ruleSel p s) {} with valid := false }) ∧
    (∃ t, exec (.ruleRead p) s = .next t ∧ OnlyParts [.regs] s t ∧
      (trising s.regs = true → rd t Reg.CLASS_RULE_HITS = (tgetD s.net.rules (ruleSel p s) {}).hits))

/-- A lane without a seed that gets one runs. The DRBG reseeds after 2^20 requests when the source answers. An entropy failure starts three retests; a
pass ends them, the third failure sets ENTROPY_FAIL and raises 0x1E02. INSTALL on an index in use answers 1, with a bad image 2, else an
outbound SA is installed; DELETE of an index not in use answers 1; READ answers the image with its key as zeros. SA_DATA is cleared. ROLL is
refused with an OLD slot or no CURRENT one, and else starts. ESC_READ with nothing pending answers 2, else it gives the oldest record and
removes it. IMPORT without an escrow key answers 4. The sweep steps past a stripe that carries nothing under the OLD key, and does nothing
where it is suspended.
What the spec leaves open in it is as in log entries 1, 57, 78. -/
def Obligations.CipherCommandsKeepTheirRules : Prop :=
  ∀ (s : State),
    (∀ pool lane ok u, lane < 400 → s.ciph.lanesOut.contains (pool % 2 * 400 + lane) = false →
      (tgetD s.ciph.lanes (pool % 2 * 400 + lane) {}).seeds = 0 → drbgSeed s = (true, u) → ∃ t, exec (.laneReseed pool lane ok) s = .next t ∧
        t.ciph.lanes = tput {} u.ciph.lanes (pool % 2 * 400 + lane)
          { tgetD s.ciph.lanes (pool % 2 * 400 + lane) {} with stopped := false, seeds := 1 } ∧ OnlyParts [.ciph] u t) ∧
    (s.ciph.drbgStopped = false → 2 ^ 20 ≤ s.ciph.drbgReqs → exec (.drbgReseed true) s = .next (drbgReseed s)) ∧
    (s.ciph.drbgStopped = false → exec (.drbgReseed false) s = .next (drbgLimit s)) ∧
    (s.ciph.entropyFail = false → s.ciph.retests = 0 → ∃ t, exec .entropyHealthFail s = .next t ∧
      t.ciph = { s.ciph with retests := 3 } ∧ OnlyParts [.ciph] s t) ∧
    (s.ciph.retests ≠ 0 → ∃ t, exec (.entropyRetest true) s = .next t ∧ t.ciph = { s.ciph with retests := 0 } ∧ OnlyParts [.ciph] s t) ∧
    (2 ≤ s.ciph.retests → ∃ t, exec (.entropyRetest false) s = .next t ∧ t.ciph = { s.ciph with retests := s.ciph.retests - 1 }) ∧
    (s.ciph.retests = 1 → exec (.entropyRetest false) s =
      .next (drbgLimit (raise 0x1E02 [1] { s with ciph := { s.ciph with retests := 0, entropyFail := true } }))) ∧
    (∀ p, MayWrite p Reg.KSTORE_SA_CMD s →
      (∀ a, saAt s (saSel p s) = some a → exec (.saInstall p) s = .next (saClear (saStat 1 s)) ∧
        exec (.saRead p) s = .next (saStat 0 (putImage Reg.KSTORE_SA_DATA 32 a.image s)) ∧
        (a.outbound = true → a.succ = none → ∃ u, OnlyParts [.net, .ciph] s u ∧ u.ciph.sas = tdel s.ciph.sas (saSel p s) ∧
          exec (.saDelete p) s = .next (saClear (saStat 0 (saOrphans (saSel p s) a u))))) ∧
      (saAt s (saSel p s) = none → exec (.saDelete p) s = .next (saClear (saStat 1 s)) ∧
        exec (.saRead p) s = .next (saStat 0 (putImage Reg.KSTORE_SA_DATA 32 0 s))) ∧
      (thas s.ciph.sas (saSel p s) = false → saImageOk (saImage s) = false → exec (.saInstall p) s = .next (saClear (saStat 2 s))) ∧
      (thas s.ciph.sas (saSel p s) = false → saImageOk (saImage s) = true → (saOfImage (saImage s)).outbound = true →
        exec (.saInstall p) s = .next (saClear (saStat 0 (setSa (saSel p s) (saOfImage (saImage s)) s))))) ∧
    (∀ p, MayWrite p Reg.KSTORE_KEY_CMD s →
      (let slot := nsSelOf p s
       ((ksAt s slot (1 - ksCurrent s slot)).state ≠ 0 → exec (.ksRoll p) s = .next (keyStat 1 s)) ∧
       ((ksAt s slot (ksCurrent s slot)).state = 1 → (ksAt s slot (1 - ksCurrent s slot)).state = 0 → s.slotActive slot = true →
         bitAt (cfg s Reg.KSTORE_KS_CTL) 1 = false → keyChangeOk s = true → exec (.ksRoll p) s = .next (keyStat 0 (startRoll slot s)))) ∧
      (s.ks.esc = [] → exec (.escRead p) s = .next (keyStat 2 s)) ∧
      (∀ r rest, s.ks.esc = r :: rest → s.ks.rollWait = [] → ∃ t, exec (.escRead p) s = .next t ∧ t.ks = { s.ks with esc := rest } ∧
        OnlyParts [.regs, .ks] s t) ∧
      (s.trust.escrowKey = none → exec (.ksImport p) s = .next (keyStat 4 s))) ∧
    (∀ raws, sweepRuns s = false → exec (.rekeySweepStripe raws) s = .next s) ∧
    (∀ raws i slot parcel, sweepRuns s = true → (sweepEntries s).find? (fun i => decide (s.ks.sweepEntry ≤ i)) = some i →
      i = s.ks.sweepEntry → entOwner s i = some (slot, parcel) → thas s.store.succs (stripeKey slot parcel s.ks.sweepStripe) = false →
      tget s.store.frames (stripeKey slot parcel s.ks.sweepStripe) = none → raws = [] →
      s.ks.sweepStripe + 1 < stripesPer (entAt s i).layout → ∃ t, exec (.rekeySweepStripe raws) s = .next t ∧
        t.ks = { s.ks with sweepEntry := i, sweepStripe := s.ks.sweepStripe + 1 } ∧ OnlyParts [.ks] s t)

/-- On an engine that holds a frame, waits for no lookup and has used fewer cycles than its limit, with one cycle counted: NOP, EXT of a field within
the window, MOVI, ADD, ADDW, SUB, AND, OR, SHL, SHR, MARK, SETF and SETW write the register, mark or output field that Table 3 gives, in 32
bits, and go on to the next instruction; every other register of the engine keeps its value. EXT beyond the window is an overrun.
What the spec leaves open in it is as in log entries 8, 54. -/
def Obligations.EopinRegisterInstructions : Prop :=
  ∀ (s : State) (e : Nat) (x : Engine), tget s.net.engines e = some x → x.waitAct = false → x.cycles < cycleLimit s e →
    let y := { x with cycles := x.cycles + 1 }
    exec (.eopNop e) s = .next (setEngine e y.adv s) ∧
    (∀ (d r : Fin 8) (imm : BitVec 32),
      exec (.eopMovi e d imm) s = .next (setEngine e (y.setReg d imm.toNat).adv s) ∧
      exec (.eopAdd e d r imm) s = .next (setEngine e (y.setReg d (x.reg r + imm.toNat)).adv s) ∧
      exec (.eopAddw e d r) s = .next (setEngine e (y.setReg d (x.reg d + x.reg r)).adv s) ∧
      exec (.eopSub e d r imm) s = .next (setEngine e (y.setReg d (x.reg r + 2 ^ 32 - imm.toNat)).adv s) ∧
      exec (.eopAnd e d r imm) s = .next (setEngine e (y.setReg d (x.reg r &&& imm.toNat)).adv s) ∧
      exec (.eopOr e d r imm) s = .next (setEngine e (y.setReg d (x.reg r ||| imm.toNat)).adv s)) ∧
    (∀ (d r sh : Nat) (hd : d < 8) (hr : r < 8) (hs : sh < 32),
      exec (.eopShl e ⟨d, hd⟩ ⟨r, hr⟩ ⟨sh, hs⟩) s = .next (setEngine e (y.setReg ⟨d, hd⟩ (x.reg ⟨r, hr⟩ * 2 ^ sh)).adv s) ∧
      exec (.eopShr e ⟨d, hd⟩ ⟨r, hr⟩ ⟨sh, hs⟩) s = .next (setEngine e (y.setReg ⟨d, hd⟩ (x.reg ⟨r, hr⟩ / 2 ^ sh)).adv s)) ∧
    (∀ d f sh imm v, x.field f = some v →
      exec (.eopExt e d f sh imm) s = .next (setEngine e (y.setReg d (v / 2 ^ sh.val &&& imm.toNat)).adv s)) ∧
    (∀ d f sh imm, x.field f = none → exec (.eopExt e d f sh imm) s = .next (overrunOp e y s)) ∧
    (∀ f r imm, exec (.eopSetf e f imm) s = .next (setEngine e (y.setOut f imm.toNat).adv s) ∧
      exec (.eopSetw e f r) s = .next (setEngine e (y.setOut f (x.reg r)).adv s)) ∧
    (∀ no abs off, ∃ z, exec (.eopMark e no abs off) s = .next (setEngine e z s) ∧
      z = { y with pc := x.pc + 1, out := { x.out with offs := x.out.offs.set no.val ((if abs then off.val else x.cur + off.val) % 256) } }) ∧
    (∀ d r v, x.w.length = 8 → (y.setReg d v).reg r = if r = d then v % 2 ^ 32 else x.reg r)

/-- On an engine that holds a frame, waits for no lookup and is below its limit: MB, MBN, BEQ, BNE, BLT, JMP and JTAB go to their target, with one
cycle more, or to the next instruction, by their condition. ADV and ADVW move the cursor, up to 255. KEY and KEYW write key bytes and HASH and HASHW
fold bytes in their stated ranges. LOOK submits the key with bytes 0 to 3 filled; ACT applies a result that stands, or waits; the result of a lookup
stands or is applied. EMIT and TRAP end the frame. At the cycle limit the frame is emitted instead.
What the spec leaves open in it is as in log entries 8, 54, 55. -/
def Obligations.EopinFlowInstructions : Prop :=
  ∀ (s : State) (e : Nat) (x : Engine), tget s.net.engines e = some x →
    let y := { x with cycles := x.cycles + 1 }
    let go (taken : Bool) (tgt : Nat) := setEngine e (if taken then { y with pc := tgt, cycles := x.cycles + 2 } else y.adv) s
    (x.waitAct = false → x.cycles < cycleLimit s e →
      (∀ wide abs off tgt mask val v, x.field { w := if wide then .b2 else .b1, abs := abs, off := off } = some v →
        exec (.eopMb e wide abs off tgt mask val) s = .next (go ((v &&& mask.toNat) == val.toNat) tgt.val) ∧
        exec (.eopMbn e wide abs off tgt mask val) s = .next (go ((v &&& mask.toNat) != val.toNat) tgt.val)) ∧
      (∀ r tgt imm,
        exec (.eopBeq e r tgt imm) s = .next (go (x.reg r == imm.toNat) tgt.val) ∧
        exec (.eopBne e r tgt imm) s = .next (go (x.reg r != imm.toNat) tgt.val) ∧
        exec (.eopBlt e r tgt imm) s = .next (go (decide (x.reg r < imm.toNat)) tgt.val) ∧
        exec (.eopJmp e tgt) s = .next (go true tgt.val) ∧
        exec (.eopJtab e r tgt imm) s = .next (go (decide (x.reg r < imm.toNat)) (tgt.val + x.reg r))) ∧
      (∀ imm : BitVec 32, x.cur + imm.toNat ≤ 255 →
        exec (.eopAdv e imm) s = .next (setEngine e { y with cur := x.cur + imm.toNat, pc := x.pc + 1 } s)) ∧
      (∀ imm : BitVec 32, 255 < x.cur + imm.toNat → exec (.eopAdv e imm) s = .next (overrunOp e y s)) ∧
      (∀ r sh, x.cur + x.reg r * 2 ^ sh.val % 2 ^ 32 ≤ 255 → exec (.eopAdvw e r sh) s =
        .next (setEngine e { y with cur := x.cur + x.reg r * 2 ^ sh.val % 2 ^ 32, pc := x.pc + 1 } s)) ∧
      (∀ abs off len dst bs, 1 ≤ len → len ≤ 16 → 4 ≤ dst → dst + len ≤ 60 → x.read abs off.val len = some bs →
        exec (.eopKey e abs off len dst) s = .next (setEngine e { x with
          cycles := (x.cycles + ceilDiv len 8), key := x.key.take dst ++ bs ++ x.key.drop (dst + len), pc := x.pc + 1 } s)) ∧
      (∀ r dst, dst ≤ 56 → exec (.eopKeyw e r dst) s = .next (setEngine e { y with
          key := x.key.take dst ++ (leBytes 4 (x.reg r)).reverse ++ x.key.drop (dst + 4), pc := x.pc + 1 } s)) ∧
      (∀ abs off len bs, 1 ≤ len → len ≤ 40 → x.read abs off.val len = some bs → exec (.eopHash e abs off len) s =
        .next (setEngine e (({ x with cycles := x.cycles + ceilDiv len 8 } : Engine).fold (hashKey s) bs).adv s)) ∧
      (∀ r, exec (.eopHashw e r) s = .next (setEngine e (y.fold (hashKey s) (leBytes 4 (x.reg r)).reverse).adv s)) ∧
      (∀ profile flow stn, x.frame.station = some stn →
        let key := keyMeta x profile.val stn ++ x.key.drop 4
        exec (.eopLook e profile flow) s = .next (setEngine e { y with
          key := key, look := some { key := key, flow := flow, at_ := (x.cycles + 1) }, res := none, pc := x.pc + 1 } s)) ∧
      (∀ r, x.res = some r → exec (.eopAct e) s = .next (actOp e y r s)) ∧
      (x.res = none → exec (.eopAct e) s = .next (setEngine e { y with waitAct := true } s)) ∧
      exec (.eopEmit e) s = .next (emitOp e y s) ∧
      (∀ reason, exec (.eopTrap e reason) s = .next (trapOp e y reason.val s))) ∧
    (∀ q, x.look = some q → x.res = none → ∃ r u, lookupRun q s = (r, u) ∧
      exec (.classifierLookupDone e) s = .next (if x.waitAct then actOp e x r u else setEngine e { x with res := some r } u)) ∧
    (cycleLimit s e ≤ x.cycles → exec (.eopinCycleLimit e) s = .next (limitOp e x s) ∧
      (x.waitAct = false → exec (.eopNop e) s = .next (limitOp e x s))) ∧
    (x.cycles < cycleLimit s e → x.waitAct = false → exec (.eopinCycleLimit e) s = .next s)

/-- PERST# and a link-down are a surprise removal; PERST#'s release only clears it. An enabled link that trains is up with its width and rate,
event 0x2801. FLR of a function that exists begins, and its completion counts and raises 0x2802. Bus Master Set lets a function go on; Bus Master
Clear stops one, with 0x2803 where commands ended. VF Enable sets the count, at most 255. An IDE check failure leaves the stream Insecure with
0x2805; keying it in flit mode and a secured session makes it Secure. Where the function takes memory
requests, CC.EN cleared ends the association and drops the completions held for it, and a doorbell of a completion queue moves its head; else
neither does anything. A host read that times out is quarantined, counted, 0x2806; a refused one fails. The end of a
quarantine, or a late completion, frees the tag. An idle link without reads rests as its enables say. An asynchronous event request is
held, or takes a waiting notice.
What the spec leaves open in it is as in log entries 58, 59, 60, 79. -/
def Obligations.EndpointCommandsAct : Prop :=
  ∀ (s : State) (fn : Nat),
    (∃ t, exec .epPerstNAssert s = .next t ∧ t = { surpriseRemoval 1 s with ep := { (surpriseRemoval 1 s).ep with perst := true } }) ∧
    exec .epLinkDown s = .next (surpriseRemoval 0 s) ∧
    (∃ t, exec .epPerstNRelease s = .next t ∧ t.ep = { s.ep with perst := false } ∧ OnlyParts [.ep] s t) ∧
    (∀ width rate flit, bitAt (cfg s Reg.EP_EP_CTL) 0 = true → s.ep.perst = false → s.ep.link = false → 5 ∉ s.pwr.famDown →
      ∃ u, OnlyParts [.ep] s u ∧ u.ep.link = true ∧ u.ep.width = width % 16 ∧ u.ep.rate = rate % 8 ∧ u.ep.flit = flit ∧
        u.ep.ready = s.pwr.released ∧ exec (.epLinkUp width rate flit) s = .next (ideEval false (raise 0x2801 [1, width, rate] u))) ∧
    (s.ep.link = true → s.ep.flit = true → exec (.ideKm true) s = .next (ideEval false { s with ep := { s.ep with ideSecure := true } })) ∧
    (s.ep.link = true → s.ep.ideSecure = true → ∃ u, OnlyParts [.regs, .out, .evt, .ep] s u ∧
      exec .ideCheckFail s = .next (ideEval true u)) ∧
    (fnPresent s fn = true → (fnAt s fn).flr = false →
      exec (.flr fn) s = .next (flrBegin fn s) ∧
      (∀ mse, exec (.busMasterSet fn mse) s = .next (fnGo fn (setFn fn { fnAt s fn with present := true, bme := true, mse := mse } s))) ∧
      (∀ mse n u, (fnAt s fn).bme = true → trising s.ep.fns = true →
        fnStop fn (setFn fn { fnAt s fn with mse := mse, bme := false } (setFn fn { fnAt s fn with mse := mse } s)) = (n, u) →
        exec (.busMasterClear fn mse) s = .next (if n = 0 then u else raise 0x2803 (fn :: leBytes 4 n) u)) ∧
      (∀ c subsys, (fnAt s fn).cntlid = some c → (fnAt s fn).mse = true → s.ep.blocked = false →
        exec (.ccEn fn false subsys) s = .next (endAssociation c (setFn fn { fnAt s fn with heldCpl := [] } s)))) ∧
    (fnHears s fn = false → ∀ en subsys q cq v, exec (.ccEn fn en subsys) s = .next s ∧ exec (.nvmeDoorbell fn q cq v) s = .next s) ∧
    ((fnAt s fn).flr = true → exec (.flrComplete fn) s = .next (raise 0x2802 [fn] (bump Reg.EP_FLRS (flrEnd fn s)))) ∧
    (∀ num, s.ep.link = true → ∃ t, exec (.vfEnable true num) s = .next t ∧ t.ep.vfEnable = true ∧ t.ep.numVfs = min num 255) ∧
    (∀ q c v, (fnAt s fn).cntlid = some c → fnHears s fn = true → q ≤ 128 → v < 4096 →
      ∃ t, exec (.nvmeDoorbell fn q true v) s = .next t ∧ OnlyParts [.ep] s t ∧
        t.ep.nvq = tput {} s.ep.nvq (c * 256 + q) { tgetD s.ep.nvq (c * 256 + q) {} with cqHead := v }) ∧
    (∀ tag x, tget s.ep.tags tag = some x →
      (x.quarantined = true → exec (.epTagQuarantineEnd tag) s = .next (tagFree tag s) ∧
        exec (.epLateCompletion tag) s = .next (bump Reg.EP_LATE_CPL (tagFree tag s)) ∧
        ∀ d, exec (.hostReadCompletion tag d) s = .next (bump Reg.EP_LATE_CPL (tagFree tag s))) ∧
      (x.quarantined = false →
        exec (.epCompletionTimeout tag true) s = .next (readFailed x (tagFree tag s)) ∧
        (∀ c i lba d, x.what = .writeData c i →
          exec (.hostReadCompletion tag (.block lba d)) s = .next (blockArrives c lba d (tagFree tag s))) ∧
        (x.first = false → ∃ u, exec (.epCompletionTimeout tag false) s = .next (readFailed x u) ∧
          tget u.ep.tags tag = some { x with quarantined := true } ∧ OnlyParts [.regs, .out, .evt, .ep] s u))) ∧
    (s.ep.link = true → s.ep.tags = [] → s.ep.rings = [] → ∃ t, exec .epIdle s = .next t ∧ t.ep.ltrIdle = true ∧
      t.ep.idle = (bitAt (cfg s Reg.EP_EP_CTL) 1 || bitAt (cfg s Reg.EP_EP_CTL) 2) ∧ OnlyParts [.regs, .ep] s t) ∧
    (∀ q cid c a, queueCntlid s q = some c → tget s.nvm.assocs c = some a → a.notices = [] →
      ∃ t, exec (.asynchronousEventRequest q cid) s = .next t ∧ tget t.nvm.assocs c = some { a with aer := a.aer ++ [cid] } ∧
        OnlyParts [.nvm] s t)

/-- At the page of a ring that exists, of a function that takes memory requests: a doorbell moves the tail or the head; a pushed descriptor that
may be taken enters the prefetch store at the tail and counts, another counts as rejected and rings the doorbell. PAUSE takes an ACTIVE ring to
PAUSED, RESUME back, INVALIDATE drops what a PAUSED ring has prefetched, DRAIN without a chain wait takes ACTIVE or PAUSED to DRAINING and settles it;
in any other state each records error 3. SIZE, SCHED and COAL take values in range and record error 1 for others. A ring page of a
function that takes none is not there.
What the spec leaves open in it is as in log entries 60, 61. -/
def Obligations.RingPagesAct : Prop :=
  ∀ (s : State) (fn n : Nat),
    (fnHears s fn = false → ∀ v, exec (.db fn n v) s = .next s) ∧
    (let g := ringGlobal s fn n
     let r := ringAt s g
     fnHears s fn = true → ringExists s fn n = true → thas s.ep.rings g = true →
      (∀ v, exec (.db fn n v) s = .next (doorbell g v s)) ∧
      (∀ d, r.completion = false → r.state = .active → bitAt (cfg s Reg.RINGS_RINGS_CTL) 1 = true → d.slot = r.tail % r.len → pfLines s < 16384 →
        s.fnBme fn = true → r.waiting + r.granted.length + r.flying.length + 1 ≤ r.len - 1 → exec (.push fn n true d) s =
          .next (bump Reg.RINGS_PUSH_ACCEPTED
            (setRing g { r with tail := (r.tail + 1) % r.len, pushed := tset r.pushed (r.tail % r.len) d }
              { s with ep := { s.ep with idle := false, ltrIdle := false } }))) ∧
      (∀ d, r.completion = false → r.state = .active →
        exec (.push fn n false d) s = .next (bump Reg.RINGS_PUSH_REJECTED (doorbell g (d.slot + 1) s))) ∧
      (r.state = .active → exec (.pause fn n) s = .next (setRing g { r with state := .paused, pushed := [] } s)) ∧
      (r.state ≠ .active → exec (.pause fn n) s = .next (setRing g { r with err := 3 } s)) ∧
      (r.state = .paused → exec (.ringResume fn n) s = .next (setRing g { r with state := .active, invDone := false } s) ∧
        exec (.invalidate fn n) s = .next (setRing g { r with pushed := [], invDone := true } s)) ∧
      (r.state ≠ .paused → exec (.ringResume fn n) s = .next (setRing g { r with err := 3 } s) ∧
        exec (.invalidate fn n) s = .next (setRing g { r with err := 3 } s)) ∧
      (r.state = .active ∨ r.state = .paused → tget s.win.chains g = none → exec (.drain fn n) s =
        .next (ringSettle g (setRing g { r with state := .draining, pushed := [] } s))) ∧
      (r.state ≠ .active → r.state ≠ .paused → exec (.drain fn n) s = .next (setRing g { r with err := 3 } s)) ∧
      (∀ v, exec (.ringCtlWrite fn n 0x008 v) s = .next (ringCtl g v s) ∧
        (r.state = .disabled → 4 ≤ v % 32 → v % 32 ≤ 16 → exec (.ringCtlWrite fn n 0x00C v) s =
          .next (setRing g { r with n := v % 32, head := 0, tail := 0, phase := true } s)) ∧
        (v % 32 < 4 → exec (.ringCtlWrite fn n 0x00C v) s = .next (setRing g { r with err := 1 } s)) ∧
        (bits v 0 8 = 0 → exec (.ringCtlWrite fn n 0x018 v) s = .next (setRing g { r with err := 1 } s) ∧
          exec (.ringCtlWrite fn n 0x01C v) s = .next (setRing g { r with err := 1 } s)) ∧
        (bits v 0 8 ≠ 0 → 1 ≤ bits v 8 6 → bits v 8 6 ≤ 32 → exec (.ringCtlWrite fn n 0x018 v) s =
          .next (setRing g { r with weight := bits v 0 8, burst := bits v 8 6 } s)) ∧
        (bits v 0 8 ≠ 0 → exec (.ringCtlWrite fn n 0x01C v) s =
          .next (setRing g { r with coalN := bits v 0 8, coalUs := bits v 8 16 } s))))

/-- With RINGS enabled a grant takes a number of descriptors of the ring the arbiter picks. A ring's oldest granted descriptor, with nothing in flight
that it chains to, is moved to the ones in flight and executed by its opcode: NOP and MGMT complete, an entry is admitted as a capsule in
the function's association, NVME_ADMIN stands for the command it carries, WIN_READ, WIN_WRITE, WIN_FADD, WIN_CAS8 and WIN_CAS16 make their window access,
and CHAIN_WAIT ends 7/A1h on a ring that drains, completes at once where the counter meets its target, else waits at the ring. A chained descriptor after one that did not succeed is
skipped with 7/A2h. A coalescing delay that passes signals the completion ring.
What the spec leaves open in it is as in log entries 60, 61. -/
def Obligations.GrantedDescriptorsExecute : Prop :=
  ∀ (s : State) (g : Nat),
    (∀ mem n w, bitAt (cfg s Reg.RINGS_RINGS_CTL) 0 = true →
      s.ep.arb.pick (ringsWork s) (fun g => min (ringAt s g).weight (cfgAt s Reg.RINGS_FN_WEIGHT_MAX (ringAt s g).fn))
        (fun g => (ringAt s g).burst) (fun g => (ringAt s g).waiting) = (some (g, n), w) →
      exec (.ringGrant mem) s = .next (grantN g mem n { s with ep := { s.ep with arb := w, idle := false, ltrIdle := false } })) ∧
    (∀ mem, bitAt (cfg s Reg.RINGS_RINGS_CTL) 0 = false → exec (.ringGrant mem) s = .next s) ∧
    (∀ d, (ringAt s g).granted = [d] → (d.chain = true → (ringAt s g).flying = []) →
      let r := ringAt s g
      let run := descTake g d s
      let fin (t : State) := refuseFront g 1 t
      (d.chain = true → r.lastOk = false →
        (d.opc = 0x00 → exec (.ringNop g) s = .next (fin (ringDone g d.slot 7 0xA2 none 0 0 run)))) ∧
      (d.chain = false →
        (d.opc = 0x00 → exec (.ringNop g) s = .next (fin (ringDone g d.slot 0 0 (some false) 0 0 run))) ∧
        (d.opc = 0x02 → exec (.nvmeAdmin g) s = .next (fin run)) ∧
        (d.opc = 0x03 → ∀ n, exec (.mgmt g n) s = .next (fin (ringDone g d.slot 0 0 (some false) n 0 run))) ∧
        (d.opc = 0x10 → exec (.winRead g) s = .next (fin (ringAccess g 1 d 0 0 run))) ∧
        (d.opc = 0x11 → ∀ v, exec (.winWrite g v) s = .next (fin (ringAccess g 0 d v 0 run))) ∧
        (d.opc = 0x12 → exec (.winFadd g) s = .next (fin (ringAccess g 2 d (d.add % 2 ^ 64) 0 run))) ∧
        (d.opc = 0x13 → exec (.winCas8 g) s = .next (fin (ringAccess g 3 d (d.swap % 2 ^ 64) (d.compare % 2 ^ 64) run))) ∧
        (d.opc = 0x14 → exec (.winCas16 g) s = .next (fin (ringAccess g 4 d (d.swap % 2 ^ 128) (d.compare % 2 ^ 128) run))) ∧
        (∀ a n, d.opc = 0x20 → ringAssoc run g = some a → nsAt s (winAt s d.win).slot = some n → (winAt s d.win).state = 2 →
          n.subsys = a.subsys → a.host ∈ n.hosts →
          let v := tgetD (winAt s d.win).ctrs d.ctr 0
          ((ringAt run g).state = .draining → exec (.chainWait g) s = .next (fin (ringDone g d.slot 7 0xA1 none v 0 run))) ∧
          ((ringAt run g).state ≠ .draining → tallyMet v d.target = true → exec (.chainWait g) s = .next (fin (ringDone g d.slot 0 0 (some false) v 0 run))) ∧
          ((ringAt run g).state ≠ .draining → tallyMet v d.target = false → exec (.chainWait g) s = .next (fin { run with win := { run.win with
            chains := tset run.win.chains g { win := d.win, ctr := d.ctr, target := d.target, cid := d.slot } } }))) ∧
        (∀ a c, d.opc = 0x01 → ringAssoc s g = some a → mayParse s a.host = true → ∃ u, exec (.nvmeIo g c) s = .next (fin u) ∧
          (∀ v, submitRing g a.host a.subsys { c with cid := d.slot } run = some v → u = v) ∧
          (submitRing g a.host a.subsys { c with cid := d.slot } run = none → u = ringDone g d.slot 0 0x82 (some false) 0 0 run)))) ∧
    ((ringAt s g).completion = true → (ringAt s g).arm = true → (ringAt s g).unsignalled ≠ 0 → exec (.coalDelayExpire g) s =
      .next (msix (ringAt s g).fn (ringAt s g).vector (setRing g { ringAt s g with unsignalled := 0 } s)))

/-- A HELD port of a powered bay is TRAINING after its delay once the engines are released. Training or readiness that fails goes back to HELD,
counted, and at the third in a row leaves the port UNUSABLE with check 6 or 7. A link that comes up starts enumeration with event 01h; a ready
drive is checked, and READY with its queues, depth and label where it passes. A Format that completes ends formatting. A command that times out
once is quarantined after an Abort and a read of a strip becomes erasures; with the escalation count reached the port recovers. The end of a
quarantine, a late completion and late data only concern a quarantined tag. A containable error on a port with containment on contains it,
counted, event 04h; containment ends in HELD. A link loss is counted, event 06h. An idle READY port narrows.
What the spec leaves open in it is as in log entries 21, 62, 63. -/
def Obligations.DrivePortsAct : Prop :=
  ∀ (s : State) (n : Nat), let p := portAt s n
    (n < 24 → p.state = 1 → (bayAt s n).pg = true → s.pwr.released = true →
      exec (.perstDelayExpire n) s = .next (setPort n { p with state := 2 } s)) ∧
    (p.state = 2 →
      (p.trainFails < 2 → exec (.rpTrainingTimeout n) s = .next (portDown n 1 0 id (setPort n { p with trainFails := p.trainFails + 1 } s))) ∧
      (2 ≤ p.trainFails → exec (.rpTrainingTimeout n) s =
        .next (portSettled n (portUnusable n 6 (setPort n { p with trainFails := 0 } s)))) ∧
      (∀ w r f, exec (.rpLinkUp n w r f) s = .next (rpEvent n 0x01 [1, w]
        (setPort n { p with state := 3, link := true, width := w, rate := r, flit := f, trainFails := 0 } s)))) ∧
    (p.state = 3 →
      (p.readyFails < 2 → exec (.driveReadyTimeout n) s = .next (portDown n 1 0 id (setPort n { p with readyFails := p.readyFails + 1 } s))) ∧
      (2 ≤ p.readyFails → exec (.driveReadyTimeout n) s =
        .next (portSettled n (portUnusable n 7 (setPort n { p with readyFails := 0 } s)))) ∧
      (∀ d, driveCheck s d = 0 → ∃ q, exec (.driveReady n d) s = .next (portSettled n (setPort n q s)) ∧ q.state = 4 ∧ q.check = 0 ∧
        q.dual = d.cmic ∧ q.qpairs = min 128 d.granted ∧ q.depth = min 4096 (d.mqes + 1) ∧ q.serial = d.serial ∧ q.label = d.label)) ∧
    ((memberAt s n).formatting = true → (memberAt s n).state ≠ 2 → s.store.cmds = [] →
      exec (.driveFormatComplete n) s = .next (setMember n { memberAt s n with formatting := false } s)) ∧
    (∀ tag c, tag < 16384 → n < 24 → p.perstRel = true → tget s.store.cmds (n * 16384 + tag) = some c → c.quarantined = false →
      let times := (p.timeouts.filter fun t => decide (s.time < t + 1000000000)) ++ [s.time]
      let u := drive (.driveOp (n * 16384 + tag) n 5 tag) (bump (Reg.RP_CMD_TIMEOUTS n) (errLast (0x30 + n) 0x11 0 3
        (setPort n { p with timeouts := times } s)))
      (cfg s (Reg.RP_TO_ESCALATE n) ≤ times.length → exec (.rpCommandTimeout n tag false false) s = .next (portRecover n u)) ∧
      (∀ j strip rows d, times.length < cfg s (Reg.RP_TO_ESCALATE n) → c.firstTry = true → c.discard = false →
        c.purpose = .read j strip rows d → ∃ v, OnlyParts [.store] u v ∧
        tget v.store.cmds (n * 16384 + tag) = some { c with quarantined := true, discard := true } ∧
        exec (.rpCommandTimeout n tag false false) s = .next (settleFailed (takeRead j strip rows (noBlocks rows.length) v)))) ∧
    (∀ tag, tag < 16384 → quarantinedTag s (n * 16384 + tag) = true →
      exec (.rpTagQuarantineEnd n tag) s = .next (freeCmd (n * 16384 + tag) s) ∧
      exec (.rpLateCompletion n tag) s = .next (lateCompletion (n * 16384 + tag) s) ∧
      exec (.rpLateData n tag) s = .next (bump (Reg.RP_LATE_DATA n) s)) ∧
    (∀ code, n < 24 → p.perstRel = true → 0x12 ≤ code → code ≤ 0x15 →
      (bitAt (cfg s (Reg.RP_RP_CTL n)) 2 = true → exec (.rpContain n code) s = .next (portDown n 5 0 (portDepart n)
        (bump (Reg.RP_CONTAINS n) (rpEvent n 0x04 [code] (errLast (0x30 + n) code 0 3 s))))) ∧
      (bitAt (cfg s (Reg.RP_RP_CTL n)) 2 = false → exec (.rpContain n code) s = .next (errLast (0x30 + n) code 0 3 s))) ∧
    (p.state = 5 → exec (.rpContainEnd n) s = .next (setPort n { p with state := 1 } s)) ∧
    (p.state = 4 → (∀ b, exec (.rpLinkLoss n b) s = .next (portDown n 1 0 (portDepart n)
        (bump (Reg.RP_LINK_DOWNS n) (rpEvent n 0x06 [b2n b] s)))) ∧
      (p.narrow = false → bitAt (cfg s (Reg.RP_RP_CTL n)) 1 = true →
        exec (.rpIdle n) s = .next (bump (Reg.RP_L0P_ENTRIES n) (setPort n { p with narrow := true } s))))

/-- A level that changes restarts its debounce window; a level stable for it is the debounced level, and where it differs from the accepted one and
the input is not quarantined, it is accepted. A long press counts once, with event 0x4C03, and with LONG_OFF_EN is OFF where the bay takes it. Clearing a quarantine
that does not stand changes nothing. The LED chain is driven where this controller drives it. OFF, ON, CLEAR and CYCLE on a bay in a state
that takes them answer result 0 and take effect, in a pair once the partner has recorded them; else result 1.
What the spec leaves open in it is as in log entries 65, 66. -/
def Obligations.SidebandAndBayCommandsAct : Prop :=
  ∀ (s : State) (bay input : Nat), bay < 24 →
    (∀ low, input < 3 → s.bay.side.raw.contains (input * 32 + bay) ≠ low → ∃ t, exec (.sidebandEdge bay input low) s = .next t ∧
      (input * 32 + bay ∈ t.bay.side.window) ∧ (input * 32 + bay ∈ t.bay.side.raw ↔ low = true) ∧ OnlyParts [.bay] s t) ∧
    (input < 3 → s.bay.side.window.contains (input * 32 + bay) = true →
      let low := s.bay.side.raw.contains (input * 32 + bay)
      let u := modSide (fun x => { (x.setDeb input bay low) with window := x.window.filter fun i => i != input * 32 + bay }) s
      (bitAt (s.bay.side.quar input) bay = true ∨ bitAt (s.bay.side.acc input) bay = low →
        exec (.sidebandLevelAccept bay input) s = .next u) ∧
      (bitAt (s.bay.side.quar input) bay = false → bitAt (s.bay.side.acc input) bay ≠ low →
        exec (.sidebandLevelAccept bay input) s = .next (sideAccept input bay low u))) ∧
    (bitAt s.bay.side.counting bay = true → ∃ u, OnlyParts [.regs, .bay] s u ∧ u.bay.side.counting = clrBit s.bay.side.counting bay ∧
      (bitAt (cfg s Reg.SIDEBAND_SB_CTL) 0 = false → exec (.longPress bay) s = .next (raise 0x4C03 [bay, 0] u)) ∧
      (bitAt (cfg s Reg.SIDEBAND_SB_CTL) 0 = true → bayTakes u bay 1 = true → exec (.longPress bay) s =
        .next (requestRecord (.bayCmd bay 1) .nothing (bayCmdEffect bay 1) id (raise 0x4C03 [bay, 1] u)))) ∧
    (∀ p v, MayWrite p (quarReg input) s → (∀ b, b < 24 → bitAt v b = true → bitAt (s.bay.side.quar input) b = false) →
      exec (.quarantineClear p input v) s = .next s) ∧
    (drivesLeds s = false → exec .ledRefresh s = .next s) ∧
    (drivesLeds s = true → ∃ w u t, ledWord s = (w, u) ∧ exec .ledRefresh s = .next t ∧ t.out = u.out ++ [.leds w] ∧ t.bay.active = []) ∧
    (∀ p, MayWrite p (Reg.BAY_CMD bay) s → ∀ cmd c, (cmd, c) ∈ [(1, Instr.bayOff p bay), (2, .bayOn p bay), (3, .bayClear p bay), (4, .bayCycle p bay)] →
      (bayTakes s bay cmd = false → exec c s = .next (wr (Reg.BAY_CMD_STAT bay) 1 s)) ∧
      (bayTakes s bay cmd = true → exec c s = .next (requestRecord (.bayCmd bay cmd) .nothing (bayCmdEffect bay cmd) id
        (wr (Reg.BAY_CMD_STAT bay) 0 s))))

/-- After insertion a bay is QUEUED with EN, AUTO_ON and no interface rule against it, else OFF. The lowest QUEUED bay with a feed starts, at the
spacing and number of R333. A bay RAMPING with power good is ON; the fault timer and the fast trip are start faults 1 and 3 in RAMPING and run
faults 2 and 4 in ON, and lost power-good fault 6. A retry wait ends QUEUED; 60 s in ON clears the retries; a CYCLE's off-time ends QUEUED.
Feed A bad starts a changeover and gives up a return to A; feed A good again is returned to; a changeover completes with its event; a gate that does not turn off
is code 5, both gates at once code 7. Where the bay is in another state the command changes nothing.
What the spec leaves open in it is as in log entries 21, 64. -/
def Obligations.BayPowerMoves : Prop :=
  ∀ (s : State) (bay : Nat), let x := bayAt s bay
    (x.state = 1 →
      (bayEn s bay = true → bitAt (cfg s (Reg.BAYPWR_BP_CTL (bay / 6))) 0 = true → bitAt (cfg s Reg.SIDEBAND_SB_CTL) 2 = false →
        exec (.insertionDelayEnd bay) s = .next (bayMove bay 3 s)) ∧
      (bayEn s bay = false → exec (.insertionDelayEnd bay) s = .next (bayMove bay 2 s))) ∧
    (∀ b, tcount s.bay.bays (fun _ x => x.state == 4) < cfg s (Reg.BAYPWR_RAMP_MAX 0) → s.bay.lastStart = none → s.bay.trimBad = false →
      s.pwr.released = true → nextStart s = some b → ∃ u, OnlyParts [.bay] s u ∧ u.bay.lastStart = some s.time ∧
      exec .bayStart s = .next (bump (Reg.BAY_STARTS b) (bayMove b 4 u))) ∧
    (nextStart s = none → exec .bayStart s = .next s) ∧
    (x.state = 4 → exec (.bayFaultTimerExpire bay) s = .next (bayFault bay 1 s) ∧ exec (.bayFastTrip bay) s = .next (bayFault bay 3 s) ∧
      exec (.bayPowerGood bay) s = .next (bayMove bay 5 (setBay bay { x with pg := true } s))) ∧
    (x.state = 5 → exec (.bayFaultTimerExpire bay) s = .next (bayFault bay 2 s) ∧ exec (.bayFastTrip bay) s = .next (bayFault bay 4 s) ∧
      exec (.bayPowerGoodLost bay) s = .next (bayFault bay 6 s) ∧
      exec (.bayRetriesReset bay) s = .next (setBay bay { x with retries := 0 } s)) ∧
    (x.state ≠ 4 → x.state ≠ 5 → exec (.bayFaultTimerExpire bay) s = .next s ∧ exec (.bayFastTrip bay) s = .next s) ∧
    (x.state = 6 → exec (.bayRetryWaitEnd bay) s = .next (bayMove bay 3 s)) ∧
    (x.state = 2 → x.onWait = true → exec (.cycleOffTimeEnd bay) s = .next (bayMove bay 3 (setBay bay { x with onWait := false } s))) ∧
    (bay < 24 →
      exec (.feedBad bay true) s = .next (setBay bay { x with goodB := false } s) ∧
      exec (.feedBad bay false) s = .next (changeover bay 0 (setBay bay { x with
        goodA := false, changeover := if x.changeover = some 2 then none else x.changeover } s)) ∧
      exec (.feedGood bay false) s = .next (setBay bay { x with goodA := true } s) ∧
      (∃ on, exec (.gateTurnoffFail bay) s =
        .next (bpEvent bay 0x08 [5] (bayFaultCode bay 5 (setBay bay { x with feed := on, changeover := none } s))) ∧
        (x.changeover = none → on = x.feed) ∧ (∀ c, x.changeover = some c → on = if c = 2 then 2 else 1)) ∧
      (x.feed = 2 → exec (.bothGates bay) s = .next (bpEvent bay 0x08 [7] (bayFaultCode bay 7 (setBay bay { x with feed := 1 } s))))) ∧
    (x.feed = 2 → x.goodA = true → s.pair.conflict = false → x.changeover = none → s.pairedNow = false →
      exec (.feedReturn bay) s = .next (setBay bay { x with changeover := some 2 } s)) ∧
    (∀ c, x.changeover = some c → (c = 2 ∨ x.feed = 2) →
      let u := bump (Reg.BAY_CHANGES bay) (setBay bay { x with feed := if c = 2 then 1 else 2, changeover := none } s)
      exec (.changeoverComplete bay) s = .next (if c = 2 then bpEvent bay 0x07 [] u else bpEvent bay 0x06 [c] u)) ∧
    (s.pairedNow = true → isCtrl1 s = true →
      (x.changeover = some 2 → exec (.returnToATimeout bay) s = .next (setBay bay { x with feed := 2, changeover := none } s)) ∧
      (x.state = 5 → x.feed = 1 → x.goodA = true → s.pair.conflict = false →
        exec (.feedAGateLost bay) s = .next (setBay bay { x with feed := 2, changeover := some 1 } s)))

/-- A lane in use that fails starts a retrain. Training that locks fewer lanes than the minimum width takes the link down; with enough, an untrained
solo link comes up on the widest whole group (event 0x5001) and the messages that waited are sent, and a retrain that keeps its width ends
without an event. A flit on a link that is down or retraining does nothing. On one that is up: a bad CRC is counted and NAKed; one out of
order is NAKed; a control flit frees what it acknowledges; the next one in order is acknowledged and counted. A NAK or the 2 µs
timeout replays the flits from the one named. A frame and session data act only while lanes are up: a session that comes up lets a HELLO that
waits go on, one that fails refuses it with check 5.
What the spec leaves open in it is as in log entries 31, 80. -/
def Obligations.TheZeberLinkCarriesFlitsInOrder : Prop :=
  ∀ (s : State),
    (∀ lane, bitAt s.zeb.lanes lane = false → exec (.zeberRetrain lane) s = .next s) ∧
    (∀ lane, bitAt s.zeb.lanes lane = true → s.zeb.retraining = false → exec (.zeberRetrain lane) s =
      .next (bump Reg.ZEBER_RETRAINS { s with zeb := { s.zeb with retraining := true, retrainCause := 2 } })) ∧
    (∀ locked, bitAt (cfg s Reg.ZEBER_ZB_CTL) 0 = true → s.pwr.held = false → s.pwr.released = true →
      let n := laneCount (laneGroup locked)
      let least := 8 * 2 ^ bits (cfg s Reg.ZEBER_ZB_CTL) 1 2
      let up := { s with zeb := { s.zeb with lanes := laneGroup locked, retraining := false } }
      (n < least → s.zeb.retraining = true → exec (.zeberTrained locked) s = .next (zebLost s)) ∧
      (least ≤ n → s.zeb.lanes = 0 → s.pairedNow = false →
        exec (.zeberTrained locked) s = .next (zebDrain (raise 0x5001 [1, n] up))) ∧
      (least ≤ n → s.zeb.retraining = true → laneCount s.zeb.lanes = n → exec (.zeberTrained locked) s = .next (zebDrain up)) ∧
      (least ≤ n → s.zeb.retraining = true → n < laneCount s.zeb.lanes →
        exec (.zeberTrained locked) s = .next (zebDrain (raise 0x5002 [n] up)))) ∧
    (∀ crc ctrl ty f a n, zebUp s = false → exec (.zeberFlitReceived crc ctrl ty f a n) s = .next s ∧
      exec (.zeberNak f) s = .next s ∧ exec .zeberReplayTimeout s = .next s) ∧
    (zebUp s = true → ∀ ctrl ty f a n,
      let want := (s.zeb.fseqRx + 1) % 4096
      exec (.zeberFlitReceived false ctrl ty f a n) s = .next (drive (.zeberCtl 1 want) (bump Reg.ZEBER_CRC_ERRS s)) ∧
      exec (.zeberFlitReceived true true ty f a n) s =
        .next { s with zeb := { s.zeb with unacked := s.zeb.unacked.filter fun u => !decide ((a + 4096 - u.1) % 4096 < 2048) } } ∧
      (f ≠ want → exec (.zeberFlitReceived true false ty f a n) s = .next (drive (.zeberCtl 1 want) s)) ∧
      exec (.zeberFlitReceived true false true want a n) s =
        .next (bump64 Reg.ZEBER_RX_BYTES_LO 0 n (drive (.zeberCtl 0 want) { s with zeb := { s.zeb with fseqRx := want } })) ∧
      (s.zeb.unacked.all (fun u => decide (u.2 < 7)) = true →
        let here := fun u : Nat × Nat => decide ((u.1 + 4096 - f % 4096) % 4096 < 2048)
        exec (.zeberNak f) s = .next (bumpAt Reg.ZEBER_FLIT_REPLAYS 0 (s.zeb.unacked.filter here).length
          (drive (.zeberCtl 2 (f % 4096)) { s with zeb := { s.zeb with
            unacked := s.zeb.unacked.map fun u => if here u = true then (u.1, u.2 + 1) else u } }))) ∧
      (∀ u us, s.zeb.unacked = u :: us → exec .zeberReplayTimeout s = .next (zebReplay u.1 s))) ∧
    (∀ len port prio bytes esp done failed reply, s.zeb.lanes = 0 →
      exec (.pairFrame len port prio bytes esp) s = .next s ∧ exec (.pairSession done failed reply) s = .next s) ∧
    (s.zeb.lanes ≠ 0 → exec (.pairSession true false []) s = .next (joinTry { s with zeb := { s.zeb with session := true } }) ∧
      (let down := { s with zeb := { s.zeb with session := false }, pair := { s.pair with helloWait := none } }
       (s.pair.helloWait = none → exec (.pairSession false true []) s = .next down) ∧
       (s.pair.helloWait ≠ none → exec (.pairSession false true []) s = .next (raise 0x5108 [5] down))) ∧
      ∀ len port prio bytes esp, exec (.pairFrame len port prio bytes esp) s = .next (frameFromPartner len port prio bytes esp s))

/-- Where VC 1 traffic is placed (paired, arbitrating, or the joiner of a join) a MIRROR_PUT, JOURNAL_PUT, CLEAN_NOTE, LEASE or STATE_PUT that
carries the next MSEQ has its effect and is answered by a MIRROR_ACK of that number; one that carries any other MSEQ, or arrives elsewhere, does
nothing. A MIRROR_ACK of a number already covered, or never sent, does nothing; otherwise it is recorded, in a state where nothing else waits
for it. A placed block stands in the mirror with its slot, LBA, admission number and staging handle.
What the spec leaves open in it is as in log entries 32, 80. -/
def Obligations.MirrorTrafficIsPlacedInMseqOrder : Prop :=
  ∀ (s : State) (m : Nat) (c : Instr) (f : State → State),
    ((∃ slot lba adm stage blk, c = .mirrorPut m slot lba adm stage blk ∧ f = placeMirror m slot lba adm stage blk) ∨
     (∃ r, c = .journalPut m r ∧ f = placeJournal r) ∨ (∃ n, c = .cleanNote m n ∧ f = applyClean n) ∨
     (∃ slot limit, c = .lease m slot limit ∧ f = modNs slot fun n => { n with lease := max n.lease limit }) ∨
     (∃ p, c = .statePut m p ∧ f = applyPut p) →
      (takesMirror s = true → m = s.pair.mseqRx + 1 →
        exec c s = .next (zsend (.mirrorAck m) (f { s with pair := { s.pair with mseqRx := m } }))) ∧
      (takesMirror s = false ∨ m ≠ s.pair.mseqRx + 1 → exec c s = .next s)) ∧
    (∀ slot lba adm stage blk, (placeMirror m slot lba adm stage blk s).store.mirror =
      s.store.mirror ++ [{ slot := slot, lba := lba, adm := adm, stage := stage, blk := blk, mseq := m }]) ∧
    (m ≤ s.pair.mseqAcked ∨ s.pair.mseqTx < m → exec (.mirrorAck m) s = .next s) ∧
    (s.pair.mseqAcked < m → m ≤ s.pair.mseqTx → s.trav.open_ = [] → s.nvm.nss = [] → s.win.placing = [] → s.nvm.ctxs = [] →
      s.nvm.queues = [] → s.pair.fwdHeld = [] → ∃ t, exec (.mirrorAck m) s = .next t ∧ t.pair.mseqAcked = m ∧
        t.pair.mseqTx = s.pair.mseqTx ∧ t.pair.sentAt = tfilter s.pair.sentAt (fun k _ => decide (m < k)) ∧ OnlyParts [.regs, .pair] s t)

/-- HELLO: the first four checks of R358 in order; the first that fails raises 0x5108 with its number and the pair state stands. One that passes in
PARTNER_LOST or SEEKING waits for the pair session (check 5), in SEEKING also for a RANGE; then the survivor, or in SEEKING controller 0 unless its
partner serves, becomes the survivor of the join and any other its joiner. The timer sends RANGE until STOPPING is
sent. An edge makes the verdict serving, 2 ms of silence present or absent. A join whose ranging times out is over. Controller 1's arbitration delay
preempts. A preemption is won by a majority of the ACTIVE members, or by half at controller 0; one not won is FENCED. SEEKING that times out
preempts when armed, and otherwise becomes PARTNER_LOST.
What the spec leaves open in it is as in log entries 31, 34, 35, 36, 80. -/
def Obligations.JoiningPreemptingAndSeeking : Prop :=
  ∀ (s : State),
    (∀ ctrl ver set ep dat paired, s.zeb.lanes ≠ 0 →
      let k := { s with pair := { s.pair with partnerVersion := some ver, partnerSet := set, partnerDatum := dat } }
      (ctrl = s.pwr.ctrlId → exec (.hello ctrl ver set ep dat paired) s = .next (raise 0x5108 [1] (ctrlConflict ctrl k))) ∧
      (ctrl ≠ s.pwr.ctrlId → ver ≠ 1 → exec (.hello ctrl ver set ep dat paired) s = .next (raise 0x5108 [2] k)) ∧
      (ctrl ≠ s.pwr.ctrlId → paired = false → exec (.hello ctrl 1 set ep dat paired) s =
        .next (raise 0x5108 [3] { k with pair := { k.pair with partnerVersion := some 1 } })) ∧
      (ctrl ≠ s.pwr.ctrlId → s.pairedNow = true → set ≠ s.store.setId → set ≠ 0 → s.store.setId ≠ 0 →
        exec (.hello ctrl 1 set ep dat true) s = .next (raise 0x5108 [4] { k with pair := { k.pair with partnerVersion := some 1 } })) ∧
      (ctrl ≠ s.pwr.ctrlId → s.pairedNow = true → set = s.store.setId →
        let j := { s with pair := { s.pair with partnerVersion := some 1, partnerSet := set, partnerDatum := dat } }
        let w := { j with pair := { j.pair with helloWait := some ep } }
        let b := { j with pair := { j.pair with helloWait := none, epoch := max s.pair.epoch ep } }
        (s.pair.state ≠ 1 → s.pair.state ≠ 5 → exec (.hello ctrl 1 set ep dat true) s = .next j) ∧
        (s.pair.state = 1 ∨ s.pair.state = 5 → s.zeb.session = false → exec (.hello ctrl 1 set ep dat true) s = .next w) ∧
        (s.pair.state = 5 → s.zeb.session = true → exec (.hello ctrl 1 set ep dat true) s = .next (joinBegin true b)) ∧
        (s.pair.state = 1 → s.zeb.session = true → s.pair.ranging = false → exec (.hello ctrl 1 set ep dat true) s = .next w) ∧
        (s.pair.state = 1 → s.zeb.session = true → s.pair.ranging = true → exec (.hello ctrl 1 set ep dat true) s =
          .next (joinBegin (!isCtrl1 s && !partnerServes s) b)))) ∧
    (s.pairedNow = true → zebUp s = true → s.vault.accepted = false →
      (s.pair.stopSent = true → exec .rangeSendTimer s = .next s) ∧
      (s.pair.stopSent = false → ∃ t lim hu, exec .rangeSendTimer s = .next t ∧
        t.out = s.out ++ [.zeber (.range s.time s.pair.state s.pair.sense s.pair.lastRange lim hu)])) ∧
    exec .pairSenseEdge s = .next { s with pair := { s.pair with sense := 2, absentSince := 0, senseFault := false } } ∧
    (∀ high, s.pair.ranging = false → ∃ t, exec (.pairSenseTimeout high) s = .next t ∧ t.pair.sense = b2n high ∧
      t.pair.senseHigh = high ∧ OnlyParts [.pair] s t) ∧
    (s.pair.ranging = false → exec .rangingTimeout s = .next s) ∧
    (s.pair.ranging = true → s.pair.state = 2 → ∃ k, exec .rangingTimeout s = .next (joinAbort k) ∧ k.pair.ranging = false ∧
      k.pair.state = 2 ∧ OnlyParts [.regs, .pair] s k) ∧
    (s.pair.arbWaiting = true → exec .arbDelayEnd s = .next (preemptStart .arbitration s)) ∧
    (∀ won why, s.pair.preempt = some why →
      let a := (activeMembers s).length
      let k := { s with pair := { s.pair with preempt := none, arbWon := won, arbActive := a, arbWin := false } }
      (2 * won < a → exec (.preemptionDone won) s = .next (fenced won a k)) ∧
      (2 * won = a → s.pwr.ctrlId = 1 → exec (.preemptionDone won) s = .next (fenced won a k)) ∧
      (a < 2 * won ∨ (2 * won = a ∧ s.pwr.ctrlId ≠ 1) → ∃ u, exec (.preemptionDone won) s =
        .next (partnerLost (if why = .arbitration then 2 else 1) u) ∧ u.pair.arbWin = true ∧ u.pair.arbWon = won)) ∧
    (s.pair.state = 1 → s.pair.preempt = none →
      (armed s = true → exec .seekingTimeout s = .next (preemptStart .seeking s)) ∧
      (armed s = false → exec .seekingTimeout s = .next (partnerLost 1 s)))

/-- A forwarded command is kept in order behind those already held. Data for a context or tag that is gone is dropped; a completion of a forwarded command
finishes it. A strip request goes to this controller's port, or fails where the port is gone; answers settle the command. Stamps are drawn only
in namespaces that may be stamped. Controller 0 numbers, applies and returns a record; its acknowledgement completes it; controller 1
applies a numbered record and acknowledges it. MOVE_STATE acts only at the new owner. MOVE_CMD is refused with RESULT 4, 1, 2 or 3 in that
order, or starts a move. An unready move does not hand over; an expired hold answers ANA Transition. The joiner places what it is sent; the
end of resynchronisation waits for the survivor's dirty data to fit. The quiet interval's end retires the partner's records.
What the spec leaves open in it is as in log entries 32, 33, 75. -/
def Obligations.ForwardingRecordsMovesAndResync : Prop :=
  ∀ (s : State),
    (∀ (c : FwdCmd), inPair s = true → s.pair.fwdHeld ≠ [] → (∀ k w o l d x, c.cap.op ≠ .winAccess k w o l d x) → exec (.fwdCmd c) s =
      .next { s with pair := { s.pair with fwdHeld := s.pair.fwdHeld ++ [c] } }) ∧
    (∀ tag blocks, s.nvm.ctxs.find? (fun p => p.2.fwdTag == some tag) = none → exec (.fwdData true tag blocks) s = .next s) ∧
    (∀ tag blocks id c, tget s.pair.fwds tag = some id → ctxAt s id = some c → c.orphan = false →
      exec (.fwdData false tag blocks) s = .next (blocks.foldl (fun s b => sendData c.q c.cid b.1 b.2 s) s)) ∧
    (∀ tag adm sct sc dnr dw0 dw1, tget s.pair.fwds tag = none → tget s.win.fwds tag = none →
      exec (.fwdCpl tag adm sct sc dnr dw0 dw1) s = .next s) ∧
    (∀ tag adm sct sc dnr dw0 dw1 id, tget s.pair.fwds tag = some id → (sct ≠ 0 ∨ sc ≠ 0) →
      exec (.fwdCpl tag adm sct sc dnr dw0 dw1) s = .next (admitAll (finish id sct sc dnr dw0 dw1 { s with
        pair := { s.pair with fwds := tdel s.pair.fwds tag }
        store := { s.store with mirror := s.store.mirror.filter fun m => !(m.adm == 0 && m.stage == 0 && m.mseq == id) } }))) ∧
    (∀ r : StripReq, inPair s = true →
      (memberPresent s r.bay = false ∨ (memberAt s r.bay).oneSided = true →
        exec (.stripReq r) s = .next (zsend (.stripRsp r.tag false []) s)) ∧
      (memberPresent s r.bay = true → (memberAt s r.bay).oneSided = false →
        (∀ w, r.sys = some w → exec (.stripReq r) s = .next (issueSys r.bay (.remote r.tag) w s)) ∧
        (r.sys = none → exec (.stripReq r) s = .next (issue r.bay (r.write != []) r.lba r.n (.remote r.tag) r.write false s)))) ∧
    (∀ tag ok blocks c, tget s.store.cmds tag = some c → c.remote = true →
      exec (.stripRsp tag ok blocks) s = .next (if c.write = true then driveWriteDone tag ok s
        else driveReadDone tag (if ok = true then blocks else List.replicate c.n { ok := false }) s)) ∧
    (∀ tag tid host slots exts sl, sl ∈ slots → ownsSlot s sl = false → exec (.xstampReq tag tid host slots exts) s = .next s) ∧
    (∀ tag tid host slots exts nums u, inPair s = true → (∀ sl ∈ slots, ownsSlot s sl = true ∧ mayStamp s sl = true) →
      stampAll slots [] s = some (nums, u) → ∃ t v, exec (.xstampReq tag tid host slots exts) s = .next (zsend (.xstampRsp tag nums true) t) ∧
        tget t.trav.open_ u.trav.nextId = some v ∧ v.nums = nums ∧ v.remote = some tag ∧ OnlyParts [.trav] u t) ∧
    (∀ tag nums ok, travAt s tag = none → s.nvm.queues = [] → s.pair.fwdHeld = [] → exec (.xstampRsp tag nums ok) s = .next s) ∧
    (∀ num tag r, inPair s = true → s.pwr.ctrlId ≠ 1 →
      let n := s.pair.recNum + 1
      exec (.pairRecord num tag r) s = .next (zsend (.record n tag r) (applyRecord r { s with pair := { s.pair with
        recNum := n, records := tset s.pair.records n { what := r, cont := .nothing } } }))) ∧
    (∀ num r, inPair s = true → s.pwr.ctrlId = 1 →
      exec (.pairRecord num 0 r) s = .next (zsend (.recordAck num) (applyRecord r { s with pair := { s.pair with recNum := num } }))) ∧
    (∀ num p, tget s.pair.records num = some p → s.pwr.ctrlId ≠ 1 → exec (.recordAck num) s =
      .next (admitAll (runCont p.cont { s with pair := { s.pair with records := tdel s.pair.records num } }))) ∧
    (∀ m : MoveState, s.pair.moveSlot ≠ some m.slot ∨ s.pair.moveTo ≠ s.pwr.ctrlId → exec (.moveState m) s = .next s) ∧
    (∀ m : MoveState, s.pair.moveSlot = some m.slot → s.pair.moveTo = s.pwr.ctrlId → ∃ u, exec (.moveState m) s =
      .next (admitAll (pinReaders (moveEnd m.slot s.pwr.ctrlId u)))) ∧
    (∀ p v, MayWrite p Reg.PAIR_MOVE_CMD s →
      let slot := sel s p Reg.PAIR_MOVE_SLOT % 16384
      let result := fun r : Nat => { s with pair := { s.pair with moveResult := r } }
      (bits v 0 2 ≠ 1 → exec (.pairMove p v) s = .next (result 4)) ∧
      (bits v 0 2 = 1 → s.slotActive slot = false → exec (.pairMove p v) s = .next (result 1)) ∧
      (bits v 0 2 = 1 → s.slotActive slot = true → s.pair.state ≠ 3 → exec (.pairMove p v) s = .next (result 2)) ∧
      (bits v 0 2 = 1 → s.slotActive slot = true → s.pair.state = 3 → s.pair.moveSlot ≠ none →
        exec (.pairMove p v) s = .next (result 3)) ∧
      (bits v 0 2 = 1 → s.slotActive slot = true → s.pair.state = 3 → s.pair.moveSlot = none →
        (∀ x ∈ s.pair.records, ∀ sl dst, x.2.what ≠ .move sl dst) → exec (.pairMove p v) s = .next (moveStart slot (result 0)))) ∧
    (∀ slot n, s.pair.moveSlot = some slot → nsAt s slot = some n →
      (moveBusy s slot = true → exec .moveDrained s = .next s) ∧
      (moveBusy s slot = false → inPair s = true → n.owner = s.pwr.ctrlId → s.pair.moveTo ≠ s.pwr.ctrlId →
        ∃ u, exec .moveDrained s = .next (admitAll (nextMove (moveEnd slot s.pair.moveTo u))))) ∧
    (∀ q x a c cs, tget s.nvm.queues q = some x → queueAssoc s q = some a → x.held = c :: cs →
      s.nvm.nss.any (fun p => p.2.subsys == a.subsys && p.2.nsid == c.nsid && p.2.moving) = true →
      exec (.moveHoldExpire q) s =
        .next (answer q c.cid 3 0x03 (some false) 0 0 { s with nvm := { s.nvm with queues := tset s.nvm.queues q { x with held := cs } } })) ∧
    (s.pair.state = 2 → s.pair.survivor = false → (let c := { s with pair := { s.pair with resyncing := true } }
       (∀ r, exec (.resyncPut (.journal r)) s = .next (placeJournal r c)) ∧ (∀ p, exec (.resyncPut (.put p)) s = .next (applyPut p c))) ∧
      (∀ rate, ∃ u, OnlyParts (.pair :: .vault :: evParts) s u ∧ u.pair.state = 3 ∧
        exec (.resyncDone rate) s = .next (nextMove (registerAll (limitEval u))))) ∧
    (∀ rate, (s.pair.state ≠ 2 ∨ (s.pair.survivor = true ∧ 256 * s.vault.joinerEff.getD 0 < dirtyBlocks s)) →
      exec (.resyncDone rate) s = .next s) ∧
    (∀ raws, s.pair.quiet = true → s.store.mirJournal = [] → exec (.quietIntervalEnd raws) s =
      .next { s with pair := { s.pair with quiet := false } })

/-- A written entry leaves the queue and, with one device good, stands in the Field Book under the next SEQ, and what waited for it proceeds; with
neither good event 0x0606 is FATAL; none starts after a power failure. BOOT_CONFIRM confirms the boot and clears the slot's attempts;
SVN_ADVANCE asks for the entry before the burn, only upwards, and a burn that does not verify changes nothing. ACTIVATE answers its refusals in
order or asks for ACT_BEGIN; a component that fails ends the activation with the old code back. DEBUG_UNLOCK always draws a fresh nonce,
counts a failure, and after eight is refused. SPDM requests are answered on the interfaces that serve it; enrolment, rotation and the
escrow key need their sessions. The log page and a vendor get return entries.
What the spec leaves open in it is as in log entries 6, 14, 15, 70, 71, 81. -/
def Obligations.TheRootOfTrustActs : Prop :=
  ∀ (s : State),
    (∀ a b c, s.trust.queue = [] → exec (.fieldBookEntryWritten a b c) s = .next s) ∧
    (∀ a b c, s.vault.accepted = true → exec (.fieldBookEntryWritten a b c) s = .next s) ∧
    (∀ r rest burn, s.trust.queue = r :: rest → s.vault.accepted = false → s.trust.devBad = [] →
      exec (.fieldBookEntryWritten true true burn) s =
        .next (fbProceed r.cont burn (fbWrite r.type r.body { s with trust := { s.trust with queue := rest } }))) ∧
    (∀ r rest a b burn, s.trust.queue = r :: rest → s.vault.accepted = false → 0 ∈ s.trust.devBad → 1 ∈ s.trust.devBad →
      exec (.fieldBookEntryWritten a b burn) s =
        .next (fbFail r.cont (fatalEvent 0x0606 [] true { s with trust := { s.trust with queue := rest, fbLost := true } }))) ∧
    (∀ type body, s.trust.nextSeq % 8 ≠ 0 → ∃ e, (fbWrite type body s).trust.entries = tset s.trust.entries s.trust.nextSeq e ∧
      e.type = type ∧ e.seq = s.trust.nextSeq ∧ e.body = body ∧ e.bootCount = s.trust.bootCount ∧
      (fbWrite type body s).trust.nextSeq = s.trust.nextSeq + 1) ∧
    (∀ p, MayWrite p Reg.TRUST_BOOT_CONFIRM s → exec (.bootConfirm p) s = .next { s with trust := { s.trust with
      confirmed := true, attempts := tset s.trust.attempts s.trust.booted 0 } }) ∧
    (∀ p, MayWrite p Reg.TRUST_SVN_CMD s →
      let n := sel s p Reg.TRUST_SVN_SEL % 8
      let v := runningSvn s n
      (v ≤ tgetD s.trust.svn n 0 → exec (.svnAdvance p) s = .next s) ∧
      (tgetD s.trust.svn n 0 < v → exec (.svnAdvance p) s = .next { s with trust := { s.trust with
        queue := s.trust.queue ++ [⟨8, [n, tgetD s.trust.svn n 0, v], .svnBurn n v⟩] } })) ∧
    (∀ n v, tgetD s.trust.svn n 0 < v → tgetD (fbProceed (.svnBurn n v) true s).trust.svn n 0 = v ∧
      (fbProceed (.svnBurn n v) false s).trust = s.trust) ∧
    (∀ p, MayWrite p Reg.TRUST_ACT_CMD s →
      (∀ r, activateRefusal s = some r → exec (.activate p) s = .next { s with trust := { s.trust with actResult := r } }) ∧
      (∀ c why, activateRefusal s = none → slotRefusal s.trust (1 - s.trust.booted) [1, 2, 3, 4, 5, 6] = some (c, why) →
        exec (.activate p) s = .next (raise 0x060A [c, why] { s with trust := { s.trust with actResult := 5 } })) ∧
      (activateRefusal s = none → slotRefusal s.trust (1 - s.trust.booted) [1, 2, 3, 4, 5, 6] = none →
        ∃ t body, exec (.activate p) s = .next t ∧ OnlyParts [.trust] s t ∧ t.trust.actState = 1 ∧
          t.trust.actTodo = changedComponents s.trust (1 - s.trust.booted) ∧
          t.trust.queue = s.trust.queue ++ [⟨2, body, .actBegin⟩])) ∧
    (s.trust.actState ≠ 2 ∨ s.datum.phase ≠ .idle → ∀ ok, exec (.activationComponentDone ok) s = .next s) ∧
    (∀ c rest, s.trust.actState = 2 → s.datum.phase = .idle → s.trust.actTodo = c :: rest → s.trust.actDone = [] →
      exec (.activationComponentDone false) s = .next (actEndRequest
        { s with trust := { s.trust with actState := 3, actTodo := [], actFailed := c } }) ∧
      (rest ≠ [] → exec (.activationComponentDone true) s = .next (componentSwitched c (1 - s.trust.booted) rest s))) ∧
    (∀ scope nonce serial o v,
      (8 ≤ s.trust.dbgFails → exec (.debugUnlock scope nonce serial o v) s = .next (raise 0x0608 [scope, 1] (freshNonce s))) ∧
      (s.trust.dbgFails < 8 → debugGranted scope nonce serial o v s.trust = true → exec (.debugUnlock scope nonce serial o v) s =
        .next (freshNonce (fbRequest 9 [scope, nonce] (.debugUnlock scope) s))) ∧
      (s.trust.dbgFails < 7 → debugGranted scope nonce serial o v s.trust = false → exec (.debugUnlock scope nonce serial o v) s =
        .next (freshNonce { s with trust := { s.trust with dbgFails := s.trust.dbgFails + 1 } })) ∧
      (debugGranted scope nonce serial o v s.trust = true → nonce = s.trust.dbgNonce ∧ bitAt s.trust.debugDisable (scope - 1) = false ∧
        (scope = 1 ∨ scope = 2 ∨ scope = 3) ∧ (scope = 3 → o = true ∧ v = true))) ∧
    (∀ q cid off len, ∃ t, exec (.fieldBookExport q cid off len) s = .next t ∧ (bitAt (cfg s Reg.TRUST_TRUST_CTL) 0 = false →
      t = answer q cid 1 0x09 none 0 0 s)) ∧
    (∀ ifc req x y, spdmServed ifc s = false → exec (.getMeasurements ifc req x) s = .next s ∧ exec (.challenge ifc req x) s = .next s ∧
      exec (.keyExchange ifc req true) s = .next s ∧ exec (.setCertificate ifc req y) s = .next s) ∧
    (∀ ifc req, spdmServed ifc s = true →
      (∀ i, i ≠ 0xFF → ∃ sig, exec (.getMeasurements ifc req i) s = .next (drive (.spdm ifc.code req [measDigest s i, sig]) s)) ∧
      (∀ n, ∃ sig, exec (.challenge ifc req n) s = .next (drive (.spdm ifc.code req [n, sig]) s)) ∧
      (∀ o, ∃ t, exec (.keyExchange ifc req o) s = .next t ∧ t.trust = { s.trust with sessions := tset s.trust.sessions req o } ∧
        OnlyParts [.out, .trust] s t) ∧
      exec (.keyUpdate ifc req) s = .next (drive (.spdm ifc.code req [if thas s.trust.sessions req = true then 2 else 0]) s) ∧
      (∀ ch, exec (.setCertificate ifc req ch) s =
        .next (drive (.spdm ifc.code req [1]) { s with trust := { s.trust with ldevid := some ch } })) ∧
      (∀ seq e, tget s.trust.entries seq = some e → exec (.fieldBookEntryVendorGet ifc req seq) s =
        .next (drive (.spdm ifc.code req e.fields) s))) ∧
    (∀ req d, (thas s.trust.sessions req = true → s.trust.lifecycle = 1 → s.trust.ownerDigests = [] → exec (.ownerEnrol req d) s =
        .next (fbRequest 10 [0, 0, d] (.ownerBurn req 0 d false) s)) ∧
      (s.trust.lifecycle ≠ 1 → exec (.ownerEnrol req d) s = .next (drive (.spdm 0 req [0]) s))) ∧
    (∀ req d, (ownerSession s.trust req = true → s.trust.ownerDigests ≠ [] → s.trust.ownerDigests.length < 4 →
        exec (.ownerRotate req d true) s = .next (fbRequest 10 [1, s.trust.ownerDigests.length, d]
          (.ownerBurn req s.trust.ownerDigests.length d true) s)) ∧
      exec (.ownerRotate req d false) s = .next (drive (.spdm 0 req [0]) s)) ∧
    (∀ req k, (ownerSession s.trust req = true → exec (.escrowKeyInstall req k) s =
        .next (drive (.spdm 0 req [1]) { s with trust := { s.trust with escrowKey := some k } })) ∧
      (ownerSession s.trust req = false → exec (.escrowKeyInstall req k) s = .next (drive (.spdm 0 req [0]) s)))

/-- While a commit, revert or LOAD runs, or a CONFIRM or SEAL waits for its entry, every datum command is ignored. COMMIT is refused with the RESULT of its first failing check, or starts with
a DATUM entry of kind 0; CONFIRM needs an active datum that awaits it, and writes kind 1; REVERT needs a previous datum and writes kind 3, an expired
confirmation kind 2; DISCARD drops the staged datum; SEAL needs a confirmed unsealed one; LOAD begins, and its end stages the plat or refuses it. A
closure with the engines still makes the target active: a commit keeps the old datum to return to and opens the confirmation window, a
revert has none; a switch of the Eopin bank that ends an activation asks for ACT_END. A retry while the engines move is counted; the sixteenth
refuses the command with RESULT 10.
What the spec leaves open in it is as in log entries 15, 81. -/
def Obligations.DatumCommandsRunTheirCourse : Prop :=
  ∀ (s : State),
    (∀ p, datumCmdRuns s = true → MayWrite p Reg.DATUM_DATUM_CMD s → exec (.datumCommit p) s = .next s ∧ exec (.datumConfirm p) s = .next s ∧
      exec (.datumRevert p) s = .next s ∧ exec (.datumDiscard p) s = .next s ∧ exec (.datumSeal p) s = .next s ∧
      exec (.datumLoad p) s = .next s) ∧
    (∀ p, datumCmdRuns s = false → MayWrite p Reg.DATUM_DATUM_CMD s →
      (∀ r, commitRefusal s = some r → exec (.datumCommit p) s = .next (datumRefuse 1 r 0 s)) ∧
      (∀ st, commitRefusal s = none → s.datum.staged = some st →
        (∀ page, crossCheckPage s st.result = some page →
          exec (.datumCommit p) s = .next (datumRefuse 1 3 page (errLast page 0x02 0 3 s))) ∧
        (crossCheckPage s st.result = none → exec (.datumCommit p) s = .next (startClosure .commit 0 st.result s))) ∧
      (s.vault.accepted = false → s.datum.confirmed = false → exec (.datumConfirm p) s =
        .next (fbRequest 4 (datumEntryBody 1 s.datum.active s.datum.active) .datumConfirm s)) ∧
      (s.vault.accepted = false → s.datum.confirmed = true → exec (.datumConfirm p) s = .next (datumRefuse 2 1 0 s)) ∧
      (s.vault.accepted = false → s.datum.prev = none → exec (.datumRevert p) s = .next (datumRefuse 3 9 0 s)) ∧
      (∀ d, s.vault.accepted = false → s.datum.prev = some d → s.datum.active.sealed = true → d.sealed = false →
        exec (.datumRevert p) s = .next (datumRefuse 3 6 0 s)) ∧
      (∀ d, s.vault.accepted = false → s.datum.prev = some d → s.datum.active.sealed = false →
        exec (.datumRevert p) s = .next (startClosure .revertManual 3 d s)) ∧
      (s.datum.staged = none → exec (.datumDiscard p) s = .next (datumRefuse 4 2 0 s)) ∧
      (s.datum.staged ≠ none → exec (.datumDiscard p) s =
        .next { s with datum := { s.datum with staged := none, result := 0, resultPage := 0 } }) ∧
      (s.vault.accepted = false → s.datum.confirmed = true → s.datum.active.sealed = false → exec (.datumSeal p) s =
        .next (fbRequest 4 (datumEntryBody 4 s.datum.active s.datum.active) .datumSeal s)) ∧
      (s.vault.accepted = false → (s.datum.confirmed = false ∨ s.datum.active.sealed = true) →
        exec (.datumSeal p) s = .next (datumRefuse 5 1 0 s)) ∧
      (s.vault.accepted = false → exec (.datumLoad p) s = .next { s with datum := { s.datum with loading := true } }) ∧
      (s.vault.accepted = true → exec (.datumCommit p) s = .next (datumRefuse 1 11 0 s) ∧
        exec (.datumConfirm p) s = .next (datumRefuse 2 11 0 s) ∧ exec (.datumRevert p) s = .next (datumRefuse 3 11 0 s) ∧
        exec (.datumSeal p) s = .next (datumRefuse 5 11 0 s) ∧ exec (.datumLoad p) s = .next (datumRefuse 6 11 0 s))) ∧
    (∀ d, s.datum.prev = some d → s.datum.confirmed = false → datumCmdRuns s = false →
      exec .confirmExpire s = .next (startClosure .revertExpired 2 d s)) ∧
    (s.datum.prev = none ∨ s.datum.confirmed = true ∨ datumCmdRuns s = true → exec .confirmExpire s = .next s) ∧
    (∀ kind e t, (startClosure kind e t s).trust.queue = s.trust.queue ++ [⟨4, datumEntryBody e s.datum.active t, .datumCommit⟩] ∧
      (startClosure kind e t s).datum.active = s.datum.active ∧ (startClosure kind e t s).datum.target = some t) ∧
    (s.datum.loading = false → exec .loadDone s = .next s) ∧
    (s.datum.loading = true →
      let k := { s with datum := { s.datum with loading := false } }
      (s.datum.platDone = false → exec .loadDone s = .next (datumRefuse 6 4 0 k)) ∧
      (s.datum.platDone = true → exec .loadDone s = .next (match platVerify k s.datum.platBytes with
        | .error (r, page) => datumRefuse 6 r page k
        | .ok d => { s with datum := { s.datum with
            loading := false, staged := some { base := d, changes := [], fromPlat := true }, result := 0, resultPage := 0 } }))) ∧
    (∀ hold, s.datum.phase ≠ .armed ∨ netStill s = false → exec (.datumClosure hold) s = .next s) ∧
    (∀ hold t, s.datum.phase = .armed → s.datum.target = some t → netStill s = true → exec .quiesceRetry s = .next s ∧
      ∃ u, (let v := closureEvent s.datum.kind s.datum.active t hold (onClosure s.datum.active t u)
           (s.datum.kind ≠ .bankSwitch → exec (.datumClosure hold) s = .next v) ∧
           (s.datum.kind = .bankSwitch → exec (.datumClosure hold) s = .next v ∨ exec (.datumClosure hold) s = .next (actFinish v))) ∧
        u.datum.active = t ∧ u.datum.phase = .idle ∧ u.datum.holdLast = hold ∧ OnlyParts [.regs, .datum] s u ∧
        (s.datum.kind = .commit → u.datum.prev = some s.datum.active ∧ u.datum.confirmed = false ∧ u.datum.staged = none ∧
          u.datum.confirmAt = s.time + rd s Reg.DATUM_CONFIRM_S * 1000000000) ∧
        (s.datum.kind = .revertManual ∨ s.datum.kind = .revertExpired → u.datum.prev = none ∧ u.datum.confirmed = true)) ∧
    (∀ t, s.datum.phase = .armed → s.datum.target = some t → netStill s = false →
      let k := bump Reg.DATUM_QUIESCE_RETRIES s
      (s.datum.attempts < 15 → exec .quiesceRetry s =
        .next { k with datum := { k.datum with attempts := s.datum.attempts + 1 } }) ∧
      (15 ≤ s.datum.attempts → ∃ u, exec .quiesceRetry s = .next (feed (datumRefuse (if s.datum.kind = .revertManual then 3 else 1) 10 0 u)) ∧
        u.datum = { s.datum with phase := .idle, target := none, attempts := 0 } ∧
        (s.datum.kind ≠ .bankSwitch → u.trust.queue = s.trust.queue ++ [⟨4, datumEntryBody 2 t s.datum.active, .nothing⟩])))

/-- A write to a page that does not exist is discarded; on the endpoint path without HOST_WR_EN it is discarded with code 0x09, at a reserved offset or a
read-only register with 0x06, at a chiplet register with the link down with 0x07. Otherwise, by access type, with the bytes enabled: an RWD
write of a sealed datum records 0x04, during a datum command 0x08, outside its range 0x01, and otherwise stages the value, so that the
running value stands; an RWL register of a sealed datum records 0x04; RW takes the value, with what its register does; an RW1C bit written 1 is cleared; RWS takes the value; a selector takes it for its own path; a write-only register
starts its command. A read answers the value of the register on the path, driven once.
What the spec leaves open in it is as in log entries 12, 13, 72. -/
def Obligations.RegisterWritesActByAccessType : Prop :=
  ∀ (s : State) (p : Path) (page off be v : Nat),
    let r : RegId := ⟨page, off / 4 * 4⟩
    (blockBase page = none → exec (.registerWrite p page off be v) s = .next s) ∧
    (blockBase page ≠ none →
      (p = .endpoint → bitAt (cfg s Reg.TOP_TOP_CTL) 0 = false →
        exec (.registerWrite p page off be v) s = .next (errLast page 0x09 r.off p.code s)) ∧
      ((p ≠ .endpoint ∨ bitAt (cfg s Reg.TOP_TOP_CTL) 0 = true) →
        (regRow r = none → exec (.registerWrite p page off be v) s = .next (errLast page 0x06 r.off p.code s)) ∧
        (∀ row, regRow r = some row →
          (isChipletPage page = true → 0x100 ≤ r.off → s.pwr.chipletLink = false →
            exec (.registerWrite p page off be v) s = .next (errLast page 0x07 r.off p.code s)) ∧
          ((isChipletPage page = false ∨ r.off < 0x100 ∨ s.pwr.chipletLink = true) →
            let w := v % 2 ^ 32
            (row.acc = .ro → exec (.registerWrite p page off be v) s = .next (errLast page 0x06 r.off p.code s)) ∧
            (row.acc = .rwd →
              (s.datum.active.sealed = true → exec (.registerWrite p page off be v) s = .next (errLast page 0x04 r.off p.code s)) ∧
              (s.datum.active.sealed = false → datumBusy s = true →
                exec (.registerWrite p page off be v) s = .next (errLast page 0x08 r.off p.code s)) ∧
              (s.datum.active.sealed = false → datumBusy s = false →
                let i := pathIndex p r row s
                let x := (mergeBytes (be % 16) (stagedAt s r i) w &&& row.mask) ||| (rstVal r i &&& (0xFFFFFFFF - row.mask))
                ((rangeOk row x = false ∨ crossOk s r i x = false) →
                  exec (.registerWrite p page off be v) s = .next (errLast page 0x01 r.off p.code s)) ∧
                (rangeOk row x = true → crossOk s r i x = true → r ≠ Reg.NSMGR_NS_DEADLINE →
                  exec (.registerWrite p page off be v) s = .next (stagePut r i x s) ∧ stagedAt (stagePut r i x s) r i = x ∧
                  (stagePut r i x s).datum.active = s.datum.active))) ∧
            (row.acc = .rw1c → r ≠ Reg.SIDEBAND_QUAR_PRSNT → r ≠ Reg.SIDEBAND_QUAR_IFDET → r ≠ Reg.SIDEBAND_QUAR_ATTN → exec (.registerWrite p page off be v) s =
              .next (wr r (rd s r - (rd s r &&& (mergeBytes (be % 16) 0 w &&& row.mask))) s)) ∧
            (row.acc = .rws → exec (.registerWrite p page off be v) s =
              .next (wr r (mergeBytes (be % 16) (rd s r) w &&& row.mask) s)) ∧
            (row.acc = .sel → exec (.registerWrite p page off be v) s =
              .next (setSel p r (mergeBytes (be % 16) (sel s p r) w &&& row.mask) s)) ∧
            (row.acc = .rw → exec (.registerWrite p page off be v) s =
              .next (rwWrite p r (mergeBytes (be % 16) (regWhole p r row s).1 w &&& row.mask) s)) ∧
            (row.acc = .rwl → s.datum.active.sealed = true →
              exec (.registerWrite p page off be v) s = .next (errLast page 0x04 r.off p.code s)) ∧
            (row.acc = .wo → MayWrite p r s → exec (.registerWrite p page off be v) s =
              .next (woWrite p r (mergeBytes (be % 16) 0 w) s)))))) ∧
    exec (.loReadLatch p page off) s = .next (drive (.readData p.code (regRead p ⟨page, off⟩ s).1) (regRead p ⟨page, off⟩ s).2) ∧
    exec (.cadEntryRead p) s = .next (drive (.readData p.code (regRead p Reg.CADASTRE_CAD_ENTRY_0 s).1)
      (regRead p Reg.CADASTRE_CAD_ENTRY_0 s).2)

/-- A vendor command on an interface that does not serve it does nothing. READ_REG and WRITE_REG answer status 2 for a range outside the window;
writes and plat deliveries without authority answer 1; the rest act and answer 0. PLAT_DATA at 0 starts anew and elsewhere continues at
the length delivered (else 3), answers 4 during a LOAD and 5 where the NOR fails; PLAT_END needs that length. A head written between head
and tail moves; any other is code 0x10. EVT_FORCE raises each event named. No snapshot is taken while off.
What the spec leaves open in it is as in log entries 12, 16, 72. -/
def Obligations.VendorCommandsAndHeadsAct : Prop :=
  ∀ (s : State) (ifc : MgmtIf) (req : Nat),
    (vendorServed ifc req s = false → ∀ off n (data : List Nat) ok, exec (.readReg ifc req off n) s = .next s ∧
      exec (.writeReg ifc req off data) s = .next s ∧ exec (.platData ifc req off data ok) s = .next s ∧
      exec (.platEnd ifc req n) s = .next s ∧ exec (.eventRead ifc req off n) s = .next s) ∧
    (vendorServed ifc req s = true →
      (∀ off n, windowRangeOk off n = false → exec (.readReg ifc req off n) s = .next (vendorReply ifc req 2 [] [] s)) ∧
      (∀ off n, windowRangeOk off n = true → exec (.readReg ifc req off n) s =
        .next (vendorReply ifc req 0 (readDwords n off s).1 [] (readDwords n off s).2) ∧ (readDwords n off s).1.length = n) ∧
      (vendorWriteOk ifc req s = false → ∀ off n (data : List Nat) ok,
        exec (.writeReg ifc req off data) s = .next (vendorReply ifc req 1 [] [] s) ∧
        exec (.platData ifc req off data ok) s = .next (vendorReply ifc req 1 [] [] s) ∧
        exec (.platEnd ifc req n) s = .next (vendorReply ifc req 1 [] [] s)) ∧
      (vendorWriteOk ifc req s = true →
        (∀ off data, windowRangeOk off data.length = true → exec (.writeReg ifc req off data) s =
          .next (vendorReply ifc req 0 [] [] (writeDwords data off s))) ∧
        (∀ off v vs, writeDwords (v :: vs) off s = writeDwords vs (off + 4) (regWriteFull .management (windowReg off) 0xF v s)) ∧
        (∀ off data, data ≠ [] → data.length ≤ 1024 →
          (∀ ok, s.datum.loading = true → exec (.platData ifc req off data ok) s = .next (vendorReply ifc req 4 [] [] s)) ∧
          (s.datum.loading = false → off ≠ 0 → off ≠ s.datum.platBytes.length → ∀ ok,
            exec (.platData ifc req off data ok) s = .next (vendorReply ifc req 3 [] [] s)) ∧
          (s.datum.loading = false → exec (.platData ifc req 0 data false) s = .next (vendorReply ifc req 5 [] [] s) ∧
            exec (.platData ifc req 0 data true) s =
              .next (vendorReply ifc req 0 [] [] { s with datum := { s.datum with platBytes := data, platDone := false } })) ∧
          (s.datum.loading = false → s.datum.platDone = false →
            exec (.platData ifc req s.datum.platBytes.length data true) s = .next (vendorReply ifc req 0 [] []
              { s with datum := { s.datum with platBytes := s.datum.platBytes ++ data, platDone := false } }))) ∧
        (∀ len, (len ≠ s.datum.platBytes.length ∨ len = 0) → exec (.platEnd ifc req len) s = .next (vendorReply ifc req 3 [] [] s)) ∧
        (s.datum.platBytes ≠ [] → exec (.platEnd ifc req s.datum.platBytes.length) s =
          .next (vendorReply ifc req 0 [] [] { s with datum := { s.datum with platDone := true } })))) ∧
    (bitAt (cfg s Reg.TELEM_TELEM_CTL) 0 = false → exec .snapshot s = .next s) ∧
    (bitAt (cfg s Reg.TELEM_TELEM_CTL) 0 = true → (∀ i, i < 256 → bitAt (cfgAt s Reg.TELEM_SNAP_ADDR i) 0 = false) →
      exec .snapshot s = .next (telWrite (cfg s Reg.TELEM_SNAP_RING % 16) (snapHeader 0 0 1 s.time s.evt.snapSeq) []
        { s with evt := { s.evt with snapSeq := s.evt.snapSeq + 1 } })) ∧
    (∀ p v, MayWrite p Reg.TELEM_TR_HEAD s →
      let ring := sel s p Reg.TELEM_TR_SEL
      exec (.trHeadWrite p v) s = .next { s with evt := { s.evt with
        rings := tput {} s.evt.rings ring { tgetD s.evt.rings ring {} with head := v % telSize s ring } } }) ∧
    (∀ p v, MayWrite p Reg.EVT_Q_HEAD s →
      let q := sel s p Reg.EVT_Q_SEL
      let e := tgetD s.evt.queues q {}
      let n := qSize s q
      let d := (v % 2 ^ 14 + n - e.head % n) % n
      (v % 2 ^ 14 < n → d ≤ (e.tail + n - e.head % n) % n → exec (.qHeadWrite p v) s = .next (qAdvance q d s)) ∧
      (n ≤ v % 2 ^ 14 ∨ (e.tail + n - e.head % n) % n < d →
        exec (.qHeadWrite p v) s = .next (errLast 0x05 0x10 0x130 p.code s))) ∧
    (∀ p page, MayWrite p (Reg.HDR_EVT_FORCE page) s → exec (.evtForce p page 0) s = .next s ∧
      (∀ i, i < 32 → exec (.evtForce p page (2 ^ i)) s = .next (raiseForced (page * 256 + i + 1) s)))

/-- Each token tick adds one token to every bucket below EVT_BURST, and no more. A report of suppressed events goes out with their count, and only once.
The ends of spacing let EVENT_N and an MSI-X vector act again; a message merged meanwhile is sent. EVENT_READ answers the oldest unread records, which
are read then; a queue or a count outside their ranges is status 2. A heartbeat restarts the wait; a missed one raises 0x6004 unless the
watch is off. A poll keeps what it read and raises 0x6002 for a fault. The port's link change and the EID are kept.
What the spec leaves open in it is as in log entries 16, 71. -/
def Obligations.EventTimersAndManagementAct : Prop :=
  ∀ (s : State),
    (let b := cfg s Reg.TELEM_EVT_BURST
     ∃ t, exec .eventTokenTick s = .next t ∧ OnlyParts [.evt] s t ∧ t.evt.queues = s.evt.queues ∧
       (s.evt.tokenDflt < b → t.evt.tokenDflt = s.evt.tokenDflt + 1) ∧ (b ≤ s.evt.tokenDflt → t.evt.tokenDflt = s.evt.tokenDflt) ∧
       ∀ k n, tget s.evt.tokens k = some n → tget t.evt.tokens k = some (if n < b then n + 1 else n)) ∧
    (∀ code inst, (tget s.evt.suppressed (evSource code inst) = none → exec (.suppressionReport code inst) s = .next s) ∧
      ∀ n, tget s.evt.suppressed (evSource code inst) = some n → exec (.suppressionReport code inst) s =
        .next (raise 0x0501 (leBytes 2 code ++ [inst] ++ leBytes 4 n)
          { s with evt := { s.evt with suppressed := tdel s.evt.suppressed (evSource code inst) } })) ∧
    exec .eventNSpacingEnd s = .next (updateEventN false { s with evt := { s.evt with eventNSpacing := false } }) ∧
    (∀ fn vec, (vecKey fn vec ∉ s.evt.msixPend → exec (.msixSpacingEnd fn vec) s =
        .next { s with evt := { s.evt with msixBusy := s.evt.msixBusy.filter (· != vecKey fn vec) } }) ∧
      (vecKey fn vec ∈ s.evt.msixPend → ∃ u, exec (.msixSpacingEnd fn vec) s = .next (msix fn vec u) ∧
        u.evt.msixPend = s.evt.msixPend.filter (· != vecKey fn vec) ∧
        u.evt.msixBusy = s.evt.msixBusy.filter (· != vecKey fn vec) ∧ OnlyParts [.evt] s u)) ∧
    (∀ ifc req q n, vendorServed ifc req s = true →
      (63 < q ∨ n = 0 ∨ 32 < n → exec (.eventRead ifc req q n) s = .next (vendorReply ifc req 2 [] [] s)) ∧
      (q ≤ 63 → 1 ≤ n → n ≤ 32 →
        let rs := (tgetD s.evt.queues q {}).recs.take n
        exec (.eventRead ifc req q n) s = .next (vendorReply ifc req 0 [] rs (qAdvance q rs.length s)))) ∧
    (∀ p, MayWrite p Reg.TELEM_SM_HEARTBEAT s → exec (.smHeartbeat p) s =
      .next { s with evt := { s.evt with lastHeartbeat := s.time, hbMissed := false } }) ∧
    (cfg s Reg.TELEM_SM_HB_S = 0 → exec .smHeartbeatMiss s = .next s) ∧
    (cfg s Reg.TELEM_SM_HB_S ≠ 0 → exec .smHeartbeatMiss s = .next (raise 0x6004 (leBytes 4 ((s.time - s.evt.lastHeartbeat) / 1000000000))
      { s with evt := { s.evt with hbMissed := true } })) ∧
    (∀ amps st, exec (.pmbusPoll false amps st) s = .next { s with evt := { s.evt with pmbusOk := false } } ∧
      exec (.pmbusPoll true amps 0) s = .next (wr Reg.PWR_CORE_A amps { s with evt := { s.evt with pmbusOk := true } }) ∧
      (st ≠ 0 → exec (.pmbusPoll true amps st) s =
        .next (raise 0x6002 (leBytes 2 st) (wr Reg.PWR_CORE_A amps { s with evt := { s.evt with pmbusOk := true } })))) ∧
    (∀ up, exec (.mgmtPortLinkChange up) s = .next (raise 0x6003 [b2n up] { s with evt := { s.evt with mpLink := up } })) ∧
    (∀ eid, exec (.mctpEidAssign eid) s = .next { s with evt := { s.evt with mctpEid := eid } })

/-- R343, row by row. STOPPING received, whatever the verdict: while the pair serves as one the partner is lost at once, with no preemption. RANGE arriving
with the verdict serving: the partner serves and the pair state stands; with the verdict present or absent: the same, with the sense fault and event
0x5107 once, also where the verdict goes while ranging arrives. Ranging timed out, in PAIRED: verdict serving, arbitration when armed, and without a
witness controller 0 declares the partner lost and controller 1 is FENCED; verdict present or absent, the partner is lost, after a preemption when armed
and without when not. The time from the last RANGE to the declaration stands in LAST_DETECT_US. -/
def Obligations.ThePartnerIsJudgedByTable5 : Prop :=
  ∀ (s : State), Tables s →
    let us := (s.time - s.pair.lastRange) / 1000
    let k := wr Reg.PAIR_LAST_DETECT_US us { s with pair := { s.pair with ranging := false, detectUs := us } }
    rd k Reg.PAIR_LAST_DETECT_US = us ∧
    (∀ cause, inPair s = true → exec (.stopping cause) s = .next (partnerLost 0 k)) ∧
    (∀ cause, inPair s = false → exec (.stopping cause) s = .next (joinAbort k)) ∧
    (∀ time st v rtt lim mib hu, s.zeb.lanes ≠ 0 → inPair s = true → s.vault.partnerLimit = some lim → s.vault.partnerEffMib = mib →
      s.vault.partnerHoldup = hu →
      let r := wr Reg.PAIR_RANGE_RTT_NS (rtt % 2 ^ 32) { s with pair := { s.pair with
        ranging := true, lastRange := s.time, partnerTime := time, partnerState := st } }
      (s.pair.sense = 2 ∨ s.pair.senseFault = true → exec (.pairRange time st v rtt lim mib hu) s = .next r) ∧
      (s.pair.sense ≠ 2 → s.pair.senseFault = false → exec (.pairRange time st v rtt lim mib hu) s =
        .next (raise 0x5107 [s.pair.sense] { r with pair := { r.pair with senseFault := true } }))) ∧
    (∀ high, s.pair.ranging = true → s.pair.senseFault = false → inPair s = true → ∃ u,
      exec (.pairSenseTimeout high) s = .next (raise 0x5107 [b2n high] u) ∧ u.pair.senseFault = true ∧ u.pair.state = s.pair.state ∧
      OnlyParts [.pair] s u) ∧
    (s.pair.ranging = true → s.pair.state = 3 →
      (s.pair.sense = 2 → armed k = true → exec .rangingTimeout s = .next (arbitrate k)) ∧
      (s.pair.sense = 2 → armed k = false → s.pwr.ctrlId ≠ 1 → exec .rangingTimeout s = .next (partnerLost 1 k)) ∧
      (s.pair.sense = 2 → armed k = false → s.pwr.ctrlId = 1 →
        exec .rangingTimeout s = .next (fenced 0 (activeMembers k).length k)) ∧
      (s.pair.sense ≠ 2 → armed k = true → exec .rangingTimeout s = .next (preemptStart .timedOut k)) ∧
      (s.pair.sense ≠ 2 → armed k = false → exec .rangingTimeout s = .next (partnerLost 1 k)))

/-- R457. With HOST_WR_EN = 0, every endpoint write of an existing page, and every command that a write of the endpoint path starts, is discarded: it
leaves code 0x09 in the target page's ERR_LAST, and but for ERR_LAST and its time stamp every register and every other part stands. Reads answer as ever. The
management and security paths reach the register whatever HOST_WR_EN is. An endpoint write that clears it is staged: the running value stands, and
whatever datum becomes active gives the value from then on. -/
def Obligations.EndpointWritesNeedHostWrEn : Prop :=
  ∀ (s : State), Tables s →
    (bitAt (cfg s Reg.TOP_TOP_CTL) 0 = false →
      (∀ page off be v, blockBase page ≠ none →
        let t := errLast page 0x09 (off / 4 * 4) 0 s
        exec (.registerWrite .endpoint page off be v) s = .next t ∧ bits (rd t (Reg.HDR_ERR_LAST page)) 0 8 = 9 ∧ OnlyParts [.regs] s t ∧
        (∀ r i, r.off < 0x10000 → i < 2 ^ 26 → r ≠ Reg.HDR_ERR_LAST page → r ≠ Reg.HDR_ERR_LAST_TS page → rdAt t r i = rdAt s r i)) ∧
      (∀ c r, pathWrite c = some (.endpoint, r) → (∀ bay, r = Reg.BAY_CMD bay → bay < 24) →
        exec c s = .next (errLast r.page 0x09 r.off 0 s))) ∧
    (∀ page off, ∃ v u, regRead .endpoint ⟨page, off⟩ s = (v, u) ∧
      exec (.loReadLatch .endpoint page off) s = .next (drive (.readData 0 v) u)) ∧
    (∀ p page off be v row, p ≠ .endpoint → blockBase page ≠ none → regRow ⟨page, off / 4 * 4⟩ = some row → isChipletPage page = false →
      exec (.registerWrite p page off be v) s = .next (rowWrite p ⟨page, off / 4 * 4⟩ row (be % 16) (v % 2 ^ 32) s)) ∧
    (bitAt (cfg s Reg.TOP_TOP_CTL) 0 = true → s.datum.active.sealed = false → datumBusy s = false → ∀ v, v < 8 → bitAt v 0 = false →
      ∃ t, exec (.registerWrite .endpoint 0 0x100 0xF v) s = .next t ∧ bitAt (stagedAt t Reg.TOP_TOP_CTL 0) 0 = false ∧
        cfg t Reg.TOP_TOP_CTL = cfg s Reg.TOP_TOP_CTL ∧ OnlyParts [.datum] s t) ∧
    (∀ d, cfg { s with datum := { s.datum with active := d } } Reg.TOP_TOP_CTL = d.val Reg.TOP_TOP_CTL 0)

/-- R448. A write of EVT_FORCE raises the event of each bit that is 1, lowest bit first; a bit with no event defined on the page has no effect. The event is
raised by the operation that raises every event, with the severity its table gives, the page's instance and every DETAIL byte 0xFF, so that it is routed,
rate-limited and signalled like any other; of severity DEGRADED and above it stands first in the sticky log. EVT.FORCED counts it. Nothing but what raising
an event may touch changes: no supply, reset, dump, pair or member state, whatever the event. -/
def Obligations.ForcedEventsActOnNothing : Prop :=
  ∀ (s : State) (p : Path) (page mask : Nat), MayWrite p (Reg.HDR_EVT_FORCE page) s →
    exec (.evtForce p page mask) s = .next (evtForceOp page mask s) ∧ OnlyParts evParts s (evtForceOp page mask s) ∧
    evtForceOp page 0 s = s ∧
    (∀ i low, i < 32 → low < 2 ^ i →
      let code := page * 256 + i + 1
      let u := evtForceOp page low s
      (eventSev code = none → evtForceOp page (low + 2 ^ i) s = u) ∧
      (∀ sev, eventSev code = some sev →
        let dets := List.replicate 16 0xFF
        evtForceOp page (low + 2 ^ i) s = bump Reg.EVT_FORCED (raiseSev code sev dets u) ∧
        (∀ d, raise code d u = raiseSev code sev d u) ∧
        (2 ≤ sev → ∃ r rest, (raiseSev code sev dets u).evt.sticky = r :: rest ∧ r.code = code ∧ r.sev = sev ∧
          r.inst = pageInstance page ∧ r.detail = dets)))

/-- R451, for an RWD register of an unsealed datum, on a path that may write. While a commit or revert runs, or a LOAD, the write is not staged and code 0x08
stands in the page's ERR_LAST. Otherwise the written bytes merge with the staged value where a datum is staged and else with the running value; the merged
value is range-checked: outside, code 0x01 and nothing staged; inside, it is recorded in the staged datum at the writing path's selector value, and the
running value stands. So the write may be repeated once the command has ended. -/
def Obligations.RwdWritesAreStagedOrHeldOff : Prop :=
  ∀ (s : State) (p : Path) (page off be v : Nat) (row : RegRow),
    let r : RegId := ⟨page, off / 4 * 4⟩
    let i := if row.sel = 0 then 0 else sel s p ⟨page, row.sel⟩
    Tables s → regRow r = some row → row.acc = .rwd → blockBase page ≠ none → (p ≠ .endpoint ∨ bitAt (cfg s Reg.TOP_TOP_CTL) 0 = true) →
    (isChipletPage page = false ∨ r.off < 0x100 ∨ s.pwr.chipletLink = true) → s.datum.active.sealed = false → (r = Reg.NSMGR_NS_DEADLINE → s.slotActive i = true) →
    (s.datum.phase ≠ .idle ∨ s.datum.loading = true →
      exec (.registerWrite p page off be v) s = .next (errLast page 0x08 r.off p.code s) ∧
      bits (rd (errLast page 0x08 r.off p.code s) (Reg.HDR_ERR_LAST page)) 0 8 = 8) ∧
    (s.datum.phase = .idle → s.datum.loading = false →
      ∀ old, (s.datum.staged = none → old = cfgAt s r i) →
      (∀ st, s.datum.staged = some st → old = tgetD st.changes (regKey r i) (st.base.val r i)) →
      let x := (mergeBytes (be % 16) old (v % 2 ^ 32) &&& row.mask) ||| (rstVal r i &&& (0xFFFFFFFF - row.mask))
      ((rangeOk row x && crossOk s r i x) = false →
        exec (.registerWrite p page off be v) s = .next (errLast page 0x01 r.off p.code s)) ∧
      ((rangeOk row x && crossOk s r i x) = true → ∃ t, exec (.registerWrite p page off be v) s = .next t ∧ stagedAt t r i = x ∧
        cfgAt t r i = cfgAt s r i ∧ OnlyParts [.datum] s t))

/-- R459. A write of Q_HEAD with a value from the current head to the tail, going forward modulo the queue's size, moves the consumer index of the queue that
the path selects to that value, and drops the records passed; any other value is ignored with code 0x10 in EVT.ERR_LAST. EVENT_READ moves the same index of the
queue it names, past the records it answers. A write and an EVENT_READ waiting together run in the order in which they arrived, the second checked
against the head that the first left. -/
def Obligations.QHeadMovesForwardToTheTail : Prop :=
  ∀ (s : State) (p : Path) (v : Nat), Tables s → trising s.evt.queues = true → MayWrite p Reg.EVT_Q_HEAD s →
    let q := sel s p Reg.EVT_Q_SEL
    let e := tgetD s.evt.queues q {}
    let n := qSize s q
    (∀ d, d ≤ (e.tail + n - e.head) % n → d ≤ e.recs.length → e.head < n → e.tail < n → n ≤ 2 ^ 14 →
      ∃ t, exec (.qHeadWrite p ((e.head + d) % n)) s = .next t ∧ (tgetD t.evt.queues q {}).head = (e.head + d) % n ∧
        (tgetD t.evt.queues q {}).recs = e.recs.drop d ∧ (tgetD t.evt.queues q {}).tail = e.tail ∧
        (∀ q', q' ≠ q → tgetD t.evt.queues q' {} = tgetD s.evt.queues q' {}) ∧ OnlyParts [.out, .evt] s t) ∧
    (n ≤ v % 2 ^ 14 ∨ (e.tail + n - e.head % n) % n < (v % 2 ^ 14 + n - e.head % n) % n →
      exec (.qHeadWrite p v) s = .next (errLast 0x05 0x10 0x130 p.code s) ∧
      bits (rd (errLast 0x05 0x10 0x130 p.code s) (Reg.HDR_ERR_LAST 0x05)) 0 8 = 0x10) ∧
    (∀ ifc req k, vendorServed ifc req s = true → q ≤ 63 → 1 ≤ k → k ≤ 32 → ∃ t, exec (.eventRead ifc req q k) s = .next t ∧
      (tgetD t.evt.queues q {}).head = (e.head + min k e.recs.length) % n ∧ (tgetD t.evt.queues q {}).recs = e.recs.drop k) ∧
    (∀ ifc req k rest, ∃ t, exec (.qHeadWrite p v) { s with pending := .eventRead ifc req q k :: rest } = .next t ∧
      step { s with pending := .qHeadWrite p v :: .eventRead ifc req q k :: rest } = .next t ∧
      step t = exec (.eventRead ifc req q k) { t with pending := rest })

/-- R163. Where a staging traverse has all its blocks staged and mirrored, and every namespace it touches is owned by the coordinator, may be stamped and has
room below its lease, the one command that ends the staging draws the next admission number in each touched namespace, records it in the traverse and begins the
checks. No capsule is admitted with it: every context and every queue stands, and no other namespace's number is drawn. -/
def Obligations.ATraverseDrawsOneNumberInEach : Prop :=
  ∀ (s : State) (t : Nat) (v : Trav), travAt s t = some v → v.state = .staging → (∀ k ∈ travKeys v, thas v.staged k = true) → v.mseqs = [] →
    v.slots.Nodup → (∀ sl ∈ v.slots, ownsSlot s sl = true ∧ mayStamp s sl = true) →
    (∀ sl ∈ v.slots, ∀ n, nsAt s sl = some n → inPair s = true → n.adm + 1 ≤ n.lease) →
    ∃ u, exec (.traverseStaged t) s = .next u ∧ u.nvm.ctxs = s.nvm.ctxs ∧ u.nvm.queues = s.nvm.queues ∧
      (∀ sl, sl ∉ v.slots → nsAt u sl = nsAt s sl) ∧
      ∃ w, travAt u t = some w ∧ w.state = .checking ∧
        ∀ sl ∈ v.slots, ∃ n m, nsAt s sl = some n ∧ nsAt u sl = some m ∧ m.adm = n.adm + 1 ∧ tget w.nums sl = some (n.adm + 1)

end
end

