-- ==== Sys2Proof/Laws/Table.lean ====
section
/-!
SUPPORT. Laws/Table.lean: what reading a sorted table after writing it gives, and that every table operation keeps
the keys rising.
-/
namespace Sys2Proof

variable {α : Type}

/-- Rising keys, as a relation between every two entries. -/
theorem trising_iff (t : Tab α) : trising t = true ↔ t.Pairwise fun p q => p.1 < q.1 := by
  induction t with
  | nil => simp [trising]
  | cons p t ih =>
    cases t with
    | nil => simp [trising]
    | cons q r =>
      rw [trising, Bool.and_eq_true, decide_eq_true_eq, ih]
      constructor
      · intro h
        refine List.pairwise_cons.mpr ⟨fun x hx => ?_, h.2⟩
        rcases List.mem_cons.mp hx with rfl | hx
        · exact h.1
        · exact Nat.lt_trans h.1 ((List.pairwise_cons.mp h.2).1 x hx)
      · intro h
        have h' := List.pairwise_cons.mp h
        exact ⟨h'.1 q (List.mem_cons_self ..), h'.2⟩

@[simp] theorem trising_nil : trising ([] : Tab α) = true := rfl

/-- The key an insertion puts in is the new one or an old one. -/
theorem mem_tset {t : Tab α} {i : Nat} {x : α} {p : Nat × α} (h : p ∈ tset t i x) : p = (i, x) ∨ p ∈ t := by
  induction t with
  | nil => simpa [tset] using h
  | cons q t ih =>
    obtain ⟨k, v⟩ := q
    unfold tset at h
    split at h
    · rcases List.mem_cons.mp h with rfl | h
      · exact .inl rfl
      · exact .inr (List.mem_cons_of_mem _ h)
    · split at h
      · rcases List.mem_cons.mp h with rfl | h
        · exact .inl rfl
        · exact .inr h
      · rcases List.mem_cons.mp h with rfl | h
        · exact .inr (List.mem_cons_self ..)
        · rcases ih h with rfl | h
          · exact .inl rfl
          · exact .inr (List.mem_cons_of_mem _ h)

theorem trising_tset {t : Tab α} (h : trising t = true) (i : Nat) (x : α) : trising (tset t i x) = true := by
  rw [trising_iff] at *
  induction t with
  | nil => simp [tset]
  | cons q t ih =>
    obtain ⟨k, v⟩ := q
    have hq := List.pairwise_cons.mp h
    unfold tset
    split
    · next e => subst e; exact List.pairwise_cons.mpr ⟨fun p hp => hq.1 p hp, hq.2⟩
    · split
      · next hik =>
        refine List.pairwise_cons.mpr ⟨fun p hp => ?_, h⟩
        rcases List.mem_cons.mp hp with rfl | hp
        · exact hik
        · exact Nat.lt_trans hik (hq.1 p hp)
      · next hne hnlt =>
        refine List.pairwise_cons.mpr ⟨fun p hp => ?_, ih hq.2⟩
        rcases mem_tset hp with rfl | hp
        · exact Nat.lt_of_le_of_ne (Nat.le_of_not_lt hnlt) hne
        · exact hq.1 p hp

theorem mem_tdel {t : Tab α} {i : Nat} {p : Nat × α} (h : p ∈ tdel t i) : p ∈ t := by
  induction t with
  | nil => simp [tdel] at h
  | cons q t ih =>
    obtain ⟨k, v⟩ := q
    unfold tdel at h
    split at h
    · exact List.mem_cons_of_mem _ h
    · split at h
      · exact h
      · rcases List.mem_cons.mp h with rfl | h
        · exact List.mem_cons_self ..
        · exact List.mem_cons_of_mem _ (ih h)

theorem trising_tdel {t : Tab α} (h : trising t = true) (i : Nat) : trising (tdel t i) = true := by
  rw [trising_iff] at *
  induction t with
  | nil => simp [tdel]
  | cons q t ih =>
    obtain ⟨k, v⟩ := q
    have hq := List.pairwise_cons.mp h
    unfold tdel
    split
    · exact hq.2
    · split
      · exact h
      · exact List.pairwise_cons.mpr ⟨fun p hp => hq.1 p (mem_tdel hp), ih hq.2⟩

theorem trising_tput [DecidableEq α] {t : Tab α} (h : trising t = true) (d : α) (i : Nat) (x : α) :
    trising (tput d t i x) = true := by
  unfold tput
  split
  · exact trising_tdel h i
  · exact trising_tset h i x

theorem trising_tfilter {t : Tab α} (h : trising t = true) (p : Nat → α → Bool) : trising (tfilter t p) = true := by
  rw [trising_iff] at *
  exact List.Pairwise.filter _ h

@[simp] theorem tget_nil (i : Nat) : tget ([] : Tab α) i = none := rfl

@[simp] theorem tget_tset_same (t : Tab α) (i : Nat) (x : α) : tget (tset t i x) i = some x := by
  induction t with
  | nil => simp [tset, tget]
  | cons q t ih =>
    obtain ⟨k, v⟩ := q
    unfold tset
    split
    · simp [tget]
    · split
      · simp [tget]
      · next hne hnlt => simp [tget, hne, hnlt, ih]

theorem tget_tset_ne (t : Tab α) {i j : Nat} (x : α) (hij : j ≠ i) : tget (tset t i x) j = tget t j := by
  have hij' : i ≠ j := fun e => hij e.symm
  induction t with
  | nil =>
    simp only [tset, tget, hij', if_false]
    split <;> rfl
  | cons q t ih =>
    obtain ⟨k, v⟩ := q
    unfold tset
    split
    · next e => subst e; simp [tget, hij']
    · split
      · next hik =>
        rw [tget, if_neg hij']
        split
        · next hji =>
          have h1 : k ≠ j := by omega
          have h2 : j < k := by omega
          rw [tget, if_neg h1, if_pos h2]
        · rfl
      · rw [tget, tget, ih]

/-- Below the first key nothing is listed. -/
theorem tget_of_lt {t : Tab α} {i : Nat} (h : ∀ p ∈ t, i < p.1) : tget t i = none := by
  cases t with
  | nil => rfl
  | cons q t =>
    obtain ⟨k, v⟩ := q
    have hk : i < k := h (k, v) (List.mem_cons_self ..)
    have h1 : k ≠ i := by omega
    rw [tget, if_neg h1, if_pos hk]

theorem tget_tdel_same {t : Tab α} (h : trising t = true) (i : Nat) : tget (tdel t i) i = none := by
  rw [trising_iff] at h
  induction t with
  | nil => rfl
  | cons q t ih =>
    obtain ⟨k, v⟩ := q
    have hq := List.pairwise_cons.mp h
    unfold tdel
    split
    · next e => subst e; exact tget_of_lt hq.1
    · split
      · next hne hlt => rw [tget, if_neg hne, if_pos hlt]
      · next hne hnlt => rw [tget, if_neg hne, if_neg hnlt]; exact ih hq.2

theorem tget_tdel_ne {t : Tab α} (h : trising t = true) {i j : Nat} (hij : j ≠ i) : tget (tdel t i) j = tget t j := by
  rw [trising_iff] at h
  induction t with
  | nil => rfl
  | cons q t ih =>
    obtain ⟨k, v⟩ := q
    have hq := List.pairwise_cons.mp h
    unfold tdel
    split
    · next e =>
      subst e
      have hij' : k ≠ j := fun e => hij e.symm
      rw [tget, if_neg hij']
      split
      · next hjk => exact tget_of_lt fun p hp => Nat.lt_trans hjk (hq.1 p hp)
      · rfl
    · split
      · rfl
      · rw [tget, tget, ih hq.2]

/-- Reading back what was written, in a table whose unlisted keys read as `d`. -/
theorem tgetD_tput_same [DecidableEq α] {t : Tab α} (h : trising t = true) (d : α) (i : Nat) (x : α) :
    tgetD (tput d t i x) i d = x := by
  unfold tput
  split
  · next e => rw [tgetD, tget_tdel_same h, Option.getD_none, e]
  · rw [tgetD, tget_tset_same, Option.getD_some]

/-- A write leaves every other key as it was. -/
theorem tgetD_tput_ne [DecidableEq α] {t : Tab α} (h : trising t = true) (d : α) {i j : Nat} (x y : α) (hij : j ≠ i) :
    tgetD (tput d t i x) j y = tgetD t j y := by
  unfold tput
  split
  · rw [tgetD, tget_tdel_ne h hij, tgetD]
  · rw [tgetD, tget_tset_ne t x hij, tgetD]

theorem tgetD_tset_same (t : Tab α) (i : Nat) (x d : α) : tgetD (tset t i x) i d = x := by
  rw [tgetD, tget_tset_same, Option.getD_some]

theorem tgetD_tset_ne (t : Tab α) {i j : Nat} (x d : α) (hij : j ≠ i) : tgetD (tset t i x) j d = tgetD t j d := by
  rw [tgetD, tget_tset_ne t x hij, tgetD]

end Sys2Proof
end

