-- ==== Sys2Proof/Laws/Keeps.lean ====
section
/-!
SUPPORT. Laws/Keeps.lean: the relation `Keeps M s t`: a state `t` reached from `s` has every unit of the state that
the mask `M` does not name as it was, keeps the register tables in their canonical order, and never takes back what
the root of trust has burnt or counted.  Every operation of the machine has one lemma of this form.
-/
namespace Sys2Proof.Machine

theorem TrustKeeps.refl (a : TrustSt) : TrustKeeps a a :=
  ⟨fun _ => Nat.le_refl _, List.prefix_refl _, Nat.le_refl _, Nat.le_refl _⟩

theorem TrustKeeps.trans {a b c : TrustSt} (h : TrustKeeps a b) (k : TrustKeeps b c) : TrustKeeps a c :=
  ⟨fun i => Nat.le_trans (h.svn i) (k.svn i), h.digests.trans k.digests, Nat.le_trans h.seq k.seq,
   Nat.le_trans h.boots k.boots⟩

/-- A trust state whose lasting parts stand as they were. -/
theorem TrustKeeps.of {a b : TrustSt} (h1 : b.svn = a.svn) (h2 : b.ownerDigests = a.ownerDigests)
    (h3 : b.nextSeq = a.nextSeq) (h4 : b.bootCount = a.bootCount) : TrustKeeps a b :=
  ⟨fun c => Nat.le_of_eq (by rw [h1]), h2 ▸ List.prefix_refl _, Nat.le_of_eq h3.symm, Nat.le_of_eq h4.symm⟩

/-- Every unit outside the mask is as it was; the tables stay canonical; the trust state keeps what it never takes
back.  Bit `i` of the mask stands for field `i` of `State`. -/
structure Keeps (M : Nat) (s t : State) : Prop where
  regs : M.testBit 0 = false → t.regs = s.regs
  sels : M.testBit 1 = false → t.sels = s.sels
  latches : M.testBit 2 = false → t.latches = s.latches
  out : M.testBit 3 = false → t.out = s.out
  free : M.testBit 4 = false → t.free = s.free
  time : M.testBit 5 = false → t.time = s.time
  evt : M.testBit 6 = false → t.evt = s.evt
  datum : M.testBit 7 = false → t.datum = s.datum
  pwr : M.testBit 8 = false → t.pwr = s.pwr
  arch : M.testBit 9 = false → t.arch = s.arch
  trust : M.testBit 10 = false → t.trust = s.trust
  vault : M.testBit 11 = false → t.vault = s.vault
  nvm : M.testBit 12 = false → t.nvm = s.nvm
  store : M.testBit 13 = false → t.store = s.store
  trav : M.testBit 14 = false → t.trav = s.trav
  pair : M.testBit 15 = false → t.pair = s.pair
  zeb : M.testBit 16 = false → t.zeb = s.zeb
  win : M.testBit 17 = false → t.win = s.win
  ep : M.testBit 18 = false → t.ep = s.ep
  ks : M.testBit 19 = false → t.ks = s.ks
  xp : M.testBit 20 = false → t.xp = s.xp
  net : M.testBit 21 = false → t.net = s.net
  ciph : M.testBit 22 = false → t.ciph = s.ciph
  bay : M.testBit 23 = false → t.bay = s.bay
  pending : t.pending = s.pending
  tables : Tables s → Tables t
  lasting : TrustKeeps s.trust t.trust

theorem Keeps.refl (M : Nat) (s : State) : Keeps M s s where
  regs := fun _ => rfl
  sels := fun _ => rfl
  latches := fun _ => rfl
  out := fun _ => rfl
  free := fun _ => rfl
  time := fun _ => rfl
  evt := fun _ => rfl
  datum := fun _ => rfl
  pwr := fun _ => rfl
  arch := fun _ => rfl
  trust := fun _ => rfl
  vault := fun _ => rfl
  nvm := fun _ => rfl
  store := fun _ => rfl
  trav := fun _ => rfl
  pair := fun _ => rfl
  zeb := fun _ => rfl
  win := fun _ => rfl
  ep := fun _ => rfl
  ks := fun _ => rfl
  xp := fun _ => rfl
  net := fun _ => rfl
  ciph := fun _ => rfl
  bay := fun _ => rfl
  pending := rfl
  tables := id
  lasting := TrustKeeps.refl _

theorem clearBit_of_or {N M i : Nat} (h : N ||| M = M) (hi : M.testBit i = false) : N.testBit i = false := by
  rw [← h, Nat.testBit_or] at hi
  exact (Bool.or_eq_false_iff.mp hi).1

/-- Composition: a further operation whose mask lies within `M`. -/
theorem Keeps.step {N M : Nat} {s t u : State} (k : Keeps N t u) (hM : N ||| M = M) (h : Keeps M s t) : Keeps M s u where
  regs := fun hb => (k.regs (clearBit_of_or hM hb)).trans (h.regs hb)
  sels := fun hb => (k.sels (clearBit_of_or hM hb)).trans (h.sels hb)
  latches := fun hb => (k.latches (clearBit_of_or hM hb)).trans (h.latches hb)
  out := fun hb => (k.out (clearBit_of_or hM hb)).trans (h.out hb)
  free := fun hb => (k.free (clearBit_of_or hM hb)).trans (h.free hb)
  time := fun hb => (k.time (clearBit_of_or hM hb)).trans (h.time hb)
  evt := fun hb => (k.evt (clearBit_of_or hM hb)).trans (h.evt hb)
  datum := fun hb => (k.datum (clearBit_of_or hM hb)).trans (h.datum hb)
  pwr := fun hb => (k.pwr (clearBit_of_or hM hb)).trans (h.pwr hb)
  arch := fun hb => (k.arch (clearBit_of_or hM hb)).trans (h.arch hb)
  trust := fun hb => (k.trust (clearBit_of_or hM hb)).trans (h.trust hb)
  vault := fun hb => (k.vault (clearBit_of_or hM hb)).trans (h.vault hb)
  nvm := fun hb => (k.nvm (clearBit_of_or hM hb)).trans (h.nvm hb)
  store := fun hb => (k.store (clearBit_of_or hM hb)).trans (h.store hb)
  trav := fun hb => (k.trav (clearBit_of_or hM hb)).trans (h.trav hb)
  pair := fun hb => (k.pair (clearBit_of_or hM hb)).trans (h.pair hb)
  zeb := fun hb => (k.zeb (clearBit_of_or hM hb)).trans (h.zeb hb)
  win := fun hb => (k.win (clearBit_of_or hM hb)).trans (h.win hb)
  ep := fun hb => (k.ep (clearBit_of_or hM hb)).trans (h.ep hb)
  ks := fun hb => (k.ks (clearBit_of_or hM hb)).trans (h.ks hb)
  xp := fun hb => (k.xp (clearBit_of_or hM hb)).trans (h.xp hb)
  net := fun hb => (k.net (clearBit_of_or hM hb)).trans (h.net hb)
  ciph := fun hb => (k.ciph (clearBit_of_or hM hb)).trans (h.ciph hb)
  bay := fun hb => (k.bay (clearBit_of_or hM hb)).trans (h.bay hb)
  pending := k.pending.trans h.pending
  tables := fun ht => k.tables (h.tables ht)
  lasting := h.lasting.trans k.lasting

theorem Keeps.trans {M : Nat} {s t u : State} (h : Keeps M s t) (k : Keeps M t u) : Keeps M s u :=
  k.step (Nat.or_self M) h

/-- A wider mask says less. -/
theorem Keeps.widen {N M : Nat} {s t : State} (k : Keeps N s t) (hM : N ||| M = M) : Keeps M s t :=
  k.step hM (Keeps.refl M s)

theorem Keeps.ite {M : Nat} {s0 a b : State} {c : Prop} [Decidable c] (ha : Keeps M s0 a) (hb : Keeps M s0 b) :
    Keeps M s0 (if c then a else b) := by
  split
  · exact ha
  · exact hb

theorem Keeps.iteSnd {M : Nat} {s0 : State} {α : Type} {a b : α × State} {c : Prop} [Decidable c] (ha : Keeps M s0 a.2)
    (hb : Keeps M s0 b.2) : Keeps M s0 (if c then a else b).2 := by
  split
  · exact ha
  · exact hb

theorem Keeps.foldl {M : Nat} {s0 s : State} {α : Type} {f : State → α → State} {l : List α} (h : Keeps M s0 s)
    (hf : ∀ t x, Keeps M s0 t → Keeps M s0 (f t x)) : Keeps M s0 (l.foldl f s) := by
  induction l generalizing s with
  | nil => exact h
  | cons x xs ih => exact ih (hf s x h)

theorem Keeps.foldlSnd {M : Nat} {s0 : State} {α β : Type} {f : β × State → α → β × State} {l : List α} {p : β × State}
    (h : Keeps M s0 p.2) (hf : ∀ q x, Keeps M s0 q.2 → Keeps M s0 (f q x).2) : Keeps M s0 (l.foldl f p).2 := by
  induction l generalizing p with
  | nil => exact h
  | cons x xs ih => exact ih (hf p x h)

theorem Keeps.foldlFst {M : Nat} {s0 : State} {α β : Type} {f : State × β → α → State × β} {l : List α} {p : State × β}
    (h : Keeps M s0 p.1) (hf : ∀ q x, Keeps M s0 q.1 → Keeps M s0 (f q x).1) : Keeps M s0 (l.foldl f p).1 := by
  induction l generalizing p with
  | nil => exact h
  | cons x xs ih => exact ih (hf p x h)

theorem Keeps.ofSnd {M : Nat} {s0 s : State} {α : Type} {p : α × State} {a : α} (e : p = (a, s)) (h : Keeps M s0 p.2) :
    Keeps M s0 s := by
  rw [e] at h
  exact h

theorem Keeps.idE {M : Nat} {s0 s : State} (h : Keeps M s0 s) : Keeps M s0 (id s) := h

theorem orSub {N A M : Nat} (hM : A ||| M = M) (h : N ||| A = A) : N ||| M = M := by
  rw [← hM, ← Nat.or_assoc, h]

theorem Keeps.mkSnd {M : Nat} {s0 s : State} {α : Type} {a : α} (h : Keeps M s0 s) : Keeps M s0 (a, s).2 := h

theorem Keeps.elim {M : Nat} {s0 b : State} {α : Type} {o : Option α} {f : α → State} (hb : Keeps M s0 b)
    (hf : ∀ x, Keeps M s0 (f x)) : Keeps M s0 (o.elim b f) := by
  cases o with
  | none => exact hb
  | some x => exact hf x

/-- The state an optional result holds is kept. -/
def KeepsO (M : Nat) (s0 : State) (o : Option State) : Prop := ∀ t, o = some t → Keeps M s0 t

theorem KeepsO.none {M : Nat} {s0 : State} : KeepsO M s0 none := fun _ h => by cases h

theorem KeepsO.some {M : Nat} {s0 t : State} (h : Keeps M s0 t) : KeepsO M s0 (some t) := fun _ e => by
  cases e
  exact h

theorem KeepsO.ite {M : Nat} {s0 : State} {a b : Option State} {c : Prop} [Decidable c] (ha : KeepsO M s0 a)
    (hb : KeepsO M s0 b) : KeepsO M s0 (if c then a else b) := by
  split
  · exact ha
  · exact hb

theorem Keeps.ofSome {M : Nat} {s0 t : State} {o : Option State} (e : o = some t) (h : KeepsO M s0 o) : Keeps M s0 t :=
  h t e

theorem Keeps.stepO {N M : Nat} {s t : State} {o : Option State} (k : KeepsO N t o) (hM : N ||| M = M) (h : Keeps M s t) :
    KeepsO M s o := fun u e => (k u e).step hM h

theorem Keeps.transO {M : Nat} {s t : State} {o : Option State} (h : Keeps M s t) (k : KeepsO M t o) : KeepsO M s o :=
  fun u e => h.trans (k u e)

theorem KeepsO.map {M : Nat} {s0 : State} {o : Option State} {f : State → State} (h : KeepsO M s0 o)
    (hf : ∀ t, Keeps M s0 t → Keeps M s0 (f t)) : KeepsO M s0 (o.map f) := by
  cases o with
  | none => exact KeepsO.none
  | some x => exact KeepsO.some (hf x (h x rfl))

theorem KeepsO.foldl {M : Nat} {s0 : State} {α : Type} {f : Option State → α → Option State} {l : List α} {o : Option State}
    (h : KeepsO M s0 o) (hf : ∀ q x, KeepsO M s0 q → KeepsO M s0 (f q x)) : KeepsO M s0 (l.foldl f o) := by
  induction l generalizing o with
  | nil => exact h
  | cons x xs ih => exact ih (hf o x h)

theorem Keeps.getD {M : Nat} {s0 s : State} {o : Option State} (h : KeepsO M s0 o) (hs : Keeps M s0 s) :
    Keeps M s0 (o.getD s) := by
  cases o with
  | none => exact hs
  | some x => exact h x rfl

/-- The state an optional pair holds is kept. -/
def KeepsOP {α : Type} (M : Nat) (s0 : State) (o : Option (α × State)) : Prop := ∀ a t, o = some (a, t) → Keeps M s0 t

theorem Keeps.ofSomeP {M : Nat} {s0 t : State} {α : Type} {a : α} {o : Option (α × State)} (e : o = some (a, t))
    (h : KeepsOP M s0 o) : Keeps M s0 t := h a t e

theorem Keeps.stepOP {N M : Nat} {s t : State} {α : Type} {o : Option (α × State)} (k : KeepsOP N t o) (hM : N ||| M = M)
    (h : Keeps M s t) : KeepsOP M s o := fun a u e => (k a u e).step hM h

/-- What a meaning answers is a next state that is kept. -/
def KeepsR (M : Nat) (s0 : State) (r : Res) : Prop := ∃ t, r = .next t ∧ Keeps M s0 t

theorem KeepsR.next {M : Nat} {s0 t : State} (h : Keeps M s0 t) : KeepsR M s0 (.next t) := ⟨t, rfl, h⟩

theorem KeepsR.ite {M : Nat} {s0 : State} {a b : Res} {c : Prop} [Decidable c] (ha : KeepsR M s0 a) (hb : KeepsR M s0 b) :
    KeepsR M s0 (if c then a else b) := by
  split
  · exact ha
  · exact hb

theorem measureSlot_lasting {slot : Nat} {cs : List Nat} {t : TrustSt} : TrustKeeps t (measureSlot slot cs t) := by
  unfold measureSlot
  suffices h : ∀ u, TrustKeeps t u → TrustKeeps t (cs.foldl (fun t c => { t with
    meas := tset t.meas c (tgetD (imageSlot t slot).comps c {}), measSlot := tset t.measSlot c slot }) u) from
    h t (TrustKeeps.refl t)
  induction cs with
  | nil => exact fun u h => h
  | cons c cs ih => exact fun u h => ih _ (h.trans (TrustKeeps.of rfl rfl rfl rfl))

theorem debugGrant_lasting {scope : Nat} {t : TrustSt} : TrustKeeps t (debugGrant scope t) := by
  unfold debugGrant
  split <;> exact TrustKeeps.of rfl rfl rfl rfl

/-! One lemma for each set of units that some operation replaces. -/

theorem upd_regs {s : State} {x0 : Tab Nat} (hr : trising s.regs = true → trising x0 = true) :
    Keeps 1 s { s with regs := x0 } where
  regs := fun hb => absurd hb (by decide)
  sels := fun _ => rfl
  latches := fun _ => rfl
  out := fun _ => rfl
  free := fun _ => rfl
  time := fun _ => rfl
  evt := fun _ => rfl
  datum := fun _ => rfl
  pwr := fun _ => rfl
  arch := fun _ => rfl
  trust := fun _ => rfl
  vault := fun _ => rfl
  nvm := fun _ => rfl
  store := fun _ => rfl
  trav := fun _ => rfl
  pair := fun _ => rfl
  zeb := fun _ => rfl
  win := fun _ => rfl
  ep := fun _ => rfl
  ks := fun _ => rfl
  xp := fun _ => rfl
  net := fun _ => rfl
  ciph := fun _ => rfl
  bay := fun _ => rfl
  pending := rfl
  tables := fun h => ⟨hr h.1, h.2.1, h.2.2⟩
  lasting := TrustKeeps.refl _

theorem upd_sels {s : State} {x1 : Tab Nat} (hs : trising s.sels = true → trising x1 = true) :
    Keeps 2 s { s with sels := x1 } where
  regs := fun _ => rfl
  sels := fun hb => absurd hb (by decide)
  latches := fun _ => rfl
  out := fun _ => rfl
  free := fun _ => rfl
  time := fun _ => rfl
  evt := fun _ => rfl
  datum := fun _ => rfl
  pwr := fun _ => rfl
  arch := fun _ => rfl
  trust := fun _ => rfl
  vault := fun _ => rfl
  nvm := fun _ => rfl
  store := fun _ => rfl
  trav := fun _ => rfl
  pair := fun _ => rfl
  zeb := fun _ => rfl
  win := fun _ => rfl
  ep := fun _ => rfl
  ks := fun _ => rfl
  xp := fun _ => rfl
  net := fun _ => rfl
  ciph := fun _ => rfl
  bay := fun _ => rfl
  pending := rfl
  tables := fun h => ⟨h.1, hs h.2.1, h.2.2⟩
  lasting := TrustKeeps.refl _

theorem upd_latches {s : State} {x2 : Tab Nat} (hl : trising s.latches = true → trising x2 = true) :
    Keeps 4 s { s with latches := x2 } where
  regs := fun _ => rfl
  sels := fun _ => rfl
  latches := fun hb => absurd hb (by decide)
  out := fun _ => rfl
  free := fun _ => rfl
  time := fun _ => rfl
  evt := fun _ => rfl
  datum := fun _ => rfl
  pwr := fun _ => rfl
  arch := fun _ => rfl
  trust := fun _ => rfl
  vault := fun _ => rfl
  nvm := fun _ => rfl
  store := fun _ => rfl
  trav := fun _ => rfl
  pair := fun _ => rfl
  zeb := fun _ => rfl
  win := fun _ => rfl
  ep := fun _ => rfl
  ks := fun _ => rfl
  xp := fun _ => rfl
  net := fun _ => rfl
  ciph := fun _ => rfl
  bay := fun _ => rfl
  pending := rfl
  tables := fun h => ⟨h.1, h.2.1, hl h.2.2⟩
  lasting := TrustKeeps.refl _

theorem upd_out {s : State} {x3 : List Out} :
    Keeps 8 s { s with out := x3 } where
  regs := fun _ => rfl
  sels := fun _ => rfl
  latches := fun _ => rfl
  out := fun hb => absurd hb (by decide)
  free := fun _ => rfl
  time := fun _ => rfl
  evt := fun _ => rfl
  datum := fun _ => rfl
  pwr := fun _ => rfl
  arch := fun _ => rfl
  trust := fun _ => rfl
  vault := fun _ => rfl
  nvm := fun _ => rfl
  store := fun _ => rfl
  trav := fun _ => rfl
  pair := fun _ => rfl
  zeb := fun _ => rfl
  win := fun _ => rfl
  ep := fun _ => rfl
  ks := fun _ => rfl
  xp := fun _ => rfl
  net := fun _ => rfl
  ciph := fun _ => rfl
  bay := fun _ => rfl
  pending := rfl
  tables := id
  lasting := TrustKeeps.refl _

theorem upd_free {s : State} {x4 : Nat} :
    Keeps 16 s { s with free := x4 } where
  regs := fun _ => rfl
  sels := fun _ => rfl
  latches := fun _ => rfl
  out := fun _ => rfl
  free := fun hb => absurd hb (by decide)
  time := fun _ => rfl
  evt := fun _ => rfl
  datum := fun _ => rfl
  pwr := fun _ => rfl
  arch := fun _ => rfl
  trust := fun _ => rfl
  vault := fun _ => rfl
  nvm := fun _ => rfl
  store := fun _ => rfl
  trav := fun _ => rfl
  pair := fun _ => rfl
  zeb := fun _ => rfl
  win := fun _ => rfl
  ep := fun _ => rfl
  ks := fun _ => rfl
  xp := fun _ => rfl
  net := fun _ => rfl
  ciph := fun _ => rfl
  bay := fun _ => rfl
  pending := rfl
  tables := id
  lasting := TrustKeeps.refl _

theorem upd_time {s : State} {x5 : Nat} :
    Keeps 32 s { s with time := x5 } where
  regs := fun _ => rfl
  sels := fun _ => rfl
  latches := fun _ => rfl
  out := fun _ => rfl
  free := fun _ => rfl
  time := fun hb => absurd hb (by decide)
  evt := fun _ => rfl
  datum := fun _ => rfl
  pwr := fun _ => rfl
  arch := fun _ => rfl
  trust := fun _ => rfl
  vault := fun _ => rfl
  nvm := fun _ => rfl
  store := fun _ => rfl
  trav := fun _ => rfl
  pair := fun _ => rfl
  zeb := fun _ => rfl
  win := fun _ => rfl
  ep := fun _ => rfl
  ks := fun _ => rfl
  xp := fun _ => rfl
  net := fun _ => rfl
  ciph := fun _ => rfl
  bay := fun _ => rfl
  pending := rfl
  tables := id
  lasting := TrustKeeps.refl _

theorem upd_evt {s : State} {x6 : EvtSt} :
    Keeps 64 s { s with evt := x6 } where
  regs := fun _ => rfl
  sels := fun _ => rfl
  latches := fun _ => rfl
  out := fun _ => rfl
  free := fun _ => rfl
  time := fun _ => rfl
  evt := fun hb => absurd hb (by decide)
  datum := fun _ => rfl
  pwr := fun _ => rfl
  arch := fun _ => rfl
  trust := fun _ => rfl
  vault := fun _ => rfl
  nvm := fun _ => rfl
  store := fun _ => rfl
  trav := fun _ => rfl
  pair := fun _ => rfl
  zeb := fun _ => rfl
  win := fun _ => rfl
  ep := fun _ => rfl
  ks := fun _ => rfl
  xp := fun _ => rfl
  net := fun _ => rfl
  ciph := fun _ => rfl
  bay := fun _ => rfl
  pending := rfl
  tables := id
  lasting := TrustKeeps.refl _

theorem upd_datum {s : State} {x7 : DatumSt} :
    Keeps 128 s { s with datum := x7 } where
  regs := fun _ => rfl
  sels := fun _ => rfl
  latches := fun _ => rfl
  out := fun _ => rfl
  free := fun _ => rfl
  time := fun _ => rfl
  evt := fun _ => rfl
  datum := fun hb => absurd hb (by decide)
  pwr := fun _ => rfl
  arch := fun _ => rfl
  trust := fun _ => rfl
  vault := fun _ => rfl
  nvm := fun _ => rfl
  store := fun _ => rfl
  trav := fun _ => rfl
  pair := fun _ => rfl
  zeb := fun _ => rfl
  win := fun _ => rfl
  ep := fun _ => rfl
  ks := fun _ => rfl
  xp := fun _ => rfl
  net := fun _ => rfl
  ciph := fun _ => rfl
  bay := fun _ => rfl
  pending := rfl
  tables := id
  lasting := TrustKeeps.refl _

theorem upd_pwr {s : State} {x8 : PwrSt} :
    Keeps 256 s { s with pwr := x8 } where
  regs := fun _ => rfl
  sels := fun _ => rfl
  latches := fun _ => rfl
  out := fun _ => rfl
  free := fun _ => rfl
  time := fun _ => rfl
  evt := fun _ => rfl
  datum := fun _ => rfl
  pwr := fun hb => absurd hb (by decide)
  arch := fun _ => rfl
  trust := fun _ => rfl
  vault := fun _ => rfl
  nvm := fun _ => rfl
  store := fun _ => rfl
  trav := fun _ => rfl
  pair := fun _ => rfl
  zeb := fun _ => rfl
  win := fun _ => rfl
  ep := fun _ => rfl
  ks := fun _ => rfl
  xp := fun _ => rfl
  net := fun _ => rfl
  ciph := fun _ => rfl
  bay := fun _ => rfl
  pending := rfl
  tables := id
  lasting := TrustKeeps.refl _

theorem upd_time_pwr {s : State} {x5 : Nat} {x8 : PwrSt} :
    Keeps 288 s { s with time := x5, pwr := x8 } where
  regs := fun _ => rfl
  sels := fun _ => rfl
  latches := fun _ => rfl
  out := fun _ => rfl
  free := fun _ => rfl
  time := fun hb => absurd hb (by decide)
  evt := fun _ => rfl
  datum := fun _ => rfl
  pwr := fun hb => absurd hb (by decide)
  arch := fun _ => rfl
  trust := fun _ => rfl
  vault := fun _ => rfl
  nvm := fun _ => rfl
  store := fun _ => rfl
  trav := fun _ => rfl
  pair := fun _ => rfl
  zeb := fun _ => rfl
  win := fun _ => rfl
  ep := fun _ => rfl
  ks := fun _ => rfl
  xp := fun _ => rfl
  net := fun _ => rfl
  ciph := fun _ => rfl
  bay := fun _ => rfl
  pending := rfl
  tables := id
  lasting := TrustKeeps.refl _

theorem upd_arch {s : State} {x9 : ArchSt} :
    Keeps 512 s { s with arch := x9 } where
  regs := fun _ => rfl
  sels := fun _ => rfl
  latches := fun _ => rfl
  out := fun _ => rfl
  free := fun _ => rfl
  time := fun _ => rfl
  evt := fun _ => rfl
  datum := fun _ => rfl
  pwr := fun _ => rfl
  arch := fun hb => absurd hb (by decide)
  trust := fun _ => rfl
  vault := fun _ => rfl
  nvm := fun _ => rfl
  store := fun _ => rfl
  trav := fun _ => rfl
  pair := fun _ => rfl
  zeb := fun _ => rfl
  win := fun _ => rfl
  ep := fun _ => rfl
  ks := fun _ => rfl
  xp := fun _ => rfl
  net := fun _ => rfl
  ciph := fun _ => rfl
  bay := fun _ => rfl
  pending := rfl
  tables := id
  lasting := TrustKeeps.refl _

theorem upd_pwr_arch {s : State} {x8 : PwrSt} {x9 : ArchSt} :
    Keeps 768 s { s with pwr := x8, arch := x9 } where
  regs := fun _ => rfl
  sels := fun _ => rfl
  latches := fun _ => rfl
  out := fun _ => rfl
  free := fun _ => rfl
  time := fun _ => rfl
  evt := fun _ => rfl
  datum := fun _ => rfl
  pwr := fun hb => absurd hb (by decide)
  arch := fun hb => absurd hb (by decide)
  trust := fun _ => rfl
  vault := fun _ => rfl
  nvm := fun _ => rfl
  store := fun _ => rfl
  trav := fun _ => rfl
  pair := fun _ => rfl
  zeb := fun _ => rfl
  win := fun _ => rfl
  ep := fun _ => rfl
  ks := fun _ => rfl
  xp := fun _ => rfl
  net := fun _ => rfl
  ciph := fun _ => rfl
  bay := fun _ => rfl
  pending := rfl
  tables := id
  lasting := TrustKeeps.refl _

theorem upd_trust {s : State} {x10 : TrustSt} (ht : TrustKeeps s.trust x10) :
    Keeps 1024 s { s with trust := x10 } where
  regs := fun _ => rfl
  sels := fun _ => rfl
  latches := fun _ => rfl
  out := fun _ => rfl
  free := fun _ => rfl
  time := fun _ => rfl
  evt := fun _ => rfl
  datum := fun _ => rfl
  pwr := fun _ => rfl
  arch := fun _ => rfl
  trust := fun hb => absurd hb (by decide)
  vault := fun _ => rfl
  nvm := fun _ => rfl
  store := fun _ => rfl
  trav := fun _ => rfl
  pair := fun _ => rfl
  zeb := fun _ => rfl
  win := fun _ => rfl
  ep := fun _ => rfl
  ks := fun _ => rfl
  xp := fun _ => rfl
  net := fun _ => rfl
  ciph := fun _ => rfl
  bay := fun _ => rfl
  pending := rfl
  tables := id
  lasting := ht

theorem upd_datum_trust {s : State} {x7 : DatumSt} {x10 : TrustSt} (ht : TrustKeeps s.trust x10) :
    Keeps 1152 s { s with datum := x7, trust := x10 } where
  regs := fun _ => rfl
  sels := fun _ => rfl
  latches := fun _ => rfl
  out := fun _ => rfl
  free := fun _ => rfl
  time := fun _ => rfl
  evt := fun _ => rfl
  datum := fun hb => absurd hb (by decide)
  pwr := fun _ => rfl
  arch := fun _ => rfl
  trust := fun hb => absurd hb (by decide)
  vault := fun _ => rfl
  nvm := fun _ => rfl
  store := fun _ => rfl
  trav := fun _ => rfl
  pair := fun _ => rfl
  zeb := fun _ => rfl
  win := fun _ => rfl
  ep := fun _ => rfl
  ks := fun _ => rfl
  xp := fun _ => rfl
  net := fun _ => rfl
  ciph := fun _ => rfl
  bay := fun _ => rfl
  pending := rfl
  tables := id
  lasting := ht

theorem upd_pwr_trust {s : State} {x8 : PwrSt} {x10 : TrustSt} (ht : TrustKeeps s.trust x10) :
    Keeps 1280 s { s with pwr := x8, trust := x10 } where
  regs := fun _ => rfl
  sels := fun _ => rfl
  latches := fun _ => rfl
  out := fun _ => rfl
  free := fun _ => rfl
  time := fun _ => rfl
  evt := fun _ => rfl
  datum := fun _ => rfl
  pwr := fun hb => absurd hb (by decide)
  arch := fun _ => rfl
  trust := fun hb => absurd hb (by decide)
  vault := fun _ => rfl
  nvm := fun _ => rfl
  store := fun _ => rfl
  trav := fun _ => rfl
  pair := fun _ => rfl
  zeb := fun _ => rfl
  win := fun _ => rfl
  ep := fun _ => rfl
  ks := fun _ => rfl
  xp := fun _ => rfl
  net := fun _ => rfl
  ciph := fun _ => rfl
  bay := fun _ => rfl
  pending := rfl
  tables := id
  lasting := ht

theorem upd_time_pwr_trust {s : State} {x5 : Nat} {x8 : PwrSt} {x10 : TrustSt} (ht : TrustKeeps s.trust x10) :
    Keeps 1312 s { s with time := x5, pwr := x8, trust := x10 } where
  regs := fun _ => rfl
  sels := fun _ => rfl
  latches := fun _ => rfl
  out := fun _ => rfl
  free := fun _ => rfl
  time := fun hb => absurd hb (by decide)
  evt := fun _ => rfl
  datum := fun _ => rfl
  pwr := fun hb => absurd hb (by decide)
  arch := fun _ => rfl
  trust := fun hb => absurd hb (by decide)
  vault := fun _ => rfl
  nvm := fun _ => rfl
  store := fun _ => rfl
  trav := fun _ => rfl
  pair := fun _ => rfl
  zeb := fun _ => rfl
  win := fun _ => rfl
  ep := fun _ => rfl
  ks := fun _ => rfl
  xp := fun _ => rfl
  net := fun _ => rfl
  ciph := fun _ => rfl
  bay := fun _ => rfl
  pending := rfl
  tables := id
  lasting := ht

theorem upd_vault {s : State} {x11 : VaultSt} :
    Keeps 2048 s { s with vault := x11 } where
  regs := fun _ => rfl
  sels := fun _ => rfl
  latches := fun _ => rfl
  out := fun _ => rfl
  free := fun _ => rfl
  time := fun _ => rfl
  evt := fun _ => rfl
  datum := fun _ => rfl
  pwr := fun _ => rfl
  arch := fun _ => rfl
  trust := fun _ => rfl
  vault := fun hb => absurd hb (by decide)
  nvm := fun _ => rfl
  store := fun _ => rfl
  trav := fun _ => rfl
  pair := fun _ => rfl
  zeb := fun _ => rfl
  win := fun _ => rfl
  ep := fun _ => rfl
  ks := fun _ => rfl
  xp := fun _ => rfl
  net := fun _ => rfl
  ciph := fun _ => rfl
  bay := fun _ => rfl
  pending := rfl
  tables := id
  lasting := TrustKeeps.refl _

theorem upd_pwr_vault {s : State} {x8 : PwrSt} {x11 : VaultSt} :
    Keeps 2304 s { s with pwr := x8, vault := x11 } where
  regs := fun _ => rfl
  sels := fun _ => rfl
  latches := fun _ => rfl
  out := fun _ => rfl
  free := fun _ => rfl
  time := fun _ => rfl
  evt := fun _ => rfl
  datum := fun _ => rfl
  pwr := fun hb => absurd hb (by decide)
  arch := fun _ => rfl
  trust := fun _ => rfl
  vault := fun hb => absurd hb (by decide)
  nvm := fun _ => rfl
  store := fun _ => rfl
  trav := fun _ => rfl
  pair := fun _ => rfl
  zeb := fun _ => rfl
  win := fun _ => rfl
  ep := fun _ => rfl
  ks := fun _ => rfl
  xp := fun _ => rfl
  net := fun _ => rfl
  ciph := fun _ => rfl
  bay := fun _ => rfl
  pending := rfl
  tables := id
  lasting := TrustKeeps.refl _

theorem upd_nvm {s : State} {x12 : NvmSt} :
    Keeps 4096 s { s with nvm := x12 } where
  regs := fun _ => rfl
  sels := fun _ => rfl
  latches := fun _ => rfl
  out := fun _ => rfl
  free := fun _ => rfl
  time := fun _ => rfl
  evt := fun _ => rfl
  datum := fun _ => rfl
  pwr := fun _ => rfl
  arch := fun _ => rfl
  trust := fun _ => rfl
  vault := fun _ => rfl
  nvm := fun hb => absurd hb (by decide)
  store := fun _ => rfl
  trav := fun _ => rfl
  pair := fun _ => rfl
  zeb := fun _ => rfl
  win := fun _ => rfl
  ep := fun _ => rfl
  ks := fun _ => rfl
  xp := fun _ => rfl
  net := fun _ => rfl
  ciph := fun _ => rfl
  bay := fun _ => rfl
  pending := rfl
  tables := id
  lasting := TrustKeeps.refl _

theorem upd_pwr_vault_nvm {s : State} {x8 : PwrSt} {x11 : VaultSt} {x12 : NvmSt} :
    Keeps 6400 s { s with pwr := x8, vault := x11, nvm := x12 } where
  regs := fun _ => rfl
  sels := fun _ => rfl
  latches := fun _ => rfl
  out := fun _ => rfl
  free := fun _ => rfl
  time := fun _ => rfl
  evt := fun _ => rfl
  datum := fun _ => rfl
  pwr := fun hb => absurd hb (by decide)
  arch := fun _ => rfl
  trust := fun _ => rfl
  vault := fun hb => absurd hb (by decide)
  nvm := fun hb => absurd hb (by decide)
  store := fun _ => rfl
  trav := fun _ => rfl
  pair := fun _ => rfl
  zeb := fun _ => rfl
  win := fun _ => rfl
  ep := fun _ => rfl
  ks := fun _ => rfl
  xp := fun _ => rfl
  net := fun _ => rfl
  ciph := fun _ => rfl
  bay := fun _ => rfl
  pending := rfl
  tables := id
  lasting := TrustKeeps.refl _

theorem upd_store {s : State} {x13 : StoreSt} :
    Keeps 8192 s { s with store := x13 } where
  regs := fun _ => rfl
  sels := fun _ => rfl
  latches := fun _ => rfl
  out := fun _ => rfl
  free := fun _ => rfl
  time := fun _ => rfl
  evt := fun _ => rfl
  datum := fun _ => rfl
  pwr := fun _ => rfl
  arch := fun _ => rfl
  trust := fun _ => rfl
  vault := fun _ => rfl
  nvm := fun _ => rfl
  store := fun hb => absurd hb (by decide)
  trav := fun _ => rfl
  pair := fun _ => rfl
  zeb := fun _ => rfl
  win := fun _ => rfl
  ep := fun _ => rfl
  ks := fun _ => rfl
  xp := fun _ => rfl
  net := fun _ => rfl
  ciph := fun _ => rfl
  bay := fun _ => rfl
  pending := rfl
  tables := id
  lasting := TrustKeeps.refl _

theorem upd_arch_store {s : State} {x9 : ArchSt} {x13 : StoreSt} :
    Keeps 8704 s { s with arch := x9, store := x13 } where
  regs := fun _ => rfl
  sels := fun _ => rfl
  latches := fun _ => rfl
  out := fun _ => rfl
  free := fun _ => rfl
  time := fun _ => rfl
  evt := fun _ => rfl
  datum := fun _ => rfl
  pwr := fun _ => rfl
  arch := fun hb => absurd hb (by decide)
  trust := fun _ => rfl
  vault := fun _ => rfl
  nvm := fun _ => rfl
  store := fun hb => absurd hb (by decide)
  trav := fun _ => rfl
  pair := fun _ => rfl
  zeb := fun _ => rfl
  win := fun _ => rfl
  ep := fun _ => rfl
  ks := fun _ => rfl
  xp := fun _ => rfl
  net := fun _ => rfl
  ciph := fun _ => rfl
  bay := fun _ => rfl
  pending := rfl
  tables := id
  lasting := TrustKeeps.refl _

theorem upd_vault_store {s : State} {x11 : VaultSt} {x13 : StoreSt} :
    Keeps 10240 s { s with vault := x11, store := x13 } where
  regs := fun _ => rfl
  sels := fun _ => rfl
  latches := fun _ => rfl
  out := fun _ => rfl
  free := fun _ => rfl
  time := fun _ => rfl
  evt := fun _ => rfl
  datum := fun _ => rfl
  pwr := fun _ => rfl
  arch := fun _ => rfl
  trust := fun _ => rfl
  vault := fun hb => absurd hb (by decide)
  nvm := fun _ => rfl
  store := fun hb => absurd hb (by decide)
  trav := fun _ => rfl
  pair := fun _ => rfl
  zeb := fun _ => rfl
  win := fun _ => rfl
  ep := fun _ => rfl
  ks := fun _ => rfl
  xp := fun _ => rfl
  net := fun _ => rfl
  ciph := fun _ => rfl
  bay := fun _ => rfl
  pending := rfl
  tables := id
  lasting := TrustKeeps.refl _

theorem upd_nvm_store {s : State} {x12 : NvmSt} {x13 : StoreSt} :
    Keeps 12288 s { s with nvm := x12, store := x13 } where
  regs := fun _ => rfl
  sels := fun _ => rfl
  latches := fun _ => rfl
  out := fun _ => rfl
  free := fun _ => rfl
  time := fun _ => rfl
  evt := fun _ => rfl
  datum := fun _ => rfl
  pwr := fun _ => rfl
  arch := fun _ => rfl
  trust := fun _ => rfl
  vault := fun _ => rfl
  nvm := fun hb => absurd hb (by decide)
  store := fun hb => absurd hb (by decide)
  trav := fun _ => rfl
  pair := fun _ => rfl
  zeb := fun _ => rfl
  win := fun _ => rfl
  ep := fun _ => rfl
  ks := fun _ => rfl
  xp := fun _ => rfl
  net := fun _ => rfl
  ciph := fun _ => rfl
  bay := fun _ => rfl
  pending := rfl
  tables := id
  lasting := TrustKeeps.refl _

theorem upd_trav {s : State} {x14 : TravSt} :
    Keeps 16384 s { s with trav := x14 } where
  regs := fun _ => rfl
  sels := fun _ => rfl
  latches := fun _ => rfl
  out := fun _ => rfl
  free := fun _ => rfl
  time := fun _ => rfl
  evt := fun _ => rfl
  datum := fun _ => rfl
  pwr := fun _ => rfl
  arch := fun _ => rfl
  trust := fun _ => rfl
  vault := fun _ => rfl
  nvm := fun _ => rfl
  store := fun _ => rfl
  trav := fun hb => absurd hb (by decide)
  pair := fun _ => rfl
  zeb := fun _ => rfl
  win := fun _ => rfl
  ep := fun _ => rfl
  ks := fun _ => rfl
  xp := fun _ => rfl
  net := fun _ => rfl
  ciph := fun _ => rfl
  bay := fun _ => rfl
  pending := rfl
  tables := id
  lasting := TrustKeeps.refl _

theorem upd_pair {s : State} {x15 : PairSt} :
    Keeps 32768 s { s with pair := x15 } where
  regs := fun _ => rfl
  sels := fun _ => rfl
  latches := fun _ => rfl
  out := fun _ => rfl
  free := fun _ => rfl
  time := fun _ => rfl
  evt := fun _ => rfl
  datum := fun _ => rfl
  pwr := fun _ => rfl
  arch := fun _ => rfl
  trust := fun _ => rfl
  vault := fun _ => rfl
  nvm := fun _ => rfl
  store := fun _ => rfl
  trav := fun _ => rfl
  pair := fun hb => absurd hb (by decide)
  zeb := fun _ => rfl
  win := fun _ => rfl
  ep := fun _ => rfl
  ks := fun _ => rfl
  xp := fun _ => rfl
  net := fun _ => rfl
  ciph := fun _ => rfl
  bay := fun _ => rfl
  pending := rfl
  tables := id
  lasting := TrustKeeps.refl _

theorem upd_vault_pair {s : State} {x11 : VaultSt} {x15 : PairSt} :
    Keeps 34816 s { s with vault := x11, pair := x15 } where
  regs := fun _ => rfl
  sels := fun _ => rfl
  latches := fun _ => rfl
  out := fun _ => rfl
  free := fun _ => rfl
  time := fun _ => rfl
  evt := fun _ => rfl
  datum := fun _ => rfl
  pwr := fun _ => rfl
  arch := fun _ => rfl
  trust := fun _ => rfl
  vault := fun hb => absurd hb (by decide)
  nvm := fun _ => rfl
  store := fun _ => rfl
  trav := fun _ => rfl
  pair := fun hb => absurd hb (by decide)
  zeb := fun _ => rfl
  win := fun _ => rfl
  ep := fun _ => rfl
  ks := fun _ => rfl
  xp := fun _ => rfl
  net := fun _ => rfl
  ciph := fun _ => rfl
  bay := fun _ => rfl
  pending := rfl
  tables := id
  lasting := TrustKeeps.refl _

theorem upd_nvm_pair {s : State} {x12 : NvmSt} {x15 : PairSt} :
    Keeps 36864 s { s with nvm := x12, pair := x15 } where
  regs := fun _ => rfl
  sels := fun _ => rfl
  latches := fun _ => rfl
  out := fun _ => rfl
  free := fun _ => rfl
  time := fun _ => rfl
  evt := fun _ => rfl
  datum := fun _ => rfl
  pwr := fun _ => rfl
  arch := fun _ => rfl
  trust := fun _ => rfl
  vault := fun _ => rfl
  nvm := fun hb => absurd hb (by decide)
  store := fun _ => rfl
  trav := fun _ => rfl
  pair := fun hb => absurd hb (by decide)
  zeb := fun _ => rfl
  win := fun _ => rfl
  ep := fun _ => rfl
  ks := fun _ => rfl
  xp := fun _ => rfl
  net := fun _ => rfl
  ciph := fun _ => rfl
  bay := fun _ => rfl
  pending := rfl
  tables := id
  lasting := TrustKeeps.refl _

theorem upd_store_pair {s : State} {x13 : StoreSt} {x15 : PairSt} :
    Keeps 40960 s { s with store := x13, pair := x15 } where
  regs := fun _ => rfl
  sels := fun _ => rfl
  latches := fun _ => rfl
  out := fun _ => rfl
  free := fun _ => rfl
  time := fun _ => rfl
  evt := fun _ => rfl
  datum := fun _ => rfl
  pwr := fun _ => rfl
  arch := fun _ => rfl
  trust := fun _ => rfl
  vault := fun _ => rfl
  nvm := fun _ => rfl
  store := fun hb => absurd hb (by decide)
  trav := fun _ => rfl
  pair := fun hb => absurd hb (by decide)
  zeb := fun _ => rfl
  win := fun _ => rfl
  ep := fun _ => rfl
  ks := fun _ => rfl
  xp := fun _ => rfl
  net := fun _ => rfl
  ciph := fun _ => rfl
  bay := fun _ => rfl
  pending := rfl
  tables := id
  lasting := TrustKeeps.refl _

theorem upd_trav_pair {s : State} {x14 : TravSt} {x15 : PairSt} :
    Keeps 49152 s { s with trav := x14, pair := x15 } where
  regs := fun _ => rfl
  sels := fun _ => rfl
  latches := fun _ => rfl
  out := fun _ => rfl
  free := fun _ => rfl
  time := fun _ => rfl
  evt := fun _ => rfl
  datum := fun _ => rfl
  pwr := fun _ => rfl
  arch := fun _ => rfl
  trust := fun _ => rfl
  vault := fun _ => rfl
  nvm := fun _ => rfl
  store := fun _ => rfl
  trav := fun hb => absurd hb (by decide)
  pair := fun hb => absurd hb (by decide)
  zeb := fun _ => rfl
  win := fun _ => rfl
  ep := fun _ => rfl
  ks := fun _ => rfl
  xp := fun _ => rfl
  net := fun _ => rfl
  ciph := fun _ => rfl
  bay := fun _ => rfl
  pending := rfl
  tables := id
  lasting := TrustKeeps.refl _

theorem upd_nvm_trav_pair {s : State} {x12 : NvmSt} {x14 : TravSt} {x15 : PairSt} :
    Keeps 53248 s { s with nvm := x12, trav := x14, pair := x15 } where
  regs := fun _ => rfl
  sels := fun _ => rfl
  latches := fun _ => rfl
  out := fun _ => rfl
  free := fun _ => rfl
  time := fun _ => rfl
  evt := fun _ => rfl
  datum := fun _ => rfl
  pwr := fun _ => rfl
  arch := fun _ => rfl
  trust := fun _ => rfl
  vault := fun _ => rfl
  nvm := fun hb => absurd hb (by decide)
  store := fun _ => rfl
  trav := fun hb => absurd hb (by decide)
  pair := fun hb => absurd hb (by decide)
  zeb := fun _ => rfl
  win := fun _ => rfl
  ep := fun _ => rfl
  ks := fun _ => rfl
  xp := fun _ => rfl
  net := fun _ => rfl
  ciph := fun _ => rfl
  bay := fun _ => rfl
  pending := rfl
  tables := id
  lasting := TrustKeeps.refl _

theorem upd_zeb {s : State} {x16 : ZebSt} :
    Keeps 65536 s { s with zeb := x16 } where
  regs := fun _ => rfl
  sels := fun _ => rfl
  latches := fun _ => rfl
  out := fun _ => rfl
  free := fun _ => rfl
  time := fun _ => rfl
  evt := fun _ => rfl
  datum := fun _ => rfl
  pwr := fun _ => rfl
  arch := fun _ => rfl
  trust := fun _ => rfl
  vault := fun _ => rfl
  nvm := fun _ => rfl
  store := fun _ => rfl
  trav := fun _ => rfl
  pair := fun _ => rfl
  zeb := fun hb => absurd hb (by decide)
  win := fun _ => rfl
  ep := fun _ => rfl
  ks := fun _ => rfl
  xp := fun _ => rfl
  net := fun _ => rfl
  ciph := fun _ => rfl
  bay := fun _ => rfl
  pending := rfl
  tables := id
  lasting := TrustKeeps.refl _

theorem upd_pair_zeb {s : State} {x15 : PairSt} {x16 : ZebSt} :
    Keeps 98304 s { s with pair := x15, zeb := x16 } where
  regs := fun _ => rfl
  sels := fun _ => rfl
  latches := fun _ => rfl
  out := fun _ => rfl
  free := fun _ => rfl
  time := fun _ => rfl
  evt := fun _ => rfl
  datum := fun _ => rfl
  pwr := fun _ => rfl
  arch := fun _ => rfl
  trust := fun _ => rfl
  vault := fun _ => rfl
  nvm := fun _ => rfl
  store := fun _ => rfl
  trav := fun _ => rfl
  pair := fun hb => absurd hb (by decide)
  zeb := fun hb => absurd hb (by decide)
  win := fun _ => rfl
  ep := fun _ => rfl
  ks := fun _ => rfl
  xp := fun _ => rfl
  net := fun _ => rfl
  ciph := fun _ => rfl
  bay := fun _ => rfl
  pending := rfl
  tables := id
  lasting := TrustKeeps.refl _

theorem upd_win {s : State} {x17 : WinSt} :
    Keeps 131072 s { s with win := x17 } where
  regs := fun _ => rfl
  sels := fun _ => rfl
  latches := fun _ => rfl
  out := fun _ => rfl
  free := fun _ => rfl
  time := fun _ => rfl
  evt := fun _ => rfl
  datum := fun _ => rfl
  pwr := fun _ => rfl
  arch := fun _ => rfl
  trust := fun _ => rfl
  vault := fun _ => rfl
  nvm := fun _ => rfl
  store := fun _ => rfl
  trav := fun _ => rfl
  pair := fun _ => rfl
  zeb := fun _ => rfl
  win := fun hb => absurd hb (by decide)
  ep := fun _ => rfl
  ks := fun _ => rfl
  xp := fun _ => rfl
  net := fun _ => rfl
  ciph := fun _ => rfl
  bay := fun _ => rfl
  pending := rfl
  tables := id
  lasting := TrustKeeps.refl _

theorem upd_store_win {s : State} {x13 : StoreSt} {x17 : WinSt} :
    Keeps 139264 s { s with store := x13, win := x17 } where
  regs := fun _ => rfl
  sels := fun _ => rfl
  latches := fun _ => rfl
  out := fun _ => rfl
  free := fun _ => rfl
  time := fun _ => rfl
  evt := fun _ => rfl
  datum := fun _ => rfl
  pwr := fun _ => rfl
  arch := fun _ => rfl
  trust := fun _ => rfl
  vault := fun _ => rfl
  nvm := fun _ => rfl
  store := fun hb => absurd hb (by decide)
  trav := fun _ => rfl
  pair := fun _ => rfl
  zeb := fun _ => rfl
  win := fun hb => absurd hb (by decide)
  ep := fun _ => rfl
  ks := fun _ => rfl
  xp := fun _ => rfl
  net := fun _ => rfl
  ciph := fun _ => rfl
  bay := fun _ => rfl
  pending := rfl
  tables := id
  lasting := TrustKeeps.refl _

theorem upd_trav_win {s : State} {x14 : TravSt} {x17 : WinSt} :
    Keeps 147456 s { s with trav := x14, win := x17 } where
  regs := fun _ => rfl
  sels := fun _ => rfl
  latches := fun _ => rfl
  out := fun _ => rfl
  free := fun _ => rfl
  time := fun _ => rfl
  evt := fun _ => rfl
  datum := fun _ => rfl
  pwr := fun _ => rfl
  arch := fun _ => rfl
  trust := fun _ => rfl
  vault := fun _ => rfl
  nvm := fun _ => rfl
  store := fun _ => rfl
  trav := fun hb => absurd hb (by decide)
  pair := fun _ => rfl
  zeb := fun _ => rfl
  win := fun hb => absurd hb (by decide)
  ep := fun _ => rfl
  ks := fun _ => rfl
  xp := fun _ => rfl
  net := fun _ => rfl
  ciph := fun _ => rfl
  bay := fun _ => rfl
  pending := rfl
  tables := id
  lasting := TrustKeeps.refl _

theorem upd_pair_win {s : State} {x15 : PairSt} {x17 : WinSt} :
    Keeps 163840 s { s with pair := x15, win := x17 } where
  regs := fun _ => rfl
  sels := fun _ => rfl
  latches := fun _ => rfl
  out := fun _ => rfl
  free := fun _ => rfl
  time := fun _ => rfl
  evt := fun _ => rfl
  datum := fun _ => rfl
  pwr := fun _ => rfl
  arch := fun _ => rfl
  trust := fun _ => rfl
  vault := fun _ => rfl
  nvm := fun _ => rfl
  store := fun _ => rfl
  trav := fun _ => rfl
  pair := fun hb => absurd hb (by decide)
  zeb := fun _ => rfl
  win := fun hb => absurd hb (by decide)
  ep := fun _ => rfl
  ks := fun _ => rfl
  xp := fun _ => rfl
  net := fun _ => rfl
  ciph := fun _ => rfl
  bay := fun _ => rfl
  pending := rfl
  tables := id
  lasting := TrustKeeps.refl _

theorem upd_nvm_store_pair_win {s : State} {x12 : NvmSt} {x13 : StoreSt} {x15 : PairSt} {x17 : WinSt} :
    Keeps 176128 s { s with nvm := x12, store := x13, pair := x15, win := x17 } where
  regs := fun _ => rfl
  sels := fun _ => rfl
  latches := fun _ => rfl
  out := fun _ => rfl
  free := fun _ => rfl
  time := fun _ => rfl
  evt := fun _ => rfl
  datum := fun _ => rfl
  pwr := fun _ => rfl
  arch := fun _ => rfl
  trust := fun _ => rfl
  vault := fun _ => rfl
  nvm := fun hb => absurd hb (by decide)
  store := fun hb => absurd hb (by decide)
  trav := fun _ => rfl
  pair := fun hb => absurd hb (by decide)
  zeb := fun _ => rfl
  win := fun hb => absurd hb (by decide)
  ep := fun _ => rfl
  ks := fun _ => rfl
  xp := fun _ => rfl
  net := fun _ => rfl
  ciph := fun _ => rfl
  bay := fun _ => rfl
  pending := rfl
  tables := id
  lasting := TrustKeeps.refl _

theorem upd_store_trav_pair_win {s : State} {x13 : StoreSt} {x14 : TravSt} {x15 : PairSt} {x17 : WinSt} :
    Keeps 188416 s { s with store := x13, trav := x14, pair := x15, win := x17 } where
  regs := fun _ => rfl
  sels := fun _ => rfl
  latches := fun _ => rfl
  out := fun _ => rfl
  free := fun _ => rfl
  time := fun _ => rfl
  evt := fun _ => rfl
  datum := fun _ => rfl
  pwr := fun _ => rfl
  arch := fun _ => rfl
  trust := fun _ => rfl
  vault := fun _ => rfl
  nvm := fun _ => rfl
  store := fun hb => absurd hb (by decide)
  trav := fun hb => absurd hb (by decide)
  pair := fun hb => absurd hb (by decide)
  zeb := fun _ => rfl
  win := fun hb => absurd hb (by decide)
  ep := fun _ => rfl
  ks := fun _ => rfl
  xp := fun _ => rfl
  net := fun _ => rfl
  ciph := fun _ => rfl
  bay := fun _ => rfl
  pending := rfl
  tables := id
  lasting := TrustKeeps.refl _

theorem upd_ep {s : State} {x18 : EpSt} :
    Keeps 262144 s { s with ep := x18 } where
  regs := fun _ => rfl
  sels := fun _ => rfl
  latches := fun _ => rfl
  out := fun _ => rfl
  free := fun _ => rfl
  time := fun _ => rfl
  evt := fun _ => rfl
  datum := fun _ => rfl
  pwr := fun _ => rfl
  arch := fun _ => rfl
  trust := fun _ => rfl
  vault := fun _ => rfl
  nvm := fun _ => rfl
  store := fun _ => rfl
  trav := fun _ => rfl
  pair := fun _ => rfl
  zeb := fun _ => rfl
  win := fun _ => rfl
  ep := fun hb => absurd hb (by decide)
  ks := fun _ => rfl
  xp := fun _ => rfl
  net := fun _ => rfl
  ciph := fun _ => rfl
  bay := fun _ => rfl
  pending := rfl
  tables := id
  lasting := TrustKeeps.refl _

theorem upd_nvm_ep {s : State} {x12 : NvmSt} {x18 : EpSt} :
    Keeps 266240 s { s with nvm := x12, ep := x18 } where
  regs := fun _ => rfl
  sels := fun _ => rfl
  latches := fun _ => rfl
  out := fun _ => rfl
  free := fun _ => rfl
  time := fun _ => rfl
  evt := fun _ => rfl
  datum := fun _ => rfl
  pwr := fun _ => rfl
  arch := fun _ => rfl
  trust := fun _ => rfl
  vault := fun _ => rfl
  nvm := fun hb => absurd hb (by decide)
  store := fun _ => rfl
  trav := fun _ => rfl
  pair := fun _ => rfl
  zeb := fun _ => rfl
  win := fun _ => rfl
  ep := fun hb => absurd hb (by decide)
  ks := fun _ => rfl
  xp := fun _ => rfl
  net := fun _ => rfl
  ciph := fun _ => rfl
  bay := fun _ => rfl
  pending := rfl
  tables := id
  lasting := TrustKeeps.refl _

theorem upd_ks {s : State} {x19 : KsSt} :
    Keeps 524288 s { s with ks := x19 } where
  regs := fun _ => rfl
  sels := fun _ => rfl
  latches := fun _ => rfl
  out := fun _ => rfl
  free := fun _ => rfl
  time := fun _ => rfl
  evt := fun _ => rfl
  datum := fun _ => rfl
  pwr := fun _ => rfl
  arch := fun _ => rfl
  trust := fun _ => rfl
  vault := fun _ => rfl
  nvm := fun _ => rfl
  store := fun _ => rfl
  trav := fun _ => rfl
  pair := fun _ => rfl
  zeb := fun _ => rfl
  win := fun _ => rfl
  ep := fun _ => rfl
  ks := fun hb => absurd hb (by decide)
  xp := fun _ => rfl
  net := fun _ => rfl
  ciph := fun _ => rfl
  bay := fun _ => rfl
  pending := rfl
  tables := id
  lasting := TrustKeeps.refl _

theorem upd_xp {s : State} {x20 : XpSt} :
    Keeps 1048576 s { s with xp := x20 } where
  regs := fun _ => rfl
  sels := fun _ => rfl
  latches := fun _ => rfl
  out := fun _ => rfl
  free := fun _ => rfl
  time := fun _ => rfl
  evt := fun _ => rfl
  datum := fun _ => rfl
  pwr := fun _ => rfl
  arch := fun _ => rfl
  trust := fun _ => rfl
  vault := fun _ => rfl
  nvm := fun _ => rfl
  store := fun _ => rfl
  trav := fun _ => rfl
  pair := fun _ => rfl
  zeb := fun _ => rfl
  win := fun _ => rfl
  ep := fun _ => rfl
  ks := fun _ => rfl
  xp := fun hb => absurd hb (by decide)
  net := fun _ => rfl
  ciph := fun _ => rfl
  bay := fun _ => rfl
  pending := rfl
  tables := id
  lasting := TrustKeeps.refl _

theorem upd_win_xp {s : State} {x17 : WinSt} {x20 : XpSt} :
    Keeps 1179648 s { s with win := x17, xp := x20 } where
  regs := fun _ => rfl
  sels := fun _ => rfl
  latches := fun _ => rfl
  out := fun _ => rfl
  free := fun _ => rfl
  time := fun _ => rfl
  evt := fun _ => rfl
  datum := fun _ => rfl
  pwr := fun _ => rfl
  arch := fun _ => rfl
  trust := fun _ => rfl
  vault := fun _ => rfl
  nvm := fun _ => rfl
  store := fun _ => rfl
  trav := fun _ => rfl
  pair := fun _ => rfl
  zeb := fun _ => rfl
  win := fun hb => absurd hb (by decide)
  ep := fun _ => rfl
  ks := fun _ => rfl
  xp := fun hb => absurd hb (by decide)
  net := fun _ => rfl
  ciph := fun _ => rfl
  bay := fun _ => rfl
  pending := rfl
  tables := id
  lasting := TrustKeeps.refl _

theorem upd_net {s : State} {x21 : NetSt} :
    Keeps 2097152 s { s with net := x21 } where
  regs := fun _ => rfl
  sels := fun _ => rfl
  latches := fun _ => rfl
  out := fun _ => rfl
  free := fun _ => rfl
  time := fun _ => rfl
  evt := fun _ => rfl
  datum := fun _ => rfl
  pwr := fun _ => rfl
  arch := fun _ => rfl
  trust := fun _ => rfl
  vault := fun _ => rfl
  nvm := fun _ => rfl
  store := fun _ => rfl
  trav := fun _ => rfl
  pair := fun _ => rfl
  zeb := fun _ => rfl
  win := fun _ => rfl
  ep := fun _ => rfl
  ks := fun _ => rfl
  xp := fun _ => rfl
  net := fun hb => absurd hb (by decide)
  ciph := fun _ => rfl
  bay := fun _ => rfl
  pending := rfl
  tables := id
  lasting := TrustKeeps.refl _

theorem upd_ciph {s : State} {x22 : CiphSt} :
    Keeps 4194304 s { s with ciph := x22 } where
  regs := fun _ => rfl
  sels := fun _ => rfl
  latches := fun _ => rfl
  out := fun _ => rfl
  free := fun _ => rfl
  time := fun _ => rfl
  evt := fun _ => rfl
  datum := fun _ => rfl
  pwr := fun _ => rfl
  arch := fun _ => rfl
  trust := fun _ => rfl
  vault := fun _ => rfl
  nvm := fun _ => rfl
  store := fun _ => rfl
  trav := fun _ => rfl
  pair := fun _ => rfl
  zeb := fun _ => rfl
  win := fun _ => rfl
  ep := fun _ => rfl
  ks := fun _ => rfl
  xp := fun _ => rfl
  net := fun _ => rfl
  ciph := fun hb => absurd hb (by decide)
  bay := fun _ => rfl
  pending := rfl
  tables := id
  lasting := TrustKeeps.refl _

theorem upd_pwr_ciph {s : State} {x8 : PwrSt} {x22 : CiphSt} :
    Keeps 4194560 s { s with pwr := x8, ciph := x22 } where
  regs := fun _ => rfl
  sels := fun _ => rfl
  latches := fun _ => rfl
  out := fun _ => rfl
  free := fun _ => rfl
  time := fun _ => rfl
  evt := fun _ => rfl
  datum := fun _ => rfl
  pwr := fun hb => absurd hb (by decide)
  arch := fun _ => rfl
  trust := fun _ => rfl
  vault := fun _ => rfl
  nvm := fun _ => rfl
  store := fun _ => rfl
  trav := fun _ => rfl
  pair := fun _ => rfl
  zeb := fun _ => rfl
  win := fun _ => rfl
  ep := fun _ => rfl
  ks := fun _ => rfl
  xp := fun _ => rfl
  net := fun _ => rfl
  ciph := fun hb => absurd hb (by decide)
  bay := fun _ => rfl
  pending := rfl
  tables := id
  lasting := TrustKeeps.refl _

theorem upd_regs_evt_datum_pwr_trust_store_pair_ks_ciph {s : State} {x0 : Tab Nat} {x6 : EvtSt} {x7 : DatumSt} {x8 : PwrSt} {x10 : TrustSt} {x13 : StoreSt} {x15 : PairSt} {x19 : KsSt} {x22 : CiphSt} (hr : trising s.regs = true → trising x0 = true) (ht : TrustKeeps s.trust x10) :
    Keeps 4761025 s { s with regs := x0, evt := x6, datum := x7, pwr := x8, trust := x10, store := x13, pair := x15, ks := x19, ciph := x22 } where
  regs := fun hb => absurd hb (by decide)
  sels := fun _ => rfl
  latches := fun _ => rfl
  out := fun _ => rfl
  free := fun _ => rfl
  time := fun _ => rfl
  evt := fun hb => absurd hb (by decide)
  datum := fun hb => absurd hb (by decide)
  pwr := fun hb => absurd hb (by decide)
  arch := fun _ => rfl
  trust := fun hb => absurd hb (by decide)
  vault := fun _ => rfl
  nvm := fun _ => rfl
  store := fun hb => absurd hb (by decide)
  trav := fun _ => rfl
  pair := fun hb => absurd hb (by decide)
  zeb := fun _ => rfl
  win := fun _ => rfl
  ep := fun _ => rfl
  ks := fun hb => absurd hb (by decide)
  xp := fun _ => rfl
  net := fun _ => rfl
  ciph := fun hb => absurd hb (by decide)
  bay := fun _ => rfl
  pending := rfl
  tables := fun h => ⟨hr h.1, h.2.1, h.2.2⟩
  lasting := ht

theorem upd_net_ciph {s : State} {x21 : NetSt} {x22 : CiphSt} :
    Keeps 6291456 s { s with net := x21, ciph := x22 } where
  regs := fun _ => rfl
  sels := fun _ => rfl
  latches := fun _ => rfl
  out := fun _ => rfl
  free := fun _ => rfl
  time := fun _ => rfl
  evt := fun _ => rfl
  datum := fun _ => rfl
  pwr := fun _ => rfl
  arch := fun _ => rfl
  trust := fun _ => rfl
  vault := fun _ => rfl
  nvm := fun _ => rfl
  store := fun _ => rfl
  trav := fun _ => rfl
  pair := fun _ => rfl
  zeb := fun _ => rfl
  win := fun _ => rfl
  ep := fun _ => rfl
  ks := fun _ => rfl
  xp := fun _ => rfl
  net := fun hb => absurd hb (by decide)
  ciph := fun hb => absurd hb (by decide)
  bay := fun _ => rfl
  pending := rfl
  tables := id
  lasting := TrustKeeps.refl _

theorem upd_bay {s : State} {x23 : BayUnit} :
    Keeps 8388608 s { s with bay := x23 } where
  regs := fun _ => rfl
  sels := fun _ => rfl
  latches := fun _ => rfl
  out := fun _ => rfl
  free := fun _ => rfl
  time := fun _ => rfl
  evt := fun _ => rfl
  datum := fun _ => rfl
  pwr := fun _ => rfl
  arch := fun _ => rfl
  trust := fun _ => rfl
  vault := fun _ => rfl
  nvm := fun _ => rfl
  store := fun _ => rfl
  trav := fun _ => rfl
  pair := fun _ => rfl
  zeb := fun _ => rfl
  win := fun _ => rfl
  ep := fun _ => rfl
  ks := fun _ => rfl
  xp := fun _ => rfl
  net := fun _ => rfl
  ciph := fun _ => rfl
  bay := fun hb => absurd hb (by decide)
  pending := rfl
  tables := id
  lasting := TrustKeeps.refl _

theorem upd_store_bay {s : State} {x13 : StoreSt} {x23 : BayUnit} :
    Keeps 8396800 s { s with store := x13, bay := x23 } where
  regs := fun _ => rfl
  sels := fun _ => rfl
  latches := fun _ => rfl
  out := fun _ => rfl
  free := fun _ => rfl
  time := fun _ => rfl
  evt := fun _ => rfl
  datum := fun _ => rfl
  pwr := fun _ => rfl
  arch := fun _ => rfl
  trust := fun _ => rfl
  vault := fun _ => rfl
  nvm := fun _ => rfl
  store := fun hb => absurd hb (by decide)
  trav := fun _ => rfl
  pair := fun _ => rfl
  zeb := fun _ => rfl
  win := fun _ => rfl
  ep := fun _ => rfl
  ks := fun _ => rfl
  xp := fun _ => rfl
  net := fun _ => rfl
  ciph := fun _ => rfl
  bay := fun hb => absurd hb (by decide)
  pending := rfl
  tables := id
  lasting := TrustKeeps.refl _

theorem upd_pair_ep_bay {s : State} {x15 : PairSt} {x18 : EpSt} {x23 : BayUnit} :
    Keeps 8683520 s { s with pair := x15, ep := x18, bay := x23 } where
  regs := fun _ => rfl
  sels := fun _ => rfl
  latches := fun _ => rfl
  out := fun _ => rfl
  free := fun _ => rfl
  time := fun _ => rfl
  evt := fun _ => rfl
  datum := fun _ => rfl
  pwr := fun _ => rfl
  arch := fun _ => rfl
  trust := fun _ => rfl
  vault := fun _ => rfl
  nvm := fun _ => rfl
  store := fun _ => rfl
  trav := fun _ => rfl
  pair := fun hb => absurd hb (by decide)
  zeb := fun _ => rfl
  win := fun _ => rfl
  ep := fun hb => absurd hb (by decide)
  ks := fun _ => rfl
  xp := fun _ => rfl
  net := fun _ => rfl
  ciph := fun _ => rfl
  bay := fun hb => absurd hb (by decide)
  pending := rfl
  tables := id
  lasting := TrustKeeps.refl _

theorem upd_regs_time_evt_datum_pwr_arch_trust_ks_bay {s : State} {x0 : Tab Nat} {x5 : Nat} {x6 : EvtSt} {x7 : DatumSt} {x8 : PwrSt} {x9 : ArchSt} {x10 : TrustSt} {x19 : KsSt} {x23 : BayUnit} (hr : trising s.regs = true → trising x0 = true) (ht : TrustKeeps s.trust x10) :
    Keeps 8914913 s { s with regs := x0, time := x5, evt := x6, datum := x7, pwr := x8, arch := x9, trust := x10, ks := x19, bay := x23 } where
  regs := fun hb => absurd hb (by decide)
  sels := fun _ => rfl
  latches := fun _ => rfl
  out := fun _ => rfl
  free := fun _ => rfl
  time := fun hb => absurd hb (by decide)
  evt := fun hb => absurd hb (by decide)
  datum := fun hb => absurd hb (by decide)
  pwr := fun hb => absurd hb (by decide)
  arch := fun hb => absurd hb (by decide)
  trust := fun hb => absurd hb (by decide)
  vault := fun _ => rfl
  nvm := fun _ => rfl
  store := fun _ => rfl
  trav := fun _ => rfl
  pair := fun _ => rfl
  zeb := fun _ => rfl
  win := fun _ => rfl
  ep := fun _ => rfl
  ks := fun hb => absurd hb (by decide)
  xp := fun _ => rfl
  net := fun _ => rfl
  ciph := fun _ => rfl
  bay := fun hb => absurd hb (by decide)
  pending := rfl
  tables := fun h => ⟨hr h.1, h.2.1, h.2.2⟩
  lasting := ht

theorem upd_sels_latches_vault_nvm_store_trav_pair_zeb_win_ep_xp_net_ciph_bay {s : State} {x1 : Tab Nat} {x2 : Tab Nat} {x11 : VaultSt} {x12 : NvmSt} {x13 : StoreSt} {x14 : TravSt} {x15 : PairSt} {x16 : ZebSt} {x17 : WinSt} {x18 : EpSt} {x20 : XpSt} {x21 : NetSt} {x22 : CiphSt} {x23 : BayUnit} (hs : trising s.sels = true → trising x1 = true) (hl : trising s.latches = true → trising x2 = true) :
    Keeps 16250886 s { s with sels := x1, latches := x2, vault := x11, nvm := x12, store := x13, trav := x14, pair := x15, zeb := x16, win := x17, ep := x18, xp := x20, net := x21, ciph := x22, bay := x23 } where
  regs := fun _ => rfl
  sels := fun hb => absurd hb (by decide)
  latches := fun hb => absurd hb (by decide)
  out := fun _ => rfl
  free := fun _ => rfl
  time := fun _ => rfl
  evt := fun _ => rfl
  datum := fun _ => rfl
  pwr := fun _ => rfl
  arch := fun _ => rfl
  trust := fun _ => rfl
  vault := fun hb => absurd hb (by decide)
  nvm := fun hb => absurd hb (by decide)
  store := fun hb => absurd hb (by decide)
  trav := fun hb => absurd hb (by decide)
  pair := fun hb => absurd hb (by decide)
  zeb := fun hb => absurd hb (by decide)
  win := fun hb => absurd hb (by decide)
  ep := fun hb => absurd hb (by decide)
  ks := fun _ => rfl
  xp := fun hb => absurd hb (by decide)
  net := fun hb => absurd hb (by decide)
  ciph := fun hb => absurd hb (by decide)
  bay := fun hb => absurd hb (by decide)
  pending := rfl
  tables := fun h => ⟨h.1, hs h.2.1, hl h.2.2⟩
  lasting := TrustKeeps.refl _

end Sys2Proof.Machine
end

