-- ==== Sys2Proof/Laws/KeepsOps.lean ====
section
/-!
SUPPORT. Laws/KeepsOps.lean: which units of the state each operation of Machine/Ops.lean may change: one `Keeps` lemma each.
-/
namespace Sys2Proof.Machine

theorem wrAt_keeps {a0 a1 a2 s} : Keeps 1 s (wrAt a0 a1 a2 s) := by
  unfold wrAt
  exact Keeps.widen (upd_regs (fun h => trising_tput h _ _ _)) rfl

theorem wr_keeps {a0 a1 s} : Keeps 1 s (wr a0 a1 s) := by
  unfold wr
  exact Keeps.widen wrAt_keeps rfl

theorem bumpAt_keeps {a0 a1 a2 s} : Keeps 1 s (bumpAt a0 a1 a2 s) := by
  unfold bumpAt
  exact Keeps.widen wrAt_keeps rfl

theorem bump_keeps {a0 s} : Keeps 1 s (bump a0 s) := by
  unfold bump
  exact Keeps.widen bumpAt_keeps rfl

theorem bump64_keeps {a0 a1 a2 s} : Keeps 1 s (bump64 a0 a1 a2 s) := by
  unfold bump64
  exact Keeps.widen wrAt_keeps rfl

theorem setSel_keeps {a0 a1 a2 s} : Keeps 2 s (setSel a0 a1 a2 s) := by
  unfold setSel
  exact Keeps.widen (upd_sels (fun h => trising_tput h _ _ _)) rfl

theorem drive_keeps {a0 s} : Keeps 8 s (drive a0 s) := by
  unfold drive
  exact Keeps.widen upd_out rfl

theorem driveAll_keeps {a0 s} : Keeps 8 s (driveAll a0 s) := by
  unfold driveAll
  exact Keeps.widen upd_out rfl

theorem drawFree_keeps {s} : Keeps 16 s (drawFree s).2 := by
  unfold drawFree
  refine Keeps.mkSnd ?_
  exact Keeps.widen upd_free rfl

theorem drbgDraw_keeps {s} : Keeps 4194320 s (drbgDraw s).2 := by
  unfold drbgDraw
  refine Keeps.step drawFree_keeps rfl ?_
  exact Keeps.widen upd_ciph rfl

theorem errLast_keeps {a0 a1 a2 a3 s} : Keeps 1 s (errLast a0 a1 a2 a3 s) := by
  unfold errLast
  refine Keeps.step wr_keeps rfl ?_
  exact Keeps.widen wr_keeps rfl

theorem cmdWrite_keeps {a0 a1 a2 s} {M : Nat} (hM : 1 ||| M = M) (hf2 : ∀ v0, Keeps M v0 (a2 v0)) :
    Keeps M s (cmdWrite a0 a1 a2 s) := by
  unfold cmdWrite
  refine Keeps.ite ?_ ?_
  · exact Keeps.widen errLast_keeps (orSub hM rfl)
  · refine Keeps.ite ?_ ?_
    · exact Keeps.widen errLast_keeps (orSub hM rfl)
    · apply hf2

end Sys2Proof.Machine
end

