-- ==== Sys2Proof/Laws/KeepsFlags.lean ====
section
/-!
SUPPORT. Laws/KeepsFlags.lean: which units of the state each operation of Machine/Flags.lean may change: one `Keeps` lemma each.
-/
namespace Sys2Proof.Machine

theorem setQueue_keeps {a0 a1 s} : Keeps 64 s (setQueue a0 a1 s) := by
  unfold setQueue
  exact Keeps.widen upd_evt rfl

theorem updateEventN_keeps {a0 s} : Keeps 72 s (updateEventN a0 s) := by
  unfold updateEventN
  extract_lets x0 x1
  clear_value x0 x1
  refine Keeps.ite ?_ ?_
  · refine Keeps.step drive_keeps rfl ?_
    exact Keeps.widen upd_evt rfl
  · refine Keeps.ite ?_ ?_
    · refine Keeps.step drive_keeps rfl ?_
      exact Keeps.widen upd_evt rfl
    · exact Keeps.refl _ _

theorem msix_keeps {a0 a1 s} : Keeps 262216 s (msix a0 a1 s) := by
  unfold msix
  extract_lets x0 x1 x2 x3 x4 x5
  have k6 : Keeps 262216 s x4 := by
    unfold x4
    exact Keeps.widen drive_keeps rfl
  clear_value x4
  clear_value x0 x1 x2 x3 x5
  refine Keeps.ite ?_ ?_
  · exact Keeps.widen upd_ep rfl
  · refine Keeps.ite ?_ ?_
    · refine Keeps.ite ?_ ?_
      · exact Keeps.refl _ _
      · exact Keeps.widen upd_evt rfl
    · refine Keeps.ite ?_ ?_
      · assumption
      · exact Keeps.step upd_evt rfl ‹_›

theorem qAppend_keeps {a0 a1 s} : Keeps 262217 s (qAppend a0 a1 s) := by
  unfold qAppend
  extract_lets x0 x1 x2 x3 x4
  have k5 : Keeps 262217 s x2 := by
    unfold x2
    exact Keeps.widen setQueue_keeps rfl
  clear_value x2
  have k6 : Keeps 262217 s x3 := by
    unfold x3
    exact Keeps.step bump_keeps rfl ‹_›
  clear_value x3
  have k7 : Keeps 262217 s x4 := by
    unfold x4
    refine Keeps.ite ?_ ?_
    · exact Keeps.step drive_keeps rfl ‹_›
    · assumption
  clear_value x4
  clear_value x0 x1
  refine Keeps.ite ?_ ?_
  · exact Keeps.step msix_keeps rfl ‹_›
  · assumption

theorem qRefuse_keeps {a0 s} : Keeps 65 s (qRefuse a0 s) := by
  unfold qRefuse
  extract_lets x0
  clear_value x0
  refine Keeps.step bumpAt_keeps rfl ?_
  exact Keeps.widen setQueue_keeps rfl

theorem qWrite_keeps {a0 a1 s} : Keeps 262217 s (qWrite a0 a1 s) := by
  unfold qWrite
  refine Keeps.ite ?_ ?_
  · exact Keeps.refl _ _
  · refine Keeps.ite ?_ ?_
    · exact Keeps.widen bumpAt_keeps rfl
    · refine Keeps.ite ?_ ?_
      · exact Keeps.widen qRefuse_keeps rfl
      · extract_lets x0 x1 x2
        have k3 : Keeps 262217 s x1 := by
          unfold x1
          refine Keeps.ite ?_ ?_
          · exact Keeps.refl _ _
          · refine Keeps.step qAppend_keeps rfl ?_
            exact Keeps.widen setQueue_keeps rfl
        clear_value x1
        have k4 : Keeps 262217 s x2 := by
          unfold x2
          refine Keeps.ite ?_ ?_
          · exact Keeps.step qRefuse_keeps rfl ‹_›
          · exact Keeps.step qAppend_keeps rfl ‹_›
        clear_value x2
        clear_value x0
        exact Keeps.step updateEventN_keeps rfl ‹_›

theorem stickyAdd_keeps {a0 s} : Keeps 64 s (stickyAdd a0 s) := by
  unfold stickyAdd
  exact Keeps.widen upd_evt rfl

theorem raiseSev_keeps {a0 a1 a2 s} : Keeps 262217 s (raiseSev a0 a1 a2 s) := by
  unfold raiseSev
  extract_lets x0 x1 x2 x3 x4 x5 x6 x7 x8 x9
  have k10 : Keeps 262217 s x4 := by
    unfold x4
    exact Keeps.widen wr_keeps rfl
  clear_value x4
  have k11 : Keeps 262217 s x5 := by
    unfold x5
    refine Keeps.ite ?_ ?_
    · exact Keeps.step stickyAdd_keeps rfl ‹_›
    · assumption
  clear_value x5
  clear_value x0 x1 x2 x3 x6 x7 x8 x9
  refine Keeps.ite ?_ ?_
  · exact Keeps.step qWrite_keeps rfl ‹_›
  · refine Keeps.ite ?_ ?_
    · assumption
    · refine Keeps.ite ?_ ?_
      · exact Keeps.step qWrite_keeps rfl ‹_›
      · refine Keeps.ite ?_ ?_
        · refine Keeps.step bump_keeps rfl ?_
          exact Keeps.step upd_evt rfl ‹_›
        · refine Keeps.step qWrite_keeps rfl ?_
          exact Keeps.step upd_evt rfl ‹_›

theorem raise_keeps {a0 a1 s} : Keeps 262217 s (raise a0 a1 s) := by
  unfold raise
  exact Keeps.widen raiseSev_keeps rfl

theorem raiseForced_keeps {a0 s} : Keeps 262217 s (raiseForced a0 s) := by
  unfold raiseForced
  split
  · rename_i y0 y1
    exact Keeps.refl _ _
  · rename_i y2 y3 y4
    refine Keeps.step bump_keeps rfl ?_
    exact Keeps.widen raiseSev_keeps rfl

end Sys2Proof.Machine
end

