-- ==== Sys2Proof/Laws/KeepsTxOps.lean ====
section
/-!
SUPPORT. Laws/KeepsTxOps.lean: which units of the state each operation of Machine/TxOps.lean may change: one `Keeps` lemma each.
-/
namespace Sys2Proof.Machine

theorem setQp_keeps {a0 a1 s} : Keeps 1048576 s (setQp a0 a1 s) := by
  unfold setQp
  exact Keeps.widen upd_xp rfl

theorem modQp_keeps {a0 a1 s} : Keeps 1048576 s (modQp a0 a1 s) := by
  unfold modQp
  exact Keeps.widen setQp_keeps rfl

theorem sendPkts_keeps {a0 a1 s} : Keeps 1048584 s (sendPkts a0 a1 s) := by
  induction a1 generalizing a0 s
  · unfold sendPkts
    exact Keeps.refl _ _
  · rename_i y0 y1
    unfold sendPkts
    extract_lets x2 x3
    clear_value x2 x3
    split
    · rename_i y4 y5
      exact Keeps.refl _ _
    · rename_i y6 y7 y8 y9
      refine Keeps.ite ?_ ?_
      · exact Keeps.refl _ _
      · extract_lets x10
        clear_value x10
        refine Keeps.trans ?_ y1
        refine Keeps.step drive_keeps rfl ?_
        exact Keeps.widen setQp_keeps rfl

theorem sendMore_keeps {a0 s} : Keeps 1048584 s (sendMore a0 s) := by
  unfold sendMore
  exact Keeps.widen sendPkts_keeps rfl

theorem sendMsg_keeps {a0 a1 s} : Keeps 1048584 s (sendMsg a0 a1 s) := by
  unfold sendMsg
  refine Keeps.step sendMore_keeps rfl ?_
  exact Keeps.widen modQp_keeps rfl

theorem txQueue_keeps {a0 a1 s} : Keeps 1048584 s (txQueue a0 a1 s) := by
  unfold txQueue
  split
  · rename_i y0 y1
    exact Keeps.refl _ _
  · rename_i y2 y3 y4
    exact Keeps.widen sendMsg_keeps rfl

theorem respond_keeps {a0 a1 a2 a3 a4 a5 a6 s} : Keeps 1310728 s (respond a0 a1 a2 a3 a4 a5 a6 s) := by
  unfold respond
  split
  · rename_i y0 y1 y2
    extract_lets x3 x4 x5
    clear_value x3 x4 x5
    exact Keeps.widen upd_ep rfl
  · rename_i y6 y7
    refine Keeps.step txQueue_keeps rfl ?_
    exact Keeps.widen drive_keeps rfl

theorem postNotice_keeps {a0 a1 a2 s} : Keeps 1052680 s (postNotice a0 a1 a2 s) := by
  unfold postNotice
  split
  · rename_i y0 y1
    exact Keeps.refl _ _
  · rename_i y2 y3 y4
    split
    · rename_i y5 y6
      refine Keeps.ite ?_ ?_
      · exact Keeps.refl _ _
      · exact Keeps.widen upd_nvm rfl
    · rename_i y7 y8 y9 y10
      refine Keeps.step txQueue_keeps rfl ?_
      refine Keeps.step drive_keeps rfl ?_
      exact Keeps.widen upd_nvm rfl

theorem sendData_keeps {a0 a1 a2 a3 s} : Keeps 1048584 s (sendData a0 a1 a2 a3 s) := by
  unfold sendData
  refine Keeps.step txQueue_keeps rfl ?_
  exact Keeps.widen drive_keeps rfl

theorem readBoundCheck_keeps {s} : Keeps 1310793 s (readBoundCheck s) := by
  unfold readBoundCheck
  refine Keeps.ite ?_ ?_
  · exact Keeps.widen upd_xp rfl
  · refine Keeps.ite ?_ ?_
    · exact Keeps.refl _ _
    · refine Keeps.step raise_keeps rfl ?_
      exact Keeps.widen upd_xp rfl

theorem issueRead_keeps {a0 a1 a2 s} : Keeps 1310793 s (issueRead a0 a1 a2 s) := by
  unfold issueRead
  extract_lets x0 x1 x2 x3
  clear_value x0 x1 x2 x3
  refine Keeps.step readBoundCheck_keeps rfl ?_
  refine Keeps.step sendMore_keeps rfl ?_
  exact Keeps.widen setQp_keeps rfl

theorem pullQp_keeps {a0 a1 a2 s} : Keeps 1310793 s (pullQp a0 a1 a2 s) := by
  unfold pullQp
  refine Keeps.ite ?_ ?_
  · exact Keeps.widen issueRead_keeps rfl
  · refine Keeps.step bump_keeps rfl ?_
    exact Keeps.widen upd_xp rfl

theorem pullRetry_keeps {a0 s} : Keeps 1310793 s (pullRetry a0 s) := by
  induction a0 generalizing  s
  · unfold pullRetry
    exact Keeps.refl _ _
  · rename_i y0 y1
    unfold pullRetry
    extract_lets x2 x3
    have k4 : Keeps 1310793 s x2 := by
      unfold x2
      exact Keeps.widen readBoundCheck_keeps rfl
    clear_value x2
    clear_value x3
    split
    · rename_i y5 y6
      assumption
    · rename_i y7 y8 y9
      refine Keeps.trans ?_ y1
      refine Keeps.step issueRead_keeps rfl ?_
      exact Keeps.step upd_xp rfl ‹_›

theorem epSend_keeps {a0 a1 a2 s} : Keeps 262152 s (epSend a0 a1 a2 s) := by
  unfold epSend
  refine Keeps.ite ?_ ?_
  · exact Keeps.widen upd_ep rfl
  · extract_lets x0 x1
    clear_value x0 x1
    refine Keeps.step drive_keeps rfl ?_
    exact Keeps.widen upd_ep rfl

theorem epIssue_keeps {a0 a1 s} : Keeps 262152 s (epIssue a0 a1 s) := by
  unfold epIssue
  exact Keeps.widen epSend_keeps rfl

theorem epDrain_keeps {a0 s} : Keeps 262152 s (epDrain a0 s) := by
  induction a0 generalizing  s
  · unfold epDrain
    exact Keeps.refl _ _
  · rename_i y0 y1
    unfold epDrain
    split
    · rename_i y2 y3
      exact Keeps.refl _ _
    · rename_i y4 y5 y6 y7 y8 y9
      refine Keeps.ite ?_ ?_
      · exact Keeps.refl _ _
      · extract_lets x10 x11 x12
        have k13 : Keeps 262152 s x11 := by
          unfold x11
          refine Keeps.step epSend_keeps rfl ?_
          exact Keeps.widen upd_ep rfl
        clear_value x11
        clear_value x10 x12
        refine Keeps.trans ?_ y1
        exact Keeps.step upd_ep rfl ‹_›

theorem epArrived_keeps {a0 s} : Keeps 262152 s (epArrived a0 s) := by
  unfold epArrived
  split
  · rename_i y0 y1
    exact Keeps.refl _ _
  · rename_i y2 y3 y4 y5
    refine Keeps.step epDrain_keeps rfl ?_
    exact Keeps.widen upd_ep rfl

theorem pullHost_keeps {a0 a1 a2 a3 s} : Keeps 1310793 s (pullHost a0 a1 a2 a3 s) := by
  unfold pullHost
  split
  · rename_i y0 y1 y2
    refine Keeps.ite ?_ ?_
    · exact Keeps.widen epIssue_keeps rfl
    · refine Keeps.foldl ?_ (fun t3 x4 k5 => ?_)
      · exact Keeps.refl _ _
      · exact Keeps.step epIssue_keeps rfl ‹_›
  · rename_i y6 y7
    extract_lets x8
    have k9 : Keeps 1310793 s x8 := by
      unfold x8
      exact Keeps.widen drive_keeps rfl
    clear_value x8
    split
    · rename_i y10 y11
      assumption
    · rename_i y12 y13 y14
      exact Keeps.step pullQp_keeps rfl ‹_›

end Sys2Proof.Machine
end

