-- ==== Sys2Proof/Laws/KeepsRingOps.lean ====
section
/-!
SUPPORT. Laws/KeepsRingOps.lean: which units of the state each operation of Machine/RingOps.lean may change: one `Keeps` lemma each.
-/
namespace Sys2Proof.Machine

theorem setFn_keeps {a0 a1 s} : Keeps 262144 s (setFn a0 a1 s) := by
  unfold setFn
  exact Keeps.widen upd_ep rfl

theorem setRing_keeps {a0 a1 s} : Keeps 262144 s (setRing a0 a1 s) := by
  unfold setRing
  exact Keeps.widen upd_ep rfl

theorem writeRec_keeps {a0 a1 s} : Keeps 262216 s (writeRec a0 a1 s) := by
  unfold writeRec
  extract_lets x0 x1 x2 x3 x4
  have k5 : Keeps 262216 s x1 := by
    unfold x1
    exact Keeps.widen drive_keeps rfl
  clear_value x1
  have k6 : Keeps 262216 s x4 := by
    unfold x4
    exact Keeps.step setRing_keeps rfl ‹_›
  clear_value x4
  clear_value x0 x2 x3
  refine Keeps.ite ?_ ?_
  · exact Keeps.step msix_keeps rfl ‹_›
  · assumption

theorem drainHeld_keeps {a0 a1 s} : Keeps 262216 s (drainHeld a0 a1 s) := by
  induction a1 generalizing a0 s
  · unfold drainHeld
    exact Keeps.refl _ _
  · rename_i y0 y1
    unfold drainHeld
    extract_lets x2
    clear_value x2
    split
    · rename_i y3 y4
      exact Keeps.refl _ _
    · rename_i y5 y6 y7 y8
      refine Keeps.ite ?_ ?_
      · exact Keeps.refl _ _
      · refine Keeps.trans ?_ y1
        refine Keeps.step writeRec_keeps rfl ?_
        exact Keeps.widen setRing_keeps rfl

theorem putRec_keeps {a0 a1 s} : Keeps 262217 s (putRec a0 a1 s) := by
  unfold putRec
  extract_lets x0 x1
  have k2 : Keeps 262217 s x1 := by
    unfold x1
    exact Keeps.widen setRing_keeps rfl
  clear_value x1
  clear_value x0
  refine Keeps.ite ?_ ?_
  · refine Keeps.ite ?_ ?_
    · exact Keeps.step raise_keeps rfl ‹_›
    · assumption
  · exact Keeps.widen writeRec_keeps rfl

theorem ringSettle_keeps {a0 s} : Keeps 262144 s (ringSettle a0 s) := by
  unfold ringSettle
  extract_lets x0
  clear_value x0
  refine Keeps.ite ?_ ?_
  · exact Keeps.widen setRing_keeps rfl
  · exact Keeps.refl _ _

theorem ringDone_keeps {a0 a1 a2 a3 a4 a5 a6 s} : Keeps 262217 s (ringDone a0 a1 a2 a3 a4 a5 a6 s) := by
  unfold ringDone
  extract_lets x0 x1
  clear_value x0 x1
  split
  · rename_i y2 y3
    exact Keeps.refl _ _
  · rename_i y4 y5 y6
    extract_lets x7 x8
    have k9 : Keeps 262217 s x7 := by
      unfold x7
      exact Keeps.widen setRing_keeps rfl
    clear_value x7
    have k10 : Keeps 262217 s x8 := by
      unfold x8
      refine Keeps.ite ?_ ?_
      · assumption
      · exact Keeps.step putRec_keeps rfl ‹_›
    clear_value x8
    exact Keeps.step ringSettle_keeps rfl ‹_›

theorem answer_keeps {a0 a1 a2 a3 a4 a5 a6 s} : Keeps 1310793 s (answer a0 a1 a2 a3 a4 a5 a6 s) := by
  unfold answer
  refine Keeps.ite ?_ ?_
  · exact Keeps.widen ringDone_keeps rfl
  · exact Keeps.widen respond_keeps rfl

end Sys2Proof.Machine
end

