-- ==== Sys2Proof/Laws/KeepsZebOps.lean ====
section
/-!
SUPPORT. Laws/KeepsZebOps.lean: which units of the state each operation of Machine/ZebOps.lean may change: one `Keeps` lemma each.
-/
namespace Sys2Proof.Machine

theorem zebWire_keeps {a0 s} : Keeps 65545 s (zebWire a0 s) := by
  unfold zebWire
  extract_lets x0 x1
  clear_value x0 x1
  refine Keeps.step bump64_keeps rfl ?_
  refine Keeps.step drive_keeps rfl ?_
  exact Keeps.widen upd_zeb rfl

theorem zsend_keeps {a0 s} : Keeps 65545 s (zsend a0 s) := by
  unfold zsend
  refine Keeps.ite ?_ ?_
  · exact Keeps.widen zebWire_keeps rfl
  · exact Keeps.widen upd_zeb rfl

theorem zebDrain_keeps {s} : Keeps 65545 s (zebDrain s) := by
  unfold zebDrain
  extract_lets x0 x1
  clear_value x0 x1
  refine Keeps.foldl ?_ (fun t2 x3 k4 => ?_)
  · exact Keeps.widen upd_zeb rfl
  · exact Keeps.step zebWire_keeps rfl ‹_›

theorem mseqSend_keeps {a0 s} : Keeps 98313 s (mseqSend a0 s).2 := by
  unfold mseqSend
  extract_lets x0 x1
  clear_value x0 x1
  refine Keeps.mkSnd ?_
  refine Keeps.step zsend_keeps rfl ?_
  exact Keeps.widen upd_pair rfl

theorem mirrorNote_keeps {a0 s} : Keeps 98313 s (mirrorNote a0 s) := by
  unfold mirrorNote
  refine Keeps.ite ?_ ?_
  · exact Keeps.widen mseqSend_keeps rfl
  · exact Keeps.refl _ _

theorem requestRecord_keeps {a0 a1 a2 a3 s} {M : Nat} (hM : 98313 ||| M = M) (hf2 : ∀ v0, Keeps M v0 (a2 v0)) (hf3 : ∀ v0, Keeps M v0 (a3 v0)) :
    Keeps M s (requestRecord a0 a1 a2 a3 s) := by
  unfold requestRecord
  refine Keeps.ite ?_ ?_
  · refine Keeps.trans ?_ (hf3 ..)
    apply hf2
  · refine Keeps.ite ?_ ?_
    · extract_lets x0 x1 x2 x3
      have k4 : Keeps M s x2 := by
        unfold x2
        refine Keeps.trans ?_ (hf2 ..)
        exact Keeps.widen upd_pair (orSub hM rfl)
      clear_value x2
      clear_value x0 x1 x3
      refine Keeps.step zsend_keeps (orSub hM rfl) ?_
      exact Keeps.step upd_pair (orSub hM rfl) ‹_›
    · extract_lets x5 x6
      clear_value x5 x6
      refine Keeps.step zsend_keeps (orSub hM rfl) ?_
      exact Keeps.widen upd_pair (orSub hM rfl)

end Sys2Proof.Machine
end

