-- ==== Sys2Proof/Laws/KeepsStoreOps.lean ====
section
/-!
SUPPORT. Laws/KeepsStoreOps.lean: which units of the state each operation of Machine/StoreOps.lean may change: one `Keeps` lemma each.
-/
namespace Sys2Proof.Machine

theorem setMember_keeps {a0 a1 s} : Keeps 8192 s (setMember a0 a1 s) := by
  unfold setMember
  exact Keeps.widen upd_store rfl

theorem setLimit_keeps {s} : Keeps 264265 s (setLimit s) := by
  unfold setLimit
  extract_lets x0 x1 x2 x3 x4 x5
  have k6 : Keeps 264265 s x5 := by
    unfold x5
    exact Keeps.widen upd_vault rfl
  clear_value x5
  clear_value x0 x1 x2 x3 x4
  refine Keeps.ite ?_ ?_
  · exact Keeps.step raise_keeps rfl ‹_›
  · assumption

theorem setNs_keeps {a0 a1 s} : Keeps 4096 s (setNs a0 a1 s) := by
  unfold setNs
  exact Keeps.widen upd_nvm rfl

theorem modNs_keeps {a0 a1 s} : Keeps 4096 s (modNs a0 a1 s) := by
  unfold modNs
  exact Keeps.widen upd_nvm rfl

theorem setEnt_keeps {a0 a1 s} : Keeps 106505 s (setEnt a0 a1 s) := by
  unfold setEnt
  refine Keeps.step mirrorNote_keeps rfl ?_
  exact Keeps.widen upd_store rfl

theorem putCmd_keeps {a0 s} : Keeps 8396808 s (putCmd a0 s) := by
  unfold putCmd
  extract_lets x0 x1 x2
  clear_value x0 x1 x2
  refine Keeps.step drive_keeps rfl ?_
  exact Keeps.widen upd_store_bay rfl

theorem portCmd_keeps {a0 s} : Keeps 8396808 s (portCmd a0 s) := by
  unfold portCmd
  refine Keeps.ite ?_ ?_
  · exact Keeps.widen putCmd_keeps rfl
  · exact Keeps.widen upd_store rfl

theorem freeCmd_keeps {a0 s} : Keeps 8396808 s (freeCmd a0 s) := by
  unfold freeCmd
  extract_lets x0 x1 x2
  have k3 : Keeps 8396808 s x1 := by
    unfold x1
    exact Keeps.widen upd_store rfl
  clear_value x1
  clear_value x0 x2
  split
  · rename_i y4 y5
    assumption
  · rename_i y6 y7 y8
    extract_lets x9
    have k10 : Keeps 8396808 s x9 := by
      unfold x9
      exact Keeps.step upd_store rfl ‹_›
    clear_value x9
    refine Keeps.ite ?_ ?_
    · assumption
    · exact Keeps.step putCmd_keeps rfl ‹_›

theorem issue_keeps {a0 a1 a2 a3 a4 a5 a6 s} : Keeps 8462345 s (issue a0 a1 a2 a3 a4 a5 a6 s) := by
  unfold issue
  extract_lets x0 x1 x2 x3
  clear_value x0 x1 x2 x3
  refine Keeps.ite ?_ ?_
  · exact Keeps.widen portCmd_keeps rfl
  · refine Keeps.ite ?_ ?_
    · exact Keeps.refl _ _
    · refine Keeps.step zsend_keeps rfl ?_
      exact Keeps.widen upd_store rfl

theorem poolBlocks_keeps {a0 a1 a2 s} : Keeps 1 s (poolBlocks a0 a1 a2 s) := by
  unfold poolBlocks
  refine Keeps.ite ?_ ?_
  · exact Keeps.refl _ _
  · extract_lets x0
    have k1 : Keeps 1 s x0 := by
      unfold x0
      exact Keeps.widen bump64_keeps rfl
    clear_value x0
    refine Keeps.ite ?_ ?_
    · exact Keeps.step bumpAt_keeps rfl ‹_›
    · assumption

theorem opened_keeps {a0 a1 s} : Keeps 1 s (opened a0 a1 s) := by
  unfold opened
  exact Keeps.widen poolBlocks_keeps rfl

theorem issueSealed_keeps {a0 a1 a2 a3 a4 a5 s} : Keeps 8462345 s (issueSealed a0 a1 a2 a3 a4 a5 s) := by
  unfold issueSealed
  refine Keeps.step issue_keeps rfl ?_
  exact Keeps.widen poolBlocks_keeps rfl

theorem issueSys_keeps {a0 a1 a2 s} : Keeps 8462345 s (issueSys a0 a1 a2 s) := by
  unfold issueSys
  extract_lets x0 x1 x2 x3
  clear_value x0 x1 x2 x3
  refine Keeps.ite ?_ ?_
  · exact Keeps.widen portCmd_keeps rfl
  · refine Keeps.ite ?_ ?_
    · exact Keeps.refl _ _
    · refine Keeps.step zsend_keeps rfl ?_
      exact Keeps.widen upd_store rfl

theorem issueOp_keeps {a0 a1 a2 s} : Keeps 8396808 s (issueOp a0 a1 a2 s) := by
  unfold issueOp
  exact Keeps.widen portCmd_keeps rfl

theorem mapCmds_keeps {a0 s} : Keeps 8192 s (mapCmds a0 s) := by
  unfold mapCmds
  exact Keeps.widen upd_store rfl

theorem journalArea_keeps {a0 s} : Keeps 8462345 s (journalArea a0 s) := by
  unfold journalArea
  refine Keeps.foldl ?_ (fun t0 x1 k2 => ?_)
  · exact Keeps.refl _ _
  · exact Keeps.step issueSys_keeps rfl ‹_›

theorem journalAdd_keeps {a0 a1 s} : Keeps 8495113 s (journalAdd a0 a1 s).2 := by
  unfold journalAdd
  extract_lets x0 x1 x2 x3 x4
  have k5 : Keeps 8495113 s x3 := by
    unfold x3
    exact Keeps.widen upd_store rfl
  clear_value x3
  have k6 : Keeps 8495113 s x4 := by
    unfold x4
    exact Keeps.step mirrorNote_keeps rfl ‹_›
  clear_value x4
  clear_value x0 x1 x2
  refine Keeps.mkSnd ?_
  refine Keeps.foldl ?_ (fun t7 x8 k9 => ?_)
  · assumption
  · exact Keeps.step issueSys_keeps rfl ‹_›

theorem journalRetire_keeps {a0 s} : Keeps 8495113 s (journalRetire a0 s) := by
  unfold journalRetire
  extract_lets x0 x1
  have k2 : Keeps 8495113 s x0 := by
    unfold x0
    exact Keeps.widen journalAdd_keeps rfl
  clear_value x0
  clear_value x1
  exact Keeps.step upd_store rfl ‹_›

theorem writeLabels_keeps {s} : Keeps 8462345 s (writeLabels s) := by
  unfold writeLabels
  extract_lets x0 x1
  clear_value x0 x1
  refine Keeps.foldl ?_ (fun t2 x3 k4 => ?_)
  · exact Keeps.widen upd_store rfl
  · exact Keeps.step issueSys_keeps rfl ‹_›

theorem persist_keeps {a0 a1 s} : Keeps 8462345 s (persist a0 a1 s) := by
  unfold persist
  extract_lets x0 x1 x2 x3 x4
  have k5 : Keeps 8462345 s x4 := by
    unfold x4
    exact Keeps.widen upd_store rfl
  clear_value x4
  clear_value x0 x1 x2 x3
  refine Keeps.ite ?_ ?_
  · exact Keeps.refl _ _
  · refine Keeps.foldl ?_ (fun t6 x7 k8 => ?_)
    · assumption
    · exact Keeps.step issueSys_keeps rfl ‹_›

theorem escrowKey_keeps {a0 a1 s} : Keeps 4980825 s (escrowKey a0 a1 s) := by
  unfold escrowKey
  split
  · rename_i y0 y1
    exact Keeps.refl _ _
  · rename_i y2 y3 y4
    refine Keeps.ite ?_ ?_
    · exact Keeps.refl _ _
    · split
      · rename_i y5 y6 y7 y8
        have k9 : Keeps 4980825 s y7 := by
          refine Keeps.ofSnd y8 ?_
          exact Keeps.widen drbgDraw_keeps rfl
        extract_lets x10 x11 x12 x13 x14 x15 x16
        have k17 : Keeps 4980825 s x15 := by
          unfold x15
          exact Keeps.step upd_ks rfl ‹_›
        clear_value x15
        have k18 : Keeps 4980825 s x16 := by
          unfold x16
          exact Keeps.step raise_keeps rfl ‹_›
        clear_value x16
        clear_value x10 x11 x12 x13 x14
        refine Keeps.ite ?_ ?_
        · exact Keeps.step raise_keeps rfl ‹_›
        · assumption

theorem setKey_keeps {a0 a1 a2 s} : Keeps 524288 s (setKey a0 a1 a2 s) := by
  unfold setKey
  extract_lets x0 x1 x2
  clear_value x0 x1 x2
  exact Keeps.widen upd_ks rfl

theorem keyCreate_keeps {a0 a1 s} : Keeps 4980825 s (keyCreate a0 a1 s) := by
  unfold keyCreate
  refine Keeps.step escrowKey_keeps rfl ?_
  refine Keeps.step bump_keeps rfl ?_
  refine Keeps.step setKey_keeps rfl ?_
  exact Keeps.widen setKey_keeps rfl

theorem rollParcels_keeps {a0 a1 s} : Keeps 8757321 s (rollParcels a0 a1 s) := by
  unfold rollParcels
  split
  · rename_i y0 y1
    exact Keeps.refl _ _
  · rename_i y2 y3 y4
    refine Keeps.foldl ?_ (fun t5 x6 k7 => ?_)
    · exact Keeps.refl _ _
    · extract_lets x8 x9 x10 x11 x12 x13
      have k14 : Keeps 8757321 s x10 := by
        unfold x10
        refine Keeps.ite ?_ ?_
        · refine Keeps.step raise_keeps rfl ?_
          exact Keeps.step bump_keeps rfl ‹_›
        · assumption
      clear_value x10
      have k15 : Keeps 8757321 s x12 := by
        unfold x12
        exact Keeps.step upd_store rfl ‹_›
      clear_value x12
      have k16 : Keeps 8757321 s x13 := by
        unfold x13
        refine Keeps.ite ?_ ?_
        · exact Keeps.step setEnt_keeps rfl ‹_›
        · refine Keeps.ite ?_ ?_
          · exact Keeps.step setEnt_keeps rfl ‹_›
          · assumption
      clear_value x13
      clear_value x8 x9 x11
      exact Keeps.step persist_keeps rfl ‹_›

theorem rollNow_keeps {a0 a1 s} : Keeps 13475929 s (rollNow a0 a1 s) := by
  unfold rollNow
  extract_lets x0 x1 x2 x3 x4 x5
  have k6 : Keeps 13475929 s x2 := by
    unfold x2
    refine Keeps.step setKey_keeps rfl ?_
    exact Keeps.widen setKey_keeps rfl
  clear_value x2
  have k7 : Keeps 13475929 s x3 := by
    unfold x3
    refine Keeps.step rollParcels_keeps rfl ?_
    refine Keeps.step escrowKey_keeps rfl ?_
    exact Keeps.step bump_keeps rfl ‹_›
  clear_value x3
  have k8 : Keeps 13475929 s x4 := by
    unfold x4
    exact Keeps.step raise_keeps rfl ‹_›
  clear_value x4
  clear_value x0 x1 x5
  exact Keeps.step upd_ks rfl ‹_›

theorem keyImport_keeps {a0 a1 a2 a3 a4 s} : Keeps 524289 s (keyImport a0 a1 a2 a3 a4 s) := by
  unfold keyImport
  refine Keeps.step bump_keeps rfl ?_
  exact Keeps.widen setKey_keeps rfl

theorem keyRetire_keeps {a0 a1 s} : Keeps 786505 s (keyRetire a0 a1 s) := by
  unfold keyRetire
  refine Keeps.step raise_keeps rfl ?_
  exact Keeps.widen setKey_keeps rfl

theorem startRoll_keeps {a0 s} : Keeps 13475929 s (startRoll a0 s) := by
  unfold startRoll
  refine Keeps.ite ?_ ?_
  · exact Keeps.refl _ _
  · split
    · rename_i y0 y1 y2 y3
      have k4 : Keeps 13475929 s y2 := by
        refine Keeps.ofSnd y3 ?_
        exact Keeps.widen drbgDraw_keeps rfl
      refine Keeps.trans ?_ (requestRecord_keeps (M := 13475929) rfl ?_ ?_)
      · refine Keeps.ite ?_ ?_
        · exact Keeps.step upd_ks rfl ‹_›
        · assumption
      · intro v5
        exact Keeps.widen rollNow_keeps rfl
      · intro v6
        refine Keeps.idE ?_
        exact Keeps.refl _ _

theorem drawGen_keeps {a0 a1 s} : Keeps 13475929 s (drawGen a0 a1 s).2 := by
  unfold drawGen
  extract_lets x0 x1 x2 x3 x4 x5 x6 x7
  have k8 : Keeps 13475929 s x3 := by
    unfold x3
    exact Keeps.widen startRoll_keeps rfl
  clear_value x3
  have k9 : Keeps 13475929 s x7 := by
    unfold x7
    refine Keeps.ite ?_ ?_
    · exact Keeps.refl _ _
    · exact Keeps.widen persist_keeps rfl
  clear_value x7
  clear_value x0 x1 x2 x4 x5 x6
  refine Keeps.iteSnd ?_ ?_
  · refine Keeps.iteSnd ?_ ?_
    · refine Keeps.iteSnd ?_ ?_
      · refine Keeps.mkSnd ?_
        exact Keeps.refl _ _
      · refine Keeps.mkSnd ?_
        refine Keeps.step raise_keeps rfl ?_
        exact Keeps.widen upd_store rfl
    · refine Keeps.iteSnd ?_ ?_
      · refine Keeps.mkSnd ?_
        assumption
      · refine Keeps.mkSnd ?_
        assumption
  · refine Keeps.iteSnd ?_ ?_
    · refine Keeps.mkSnd ?_
      assumption
    · refine Keeps.mkSnd ?_
      exact Keeps.step setEnt_keeps rfl ‹_›

theorem setFrame_keeps {a0 a1 a2 s} : Keeps 8192 s (setFrame a0 a1 a2 s) := by
  unfold setFrame
  refine Keeps.ite ?_ ?_
  · exact Keeps.widen upd_store rfl
  · exact Keeps.widen upd_store rfl

theorem extPut_keeps {a0 a1 a2 s} : Keeps 8192 s (extPut a0 a1 a2 s) := by
  unfold extPut
  extract_lets x0 x1 x2 x3 x4 x5 x6
  clear_value x0 x1 x2 x3 x4 x5 x6
  refine Keeps.ite ?_ ?_
  · exact Keeps.refl _ _
  · refine Keeps.ite ?_ ?_
    · exact Keeps.widen upd_store rfl
    · exact Keeps.widen upd_store rfl

theorem extDrop_keeps {a0 a1 s} : Keeps 8192 s (extDrop a0 a1 s) := by
  unfold extDrop
  exact Keeps.widen upd_store rfl

theorem evictFrame_keeps {a0 s} : Keeps 8192 s (evictFrame a0 s) := by
  unfold evictFrame
  split
  · rename_i y0 y1
    exact Keeps.refl _ _
  · rename_i y2 y3 y4
    extract_lets x5 x6
    have k7 : Keeps 8192 s x6 := by
      unfold x6
      exact Keeps.widen upd_store rfl
    clear_value x6
    clear_value x5
    refine Keeps.ite ?_ ?_
    · assumption
    · refine Keeps.foldl ?_ (fun t8 x9 k10 => ?_)
      · assumption
      · exact Keeps.step extPut_keeps rfl ‹_›

theorem evictTo_keeps {a0 a1 s} : Keeps 8192 s (evictTo a0 a1 s) := by
  induction a1 generalizing a0 s
  · unfold evictTo
    exact Keeps.refl _ _
  · rename_i y0 y1
    unfold evictTo
    refine Keeps.ite ?_ ?_
    · exact Keeps.refl _ _
    · split
      · rename_i y2 y3
        exact Keeps.refl _ _
      · rename_i y4 y5 y6 y7
        refine Keeps.trans ?_ y1
        exact Keeps.widen evictFrame_keeps rfl

theorem makeRoom_keeps {a0 s} : Keeps 8192 s (makeRoom a0 s) := by
  unfold makeRoom
  exact Keeps.widen evictTo_keeps rfl

theorem writerFrame_keeps {a0 a1 a2 s} : Keeps 13475929 s (writerFrame a0 a1 a2 s).2 := by
  unfold writerFrame
  extract_lets x0 x1 x2 x3
  have k4 : Keeps 13475929 s x3 := by
    unfold x3
    exact Keeps.widen makeRoom_keeps rfl
  clear_value x3
  clear_value x0 x1 x2
  split
  · rename_i y5 y6 y7 y8
    refine Keeps.mkSnd ?_
    exact Keeps.refl _ _
  · rename_i y9 y10 y11 y12 y13
    refine Keeps.iteSnd ?_ ?_
    · refine Keeps.mkSnd ?_
      exact Keeps.refl _ _
    · split
      · rename_i y14 y15 y16
        have k17 : Keeps 13475929 s y15 := by
          refine Keeps.ofSnd y16 ?_
          exact Keeps.widen drawGen_keeps rfl
        refine Keeps.mkSnd ?_
        assumption
      · rename_i y18 y19 y20 y21 y22
        have k23 : Keeps 13475929 s y21 := by
          refine Keeps.ofSnd y22 ?_
          exact Keeps.widen drawGen_keeps rfl
        refine Keeps.iteSnd ?_ ?_
        · extract_lets x24
          clear_value x24
          refine Keeps.mkSnd ?_
          exact Keeps.step setFrame_keeps rfl ‹_›
        · extract_lets x25
          clear_value x25
          refine Keeps.mkSnd ?_
          exact Keeps.step setFrame_keeps rfl ‹_›
  · rename_i y26 y27 y28 y29
    split
    · rename_i y30 y31 y32
      have k33 : Keeps 13475929 s y31 := by
        refine Keeps.ofSnd y32 ?_
        exact Keeps.step drawGen_keeps rfl ‹_›
      refine Keeps.mkSnd ?_
      assumption
    · rename_i y34 y35 y36 y37 y38
      have k39 : Keeps 13475929 s y37 := by
        refine Keeps.ofSnd y38 ?_
        exact Keeps.step drawGen_keeps rfl ‹_›
      extract_lets x40
      clear_value x40
      refine Keeps.mkSnd ?_
      exact Keeps.step setFrame_keeps rfl ‹_›

theorem lossChanged_keeps {a0 s} : Keeps 8495113 s (lossChanged a0 s) := by
  unfold lossChanged
  extract_lets x0 x1 x2 x3
  have k4 : Keeps 8495113 s x0 := by
    unfold x0
    split
    · rename_i y5 y6
      exact Keeps.refl _ _
    · rename_i y7 y8 y9
      refine Keeps.foldl ?_ (fun t10 x11 k12 => ?_)
      · exact Keeps.refl _ _
      · extract_lets x13 x14 x15
        clear_value x13 x14 x15
        refine Keeps.ite ?_ ?_
        · exact Keeps.step setEnt_keeps rfl ‹_›
        · assumption
  clear_value x0
  have k16 : Keeps 8495113 s x2 := by
    unfold x2
    exact Keeps.step upd_store rfl ‹_›
  clear_value x2
  have k17 : Keeps 8495113 s x3 := by
    unfold x3
    exact Keeps.step journalArea_keeps rfl ‹_›
  clear_value x3
  clear_value x1
  exact Keeps.step mirrorNote_keeps rfl ‹_›

theorem lossCoalesce_keeps {s} : Keeps 270409 s (lossCoalesce s) := by
  unfold lossCoalesce
  extract_lets x0 x1 x2
  have k3 : ∀ a4, Keeps 270409 a4 (x0 a4) := by
    unfold x0
    intro v5
    exact Keeps.widen upd_store rfl
  clear_value x0
  clear_value x1 x2
  split
  · rename_i y6 y7 y8 y9
    extract_lets x10 x11
    clear_value x10 x11
    refine Keeps.step raise_keeps rfl ?_
    refine Keeps.trans ?_ (k3 ..)
    exact Keeps.widen upd_store rfl
  · rename_i y12 y13
    split
    · rename_i y14 y15
      exact Keeps.refl _ _
    · rename_i y16 y17 y18
      extract_lets x19
      clear_value x19
      refine Keeps.step raise_keeps rfl ?_
      refine Keeps.trans ?_ (k3 ..)
      exact Keeps.widen upd_store rfl

theorem lossAdd_keeps {a0 a1 a2 a3 s} : Keeps 8757321 s (lossAdd a0 a1 a2 a3 s) := by
  unfold lossAdd
  refine Keeps.ite ?_ ?_
  · exact Keeps.refl _ _
  · extract_lets x0 x1 x2
    have k3 : Keeps 8757321 s x0 := by
      unfold x0
      refine Keeps.ite ?_ ?_
      · exact Keeps.refl _ _
      · exact Keeps.widen lossCoalesce_keeps rfl
    clear_value x0
    have k4 : Keeps 8757321 s x2 := by
      unfold x2
      exact Keeps.step upd_store rfl ‹_›
    clear_value x2
    clear_value x1
    refine Keeps.step raise_keeps rfl ?_
    exact Keeps.step lossChanged_keeps rfl ‹_›

theorem lossRemove_keeps {a0 a1 s} : Keeps 8757321 s (lossRemove a0 a1 s) := by
  unfold lossRemove
  refine Keeps.ite ?_ ?_
  · exact Keeps.refl _ _
  · extract_lets x0 x1 x2 x3
    have k4 : Keeps 8757321 s x1 := by
      unfold x1
      refine Keeps.ite ?_ ?_
      · exact Keeps.refl _ _
      · exact Keeps.widen lossCoalesce_keeps rfl
    clear_value x1
    have k5 : Keeps 8757321 s x3 := by
      unfold x3
      exact Keeps.step upd_store rfl ‹_›
    clear_value x3
    clear_value x0 x2
    exact Keeps.step lossChanged_keeps rfl ‹_›

theorem condsFollow_keeps {a0 a1 a2 s} : Keeps 16384 s (condsFollow a0 a1 a2 s) := by
  unfold condsFollow
  exact Keeps.widen upd_trav rfl

theorem landBlock_keeps {a0 a1 a2 a3 a4 s} : KeepsO 13492313 s (landBlock a0 a1 a2 a3 a4 s) := by
  unfold landBlock
  split
  · rename_i y0 y1 y2 y3
    split
    · rename_i y4 y5 y6 y7 y8
      split
      · rename_i y9 y10 y11
        have k12 : Keeps 13492313 s y10 := by
          refine Keeps.ofSnd y11 ?_
          exact Keeps.widen writerFrame_keeps rfl
        exact KeepsO.none
      · rename_i y13 y14 y15 y16 y17
        have k18 : Keeps 13492313 s y16 := by
          refine Keeps.ofSnd y17 ?_
          exact Keeps.widen writerFrame_keeps rfl
        extract_lets x19 x20 x21
        clear_value x19 x20 x21
        refine KeepsO.some ?_
        refine Keeps.step lossRemove_keeps rfl ?_
        refine Keeps.step condsFollow_keeps rfl ?_
        refine Keeps.step extDrop_keeps rfl ?_
        exact Keeps.step setFrame_keeps rfl ‹_›

theorem landBlocks_keeps {a0 a1 a2 a3 s} : KeepsO 13492313 s (landBlocks a0 a1 a2 a3 s) := by
  induction a3 generalizing a0 a1 a2 s
  · unfold landBlocks
    refine KeepsO.some ?_
    exact Keeps.refl _ _
  · rename_i y0 y1 y2
    unfold landBlocks
    split
    · rename_i y3 y4
      exact KeepsO.none
    · rename_i y5 y6 y7
      have k8 : Keeps 13492313 s y6 := by
        refine Keeps.ofSome y7 ?_
        refine Keeps.stepO landBlock_keeps rfl ?_
        exact Keeps.refl _ _
      refine Keeps.transO ?_ y2
      assumption

theorem fillClean_keeps {a0 a1 a2 s} : Keeps 8192 s (fillClean a0 a1 a2 s) := by
  unfold fillClean
  split
  · rename_i y0 y1 y2 y3
    split
    · rename_i y4 y5 y6 y7 y8
      extract_lets x9 x10 x11 x12
      have k13 : Keeps 8192 s x12 := by
        unfold x12
        exact Keeps.widen makeRoom_keeps rfl
      clear_value x12
      clear_value x9 x10 x11
      split
      · rename_i y14 y15 y16
        exact Keeps.widen upd_store rfl
      · rename_i y17 y18
        exact Keeps.step setFrame_keeps rfl ‹_›

theorem pressure_keeps {a0 a1 s} : Keeps 8192 s (pressure a0 a1 s) := by
  induction a0 generalizing a1 s
  · unfold pressure
    exact Keeps.refl _ _
  · rename_i y0 y1
    unfold pressure
    refine Keeps.ite ?_ ?_
    · exact Keeps.refl _ _
    · extract_lets x2
      clear_value x2
      split
      · rename_i y3
        exact Keeps.refl _ _
      · rename_i y4 y5 y6
        refine Keeps.trans ?_ y1
        exact Keeps.widen setFrame_keeps rfl

theorem pressureCheck_keeps {s} : Keeps 8192 s (pressureCheck s) := by
  unfold pressureCheck
  exact Keeps.widen pressure_keeps rfl

end Sys2Proof.Machine
end

