-- ==== Sys2Proof/Laws/KeepsIoOps.lean ====
section
/-!
SUPPORT. Laws/KeepsIoOps.lean: which units of the state each operation of Machine/IoOps.lean may change: one `Keeps` lemma each.
-/
namespace Sys2Proof.Machine

theorem setCtx_keeps {a0 a1 s} : Keeps 4096 s (setCtx a0 a1 s) := by
  unfold setCtx
  exact Keeps.widen upd_nvm rfl

theorem modCtx_keeps {a0 a1 s} : Keeps 4096 s (modCtx a0 a1 s) := by
  unfold modCtx
  exact Keeps.widen upd_nvm rfl

theorem sendOutcome_keeps {a0 a1 a2 a3 a4 a5 s} : Keeps 1376329 s (sendOutcome a0 a1 a2 a3 a4 a5 s) := by
  unfold sendOutcome
  split
  · rename_i y0 y1 y2
    exact Keeps.widen zsend_keeps rfl
  · rename_i y3 y4
    refine Keeps.ite ?_ ?_
    · exact Keeps.refl _ _
    · exact Keeps.widen answer_keeps rfl

theorem flushSettle_keeps {a0 s} : Keeps 1380425 s (flushSettle a0 s) := by
  induction a0 generalizing  s
  · unfold flushSettle
    exact Keeps.refl _ _
  · rename_i y0 y1
    unfold flushSettle
    split
    · rename_i y2 y3
      exact Keeps.refl _ _
    · rename_i y4 y5 y6 y7
      refine Keeps.trans ?_ y1
      refine Keeps.step sendOutcome_keeps rfl ?_
      exact Keeps.widen upd_nvm rfl

theorem finish_keeps {a0 a1 a2 a3 a4 a5 s} : Keeps 1380425 s (finish a0 a1 a2 a3 a4 a5 s) := by
  unfold finish
  split
  · rename_i y0 y1
    exact Keeps.refl _ _
  · rename_i y2 y3 y4
    extract_lets x5 x6
    have k7 : Keeps 1380425 s x6 := by
      unfold x6
      refine Keeps.step sendOutcome_keeps rfl ?_
      exact Keeps.widen upd_nvm rfl
    clear_value x6
    clear_value x5
    refine Keeps.ite ?_ ?_
    · exact Keeps.step flushSettle_keeps rfl ‹_›
    · assumption

theorem tryComplete_keeps {a0 s} : Keeps 1380425 s (tryComplete a0 s) := by
  unfold tryComplete
  split
  · rename_i y0 y1
    exact Keeps.refl _ _
  · rename_i y2 y3 y4
    refine Keeps.ite ?_ ?_
    · exact Keeps.refl _ _
    · refine Keeps.ite ?_ ?_
      · exact Keeps.widen finish_keeps rfl
      · refine Keeps.ite ?_ ?_
        · split
          · rename_i y5 y6
            exact Keeps.refl _ _
          · rename_i y7 y8 y9 y10 y11 y12
            exact Keeps.widen finish_keeps rfl
        · exact Keeps.refl _ _

theorem parityBytes_keeps {a0 a1 s} : Keeps 8192 s (parityBytes a0 a1 s) := by
  unfold parityBytes
  exact Keeps.widen upd_store rfl

theorem placeBlock_keeps {a0 a1 a2 s} : Keeps 13480025 s (placeBlock a0 a1 a2 s) := by
  unfold placeBlock
  split
  · rename_i y0 y1
    exact Keeps.refl _ _
  · rename_i y2 y3 y4
    refine Keeps.ite ?_ ?_
    · extract_lets x5 x6 x7 x8
      have k9 : Keeps 13480025 s x5 := by
        unfold x5
        exact Keeps.widen setCtx_keeps rfl
      clear_value x5
      have k10 : Keeps 13480025 s x8 := by
        unfold x8
        exact Keeps.step upd_store rfl ‹_›
      clear_value x8
      clear_value x6 x7
      refine Keeps.ite ?_ ?_
      · assumption
      · split
        · rename_i y11 y12
          assumption
        · rename_i y13 y14 y15 y16
          exact Keeps.step zsend_keeps rfl ‹_›
    · refine Keeps.ite ?_ ?_
      · exact Keeps.refl _ _
      · split
        · rename_i y17 y18 y19 y20
          have k21 : Keeps 13480025 s y19 := by
            refine Keeps.ofSnd y20 ?_
            exact Keeps.widen writerFrame_keeps rfl
          extract_lets x22 x23
          have k24 : Keeps 13480025 s x23 := by
            unfold x23
            exact Keeps.step parityBytes_keeps rfl ‹_›
          clear_value x23
          clear_value x22
          refine Keeps.ite ?_ ?_
          · exact Keeps.step setCtx_keeps rfl ‹_›
          · split
            · rename_i y25 y26 y27 y28
              have k29 : Keeps 13480025 s y27 := by
                refine Keeps.ofSnd y28 ?_
                exact Keeps.step mseqSend_keeps rfl ‹_›
              exact Keeps.step setCtx_keeps rfl ‹_›

theorem pullData_keeps {a0 s} : Keeps 14528601 s (pullData a0 s) := by
  unfold pullData
  split
  · rename_i y0 y1
    exact Keeps.refl _ _
  · rename_i y2 y3 y4
    refine Keeps.ite ?_ ?_
    · refine Keeps.ite ?_ ?_
      · exact Keeps.refl _ _
      · refine Keeps.step raise_keeps rfl ?_
        refine Keeps.step bump_keeps rfl ?_
        exact Keeps.widen setCtx_keeps rfl
    · extract_lets x5 x6
      have k7 : Keeps 14528601 s x6 := by
        unfold x6
        exact Keeps.widen setCtx_keeps rfl
      clear_value x6
      clear_value x5
      refine Keeps.ite ?_ ?_
      · refine Keeps.foldl ?_ (fun t8 x9 k10 => ?_)
        · exact Keeps.widen setCtx_keeps rfl
        · exact Keeps.step placeBlock_keeps rfl ‹_›
      · refine Keeps.ite ?_ ?_
        · exact Keeps.widen setCtx_keeps rfl
        · refine Keeps.ite ?_ ?_
          · assumption
          · exact Keeps.step pullHost_keeps rfl ‹_›

theorem resumeDeferred_keeps {s} : Keeps 14528601 s (resumeDeferred s) := by
  unfold resumeDeferred
  refine Keeps.foldl ?_ (fun t0 x1 k2 => ?_)
  · exact Keeps.refl _ _
  · exact Keeps.step pullData_keeps rfl ‹_›

theorem setJob_keeps {a0 a1 s} : Keeps 8192 s (setJob a0 a1 s) := by
  unfold setJob
  exact Keeps.widen upd_store rfl

theorem jobRead_keeps {a0 a1 a2 a3 s} : Keeps 8462345 s (jobRead a0 a1 a2 a3 s) := by
  unfold jobRead
  refine Keeps.foldl ?_ (fun t0 x1 k2 => ?_)
  · exact Keeps.refl _ _
  · extract_lets x3
    clear_value x3
    split
    · rename_i y4 y5 y6 y7
      exact Keeps.step issue_keeps rfl ‹_›

theorem dropJob_keeps {a0 s} : Keeps 8192 s (dropJob a0 s) := by
  unfold dropJob
  extract_lets x0 x1
  clear_value x0 x1
  refine Keeps.step mapCmds_keeps rfl ?_
  exact Keeps.widen upd_store rfl

theorem holdRow_keeps {a0 a1 s} : Keeps 270409 s (holdRow a0 a1 s) := by
  unfold holdRow
  extract_lets x0 x1
  clear_value x0 x1
  refine Keeps.ite ?_ ?_
  · exact Keeps.refl _ _
  · refine Keeps.step raise_keeps rfl ?_
    exact Keeps.widen upd_store rfl

theorem sendRead_keeps {a0 s} : Keeps 1380425 s (sendRead a0 s) := by
  unfold sendRead
  split
  · rename_i y0 y1
    exact Keeps.refl _ _
  · rename_i y2 y3 y4
    extract_lets x5
    have k6 : Keeps 1380425 s x5 := by
      unfold x5
      split
      · rename_i y7 y8 y9
        exact Keeps.widen zsend_keeps rfl
      · rename_i y10 y11
        refine Keeps.ite ?_ ?_
        · exact Keeps.refl _ _
        · refine Keeps.foldl ?_ (fun t12 x13 k14 => ?_)
          · exact Keeps.refl _ _
          · exact Keeps.step sendData_keeps rfl ‹_›
    clear_value x5
    exact Keeps.step finish_keeps rfl ‹_›

theorem flushFill_keeps {a0 a1 s} : Keeps 8192 s (flushFill a0 a1 s) := by
  unfold flushFill
  split
  · rename_i y0 y1
    exact Keeps.refl _ _
  · rename_i y2 y3 y4
    split
    · rename_i y5 y6
      exact Keeps.refl _ _
    · rename_i y7 y8 y9
      refine Keeps.ite ?_ ?_
      · extract_lets x10 x11 x12 x13
        have k14 : Keeps 8192 s x12 := by
          unfold x12
          exact Keeps.widen setFrame_keeps rfl
        clear_value x12
        clear_value x10 x11 x13
        exact Keeps.step upd_store rfl ‹_›
      · extract_lets x15
        clear_value x15
        exact Keeps.widen setFrame_keeps rfl

theorem flushJournal_keeps {a0 s} : Keeps 8495113 s (flushJournal a0 s) := by
  unfold flushJournal
  split
  · rename_i y0 y1
    exact Keeps.refl _ _
  · rename_i y2 y3 y4
    split
    · rename_i y5 y6
      exact Keeps.refl _ _
    · rename_i y7 y8 y9
      refine Keeps.ite ?_ ?_
      · refine Keeps.step bump_keeps rfl ?_
        exact Keeps.widen upd_store rfl
      · extract_lets x10 x11 x12 x13 x14 x15
        clear_value x10 x11 x12 x13 x14 x15
        split
        · rename_i y16 y17 y18 y19
          have k20 : Keeps 8495113 s y18 := by
            refine Keeps.ofSnd y19 ?_
            exact Keeps.widen journalAdd_keeps rfl
          exact Keeps.step setFrame_keeps rfl ‹_›

theorem ringRetry_keeps {s} : Keeps 8495113 s (ringRetry s) := by
  unfold ringRetry
  split
  · rename_i y0 y1
    exact Keeps.refl _ _
  · rename_i y2 y3 y4 y5
    refine Keeps.ite ?_ ?_
    · refine Keeps.step flushJournal_keeps rfl ?_
      exact Keeps.widen upd_store rfl
    · exact Keeps.refl _ _

theorem deliver_keeps {a0 a1 s} : Keeps 9957449 s (deliver a0 a1 s) := by
  unfold deliver
  extract_lets x0 x1 x2 x3 x4 x5 x6 x7
  have k8 : Keeps 9957449 s x0 := by
    unfold x0
    exact Keeps.widen dropJob_keeps rfl
  clear_value x0
  have k9 : Keeps 9957449 s x2 := by
    unfold x2
    refine Keeps.ite ?_ ?_
    · refine Keeps.foldl ?_ (fun t10 x11 k12 => ?_)
      · assumption
      · split
        · rename_i y13 y14 y15
          assumption
        · rename_i y16 y17
          exact Keeps.step extPut_keeps rfl ‹_›
    · assumption
  clear_value x2
  have k18 : Keeps 9957449 s x3 := by
    unfold x3
    refine Keeps.foldl ?_ (fun t19 x20 k21 => ?_)
    · assumption
    · split
      · rename_i y22 y23 y24
        assumption
      · rename_i y25 y26
        exact Keeps.step fillClean_keeps rfl ‹_›
  clear_value x3
  have k27 : Keeps 9957449 s x6 := by
    unfold x6
    exact Keeps.step upd_store rfl ‹_›
  clear_value x6
  clear_value x1 x4 x5 x7
  split
  · rename_i y28 y29 y30
    extract_lets x31
    have k32 : Keeps 9957449 s x31 := by
      unfold x31
      exact Keeps.step modCtx_keeps rfl ‹_›
    clear_value x31
    split
    · rename_i y33 y34
      assumption
    · rename_i y35 y36 y37
      refine Keeps.ite ?_ ?_
      · exact Keeps.step sendRead_keeps rfl ‹_›
      · assumption
  · rename_i y38 y39 y40
    exact Keeps.step modCtx_keeps rfl ‹_›
  · rename_i y41 y42 y43
    exact Keeps.step upd_trav rfl ‹_›
  · rename_i y44 y45 y46 y47
    exact Keeps.step upd_win rfl ‹_›
  · rename_i y48 y49 y50
    refine Keeps.step flushJournal_keeps rfl ?_
    exact Keeps.step flushFill_keeps rfl ‹_›

theorem replan_keeps {a0 a1 s} : Keeps 8192 s (replan a0 a1 s) := by
  unfold replan
  extract_lets x0 x1 x2
  have k3 : Keeps 8192 s x1 := by
    unfold x1
    exact Keeps.widen mapCmds_keeps rfl
  clear_value x1
  clear_value x0 x2
  exact Keeps.step upd_store rfl ‹_›

theorem addJob_keeps {a0 s} : Keeps 8192 s (addJob a0 s).2 := by
  unfold addJob
  extract_lets x0 x1
  clear_value x0 x1
  refine Keeps.mkSnd ?_
  exact Keeps.widen upd_store rfl

theorem flushPlan_keeps {a0 a1 s} : Keeps 8192 s (flushPlan a0 a1 s).2 := by
  unfold flushPlan
  split
  · rename_i y0 y1
    refine Keeps.mkSnd ?_
    exact Keeps.refl _ _
  · rename_i y2 y3 y4
    extract_lets x5 x6 x7 x8 x9 x10 x11
    have k12 : Keeps 8192 s x11 := by
      unfold x11
      exact Keeps.widen setFrame_keeps rfl
    clear_value x11
    clear_value x5 x6 x7 x8 x9 x10
    refine Keeps.iteSnd ?_ ?_
    · refine Keeps.mkSnd ?_
      assumption
    · split
      · rename_i y13 y14 y15 y16
        have k17 : Keeps 8192 s y15 := by
          refine Keeps.ofSnd y16 ?_
          exact Keeps.step addJob_keeps rfl ‹_›
        refine Keeps.mkSnd ?_
        assumption

theorem flushLose_keeps {a0 a1 a2 s} : Keeps 8757321 s (flushLose a0 a1 a2 s) := by
  unfold flushLose
  split
  · rename_i y0 y1
    exact Keeps.refl _ _
  · rename_i y2 y3 y4
    extract_lets x5 x6 x7
    have k8 : Keeps 8757321 s x6 := by
      unfold x6
      refine Keeps.foldl ?_ (fun t9 x10 k11 => ?_)
      · exact Keeps.refl _ _
      · exact Keeps.step lossAdd_keeps rfl ‹_›
    clear_value x6
    clear_value x5 x7
    exact Keeps.step setFrame_keeps rfl ‹_›

theorem restJob_keeps {a0 a1 a2 s} : Keeps 9957449 s (restJob a0 a1 a2 s) := by
  unfold restJob
  extract_lets x0
  refine Keeps.ite ?_ ?_
  · exact Keeps.widen deliver_keeps rfl
  · exact Keeps.widen setJob_keeps rfl

theorem failRows_keeps {a0 a1 a2 s} : Keeps 9957449 s (failRows a0 a1 a2 s) := by
  unfold failRows
  extract_lets x0 x1 x2 x3 x4 x5 x6 x7 x8 x9 x10 x11 x12
  have k13 : Keeps 9957449 s x2 := by
    unfold x2
    refine Keeps.ite ?_ ?_
    · exact Keeps.widen holdRow_keeps rfl
    · exact Keeps.widen bumpAt_keeps rfl
  clear_value x2
  have k14 : ∀ a15, Keeps 9957449 a15 (x3 a15) := by
    unfold x3
    intro v16
    refine Keeps.foldl ?_ (fun t17 x18 k19 => ?_)
    · exact Keeps.refl _ _
    · refine Keeps.step raise_keeps rfl ?_
      exact Keeps.step lossAdd_keeps rfl ‹_›
  clear_value x3
  have k20 : Keeps 9957449 s x5 := by
    unfold x5
    exact Keeps.step dropJob_keeps rfl ‹_›
  clear_value x5
  have k21 : Keeps 9957449 s x7 := by
    unfold x7
    refine Keeps.trans ?_ (k14 ..)
    assumption
  clear_value x7
  have k22 : Keeps 9957449 s x8 := by
    unfold x8
    refine Keeps.trans ?_ (k14 ..)
    assumption
  clear_value x8
  have k23 : Keeps 9957449 s x11 := by
    unfold x11
    exact Keeps.step upd_store rfl ‹_›
  clear_value x11
  clear_value x0 x1 x4 x6 x9 x10 x12
  split
  · rename_i y24 y25 y26
    split
    · rename_i y27 y28
      assumption
    · rename_i y29 y30 y31
      refine Keeps.ite ?_ ?_
      · exact Keeps.step finish_keeps rfl ‹_›
      · extract_lets x32
        clear_value x32
        refine Keeps.ite ?_ ?_
        · refine Keeps.step finish_keeps rfl ?_
          exact Keeps.step bump_keeps rfl ‹_›
        · exact Keeps.step finish_keeps rfl ‹_›
  · rename_i y33 y34 y35
    refine Keeps.ite ?_ ?_
    · refine Keeps.step modCtx_keeps rfl ?_
      exact Keeps.step dropJob_keeps rfl ‹_›
    · refine Keeps.step restJob_keeps rfl ?_
      refine Keeps.step modCtx_keeps rfl ?_
      refine Keeps.trans ?_ (k14 ..)
      assumption
  · rename_i y36 y37 y38
    refine Keeps.ite ?_ ?_
    · exact Keeps.step dropJob_keeps rfl ‹_›
    · refine Keeps.step restJob_keeps rfl ?_
      exact Keeps.step upd_trav rfl ‹_›
  · rename_i y39 y40 y41 y42
    refine Keeps.ite ?_ ?_
    · exact Keeps.step dropJob_keeps rfl ‹_›
    · refine Keeps.step restJob_keeps rfl ?_
      exact Keeps.step upd_win rfl ‹_›
  · rename_i y43 y44 y45
    refine Keeps.ite ?_ ?_
    · exact Keeps.step replan_keeps rfl ‹_›
    · split
      · rename_i y46 y47
        assumption
      · rename_i y48 y49 y50
        split
        · rename_i y51 y52
          assumption
        · rename_i y53 y54 y55
          refine Keeps.ite ?_ ?_
          · extract_lets x56 x57
            have k58 : Keeps 9957449 s x56 := by
              unfold x56
              exact Keeps.step replan_keeps rfl ‹_›
            clear_value x56
            clear_value x57
            exact Keeps.step upd_store rfl ‹_›
          · refine Keeps.step replan_keeps rfl ?_
            exact Keeps.step flushLose_keeps rfl ‹_›

theorem jobStep_keeps {a0 s} : Keeps 9957449 s (jobStep a0 s) := by
  unfold jobStep
  split
  · rename_i y0 y1
    exact Keeps.refl _ _
  · rename_i y2 y3 y4
    refine Keeps.ite ?_ ?_
    · exact Keeps.widen deliver_keeps rfl
    · extract_lets x5 x6
      have k7 : Keeps 9957449 s x6 := by
        unfold x6
        refine Keeps.ite ?_ ?_
        · exact Keeps.widen failRows_keeps rfl
        · exact Keeps.refl _ _
      clear_value x6
      clear_value x5
      split
      · rename_i y8 y9
        assumption
      · rename_i y10 y11 y12
        extract_lets x13 x14 x15 x16
        have k17 : Keeps 9957449 s x16 := by
          unfold x16
          exact Keeps.step jobRead_keeps rfl ‹_›
        clear_value x16
        clear_value x13 x14 x15
        refine Keeps.ite ?_ ?_
        · exact Keeps.step setJob_keeps rfl ‹_›
        · assumption

theorem startJob_keeps {a0 s} : Keeps 9957449 s (startJob a0 s) := by
  unfold startJob
  split
  · rename_i y0 y1
    exact Keeps.refl _ _
  · rename_i y2 y3 y4
    refine Keeps.step jobStep_keeps rfl ?_
    exact Keeps.widen jobRead_keeps rfl

theorem readBlocks_keeps {a0 a1 a2 s} : Keeps 9957449 s (readBlocks a0 a1 a2 s) := by
  unfold readBlocks
  extract_lets x0 x1
  clear_value x0 x1
  split
  · rename_i y2 y3 y4 y5
    have k6 : Keeps 9957449 s y4 := by
      refine Keeps.ofSnd y5 ?_
      refine Keeps.foldlSnd ?_ (fun t7 x8 k9 => ?_)
      · refine Keeps.mkSnd ?_
        exact Keeps.refl _ _
      · extract_lets x10
        clear_value x10
        split
        · rename_i y11 y12 y13 y14
          have k15 : Keeps 9957449 s y13 := by
            refine Keeps.ofSnd y14 ?_
            exact Keeps.step addJob_keeps rfl ‹_›
          refine Keeps.mkSnd ?_
          assumption
    refine Keeps.foldl ?_ (fun t16 x17 k18 => ?_)
    · assumption
    · exact Keeps.step startJob_keeps rfl ‹_›

theorem markOmitted_keeps {a0 a1 a2 s} : Keeps 8462345 s (markOmitted a0 a1 a2 s) := by
  unfold markOmitted
  extract_lets x0
  clear_value x0
  refine Keeps.foldl ?_ (fun t1 x2 k3 => ?_)
  · exact Keeps.refl _ _
  · extract_lets x4
    clear_value x4
    split
    · rename_i y5 y6
      assumption
    · rename_i y7 y8 y9
      refine Keeps.ite ?_ ?_
      · assumption
      · refine Keeps.step journalArea_keeps rfl ?_
        exact Keeps.step setMember_keeps rfl ‹_›

theorem startFlush_keeps {a0 s} : Keeps 9957449 s (startFlush a0 s) := by
  unfold startFlush
  split
  · rename_i y0 y1
    exact Keeps.refl _ _
  · rename_i y2 y3 y4
    extract_lets x5 x6 x7 x8 x9 x10 x11 x12 x13
    have k14 : Keeps 9957449 s x7 := by
      unfold x7
      exact Keeps.widen markOmitted_keeps rfl
    clear_value x7
    have k15 : Keeps 9957449 s x13 := by
      unfold x13
      refine Keeps.ite ?_ ?_
      · exact Keeps.step bump_keeps rfl ‹_›
      · exact Keeps.step bump_keeps rfl ‹_›
    clear_value x13
    clear_value x5 x6 x8 x9 x10 x11 x12
    split
    · rename_i y16 y17 y18
      have k19 : Keeps 9957449 s y17 := by
        refine Keeps.ofSnd y18 ?_
        exact Keeps.step flushPlan_keeps rfl ‹_›
      exact Keeps.step flushJournal_keeps rfl ‹_›
    · rename_i y20 y21 y22 y23
      have k24 : Keeps 9957449 s y22 := by
        refine Keeps.ofSnd y23 ?_
        exact Keeps.step flushPlan_keeps rfl ‹_›
      exact Keeps.step startJob_keeps rfl ‹_›

theorem flushStrips_keeps {a0 s} : Keeps 8462345 s (flushStrips a0 s) := by
  unfold flushStrips
  split
  · rename_i y0 y1
    exact Keeps.refl _ _
  · rename_i y2 y3 y4
    split
    · rename_i y5 y6
      exact Keeps.refl _ _
    · rename_i y7 y8 y9
      extract_lets x10 x11 x12 x13 x14 x15 x16 x17 x18
      have k19 : ∀ a20 a21, Keeps 8462345 a21 (x15 a20 a21) := by
        unfold x15
        intro v22 v23
        split
        · rename_i y24 y25 y26 y27
          extract_lets x28
          have k29 : Keeps 8462345 v23 x28 := by
            unfold x28
            refine Keeps.ite ?_ ?_
            · exact Keeps.widen issueSealed_keeps rfl
            · exact Keeps.refl _ _
          clear_value x28
          split
          · rename_i y30 y31 y32 y33
            refine Keeps.ite ?_ ?_
            · exact Keeps.step issueSealed_keeps rfl ‹_›
            · assumption
      clear_value x15
      have k34 : Keeps 8462345 s x17 := by
        unfold x17
        refine Keeps.foldl ?_ (fun t35 x36 k37 => ?_)
        · exact Keeps.refl _ _
        · refine Keeps.trans ?_ (k19 ..)
          assumption
      clear_value x17
      clear_value x10 x11 x12 x13 x14 x16 x18
      exact Keeps.step upd_store rfl ‹_›

theorem travHeld_keeps {a0 a1 s} : Keeps 1396809 s (travHeld a0 a1 s) := by
  unfold travHeld
  refine Keeps.foldl ?_ (fun t0 x1 k2 => ?_)
  · exact Keeps.refl _ _
  · extract_lets x3 x4 x5 x6
    have k7 : Keeps 1396809 s x6 := by
      unfold x6
      exact Keeps.step upd_trav rfl ‹_›
    clear_value x6
    clear_value x5
    refine Keeps.ite ?_ ?_
    · exact Keeps.step finish_keeps rfl ‹_›
    · assumption

theorem carriedClean_keeps {a0 a1 s} : Keeps 1429577 s (carriedClean a0 a1 s) := by
  unfold carriedClean
  extract_lets x0
  have k1 : Keeps 1429577 s x0 := by
    unfold x0
    refine Keeps.step travHeld_keeps rfl ?_
    exact Keeps.widen mirrorNote_keeps rfl
  clear_value x0
  refine Keeps.foldl ?_ (fun t2 x3 k4 => ?_)
  · assumption
  · extract_lets x5
    clear_value x5
    refine Keeps.step tryComplete_keeps rfl ?_
    exact Keeps.step modCtx_keeps rfl ‹_›

theorem flushDone_keeps {a0 s} : Keeps 14544985 s (flushDone a0 s) := by
  unfold flushDone
  split
  · rename_i y0 y1
    exact Keeps.refl _ _
  · rename_i y2 y3 y4
    split
    · rename_i y5 y6
      exact Keeps.refl _ _
    · rename_i y7 y8 y9
      extract_lets x10 x11 x12 x13
      have k14 : Keeps 14544985 s x10 := by
        unfold x10
        refine Keeps.foldl ?_ (fun t15 x16 k17 => ?_)
        · exact Keeps.refl _ _
        · exact Keeps.step journalRetire_keeps rfl ‹_›
      clear_value x10
      have k18 : Keeps 14544985 s x13 := by
        unfold x13
        split
        · rename_i y19 y20
          exact Keeps.step setFrame_keeps rfl ‹_›
        · rename_i y21 y22 y23
          exact Keeps.step upd_store rfl ‹_›
      clear_value x13
      clear_value x11 x12
      refine Keeps.step ringRetry_keeps rfl ?_
      refine Keeps.step resumeDeferred_keeps rfl ?_
      exact Keeps.step carriedClean_keeps rfl ‹_›

end Sys2Proof.Machine
end

