-- ==== Sys2Proof/Laws/KeepsEffectOps.lean ====
section
/-!
SUPPORT. Laws/KeepsEffectOps.lean: which units of the state each operation of Machine/EffectOps.lean may change: one `Keeps` lemma each.
-/
namespace Sys2Proof.Machine

theorem pinReader_keeps {a0 s} : Keeps 9957449 s (pinReader a0 s) := by
  unfold pinReader
  split
  · rename_i y0 y1
    exact Keeps.refl _ _
  · rename_i y2 y3 y4
    extract_lets x5 x6 x7 x8 x9 x10
    have k11 : Keeps 9957449 s x9 := by
      unfold x9
      exact Keeps.widen upd_store rfl
    clear_value x9
    have k12 : Keeps 9957449 s x10 := by
      unfold x10
      exact Keeps.step setCtx_keeps rfl ‹_›
    clear_value x10
    clear_value x5 x6 x7 x8
    split
    · rename_i y13 y14 y15
      exact Keeps.widen finish_keeps rfl
    · rename_i y16 y17
      refine Keeps.ite ?_ ?_
      · exact Keeps.step sendRead_keeps rfl ‹_›
      · exact Keeps.step readBlocks_keeps rfl ‹_›

theorem pinReaders_keeps {s} : Keeps 9957449 s (pinReaders s) := by
  unfold pinReaders
  refine Keeps.foldl ?_ (fun t0 x1 k2 => ?_)
  · exact Keeps.refl _ _
  · refine Keeps.ite ?_ ?_
    · assumption
    · exact Keeps.step pinReader_keeps rfl ‹_›

theorem failWriter_keeps {a0 a1 a2 a3 a4 s} : Keeps 9957449 s (failWriter a0 a1 a2 a3 a4 s) := by
  unfold failWriter
  split
  · rename_i y0 y1
    exact Keeps.refl _ _
  · rename_i y2 y3 y4
    extract_lets x5 x6
    have k7 : ∀ a8 a9, Keeps 9957449 a9 (x5 a8 a9) := by
      unfold x5
      intro v10 v11
      exact Keeps.widen setCtx_keeps rfl
    clear_value x5
    have k12 : Keeps 9957449 s x6 := by
      unfold x6
      refine Keeps.ite ?_ ?_
      · split
        · rename_i y13 y14 y15 y16
          have k17 : Keeps 9957449 s y15 := by
            refine Keeps.ofSnd y16 ?_
            exact Keeps.widen mseqSend_keeps rfl
          refine Keeps.trans ?_ (k7 ..)
          assumption
      · apply k7
    clear_value x6
    refine Keeps.step tryComplete_keeps rfl ?_
    exact Keeps.step pinReaders_keeps rfl ‹_›

theorem takeEffect_keeps {a0 s} : Keeps 14676057 s (takeEffect a0 s) := by
  unfold takeEffect
  split
  · rename_i y0 y1
    exact Keeps.refl _ _
  · rename_i y2 y3 y4
    refine Keeps.ite ?_ ?_
    · exact Keeps.refl _ _
    · refine Keeps.ite ?_ ?_
      · exact Keeps.widen failWriter_keeps rfl
      · extract_lets x5 x6 x7 x8 x9
        have k10 : Keeps 14676057 s x7 := by
          unfold x7
          exact Keeps.widen bumpAt_keeps rfl
        clear_value x7
        clear_value x5 x6 x8 x9
        split
        · rename_i y11 y12
          extract_lets x13
          have k14 : Keeps 14676057 s x13 := by
            unfold x13
            exact Keeps.step raise_keeps rfl ‹_›
          clear_value x13
          exact Keeps.step failWriter_keeps rfl ‹_›
        · rename_i y15
          split
          · rename_i y16 y17
            exact Keeps.refl _ _
          · rename_i y18 y19 y20
            have k21 : Keeps 14676057 s y19 := by
              refine Keeps.ofSome y20 ?_
              refine Keeps.stepO landBlocks_keeps rfl ?_
              exact Keeps.refl _ _
            extract_lets x22
            have k23 : Keeps 14676057 s x22 := by
              unfold x22
              exact Keeps.step modCtx_keeps rfl ‹_›
            clear_value x22
            refine Keeps.step tryComplete_keeps rfl ?_
            refine Keeps.step pressureCheck_keeps rfl ?_
            exact Keeps.step pinReaders_keeps rfl ‹_›

end Sys2Proof.Machine
end

