-- ==== Sys2Proof/Laws/KeepsTravOps.lean ====
section
/-!
SUPPORT. Laws/KeepsTravOps.lean: which units of the state each operation of Machine/TravOps.lean may change: one `Keeps` lemma each.
-/
namespace Sys2Proof.Machine

theorem setTrav_keeps {a0 a1 s} : Keeps 16384 s (setTrav a0 a1 s) := by
  unfold setTrav
  exact Keeps.widen upd_trav rfl

theorem outcomePut_keeps {a0 s} : Keeps 16384 s (outcomePut a0 s) := by
  unfold outcomePut
  refine Keeps.ite ?_ ?_
  · exact Keeps.widen upd_trav rfl
  · exact Keeps.widen upd_trav rfl

theorem travAnswer_keeps {a0 a1 s} : Keeps 1396809 s (travAnswer a0 a1 s) := by
  unfold travAnswer
  split
  · rename_i y0 y1
    exact Keeps.refl _ _
  · rename_i y2 y3 y4
    split
    · rename_i y5 y6 y7 y8 y9 y10
      refine Keeps.step finish_keeps rfl ?_
      refine Keeps.step bump_keeps rfl ?_
      exact Keeps.widen upd_trav rfl

theorem travRefuse_keeps {a0 a1 a2 a3 a4 s} : Keeps 1396809 s (travRefuse a0 a1 a2 a3 a4 s) := by
  unfold travRefuse
  split
  · rename_i y0 y1
    exact Keeps.refl _ _
  · rename_i y2 y3 y4
    refine Keeps.step finish_keeps rfl ?_
    refine Keeps.step bump_keeps rfl ?_
    exact Keeps.widen upd_trav rfl

theorem travPull_keeps {a0 s} : Keeps 1310793 s (travPull a0 s) := by
  unfold travPull
  split
  · rename_i y0 y1
    exact Keeps.refl _ _
  · rename_i y2 y3 y4
    split
    · rename_i y5 y6
      exact Keeps.refl _ _
    · rename_i y7 y8 y9
      refine Keeps.ite ?_ ?_
      · exact Keeps.refl _ _
      · exact Keeps.widen pullHost_keeps rfl

theorem travWake_keeps {a0 a1 s} : Keeps 1396809 s (travWake a0 a1 s) := by
  unfold travWake
  extract_lets x0
  clear_value x0
  split
  · rename_i y1 y2 y3
    refine Keeps.foldl ?_ (fun t4 x5 k6 => ?_)
    · exact Keeps.refl _ _
    · exact Keeps.step travAnswer_keeps rfl ‹_›
  · rename_i y7 y8
    split
    · rename_i y9
      exact Keeps.refl _ _
    · rename_i y10 y11 y12
      refine Keeps.step travPull_keeps rfl ?_
      exact Keeps.widen setTrav_keeps rfl

theorem travFree_keeps {a0 s} : Keeps 98313 s (travFree a0 s) := by
  unfold travFree
  refine Keeps.foldl ?_ (fun t0 x1 k2 => ?_)
  · exact Keeps.refl _ _
  · refine Keeps.ite ?_ ?_
    · exact Keeps.step mirrorNote_keeps rfl ‹_›
    · assumption

theorem travUnhold_keeps {a0 s} : Keeps 4096 s (travUnhold a0 s) := by
  unfold travUnhold
  refine Keeps.foldl ?_ (fun t0 x1 k2 => ?_)
  · exact Keeps.refl _ _
  · exact Keeps.step modNs_keeps rfl ‹_›

theorem travAbandon_keeps {a0 a1 a2 s} : Keeps 9957449 s (travAbandon a0 a1 a2 s) := by
  unfold travAbandon
  split
  · rename_i y0 y1
    exact Keeps.refl _ _
  · rename_i y2 y3 y4
    extract_lets x5 x6 x7 x8 x9 x10 x11
    have k12 : Keeps 9957449 s x6 := by
      unfold x6
      refine Keeps.step travUnhold_keeps rfl ?_
      refine Keeps.step travFree_keeps rfl ?_
      exact Keeps.widen upd_trav rfl
    clear_value x6
    have k13 : Keeps 9957449 s x8 := by
      unfold x8
      exact Keeps.step upd_store rfl ‹_›
    clear_value x8
    have k14 : Keeps 9957449 s x9 := by
      unfold x9
      refine Keeps.step raise_keeps rfl ?_
      exact Keeps.step bump_keeps rfl ‹_›
    clear_value x9
    have k15 : Keeps 9957449 s x11 := by
      unfold x11
      refine Keeps.ite ?_ ?_
      · exact Keeps.step upd_nvm rfl ‹_›
      · split
        · rename_i y16 y17 y18 y19
          exact Keeps.step finish_keeps rfl ‹_›
        · rename_i y20
          exact Keeps.step finish_keeps rfl ‹_›
    clear_value x11
    clear_value x5 x7 x10
    refine Keeps.step travWake_keeps rfl ?_
    exact Keeps.step pinReaders_keeps rfl ‹_›

theorem travVault_keeps {s} : Keeps 9957449 s (travVault s) := by
  unfold travVault
  extract_lets x0 x1 x2
  have k3 : Keeps 9957449 s x2 := by
    unfold x2
    refine Keeps.step raise_keeps rfl ?_
    exact Keeps.widen upd_trav rfl
  clear_value x2
  clear_value x0 x1
  refine Keeps.ite ?_ ?_
  · exact Keeps.refl _ _
  · refine Keeps.ite ?_ ?_
    · refine Keeps.foldl ?_ (fun t4 x5 k6 => ?_)
      · assumption
      · exact Keeps.step travAbandon_keeps rfl ‹_›
    · assumption

theorem travAdmit_keeps {a0 a1 a2 a3 a4 a5 a6 s} : Keeps 1396809 s (travAdmit a0 a1 a2 a3 a4 a5 a6 s) := by
  unfold travAdmit
  extract_lets x0 x1 x2 x3 x4 x5 x6 x7
  have k8 : Keeps 1396809 s x4 := by
    unfold x4
    refine Keeps.step setTrav_keeps rfl ?_
    exact Keeps.widen upd_trav rfl
  clear_value x4
  have k9 : ∀ a10, Keeps 1396809 a10 (x5 a10) := by
    unfold x5
    intro v11
    refine Keeps.ite ?_ ?_
    · refine Keeps.step raise_keeps rfl ?_
      exact Keeps.widen upd_trav rfl
    · exact Keeps.refl _ _
  clear_value x5
  clear_value x0 x1 x2 x3 x6 x7
  refine Keeps.ite ?_ ?_
  · exact Keeps.step travRefuse_keeps rfl ‹_›
  · refine Keeps.ite ?_ ?_
    · exact Keeps.step travRefuse_keeps rfl ‹_›
    · refine Keeps.ite ?_ ?_
      · refine Keeps.step travRefuse_keeps rfl ?_
        exact Keeps.step upd_trav rfl ‹_›
      · refine Keeps.ite ?_ ?_
        · exact Keeps.step travRefuse_keeps rfl ‹_›
        · split
          · rename_i y12 y13 y14
            exact Keeps.step travAnswer_keeps rfl ‹_›
          · rename_i y15 y16
            refine Keeps.trans ?_ (k9 ..)
            refine Keeps.ite ?_ ?_
            · exact Keeps.step setTrav_keeps rfl ‹_›
            · exact Keeps.step travPull_keeps rfl ‹_›

theorem stageBlock_keeps {a0 a1 a2 s} : Keeps 114697 s (stageBlock a0 a1 a2 s) := by
  unfold stageBlock
  split
  · rename_i y0 y1
    exact Keeps.refl _ _
  · rename_i y2 y3 y4
    refine Keeps.ite ?_ ?_
    · exact Keeps.refl _ _
    · split
      · rename_i y5 y6
        exact Keeps.refl _ _
      · rename_i y7 y8 y9
        split
        · rename_i y10 y11
          exact Keeps.refl _ _
        · rename_i y12 y13 y14
          refine Keeps.ite ?_ ?_
          · exact Keeps.refl _ _
          · extract_lets x15 x16
            have k17 : Keeps 114697 s x15 := by
              unfold x15
              exact Keeps.widen setTrav_keeps rfl
            clear_value x15
            clear_value x16
            refine Keeps.ite ?_ ?_
            · assumption
            · split
              · rename_i y18 y19 y20 y21
                have k22 : Keeps 114697 s y20 := by
                  refine Keeps.ofSnd y21 ?_
                  exact Keeps.step mseqSend_keeps rfl ‹_›
                refine Keeps.ite ?_ ?_
                · assumption
                · exact Keeps.step upd_trav rfl ‹_›

theorem travPullData_keeps {a0 s} : Keeps 1425481 s (travPullData a0 s) := by
  unfold travPullData
  split
  · rename_i y0 y1
    exact Keeps.refl _ _
  · rename_i y2 y3 y4
    extract_lets x5 x6 x7 x8
    have k9 : Keeps 1425481 s x6 := by
      unfold x6
      exact Keeps.widen setTrav_keeps rfl
    clear_value x6
    have k10 : Keeps 1425481 s x8 := by
      unfold x8
      refine Keeps.foldl ?_ (fun t11 x12 k13 => ?_)
      · assumption
      · exact Keeps.step stageBlock_keeps rfl ‹_›
    clear_value x8
    clear_value x5 x7
    refine Keeps.ite ?_ ?_
    · refine Keeps.ite ?_ ?_
      · exact Keeps.refl _ _
      · refine Keeps.step raise_keeps rfl ?_
        refine Keeps.step bump_keeps rfl ?_
        exact Keeps.widen setTrav_keeps rfl
    · split
      · rename_i y14 y15
        assumption
      · rename_i y16 y17 y18
        refine Keeps.ite ?_ ?_
        · assumption
        · exact Keeps.step pullHost_keeps rfl ‹_›

theorem travResume_keeps {s} : Keeps 1425481 s (travResume s) := by
  unfold travResume
  refine Keeps.foldl ?_ (fun t0 x1 k2 => ?_)
  · exact Keeps.refl _ _
  · exact Keeps.step travPullData_keeps rfl ‹_›

theorem limitEval_keeps {s} : Keeps 14678105 s (limitEval s) := by
  unfold limitEval
  refine Keeps.step travResume_keeps rfl ?_
  refine Keeps.step resumeDeferred_keeps rfl ?_
  refine Keeps.step travVault_keeps rfl ?_
  exact Keeps.widen setLimit_keeps rfl

theorem travTable_keeps {a0 a1 s} : Keeps 9957449 s (travTable a0 a1 s) := by
  unfold travTable
  split
  · rename_i y0 y1
    exact Keeps.refl _ _
  · rename_i y2 y3 y4
    refine Keeps.ite ?_ ?_
    · exact Keeps.refl _ _
    · extract_lets x5 x6 x7 x8 x9 x10
      have k11 : Keeps 9957449 s x8 := by
        unfold x8
        refine Keeps.step setTrav_keeps rfl ?_
        exact Keeps.widen upd_trav rfl
      clear_value x8
      have k12 : Keeps 9957449 s x9 := by
        unfold x9
        exact Keeps.step travPullData_keeps rfl ‹_›
      clear_value x9
      clear_value x5 x6 x7 x10
      split
      · rename_i y13 y14 y15 y16 y17 y18
        exact Keeps.widen travRefuse_keeps rfl
      · rename_i y19 y20
        refine Keeps.foldl ?_ (fun t21 x22 k23 => ?_)
        · assumption
        · exact Keeps.step readBlocks_keeps rfl ‹_›

theorem travFail_keeps {a0 a1 a2 a3 s} : Keeps 9957449 s (travFail a0 a1 a2 a3 s) := by
  unfold travFail
  split
  · rename_i y0 y1
    exact Keeps.refl _ _
  · rename_i y2 y3 y4
    extract_lets x5 x6 x7 x8 x9
    have k10 : Keeps 9957449 s x7 := by
      unfold x7
      refine Keeps.step travFree_keeps rfl ?_
      refine Keeps.step outcomePut_keeps rfl ?_
      exact Keeps.widen upd_trav rfl
    clear_value x7
    have k11 : Keeps 9957449 s x8 := by
      unfold x8
      refine Keeps.ite ?_ ?_
      · split
        · rename_i y12 y13
          assumption
        · rename_i y14 y15 y16
          exact Keeps.step bumpAt_keeps rfl ‹_›
      · assumption
    clear_value x8
    have k17 : Keeps 9957449 s x9 := by
      unfold x9
      exact Keeps.step bump_keeps rfl ‹_›
    clear_value x9
    clear_value x5 x6
    split
    · rename_i y18 y19 y20 y21 y22 y23
      extract_lets x24
      have k25 : Keeps 9957449 s x24 := by
        unfold x24
        refine Keeps.ite ?_ ?_
        · split
          · rename_i y26 y27 y28 y29
            have k30 : Keeps 9957449 s y28 := by
              refine Keeps.ofSnd y29 ?_
              exact Keeps.step mseqSend_keeps rfl ‹_›
            exact Keeps.step modCtx_keeps rfl ‹_›
        · exact Keeps.step modCtx_keeps rfl ‹_›
      clear_value x24
      refine Keeps.step travWake_keeps rfl ?_
      refine Keeps.step tryComplete_keeps rfl ?_
      exact Keeps.step pinReaders_keeps rfl ‹_›

theorem travClose_keeps {a0 s} : Keeps 8511497 s (travClose a0 s) := by
  unfold travClose
  split
  · rename_i y0 y1
    exact Keeps.refl _ _
  · rename_i y2 y3 y4
    extract_lets x5 x6 x7 x8
    clear_value x5 x6 x7 x8
    refine Keeps.ite ?_ ?_
    · exact Keeps.refl _ _
    · split
      · rename_i y9 y10 y11 y12
        have k13 : Keeps 8511497 s y11 := by
          refine Keeps.ofSnd y12 ?_
          exact Keeps.widen journalAdd_keeps rfl
        extract_lets x14 x15
        have k16 : Keeps 8511497 s x14 := by
          unfold x14
          refine Keeps.step mirrorNote_keeps rfl ?_
          exact Keeps.step outcomePut_keeps rfl ‹_›
        clear_value x14
        clear_value x15
        exact Keeps.step setTrav_keeps rfl ‹_›

theorem travLand_keeps {a0 a1 s} : KeepsO 13492313 s (travLand a0 a1 s) := by
  unfold travLand
  refine KeepsO.foldl ?_ (fun t0 x1 k2 => ?_)
  · refine KeepsO.some ?_
    exact Keeps.refl _ _
  · split
    · rename_i y3
      exact KeepsO.none
    · rename_i y4 y5
      split
      · rename_i y6 y7
        refine KeepsO.some ?_
        exact k2 _ rfl
      · rename_i y8 y9 y10
        split
        · rename_i y11 y12
          refine KeepsO.some ?_
          exact k2 _ rfl
        · rename_i y13 y14 y15
          extract_lets x16 x17
          clear_value x16 x17
          refine KeepsO.ite ?_ ?_
          · refine KeepsO.some ?_
            refine Keeps.step upd_store rfl ?_
            exact k2 _ rfl
          · refine Keeps.stepO landBlock_keeps rfl ?_
            exact k2 _ rfl

theorem travRetire_keeps {s} : Keeps 9826377 s (travRetire s) := by
  unfold travRetire
  refine Keeps.step travResume_keeps rfl ?_
  refine Keeps.foldl ?_ (fun t0 x1 k2 => ?_)
  · exact Keeps.refl _ _
  · extract_lets x3 x4 x5 x6
    have k7 : Keeps 9826377 s x6 := by
      unfold x6
      refine Keeps.step journalRetire_keeps rfl ?_
      exact Keeps.step upd_trav rfl ‹_›
    clear_value x6
    clear_value x5
    clear_value x4
    refine Keeps.ite ?_ ?_
    · exact Keeps.step setTrav_keeps rfl ‹_›
    · refine Keeps.ite ?_ ?_
      · exact Keeps.step finish_keeps rfl ‹_›
      · assumption

theorem travCommit_keeps {a0 s} : Keeps 14676057 s (travCommit a0 s) := by
  unfold travCommit
  split
  · rename_i y0 y1
    exact Keeps.refl _ _
  · rename_i y2 y3 y4
    refine Keeps.ite ?_ ?_
    · exact Keeps.refl _ _
    · extract_lets x5
      clear_value x5
      split
      · rename_i y6 y7
        exact Keeps.refl _ _
      · rename_i y8 y9 y10
        have k11 : Keeps 14676057 s y9 := by
          refine Keeps.ofSome y10 ?_
          refine Keeps.stepO travLand_keeps rfl ?_
          exact Keeps.refl _ _
        extract_lets x12 x13 x14 x15 x16
        have k17 : Keeps 14676057 s x14 := by
          unfold x14
          exact Keeps.step setTrav_keeps rfl ‹_›
        clear_value x14
        have k18 : Keeps 14676057 s x15 := by
          unfold x15
          exact Keeps.step bump_keeps rfl ‹_›
        clear_value x15
        have k19 : Keeps 14676057 s x16 := by
          unfold x16
          refine Keeps.ite ?_ ?_
          · exact Keeps.step modCtx_keeps rfl ‹_›
          · exact Keeps.step finish_keeps rfl ‹_›
        clear_value x16
        clear_value x12 x13
        refine Keeps.step travRetire_keeps rfl ?_
        refine Keeps.step travWake_keeps rfl ?_
        refine Keeps.step pressureCheck_keeps rfl ?_
        exact Keeps.step pinReaders_keeps rfl ‹_›

end Sys2Proof.Machine
end

