-- ==== Sys2Proof/Laws/KeepsWinOps.lean ====
section
/-!
SUPPORT. Laws/KeepsWinOps.lean: which units of the state each operation of Machine/WinOps.lean may change: one `Keeps` lemma each.
-/
namespace Sys2Proof.Machine

theorem setWin_keeps {a0 a1 s} : Keeps 229385 s (setWin a0 a1 s) := by
  unfold setWin
  refine Keeps.step mirrorNote_keeps rfl ?_
  exact Keeps.widen upd_win rfl

theorem winState_keeps {a0 a1 s} : Keeps 491593 s (winState a0 a1 s) := by
  unfold winState
  refine Keeps.step raise_keeps rfl ?_
  exact Keeps.widen setWin_keeps rfl

theorem setKeyEnt_keeps {a0 a1 s} : Keeps 229385 s (setKeyEnt a0 a1 s) := by
  unfold setKeyEnt
  refine Keeps.step mirrorNote_keeps rfl ?_
  exact Keeps.widen upd_win rfl

theorem pageDrop_keeps {a0 a1 s} : Keeps 139264 s (pageDrop a0 a1 s) := by
  unfold pageDrop
  extract_lets x0 x1 x2
  clear_value x0 x1 x2
  exact Keeps.widen upd_store_win rfl

theorem stamp_keeps {a0 s} : Keeps 102409 s (stamp a0 s).2 := by
  unfold stamp
  split
  · rename_i y0 y1
    refine Keeps.mkSnd ?_
    exact Keeps.refl _ _
  · rename_i y2 y3 y4
    extract_lets x5 x6 x7
    have k8 : Keeps 102409 s x7 := by
      unfold x7
      refine Keeps.ite ?_ ?_
      · split
        · rename_i y9 y10 y11 y12
          have k13 : Keeps 102409 s y11 := by
            refine Keeps.ofSnd y12 ?_
            exact Keeps.widen mseqSend_keeps rfl
          exact Keeps.step modNs_keeps rfl ‹_›
      · exact Keeps.refl _ _
    clear_value x7
    clear_value x5 x6
    refine Keeps.iteSnd ?_ ?_
    · refine Keeps.mkSnd ?_
      assumption
    · refine Keeps.mkSnd ?_
      exact Keeps.step modNs_keeps rfl ‹_›

theorem writeBack_keeps {a0 a1 s} : Keeps 13496409 s (writeBack a0 a1 s) := by
  unfold writeBack
  split
  · rename_i y0 y1
    exact Keeps.refl _ _
  · rename_i y2 y3 y4
    refine Keeps.ite ?_ ?_
    · exact Keeps.refl _ _
    · refine Keeps.ite ?_ ?_
      · exact Keeps.widen upd_store rfl
      · split
        · rename_i y5 y6 y7
          have k8 : Keeps 13496409 s y6 := by
            refine Keeps.ofSnd y7 ?_
            exact Keeps.widen stamp_keeps rfl
          assumption
        · rename_i y9 y10 y11 y12
          have k13 : Keeps 13496409 s y11 := by
            refine Keeps.ofSnd y12 ?_
            exact Keeps.widen stamp_keeps rfl
          split
          · rename_i y14 y15
            assumption
          · rename_i y16 y17 y18
            have k19 : Keeps 13496409 s y17 := by
              refine Keeps.ofSome y18 ?_
              refine Keeps.stepO landBlock_keeps rfl ?_
              assumption
            exact Keeps.step upd_store rfl ‹_›

theorem writeBackPage_keeps {a0 a1 s} : Keeps 13496409 s (writeBackPage a0 a1 s) := by
  unfold writeBackPage
  extract_lets x0
  clear_value x0
  refine Keeps.foldl ?_ (fun t1 x2 k3 => ?_)
  · exact Keeps.refl _ _
  · exact Keeps.step writeBack_keeps rfl ‹_›

theorem takePage_keeps {a0 a1 s} : Keeps 13627481 s (takePage a0 a1 s).2 := by
  unfold takePage
  refine Keeps.iteSnd ?_ ?_
  · refine Keeps.mkSnd ?_
    exact Keeps.refl _ _
  · split
    · rename_i y0 y1 y2 y3
      extract_lets x4
      have k5 : Keeps 13627481 s x4 := by
        unfold x4
        refine Keeps.step bump_keeps rfl ?_
        exact Keeps.widen pageDrop_keeps rfl
      clear_value x4
      refine Keeps.mkSnd ?_
      assumption
    · rename_i y6 y7
      extract_lets x8 x9
      have k10 : Keeps 13627481 s x9 := by
        unfold x9
        refine Keeps.ite ?_ ?_
        · exact Keeps.refl _ _
        · refine Keeps.step raise_keeps rfl ?_
          exact Keeps.widen upd_win rfl
      clear_value x9
      clear_value x8
      split
      · rename_i y11 y12
        refine Keeps.mkSnd ?_
        assumption
      · rename_i y13 y14 y15 y16
        extract_lets x17 x18 x19
        have k20 : Keeps 13627481 s x17 := by
          unfold x17
          exact Keeps.step writeBackPage_keeps rfl ‹_›
        clear_value x17
        have k21 : Keeps 13627481 s x19 := by
          unfold x19
          refine Keeps.step bump_keeps rfl ?_
          refine Keeps.step pageDrop_keeps rfl ?_
          exact Keeps.step upd_win rfl ‹_›
        clear_value x19
        clear_value x18
        refine Keeps.iteSnd ?_ ?_
        · refine Keeps.mkSnd ?_
          assumption
        · refine Keeps.mkSnd ?_
          assumption

theorem faultPage_keeps {a0 a1 s} : Keeps 14676057 s (faultPage a0 a1 s) := by
  unfold faultPage
  refine Keeps.ite ?_ ?_
  · exact Keeps.refl _ _
  · split
    · rename_i y0 y1 y2
      have k3 : Keeps 14676057 s y1 := by
        refine Keeps.ofSnd y2 ?_
        exact Keeps.widen takePage_keeps rfl
      assumption
    · rename_i y4 y5 y6
      have k7 : Keeps 14676057 s y5 := by
        refine Keeps.ofSnd y6 ?_
        exact Keeps.widen takePage_keeps rfl
      extract_lets x8 x9 x10 x11 x12 x13 x14
      have k15 : Keeps 14676057 s x12 := by
        unfold x12
        refine Keeps.foldl ?_ (fun t16 x17 k18 => ?_)
        · assumption
        · split
          · rename_i y19 y20 y21
            exact Keeps.step upd_store rfl ‹_›
          · rename_i y22 y23
            refine Keeps.step raise_keeps rfl ?_
            exact Keeps.step upd_store rfl ‹_›
          · rename_i y24 y25
            assumption
      clear_value x12
      have k26 : Keeps 14676057 s x14 := by
        unfold x14
        exact Keeps.step upd_win rfl ‹_›
      clear_value x14
      clear_value x8 x9 x10 x11 x13
      exact Keeps.step readBlocks_keeps rfl ‹_›

theorem chainEnd_keeps {a0 a1 a2 s} : Keeps 393289 s (chainEnd a0 a1 a2 s) := by
  unfold chainEnd
  refine Keeps.foldl ?_ (fun t0 x1 k2 => ?_)
  · exact Keeps.refl _ _
  · extract_lets x3 x4
    clear_value x3 x4
    refine Keeps.step ringDone_keeps rfl ?_
    exact Keeps.step upd_win rfl ‹_›

theorem chainCheck_keeps {a0 s} : Keeps 393289 s (chainCheck a0 s) := by
  unfold chainCheck
  extract_lets x0
  clear_value x0
  refine Keeps.ite ?_ ?_
  · exact Keeps.widen chainEnd_keeps rfl
  · exact Keeps.widen chainEnd_keeps rfl

theorem tallyRaise_keeps {a0 a1 a2 s} : Keeps 491593 s (tallyRaise a0 a1 a2 s) := by
  unfold tallyRaise
  extract_lets x0 x1 x2
  have k3 : Keeps 491593 s x2 := by
    unfold x2
    refine Keeps.step bump_keeps rfl ?_
    exact Keeps.widen setWin_keeps rfl
  clear_value x2
  clear_value x0 x1
  exact Keeps.step chainEnd_keeps rfl ‹_›

theorem winRefuse_keeps {a0 a1 s} : Keeps 1380425 s (winRefuse a0 a1 s) := by
  unfold winRefuse
  exact Keeps.widen finish_keeps rfl

theorem bindAdmit_keeps {a0 a1 a2 a3 a4 a5 a6 a7 s} : Keeps 14676057 s (bindAdmit a0 a1 a2 a3 a4 a5 a6 a7 s) := by
  unfold bindAdmit
  refine Keeps.ite ?_ ?_
  · exact Keeps.widen finish_keeps rfl
  · refine Keeps.ite ?_ ?_
    · exact Keeps.widen finish_keeps rfl
    · extract_lets x0 x1 x2 x3
      clear_value x0 x1 x2 x3
      split
      · rename_i y4 y5 y6 y7 y8
        exact Keeps.widen winRefuse_keeps rfl
      · rename_i y9 y10 y11
        exact Keeps.widen winRefuse_keeps rfl
      · rename_i y12 y13 y14 y15
        extract_lets x16
        have k17 : Keeps 14676057 s x16 := by
          unfold x16
          refine Keeps.step raise_keeps rfl ?_
          refine Keeps.step setWin_keeps rfl ?_
          exact Keeps.widen upd_win rfl
        clear_value x16
        refine Keeps.ite ?_ ?_
        · refine Keeps.foldl ?_ (fun t18 x19 k20 => ?_)
          · assumption
          · exact Keeps.step faultPage_keeps rfl ‹_›
        · assumption

theorem bindComplete_keeps {a0 s} : Keeps 9957449 s (bindComplete a0 s) := by
  unfold bindComplete
  split
  · rename_i y0 y1
    exact Keeps.refl _ _
  · rename_i y2 y3 y4
    split
    · rename_i y5 y6
      exact Keeps.refl _ _
    · rename_i y7 y8 y9
      extract_lets x10 x11 x12 x13
      have k14 : Keeps 9957449 s x12 := by
        unfold x12
        refine Keeps.step modCtx_keeps rfl ?_
        exact Keeps.widen upd_win rfl
      clear_value x12
      clear_value x10 x11 x13
      refine Keeps.ite ?_ ?_
      · exact Keeps.refl _ _
      · refine Keeps.step pinReaders_keeps rfl ?_
        refine Keeps.trans ?_ (requestRecord_keeps (M := 9957449) rfl ?_ ?_)
        · assumption
        · intro v15
          refine Keeps.step raise_keeps rfl ?_
          exact Keeps.widen setWin_keeps rfl
        · intro v16
          exact Keeps.widen finish_keeps rfl

theorem revokeStart_keeps {a0 a1 s} : Keeps 229385 s (revokeStart a0 a1 s) := by
  unfold revokeStart
  extract_lets x0 x1 x2
  have k3 : Keeps 229385 s x2 := by
    unfold x2
    exact Keeps.widen upd_win rfl
  clear_value x2
  clear_value x0 x1
  refine Keeps.ite ?_ ?_
  · exact Keeps.refl _ _
  · refine Keeps.trans ?_ (requestRecord_keeps (M := 229385) rfl ?_ ?_)
    · assumption
    · intro v4
      exact Keeps.widen setKeyEnt_keeps rfl
    · intro v5
      exact Keeps.widen upd_win rfl

theorem keyFreed_keeps {a0 s} : Keeps 393289 s (keyFreed a0 s) := by
  unfold keyFreed
  extract_lets x0
  have k1 : ∀ a2, Keeps 393289 a2 (x0 a2) := by
    unfold x0
    intro v3
    exact Keeps.widen upd_win rfl
  clear_value x0
  split
  · rename_i y4 y5
    apply k1
  · rename_i y6 y7 y8
    extract_lets x9
    clear_value x9
    refine Keeps.step raise_keeps rfl ?_
    refine Keeps.trans ?_ (k1 ..)
    exact Keeps.widen wr_keeps rfl

theorem revokeEnd_keeps {a0 a1 s} : Keeps 1544265 s (revokeEnd a0 a1 s) := by
  unfold revokeEnd
  refine Keeps.ite ?_ ?_
  · exact Keeps.refl _ _
  · extract_lets x0 x1 x2
    have k3 : Keeps 1544265 s x2 := by
      unfold x2
      exact Keeps.widen upd_win rfl
    clear_value x2
    clear_value x0 x1
    refine Keeps.trans ?_ (requestRecord_keeps (M := 1544265) rfl ?_ ?_)
    · assumption
    · intro v4
      exact Keeps.widen keyFreed_keeps rfl
    · intro v5
      refine Keeps.ite ?_ ?_
      · exact Keeps.widen finish_keeps rfl
      · exact Keeps.refl _ _

theorem unbindBegin_keeps {a0 s} : Keeps 13627481 s (unbindBegin a0 s) := by
  unfold unbindBegin
  extract_lets x0 x1 x2 x3 x4
  have k5 : Keeps 13627481 s x0 := by
    unfold x0
    exact Keeps.widen chainEnd_keeps rfl
  clear_value x0
  have k6 : Keeps 13627481 s x3 := by
    unfold x3
    refine Keeps.ite ?_ ?_
    · assumption
    · exact Keeps.step upd_win rfl ‹_›
  clear_value x3
  have k7 : Keeps 13627481 s x4 := by
    unfold x4
    refine Keeps.foldl ?_ (fun t8 x9 k10 => ?_)
    · assumption
    · exact Keeps.step revokeStart_keeps rfl ‹_›
  clear_value x4
  clear_value x1 x2
  refine Keeps.ite ?_ ?_
  · assumption
  · refine Keeps.foldl ?_ (fun t11 x12 k13 => ?_)
    · assumption
    · refine Keeps.ite ?_ ?_
      · exact Keeps.step writeBackPage_keeps rfl ‹_›
      · assumption

theorem unbindStart_keeps {a0 a1 s} : Keeps 13627481 s (unbindStart a0 a1 s) := by
  unfold unbindStart
  extract_lets x0 x1
  have k2 : Keeps 13627481 s x1 := by
    unfold x1
    split
    · rename_i y3
      exact Keeps.refl _ _
    · rename_i y4 y5
      exact Keeps.widen upd_win rfl
  clear_value x1
  clear_value x0
  refine Keeps.step unbindBegin_keeps rfl ?_
  refine Keeps.trans ?_ (requestRecord_keeps (M := 13627481) rfl ?_ ?_)
  · assumption
  · intro v6
    exact Keeps.widen winState_keeps rfl
  · intro v7
    refine Keeps.idE ?_
    exact Keeps.refl _ _

theorem windowsEnd_keeps {a0 s} : Keeps 393289 s (windowsEnd a0 s) := by
  unfold windowsEnd
  refine Keeps.foldl ?_ (fun t0 x1 k2 => ?_)
  · exact Keeps.refl _ _
  · extract_lets x3 x4 x5 x6
    have k7 : Keeps 393289 s x4 := by
      unfold x4
      exact Keeps.step chainEnd_keeps rfl ‹_›
    clear_value x4
    have k8 : Keeps 393289 s x6 := by
      unfold x6
      exact Keeps.step upd_win rfl ‹_›
    clear_value x6
    clear_value x3 x5
    exact Keeps.step raise_keeps rfl ‹_›

theorem keysFull_keeps {s} : Keeps 393289 s (keysFull s) := by
  unfold keysFull
  refine Keeps.ite ?_ ?_
  · exact Keeps.refl _ _
  · refine Keeps.step raise_keeps rfl ?_
    exact Keeps.widen upd_win rfl

theorem unbindComplete_keeps {a0 s} : Keeps 9957449 s (unbindComplete a0 s) := by
  unfold unbindComplete
  split
  · rename_i y0 y1
    exact Keeps.refl _ _
  · rename_i y2 y3 y4
    extract_lets x5 x6 x7 x8 x9 x10 x11
    have k12 : Keeps 9957449 s x9 := by
      unfold x9
      refine Keeps.foldl ?_ (fun t13 x14 k15 => ?_)
      · exact Keeps.refl _ _
      · exact Keeps.step pageDrop_keeps rfl ‹_›
    clear_value x9
    have k16 : Keeps 9957449 s x11 := by
      unfold x11
      exact Keeps.step upd_win rfl ‹_›
    clear_value x11
    clear_value x5 x6 x7 x8 x10
    refine Keeps.ite ?_ ?_
    · exact Keeps.refl _ _
    · refine Keeps.trans ?_ (requestRecord_keeps (M := 9957449) rfl ?_ ?_)
      · assumption
      · intro v17
        refine Keeps.step raise_keeps rfl ?_
        exact Keeps.widen setWin_keeps rfl
      · intro v18
        split
        · rename_i y19 y20
          refine Keeps.step pinReaders_keeps rfl ?_
          exact Keeps.widen finish_keeps rfl
        · rename_i y21
          exact Keeps.refl _ _

theorem keyCreateAdmit_keeps {a0 a1 a2 a3 a4 a5 a6 s} : Keeps 1544265 s (keyCreateAdmit a0 a1 a2 a3 a4 a5 a6 s) := by
  unfold keyCreateAdmit
  refine Keeps.ite ?_ ?_
  · exact Keeps.widen finish_keeps rfl
  · extract_lets x0 x1 x2 x3
    have k4 : Keeps 1544265 s x3 := by
      unfold x3
      exact Keeps.widen modCtx_keeps rfl
    clear_value x3
    clear_value x0 x1 x2
    split
    · rename_i y5 y6
      refine Keeps.step winRefuse_keeps rfl ?_
      exact Keeps.widen upd_win rfl
    · rename_i y7 y8 y9
      refine Keeps.ite ?_ ?_
      · exact Keeps.widen winRefuse_keeps rfl
      · refine Keeps.ite ?_ ?_
        · exact Keeps.widen winRefuse_keeps rfl
        · refine Keeps.ite ?_ ?_
          · exact Keeps.widen winRefuse_keeps rfl
          · extract_lets x10 x11 x12
            clear_value x10 x11 x12
            refine Keeps.trans ?_ (requestRecord_keeps (M := 1544265) rfl ?_ ?_)
            · assumption
            · intro v13
              refine Keeps.step keysFull_keeps rfl ?_
              exact Keeps.widen setKeyEnt_keeps rfl
            · intro v14
              exact Keeps.widen finish_keeps rfl

theorem keyRevokeAdmit_keeps {a0 a1 a2 s} : Keeps 1544265 s (keyRevokeAdmit a0 a1 a2 s) := by
  unfold keyRevokeAdmit
  extract_lets x0 x1 x2
  clear_value x0 x1 x2
  refine Keeps.ite ?_ ?_
  · exact Keeps.widen winRefuse_keeps rfl
  · refine Keeps.ite ?_ ?_
    · exact Keeps.widen winRefuse_keeps rfl
    · refine Keeps.step revokeStart_keeps rfl ?_
      exact Keeps.widen modCtx_keeps rfl

theorem unbindAdmit_keeps {a0 a1 s} : Keeps 14676057 s (unbindAdmit a0 a1 s) := by
  unfold unbindAdmit
  refine Keeps.ite ?_ ?_
  · exact Keeps.widen finish_keeps rfl
  · refine Keeps.ite ?_ ?_
    · exact Keeps.widen winRefuse_keeps rfl
    · exact Keeps.widen unbindStart_keeps rfl

end Sys2Proof.Machine
end

