-- ==== Sys2Proof/Laws/KeepsTrustOps.lean ====
section
/-!
SUPPORT. Laws/KeepsTrustOps.lean: which units of the state each operation of Machine/TrustOps.lean may change: one `Keeps` lemma each.
-/
namespace Sys2Proof.Machine

theorem fbRequest_keeps {a0 a1 a2 s} : Keeps 1024 s (fbRequest a0 a1 a2 s) := by
  unfold fbRequest
  exact Keeps.widen (upd_trust (TrustKeeps.of rfl rfl rfl rfl)) rfl

theorem fbPlace_keeps {a0 a1 s} : Keeps 1024 s (fbPlace a0 a1 s) := by
  unfold fbPlace
  extract_lets x0 x1
  clear_value x1
  exact Keeps.widen (upd_trust ⟨fun _ => Nat.le_refl _, List.prefix_refl _, Nat.le_succ _, Nat.le_refl _⟩) rfl

theorem fbKeepCerts_keeps {a0 a1 s} : Keeps 1024 s (fbKeepCerts a0 a1 s) := by
  unfold fbKeepCerts
  extract_lets x0
  have k1 : Keeps 1024 s x0 := by
    unfold x0
    refine Keeps.ite ?_ ?_
    · exact Keeps.widen fbPlace_keeps rfl
    · exact Keeps.refl _ _
  clear_value x0
  refine Keeps.ite ?_ ?_
  · exact Keeps.step fbPlace_keeps rfl ‹_›
  · assumption

theorem fbWrap_keeps {s} : Keeps 263241 s (fbWrap s) := by
  unfold fbWrap
  split
  · rename_i y0 y1
    exact Keeps.refl _ _
  · rename_i y2 y3 y4 y5
    extract_lets x6 x7 x8 x9 x10
    have k11 : Keeps 263241 s x6 := by
      unfold x6
      exact Keeps.widen fbKeepCerts_keeps rfl
    clear_value x6
    have k12 : Keeps 263241 s x7 := by
      unfold x7
      exact Keeps.step fbPlace_keeps rfl ‹_›
    clear_value x7
    have k13 : Keeps 263241 s x8 := by
      unfold x8
      exact Keeps.step bump_keeps rfl ‹_›
    clear_value x8
    have k14 : Keeps 263241 s x10 := by
      unfold x10
      exact Keeps.step (upd_trust (TrustKeeps.of rfl rfl rfl rfl)) rfl ‹_›
    clear_value x10
    exact Keeps.step raise_keeps rfl ‹_›

theorem fbWrite_keeps {a0 a1 s} : Keeps 263241 s (fbWrite a0 a1 s) := by
  unfold fbWrite
  refine Keeps.step fbPlace_keeps rfl ?_
  exact Keeps.widen fbWrap_keeps rfl

theorem actEndRequest_keeps {s} : Keeps 1024 s (actEndRequest s) := by
  unfold actEndRequest
  exact Keeps.widen fbRequest_keeps rfl

theorem actFinish_keeps {s} : Keeps 1024 s (actFinish s) := by
  unfold actFinish
  refine Keeps.step actEndRequest_keeps rfl ?_
  exact Keeps.widen (upd_trust (TrustKeeps.of rfl rfl rfl rfl)) rfl

theorem actReturn_keeps {a0 s} : Keeps 1024 s (actReturn a0 s) := by
  unfold actReturn
  extract_lets x0
  refine Keeps.step actEndRequest_keeps rfl ?_
  exact Keeps.widen (upd_trust (measureSlot_lasting.trans (TrustKeeps.of rfl rfl rfl rfl))) rfl

end Sys2Proof.Machine
end

