-- ==== Sys2Proof/Laws/KeepsDatumOps.lean ====
section
/-!
SUPPORT. Laws/KeepsDatumOps.lean: which units of the state each operation of Machine/DatumOps.lean may change: one `Keeps` lemma each.
-/
namespace Sys2Proof.Machine

theorem stagePut_keeps {a0 a1 a2 s} : Keeps 128 s (stagePut a0 a1 a2 s) := by
  unfold stagePut
  extract_lets x0 x1
  clear_value x0 x1
  exact Keeps.widen upd_datum rfl

theorem stageWrite_keeps {a0 a1 a2 a3 a4 a5 s} : Keeps 129 s (stageWrite a0 a1 a2 a3 a4 a5 s) := by
  unfold stageWrite
  refine Keeps.ite ?_ ?_
  · exact Keeps.widen errLast_keeps rfl
  · refine Keeps.ite ?_ ?_
    · exact Keeps.widen errLast_keeps rfl
    · extract_lets x0 x1
      clear_value x0 x1
      refine Keeps.ite ?_ ?_
      · exact Keeps.widen errLast_keeps rfl
      · refine Keeps.ite ?_ ?_
        · exact Keeps.widen errLast_keeps rfl
        · exact Keeps.widen stagePut_keeps rfl

theorem datumRefuse_keeps {a0 a1 a2 s} : Keeps 262345 s (datumRefuse a0 a1 a2 s) := by
  unfold datumRefuse
  extract_lets x0 x1
  have k2 : Keeps 262345 s x1 := by
    unfold x1
    exact Keeps.widen upd_datum rfl
  clear_value x1
  clear_value x0
  refine Keeps.step raise_keeps rfl ?_
  exact Keeps.step bump_keeps rfl ‹_›

theorem datumDone_keeps {s} : Keeps 128 s (datumDone s) := by
  unfold datumDone
  exact Keeps.widen upd_datum rfl

end Sys2Proof.Machine
end

