-- ==== Sys2Proof/Laws/KeepsAdmitOps.lean ====
section
/-!
SUPPORT. Laws/KeepsAdmitOps.lean: which units of the state each operation of Machine/AdmitOps.lean may change: one `Keeps` lemma each.
-/
namespace Sys2Proof.Machine

theorem newCtx_keeps {a0 s} : Keeps 4096 s (newCtx a0 s).2 := by
  unfold newCtx
  extract_lets x0 x1
  clear_value x0 x1
  refine Keeps.mkSnd ?_
  exact Keeps.widen upd_nvm rfl

theorem resvApply_keeps {a0 a1 a2 s} : Keeps 1413193 s (resvApply a0 a1 a2 s) := by
  unfold resvApply
  split
  · rename_i y0
    exact Keeps.widen finish_keeps rfl
  · rename_i y1 y2
    extract_lets x3
    have k4 : Keeps 1413193 s x3 := by
      unfold x3
      refine Keeps.step modNs_keeps rfl ?_
      exact Keeps.widen modCtx_keeps rfl
    clear_value x3
    refine Keeps.trans ?_ (requestRecord_keeps (M := 1413193) rfl ?_ ?_)
    · assumption
    · intro v5
      exact Keeps.refl _ _
    · intro v6
      exact Keeps.widen finish_keeps rfl

theorem registerMember_keeps {a0 s} : Keeps 8396808 s (registerMember a0 s) := by
  unfold registerMember
  extract_lets x0
  have k1 : Keeps 8396808 s x0 := by
    unfold x0
    exact Keeps.widen issueOp_keeps rfl
  clear_value x0
  refine Keeps.ite ?_ ?_
  · assumption
  · exact Keeps.step issueOp_keeps rfl ‹_›

theorem registerAll_keeps {s} : Keeps 8396808 s (registerAll s) := by
  unfold registerAll
  refine Keeps.ite ?_ ?_
  · refine Keeps.foldl ?_ (fun t0 x1 k2 => ?_)
    · exact Keeps.refl _ _
    · exact Keeps.step registerMember_keeps rfl ‹_›
  · exact Keeps.refl _ _

theorem witnessHolder_keeps {s} : Keeps 16 s (witnessHolder s).2 := by
  unfold witnessHolder
  refine Keeps.iteSnd ?_ ?_
  · refine Keeps.mkSnd ?_
    exact Keeps.refl _ _
  · refine Keeps.iteSnd ?_ ?_
    · refine Keeps.mkSnd ?_
      exact Keeps.refl _ _
    · split
      · rename_i y0 y1 y2 y3
        have k4 : Keeps 16 s y2 := by
          refine Keeps.ofSnd y3 ?_
          exact Keeps.widen drawFree_keeps rfl
        refine Keeps.mkSnd ?_
        assumption

theorem resvExec_keeps {a0 a1 a2 a3 a4 s} : Keeps 1413209 s (resvExec a0 a1 a2 a3 a4 s) := by
  unfold resvExec
  extract_lets x0
  clear_value x0
  split
  · rename_i y1
    split
    · rename_i y2 y3 y4 y5
      have k6 : Keeps 1413209 s y4 := by
        refine Keeps.ofSnd y5 ?_
        refine Keeps.iteSnd ?_ ?_
        · exact Keeps.widen witnessHolder_keeps rfl
        · refine Keeps.mkSnd ?_
          exact Keeps.refl _ _
      split
      · rename_i y7 y8 y9 y10
        extract_lets x11
        have k12 : Keeps 1413209 s x11 := by
          unfold x11
          split
          · rename_i y13 y14
            assumption
          · rename_i y15 y16 y17
            refine Keeps.ite ?_ ?_
            · assumption
            · exact Keeps.step drive_keeps rfl ‹_›
        clear_value x11
        exact Keeps.step finish_keeps rfl ‹_›
  · rename_i y18 y19 y20 y21 y22
    exact Keeps.widen resvApply_keeps rfl
  · rename_i y23 y24 y25 y26 y27 y28
    exact Keeps.widen resvApply_keeps rfl
  · rename_i y29 y30 y31 y32 y33
    refine Keeps.ite ?_ ?_
    · exact Keeps.widen resvApply_keeps rfl
    · split
      · rename_i y34 y35
        exact Keeps.widen resvApply_keeps rfl
      · rename_i y36 y37
        exact Keeps.widen finish_keeps rfl
      · rename_i y38 y39 y40
        exact Keeps.widen resvApply_keeps rfl
  · rename_i y41 y42 y43 y44 y45
    exact Keeps.refl _ _

theorem startOp_keeps {a0 a1 a2 a3 a4 s} : Keeps 14676057 s (startOp a0 a1 a2 a3 a4 s) := by
  unfold startOp
  extract_lets x0 x1 x2 x3
  clear_value x0 x1 x2 x3
  refine Keeps.ite ?_ ?_
  · exact Keeps.widen finish_keeps rfl
  · refine Keeps.ite ?_ ?_
    · exact Keeps.widen finish_keeps rfl
    · refine Keeps.ite ?_ ?_
      · exact Keeps.widen finish_keeps rfl
      · refine Keeps.ite ?_ ?_
        · refine Keeps.step finish_keeps rfl ?_
          exact Keeps.widen bumpAt_keeps rfl
        · split
          · rename_i y4 y5 y6
            refine Keeps.ite ?_ ?_
            · exact Keeps.refl _ _
            · exact Keeps.widen pinReader_keeps rfl
          · rename_i y7 y8 y9
            exact Keeps.widen pullData_keeps rfl
          · rename_i y10 y11 y12
            exact Keeps.widen pullData_keeps rfl
          · rename_i y13 y14 y15 y16
            refine Keeps.step readBlocks_keeps rfl ?_
            refine Keeps.step pullData_keeps rfl ?_
            exact Keeps.widen modCtx_keeps rfl
          · rename_i y17 y18
            exact Keeps.widen pullData_keeps rfl
          · rename_i y19 y20
            exact Keeps.widen finish_keeps rfl
          · rename_i y21
            refine Keeps.ite ?_ ?_
            · exact Keeps.widen finish_keeps rfl
            · exact Keeps.refl _ _
          · rename_i y22 y23 y24 y25 y26 y27 y28 y29
            refine Keeps.ite ?_ ?_
            · exact Keeps.widen finish_keeps rfl
            · exact Keeps.widen bindAdmit_keeps rfl
          · rename_i y30 y31
            exact Keeps.widen unbindAdmit_keeps rfl
          · rename_i y32
            exact Keeps.widen resvExec_keeps rfl
          · rename_i y33 y34 y35 y36 y37
            exact Keeps.widen resvExec_keeps rfl
          · rename_i y38 y39 y40 y41 y42 y43
            exact Keeps.widen resvExec_keeps rfl
          · rename_i y44 y45 y46 y47 y48
            exact Keeps.widen resvExec_keeps rfl
          · rename_i y49 y50 y51 y52 y53 y54 y55 y56 y57 y58 y59 y60 y61 y62
            exact Keeps.refl _ _

theorem ownerAdmit_keeps {a0 a1 a2 a3 s} : KeepsO 14676057 s (ownerAdmit a0 a1 a2 a3 s) := by
  unfold ownerAdmit
  refine KeepsO.ite ?_ ?_
  · exact KeepsO.none
  · refine KeepsO.ite ?_ ?_
    · exact KeepsO.none
    · split
      · rename_i y0 y1 y2
        have k3 : Keeps 14676057 s y1 := by
          refine Keeps.ofSnd y2 ?_
          exact Keeps.widen stamp_keeps rfl
        exact KeepsO.none
      · rename_i y4 y5 y6 y7
        have k8 : Keeps 14676057 s y6 := by
          refine Keeps.ofSnd y7 ?_
          exact Keeps.widen stamp_keeps rfl
        split
        · rename_i y9 y10 y11 y12
          have k13 : Keeps 14676057 s y11 := by
            refine Keeps.ofSnd y12 ?_
            exact Keeps.step newCtx_keeps rfl ‹_›
          refine KeepsO.some ?_
          exact Keeps.step startOp_keeps rfl ‹_›

theorem windowAdmit_keeps {a0 a1 a2 a3 s} : KeepsO 14676057 s (windowAdmit a0 a1 a2 a3 s) := by
  unfold windowAdmit
  extract_lets x0
  clear_value x0
  split
  · rename_i y1 y2
    refine KeepsO.ite ?_ ?_
    · split
      · rename_i y3 y4 y5 y6
        have k7 : Keeps 14676057 s y5 := by
          refine Keeps.ofSnd y6 ?_
          exact Keeps.widen newCtx_keeps rfl
        refine KeepsO.some ?_
        exact Keeps.step unbindAdmit_keeps rfl ‹_›
    · split
      · rename_i y8 y9
        exact KeepsO.none
      · rename_i y10 y11 y12
        refine KeepsO.ite ?_ ?_
        · exact KeepsO.none
        · split
          · rename_i y13 y14 y15
            have k16 : Keeps 14676057 s y14 := by
              refine Keeps.ofSnd y15 ?_
              exact Keeps.widen stamp_keeps rfl
            exact KeepsO.none
          · rename_i y17 y18 y19 y20
            have k21 : Keeps 14676057 s y19 := by
              refine Keeps.ofSnd y20 ?_
              exact Keeps.widen stamp_keeps rfl
            split
            · rename_i y22 y23 y24 y25
              have k26 : Keeps 14676057 s y24 := by
                refine Keeps.ofSnd y25 ?_
                exact Keeps.step newCtx_keeps rfl ‹_›
              refine KeepsO.some ?_
              exact Keeps.step unbindAdmit_keeps rfl ‹_›
  · rename_i y27 y28 y29 y30 y31 y32
    split
    · rename_i y33 y34 y35 y36
      have k37 : Keeps 14676057 s y35 := by
        refine Keeps.ofSnd y36 ?_
        exact Keeps.widen newCtx_keeps rfl
      refine KeepsO.some ?_
      exact Keeps.step keyCreateAdmit_keeps rfl ‹_›
  · rename_i y38 y39
    split
    · rename_i y40 y41 y42 y43
      have k44 : Keeps 14676057 s y42 := by
        refine Keeps.ofSnd y43 ?_
        exact Keeps.widen newCtx_keeps rfl
      refine KeepsO.some ?_
      exact Keeps.step keyRevokeAdmit_keeps rfl ‹_›
  · rename_i y45 y46 y47 y48
    exact KeepsO.none

theorem forward_keeps {a0 a1 a2 a3 s} : Keeps 1413193 s (forward a0 a1 a2 a3 s) := by
  unfold forward
  extract_lets x0 x1
  clear_value x0 x1
  split
  · rename_i y2 y3 y4 y5
    have k6 : Keeps 1413193 s y4 := by
      refine Keeps.ofSnd y5 ?_
      exact Keeps.widen newCtx_keeps rfl
    extract_lets x7 x8 x9
    have k10 : Keeps 1413193 s x8 := by
      unfold x8
      exact Keeps.step upd_pair rfl ‹_›
    clear_value x8
    have k11 : Keeps 1413193 s x9 := by
      unfold x9
      exact Keeps.step zsend_keeps rfl ‹_›
    clear_value x9
    clear_value x7
    split
    · rename_i y12 y13 y14 y15
      exact Keeps.step pullHost_keeps rfl ‹_›
    · rename_i y16 y17 y18 y19 y20
      exact Keeps.step pullHost_keeps rfl ‹_›
    · rename_i y21 y22 y23 y24 y25 y26
      exact Keeps.step pullHost_keeps rfl ‹_›
    · rename_i y27 y28 y29 y30
      assumption

theorem quick_keeps {a0 a1 a2 a3 s} : Keeps 1376329 s (quick a0 a1 a2 a3 s) := by
  unfold quick
  exact Keeps.widen sendOutcome_keeps rfl

theorem parse_keeps {a0 a1 a2 s} : KeepsO 14676057 s (parse a0 a1 a2 s) := by
  unfold parse
  split
  · rename_i y0 y1 y2
    refine KeepsO.some ?_
    exact Keeps.widen quick_keeps rfl
  · rename_i y3 y4 y5 y6 y7 y8
    split
    · rename_i y9 y10
      refine KeepsO.some ?_
      exact Keeps.widen quick_keeps rfl
    · rename_i y11 y12 y13
      split
      · rename_i y14 y15
        exact KeepsO.none
      · rename_i y16 y17 y18
        refine KeepsO.ite ?_ ?_
        · exact KeepsO.none
        · refine KeepsO.ite ?_ ?_
          · refine KeepsO.some ?_
            exact Keeps.widen quick_keeps rfl
          · refine KeepsO.ite ?_ ?_
            · refine KeepsO.ite ?_ ?_
              · exact KeepsO.none
              · refine KeepsO.some ?_
                exact Keeps.widen forward_keeps rfl
            · refine KeepsO.ite ?_ ?_
              · refine KeepsO.some ?_
                exact Keeps.widen quick_keeps rfl
              · split
                · rename_i y19 y20 y21 y22
                  have k23 : Keeps 14676057 s y21 := by
                    refine Keeps.ofSnd y22 ?_
                    exact Keeps.widen newCtx_keeps rfl
                  refine KeepsO.some ?_
                  exact Keeps.step travAdmit_keeps rfl ‹_›
  · rename_i y24 y25 y26
    split
    · rename_i y27 y28 y29
      extract_lets x30 x31
      clear_value x30 x31
      refine KeepsO.ite ?_ ?_
      · refine Keeps.stepO windowAdmit_keeps rfl ?_
        exact Keeps.refl _ _
      · refine KeepsO.ite ?_ ?_
        · refine KeepsO.some ?_
          exact Keeps.widen quick_keeps rfl
        · refine KeepsO.ite ?_ ?_
          · exact KeepsO.none
          · refine KeepsO.some ?_
            exact Keeps.widen forward_keeps rfl
    · rename_i y32 y33
      split
      · rename_i y34 y35
        refine KeepsO.some ?_
        exact Keeps.widen quick_keeps rfl
      · rename_i y36 y37 y38
        split
        · rename_i y39 y40
          exact KeepsO.none
        · rename_i y41 y42 y43
          refine KeepsO.ite ?_ ?_
          · exact KeepsO.none
          · refine KeepsO.ite ?_ ?_
            · refine KeepsO.some ?_
              exact Keeps.widen quick_keeps rfl
            · refine KeepsO.ite ?_ ?_
              · refine KeepsO.ite ?_ ?_
                · exact KeepsO.none
                · refine KeepsO.some ?_
                  exact Keeps.widen forward_keeps rfl
              · refine KeepsO.ite ?_ ?_
                · refine KeepsO.some ?_
                  exact Keeps.widen quick_keeps rfl
                · refine Keeps.stepO ownerAdmit_keeps rfl ?_
                  exact Keeps.refl _ _

theorem boundCheck_keeps {a0 s} : Keeps 266313 s (boundCheck a0 s) := by
  unfold boundCheck
  extract_lets x0 x1
  have k2 : Keeps 266313 s x1 := by
    unfold x1
    refine Keeps.ite ?_ ?_
    · refine Keeps.ite ?_ ?_
      · exact Keeps.refl _ _
      · refine Keeps.step raise_keeps rfl ?_
        refine Keeps.step bump_keeps rfl ?_
        exact Keeps.widen upd_nvm rfl
    · exact Keeps.widen upd_nvm rfl
  clear_value x1
  clear_value x0
  refine Keeps.ite ?_ ?_
  · exact Keeps.step raise_keeps rfl ‹_›
  · assumption

theorem admitHead_keeps {a0 s} : Keeps 14676057 s (admitHead a0 s).2 := by
  unfold admitHead
  split
  · rename_i y0 y1 y2 y3 y4 y5
    split
    · rename_i y6 y7
      refine Keeps.mkSnd ?_
      exact Keeps.refl _ _
    · rename_i y8 y9 y10 y11
      refine Keeps.iteSnd ?_ ?_
      · refine Keeps.mkSnd ?_
        exact Keeps.refl _ _
      · split
        · rename_i y12 y13
          refine Keeps.mkSnd ?_
          exact Keeps.refl _ _
        · rename_i y14 y15 y16
          have k17 : Keeps 14676057 s y15 := by
            refine Keeps.ofSome y16 ?_
            refine Keeps.stepO parse_keeps rfl ?_
            exact Keeps.refl _ _
          refine Keeps.mkSnd ?_
          refine Keeps.step boundCheck_keeps rfl ?_
          exact Keeps.step upd_nvm rfl ‹_›
  · rename_i y18 y19 y20
    refine Keeps.mkSnd ?_
    exact Keeps.refl _ _

theorem keyCount_keeps {a0 a1 s} : Keeps 131072 s (keyCount a0 a1 s) := by
  unfold keyCount
  extract_lets x0 x1
  clear_value x0 x1
  exact Keeps.widen upd_win rfl

theorem qpClear_keeps {a0 s} : Keeps 9957449 s (qpClear a0 s) := by
  unfold qpClear
  extract_lets x0 x1 x2 x3 x4 x5 x6 x7 x8 x9
  have k10 : Keeps 9957449 s x4 := by
    unfold x4
    exact Keeps.widen setQp_keeps rfl
  clear_value x4
  have k11 : Keeps 9957449 s x7 := by
    unfold x7
    exact Keeps.step upd_win_xp rfl ‹_›
  clear_value x7
  have k12 : Keeps 9957449 s x8 := by
    unfold x8
    refine Keeps.foldl ?_ (fun t13 x14 k15 => ?_)
    · assumption
    · exact Keeps.step keyCount_keeps rfl ‹_›
  clear_value x8
  have k16 : Keeps 9957449 s x9 := by
    unfold x9
    exact Keeps.step pullRetry_keeps rfl ‹_›
  clear_value x9
  clear_value x0 x1 x2 x3 x5 x6
  refine Keeps.foldl ?_ (fun t17 x18 k19 => ?_)
  · assumption
  · split
    · rename_i y20 y21
      assumption
    · rename_i y22 y23 y24
      split
      · rename_i y25 y26 y27 y28
        refine Keeps.ite ?_ ?_
        · exact Keeps.step travAbandon_keeps rfl ‹_›
        · assumption
      · rename_i y29 y30
        refine Keeps.ite ?_ ?_
        · exact Keeps.step failWriter_keeps rfl ‹_›
        · assumption

theorem connEnd_keeps {a0 s} : Keeps 9957449 s (connEnd a0 s) := by
  unfold connEnd
  refine Keeps.ite ?_ ?_
  · exact Keeps.widen upd_xp rfl
  · refine Keeps.ite ?_ ?_
    · refine Keeps.step drive_keeps rfl ?_
      refine Keeps.step modQp_keeps rfl ?_
      exact Keeps.widen qpClear_keeps rfl
    · exact Keeps.refl _ _

theorem endAssociation_keeps {a0 s} : Keeps 9957449 s (endAssociation a0 s) := by
  unfold endAssociation
  split
  · rename_i y0 y1
    exact Keeps.refl _ _
  · rename_i y2 y3 y4
    extract_lets x5 x6 x7 x8 x9 x10 x11 x12 x13 x14 x15 x16
    have k17 : Keeps 9957449 s x9 := by
      unfold x9
      exact Keeps.widen upd_nvm rfl
    clear_value x9
    have k18 : Keeps 9957449 s x11 := by
      unfold x11
      exact Keeps.step upd_trav rfl ‹_›
    clear_value x11
    have k19 : Keeps 9957449 s x12 := by
      unfold x12
      refine Keeps.foldl ?_ (fun t20 x21 k22 => ?_)
      · assumption
      · exact Keeps.step travAbandon_keeps rfl ‹_›
    clear_value x12
    have k23 : Keeps 9957449 s x13 := by
      unfold x13
      refine Keeps.foldl ?_ (fun t24 x25 k26 => ?_)
      · assumption
      · exact Keeps.step connEnd_keeps rfl ‹_›
    clear_value x13
    have k27 : Keeps 9957449 s x16 := by
      unfold x16
      exact Keeps.step upd_nvm rfl ‹_›
    clear_value x16
    clear_value x5 x6 x7 x8 x10 x14 x15
    split
    · rename_i y28 y29
      assumption
    · rename_i y30 y31 y32
      exact Keeps.step setFn_keeps rfl ‹_›

theorem submit_keeps {a0 a1 s} : Keeps 14676057 s (submit a0 a1 s) := by
  unfold submit
  split
  · rename_i y0 y1 y2 y3 y4 y5
    extract_lets x6 x7 x8
    have k9 : Keeps 14676057 s x8 := by
      unfold x8
      exact Keeps.widen upd_nvm rfl
    clear_value x8
    clear_value x6 x7
    refine Keeps.ite ?_ ?_
    · exact Keeps.widen endAssociation_keeps rfl
    · refine Keeps.ite ?_ ?_
      · exact Keeps.step admitHead_keeps rfl ‹_›
      · assumption
  · rename_i y10 y11 y12
    exact Keeps.refl _ _

theorem submitRing_keeps {a0 a1 a2 a3 s} : KeepsO 14676057 s (submitRing a0 a1 a2 a3 s) := by
  unfold submitRing
  refine KeepsO.ite ?_ ?_
  · exact KeepsO.none
  · refine KeepsO.map ?_ ?_
    · refine Keeps.stepO parse_keeps rfl ?_
      exact Keeps.refl _ _
    · intro v0 k1
      exact Keeps.step boundCheck_keeps rfl ‹_›

theorem admitNext_keeps {s} : Keeps 14676057 s (admitNext s) := by
  unfold admitNext
  extract_lets x0 x1
  clear_value x0 x1
  refine Keeps.foldlSnd ?_ (fun t2 x3 k4 => ?_)
  · refine Keeps.mkSnd ?_
    exact Keeps.refl _ _
  · refine Keeps.iteSnd ?_ ?_
    · assumption
    · refine Keeps.foldlSnd ?_ (fun t5 x6 k7 => ?_)
      · assumption
      · refine Keeps.iteSnd ?_ ?_
        · assumption
        · split
          · rename_i y8 y9 y10
            have k11 : Keeps 14676057 s y9 := by
              refine Keeps.ofSnd y10 ?_
              exact Keeps.step admitHead_keeps rfl ‹_›
            refine Keeps.mkSnd ?_
            exact Keeps.step upd_nvm rfl ‹_›
          · rename_i y12 y13 y14
            have k15 : Keeps 14676057 s y13 := by
              refine Keeps.ofSnd y14 ?_
              exact Keeps.step admitHead_keeps rfl ‹_›
            refine Keeps.mkSnd ?_
            assumption

theorem admitForwarded_keeps {a0 s} : Keeps 14676057 s (admitForwarded a0 s) := by
  induction a0 generalizing  s
  · unfold admitForwarded
    exact Keeps.refl _ _
  · rename_i y0 y1
    unfold admitForwarded
    split
    · rename_i y2 y3
      exact Keeps.refl _ _
    · rename_i y4 y5 y6 y7
      extract_lets x8
      clear_value x8
      refine Keeps.ite ?_ ?_
      · exact Keeps.refl _ _
      · split
        · rename_i y9 y10
          exact Keeps.refl _ _
        · rename_i y11 y12 y13
          have k14 : Keeps 14676057 s y12 := by
            refine Keeps.ofSome y13 ?_
            refine Keeps.stepO parse_keeps rfl ?_
            exact Keeps.refl _ _
          refine Keeps.trans ?_ y1
          exact Keeps.step upd_pair rfl ‹_›

theorem blockArrives_keeps {a0 a1 a2 s} : Keeps 13496409 s (blockArrives a0 a1 a2 s) := by
  unfold blockArrives
  split
  · rename_i y0 y1
    exact Keeps.refl _ _
  · rename_i y2 y3 y4
    split
    · rename_i y5 y6 y7 y8 y9 y10
      split
      · rename_i y11 y12
        exact Keeps.refl _ _
      · rename_i y13 y14 y15 y16
        refine Keeps.ite ?_ ?_
        · exact Keeps.refl _ _
        · exact Keeps.widen stageBlock_keeps rfl
    · rename_i y17 y18
      refine Keeps.ite ?_ ?_
      · exact Keeps.refl _ _
      · refine Keeps.ite ?_ ?_
        · exact Keeps.refl _ _
        · exact Keeps.widen placeBlock_keeps rfl

end Sys2Proof.Machine
end

