-- ==== Sys2Proof/Laws/KeepsWinAccOps.lean ====
section
/-!
SUPPORT. Laws/KeepsWinAccOps.lean: which units of the state each operation of Machine/WinAccOps.lean may change: one `Keeps` lemma each.
-/
namespace Sys2Proof.Machine

theorem sendAck_keeps {a0 a1 s} : Keeps 1048585 s (sendAck a0 a1 s) := by
  unfold sendAck
  extract_lets x0 x1 x2 x3 x4 x5
  have k6 : Keeps 1048585 s x4 := by
    unfold x4
    exact Keeps.widen setQp_keeps rfl
  clear_value x4
  have k7 : Keeps 1048585 s x5 := by
    unfold x5
    refine Keeps.ite ?_ ?_
    · assumption
    · exact Keeps.step bump_keeps rfl ‹_›
  clear_value x5
  clear_value x0 x1 x2 x3
  exact Keeps.step drive_keeps rfl ‹_›

theorem ackIfDue_keeps {a0 s} : Keeps 1048585 s (ackIfDue a0 s) := by
  unfold ackIfDue
  extract_lets x0
  clear_value x0
  refine Keeps.ite ?_ ?_
  · exact Keeps.widen sendAck_keeps rfl
  · exact Keeps.refl _ _

theorem psnDurable_keeps {a0 a1 a2 s} : Keeps 1048585 s (psnDurable a0 a1 a2 s) := by
  unfold psnDurable
  refine Keeps.step ackIfDue_keeps rfl ?_
  exact Keeps.widen modQp_keeps rfl

theorem psnDrop_keeps {a0 a1 a2 a3 s} : Keeps 1048585 s (psnDrop a0 a1 a2 a3 s) := by
  unfold psnDrop
  extract_lets x0 x1 x2
  have k3 : Keeps 1048585 s x2 := by
    unfold x2
    exact Keeps.widen setQp_keeps rfl
  clear_value x2
  clear_value x0 x1
  refine Keeps.ite ?_ ?_
  · exact Keeps.widen setQp_keeps rfl
  · refine Keeps.step drive_keeps rfl ?_
    exact Keeps.step bump_keeps rfl ‹_›

theorem tallyAt_keeps {a0 a1 a2 s} : Keeps 491593 s (tallyAt a0 a1 a2 s) := by
  unfold tallyAt
  refine Keeps.ite ?_ ?_
  · exact Keeps.widen tallyRaise_keeps rfl
  · extract_lets x0 x1
    clear_value x0 x1
    refine Keeps.step zsend_keeps rfl ?_
    exact Keeps.widen upd_pair rfl

theorem tallyApply_keeps {a0 a1 s} : Keeps 491593 s (tallyApply a0 a1 s) := by
  induction a1 generalizing a0 s
  · unfold tallyApply
    exact Keeps.refl _ _
  · rename_i y0 y1
    unfold tallyApply
    split
    · rename_i y2 y3
      exact Keeps.refl _ _
    · rename_i y4 y5 y6
      refine Keeps.ite ?_ ?_
      · exact Keeps.refl _ _
      · refine Keeps.trans ?_ y1
        refine Keeps.step tallyAt_keeps rfl ?_
        exact Keeps.widen upd_win rfl

theorem accPlace_keeps {a0 a1 a2 s} : Keeps 8757321 s (accPlace a0 a1 a2 s).2 := by
  unfold accPlace
  refine Keeps.foldlSnd ?_ (fun t0 x1 k2 => ?_)
  · refine Keeps.mkSnd ?_
    exact Keeps.refl _ _
  · extract_lets x3 x4 x5 x6 x7 x8 x9 x10 x11
    have k12 : Keeps 8757321 s x3 := by
      unfold x3
      assumption
    clear_value x3
    have k13 : Keeps 8757321 s x7 := by
      unfold x7
      refine Keeps.ite ?_ ?_
      · exact Keeps.step lossRemove_keeps rfl ‹_›
      · assumption
    clear_value x7
    have k14 : Keeps 8757321 s x10 := by
      unfold x10
      exact Keeps.step upd_store rfl ‹_›
    clear_value x10
    clear_value x4 x5 x6 x8 x9 x11
    refine Keeps.iteSnd ?_ ?_
    · refine Keeps.mkSnd ?_
      assumption
    · split
      · rename_i y15 y16 y17 y18
        have k19 : Keeps 8757321 s y17 := by
          refine Keeps.ofSnd y18 ?_
          exact Keeps.step mseqSend_keeps rfl ‹_›
        refine Keeps.mkSnd ?_
        assumption

theorem accTouch_keeps {a0 s} : Keeps 131072 s (accTouch a0 s) := by
  unfold accTouch
  extract_lets x0
  have k1 : ∀ a2 a3, Keeps 131072 a3 (x0 a2 a3) := by
    unfold x0
    intro v4 v5
    extract_lets x6 x7
    clear_value x6 x7
    exact Keeps.widen upd_win rfl
  clear_value x0
  refine Keeps.foldl ?_ (fun t8 x9 k10 => ?_)
  · exact Keeps.refl _ _
  · refine Keeps.trans ?_ (k1 ..)
    assumption

theorem recBytes_keeps {a0 a1 a2 s} : Keeps 1048576 s (recBytes a0 a1 a2 s) := by
  unfold recBytes
  exact Keeps.widen modQp_keeps rfl

theorem accDone_keeps {a0 a1 s} : Keeps 1540169 s (accDone a0 a1 s) := by
  unfold accDone
  extract_lets x0 x1 x2 x3
  have k4 : Keeps 1540169 s x0 := by
    unfold x0
    split
    · rename_i y5 y6
      exact Keeps.refl _ _
    · rename_i y7 y8 y9
      exact Keeps.widen keyCount_keeps rfl
  clear_value x0
  have k10 : Keeps 1540169 s x1 := by
    unfold x1
    split
    · rename_i y11 y12 y13 y14
      exact Keeps.step tallyAt_keeps rfl ‹_›
    · rename_i y15 y16
      assumption
  clear_value x1
  have k17 : Keeps 1540169 s x2 := by
    unfold x2
    refine Keeps.ite ?_ ?_
    · exact Keeps.step drive_keeps rfl ‹_›
    · assumption
  clear_value x2
  clear_value x3
  split
  · rename_i y18 y19 y20
    refine Keeps.step zsend_keeps rfl ?_
    refine Keeps.ite ?_ ?_
    · assumption
    · exact Keeps.step zsend_keeps rfl ‹_›
  · rename_i y21 y22
    refine Keeps.ite ?_ ?_
    · exact Keeps.step ringDone_keeps rfl ‹_›
    · refine Keeps.ite ?_ ?_
      · refine Keeps.step tallyApply_keeps rfl ?_
        exact Keeps.step psnDurable_keeps rfl ‹_›
      · refine Keeps.ite ?_ ?_
        · refine Keeps.step drive_keeps rfl ?_
          exact Keeps.step psnDurable_keeps rfl ‹_›
        · refine Keeps.step psnDurable_keeps rfl ?_
          exact Keeps.step drive_keeps rfl ‹_›

theorem accPoison_keeps {a0 s} : Keeps 1507401 s (accPoison a0 s) := by
  unfold accPoison
  extract_lets x0
  have k1 : Keeps 1507401 s x0 := by
    unfold x0
    split
    · rename_i y2 y3
      exact Keeps.refl _ _
    · rename_i y4 y5 y6
      exact Keeps.widen keyCount_keeps rfl
  clear_value x0
  split
  · rename_i y7 y8 y9
    exact Keeps.step zsend_keeps rfl ‹_›
  · rename_i y10 y11
    refine Keeps.ite ?_ ?_
    · exact Keeps.step ringDone_keeps rfl ‹_›
    · refine Keeps.step psnDurable_keeps rfl ?_
      exact Keeps.step drive_keeps rfl ‹_›

theorem atomKeep_keeps {a0 a1 s} : Keeps 1048576 s (atomKeep a0 a1 s) := by
  unfold atomKeep
  extract_lets x0
  clear_value x0
  exact Keeps.widen modQp_keeps rfl

theorem accExec_keeps {a0 s} : Keeps 9936969 s (accExec a0 s) := by
  unfold accExec
  extract_lets x0 x1 x2 x3 x4 x5 x6
  have k7 : Keeps 9936969 s x1 := by
    unfold x1
    exact Keeps.widen accTouch_keeps rfl
  clear_value x1
  have k8 : ∀ a9 a10 a11, Keeps 9936969 a11 (x2 a9 a10 a11) := by
    unfold x2
    intro v12 v13 v14
    refine Keeps.ite ?_ ?_
    · exact Keeps.widen accDone_keeps rfl
    · exact Keeps.widen upd_win rfl
  clear_value x2
  have k15 : Keeps 9936969 s x5 := by
    unfold x5
    exact Keeps.step bump_keeps rfl ‹_›
  clear_value x5
  have k16 : Keeps 9936969 s x6 := by
    unfold x6
    refine Keeps.ite ?_ ?_
    · exact Keeps.step atomKeep_keeps rfl ‹_›
    · assumption
  clear_value x6
  clear_value x0 x3 x4
  refine Keeps.ite ?_ ?_
  · split
    · rename_i y17 y18 y19 y20
      have k21 : Keeps 9936969 s y19 := by
        refine Keeps.ofSnd y20 ?_
        exact Keeps.step accPlace_keeps rfl ‹_›
      refine Keeps.trans ?_ (k8 ..)
      refine Keeps.ite ?_ ?_
      · exact Keeps.step recBytes_keeps rfl ‹_›
      · assumption
  · refine Keeps.ite ?_ ?_
    · exact Keeps.step accPoison_keeps rfl ‹_›
    · refine Keeps.ite ?_ ?_
      · exact Keeps.step accDone_keeps rfl ‹_›
      · split
        · rename_i y22 y23
          refine Keeps.trans ?_ (k8 ..)
          assumption
        · rename_i y24 y25 y26
          split
          · rename_i y27 y28 y29 y30
            have k31 : Keeps 9936969 s y29 := by
              refine Keeps.ofSnd y30 ?_
              exact Keeps.step accPlace_keeps rfl ‹_›
            refine Keeps.trans ?_ (k8 ..)
            assumption

theorem accDrop_keeps {a0 s} : Keeps 1507401 s (accDrop a0 s) := by
  unfold accDrop
  extract_lets x0
  have k1 : Keeps 1507401 s x0 := by
    unfold x0
    split
    · rename_i y2 y3
      exact Keeps.refl _ _
    · rename_i y4 y5 y6
      exact Keeps.widen keyCount_keeps rfl
  clear_value x0
  split
  · rename_i y7 y8 y9
    exact Keeps.step zsend_keeps rfl ‹_›
  · rename_i y10 y11
    refine Keeps.ite ?_ ?_
    · exact Keeps.step ringDone_keeps rfl ‹_›
    · exact Keeps.step psnDrop_keeps rfl ‹_›

theorem accDiscard_keeps {a0 s} : Keeps 1507401 s (accDiscard a0 s) := by
  unfold accDiscard
  refine Keeps.step accDrop_keeps rfl ?_
  exact Keeps.widen bump_keeps rfl

theorem accFault_keeps {a0 s} : Keeps 14676057 s (accFault a0 s) := by
  unfold accFault
  refine Keeps.foldl ?_ (fun t0 x1 k2 => ?_)
  · exact Keeps.refl _ _
  · exact Keeps.step faultPage_keeps rfl ‹_›

theorem accStall_keeps {a0 s} : Keeps 14676057 s (accStall a0 s) := by
  unfold accStall
  refine Keeps.step accFault_keeps rfl ?_
  extract_lets x0 x1
  have k2 : Keeps 14676057 s x0 := by
    unfold x0
    exact Keeps.widen bump_keeps rfl
  clear_value x0
  clear_value x1
  exact Keeps.step upd_win rfl ‹_›

theorem accTry_keeps {a0 s} : Keeps 14676057 s (accTry a0 s).2 := by
  unfold accTry
  refine Keeps.iteSnd ?_ ?_
  · extract_lets x0 x1 x2
    clear_value x0 x1 x2
    refine Keeps.mkSnd ?_
    refine Keeps.step zsend_keeps rfl ?_
    exact Keeps.widen upd_pair_win rfl
  · refine Keeps.iteSnd ?_ ?_
    · refine Keeps.mkSnd ?_
      exact Keeps.widen accExec_keeps rfl
    · refine Keeps.iteSnd ?_ ?_
      · refine Keeps.mkSnd ?_
        exact Keeps.widen accStall_keeps rfl
      · refine Keeps.iteSnd ?_ ?_
        · extract_lets x3 x4 x5
          have k6 : Keeps 14676057 s x4 := by
            unfold x4
            refine Keeps.ite ?_ ?_
            · exact Keeps.refl _ _
            · refine Keeps.step raise_keeps rfl ?_
              exact Keeps.widen upd_win rfl
          clear_value x4
          clear_value x3 x5
          refine Keeps.mkSnd ?_
          refine Keeps.step accFault_keeps rfl ?_
          refine Keeps.step accDiscard_keeps rfl ?_
          exact Keeps.step upd_win rfl ‹_›
        · refine Keeps.iteSnd ?_ ?_
          · refine Keeps.mkSnd ?_
            refine Keeps.step accFault_keeps rfl ?_
            exact Keeps.widen accDiscard_keeps rfl
          · refine Keeps.mkSnd ?_
            refine Keeps.step accStall_keeps rfl ?_
            exact Keeps.widen upd_win rfl

theorem winAcked_keeps {a0 s} : Keeps 1540169 s (winAcked a0 s) := by
  unfold winAcked
  extract_lets x0 x1 x2 x3
  clear_value x0 x1 x2 x3
  refine Keeps.foldl ?_ (fun t4 x5 k6 => ?_)
  · exact Keeps.widen upd_win rfl
  · exact Keeps.step accDone_keeps rfl ‹_›

end Sys2Proof.Machine
end

