-- ==== Sys2Proof/Laws/KeepsXportOps.lean ====
section
/-!
SUPPORT. Laws/KeepsXportOps.lean: which units of the state each operation of Machine/XportOps.lean may change: one `Keeps` lemma each.
-/
namespace Sys2Proof.Machine

theorem connQueuesEnd_keeps {a0 s} : Keeps 9957449 s (connQueuesEnd a0 s) := by
  unfold connQueuesEnd
  refine Keeps.foldl ?_ (fun t0 x1 k2 => ?_)
  · exact Keeps.refl _ _
  · exact Keeps.step endAssociation_keeps rfl ‹_›

theorem qpError_keeps {a0 a1 s} : Keeps 9957449 s (qpError a0 a1 s) := by
  unfold qpError
  refine Keeps.ite ?_ ?_
  · exact Keeps.refl _ _
  · extract_lets x0
    have k1 : Keeps 9957449 s x0 := by
      unfold x0
      refine Keeps.step raise_keeps rfl ?_
      refine Keeps.step bump_keeps rfl ?_
      exact Keeps.widen modQp_keeps rfl
    clear_value x0
    refine Keeps.step connQueuesEnd_keeps rfl ?_
    refine Keeps.step drive_keeps rfl ?_
    exact Keeps.step qpClear_keeps rfl ‹_›

theorem qpTouch_keeps {a0 s} : Keeps 1048577 s (qpTouch a0 s) := by
  unfold qpTouch
  extract_lets x0 x1 x2 x3 x4
  clear_value x0 x1 x2 x3 x4
  refine Keeps.ite ?_ ?_
  · refine Keeps.step bump_keeps rfl ?_
    exact Keeps.widen upd_xp rfl
  · refine Keeps.step bump_keeps rfl ?_
    exact Keeps.widen upd_xp rfl

theorem rxRefuse_keeps {a0 a1 s} : Keeps 1310793 s (rxRefuse a0 a1 s) := by
  unfold rxRefuse
  extract_lets x0 x1
  have k2 : Keeps 1310793 s x1 := by
    unfold x1
    refine Keeps.ite ?_ ?_
    · exact Keeps.refl _ _
    · refine Keeps.step raise_keeps rfl ?_
      exact Keeps.widen upd_xp rfl
  clear_value x1
  clear_value x0
  refine Keeps.step drive_keeps rfl ?_
  exact Keeps.step bump_keeps rfl ‹_›

theorem cnpMaybe_keeps {a0 a1 s} : Keeps 1048585 s (cnpMaybe a0 a1 s) := by
  unfold cnpMaybe
  extract_lets x0 x1
  clear_value x0 x1
  refine Keeps.ite ?_ ?_
  · exact Keeps.refl _ _
  · refine Keeps.step bump_keeps rfl ?_
    refine Keeps.step drive_keeps rfl ?_
    exact Keeps.widen setQp_keeps rfl

theorem qpKey_keeps {a0 a1 a2 a3 a4 a5 s} : Keeps 9957449 s (qpKey a0 a1 a2 a3 a4 a5 s).2 := by
  unfold qpKey
  split
  · rename_i y0 y1
    refine Keeps.mkSnd ?_
    exact Keeps.refl _ _
  · rename_i y2 y3 y4 y5 y6 y7 y8 y9
    extract_lets x10 x11 x12
    clear_value x10 x11 x12
    refine Keeps.iteSnd ?_ ?_
    · refine Keeps.mkSnd ?_
      refine Keeps.step qpError_keeps rfl ?_
      refine Keeps.step drive_keeps rfl ?_
      exact Keeps.widen bump_keeps rfl
    · refine Keeps.mkSnd ?_
      refine Keeps.step keyCount_keeps rfl ?_
      exact Keeps.widen bump_keeps rfl

theorem qpAdvance_keeps {a0 a1 s} : Keeps 1048576 s (qpAdvance a0 a1 s) := by
  unfold qpAdvance
  exact Keeps.widen modQp_keeps rfl

theorem qpImm_keeps {a0 a1 s} : Keeps 491593 s (qpImm a0 a1 s) := by
  unfold qpImm
  split
  · rename_i y0 y1 y2 y3 y4
    extract_lets x5 x6
    clear_value x5 x6
    refine Keeps.step tallyApply_keeps rfl ?_
    exact Keeps.widen upd_win rfl
  · rename_i y7 y8
    exact Keeps.widen bump_keeps rfl

theorem qpDeliver_keeps {a0 a1 s} : Keeps 14676057 s (qpDeliver a0 a1 s) := by
  induction a1 generalizing a0 s
  · unfold qpDeliver
    exact Keeps.refl _ _
  · rename_i y0 y1
    unfold qpDeliver
    extract_lets x2
    clear_value x2
    split
    · rename_i y3 y4
      exact Keeps.refl _ _
    · rename_i y5 y6 y7
      refine Keeps.ite ?_ ?_
      · exact Keeps.refl _ _
      · split
        · rename_i y8 y9 y10
          extract_lets x11 x12
          have k13 : Keeps 14676057 s x11 := by
            unfold x11
            exact Keeps.widen qpAdvance_keeps rfl
          clear_value x11
          have k14 : Keeps 14676057 s x12 := by
            unfold x12
            split
            · rename_i y15 y16 y17 y18 y19 y20
              exact Keeps.step submit_keeps rfl ‹_›
            · rename_i y21 y22 y23 y24
              assumption
          clear_value x12
          refine Keeps.trans ?_ y1
          assumption
        · rename_i y25 y26 y27 y28 y29 y30
          extract_lets x31
          have k32 : Keeps 14676057 s x31 := by
            unfold x31
            exact Keeps.widen qpAdvance_keeps rfl
          clear_value x31
          refine Keeps.trans ?_ y1
          refine Keeps.ite ?_ ?_
          · exact Keeps.step qpImm_keeps rfl ‹_›
          · assumption
        · rename_i y33 y34 y35
          refine Keeps.ite ?_ ?_
          · exact Keeps.refl _ _
          · split
            · rename_i y36 y37
              exact Keeps.refl _ _
            · rename_i y38 y39 y40 y41 y42 y43 y44 y45
              extract_lets x46 x47
              clear_value x46 x47
              split
              · rename_i y48 y49 y50
                have k51 : Keeps 14676057 s y49 := by
                  refine Keeps.ofSnd y50 ?_
                  refine Keeps.step accTry_keeps rfl ?_
                  exact Keeps.widen setQp_keeps rfl
                assumption
              · rename_i y52 y53 y54
                have k55 : Keeps 14676057 s y53 := by
                  refine Keeps.ofSnd y54 ?_
                  refine Keeps.step accTry_keeps rfl ?_
                  exact Keeps.widen setQp_keeps rfl
                refine Keeps.trans ?_ y1
                exact Keeps.step qpAdvance_keeps rfl ‹_›

theorem qpGo_keeps {a0 s} : Keeps 14676057 s (qpGo a0 s) := by
  unfold qpGo
  exact Keeps.widen qpDeliver_keeps rfl

theorem qpExecuted_keeps {a0 a1 s} : Keeps 14676057 s (qpExecuted a0 a1 s) := by
  unfold qpExecuted
  extract_lets x0
  clear_value x0
  split
  · rename_i y1 y2
    exact Keeps.widen qpGo_keeps rfl
  · rename_i y3 y4 y5
    split
    · rename_i y6 y7 y8
      exact Keeps.widen qpGo_keeps rfl
    · rename_i y9 y10 y11 y12 y13 y14
      exact Keeps.widen qpGo_keeps rfl
    · rename_i y15 y16 y17
      refine Keeps.ite ?_ ?_
      · refine Keeps.step qpGo_keeps rfl ?_
        exact Keeps.widen qpAdvance_keeps rfl
      · exact Keeps.widen qpGo_keeps rfl

theorem qpDup_keeps {a0 a1 a2 s} : Keeps 14676057 s (qpDup a0 a1 a2 s) := by
  unfold qpDup
  extract_lets x0 x1
  clear_value x0 x1
  refine Keeps.ite ?_ ?_
  · refine Keeps.step sendAck_keeps rfl ?_
    exact Keeps.widen bump_keeps rfl
  · refine Keeps.ite ?_ ?_
    · split
      · rename_i y2 y3 y4
        refine Keeps.step drive_keeps rfl ?_
        exact Keeps.widen bump_keeps rfl
      · rename_i y5 y6
        refine Keeps.step raise_keeps rfl ?_
        refine Keeps.step drive_keeps rfl ?_
        exact Keeps.widen bump_keeps rfl
    · split
      · rename_i y7 y8 y9
        have k10 : Keeps 14676057 s y8 := by
          refine Keeps.ofSnd y9 ?_
          exact Keeps.widen qpKey_keeps rfl
        assumption
      · rename_i y11 y12 y13 y14
        have k15 : Keeps 14676057 s y13 := by
          refine Keeps.ofSnd y14 ?_
          exact Keeps.widen qpKey_keeps rfl
        exact Keeps.step accTry_keeps rfl ‹_›

theorem qpPlace_keeps {a0 a1 a2 a3 a4 s} : Keeps 14676057 s (qpPlace a0 a1 a2 a3 a4 s) := by
  unfold qpPlace
  split
  · rename_i y0 y1
    refine Keeps.step qpGo_keeps rfl ?_
    exact Keeps.widen recBytes_keeps rfl
  · rename_i y2 y3 y4 y5 y6
    split
    · rename_i y7 y8 y9
      have k10 : Keeps 14676057 s y8 := by
        refine Keeps.ofSnd y9 ?_
        exact Keeps.widen qpKey_keeps rfl
      assumption
    · rename_i y11 y12 y13 y14
      have k15 : Keeps 14676057 s y13 := by
        refine Keeps.ofSnd y14 ?_
        exact Keeps.widen qpKey_keeps rfl
      extract_lets x16
      have k17 : Keeps 14676057 s x16 := by
        unfold x16
        split
        · rename_i y18 y19
          assumption
        · rename_i y20 y21 y22
          exact Keeps.step modQp_keeps rfl ‹_›
      clear_value x16
      refine Keeps.step qpGo_keeps rfl ?_
      exact Keeps.step accTry_keeps rfl ‹_›
  · rename_i y23 y24 y25
    split
    · rename_i y26 y27 y28
      have k29 : Keeps 14676057 s y27 := by
        refine Keeps.ofSnd y28 ?_
        exact Keeps.widen qpKey_keeps rfl
      assumption
    · rename_i y30 y31 y32 y33
      have k34 : Keeps 14676057 s y32 := by
        refine Keeps.ofSnd y33 ?_
        exact Keeps.widen qpKey_keeps rfl
      exact Keeps.step qpGo_keeps rfl ‹_›

theorem qpAck_keeps {a0 a1 a2 s} : Keeps 1048585 s (qpAck a0 a1 a2 s) := by
  unfold qpAck
  extract_lets x0 x1
  clear_value x0 x1
  refine Keeps.step ackIfDue_keeps rfl ?_
  exact Keeps.widen setQp_keeps rfl

theorem rxSpray_keeps {a0 a1 a2 a3 s} : Keeps 14676057 s (rxSpray a0 a1 a2 a3 s) := by
  unfold rxSpray
  extract_lets x0 x1 x2 x3 x4 x5 x6 x7 x8 x9 x10 x11
  have k12 : Keeps 14676057 s x9 := by
    unfold x9
    exact Keeps.widen setQp_keeps rfl
  clear_value x9
  have k13 : Keeps 14676057 s x11 := by
    unfold x11
    refine Keeps.ite ?_ ?_
    · exact Keeps.step upd_xp rfl ‹_›
    · assumption
  clear_value x11
  clear_value x0 x1 x2 x3 x4 x5 x6 x7 x8 x10
  refine Keeps.ite ?_ ?_
  · exact Keeps.widen qpDup_keeps rfl
  · refine Keeps.ite ?_ ?_
    · exact Keeps.widen bump_keeps rfl
    · refine Keeps.ite ?_ ?_
      · exact Keeps.widen qpDup_keeps rfl
      · refine Keeps.ite ?_ ?_
        · exact Keeps.widen qpError_keeps rfl
        · split
          · rename_i y14 y15 y16
            refine Keeps.ite ?_ ?_
            · exact Keeps.widen qpError_keeps rfl
            · extract_lets x17
              have k18 : Keeps 14676057 s x17 := by
                unfold x17
                exact Keeps.widen setQp_keeps rfl
              clear_value x17
              refine Keeps.step qpAck_keeps rfl ?_
              exact Keeps.step qpPlace_keeps rfl ‹_›
          · rename_i y19 y20
            refine Keeps.ite ?_ ?_
            · exact Keeps.widen bump_keeps rfl
            · refine Keeps.ite ?_ ?_
              · exact Keeps.widen rxRefuse_keeps rfl
              · refine Keeps.step qpAck_keeps rfl ?_
                exact Keeps.step qpPlace_keeps rfl ‹_›

theorem stdProcess_keeps {a0 a1 a2 a3 s} : Keeps 14676057 s (stdProcess a0 a1 a2 a3 s) := by
  unfold stdProcess
  extract_lets x0 x1 x2 x3 x4 x5 x6 x7 x8
  have k9 : Keeps 14676057 s x8 := by
    unfold x8
    exact Keeps.widen setQp_keeps rfl
  clear_value x8
  clear_value x0 x1 x2 x3 x4 x5 x6 x7
  refine Keeps.step qpAck_keeps rfl ?_
  exact Keeps.step qpPlace_keeps rfl ‹_›

theorem rxStd_keeps {a0 a1 a2 a3 s} : Keeps 14676057 s (rxStd a0 a1 a2 a3 s) := by
  unfold rxStd
  extract_lets x0 x1 x2 x3 x4 x5 x6 x7
  have k8 : Keeps 14676057 s x4 := by
    unfold x4
    exact Keeps.widen setQp_keeps rfl
  clear_value x4
  have k9 : Keeps 14676057 s x6 := by
    unfold x6
    refine Keeps.ite ?_ ?_
    · exact Keeps.step upd_xp rfl ‹_›
    · assumption
  clear_value x6
  clear_value x0 x1 x2 x3 x5 x7
  refine Keeps.ite ?_ ?_
  · exact Keeps.widen qpDup_keeps rfl
  · refine Keeps.ite ?_ ?_
    · refine Keeps.ite ?_ ?_
      · exact Keeps.refl _ _
      · refine Keeps.step drive_keeps rfl ?_
        exact Keeps.widen setQp_keeps rfl
    · refine Keeps.ite ?_ ?_
      · refine Keeps.step rxRefuse_keeps rfl ?_
        exact Keeps.widen setQp_keeps rfl
      · refine Keeps.ite ?_ ?_
        · exact Keeps.step modQp_keeps rfl ‹_›
        · exact Keeps.step stdProcess_keeps rfl ‹_›

theorem stdRelease_keeps {a0 a1 s} : Keeps 14676057 s (stdRelease a0 a1 s) := by
  induction a1 generalizing a0 s
  · unfold stdRelease
    exact Keeps.refl _ _
  · rename_i y0 y1
    unfold stdRelease
    extract_lets x2
    clear_value x2
    split
    · rename_i y3 y4
      exact Keeps.refl _ _
    · rename_i y5 y6 y7 y8 y9
      refine Keeps.ite ?_ ?_
      · exact Keeps.refl _ _
      · extract_lets x10
        clear_value x10
        refine Keeps.trans ?_ y1
        refine Keeps.step stdProcess_keeps rfl ?_
        exact Keeps.widen setQp_keeps rfl

theorem rxOther_keeps {a0 a1 s} : Keeps 1048577 s (rxOther a0 a1 s).2 := by
  unfold rxOther
  extract_lets x0
  clear_value x0
  refine Keeps.iteSnd ?_ ?_
  · refine Keeps.mkSnd ?_
    exact Keeps.widen bump_keeps rfl
  · refine Keeps.mkSnd ?_
    refine Keeps.step qpTouch_keeps rfl ?_
    refine Keeps.ite ?_ ?_
    · exact Keeps.widen setQp_keeps rfl
    · exact Keeps.refl _ _

theorem rxPacket_keeps {a0 a1 a2 a3 s} : Keeps 14676057 s (rxPacket a0 a1 a2 a3 s) := by
  unfold rxPacket
  extract_lets x0 x1 x2 x3 x4
  have k5 : Keeps 14676057 s x2 := by
    unfold x2
    refine Keeps.step cnpMaybe_keeps rfl ?_
    refine Keeps.step qpTouch_keeps rfl ?_
    exact Keeps.widen modQp_keeps rfl
  clear_value x2
  have k6 : Keeps 14676057 s x4 := by
    unfold x4
    refine Keeps.ite ?_ ?_
    · exact Keeps.step bump_keeps rfl ‹_›
    · assumption
  clear_value x4
  clear_value x0 x1 x3
  refine Keeps.ite ?_ ?_
  · exact Keeps.widen bumpAt_keeps rfl
  · refine Keeps.ite ?_ ?_
    · exact Keeps.widen bump_keeps rfl
    · refine Keeps.ite ?_ ?_
      · exact Keeps.refl _ _
      · refine Keeps.ite ?_ ?_
        · exact Keeps.widen bump_keeps rfl
        · refine Keeps.ite ?_ ?_
          · exact Keeps.step rxSpray_keeps rfl ‹_›
          · exact Keeps.step rxStd_keeps rfl ‹_›

theorem pinFault_keeps {a0 s} : Keeps 14676057 s (pinFault a0 s) := by
  unfold pinFault
  extract_lets x0
  clear_value x0
  refine Keeps.ite ?_ ?_
  · exact Keeps.refl _ _
  · refine Keeps.foldl ?_ (fun t1 x2 k3 => ?_)
    · exact Keeps.refl _ _
    · exact Keeps.step faultPage_keeps rfl ‹_›

theorem faultRetry_keeps {s} : Keeps 14676057 s (faultRetry s) := by
  unfold faultRetry
  refine Keeps.foldl ?_ (fun t0 x1 k2 => ?_)
  · refine Keeps.foldl ?_ (fun t3 x4 k5 => ?_)
    · exact Keeps.refl _ _
    · exact Keeps.step accFault_keeps rfl ‹_›
  · exact Keeps.step pinFault_keeps rfl ‹_›

theorem stallRelease_keeps {a0 s} : Keeps 14676057 s (stallRelease a0 s) := by
  induction a0 generalizing  s
  · unfold stallRelease
    exact Keeps.refl _ _
  · rename_i y0 y1
    unfold stallRelease
    split
    · rename_i y2 y3
      exact Keeps.refl _ _
    · rename_i y4 y5 y6
      extract_lets x7 x8 x9 x10
      have k11 : Keeps 14676057 s x8 := by
        unfold x8
        refine Keeps.step accExec_keeps rfl ?_
        exact Keeps.widen upd_win rfl
      clear_value x8
      have k12 : Keeps 14676057 s x9 := by
        unfold x9
        exact Keeps.step qpExecuted_keeps rfl ‹_›
      clear_value x9
      have k13 : Keeps 14676057 s x10 := by
        unfold x10
        refine Keeps.ite ?_ ?_
        · assumption
        · exact Keeps.step stdRelease_keeps rfl ‹_›
      clear_value x10
      clear_value x7
      refine Keeps.trans ?_ y1
      assumption

theorem stallGo_keeps {s} : Keeps 14676057 s (stallGo s) := by
  unfold stallGo
  refine Keeps.step stallRelease_keeps rfl ?_
  exact Keeps.widen faultRetry_keeps rfl

theorem xportEnd_keeps {s} : Keeps 1179648 s (xportEnd s) := by
  unfold xportEnd
  exact Keeps.widen upd_win_xp rfl

theorem resend_keeps {a0 a1 a2 s} : Keeps 9957449 s (resend a0 a1 a2 s) := by
  unfold resend
  extract_lets x0 x1 x2 x3
  have k4 : Keeps 9957449 s x3 := by
    unfold x3
    exact Keeps.widen setQp_keeps rfl
  clear_value x3
  clear_value x0 x1 x2
  refine Keeps.ite ?_ ?_
  · exact Keeps.widen qpError_keeps rfl
  · refine Keeps.step drive_keeps rfl ?_
    exact Keeps.step bump_keeps rfl ‹_›

theorem resendAll_keeps {a0 a1 a2 s} : Keeps 9957449 s (resendAll a0 a1 a2 s) := by
  unfold resendAll
  refine Keeps.foldl ?_ (fun t0 x1 k2 => ?_)
  · exact Keeps.refl _ _
  · refine Keeps.ite ?_ ?_
    · assumption
    · exact Keeps.step resend_keeps rfl ‹_›

end Sys2Proof.Machine
end

