-- ==== Sys2Proof/Laws/KeepsCache.lean ====
section
/-!
SUPPORT. Laws/KeepsCache.lean: which units of the state each operation of Machine/Cache.lean may change: one `Keeps` lemma each.
-/
namespace Sys2Proof.Machine

theorem execWriteBlockPlaced_keeps {a0 a1 a2 s} : KeepsR 13496409 s (execWriteBlockPlaced a0 a1 a2 s) := by
  unfold execWriteBlockPlaced
  refine KeepsR.next ?_
  refine Keeps.step blockArrives_keeps rfl ?_
  exact Keeps.widen epArrived_keeps rfl

theorem execWriterTakeEffect_keeps {a0 s} : KeepsR 14676057 s (execWriterTakeEffect a0 s) := by
  unfold execWriterTakeEffect
  refine KeepsR.next ?_
  exact Keeps.widen takeEffect_keeps rfl

theorem execWriterFail_keeps {a0 a1 s} : KeepsR 9957449 s (execWriterFail a0 a1 s) := by
  unfold execWriterFail
  refine KeepsR.next ?_
  split
  · rename_i y0 y1
    exact Keeps.refl _ _
  · rename_i y2 y3 y4
    split
    · rename_i y5 y6 y7 y8
      refine Keeps.ite ?_ ?_
      · exact Keeps.refl _ _
      · exact Keeps.widen travAbandon_keeps rfl
    · rename_i y9 y10
      refine Keeps.ite ?_ ?_
      · exact Keeps.refl _ _
      · refine Keeps.ite ?_ ?_
        · exact Keeps.widen failWriter_keeps rfl
        · exact Keeps.widen failWriter_keeps rfl

theorem execGatherAgeExpire_keeps {a0 a1 a2 s} : KeepsR 8192 s (execGatherAgeExpire a0 a1 a2 s) := by
  unfold execGatherAgeExpire
  refine KeepsR.next ?_
  extract_lets x0
  clear_value x0
  split
  · rename_i y1 y2
    exact Keeps.refl _ _
  · rename_i y3 y4 y5
    refine Keeps.ite ?_ ?_
    · exact Keeps.widen setFrame_keeps rfl
    · exact Keeps.refl _ _

theorem formatBegin_keeps {a0 a1 s} : Keeps 13475929 s (formatBegin a0 a1 s) := by
  unfold formatBegin
  extract_lets x0
  clear_value x0
  split
  · rename_i y1 y2 y3
    have k4 : Keeps 13475929 s y2 := by
      refine Keeps.ofSnd y3 ?_
      exact Keeps.widen drawGen_keeps rfl
    assumption
  · rename_i y5 y6 y7 y8 y9
    have k10 : Keeps 13475929 s y8 := by
      refine Keeps.ofSnd y9 ?_
      exact Keeps.widen drawGen_keeps rfl
    extract_lets x11 x12 x13
    have k14 : Keeps 13475929 s x12 := by
      unfold x12
      exact Keeps.step setEnt_keeps rfl ‹_›
    clear_value x12
    clear_value x11 x13
    refine Keeps.step persist_keeps rfl ?_
    exact Keeps.step upd_store rfl ‹_›

theorem execFlushStart_keeps {s} : KeepsR 14676057 s (execFlushStart s) := by
  unfold execFlushStart
  refine KeepsR.next ?_
  refine Keeps.ite ?_ ?_
  · exact Keeps.refl _ _
  · split
    · rename_i y0 y1
      exact Keeps.refl _ _
    · rename_i y2 y3 y4
      split
      · rename_i y5 y6
        exact Keeps.refl _ _
      · rename_i y7 y8 y9
        refine Keeps.ite ?_ ?_
        · exact Keeps.widen formatBegin_keeps rfl
        · exact Keeps.widen startFlush_keeps rfl

theorem execJournalRecordWritten_keeps {a0 a1 a2 s} : KeepsR 8462345 s (execJournalRecordWritten a0 a1 a2 s) := by
  unfold execJournalRecordWritten
  refine KeepsR.next ?_
  extract_lets x0
  clear_value x0
  split
  · rename_i y1 y2
    exact Keeps.refl _ _
  · rename_i y3 y4 y5
    split
    · rename_i y6 y7
      exact Keeps.refl _ _
    · rename_i y8 y9 y10
      extract_lets x11
      clear_value x11
      refine Keeps.ite ?_ ?_
      · exact Keeps.widen flushStrips_keeps rfl
      · exact Keeps.refl _ _

theorem execFlushStripsDone_keeps {a0 a1 a2 s} : KeepsR 14676057 s (execFlushStripsDone a0 a1 a2 s) := by
  unfold execFlushStripsDone
  refine KeepsR.next ?_
  extract_lets x0
  clear_value x0
  split
  · rename_i y1 y2
    exact Keeps.refl _ _
  · rename_i y3 y4 y5
    split
    · rename_i y6 y7
      exact Keeps.refl _ _
    · rename_i y8 y9 y10
      refine Keeps.ite ?_ ?_
      · refine Keeps.step stallGo_keeps rfl ?_
        refine Keeps.step travRetire_keeps rfl ?_
        exact Keeps.widen flushDone_keeps rfl
      · exact Keeps.refl _ _

theorem dropCell_keeps {a0 a1 s} : Keeps 8192 s (dropCell a0 a1 s) := by
  unfold dropCell
  split
  · rename_i y0 y1 y2 y3
    refine Keeps.step extDrop_keeps rfl ?_
    exact Keeps.widen upd_store rfl

theorem execMemoryError_keeps {a0 a1 a2 s} : KeepsR 8757321 s (execMemoryError a0 a1 a2 s) := by
  unfold execMemoryError
  refine KeepsR.next ?_
  extract_lets x0 x1
  clear_value x0 x1
  refine Keeps.ite ?_ ?_
  · exact Keeps.widen bump_keeps rfl
  · refine Keeps.ite ?_ ?_
    · split
      · rename_i y2 y3 y4
        refine Keeps.ite ?_ ?_
        · exact Keeps.refl _ _
        · refine Keeps.step raise_keeps rfl ?_
          refine Keeps.step bump_keeps rfl ?_
          exact Keeps.widen dropCell_keeps rfl
      · rename_i y5 y6
        refine Keeps.ite ?_ ?_
        · refine Keeps.step raise_keeps rfl ?_
          refine Keeps.step bump_keeps rfl ?_
          exact Keeps.widen extDrop_keeps rfl
        · exact Keeps.refl _ _
    · refine Keeps.ite ?_ ?_
      · split
        · rename_i y7 y8
          exact Keeps.refl _ _
        · rename_i y9 y10 y11
          refine Keeps.ite ?_ ?_
          · exact Keeps.refl _ _
          · refine Keeps.ite ?_ ?_
            · refine Keeps.step raise_keeps rfl ?_
              exact Keeps.widen bump_keeps rfl
            · refine Keeps.step raise_keeps rfl ?_
              refine Keeps.step lossAdd_keeps rfl ?_
              refine Keeps.step bump_keeps rfl ?_
              exact Keeps.widen dropCell_keeps rfl
      · refine Keeps.ite ?_ ?_
        · split
          · rename_i y12 y13 y14 y15
            refine Keeps.ite ?_ ?_
            · refine Keeps.step raise_keeps rfl ?_
              refine Keeps.step bump_keeps rfl ?_
              exact Keeps.widen upd_store rfl
            · exact Keeps.refl _ _
        · refine Keeps.ite ?_ ?_
          · refine Keeps.ite ?_ ?_
            · refine Keeps.step raise_keeps rfl ?_
              exact Keeps.widen bump_keeps rfl
            · exact Keeps.refl _ _
          · exact Keeps.refl _ _

end Sys2Proof.Machine
end

