-- ==== Sys2Proof/Laws/KeepsDriveIo.lean ====
section
/-!
SUPPORT. Laws/KeepsDriveIo.lean: which units of the state each operation of Machine/DriveIo.lean may change: one `Keeps` lemma each.
-/
namespace Sys2Proof.Machine

theorem settleFailed_keeps {s} : Keeps 9957449 s (settleFailed s) := by
  unfold settleFailed
  refine Keeps.foldl ?_ (fun t0 x1 k2 => ?_)
  · exact Keeps.refl _ _
  · split
    · rename_i y3 y4
      assumption
    · rename_i y5 y6 y7 y8 y9 y10
      exact Keeps.step failWriter_keeps rfl ‹_›

theorem countCheck_keeps {a0 s} : Keeps 1 s (countCheck a0 s) := by
  unfold countCheck
  refine Keeps.ite ?_ ?_
  · exact Keeps.widen bump_keeps rfl
  · refine Keeps.ite ?_ ?_
    · exact Keeps.widen bump_keeps rfl
    · refine Keeps.ite ?_ ?_
      · exact Keeps.widen bump_keeps rfl
      · refine Keeps.ite ?_ ?_
        · exact Keeps.widen bump_keeps rfl
        · exact Keeps.refl _ _

theorem takeRead_keeps {a0 a1 a2 a3 s} : Keeps 9957449 s (takeRead a0 a1 a2 a3 s) := by
  unfold takeRead
  split
  · rename_i y0 y1
    exact Keeps.refl _ _
  · rename_i y2 y3 y4
    split
    · rename_i y5 y6 y7 y8
      have k9 : Keeps 9957449 s y7 := by
        refine Keeps.ofSnd y8 ?_
        refine Keeps.foldlSnd ?_ (fun t10 x11 k12 => ?_)
        · refine Keeps.mkSnd ?_
          exact Keeps.refl _ _
        · extract_lets x13 x14 x15
          clear_value x13 x14 x15
          refine Keeps.iteSnd ?_ ?_
          · assumption
          · refine Keeps.iteSnd ?_ ?_
            · refine Keeps.mkSnd ?_
              assumption
            · refine Keeps.mkSnd ?_
              exact Keeps.step countCheck_keeps rfl ‹_›
      refine Keeps.step jobStep_keeps rfl ?_
      refine Keeps.step setJob_keeps rfl ?_
      exact Keeps.step opened_keeps rfl ‹_›

theorem lateCompletion_keeps {a0 s} : Keeps 8659017 s (lateCompletion a0 s) := by
  unfold lateCompletion
  extract_lets x0
  clear_value x0
  refine Keeps.step raise_keeps rfl ?_
  refine Keeps.step freeCmd_keeps rfl ?_
  refine Keeps.step bump_keeps rfl ?_
  exact Keeps.widen errLast_keeps rfl

theorem driveReadDone_keeps {a0 a1 s} : Keeps 9957449 s (driveReadDone a0 a1 s) := by
  unfold driveReadDone
  split
  · rename_i y0 y1
    exact Keeps.refl _ _
  · rename_i y2 y3 y4
    refine Keeps.ite ?_ ?_
    · exact Keeps.widen lateCompletion_keeps rfl
    · refine Keeps.ite ?_ ?_
      · exact Keeps.refl _ _
      · extract_lets x5
        have k6 : Keeps 9957449 s x5 := by
          unfold x5
          exact Keeps.widen freeCmd_keeps rfl
        clear_value x5
        refine Keeps.ite ?_ ?_
        · refine Keeps.ite ?_ ?_
          · exact Keeps.step bump_keeps rfl ‹_›
          · assumption
        · split
          · rename_i y7 y8 y9 y10 y11 y12
            extract_lets x13
            clear_value x13
            refine Keeps.step settleFailed_keeps rfl ?_
            refine Keeps.step takeRead_keeps rfl ?_
            refine Keeps.ite ?_ ?_
            · exact Keeps.step bump_keeps rfl ‹_›
            · assumption
          · rename_i y14 y15 y16
            exact Keeps.step zsend_keeps rfl ‹_›
          · rename_i y17 y18 y19
            assumption

theorem execDriveReadComplete_keeps {a0 a1 s} : KeepsR 9957449 s (execDriveReadComplete a0 a1 s) := by
  unfold execDriveReadComplete
  refine KeepsR.next ?_
  exact Keeps.widen driveReadDone_keeps rfl

theorem formattedClean_keeps {a0 s} : Keeps 1437769 s (formattedClean a0 s) := by
  unfold formattedClean
  split
  · rename_i y0 y1
    exact Keeps.refl _ _
  · rename_i y2 y3 y4 y5
    refine Keeps.foldl ?_ (fun t6 x7 k8 => ?_)
    · exact Keeps.refl _ _
    · extract_lets x9 x10 x11 x12 x13
      have k14 : Keeps 1437769 s x11 := by
        unfold x11
        exact Keeps.step setFrame_keeps rfl ‹_›
      clear_value x11
      have k15 : Keeps 1437769 s x13 := by
        unfold x13
        split
        · rename_i y16 y17
          assumption
        · rename_i y18 y19 y20
          exact Keeps.step upd_store rfl ‹_›
      clear_value x13
      clear_value x9 x10 x12
      exact Keeps.step carriedClean_keeps rfl ‹_›

theorem sweepRetire_keeps {a0 s} : Keeps 884809 s (sweepRetire a0 s) := by
  unfold sweepRetire
  extract_lets x0 x1 x2
  clear_value x0 x1 x2
  refine Keeps.ite ?_ ?_
  · exact Keeps.refl _ _
  · refine Keeps.trans ?_ (requestRecord_keeps (M := 884809) rfl ?_ ?_)
    · exact Keeps.refl _ _
    · intro v3
      exact Keeps.widen keyRetire_keeps rfl
    · intro v4
      refine Keeps.idE ?_
      exact Keeps.refl _ _

theorem homeWritten_keeps {a0 s} : Keeps 14676057 s (homeWritten a0 s) := by
  unfold homeWritten
  split
  · rename_i y0 y1
    exact Keeps.refl _ _
  · rename_i y2 y3 y4
    refine Keeps.ite ?_ ?_
    · exact Keeps.widen upd_store rfl
    · extract_lets x5 x6 x7 x8 x9
      have k10 : Keeps 14676057 s x7 := by
        unfold x7
        exact Keeps.widen upd_store rfl
      clear_value x7
      have k11 : Keeps 14676057 s x8 := by
        unfold x8
        refine Keeps.ite ?_ ?_
        · exact Keeps.step formattedClean_keeps rfl ‹_›
        · assumption
      clear_value x8
      have k12 : Keeps 14676057 s x9 := by
        unfold x9
        split
        · rename_i y13 y14 y15 y16
          refine Keeps.ite ?_ ?_
          · exact Keeps.step sweepRetire_keeps rfl ‹_›
          · assumption
        · rename_i y17 y18
          assumption
      clear_value x9
      clear_value x5 x6
      refine Keeps.step stallGo_keeps rfl ?_
      refine Keeps.step travRetire_keeps rfl ?_
      exact Keeps.step resumeDeferred_keeps rfl ‹_›

theorem driveWriteDone_keeps {a0 a1 s} : Keeps 14676057 s (driveWriteDone a0 a1 s) := by
  unfold driveWriteDone
  split
  · rename_i y0 y1
    exact Keeps.refl _ _
  · rename_i y2 y3 y4
    refine Keeps.ite ?_ ?_
    · exact Keeps.widen lateCompletion_keeps rfl
    · refine Keeps.ite ?_ ?_
      · exact Keeps.refl _ _
      · extract_lets x5 x6
        have k7 : Keeps 14676057 s x5 := by
          unfold x5
          exact Keeps.widen freeCmd_keeps rfl
        clear_value x5
        clear_value x6
        refine Keeps.ite ?_ ?_
        · assumption
        · split
          · rename_i y8 y9 y10
            refine Keeps.ite ?_ ?_
            · exact Keeps.step upd_store rfl ‹_›
            · exact Keeps.step replan_keeps rfl ‹_›
          · rename_i y11 y12 y13
            exact Keeps.step homeWritten_keeps rfl ‹_›
          · rename_i y14 y15 y16
            exact Keeps.step zsend_keeps rfl ‹_›
          · rename_i y17 y18 y19 y20
            assumption

theorem execDriveWriteComplete_keeps {a0 a1 s} : KeepsR 14676057 s (execDriveWriteComplete a0 a1 s) := by
  unfold execDriveWriteComplete
  refine KeepsR.next ?_
  exact Keeps.widen driveWriteDone_keeps rfl

theorem execDeadlineExpire_keeps {a0 s} : KeepsR 9957449 s (execDeadlineExpire a0 s) := by
  unfold execDeadlineExpire
  refine KeepsR.next ?_
  split
  · rename_i y0 y1
    exact Keeps.refl _ _
  · rename_i y2 y3 y4
    split
    · rename_i y5 y6 y7 y8 y9 y10
      refine Keeps.ite ?_ ?_
      · exact Keeps.refl _ _
      · split
        · rename_i y11 y12
          exact Keeps.refl _ _
        · rename_i y13 y14 y15
          refine Keeps.ite ?_ ?_
          · refine Keeps.step raise_keeps rfl ?_
            refine Keeps.step bump_keeps rfl ?_
            exact Keeps.widen setJob_keeps rfl
          · extract_lets x16 x17
            have k18 : Keeps 9957449 s x17 := by
              unfold x17
              refine Keeps.step bump_keeps rfl ?_
              exact Keeps.widen upd_store rfl
            clear_value x17
            clear_value x16
            refine Keeps.step settleFailed_keeps rfl ?_
            refine Keeps.step jobStep_keeps rfl ?_
            exact Keeps.step setJob_keeps rfl ‹_›
    · rename_i y19 y20
      exact Keeps.refl _ _

theorem rewriteCell_keeps {a0 a1 a2 a3 s} : Keeps 8724553 s (rewriteCell a0 a1 a2 a3 s) := by
  unfold rewriteCell
  split
  · rename_i y0 y1
    exact Keeps.refl _ _
  · rename_i y2 y3 y4
    refine Keeps.ite ?_ ?_
    · exact Keeps.refl _ _
    · split
      · rename_i y5 y6 y7 y8
        extract_lets x9 x10
        have k11 : Keeps 8724553 s x9 := by
          unfold x9
          exact Keeps.widen issueSealed_keeps rfl
        clear_value x9
        have k12 : Keeps 8724553 s x10 := by
          unfold x10
          split
          · rename_i y13 y14 y15
            refine Keeps.ite ?_ ?_
            · exact Keeps.step bump_keeps rfl ‹_›
            · assumption
          · rename_i y16 y17
            assumption
        clear_value x10
        exact Keeps.step raise_keeps rfl ‹_›

theorem rebuildRow_keeps {a0 a1 s} : Keeps 8724553 s (rebuildRow a0 a1 s).2 := by
  unfold rebuildRow
  split
  · rename_i y0 y1
    refine Keeps.mkSnd ?_
    exact Keeps.refl _ _
  · rename_i y2 y3 y4
    extract_lets x5 x6 x7 x8 x9 x10 x11 x12 x13
    have k14 : Keeps 8724553 s x8 := by
      unfold x8
      refine Keeps.ite ?_ ?_
      · exact Keeps.widen bump_keeps rfl
      · exact Keeps.refl _ _
    clear_value x8
    have k15 : Keeps 8724553 s x9 := by
      unfold x9
      refine Keeps.foldl ?_ (fun t16 x17 k18 => ?_)
      · assumption
      · extract_lets x19
        clear_value x19
        exact Keeps.step rewriteCell_keeps rfl ‹_›
    clear_value x9
    have k20 : Keeps 8724553 s x10 := by
      unfold x10
      refine Keeps.foldl ?_ (fun t21 x22 k23 => ?_)
      · assumption
      · exact Keeps.step rewriteCell_keeps rfl ‹_›
    clear_value x10
    clear_value x5 x6 x7 x11 x12 x13
    refine Keeps.iteSnd ?_ ?_
    · refine Keeps.mkSnd ?_
      assumption
    · refine Keeps.mkSnd ?_
      exact Keeps.refl _ _

theorem execParityJobDone_keeps {a0 s} : KeepsR 9957449 s (execParityJobDone a0 s) := by
  unfold execParityJobDone
  refine KeepsR.next ?_
  split
  · rename_i y0 y1
    exact Keeps.refl _ _
  · rename_i y2 y3 y4
    refine Keeps.ite ?_ ?_
    · exact Keeps.refl _ _
    · extract_lets x5
      clear_value x5
      split
      · rename_i y6 y7 y8 y9
        have k10 : Keeps 9957449 s y8 := by
          refine Keeps.ofSnd y9 ?_
          refine Keeps.foldlSnd ?_ (fun t11 x12 k13 => ?_)
          · refine Keeps.mkSnd ?_
            exact Keeps.refl _ _
          · exact Keeps.step rebuildRow_keeps rfl ‹_›
        extract_lets x14 x15
        have k16 : Keeps 9957449 s x14 := by
          unfold x14
          exact Keeps.step parityBytes_keeps rfl ‹_›
        clear_value x14
        have k17 : Keeps 9957449 s x15 := by
          unfold x15
          exact Keeps.step bumpAt_keeps rfl ‹_›
        clear_value x15
        refine Keeps.step settleFailed_keeps rfl ?_
        refine Keeps.step jobStep_keeps rfl ?_
        exact Keeps.step setJob_keeps rfl ‹_›

theorem execSequencerFail_keeps {a0 s} : KeepsR 270921 s (execSequencerFail a0 s) := by
  unfold execSequencerFail
  refine KeepsR.next ?_
  refine Keeps.ite ?_ ?_
  · exact Keeps.refl _ _
  · refine Keeps.step raise_keeps rfl ?_
    exact Keeps.widen upd_arch_store rfl

theorem execCadastrePersistTimer_keeps {a0 s} : KeepsR 8462345 s (execCadastrePersistTimer a0 s) := by
  unfold execCadastrePersistTimer
  refine KeepsR.next ?_
  refine Keeps.ite ?_ ?_
  · exact Keeps.widen persist_keeps rfl
  · exact Keeps.refl _ _

theorem writeStripe_keeps {a0 a1 a2 a3 a4 a5 a6 a7 a8 s} : Keeps 8495113 s (writeStripe a0 a1 a2 a3 a4 a5 a6 a7 a8 s) := by
  unfold writeStripe
  extract_lets x0 x1 x2 x3
  clear_value x0 x1 x2 x3
  split
  · rename_i y4 y5 y6 y7
    have k8 : Keeps 8495113 s y6 := by
      refine Keeps.ofSnd y7 ?_
      refine Keeps.step journalAdd_keeps rfl ?_
      exact Keeps.widen markOmitted_keeps rfl
    extract_lets x9 x10
    have k11 : Keeps 8495113 s x10 := by
      unfold x10
      refine Keeps.foldl ?_ (fun t12 x13 k14 => ?_)
      · assumption
      · split
        · rename_i y15 y16 y17 y18
          extract_lets x19 x20
          have k21 : Keeps 8495113 s x20 := by
            unfold x20
            refine Keeps.ite ?_ ?_
            · exact Keeps.step issueSealed_keeps rfl ‹_›
            · assumption
          clear_value x20
          clear_value x19
          split
          · rename_i y22 y23 y24 y25
            refine Keeps.ite ?_ ?_
            · exact Keeps.step issueSealed_keeps rfl ‹_›
            · assumption
    clear_value x10
    clear_value x9
    exact Keeps.step journalRetire_keeps rfl ‹_›

theorem execFormatStripe_keeps {a0 a1 s} : KeepsR 8495113 s (execFormatStripe a0 a1 s) := by
  unfold execFormatStripe
  refine KeepsR.next ?_
  extract_lets x0 x1 x2 x3 x4 x5 x6 x7 x8 x9 x10
  have k11 : Keeps 8495113 s x6 := by
    unfold x6
    split
    · rename_i y12 y13 y14
      refine Keeps.ite ?_ ?_
      · exact Keeps.widen writeStripe_keeps rfl
      · extract_lets x15 x16
        clear_value x15 x16
        refine Keeps.step writeStripe_keeps rfl ?_
        exact Keeps.widen setFrame_keeps rfl
    · rename_i y17 y18
      exact Keeps.widen writeStripe_keeps rfl
  clear_value x6
  have k19 : Keeps 8495113 s x9 := by
    unfold x9
    exact Keeps.step setEnt_keeps rfl ‹_›
  clear_value x9
  clear_value x0 x1 x2 x3 x4 x5 x7 x8 x10
  refine Keeps.ite ?_ ?_
  · exact Keeps.refl _ _
  · refine Keeps.ite ?_ ?_
    · refine Keeps.step persist_keeps rfl ?_
      exact Keeps.step upd_store rfl ‹_›
    · assumption

theorem execLayoutStatus_adminDone'_keeps {a0 a1 a2 a3 s} : Keeps 1310793 s (execLayoutStatus.adminDone' a0 a1 a2 a3 s) := by
  unfold execLayoutStatus.adminDone'
  exact Keeps.widen answer_keeps rfl

theorem execLayoutStatus_keeps {a0 a1 a2 s} : KeepsR 1310793 s (execLayoutStatus a0 a1 a2 s) := by
  unfold execLayoutStatus
  refine KeepsR.next ?_
  split
  · rename_i y0 y1
    exact Keeps.refl _ _
  · rename_i y2 y3 y4
    split
    · rename_i y5 y6
      exact Keeps.widen execLayoutStatus_adminDone'_keeps rfl
    · rename_i y7 y8 y9
      extract_lets x10 x11 x12 x13 x14 x15 x16
      clear_value x10 x11 x12 x13 x14 x15 x16
      refine Keeps.step execLayoutStatus_adminDone'_keeps rfl ?_
      exact Keeps.widen drive_keeps rfl

end Sys2Proof.Machine
end

