-- ==== Sys2Proof/Laws/KeepsAllocOps.lean ====
section
/-!
SUPPORT. Laws/KeepsAllocOps.lean: which units of the state each operation of Machine/AllocOps.lean may change: one `Keeps` lemma each.
-/
namespace Sys2Proof.Machine

theorem compactRuns_keeps {s} : Keeps 12288 s (compactRuns s) := by
  unfold compactRuns
  split
  · rename_i y0 y1 y2 y3
    extract_lets x4 x5 x6 x7 x8
    clear_value x4 x5 x6 x7 x8
    exact Keeps.widen upd_nvm_store rfl

theorem parcelsLow_keeps {a0 s} : Keeps 262217 s (parcelsLow a0 s) := by
  unfold parcelsLow
  extract_lets x0 x1
  clear_value x0 x1
  refine Keeps.ite ?_ ?_
  · exact Keeps.widen raise_keeps rfl
  · exact Keeps.refl _ _

theorem newEntries_keeps {a0 a1 a2 s} : Keeps 4194320 s (newEntries a0 a1 a2 s).2 := by
  unfold newEntries
  extract_lets x0 x1 x2
  clear_value x0 x1 x2
  refine Keeps.foldlSnd ?_ (fun t3 x4 k5 => ?_)
  · refine Keeps.mkSnd ?_
    exact Keeps.refl _ _
  · split
    · rename_i y6 y7 y8 y9
      have k10 : Keeps 4194320 s y8 := by
        refine Keeps.ofSnd y9 ?_
        exact Keeps.step drbgDraw_keeps rfl ‹_›
      refine Keeps.mkSnd ?_
      assumption

end Sys2Proof.Machine
end

