-- ==== Sys2Proof/Laws/KeepsVaultOps.lean ====
section
/-!
SUPPORT. Laws/KeepsVaultOps.lean: which units of the state each operation of Machine/VaultOps.lean may change: one `Keeps` lemma each.
-/
namespace Sys2Proof.Machine

theorem sendStopping_keeps {a0 s} : Keeps 98313 s (sendStopping a0 s) := by
  unfold sendStopping
  refine Keeps.ite ?_ ?_
  · refine Keeps.step zsend_keeps rfl ?_
    exact Keeps.widen upd_pair rfl
  · exact Keeps.refl _ _

theorem travPower_keeps {s} : Keeps 13492313 s (travPower s) := by
  unfold travPower
  extract_lets x0 x1
  have k2 : Keeps 13492313 s x0 := by
    unfold x0
    refine Keeps.foldl ?_ (fun t3 x4 k5 => ?_)
    · exact Keeps.refl _ _
    · refine Keeps.ite ?_ ?_
      · split
        · rename_i y6 y7
          assumption
        · rename_i y8 y9 y10
          have k11 : Keeps 13492313 s y9 := by
            refine Keeps.ofSome y10 ?_
            refine Keeps.stepO travLand_keeps rfl ?_
            assumption
          exact Keeps.step setTrav_keeps rfl ‹_›
      · assumption
  clear_value x0
  clear_value x1
  exact Keeps.step upd_trav rfl ‹_›

theorem stopWork_keeps {s} : Keeps 176128 s (stopWork s) := by
  unfold stopWork
  exact Keeps.widen upd_nvm_store_pair_win rfl

theorem abandonPending_keeps {s} : Keeps 1152 s (abandonPending s) := by
  unfold abandonPending
  extract_lets x0 x1 x2 x3 x4
  clear_value x0 x1 x2 x3
  exact Keeps.widen (upd_datum_trust (TrustKeeps.of rfl rfl rfl rfl)) rfl

theorem acceptPower_keeps {a0 s} : Keeps 13630937 s (acceptPower a0 s) := by
  unfold acceptPower
  refine Keeps.ite ?_ ?_
  · exact Keeps.refl _ _
  · extract_lets x0 x1 x2 x3 x4 x5 x6 x7 x8 x9
    have k10 : Keeps 13630937 s x1 := by
      unfold x1
      exact Keeps.widen upd_vault rfl
    clear_value x1
    have k11 : Keeps 13630937 s x2 := by
      unfold x2
      exact Keeps.step raise_keeps rfl ‹_›
    clear_value x2
    have k12 : Keeps 13630937 s x3 := by
      unfold x3
      refine Keeps.ite ?_ ?_
      · assumption
      · exact Keeps.step sendStopping_keeps rfl ‹_›
    clear_value x3
    have k13 : Keeps 13630937 s x6 := by
      unfold x6
      refine Keeps.step travPower_keeps rfl ?_
      exact Keeps.step abandonPending_keeps rfl ‹_›
    clear_value x6
    have k14 : Keeps 13630937 s x7 := by
      unfold x7
      exact Keeps.step stopWork_keeps rfl ‹_›
    clear_value x7
    clear_value x0 x4 x5 x8 x9
    exact Keeps.step upd_pwr_vault rfl ‹_›

theorem fatalStop_keeps {a0 a1 s} : Keeps 13630937 s (fatalStop a0 a1 s) := by
  unfold fatalStop
  extract_lets x0 x1 x2 x3 x4
  have k5 : Keeps 13630937 s x0 := by
    unfold x0
    exact Keeps.widen sendStopping_keeps rfl
  clear_value x0
  have k6 : Keeps 13630937 s x2 := by
    unfold x2
    exact Keeps.step upd_pwr rfl ‹_›
  clear_value x2
  have k7 : Keeps 13630937 s x3 := by
    unfold x3
    refine Keeps.ite ?_ ?_
    · exact Keeps.step acceptPower_keeps rfl ‹_›
    · assumption
  clear_value x3
  clear_value x1 x4
  exact Keeps.step upd_pwr rfl ‹_›

theorem fatalEvent_keeps {a0 a1 a2 s} : Keeps 13630937 s (fatalEvent a0 a1 a2 s) := by
  unfold fatalEvent
  refine Keeps.step fatalStop_keeps rfl ?_
  exact Keeps.widen raise_keeps rfl

theorem writeHeader_keeps {s} : Keeps 8462345 s (writeHeader s) := by
  unfold writeHeader
  refine Keeps.foldl ?_ (fun t0 x1 k2 => ?_)
  · exact Keeps.refl _ _
  · exact Keeps.step issueSys_keeps rfl ‹_›

theorem persistNow_keeps {a0 s} : Keeps 8462345 s (persistNow a0 s) := by
  unfold persistNow
  extract_lets x0 x1 x2
  have k3 : Keeps 8462345 s x1 := by
    unfold x1
    exact Keeps.widen persist_keeps rfl
  clear_value x1
  clear_value x0 x2
  refine Keeps.ite ?_ ?_
  · exact Keeps.refl _ _
  · exact Keeps.step upd_store rfl ‹_›

theorem landForced_keeps {a0 a1 a2 a3 s} : Keeps 13492313 s (landForced a0 a1 a2 a3 s) := by
  unfold landForced
  split
  · rename_i y0 y1 y2
    have k3 : Keeps 13492313 s y1 := by
      refine Keeps.ofSome y2 ?_
      refine Keeps.stepO landBlock_keeps rfl ?_
      exact Keeps.refl _ _
    assumption
  · rename_i y4 y5
    refine Keeps.getD ?_ ?_
    · refine Keeps.stepO landBlock_keeps rfl ?_
      exact Keeps.widen persistNow_keeps rfl
    · exact Keeps.refl _ _

theorem writeCell_keeps {a0 a1 a2 a3 a4 a5 a6 s} : Keeps 8462345 s (writeCell a0 a1 a2 a3 a4 a5 a6 s) := by
  unfold writeCell
  split
  · rename_i y0 y1 y2 y3
    refine Keeps.ite ?_ ?_
    · exact Keeps.widen issueSealed_keeps rfl
    · exact Keeps.refl _ _

end Sys2Proof.Machine
end

