-- ==== Sys2Proof/Laws/KeepsMemberOps.lean ====
section
/-!
SUPPORT. Laws/KeepsMemberOps.lean: which units of the state each operation of Machine/MemberOps.lean may change: one `Keeps` lemma each.
-/
namespace Sys2Proof.Machine

theorem setHomes_keeps {a0 a1 s} : Keeps 8192 s (setHomes a0 a1 s) := by
  unfold setHomes
  refine Keeps.ite ?_ ?_
  · exact Keeps.widen upd_store rfl
  · exact Keeps.widen upd_store rfl

theorem homeCopy_keeps {a0 s} : Keeps 8462345 s (homeCopy a0 s) := by
  unfold homeCopy
  extract_lets x0 x1 x2
  have k3 : Keeps 8462345 s x0 := by
    unfold x0
    refine Keeps.foldl ?_ (fun t4 x5 k6 => ?_)
    · exact Keeps.refl _ _
    · exact Keeps.step issueSys_keeps rfl ‹_›
  clear_value x0
  have k7 : Keeps 8462345 s x1 := by
    unfold x1
    exact Keeps.step issueSys_keeps rfl ‹_›
  clear_value x1
  have k8 : Keeps 8462345 s x2 := by
    unfold x2
    refine Keeps.foldl ?_ (fun t9 x10 k11 => ?_)
    · assumption
    · refine Keeps.foldl ?_ (fun t12 x13 k14 => ?_)
      · assumption
      · exact Keeps.step issueSys_keeps rfl ‹_›
  clear_value x2
  refine Keeps.foldl ?_ (fun t15 x16 k17 => ?_)
  · assumption
  · exact Keeps.step issueSys_keeps rfl ‹_›

theorem fillHomes_keeps {a0 s} : Keeps 8462345 s (fillHomes a0 s) := by
  unfold fillHomes
  refine Keeps.ite ?_ ?_
  · exact Keeps.refl _ _
  · split
    · rename_i y0 y1
      exact Keeps.refl _ _
    · rename_i y2 y3 y4
      extract_lets x5 x6
      have k7 : Keeps 8462345 s x5 := by
        unfold x5
        exact Keeps.widen setHomes_keeps rfl
      clear_value x5
      clear_value x6
      refine Keeps.ite ?_ ?_
      · refine Keeps.step homeCopy_keeps rfl ?_
        exact Keeps.step upd_store rfl ‹_›
      · assumption

theorem homeGone_keeps {a0 a1 s} : Keeps 8724553 s (homeGone a0 a1 s) := by
  unfold homeGone
  refine Keeps.ite ?_ ?_
  · exact Keeps.refl _ _
  · extract_lets x0 x1 x2
    have k3 : Keeps 8724553 s x0 := by
      unfold x0
      exact Keeps.widen setHomes_keeps rfl
    clear_value x0
    have k4 : Keeps 8724553 s x2 := by
      unfold x2
      refine Keeps.ite ?_ ?_
      · refine Keeps.step raise_keeps rfl ?_
        exact Keeps.step upd_store rfl ‹_›
      · assumption
    clear_value x2
    clear_value x1
    exact Keeps.step fillHomes_keeps rfl ‹_›

theorem homesBack_keeps {a0 s} : Keeps 8462345 s (homesBack a0 s) := by
  unfold homesBack
  refine Keeps.foldl ?_ (fun t0 x1 k2 => ?_)
  · exact Keeps.refl _ _
  · exact Keeps.step persist_keeps rfl ‹_›

theorem reshapeAuto_keeps {s} : Keeps 8192 s (reshapeAuto s) := by
  unfold reshapeAuto
  refine Keeps.ite ?_ ?_
  · exact Keeps.widen upd_store rfl
  · exact Keeps.refl _ _

theorem bayState_keeps {a0 a1 s} : Keeps 14678105 s (bayState a0 a1 s) := by
  unfold bayState
  extract_lets x0 x1 x2 x3 x4 x5 x6 x7
  have k8 : Keeps 14678105 s x1 := by
    unfold x1
    exact Keeps.widen setMember_keeps rfl
  clear_value x1
  have k9 : Keeps 14678105 s x2 := by
    unfold x2
    exact Keeps.step raise_keeps rfl ‹_›
  clear_value x2
  have k10 : Keeps 14678105 s x4 := by
    unfold x4
    exact Keeps.step upd_store rfl ‹_›
  clear_value x4
  have k11 : Keeps 14678105 s x6 := by
    unfold x6
    refine Keeps.ite ?_ ?_
    · assumption
    · exact Keeps.step upd_store rfl ‹_›
  clear_value x6
  have k12 : Keeps 14678105 s x7 := by
    unfold x7
    refine Keeps.ite ?_ ?_
    · refine Keeps.step reshapeAuto_keeps rfl ?_
      refine Keeps.step homesBack_keeps rfl ?_
      refine Keeps.foldl ?_ (fun t13 x14 k15 => ?_)
      · assumption
      · exact Keeps.step fillHomes_keeps rfl ‹_›
    · assumption
  clear_value x7
  clear_value x0 x3 x5
  refine Keeps.ite ?_ ?_
  · exact Keeps.refl _ _
  · refine Keeps.step limitEval_keeps rfl ?_
    exact Keeps.step writeLabels_keeps rfl ‹_›

theorem bayCmdsGone_keeps {a0 s} : Keeps 14676057 s (bayCmdsGone a0 s) := by
  unfold bayCmdsGone
  extract_lets x0 x1 x2
  have k3 : Keeps 14676057 s x1 := by
    unfold x1
    exact Keeps.widen mapCmds_keeps rfl
  clear_value x1
  have k4 : Keeps 14676057 s x2 := by
    unfold x2
    refine Keeps.foldl ?_ (fun t5 x6 k7 => ?_)
    · assumption
    · split
      · rename_i y8 y9 y10 y11 y12 y13
        exact Keeps.step takeRead_keeps rfl ‹_›
      · rename_i y14 y15 y16
        exact Keeps.step replan_keeps rfl ‹_›
      · rename_i y17 y18 y19
        exact Keeps.step homeWritten_keeps rfl ‹_›
      · rename_i y20 y21 y22
        exact Keeps.step zsend_keeps rfl ‹_›
      · rename_i y23 y24 y25 y26 y27
        assumption
  clear_value x2
  clear_value x0
  exact Keeps.step settleFailed_keeps rfl ‹_›

theorem reframe_keeps {a0 a1 a2 s} : Keeps 8495113 s (reframe a0 a1 a2 s) := by
  unfold reframe
  extract_lets x0 x1 x2 x3 x4 x5 x6 x7 x8
  have k9 : Keeps 8495113 s x7 := by
    unfold x7
    exact Keeps.widen upd_store rfl
  clear_value x7
  have k10 : Keeps 8495113 s x8 := by
    unfold x8
    refine Keeps.foldl ?_ (fun t11 x12 k13 => ?_)
    · assumption
    · exact Keeps.step journalRetire_keeps rfl ‹_›
  clear_value x8
  clear_value x0 x1 x2 x3 x4 x5 x6
  refine Keeps.foldl ?_ (fun t14 x15 k16 => ?_)
  · assumption
  · split
    · rename_i y17 y18 y19 y20 y21
      extract_lets x22 x23 x24
      clear_value x22 x23 x24
      exact Keeps.step setFrame_keeps rfl ‹_›

theorem reshapeSuspend_keeps {a0 s} : Keeps 8757321 s (reshapeSuspend a0 s) := by
  unfold reshapeSuspend
  extract_lets x0 x1 x2 x3 x4 x5 x6
  have k7 : Keeps 8757321 s x3 := by
    unfold x3
    refine Keeps.ite ?_ ?_
    · exact Keeps.widen setEnt_keeps rfl
    · exact Keeps.refl _ _
  clear_value x3
  have k8 : Keeps 8757321 s x5 := by
    unfold x5
    exact Keeps.step upd_store rfl ‹_›
  clear_value x5
  have k9 : Keeps 8757321 s x6 := by
    unfold x6
    split
    · rename_i y10 y11 y12 y13 y14 y15 y16
      exact Keeps.step reframe_keeps rfl ‹_›
    · rename_i y17 y18 y19
      assumption
  clear_value x6
  clear_value x0 x1 x2 x4
  refine Keeps.ite ?_ ?_
  · exact Keeps.refl _ _
  · split
    · rename_i y20
      assumption
    · rename_i y21 y22
      exact Keeps.step raise_keeps rfl ‹_›

theorem homesShort_keeps {a0 s} : Keeps 270409 s (homesShort a0 s) := by
  unfold homesShort
  refine Keeps.foldl ?_ (fun t0 x1 k2 => ?_)
  · exact Keeps.refl _ _
  · extract_lets x3 x4
    clear_value x3 x4
    refine Keeps.step raise_keeps rfl ?_
    refine Keeps.ite ?_ ?_
    · assumption
    · exact Keeps.step upd_store rfl ‹_›

theorem rbRetire_keeps {a0 s} : Keeps 14678105 s (rbRetire a0 s) := by
  unfold rbRetire
  refine Keeps.ite ?_ ?_
  · exact Keeps.refl _ _
  · extract_lets x0 x1 x2
    have k3 : Keeps 14678105 s x1 := by
      unfold x1
      exact Keeps.widen bayState_keeps rfl
    clear_value x1
    clear_value x0 x2
    refine Keeps.ite ?_ ?_
    · exact Keeps.step raise_keeps rfl ‹_›
    · exact Keeps.step raise_keeps rfl ‹_›

theorem startRebuild_keeps {a0 s} : Keeps 14678105 s (startRebuild a0 s) := by
  unfold startRebuild
  extract_lets x0 x1 x2 x3 x4
  have k5 : Keeps 14678105 s x2 := by
    unfold x2
    exact Keeps.widen upd_store rfl
  clear_value x2
  have k6 : Keeps 14678105 s x4 := by
    unfold x4
    exact Keeps.step setMember_keeps rfl ‹_›
  clear_value x4
  clear_value x0 x1 x3
  refine Keeps.step rbRetire_keeps rfl ?_
  exact Keeps.step bayState_keeps rfl ‹_›

theorem memberDepart_keeps {a0 a1 s} : Keeps 14678105 s (memberDepart a0 a1 s) := by
  unfold memberDepart
  extract_lets x0 x1 x2 x3 x4 x5 x6 x7 x8
  have k9 : Keeps 14678105 s x5 := by
    unfold x5
    exact Keeps.widen raise_keeps rfl
  clear_value x5
  have k10 : Keeps 14678105 s x6 := by
    unfold x6
    exact Keeps.step setMember_keeps rfl ‹_›
  clear_value x6
  have k11 : Keeps 14678105 s x7 := by
    unfold x7
    refine Keeps.ite ?_ ?_
    · exact Keeps.step startRebuild_keeps rfl ‹_›
    · exact Keeps.step bayState_keeps rfl ‹_›
  clear_value x7
  have k12 : Keeps 14678105 s x8 := by
    unfold x8
    refine Keeps.foldl ?_ (fun t13 x14 k15 => ?_)
    · assumption
    · exact Keeps.step homeGone_keeps rfl ‹_›
  clear_value x8
  clear_value x0 x1 x2 x3 x4
  refine Keeps.ite ?_ ?_
  · refine Keeps.step bayState_keeps rfl ?_
    exact Keeps.widen setMember_keeps rfl
  · refine Keeps.ite ?_ ?_
    · exact Keeps.widen setMember_keeps rfl
    · refine Keeps.step homesShort_keeps rfl ?_
      refine Keeps.step reshapeSuspend_keeps rfl ?_
      exact Keeps.step bayCmdsGone_keeps rfl ‹_›

theorem oneSide_keeps {a0 s} : Keeps 14676057 s (oneSide a0 s) := by
  unfold oneSide
  extract_lets x0
  clear_value x0
  refine Keeps.ite ?_ ?_
  · exact Keeps.refl _ _
  · refine Keeps.step bayCmdsGone_keeps rfl ?_
    refine Keeps.step raise_keeps rfl ?_
    exact Keeps.widen setMember_keeps rfl

theorem loseRow_keeps {a0 a1 a2 a3 a4 a5 a6 a7 s} : Keeps 13475929 s (loseRow a0 a1 a2 a3 a4 a5 a6 a7 s) := by
  unfold loseRow
  split
  · rename_i y0 y1 y2 y3
    have k4 : Keeps 13475929 s y2 := by
      refine Keeps.ofSnd y3 ?_
      split
      · rename_i y5 y6 y7 y8 y9
        have k10 : Keeps 13475929 s y8 := by
          refine Keeps.ofSnd y9 ?_
          exact Keeps.widen drawGen_keeps rfl
        refine Keeps.mkSnd ?_
        assumption
      · rename_i y11 y12 y13
        have k14 : Keeps 13475929 s y12 := by
          refine Keeps.ofSnd y13 ?_
          exact Keeps.widen drawGen_keeps rfl
        refine Keeps.mkSnd ?_
        assumption
    extract_lets x15 x16 x17 x18 x19
    have k20 : Keeps 13475929 s x17 := by
      unfold x17
      refine Keeps.foldl ?_ (fun t21 x22 k23 => ?_)
      · assumption
      · refine Keeps.step writeCell_keeps rfl ?_
        exact Keeps.step lossAdd_keeps rfl ‹_›
    clear_value x17
    clear_value x15 x16 x18 x19
    refine Keeps.step writeCell_keeps rfl ?_
    exact Keeps.step writeCell_keeps rfl ‹_›

theorem mendRow_keeps {a0 a1 a2 a3 a4 a5 s} : Keeps 8724553 s (mendRow a0 a1 a2 a3 a4 a5 s) := by
  unfold mendRow
  extract_lets x0
  clear_value x0
  refine Keeps.foldl ?_ (fun t1 x2 k3 => ?_)
  · exact Keeps.refl _ _
  · extract_lets x4 x5 x6 x7
    have k8 : Keeps 8724553 s x7 := by
      unfold x7
      exact Keeps.step writeCell_keeps rfl ‹_›
    clear_value x7
    clear_value x4 x5 x6
    refine Keeps.ite ?_ ?_
    · assumption
    · exact Keeps.step raise_keeps rfl ‹_›

theorem mendParity_keeps {a0 a1 a2 a3 a4 a5 a6 s} : Keeps 8462345 s (mendParity a0 a1 a2 a3 a4 a5 a6 s).2 := by
  unfold mendParity
  extract_lets x0
  clear_value x0
  refine Keeps.foldlSnd ?_ (fun t1 x2 k3 => ?_)
  · refine Keeps.mkSnd ?_
    exact Keeps.refl _ _
  · extract_lets x4
    clear_value x4
    refine Keeps.iteSnd ?_ ?_
    · assumption
    · refine Keeps.mkSnd ?_
      exact Keeps.step writeCell_keeps rfl ‹_›

theorem closeRow_keeps {a0 a1 a2 a3 a4 a5 s} : Keeps 13475929 s (closeRow a0 a1 a2 a3 a4 a5 s).2 := by
  unfold closeRow
  extract_lets x0
  clear_value x0
  split
  · rename_i y1 y2 y3
    refine Keeps.mkSnd ?_
    refine Keeps.step mendParity_keeps rfl ?_
    exact Keeps.widen mendRow_keeps rfl
  · rename_i y4 y5
    refine Keeps.iteSnd ?_ ?_
    · refine Keeps.mkSnd ?_
      exact Keeps.widen holdRow_keeps rfl
    · refine Keeps.mkSnd ?_
      exact Keeps.widen loseRow_keeps rfl

theorem closeRows_keeps {a0 a1 s} : Keeps 13475929 s (closeRows a0 a1 s).2 := by
  unfold closeRows
  split
  · rename_i y0 y1 y2 y3 y4 y5 y6 y7 y8 y9 y10 y11 y12 y13
    refine Keeps.foldlSnd ?_ (fun t14 x15 k16 => ?_)
    · refine Keeps.mkSnd ?_
      exact Keeps.refl _ _
    · split
      · rename_i y17 y18 y19 y20
        have k21 : Keeps 13475929 s y19 := by
          refine Keeps.ofSnd y20 ?_
          exact Keeps.step closeRow_keeps rfl ‹_›
        refine Keeps.mkSnd ?_
        assumption
  · rename_i y22 y23
    refine Keeps.mkSnd ?_
    exact Keeps.refl _ _

theorem closeRecord_keeps {a0 a1 s} : Keeps 13475929 s (closeRecord a0 a1 s) := by
  unfold closeRecord
  split
  · rename_i y0 y1 y2 y3
    have k4 : Keeps 13475929 s y2 := by
      refine Keeps.ofSnd y3 ?_
      exact Keeps.widen closeRows_keeps rfl
    refine Keeps.ite ?_ ?_
    · assumption
    · exact Keeps.step journalRetire_keeps rfl ‹_›

theorem closePartner_keeps {a0 a1 s} : Keeps 13475929 s (closePartner a0 a1 s) := by
  unfold closePartner
  refine Keeps.foldl ?_ (fun t0 x1 k2 => ?_)
  · exact Keeps.refl _ _
  · split
    · rename_i y3 y4 y5 y6 y7 y8 y9 y10 y11 y12 y13 y14 y15 y16
      split
      · rename_i y17 y18 y19 y20
        have k21 : Keeps 13475929 s y19 := by
          refine Keeps.ofSnd y20 ?_
          exact Keeps.step closeRows_keeps rfl ‹_›
        refine Keeps.ite ?_ ?_
        · exact Keeps.step journalAdd_keeps rfl ‹_›
        · exact Keeps.step journalAdd_keeps rfl ‹_›
    · rename_i y22 y23
      exact Keeps.step journalAdd_keeps rfl ‹_›

theorem closeHeld_keeps {a0 a1 a2 a3 s} : Keeps 13475929 s (closeHeld a0 a1 a2 a3 s) := by
  unfold closeHeld
  refine Keeps.foldl ?_ (fun t0 x1 k2 => ?_)
  · exact Keeps.refl _ _
  · exact Keeps.step closeRecord_keeps rfl ‹_›

theorem recoverStrip_keeps {a0 a1 a2 a3 a4 a5 a6 a7 s} {M : Nat} (hM : 13475929 ||| M = M) (hf7 : ∀ v0 v1 v2, Keeps M v2 (a7 v0 v1 v2)) :
    Keeps M s (recoverStrip a0 a1 a2 a3 a4 a5 a6 a7 s).2 := by
  unfold recoverStrip
  extract_lets x0 x1
  have k2 : Keeps M s x1 := by
    unfold x1
    exact Keeps.widen opened_keeps (orSub hM rfl)
  clear_value x1
  clear_value x0
  refine Keeps.foldlSnd ?_ (fun t3 x4 k5 => ?_)
  · refine Keeps.mkSnd ?_
    assumption
  · extract_lets x6 x7 x8 x9 x10
    have k11 : Keeps M s x6 := by
      unfold x6
      assumption
    clear_value x6
    have k12 : Keeps M s x8 := by
      unfold x8
      exact Keeps.step loseRow_keeps (orSub hM rfl) ‹_›
    clear_value x8
    clear_value x7 x9 x10
    split
    · rename_i y13 y14 y15
      extract_lets x16 x17 x18 x19
      have k20 : Keeps M s x16 := by
        unfold x16
        exact Keeps.step mendRow_keeps (orSub hM rfl) ‹_›
      clear_value x16
      clear_value x17 x18 x19
      refine Keeps.mkSnd ?_
      refine Keeps.trans ?_ (hf7 ..)
      assumption
    · rename_i y21 y22
      refine Keeps.iteSnd ?_ ?_
      · refine Keeps.mkSnd ?_
        exact Keeps.step holdRow_keeps (orSub hM rfl) ‹_›
      · refine Keeps.mkSnd ?_
        refine Keeps.trans ?_ (hf7 ..)
        assumption

theorem checkpoint_keeps {a0 a1 a2 a3 a4 s} : Keeps 8495113 s (checkpoint a0 a1 a2 a3 a4 s) := by
  unfold checkpoint
  split
  · rename_i y0 y1 y2 y3
    have k4 : Keeps 8495113 s y2 := by
      refine Keeps.ofSnd y3 ?_
      exact Keeps.widen journalAdd_keeps rfl
    extract_lets x5 x6 x7
    have k8 : Keeps 8495113 s x6 := by
      unfold x6
      exact Keeps.step upd_store rfl ‹_›
    clear_value x6
    clear_value x5 x7
    exact Keeps.step journalArea_keeps rfl ‹_›

end Sys2Proof.Machine
end

