-- ==== Sys2Proof/Laws/KeepsMember.lean ====
section
/-!
SUPPORT. Laws/KeepsMember.lean: which units of the state each operation of Machine/Member.lean may change: one `Keeps` lemma each.
-/
namespace Sys2Proof.Machine

theorem execMemberDepart_keeps {a0 a1 a2 s} : KeepsR 14678105 s (execMemberDepart a0 a1 a2 s) := by
  unfold execMemberDepart
  refine KeepsR.next ?_
  refine Keeps.ite ?_ ?_
  · exact Keeps.refl _ _
  · refine Keeps.ite ?_ ?_
    · exact Keeps.widen oneSide_keeps rfl
    · exact Keeps.widen memberDepart_keeps rfl

theorem execRehomeDone_keeps {a0 s} : KeepsR 8757321 s (execRehomeDone a0 s) := by
  unfold execRehomeDone
  refine KeepsR.next ?_
  refine Keeps.ite ?_ ?_
  · exact Keeps.refl _ _
  · extract_lets x0 x1
    have k2 : Keeps 8757321 s x1 := by
      unfold x1
      exact Keeps.widen upd_store rfl
    clear_value x1
    clear_value x0
    split
    · rename_i y3 y4 y5 y6
      have k7 : Keeps 8757321 s y5 := by
        refine Keeps.ofSnd y6 ?_
        exact Keeps.step journalAdd_keeps rfl ‹_›
      refine Keeps.step ringRetry_keeps rfl ?_
      refine Keeps.step raise_keeps rfl ?_
      exact Keeps.step writeLabels_keeps rfl ‹_›

theorem execHomeCopyRelocate_keeps {a0 s} : KeepsR 8724553 s (execHomeCopyRelocate a0 s) := by
  unfold execHomeCopyRelocate
  refine KeepsR.next ?_
  refine Keeps.ite ?_ ?_
  · exact Keeps.refl _ _
  · extract_lets x0 x1
    have k2 : Keeps 8724553 s x0 := by
      unfold x0
      refine Keeps.foldl ?_ (fun t3 x4 k5 => ?_)
      · exact Keeps.refl _ _
      · refine Keeps.ite ?_ ?_
        · assumption
        · exact Keeps.step persist_keeps rfl ‹_›
    clear_value x0
    clear_value x1
    refine Keeps.step raise_keeps rfl ?_
    exact Keeps.step upd_store rfl ‹_›

theorem execReturnWaitExpire_keeps {a0 s} : KeepsR 14678105 s (execReturnWaitExpire a0 s) := by
  unfold execReturnWaitExpire
  refine KeepsR.next ?_
  extract_lets x0 x1
  have k2 : Keeps 14678105 s x1 := by
    unfold x1
    exact Keeps.widen setMember_keeps rfl
  clear_value x1
  clear_value x0
  refine Keeps.ite ?_ ?_
  · exact Keeps.refl _ _
  · refine Keeps.ite ?_ ?_
    · exact Keeps.step startRebuild_keeps rfl ‹_›
    · assumption

theorem execHeldRowReplan_keeps {a0 a1 a2 s} : KeepsR 8192 s (execHeldRowReplan a0 a1 a2 s) := by
  unfold execHeldRowReplan
  refine KeepsR.next ?_
  extract_lets x0
  clear_value x0
  split
  · rename_i y1 y2
    exact Keeps.refl _ _
  · rename_i y3 y4 y5
    refine Keeps.ite ?_ ?_
    · exact Keeps.widen setFrame_keeps rfl
    · exact Keeps.refl _ _

theorem memberResult_keeps {a0 s} : Keeps 1 s (memberResult a0 s) := by
  unfold memberResult
  exact Keeps.widen wr_keeps rfl

theorem memberCmd_keeps {a0 a1 a2 s} {M : Nat} (hM : 98313 ||| M = M) (hf2 : ∀ v0, Keeps M v0 (a2 v0)) :
    Keeps M s (memberCmd a0 a1 a2 s) := by
  unfold memberCmd
  refine Keeps.trans ?_ (requestRecord_keeps (M := M) (orSub hM rfl) ?_ ?_)
  · exact Keeps.widen memberResult_keeps (orSub hM rfl)
  · intro v0
    apply hf2
  · intro v1
    exact Keeps.refl _ _

theorem failOp_keeps {a0 s} : Keeps 14678105 s (failOp a0 s) := by
  unfold failOp
  extract_lets x0
  clear_value x0
  refine Keeps.ite ?_ ?_
  · exact Keeps.widen memberResult_keeps rfl
  · refine Keeps.trans ?_ (memberCmd_keeps (M := 14678105) rfl ?_)
    · exact Keeps.refl _ _
    · intro v1
      exact Keeps.widen startRebuild_keeps rfl

theorem execFail_keeps {a0 s} : KeepsR 14678105 s (execFail a0 s) := by
  unfold execFail
  refine KeepsR.next ?_
  refine Keeps.trans ?_ (cmdWrite_keeps (M := 14678105) rfl ?_)
  · exact Keeps.refl _ _
  · intro v0
    exact Keeps.widen failOp_keeps rfl

theorem formatDrive_keeps {a0 s} : Keeps 8396808 s (formatDrive a0 s) := by
  unfold formatDrive
  refine Keeps.step issueOp_keeps rfl ?_
  exact Keeps.widen setMember_keeps rfl

theorem startRestore_keeps {a0 s} : Keeps 14678105 s (startRestore a0 s) := by
  unfold startRestore
  extract_lets x0
  clear_value x0
  split
  · rename_i y1 y2 y3 y4
    have k5 : Keeps 14678105 s y3 := by
      refine Keeps.ofSnd y4 ?_
      exact Keeps.widen drbgDraw_keeps rfl
    extract_lets x6 x7
    have k8 : Keeps 14678105 s x7 := by
      unfold x7
      exact Keeps.step setMember_keeps rfl ‹_›
    clear_value x7
    clear_value x6
    refine Keeps.step formatDrive_keeps rfl ?_
    exact Keeps.step bayState_keeps rfl ‹_›

theorem admitOp_keeps {a0 s} : Keeps 14678105 s (admitOp a0 s) := by
  unfold admitOp
  extract_lets x0 x1
  clear_value x0 x1
  refine Keeps.ite ?_ ?_
  · refine Keeps.trans ?_ (memberCmd_keeps (M := 14678105) rfl ?_)
    · exact Keeps.refl _ _
    · intro v2
      exact Keeps.widen upd_store rfl
  · refine Keeps.ite ?_ ?_
    · exact Keeps.widen memberResult_keeps rfl
    · refine Keeps.ite ?_ ?_
      · exact Keeps.widen memberResult_keeps rfl
      · refine Keeps.ite ?_ ?_
        · exact Keeps.widen memberResult_keeps rfl
        · refine Keeps.trans ?_ (memberCmd_keeps (M := 14678105) rfl ?_)
          · exact Keeps.refl _ _
          · intro v3
            exact Keeps.widen startRestore_keeps rfl

theorem execAdmit_keeps {a0 s} : KeepsR 14678105 s (execAdmit a0 s) := by
  unfold execAdmit
  refine KeepsR.next ?_
  refine Keeps.trans ?_ (cmdWrite_keeps (M := 14678105) rfl ?_)
  · exact Keeps.refl _ _
  · intro v0
    exact Keeps.widen admitOp_keeps rfl

theorem resyncFullOp_keeps {a0 s} : Keeps 106505 s (resyncFullOp a0 s) := by
  unfold resyncFullOp
  extract_lets x0
  clear_value x0
  refine Keeps.ite ?_ ?_
  · exact Keeps.widen memberResult_keeps rfl
  · refine Keeps.trans ?_ (memberCmd_keeps (M := 106505) rfl ?_)
    · exact Keeps.refl _ _
    · intro v1
      exact Keeps.widen setMember_keeps rfl

theorem execResyncFull_keeps {a0 s} : KeepsR 106505 s (execResyncFull a0 s) := by
  unfold execResyncFull
  refine KeepsR.next ?_
  refine Keeps.trans ?_ (cmdWrite_keeps (M := 106505) rfl ?_)
  · exact Keeps.refl _ _
  · intro v0
    exact Keeps.widen resyncFullOp_keeps rfl

theorem memberCmdReserved_keeps {s} : Keeps 1 s (memberCmdReserved s) := by
  unfold memberCmdReserved
  exact Keeps.widen memberResult_keeps rfl

theorem rbFinish_keeps {a0 a1 s} : Keeps 8495113 s (rbFinish a0 a1 s) := by
  unfold rbFinish
  extract_lets x0
  clear_value x0
  split
  · rename_i y1 y2
    exact Keeps.refl _ _
  · rename_i y3 y4 y5
    extract_lets x6 x7 x8 x9 x10
    have k11 : Keeps 8495113 s x7 := by
      unfold x7
      exact Keeps.widen setEnt_keeps rfl
    clear_value x7
    have k12 : Keeps 8495113 s x9 := by
      unfold x9
      refine Keeps.step persist_keeps rfl ?_
      exact Keeps.step upd_store rfl ‹_›
    clear_value x9
    clear_value x6 x8 x10
    refine Keeps.step checkpoint_keeps rfl ?_
    exact Keeps.step setMember_keeps rfl ‹_›

theorem rebuiltCount_keeps {s} : Keeps 8193 s (rebuiltCount s) := by
  unfold rebuiltCount
  extract_lets x0 x1
  have k2 : Keeps 8193 s x1 := by
    unfold x1
    exact Keeps.widen parityBytes_keeps rfl
  clear_value x1
  clear_value x0
  exact Keeps.step wr_keeps rfl ‹_›

theorem rebuildStrip_keeps {a0 a1 a2 a3 a4 a5 s} : Keeps 13475929 s (rebuildStrip a0 a1 a2 a3 a4 a5 s) := by
  unfold rebuildStrip
  extract_lets x0 x1
  clear_value x0 x1
  split
  · rename_i y2 y3
    exact Keeps.refl _ _
  · rename_i y4 y5 y6
    split
    · rename_i y7 y8
      exact Keeps.refl _ _
    · rename_i y9 y10 y11
      split
      · rename_i y12 y13 y14 y15
        extract_lets x16
        have k17 : ∀ a18 a19 a20, Keeps 13475929 a20 (x16 a18 a19 a20) := by
          unfold x16
          intro v21 v22 v23
          exact Keeps.widen issueSealed_keeps rfl
        clear_value x16
        split
        · rename_i y24 y25 y26 y27
          have k28 : Keeps 13475929 s y26 := by
            refine Keeps.ofSnd y27 ?_
            refine Keeps.trans ?_ (recoverStrip_keeps (M := 13475929) rfl ?_)
            · exact Keeps.refl _ _
            · intro v29 v30 v31
              apply k17
          refine Keeps.step rebuiltCount_keeps rfl ?_
          refine Keeps.step parityBytes_keeps rfl ?_
          exact Keeps.step upd_store rfl ‹_›

theorem execRebuildStripe_keeps {a0 s} : KeepsR 14678105 s (execRebuildStripe a0 s) := by
  unfold execRebuildStripe
  refine KeepsR.next ?_
  refine Keeps.ite ?_ ?_
  · exact Keeps.refl _ _
  · extract_lets x0 x1 x2 x3
    have k4 : Keeps 14678105 s x1 := by
      unfold x1
      split
      · rename_i y5 y6 y7
        exact Keeps.refl _ _
      · rename_i y8 y9
        split
        · rename_i y10 y11
          refine Keeps.foldl ?_ (fun t12 x13 k14 => ?_)
          · exact Keeps.refl _ _
          · exact Keeps.step rbRetire_keeps rfl ‹_›
        · rename_i y15 y16 y17 y18
          exact Keeps.widen upd_store rfl
    clear_value x1
    clear_value x0 x2 x3
    split
    · rename_i y19 y20
      assumption
    · rename_i y21 y22 y23
      split
      · rename_i y24 y25
        exact Keeps.step upd_store rfl ‹_›
      · rename_i y26 y27 y28 y29
        split
        · rename_i y30 y31
          extract_lets x32
          have k33 : Keeps 14678105 s x32 := by
            unfold x32
            refine Keeps.ite ?_ ?_
            · exact Keeps.step upd_store rfl ‹_›
            · exact Keeps.step rbFinish_keeps rfl ‹_›
          clear_value x32
          refine Keeps.foldl ?_ (fun t34 x35 k36 => ?_)
          · assumption
          · exact Keeps.step rbRetire_keeps rfl ‹_›
        · rename_i y37 y38 y39 y40
          extract_lets x41 x42 x43 x44 x45
          have k46 : Keeps 14678105 s x42 := by
            unfold x42
            exact Keeps.step upd_store rfl ‹_›
          clear_value x42
          have k47 : Keeps 14678105 s x43 := by
            unfold x43
            refine Keeps.step closeHeld_keeps rfl ?_
            exact Keeps.step rebuildStrip_keeps rfl ‹_›
          clear_value x43
          have k48 : Keeps 14678105 s x45 := by
            unfold x45
            refine Keeps.ite ?_ ?_
            · exact Keeps.step upd_store rfl ‹_›
            · exact Keeps.step rbFinish_keeps rfl ‹_›
          clear_value x45
          clear_value x41 x44
          refine Keeps.ite ?_ ?_
          · assumption
          · split
            · rename_i y49 y50
              refine Keeps.foldl ?_ (fun t51 x52 k53 => ?_)
              · assumption
              · exact Keeps.step rbRetire_keeps rfl ‹_›
            · rename_i y54 y55
              assumption

theorem execLossMap_adminDone_keeps {a0 a1 a2 a3 a4 s} : Keeps 1310793 s (execLossMap.adminDone a0 a1 a2 a3 a4 s) := by
  unfold execLossMap.adminDone
  exact Keeps.widen answer_keeps rfl

theorem execLossMap_keeps {a0 a1 a2 s} : KeepsR 1310793 s (execLossMap a0 a1 a2 s) := by
  unfold execLossMap
  refine KeepsR.next ?_
  split
  · rename_i y0 y1
    exact Keeps.refl _ _
  · rename_i y2 y3 y4
    split
    · rename_i y5 y6
      exact Keeps.widen execLossMap_adminDone_keeps rfl
    · rename_i y7 y8 y9
      extract_lets x10 x11 x12 x13
      clear_value x10 x11 x12 x13
      refine Keeps.step execLossMap_adminDone_keeps rfl ?_
      exact Keeps.widen drive_keeps rfl

theorem fillEnd_keeps {a0 s} : Keeps 14678105 s (fillEnd a0 s) := by
  unfold fillEnd
  extract_lets x0 x1 x2 x3
  have k4 : Keeps 14678105 s x3 := by
    unfold x3
    exact Keeps.widen setMember_keeps rfl
  clear_value x3
  clear_value x0 x1 x2
  refine Keeps.ite ?_ ?_
  · exact Keeps.refl _ _
  · refine Keeps.step raise_keeps rfl ?_
    exact Keeps.step bayState_keeps rfl ‹_›

theorem execFillParcel_keeps {a0 a1 s} : KeepsR 14678105 s (execFillParcel a0 a1 s) := by
  unfold execFillParcel
  refine KeepsR.next ?_
  extract_lets x0
  clear_value x0
  refine Keeps.ite ?_ ?_
  · exact Keeps.refl _ _
  · split
    · rename_i y1 y2
      exact Keeps.widen fillEnd_keeps rfl
    · rename_i y3 y4 y5
      split
      · rename_i y6 y7
        exact Keeps.refl _ _
      · rename_i y8 y9 y10 y11
        extract_lets x12 x13 x14 x15 x16
        clear_value x12 x13 x14 x15 x16
        split
        · rename_i y17
          exact Keeps.refl _ _
        · rename_i y18 y19 y20
          refine Keeps.ite ?_ ?_
          · exact Keeps.refl _ _
          · split
            · rename_i y21 y22 y23 y24
              have k25 : Keeps 14678105 s y23 := by
                refine Keeps.ofSnd y24 ?_
                refine Keeps.foldlSnd ?_ (fun t26 x27 k28 => ?_)
                · refine Keeps.mkSnd ?_
                  exact Keeps.refl _ _
                · split
                  · rename_i y29 y30
                    assumption
                  · rename_i y31 y32 y33
                    extract_lets x34 x35
                    have k36 : ∀ a37 a38 a39, Keeps 14678105 a39 (x35 a37 a38 a39) := by
                      unfold x35
                      intro v40 v41 v42
                      exact Keeps.widen issueSealed_keeps rfl
                    clear_value x35
                    clear_value x34
                    split
                    · rename_i y43 y44 y45 y46
                      have k47 : Keeps 14678105 s y45 := by
                        refine Keeps.ofSnd y46 ?_
                        refine Keeps.trans ?_ (recoverStrip_keeps (M := 14678105) rfl ?_)
                        · assumption
                        · intro v48 v49 v50
                          apply k36
                      refine Keeps.mkSnd ?_
                      refine Keeps.step rebuiltCount_keeps rfl ?_
                      exact Keeps.step parityBytes_keeps rfl ‹_›
              refine Keeps.ite ?_ ?_
              · exact Keeps.step setMember_keeps rfl ‹_›
              · extract_lets x51 x52 x53 x54 x55 x56 x57
                have k58 : Keeps 14678105 s x53 := by
                  unfold x53
                  exact Keeps.step setEnt_keeps rfl ‹_›
                clear_value x53
                have k59 : Keeps 14678105 s x54 := by
                  unfold x54
                  refine Keeps.ite ?_ ?_
                  · assumption
                  · exact Keeps.step persist_keeps rfl ‹_›
                clear_value x54
                have k60 : Keeps 14678105 s x56 := by
                  unfold x56
                  exact Keeps.step setMember_keeps rfl ‹_›
                clear_value x56
                have k61 : Keeps 14678105 s x57 := by
                  unfold x57
                  refine Keeps.foldl ?_ (fun t62 x63 k64 => ?_)
                  · assumption
                  · exact Keeps.step closeHeld_keeps rfl ‹_›
                clear_value x57
                clear_value x51 x52 x55
                refine Keeps.step fillEnd_keeps rfl ?_
                exact Keeps.step checkpoint_keeps rfl ‹_›

theorem scrubPass_keeps {s} : Keeps 270409 s (scrubPass s) := by
  unfold scrubPass
  extract_lets x0 x1 x2
  have k3 : Keeps 270409 s x1 := by
    unfold x1
    refine Keeps.step bump_keeps rfl ?_
    exact Keeps.widen wr_keeps rfl
  clear_value x1
  clear_value x0 x2
  refine Keeps.step raise_keeps rfl ?_
  exact Keeps.step upd_store rfl ‹_›

theorem scrubRow_keeps {a0 a1 a2 a3 a4 a5 s} : Keeps 13475929 s (scrubRow a0 a1 a2 a3 a4 a5 s) := by
  unfold scrubRow
  extract_lets x0
  clear_value x0
  split
  · rename_i y1 y2
    refine Keeps.ite ?_ ?_
    · exact Keeps.widen holdRow_keeps rfl
    · exact Keeps.widen loseRow_keeps rfl
  · rename_i y3 y4 y5
    split
    · rename_i y6 y7 y8 y9
      have k10 : Keeps 13475929 s y8 := by
        refine Keeps.ofSnd y9 ?_
        refine Keeps.step mendParity_keeps rfl ?_
        exact Keeps.widen mendRow_keeps rfl
      refine Keeps.ite ?_ ?_
      · exact Keeps.step raise_keeps rfl ‹_›
      · assumption

theorem execScrubStripe_keeps {a0 s} : KeepsR 13475929 s (execScrubStripe a0 s) := by
  unfold execScrubStripe
  refine KeepsR.next ?_
  refine Keeps.ite ?_ ?_
  · exact Keeps.refl _ _
  · split
    · rename_i y0 y1
      refine Keeps.ite ?_ ?_
      · exact Keeps.refl _ _
      · exact Keeps.widen scrubPass_keeps rfl
    · rename_i y2 y3 y4
      split
      · rename_i y5 y6
        exact Keeps.refl _ _
      · rename_i y7 y8 y9 y10
        extract_lets x11 x12 x13 x14 x15
        have k16 : Keeps 13475929 s x13 := by
          unfold x13
          refine Keeps.ite ?_ ?_
          · exact Keeps.refl _ _
          · refine Keeps.step closeHeld_keeps rfl ?_
            refine Keeps.foldl ?_ (fun t17 x18 k19 => ?_)
            · refine Keeps.step opened_keeps rfl ?_
              exact Keeps.widen parityBytes_keeps rfl
            · exact Keeps.step scrubRow_keeps rfl ‹_›
        clear_value x13
        have k20 : Keeps 13475929 s x15 := by
          unfold x15
          refine Keeps.step checkpoint_keeps rfl ?_
          exact Keeps.step upd_store rfl ‹_›
        clear_value x15
        clear_value x11 x12 x14
        refine Keeps.ite ?_ ?_
        · exact Keeps.step upd_store rfl ‹_›
        · refine Keeps.ite ?_ ?_
          · exact Keeps.step scrubPass_keeps rfl ‹_›
          · assumption

theorem reshapeRefuse_keeps {a0 s} : Keeps 8192 s (reshapeRefuse a0 s) := by
  unfold reshapeRefuse
  exact Keeps.widen upd_store rfl

theorem reshapeCmd_keeps {a0 a1 a2 a3 a4 a5 s} {M : Nat} (hM : 106505 ||| M = M) (hf5 : ∀ v0, Keeps M v0 (a5 v0)) :
    Keeps M s (reshapeCmd a0 a1 a2 a3 a4 a5 s) := by
  unfold reshapeCmd
  refine Keeps.trans ?_ (requestRecord_keeps (M := M) (orSub hM rfl) ?_ ?_)
  · exact Keeps.widen reshapeRefuse_keeps (orSub hM rfl)
  · intro v0
    apply hf5
  · intro v1
    exact Keeps.refl _ _

theorem reshapeBegin_keeps {a0 a1 a2 a3 s} : Keeps 14678105 s (reshapeBegin a0 a1 a2 a3 s) := by
  unfold reshapeBegin
  extract_lets x0 x1 x2 x3 x4 x5 x6
  have k7 : Keeps 14678105 s x2 := by
    unfold x2
    exact Keeps.widen upd_store rfl
  clear_value x2
  have k8 : Keeps 14678105 s x3 := by
    unfold x3
    exact Keeps.widen modNs_keeps rfl
  clear_value x3
  have k9 : Keeps 14678105 s x4 := by
    unfold x4
    refine Keeps.ite ?_ ?_
    · refine Keeps.foldl ?_ (fun t10 x11 k12 => ?_)
      · assumption
      · refine Keeps.ite ?_ ?_
        · split
          · rename_i y13 y14 y15 y16
            have k17 : Keeps 14678105 s y15 := by
              refine Keeps.ofSnd y16 ?_
              exact Keeps.step drbgDraw_keeps rfl ‹_›
            refine Keeps.step formatDrive_keeps rfl ?_
            refine Keeps.step bayState_keeps rfl ?_
            exact Keeps.step setMember_keeps rfl ‹_›
        · assumption
    · split
      · rename_i y18 y19
        assumption
      · rename_i y20 y21 y22
        refine Keeps.foldl ?_ (fun t23 x24 k25 => ?_)
        · assumption
        · refine Keeps.foldl ?_ (fun t26 x27 k28 => ?_)
          · assumption
          · refine Keeps.ite ?_ ?_
            · exact Keeps.step postNotice_keeps rfl ‹_›
            · assumption
  clear_value x4
  clear_value x0 x1 x5 x6
  refine Keeps.step raise_keeps rfl ?_
  refine Keeps.step limitEval_keeps rfl ?_
  exact Keeps.step upd_store rfl ‹_›

theorem reshapeStartOp_keeps {s} : Keeps 14678105 s (reshapeStartOp s) := by
  unfold reshapeStartOp
  extract_lets x0 x1 x2 x3
  clear_value x0 x1 x2 x3
  split
  · rename_i y4 y5 y6
    exact Keeps.widen reshapeRefuse_keeps rfl
  · rename_i y7 y8
    refine Keeps.trans ?_ (reshapeCmd_keeps (M := 14678105) rfl ?_)
    · exact Keeps.refl _ _
    · intro v9
      exact Keeps.widen reshapeBegin_keeps rfl

theorem execReshapeStart_keeps {a0 s} : KeepsR 14678105 s (execReshapeStart a0 s) := by
  unfold execReshapeStart
  refine KeepsR.next ?_
  refine Keeps.trans ?_ (cmdWrite_keeps (M := 14678105) rfl ?_)
  · exact Keeps.refl _ _
  · intro v0
    exact Keeps.widen reshapeStartOp_keeps rfl

theorem reshapeSuspendOp_keeps {s} : Keeps 8757321 s (reshapeSuspendOp s) := by
  unfold reshapeSuspendOp
  refine Keeps.ite ?_ ?_
  · exact Keeps.refl _ _
  · refine Keeps.trans ?_ (reshapeCmd_keeps (M := 8757321) rfl ?_)
    · exact Keeps.refl _ _
    · intro v0
      exact Keeps.widen reshapeSuspend_keeps rfl

theorem execReshapeSuspend_keeps {a0 s} : KeepsR 8757321 s (execReshapeSuspend a0 s) := by
  unfold execReshapeSuspend
  refine KeepsR.next ?_
  refine Keeps.trans ?_ (cmdWrite_keeps (M := 8757321) rfl ?_)
  · exact Keeps.refl _ _
  · intro v0
    exact Keeps.widen reshapeSuspendOp_keeps rfl

theorem reshapeResume_keeps {s} : Keeps 8192 s (reshapeResume s) := by
  unfold reshapeResume
  extract_lets x0 x1
  clear_value x0 x1
  refine Keeps.ite ?_ ?_
  · exact Keeps.widen upd_store rfl
  · exact Keeps.refl _ _

theorem reshapeResumeOp_keeps {s} : Keeps 106505 s (reshapeResumeOp s) := by
  unfold reshapeResumeOp
  refine Keeps.ite ?_ ?_
  · exact Keeps.refl _ _
  · refine Keeps.trans ?_ (reshapeCmd_keeps (M := 106505) rfl ?_)
    · exact Keeps.refl _ _
    · intro v0
      exact Keeps.widen reshapeResume_keeps rfl

theorem execReshapeResume_keeps {a0 s} : KeepsR 106505 s (execReshapeResume a0 s) := by
  unfold execReshapeResume
  refine KeepsR.next ?_
  refine Keeps.trans ?_ (cmdWrite_keeps (M := 106505) rfl ?_)
  · exact Keeps.refl _ _
  · intro v0
    exact Keeps.widen reshapeResumeOp_keeps rfl

theorem formSet_keeps {a0 s} : Keeps 14678105 s (formSet a0 s) := by
  unfold formSet
  split
  · rename_i y0 y1 y2 y3
    have k4 : Keeps 14678105 s y2 := by
      refine Keeps.ofSnd y3 ?_
      exact Keeps.widen drbgDraw_keeps rfl
    extract_lets x5 x6 x7 x8 x9 x10 x11 x12
    have k13 : Keeps 14678105 s x6 := by
      unfold x6
      exact Keeps.step upd_store rfl ‹_›
    clear_value x6
    have k14 : Keeps 14678105 s x7 := by
      unfold x7
      refine Keeps.foldl ?_ (fun t15 x16 k17 => ?_)
      · assumption
      · split
        · rename_i y18 y19 y20 y21
          have k22 : Keeps 14678105 s y20 := by
            refine Keeps.ofSnd y21 ?_
            exact Keeps.step drbgDraw_keeps rfl ‹_›
          extract_lets x23
          clear_value x23
          refine Keeps.step formatDrive_keeps rfl ?_
          refine Keeps.step raise_keeps rfl ?_
          exact Keeps.step setMember_keeps rfl ‹_›
    clear_value x7
    have k24 : Keeps 14678105 s x10 := by
      unfold x10
      exact Keeps.step upd_store rfl ‹_›
    clear_value x10
    have k25 : Keeps 14678105 s x12 := by
      unfold x12
      refine Keeps.ite ?_ ?_
      · exact Keeps.step upd_store rfl ‹_›
      · assumption
    clear_value x12
    clear_value x5 x8 x9 x11
    refine Keeps.step limitEval_keeps rfl ?_
    exact Keeps.step writeLabels_keeps rfl ‹_›

theorem formOp_keeps {s} : Keeps 14678105 s (formOp s) := by
  unfold formOp
  extract_lets x0
  clear_value x0
  refine Keeps.ite ?_ ?_
  · exact Keeps.refl _ _
  · refine Keeps.trans ?_ (reshapeCmd_keeps (M := 14678105) rfl ?_)
    · exact Keeps.refl _ _
    · intro v1
      exact Keeps.widen formSet_keeps rfl

theorem execForm_keeps {a0 s} : KeepsR 14678105 s (execForm a0 s) := by
  unfold execForm
  refine KeepsR.next ?_
  refine Keeps.trans ?_ (cmdWrite_keeps (M := 14678105) rfl ?_)
  · exact Keeps.refl _ _
  · intro v0
    exact Keeps.widen formOp_keeps rfl

theorem reshapeEnd_keeps {s} : Keeps 14678105 s (reshapeEnd s) := by
  unfold reshapeEnd
  extract_lets x0 x1 x2 x3 x4 x5 x6 x7 x8
  have k9 : Keeps 14678105 s x2 := by
    unfold x2
    exact Keeps.widen upd_store rfl
  clear_value x2
  have k10 : Keeps 14678105 s x5 := by
    unfold x5
    exact Keeps.step upd_store rfl ‹_›
  clear_value x5
  have k11 : Keeps 14678105 s x6 := by
    unfold x6
    refine Keeps.foldl ?_ (fun t12 x13 k14 => ?_)
    · assumption
    · refine Keeps.step setMember_keeps rfl ?_
      exact Keeps.step bayState_keeps rfl ‹_›
  clear_value x6
  have k15 : Keeps 14678105 s x7 := by
    unfold x7
    exact Keeps.step modNs_keeps rfl ‹_›
  clear_value x7
  have k16 : Keeps 14678105 s x8 := by
    unfold x8
    refine Keeps.ite ?_ ?_
    · refine Keeps.foldl ?_ (fun t17 x18 k19 => ?_)
      · assumption
      · refine Keeps.foldl ?_ (fun t20 x21 k22 => ?_)
        · assumption
        · exact Keeps.step homeGone_keeps rfl ‹_›
    · split
      · rename_i y23 y24
        assumption
      · rename_i y25 y26 y27
        refine Keeps.foldl ?_ (fun t28 x29 k30 => ?_)
        · assumption
        · refine Keeps.foldl ?_ (fun t31 x32 k33 => ?_)
          · assumption
          · refine Keeps.ite ?_ ?_
            · exact Keeps.step postNotice_keeps rfl ‹_›
            · assumption
  clear_value x8
  clear_value x0 x1 x3 x4
  refine Keeps.step raise_keeps rfl ?_
  exact Keeps.step limitEval_keeps rfl ‹_›

theorem reshapeNext_keeps {a0 a1 s} : Keeps 14678105 s (reshapeNext a0 a1 s) := by
  unfold reshapeNext
  extract_lets x0 x1 x2 x3
  have k4 : Keeps 14678105 s x0 := by
    unfold x0
    exact Keeps.widen checkpoint_keeps rfl
  clear_value x0
  have k5 : Keeps 14678105 s x3 := by
    unfold x3
    exact Keeps.step upd_store rfl ‹_›
  clear_value x3
  clear_value x1 x2
  refine Keeps.ite ?_ ?_
  · exact Keeps.step reshapeEnd_keeps rfl ‹_›
  · assumption

theorem execMoverStripe_keeps {a0 s} : KeepsR 14678105 s (execMoverStripe a0 s) := by
  unfold execMoverStripe
  refine KeepsR.next ?_
  extract_lets x0 x1 x2
  clear_value x0 x1 x2
  refine Keeps.ite ?_ ?_
  · exact Keeps.refl _ _
  · refine Keeps.ite ?_ ?_
    · exact Keeps.widen reshapeEnd_keeps rfl
    · split
      · rename_i y3 y4
        exact Keeps.widen reshapeNext_keeps rfl
      · rename_i y5 y6 y7 y8 y9
        extract_lets x10 x11 x12 x13 x14 x15 x16
        clear_value x10 x11 x12 x13 x14 x15 x16
        refine Keeps.ite ?_ ?_
        · exact Keeps.widen reshapeNext_keeps rfl
        · refine Keeps.ite ?_ ?_
          · exact Keeps.refl _ _
          · split
            · rename_i y17 y18
              refine Keeps.ite ?_ ?_
              · exact Keeps.widen upd_store rfl
              · split
                · rename_i y19 y20
                  exact Keeps.refl _ _
                · rename_i y21 y22 y23
                  split
                  · rename_i y24 y25 y26 y27
                    have k28 : Keeps 14678105 s y26 := by
                      refine Keeps.ofSnd y27 ?_
                      exact Keeps.widen drbgDraw_keeps rfl
                    extract_lets x29 x30 x31 x32 x33
                    have k34 : Keeps 14678105 s x30 := by
                      unfold x30
                      exact Keeps.step setEnt_keeps rfl ‹_›
                    clear_value x30
                    have k35 : Keeps 14678105 s x31 := by
                      unfold x31
                      exact Keeps.step setEnt_keeps rfl ‹_›
                    clear_value x31
                    have k36 : Keeps 14678105 s x33 := by
                      unfold x33
                      exact Keeps.step upd_store rfl ‹_›
                    clear_value x33
                    clear_value x29 x32
                    refine Keeps.ite ?_ ?_
                    · refine Keeps.step reshapeNext_keeps rfl ?_
                      exact Keeps.step persist_keeps rfl ‹_›
                    · exact Keeps.step checkpoint_keeps rfl ‹_›
            · rename_i y37 y38 y39
              split
              · rename_i y40 y41 y42
                have k43 : Keeps 14678105 s y41 := by
                  refine Keeps.ofSnd y42 ?_
                  exact Keeps.widen drawGen_keeps rfl
                assumption
              · rename_i y44 y45 y46 y47 y48
                have k49 : Keeps 14678105 s y47 := by
                  refine Keeps.ofSnd y48 ?_
                  exact Keeps.widen drawGen_keeps rfl
                extract_lets x50 x51 x52 x53 x54 x55 x56 x57 x58 x59 x60
                have k61 : Keeps 14678105 s x51 := by
                  unfold x51
                  exact Keeps.step opened_keeps rfl ‹_›
                clear_value x51
                have k62 : Keeps 14678105 s x54 := by
                  unfold x54
                  exact Keeps.step writeStripe_keeps rfl ‹_›
                clear_value x54
                have k63 : Keeps 14678105 s x55 := by
                  unfold x55
                  clear_value x60
                  clear_value x59
                  clear_value x58
                  clear_value x57
                  clear_value x56
                  clear_value x55
                  clear_value x53
                  clear_value x52
                  clear_value x50
                  split
                  · rename_i y64
                    assumption
                  · rename_i y65 y66
                    extract_lets x67
                    clear_value x67
                    refine Keeps.step carriedClean_keeps rfl ?_
                    exact Keeps.step setFrame_keeps rfl ‹_›
                clear_value x55
                have k68 : Keeps 14678105 s x58 := by
                  unfold x58
                  refine Keeps.step parityBytes_keeps rfl ?_
                  exact Keeps.step upd_store rfl ‹_›
                clear_value x58
                have k69 : Keeps 14678105 s x60 := by
                  unfold x60
                  exact Keeps.step setEnt_keeps rfl ‹_›
                clear_value x60
                clear_value x50 x52 x53 x56 x57 x59
                refine Keeps.ite ?_ ?_
                · refine Keeps.step stallGo_keeps rfl ?_
                  refine Keeps.step travRetire_keeps rfl ?_
                  refine Keeps.step resumeDeferred_keeps rfl ?_
                  exact Keeps.step checkpoint_keeps rfl ‹_›
                · refine Keeps.step stallGo_keeps rfl ?_
                  refine Keeps.step travRetire_keeps rfl ?_
                  refine Keeps.step resumeDeferred_keeps rfl ?_
                  refine Keeps.step reshapeNext_keeps rfl ?_
                  exact Keeps.step persist_keeps rfl ‹_›

end Sys2Proof.Machine
end

