-- ==== Sys2Proof/Laws/KeepsBayOps.lean ====
section
/-!
SUPPORT. Laws/KeepsBayOps.lean: which units of the state each operation of Machine/BayOps.lean may change: one `Keeps` lemma each.
-/
namespace Sys2Proof.Machine

theorem setPort_keeps {a0 a1 s} : Keeps 8388608 s (setPort a0 a1 s) := by
  unfold setPort
  exact Keeps.widen upd_bay rfl

theorem rpEvent_keeps {a0 a1 a2 s} : Keeps 262217 s (rpEvent a0 a1 a2 s) := by
  unfold rpEvent
  exact Keeps.widen raise_keeps rfl

theorem portDepart_keeps {a0 s} : Keeps 14678105 s (portDepart a0 s) := by
  unfold portDepart
  refine Keeps.ite ?_ ?_
  · exact Keeps.widen oneSide_keeps rfl
  · exact Keeps.widen memberDepart_keeps rfl

theorem portDown_keeps {a0 a1 a2 a3 s} {M : Nat} (hM : 14676057 ||| M = M) (hf3 : ∀ v0, Keeps M v0 (a3 v0)) :
    Keeps M s (portDown a0 a1 a2 a3 s) := by
  unfold portDown
  extract_lets x0 x1 x2 x3 x4 x5 x6
  have k7 : Keeps M s x2 := by
    unfold x2
    exact Keeps.widen setMember_keeps (orSub hM rfl)
  clear_value x2
  have k8 : Keeps M s x3 := by
    unfold x3
    exact Keeps.step setPort_keeps (orSub hM rfl) ‹_›
  clear_value x3
  have k9 : Keeps M s x4 := by
    unfold x4
    refine Keeps.ite ?_ ?_
    · exact Keeps.step rpEvent_keeps (orSub hM rfl) ‹_›
    · assumption
  clear_value x4
  have k10 : Keeps M s x5 := by
    unfold x5
    refine Keeps.step bayCmdsGone_keeps (orSub hM rfl) ?_
    refine Keeps.trans ?_ (hf3 ..)
    assumption
  clear_value x5
  clear_value x0 x1 x6
  exact Keeps.step upd_store (orSub hM rfl) ‹_›

theorem portRecover_keeps {a0 s} : Keeps 14678105 s (portRecover a0 s) := by
  unfold portRecover
  refine Keeps.trans ?_ (portDown_keeps (M := 14678105) rfl ?_)
  · exact Keeps.refl _ _
  · intro v0
    exact Keeps.widen portDepart_keeps rfl

theorem portUnusable_keeps {a0 a1 s} : Keeps 14678105 s (portUnusable a0 a1 s) := by
  unfold portUnusable
  refine Keeps.trans ?_ (portDown_keeps (M := 14678105) rfl ?_)
  · exact Keeps.widen rpEvent_keeps rfl
  · intro v0
    exact Keeps.widen portDepart_keeps rfl

theorem portUnpowered_keeps {a0 a1 s} {M : Nat} (hM : 14676057 ||| M = M) (hf1 : ∀ v0, Keeps M v0 (a1 v0)) :
    Keeps M s (portUnpowered a0 a1 s) := by
  unfold portUnpowered
  extract_lets x0 x1
  have k2 : Keeps M s x1 := by
    unfold x1
    exact Keeps.widen setPort_keeps (orSub hM rfl)
  clear_value x1
  clear_value x0
  refine Keeps.ite ?_ ?_
  · refine Keeps.trans ?_ (hf1 ..)
    assumption
  · refine Keeps.trans ?_ (portDown_keeps (M := M) (orSub hM rfl) ?_)
    · assumption
    · intro v3
      apply hf1

theorem keepOut_keeps {a0 a1 a2 s} : Keeps 270409 s (keepOut a0 a1 a2 s) := by
  unfold keepOut
  extract_lets x0 x1
  have k2 : Keeps 270409 s x1 := by
    unfold x1
    refine Keeps.ite ?_ ?_
    · exact Keeps.widen setMember_keeps rfl
    · exact Keeps.refl _ _
  clear_value x1
  clear_value x0
  exact Keeps.step raise_keeps rfl ‹_›

theorem judgeDrive_keeps {a0 s} : Keeps 14678105 s (judgeDrive a0 s) := by
  unfold judgeDrive
  extract_lets x0 x1 x2 x3 x4 x5
  have k6 : Keeps 14678105 s x2 := by
    unfold x2
    refine Keeps.ite ?_ ?_
    · exact Keeps.widen raise_keeps rfl
    · exact Keeps.refl _ _
  clear_value x2
  have k7 : Keeps 14678105 s x4 := by
    unfold x4
    exact Keeps.widen setMember_keeps rfl
  clear_value x4
  have k8 : Keeps 14678105 s x5 := by
    unfold x5
    exact Keeps.widen keepOut_keeps rfl
  clear_value x5
  clear_value x0 x1 x3
  refine Keeps.ite ?_ ?_
  · refine Keeps.ite ?_ ?_
    · exact Keeps.widen setMember_keeps rfl
    · exact Keeps.refl _ _
  · refine Keeps.ite ?_ ?_
    · refine Keeps.step bayState_keeps rfl ?_
      exact Keeps.step setMember_keeps rfl ‹_›
    · refine Keeps.ite ?_ ?_
      · refine Keeps.ite ?_ ?_
        · refine Keeps.ite ?_ ?_
          · exact Keeps.widen keepOut_keeps rfl
          · exact Keeps.step bayState_keeps rfl ‹_›
        · refine Keeps.ite ?_ ?_
          · exact Keeps.widen keepOut_keeps rfl
          · refine Keeps.ite ?_ ?_
            · exact Keeps.widen keepOut_keeps rfl
            · refine Keeps.ite ?_ ?_
              · refine Keeps.step startRestore_keeps rfl ?_
                exact Keeps.widen setMember_keeps rfl
              · assumption
      · exact Keeps.refl _ _

theorem takeLabel_keeps {a0 s} : Keeps 8192 s (takeLabel a0 s) := by
  unfold takeLabel
  extract_lets x0 x1
  have k2 : Keeps 8192 s x1 := by
    unfold x1
    exact Keeps.widen upd_store rfl
  clear_value x1
  clear_value x0
  refine Keeps.foldl ?_ (fun t3 x4 k5 => ?_)
  · assumption
  · extract_lets x6 x7
    clear_value x6 x7
    exact Keeps.step setMember_keeps rfl ‹_›

theorem assembleBay_keeps {a0 s} : Keeps 14678105 s (assembleBay a0 s) := by
  unfold assembleBay
  extract_lets x0 x1 x2
  have k3 : Keeps 14678105 s x2 := by
    unfold x2
    exact Keeps.widen memberDepart_keeps rfl
  clear_value x2
  clear_value x0 x1
  refine Keeps.ite ?_ ?_
  · refine Keeps.ite ?_ ?_
    · exact Keeps.widen setMember_keeps rfl
    · refine Keeps.ite ?_ ?_
      · exact Keeps.step judgeDrive_keeps rfl ‹_›
      · assumption
  · refine Keeps.ite ?_ ?_
    · exact Keeps.widen judgeDrive_keeps rfl
    · refine Keeps.ite ?_ ?_
      · exact Keeps.widen bayState_keeps rfl
      · exact Keeps.refl _ _

theorem assembleNow_keeps {s} : Keeps 14678361 s (assembleNow s) := by
  unfold assembleNow
  extract_lets x0 x1 x2
  have k3 : Keeps 14678361 s x1 := by
    unfold x1
    exact Keeps.widen upd_pwr rfl
  clear_value x1
  have k4 : Keeps 14678361 s x2 := by
    unfold x2
    split
    · rename_i y5 y6
      assumption
    · rename_i y7 y8 y9
      exact Keeps.step takeLabel_keeps rfl ‹_›
  clear_value x2
  clear_value x0
  refine Keeps.step limitEval_keeps rfl ?_
  refine Keeps.foldl ?_ (fun t10 x11 k12 => ?_)
  · assumption
  · exact Keeps.step assembleBay_keeps rfl ‹_›

theorem assemblyCheck_keeps {s} : Keeps 14678361 s (assemblyCheck s) := by
  unfold assemblyCheck
  refine Keeps.ite ?_ ?_
  · exact Keeps.widen assembleNow_keeps rfl
  · exact Keeps.refl _ _

theorem portSettled_keeps {a0 s} : Keeps 14678361 s (portSettled a0 s) := by
  unfold portSettled
  refine Keeps.ite ?_ ?_
  · exact Keeps.widen assemblyCheck_keeps rfl
  · refine Keeps.ite ?_ ?_
    · exact Keeps.widen judgeDrive_keeps rfl
    · exact Keeps.refl _ _

theorem setBay_keeps {a0 a1 s} : Keeps 8388608 s (setBay a0 a1 s) := by
  unfold setBay
  exact Keeps.widen upd_bay rfl

theorem bpEvent_keeps {a0 a1 a2 s} : Keeps 262217 s (bpEvent a0 a1 a2 s) := by
  unfold bpEvent
  exact Keeps.widen raise_keeps rfl

theorem bayMove_keeps {a0 a1 s} : Keeps 8650825 s (bayMove a0 a1 s) := by
  unfold bayMove
  extract_lets x0 x1
  clear_value x0 x1
  refine Keeps.ite ?_ ?_
  · exact Keeps.refl _ _
  · refine Keeps.step bpEvent_keeps rfl ?_
    exact Keeps.widen setBay_keeps rfl

theorem gatesOff_keeps {a0 a1 s} {M : Nat} (hM : 14676057 ||| M = M) (hf1 : ∀ v0, Keeps M v0 (a1 v0)) :
    Keeps M s (gatesOff a0 a1 s) := by
  unfold gatesOff
  extract_lets x0 x1
  have k2 : Keeps M s x1 := by
    unfold x1
    exact Keeps.widen setBay_keeps (orSub hM rfl)
  clear_value x1
  clear_value x0
  refine Keeps.trans ?_ (portUnpowered_keeps (M := M) (orSub hM rfl) ?_)
  · assumption
  · intro v3
    apply hf1

theorem bayFaultCode_keeps {a0 a1 s} : Keeps 8388609 s (bayFaultCode a0 a1 s) := by
  unfold bayFaultCode
  refine Keeps.step wr_keeps rfl ?_
  exact Keeps.widen setBay_keeps rfl

theorem bayFault_keeps {a0 a1 s} : Keeps 14678105 s (bayFault a0 a1 s) := by
  unfold bayFault
  extract_lets x0 x1 x2 x3 x4 x5 x6 x7 x8
  have k9 : Keeps 14678105 s x5 := by
    unfold x5
    refine Keeps.trans ?_ (gatesOff_keeps (M := 14678105) rfl ?_)
    · exact Keeps.refl _ _
    · intro v10
      refine Keeps.ite ?_ ?_
      · exact Keeps.refl _ _
      · exact Keeps.widen memberDepart_keeps rfl
  clear_value x5
  have k11 : Keeps 14678105 s x7 := by
    unfold x7
    refine Keeps.step bayFaultCode_keeps rfl ?_
    exact Keeps.step setBay_keeps rfl ‹_›
  clear_value x7
  have k12 : Keeps 14678105 s x8 := by
    unfold x8
    exact Keeps.step bpEvent_keeps rfl ‹_›
  clear_value x8
  clear_value x0 x1 x2 x3 x4 x6
  refine Keeps.ite ?_ ?_
  · refine Keeps.step bpEvent_keeps rfl ?_
    exact Keeps.step bayMove_keeps rfl ‹_›
  · exact Keeps.step bayMove_keeps rfl ‹_›

theorem bayOff_keeps {a0 s} : Keeps 14678105 s (bayOff a0 s) := by
  unfold bayOff
  extract_lets x0 x1
  have k2 : Keeps 14678105 s x1 := by
    unfold x1
    exact Keeps.widen setBay_keeps rfl
  clear_value x1
  clear_value x0
  refine Keeps.step bayMove_keeps rfl ?_
  refine Keeps.trans ?_ (gatesOff_keeps (M := 14678105) rfl ?_)
  · assumption
  · intro v3
    exact Keeps.widen memberDepart_keeps rfl

theorem bayOn_keeps {a0 s} : Keeps 8650825 s (bayOn a0 s) := by
  unfold bayOn
  refine Keeps.ite ?_ ?_
  · refine Keeps.step bayMove_keeps rfl ?_
    exact Keeps.widen setBay_keeps rfl
  · exact Keeps.widen setBay_keeps rfl

theorem bayClear_keeps {a0 s} : Keeps 8650825 s (bayClear a0 s) := by
  unfold bayClear
  refine Keeps.step bayMove_keeps rfl ?_
  exact Keeps.widen setBay_keeps rfl

theorem bayCycle_keeps {a0 s} : Keeps 14678105 s (bayCycle a0 s) := by
  unfold bayCycle
  refine Keeps.step bayOn_keeps rfl ?_
  exact Keeps.widen bayOff_keeps rfl

theorem bayCmdEffect_keeps {a0 a1 s} : Keeps 14678105 s (bayCmdEffect a0 a1 s) := by
  unfold bayCmdEffect
  refine Keeps.ite ?_ ?_
  · exact Keeps.refl _ _
  · refine Keeps.ite ?_ ?_
    · exact Keeps.widen bayOff_keeps rfl
    · refine Keeps.ite ?_ ?_
      · exact Keeps.widen bayOn_keeps rfl
      · refine Keeps.ite ?_ ?_
        · exact Keeps.widen bayClear_keeps rfl
        · exact Keeps.widen bayCycle_keeps rfl

theorem bayRecord_keeps {a0 a1 s} : Keeps 14678105 s (bayRecord a0 a1 s) := by
  unfold bayRecord
  refine Keeps.ite ?_ ?_
  · exact Keeps.widen bayCmdEffect_keeps rfl
  · exact Keeps.refl _ _

theorem bayCommand_keeps {a0 a1 s} : Keeps 14678105 s (bayCommand a0 a1 s) := by
  unfold bayCommand
  refine Keeps.ite ?_ ?_
  · exact Keeps.widen wr_keeps rfl
  · refine Keeps.trans ?_ (requestRecord_keeps (M := 14678105) rfl ?_ ?_)
    · exact Keeps.widen wr_keeps rfl
    · intro v0
      exact Keeps.widen bayCmdEffect_keeps rfl
    · intro v1
      refine Keeps.idE ?_
      exact Keeps.refl _ _

theorem bayCmdReserved_keeps {a0 s} : Keeps 1 s (bayCmdReserved a0 s) := by
  unfold bayCmdReserved
  exact Keeps.widen wr_keeps rfl

theorem baysOffDescending_keeps {s} : Keeps 14678105 s (baysOffDescending s) := by
  unfold baysOffDescending
  refine Keeps.foldl ?_ (fun t0 x1 k2 => ?_)
  · exact Keeps.refl _ _
  · refine Keeps.ite ?_ ?_
    · exact Keeps.step bayOff_keeps rfl ‹_›
    · assumption

theorem chipletStart_keeps {a0 s} : Keeps 14678105 s (chipletStart a0 s) := by
  unfold chipletStart
  extract_lets x0 x1
  have k2 : Keeps 14678105 s x0 := by
    unfold x0
    refine Keeps.foldl ?_ (fun t3 x4 k5 => ?_)
    · exact Keeps.refl _ _
    · extract_lets x6 x7
      have k8 : Keeps 14678105 s x7 := by
        unfold x7
        refine Keeps.ite ?_ ?_
        · assumption
        · refine Keeps.trans ?_ (gatesOff_keeps (M := 14678105) rfl ?_)
          · assumption
          · intro v9
            exact Keeps.widen memberDepart_keeps rfl
      clear_value x7
      clear_value x6
      exact Keeps.step setBay_keeps rfl ‹_›
  clear_value x0
  clear_value x1
  exact Keeps.step upd_bay rfl ‹_›

theorem allGatesOff_keeps {s} : Keeps 14678105 s (allGatesOff s) := by
  unfold allGatesOff
  refine Keeps.foldl ?_ (fun t0 x1 k2 => ?_)
  · exact Keeps.refl _ _
  · extract_lets x3
    have k4 : Keeps 14678105 s x3 := by
      unfold x3
      refine Keeps.ite ?_ ?_
      · assumption
      · refine Keeps.trans ?_ (gatesOff_keeps (M := 14678105) rfl ?_)
        · assumption
        · intro v5
          exact Keeps.widen memberDepart_keeps rfl
    clear_value x3
    refine Keeps.ite ?_ ?_
    · exact Keeps.step bayMove_keeps rfl ‹_›
    · assumption

theorem changeover_keeps {a0 a1 s} : Keeps 8388608 s (changeover a0 a1 s) := by
  unfold changeover
  extract_lets x0
  clear_value x0
  refine Keeps.ite ?_ ?_
  · exact Keeps.refl _ _
  · exact Keeps.widen setBay_keeps rfl

theorem rpBlockReset_keeps {a0 s} : Keeps 14678105 s (rpBlockReset a0 s) := by
  unfold rpBlockReset
  refine Keeps.ite ?_ ?_
  · exact Keeps.refl _ _
  · exact Keeps.widen portRecover_keeps rfl

theorem bayClosure_keeps {a0 a1 s} : Keeps 14678105 s (bayClosure a0 a1 s) := by
  unfold bayClosure
  extract_lets x0
  have k1 : Keeps 14678105 s x0 := by
    unfold x0
    refine Keeps.foldl ?_ (fun t2 x3 k4 => ?_)
    · exact Keeps.refl _ _
    · extract_lets x5 x6 x7
      clear_value x5 x6 x7
      refine Keeps.ite ?_ ?_
      · refine Keeps.trans ?_ (portDown_keeps (M := 14678105) rfl ?_)
        · assumption
        · intro v8
          exact Keeps.widen portDepart_keeps rfl
      · refine Keeps.ite ?_ ?_
        · exact Keeps.step setPort_keeps rfl ‹_›
        · assumption
  clear_value x0
  refine Keeps.foldl ?_ (fun t9 x10 k11 => ?_)
  · assumption
  · refine Keeps.ite ?_ ?_
    · exact Keeps.step bayOff_keeps rfl ‹_›
    · assumption

end Sys2Proof.Machine
end

