-- ==== Sys2Proof/Laws/KeepsBay.lean ====
section
/-!
SUPPORT. Laws/KeepsBay.lean: which units of the state each operation of Machine/Bay.lean may change: one `Keeps` lemma each.
-/
namespace Sys2Proof.Machine

theorem modSide_keeps {a0 s} : Keeps 8388608 s (modSide a0 s) := by
  unfold modSide
  exact Keeps.widen upd_bay rfl

theorem bayRemoval_keeps {a0 s} : Keeps 14678361 s (bayRemoval a0 s) := by
  unfold bayRemoval
  extract_lets x0 x1 x2 x3
  have k4 : Keeps 14678361 s x0 := by
    unfold x0
    exact Keeps.widen raise_keeps rfl
  clear_value x0
  have k5 : Keeps 14678361 s x1 := by
    unfold x1
    refine Keeps.trans ?_ (gatesOff_keeps (M := 14678361) rfl ?_)
    · assumption
    · intro v6
      exact Keeps.widen memberDepart_keeps rfl
  clear_value x1
  have k7 : Keeps 14678361 s x3 := by
    unfold x3
    exact Keeps.step setBay_keeps rfl ‹_›
  clear_value x3
  clear_value x2
  refine Keeps.step assemblyCheck_keeps rfl ?_
  exact Keeps.step bayMove_keeps rfl ‹_›

theorem sideAct_keeps {a0 a1 a2 s} : Keeps 14678361 s (sideAct a0 a1 a2 s) := by
  unfold sideAct
  refine Keeps.ite ?_ ?_
  · refine Keeps.ite ?_ ?_
    · extract_lets x0
      have k1 : Keeps 14678361 s x0 := by
        unfold x0
        exact Keeps.widen raise_keeps rfl
      clear_value x0
      refine Keeps.ite ?_ ?_
      · exact Keeps.step bayMove_keeps rfl ‹_›
      · assumption
    · exact Keeps.widen bayRemoval_keeps rfl
  · refine Keeps.ite ?_ ?_
    · exact Keeps.refl _ _
    · refine Keeps.ite ?_ ?_
      · refine Keeps.step raise_keeps rfl ?_
        refine Keeps.step bump_keeps rfl ?_
        exact Keeps.widen modSide_keeps rfl
      · exact Keeps.widen modSide_keeps rfl

theorem sideAccept_keeps {a0 a1 a2 s} : Keeps 14678361 s (sideAccept a0 a1 a2 s) := by
  unfold sideAccept
  extract_lets x0 x1 x2 x3 x4
  have k5 : Keeps 14678361 s x2 := by
    unfold x2
    refine Keeps.step bump_keeps rfl ?_
    exact Keeps.widen modSide_keeps rfl
  clear_value x2
  have k6 : Keeps 14678361 s x3 := by
    unfold x3
    exact Keeps.step sideAct_keeps rfl ‹_›
  clear_value x3
  have k7 : Keeps 14678361 s x4 := by
    unfold x4
    exact Keeps.step modSide_keeps rfl ‹_›
  clear_value x4
  clear_value x0 x1
  refine Keeps.ite ?_ ?_
  · refine Keeps.step raise_keeps rfl ?_
    exact Keeps.step bump_keeps rfl ‹_›
  · assumption

theorem execSidebandEdge_keeps {a0 a1 a2 s} : KeepsR 8388608 s (execSidebandEdge a0 a1 a2 s) := by
  unfold execSidebandEdge
  refine KeepsR.next ?_
  extract_lets x0
  clear_value x0
  refine Keeps.ite ?_ ?_
  · exact Keeps.refl _ _
  · exact Keeps.widen modSide_keeps rfl

theorem execSidebandLevelAccept_keeps {a0 a1 s} : KeepsR 14678361 s (execSidebandLevelAccept a0 a1 s) := by
  unfold execSidebandLevelAccept
  refine KeepsR.next ?_
  extract_lets x0 x1 x2
  have k3 : Keeps 14678361 s x2 := by
    unfold x2
    exact Keeps.widen modSide_keeps rfl
  clear_value x2
  clear_value x0 x1
  refine Keeps.ite ?_ ?_
  · exact Keeps.refl _ _
  · refine Keeps.ite ?_ ?_
    · assumption
    · exact Keeps.step sideAccept_keeps rfl ‹_›

theorem execLongPress_keeps {a0 s} : KeepsR 14678105 s (execLongPress a0 s) := by
  unfold execLongPress
  refine KeepsR.next ?_
  refine Keeps.ite ?_ ?_
  · exact Keeps.refl _ _
  · extract_lets x0 x1 x2
    have k3 : Keeps 14678105 s x0 := by
      unfold x0
      refine Keeps.step bump_keeps rfl ?_
      exact Keeps.widen modSide_keeps rfl
    clear_value x0
    have k4 : Keeps 14678105 s x2 := by
      unfold x2
      exact Keeps.step raise_keeps rfl ‹_›
    clear_value x2
    clear_value x1
    refine Keeps.ite ?_ ?_
    · refine Keeps.trans ?_ (requestRecord_keeps (M := 14678105) rfl ?_ ?_)
      · assumption
      · intro v5
        exact Keeps.widen bayCmdEffect_keeps rfl
      · intro v6
        refine Keeps.idE ?_
        exact Keeps.refl _ _
    · assumption

theorem quarClearOp_keeps {a0 a1 s} : Keeps 14678361 s (quarClearOp a0 a1 s) := by
  unfold quarClearOp
  refine Keeps.foldl ?_ (fun t0 x1 k2 => ?_)
  · exact Keeps.refl _ _
  · refine Keeps.ite ?_ ?_
    · extract_lets x3 x4
      have k5 : Keeps 14678361 s x3 := by
        unfold x3
        exact Keeps.step modSide_keeps rfl ‹_›
      clear_value x3
      clear_value x4
      refine Keeps.ite ?_ ?_
      · assumption
      · exact Keeps.step sideAccept_keeps rfl ‹_›
    · assumption

theorem execQuarantineClear_keeps {a0 a1 a2 s} : KeepsR 14678361 s (execQuarantineClear a0 a1 a2 s) := by
  unfold execQuarantineClear
  refine KeepsR.next ?_
  refine Keeps.trans ?_ (cmdWrite_keeps (M := 14678361) rfl ?_)
  · exact Keeps.refl _ _
  · intro v0
    exact Keeps.widen quarClearOp_keeps rfl

theorem ledAuto_keeps {a0 a1 s} : Keeps 16 s (ledAuto a0 a1 s).2 := by
  unfold ledAuto
  refine Keeps.iteSnd ?_ ?_
  · refine Keeps.mkSnd ?_
    exact Keeps.refl _ _
  · refine Keeps.iteSnd ?_ ?_
    · refine Keeps.iteSnd ?_ ?_
      · split
        · rename_i y0 y1 y2 y3
          have k4 : Keeps 16 s y2 := by
            refine Keeps.ofSnd y3 ?_
            exact Keeps.widen drawFree_keeps rfl
          refine Keeps.mkSnd ?_
          assumption
      · refine Keeps.mkSnd ?_
        exact Keeps.refl _ _
    · refine Keeps.iteSnd ?_ ?_
      · refine Keeps.mkSnd ?_
        exact Keeps.refl _ _
      · refine Keeps.mkSnd ?_
        exact Keeps.refl _ _

theorem ledWord_keeps {s} : Keeps 16 s (ledWord s).2 := by
  unfold ledWord
  refine Keeps.foldlSnd ?_ (fun t0 x1 k2 => ?_)
  · refine Keeps.mkSnd ?_
    exact Keeps.refl _ _
  · extract_lets x3 x4
    clear_value x3 x4
    split
    · rename_i y5 y6 y7 y8
      have k9 : Keeps 16 s y7 := by
        refine Keeps.ofSnd y8 ?_
        refine Keeps.iteSnd ?_ ?_
        · exact Keeps.step ledAuto_keeps rfl ‹_›
        · refine Keeps.mkSnd ?_
          assumption
      refine Keeps.mkSnd ?_
      assumption

theorem execLedRefresh_keeps {s} : KeepsR 8388632 s (execLedRefresh s) := by
  unfold execLedRefresh
  refine KeepsR.next ?_
  refine Keeps.ite ?_ ?_
  · exact Keeps.refl _ _
  · split
    · rename_i y0 y1 y2 y3
      have k4 : Keeps 8388632 s y2 := by
        refine Keeps.ofSnd y3 ?_
        exact Keeps.widen ledWord_keeps rfl
      refine Keeps.step drive_keeps rfl ?_
      exact Keeps.step upd_bay rfl ‹_›

theorem execInsertionDelayEnd_keeps {a0 s} : KeepsR 8650825 s (execInsertionDelayEnd a0 s) := by
  unfold execInsertionDelayEnd
  refine KeepsR.next ?_
  refine Keeps.ite ?_ ?_
  · exact Keeps.refl _ _
  · refine Keeps.ite ?_ ?_
    · exact Keeps.widen bayMove_keeps rfl
    · exact Keeps.widen bayMove_keeps rfl

theorem execBayStart_keeps {s} : KeepsR 8650825 s (execBayStart s) := by
  unfold execBayStart
  refine KeepsR.next ?_
  extract_lets x0 x1
  clear_value x0 x1
  refine Keeps.ite ?_ ?_
  · exact Keeps.refl _ _
  · split
    · rename_i y2 y3
      exact Keeps.refl _ _
    · rename_i y4 y5 y6
      extract_lets x7 x8 x9
      have k10 : Keeps 8650825 s x8 := by
        unfold x8
        exact Keeps.widen setBay_keeps rfl
      clear_value x8
      clear_value x7 x9
      refine Keeps.step bump_keeps rfl ?_
      refine Keeps.step bayMove_keeps rfl ?_
      exact Keeps.step upd_bay rfl ‹_›

theorem execBayFaultTimerExpire_keeps {a0 s} : KeepsR 14678105 s (execBayFaultTimerExpire a0 s) := by
  unfold execBayFaultTimerExpire
  refine KeepsR.next ?_
  extract_lets x0
  clear_value x0
  refine Keeps.ite ?_ ?_
  · exact Keeps.widen bayFault_keeps rfl
  · refine Keeps.ite ?_ ?_
    · exact Keeps.widen bayFault_keeps rfl
    · exact Keeps.refl _ _

theorem execBayFastTrip_keeps {a0 s} : KeepsR 14678105 s (execBayFastTrip a0 s) := by
  unfold execBayFastTrip
  refine KeepsR.next ?_
  extract_lets x0
  clear_value x0
  refine Keeps.ite ?_ ?_
  · exact Keeps.widen bayFault_keeps rfl
  · refine Keeps.ite ?_ ?_
    · exact Keeps.widen bayFault_keeps rfl
    · exact Keeps.refl _ _

theorem execBayPowerGood_keeps {a0 s} : KeepsR 8650825 s (execBayPowerGood a0 s) := by
  unfold execBayPowerGood
  refine KeepsR.next ?_
  extract_lets x0
  clear_value x0
  refine Keeps.ite ?_ ?_
  · refine Keeps.step bayMove_keeps rfl ?_
    exact Keeps.widen setBay_keeps rfl
  · exact Keeps.refl _ _

theorem execBayPowerGoodLost_keeps {a0 s} : KeepsR 14678105 s (execBayPowerGoodLost a0 s) := by
  unfold execBayPowerGoodLost
  refine KeepsR.next ?_
  refine Keeps.ite ?_ ?_
  · exact Keeps.widen bayFault_keeps rfl
  · exact Keeps.refl _ _

theorem execBayRetryWaitEnd_keeps {a0 s} : KeepsR 8650825 s (execBayRetryWaitEnd a0 s) := by
  unfold execBayRetryWaitEnd
  refine KeepsR.next ?_
  refine Keeps.ite ?_ ?_
  · exact Keeps.widen bayMove_keeps rfl
  · exact Keeps.refl _ _

theorem execBayRetriesReset_keeps {a0 s} : KeepsR 8388608 s (execBayRetriesReset a0 s) := by
  unfold execBayRetriesReset
  refine KeepsR.next ?_
  extract_lets x0
  clear_value x0
  refine Keeps.ite ?_ ?_
  · exact Keeps.widen setBay_keeps rfl
  · exact Keeps.refl _ _

theorem execFeedBad_keeps {a0 a1 s} : KeepsR 8388608 s (execFeedBad a0 a1 s) := by
  unfold execFeedBad
  refine KeepsR.next ?_
  refine Keeps.ite ?_ ?_
  · exact Keeps.refl _ _
  · extract_lets x0 x1 x2
    have k3 : Keeps 8388608 s x2 := by
      unfold x2
      exact Keeps.widen setBay_keeps rfl
    clear_value x2
    clear_value x0 x1
    refine Keeps.ite ?_ ?_
    · assumption
    · exact Keeps.step changeover_keeps rfl ‹_›

theorem execFeedGood_keeps {a0 a1 s} : KeepsR 8388608 s (execFeedGood a0 a1 s) := by
  unfold execFeedGood
  refine KeepsR.next ?_
  refine Keeps.ite ?_ ?_
  · exact Keeps.refl _ _
  · extract_lets x0 x1
    have k2 : Keeps 8388608 s x1 := by
      unfold x1
      exact Keeps.widen setBay_keeps rfl
    clear_value x1
    clear_value x0
    refine Keeps.ite ?_ ?_
    · exact Keeps.step changeover_keeps rfl ‹_›
    · assumption

theorem execFeedReturn_keeps {a0 s} : KeepsR 8388608 s (execFeedReturn a0 s) := by
  unfold execFeedReturn
  refine KeepsR.next ?_
  extract_lets x0
  clear_value x0
  refine Keeps.ite ?_ ?_
  · exact Keeps.refl _ _
  · refine Keeps.ite ?_ ?_
    · exact Keeps.refl _ _
    · exact Keeps.widen setBay_keeps rfl

theorem execChangeoverComplete_keeps {a0 s} : KeepsR 8650825 s (execChangeoverComplete a0 s) := by
  unfold execChangeoverComplete
  refine KeepsR.next ?_
  extract_lets x0
  clear_value x0
  split
  · rename_i y1 y2
    exact Keeps.refl _ _
  · rename_i y3 y4 y5
    refine Keeps.ite ?_ ?_
    · exact Keeps.refl _ _
    · extract_lets x6
      have k7 : Keeps 8650825 s x6 := by
        unfold x6
        refine Keeps.step bump_keeps rfl ?_
        exact Keeps.widen setBay_keeps rfl
      clear_value x6
      refine Keeps.ite ?_ ?_
      · exact Keeps.step bpEvent_keeps rfl ‹_›
      · exact Keeps.step bpEvent_keeps rfl ‹_›

theorem execReturnToATimeout_keeps {a0 s} : KeepsR 8388608 s (execReturnToATimeout a0 s) := by
  unfold execReturnToATimeout
  refine KeepsR.next ?_
  extract_lets x0
  clear_value x0
  refine Keeps.ite ?_ ?_
  · exact Keeps.widen setBay_keeps rfl
  · exact Keeps.refl _ _

theorem execGateTurnoffFail_keeps {a0 s} : KeepsR 8650825 s (execGateTurnoffFail a0 s) := by
  unfold execGateTurnoffFail
  refine KeepsR.next ?_
  refine Keeps.ite ?_ ?_
  · exact Keeps.refl _ _
  · extract_lets x0 x1
    clear_value x0 x1
    refine Keeps.step bpEvent_keeps rfl ?_
    refine Keeps.step bayFaultCode_keeps rfl ?_
    exact Keeps.widen setBay_keeps rfl

theorem execBothGates_keeps {a0 s} : KeepsR 8650825 s (execBothGates a0 s) := by
  unfold execBothGates
  refine KeepsR.next ?_
  refine Keeps.ite ?_ ?_
  · exact Keeps.refl _ _
  · extract_lets x0
    clear_value x0
    refine Keeps.step bpEvent_keeps rfl ?_
    refine Keeps.step bayFaultCode_keeps rfl ?_
    exact Keeps.widen setBay_keeps rfl

theorem execFeedAGateLost_keeps {a0 s} : KeepsR 8388608 s (execFeedAGateLost a0 s) := by
  unfold execFeedAGateLost
  refine KeepsR.next ?_
  extract_lets x0
  clear_value x0
  refine Keeps.ite ?_ ?_
  · exact Keeps.refl _ _
  · exact Keeps.widen setBay_keeps rfl

theorem execOff_keeps {a0 a1 s} : KeepsR 14678105 s (execOff a0 a1 s) := by
  unfold execOff
  refine KeepsR.next ?_
  refine Keeps.ite ?_ ?_
  · exact Keeps.refl _ _
  · refine Keeps.trans ?_ (cmdWrite_keeps (M := 14678105) rfl ?_)
    · exact Keeps.refl _ _
    · intro v0
      exact Keeps.widen bayCommand_keeps rfl

theorem execOn_keeps {a0 a1 s} : KeepsR 14678105 s (execOn a0 a1 s) := by
  unfold execOn
  refine KeepsR.next ?_
  refine Keeps.ite ?_ ?_
  · exact Keeps.refl _ _
  · refine Keeps.trans ?_ (cmdWrite_keeps (M := 14678105) rfl ?_)
    · exact Keeps.refl _ _
    · intro v0
      exact Keeps.widen bayCommand_keeps rfl

theorem execClear_keeps {a0 a1 s} : KeepsR 14678105 s (execClear a0 a1 s) := by
  unfold execClear
  refine KeepsR.next ?_
  refine Keeps.ite ?_ ?_
  · exact Keeps.refl _ _
  · refine Keeps.trans ?_ (cmdWrite_keeps (M := 14678105) rfl ?_)
    · exact Keeps.refl _ _
    · intro v0
      exact Keeps.widen bayCommand_keeps rfl

theorem execCycle_keeps {a0 a1 s} : KeepsR 14678105 s (execCycle a0 a1 s) := by
  unfold execCycle
  refine KeepsR.next ?_
  refine Keeps.ite ?_ ?_
  · exact Keeps.refl _ _
  · refine Keeps.trans ?_ (cmdWrite_keeps (M := 14678105) rfl ?_)
    · exact Keeps.refl _ _
    · intro v0
      exact Keeps.widen bayCommand_keeps rfl

theorem execCycleOffTimeEnd_keeps {a0 s} : KeepsR 8650825 s (execCycleOffTimeEnd a0 s) := by
  unfold execCycleOffTimeEnd
  refine KeepsR.next ?_
  extract_lets x0
  clear_value x0
  refine Keeps.ite ?_ ?_
  · refine Keeps.step bayMove_keeps rfl ?_
    exact Keeps.widen setBay_keeps rfl
  · exact Keeps.refl _ _

end Sys2Proof.Machine
end

