-- ==== Sys2Proof/Laws/KeepsClassOps.lean ====
section
/-!
SUPPORT. Laws/KeepsClassOps.lean: which units of the state each operation of Machine/ClassOps.lean may change: one `Keeps` lemma each.
-/
namespace Sys2Proof.Machine

theorem flowInsert_keeps {a0 s} : Keeps 2359369 s (flowInsert a0 s).2 := by
  unfold flowInsert
  extract_lets x0 x1
  clear_value x0 x1
  split
  · rename_i y2 y3 y4 y5
    refine Keeps.mkSnd ?_
    exact Keeps.refl _ _
  · rename_i y6 y7
    split
    · rename_i y8 y9 y10 y11
      split
      · rename_i y12 y13 y14
        refine Keeps.mkSnd ?_
        exact Keeps.widen upd_net rfl
      · rename_i y15 y16
        split
        · rename_i y17 y18 y19 y20
          refine Keeps.mkSnd ?_
          exact Keeps.widen upd_net rfl
        · rename_i y21 y22
          refine Keeps.mkSnd ?_
          exact Keeps.widen raise_keeps rfl

theorem flowStat_keeps {a0 a1 s} : Keeps 1 s (flowStat a0 a1 s) := by
  unfold flowStat
  exact Keeps.widen wr_keeps rfl

theorem lookupRun_keeps {a0 s} : Keeps 2097153 s (lookupRun a0 s).2 := by
  unfold lookupRun
  extract_lets x0 x1 x2 x3 x4
  have k5 : Keeps 2097153 s x2 := by
    unfold x2
    clear_value x4
    clear_value x3
    clear_value x2
    clear_value x1
    clear_value x0
    split
    · rename_i y6 y7 y8
      exact Keeps.widen upd_net rfl
    · rename_i y9
      exact Keeps.widen bump_keeps rfl
  clear_value x2
  clear_value x0 x1 x3 x4
  refine Keeps.iteSnd ?_ ?_
  · refine Keeps.mkSnd ?_
    assumption
  · split
    · rename_i y10 y11 y12 y13
      extract_lets x14
      clear_value x14
      split
      · rename_i y15
        refine Keeps.mkSnd ?_
        exact Keeps.step bump_keeps rfl ‹_›
      · rename_i y16 y17 y18
        refine Keeps.mkSnd ?_
        refine Keeps.step bump_keeps rfl ?_
        exact Keeps.step upd_net rfl ‹_›

end Sys2Proof.Machine
end

