-- ==== Sys2Proof/Laws/KeepsClass.lean ====
section
/-!
SUPPORT. Laws/KeepsClass.lean: which units of the state each operation of Machine/Class.lean may change: one `Keeps` lemma each.
-/
namespace Sys2Proof.Machine

theorem flowInsertOp_keeps {s} : Keeps 2359369 s (flowInsertOp s) := by
  unfold flowInsertOp
  split
  · rename_i y0 y1 y2 y3 y4
    have k5 : Keeps 2359369 s y3 := by
      refine Keeps.ofSnd y4 ?_
      exact Keeps.widen flowInsert_keeps rfl
    exact Keeps.step flowStat_keeps rfl ‹_›

theorem execFlowInsert_keeps {a0 s} : KeepsR 2359369 s (execFlowInsert a0 s) := by
  unfold execFlowInsert
  refine KeepsR.next ?_
  refine Keeps.trans ?_ (cmdWrite_keeps (M := 2359369) rfl ?_)
  · exact Keeps.refl _ _
  · intro v0
    exact Keeps.widen flowInsertOp_keeps rfl

theorem flowOn_keeps {a0 s} {M : Nat} (hM : 1 ||| M = M) (hf0 : ∀ v0 v1 v2, Keeps M v2 (a0 v0 v1 v2)) :
    Keeps M s (flowOn a0 s) := by
  unfold flowOn
  extract_lets x0
  clear_value x0
  split
  · rename_i y1 y2
    exact Keeps.widen flowStat_keeps (orSub hM rfl)
  · rename_i y3 y4 y5 y6
    refine Keeps.step flowStat_keeps (orSub hM rfl) ?_
    apply hf0

theorem flowDeleteOp_keeps {s} : Keeps 2097153 s (flowDeleteOp s) := by
  unfold flowDeleteOp
  refine Keeps.trans ?_ (flowOn_keeps (M := 2097153) rfl ?_)
  · exact Keeps.refl _ _
  · intro v0 v1 v2
    exact Keeps.widen upd_net rfl

theorem execFlowDelete_keeps {a0 s} : KeepsR 2097153 s (execFlowDelete a0 s) := by
  unfold execFlowDelete
  refine KeepsR.next ?_
  refine Keeps.trans ?_ (cmdWrite_keeps (M := 2097153) rfl ?_)
  · exact Keeps.refl _ _
  · intro v0
    exact Keeps.widen flowDeleteOp_keeps rfl

theorem flowReplaceOp_keeps {s} : Keeps 2097153 s (flowReplaceOp s) := by
  unfold flowReplaceOp
  extract_lets x0 x1
  clear_value x0 x1
  refine Keeps.trans ?_ (flowOn_keeps (M := 2097153) rfl ?_)
  · exact Keeps.refl _ _
  · intro v2 v3 v4
    exact Keeps.widen upd_net rfl

theorem execFlowReplace_keeps {a0 s} : KeepsR 2097153 s (execFlowReplace a0 s) := by
  unfold execFlowReplace
  refine KeepsR.next ?_
  refine Keeps.trans ?_ (cmdWrite_keeps (M := 2097153) rfl ?_)
  · exact Keeps.refl _ _
  · intro v0
    exact Keeps.widen flowReplaceOp_keeps rfl

theorem putFlowData_keeps {a0 s} : Keeps 1 s (putFlowData a0 s) := by
  unfold putFlowData
  refine Keeps.foldl ?_ (fun t0 x1 k2 => ?_)
  · exact Keeps.refl _ _
  · exact Keeps.step wr_keeps rfl ‹_›

theorem flowLookupOp_keeps {s} : Keeps 1 s (flowLookupOp s) := by
  unfold flowLookupOp
  refine Keeps.trans ?_ (flowOn_keeps (M := 1) rfl ?_)
  · exact Keeps.refl _ _
  · intro v0 v1 v2
    exact Keeps.widen putFlowData_keeps rfl

theorem execFlowLookup_keeps {a0 s} : KeepsR 1 s (execFlowLookup a0 s) := by
  unfold execFlowLookup
  refine KeepsR.next ?_
  refine Keeps.trans ?_ (cmdWrite_keeps (M := 1) rfl ?_)
  · exact Keeps.refl _ _
  · intro v0
    exact Keeps.widen flowLookupOp_keeps rfl

theorem flowInvalidOp_keeps {s} : Keeps 1 s (flowInvalidOp s) := by
  unfold flowInvalidOp
  exact Keeps.widen flowStat_keeps rfl

theorem putImage_keeps {a0 a1 a2 s} : Keeps 1 s (putImage a0 a1 a2 s) := by
  unfold putImage
  refine Keeps.foldl ?_ (fun t0 x1 k2 => ?_)
  · exact Keeps.refl _ _
  · exact Keeps.step wr_keeps rfl ‹_›

theorem setRule_keeps {a0 a1 s} : Keeps 2097152 s (setRule a0 a1 s) := by
  unfold setRule
  exact Keeps.widen upd_net rfl

theorem ruleWriteOp_keeps {a0 s} : Keeps 2097152 s (ruleWriteOp a0 s) := by
  unfold ruleWriteOp
  extract_lets x0
  clear_value x0
  exact Keeps.widen setRule_keeps rfl

theorem execRuleWrite_keeps {a0 s} : KeepsR 2097153 s (execRuleWrite a0 s) := by
  unfold execRuleWrite
  refine KeepsR.next ?_
  refine Keeps.trans ?_ (cmdWrite_keeps (M := 2097153) rfl ?_)
  · exact Keeps.refl _ _
  · intro v0
    exact Keeps.widen ruleWriteOp_keeps rfl

theorem ruleInvalidateOp_keeps {a0 s} : Keeps 2097152 s (ruleInvalidateOp a0 s) := by
  unfold ruleInvalidateOp
  extract_lets x0 x1
  clear_value x0 x1
  exact Keeps.widen setRule_keeps rfl

theorem execRuleInvalidate_keeps {a0 s} : KeepsR 2097153 s (execRuleInvalidate a0 s) := by
  unfold execRuleInvalidate
  refine KeepsR.next ?_
  refine Keeps.trans ?_ (cmdWrite_keeps (M := 2097153) rfl ?_)
  · exact Keeps.refl _ _
  · intro v0
    exact Keeps.widen ruleInvalidateOp_keeps rfl

theorem ruleReadOp_keeps {a0 s} : Keeps 1 s (ruleReadOp a0 s) := by
  unfold ruleReadOp
  extract_lets x0 x1 x2
  have k3 : Keeps 1 s x1 := by
    unfold x1
    exact Keeps.widen wr_keeps rfl
  clear_value x1
  have k4 : Keeps 1 s x2 := by
    unfold x2
    refine Keeps.step putImage_keeps rfl ?_
    refine Keeps.step putImage_keeps rfl ?_
    exact Keeps.step putImage_keeps rfl ‹_›
  clear_value x2
  clear_value x0
  exact Keeps.step wr_keeps rfl ‹_›

theorem execRuleRead_keeps {a0 s} : KeepsR 1 s (execRuleRead a0 s) := by
  unfold execRuleRead
  refine KeepsR.next ?_
  refine Keeps.trans ?_ (cmdWrite_keeps (M := 1) rfl ?_)
  · exact Keeps.refl _ _
  · intro v0
    exact Keeps.widen ruleReadOp_keeps rfl

theorem platRule_keeps {a0 a1 s} : Keeps 2097152 s (platRule a0 a1 s) := by
  unfold platRule
  extract_lets x0
  clear_value x0
  exact Keeps.widen setRule_keeps rfl

end Sys2Proof.Machine
end

