-- ==== Sys2Proof/Laws/KeepsCiphOps.lean ====
section
/-!
SUPPORT. Laws/KeepsCiphOps.lean: which units of the state each operation of Machine/CiphOps.lean may change: one `Keeps` lemma each.
-/
namespace Sys2Proof.Machine

theorem setSa_keeps {a0 a1 s} : Keeps 4194304 s (setSa a0 a1 s) := by
  unfold setSa
  exact Keeps.widen upd_ciph rfl

theorem saEvict_keeps {a0 s} : Keeps 4194304 s (saEvict a0 s) := by
  unfold saEvict
  split
  · rename_i y0 y1
    exact Keeps.refl _ _
  · rename_i y2 y3 y4
    refine Keeps.ite ?_ ?_
    · exact Keeps.refl _ _
    · exact Keeps.widen setSa_keeps rfl

theorem saTouch_keeps {a0 s} : Keeps 4194305 s (saTouch a0 s) := by
  unfold saTouch
  extract_lets x0 x1 x2 x3 x4
  have k5 : Keeps 4194305 s x2 := by
    unfold x2
    exact Keeps.widen bump_keeps rfl
  clear_value x2
  have k6 : Keeps 4194305 s x3 := by
    unfold x3
    refine Keeps.ite ?_ ?_
    · assumption
    · refine Keeps.foldl ?_ (fun t7 x8 k9 => ?_)
      · assumption
      · exact Keeps.step saEvict_keeps rfl ‹_›
  clear_value x3
  clear_value x0 x1 x4
  refine Keeps.ite ?_ ?_
  · refine Keeps.step bump_keeps rfl ?_
    exact Keeps.widen upd_ciph rfl
  · exact Keeps.step upd_ciph rfl ‹_›

theorem rebind_keeps {a0 a1 s} : Keeps 1048576 s (rebind a0 a1 s) := by
  unfold rebind
  extract_lets x0 x1 x2
  clear_value x0 x1 x2
  exact Keeps.widen upd_xp rfl

theorem saLife_keeps {a0 s} : Keeps 5505097 s (saLife a0 s) := by
  unfold saLife
  split
  · rename_i y0 y1
    exact Keeps.refl _ _
  · rename_i y2 y3 y4
    extract_lets x5 x6
    have k7 : Keeps 5505097 s x5 := by
      unfold x5
      refine Keeps.ite ?_ ?_
      · refine Keeps.step raise_keeps rfl ?_
        exact Keeps.widen setSa_keeps rfl
      · exact Keeps.refl _ _
    clear_value x5
    have k8 : Keeps 5505097 s x6 := by
      unfold x6
      exact Keeps.step setSa_keeps rfl ‹_›
    clear_value x6
    refine Keeps.ite ?_ ?_
    · split
      · rename_i y9 y10 y11
        refine Keeps.ite ?_ ?_
        · exact Keeps.step rebind_keeps rfl ‹_›
        · exact Keeps.step raise_keeps rfl ‹_›
      · rename_i y12 y13
        exact Keeps.step raise_keeps rfl ‹_›
    · assumption

theorem espInbound_keeps {a0 a1 a2 a3 a4 a5 s} : Keeps 5505097 s (espInbound a0 a1 a2 a3 a4 a5 s).2 := by
  unfold espInbound
  split
  · rename_i y0 y1
    refine Keeps.mkSnd ?_
    exact Keeps.widen bump_keeps rfl
  · rename_i y2 y3 y4
    refine Keeps.iteSnd ?_ ?_
    · refine Keeps.mkSnd ?_
      exact Keeps.widen bump_keeps rfl
    · refine Keeps.iteSnd ?_ ?_
      · refine Keeps.mkSnd ?_
        exact Keeps.widen bump_keeps rfl
      · refine Keeps.iteSnd ?_ ?_
        · refine Keeps.mkSnd ?_
          exact Keeps.widen bump_keeps rfl
        · extract_lets x5 x6 x7 x8 x9 x10 x11
          have k12 : Keeps 5505097 s x5 := by
            unfold x5
            exact Keeps.widen saTouch_keeps rfl
          clear_value x5
          have k13 : Keeps 5505097 s x8 := by
            unfold x8
            exact Keeps.step bump64_keeps rfl ‹_›
          clear_value x8
          have k14 : Keeps 5505097 s x9 := by
            unfold x9
            exact Keeps.step setSa_keeps rfl ‹_›
          clear_value x9
          have k15 : Keeps 5505097 s x11 := by
            unfold x11
            refine Keeps.step saLife_keeps rfl ?_
            exact Keeps.step setSa_keeps rfl ‹_›
          clear_value x11
          clear_value x6 x7 x10
          refine Keeps.iteSnd ?_ ?_
          · refine Keeps.mkSnd ?_
            exact Keeps.step bump_keeps rfl ‹_›
          · refine Keeps.iteSnd ?_ ?_
            · refine Keeps.mkSnd ?_
              refine Keeps.step raise_keeps rfl ?_
              exact Keeps.step bump_keeps rfl ‹_›
            · refine Keeps.iteSnd ?_ ?_
              · refine Keeps.mkSnd ?_
                exact Keeps.step bump_keeps rfl ‹_›
              · refine Keeps.iteSnd ?_ ?_
                · refine Keeps.mkSnd ?_
                  assumption
                · refine Keeps.iteSnd ?_ ?_
                  · refine Keeps.mkSnd ?_
                    exact Keeps.step bump_keeps rfl ‹_›
                  · refine Keeps.mkSnd ?_
                    exact Keeps.step bump_keeps rfl ‹_›

theorem espOutbound_keeps {a0 a1 a2 s} : Keeps 5505097 s (espOutbound a0 a1 a2 s).2 := by
  unfold espOutbound
  split
  · rename_i y0
    refine Keeps.mkSnd ?_
    exact Keeps.refl _ _
  · rename_i y1 y2
    split
    · rename_i y3 y4
      refine Keeps.mkSnd ?_
      exact Keeps.refl _ _
    · rename_i y5 y6 y7
      refine Keeps.iteSnd ?_ ?_
      · refine Keeps.mkSnd ?_
        exact Keeps.refl _ _
      · refine Keeps.iteSnd ?_ ?_
        · refine Keeps.mkSnd ?_
          refine Keeps.step raise_keeps rfl ?_
          refine Keeps.step errLast_keeps rfl ?_
          exact Keeps.widen bump_keeps rfl
        · extract_lets x8 x9 x10
          have k11 : Keeps 5505097 s x8 := by
            unfold x8
            exact Keeps.widen saTouch_keeps rfl
          clear_value x8
          have k12 : Keeps 5505097 s x10 := by
            unfold x10
            refine Keeps.step bump64_keeps rfl ?_
            exact Keeps.step setSa_keeps rfl ‹_›
          clear_value x10
          clear_value x9
          refine Keeps.mkSnd ?_
          exact Keeps.step saLife_keeps rfl ‹_›

theorem laneFail_keeps {a0 a1 s} : Keeps 13630937 s (laneFail a0 a1 s) := by
  unfold laneFail
  extract_lets x0 x1 x2 x3 x4
  have k5 : Keeps 13630937 s x1 := by
    unfold x1
    exact Keeps.widen bump_keeps rfl
  clear_value x1
  have k6 : Keeps 13630937 s x3 := by
    unfold x3
    exact Keeps.step upd_ciph rfl ‹_›
  clear_value x3
  have k7 : Keeps 13630937 s x4 := by
    unfold x4
    exact Keeps.step raise_keeps rfl ‹_›
  clear_value x4
  clear_value x0 x2
  refine Keeps.ite ?_ ?_
  · exact Keeps.refl _ _
  · refine Keeps.ite ?_ ?_
    · exact Keeps.step fatalStop_keeps rfl ‹_›
    · assumption

theorem drbgLimit_keeps {s} : Keeps 13630937 s (drbgLimit s) := by
  unfold drbgLimit
  refine Keeps.ite ?_ ?_
  · refine Keeps.step fatalEvent_keeps rfl ?_
    exact Keeps.widen upd_pwr_ciph rfl
  · exact Keeps.refl _ _

theorem drbgSeed_keeps {s} : Keeps 13630937 s (drbgSeed s).2 := by
  unfold drbgSeed
  refine Keeps.iteSnd ?_ ?_
  · refine Keeps.mkSnd ?_
    exact Keeps.refl _ _
  · refine Keeps.mkSnd ?_
    refine Keeps.step drbgLimit_keeps rfl ?_
    exact Keeps.widen upd_ciph rfl

theorem drbgReseed_keeps {s} : Keeps 4456521 s (drbgReseed s) := by
  unfold drbgReseed
  extract_lets x0 x1 x2
  have k3 : Keeps 4456521 s x2 := by
    unfold x2
    exact Keeps.widen upd_ciph rfl
  clear_value x2
  clear_value x0 x1
  refine Keeps.ite ?_ ?_
  · exact Keeps.step raise_keeps rfl ‹_›
  · assumption

end Sys2Proof.Machine
end

