-- ==== Sys2Proof/Laws/KeepsRdma.lean ====
section
/-!
SUPPORT. Laws/KeepsRdma.lean: which units of the state each operation of Machine/Rdma.lean may change: one `Keeps` lemma each.
-/
namespace Sys2Proof.Machine

theorem execSend_keeps {a0 a1 a2 s} : KeepsR 14676057 s (execSend a0 a1 a2 s) := by
  unfold execSend
  refine KeepsR.next ?_
  exact Keeps.widen rxPacket_keeps rfl

theorem execRdmaWrite_keeps {a0 a1 a2 a3 a4 a5 s} : KeepsR 14676057 s (execRdmaWrite a0 a1 a2 a3 a4 a5 s) := by
  unfold execRdmaWrite
  refine KeepsR.next ?_
  exact Keeps.widen rxPacket_keeps rfl

theorem execRdmaReadRequest_keeps {a0 a1 a2 a3 a4 s} : KeepsR 14676057 s (execRdmaReadRequest a0 a1 a2 a3 a4 s) := by
  unfold execRdmaReadRequest
  refine KeepsR.next ?_
  exact Keeps.widen rxPacket_keeps rfl

theorem execFetchAdd_keeps {a0 a1 a2 a3 a4 s} : KeepsR 14676057 s (execFetchAdd a0 a1 a2 a3 a4 s) := by
  unfold execFetchAdd
  refine KeepsR.next ?_
  exact Keeps.widen rxPacket_keeps rfl

theorem execCompareSwap_keeps {a0 a1 a2 a3 a4 a5 s} : KeepsR 14676057 s (execCompareSwap a0 a1 a2 a3 a4 a5 s) := by
  unfold execCompareSwap
  refine KeepsR.next ?_
  exact Keeps.widen rxPacket_keeps rfl

theorem execCompareSwap16_keeps {a0 a1 a2 a3 a4 a5 s} : KeepsR 14676057 s (execCompareSwap16 a0 a1 a2 a3 a4 a5 s) := by
  unfold execCompareSwap16
  refine KeepsR.next ?_
  exact Keeps.widen rxPacket_keeps rfl

theorem execAcknowledge_keeps {a0 a1 a2 a3 s} : KeepsR 9957449 s (execAcknowledge a0 a1 a2 a3 s) := by
  unfold execAcknowledge
  refine KeepsR.next ?_
  split
  · rename_i y0 y1 y2
    have k3 : Keeps 9957449 s y1 := by
      refine Keeps.ofSnd y2 ?_
      exact Keeps.widen rxOther_keeps rfl
    assumption
  · rename_i y4 y5 y6
    have k7 : Keeps 9957449 s y5 := by
      refine Keeps.ofSnd y6 ?_
      exact Keeps.widen rxOther_keeps rfl
    extract_lets x8 x9 x10 x11
    have k12 : Keeps 9957449 s x9 := by
      unfold x9
      exact Keeps.step setQp_keeps rfl ‹_›
    clear_value x9
    clear_value x8 x10 x11
    refine Keeps.ite ?_ ?_
    · exact Keeps.step qpError_keeps rfl ‹_›
    · refine Keeps.ite ?_ ?_
      · refine Keeps.step sendMore_keeps rfl ?_
        exact Keeps.step setQp_keeps rfl ‹_›
      · refine Keeps.ite ?_ ?_
        · refine Keeps.step sendMore_keeps rfl ?_
          exact Keeps.step resendAll_keeps rfl ‹_›
        · refine Keeps.ite ?_ ?_
          · refine Keeps.ite ?_ ?_
            · exact Keeps.step qpError_keeps rfl ‹_›
            · refine Keeps.step sendMore_keeps rfl ?_
              refine Keeps.step resendAll_keeps rfl ?_
              exact Keeps.step setQp_keeps rfl ‹_›
          · exact Keeps.step sendMore_keeps rfl ‹_›

theorem execRnrTimerExpire_keeps {a0 s} : KeepsR 9957449 s (execRnrTimerExpire a0 s) := by
  unfold execRnrTimerExpire
  refine KeepsR.next ?_
  extract_lets x0 x1
  have k2 : Keeps 9957449 s x1 := by
    unfold x1
    exact Keeps.widen setQp_keeps rfl
  clear_value x1
  clear_value x0
  refine Keeps.ite ?_ ?_
  · exact Keeps.refl _ _
  · refine Keeps.ite ?_ ?_
    · exact Keeps.step qpError_keeps rfl ‹_›
    · refine Keeps.step sendMore_keeps rfl ?_
      exact Keeps.step resendAll_keeps rfl ‹_›

theorem readsDone_keeps {a0 a1 s} : Keeps 14544985 s (readsDone a0 a1 s) := by
  induction a1 generalizing a0 s
  · unfold readsDone
    exact Keeps.refl _ _
  · rename_i y0 y1
    unfold readsDone
    extract_lets x2
    clear_value x2
    split
    · rename_i y3 y4
      exact Keeps.refl _ _
    · rename_i y5 y6 y7
      split
      · rename_i y8 y9
        exact Keeps.refl _ _
      · rename_i y10 y11 y12
        refine Keeps.ite ?_ ?_
        · exact Keeps.refl _ _
        · extract_lets x13
          have k14 : Keeps 14544985 s x13 := by
            unfold x13
            exact Keeps.widen setQp_keeps rfl
          clear_value x13
          refine Keeps.trans ?_ y1
          refine Keeps.foldl ?_ (fun t15 x16 k17 => ?_)
          · assumption
          · exact Keeps.step blockArrives_keeps rfl ‹_›

theorem execRdmaReadResponse_keeps {a0 a1 a2 s} : KeepsR 14676057 s (execRdmaReadResponse a0 a1 a2 s) := by
  unfold execRdmaReadResponse
  refine KeepsR.next ?_
  refine Keeps.ite ?_ ?_
  · exact Keeps.widen bumpAt_keeps rfl
  · refine Keeps.ite ?_ ?_
    · exact Keeps.widen bump_keeps rfl
    · split
      · rename_i y0 y1 y2
        have k3 : Keeps 14676057 s y1 := by
          refine Keeps.ofSnd y2 ?_
          exact Keeps.widen rxOther_keeps rfl
        assumption
      · rename_i y4 y5 y6
        have k7 : Keeps 14676057 s y5 := by
          refine Keeps.ofSnd y6 ?_
          exact Keeps.widen rxOther_keeps rfl
        extract_lets x8 x9
        have k10 : Keeps 14676057 s x8 := by
          unfold x8
          exact Keeps.step cnpMaybe_keeps rfl ‹_›
        clear_value x8
        clear_value x9
        split
        · rename_i y11 y12
          assumption
        · rename_i y13 y14 y15 y16
          extract_lets x17 x18 x19 x20
          have k21 : Keeps 14676057 s x19 := by
            unfold x19
            exact Keeps.step setQp_keeps rfl ‹_›
          clear_value x19
          have k22 : Keeps 14676057 s x20 := by
            unfold x20
            exact Keeps.step readsDone_keeps rfl ‹_›
          clear_value x20
          clear_value x17 x18
          refine Keeps.ite ?_ ?_
          · exact Keeps.step bump_keeps rfl ‹_›
          · refine Keeps.ite ?_ ?_
            · exact Keeps.step qpError_keeps rfl ‹_›
            · refine Keeps.ite ?_ ?_
              · assumption
              · refine Keeps.step sendMore_keeps rfl ?_
                exact Keeps.step pullRetry_keeps rfl ‹_›

theorem execCnp_keeps {a0 a1 s} : KeepsR 1048577 s (execCnp a0 a1 s) := by
  unfold execCnp
  refine KeepsR.next ?_
  split
  · rename_i y0 y1 y2
    have k3 : Keeps 1048577 s y1 := by
      refine Keeps.ofSnd y2 ?_
      exact Keeps.widen rxOther_keeps rfl
    assumption
  · rename_i y4 y5 y6
    have k7 : Keeps 1048577 s y5 := by
      refine Keeps.ofSnd y6 ?_
      exact Keeps.widen rxOther_keeps rfl
    extract_lets x8 x9 x10 x11
    clear_value x8 x9 x10 x11
    refine Keeps.step bump_keeps rfl ?_
    exact Keeps.step setQp_keeps rfl ‹_›

theorem execRcTimer_keeps {a0 s} : KeepsR 1048576 s (execRcTimer a0 s) := by
  unfold execRcTimer
  refine KeepsR.next ?_
  extract_lets x0
  clear_value x0
  refine Keeps.ite ?_ ?_
  · exact Keeps.refl _ _
  · exact Keeps.widen setQp_keeps rfl

theorem execPathPenaltyEnd_keeps {a0 a1 s} : KeepsR 1048576 s (execPathPenaltyEnd a0 a1 s) := by
  unfold execPathPenaltyEnd
  refine KeepsR.next ?_
  exact Keeps.widen modQp_keeps rfl

theorem execAckDelayExpire_keeps {a0 s} : KeepsR 1048585 s (execAckDelayExpire a0 s) := by
  unfold execAckDelayExpire
  refine KeepsR.next ?_
  extract_lets x0
  clear_value x0
  refine Keeps.ite ?_ ?_
  · exact Keeps.refl _ _
  · refine Keeps.step ackIfDue_keeps rfl ?_
    exact Keeps.widen setQp_keeps rfl

theorem execSprayRtoExpire_keeps {a0 a1 s} : KeepsR 9957449 s (execSprayRtoExpire a0 a1 s) := by
  unfold execSprayRtoExpire
  refine KeepsR.next ?_
  extract_lets x0
  clear_value x0
  refine Keeps.ite ?_ ?_
  · exact Keeps.refl _ _
  · split
    · rename_i y1 y2
      exact Keeps.refl _ _
    · rename_i y3 y4 y5
      exact Keeps.widen resend_keeps rfl

theorem execAckTimeout_keeps {a0 s} : KeepsR 9957449 s (execAckTimeout a0 s) := by
  unfold execAckTimeout
  refine KeepsR.next ?_
  extract_lets x0
  clear_value x0
  refine Keeps.ite ?_ ?_
  · exact Keeps.refl _ _
  · refine Keeps.ite ?_ ?_
    · exact Keeps.widen qpError_keeps rfl
    · refine Keeps.step resendAll_keeps rfl ?_
      exact Keeps.widen setQp_keeps rfl

theorem execCmReq_keeps {a0 s} : KeepsR 1310809 s (execCmReq a0 s) := by
  unfold execCmReq
  refine KeepsR.next ?_
  extract_lets x0 x1 x2 x3 x4 x5 x6 x7 x8
  have k9 : Keeps 1310809 s x4 := by
    unfold x4
    refine Keeps.ite ?_ ?_
    · exact Keeps.widen raise_keeps rfl
    · exact Keeps.refl _ _
  clear_value x4
  have k10 : ∀ a11, Keeps 1310809 s (x5 a11) := by
    unfold x5
    intro v12
    exact Keeps.step drive_keeps rfl ‹_›
  clear_value x5
  clear_value x0 x1 x2 x3 x6 x7 x8
  refine Keeps.ite ?_ ?_
  · apply k10
  · refine Keeps.ite ?_ ?_
    · apply k10
    · split
      · rename_i y13 y14
        apply k10
      · rename_i y15 y16 y17
        split
        · rename_i y18 y19 y20 y21
          have k22 : Keeps 1310809 s y20 := by
            refine Keeps.ofSnd y21 ?_
            exact Keeps.step drawFree_keeps rfl ‹_›
          extract_lets x23 x24
          clear_value x23 x24
          refine Keeps.step drive_keeps rfl ?_
          exact Keeps.step setQp_keeps rfl ‹_›

theorem execCmRtu_keeps {a0 s} : KeepsR 1048576 s (execCmRtu a0 s) := by
  unfold execCmRtu
  refine KeepsR.next ?_
  refine Keeps.ite ?_ ?_
  · exact Keeps.widen modQp_keeps rfl
  · exact Keeps.refl _ _

theorem execCmDreq_keeps {a0 s} : KeepsR 9957449 s (execCmDreq a0 s) := by
  unfold execCmDreq
  refine KeepsR.next ?_
  extract_lets x0
  clear_value x0
  refine Keeps.ite ?_ ?_
  · refine Keeps.step connQueuesEnd_keeps rfl ?_
    refine Keeps.step drive_keeps rfl ?_
    refine Keeps.step modQp_keeps rfl ?_
    exact Keeps.widen qpClear_keeps rfl
  · refine Keeps.ite ?_ ?_
    · refine Keeps.step drive_keeps rfl ?_
      exact Keeps.widen setQp_keeps rfl
    · exact Keeps.refl _ _

theorem execCmDrep_keeps {a0 s} : KeepsR 1048576 s (execCmDrep a0 s) := by
  unfold execCmDrep
  refine KeepsR.next ?_
  refine Keeps.ite ?_ ?_
  · exact Keeps.widen modQp_keeps rfl
  · exact Keeps.refl _ _

theorem execCmResponseTimeout_keeps {a0 s} : KeepsR 1048576 s (execCmResponseTimeout a0 s) := by
  unfold execCmResponseTimeout
  refine KeepsR.next ?_
  refine Keeps.ite ?_ ?_
  · refine Keeps.step setQp_keeps rfl ?_
    exact Keeps.widen upd_xp rfl
  · exact Keeps.refl _ _

theorem execQpErrorTimeout_keeps {a0 s} : KeepsR 1048576 s (execQpErrorTimeout a0 s) := by
  unfold execQpErrorTimeout
  refine KeepsR.next ?_
  refine Keeps.ite ?_ ?_
  · exact Keeps.widen modQp_keeps rfl
  · exact Keeps.refl _ _

theorem execQpQuietEnd_keeps {a0 s} : KeepsR 1048576 s (execQpQuietEnd a0 s) := by
  unfold execQpQuietEnd
  refine KeepsR.next ?_
  extract_lets x0 x1
  clear_value x0 x1
  refine Keeps.ite ?_ ?_
  · exact Keeps.widen upd_xp rfl
  · exact Keeps.refl _ _

theorem execIcreq_keeps {a0 a1 a2 a3 s} : KeepsR 1048584 s (execIcreq a0 a1 a2 a3 s) := by
  unfold execIcreq
  refine KeepsR.next ?_
  extract_lets x0 x1 x2 x3
  clear_value x0 x1 x2 x3
  refine Keeps.ite ?_ ?_
  · exact Keeps.widen drive_keeps rfl
  · refine Keeps.ite ?_ ?_
    · exact Keeps.widen drive_keeps rfl
    · refine Keeps.step drive_keeps rfl ?_
      exact Keeps.widen upd_xp rfl

theorem tcpEnd_keeps {a0 s} : Keeps 9957449 s (tcpEnd a0 s) := by
  unfold tcpEnd
  refine Keeps.step connQueuesEnd_keeps rfl ?_
  exact Keeps.widen upd_xp rfl

theorem execCapsulecmd_keeps {a0 a1 a2 s} : KeepsR 14676057 s (execCapsulecmd a0 a1 a2 s) := by
  unfold execCapsulecmd
  refine KeepsR.next ?_
  refine Keeps.ite ?_ ?_
  · exact Keeps.refl _ _
  · refine Keeps.ite ?_ ?_
    · refine Keeps.step drive_keeps rfl ?_
      exact Keeps.widen tcpEnd_keeps rfl
    · split
      · rename_i y0 y1
        exact Keeps.refl _ _
      · rename_i y2 y3 y4 y5
        exact Keeps.widen submit_keeps rfl

theorem execH2cdata_keeps {a0 a1 a2 a3 a4 s} : KeepsR 14676057 s (execH2cdata a0 a1 a2 a3 a4 s) := by
  unfold execH2cdata
  refine KeepsR.next ?_
  refine Keeps.ite ?_ ?_
  · exact Keeps.refl _ _
  · refine Keeps.ite ?_ ?_
    · refine Keeps.step drive_keeps rfl ?_
      exact Keeps.widen tcpEnd_keeps rfl
    · split
      · rename_i y0 y1
        exact Keeps.refl _ _
      · rename_i y2 y3 y4 y5
        exact Keeps.widen blockArrives_keeps rfl

theorem execH2ctermreq_keeps {a0 s} : KeepsR 9957449 s (execH2ctermreq a0 s) := by
  unfold execH2ctermreq
  refine KeepsR.next ?_
  refine Keeps.ite ?_ ?_
  · exact Keeps.widen tcpEnd_keeps rfl
  · exact Keeps.refl _ _

end Sys2Proof.Machine
end

