-- ==== Sys2Proof/Laws/KeepsCiph.lean ====
section
/-!
SUPPORT. Laws/KeepsCiph.lean: which units of the state each operation of Machine/Ciph.lean may change: one `Keeps` lemma each.
-/
namespace Sys2Proof.Machine

theorem execLaneReseed_keeps {a0 a1 a2 s} : KeepsR 13630937 s (execLaneReseed a0 a1 a2 s) := by
  unfold execLaneReseed
  refine KeepsR.next ?_
  extract_lets x0 x1 x2 x3
  have k4 : ∀ a5 a6, Keeps 13630937 a6 (x3 a5 a6) := by
    unfold x3
    intro v7 v8
    exact Keeps.widen upd_ciph rfl
  clear_value x3
  clear_value x0 x1 x2
  refine Keeps.ite ?_ ?_
  · exact Keeps.refl _ _
  · refine Keeps.ite ?_ ?_
    · split
      · rename_i y9 y10 y11 y12
        have k13 : Keeps 13630937 s y11 := by
          refine Keeps.ofSnd y12 ?_
          exact Keeps.widen drbgSeed_keeps rfl
        refine Keeps.ite ?_ ?_
        · refine Keeps.trans ?_ (k4 ..)
          assumption
        · refine Keeps.ite ?_ ?_
          · assumption
          · refine Keeps.step bump_keeps rfl ?_
            refine Keeps.trans ?_ (k4 ..)
            assumption
    · split
      · rename_i y14 y15 y16 y17
        have k18 : Keeps 13630937 s y16 := by
          refine Keeps.ofSnd y17 ?_
          exact Keeps.widen drbgSeed_keeps rfl
        extract_lets x19 x20
        have k21 : Keeps 13630937 s x19 := by
          unfold x19
          refine Keeps.trans ?_ (k4 ..)
          assumption
        clear_value x19
        have k22 : Keeps 13630937 s x20 := by
          unfold x20
          exact Keeps.step bump_keeps rfl ‹_›
        clear_value x20
        refine Keeps.ite ?_ ?_
        · assumption
        · exact Keeps.step laneFail_keeps rfl ‹_›

theorem execDrbgReseed_keeps {a0 s} : KeepsR 13630937 s (execDrbgReseed a0 s) := by
  unfold execDrbgReseed
  refine KeepsR.next ?_
  refine Keeps.ite ?_ ?_
  · exact Keeps.refl _ _
  · refine Keeps.ite ?_ ?_
    · exact Keeps.widen drbgReseed_keeps rfl
    · exact Keeps.widen drbgLimit_keeps rfl

theorem execEntropyHealthFail_keeps {s} : KeepsR 4194304 s (execEntropyHealthFail s) := by
  unfold execEntropyHealthFail
  refine KeepsR.next ?_
  refine Keeps.ite ?_ ?_
  · exact Keeps.refl _ _
  · exact Keeps.widen upd_ciph rfl

theorem execEntropyRetest_keeps {a0 s} : KeepsR 13630937 s (execEntropyRetest a0 s) := by
  unfold execEntropyRetest
  refine KeepsR.next ?_
  refine Keeps.ite ?_ ?_
  · exact Keeps.refl _ _
  · refine Keeps.ite ?_ ?_
    · exact Keeps.widen upd_ciph rfl
    · refine Keeps.ite ?_ ?_
      · exact Keeps.widen upd_ciph rfl
      · refine Keeps.step drbgLimit_keeps rfl ?_
        refine Keeps.step raise_keeps rfl ?_
        exact Keeps.widen upd_ciph rfl

theorem saStat_keeps {a0 s} : Keeps 1 s (saStat a0 s) := by
  unfold saStat
  exact Keeps.widen wr_keeps rfl

theorem saClear_keeps {s} : Keeps 1 s (saClear s) := by
  unfold saClear
  exact Keeps.widen putImage_keeps rfl

theorem saInstallOp_keeps {a0 s} : Keeps 6553673 s (saInstallOp a0 s) := by
  unfold saInstallOp
  extract_lets x0 x1 x2
  clear_value x0 x1 x2
  refine Keeps.step saClear_keeps rfl ?_
  refine Keeps.ite ?_ ?_
  · exact Keeps.widen saStat_keeps rfl
  · refine Keeps.ite ?_ ?_
    · exact Keeps.widen saStat_keeps rfl
    · refine Keeps.ite ?_ ?_
      · refine Keeps.step saStat_keeps rfl ?_
        exact Keeps.widen setSa_keeps rfl
      · refine Keeps.ite ?_ ?_
        · exact Keeps.widen saStat_keeps rfl
        · split
          · rename_i y3 y4 y5 y6
            have k7 : Keeps 6553673 s y5 := by
              refine Keeps.ofSnd y6 ?_
              exact Keeps.widen flowInsert_keeps rfl
            refine Keeps.step saStat_keeps rfl ?_
            exact Keeps.step setSa_keeps rfl ‹_›
          · rename_i y8 y9 y10 y11
            have k12 : Keeps 6553673 s y10 := by
              refine Keeps.ofSnd y11 ?_
              exact Keeps.widen flowInsert_keeps rfl
            exact Keeps.step saStat_keeps rfl ‹_›
          · rename_i y13 y14 y15 y16 y17 y18
            have k19 : Keeps 6553673 s y15 := by
              refine Keeps.ofSnd y18 ?_
              exact Keeps.widen flowInsert_keeps rfl
            exact Keeps.step saStat_keeps rfl ‹_›

theorem execInstall_keeps {a0 s} : KeepsR 6553673 s (execInstall a0 s) := by
  unfold execInstall
  refine KeepsR.next ?_
  refine Keeps.trans ?_ (cmdWrite_keeps (M := 6553673) rfl ?_)
  · exact Keeps.refl _ _
  · intro v0
    exact Keeps.widen saInstallOp_keeps rfl

theorem saOrphans_gone_keeps {a0 s} : Keeps 9957449 s (saOrphans.gone a0 s) := by
  unfold saOrphans.gone
  extract_lets x0
  have k1 : Keeps 9957449 s x0 := by
    unfold x0
    refine Keeps.foldl ?_ (fun t2 x3 k4 => ?_)
    · exact Keeps.refl _ _
    · refine Keeps.ite ?_ ?_
      · exact Keeps.step qpError_keeps rfl ‹_›
      · assumption
  clear_value x0
  refine Keeps.foldl ?_ (fun t5 x6 k7 => ?_)
  · assumption
  · refine Keeps.ite ?_ ?_
    · exact Keeps.step tcpEnd_keeps rfl ‹_›
    · assumption

theorem saOrphans_keeps {a0 a1 s} : Keeps 9957449 s (saOrphans a0 a1 s) := by
  unfold saOrphans
  split
  · rename_i y0 y1 y2
    refine Keeps.ite ?_ ?_
    · exact Keeps.widen rebind_keeps rfl
    · exact Keeps.widen saOrphans_gone_keeps rfl
  · rename_i y3 y4
    exact Keeps.widen saOrphans_gone_keeps rfl

theorem saDeleteOp_keeps {a0 s} : Keeps 16248905 s (saDeleteOp a0 s) := by
  unfold saDeleteOp
  extract_lets x0 x1 x2
  clear_value x0 x1 x2
  refine Keeps.step saClear_keeps rfl ?_
  split
  · rename_i y3 y4
    exact Keeps.widen saStat_keeps rfl
  · rename_i y5 y6 y7
    extract_lets x8 x9
    have k10 : Keeps 16248905 s x9 := by
      unfold x9
      exact Keeps.widen upd_net_ciph rfl
    clear_value x9
    clear_value x8
    refine Keeps.step saStat_keeps rfl ?_
    refine Keeps.ite ?_ ?_
    · exact Keeps.step saOrphans_keeps rfl ‹_›
    · assumption

theorem execDelete_keeps {a0 s} : KeepsR 16248905 s (execDelete a0 s) := by
  unfold execDelete
  refine KeepsR.next ?_
  refine Keeps.trans ?_ (cmdWrite_keeps (M := 16248905) rfl ?_)
  · exact Keeps.refl _ _
  · intro v0
    exact Keeps.widen saDeleteOp_keeps rfl

theorem saReadOp_keeps {a0 s} : Keeps 1 s (saReadOp a0 s) := by
  unfold saReadOp
  extract_lets x0
  clear_value x0
  refine Keeps.step saStat_keeps rfl ?_
  exact Keeps.widen putImage_keeps rfl

theorem execSaRead_keeps {a0 s} : KeepsR 1 s (execSaRead a0 s) := by
  unfold execSaRead
  refine KeepsR.next ?_
  refine Keeps.trans ?_ (cmdWrite_keeps (M := 1) rfl ?_)
  · exact Keeps.refl _ _
  · intro v0
    exact Keeps.widen saReadOp_keeps rfl

theorem saReservedOp_keeps {s} : Keeps 1 s (saReservedOp s) := by
  unfold saReservedOp
  refine Keeps.step saClear_keeps rfl ?_
  exact Keeps.widen saStat_keeps rfl

theorem keyStat_keeps {a0 s} : Keeps 1 s (keyStat a0 s) := by
  unfold keyStat
  exact Keeps.widen wr_keeps rfl

theorem rollOp_keeps {a0 s} : Keeps 13475929 s (rollOp a0 s) := by
  unfold rollOp
  extract_lets x0 x1 x2
  clear_value x0 x1 x2
  refine Keeps.ite ?_ ?_
  · exact Keeps.widen keyStat_keeps rfl
  · refine Keeps.ite ?_ ?_
    · exact Keeps.widen keyStat_keeps rfl
    · refine Keeps.ite ?_ ?_
      · refine Keeps.step keyStat_keeps rfl ?_
        exact Keeps.widen upd_ks rfl
      · refine Keeps.step keyStat_keeps rfl ?_
        exact Keeps.widen startRoll_keeps rfl

theorem execRoll_keeps {a0 s} : KeepsR 13475929 s (execRoll a0 s) := by
  unfold execRoll
  refine KeepsR.next ?_
  refine Keeps.trans ?_ (cmdWrite_keeps (M := 13475929) rfl ?_)
  · exact Keeps.refl _ _
  · intro v0
    exact Keeps.widen rollOp_keeps rfl

theorem escReadOp_keeps {s} : Keeps 13475929 s (escReadOp s) := by
  unfold escReadOp
  split
  · rename_i y0 y1
    exact Keeps.widen keyStat_keeps rfl
  · rename_i y2 y3 y4 y5
    extract_lets x6 x7 x8 x9
    have k10 : Keeps 13475929 s x7 := by
      unfold x7
      exact Keeps.widen upd_ks rfl
    clear_value x7
    have k11 : Keeps 13475929 s x8 := by
      unfold x8
      refine Keeps.step keyStat_keeps rfl ?_
      exact Keeps.step putImage_keeps rfl ‹_›
    clear_value x8
    clear_value x6 x9
    split
    · rename_i y12 y13
      assumption
    · rename_i y14 y15 y16 y17
      refine Keeps.step startRoll_keeps rfl ?_
      exact Keeps.step upd_ks rfl ‹_›

theorem execEscRead_keeps {a0 s} : KeepsR 13475929 s (execEscRead a0 s) := by
  unfold execEscRead
  refine KeepsR.next ?_
  refine Keeps.trans ?_ (cmdWrite_keeps (M := 13475929) rfl ?_)
  · exact Keeps.refl _ _
  · intro v0
    exact Keeps.widen escReadOp_keeps rfl

theorem importOp_keeps {s} : Keeps 622601 s (importOp s) := by
  unfold importOp
  extract_lets x0 x1 x2 x3 x4 x5 x6
  clear_value x0 x1 x2 x3 x4 x5 x6
  split
  · rename_i y7 y8
    exact Keeps.widen keyStat_keeps rfl
  · rename_i y9 y10 y11
    refine Keeps.ite ?_ ?_
    · exact Keeps.widen keyStat_keeps rfl
    · refine Keeps.ite ?_ ?_
      · exact Keeps.widen keyStat_keeps rfl
      · refine Keeps.ite ?_ ?_
        · exact Keeps.widen keyStat_keeps rfl
        · extract_lets x12
          clear_value x12
          refine Keeps.step keyStat_keeps rfl ?_
          refine Keeps.trans ?_ (requestRecord_keeps (M := 622601) rfl ?_ ?_)
          · exact Keeps.refl _ _
          · intro v13
            exact Keeps.widen keyImport_keeps rfl
          · intro v14
            refine Keeps.idE ?_
            exact Keeps.refl _ _

theorem execImport_keeps {a0 s} : KeepsR 622601 s (execImport a0 s) := by
  unfold execImport
  refine KeepsR.next ?_
  refine Keeps.trans ?_ (cmdWrite_keeps (M := 622601) rfl ?_)
  · exact Keeps.refl _ _
  · intro v0
    exact Keeps.widen importOp_keeps rfl

theorem keyReservedOp_keeps {s} : Keeps 1 s (keyReservedOp s) := by
  unfold keyReservedOp
  exact Keeps.widen keyStat_keeps rfl

theorem sweepStripe_keeps {a0 a1 a2 a3 a4 s} : Keeps 13475929 s (sweepStripe a0 a1 a2 a3 a4 s).2 := by
  unfold sweepStripe
  extract_lets x0 x1
  clear_value x0 x1
  refine Keeps.iteSnd ?_ ?_
  · refine Keeps.mkSnd ?_
    exact Keeps.refl _ _
  · refine Keeps.iteSnd ?_ ?_
    · refine Keeps.mkSnd ?_
      exact Keeps.refl _ _
    · split
      · rename_i y2 y3 y4
        have k5 : Keeps 13475929 s y3 := by
          refine Keeps.ofSnd y4 ?_
          exact Keeps.widen drawGen_keeps rfl
        refine Keeps.mkSnd ?_
        assumption
      · rename_i y6 y7 y8 y9 y10
        have k11 : Keeps 13475929 s y9 := by
          refine Keeps.ofSnd y10 ?_
          exact Keeps.widen drawGen_keeps rfl
        extract_lets x12 x13 x14 x15
        have k16 : Keeps 13475929 s x12 := by
          unfold x12
          refine Keeps.foldl ?_ (fun t17 x18 k19 => ?_)
          · assumption
          · split
            · rename_i y20 y21 y22
              refine Keeps.ite ?_ ?_
              · exact Keeps.step loseRow_keeps rfl ‹_›
              · assumption
            · rename_i y23 y24
              assumption
        clear_value x12
        have k25 : Keeps 13475929 s x14 := by
          unfold x14
          refine Keeps.step writeStripe_keeps rfl ?_
          exact Keeps.step parityBytes_keeps rfl ‹_›
        clear_value x14
        have k26 : Keeps 13475929 s x15 := by
          unfold x15
          split
          · rename_i y27 y28
            assumption
          · rename_i y29 y30 y31
            exact Keeps.step setFrame_keeps rfl ‹_›
        clear_value x15
        clear_value x13
        refine Keeps.mkSnd ?_
        assumption

theorem sweepDone_keeps {a0 s} : Keeps 9019401 s (sweepDone a0 s) := by
  unfold sweepDone
  extract_lets x0 x1 x2
  have k3 : Keeps 9019401 s x1 := by
    unfold x1
    exact Keeps.widen setEnt_keeps rfl
  clear_value x1
  clear_value x0 x2
  refine Keeps.step persist_keeps rfl ?_
  exact Keeps.step upd_ks rfl ‹_›

theorem execRekeySweepStripe_keeps {a0 s} : KeepsR 13475929 s (execRekeySweepStripe a0 s) := by
  unfold execRekeySweepStripe
  refine KeepsR.next ?_
  refine Keeps.ite ?_ ?_
  · exact Keeps.refl _ _
  · extract_lets x0 x1
    clear_value x0 x1
    split
    · rename_i y2
      exact Keeps.refl _ _
    · rename_i y3 y4
      split
      · rename_i y5 y6
        exact Keeps.refl _ _
      · rename_i y7 y8 y9 y10
        extract_lets x11 x12 x13 x14 x15 x16 x17
        have k18 : Keeps 13475929 s x17 := by
          unfold x17
          exact Keeps.widen opened_keeps rfl
        clear_value x17
        clear_value x11 x12 x13 x14 x15 x16
        refine Keeps.ite ?_ ?_
        · exact Keeps.refl _ _
        · split
          · rename_i y19 y20 y21 y22
            have k23 : Keeps 13475929 s y21 := by
              refine Keeps.ofSnd y22 ?_
              refine Keeps.iteSnd ?_ ?_
              · exact Keeps.step sweepStripe_keeps rfl ‹_›
              · refine Keeps.mkSnd ?_
                assumption
            refine Keeps.ite ?_ ?_
            · assumption
            · refine Keeps.ite ?_ ?_
              · exact Keeps.step upd_ks rfl ‹_›
              · exact Keeps.step sweepDone_keeps rfl ‹_›

end Sys2Proof.Machine
end

