-- ==== Sys2Proof/Laws/KeepsNvmf.lean ====
section
/-!
SUPPORT. Laws/KeepsNvmf.lean: which units of the state each operation of Machine/Nvmf.lean may change: one `Keeps` lemma each.
-/
namespace Sys2Proof.Machine

theorem refuseConnect_keeps {a0 a1 a2 a3 s} : Keeps 1310729 s (refuseConnect a0 a1 a2 a3 s) := by
  unfold refuseConnect
  refine Keeps.step respond_keeps rfl ?_
  exact Keeps.widen bump_keeps rfl

theorem openAssoc_keeps {a0 a1 a2 a3 a4 a5 a6 a7 s} : Keeps 1314889 s (openAssoc a0 a1 a2 a3 a4 a5 a6 a7 s) := by
  unfold openAssoc
  extract_lets x0 x1 x2
  clear_value x0 x1 x2
  refine Keeps.ite ?_ ?_
  · refine Keeps.step refuseConnect_keeps rfl ?_
    exact Keeps.widen raise_keeps rfl
  · refine Keeps.ite ?_ ?_
    · refine Keeps.step refuseConnect_keeps rfl ?_
      exact Keeps.widen raise_keeps rfl
    · split
      · rename_i y3 y4 y5 y6 y7 y8
        extract_lets x9 x10 x11
        have k12 : Keeps 1314889 s x9 := by
          unfold x9
          refine Keeps.ite ?_ ?_
          · exact Keeps.refl _ _
          · exact Keeps.widen upd_nvm rfl
        clear_value x9
        have k13 : Keeps 1314889 s x11 := by
          unfold x11
          exact Keeps.step upd_nvm rfl ‹_›
        clear_value x11
        clear_value x10
        exact Keeps.step respond_keeps rfl ‹_›
      · rename_i y14 y15 y16
        exact Keeps.widen refuseConnect_keeps rfl

theorem execConnect_keeps {a0 a1 a2 a3 a4 a5 a6 a7 a8 s} : KeepsR 1314889 s (execConnect a0 a1 a2 a3 a4 a5 a6 a7 a8 s) := by
  unfold execConnect
  refine KeepsR.next ?_
  split
  · rename_i y0 y1
    exact Keeps.widen refuseConnect_keeps rfl
  · rename_i y2 y3 y4
    refine Keeps.ite ?_ ?_
    · exact Keeps.widen refuseConnect_keeps rfl
    · refine Keeps.ite ?_ ?_
      · refine Keeps.ite ?_ ?_
        · exact Keeps.widen refuseConnect_keeps rfl
        · exact Keeps.widen openAssoc_keeps rfl
      · split
        · rename_i y5 y6
          exact Keeps.widen refuseConnect_keeps rfl
        · rename_i y7 y8 y9
          refine Keeps.ite ?_ ?_
          · exact Keeps.widen refuseConnect_keeps rfl
          · refine Keeps.step respond_keeps rfl ?_
            exact Keeps.widen upd_nvm rfl

theorem execKeepAlive_keeps {a0 a1 s} : KeepsR 1314824 s (execKeepAlive a0 a1 s) := by
  unfold execKeepAlive
  refine KeepsR.next ?_
  split
  · rename_i y0 y1
    exact Keeps.refl _ _
  · rename_i y2 y3 y4
    refine Keeps.step respond_keeps rfl ?_
    exact Keeps.widen upd_nvm rfl

theorem execKeepAliveExpire_keeps {a0 s} : KeepsR 9957449 s (execKeepAliveExpire a0 s) := by
  unfold execKeepAliveExpire
  refine KeepsR.next ?_
  split
  · rename_i y0 y1
    exact Keeps.refl _ _
  · rename_i y2 y3 y4
    refine Keeps.step raise_keeps rfl ?_
    refine Keeps.step bump_keeps rfl ?_
    exact Keeps.widen endAssociation_keeps rfl

theorem adminDone_keeps {a0 a1 a2 a3 a4 a5 s} : Keeps 1310793 s (adminDone a0 a1 a2 a3 a4 a5 s) := by
  unfold adminDone
  exact Keeps.widen answer_keeps rfl

theorem execNamespaceCreate_keeps {a0 a1 a2 a3 a4 a5 a6 s} : KeepsR 1314889 s (execNamespaceCreate a0 a1 a2 a3 a4 a5 a6 s) := by
  unfold execNamespaceCreate
  refine KeepsR.next ?_
  split
  · rename_i y0 y1
    exact Keeps.refl _ _
  · rename_i y2 y3 y4
    refine Keeps.ite ?_ ?_
    · exact Keeps.widen adminDone_keeps rfl
    · refine Keeps.ite ?_ ?_
      · exact Keeps.widen adminDone_keeps rfl
      · refine Keeps.ite ?_ ?_
        · exact Keeps.widen adminDone_keeps rfl
        · split
          · rename_i y5 y6
            exact Keeps.widen adminDone_keeps rfl
          · rename_i y7 y8 y9
            extract_lets x10 x11 x12 x13
            clear_value x10 x11 x12 x13
            refine Keeps.ite ?_ ?_
            · exact Keeps.widen adminDone_keeps rfl
            · refine Keeps.ite ?_ ?_
              · exact Keeps.widen adminDone_keeps rfl
              · split
                · rename_i y14 y15 y16 y17 y18 y19
                  split
                  · rename_i y20 y21 y22 y23
                    have k24 : Keeps 1314889 s y22 := by
                      refine Keeps.ofSnd y23 ?_
                      exact Keeps.widen newCtx_keeps rfl
                    extract_lets x25 x26
                    have k27 : Keeps 1314889 s x25 := by
                      unfold x25
                      exact Keeps.step setNs_keeps rfl ‹_›
                    clear_value x25
                    clear_value x26
                    exact Keeps.step upd_nvm rfl ‹_›
                · rename_i y28 y29 y30
                  exact Keeps.widen adminDone_keeps rfl

theorem nsActivate_keeps {a0 a1 a2 a3 s} : Keeps 13381721 s (nsActivate a0 a1 a2 a3 s) := by
  unfold nsActivate
  extract_lets x0 x1 x2 x3 x4
  have k5 : Keeps 13381721 s x1 := by
    unfold x1
    exact Keeps.widen setNs_keeps rfl
  clear_value x1
  have k6 : Keeps 13381721 s x2 := by
    unfold x2
    refine Keeps.foldl ?_ (fun t7 x8 k9 => ?_)
    · assumption
    · exact Keeps.step upd_store rfl ‹_›
  clear_value x2
  have k10 : Keeps 13381721 s x3 := by
    unfold x3
    exact Keeps.step keyCreate_keeps rfl ‹_›
  clear_value x3
  have k11 : Keeps 13381721 s x4 := by
    unfold x4
    refine Keeps.ite ?_ ?_
    · exact Keeps.step registerAll_keeps rfl ‹_›
    · assumption
  clear_value x4
  clear_value x0
  refine Keeps.step raise_keeps rfl ?_
  exact Keeps.step parcelsLow_keeps rfl ‹_›

theorem execNamespaceActive_keeps {a0 s} : KeepsR 14528601 s (execNamespaceActive a0 s) := by
  unfold execNamespaceActive
  refine KeepsR.next ?_
  split
  · rename_i y0 y1 y2 y3 y4 y5
    refine Keeps.ite ?_ ?_
    · exact Keeps.refl _ _
    · extract_lets x6 x7
      have k8 : Keeps 14528601 s x7 := by
        unfold x7
        refine Keeps.ite ?_ ?_
        · exact Keeps.refl _ _
        · exact Keeps.widen compactRuns_keeps rfl
      clear_value x7
      clear_value x6
      split
      · rename_i y9 y10
        assumption
      · rename_i y11 y12 y13
        split
        · rename_i y14 y15 y16 y17
          have k18 : Keeps 14528601 s y16 := by
            refine Keeps.ofSnd y17 ?_
            exact Keeps.step newEntries_keeps rfl ‹_›
          split
          · rename_i y19 y20 y21 y22
            have k23 : Keeps 14528601 s y21 := by
              refine Keeps.ofSnd y22 ?_
              exact Keeps.step drbgDraw_keeps rfl ‹_›
            extract_lets x24 x25 x26 x27
            have k28 : Keeps 14528601 s x27 := by
              unfold x27
              exact Keeps.step upd_nvm rfl ‹_›
            clear_value x27
            clear_value x24 x25 x26
            refine Keeps.trans ?_ (requestRecord_keeps (M := 14528601) rfl ?_ ?_)
            · assumption
            · intro v29
              exact Keeps.widen nsActivate_keeps rfl
            · intro v30
              exact Keeps.widen finish_keeps rfl
  · rename_i y31 y32 y33
    exact Keeps.refl _ _

theorem noticeHost_keeps {a0 a1 a2 a3 s} : Keeps 1052680 s (noticeHost a0 a1 a2 a3 s) := by
  unfold noticeHost
  refine Keeps.foldl ?_ (fun t0 x1 k2 => ?_)
  · exact Keeps.refl _ _
  · exact Keeps.step postNotice_keeps rfl ‹_›

theorem anaNotice_keeps {a0 s} : Keeps 1052680 s (anaNotice a0 s) := by
  unfold anaNotice
  refine Keeps.foldl ?_ (fun t0 x1 k2 => ?_)
  · exact Keeps.refl _ _
  · exact Keeps.step postNotice_keeps rfl ‹_›

theorem nsDeleting_keeps {a0 s} : Keeps 1052680 s (nsDeleting a0 s) := by
  unfold nsDeleting
  split
  · rename_i y0 y1
    exact Keeps.refl _ _
  · rename_i y2 y3 y4
    refine Keeps.foldl ?_ (fun t5 x6 k7 => ?_)
    · exact Keeps.widen setNs_keeps rfl
    · exact Keeps.step noticeHost_keeps rfl ‹_›

theorem execNamespaceDelete_keeps {a0 a1 a2 s} : KeepsR 1413193 s (execNamespaceDelete a0 a1 a2 s) := by
  unfold execNamespaceDelete
  refine KeepsR.next ?_
  split
  · rename_i y0 y1
    exact Keeps.refl _ _
  · rename_i y2 y3 y4
    refine Keeps.ite ?_ ?_
    · exact Keeps.widen adminDone_keeps rfl
    · split
      · rename_i y5 y6
        exact Keeps.widen adminDone_keeps rfl
      · rename_i y7 y8 y9
        split
        · rename_i y10 y11 y12 y13
          have k14 : Keeps 1413193 s y12 := by
            refine Keeps.ofSnd y13 ?_
            exact Keeps.widen newCtx_keeps rfl
          refine Keeps.trans ?_ (requestRecord_keeps (M := 1413193) rfl ?_ ?_)
          · exact Keeps.step upd_nvm rfl ‹_›
          · intro v15
            exact Keeps.widen nsDeleting_keeps rfl
          · intro v16
            exact Keeps.refl _ _

theorem nsRelease_keeps {a0 s} : Keeps 9379913 s (nsRelease a0 s) := by
  unfold nsRelease
  split
  · rename_i y0 y1
    exact Keeps.refl _ _
  · rename_i y2 y3 y4
    extract_lets x5 x6 x7 x8 x9 x10 x11 x12 x13
    have k14 : Keeps 9379913 s x7 := by
      unfold x7
      exact Keeps.widen upd_store rfl
    clear_value x7
    have k15 : Keeps 9379913 s x8 := by
      unfold x8
      refine Keeps.step setKey_keeps rfl ?_
      refine Keeps.step setKey_keeps rfl ?_
      exact Keeps.step windowsEnd_keeps rfl ‹_›
    clear_value x8
    have k16 : Keeps 9379913 s x10 := by
      unfold x10
      exact Keeps.step upd_ks rfl ‹_›
    clear_value x10
    have k17 : Keeps 9379913 s x13 := by
      unfold x13
      refine Keeps.ite ?_ ?_
      · refine Keeps.step raise_keeps rfl ?_
        exact Keeps.step upd_store rfl ‹_›
      · assumption
    clear_value x13
    clear_value x5 x6 x9 x11 x12
    refine Keeps.foldl ?_ (fun t18 x19 k20 => ?_)
    · assumption
    · extract_lets x21 x22 x23
      have k24 : Keeps 9379913 s x23 := by
        unfold x23
        exact Keeps.step upd_store rfl ‹_›
      clear_value x23
      clear_value x21 x22
      refine Keeps.ite ?_ ?_
      · exact Keeps.step persist_keeps rfl ‹_›
      · assumption

theorem execNamespaceDeleteComplete_keeps {a0 s} : KeepsR 10465353 s (execNamespaceDeleteComplete a0 s) := by
  unfold execNamespaceDeleteComplete
  refine KeepsR.next ?_
  split
  · rename_i y0 y1 y2 y3 y4 y5
    extract_lets x6 x7 x8 x9
    have k10 : Keeps 10465353 s x9 := by
      unfold x9
      exact Keeps.widen upd_nvm rfl
    clear_value x9
    clear_value x6 x7 x8
    refine Keeps.ite ?_ ?_
    · exact Keeps.refl _ _
    · refine Keeps.trans ?_ (requestRecord_keeps (M := 10465353) rfl ?_ ?_)
      · assumption
      · intro v11
        exact Keeps.widen nsRelease_keeps rfl
      · intro v12
        exact Keeps.widen finish_keeps rfl
  · rename_i y13 y14 y15
    exact Keeps.refl _ _

theorem nsFree_keeps {a0 s} : Keeps 274505 s (nsFree a0 s) := by
  unfold nsFree
  refine Keeps.step raise_keeps rfl ?_
  exact Keeps.widen upd_nvm_store rfl

theorem execParcelReleased_keeps {a0 s} : KeepsR 372809 s (execParcelReleased a0 s) := by
  unfold execParcelReleased
  refine KeepsR.next ?_
  extract_lets x0 x1 x2 x3
  have k4 : Keeps 372809 s x3 := by
    unfold x3
    refine Keeps.step setEnt_keeps rfl ?_
    exact Keeps.widen upd_store rfl
  clear_value x3
  clear_value x0 x1 x2
  split
  · rename_i y5 y6
    exact Keeps.refl _ _
  · rename_i y7 y8 y9 y10
    refine Keeps.ite ?_ ?_
    · exact Keeps.refl _ _
    · split
      · rename_i y11 y12
        assumption
      · rename_i y13 y14 y15
        refine Keeps.ite ?_ ?_
        · assumption
        · refine Keeps.trans ?_ (requestRecord_keeps (M := 372809) rfl ?_ ?_)
          · assumption
          · intro v16
            exact Keeps.widen nsFree_keeps rfl
          · intro v17
            exact Keeps.refl _ _

theorem hostRecords_keeps {a0 a1 a2 a3 a4 s} {M : Nat} (hM : 1413193 ||| M = M)
    (hf3 : ∀ v0 v1, Keeps M v1 (a3 v0 v1)) : Keeps M s (hostRecords a0 a1 a2 a3 a4 s) := by
  induction a4 generalizing s with
  | nil =>
    unfold hostRecords
    exact Keeps.widen finish_keeps (orSub hM rfl)
  | cons h hs ih =>
    cases hs with
    | nil =>
      unfold hostRecords
      refine requestRecord_keeps (M := M) (orSub hM rfl) (hf3 h) ?_
      intro t
      exact Keeps.widen finish_keeps (orSub hM rfl)
    | cons h2 hs =>
      unfold hostRecords
      refine Keeps.trans ?_ ih
      exact requestRecord_keeps (M := M) (orSub hM rfl) (hf3 h) fun t => Keeps.refl _ _

theorem adminCtx_keeps {a0 a1 a2 a3 a4 s} : Keeps 4096 s (adminCtx a0 a1 a2 a3 a4 s).2 := by
  unfold adminCtx
  exact Keeps.widen newCtx_keeps rfl

theorem nsAttach_keeps {a0 a1 s} : Keeps 4096 s (nsAttach a0 a1 s) := by
  unfold nsAttach
  exact Keeps.widen modNs_keeps rfl

theorem execNamespaceAttach_keeps {a0 a1 a2 a3 s} : KeepsR 1413193 s (execNamespaceAttach a0 a1 a2 a3 s) := by
  unfold execNamespaceAttach
  refine KeepsR.next ?_
  split
  · rename_i y0 y1
    exact Keeps.refl _ _
  · rename_i y2 y3 y4
    refine Keeps.ite ?_ ?_
    · exact Keeps.widen adminDone_keeps rfl
    · split
      · rename_i y5 y6 y7
        exact Keeps.widen adminDone_keeps rfl
      · rename_i y8 y9 y10 y11
        exact Keeps.widen adminDone_keeps rfl
      · rename_i y12 y13 y14 y15 y16 y17
        split
        · rename_i y18 y19
          exact Keeps.refl _ _
        · rename_i y20 y21 y22
          refine Keeps.ite ?_ ?_
          · exact Keeps.widen adminDone_keeps rfl
          · refine Keeps.ite ?_ ?_
            · exact Keeps.widen adminDone_keeps rfl
            · split
              · rename_i y23 y24 y25 y26
                have k27 : Keeps 1413193 s y25 := by
                  refine Keeps.ofSnd y26 ?_
                  exact Keeps.widen adminCtx_keeps rfl
                refine Keeps.trans ?_ (hostRecords_keeps (M := 1413193) rfl ?_)
                · assumption
                · intro v28 v29
                  exact Keeps.widen nsAttach_keeps rfl

theorem nsDetach_keeps {a0 a1 s} : Keeps 1052680 s (nsDetach a0 a1 s) := by
  unfold nsDetach
  split
  · rename_i y0 y1
    exact Keeps.refl _ _
  · rename_i y2 y3 y4
    refine Keeps.step noticeHost_keeps rfl ?_
    exact Keeps.widen setNs_keeps rfl

theorem execNamespaceDetach_keeps {a0 a1 a2 a3 s} : KeepsR 1413193 s (execNamespaceDetach a0 a1 a2 a3 s) := by
  unfold execNamespaceDetach
  refine KeepsR.next ?_
  split
  · rename_i y0 y1
    exact Keeps.refl _ _
  · rename_i y2 y3 y4
    refine Keeps.ite ?_ ?_
    · exact Keeps.widen adminDone_keeps rfl
    · split
      · rename_i y5 y6 y7
        exact Keeps.widen adminDone_keeps rfl
      · rename_i y8 y9 y10 y11
        exact Keeps.widen adminDone_keeps rfl
      · rename_i y12 y13 y14 y15 y16 y17
        split
        · rename_i y18 y19
          exact Keeps.refl _ _
        · rename_i y20 y21 y22
          refine Keeps.ite ?_ ?_
          · exact Keeps.widen adminDone_keeps rfl
          · split
            · rename_i y23 y24 y25 y26
              have k27 : Keeps 1413193 s y25 := by
                refine Keeps.ofSnd y26 ?_
                exact Keeps.widen adminCtx_keeps rfl
              refine Keeps.trans ?_ (hostRecords_keeps (M := 1413193) rfl ?_)
              · assumption
              · intro v28 v29
                exact Keeps.widen nsDetach_keeps rfl

theorem execIdentify_keeps {a0 a1 a2 a3 s} : KeepsR 1310793 s (execIdentify a0 a1 a2 a3 s) := by
  unfold execIdentify
  refine KeepsR.next ?_
  split
  · rename_i y0 y1
    exact Keeps.refl _ _
  · rename_i y2 y3 y4
    refine Keeps.ite ?_ ?_
    · refine Keeps.step adminDone_keeps rfl ?_
      exact Keeps.widen drive_keeps rfl
    · refine Keeps.ite ?_ ?_
      · split
        · rename_i y5 y6
          exact Keeps.widen adminDone_keeps rfl
        · rename_i y7 y8 y9
          split
          · rename_i y10 y11
            exact Keeps.refl _ _
          · rename_i y12 y13 y14
            extract_lets x15
            clear_value x15
            refine Keeps.step adminDone_keeps rfl ?_
            exact Keeps.widen drive_keeps rfl
      · exact Keeps.widen adminDone_keeps rfl

theorem execRead_keeps {a0 a1 a2 a3 a4 a5 a6 s} : KeepsR 14676057 s (execRead a0 a1 a2 a3 a4 a5 a6 s) := by
  unfold execRead
  refine KeepsR.next ?_
  refine Keeps.ite ?_ ?_
  · exact Keeps.widen submit_keeps rfl
  · refine Keeps.ite ?_ ?_
    · exact Keeps.widen submit_keeps rfl
    · exact Keeps.refl _ _

theorem execWrite_keeps {a0 a1 a2 a3 a4 a5 s} : KeepsR 14676057 s (execWrite a0 a1 a2 a3 a4 a5 s) := by
  unfold execWrite
  refine KeepsR.next ?_
  exact Keeps.widen submit_keeps rfl

theorem execWriteZeroes_keeps {a0 a1 a2 a3 a4 s} : KeepsR 14676057 s (execWriteZeroes a0 a1 a2 a3 a4 s) := by
  unfold execWriteZeroes
  refine KeepsR.next ?_
  exact Keeps.widen submit_keeps rfl

theorem execDatasetManagement_keeps {a0 a1 a2 a3 a4 s} : KeepsR 14676057 s (execDatasetManagement a0 a1 a2 a3 a4 s) := by
  unfold execDatasetManagement
  refine KeepsR.next ?_
  exact Keeps.widen submit_keeps rfl

theorem execFlush_keeps {a0 a1 a2 s} : KeepsR 14676057 s (execFlush a0 a1 a2 s) := by
  unfold execFlush
  refine KeepsR.next ?_
  exact Keeps.widen submit_keeps rfl

theorem execReservationRegister_keeps {a0 a1 a2 a3 a4 a5 a6 s} : KeepsR 14676057 s (execReservationRegister a0 a1 a2 a3 a4 a5 a6 s) := by
  unfold execReservationRegister
  refine KeepsR.next ?_
  exact Keeps.widen submit_keeps rfl

theorem execReservationAcquire_keeps {a0 a1 a2 a3 a4 a5 a6 a7 s} : KeepsR 14676057 s (execReservationAcquire a0 a1 a2 a3 a4 a5 a6 a7 s) := by
  unfold execReservationAcquire
  refine KeepsR.next ?_
  exact Keeps.widen submit_keeps rfl

theorem execReservationRelease_keeps {a0 a1 a2 a3 a4 a5 a6 s} : KeepsR 14676057 s (execReservationRelease a0 a1 a2 a3 a4 a5 a6 s) := by
  unfold execReservationRelease
  refine KeepsR.next ?_
  exact Keeps.widen submit_keeps rfl

theorem execReservationReport_keeps {a0 a1 a2 s} : KeepsR 14676057 s (execReservationReport a0 a1 a2 s) := by
  unfold execReservationReport
  refine KeepsR.next ?_
  exact Keeps.widen submit_keeps rfl

theorem execStakeConditionedWrite_keeps {a0 a1 a2 a3 a4 a5 a6 s} : KeepsR 14676057 s (execStakeConditionedWrite a0 a1 a2 a3 a4 a5 a6 s) := by
  unfold execStakeConditionedWrite
  refine KeepsR.next ?_
  exact Keeps.widen submit_keeps rfl

theorem execContextFreed_keeps {s} : KeepsR 14676057 s (execContextFreed s) := by
  unfold execContextFreed
  refine KeepsR.next ?_
  refine Keeps.step admitForwarded_keeps rfl ?_
  exact Keeps.widen admitNext_keeps rfl

end Sys2Proof.Machine
end

