-- ==== Sys2Proof/Laws/KeepsTraverse.lean ====
section
/-!
SUPPORT. Laws/KeepsTraverse.lean: which units of the state each operation of Machine/Traverse.lean may change: one `Keeps` lemma each.
-/
namespace Sys2Proof.Machine

theorem stampAll_keeps {a0 a1 s} : KeepsOP 102409 s (stampAll a0 a1 s) := by
  induction a0 generalizing a1 s with
  | nil =>
    intro a t h
    cases h
    exact Keeps.refl _ _
  | cons sl sls ih =>
    intro a t h
    unfold stampAll at h
    split at h
    · cases h
    · rename_i x s1 heq
      have k : Keeps 102409 s s1 := Keeps.ofSnd heq stamp_keeps
      exact Keeps.trans k (ih a t h)

theorem execTraverse_keeps {a0 a1 a2 a3 a4 a5 a6 s} : KeepsR 14676057 s (execTraverse a0 a1 a2 a3 a4 a5 a6 s) := by
  unfold execTraverse
  refine KeepsR.next ?_
  exact Keeps.widen submit_keeps rfl

theorem execTraverseTableCheck_keeps {a0 a1 s} : KeepsR 9957449 s (execTraverseTableCheck a0 a1 s) := by
  unfold execTraverseTableCheck
  refine KeepsR.next ?_
  refine Keeps.step travTable_keeps rfl ?_
  split
  · rename_i y0 y1
    exact Keeps.refl _ _
  · rename_i y2 y3 y4
    exact Keeps.widen epArrived_keeps rfl

theorem execTraverseStaged_keeps {a0 s} : KeepsR 118793 s (execTraverseStaged a0 s) := by
  unfold execTraverseStaged
  refine KeepsR.next ?_
  split
  · rename_i y0 y1
    exact Keeps.refl _ _
  · rename_i y2 y3 y4
    extract_lets x5 x6 x7 x8
    have k9 : Keeps 118793 s x7 := by
      unfold x7
      refine Keeps.foldl ?_ (fun t10 x11 k12 => ?_)
      · exact Keeps.refl _ _
      · exact Keeps.step modNs_keeps rfl ‹_›
    clear_value x7
    have k13 : Keeps 118793 s x8 := by
      unfold x8
      refine Keeps.step bump_keeps rfl ?_
      exact Keeps.step setTrav_keeps rfl ‹_›
    clear_value x8
    clear_value x5 x6
    refine Keeps.ite ?_ ?_
    · exact Keeps.refl _ _
    · refine Keeps.ite ?_ ?_
      · split
        · rename_i y14 y15
          exact Keeps.refl _ _
        · rename_i y16 y17 y18 y19
          have k20 : Keeps 118793 s y18 := by
            refine Keeps.ofSomeP y19 ?_
            refine Keeps.stepOP stampAll_keeps rfl ?_
            exact Keeps.refl _ _
          exact Keeps.step setTrav_keeps rfl ‹_›
      · exact Keeps.step zsend_keeps rfl ‹_›

theorem xstampAnswer_keeps {a0 a1 a2 s} : Keeps 9957449 s (xstampAnswer a0 a1 a2 s) := by
  unfold xstampAnswer
  split
  · rename_i y0 y1
    exact Keeps.refl _ _
  · rename_i y2 y3 y4
    refine Keeps.ite ?_ ?_
    · exact Keeps.refl _ _
    · extract_lets x5 x6
      have k7 : Keeps 9957449 s x5 := by
        unfold x5
        refine Keeps.step wr_keeps rfl ?_
        exact Keeps.widen travUnhold_keeps rfl
      clear_value x5
      clear_value x6
      refine Keeps.ite ?_ ?_
      · exact Keeps.step travAbandon_keeps rfl ‹_›
      · split
        · rename_i y8 y9
          exact Keeps.step travAbandon_keeps rfl ‹_›
        · rename_i y10 y11 y12 y13
          have k14 : Keeps 9957449 s y12 := by
            refine Keeps.ofSomeP y13 ?_
            refine Keeps.stepOP stampAll_keeps rfl ?_
            assumption
          exact Keeps.step setTrav_keeps rfl ‹_›

theorem execTraverseStageTimeout_keeps {a0 s} : KeepsR 9957449 s (execTraverseStageTimeout a0 s) := by
  unfold execTraverseStageTimeout
  refine KeepsR.next ?_
  split
  · rename_i y0 y1
    exact Keeps.refl _ _
  · rename_i y2 y3 y4
    refine Keeps.ite ?_ ?_
    · exact Keeps.widen travAbandon_keeps rfl
    · exact Keeps.refl _ _

theorem execXstampTimeout_keeps {a0 s} : KeepsR 9957449 s (execXstampTimeout a0 s) := by
  unfold execXstampTimeout
  refine KeepsR.next ?_
  split
  · rename_i y0 y1
    exact Keeps.refl _ _
  · rename_i y2 y3 y4
    refine Keeps.ite ?_ ?_
    · exact Keeps.refl _ _
    · extract_lets x5
      have k6 : Keeps 9957449 s x5 := by
        unfold x5
        exact Keeps.widen wr_keeps rfl
      clear_value x5
      refine Keeps.step travAbandon_keeps rfl ?_
      exact Keeps.step raise_keeps rfl ‹_›

theorem execTraverseCheck_keeps {a0 a1 s} : KeepsR 9957449 s (execTraverseCheck a0 a1 s) := by
  unfold execTraverseCheck
  refine KeepsR.next ?_
  split
  · rename_i y0 y1
    exact Keeps.refl _ _
  · rename_i y2 y3 y4
    extract_lets x5
    clear_value x5
    refine Keeps.ite ?_ ?_
    · exact Keeps.refl _ _
    · split
      · rename_i y6 y7 y8
        exact Keeps.widen travClose_keeps rfl
      · rename_i y9 y10 y11 y12 y13 y14
        exact Keeps.widen travFail_keeps rfl
      · rename_i y15 y16 y17 y18 y19 y20
        exact Keeps.widen travFail_keeps rfl
      · rename_i y21 y22 y23 y24 y25
        split
        · rename_i y26 y27 y28 y29 y30
          exact Keeps.widen travFail_keeps rfl

theorem execTraverseClosure_keeps {a0 s} : KeepsR 14676057 s (execTraverseClosure a0 s) := by
  unfold execTraverseClosure
  refine KeepsR.next ?_
  refine Keeps.ite ?_ ?_
  · exact Keeps.refl _ _
  · exact Keeps.widen travCommit_keeps rfl

theorem lookupOp_keeps {a0 a1 s} : Keeps 1 s (lookupOp a0 a1 s) := by
  unfold lookupOp
  extract_lets x0 x1 x2 x3
  have k4 : Keeps 1 s x0 := by
    unfold x0
    exact Keeps.widen wr_keeps rfl
  clear_value x0
  clear_value x1 x2 x3
  split
  · rename_i y5 y6 y7
    exact Keeps.step wr_keeps rfl ‹_›
  · rename_i y8 y9
    exact Keeps.step wr_keeps rfl ‹_›

theorem execTraverseLookup_keeps {a0 a1 s} : KeepsR 1 s (execTraverseLookup a0 a1 s) := by
  unfold execTraverseLookup
  refine KeepsR.next ?_
  refine Keeps.trans ?_ (cmdWrite_keeps (M := 1) rfl ?_)
  · exact Keeps.refl _ _
  · intro v0
    exact Keeps.widen lookupOp_keeps rfl

end Sys2Proof.Machine
end

