-- ==== Sys2Proof/Laws/KeepsPairOps.lean ====
section
/-!
SUPPORT. Laws/KeepsPairOps.lean: which units of the state each operation of Machine/PairOps.lean may change: one `Keeps` lemma each.
-/
namespace Sys2Proof.Machine

theorem admitAll_keeps {s} : Keeps 14676057 s (admitAll s) := by
  unfold admitAll
  extract_lets x0
  have k1 : Keeps 14676057 s x0 := by
    unfold x0
    exact Keeps.widen admitForwarded_keeps rfl
  clear_value x0
  refine Keeps.foldl ?_ (fun t2 x3 k4 => ?_)
  · assumption
  · exact Keeps.step admitNext_keeps rfl ‹_›

theorem setPairState_keeps {a0 s} : Keeps 294985 s (setPairState a0 s) := by
  unfold setPairState
  refine Keeps.ite ?_ ?_
  · exact Keeps.refl _ _
  · refine Keeps.step raise_keeps rfl ?_
    exact Keeps.widen upd_pair rfl

theorem preemptStart_keeps {a0 s} : Keeps 8429576 s (preemptStart a0 s) := by
  unfold preemptStart
  refine Keeps.foldl ?_ (fun t0 x1 k2 => ?_)
  · exact Keeps.widen upd_pair rfl
  · exact Keeps.step issueOp_keeps rfl ‹_›

theorem moveBegin_keeps {a0 a1 s} : Keeps 1085448 s (moveBegin a0 a1 s) := by
  unfold moveBegin
  refine Keeps.step anaNotice_keeps rfl ?_
  refine Keeps.step modNs_keeps rfl ?_
  exact Keeps.widen upd_pair rfl

theorem moveEnd_keeps {a0 a1 s} : Keeps 1347657 s (moveEnd a0 a1 s) := by
  unfold moveEnd
  extract_lets x0 x1 x2
  have k3 : Keeps 1347657 s x1 := by
    unfold x1
    refine Keeps.step modNs_keeps rfl ?_
    exact Keeps.widen upd_pair rfl
  clear_value x1
  have k4 : Keeps 1347657 s x2 := by
    unfold x2
    refine Keeps.step raise_keeps rfl ?_
    exact Keeps.step bump_keeps rfl ‹_›
  clear_value x2
  clear_value x0
  exact Keeps.step anaNotice_keeps rfl ‹_›

theorem moveStart_keeps {a0 s} : Keeps 1150985 s (moveStart a0 s) := by
  unfold moveStart
  split
  · rename_i y0 y1
    exact Keeps.refl _ _
  · rename_i y2 y3 y4
    extract_lets x5
    clear_value x5
    refine Keeps.trans ?_ (requestRecord_keeps (M := 1150985) rfl ?_ ?_)
    · exact Keeps.refl _ _
    · intro v6
      exact Keeps.widen moveBegin_keeps rfl
    · intro v7
      exact Keeps.refl _ _

theorem nextMove_keeps {s} : Keeps 1150985 s (nextMove s) := by
  unfold nextMove
  split
  · rename_i y0 y1
    exact Keeps.refl _ _
  · rename_i y2 y3 y4 y5
    extract_lets x6 x7
    have k8 : Keeps 1150985 s x7 := by
      unfold x7
      exact Keeps.widen upd_pair rfl
    refine Keeps.ite ?_ ?_
    · exact Keeps.step moveStart_keeps rfl ‹_›
    · assumption

theorem winPut_keeps {a0 a1 s} : Keeps 131072 s (winPut a0 a1 s) := by
  unfold winPut
  exact Keeps.widen upd_win rfl

theorem keyPut_keeps {a0 a1 s} : Keeps 131072 s (keyPut a0 a1 s) := by
  unfold keyPut
  exact Keeps.widen upd_win rfl

theorem applyRecord_keeps {a0 s} : Keeps 14678233 s (applyRecord a0 s) := by
  unfold applyRecord
  split
  · rename_i y0 y1 y2 y3 y4
    exact Keeps.widen nsActivate_keeps rfl
  · rename_i y5 y6
    exact Keeps.widen nsDeleting_keeps rfl
  · rename_i y7 y8
    exact Keeps.widen nsFree_keeps rfl
  · rename_i y9 y10 y11
    exact Keeps.widen nsAttach_keeps rfl
  · rename_i y12 y13 y14
    exact Keeps.widen nsDetach_keeps rfl
  · rename_i y15 y16 y17
    exact Keeps.widen modNs_keeps rfl
  · rename_i y18 y19 y20
    refine Keeps.step raise_keeps rfl ?_
    exact Keeps.widen winPut_keeps rfl
  · rename_i y21 y22
    refine Keeps.step unbindBegin_keeps rfl ?_
    refine Keeps.step raise_keeps rfl ?_
    exact Keeps.widen winPut_keeps rfl
  · rename_i y23 y24
    refine Keeps.step chainCheck_keeps rfl ?_
    refine Keeps.step raise_keeps rfl ?_
    exact Keeps.widen winPut_keeps rfl
  · rename_i y25 y26 y27
    refine Keeps.step keysFull_keeps rfl ?_
    exact Keeps.widen keyPut_keeps rfl
  · rename_i y28 y29
    exact Keeps.widen keyPut_keeps rfl
  · rename_i y30 y31
    exact Keeps.widen keyFreed_keeps rfl
  · rename_i y32 y33 y34 y35 y36
    refine Keeps.ite ?_ ?_
    · exact Keeps.widen nsRelease_keeps rfl
    · exact Keeps.widen rollNow_keeps rfl
  · rename_i y37 y38 y39 y40 y41 y42
    exact Keeps.widen keyImport_keeps rfl
  · rename_i y43 y44 y45
    exact Keeps.widen keyRetire_keeps rfl
  · rename_i y46 y47 y48
    refine Keeps.ite ?_ ?_
    · exact Keeps.widen startRebuild_keeps rfl
    · refine Keeps.ite ?_ ?_
      · exact Keeps.widen setMember_keeps rfl
      · refine Keeps.ite ?_ ?_
        · exact Keeps.widen upd_store rfl
        · exact Keeps.widen startRestore_keeps rfl
  · rename_i y49 y50 y51 y52 y53 y54
    refine Keeps.ite ?_ ?_
    · exact Keeps.widen reshapeBegin_keeps rfl
    · refine Keeps.ite ?_ ?_
      · exact Keeps.widen reshapeSuspend_keeps rfl
      · refine Keeps.ite ?_ ?_
        · exact Keeps.widen reshapeResume_keeps rfl
        · exact Keeps.widen formSet_keeps rfl
  · rename_i y55 y56 y57
    exact Keeps.widen bayRecord_keeps rfl
  · rename_i y58 y59
    extract_lets x60 x61 x62
    clear_value x60 x61 x62
    refine Keeps.step bayClosure_keeps rfl ?_
    exact Keeps.widen upd_datum rfl
  · rename_i y63 y64 y65
    exact Keeps.widen moveBegin_keeps rfl

theorem runCont_keeps {a0 s} : Keeps 9957577 s (runCont a0 s) := by
  unfold runCont
  split
  · rename_i y0
    exact Keeps.refl _ _
  · rename_i y1 y2 y3 y4
    refine Keeps.step pinReaders_keeps rfl ?_
    exact Keeps.widen finish_keeps rfl
  · rename_i y5
    exact Keeps.widen memberResult_keeps rfl
  · rename_i y6
    exact Keeps.widen upd_datum rfl
  · rename_i y7 y8
    exact Keeps.refl _ _
  · rename_i y9 y10
    exact Keeps.widen upd_win rfl

theorem recordsAlone_keeps {s} : Keeps 14678233 s (recordsAlone s) := by
  unfold recordsAlone
  refine Keeps.foldl ?_ (fun t0 x1 k2 => ?_)
  · exact Keeps.widen upd_pair rfl
  · refine Keeps.step runCont_keeps rfl ?_
    refine Keeps.ite ?_ ?_
    · exact Keeps.step applyRecord_keeps rfl ‹_›
    · assumption

theorem takeMirror_keeps {a0 s} : Keeps 13492313 s (takeMirror a0 s) := by
  unfold takeMirror
  extract_lets x0 x1 x2
  have k3 : Keeps 13492313 s x2 := by
    unfold x2
    exact Keeps.widen upd_store rfl
  clear_value x2
  clear_value x0 x1
  refine Keeps.foldl ?_ (fun t4 x5 k6 => ?_)
  · assumption
  · split
    · rename_i y7 y8 y9
      refine Keeps.ite ?_ ?_
      · assumption
      · exact Keeps.step landForced_keeps rfl ‹_›
    · rename_i y10 y11
      exact Keeps.step landForced_keeps rfl ‹_›

theorem reexecute_keeps {a0 s} : Keeps 14676057 s (reexecute a0 s) := by
  unfold reexecute
  split
  · rename_i y0 y1
    exact Keeps.refl _ _
  · rename_i y2 y3 y4
    extract_lets x5 x6 x7 x8 x9 x10 x11 x12 x13 x14 x15
    have k16 : Keeps 14676057 s x8 := by
      unfold x8
      exact Keeps.widen upd_nvm rfl
    clear_value x8
    clear_value x5 x6 x7 x9 x10 x11 x12 x13 x14 x15
    split
    · rename_i y17 y18
      refine Keeps.step modCtx_keeps rfl ?_
      exact Keeps.widen upd_win rfl
    · rename_i y19 y20
      split
      · rename_i y21 y22 y23
        have k24 : Keeps 14676057 s y22 := by
          refine Keeps.ofSome y23 ?_
          refine Keeps.stepO parse_keeps rfl ?_
          assumption
        refine Keeps.foldl ?_ (fun t25 x26 k27 => ?_)
        · assumption
        · exact Keeps.step placeBlock_keeps rfl ‹_›
      · rename_i y28 y29
        exact Keeps.step upd_nvm rfl ‹_›

theorem mirrorsOver_keeps {s} : Keeps 14676057 s (mirrorsOver s) := by
  unfold mirrorsOver
  extract_lets x0 x1 x2 x3 x4 x5
  have k6 : Keeps 14676057 s x3 := by
    unfold x3
    exact Keeps.widen upd_trav_pair rfl
  clear_value x3
  have k7 : Keeps 14676057 s x4 := by
    unfold x4
    exact Keeps.step winAcked_keeps rfl ‹_›
  clear_value x4
  have k8 : Keeps 14676057 s x5 := by
    unfold x5
    refine Keeps.foldl ?_ (fun t9 x10 k11 => ?_)
    · assumption
    · extract_lets x12
      clear_value x12
      refine Keeps.step tryComplete_keeps rfl ?_
      exact Keeps.step modCtx_keeps rfl ‹_›
  clear_value x5
  clear_value x0 x1 x2
  refine Keeps.foldl ?_ (fun t13 x14 k15 => ?_)
  · assumption
  · exact Keeps.step travCommit_keeps rfl ‹_›

theorem travPartnerLost_keeps {s} : Keeps 9957449 s (travPartnerLost s) := by
  unfold travPartnerLost
  extract_lets x0 x1 x2
  have k3 : Keeps 9957449 s x1 := by
    unfold x1
    refine Keeps.foldl ?_ (fun t4 x5 k6 => ?_)
    · exact Keeps.refl _ _
    · exact Keeps.step travAbandon_keeps rfl ‹_›
  clear_value x1
  clear_value x0 x2
  exact Keeps.step upd_trav rfl ‹_›

theorem takeAll_keeps {s} : Keeps 36864 s (takeAll s) := by
  unfold takeAll
  exact Keeps.widen upd_nvm_pair rfl

theorem zebClear_keeps {s} : Keeps 65536 s (zebClear s) := by
  unfold zebClear
  exact Keeps.widen upd_zeb rfl

theorem windowsAlone_keeps {s} : Keeps 13627481 s (windowsAlone s) := by
  unfold windowsAlone
  extract_lets x0 x1
  have k2 : Keeps 13627481 s x1 := by
    unfold x1
    exact Keeps.widen upd_win rfl
  clear_value x1
  clear_value x0
  refine Keeps.foldl ?_ (fun t3 x4 k5 => ?_)
  · assumption
  · exact Keeps.step unbindBegin_keeps rfl ‹_›

theorem partnerLost_keeps {a0 s} : Keeps 14678233 s (partnerLost a0 s) := by
  unfold partnerLost
  extract_lets x0 x1 x2 x3 x4 x5 x6 x7 x8 x9 x10 x11 x12 x13 x14 x15 x16 x17 x18
  have k19 : Keeps 14678233 s x1 := by
    unfold x1
    exact Keeps.widen travPartnerLost_keeps rfl
  clear_value x1
  have k20 : Keeps 14678233 s x3 := by
    unfold x3
    refine Keeps.step bump_keeps rfl ?_
    refine Keeps.step setPairState_keeps rfl ?_
    exact Keeps.step upd_pair rfl ‹_›
  clear_value x3
  have k21 : Keeps 14678233 s x4 := by
    unfold x4
    exact Keeps.step raise_keeps rfl ‹_›
  clear_value x4
  have k22 : Keeps 14678233 s x6 := by
    unfold x6
    refine Keeps.step takeAll_keeps rfl ?_
    refine Keeps.step zebClear_keeps rfl ?_
    exact Keeps.step upd_vault rfl ‹_›
  clear_value x6
  have k23 : Keeps 14678233 s x7 := by
    unfold x7
    refine Keeps.foldl ?_ (fun t24 x25 k26 => ?_)
    · assumption
    · refine Keeps.foldl ?_ (fun t27 x28 k29 => ?_)
      · assumption
      · extract_lets x30 x31
        clear_value x30
        refine Keeps.ite ?_ ?_
        · assumption
        · exact Keeps.step persistNow_keeps rfl ‹_›
  clear_value x7
  have k32 : Keeps 14678233 s x8 := by
    unfold x8
    exact Keeps.step takeMirror_keeps rfl ‹_›
  clear_value x8
  have k33 : Keeps 14678233 s x10 := by
    unfold x10
    exact Keeps.step upd_nvm rfl ‹_›
  clear_value x10
  have k34 : Keeps 14678233 s x11 := by
    unfold x11
    refine Keeps.step windowsAlone_keeps rfl ?_
    refine Keeps.step mirrorsOver_keeps rfl ?_
    exact Keeps.step limitEval_keeps rfl ‹_›
  clear_value x11
  have k35 : Keeps 14678233 s x12 := by
    unfold x12
    refine Keeps.foldl ?_ (fun t36 x37 k38 => ?_)
    · exact Keeps.step recordsAlone_keeps rfl ‹_›
    · exact Keeps.step reexecute_keeps rfl ‹_›
  clear_value x12
  have k39 : Keeps 14678233 s x15 := by
    unfold x15
    exact Keeps.step upd_win rfl ‹_›
  clear_value x15
  have k40 : Keeps 14678233 s x16 := by
    unfold x16
    refine Keeps.foldl ?_ (fun t41 x42 k43 => ?_)
    · assumption
    · split
      · rename_i y44 y45 y46
        have k47 : Keeps 14678233 s y45 := by
          refine Keeps.ofSnd y46 ?_
          exact Keeps.step accTry_keeps rfl ‹_›
        refine Keeps.ite ?_ ?_
        · assumption
        · exact Keeps.step qpExecuted_keeps rfl ‹_›
      · rename_i y48 y49 y50
        have k51 : Keeps 14678233 s y49 := by
          refine Keeps.ofSnd y50 ?_
          exact Keeps.step accTry_keeps rfl ‹_›
        assumption
  clear_value x16
  have k52 : Keeps 14678233 s x17 := by
    unfold x17
    refine Keeps.foldl ?_ (fun t53 x54 k55 => ?_)
    · assumption
    · exact Keeps.step memberDepart_keeps rfl ‹_›
  clear_value x17
  have k56 : Keeps 14678233 s x18 := by
    unfold x18
    refine Keeps.foldl ?_ (fun t57 x58 k59 => ?_)
    · assumption
    · exact Keeps.step anaNotice_keeps rfl ‹_›
  clear_value x18
  clear_value x0 x2 x5 x9 x13 x14
  refine Keeps.step admitAll_keeps rfl ?_
  refine Keeps.step pinReaders_keeps rfl ?_
  exact Keeps.step limitEval_keeps rfl ‹_›

theorem fenced_keeps {a0 a1 s} : Keeps 14679513 s (fenced a0 a1 s) := by
  unfold fenced
  extract_lets x0 x1 x2 x3
  have k4 : Keeps 14679513 s x1 := by
    unfold x1
    refine Keeps.step setPairState_keeps rfl ?_
    exact Keeps.widen upd_pair rfl
  clear_value x1
  have k5 : Keeps 14679513 s x2 := by
    unfold x2
    exact Keeps.step fatalEvent_keeps rfl ‹_›
  clear_value x2
  have k6 : Keeps 14679513 s x3 := by
    unfold x3
    refine Keeps.step xportEnd_keeps rfl ?_
    exact Keeps.step stopWork_keeps rfl ‹_›
  clear_value x3
  clear_value x0
  refine Keeps.foldl ?_ (fun t7 x8 k9 => ?_)
  · assumption
  · exact Keeps.step endAssociation_keeps rfl ‹_›

theorem arbitrate_keeps {s} : Keeps 8691785 s (arbitrate s) := by
  unfold arbitrate
  extract_lets x0 x1
  have k2 : Keeps 8691785 s x0 := by
    unfold x0
    refine Keeps.step raise_keeps rfl ?_
    refine Keeps.step bump_keeps rfl ?_
    exact Keeps.widen setPairState_keeps rfl
  clear_value x0
  clear_value x1
  refine Keeps.ite ?_ ?_
  · exact Keeps.step upd_pair rfl ‹_›
  · exact Keeps.step preemptStart_keeps rfl ‹_›

theorem joinAbort_keeps {s} : Keeps 14678105 s (joinAbort s) := by
  unfold joinAbort
  refine Keeps.ite ?_ ?_
  · exact Keeps.refl _ _
  · refine Keeps.ite ?_ ?_
    · extract_lets x0 x1 x2
      have k3 : Keeps 14678105 s x2 := by
        unfold x2
        refine Keeps.step bump_keeps rfl ?_
        refine Keeps.step setPairState_keeps rfl ?_
        exact Keeps.widen upd_vault_pair rfl
      clear_value x2
      clear_value x0 x1
      refine Keeps.step resumeDeferred_keeps rfl ?_
      refine Keeps.step mirrorsOver_keeps rfl ?_
      exact Keeps.step zebClear_keeps rfl ‹_›
    · refine Keeps.step zebClear_keeps rfl ?_
      refine Keeps.step setPairState_keeps rfl ?_
      exact Keeps.widen upd_store_trav_pair_win rfl

theorem judgeTimedOut_keeps {s} : Keeps 14679513 s (judgeTimedOut s) := by
  unfold judgeTimedOut
  refine Keeps.ite ?_ ?_
  · refine Keeps.ite ?_ ?_
    · exact Keeps.widen arbitrate_keeps rfl
    · refine Keeps.ite ?_ ?_
      · exact Keeps.widen fenced_keeps rfl
      · exact Keeps.widen partnerLost_keeps rfl
  · refine Keeps.ite ?_ ?_
    · exact Keeps.widen preemptStart_keeps rfl
    · exact Keeps.widen partnerLost_keeps rfl

theorem joinBegin_keeps {a0 s} : Keeps 14678105 s (joinBegin a0 s) := by
  unfold joinBegin
  extract_lets x0 x1 x2 x3 x4
  have k5 : Keeps 14678105 s x1 := by
    unfold x1
    refine Keeps.step setPairState_keeps rfl ?_
    exact Keeps.widen upd_pair rfl
  clear_value x1
  clear_value x0 x2 x3 x4
  refine Keeps.ite ?_ ?_
  · refine Keeps.step limitEval_keeps rfl ?_
    refine Keeps.step takeAll_keeps rfl ?_
    exact Keeps.step upd_vault rfl ‹_›
  · exact Keeps.step upd_nvm_store rfl ‹_›

theorem joinTry_keeps {s} : Keeps 14678105 s (joinTry s) := by
  unfold joinTry
  split
  · rename_i y0 y1
    exact Keeps.refl _ _
  · rename_i y2 y3 y4
    extract_lets x5 x6
    have k7 : Keeps 14678105 s x6 := by
      unfold x6
      exact Keeps.widen upd_pair rfl
    clear_value x6
    clear_value x5
    refine Keeps.ite ?_ ?_
    · exact Keeps.refl _ _
    · refine Keeps.ite ?_ ?_
      · exact Keeps.step joinBegin_keeps rfl ‹_›
      · refine Keeps.ite ?_ ?_
        · exact Keeps.step joinBegin_keeps rfl ‹_›
        · exact Keeps.refl _ _

theorem ctrlConflict_keeps {a0 s} : Keeps 14679513 s (ctrlConflict a0 s) := by
  unfold ctrlConflict
  refine Keeps.ite ?_ ?_
  · exact Keeps.refl _ _
  · refine Keeps.step allGatesOff_keeps rfl ?_
    refine Keeps.step fatalEvent_keeps rfl ?_
    exact Keeps.widen upd_pair rfl

theorem resyncCopy_keeps {s} : Keeps 102409 s (resyncCopy s) := by
  unfold resyncCopy
  extract_lets x0 x1 x2 x3 x4 x5 x6 x7 x8
  have k9 : ∀ a10 a11, Keeps 102409 a11 (x0 a10 a11) := by
    unfold x0
    intro v12 v13
    exact Keeps.widen zsend_keeps rfl
  clear_value x0
  have k14 : Keeps 102409 s x1 := by
    unfold x1
    refine Keeps.foldl ?_ (fun t15 x16 k17 => ?_)
    · exact Keeps.refl _ _
    · refine Keeps.ite ?_ ?_
      · refine Keeps.trans ?_ (k9 ..)
        assumption
      · assumption
  clear_value x1
  have k18 : Keeps 102409 s x2 := by
    unfold x2
    refine Keeps.foldl ?_ (fun t19 x20 k21 => ?_)
    · assumption
    · refine Keeps.foldl ?_ (fun t22 x23 k24 => ?_)
      · assumption
      · split
        · rename_i y25 y26
          assumption
        · rename_i y27 y28 y29
          split
          · rename_i y30 y31
            assumption
          · rename_i y32 y33 y34
            refine Keeps.trans ?_ (k9 ..)
            assumption
  clear_value x2
  have k35 : Keeps 102409 s x3 := by
    unfold x3
    refine Keeps.foldl ?_ (fun t36 x37 k38 => ?_)
    · assumption
    · refine Keeps.trans ?_ (k9 ..)
      assumption
  clear_value x3
  have k39 : Keeps 102409 s x4 := by
    unfold x4
    refine Keeps.foldl ?_ (fun t40 x41 k42 => ?_)
    · assumption
    · refine Keeps.trans ?_ (k9 ..)
      assumption
  clear_value x4
  have k43 : Keeps 102409 s x5 := by
    unfold x5
    refine Keeps.foldl ?_ (fun t44 x45 k46 => ?_)
    · assumption
    · refine Keeps.trans ?_ (k9 ..)
      assumption
  clear_value x5
  have k47 : Keeps 102409 s x6 := by
    unfold x6
    refine Keeps.foldl ?_ (fun t48 x49 k50 => ?_)
    · assumption
    · refine Keeps.trans ?_ (k9 ..)
      refine Keeps.trans ?_ (k9 ..)
      assumption
  clear_value x6
  have k51 : Keeps 102409 s x7 := by
    unfold x7
    refine Keeps.foldl ?_ (fun t52 x53 k54 => ?_)
    · assumption
    · refine Keeps.trans ?_ (k9 ..)
      assumption
  clear_value x7
  have k55 : Keeps 102409 s x8 := by
    unfold x8
    refine Keeps.foldl ?_ (fun t56 x57 k58 => ?_)
    · assumption
    · refine Keeps.trans ?_ (k9 ..)
      assumption
  clear_value x8
  refine Keeps.foldl ?_ (fun t59 x60 k61 => ?_)
  · assumption
  · extract_lets x62
    clear_value x62
    split
    · rename_i y63 y64 y65 y66
      have k67 : Keeps 102409 s y65 := by
        refine Keeps.ofSnd y66 ?_
        exact Keeps.step mseqSend_keeps rfl ‹_›
      exact Keeps.step modNs_keeps rfl ‹_›

theorem applyPut_keeps {a0 s} : Keeps 421961 s (applyPut a0 s) := by
  unfold applyPut
  split
  · rename_i y0 y1 y2 y3
    exact Keeps.widen upd_store rfl
  · rename_i y4 y5 y6
    exact Keeps.widen modNs_keeps rfl
  · rename_i y7 y8 y9
    refine Keeps.step chainCheck_keeps rfl ?_
    exact Keeps.widen winPut_keeps rfl
  · rename_i y10 y11 y12
    exact Keeps.widen keyPut_keeps rfl
  · rename_i y13 y14 y15 y16 y17
    extract_lets x18 x19
    clear_value x18 x19
    exact Keeps.widen upd_store rfl
  · rename_i y20 y21
    exact Keeps.widen outcomePut_keeps rfl
  · rename_i y22 y23 y24
    exact Keeps.widen upd_store rfl

theorem placeMirror_keeps {a0 a1 a2 a3 a4 a5 s} : Keeps 8192 s (placeMirror a0 a1 a2 a3 a4 a5 s) := by
  unfold placeMirror
  exact Keeps.widen upd_store rfl

theorem placeClosure_keeps {a0 a1 s} : Keeps 14676057 s (placeClosure a0 a1 s) := by
  unfold placeClosure
  extract_lets x0 x1 x2 x3 x4 x5 x6 x7 x8 x9
  have k10 : Keeps 14676057 s x4 := by
    unfold x4
    exact Keeps.widen upd_store rfl
  clear_value x4
  have k11 : Keeps 14676057 s x7 := by
    unfold x7
    refine Keeps.ite ?_ ?_
    · assumption
    · exact Keeps.step takeMirror_keeps rfl ‹_›
  clear_value x7
  clear_value x0 x1 x2 x3 x5 x6 x8 x9
  refine Keeps.step pinReaders_keeps rfl ?_
  exact Keeps.step upd_trav rfl ‹_›

theorem placeJournal_keeps {a0 s} : Keeps 14676057 s (placeJournal a0 s) := by
  unfold placeJournal
  split
  · rename_i y0 y1 y2
    exact Keeps.widen upd_store rfl
  · rename_i y3 y4 y5 y6 y7 y8 y9 y10 y11 y12 y13 y14 y15 y16
    exact Keeps.widen upd_store rfl
  · rename_i y17 y18 y19 y20 y21 y22 y23
    refine Keeps.step placeClosure_keeps rfl ?_
    exact Keeps.widen upd_store rfl
  · rename_i y24 y25 y26 y27
    exact Keeps.refl _ _

theorem applyClean_keeps {a0 s} : Keeps 9957449 s (applyClean a0 s) := by
  unfold applyClean
  split
  · rename_i y0 y1 y2
    exact Keeps.widen upd_store rfl
  · rename_i y3 y4
    extract_lets x5 x6 x7 x8
    have k9 : Keeps 9957449 s x6 := by
      unfold x6
      exact Keeps.widen upd_store rfl
    clear_value x6
    clear_value x5 x7 x8
    refine Keeps.step pinReaders_keeps rfl ?_
    exact Keeps.step upd_trav rfl ‹_›
  · rename_i y10 y11 y12
    exact Keeps.widen upd_store rfl

theorem vc1_keeps {a0 a1 s} {M : Nat} (hM : 98313 ||| M = M) (hf1 : ∀ v0, Keeps M v0 (a1 v0)) :
    Keeps M s (vc1 a0 a1 s) := by
  unfold vc1
  refine Keeps.ite ?_ ?_
  · exact Keeps.refl _ _
  · refine Keeps.step zsend_keeps (orSub hM rfl) ?_
    refine Keeps.trans ?_ (hf1 ..)
    exact Keeps.widen upd_pair (orSub hM rfl)

theorem zebRetrain_keeps {a0 s} : Keeps 327753 s (zebRetrain a0 s) := by
  unfold zebRetrain
  refine Keeps.ite ?_ ?_
  · exact Keeps.refl _ _
  · extract_lets x0 x1
    have k2 : Keeps 327753 s x1 := by
      unfold x1
      refine Keeps.step bump_keeps rfl ?_
      exact Keeps.widen upd_zeb rfl
    clear_value x1
    clear_value x0
    refine Keeps.ite ?_ ?_
    · assumption
    · exact Keeps.step raise_keeps rfl ‹_›

theorem zebLost_keeps {s} : Keeps 14678105 s (zebLost s) := by
  unfold zebLost
  refine Keeps.ite ?_ ?_
  · exact Keeps.refl _ _
  · refine Keeps.step joinAbort_keeps rfl ?_
    refine Keeps.step raise_keeps rfl ?_
    exact Keeps.widen upd_pair_zeb rfl

theorem zebReplay_keeps {a0 s} : Keeps 327753 s (zebReplay a0 s) := by
  unfold zebReplay
  extract_lets x0 x1 x2 x3 x4 x5
  have k6 : Keeps 327753 s x4 := by
    unfold x4
    refine Keeps.step bumpAt_keeps rfl ?_
    refine Keeps.step drive_keeps rfl ?_
    exact Keeps.widen upd_zeb rfl
  clear_value x4
  clear_value x0 x1 x2 x3 x5
  refine Keeps.ite ?_ ?_
  · refine Keeps.step zebRetrain_keeps rfl ?_
    exact Keeps.step upd_zeb rfl ‹_›
  · assumption

end Sys2Proof.Machine
end

