-- ==== Sys2Proof/Laws/KeepsTelemOps.lean ====
section
/-!
SUPPORT. Laws/KeepsTelemOps.lean: which units of the state each operation of Machine/TelemOps.lean may change: one `Keeps` lemma each.
-/
namespace Sys2Proof.Machine

theorem telDrop_keeps {a0 s} : Keeps 262217 s (telDrop a0 s) := by
  unfold telDrop
  refine Keeps.step raise_keeps rfl ?_
  exact Keeps.widen bumpAt_keeps rfl

theorem telWrite_keeps {a0 a1 a2 s} : Keeps 262217 s (telWrite a0 a1 a2 s) := by
  unfold telWrite
  extract_lets x0 x1 x2
  clear_value x0 x1 x2
  refine Keeps.ite ?_ ?_
  · exact Keeps.widen telDrop_keeps rfl
  · refine Keeps.ite ?_ ?_
    · refine Keeps.ite ?_ ?_
      · exact Keeps.widen drive_keeps rfl
      · exact Keeps.widen telDrop_keeps rfl
    · refine Keeps.ite ?_ ?_
      · exact Keeps.widen telDrop_keeps rfl
      · refine Keeps.step drive_keeps rfl ?_
        exact Keeps.widen upd_evt rfl

theorem qAdvance_keeps {a0 a1 s} : Keeps 72 s (qAdvance a0 a1 s) := by
  unfold qAdvance
  extract_lets x0
  clear_value x0
  refine Keeps.step updateEventN_keeps rfl ?_
  exact Keeps.widen setQueue_keeps rfl

theorem smHeartbeatOp_keeps {s} : Keeps 64 s (smHeartbeatOp s) := by
  unfold smHeartbeatOp
  exact Keeps.widen upd_evt rfl

theorem trHeadOp_keeps {a0 a1 s} : Keeps 64 s (trHeadOp a0 a1 s) := by
  unfold trHeadOp
  extract_lets x0 x1 x2
  clear_value x0 x1 x2
  exact Keeps.widen upd_evt rfl

theorem qHeadOp_keeps {a0 a1 s} : Keeps 73 s (qHeadOp a0 a1 s) := by
  unfold qHeadOp
  extract_lets x0 x1 x2 x3
  clear_value x0 x1 x2 x3
  refine Keeps.ite ?_ ?_
  · exact Keeps.widen qAdvance_keeps rfl
  · exact Keeps.widen errLast_keeps rfl

theorem evtForceOp_keeps {a0 a1 s} : Keeps 262217 s (evtForceOp a0 a1 s) := by
  unfold evtForceOp
  refine Keeps.foldl ?_ (fun t0 x1 k2 => ?_)
  · exact Keeps.refl _ _
  · refine Keeps.ite ?_ ?_
    · exact Keeps.step raiseForced_keeps rfl ‹_›
    · assumption

end Sys2Proof.Machine
end

