-- ==== Sys2Proof/Laws/KeepsNetOps.lean ====
section
/-!
SUPPORT. Laws/KeepsNetOps.lean: which units of the state each operation of Machine/NetOps.lean may change: one `Keeps` lemma each.
-/
namespace Sys2Proof.Machine

theorem setPp_keeps {a0 a1 s} : Keeps 2097152 s (setPp a0 a1 s) := by
  unfold setPp
  exact Keeps.widen upd_net rfl

theorem sendPfc_keeps {a0 a1 s} : Keeps 9 s (sendPfc a0 a1 s) := by
  unfold sendPfc
  refine Keeps.step drive_keeps rfl ?_
  exact Keeps.widen bumpAt_keeps rfl

theorem enterXoff_keeps {a0 s} : Keeps 2097161 s (enterXoff a0 s) := by
  unfold enterXoff
  refine Keeps.ite ?_ ?_
  · exact Keeps.refl _ _
  · refine Keeps.step sendPfc_keeps rfl ?_
    refine Keeps.step bumpAt_keeps rfl ?_
    exact Keeps.widen upd_net rfl

theorem xonCheck_keeps {s} : Keeps 2097161 s (xonCheck s) := by
  unfold xonCheck
  refine Keeps.foldl ?_ (fun t0 x1 k2 => ?_)
  · exact Keeps.refl _ _
  · extract_lets x3 x4
    clear_value x3 x4
    refine Keeps.ite ?_ ?_
    · assumption
    · refine Keeps.step sendPfc_keeps rfl ?_
      exact Keeps.step upd_net rfl ‹_›

theorem ppDiscard_keeps {a0 a1 s} : Keeps 262217 s (ppDiscard a0 a1 s) := by
  unfold ppDiscard
  extract_lets x0
  have k1 : Keeps 262217 s x0 := by
    unfold x0
    exact Keeps.widen bumpAt_keeps rfl
  clear_value x0
  refine Keeps.ite ?_ ?_
  · exact Keeps.step raise_keeps rfl ‹_›
  · assumption

theorem chargePp_keeps {a0 s} : Keeps 2359369 s (chargePp a0 s).2 := by
  unfold chargePp
  extract_lets x0 x1 x2 x3 x4 x5 x6 x7 x8 x9 x10
  have k11 : ∀ a12, Keeps 2359369 s a12 → Keeps 2359369 s (x4 a12).2 := by
    unfold x4
    intro v13 k14
    refine Keeps.iteSnd ?_ ?_
    · refine Keeps.mkSnd ?_
      exact Keeps.step setPp_keeps rfl ‹_›
    · refine Keeps.mkSnd ?_
      exact Keeps.step ppDiscard_keeps rfl ‹_›
  clear_value x4
  have k15 : Keeps 2359369 s x9 := by
    unfold x9
    exact Keeps.widen setPp_keeps rfl
  clear_value x9
  have k16 : Keeps 2359369 s x10 := by
    unfold x10
    refine Keeps.ite ?_ ?_
    · exact Keeps.step enterXoff_keeps rfl ‹_›
    · assumption
  clear_value x10
  clear_value x0 x1 x2 x3 x5 x6 x7 x8
  refine Keeps.iteSnd ?_ ?_
  · apply k11
    exact Keeps.refl _ _
  · refine Keeps.iteSnd ?_ ?_
    · refine Keeps.mkSnd ?_
      exact Keeps.widen ppDiscard_keeps rfl
    · refine Keeps.iteSnd ?_ ?_
      · apply k11
        exact Keeps.widen enterXoff_keeps rfl
      · refine Keeps.mkSnd ?_
        assumption

theorem srcAdd_keeps {a0 a1 s} : Keeps 2097152 s (srcAdd a0 a1 s) := by
  unfold srcAdd
  exact Keeps.widen upd_net rfl

theorem srcFree_keeps {a0 a1 s} : Keeps 2097152 s (srcFree a0 a1 s) := by
  unfold srcFree
  exact Keeps.widen upd_net rfl

theorem inject_keeps {a0 s} : Keeps 2097153 s (inject a0 s) := by
  unfold inject
  extract_lets x0 x1 x2 x3 x4 x5
  have k6 : Keeps 2097153 s x2 := by
    unfold x2
    exact Keeps.widen srcAdd_keeps rfl
  clear_value x2
  have k7 : Keeps 2097153 s x4 := by
    unfold x4
    refine Keeps.ite ?_ ?_
    · exact Keeps.refl _ _
    · exact Keeps.widen bumpAt_keeps rfl
  clear_value x4
  clear_value x0 x1 x3 x5
  refine Keeps.ite ?_ ?_
  · exact Keeps.step upd_net rfl ‹_›
  · exact Keeps.step upd_net rfl ‹_›

theorem injectHeld_keeps {s} : Keeps 2097153 s (injectHeld s) := by
  unfold injectHeld
  extract_lets x0 x1
  clear_value x0 x1
  refine Keeps.foldl ?_ (fun t2 x3 k4 => ?_)
  · exact Keeps.widen upd_net rfl
  · refine Keeps.ite ?_ ?_
    · exact Keeps.step inject_keeps rfl ‹_›
    · exact Keeps.step upd_net rfl ‹_›

theorem uncharge_keeps {a0 s} : Keeps 2097161 s (uncharge a0 s) := by
  unfold uncharge
  split
  · rename_i y0 y1 y2
    refine Keeps.step injectHeld_keeps rfl ?_
    exact Keeps.widen srcFree_keeps rfl
  · rename_i y3 y4
    extract_lets x5 x6
    clear_value x5 x6
    refine Keeps.step xonCheck_keeps rfl ?_
    exact Keeps.widen setPp_keeps rfl

theorem smpNext_keeps {a0 s} : Keeps 16 s (smpNext a0 s).2 := by
  unfold smpNext
  extract_lets x0
  clear_value x0
  refine Keeps.iteSnd ?_ ?_
  · split
    · rename_i y1 y2 y3 y4
      have k5 : Keeps 16 s y3 := by
        refine Keeps.ofSnd y4 ?_
        exact Keeps.widen drawFree_keeps rfl
      refine Keeps.mkSnd ?_
      assumption
  · refine Keeps.mkSnd ?_
    exact Keeps.refl _ _

theorem smpOffer_keeps {a0 a1 a2 a3 s} : Keeps 2359385 s (smpOffer a0 a1 a2 a3 s) := by
  unfold smpOffer
  extract_lets x0 x1 x2 x3
  clear_value x0 x1 x2 x3
  refine Keeps.ite ?_ ?_
  · exact Keeps.refl _ _
  · split
    · rename_i y4 y5 y6 y7
      have k8 : Keeps 2359385 s y6 := by
        refine Keeps.ofSnd y7 ?_
        refine Keeps.iteSnd ?_ ?_
        · refine Keeps.mkSnd ?_
          exact Keeps.refl _ _
        · exact Keeps.widen smpNext_keeps rfl
      refine Keeps.ite ?_ ?_
      · exact Keeps.step upd_net rfl ‹_›
      · split
        · rename_i y9 y10 y11 y12
          have k13 : Keeps 2359385 s y11 := by
            refine Keeps.ofSnd y12 ?_
            exact Keeps.step smpNext_keeps rfl ‹_›
          extract_lets x14 x15 x16 x17 x18 x19 x20 x21
          have k22 : Keeps 2359385 s x16 := by
            unfold x16
            exact Keeps.step upd_net rfl ‹_›
          clear_value x16
          have k23 : Keeps 2359385 s x17 := by
            unfold x17
            refine Keeps.step wrAt_keeps rfl ?_
            exact Keeps.step bumpAt_keeps rfl ‹_›
          clear_value x17
          have k24 : Keeps 2359385 s x19 := by
            unfold x19
            exact Keeps.step telWrite_keeps rfl ‹_›
          clear_value x19
          have k25 : Keeps 2359385 s x21 := by
            unfold x21
            refine Keeps.step bumpAt_keeps rfl ?_
            exact Keeps.step upd_net rfl ‹_›
          clear_value x21
          clear_value x14 x15 x18 x20
          refine Keeps.ite ?_ ?_
          · assumption
          · exact Keeps.step raise_keeps rfl ‹_›

theorem ecnMark_keeps {a0 a1 a2 s} : Keeps 16 s (ecnMark a0 a1 a2 s).2 := by
  unfold ecnMark
  extract_lets x0 x1 x2 x3
  clear_value x0 x1 x2 x3
  refine Keeps.iteSnd ?_ ?_
  · refine Keeps.mkSnd ?_
    exact Keeps.refl _ _
  · refine Keeps.iteSnd ?_ ?_
    · refine Keeps.mkSnd ?_
      exact Keeps.refl _ _
    · refine Keeps.iteSnd ?_ ?_
      · refine Keeps.mkSnd ?_
        exact Keeps.refl _ _
      · split
        · rename_i y4 y5 y6 y7
          have k8 : Keeps 16 s y6 := by
            refine Keeps.ofSnd y7 ?_
            exact Keeps.widen drawFree_keeps rfl
          refine Keeps.mkSnd ?_
          assumption

theorem assign_keeps {a0 s} : Keeps 2097152 s (assign a0 s) := by
  induction a0 generalizing  s
  · unfold assign
    exact Keeps.refl _ _
  · rename_i y0 y1
    unfold assign
    refine Keeps.ite ?_ ?_
    · exact Keeps.refl _ _
    · split
      · rename_i y2 y3 y4 y5 y6 y7 y8
        refine Keeps.trans ?_ y1
        exact Keeps.widen upd_net rfl
      · rename_i y9 y10 y11
        exact Keeps.refl _ _

theorem feed_keeps {s} : Keeps 2097152 s (feed s) := by
  unfold feed
  exact Keeps.widen assign_keeps rfl

theorem handOver_keeps {a0 s} : Keeps 7667801 s (handOver a0 s) := by
  unfold handOver
  extract_lets x0 x1 x2 x3 x4 x5 x6 x7 x8
  have k9 : Keeps 7667801 s x2 := by
    unfold x2
    refine Keeps.ite ?_ ?_
    · exact Keeps.widen smpOffer_keeps rfl
    · exact Keeps.refl _ _
  clear_value x2
  have k10 : Keeps 7667801 s x4 := by
    unfold x4
    exact Keeps.step bumpAt_keeps rfl ‹_›
  clear_value x4
  clear_value x0 x1 x3 x5 x6 x7 x8
  split
  · rename_i y11 y12 y13 y14
    have k15 : Keeps 7667801 s y13 := by
      refine Keeps.ofSnd y14 ?_
      refine Keeps.iteSnd ?_ ?_
      · exact Keeps.step ecnMark_keeps rfl ‹_›
      · refine Keeps.mkSnd ?_
        assumption
    extract_lets x16 x17 x18 x19 x20 x21 x22 x23
    have k24 : Keeps 7667801 s x16 := by
      unfold x16
      refine Keeps.ite ?_ ?_
      · exact Keeps.step bumpAt_keeps rfl ‹_›
      · assumption
    clear_value x16
    have k25 : Keeps 7667801 s x18 := by
      unfold x18
      exact Keeps.step uncharge_keeps rfl ‹_›
    clear_value x18
    have k26 : ∀ a27, Keeps 7667801 a27 (x19 a27) := by
      unfold x19
      intro v28
      exact Keeps.widen drive_keeps rfl
    clear_value x19
    clear_value x17 x20 x21 x22 x23
    split
    · rename_i y29 y30
      assumption
    · rename_i y31 y32
      refine Keeps.ite ?_ ?_
      · exact Keeps.step bump_keeps rfl ‹_›
      · refine Keeps.trans ?_ (k26 ..)
        assumption
    · rename_i y33 y34
      refine Keeps.ite ?_ ?_
      · exact Keeps.step bump_keeps rfl ‹_›
      · split
        · rename_i y35 y36 y37
          have k38 : Keeps 7667801 s y36 := by
            refine Keeps.ofSnd y37 ?_
            exact Keeps.step espInbound_keeps rfl ‹_›
          assumption
        · rename_i y39 y40 y41
          have k42 : Keeps 7667801 s y40 := by
            refine Keeps.ofSnd y41 ?_
            exact Keeps.step espInbound_keeps rfl ‹_›
          refine Keeps.trans ?_ (k26 ..)
          assumption
        · rename_i y43 y44 y45
          have k46 : Keeps 7667801 s y44 := by
            refine Keeps.ofSnd y45 ?_
            exact Keeps.step espInbound_keeps rfl ‹_›
          exact Keeps.step inject_keeps rfl ‹_›
    · rename_i y47 y48
      refine Keeps.ite ?_ ?_
      · assumption
      · exact Keeps.step zsend_keeps rfl ‹_›
    · rename_i y49 y50
      refine Keeps.ite ?_ ?_
      · exact Keeps.step bump_keeps rfl ‹_›
      · refine Keeps.trans ?_ (k26 ..)
        assumption
    · rename_i y51 y52 y53 y54 y55 y56
      refine Keeps.trans ?_ (k26 ..)
      assumption

theorem releaseDone_keeps {a0 s} : Keeps 7667801 s (releaseDone a0 s) := by
  induction a0 generalizing  s
  · unfold releaseDone
    exact Keeps.refl _ _
  · rename_i y0 y1
    unfold releaseDone
    split
    · rename_i y2 y3
      exact Keeps.refl _ _
    · rename_i y4 y5 y6
      refine Keeps.trans ?_ y1
      refine Keeps.step handOver_keeps rfl ?_
      exact Keeps.widen upd_net rfl

theorem emitOp_keeps {a0 a1 s} : Keeps 7667801 s (emitOp a0 a1 s) := by
  unfold emitOp
  extract_lets x0 x1 x2 x3 x4 x5 x6 x7
  have k8 : Keeps 7667801 s x4 := by
    unfold x4
    refine Keeps.step bump64_keeps rfl ?_
    exact Keeps.widen bump_keeps rfl
  clear_value x4
  have k9 : Keeps 7667801 s x5 := by
    unfold x5
    exact Keeps.step wr_keeps rfl ‹_›
  clear_value x5
  have k10 : Keeps 7667801 s x7 := by
    unfold x7
    exact Keeps.step upd_net rfl ‹_›
  clear_value x7
  clear_value x0 x1 x2 x3 x6
  refine Keeps.step feed_keeps rfl ?_
  exact Keeps.step releaseDone_keeps rfl ‹_›

theorem engineOut_keeps {a0 s} : Keeps 2097153 s (engineOut a0 s) := by
  unfold engineOut
  split
  · rename_i y0 y1
    exact Keeps.refl _ _
  · rename_i y2 y3 y4
    refine Keeps.step feed_keeps rfl ?_
    refine Keeps.step bump_keeps rfl ?_
    exact Keeps.widen upd_net rfl

theorem frameFromPartner_keeps {a0 a1 a2 a3 a4 s} : Keeps 2097153 s (frameFromPartner a0 a1 a2 a3 a4 s) := by
  unfold frameFromPartner
  refine Keeps.step feed_keeps rfl ?_
  exact Keeps.widen inject_keeps rfl

theorem limTake_keeps {a0 s} : Keeps 2097152 s (limTake a0 s) := by
  unfold limTake
  refine Keeps.ite ?_ ?_
  · exact Keeps.refl _ _
  · exact Keeps.widen upd_net rfl

theorem limNote_keeps {a0 s} : Keeps 2097153 s (limNote a0 s) := by
  unfold limNote
  refine Keeps.foldl ?_ (fun t0 x1 k2 => ?_)
  · exact Keeps.refl _ _
  · refine Keeps.foldl ?_ (fun t3 x4 k5 => ?_)
    · assumption
    · split
      · rename_i y6 y7
        assumption
      · rename_i y8 y9 y10
        refine Keeps.ite ?_ ?_
        · assumption
        · refine Keeps.step bumpAt_keeps rfl ?_
          exact Keeps.step upd_net rfl ‹_›

theorem egNext_keeps {a0 s} : Keeps 2097152 s (egNext a0 s).2 := by
  unfold egNext
  extract_lets x0 x1 x2 x3 x4
  clear_value x0 x1 x2 x3 x4
  refine Keeps.iteSnd ?_ ?_
  · refine Keeps.mkSnd ?_
    exact Keeps.refl _ _
  · split
    · rename_i y5 y6 y7
      refine Keeps.mkSnd ?_
      exact Keeps.refl _ _
    · rename_i y8 y9 y10 y11 y12
      refine Keeps.mkSnd ?_
      exact Keeps.widen upd_net rfl

theorem dwrr_keeps {a0 a1 a2 s} : Keeps 2097152 s (dwrr a0 a1 a2 s).2 := by
  induction a0 generalizing a1 a2 s
  · unfold dwrr
    refine Keeps.mkSnd ?_
    exact Keeps.refl _ _
  · rename_i y0 y1
    unfold dwrr
    extract_lets x2 x3 x4 x5 x6 x7
    have k8 : Keeps 2097152 s x6 := by
      unfold x6
      refine Keeps.ite ?_ ?_
      · exact Keeps.widen upd_net rfl
      · exact Keeps.refl _ _
    clear_value x6
    clear_value x2 x3 x4 x5 x7
    refine Keeps.iteSnd ?_ ?_
    · refine Keeps.trans ?_ y1
      assumption
    · split
      · rename_i y9 y10 y11
        have k12 : Keeps 2097152 s y10 := by
          refine Keeps.ofSnd y11 ?_
          exact Keeps.widen egNext_keeps rfl
        refine Keeps.mkSnd ?_
        assumption
      · rename_i y13 y14 y15 y16
        have k17 : Keeps 2097152 s y15 := by
          refine Keeps.ofSnd y16 ?_
          exact Keeps.widen egNext_keeps rfl
        refine Keeps.iteSnd ?_ ?_
        · refine Keeps.mkSnd ?_
          exact Keeps.step upd_net rfl ‹_›
        · refine Keeps.trans ?_ y1
          exact Keeps.step upd_net rfl ‹_›

theorem etsPick_keeps {a0 s} : Keeps 2097152 s (etsPick a0 s).2 := by
  unfold etsPick
  extract_lets x0
  clear_value x0
  split
  · rename_i y1 y2 y3
    refine Keeps.mkSnd ?_
    exact Keeps.refl _ _
  · rename_i y4 y5
    refine Keeps.iteSnd ?_ ?_
    · exact Keeps.widen dwrr_keeps rfl
    · refine Keeps.mkSnd ?_
      exact Keeps.refl _ _

theorem txStamp_keeps {a0 a1 s} : Keeps 2359369 s (txStamp a0 a1 s) := by
  unfold txStamp
  split
  · rename_i y0 y1
    exact Keeps.refl _ _
  · rename_i y2 y3 y4
    extract_lets x5 x6 x7
    clear_value x5 x6 x7
    refine Keeps.ite ?_ ?_
    · exact Keeps.widen upd_net rfl
    · refine Keeps.step raise_keeps rfl ?_
      exact Keeps.widen upd_net rfl

theorem egSend_keeps {a0 a1 s} : Keeps 2359385 s (egSend a0 a1 s) := by
  unfold egSend
  extract_lets x0 x1
  clear_value x0 x1
  split
  · rename_i y2 y3 y4
    have k5 : Keeps 2359385 s y3 := by
      refine Keeps.ofSnd y4 ?_
      exact Keeps.widen egNext_keeps rfl
    assumption
  · rename_i y6 y7 y8 y9
    have k10 : Keeps 2359385 s y8 := by
      refine Keeps.ofSnd y9 ?_
      exact Keeps.widen egNext_keeps rfl
    extract_lets x11 x12 x13 x14 x15
    have k16 : Keeps 2359385 s x15 := by
      unfold x15
      exact Keeps.step upd_net rfl ‹_›
    clear_value x15
    clear_value x11 x12 x13 x14
    split
    · rename_i y17 y18 y19 y20
      have k21 : Keeps 2359385 s y19 := by
        refine Keeps.ofSnd y20 ?_
        refine Keeps.iteSnd ?_ ?_
        · exact Keeps.step ecnMark_keeps rfl ‹_›
        · refine Keeps.mkSnd ?_
          assumption
      extract_lets x22 x23 x24 x25 x26 x27 x28 x29
      have k30 : Keeps 2359385 s x22 := by
        unfold x22
        refine Keeps.ite ?_ ?_
        · exact Keeps.step bumpAt_keeps rfl ‹_›
        · assumption
      clear_value x22
      have k31 : Keeps 2359385 s x24 := by
        unfold x24
        refine Keeps.step limTake_keeps rfl ?_
        exact Keeps.step upd_net rfl ‹_›
      clear_value x24
      have k32 : Keeps 2359385 s x25 := by
        unfold x25
        exact Keeps.step srcFree_keeps rfl ‹_›
      clear_value x25
      have k33 : Keeps 2359385 s x26 := by
        unfold x26
        refine Keeps.step bump64_keeps rfl ?_
        exact Keeps.step bumpAt_keeps rfl ‹_›
      clear_value x26
      have k34 : Keeps 2359385 s x27 := by
        unfold x27
        exact Keeps.step bump64_keeps rfl ‹_›
      clear_value x27
      have k35 : Keeps 2359385 s x28 := by
        unfold x28
        refine Keeps.foldl ?_ (fun t36 x37 k38 => ?_)
        · assumption
        · extract_lets x39
          clear_value x39
          refine Keeps.ite ?_ ?_
          · exact Keeps.step smpOffer_keeps rfl ‹_›
          · assumption
      clear_value x28
      have k40 : Keeps 2359385 s x29 := by
        unfold x29
        exact Keeps.step txStamp_keeps rfl ‹_›
      clear_value x29
      clear_value x23
      exact Keeps.step drive_keeps rfl ‹_›

theorem egEnter_keeps {a0 a1 s} : Keeps 16248905 s (egEnter a0 a1 s) := by
  unfold egEnter
  extract_lets x0 x1 x2 x3 x4
  have k5 : ∀ a6, Keeps 16248905 a6 (x1 a6) := by
    unfold x1
    intro v7
    extract_lets x8 x9
    have k10 : Keeps 16248905 v7 x8 := by
      unfold x8
      refine Keeps.ite ?_ ?_
      · exact Keeps.widen bumpAt_keeps rfl
      · exact Keeps.refl _ _
    clear_value x8
    clear_value x9
    exact Keeps.step upd_net rfl ‹_›
  clear_value x1
  clear_value x0 x2 x3 x4
  split
  · rename_i y11 y12
    exact Keeps.refl _ _
  · rename_i y13 y14 y15
    refine Keeps.ite ?_ ?_
    · exact Keeps.refl _ _
    · refine Keeps.ite ?_ ?_
      · refine Keeps.ite ?_ ?_
        · refine Keeps.step connQueuesEnd_keeps rfl ?_
          exact Keeps.widen connEnd_keeps rfl
        · exact Keeps.widen qpError_keeps rfl
      · refine Keeps.ite ?_ ?_
        · apply k5
        · split
          · rename_i y16 y17 y18
            have k19 : Keeps 16248905 s y17 := by
              refine Keeps.ofSnd y18 ?_
              exact Keeps.widen espOutbound_keeps rfl
            exact Keeps.step upd_net rfl ‹_›
          · rename_i y20 y21 y22
            have k23 : Keeps 16248905 s y21 := by
              refine Keeps.ofSnd y22 ?_
              exact Keeps.widen espOutbound_keeps rfl
            assumption
          · rename_i y24 y25 y26 y27 y28 y29
            have k30 : Keeps 16248905 s y26 := by
              refine Keeps.ofSnd y29 ?_
              exact Keeps.widen espOutbound_keeps rfl
            extract_lets x31 x32 x33 x34
            have k35 : Keeps 16248905 s x33 := by
              unfold x33
              exact Keeps.step srcAdd_keeps rfl ‹_›
            clear_value x33
            clear_value x31 x32 x34
            exact Keeps.step upd_net rfl ‹_›

theorem egDrop_keeps {a0 s} : Keeps 2097153 s (egDrop a0 s) := by
  unfold egDrop
  refine Keeps.foldl ?_ (fun t0 x1 k2 => ?_)
  · exact Keeps.refl _ _
  · extract_lets x3 x4 x5 x6 x7
    have k8 : Keeps 2097153 s x5 := by
      unfold x5
      refine Keeps.foldl ?_ (fun t9 x10 k11 => ?_)
      · assumption
      · exact Keeps.step srcFree_keeps rfl ‹_›
    clear_value x5
    have k12 : Keeps 2097153 s x7 := by
      unfold x7
      exact Keeps.step upd_net rfl ‹_›
    clear_value x7
    clear_value x3 x4 x6
    refine Keeps.ite ?_ ?_
    · assumption
    · exact Keeps.step bumpAt_keeps rfl ‹_›

theorem linkDown_keeps {a0 s} : Keeps 2359369 s (linkDown a0 s) := by
  unfold linkDown
  refine Keeps.ite ?_ ?_
  · exact Keeps.refl _ _
  · extract_lets x0 x1
    have k2 : Keeps 2359369 s x1 := by
      unfold x1
      refine Keeps.step egDrop_keeps rfl ?_
      exact Keeps.widen upd_net rfl
    clear_value x1
    clear_value x0
    exact Keeps.step raise_keeps rfl ‹_›

theorem netGroupDown_keeps {a0 s} : Keeps 2359369 s (netGroupDown a0 s) := by
  unfold netGroupDown
  refine Keeps.foldl ?_ (fun t0 x1 k2 => ?_)
  · exact Keeps.refl _ _
  · exact Keeps.step linkDown_keeps rfl ‹_›

theorem txtsRelease_keeps {a0 s} : Keeps 2097152 s (txtsRelease a0 s) := by
  unfold txtsRelease
  exact Keeps.widen upd_net rfl

end Sys2Proof.Machine
end

