-- ==== Sys2Proof/Laws/KeepsEpOps.lean ====
section
/-!
SUPPORT. Laws/KeepsEpOps.lean: which units of the state each operation of Machine/EpOps.lean may change: one `Keeps` lemma each.
-/
namespace Sys2Proof.Machine

theorem mapRings_keeps {a0 a1 s} : Keeps 262144 s (mapRings a0 a1 s) := by
  unfold mapRings
  exact Keeps.widen upd_ep rfl

theorem hostAbort_keeps {a0 s} : Keeps 9957449 s (hostAbort a0 s) := by
  unfold hostAbort
  split
  · rename_i y0 y1
    exact Keeps.refl _ _
  · rename_i y2 y3 y4
    split
    · rename_i y5 y6 y7 y8
      refine Keeps.ite ?_ ?_
      · exact Keeps.widen travAbandon_keeps rfl
      · exact Keeps.refl _ _
    · rename_i y9 y10
      refine Keeps.ite ?_ ?_
      · refine Keeps.ite ?_ ?_
        · exact Keeps.widen failWriter_keeps rfl
        · exact Keeps.refl _ _
      · refine Keeps.ite ?_ ?_
        · exact Keeps.widen finish_keeps rfl
        · exact Keeps.refl _ _

theorem ringReadsEnd_keeps {a0 s} : Keeps 1507401 s (ringReadsEnd a0 s) := by
  unfold ringReadsEnd
  extract_lets x0 x1 x2
  clear_value x0 x1 x2
  refine Keeps.foldl ?_ (fun t3 x4 k5 => ?_)
  · exact Keeps.widen upd_win rfl
  · exact Keeps.step accDrop_keeps rfl ‹_›

theorem ringsStop_keeps {a0 s} : Keeps 262217 s (ringsStop a0 s) := by
  unfold ringsStop
  extract_lets x0 x1
  have k2 : Keeps 262217 s x1 := by
    unfold x1
    exact Keeps.widen mapRings_keeps rfl
  clear_value x1
  clear_value x0
  refine Keeps.foldl ?_ (fun t3 x4 k5 => ?_)
  · assumption
  · extract_lets x6 x7 x8
    have k9 : Keeps 262217 s x8 := by
      unfold x8
      exact Keeps.step setRing_keeps rfl ‹_›
    clear_value x8
    clear_value x6 x7
    refine Keeps.foldl ?_ (fun t10 x11 k12 => ?_)
    · assumption
    · exact Keeps.step ringDone_keeps rfl ‹_›

theorem fnStop_keeps {a0 s} : Keeps 9957465 s (fnStop a0 s).2 := by
  unfold fnStop
  extract_lets x0 x1 x2 x3 x4 x5 x6 x7 x8 x9 x10 x11
  have k12 : Keeps 9957465 s x7 := by
    unfold x7
    exact Keeps.widen upd_ep rfl
  clear_value x7
  have k13 : Keeps 9957465 s x8 := by
    unfold x8
    refine Keeps.foldl ?_ (fun t14 x15 k16 => ?_)
    · assumption
    · exact Keeps.step hostAbort_keeps rfl ‹_›
  clear_value x8
  have k17 : Keeps 9957465 s x9 := by
    unfold x9
    refine Keeps.foldl ?_ (fun t18 x19 k20 => ?_)
    · assumption
    · split
      · rename_i y21 y22 y23 y24
        have k25 : Keeps 9957465 s y23 := by
          refine Keeps.ofSnd y24 ?_
          exact Keeps.step drawFree_keeps rfl ‹_›
        exact Keeps.step answer_keeps rfl ‹_›
  clear_value x9
  have k26 : Keeps 9957465 s x10 := by
    unfold x10
    exact Keeps.step ringReadsEnd_keeps rfl ‹_›
  clear_value x10
  clear_value x0 x1 x2 x3 x4 x5 x6 x11
  refine Keeps.mkSnd ?_
  refine Keeps.step bumpAt_keeps rfl ?_
  exact Keeps.step ringsStop_keeps rfl ‹_›

theorem nvFetch_keeps {a0 a1 s} : Keeps 262152 s (nvFetch a0 a1 s) := by
  unfold nvFetch
  extract_lets x0 x1 x2 x3
  have k4 : Keeps 262152 s x3 := by
    unfold x3
    exact Keeps.widen upd_ep rfl
  clear_value x3
  clear_value x0 x1 x2
  refine Keeps.foldl ?_ (fun t5 x6 k7 => ?_)
  · assumption
  · exact Keeps.step epIssue_keeps rfl ‹_›

theorem fnGo_keeps {a0 s} : Keeps 1314888 s (fnGo a0 s) := by
  unfold fnGo
  refine Keeps.ite ?_ ?_
  · exact Keeps.refl _ _
  · extract_lets x0 x1 x2 x3 x4 x5 x6 x7 x8
    have k9 : Keeps 1314888 s x0 := by
      unfold x0
      split
      · rename_i y10 y11
        exact Keeps.refl _ _
      · rename_i y12 y13 y14
        refine Keeps.foldl ?_ (fun t15 x16 k17 => ?_)
        · exact Keeps.refl _ _
        · exact Keeps.step nvFetch_keeps rfl ‹_›
    clear_value x0
    have k18 : Keeps 1314888 s x3 := by
      unfold x3
      exact Keeps.step setFn_keeps rfl ‹_›
    clear_value x3
    have k19 : Keeps 1314888 s x4 := by
      unfold x4
      refine Keeps.foldl ?_ (fun t20 x21 k22 => ?_)
      · assumption
      · exact Keeps.step respond_keeps rfl ‹_›
    clear_value x4
    have k23 : Keeps 1314888 s x6 := by
      unfold x6
      split
      · rename_i y24 y25
        assumption
      · rename_i y26 y27 y28 y29
        refine Keeps.foldl ?_ (fun t30 x31 k32 => ?_)
        · exact Keeps.step upd_nvm rfl ‹_›
        · exact Keeps.step postNotice_keeps rfl ‹_›
    clear_value x6
    have k33 : Keeps 1314888 s x7 := by
      unfold x7
      refine Keeps.foldl ?_ (fun t34 x35 k36 => ?_)
      · assumption
      · exact Keeps.step msix_keeps rfl ‹_›
    clear_value x7
    have k37 : Keeps 1314888 s x8 := by
      unfold x8
      exact Keeps.step mapRings_keeps rfl ‹_›
    clear_value x8
    clear_value x1 x2 x5
    refine Keeps.foldl ?_ (fun t38 x39 k40 => ?_)
    · assumption
    · refine Keeps.ite ?_ ?_
      · exact Keeps.step drainHeld_keeps rfl ‹_›
      · assumption

theorem flrBegin_keeps {a0 s} : Keeps 9957449 s (flrBegin a0 s) := by
  unfold flrBegin
  extract_lets x0 x1 x2 x3 x4 x5 x6 x7 x8 x9
  have k10 : Keeps 9957449 s x3 := by
    unfold x3
    refine Keeps.step ringReadsEnd_keeps rfl ?_
    exact Keeps.widen upd_win rfl
  clear_value x3
  have k11 : Keeps 9957449 s x6 := by
    unfold x6
    exact Keeps.step upd_win rfl ‹_›
  clear_value x6
  have k12 : Keeps 9957449 s x7 := by
    unfold x7
    split
    · rename_i y13 y14
      assumption
    · rename_i y15 y16 y17
      exact Keeps.step endAssociation_keeps rfl ‹_›
  clear_value x7
  have k18 : Keeps 9957449 s x8 := by
    unfold x8
    exact Keeps.step mapRings_keeps rfl ‹_›
  clear_value x8
  clear_value x0 x1 x2 x4 x5 x9
  exact Keeps.step setFn_keeps rfl ‹_›

theorem flrEnd_keeps {a0 s} : Keeps 262217 s (flrEnd a0 s) := by
  unfold flrEnd
  extract_lets x0 x1 x2 x3 x4 x5
  have k6 : Keeps 262217 s x4 := by
    unfold x4
    exact Keeps.widen upd_ep rfl
  clear_value x4
  have k7 : Keeps 262217 s x5 := by
    unfold x5
    refine Keeps.foldl ?_ (fun t8 x9 k10 => ?_)
    · assumption
    · refine Keeps.step raise_keeps rfl ?_
      exact Keeps.step bump_keeps rfl ‹_›
  clear_value x5
  clear_value x0 x1 x2 x3
  exact Keeps.step setFn_keeps rfl ‹_›

theorem flrWhole_keeps {a0 s} : Keeps 9957449 s (flrWhole a0 s) := by
  unfold flrWhole
  refine Keeps.step raise_keeps rfl ?_
  refine Keeps.step bump_keeps rfl ?_
  refine Keeps.step flrEnd_keeps rfl ?_
  exact Keeps.widen flrBegin_keeps rfl

theorem surpriseRemoval_keeps {a0 s} : Keeps 9957449 s (surpriseRemoval a0 s) := by
  unfold surpriseRemoval
  refine Keeps.ite ?_ ?_
  · exact Keeps.widen upd_ep rfl
  · extract_lets x0 x1 x2 x3 x4
    have k5 : Keeps 9957449 s x1 := by
      unfold x1
      refine Keeps.foldl ?_ (fun t6 x7 k8 => ?_)
      · exact Keeps.refl _ _
      · exact Keeps.step flrBegin_keeps rfl ‹_›
    clear_value x1
    have k9 : Keeps 9957449 s x3 := by
      unfold x3
      exact Keeps.step upd_ep rfl ‹_›
    clear_value x3
    have k10 : Keeps 9957449 s x4 := by
      unfold x4
      refine Keeps.step raise_keeps rfl ?_
      refine Keeps.step bump_keeps rfl ?_
      exact Keeps.step raise_keeps rfl ‹_›
    clear_value x4
    clear_value x0 x2
    refine Keeps.foldl ?_ (fun t11 x12 k13 => ?_)
    · assumption
    · refine Keeps.step raise_keeps rfl ?_
      refine Keeps.step bump_keeps rfl ?_
      exact Keeps.step flrEnd_keeps rfl ‹_›

theorem ideEval_keeps {a0 s} : Keeps 9957465 s (ideEval a0 s) := by
  unfold ideEval
  extract_lets x0 x1 x2
  clear_value x0 x1 x2
  refine Keeps.ite ?_ ?_
  · exact Keeps.refl _ _
  · refine Keeps.ite ?_ ?_
    · refine Keeps.foldl ?_ (fun t3 x4 k5 => ?_)
      · exact Keeps.widen upd_ep rfl
      · exact Keeps.step fnStop_keeps rfl ‹_›
    · refine Keeps.foldl ?_ (fun t6 x7 k8 => ?_)
      · exact Keeps.widen upd_ep rfl
      · exact Keeps.step fnGo_keeps rfl ‹_›

theorem readFailed_ctxFail_keeps {a0 s} : Keeps 9957449 s (readFailed.ctxFail a0 s) := by
  unfold readFailed.ctxFail
  split
  · rename_i y0 y1 y2 y3
    exact Keeps.widen travAbandon_keeps rfl
  · rename_i y4 y5
    exact Keeps.widen failWriter_keeps rfl

theorem readFailed_keeps {a0 s} : Keeps 9957465 s (readFailed a0 s) := by
  unfold readFailed
  split
  · rename_i y0 y1 y2 y3
    exact Keeps.widen readFailed_ctxFail_keeps rfl
  · rename_i y4 y5 y6
    exact Keeps.widen readFailed_ctxFail_keeps rfl
  · rename_i y7 y8 y9 y10
    split
    · rename_i y11 y12 y13 y14
      have k15 : Keeps 9957465 s y13 := by
        refine Keeps.ofSnd y14 ?_
        exact Keeps.widen drawFree_keeps rfl
      exact Keeps.step answer_keeps rfl ‹_›
  · rename_i y16 y17 y18 y19
    extract_lets x20
    clear_value x20
    split
    · rename_i y21 y22
      exact Keeps.refl _ _
    · rename_i y23 y24 y25
      refine Keeps.step ringDone_keeps rfl ?_
      exact Keeps.widen setRing_keeps rfl
  · rename_i y26 y27 y28
    extract_lets x29
    clear_value x29
    refine Keeps.step raise_keeps rfl ?_
    exact Keeps.widen setRing_keeps rfl

theorem refuseFront_keeps {a0 a1 s} : Keeps 262217 s (refuseFront a0 a1 s) := by
  induction a1 generalizing a0 s
  · unfold refuseFront
    exact Keeps.refl _ _
  · rename_i y0 y1
    unfold refuseFront
    extract_lets x2
    clear_value x2
    split
    · rename_i y3 y4
      exact Keeps.refl _ _
    · rename_i y5 y6 y7 y8
      split
      · rename_i y9 y10
        exact Keeps.refl _ _
      · rename_i y11 y12 y13 y14
        refine Keeps.trans ?_ y1
        refine Keeps.step ringDone_keeps rfl ?_
        exact Keeps.widen setRing_keeps rfl

theorem grantN_keeps {a0 a1 a2 s} : Keeps 262217 s (grantN a0 a1 a2 s) := by
  induction a2 generalizing a0 a1 s
  · unfold grantN
    exact Keeps.refl _ _
  · rename_i y0 y1
    unfold grantN
    extract_lets x2 x3 x4 x5
    clear_value x2 x3 x4 x5
    refine Keeps.ite ?_ ?_
    · exact Keeps.refl _ _
    · split
      · rename_i y6
        refine Keeps.ite ?_ ?_
        · exact Keeps.refl _ _
        · exact Keeps.widen epIssue_keeps rfl
      · rename_i y7 y8
        refine Keeps.ite ?_ ?_
        · exact Keeps.refl _ _
        · extract_lets x9 x10 x11 x12
          have k13 : Keeps 262217 s x10 := by
            unfold x10
            exact Keeps.widen setRing_keeps rfl
          clear_value x10
          have k14 : Keeps 262217 s x11 := by
            unfold x11
            refine Keeps.step bump_keeps rfl ?_
            exact Keeps.step epArrived_keeps rfl ‹_›
          clear_value x11
          have k15 : Keeps 262217 s x12 := by
            unfold x12
            refine Keeps.ite ?_ ?_
            · exact Keeps.step epIssue_keeps rfl ‹_›
            · assumption
          clear_value x12
          clear_value x9
          refine Keeps.trans ?_ y1
          exact Keeps.step refuseFront_keeps rfl ‹_›

theorem descTake_keeps {a0 a1 s} : Keeps 262152 s (descTake a0 a1 s) := by
  unfold descTake
  extract_lets x0
  clear_value x0
  refine Keeps.step setRing_keeps rfl ?_
  refine Keeps.ite ?_ ?_
  · exact Keeps.widen epArrived_keeps rfl
  · exact Keeps.refl _ _

theorem withDesc_keeps {a0 a1 a2 s} {M : Nat} (hM : 262217 ||| M = M) (hf2 : ∀ v0 v1, Keeps M v1 (a2 v0 v1)) :
    Keeps M s (withDesc a0 a1 a2 s) := by
  unfold withDesc
  extract_lets x0
  clear_value x0
  split
  · rename_i y1 y2
    exact Keeps.refl _ _
  · rename_i y3 y4 y5 y6
    refine Keeps.ite ?_ ?_
    · exact Keeps.refl _ _
    · extract_lets x7 x8
      have k9 : Keeps M s x7 := by
        unfold x7
        exact Keeps.widen descTake_keeps (orSub hM rfl)
      clear_value x7
      have k10 : Keeps M s x8 := by
        unfold x8
        refine Keeps.ite ?_ ?_
        · exact Keeps.step ringDone_keeps (orSub hM rfl) ‹_›
        · refine Keeps.trans ?_ (hf2 ..)
          assumption
      clear_value x8
      exact Keeps.step refuseFront_keeps (orSub hM rfl) ‹_›

theorem ringAccess_keeps {a0 a1 a2 a3 a4 s} : Keeps 14676057 s (ringAccess a0 a1 a2 a3 a4 s) := by
  unfold ringAccess
  extract_lets x0 x1 x2 x3 x4 x5
  clear_value x0 x1 x2 x3 x4 x5
  refine Keeps.ite ?_ ?_
  · refine Keeps.step ringDone_keeps rfl ?_
    exact Keeps.widen bump_keeps rfl
  · refine Keeps.step accTry_keeps rfl ?_
    refine Keeps.step keyCount_keeps rfl ?_
    exact Keeps.widen bump_keeps rfl

theorem doorbell_keeps {a0 a1 s} : Keeps 262216 s (doorbell a0 a1 s) := by
  unfold doorbell
  extract_lets x0 x1 x2 x3 x4
  have k5 : Keeps 262216 s x3 := by
    unfold x3
    exact Keeps.widen upd_ep rfl
  clear_value x3
  clear_value x0 x1 x2 x4
  refine Keeps.ite ?_ ?_
  · assumption
  · refine Keeps.ite ?_ ?_
    · refine Keeps.step drainHeld_keeps rfl ?_
      exact Keeps.step setRing_keeps rfl ‹_›
    · refine Keeps.ite ?_ ?_
      · exact Keeps.step setRing_keeps rfl ‹_›
      · exact Keeps.step setRing_keeps rfl ‹_›

end Sys2Proof.Machine
end

