-- ==== Sys2Proof/Laws/KeepsClosureOps.lean ====
section
/-!
SUPPORT. Laws/KeepsClosureOps.lean: which units of the state each operation of Machine/ClosureOps.lean may change: one `Keeps` lemma each.
-/
namespace Sys2Proof.Machine

theorem platEntries_keeps {a0 a1 s} : Keeps 2359369 s (platEntries a0 a1 s) := by
  unfold platEntries
  extract_lets x0
  have k1 : Keeps 2359369 s x0 := by
    unfold x0
    refine Keeps.foldl ?_ (fun t2 x3 k4 => ?_)
    · exact Keeps.refl _ _
    · exact Keeps.step platRule_keeps rfl ‹_›
  clear_value x0
  refine Keeps.foldl ?_ (fun t5 x6 k7 => ?_)
  · assumption
  · exact Keeps.step flowInsert_keeps rfl ‹_›

theorem armClosure_keeps {s} : Keeps 2457801 s (armClosure s) := by
  unfold armClosure
  split
  · rename_i y0 y1
    exact Keeps.refl _ _
  · rename_i y2 y3 y4
    extract_lets x5 x6 x7 x8
    have k9 : Keeps 2457801 s x6 := by
      unfold x6
      refine Keeps.ite ?_ ?_
      · exact Keeps.refl _ _
      · exact Keeps.widen platEntries_keeps rfl
    clear_value x6
    clear_value x5 x7 x8
    refine Keeps.ite ?_ ?_
    · refine Keeps.trans ?_ (requestRecord_keeps (M := 2457801) rfl ?_ ?_)
      · exact Keeps.step upd_datum rfl ‹_›
      · intro v10
        exact Keeps.refl _ _
      · intro v11
        exact Keeps.refl _ _
    · exact Keeps.step upd_datum rfl ‹_›

theorem pageLost_keeps {a0 s} : Keeps 1 s (pageLost a0 s) := by
  unfold pageLost
  exact Keeps.widen (upd_regs (fun h => trising_tfilter h _)) rfl

theorem domainSwitch_keeps {a0 a1 s} : Keeps 262473 s (domainSwitch a0 a1 s) := by
  unfold domainSwitch
  extract_lets x0 x1 x2
  have k3 : Keeps 262473 s x0 := by
    unfold x0
    split
    · rename_i y4 y5
      exact Keeps.refl _ _
    · rename_i y6 y7 y8
      exact Keeps.widen pageLost_keeps rfl
  clear_value x0
  clear_value x1 x2
  refine Keeps.step raise_keeps rfl ?_
  refine Keeps.step bump_keeps rfl ?_
  exact Keeps.step upd_pwr rfl ‹_›

theorem domainsEval_keeps {s} : Keeps 262473 s (domainsEval s) := by
  unfold domainsEval
  refine Keeps.ite ?_ ?_
  · exact Keeps.refl _ _
  · extract_lets x0
    clear_value x0
    refine Keeps.foldl ?_ (fun t1 x2 k3 => ?_)
    · exact Keeps.refl _ _
    · refine Keeps.ite ?_ ?_
      · assumption
      · exact Keeps.step domainSwitch_keeps rfl ‹_›

theorem queuesClosure_keeps {a0 a1 s} : Keeps 72 s (queuesClosure a0 a1 s) := by
  unfold queuesClosure
  refine Keeps.foldl ?_ (fun t0 x1 k2 => ?_)
  · exact Keeps.refl _ _
  · extract_lets x3 x4 x5
    clear_value x3 x4 x5
    refine Keeps.ite ?_ ?_
    · assumption
    · refine Keeps.step updateEventN_keeps rfl ?_
      exact Keeps.step setQueue_keeps rfl ‹_›

theorem telemClosure_keeps {a0 a1 s} : Keeps 64 s (telemClosure a0 a1 s) := by
  unfold telemClosure
  extract_lets x0 x1 x2
  clear_value x0 x1 x2
  exact Keeps.widen upd_evt rfl

theorem deadlinesClosure_keeps {s} : Keeps 128 s (deadlinesClosure s) := by
  unfold deadlinesClosure
  extract_lets x0 x1 x2
  clear_value x0 x1 x2
  exact Keeps.widen upd_datum rfl

theorem rulesClosure_keeps {a0 a1 s} : Keeps 2097152 s (rulesClosure a0 a1 s) := by
  unfold rulesClosure
  refine Keeps.ite ?_ ?_
  · exact Keeps.refl _ _
  · refine Keeps.foldl ?_ (fun t0 x1 k2 => ?_)
    · exact Keeps.refl _ _
    · refine Keeps.ite ?_ ?_
      · assumption
      · exact Keeps.step upd_net rfl ‹_›

theorem banksClosure_keeps {a0 a1 s} : Keeps 2097152 s (banksClosure a0 a1 s) := by
  unfold banksClosure
  refine Keeps.foldl ?_ (fun t0 x1 k2 => ?_)
  · exact Keeps.refl _ _
  · extract_lets x3 x4
    clear_value x3 x4
    refine Keeps.ite ?_ ?_
    · assumption
    · exact Keeps.step upd_net rfl ‹_›

theorem groupsClosure_keeps {a0 a1 s} : Keeps 2359369 s (groupsClosure a0 a1 s) := by
  unfold groupsClosure
  refine Keeps.foldl ?_ (fun t0 x1 k2 => ?_)
  · exact Keeps.refl _ _
  · extract_lets x3 x4
    clear_value x3 x4
    refine Keeps.ite ?_ ?_
    · exact Keeps.step netGroupDown_keeps rfl ‹_›
    · assumption

theorem poolClosure_keeps {a0 s} : Keeps 13627481 s (poolClosure a0 s) := by
  induction a0 generalizing  s
  · unfold poolClosure
    exact Keeps.refl _ _
  · rename_i y0 y1
    unfold poolClosure
    refine Keeps.ite ?_ ?_
    · exact Keeps.refl _ _
    · split
      · rename_i y2 y3 y4 y5
        refine Keeps.trans ?_ y1
        refine Keeps.step bump_keeps rfl ?_
        exact Keeps.widen pageDrop_keeps rfl
      · rename_i y6 y7
        split
        · rename_i y8 y9
          exact Keeps.refl _ _
        · rename_i y10 y11 y12 y13
          refine Keeps.trans ?_ y1
          exact Keeps.widen writeBackPage_keeps rfl

theorem avsClosure_keeps {a0 a1 s} : Keeps 264 s (avsClosure a0 a1 s) := by
  unfold avsClosure
  extract_lets x0 x1 x2
  clear_value x0 x1 x2
  refine Keeps.ite ?_ ?_
  · refine Keeps.step drive_keeps rfl ?_
    exact Keeps.widen upd_pwr rfl
  · refine Keeps.ite ?_ ?_
    · exact Keeps.widen upd_pwr rfl
    · exact Keeps.refl _ _

theorem onClosure_keeps {a0 a1 s} : Keeps 16775641 s (onClosure a0 a1 s) := by
  unfold onClosure
  extract_lets x0 x1 x2 x3 x4 x5 x6 x7 x8 x9 x10 x11
  have k12 : Keeps 16775641 s x0 := by
    unfold x0
    exact Keeps.widen deadlinesClosure_keeps rfl
  clear_value x0
  have k13 : Keeps 16775641 s x1 := by
    unfold x1
    refine Keeps.step banksClosure_keeps rfl ?_
    exact Keeps.step rulesClosure_keeps rfl ‹_›
  clear_value x1
  have k14 : Keeps 16775641 s x2 := by
    unfold x2
    refine Keeps.step queuesClosure_keeps rfl ?_
    exact Keeps.step telemClosure_keeps rfl ‹_›
  clear_value x2
  have k15 : Keeps 16775641 s x3 := by
    unfold x3
    exact Keeps.step groupsClosure_keeps rfl ‹_›
  clear_value x3
  have k16 : Keeps 16775641 s x4 := by
    unfold x4
    refine Keeps.ite ?_ ?_
    · exact Keeps.step surpriseRemoval_keeps rfl ‹_›
    · assumption
  clear_value x4
  have k17 : Keeps 16775641 s x5 := by
    unfold x5
    exact Keeps.step ideEval_keeps rfl ‹_›
  clear_value x5
  have k18 : Keeps 16775641 s x6 := by
    unfold x6
    refine Keeps.ite ?_ ?_
    · exact Keeps.step zebLost_keeps rfl ‹_›
    · assumption
  clear_value x6
  have k19 : Keeps 16775641 s x7 := by
    unfold x7
    exact Keeps.step bayClosure_keeps rfl ‹_›
  clear_value x7
  have k20 : Keeps 16775641 s x8 := by
    unfold x8
    refine Keeps.step poolClosure_keeps rfl ?_
    exact Keeps.step evictTo_keeps rfl ‹_›
  clear_value x8
  have k21 : Keeps 16775641 s x9 := by
    unfold x9
    refine Keeps.step pressureCheck_keeps rfl ?_
    exact Keeps.step limitEval_keeps rfl ‹_›
  clear_value x9
  have k22 : Keeps 16775641 s x10 := by
    unfold x10
    exact Keeps.step avsClosure_keeps rfl ‹_›
  clear_value x10
  have k23 : Keeps 16775641 s x11 := by
    unfold x11
    refine Keeps.ite ?_ ?_
    · exact Keeps.step registerAll_keeps rfl ‹_›
    · assumption
  clear_value x11
  refine Keeps.step feed_keeps rfl ?_
  exact Keeps.step domainsEval_keeps rfl ‹_›

theorem sampleBlockReset_keeps {s} : Keeps 2097152 s (sampleBlockReset s) := by
  unfold sampleBlockReset
  exact Keeps.widen upd_net rfl

theorem zeberBlockReset_keeps {s} : Keeps 327753 s (zeberBlockReset s) := by
  unfold zeberBlockReset
  exact Keeps.widen zebRetrain_keeps rfl

theorem shutdownMoves_keeps {s} : Keeps 14544985 s (shutdownMoves s) := by
  unfold shutdownMoves
  extract_lets x0 x1 x2 x3 x4 x5
  have k6 : Keeps 14544985 s x1 := by
    unfold x1
    refine Keeps.foldl ?_ (fun t7 x8 k9 => ?_)
    · exact Keeps.refl _ _
    · exact Keeps.step writeBackPage_keeps rfl ‹_›
  clear_value x1
  have k10 : Keeps 14544985 s x4 := by
    unfold x4
    exact Keeps.step upd_store rfl ‹_›
  clear_value x4
  clear_value x0 x2 x3 x5
  refine Keeps.ite ?_ ?_
  · refine Keeps.step nextMove_keeps rfl ?_
    exact Keeps.step upd_pair rfl ‹_›
  · assumption

end Sys2Proof.Machine
end

