-- ==== Sys2Proof/Laws/KeepsStart.lean ====
section
/-!
SUPPORT. Laws/KeepsStart.lean: which units of the state each operation of Machine/Start.lean may change: one `Keeps` lemma each.
-/
namespace Sys2Proof.Machine

theorem enginesLost_keeps {s} : Keeps 16250886 s (enginesLost s) := by
  unfold enginesLost
  exact Keeps.widen (upd_sels_latches_vault_nvm_store_trav_pair_zeb_win_ep_xp_net_ciph_bay (fun _ => rfl) (fun _ => rfl)) rfl

theorem datumReturn_keeps {a0 a1 s} : Keeps 263241 s (datumReturn a0 a1 s) := by
  unfold datumReturn
  refine Keeps.step raise_keeps rfl ?_
  exact Keeps.widen fbRequest_keeps rfl

theorem datumMend_keeps {s} : Keeps 263369 s (datumMend s) := by
  unfold datumMend
  extract_lets x0 x1 x2 x3 x4
  have k5 : Keeps 263369 s x1 := by
    unfold x1
    split
    · rename_i y6 y7
      exact Keeps.refl _ _
    · rename_i y8 y9 y10
      exact Keeps.widen upd_datum rfl
  clear_value x1
  have k11 : Keeps 263369 s x3 := by
    unfold x3
    split
    · rename_i y12 y13
      assumption
    · rename_i y14 y15 y16
      refine Keeps.step datumReturn_keeps rfl ?_
      exact Keeps.step (upd_trust (TrustKeeps.of rfl rfl rfl rfl)) rfl ‹_›
  clear_value x3
  clear_value x0 x4
  exact Keeps.step upd_datum rfl ‹_›

theorem datumBoot_keeps {a0 a1 s} : Keeps 263369 s (datumBoot a0 a1 s) := by
  unfold datumBoot
  extract_lets x0 x1 x2 x3 x4
  have k5 : ∀ a6 a7, Keeps 263369 a7 (x0 a6 a7) := by
    unfold x0
    intro v8 v9
    exact Keeps.widen (upd_trust (TrustKeeps.of rfl rfl rfl rfl)) rfl
  clear_value x0
  have k10 : ∀ a11 a12, Keeps 263369 a12 (x1 a11 a12) := by
    unfold x1
    intro v13 v14
    exact Keeps.widen upd_datum rfl
  clear_value x1
  have k15 : ∀ a16, Keeps 263369 a16 (x4 a16) := by
    unfold x4
    intro v17
    refine Keeps.ite ?_ ?_
    · exact Keeps.refl _ _
    · exact Keeps.widen raise_keeps rfl
  clear_value x4
  clear_value x2 x3
  refine Keeps.ite ?_ ?_
  · exact Keeps.refl _ _
  · split
    · rename_i y18 y19
      extract_lets x20
      have k21 : Keeps 263369 s x20 := by
        unfold x20
        refine Keeps.ite ?_ ?_
        · exact Keeps.refl _ _
        · exact Keeps.widen datumReturn_keeps rfl
      clear_value x20
      refine Keeps.trans ?_ (k5 ..)
      refine Keeps.trans ?_ (k10 ..)
      refine Keeps.trans ?_ (k15 ..)
      assumption
    · rename_i y22
      refine Keeps.trans ?_ (k5 ..)
      refine Keeps.trans ?_ (k10 ..)
      apply k15

theorem rwlLoad_keeps {s} : Keeps 1 s (rwlLoad s) := by
  unfold rwlLoad
  refine Keeps.foldl ?_ (fun t0 x1 k2 => ?_)
  · exact Keeps.refl _ _
  · split
    · rename_i y3 y4
      assumption
    · rename_i y5 y6 y7
      refine Keeps.ite ?_ ?_
      · exact Keeps.step wrAt_keeps rfl ‹_›
      · assumption

theorem bootSlot_keeps {a0 s} : Keeps 263241 s (bootSlot a0 s).2 := by
  unfold bootSlot
  extract_lets x0 x1 x2 x3 x4 x5
  have k6 : Keeps 263241 s x2 := by
    unfold x2
    refine Keeps.ite ?_ ?_
    · exact Keeps.refl _ _
    · refine Keeps.ite ?_ ?_
      · refine Keeps.step raise_keeps rfl ?_
        exact Keeps.widen (upd_trust (TrustKeeps.of rfl rfl rfl rfl)) rfl
      · refine Keeps.step raise_keeps rfl ?_
        exact Keeps.widen (upd_trust (TrustKeeps.of rfl rfl rfl rfl)) rfl
  clear_value x2
  have k7 : Keeps 263241 s x4 := by
    unfold x4
    refine Keeps.ite ?_ ?_
    · exact Keeps.step (upd_trust (TrustKeeps.of rfl rfl rfl rfl)) rfl ‹_›
    · assumption
  clear_value x4
  clear_value x1
  split
  · rename_i y8 y9 y10 y11
    refine Keeps.mkSnd ?_
    exact Keeps.step raise_keeps rfl ‹_›
  · rename_i y12 y13
    refine Keeps.mkSnd ?_
    exact Keeps.step (upd_trust (TrustKeeps.of rfl rfl rfl rfl)) rfl ‹_›

theorem bootImages_keeps {s} : Keeps 13630937 s (bootImages s).2 := by
  unfold bootImages
  extract_lets x0 x1 x2 x3
  have k4 : Keeps 13630937 s x2 := by
    unfold x2
    refine Keeps.ite ?_ ?_
    · exact Keeps.widen (upd_trust (TrustKeeps.of rfl rfl rfl rfl)) rfl
    · exact Keeps.widen (upd_trust (TrustKeeps.of rfl rfl rfl rfl)) rfl
  clear_value x2
  clear_value x0 x3
  split
  · rename_i y5 y6 y7
    have k8 : Keeps 13630937 s y6 := by
      refine Keeps.ofSnd y7 ?_
      exact Keeps.step bootSlot_keeps rfl ‹_›
    refine Keeps.mkSnd ?_
    refine Keeps.ite ?_ ?_
    · exact Keeps.step raise_keeps rfl ‹_›
    · assumption
  · rename_i y9 y10 y11 y12
    have k13 : Keeps 13630937 s y11 := by
      refine Keeps.ofSnd y12 ?_
      exact Keeps.step bootSlot_keeps rfl ‹_›
    split
    · rename_i y14 y15 y16
      have k17 : Keeps 13630937 s y15 := by
        refine Keeps.ofSnd y16 ?_
        exact Keeps.step bootSlot_keeps rfl ‹_›
      extract_lets x18 x19
      clear_value x18
      refine Keeps.mkSnd ?_
      refine Keeps.step raise_keeps rfl ?_
      exact Keeps.step (upd_trust (TrustKeeps.of rfl rfl rfl rfl)) rfl ‹_›
    · rename_i y20 y21 y22 y23
      have k24 : Keeps 13630937 s y22 := by
        refine Keeps.ofSnd y23 ?_
        exact Keeps.step bootSlot_keeps rfl ‹_›
      refine Keeps.mkSnd ?_
      refine Keeps.step fatalEvent_keeps rfl ?_
      exact Keeps.step (upd_pwr_trust (TrustKeeps.of rfl rfl rfl rfl)) rfl ‹_›

theorem keysUnwrap_keeps {a0 s} : Keeps 786505 s (keysUnwrap a0 s) := by
  unfold keysUnwrap
  extract_lets x0 x1
  have k2 : Keeps 786505 s x1 := by
    unfold x1
    exact Keeps.widen upd_ks rfl
  clear_value x1
  clear_value x0
  refine Keeps.foldl ?_ (fun t3 x4 k5 => ?_)
  · assumption
  · refine Keeps.ite ?_ ?_
    · exact Keeps.step upd_ks rfl ‹_›
    · exact Keeps.step raise_keeps rfl ‹_›

theorem certsRenew_keeps {a0 s} : Keeps 1024 s (certsRenew a0 s) := by
  unfold certsRenew
  refine Keeps.ite ?_ ?_
  · exact Keeps.refl _ _
  · refine Keeps.step fbRequest_keeps rfl ?_
    exact Keeps.widen fbRequest_keeps rfl

theorem spareOut_keeps {a0 a1 a2 a3 s} : Keeps 262217 s (spareOut a0 a1 a2 a3 s).2 := by
  unfold spareOut
  refine Keeps.foldlSnd ?_ (fun t0 x1 k2 => ?_)
  · refine Keeps.mkSnd ?_
    exact Keeps.refl _ _
  · split
    · rename_i y3 y4 y5 y6
      refine Keeps.iteSnd ?_ ?_
      · refine Keeps.mkSnd ?_
        assumption
      · split
        · rename_i y7 y8 y9
          refine Keeps.mkSnd ?_
          exact Keeps.step raise_keeps rfl ‹_›
        · rename_i y10 y11
          refine Keeps.mkSnd ?_
          exact Keeps.step raise_keeps rfl ‹_›

theorem selfTests_keeps {a0 s} : Keeps 14680025 s (selfTests a0 s) := by
  unfold selfTests
  split
  · rename_i y0 y1 y2 y3 y4
    have k5 : Keeps 14680025 s y3 := by
      refine Keeps.ofSnd y4 ?_
      exact Keeps.widen spareOut_keeps rfl
    split
    · rename_i y6 y7 y8 y9 y10
      have k11 : Keeps 14680025 s y9 := by
        refine Keeps.ofSnd y10 ?_
        exact Keeps.step spareOut_keeps rfl ‹_›
      extract_lets x12 x13 x14 x15 x16 x17 x18 x19 x20 x21 x22 x23 x24
      have k25 : Keeps 14680025 s x15 := by
        unfold x15
        refine Keeps.foldl ?_ (fun t26 x27 k28 => ?_)
        · assumption
        · exact Keeps.step raise_keeps rfl ‹_›
      clear_value x15
      have k29 : Keeps 14680025 s x16 := by
        unfold x16
        refine Keeps.foldl ?_ (fun t30 x31 k32 => ?_)
        · assumption
        · exact Keeps.step raise_keeps rfl ‹_›
      clear_value x16
      have k33 : Keeps 14680025 s x17 := by
        unfold x17
        refine Keeps.foldl ?_ (fun t34 x35 k36 => ?_)
        · assumption
        · exact Keeps.step raise_keeps rfl ‹_›
      clear_value x17
      have k37 : Keeps 14680025 s x20 := by
        unfold x20
        exact Keeps.step upd_arch_store rfl ‹_›
      clear_value x20
      have k38 : Keeps 14680025 s x22 := by
        unfold x22
        refine Keeps.ite ?_ ?_
        · refine Keeps.step fatalEvent_keeps rfl ?_
          exact Keeps.step upd_pwr rfl ‹_›
        · assumption
      clear_value x22
      have k39 : Keeps 14680025 s x24 := by
        unfold x24
        refine Keeps.ite ?_ ?_
        · refine Keeps.step allGatesOff_keeps rfl ?_
          refine Keeps.step fatalEvent_keeps rfl ?_
          exact Keeps.step upd_pwr rfl ‹_›
        · assumption
      clear_value x24
      clear_value x12 x13 x14 x18 x19 x21 x23
      refine Keeps.foldl ?_ (fun t40 x41 k42 => ?_)
      · assumption
      · exact Keeps.step laneFail_keeps rfl ‹_›

theorem memoryTrain_keeps {a0 s} : Keeps 13631449 s (memoryTrain a0 s) := by
  unfold memoryTrain
  extract_lets x0 x1 x2 x3 x4 x5 x6 x7 x8 x9 x10
  have k11 : Keeps 13631449 s x3 := by
    unfold x3
    refine Keeps.foldl ?_ (fun t12 x13 k14 => ?_)
    · exact Keeps.refl _ _
    · refine Keeps.step wrAt_keeps rfl ?_
      exact Keeps.step wrAt_keeps rfl ‹_›
  clear_value x3
  have k15 : Keeps 13631449 s x5 := by
    unfold x5
    exact Keeps.step upd_arch rfl ‹_›
  clear_value x5
  have k16 : Keeps 13631449 s x6 := by
    unfold x6
    refine Keeps.step wr_keeps rfl ?_
    exact Keeps.step wr_keeps rfl ‹_›
  clear_value x6
  have k17 : Keeps 13631449 s x10 := by
    unfold x10
    refine Keeps.ite ?_ ?_
    · refine Keeps.step fatalStop_keeps rfl ?_
      refine Keeps.step raiseSev_keeps rfl ?_
      exact Keeps.step upd_pwr rfl ‹_›
    · refine Keeps.foldl ?_ (fun t18 x19 k20 => ?_)
      · assumption
      · exact Keeps.step raiseSev_keeps rfl ‹_›
  clear_value x10
  clear_value x0 x1 x2 x4 x7 x8 x9
  refine Keeps.foldl ?_ (fun t21 x22 k23 => ?_)
  · assumption
  · refine Keeps.step fatalEvent_keeps rfl ?_
    exact Keeps.step upd_pwr rfl ‹_›

theorem bootEntry_keeps {s} : Keeps 1024 s (bootEntry s) := by
  unfold bootEntry
  refine Keeps.ite ?_ ?_
  · exact Keeps.widen fbRequest_keeps rfl
  · exact Keeps.widen fbRequest_keeps rfl

theorem banksLoad_keeps {s} : Keeps 2097152 s (banksLoad s) := by
  unfold banksLoad
  extract_lets x0 x1 x2
  clear_value x0 x1 x2
  exact Keeps.widen upd_net rfl

theorem adoptBay_keeps {a0 a1 s} : Keeps 8388608 s (adoptBay a0 a1 s) := by
  unfold adoptBay
  refine Keeps.ite ?_ ?_
  · exact Keeps.refl _ _
  · exact Keeps.widen setBay_keeps rfl

theorem releasePower_keeps {s} : Keeps 257 s (releasePower s) := by
  unfold releasePower
  refine Keeps.step wr_keeps rfl ?_
  exact Keeps.widen upd_pwr rfl

theorem releaseUnits_keeps {s} : Keeps 8683520 s (releaseUnits s) := by
  unfold releaseUnits
  exact Keeps.widen upd_pair_ep_bay rfl

theorem releaseRails_keeps {s} : Keeps 264 s (releaseRails s) := by
  unfold releaseRails
  extract_lets x0 x1 x2
  have k3 : Keeps 264 s x1 := by
    unfold x1
    exact Keeps.widen upd_pwr rfl
  clear_value x1
  clear_value x0 x2
  refine Keeps.ite ?_ ?_
  · refine Keeps.step drive_keeps rfl ?_
    exact Keeps.step upd_pwr rfl ‹_›
  · assumption

theorem releaseEngines_keeps {s} : Keeps 16775513 s (releaseEngines s) := by
  unfold releaseEngines
  refine Keeps.ite ?_ ?_
  · exact Keeps.refl _ _
  · extract_lets x0 x1
    have k2 : Keeps 16775513 s x0 := by
      unfold x0
      refine Keeps.step banksLoad_keeps rfl ?_
      exact Keeps.widen releasePower_keeps rfl
    clear_value x0
    have k3 : Keeps 16775513 s x1 := by
      unfold x1
      exact Keeps.step platEntries_keeps rfl ‹_›
    clear_value x1
    refine Keeps.step assemblyCheck_keeps rfl ?_
    refine Keeps.step ideEval_keeps rfl ?_
    refine Keeps.step raise_keeps rfl ?_
    refine Keeps.step releaseRails_keeps rfl ?_
    exact Keeps.step releaseUnits_keeps rfl ‹_›

theorem coldHold_keeps {a0 s} : Keeps 16777199 s (coldHold a0 s) := by
  unfold coldHold
  extract_lets t tr d plat s1 s2 s3
  have k1 : Keeps 16250958 s s1 := by
    unfold s1
    refine Keeps.ite ?_ (Keeps.refl _ _)
    exact Keeps.widen drive_keeps rfl
  have k2 : Keeps 16250958 s s2 := by
    unfold s2
    refine Keeps.ite ?_ k1
    exact Keeps.step drive_keeps rfl k1
  have k3 : Keeps 16250958 s s3 := by
    unfold s3
    exact Keeps.step enginesLost_keeps rfl k2
  have e : s3.trust = s.trust := k3.trust rfl
  have ht : TrustKeeps s3.trust tr := by
    rw [e]
    exact TrustKeeps.of rfl rfl rfl rfl
  exact Keeps.step (upd_regs_time_evt_datum_pwr_arch_trust_ks_bay (fun _ => rfl) ht) rfl (k3.widen rfl)

theorem pairBegin_keeps {s} : Keeps 32768 s (pairBegin s) := by
  unfold pairBegin
  exact upd_pair

theorem coldStart_keeps {a0 s} : Keeps 14680057 s (coldStart a0 s) := by
  unfold coldStart
  extract_lets x0 x1 x2 x3 x4 x5 x6 x7 x8 x9 x10 x11
  have k12 : Keeps 14680057 s x1 := by
    unfold x1
    refine Keeps.ite ?_ ?_
    · exact Keeps.widen upd_pwr rfl
    · exact Keeps.refl _ _
  clear_value x1
  have k13 : Keeps 14680057 s x5 := by
    unfold x5
    exact Keeps.step (upd_time_pwr_trust ⟨fun _ => Nat.le_refl _, List.prefix_refl _, Nat.le_refl _, Nat.le_succ _⟩) rfl ‹_›
  clear_value x5
  have k14 : Keeps 14680057 s x6 := by
    unfold x6
    exact Keeps.step wr_keeps rfl ‹_›
  clear_value x6
  have k15 : Keeps 14680057 s x9 := by
    unfold x9
    refine Keeps.step fatalEvent_keeps rfl ?_
    exact Keeps.step upd_pwr rfl ‹_›
  clear_value x9
  clear_value x0 x2 x3 x7 x8 x11
  refine Keeps.ite ?_ ?_
  · refine Keeps.step fatalEvent_keeps rfl ?_
    exact Keeps.step upd_pwr_arch rfl ‹_›
  · refine Keeps.ite ?_ ?_
    · split
      · rename_i y16 y17 y18 y19
        have k20 : Keeps 14680057 s y18 := by
          refine Keeps.ofSnd y19 ?_
          exact Keeps.step drawFree_keeps rfl ‹_›
        exact Keeps.step fbRequest_keeps rfl ‹_›
    · split
      · rename_i y21 y22 y23 y24
        have k25 : Keeps 14680057 s y23 := by
          refine Keeps.ofSnd y24 ?_
          exact Keeps.step drbgDraw_keeps rfl ‹_›
        extract_lets x26 x27
        have k28 : Keeps 14680057 s x27 := by
          unfold x27
          exact Keeps.step (upd_trust (TrustKeeps.of rfl rfl rfl rfl)) rfl ‹_›
        clear_value x27
        split
        · rename_i y29 y30 y31
          have k32 : Keeps 14680057 s y30 := by
            refine Keeps.ofSnd y31 ?_
            exact Keeps.step bootImages_keeps rfl ‹_›
          assumption
        · rename_i y33 y34 y35
          have k36 : Keeps 14680057 s y34 := by
            refine Keeps.ofSnd y35 ?_
            exact Keeps.step bootImages_keeps rfl ‹_›
          extract_lets x37 x38 x39 x40 x41 x42 x43
          have k44 : Keeps 14680057 s x37 := by
            unfold x37
            refine Keeps.step keysUnwrap_keeps rfl ?_
            refine Keeps.step pairBegin_keeps rfl ?_
            refine Keeps.step rwlLoad_keeps rfl ?_
            refine Keeps.step datumBoot_keeps rfl ?_
            exact Keeps.step datumMend_keeps rfl ‹_›
          clear_value x37
          have k45 : Keeps 14680057 s x39 := by
            unfold x39
            exact Keeps.step upd_evt rfl ‹_›
          clear_value x39
          have k46 : Keeps 14680057 s x40 := by
            unfold x40
            refine Keeps.step memoryTrain_keeps rfl ?_
            exact Keeps.step selfTests_keeps rfl ‹_›
          clear_value x40
          have k47 : Keeps 14680057 s x42 := by
            unfold x42
            refine Keeps.ite ?_ ?_
            · refine Keeps.step bump_keeps rfl ?_
              refine Keeps.step fbRequest_keeps rfl ?_
              exact Keeps.step (upd_trust (TrustKeeps.of rfl rfl rfl rfl)) rfl ‹_›
            · assumption
          clear_value x42
          have k48 : Keeps 14680057 s x43 := by
            unfold x43
            refine Keeps.foldl ?_ (fun t49 x50 k51 => ?_)
            · assumption
            · exact Keeps.step adoptBay_keeps rfl ‹_›
          clear_value x43
          clear_value x38
          refine Keeps.step bootEntry_keeps rfl ?_
          exact Keeps.step certsRenew_keeps rfl ‹_›

theorem execColdReset_keeps {a0 s} : KeepsR 14680057 s (execColdReset a0 s) := by
  unfold execColdReset
  refine KeepsR.next ?_
  refine Keeps.ite ?_ ?_
  · exact Keeps.widen coldStart_keeps rfl
  · exact Keeps.refl _ _

theorem warmReset_keeps {a0 s} : Keeps 16776671 s (warmReset a0 s) := by
  unfold warmReset
  extract_lets s1 cause kept s2 e1 e2 e3 e4 e5 s3 s4 s5
  have k1 : Keeps 16776671 s s1 := by
    unfold s1
    exact Keeps.widen surpriseRemoval_keeps rfl
  have e2 : s2.trust = s1.trust := (enginesLost_keeps (s := s1)).trust rfl
  have k2 : Keeps 16776671 s s2 := Keeps.step enginesLost_keeps rfl k1
  have ht : TrustKeeps s2.trust { kept.trust with confirmed := false } := by
    rw [e2]
    exact TrustKeeps.of rfl rfl rfl rfl
  have k3 : Keeps 16776671 s s3 :=
    Keeps.step (upd_regs_evt_datum_pwr_trust_store_pair_ks_ciph (fun h => trising_tfilter h _) ht) rfl k2
  have k4 : Keeps 16776671 s s4 := by
    unfold s4
    refine Keeps.step bump_keeps rfl ?_
    exact Keeps.ite k3 (Keeps.step wr_keeps rfl k3)
  have k5 : Keeps 16776671 s s5 := Keeps.step updateEventN_keeps rfl (Keeps.step datumMend_keeps rfl k4)
  clear_value s5
  split
  · refine Keeps.step bootEntry_keeps rfl ?_
    exact Keeps.step (upd_trust measureSlot_lasting) rfl k5
  · split
    · rename_i s6 heq
      have k6 : Keeps 16776671 s s6 := Keeps.ofSnd heq (Keeps.step bootSlot_keeps rfl (Keeps.step raise_keeps rfl k5))
      refine Keeps.step bootEntry_keeps rfl ?_
      refine Keeps.step raise_keeps rfl ?_
      exact Keeps.step (upd_trust (TrustKeeps.of rfl rfl rfl rfl)) rfl k6
    · rename_i s6 heq
      have k6 : Keeps 16776671 s s6 := Keeps.ofSnd heq (Keeps.step bootSlot_keeps rfl (Keeps.step raise_keeps rfl k5))
      exact Keeps.step fatalEvent_keeps rfl (Keeps.step (upd_pwr_trust (TrustKeeps.of rfl rfl rfl rfl)) rfl k6)

end Sys2Proof.Machine
end

