-- ==== Sys2Proof/Laws/KeepsDatum.lean ====
section
/-!
SUPPORT. Laws/KeepsDatum.lean: which units of the state each operation of Machine/Datum.lean may change: one `Keeps` lemma each.
-/
namespace Sys2Proof.Machine

theorem startClosure_keeps {a0 a1 a2 s} : Keeps 1152 s (startClosure a0 a1 a2 s) := by
  unfold startClosure
  refine Keeps.step fbRequest_keeps rfl ?_
  exact Keeps.widen upd_datum rfl

theorem commitOp_keeps {s} : Keeps 263369 s (commitOp s) := by
  unfold commitOp
  refine Keeps.ite ?_ ?_
  · exact Keeps.refl _ _
  · split
    · rename_i y0 y1 y2 y3
      exact Keeps.widen datumRefuse_keeps rfl
    · rename_i y4 y5 y6 y7
      exact Keeps.refl _ _
    · rename_i y8 y9 y10 y11 y12
      split
      · rename_i y13 y14 y15
        refine Keeps.step datumRefuse_keeps rfl ?_
        exact Keeps.widen errLast_keeps rfl
      · rename_i y16 y17
        exact Keeps.widen startClosure_keeps rfl

theorem execCommit_keeps {a0 s} : KeepsR 263369 s (execCommit a0 s) := by
  unfold execCommit
  refine KeepsR.next ?_
  refine Keeps.trans ?_ (cmdWrite_keeps (M := 263369) rfl ?_)
  · exact Keeps.refl _ _
  · intro v0
    exact Keeps.widen commitOp_keeps rfl

theorem confirmOp_keeps {s} : Keeps 263369 s (confirmOp s) := by
  unfold confirmOp
  refine Keeps.ite ?_ ?_
  · exact Keeps.refl _ _
  · refine Keeps.ite ?_ ?_
    · exact Keeps.widen datumRefuse_keeps rfl
    · refine Keeps.ite ?_ ?_
      · exact Keeps.widen datumRefuse_keeps rfl
      · exact Keeps.widen fbRequest_keeps rfl

theorem execConfirm_keeps {a0 s} : KeepsR 263369 s (execConfirm a0 s) := by
  unfold execConfirm
  refine KeepsR.next ?_
  refine Keeps.trans ?_ (cmdWrite_keeps (M := 263369) rfl ?_)
  · exact Keeps.refl _ _
  · intro v0
    exact Keeps.widen confirmOp_keeps rfl

theorem execConfirmExpire_keeps {s} : KeepsR 1152 s (execConfirmExpire s) := by
  unfold execConfirmExpire
  split
  · rename_i y0 y1
    refine KeepsR.next ?_
    exact Keeps.refl _ _
  · rename_i y2 y3 y4
    refine KeepsR.ite ?_ ?_
    · refine KeepsR.next ?_
      exact Keeps.refl _ _
    · refine KeepsR.next ?_
      exact Keeps.widen startClosure_keeps rfl

theorem revertOp_keeps {s} : Keeps 263369 s (revertOp s) := by
  unfold revertOp
  refine Keeps.ite ?_ ?_
  · exact Keeps.refl _ _
  · refine Keeps.ite ?_ ?_
    · exact Keeps.widen datumRefuse_keeps rfl
    · split
      · rename_i y0 y1
        exact Keeps.widen datumRefuse_keeps rfl
      · rename_i y2 y3 y4
        refine Keeps.ite ?_ ?_
        · exact Keeps.widen datumRefuse_keeps rfl
        · exact Keeps.widen startClosure_keeps rfl

theorem execRevert_keeps {a0 s} : KeepsR 263369 s (execRevert a0 s) := by
  unfold execRevert
  refine KeepsR.next ?_
  refine Keeps.trans ?_ (cmdWrite_keeps (M := 263369) rfl ?_)
  · exact Keeps.refl _ _
  · intro v0
    exact Keeps.widen revertOp_keeps rfl

theorem discardOp_keeps {s} : Keeps 262345 s (discardOp s) := by
  unfold discardOp
  refine Keeps.ite ?_ ?_
  · exact Keeps.refl _ _
  · refine Keeps.ite ?_ ?_
    · exact Keeps.widen datumRefuse_keeps rfl
    · refine Keeps.step datumDone_keeps rfl ?_
      exact Keeps.widen upd_datum rfl

theorem execDiscard_keeps {a0 s} : KeepsR 262345 s (execDiscard a0 s) := by
  unfold execDiscard
  refine KeepsR.next ?_
  refine Keeps.trans ?_ (cmdWrite_keeps (M := 262345) rfl ?_)
  · exact Keeps.refl _ _
  · intro v0
    exact Keeps.widen discardOp_keeps rfl

theorem sealOp_keeps {s} : Keeps 263369 s (sealOp s) := by
  unfold sealOp
  refine Keeps.ite ?_ ?_
  · exact Keeps.refl _ _
  · refine Keeps.ite ?_ ?_
    · exact Keeps.widen datumRefuse_keeps rfl
    · refine Keeps.ite ?_ ?_
      · exact Keeps.widen datumRefuse_keeps rfl
      · exact Keeps.widen fbRequest_keeps rfl

theorem execSeal_keeps {a0 s} : KeepsR 263369 s (execSeal a0 s) := by
  unfold execSeal
  refine KeepsR.next ?_
  refine Keeps.trans ?_ (cmdWrite_keeps (M := 263369) rfl ?_)
  · exact Keeps.refl _ _
  · intro v0
    exact Keeps.widen sealOp_keeps rfl

theorem loadOp_keeps {s} : Keeps 262345 s (loadOp s) := by
  unfold loadOp
  refine Keeps.ite ?_ ?_
  · exact Keeps.refl _ _
  · refine Keeps.ite ?_ ?_
    · exact Keeps.widen datumRefuse_keeps rfl
    · exact Keeps.widen upd_datum rfl

theorem execLoad_keeps {a0 s} : KeepsR 262345 s (execLoad a0 s) := by
  unfold execLoad
  refine KeepsR.next ?_
  refine Keeps.trans ?_ (cmdWrite_keeps (M := 262345) rfl ?_)
  · exact Keeps.refl _ _
  · intro v0
    exact Keeps.widen loadOp_keeps rfl

theorem execLoadDone_keeps {s} : KeepsR 262345 s (execLoadDone s) := by
  unfold execLoadDone
  refine KeepsR.ite ?_ ?_
  · refine KeepsR.next ?_
    exact Keeps.refl _ _
  · extract_lets x0 x1 x2 x3
    have k4 : Keeps 262345 s x1 := by
      unfold x1
      exact Keeps.widen upd_datum rfl
    clear_value x1
    clear_value x0 x2 x3
    split
    · rename_i y5 y6 y7
      refine KeepsR.next ?_
      exact Keeps.step datumRefuse_keeps rfl ‹_›
    · rename_i y8 y9
      refine KeepsR.next ?_
      refine Keeps.step datumDone_keeps rfl ?_
      exact Keeps.step upd_datum rfl ‹_›

theorem execQuiesceRetry_keeps {s} : KeepsR 2360521 s (execQuiesceRetry s) := by
  unfold execQuiesceRetry
  split
  · rename_i y0 y1 y2 y3 y4
    refine KeepsR.ite ?_ ?_
    · refine KeepsR.next ?_
      exact Keeps.refl _ _
    · extract_lets x5 x6 x7 x8 x9 x10 x11
      have k12 : Keeps 2360521 s x6 := by
        unfold x6
        exact Keeps.widen bump_keeps rfl
      clear_value x6
      have k13 : Keeps 2360521 s x8 := by
        unfold x8
        exact Keeps.step upd_datum rfl ‹_›
      clear_value x8
      have k14 : Keeps 2360521 s x9 := by
        unfold x9
        exact Keeps.step fbRequest_keeps rfl ‹_›
      clear_value x9
      have k15 : Keeps 2360521 s x10 := by
        unfold x10
        exact Keeps.step raise_keeps rfl ‹_›
      clear_value x10
      have k16 : Keeps 2360521 s x11 := by
        unfold x11
        refine Keeps.ite ?_ ?_
        · exact Keeps.step actReturn_keeps rfl ‹_›
        · assumption
      clear_value x11
      clear_value x5 x7
      refine KeepsR.ite ?_ ?_
      · refine KeepsR.next ?_
        exact Keeps.step upd_datum rfl ‹_›
      · refine KeepsR.next ?_
        refine Keeps.step feed_keeps rfl ?_
        exact Keeps.step datumRefuse_keeps rfl ‹_›
  · rename_i y17 y18 y19
    refine KeepsR.next ?_
    exact Keeps.refl _ _

theorem swapDatum_keeps {a0 a1 a2 s} : Keeps 129 s (swapDatum a0 a1 a2 s) := by
  unfold swapDatum
  extract_lets x0 x1 x2
  clear_value x0 x1 x2
  split
  · rename_i y3
    refine Keeps.step bump_keeps rfl ?_
    exact Keeps.widen upd_datum rfl
  · rename_i y4
    exact Keeps.widen upd_datum rfl
  · rename_i y5
    refine Keeps.step bump_keeps rfl ?_
    exact Keeps.widen upd_datum rfl
  · rename_i y6
    refine Keeps.step bump_keeps rfl ?_
    exact Keeps.widen upd_datum rfl

theorem closureEvent_keeps {a0 a1 a2 a3 s} : Keeps 262217 s (closureEvent a0 a1 a2 a3 s) := by
  unfold closureEvent
  split
  · rename_i y0
    exact Keeps.widen raise_keeps rfl
  · rename_i y1
    exact Keeps.refl _ _
  · rename_i y2
    exact Keeps.widen raise_keeps rfl
  · rename_i y3
    exact Keeps.widen raise_keeps rfl

theorem execClosure_keeps {a0 s} : KeepsR 16776665 s (execClosure a0 s) := by
  unfold execClosure
  split
  · rename_i y0 y1 y2 y3 y4
    refine KeepsR.ite ?_ ?_
    · refine KeepsR.next ?_
      exact Keeps.refl _ _
    · extract_lets x5 x6 x7 x8 x9 x10
      have k11 : Keeps 16776665 s x7 := by
        unfold x7
        exact Keeps.widen swapDatum_keeps rfl
      clear_value x7
      have k12 : Keeps 16776665 s x9 := by
        unfold x9
        exact Keeps.step upd_datum rfl ‹_›
      clear_value x9
      have k13 : Keeps 16776665 s x10 := by
        unfold x10
        refine Keeps.step closureEvent_keeps rfl ?_
        exact Keeps.step onClosure_keeps rfl ‹_›
      clear_value x10
      clear_value x5 x6 x8
      refine KeepsR.next ?_
      refine Keeps.ite ?_ ?_
      · exact Keeps.step actFinish_keeps rfl ‹_›
      · assumption
  · rename_i y14 y15 y16
    refine KeepsR.next ?_
    exact Keeps.refl _ _

end Sys2Proof.Machine
end

