-- ==== Sys2Proof/Laws/KeepsEopOps.lean ====
section
/-!
SUPPORT. Laws/KeepsEopOps.lean: which units of the state each operation of Machine/EopOps.lean may change: one `Keeps` lemma each.
-/
namespace Sys2Proof.Machine

theorem setEngine_keeps {a0 a1 s} : Keeps 2097152 s (setEngine a0 a1 s) := by
  unfold setEngine
  exact Keeps.widen upd_net rfl

theorem trapOp_keeps {a0 a1 a2 s} : Keeps 7667801 s (trapOp a0 a1 a2 s) := by
  unfold trapOp
  refine Keeps.step emitOp_keeps rfl ?_
  exact Keeps.widen bump_keeps rfl

theorem overrunOp_keeps {a0 a1 s} : Keeps 7667801 s (overrunOp a0 a1 s) := by
  unfold overrunOp
  extract_lets x0 x1
  have k2 : Keeps 7667801 s x0 := by
    unfold x0
    exact Keeps.widen bump_keeps rfl
  clear_value x0
  clear_value x1
  refine Keeps.ite ?_ ?_
  · exact Keeps.step trapOp_keeps rfl ‹_›
  · exact Keeps.step setEngine_keeps rfl ‹_›

theorem limitOp_keeps {a0 a1 s} : Keeps 7667801 s (limitOp a0 a1 s) := by
  unfold limitOp
  extract_lets x0 x1 x2 x3 x4
  have k5 : Keeps 7667801 s x1 := by
    unfold x1
    exact Keeps.widen bump_keeps rfl
  clear_value x1
  have k6 : Keeps 7667801 s x2 := by
    unfold x2
    exact Keeps.step raise_keeps rfl ‹_›
  clear_value x2
  clear_value x0 x3 x4
  exact Keeps.step emitOp_keeps rfl ‹_›

theorem runEop_keeps {a0 a1 a2 s} {M : Nat} (hM : 7667801 ||| M = M) (hf2 : ∀ v0 v1, Keeps M v1 (a2 v0 v1)) :
    Keeps M s (runEop a0 a1 a2 s) := by
  unfold runEop
  split
  · rename_i y0 y1
    exact Keeps.refl _ _
  · rename_i y2 y3 y4
    refine Keeps.ite ?_ ?_
    · exact Keeps.refl _ _
    · refine Keeps.ite ?_ ?_
      · exact Keeps.widen limitOp_keeps (orSub hM rfl)
      · apply hf2

theorem runReg_keeps {a0 a1 a2 s} : Keeps 7667801 s (runReg a0 a1 a2 s) := by
  unfold runReg
  refine Keeps.trans ?_ (runEop_keeps (M := 7667801) rfl ?_)
  · exact Keeps.refl _ _
  · intro v0 v1
    exact Keeps.widen setEngine_keeps rfl

theorem branch_keeps {a0 a1 a2 a3 s} : Keeps 2097152 s (branch a0 a1 a2 a3 s) := by
  unfold branch
  refine Keeps.ite ?_ ?_
  · exact Keeps.widen setEngine_keeps rfl
  · exact Keeps.widen setEngine_keeps rfl

theorem actOp_keeps {a0 a1 a2 s} : Keeps 2097152 s (actOp a0 a1 a2 s) := by
  unfold actOp
  extract_lets x0 x1
  clear_value x0 x1
  split
  · rename_i y2 y3 y4 y5
    exact Keeps.widen setEngine_keeps rfl

end Sys2Proof.Machine
end

