-- ==== Sys2Proof/Laws/KeepsEopin.lean ====
section
/-!
SUPPORT. Laws/KeepsEopin.lean: which units of the state each operation of Machine/Eopin.lean may change: one `Keeps` lemma each.
-/
namespace Sys2Proof.Machine

theorem execEopNop_keeps {a0 s} : KeepsR 7667801 s (execEopNop a0 s) := by
  unfold execEopNop
  refine KeepsR.next ?_
  exact Keeps.widen runReg_keeps rfl

theorem execEopExt_keeps {a0 a1 a2 a3 a4 s} : KeepsR 7667801 s (execEopExt a0 a1 a2 a3 a4 s) := by
  unfold execEopExt
  refine KeepsR.next ?_
  refine Keeps.trans ?_ (runEop_keeps (M := 7667801) rfl ?_)
  · exact Keeps.refl _ _
  · intro v0 v1
    split
    · rename_i y2 y3
      exact Keeps.widen overrunOp_keeps rfl
    · rename_i y4 y5 y6
      exact Keeps.widen setEngine_keeps rfl

theorem execEopMovi_keeps {a0 a1 a2 s} : KeepsR 7667801 s (execEopMovi a0 a1 a2 s) := by
  unfold execEopMovi
  refine KeepsR.next ?_
  exact Keeps.widen runReg_keeps rfl

theorem execEopAdd_keeps {a0 a1 a2 a3 s} : KeepsR 7667801 s (execEopAdd a0 a1 a2 a3 s) := by
  unfold execEopAdd
  refine KeepsR.next ?_
  exact Keeps.widen runReg_keeps rfl

theorem execEopAddw_keeps {a0 a1 a2 s} : KeepsR 7667801 s (execEopAddw a0 a1 a2 s) := by
  unfold execEopAddw
  refine KeepsR.next ?_
  exact Keeps.widen runReg_keeps rfl

theorem execEopSub_keeps {a0 a1 a2 a3 s} : KeepsR 7667801 s (execEopSub a0 a1 a2 a3 s) := by
  unfold execEopSub
  refine KeepsR.next ?_
  exact Keeps.widen runReg_keeps rfl

theorem execEopAnd_keeps {a0 a1 a2 a3 s} : KeepsR 7667801 s (execEopAnd a0 a1 a2 a3 s) := by
  unfold execEopAnd
  refine KeepsR.next ?_
  exact Keeps.widen runReg_keeps rfl

theorem execEopOr_keeps {a0 a1 a2 a3 s} : KeepsR 7667801 s (execEopOr a0 a1 a2 a3 s) := by
  unfold execEopOr
  refine KeepsR.next ?_
  exact Keeps.widen runReg_keeps rfl

theorem execEopShl_keeps {a0 a1 a2 a3 s} : KeepsR 7667801 s (execEopShl a0 a1 a2 a3 s) := by
  unfold execEopShl
  refine KeepsR.next ?_
  exact Keeps.widen runReg_keeps rfl

theorem execEopShr_keeps {a0 a1 a2 a3 s} : KeepsR 7667801 s (execEopShr a0 a1 a2 a3 s) := by
  unfold execEopShr
  refine KeepsR.next ?_
  exact Keeps.widen runReg_keeps rfl

theorem execEopMb_keeps {a0 a1 a2 a3 a4 a5 a6 s} : KeepsR 7667801 s (execEopMb a0 a1 a2 a3 a4 a5 a6 s) := by
  unfold execEopMb
  refine KeepsR.next ?_
  refine Keeps.trans ?_ (runEop_keeps (M := 7667801) rfl ?_)
  · exact Keeps.refl _ _
  · intro v0 v1
    split
    · rename_i y2 y3
      exact Keeps.widen overrunOp_keeps rfl
    · rename_i y4 y5 y6
      exact Keeps.widen branch_keeps rfl

theorem execEopMbn_keeps {a0 a1 a2 a3 a4 a5 a6 s} : KeepsR 7667801 s (execEopMbn a0 a1 a2 a3 a4 a5 a6 s) := by
  unfold execEopMbn
  refine KeepsR.next ?_
  refine Keeps.trans ?_ (runEop_keeps (M := 7667801) rfl ?_)
  · exact Keeps.refl _ _
  · intro v0 v1
    split
    · rename_i y2 y3
      exact Keeps.widen overrunOp_keeps rfl
    · rename_i y4 y5 y6
      exact Keeps.widen branch_keeps rfl

theorem execEopBeq_keeps {a0 a1 a2 a3 s} : KeepsR 7667801 s (execEopBeq a0 a1 a2 a3 s) := by
  unfold execEopBeq
  refine KeepsR.next ?_
  refine Keeps.trans ?_ (runEop_keeps (M := 7667801) rfl ?_)
  · exact Keeps.refl _ _
  · intro v0 v1
    exact Keeps.widen branch_keeps rfl

theorem execEopBne_keeps {a0 a1 a2 a3 s} : KeepsR 7667801 s (execEopBne a0 a1 a2 a3 s) := by
  unfold execEopBne
  refine KeepsR.next ?_
  refine Keeps.trans ?_ (runEop_keeps (M := 7667801) rfl ?_)
  · exact Keeps.refl _ _
  · intro v0 v1
    exact Keeps.widen branch_keeps rfl

theorem execEopBlt_keeps {a0 a1 a2 a3 s} : KeepsR 7667801 s (execEopBlt a0 a1 a2 a3 s) := by
  unfold execEopBlt
  refine KeepsR.next ?_
  refine Keeps.trans ?_ (runEop_keeps (M := 7667801) rfl ?_)
  · exact Keeps.refl _ _
  · intro v0 v1
    exact Keeps.widen branch_keeps rfl

theorem execEopJmp_keeps {a0 a1 s} : KeepsR 7667801 s (execEopJmp a0 a1 s) := by
  unfold execEopJmp
  refine KeepsR.next ?_
  refine Keeps.trans ?_ (runEop_keeps (M := 7667801) rfl ?_)
  · exact Keeps.refl _ _
  · intro v0 v1
    exact Keeps.widen branch_keeps rfl

theorem execEopJtab_keeps {a0 a1 a2 a3 s} : KeepsR 7667801 s (execEopJtab a0 a1 a2 a3 s) := by
  unfold execEopJtab
  refine KeepsR.next ?_
  refine Keeps.trans ?_ (runEop_keeps (M := 7667801) rfl ?_)
  · exact Keeps.refl _ _
  · intro v0 v1
    exact Keeps.widen branch_keeps rfl

theorem advance_keeps {a0 a1 a2 s} : Keeps 7667801 s (advance a0 a1 a2 s) := by
  unfold advance
  refine Keeps.ite ?_ ?_
  · exact Keeps.widen overrunOp_keeps rfl
  · exact Keeps.widen setEngine_keeps rfl

theorem execEopAdv_keeps {a0 a1 s} : KeepsR 7667801 s (execEopAdv a0 a1 s) := by
  unfold execEopAdv
  refine KeepsR.next ?_
  refine Keeps.trans ?_ (runEop_keeps (M := 7667801) rfl ?_)
  · exact Keeps.refl _ _
  · intro v0 v1
    exact Keeps.widen advance_keeps rfl

theorem execEopAdvw_keeps {a0 a1 a2 s} : KeepsR 7667801 s (execEopAdvw a0 a1 a2 s) := by
  unfold execEopAdvw
  refine KeepsR.next ?_
  refine Keeps.trans ?_ (runEop_keeps (M := 7667801) rfl ?_)
  · exact Keeps.refl _ _
  · intro v0 v1
    exact Keeps.widen advance_keeps rfl

theorem execEopMark_keeps {a0 a1 a2 a3 s} : KeepsR 7667801 s (execEopMark a0 a1 a2 a3 s) := by
  unfold execEopMark
  refine KeepsR.next ?_
  exact Keeps.widen runReg_keeps rfl

theorem keyUnstated_keeps {a0 a1 s} : Keeps 2097168 s (keyUnstated a0 a1 s) := by
  unfold keyUnstated
  split
  · rename_i y0 y1 y2 y3
    have k4 : Keeps 2097168 s y2 := by
      refine Keeps.ofSnd y3 ?_
      exact Keeps.widen drawFree_keeps rfl
    exact Keeps.step setEngine_keeps rfl ‹_›

theorem execEopKey_keeps {a0 a1 a2 a3 a4 s} : KeepsR 7667801 s (execEopKey a0 a1 a2 a3 a4 s) := by
  unfold execEopKey
  refine KeepsR.next ?_
  refine Keeps.trans ?_ (runEop_keeps (M := 7667801) rfl ?_)
  · exact Keeps.refl _ _
  · intro v0 v1
    split
    · rename_i y2 y3
      exact Keeps.widen overrunOp_keeps rfl
    · rename_i y4 y5 y6
      refine Keeps.ite ?_ ?_
      · exact Keeps.widen keyUnstated_keeps rfl
      · exact Keeps.widen setEngine_keeps rfl

theorem execEopKeyw_keeps {a0 a1 a2 s} : KeepsR 7667801 s (execEopKeyw a0 a1 a2 s) := by
  unfold execEopKeyw
  refine KeepsR.next ?_
  refine Keeps.trans ?_ (runEop_keeps (M := 7667801) rfl ?_)
  · exact Keeps.refl _ _
  · intro v0 v1
    refine Keeps.ite ?_ ?_
    · exact Keeps.widen keyUnstated_keeps rfl
    · exact Keeps.widen setEngine_keeps rfl

theorem hashUnstated_keeps {a0 a1 a2 s} : Keeps 2097168 s (hashUnstated a0 a1 a2 s) := by
  unfold hashUnstated
  split
  · rename_i y0 y1 y2 y3
    have k4 : Keeps 2097168 s y2 := by
      refine Keeps.ofSnd y3 ?_
      exact Keeps.widen drawFree_keeps rfl
    exact Keeps.step setEngine_keeps rfl ‹_›

theorem execEopHash_keeps {a0 a1 a2 a3 s} : KeepsR 7667801 s (execEopHash a0 a1 a2 a3 s) := by
  unfold execEopHash
  refine KeepsR.next ?_
  refine Keeps.trans ?_ (runEop_keeps (M := 7667801) rfl ?_)
  · exact Keeps.refl _ _
  · intro v0 v1
    split
    · rename_i y2 y3
      exact Keeps.widen overrunOp_keeps rfl
    · rename_i y4 y5 y6
      refine Keeps.ite ?_ ?_
      · exact Keeps.widen hashUnstated_keeps rfl
      · exact Keeps.widen setEngine_keeps rfl

theorem execEopHashw_keeps {a0 a1 s} : KeepsR 7667801 s (execEopHashw a0 a1 s) := by
  unfold execEopHashw
  refine KeepsR.next ?_
  refine Keeps.trans ?_ (runEop_keeps (M := 7667801) rfl ?_)
  · exact Keeps.refl _ _
  · intro v0 v1
    exact Keeps.widen setEngine_keeps rfl

theorem execEopLook_keeps {a0 a1 a2 s} : KeepsR 7667801 s (execEopLook a0 a1 a2 s) := by
  unfold execEopLook
  refine KeepsR.next ?_
  refine Keeps.trans ?_ (runEop_keeps (M := 7667801) rfl ?_)
  · exact Keeps.refl _ _
  · intro v0 v1
    split
    · rename_i y2 y3 y4 y5
      have k6 : Keeps 7667801 v1 y4 := by
        refine Keeps.ofSnd y5 ?_
        split
        · rename_i y7 y8 y9
          refine Keeps.mkSnd ?_
          exact Keeps.refl _ _
        · rename_i y10 y11
          exact Keeps.widen drawFree_keeps rfl
      extract_lets x12
      clear_value x12
      exact Keeps.step setEngine_keeps rfl ‹_›

theorem execEopAct_keeps {a0 s} : KeepsR 7667801 s (execEopAct a0 s) := by
  unfold execEopAct
  refine KeepsR.next ?_
  refine Keeps.trans ?_ (runEop_keeps (M := 7667801) rfl ?_)
  · exact Keeps.refl _ _
  · intro v0 v1
    split
    · rename_i y2 y3 y4
      exact Keeps.widen actOp_keeps rfl
    · rename_i y5 y6
      exact Keeps.widen setEngine_keeps rfl

theorem execClassifierLookupDone_keeps {a0 s} : KeepsR 2097153 s (execClassifierLookupDone a0 s) := by
  unfold execClassifierLookupDone
  refine KeepsR.next ?_
  split
  · rename_i y0 y1
    exact Keeps.refl _ _
  · rename_i y2 y3 y4
    split
    · rename_i y5 y6 y7 y8 y9
      split
      · rename_i y10 y11 y12 y13
        have k14 : Keeps 2097153 s y12 := by
          refine Keeps.ofSnd y13 ?_
          exact Keeps.widen lookupRun_keeps rfl
        refine Keeps.ite ?_ ?_
        · exact Keeps.step actOp_keeps rfl ‹_›
        · exact Keeps.step setEngine_keeps rfl ‹_›
    · rename_i y15 y16 y17
      exact Keeps.refl _ _

theorem execEopSetf_keeps {a0 a1 a2 s} : KeepsR 7667801 s (execEopSetf a0 a1 a2 s) := by
  unfold execEopSetf
  refine KeepsR.next ?_
  exact Keeps.widen runReg_keeps rfl

theorem execEopSetw_keeps {a0 a1 a2 s} : KeepsR 7667801 s (execEopSetw a0 a1 a2 s) := by
  unfold execEopSetw
  refine KeepsR.next ?_
  exact Keeps.widen runReg_keeps rfl

theorem execEopEmit_keeps {a0 s} : KeepsR 7667801 s (execEopEmit a0 s) := by
  unfold execEopEmit
  refine KeepsR.next ?_
  refine Keeps.trans ?_ (runEop_keeps (M := 7667801) rfl ?_)
  · exact Keeps.refl _ _
  · intro v0 v1
    exact Keeps.widen emitOp_keeps rfl

theorem execEopTrap_keeps {a0 a1 s} : KeepsR 7667801 s (execEopTrap a0 a1 s) := by
  unfold execEopTrap
  refine KeepsR.next ?_
  refine Keeps.trans ?_ (runEop_keeps (M := 7667801) rfl ?_)
  · exact Keeps.refl _ _
  · intro v0 v1
    exact Keeps.widen trapOp_keeps rfl

theorem execEopinCycleLimit_keeps {a0 s} : KeepsR 7667801 s (execEopinCycleLimit a0 s) := by
  unfold execEopinCycleLimit
  refine KeepsR.next ?_
  split
  · rename_i y0 y1
    exact Keeps.refl _ _
  · rename_i y2 y3 y4
    refine Keeps.ite ?_ ?_
    · exact Keeps.widen limitOp_keeps rfl
    · exact Keeps.refl _ _

end Sys2Proof.Machine
end

