-- ==== Sys2Proof/Laws/KeepsEp.lean ====
section
/-!
SUPPORT. Laws/KeepsEp.lean: which units of the state each operation of Machine/Ep.lean may change: one `Keeps` lemma each.
-/
namespace Sys2Proof.Machine

theorem execEpPerstNAssert_keeps {s} : KeepsR 9957449 s (execEpPerstNAssert s) := by
  unfold execEpPerstNAssert
  refine KeepsR.next ?_
  extract_lets x0 x1
  have k2 : Keeps 9957449 s x0 := by
    unfold x0
    exact Keeps.widen surpriseRemoval_keeps rfl
  clear_value x0
  clear_value x1
  exact Keeps.step upd_ep rfl ‹_›

theorem execEpLinkDown_keeps {s} : KeepsR 9957449 s (execEpLinkDown s) := by
  unfold execEpLinkDown
  refine KeepsR.next ?_
  exact Keeps.widen surpriseRemoval_keeps rfl

theorem execEpPerstNRelease_keeps {s} : KeepsR 262144 s (execEpPerstNRelease s) := by
  unfold execEpPerstNRelease
  refine KeepsR.next ?_
  exact Keeps.widen upd_ep rfl

theorem execEpLinkUp_keeps {a0 a1 a2 s} : KeepsR 9957465 s (execEpLinkUp a0 a1 a2 s) := by
  unfold execEpLinkUp
  refine KeepsR.next ?_
  refine Keeps.ite ?_ ?_
  · exact Keeps.refl _ _
  · extract_lets x0 x1
    have k2 : Keeps 9957465 s x1 := by
      unfold x1
      exact Keeps.widen upd_ep rfl
    clear_value x1
    clear_value x0
    refine Keeps.step ideEval_keeps rfl ?_
    exact Keeps.step raise_keeps rfl ‹_›

theorem execIdeKm_keeps {a0 s} : KeepsR 9957465 s (execIdeKm a0 s) := by
  unfold execIdeKm
  refine KeepsR.next ?_
  refine Keeps.ite ?_ ?_
  · exact Keeps.refl _ _
  · refine Keeps.step ideEval_keeps rfl ?_
    exact Keeps.widen upd_ep rfl

theorem execNvmeDoorbell_keeps {a0 a1 a2 a3 s} : KeepsR 262152 s (execNvmeDoorbell a0 a1 a2 a3 s) := by
  unfold execNvmeDoorbell
  refine KeepsR.next ?_
  extract_lets x0 x1 x2 x3
  have k4 : Keeps 262152 s x2 := by
    unfold x2
    exact Keeps.widen upd_ep rfl
  clear_value x2
  clear_value x0 x1 x3
  split
  · rename_i y5 y6
    exact Keeps.refl _ _
  · rename_i y7 y8 y9
    extract_lets x10 x11
    clear_value x10 x11
    refine Keeps.ite ?_ ?_
    · exact Keeps.refl _ _
    · refine Keeps.ite ?_ ?_
      · exact Keeps.step upd_ep rfl ‹_›
      · refine Keeps.step nvFetch_keeps rfl ?_
        exact Keeps.step upd_ep rfl ‹_›

theorem execHostReadCompletion_keeps {a0 a1 s} : KeepsR 14676057 s (execHostReadCompletion a0 a1 s) := by
  unfold execHostReadCompletion
  refine KeepsR.next ?_
  split
  · rename_i y0 y1
    exact Keeps.refl _ _
  · rename_i y2 y3 y4
    extract_lets x5 x6
    have k7 : Keeps 14676057 s x6 := by
      unfold x6
      refine Keeps.step epDrain_keeps rfl ?_
      exact Keeps.widen upd_ep rfl
    clear_value x6
    clear_value x5
    refine Keeps.ite ?_ ?_
    · exact Keeps.step bump_keeps rfl ‹_›
    · split
      · rename_i y8 y9 y10 y11 y12 y13 y14
        exact Keeps.step blockArrives_keeps rfl ‹_›
      · rename_i y15 y16 y17 y18 y19
        split
        · rename_i y20 y21
          assumption
        · rename_i y22 y23 y24 y25
          exact Keeps.step travTable_keeps rfl ‹_›
      · rename_i y26 y27 y28 y29 y30
        assumption

theorem execAsynchronousEventRequest_keeps {a0 a1 s} : KeepsR 1052680 s (execAsynchronousEventRequest a0 a1 s) := by
  unfold execAsynchronousEventRequest
  refine KeepsR.next ?_
  split
  · rename_i y0 y1
    exact Keeps.refl _ _
  · rename_i y2 y3 y4
    split
    · rename_i y5 y6
      exact Keeps.refl _ _
    · rename_i y7 y8 y9
      extract_lets x10 x11 x12
      have k13 : Keeps 1052680 s x12 := by
        unfold x12
        exact Keeps.widen upd_nvm rfl
      clear_value x12
      clear_value x10 x11
      split
      · rename_i y14 y15
        assumption
      · rename_i y16 y17 y18 y19 y20
        exact Keeps.step postNotice_keeps rfl ‹_›

theorem execFlr_keeps {a0 s} : KeepsR 9957449 s (execFlr a0 s) := by
  unfold execFlr
  refine KeepsR.next ?_
  refine Keeps.ite ?_ ?_
  · exact Keeps.widen flrBegin_keeps rfl
  · exact Keeps.refl _ _

theorem execFlrComplete_keeps {a0 s} : KeepsR 262217 s (execFlrComplete a0 s) := by
  unfold execFlrComplete
  refine KeepsR.next ?_
  refine Keeps.ite ?_ ?_
  · refine Keeps.step raise_keeps rfl ?_
    refine Keeps.step bump_keeps rfl ?_
    exact Keeps.widen flrEnd_keeps rfl
  · exact Keeps.refl _ _

theorem execBusMasterClear_keeps {a0 a1 s} : KeepsR 9957465 s (execBusMasterClear a0 a1 s) := by
  unfold execBusMasterClear
  refine KeepsR.next ?_
  refine Keeps.ite ?_ ?_
  · exact Keeps.refl _ _
  · extract_lets x0 x1 x2 x3
    have k4 : Keeps 9957465 s x1 := by
      unfold x1
      exact Keeps.widen setFn_keeps rfl
    clear_value x1
    have k5 : Keeps 9957465 s x3 := by
      unfold x3
      exact Keeps.step setFn_keeps rfl ‹_›
    clear_value x3
    clear_value x0 x2
    refine Keeps.ite ?_ ?_
    · assumption
    · split
      · rename_i y6 y7 y8 y9
        have k10 : Keeps 9957465 s y8 := by
          refine Keeps.ofSnd y9 ?_
          exact Keeps.step fnStop_keeps rfl ‹_›
        refine Keeps.ite ?_ ?_
        · assumption
        · exact Keeps.step raise_keeps rfl ‹_›

theorem execBusMasterSet_keeps {a0 a1 s} : KeepsR 1314888 s (execBusMasterSet a0 a1 s) := by
  unfold execBusMasterSet
  refine KeepsR.next ?_
  refine Keeps.ite ?_ ?_
  · exact Keeps.refl _ _
  · refine Keeps.step fnGo_keeps rfl ?_
    exact Keeps.widen setFn_keeps rfl

theorem execVfEnable_keeps {a0 a1 s} : KeepsR 9957449 s (execVfEnable a0 a1 s) := by
  unfold execVfEnable
  refine KeepsR.next ?_
  refine Keeps.ite ?_ ?_
  · exact Keeps.refl _ _
  · extract_lets x0 x1 x2 x3 x4
    have k5 : Keeps 9957449 s x3 := by
      unfold x3
      refine Keeps.foldl ?_ (fun t6 x7 k8 => ?_)
      · exact Keeps.refl _ _
      · exact Keeps.step flrWhole_keeps rfl ‹_›
    clear_value x3
    clear_value x0 x1 x2 x4
    exact Keeps.step upd_ep rfl ‹_›

theorem execIdeCheckFail_keeps {s} : KeepsR 9957465 s (execIdeCheckFail s) := by
  unfold execIdeCheckFail
  refine KeepsR.next ?_
  refine Keeps.ite ?_ ?_
  · exact Keeps.refl _ _
  · extract_lets x0 x1
    have k2 : Keeps 9957465 s x1 := by
      unfold x1
      refine Keeps.step raise_keeps rfl ?_
      refine Keeps.step bump_keeps rfl ?_
      exact Keeps.widen upd_ep rfl
    clear_value x1
    clear_value x0
    exact Keeps.step ideEval_keeps rfl ‹_›

theorem execCcEn_keeps {a0 a1 a2 s} : KeepsR 9957449 s (execCcEn a0 a1 a2 s) := by
  unfold execCcEn
  refine KeepsR.next ?_
  extract_lets x0 x1 x2 x3
  clear_value x0 x1 x2 x3
  refine Keeps.ite ?_ ?_
  · exact Keeps.refl _ _
  · refine Keeps.ite ?_ ?_
    · split
      · rename_i y4 y5
        exact Keeps.refl _ _
      · rename_i y6 y7 y8
        refine Keeps.step endAssociation_keeps rfl ?_
        exact Keeps.widen setFn_keeps rfl
    · refine Keeps.ite ?_ ?_
      · exact Keeps.refl _ _
      · split
        · rename_i y9 y10 y11 y12 y13 y14 y15 y16
          refine Keeps.ite ?_ ?_
          · exact Keeps.refl _ _
          · extract_lets x17
            clear_value x17
            refine Keeps.step setFn_keeps rfl ?_
            exact Keeps.widen upd_nvm_ep rfl
        · rename_i y18 y19 y20 y21
          exact Keeps.refl _ _

theorem execEpCompletionTimeout_keeps {a0 a1 s} : KeepsR 9957465 s (execEpCompletionTimeout a0 a1 s) := by
  unfold execEpCompletionTimeout
  refine KeepsR.next ?_
  split
  · rename_i y0 y1
    exact Keeps.refl _ _
  · rename_i y2 y3 y4
    refine Keeps.ite ?_ ?_
    · exact Keeps.refl _ _
    · refine Keeps.ite ?_ ?_
      · refine Keeps.step readFailed_keeps rfl ?_
        refine Keeps.step epDrain_keeps rfl ?_
        exact Keeps.widen upd_ep rfl
      · extract_lets x5 x6 x7
        have k8 : Keeps 9957465 s x5 := by
          unfold x5
          refine Keeps.step raise_keeps rfl ?_
          exact Keeps.widen bump_keeps rfl
        have k9 : Keeps 9957465 s x7 := by
          unfold x7
          exact Keeps.step upd_ep rfl ‹_›
        refine Keeps.ite ?_ ?_
        · exact Keeps.step epSend_keeps rfl ‹_›
        · exact Keeps.step readFailed_keeps rfl ‹_›

theorem tagFree_keeps {a0 s} : Keeps 262152 s (tagFree a0 s) := by
  unfold tagFree
  refine Keeps.step epDrain_keeps rfl ?_
  exact Keeps.widen upd_ep rfl

theorem execEpTagQuarantineEnd_keeps {a0 s} : KeepsR 262152 s (execEpTagQuarantineEnd a0 s) := by
  unfold execEpTagQuarantineEnd
  refine KeepsR.next ?_
  split
  · rename_i y0 y1
    exact Keeps.refl _ _
  · rename_i y2 y3 y4
    refine Keeps.ite ?_ ?_
    · exact Keeps.widen tagFree_keeps rfl
    · exact Keeps.refl _ _

theorem execEpLateCompletion_keeps {a0 s} : KeepsR 262153 s (execEpLateCompletion a0 s) := by
  unfold execEpLateCompletion
  refine KeepsR.next ?_
  split
  · rename_i y0 y1
    exact Keeps.refl _ _
  · rename_i y2 y3 y4
    refine Keeps.ite ?_ ?_
    · refine Keeps.step bump_keeps rfl ?_
      exact Keeps.widen tagFree_keeps rfl
    · exact Keeps.refl _ _

theorem execEpIdle_keeps {s} : KeepsR 262145 s (execEpIdle s) := by
  unfold execEpIdle
  refine KeepsR.next ?_
  refine Keeps.ite ?_ ?_
  · exact Keeps.refl _ _
  · extract_lets x0 x1 x2 x3
    have k4 : Keeps 262145 s x2 := by
      unfold x2
      refine Keeps.ite ?_ ?_
      · exact Keeps.widen bump_keeps rfl
      · exact Keeps.refl _ _
    clear_value x2
    clear_value x0 x1 x3
    exact Keeps.step upd_ep rfl ‹_›

end Sys2Proof.Machine
end

