-- ==== Sys2Proof/Laws/KeepsNet.lean ====
section
/-!
SUPPORT. Laws/KeepsNet.lean: which units of the state each operation of Machine/Net.lean may change: one `Keeps` lemma each.
-/
namespace Sys2Proof.Machine

theorem execFrameReceived_keeps {a0 a1 a2 a3 a4 s} : KeepsR 2359369 s (execFrameReceived a0 a1 a2 a3 a4 s) := by
  unfold execFrameReceived
  refine KeepsR.next ?_
  extract_lets x0 x1 x2 x3 x4 x5
  have k6 : Keeps 2359369 s x2 := by
    unfold x2
    refine Keeps.step bump64_keeps rfl ?_
    exact Keeps.widen bumpAt_keeps rfl
  clear_value x2
  have k7 : Keeps 2359369 s x4 := by
    unfold x4
    clear_value x5
    clear_value x4
    clear_value x3
    clear_value x1
    clear_value x0
    split
    · rename_i y8 y9
      exact Keeps.step bump64_keeps rfl ‹_›
    · rename_i y10
      assumption
  clear_value x4
  clear_value x0 x1 x3 x5
  refine Keeps.ite ?_ ?_
  · exact Keeps.refl _ _
  · refine Keeps.ite ?_ ?_
    · exact Keeps.widen bumpAt_keeps rfl
    · refine Keeps.ite ?_ ?_
      · exact Keeps.widen bumpAt_keeps rfl
      · split
        · rename_i y11 y12 y13
          have k14 : Keeps 2359369 s y12 := by
            refine Keeps.ofSnd y13 ?_
            exact Keeps.step chargePp_keeps rfl ‹_›
          assumption
        · rename_i y15 y16 y17 y18
          have k19 : Keeps 2359369 s y17 := by
            refine Keeps.ofSnd y18 ?_
            exact Keeps.step chargePp_keeps rfl ‹_›
          refine Keeps.step feed_keeps rfl ?_
          exact Keeps.step upd_net rfl ‹_›

theorem execPfcXoffRefresh_keeps {a0 a1 s} : KeepsR 2097161 s (execPfcXoffRefresh a0 a1 s) := by
  unfold execPfcXoffRefresh
  refine KeepsR.next ?_
  extract_lets x0
  have k1 : Keeps 2097161 s x0 := by
    unfold x0
    exact Keeps.widen xonCheck_keeps rfl
  clear_value x0
  refine Keeps.ite ?_ ?_
  · exact Keeps.step sendPfc_keeps rfl ‹_›
  · assumption

theorem execFrameTransmitted_keeps {a0 a1 s} : KeepsR 16248921 s (execFrameTransmitted a0 a1 s) := by
  unfold execFrameTransmitted
  refine KeepsR.next ?_
  extract_lets x0 x1 x2 x3
  have k4 : Keeps 16248921 s x2 := by
    unfold x2
    refine Keeps.foldl ?_ (fun t5 x6 k7 => ?_)
    · exact Keeps.widen upd_net rfl
    · exact Keeps.step egEnter_keeps rfl ‹_›
  clear_value x2
  have k8 : Keeps 16248921 s x3 := by
    unfold x3
    refine Keeps.foldl ?_ (fun t9 x10 k11 => ?_)
    · assumption
    · exact Keeps.step egEnter_keeps rfl ‹_›
  clear_value x3
  clear_value x0 x1
  refine Keeps.ite ?_ ?_
  · assumption
  · split
    · rename_i y12 y13 y14
      have k15 : Keeps 16248921 s y13 := by
        refine Keeps.ofSnd y14 ?_
        refine Keeps.step etsPick_keeps rfl ?_
        exact Keeps.step limNote_keeps rfl ‹_›
      assumption
    · rename_i y16 y17 y18 y19
      have k20 : Keeps 16248921 s y18 := by
        refine Keeps.ofSnd y19 ?_
        refine Keeps.step etsPick_keeps rfl ?_
        exact Keeps.step limNote_keeps rfl ‹_›
      exact Keeps.step egSend_keeps rfl ‹_›

theorem execPfcFrameReceived_keeps {a0 a1 a2 s} : KeepsR 2097153 s (execPfcFrameReceived a0 a1 a2 s) := by
  unfold execPfcFrameReceived
  refine KeepsR.next ?_
  refine Keeps.ite ?_ ?_
  · exact Keeps.refl _ _
  · extract_lets x0
    have k1 : Keeps 2097153 s x0 := by
      unfold x0
      exact Keeps.widen bumpAt_keeps rfl
    clear_value x0
    refine Keeps.foldl ?_ (fun t2 x3 k4 => ?_)
    · assumption
    · extract_lets x5 x6
      clear_value x5 x6
      refine Keeps.ite ?_ ?_
      · assumption
      · refine Keeps.ite ?_ ?_
        · exact Keeps.step upd_net rfl ‹_›
        · refine Keeps.ite ?_ ?_
          · assumption
          · exact Keeps.step upd_net rfl ‹_›

theorem execPfcPauseExpire_keeps {a0 a1 s} : KeepsR 2097152 s (execPfcPauseExpire a0 a1 s) := by
  unfold execPfcPauseExpire
  refine KeepsR.next ?_
  exact Keeps.widen upd_net rfl

theorem execPfcWatchdogExpire_keeps {a0 a1 s} : KeepsR 262217 s (execPfcWatchdogExpire a0 a1 s) := by
  unfold execPfcWatchdogExpire
  refine KeepsR.next ?_
  refine Keeps.ite ?_ ?_
  · exact Keeps.widen raise_keeps rfl
  · exact Keeps.refl _ _

theorem execNetLinkChange_keeps {a0 a1 s} : KeepsR 2359369 s (execNetLinkChange a0 a1 s) := by
  unfold execNetLinkChange
  refine KeepsR.next ?_
  refine Keeps.ite ?_ ?_
  · exact Keeps.widen linkDown_keeps rfl
  · refine Keeps.ite ?_ ?_
    · exact Keeps.refl _ _
    · refine Keeps.step raise_keeps rfl ?_
      exact Keeps.widen upd_net rfl

theorem fragDiscard_keeps {a0 a1 s} : Keeps 2097153 s (fragDiscard a0 a1 s) := by
  unfold fragDiscard
  refine Keeps.step bumpAt_keeps rfl ?_
  exact Keeps.widen upd_net rfl

theorem execFragmentReceived_keeps {a0 a1 a2 a3 a4 a5 s} : KeepsR 2359369 s (execFragmentReceived a0 a1 a2 a3 a4 a5 s) := by
  unfold execFragmentReceived
  refine KeepsR.next ?_
  extract_lets x0 x1 x2 x3 x4 x5
  have k6 : Keeps 2359369 s x3 := by
    unfold x3
    exact Keeps.widen upd_net rfl
  clear_value x3
  have k7 : Keeps 2359369 s x4 := by
    unfold x4
    exact Keeps.widen upd_net rfl
  clear_value x4
  clear_value x0 x1 x2 x5
  refine Keeps.ite ?_ ?_
  · exact Keeps.widen bump_keeps rfl
  · refine Keeps.ite ?_ ?_
    · exact Keeps.widen fragDiscard_keeps rfl
    · refine Keeps.ite ?_ ?_
      · refine Keeps.ite ?_ ?_
        · refine Keeps.step feed_keeps rfl ?_
          refine Keeps.step inject_keeps rfl ?_
          exact Keeps.step bump_keeps rfl ‹_›
        · assumption
      · refine Keeps.ite ?_ ?_
        · refine Keeps.step raise_keeps rfl ?_
          exact Keeps.step upd_net rfl ‹_›
        · assumption

theorem execFragTimeout_keeps {a0 s} : KeepsR 2097153 s (execFragTimeout a0 s) := by
  unfold execFragTimeout
  refine KeepsR.next ?_
  split
  · rename_i y0 y1
    exact Keeps.refl _ _
  · rename_i y2 y3 y4
    exact Keeps.widen fragDiscard_keeps rfl

theorem execTxtsHiRead_keeps {a0 a1 s} : KeepsR 2097160 s (execTxtsHiRead a0 a1 s) := by
  unfold execTxtsHiRead
  refine KeepsR.next ?_
  extract_lets x0
  clear_value x0
  refine Keeps.ite ?_ ?_
  · exact Keeps.widen drive_keeps rfl
  · refine Keeps.step drive_keeps rfl ?_
    exact Keeps.widen txtsRelease_keeps rfl

end Sys2Proof.Machine
end

