-- ==== Sys2Proof/Laws/KeepsPair.lean ====
section
/-!
SUPPORT. Laws/KeepsPair.lean: which units of the state each operation of Machine/Pair.lean may change: one `Keeps` lemma each.
-/
namespace Sys2Proof.Machine

theorem execZeberRetrain_keeps {a0 s} : KeepsR 327753 s (execZeberRetrain a0 s) := by
  unfold execZeberRetrain
  refine KeepsR.next ?_
  refine Keeps.ite ?_ ?_
  · exact Keeps.widen zebRetrain_keeps rfl
  · exact Keeps.refl _ _

theorem execZeberTrained_keeps {a0 s} : KeepsR 14678105 s (execZeberTrained a0 s) := by
  unfold execZeberTrained
  refine KeepsR.next ?_
  extract_lets x0 x1 x2 x3 x4 x5 x6 x7 x8
  have k9 : Keeps 14678105 s x5 := by
    unfold x5
    exact Keeps.widen upd_zeb rfl
  clear_value x5
  have k10 : Keeps 14678105 s x6 := by
    unfold x6
    refine Keeps.ite ?_ ?_
    · exact Keeps.step raise_keeps rfl ‹_›
    · assumption
  clear_value x6
  have k11 : Keeps 14678105 s x7 := by
    unfold x7
    refine Keeps.ite ?_ ?_
    · exact Keeps.step raise_keeps rfl ‹_›
    · assumption
  clear_value x7
  have k12 : Keeps 14678105 s x8 := by
    unfold x8
    refine Keeps.ite ?_ ?_
    · exact Keeps.step zsend_keeps rfl ‹_›
    · assumption
  clear_value x8
  clear_value x0 x1 x2 x3 x4
  refine Keeps.ite ?_ ?_
  · exact Keeps.refl _ _
  · refine Keeps.ite ?_ ?_
    · exact Keeps.widen zebLost_keeps rfl
    · exact Keeps.step zebDrain_keeps rfl ‹_›

theorem execZeberFlitReceived_keeps {a0 a1 a2 a3 a4 a5 s} : KeepsR 327753 s (execZeberFlitReceived a0 a1 a2 a3 a4 a5 s) := by
  unfold execZeberFlitReceived
  refine KeepsR.next ?_
  refine Keeps.ite ?_ ?_
  · exact Keeps.refl _ _
  · extract_lets x0 x1 x2 x3
    have k4 : Keeps 327753 s x3 := by
      unfold x3
      refine Keeps.step bump64_keeps rfl ?_
      refine Keeps.step drive_keeps rfl ?_
      exact Keeps.widen upd_zeb rfl
    clear_value x3
    clear_value x0 x1 x2
    refine Keeps.ite ?_ ?_
    · refine Keeps.step drive_keeps rfl ?_
      exact Keeps.widen bump_keeps rfl
    · refine Keeps.ite ?_ ?_
      · exact Keeps.widen upd_zeb rfl
      · refine Keeps.ite ?_ ?_
        · exact Keeps.widen drive_keeps rfl
        · refine Keeps.ite ?_ ?_
          · assumption
          · exact Keeps.step zebRetrain_keeps rfl ‹_›

theorem execZeberNak_keeps {a0 s} : KeepsR 327753 s (execZeberNak a0 s) := by
  unfold execZeberNak
  refine KeepsR.next ?_
  refine Keeps.ite ?_ ?_
  · exact Keeps.widen zebReplay_keeps rfl
  · exact Keeps.refl _ _

theorem execZeberReplayTimeout_keeps {s} : KeepsR 327753 s (execZeberReplayTimeout s) := by
  unfold execZeberReplayTimeout
  refine KeepsR.next ?_
  split
  · rename_i y0 y1
    exact Keeps.refl _ _
  · rename_i y2 y3 y4 y5
    refine Keeps.ite ?_ ?_
    · exact Keeps.widen zebReplay_keeps rfl
    · exact Keeps.refl _ _

theorem execHello_keeps {a0 a1 a2 a3 a4 a5 s} : KeepsR 14679513 s (execHello a0 a1 a2 a3 a4 a5 s) := by
  unfold execHello
  refine KeepsR.next ?_
  refine Keeps.ite ?_ ?_
  · exact Keeps.refl _ _
  · extract_lets x0 x1 x2
    have k3 : Keeps 14679513 s x1 := by
      unfold x1
      exact Keeps.widen upd_pair rfl
    clear_value x1
    clear_value x0 x2
    split
    · rename_i y4 y5
      refine Keeps.step raise_keeps rfl ?_
      exact Keeps.step ctrlConflict_keeps rfl ‹_›
    · rename_i y6 y7 y8 y9
      exact Keeps.step raise_keeps rfl ‹_›
    · rename_i y10 y11
      refine Keeps.ite ?_ ?_
      · refine Keeps.step joinTry_keeps rfl ?_
        exact Keeps.step upd_pair rfl ‹_›
      · assumption

theorem execRange_keeps {a0 a1 a2 a3 a4 a5 a6 s} : KeepsR 14678105 s (execRange a0 a1 a2 a3 a4 a5 a6 s) := by
  unfold execRange
  refine KeepsR.next ?_
  refine Keeps.ite ?_ ?_
  · exact Keeps.refl _ _
  · extract_lets x0 x1 x2 x3 x4 x5 x6
    have k7 : Keeps 14678105 s x3 := by
      unfold x3
      refine Keeps.step wr_keeps rfl ?_
      exact Keeps.widen upd_vault_pair rfl
    clear_value x3
    have k8 : Keeps 14678105 s x4 := by
      unfold x4
      refine Keeps.ite ?_ ?_
      · exact Keeps.step limitEval_keeps rfl ‹_›
      · assumption
    clear_value x4
    clear_value x0 x1 x2 x5 x6
    refine Keeps.step joinTry_keeps rfl ?_
    refine Keeps.ite ?_ ?_
    · refine Keeps.step raise_keeps rfl ?_
      exact Keeps.step upd_pair rfl ‹_›
    · assumption

theorem execRangeSendTimer_keeps {s} : KeepsR 65545 s (execRangeSendTimer s) := by
  unfold execRangeSendTimer
  refine KeepsR.next ?_
  refine Keeps.ite ?_ ?_
  · exact Keeps.widen zsend_keeps rfl
  · exact Keeps.refl _ _

theorem execStopping_keeps {a0 s} : KeepsR 14678233 s (execStopping a0 s) := by
  unfold execStopping
  refine KeepsR.next ?_
  extract_lets x0 x1 x2
  have k3 : Keeps 14678233 s x0 := by
    unfold x0
    exact Keeps.widen wr_keeps rfl
  clear_value x0
  have k4 : Keeps 14678233 s x2 := by
    unfold x2
    exact Keeps.step upd_pair rfl ‹_›
  clear_value x2
  clear_value x1
  refine Keeps.ite ?_ ?_
  · exact Keeps.step partnerLost_keeps rfl ‹_›
  · exact Keeps.step joinAbort_keeps rfl ‹_›

theorem execMirrorPut_keeps {a0 a1 a2 a3 a4 a5 s} : KeepsR 106505 s (execMirrorPut a0 a1 a2 a3 a4 a5 s) := by
  unfold execMirrorPut
  refine KeepsR.next ?_
  refine Keeps.trans ?_ (vc1_keeps (M := 106505) rfl ?_)
  · exact Keeps.refl _ _
  · intro v0
    exact Keeps.widen placeMirror_keeps rfl

theorem execMirrorAck_keeps {a0 s} : KeepsR 14676057 s (execMirrorAck a0 s) := by
  unfold execMirrorAck
  refine KeepsR.next ?_
  refine Keeps.ite ?_ ?_
  · exact Keeps.refl _ _
  · extract_lets x0 x1 x2 x3 x4 x5 x6 x7 x8 x9
    have k10 : Keeps 14676057 s x1 := by
      unfold x1
      exact Keeps.widen wr_keeps rfl
    clear_value x1
    have k11 : Keeps 14676057 s x7 := by
      unfold x7
      exact Keeps.step upd_nvm_trav_pair rfl ‹_›
    clear_value x7
    have k12 : Keeps 14676057 s x8 := by
      unfold x8
      exact Keeps.step winAcked_keeps rfl ‹_›
    clear_value x8
    have k13 : Keeps 14676057 s x9 := by
      unfold x9
      refine Keeps.foldl ?_ (fun t14 x15 k16 => ?_)
      · assumption
      · extract_lets x17
        refine Keeps.ite ?_ ?_
        · assumption
        · refine Keeps.step tryComplete_keeps rfl ?_
          exact Keeps.step modCtx_keeps rfl ‹_›
    clear_value x9
    clear_value x0 x2 x3 x4 x5 x6
    exact Keeps.step admitAll_keeps rfl ‹_›

theorem execJournalPut_keeps {a0 a1 s} : KeepsR 14676057 s (execJournalPut a0 a1 s) := by
  unfold execJournalPut
  refine KeepsR.next ?_
  refine Keeps.trans ?_ (vc1_keeps (M := 14676057) rfl ?_)
  · exact Keeps.refl _ _
  · intro v0
    exact Keeps.widen placeJournal_keeps rfl

theorem execCleanNote_keeps {a0 a1 s} : KeepsR 9957449 s (execCleanNote a0 a1 s) := by
  unfold execCleanNote
  refine KeepsR.next ?_
  refine Keeps.trans ?_ (vc1_keeps (M := 9957449) rfl ?_)
  · exact Keeps.refl _ _
  · intro v0
    exact Keeps.widen applyClean_keeps rfl

theorem execLease_keeps {a0 a1 a2 s} : KeepsR 102409 s (execLease a0 a1 a2 s) := by
  unfold execLease
  refine KeepsR.next ?_
  refine Keeps.trans ?_ (vc1_keeps (M := 102409) rfl ?_)
  · exact Keeps.refl _ _
  · intro v0
    exact Keeps.widen modNs_keeps rfl

theorem execStatePut_keeps {a0 a1 s} : KeepsR 520265 s (execStatePut a0 a1 s) := by
  unfold execStatePut
  refine KeepsR.next ?_
  refine Keeps.trans ?_ (vc1_keeps (M := 520265) rfl ?_)
  · exact Keeps.refl _ _
  · intro v0
    exact Keeps.widen applyPut_keeps rfl

theorem execFwdCmd_keeps {a0 s} : KeepsR 14676057 s (execFwdCmd a0 s) := by
  unfold execFwdCmd
  refine KeepsR.next ?_
  refine Keeps.ite ?_ ?_
  · exact Keeps.refl _ _
  · split
    · rename_i y0 y1 y2 y3 y4 y5 y6 y7
      refine Keeps.ite ?_ ?_
      · exact Keeps.widen tallyRaise_keeps rfl
      · exact Keeps.widen accTry_keeps rfl
    · rename_i y8 y9
      extract_lets x10 x11 x12
      have k13 : Keeps 14676057 s x12 := by
        unfold x12
        exact Keeps.widen upd_pair rfl
      clear_value x12
      clear_value x10 x11
      refine Keeps.ite ?_ ?_
      · exact Keeps.step admitForwarded_keeps rfl ‹_›
      · assumption

theorem execFwdData_keeps {a0 a1 a2 s} : KeepsR 14676057 s (execFwdData a0 a1 a2 s) := by
  unfold execFwdData
  refine KeepsR.next ?_
  refine Keeps.ite ?_ ?_
  · split
    · rename_i y0 y1
      exact Keeps.refl _ _
    · rename_i y2 y3 y4 y5
      split
      · rename_i y6 y7 y8 y9
        refine Keeps.foldl ?_ (fun t10 x11 k12 => ?_)
        · exact Keeps.refl _ _
        · exact Keeps.step stageBlock_keeps rfl ‹_›
      · rename_i y13 y14
        refine Keeps.foldl ?_ (fun t15 x16 k17 => ?_)
        · exact Keeps.refl _ _
        · exact Keeps.step placeBlock_keeps rfl ‹_›
  · extract_lets x18 x19
    clear_value x18 x19
    split
    · rename_i y20 y21
      exact Keeps.widen upd_win rfl
    · rename_i y22 y23 y24
      split
      · rename_i y25 y26
        exact Keeps.refl _ _
      · rename_i y27 y28 y29
        refine Keeps.ite ?_ ?_
        · exact Keeps.refl _ _
        · refine Keeps.foldl ?_ (fun t30 x31 k32 => ?_)
          · exact Keeps.refl _ _
          · exact Keeps.step sendData_keeps rfl ‹_›

theorem accReturn_keeps {a0 a1 a2 s} : Keeps 14676057 s (accReturn a0 a1 a2 s) := by
  unfold accReturn
  refine Keeps.ite ?_ ?_
  · extract_lets x0 x1
    have k2 : Keeps 14676057 s x0 := by
      unfold x0
      refine Keeps.ite ?_ ?_
      · exact Keeps.widen recBytes_keeps rfl
      · refine Keeps.ite ?_ ?_
        · exact Keeps.widen atomKeep_keeps rfl
        · exact Keeps.refl _ _
    clear_value x0
    have k3 : Keeps 14676057 s x1 := by
      unfold x1
      exact Keeps.step accDone_keeps rfl ‹_›
    clear_value x1
    refine Keeps.ite ?_ ?_
    · assumption
    · exact Keeps.step qpExecuted_keeps rfl ‹_›
  · refine Keeps.ite ?_ ?_
    · exact Keeps.widen accDiscard_keeps rfl
    · refine Keeps.ite ?_ ?_
      · exact Keeps.widen accPoison_keeps rfl
      · refine Keeps.step qpExecuted_keeps rfl ?_
        exact Keeps.widen accPoison_keeps rfl

theorem execFwdCpl_keeps {a0 a1 a2 a3 a4 a5 a6 s} : KeepsR 14676057 s (execFwdCpl a0 a1 a2 a3 a4 a5 a6 s) := by
  unfold execFwdCpl
  refine KeepsR.next ?_
  split
  · rename_i y0 y1
    split
    · rename_i y2 y3
      exact Keeps.refl _ _
    · rename_i y4 y5 y6
      refine Keeps.step accReturn_keeps rfl ?_
      exact Keeps.widen upd_win rfl
  · rename_i y7 y8 y9
    extract_lets x10 x11 x12 x13 x14 x15
    have k16 : Keeps 14676057 s x15 := by
      unfold x15
      exact Keeps.widen upd_store_pair rfl
    clear_value x15
    clear_value x10 x11 x12 x13 x14
    refine Keeps.step admitAll_keeps rfl ?_
    exact Keeps.step finish_keeps rfl ‹_›

theorem execStripReq_keeps {a0 s} : KeepsR 8462345 s (execStripReq a0 s) := by
  unfold execStripReq
  refine KeepsR.next ?_
  refine Keeps.ite ?_ ?_
  · exact Keeps.refl _ _
  · refine Keeps.ite ?_ ?_
    · exact Keeps.widen zsend_keeps rfl
    · split
      · rename_i y0 y1 y2
        exact Keeps.widen issueSys_keeps rfl
      · rename_i y3 y4
        exact Keeps.widen issue_keeps rfl

theorem execStripRsp_keeps {a0 a1 a2 s} : KeepsR 14676057 s (execStripRsp a0 a1 a2 s) := by
  unfold execStripRsp
  refine KeepsR.next ?_
  split
  · rename_i y0 y1
    exact Keeps.refl _ _
  · rename_i y2 y3 y4
    refine Keeps.ite ?_ ?_
    · exact Keeps.refl _ _
    · refine Keeps.ite ?_ ?_
      · exact Keeps.widen driveWriteDone_keeps rfl
      · exact Keeps.widen driveReadDone_keeps rfl

theorem execXstampReq_keeps {a0 a1 a2 a3 a4 s} : KeepsR 118793 s (execXstampReq a0 a1 a2 a3 a4 s) := by
  unfold execXstampReq
  refine KeepsR.next ?_
  refine Keeps.ite ?_ ?_
  · exact Keeps.refl _ _
  · split
    · rename_i y0 y1
      exact Keeps.refl _ _
    · rename_i y2 y3 y4 y5
      have k6 : Keeps 118793 s y4 := by
        refine Keeps.ofSomeP y5 ?_
        refine Keeps.stepOP stampAll_keeps rfl ?_
        exact Keeps.refl _ _
      extract_lets x7 x8 x9 x10 x11
      have k12 : Keeps 118793 s x11 := by
        unfold x11
        refine Keeps.step setTrav_keeps rfl ?_
        exact Keeps.step upd_trav rfl ‹_›
      clear_value x11
      clear_value x7 x8 x9 x10
      exact Keeps.step zsend_keeps rfl ‹_›

theorem execXstampRsp_keeps {a0 a1 a2 s} : KeepsR 14676057 s (execXstampRsp a0 a1 a2 s) := by
  unfold execXstampRsp
  refine KeepsR.next ?_
  refine Keeps.step admitAll_keeps rfl ?_
  exact Keeps.widen xstampAnswer_keeps rfl

theorem execRecord_keeps {a0 a1 a2 s} : KeepsR 14678233 s (execRecord a0 a1 a2 s) := by
  unfold execRecord
  refine KeepsR.next ?_
  refine Keeps.ite ?_ ?_
  · exact Keeps.refl _ _
  · refine Keeps.ite ?_ ?_
    · extract_lets x0 x1 x2 x3 x4 x5
      have k6 : Keeps 14678233 s x2 := by
        unfold x2
        exact Keeps.widen upd_pair rfl
      clear_value x2
      have k7 : Keeps 14678233 s x3 := by
        unfold x3
        refine Keeps.ite ?_ ?_
        · assumption
        · exact Keeps.step applyRecord_keeps rfl ‹_›
      clear_value x3
      have k8 : Keeps 14678233 s x4 := by
        unfold x4
        exact Keeps.step zsend_keeps rfl ‹_›
      clear_value x4
      clear_value x0 x1 x5
      refine Keeps.ite ?_ ?_
      · assumption
      · split
        · rename_i y9 y10
          assumption
        · rename_i y11 y12 y13
          refine Keeps.step runCont_keeps rfl ?_
          exact Keeps.step upd_pair rfl ‹_›
    · extract_lets x14 x15 x16
      have k17 : Keeps 14678233 s x16 := by
        unfold x16
        refine Keeps.step applyRecord_keeps rfl ?_
        exact Keeps.widen upd_pair rfl
      clear_value x16
      clear_value x14 x15
      exact Keeps.step zsend_keeps rfl ‹_›

theorem execRecordAck_keeps {a0 s} : KeepsR 14676185 s (execRecordAck a0 s) := by
  unfold execRecordAck
  refine KeepsR.next ?_
  split
  · rename_i y0 y1
    exact Keeps.refl _ _
  · rename_i y2 y3 y4
    refine Keeps.ite ?_ ?_
    · exact Keeps.refl _ _
    · refine Keeps.step admitAll_keeps rfl ?_
      refine Keeps.step runCont_keeps rfl ?_
      exact Keeps.widen upd_pair rfl

theorem execMoveState_keeps {a0 s} : KeepsR 14676057 s (execMoveState a0 s) := by
  unfold execMoveState
  refine KeepsR.next ?_
  refine Keeps.ite ?_ ?_
  · exact Keeps.refl _ _
  · extract_lets x0 x1 x2 x3 x4
    have k5 : Keeps 14676057 s x0 := by
      unfold x0
      exact Keeps.widen modNs_keeps rfl
    clear_value x0
    have k6 : Keeps 14676057 s x3 := by
      unfold x3
      exact Keeps.step upd_store_win rfl ‹_›
    clear_value x3
    have k7 : Keeps 14676057 s x4 := by
      unfold x4
      exact Keeps.step takeMirror_keeps rfl ‹_›
    clear_value x4
    clear_value x1 x2
    refine Keeps.step admitAll_keeps rfl ?_
    refine Keeps.step pinReaders_keeps rfl ?_
    exact Keeps.step moveEnd_keeps rfl ‹_›

theorem execFrame_keeps {a0 a1 a2 a3 a4 s} : KeepsR 2097153 s (execFrame a0 a1 a2 a3 a4 s) := by
  unfold execFrame
  refine KeepsR.next ?_
  refine Keeps.ite ?_ ?_
  · exact Keeps.refl _ _
  · exact Keeps.widen frameFromPartner_keeps rfl

theorem execSession_keeps {a0 a1 a2 s} : KeepsR 14678105 s (execSession a0 a1 a2 s) := by
  unfold execSession
  refine KeepsR.next ?_
  refine Keeps.ite ?_ ?_
  · exact Keeps.refl _ _
  · extract_lets x0 x1 x2 x3
    have k4 : Keeps 14678105 s x0 := by
      unfold x0
      refine Keeps.ite ?_ ?_
      · exact Keeps.refl _ _
      · exact Keeps.widen zsend_keeps rfl
    clear_value x0
    have k5 : Keeps 14678105 s x3 := by
      unfold x3
      exact Keeps.step upd_pair_zeb rfl ‹_›
    clear_value x3
    clear_value x1 x2
    refine Keeps.ite ?_ ?_
    · refine Keeps.step joinTry_keeps rfl ?_
      exact Keeps.step upd_zeb rfl ‹_›
    · refine Keeps.ite ?_ ?_
      · refine Keeps.ite ?_ ?_
        · exact Keeps.step raise_keeps rfl ‹_›
        · assumption
      · assumption

theorem execResyncPut_keeps {a0 s} : KeepsR 14676057 s (execResyncPut a0 s) := by
  unfold execResyncPut
  refine KeepsR.next ?_
  refine Keeps.ite ?_ ?_
  · exact Keeps.refl _ _
  · extract_lets x0 x1 x2 x3
    have k4 : Keeps 14676057 s x2 := by
      unfold x2
      exact Keeps.widen upd_pair rfl
    clear_value x2
    clear_value x0 x1 x3
    split
    · rename_i y5 y6 y7 y8 y9 y10
      refine Keeps.step placeMirror_keeps rfl ?_
      exact Keeps.step upd_pair rfl ‹_›
    · rename_i y11 y12
      exact Keeps.step placeJournal_keeps rfl ‹_›
    · rename_i y13 y14
      exact Keeps.step applyPut_keeps rfl ‹_›

theorem execResyncDone_keeps {a0 s} : KeepsR 14678105 s (execResyncDone a0 s) := by
  unfold execResyncDone
  refine KeepsR.next ?_
  extract_lets x0 x1 x2 x3 x4 x5 x6 x7 x8 x9 x10
  have k11 : Keeps 14678105 s x3 := by
    unfold x3
    refine Keeps.ite ?_ ?_
    · refine Keeps.step zsend_keeps rfl ?_
      exact Keeps.widen resyncCopy_keeps rfl
    · exact Keeps.refl _ _
  clear_value x3
  have k12 : Keeps 14678105 s x6 := by
    unfold x6
    refine Keeps.step setPairState_keeps rfl ?_
    exact Keeps.step upd_vault_pair rfl ‹_›
  clear_value x6
  have k13 : Keeps 14678105 s x7 := by
    unfold x7
    exact Keeps.step raise_keeps rfl ‹_›
  clear_value x7
  have k14 : Keeps 14678105 s x9 := by
    unfold x9
    exact Keeps.step upd_vault rfl ‹_›
  clear_value x9
  have k15 : Keeps 14678105 s x10 := by
    unfold x10
    refine Keeps.ite ?_ ?_
    · assumption
    · refine Keeps.ite ?_ ?_
      · exact Keeps.step raise_keeps rfl ‹_›
      · assumption
  clear_value x10
  clear_value x0 x1 x2 x4 x5 x8
  refine Keeps.ite ?_ ?_
  · exact Keeps.refl _ _
  · refine Keeps.step nextMove_keeps rfl ?_
    refine Keeps.step registerAll_keeps rfl ?_
    exact Keeps.step limitEval_keeps rfl ‹_›

theorem execPairSenseTimeout_keeps {a0 s} : KeepsR 294985 s (execPairSenseTimeout a0 s) := by
  unfold execPairSenseTimeout
  refine KeepsR.next ?_
  extract_lets x0 x1 x2 x3 x4
  have k5 : Keeps 294985 s x4 := by
    unfold x4
    exact Keeps.widen upd_pair rfl
  clear_value x4
  clear_value x0 x1 x2 x3
  refine Keeps.ite ?_ ?_
  · exact Keeps.step raise_keeps rfl ‹_›
  · assumption

theorem execPairSenseEdge_keeps {s} : KeepsR 32768 s (execPairSenseEdge s) := by
  unfold execPairSenseEdge
  refine KeepsR.next ?_
  exact Keeps.widen upd_pair rfl

theorem execRangingTimeout_keeps {s} : KeepsR 14679513 s (execRangingTimeout s) := by
  unfold execRangingTimeout
  refine KeepsR.next ?_
  refine Keeps.ite ?_ ?_
  · exact Keeps.refl _ _
  · extract_lets x0 x1 x2
    have k3 : Keeps 14679513 s x2 := by
      unfold x2
      refine Keeps.step wr_keeps rfl ?_
      exact Keeps.widen upd_pair rfl
    clear_value x2
    clear_value x0 x1
    refine Keeps.ite ?_ ?_
    · exact Keeps.step judgeTimedOut_keeps rfl ‹_›
    · exact Keeps.step joinAbort_keeps rfl ‹_›

theorem execArbDelayEnd_keeps {s} : KeepsR 8429576 s (execArbDelayEnd s) := by
  unfold execArbDelayEnd
  refine KeepsR.next ?_
  refine Keeps.ite ?_ ?_
  · exact Keeps.widen preemptStart_keeps rfl
  · exact Keeps.refl _ _

theorem execPreemptionDone_keeps {a0 s} : KeepsR 14679513 s (execPreemptionDone a0 s) := by
  unfold execPreemptionDone
  refine KeepsR.next ?_
  split
  · rename_i y0 y1
    exact Keeps.refl _ _
  · rename_i y2 y3 y4
    extract_lets x5 x6 x7 x8 x9 x10
    have k11 : Keeps 14679513 s x8 := by
      unfold x8
      exact Keeps.widen upd_pair rfl
    clear_value x8
    have k12 : ∀ a13 a14, Keeps 14679513 a14 (x9 a13 a14) := by
      unfold x9
      intro v15 v16
      refine Keeps.ite ?_ ?_
      · exact Keeps.refl _ _
      · refine Keeps.step issueOp_keeps rfl ?_
        exact Keeps.widen issueOp_keeps rfl
    clear_value x9
    have k17 : Keeps 14679513 s x10 := by
      unfold x10
      refine Keeps.foldl ?_ (fun t18 x19 k20 => ?_)
      · assumption
      · refine Keeps.step issueOp_keeps rfl ?_
        refine Keeps.trans ?_ (k12 ..)
        assumption
    clear_value x10
    clear_value x5 x6 x7
    refine Keeps.ite ?_ ?_
    · exact Keeps.step fenced_keeps rfl ‹_›
    · exact Keeps.step partnerLost_keeps rfl ‹_›

theorem execSeekingTimeout_keeps {s} : KeepsR 14678233 s (execSeekingTimeout s) := by
  unfold execSeekingTimeout
  refine KeepsR.next ?_
  refine Keeps.ite ?_ ?_
  · exact Keeps.refl _ _
  · refine Keeps.ite ?_ ?_
    · exact Keeps.widen preemptStart_keeps rfl
    · exact Keeps.widen partnerLost_keeps rfl

theorem execQuietIntervalEnd_keeps {a0 s} : KeepsR 13475929 s (execQuietIntervalEnd a0 s) := by
  unfold execQuietIntervalEnd
  refine KeepsR.next ?_
  refine Keeps.ite ?_ ?_
  · exact Keeps.refl _ _
  · extract_lets x0 x1 x2
    clear_value x0 x1 x2
    refine Keeps.step closePartner_keeps rfl ?_
    exact Keeps.widen upd_store_pair rfl

theorem moveOp_keeps {a0 a1 s} : Keeps 1150985 s (moveOp a0 a1 s) := by
  unfold moveOp
  extract_lets x0 x1 x2
  have k3 : ∀ a4, Keeps 1150985 s (x2 a4) := by
    unfold x2
    intro v5
    exact Keeps.widen upd_pair rfl
  clear_value x2
  clear_value x0 x1
  refine Keeps.ite ?_ ?_
  · apply k3
  · refine Keeps.ite ?_ ?_
    · apply k3
    · refine Keeps.ite ?_ ?_
      · apply k3
      · refine Keeps.ite ?_ ?_
        · apply k3
        · refine Keeps.step moveStart_keeps rfl ?_
          apply k3

theorem execMove_keeps {a0 a1 s} : KeepsR 1150985 s (execMove a0 a1 s) := by
  unfold execMove
  refine KeepsR.next ?_
  refine Keeps.trans ?_ (cmdWrite_keeps (M := 1150985) rfl ?_)
  · exact Keeps.refl _ _
  · intro v0
    exact Keeps.widen moveOp_keeps rfl

theorem execMoveDrained_keeps {s} : KeepsR 14676057 s (execMoveDrained s) := by
  unfold execMoveDrained
  refine KeepsR.next ?_
  split
  · rename_i y0 y1
    exact Keeps.refl _ _
  · rename_i y2 y3 y4
    split
    · rename_i y5 y6
      exact Keeps.refl _ _
    · rename_i y7 y8 y9
      refine Keeps.ite ?_ ?_
      · exact Keeps.refl _ _
      · extract_lets x10 x11 x12 x13 x14 x15 x16 x17
        have k18 : Keeps 14676057 s x12 := by
          unfold x12
          exact Keeps.widen zsend_keeps rfl
        clear_value x12
        have k19 : Keeps 14676057 s x16 := by
          unfold x16
          exact Keeps.step upd_store_win rfl ‹_›
        clear_value x16
        have k20 : Keeps 14676057 s x17 := by
          unfold x17
          exact Keeps.step moveEnd_keeps rfl ‹_›
        clear_value x17
        clear_value x10 x11 x13 x14 x15
        refine Keeps.step admitAll_keeps rfl ?_
        exact Keeps.step nextMove_keeps rfl ‹_›

theorem execMoveHoldExpire_keeps {a0 s} : KeepsR 1314889 s (execMoveHoldExpire a0 s) := by
  unfold execMoveHoldExpire
  refine KeepsR.next ?_
  split
  · rename_i y0 y1 y2 y3 y4 y5
    split
    · rename_i y6 y7
      exact Keeps.refl _ _
    · rename_i y8 y9 y10 y11
      extract_lets x12 x13
      clear_value x12 x13
      refine Keeps.ite ?_ ?_
      · exact Keeps.refl _ _
      · refine Keeps.step answer_keeps rfl ?_
        exact Keeps.widen upd_nvm rfl
  · rename_i y14 y15 y16
    exact Keeps.refl _ _

end Sys2Proof.Machine
end

