-- ==== Sys2Proof/Laws/KeepsViews.lean ====
section
/-!
SUPPORT. Laws/KeepsViews.lean: which units of the state each operation of Machine/Views.lean may change: one `Keeps` lemma each.
-/
namespace Sys2Proof.Machine

theorem regWhole_keeps {a0 a1 a2 s} : Keeps 16 s (regWhole a0 a1 a2 s).2 := by
  unfold regWhole
  extract_lets x0
  clear_value x0
  refine Keeps.iteSnd ?_ ?_
  · refine Keeps.mkSnd ?_
    exact Keeps.refl _ _
  · split
    · rename_i y1 y2
      refine Keeps.mkSnd ?_
      exact Keeps.refl _ _
    · rename_i y3 y4
      refine Keeps.mkSnd ?_
      exact Keeps.refl _ _
    · rename_i y5 y6
      refine Keeps.mkSnd ?_
      exact Keeps.refl _ _
    · rename_i y7 y8 y9 y10
      split
      · rename_i y11 y12 y13
        refine Keeps.mkSnd ?_
        exact Keeps.refl _ _
      · rename_i y14 y15
        refine Keeps.iteSnd ?_ ?_
        · exact Keeps.widen drawFree_keeps rfl
        · refine Keeps.mkSnd ?_
          exact Keeps.refl _ _

theorem regValue_keeps {a0 a1 s} : Keeps 16 s (regValue a0 a1 s).2 := by
  unfold regValue
  split
  · rename_i y0 y1
    refine Keeps.mkSnd ?_
    exact Keeps.refl _ _
  · rename_i y2 y3 y4
    refine Keeps.iteSnd ?_ ?_
    · refine Keeps.mkSnd ?_
      exact Keeps.refl _ _
    · refine Keeps.iteSnd ?_ ?_
      · refine Keeps.mkSnd ?_
        exact Keeps.refl _ _
      · refine Keeps.iteSnd ?_ ?_
        · refine Keeps.mkSnd ?_
          exact Keeps.refl _ _
        · split
          · rename_i y5 y6 y7 y8
            have k9 : Keeps 16 s y7 := by
              refine Keeps.ofSnd y8 ?_
              exact Keeps.widen regWhole_keeps rfl
            refine Keeps.mkSnd ?_
            assumption

theorem setLatch_keeps {a0 a1 a2 s} : Keeps 4 s (setLatch a0 a1 a2 s) := by
  unfold setLatch
  exact Keeps.widen (upd_latches (fun h => trising_tput h _ _ _)) rfl

theorem regRead_keeps {a0 a1 s} : Keeps 2097172 s (regRead a0 a1 s).2 := by
  unfold regRead
  split
  · rename_i y0 y1
    refine Keeps.mkSnd ?_
    exact Keeps.refl _ _
  · rename_i y2 y3 y4
    refine Keeps.iteSnd ?_ ?_
    · exact Keeps.widen regValue_keeps rfl
    · refine Keeps.iteSnd ?_ ?_
      · split
        · rename_i y5 y6 y7 y8
          have k9 : Keeps 2097172 s y7 := by
            refine Keeps.ofSnd y8 ?_
            exact Keeps.widen regWhole_keeps rfl
          refine Keeps.mkSnd ?_
          exact Keeps.step setLatch_keeps rfl ‹_›
      · refine Keeps.iteSnd ?_ ?_
        · extract_lets x10 x11 x12
          have k13 : Keeps 2097172 s x11 := by
            unfold x11
            exact Keeps.widen setLatch_keeps rfl
          clear_value x11
          have k14 : Keeps 2097172 s x12 := by
            unfold x12
            exact Keeps.step setLatch_keeps rfl ‹_›
          clear_value x12
          clear_value x10
          refine Keeps.mkSnd ?_
          exact Keeps.step setLatch_keeps rfl ‹_›
        · refine Keeps.iteSnd ?_ ?_
          · split
            · rename_i y15 y16 y17 y18
              have k19 : Keeps 2097172 s y17 := by
                refine Keeps.ofSnd y18 ?_
                exact Keeps.widen regValue_keeps rfl
              refine Keeps.mkSnd ?_
              exact Keeps.step txtsRelease_keeps rfl ‹_›
          · exact Keeps.widen regValue_keeps rfl

theorem chipletFreeze_keeps {s} : Keeps 8388624 s (chipletFreeze s) := by
  unfold chipletFreeze
  extract_lets x0
  clear_value x0
  split
  · rename_i y1 y2 y3 y4
    have k5 : Keeps 8388624 s y3 := by
      refine Keeps.ofSnd y4 ?_
      refine Keeps.foldlSnd ?_ (fun t6 x7 k8 => ?_)
      · refine Keeps.mkSnd ?_
        exact Keeps.refl _ _
      · split
        · rename_i y9 y10 y11 y12
          have k13 : Keeps 8388624 s y11 := by
            refine Keeps.ofSnd y12 ?_
            exact Keeps.step regValue_keeps rfl ‹_›
          refine Keeps.mkSnd ?_
          assumption
    exact Keeps.step upd_bay rfl ‹_›

end Sys2Proof.Machine
end

