-- ==== Sys2Proof/Laws/KeepsPwrClk.lean ====
section
/-!
SUPPORT. Laws/KeepsPwrClk.lean: which units of the state each operation of Machine/PwrClk.lean may change: one `Keeps` lemma each.
-/
namespace Sys2Proof.Machine

theorem chipletLinkFailOp_keeps {s} : Keeps 13630937 s (chipletLinkFailOp s) := by
  unfold chipletLinkFailOp
  extract_lets x0 x1
  have k2 : Keeps 13630937 s x0 := by
    unfold x0
    exact Keeps.widen chipletFreeze_keeps rfl
  clear_value x0
  clear_value x1
  refine Keeps.step fatalEvent_keeps rfl ?_
  exact Keeps.step upd_pwr rfl ‹_›

theorem execChipletLinkFail_keeps {s} : KeepsR 13630937 s (execChipletLinkFail s) := by
  unfold execChipletLinkFail
  refine KeepsR.next ?_
  exact Keeps.widen chipletLinkFailOp_keeps rfl

theorem execHbmStackFault_keeps {a0 s} : KeepsR 13631449 s (execHbmStackFault a0 s) := by
  unfold execHbmStackFault
  extract_lets x0 x1 x2
  have k3 : Keeps 13631449 s x1 := by
    unfold x1
    exact Keeps.widen upd_arch rfl
  clear_value x1
  clear_value x0 x2
  refine KeepsR.next ?_
  refine Keeps.step fatalEvent_keeps rfl ?_
  exact Keeps.step upd_pwr rfl ‹_›

theorem execEngineRuntimeFail_keeps {a0 a1 s} : KeepsR 15728601 s (execEngineRuntimeFail a0 a1 s) := by
  unfold execEngineRuntimeFail
  split
  · rename_i y0 y1
    refine KeepsR.next ?_
    exact Keeps.refl _ _
  · rename_i y2 y3 y4
    refine KeepsR.ite ?_ ?_
    · refine KeepsR.next ?_
      exact Keeps.refl _ _
    · extract_lets x5 x6 x7 x8
      have k9 : Keeps 15728601 s x5 := by
        unfold x5
        exact Keeps.widen upd_arch rfl
      clear_value x5
      have k10 : Keeps 15728601 s x6 := by
        unfold x6
        exact Keeps.step raise_keeps rfl ‹_›
      clear_value x6
      have k11 : Keeps 15728601 s x8 := by
        unfold x8
        refine Keeps.ite ?_ ?_
        · refine Keeps.step engineOut_keeps rfl ?_
          exact Keeps.step raise_keeps rfl ‹_›
        · assumption
      clear_value x8
      clear_value x7
      refine KeepsR.next ?_
      refine Keeps.ite ?_ ?_
      · exact Keeps.step fatalEvent_keeps rfl ‹_›
      · assumption

theorem execLockstepDisagree_keeps {s} : KeepsR 13631449 s (execLockstepDisagree s) := by
  unfold execLockstepDisagree
  extract_lets x0 x1 x2
  have k3 : Keeps 13631449 s x2 := by
    unfold x2
    exact Keeps.widen upd_pwr_arch rfl
  clear_value x2
  clear_value x0 x1
  refine KeepsR.next ?_
  exact Keeps.step fatalEvent_keeps rfl ‹_›

theorem execSysPwrokFall_keeps {s} : KeepsR 16777199 s (execSysPwrokFall s) := by
  unfold execSysPwrokFall
  refine KeepsR.next ?_
  refine Keeps.step coldHold_keeps rfl ?_
  exact Keeps.widen abandonPending_keeps rfl

theorem execVddPcRise_keeps {a0 s} : KeepsR 14679513 s (execVddPcRise a0 s) := by
  unfold execVddPcRise
  extract_lets x0 x1
  have k2 : Keeps 14679513 s x0 := by
    unfold x0
    exact Keeps.widen chipletStart_keeps rfl
  clear_value x0
  clear_value x1
  refine KeepsR.ite ?_ ?_
  · refine KeepsR.next ?_
    exact Keeps.step upd_pwr rfl ‹_›
  · refine KeepsR.next ?_
    refine Keeps.step chipletLinkFailOp_keeps rfl ?_
    exact Keeps.step raise_keeps rfl ‹_›

theorem execRailFault_keeps {a0 a1 s} : KeepsR 13631449 s (execRailFault a0 a1 s) := by
  unfold execRailFault
  extract_lets x0 x1 x2 x3 x4 x5 x6
  have k7 : Keeps 13631449 s x0 := by
    unfold x0
    exact Keeps.widen bump_keeps rfl
  clear_value x0
  have k8 : Keeps 13631449 s x2 := by
    unfold x2
    exact Keeps.step upd_pwr rfl ‹_›
  clear_value x2
  have k9 : Keeps 13631449 s x3 := by
    unfold x3
    exact Keeps.step wrAt_keeps rfl ‹_›
  clear_value x3
  have k10 : Keeps 13631449 s x4 := by
    unfold x4
    exact Keeps.step raise_keeps rfl ‹_›
  clear_value x4
  clear_value x1 x5 x6
  refine KeepsR.ite ?_ ?_
  · refine KeepsR.next ?_
    exact Keeps.step chipletLinkFailOp_keeps rfl ‹_›
  · refine KeepsR.ite ?_ ?_
    · refine KeepsR.next ?_
      refine Keeps.step fatalEvent_keeps rfl ?_
      exact Keeps.step upd_pwr_arch rfl ‹_›
    · refine KeepsR.next ?_
      exact Keeps.step fatalEvent_keeps rfl ‹_›

theorem noteTemp_keeps {a0 a1 s} : Keeps 1 s (noteTemp a0 a1 s) := by
  unfold noteTemp
  refine Keeps.step wr_keeps rfl ?_
  exact Keeps.widen wr_keeps rfl

theorem execThermalWarning_keeps {a0 a1 s} : KeepsR 262473 s (execThermalWarning a0 a1 s) := by
  unfold execThermalWarning
  extract_lets x0 x1
  have k2 : Keeps 262473 s x0 := by
    unfold x0
    exact Keeps.widen noteTemp_keeps rfl
  clear_value x0
  clear_value x1
  refine KeepsR.ite ?_ ?_
  · refine KeepsR.next ?_
    exact Keeps.step upd_pwr rfl ‹_›
  · refine KeepsR.ite ?_ ?_
    · refine KeepsR.next ?_
      assumption
    · refine KeepsR.next ?_
      refine Keeps.step raise_keeps rfl ?_
      exact Keeps.step upd_pwr rfl ‹_›

theorem execThermalTrip_keeps {a0 a1 s} : KeepsR 13630937 s (execThermalTrip a0 a1 s) := by
  unfold execThermalTrip
  extract_lets x0 x1 x2 x3 x4
  have k5 : Keeps 13630937 s x0 := by
    unfold x0
    exact Keeps.widen noteTemp_keeps rfl
  clear_value x0
  have k6 : Keeps 13630937 s x2 := by
    unfold x2
    refine Keeps.step drive_keeps rfl ?_
    exact Keeps.step upd_pwr rfl ‹_›
  clear_value x2
  have k7 : Keeps 13630937 s x3 := by
    unfold x3
    exact Keeps.step fatalEvent_keeps rfl ‹_›
  clear_value x3
  clear_value x1 x4
  refine KeepsR.next ?_
  exact Keeps.step upd_pwr rfl ‹_›

theorem execAvsTrim_keeps {a0 a1 s} : KeepsR 262473 s (execAvsTrim a0 a1 s) := by
  unfold execAvsTrim
  refine KeepsR.ite ?_ ?_
  · refine KeepsR.next ?_
    exact Keeps.refl _ _
  · refine KeepsR.ite ?_ ?_
    · extract_lets x0 x1 x2 x3
      clear_value x0 x1 x2 x3
      refine KeepsR.next ?_
      refine Keeps.step drive_keeps rfl ?_
      exact Keeps.widen upd_pwr rfl
    · extract_lets x4 x5 x6 x7
      have k8 : Keeps 262473 s x6 := by
        unfold x6
        refine Keeps.step bump_keeps rfl ?_
        exact Keeps.widen upd_pwr rfl
      clear_value x6
      clear_value x4 x5 x7
      refine KeepsR.next ?_
      refine Keeps.ite ?_ ?_
      · refine Keeps.step raise_keeps rfl ?_
        exact Keeps.step upd_pwr rfl ‹_›
      · assumption

theorem famStop_keeps {s} : Keeps 256 s (famStop s) := by
  unfold famStop
  exact Keeps.widen upd_pwr rfl

theorem refSysLost_keeps {a0 s} : Keeps 16776665 s (refSysLost a0 s) := by
  unfold refSysLost
  extract_lets x0 x1 x2 x3 x4
  have k5 : Keeps 16776665 s x1 := by
    unfold x1
    exact Keeps.widen upd_pwr rfl
  clear_value x1
  have k6 : Keeps 16776665 s x2 := by
    unfold x2
    exact Keeps.step fatalEvent_keeps rfl ‹_›
  clear_value x2
  have k7 : Keeps 16776665 s x3 := by
    unfold x3
    exact Keeps.step acceptPower_keeps rfl ‹_›
  clear_value x3
  have k8 : Keeps 16776665 s x4 := by
    unfold x4
    refine Keeps.ite ?_ ?_
    · exact Keeps.step famStop_keeps rfl ‹_›
    · refine Keeps.ite ?_ ?_
      · exact Keeps.step famStop_keeps rfl ‹_›
      · assumption
  clear_value x4
  clear_value x0
  refine Keeps.step surpriseRemoval_keeps rfl ?_
  refine Keeps.step zebLost_keeps rfl ?_
  refine Keeps.foldl ?_ (fun t9 x10 k11 => ?_)
  · assumption
  · exact Keeps.step netGroupDown_keeps rfl ‹_›

theorem crystalFailOp_keeps {s} : Keeps 13630937 s (crystalFailOp s) := by
  unfold crystalFailOp
  extract_lets x0 x1
  have k2 : Keeps 13630937 s x1 := by
    unfold x1
    exact Keeps.widen upd_pwr rfl
  clear_value x1
  clear_value x0
  refine Keeps.step fatalEvent_keeps rfl ?_
  exact Keeps.step bump_keeps rfl ‹_›

theorem execRefclkOutOfTolerance_keeps {a0 a1 s} : KeepsR 16776665 s (execRefclkOutOfTolerance a0 a1 s) := by
  unfold execRefclkOutOfTolerance
  refine KeepsR.ite ?_ ?_
  · refine KeepsR.next ?_
    exact Keeps.refl _ _
  · refine KeepsR.ite ?_ ?_
    · refine KeepsR.next ?_
      refine Keeps.step crystalFailOp_keeps rfl ?_
      exact Keeps.widen wrAt_keeps rfl
    · extract_lets x0 x1 x2
      have k3 : Keeps 16776665 s x1 := by
        unfold x1
        refine Keeps.step wrAt_keeps rfl ?_
        refine Keeps.step bump_keeps rfl ?_
        exact Keeps.widen upd_pwr rfl
      clear_value x1
      clear_value x0 x2
      refine KeepsR.ite ?_ ?_
      · refine KeepsR.next ?_
        exact Keeps.step refSysLost_keeps rfl ‹_›
      · refine KeepsR.ite ?_ ?_
        · refine KeepsR.next ?_
          refine Keeps.step raiseSev_keeps rfl ?_
          refine Keeps.foldl ?_ (fun t4 x5 k6 => ?_)
          · exact Keeps.step upd_pwr rfl ‹_›
          · exact Keeps.step netGroupDown_keeps rfl ‹_›
        · refine KeepsR.ite ?_ ?_
          · refine KeepsR.next ?_
            refine Keeps.step raiseSev_keeps rfl ?_
            refine Keeps.foldl ?_ (fun t7 x8 k9 => ?_)
            · exact Keeps.step upd_pwr rfl ‹_›
            · exact Keeps.step netGroupDown_keeps rfl ‹_›
          · refine KeepsR.next ?_
            refine Keeps.step raiseSev_keeps rfl ?_
            refine Keeps.step surpriseRemoval_keeps rfl ?_
            exact Keeps.step upd_pwr rfl ‹_›

theorem execRefclkRestored_keeps {a0 s} : KeepsR 262473 s (execRefclkRestored a0 s) := by
  unfold execRefclkRestored
  refine KeepsR.ite ?_ ?_
  · refine KeepsR.next ?_
    exact Keeps.refl _ _
  · extract_lets x0 x1
    clear_value x0 x1
    refine KeepsR.next ?_
    refine Keeps.step raise_keeps rfl ?_
    exact Keeps.widen upd_pwr rfl

theorem execCrystalFail_keeps {s} : KeepsR 13630937 s (execCrystalFail s) := by
  unfold execCrystalFail
  refine KeepsR.next ?_
  refine Keeps.ite ?_ ?_
  · exact Keeps.refl _ _
  · exact Keeps.widen crystalFailOp_keeps rfl

theorem timeAdjOp_keeps {a0 a1 s} : Keeps 257 s (timeAdjOp a0 a1 s) := by
  unfold timeAdjOp
  extract_lets x0 x1
  clear_value x0 x1
  refine Keeps.ite ?_ ?_
  · exact Keeps.widen errLast_keeps rfl
  · refine Keeps.step wr_keeps rfl ?_
    exact Keeps.widen upd_pwr rfl

theorem execTimeAdjPpbWrite_keeps {a0 a1 s} : KeepsR 257 s (execTimeAdjPpbWrite a0 a1 s) := by
  unfold execTimeAdjPpbWrite
  refine KeepsR.next ?_
  refine Keeps.trans ?_ (cmdWrite_keeps (M := 257) rfl ?_)
  · exact Keeps.refl _ _
  · intro v0
    exact Keeps.widen timeAdjOp_keeps rfl

theorem timeSlewOp_keeps {a0 s} : Keeps 257 s (timeSlewOp a0 s) := by
  unfold timeSlewOp
  refine Keeps.step wr_keeps rfl ?_
  exact Keeps.widen upd_pwr rfl

theorem execTimeSlewNsWrite_keeps {a0 a1 s} : KeepsR 257 s (execTimeSlewNsWrite a0 a1 s) := by
  unfold execTimeSlewNsWrite
  refine KeepsR.next ?_
  refine Keeps.trans ?_ (cmdWrite_keeps (M := 257) rfl ?_)
  · exact Keeps.refl _ _
  · intro v0
    exact Keeps.widen timeSlewOp_keeps rfl

theorem timeStepOp_keeps {a0 a1 s} : Keeps 33 s (timeStepOp a0 a1 s) := by
  unfold timeStepOp
  refine Keeps.ite ?_ ?_
  · exact Keeps.widen errLast_keeps rfl
  · extract_lets x0
    clear_value x0
    exact Keeps.widen upd_time rfl

theorem execTimeStep_keeps {a0 a1 s} : KeepsR 33 s (execTimeStep a0 a1 s) := by
  unfold execTimeStep
  refine KeepsR.next ?_
  refine Keeps.trans ?_ (cmdWrite_keeps (M := 33) rfl ?_)
  · exact Keeps.refl _ _
  · intro v0
    exact Keeps.widen timeStepOp_keeps rfl

theorem setDisciplinedOp_keeps {s} : Keeps 262473 s (setDisciplinedOp s) := by
  unfold setDisciplinedOp
  refine Keeps.step raise_keeps rfl ?_
  exact Keeps.widen upd_pwr rfl

theorem execSetDisciplined_keeps {a0 s} : KeepsR 262473 s (execSetDisciplined a0 s) := by
  unfold execSetDisciplined
  refine KeepsR.next ?_
  refine Keeps.trans ?_ (cmdWrite_keeps (M := 262473) rfl ?_)
  · exact Keeps.refl _ _
  · intro v0
    exact Keeps.widen setDisciplinedOp_keeps rfl

theorem clearDisciplinedOp_keeps {s} : Keeps 256 s (clearDisciplinedOp s) := by
  unfold clearDisciplinedOp
  exact Keeps.widen upd_pwr rfl

theorem execClearDisciplined_keeps {a0 s} : KeepsR 257 s (execClearDisciplined a0 s) := by
  unfold execClearDisciplined
  refine KeepsR.next ?_
  refine Keeps.trans ?_ (cmdWrite_keeps (M := 257) rfl ?_)
  · exact Keeps.refl _ _
  · intro v0
    exact Keeps.widen clearDisciplinedOp_keeps rfl

theorem rstResult_keeps {a0 s} : Keeps 256 s (rstResult a0 s) := by
  unfold rstResult
  exact Keeps.widen upd_pwr rfl

theorem coldOp_keeps {s} : Keeps 16777199 s (coldOp s) := by
  unfold coldOp
  refine Keeps.step coldHold_keeps rfl ?_
  refine Keeps.step rstResult_keeps rfl ?_
  exact Keeps.widen abandonPending_keeps rfl

theorem execCold_keeps {a0 s} : KeepsR 16777199 s (execCold a0 s) := by
  unfold execCold
  refine KeepsR.next ?_
  refine Keeps.trans ?_ (cmdWrite_keeps (M := 16777199) rfl ?_)
  · exact Keeps.refl _ _
  · intro v0
    exact Keeps.widen coldOp_keeps rfl

theorem warmRequest_keeps {a0 a1 s} : Keeps 16776671 s (warmRequest a0 a1 s) := by
  unfold warmRequest
  refine Keeps.ite ?_ ?_
  · refine Keeps.ite ?_ ?_
    · exact Keeps.widen warmReset_keeps rfl
    · exact Keeps.widen upd_pwr rfl
  · extract_lets x0 x1
    have k2 : Keeps 16776671 s x0 := by
      unfold x0
      refine Keeps.step acceptPower_keeps rfl ?_
      exact Keeps.widen sendStopping_keeps rfl
    clear_value x0
    clear_value x1
    refine Keeps.ite ?_ ?_
    · exact Keeps.step warmReset_keeps rfl ‹_›
    · exact Keeps.step upd_pwr rfl ‹_›

theorem warmOp_keeps {s} : Keeps 16776671 s (warmOp s) := by
  unfold warmOp
  refine Keeps.step warmRequest_keeps rfl ?_
  refine Keeps.step rstResult_keeps rfl ?_
  exact Keeps.widen abandonPending_keeps rfl

theorem execWarm_keeps {a0 s} : KeepsR 16776671 s (execWarm a0 s) := by
  unfold execWarm
  refine KeepsR.next ?_
  refine Keeps.trans ?_ (cmdWrite_keeps (M := 16776671) rfl ?_)
  · exact Keeps.refl _ _
  · intro v0
    exact Keeps.widen warmOp_keeps rfl

theorem execSysRstN_keeps {s} : KeepsR 16777215 s (execSysRstN s) := by
  unfold execSysRstN
  refine KeepsR.ite ?_ ?_
  · extract_lets x0 x1
    have k2 : Keeps 16777215 s x0 := by
      unfold x0
      refine Keeps.ite ?_ ?_
      · exact Keeps.refl _ _
      · exact Keeps.widen acceptPower_keeps rfl
    clear_value x0
    clear_value x1
    refine KeepsR.ite ?_ ?_
    · refine KeepsR.next ?_
      exact Keeps.step coldHold_keeps rfl ‹_›
    · refine KeepsR.next ?_
      exact Keeps.step upd_pwr rfl ‹_›
  · refine KeepsR.next ?_
    refine Keeps.step coldHold_keeps rfl ?_
    exact Keeps.widen abandonPending_keeps rfl

theorem execResetHoldExpire_keeps {s} : KeepsR 16777199 s (execResetHoldExpire s) := by
  unfold execResetHoldExpire
  refine KeepsR.ite ?_ ?_
  · refine KeepsR.next ?_
    exact Keeps.widen coldHold_keeps rfl
  · refine KeepsR.next ?_
    exact Keeps.refl _ _

theorem blockEffect_keeps {a0 s} : Keeps 16775257 s (blockEffect a0 s) := by
  unfold blockEffect
  refine Keeps.ite ?_ ?_
  · exact Keeps.widen netGroupDown_keeps rfl
  · refine Keeps.ite ?_ ?_
    · exact Keeps.widen sampleBlockReset_keeps rfl
    · refine Keeps.ite ?_ ?_
      · exact Keeps.widen zeberBlockReset_keeps rfl
      · refine Keeps.ite ?_ ?_
        · exact Keeps.widen surpriseRemoval_keeps rfl
        · exact Keeps.widen rpBlockReset_keeps rfl

theorem blockOp_keeps {a0 s} : Keeps 16775513 s (blockOp a0 s) := by
  unfold blockOp
  extract_lets x0
  clear_value x0
  split
  · rename_i y1 y2 y3
    exact Keeps.widen rstResult_keeps rfl
  · rename_i y4 y5
    refine Keeps.step raise_keeps rfl ?_
    refine Keeps.step bump_keeps rfl ?_
    refine Keeps.step rstResult_keeps rfl ?_
    exact Keeps.widen blockEffect_keeps rfl

theorem execBlock_keeps {a0 s} : KeepsR 16775513 s (execBlock a0 s) := by
  unfold execBlock
  refine KeepsR.next ?_
  refine Keeps.trans ?_ (cmdWrite_keeps (M := 16775513) rfl ?_)
  · exact Keeps.refl _ _
  · intro v0
    exact Keeps.widen blockOp_keeps rfl

theorem wdtKickOp_keeps {s} : Keeps 256 s (wdtKickOp s) := by
  unfold wdtKickOp
  exact Keeps.widen upd_pwr rfl

theorem execWdtKick_keeps {a0 s} : KeepsR 257 s (execWdtKick a0 s) := by
  unfold execWdtKick
  refine KeepsR.next ?_
  refine Keeps.trans ?_ (cmdWrite_keeps (M := 257) rfl ?_)
  · exact Keeps.refl _ _
  · intro v0
    exact Keeps.widen wdtKickOp_keeps rfl

theorem execWatchdogExpire_keeps {s} : KeepsR 16776671 s (execWatchdogExpire s) := by
  unfold execWatchdogExpire
  refine KeepsR.ite ?_ ?_
  · refine KeepsR.next ?_
    exact Keeps.refl _ _
  · refine KeepsR.next ?_
    refine Keeps.step warmRequest_keeps rfl ?_
    exact Keeps.widen fatalEvent_keeps rfl

theorem execFatalResetTimer_keeps {s} : KeepsR 16776671 s (execFatalResetTimer s) := by
  unfold execFatalResetTimer
  refine KeepsR.ite ?_ ?_
  · refine KeepsR.next ?_
    exact Keeps.refl _ _
  · refine KeepsR.ite ?_ ?_
    · refine KeepsR.next ?_
      exact Keeps.widen warmReset_keeps rfl
    · refine KeepsR.next ?_
      exact Keeps.widen warmRequest_keeps rfl

theorem execStartupPowerfailRecover_keeps {s} : KeepsR 16776671 s (execStartupPowerfailRecover s) := by
  unfold execStartupPowerfailRecover
  refine KeepsR.ite ?_ ?_
  · refine KeepsR.next ?_
    exact Keeps.widen warmReset_keeps rfl
  · refine KeepsR.next ?_
    exact Keeps.refl _ _

theorem execAssemblyWaitExpire_keeps {s} : KeepsR 14678361 s (execAssemblyWaitExpire s) := by
  unfold execAssemblyWaitExpire
  refine KeepsR.ite ?_ ?_
  · refine KeepsR.next ?_
    exact Keeps.refl _ _
  · refine KeepsR.next ?_
    refine Keeps.step assembleNow_keeps rfl ?_
    exact Keeps.widen raise_keeps rfl

theorem shutdownOp_keeps {s} : Keeps 14545241 s (shutdownOp s) := by
  unfold shutdownOp
  refine Keeps.step shutdownMoves_keeps rfl ?_
  extract_lets x0 x1
  have k2 : Keeps 14545241 s x0 := by
    unfold x0
    exact Keeps.widen rstResult_keeps rfl
  clear_value x0
  clear_value x1
  exact Keeps.step upd_pwr rfl ‹_›

theorem execShutdown_keeps {a0 s} : KeepsR 14545241 s (execShutdown a0 s) := by
  unfold execShutdown
  refine KeepsR.next ?_
  refine Keeps.trans ?_ (cmdWrite_keeps (M := 14545241) rfl ?_)
  · exact Keeps.refl _ _
  · intro v0
    exact Keeps.widen shutdownOp_keeps rfl

theorem shutdownFinish_keeps {a0 s} : Keeps 14678361 s (shutdownFinish a0 s) := by
  unfold shutdownFinish
  extract_lets x0 x1 x2
  have k3 : Keeps 14678361 s x0 := by
    unfold x0
    exact Keeps.widen sendStopping_keeps rfl
  clear_value x0
  have k4 : Keeps 14678361 s x1 := by
    unfold x1
    refine Keeps.ite ?_ ?_
    · exact Keeps.step baysOffDescending_keeps rfl ‹_›
    · assumption
  clear_value x1
  clear_value x2
  refine Keeps.step raise_keeps rfl ?_
  exact Keeps.step upd_pwr rfl ‹_›

theorem execShutdownFlushed_keeps {s} : KeepsR 14678361 s (execShutdownFlushed s) := by
  unfold execShutdownFlushed
  refine KeepsR.ite ?_ ?_
  · refine KeepsR.next ?_
    exact Keeps.widen shutdownFinish_keeps rfl
  · refine KeepsR.next ?_
    exact Keeps.refl _ _

theorem execSdTimeout_keeps {s} : KeepsR 14679513 s (execSdTimeout s) := by
  unfold execSdTimeout
  refine KeepsR.ite ?_ ?_
  · extract_lets x0
    have k1 : Keeps 14679513 s x0 := by
      unfold x0
      exact Keeps.widen acceptPower_keeps rfl
    clear_value x0
    refine KeepsR.next ?_
    refine Keeps.ite ?_ ?_
    · exact Keeps.step shutdownFinish_keeps rfl ‹_›
    · assumption
  · refine KeepsR.next ?_
    exact Keeps.refl _ _

end Sys2Proof.Machine
end

