-- ==== Sys2Proof/Laws/KeepsWindow.lean ====
section
/-!
SUPPORT. Laws/KeepsWindow.lean: which units of the state each operation of Machine/Window.lean may change: one `Keeps` lemma each.
-/
namespace Sys2Proof.Machine

theorem execBind_keeps {a0 a1 a2 a3 a4 a5 a6 a7 a8 s} : KeepsR 14676057 s (execBind a0 a1 a2 a3 a4 a5 a6 a7 a8 s) := by
  unfold execBind
  refine KeepsR.next ?_
  exact Keeps.widen submit_keeps rfl

theorem execBindComplete_keeps {a0 s} : KeepsR 9957449 s (execBindComplete a0 s) := by
  unfold execBindComplete
  refine KeepsR.next ?_
  exact Keeps.widen bindComplete_keeps rfl

theorem execUnbind_keeps {a0 a1 a2 s} : KeepsR 14676057 s (execUnbind a0 a1 a2 s) := by
  unfold execUnbind
  refine KeepsR.next ?_
  exact Keeps.widen submit_keeps rfl

theorem execUnbindComplete_keeps {a0 s} : KeepsR 9957449 s (execUnbindComplete a0 s) := by
  unfold execUnbindComplete
  refine KeepsR.next ?_
  exact Keeps.widen unbindComplete_keeps rfl

theorem execKeyCreate_keeps {a0 a1 a2 a3 a4 a5 a6 s} : KeepsR 14676057 s (execKeyCreate a0 a1 a2 a3 a4 a5 a6 s) := by
  unfold execKeyCreate
  refine KeepsR.next ?_
  exact Keeps.widen submit_keeps rfl

theorem execKeyRevoke_keeps {a0 a1 a2 s} : KeepsR 14676057 s (execKeyRevoke a0 a1 a2 s) := by
  unfold execKeyRevoke
  refine KeepsR.next ?_
  exact Keeps.widen submit_keeps rfl

theorem keyCmdOp_keeps {a0 a1 s} : Keeps 229385 s (keyCmdOp a0 a1 s) := by
  unfold keyCmdOp
  refine Keeps.ite ?_ ?_
  · exact Keeps.refl _ _
  · exact Keeps.widen revokeStart_keeps rfl

theorem execKeyCmdRevoke_keeps {a0 a1 s} : KeepsR 229385 s (execKeyCmdRevoke a0 a1 s) := by
  unfold execKeyCmdRevoke
  refine KeepsR.next ?_
  refine Keeps.trans ?_ (cmdWrite_keeps (M := 229385) rfl ?_)
  · exact Keeps.refl _ _
  · intro v0
    exact Keeps.widen keyCmdOp_keeps rfl

theorem winCmdOp_keeps {a0 a1 s} : Keeps 13627481 s (winCmdOp a0 a1 s) := by
  unfold winCmdOp
  extract_lets x0
  clear_value x0
  refine Keeps.ite ?_ ?_
  · exact Keeps.refl _ _
  · exact Keeps.widen unbindStart_keeps rfl

theorem execWinCmdUnbind_keeps {a0 a1 s} : KeepsR 13627481 s (execWinCmdUnbind a0 a1 s) := by
  unfold execWinCmdUnbind
  refine KeepsR.next ?_
  refine Keeps.trans ?_ (cmdWrite_keeps (M := 13627481) rfl ?_)
  · exact Keeps.refl _ _
  · intro v0
    exact Keeps.widen winCmdOp_keeps rfl

theorem execRevokeDrain_keeps {a0 a1 s} : KeepsR 1544265 s (execRevokeDrain a0 a1 s) := by
  unfold execRevokeDrain
  refine KeepsR.next ?_
  refine Keeps.ite ?_ ?_
  · exact Keeps.refl _ _
  · exact Keeps.widen revokeEnd_keeps rfl

theorem execRevokeTimeout_keeps {a0 s} : KeepsR 1544265 s (execRevokeTimeout a0 s) := by
  unfold execRevokeTimeout
  refine KeepsR.next ?_
  refine Keeps.ite ?_ ?_
  · exact Keeps.refl _ _
  · extract_lets x0 x1 x2 x3 x4 x5 x6
    have k7 : Keeps 1544265 s x2 := by
      unfold x2
      exact Keeps.widen upd_win rfl
    clear_value x2
    have k8 : Keeps 1544265 s x3 := by
      unfold x3
      refine Keeps.foldl ?_ (fun t9 x10 k11 => ?_)
      · assumption
      · exact Keeps.step accDrop_keeps rfl ‹_›
    clear_value x3
    have k12 : Keeps 1544265 s x6 := by
      unfold x6
      exact Keeps.step upd_win rfl ‹_›
    clear_value x6
    clear_value x0 x1 x4 x5
    refine Keeps.step revokeEnd_keeps rfl ?_
    exact Keeps.step raise_keeps rfl ‹_›

theorem pinReady_keeps {a0 s} : Keeps 1052680 s (pinReady a0 s) := by
  unfold pinReady
  split
  · rename_i y0 y1
    exact Keeps.refl _ _
  · rename_i y2 y3 y4
    refine Keeps.ite ?_ ?_
    · exact Keeps.refl _ _
    · refine Keeps.step anaNotice_keeps rfl ?_
      exact Keeps.widen setNs_keeps rfl

theorem execFaultComplete_keeps {a0 a1 s} : KeepsR 14676057 s (execFaultComplete a0 a1 s) := by
  unfold execFaultComplete
  refine KeepsR.next ?_
  split
  · rename_i y0 y1
    exact Keeps.refl _ _
  · rename_i y2 y3 y4
    refine Keeps.ite ?_ ?_
    · exact Keeps.refl _ _
    · extract_lets x5 x6 x7
      have k8 : Keeps 14676057 s x7 := by
        unfold x7
        refine Keeps.step bump_keeps rfl ?_
        exact Keeps.widen upd_win rfl
      clear_value x7
      clear_value x5 x6
      refine Keeps.step pinReady_keeps rfl ?_
      refine Keeps.step stallGo_keeps rfl ?_
      exact Keeps.step wr_keeps rfl ‹_›

theorem execWindowWritebackAge_keeps {a0 a1 s} : KeepsR 14676057 s (execWindowWritebackAge a0 a1 s) := by
  unfold execWindowWritebackAge
  refine KeepsR.next ?_
  extract_lets x0
  clear_value x0
  refine Keeps.ite ?_ ?_
  · exact Keeps.refl _ _
  · refine Keeps.step stallGo_keeps rfl ?_
    exact Keeps.widen writeBack_keeps rfl

theorem execStallBudgetExpire_keeps {a0 a1 s} : KeepsR 1507401 s (execStallBudgetExpire a0 a1 s) := by
  unfold execStallBudgetExpire
  refine KeepsR.next ?_
  split
  · rename_i y0 y1
    exact Keeps.refl _ _
  · rename_i y2 y3 y4
    refine Keeps.step accDiscard_keeps rfl ?_
    exact Keeps.widen upd_win rfl

theorem execChainWaitTimeout_keeps {a0 s} : KeepsR 393289 s (execChainWaitTimeout a0 s) := by
  unfold execChainWaitTimeout
  refine KeepsR.next ?_
  split
  · rename_i y0 y1
    exact Keeps.refl _ _
  · rename_i y2 y3 y4
    extract_lets x5 x6 x7
    have k8 : Keeps 393289 s x6 := by
      unfold x6
      exact Keeps.widen raise_keeps rfl
    clear_value x6
    clear_value x5 x7
    refine Keeps.step ringDone_keeps rfl ?_
    exact Keeps.step upd_win rfl ‹_›

end Sys2Proof.Machine
end

