-- ==== Sys2Proof/Laws/KeepsTrust.lean ====
section
/-!
SUPPORT. Laws/KeepsTrust.lean: which units of the state each operation of Machine/Trust.lean may change: one `Keeps` lemma each.
-/
namespace Sys2Proof.Machine

/-- A burn lasts where the change it makes to the fuses does. -/
theorem burnFuse_keeps {a0 a1 a2 s} (hf : ∀ t, TrustKeeps t (a2 t)) : Keeps 263241 s (burnFuse a0 a1 a2 s) := by
  unfold burnFuse
  refine Keeps.ite ?_ ?_
  · exact Keeps.widen (upd_trust (hf _)) rfl
  · exact Keeps.widen raise_keeps rfl

theorem svn_lasting {n v : Nat} {t : TrustSt} : TrustKeeps t { t with svn := tset t.svn n (max v (tgetD t.svn n 0)) } where
  svn c := by
    show tgetD t.svn c 0 ≤ tgetD (tset t.svn n (max v (tgetD t.svn n 0))) c 0
    by_cases h : c = n
    · subst h
      rw [tgetD_tset_same]
      exact Nat.le_max_right _ _
    · exact Nat.le_of_eq (tgetD_tset_ne _ _ _ h).symm
  digests := List.prefix_refl _
  seq := Nat.le_refl _
  boots := Nat.le_refl _

theorem ownerBurn_lasting {slot digest : Nat} {rotate : Bool} {t : TrustSt} :
    TrustKeeps t (ownerBurn slot digest rotate t) where
  svn _ := Nat.le_refl _
  digests := List.prefix_append _ _
  seq := Nat.le_refl _
  boots := Nat.le_refl _

theorem fbProceed_keeps {a0 a1 s} : Keeps 16776665 s (fbProceed a0 a1 s) := by
  unfold fbProceed
  cases a0 with
  | nothing => exact Keeps.refl _ _
  | release => exact Keeps.step releaseEngines_keeps rfl (Keeps.widen raise_keeps rfl)
  | datumCommit => exact Keeps.widen armClosure_keeps rfl
  | datumConfirm => exact Keeps.step raise_keeps rfl (Keeps.widen upd_datum rfl)
  | datumSeal => exact Keeps.step raise_keeps rfl (Keeps.widen upd_datum rfl)
  | svnBurn n v =>
    have k : Keeps 16776665 s (burnFuse a1 6 (fun t => { t with svn := tset t.svn n (max v (tgetD t.svn n 0)) }) s) :=
      Keeps.widen (burnFuse_keeps fun _ => svn_lasting) rfl
    exact Keeps.ite (Keeps.step raise_keeps rfl k) k
  | debugUnlock scope => exact Keeps.step raise_keeps rfl (Keeps.widen (upd_trust debugGrant_lasting) rfl)
  | ownerBurn req slot digest rotate =>
    exact Keeps.ite (Keeps.widen drive_keeps rfl)
      (Keeps.step drive_keeps rfl (Keeps.widen (burnFuse_keeps fun _ => ownerBurn_lasting) rfl))
  | actBegin => exact Keeps.widen (upd_trust (TrustKeeps.of rfl rfl rfl rfl)) rfl
  | actEnd => exact Keeps.step raise_keeps rfl (Keeps.widen (upd_trust (TrustKeeps.of rfl rfl rfl rfl)) rfl)

theorem fbFail_keeps {a0 s} : Keeps 1160 s (fbFail a0 s) := by
  unfold fbFail
  split
  · rename_i y0
    exact Keeps.widen upd_datum rfl
  · rename_i y1
    exact Keeps.widen upd_datum rfl
  · rename_i y2
    exact Keeps.widen upd_datum rfl
  · rename_i y3
    exact Keeps.widen (upd_trust (TrustKeeps.of rfl rfl rfl rfl)) rfl
  · rename_i y4
    exact Keeps.widen (upd_trust (TrustKeeps.of rfl rfl rfl rfl)) rfl
  · rename_i y5 y6 y7 y8 y9
    exact Keeps.widen drive_keeps rfl
  · rename_i y10 y11 y12 y13 y14 y15 y16
    exact Keeps.refl _ _

theorem norDeviceFail_keeps {a0 a1 s} : Keeps 263241 s (norDeviceFail a0 a1 s) := by
  unfold norDeviceFail
  refine Keeps.ite ?_ ?_
  · exact Keeps.refl _ _
  · extract_lets x0 x1
    have k2 : Keeps 263241 s x1 := by
      unfold x1
      exact Keeps.widen (upd_trust (TrustKeeps.of rfl rfl rfl rfl)) rfl
    clear_value x1
    refine Keeps.step raise_keeps rfl ?_
    exact Keeps.step wr_keeps rfl ‹_›

theorem execFieldBookEntryWritten_keeps {a0 a1 a2 s} : KeepsR 16776665 s (execFieldBookEntryWritten a0 a1 a2 s) := by
  unfold execFieldBookEntryWritten
  split
  · rename_i y0 y1
    refine KeepsR.next ?_
    exact Keeps.refl _ _
  · rename_i y2 y3 y4 y5
    refine KeepsR.ite ?_ ?_
    · refine KeepsR.next ?_
      exact Keeps.refl _ _
    · extract_lets x6 x7 x8 x9 x10 x11
      have k12 : Keeps 16776665 s x8 := by
        unfold x8
        refine Keeps.step norDeviceFail_keeps rfl ?_
        exact Keeps.widen norDeviceFail_keeps rfl
      clear_value x8
      have k13 : Keeps 16776665 s x10 := by
        unfold x10
        exact Keeps.step (upd_trust (TrustKeeps.of rfl rfl rfl rfl)) rfl ‹_›
      clear_value x10
      clear_value x6 x7
      refine KeepsR.ite ?_ ?_
      · refine KeepsR.next ?_
        refine Keeps.step fbProceed_keeps rfl ?_
        exact Keeps.step fbWrite_keeps rfl ‹_›
      · refine KeepsR.next ?_
        refine Keeps.step fbFail_keeps rfl ?_
        refine Keeps.step fatalEvent_keeps rfl ?_
        exact Keeps.step (upd_trust (TrustKeeps.of rfl rfl rfl rfl)) rfl ‹_›

theorem bootConfirmOp_keeps {s} : Keeps 1024 s (bootConfirmOp s) := by
  unfold bootConfirmOp
  exact Keeps.widen (upd_trust (TrustKeeps.of rfl rfl rfl rfl)) rfl

theorem execBootConfirm_keeps {a0 s} : KeepsR 1025 s (execBootConfirm a0 s) := by
  unfold execBootConfirm
  refine KeepsR.next ?_
  refine Keeps.trans ?_ (cmdWrite_keeps (M := 1025) rfl ?_)
  · exact Keeps.refl _ _
  · intro v0
    exact Keeps.widen bootConfirmOp_keeps rfl

theorem svnAdvanceOp_keeps {a0 s} : Keeps 1024 s (svnAdvanceOp a0 s) := by
  unfold svnAdvanceOp
  extract_lets x0 x1
  clear_value x0 x1
  refine Keeps.ite ?_ ?_
  · exact Keeps.refl _ _
  · exact Keeps.widen fbRequest_keeps rfl

theorem execSvnAdvance_keeps {a0 s} : KeepsR 1025 s (execSvnAdvance a0 s) := by
  unfold execSvnAdvance
  refine KeepsR.next ?_
  refine Keeps.trans ?_ (cmdWrite_keeps (M := 1025) rfl ?_)
  · exact Keeps.refl _ _
  · intro v0
    exact Keeps.widen svnAdvanceOp_keeps rfl

theorem activateOp_keeps {s} : Keeps 263241 s (activateOp s) := by
  unfold activateOp
  split
  · rename_i y0 y1 y2
    exact Keeps.widen (upd_trust (TrustKeeps.of rfl rfl rfl rfl)) rfl
  · rename_i y3 y4
    extract_lets x5 x6 x7 x8
    clear_value x5 x7 x8
    split
    · rename_i y9 y10 y11 y12
      refine Keeps.step raise_keeps rfl ?_
      exact Keeps.widen (upd_trust (TrustKeeps.of rfl rfl rfl rfl)) rfl
    · rename_i y13 y14
      refine Keeps.step fbRequest_keeps rfl ?_
      exact Keeps.widen (upd_trust (TrustKeeps.of rfl rfl rfl rfl)) rfl

theorem execActivate_keeps {a0 s} : KeepsR 263241 s (execActivate a0 s) := by
  unfold execActivate
  refine KeepsR.next ?_
  refine Keeps.trans ?_ (cmdWrite_keeps (M := 263241) rfl ?_)
  · exact Keeps.refl _ _
  · intro v0
    exact Keeps.widen activateOp_keeps rfl

theorem bankSwitchCommit_keeps {s} : Keeps 2098304 s (bankSwitchCommit s) := by
  unfold bankSwitchCommit
  extract_lets x0 x1 x2 x3 x4 x5 x6
  have k7 : Keeps 2098304 s x5 := by
    unfold x5
    exact Keeps.widen upd_net rfl
  clear_value x5
  clear_value x0 x1 x2 x3 x4 x6
  refine Keeps.step fbRequest_keeps rfl ?_
  exact Keeps.step upd_datum rfl ‹_›

theorem componentSwitched_keeps {a0 a1 a2 s} : Keeps 2098304 s (componentSwitched a0 a1 a2 s) := by
  unfold componentSwitched
  extract_lets x0 x1 x2 x3 x4
  have k5 : Keeps 2098304 s x2 := by
    unfold x2
    exact Keeps.widen (upd_trust (TrustKeeps.of rfl rfl rfl rfl)) rfl
  clear_value x2
  have k6 : Keeps 2098304 s x3 := by
    unfold x3
    refine Keeps.ite ?_ ?_
    · exact Keeps.step bankSwitchCommit_keeps rfl ‹_›
    · assumption
  clear_value x3
  refine Keeps.ite ?_ ?_
  · refine Keeps.step fbRequest_keeps rfl ?_
    refine Keeps.step fbRequest_keeps rfl ?_
    exact Keeps.step (upd_trust (TrustKeeps.of rfl rfl rfl rfl)) rfl ‹_›
  · assumption

theorem execActivationComponentDone_keeps {a0 s} : KeepsR 2098304 s (execActivationComponentDone a0 s) := by
  unfold execActivationComponentDone
  extract_lets x0 x1
  have k2 : Keeps 2098304 s x1 := by
    unfold x1
    exact Keeps.widen (upd_trust measureSlot_lasting) rfl
  clear_value x1
  clear_value x0
  refine KeepsR.ite ?_ ?_
  · refine KeepsR.next ?_
    exact Keeps.refl _ _
  · split
    · rename_i y3 y4
      refine KeepsR.next ?_
      exact Keeps.widen actFinish_keeps rfl
    · rename_i y5 y6 y7 y8
      refine KeepsR.ite ?_ ?_
      · extract_lets x9
        have k10 : Keeps 2098304 s x9 := by
          unfold x9
          exact Keeps.widen componentSwitched_keeps rfl
        clear_value x9
        refine KeepsR.ite ?_ ?_
        · refine KeepsR.next ?_
          exact Keeps.step actFinish_keeps rfl ‹_›
        · refine KeepsR.next ?_
          assumption
      · refine KeepsR.next ?_
        refine Keeps.step actReturn_keeps rfl ?_
        refine Keeps.ite ?_ ?_
        · exact Keeps.step bankSwitchCommit_keeps rfl ‹_›
        · assumption

theorem freshNonce_keeps {s} : Keeps 4195344 s (freshNonce s) := by
  unfold freshNonce
  split
  · rename_i y0 y1 y2 y3
    have k4 : Keeps 4195344 s y2 := by
      refine Keeps.ofSnd y3 ?_
      exact Keeps.widen drbgDraw_keeps rfl
    exact Keeps.step (upd_trust (TrustKeeps.of rfl rfl rfl rfl)) rfl ‹_›

theorem execDebugUnlock_keeps {a0 a1 a2 a3 a4 s} : KeepsR 4457561 s (execDebugUnlock a0 a1 a2 a3 a4 s) := by
  unfold execDebugUnlock
  refine KeepsR.ite ?_ ?_
  · refine KeepsR.next ?_
    refine Keeps.step raise_keeps rfl ?_
    exact Keeps.widen freshNonce_keeps rfl
  · refine KeepsR.ite ?_ ?_
    · refine KeepsR.next ?_
      refine Keeps.step freshNonce_keeps rfl ?_
      exact Keeps.widen fbRequest_keeps rfl
    · extract_lets x0 x1 x2
      have k3 : Keeps 4457561 s x2 := by
        unfold x2
        refine Keeps.step freshNonce_keeps rfl ?_
        exact Keeps.widen (upd_trust (TrustKeeps.of rfl rfl rfl rfl)) rfl
      clear_value x2
      clear_value x0
      refine KeepsR.next ?_
      refine Keeps.ite ?_ ?_
      · exact Keeps.step raise_keeps rfl ‹_›
      · assumption

theorem execFieldBookExport_keeps {a0 a1 a2 a3 s} : KeepsR 1310793 s (execFieldBookExport a0 a1 a2 a3 s) := by
  unfold execFieldBookExport
  refine KeepsR.ite ?_ ?_
  · refine KeepsR.next ?_
    exact Keeps.widen answer_keeps rfl
  · extract_lets x0 x1 x2 x3 x4
    clear_value x1 x2 x3 x4
    refine KeepsR.next ?_
    refine Keeps.step answer_keeps rfl ?_
    exact Keeps.widen drive_keeps rfl

theorem spdmReply_keeps {a0 a1 a2 s} : Keeps 8 s (spdmReply a0 a1 a2 s) := by
  unfold spdmReply
  refine Keeps.ite ?_ ?_
  · exact Keeps.widen drive_keeps rfl
  · exact Keeps.refl _ _

theorem execGetMeasurements_keeps {a0 a1 a2 s} : KeepsR 8 s (execGetMeasurements a0 a1 a2 s) := by
  unfold execGetMeasurements
  extract_lets x0
  clear_value x0
  refine KeepsR.next ?_
  exact Keeps.widen spdmReply_keeps rfl

theorem execChallenge_keeps {a0 a1 a2 s} : KeepsR 8 s (execChallenge a0 a1 a2 s) := by
  unfold execChallenge
  refine KeepsR.next ?_
  exact Keeps.widen spdmReply_keeps rfl

theorem execKeyExchange_keeps {a0 a1 a2 s} : KeepsR 1032 s (execKeyExchange a0 a1 a2 s) := by
  unfold execKeyExchange
  refine KeepsR.ite ?_ ?_
  · refine KeepsR.next ?_
    exact Keeps.refl _ _
  · extract_lets x0 x1
    have k2 : Keeps 1032 s x1 := by
      unfold x1
      exact Keeps.widen (upd_trust (TrustKeeps.of rfl rfl rfl rfl)) rfl
    clear_value x1
    refine KeepsR.next ?_
    exact Keeps.step spdmReply_keeps rfl ‹_›

theorem execKeyUpdate_keeps {a0 a1 s} : KeepsR 8 s (execKeyUpdate a0 a1 s) := by
  unfold execKeyUpdate
  refine KeepsR.next ?_
  refine Keeps.ite ?_ ?_
  · exact Keeps.widen spdmReply_keeps rfl
  · exact Keeps.widen spdmReply_keeps rfl

theorem execSetCertificate_keeps {a0 a1 a2 s} : KeepsR 1032 s (execSetCertificate a0 a1 a2 s) := by
  unfold execSetCertificate
  refine KeepsR.ite ?_ ?_
  · refine KeepsR.next ?_
    exact Keeps.refl _ _
  · refine KeepsR.next ?_
    refine Keeps.step spdmReply_keeps rfl ?_
    exact Keeps.widen (upd_trust (TrustKeeps.of rfl rfl rfl rfl)) rfl

theorem execOwnerEnrol_keeps {a0 a1 s} : KeepsR 1032 s (execOwnerEnrol a0 a1 s) := by
  unfold execOwnerEnrol
  refine KeepsR.ite ?_ ?_
  · refine KeepsR.next ?_
    exact Keeps.widen fbRequest_keeps rfl
  · refine KeepsR.next ?_
    exact Keeps.widen drive_keeps rfl

theorem execOwnerRotate_keeps {a0 a1 a2 s} : KeepsR 1032 s (execOwnerRotate a0 a1 a2 s) := by
  unfold execOwnerRotate
  extract_lets x0
  clear_value x0
  refine KeepsR.ite ?_ ?_
  · refine KeepsR.next ?_
    exact Keeps.widen fbRequest_keeps rfl
  · refine KeepsR.next ?_
    exact Keeps.widen drive_keeps rfl

theorem execEscrowKeyInstall_keeps {a0 a1 s} : KeepsR 1032 s (execEscrowKeyInstall a0 a1 s) := by
  unfold execEscrowKeyInstall
  refine KeepsR.ite ?_ ?_
  · refine KeepsR.next ?_
    refine Keeps.step drive_keeps rfl ?_
    exact Keeps.widen (upd_trust (TrustKeeps.of rfl rfl rfl rfl)) rfl
  · refine KeepsR.next ?_
    exact Keeps.widen drive_keeps rfl

theorem execFieldBookEntryVendorGet_keeps {a0 a1 a2 s} : KeepsR 8 s (execFieldBookEntryVendorGet a0 a1 a2 s) := by
  unfold execFieldBookEntryVendorGet
  split
  · rename_i y0 y1
    refine KeepsR.next ?_
    exact Keeps.widen spdmReply_keeps rfl
  · rename_i y2 y3 y4
    refine KeepsR.next ?_
    exact Keeps.widen spdmReply_keeps rfl

end Sys2Proof.Machine
end

