-- ==== Sys2Proof/Laws/KeepsRegWrite.lean ====
section
/-!
SUPPORT. Laws/KeepsRegWrite.lean: which units of the state each operation of Machine/RegWrite.lean may change: one `Keeps` lemma each.
-/
namespace Sys2Proof.Machine

theorem datumCmd_keeps {a0 s} : Keeps 263369 s (datumCmd a0 s) := by
  unfold datumCmd
  split
  · rename_i y0 y1
    exact Keeps.widen commitOp_keeps rfl
  · rename_i y2 y3
    exact Keeps.widen confirmOp_keeps rfl
  · rename_i y4 y5
    exact Keeps.widen revertOp_keeps rfl
  · rename_i y6 y7
    exact Keeps.widen discardOp_keeps rfl
  · rename_i y8 y9
    exact Keeps.widen sealOp_keeps rfl
  · rename_i y10 y11
    exact Keeps.widen loadOp_keeps rfl
  · rename_i y12 y13 y14 y15 y16 y17 y18
    refine Keeps.ite ?_ ?_
    · exact Keeps.refl _ _
    · exact Keeps.widen datumRefuse_keeps rfl

theorem rstCmd_keeps {a0 a1 s} : Keeps 16777215 s (rstCmd a0 a1 s) := by
  unfold rstCmd
  refine Keeps.ite ?_ ?_
  · exact Keeps.widen rstResult_keeps rfl
  · split
    · rename_i y0 y1
      exact Keeps.widen coldOp_keeps rfl
    · rename_i y2 y3
      exact Keeps.widen warmOp_keeps rfl
    · rename_i y4 y5
      exact Keeps.widen shutdownOp_keeps rfl
    · rename_i y6 y7
      exact Keeps.widen blockOp_keeps rfl
    · rename_i y8 y9 y10 y11 y12
      exact Keeps.widen rstResult_keeps rfl

theorem timeCmd_keeps {a0 s} : Keeps 262473 s (timeCmd a0 s) := by
  unfold timeCmd
  split
  · rename_i y0 y1
    exact Keeps.widen setDisciplinedOp_keeps rfl
  · rename_i y2 y3
    exact Keeps.widen clearDisciplinedOp_keeps rfl
  · rename_i y4 y5 y6
    exact Keeps.refl _ _

theorem ruleCmd_keeps {a0 a1 s} : Keeps 2097153 s (ruleCmd a0 a1 s) := by
  unfold ruleCmd
  split
  · rename_i y0 y1
    exact Keeps.widen ruleWriteOp_keeps rfl
  · rename_i y2 y3
    exact Keeps.widen ruleInvalidateOp_keeps rfl
  · rename_i y4 y5
    exact Keeps.widen ruleReadOp_keeps rfl
  · rename_i y6 y7 y8 y9
    exact Keeps.refl _ _

theorem flowCmd_keeps {a0 s} : Keeps 2359369 s (flowCmd a0 s) := by
  unfold flowCmd
  split
  · rename_i y0 y1
    exact Keeps.widen flowInsertOp_keeps rfl
  · rename_i y2 y3
    exact Keeps.widen flowDeleteOp_keeps rfl
  · rename_i y4 y5
    exact Keeps.widen flowReplaceOp_keeps rfl
  · rename_i y6 y7
    exact Keeps.widen flowLookupOp_keeps rfl
  · rename_i y8 y9 y10 y11 y12
    exact Keeps.widen flowStat_keeps rfl

theorem ksKeyCmd_keeps {a0 a1 s} : Keeps 13475929 s (ksKeyCmd a0 a1 s) := by
  unfold ksKeyCmd
  split
  · rename_i y0 y1
    exact Keeps.widen rollOp_keeps rfl
  · rename_i y2 y3
    exact Keeps.widen escReadOp_keeps rfl
  · rename_i y4 y5
    exact Keeps.widen importOp_keeps rfl
  · rename_i y6 y7 y8 y9
    exact Keeps.widen keyStat_keeps rfl

theorem saCmd_keeps {a0 a1 s} : Keeps 16248905 s (saCmd a0 a1 s) := by
  unfold saCmd
  split
  · rename_i y0 y1
    exact Keeps.widen saInstallOp_keeps rfl
  · rename_i y2 y3
    exact Keeps.widen saDeleteOp_keeps rfl
  · rename_i y4 y5
    exact Keeps.widen saReadOp_keeps rfl
  · rename_i y6 y7 y8 y9
    exact Keeps.widen saStat_keeps rfl

theorem memberCmdWrite_keeps {a0 a1 s} : Keeps 14678105 s (memberCmdWrite a0 a1 s) := by
  unfold memberCmdWrite
  split
  · rename_i y0 y1
    exact Keeps.widen failOp_keeps rfl
  · rename_i y2 y3
    exact Keeps.widen admitOp_keeps rfl
  · rename_i y4 y5
    exact Keeps.widen resyncFullOp_keeps rfl
  · rename_i y6 y7 y8 y9
    exact Keeps.widen memberResult_keeps rfl

theorem reshapeCmdWrite_keeps {a0 s} : Keeps 14678105 s (reshapeCmdWrite a0 s) := by
  unfold reshapeCmdWrite
  split
  · rename_i y0 y1
    exact Keeps.widen reshapeStartOp_keeps rfl
  · rename_i y2 y3
    exact Keeps.widen reshapeSuspendOp_keeps rfl
  · rename_i y4 y5
    exact Keeps.widen reshapeResumeOp_keeps rfl
  · rename_i y6 y7
    exact Keeps.widen formOp_keeps rfl
  · rename_i y8 y9 y10 y11 y12
    exact Keeps.refl _ _

theorem bayCmdWrite_keeps {a0 a1 s} : Keeps 14678105 s (bayCmdWrite a0 a1 s) := by
  unfold bayCmdWrite
  extract_lets x0
  clear_value x0
  refine Keeps.ite ?_ ?_
  · exact Keeps.widen bayCmdReserved_keeps rfl
  · exact Keeps.widen bayCommand_keeps rfl

theorem actCmd_keeps {a0 s} : Keeps 263241 s (actCmd a0 s) := by
  unfold actCmd
  refine Keeps.ite ?_ ?_
  · exact Keeps.widen activateOp_keeps rfl
  · exact Keeps.widen (upd_trust (TrustKeeps.of rfl rfl rfl rfl)) rfl

theorem woWrite_keeps {a0 a1 a2 s} : Keeps 16777215 s (woWrite a0 a1 a2 s) := by
  unfold woWrite
  refine Keeps.ite ?_ ?_
  · exact Keeps.widen evtForceOp_keeps rfl
  · refine Keeps.ite ?_ ?_
    · exact Keeps.widen datumCmd_keeps rfl
    · refine Keeps.ite ?_ ?_
      · exact Keeps.widen rstCmd_keeps rfl
      · refine Keeps.ite ?_ ?_
        · exact Keeps.widen wdtKickOp_keeps rfl
        · refine Keeps.ite ?_ ?_
          · exact Keeps.widen setSel_keeps rfl
          · refine Keeps.ite ?_ ?_
            · exact Keeps.widen timeStepOp_keeps rfl
            · refine Keeps.ite ?_ ?_
              · exact Keeps.widen timeCmd_keeps rfl
              · refine Keeps.ite ?_ ?_
                · refine Keeps.ite ?_ ?_
                  · exact Keeps.widen bootConfirmOp_keeps rfl
                  · exact Keeps.refl _ _
                · refine Keeps.ite ?_ ?_
                  · exact Keeps.widen actCmd_keeps rfl
                  · refine Keeps.ite ?_ ?_
                    · refine Keeps.ite ?_ ?_
                      · exact Keeps.widen svnAdvanceOp_keeps rfl
                      · exact Keeps.refl _ _
                    · refine Keeps.ite ?_ ?_
                      · exact Keeps.widen ruleCmd_keeps rfl
                      · refine Keeps.ite ?_ ?_
                        · exact Keeps.widen flowCmd_keeps rfl
                        · refine Keeps.ite ?_ ?_
                          · exact Keeps.widen keyCmdOp_keeps rfl
                          · refine Keeps.ite ?_ ?_
                            · exact Keeps.widen winCmdOp_keeps rfl
                            · refine Keeps.ite ?_ ?_
                              · exact Keeps.widen ksKeyCmd_keeps rfl
                              · refine Keeps.ite ?_ ?_
                                · exact Keeps.widen saCmd_keeps rfl
                                · refine Keeps.ite ?_ ?_
                                  · exact Keeps.widen memberCmdWrite_keeps rfl
                                  · refine Keeps.ite ?_ ?_
                                    · exact Keeps.widen reshapeCmdWrite_keeps rfl
                                    · refine Keeps.ite ?_ ?_
                                      · exact Keeps.widen moveOp_keeps rfl
                                      · refine Keeps.ite ?_ ?_
                                        · exact Keeps.widen smHeartbeatOp_keeps rfl
                                        · refine Keeps.ite ?_ ?_
                                          · exact Keeps.widen bayCmdWrite_keeps rfl
                                          · exact Keeps.refl _ _

theorem rwWrite_keeps {a0 a1 a2 s} : Keeps 329 s (rwWrite a0 a1 a2 s) := by
  unfold rwWrite
  refine Keeps.ite ?_ ?_
  · exact Keeps.widen qHeadOp_keeps rfl
  · refine Keeps.ite ?_ ?_
    · exact Keeps.widen trHeadOp_keeps rfl
    · refine Keeps.ite ?_ ?_
      · exact Keeps.widen timeAdjOp_keeps rfl
      · refine Keeps.ite ?_ ?_
        · exact Keeps.widen timeSlewOp_keeps rfl
        · refine Keeps.ite ?_ ?_
          · exact Keeps.widen lookupOp_keeps rfl
          · exact Keeps.widen wr_keeps rfl

theorem rw1cWrite_keeps {a0 a1 s} : Keeps 14678361 s (rw1cWrite a0 a1 s) := by
  unfold rw1cWrite
  refine Keeps.ite ?_ ?_
  · exact Keeps.widen quarClearOp_keeps rfl
  · refine Keeps.ite ?_ ?_
    · exact Keeps.widen quarClearOp_keeps rfl
    · refine Keeps.ite ?_ ?_
      · exact Keeps.widen quarClearOp_keeps rfl
      · extract_lets x0
        clear_value x0
        exact Keeps.widen wr_keeps rfl

theorem rwlWrite_keeps {a0 a1 a2 a3 s} : Keeps 1 s (rwlWrite a0 a1 a2 a3 s) := by
  unfold rwlWrite
  refine Keeps.ite ?_ ?_
  · exact Keeps.widen errLast_keeps rfl
  · refine Keeps.ite ?_ ?_
    · exact Keeps.widen errLast_keeps rfl
    · exact Keeps.widen wr_keeps rfl

theorem rowWrite_keeps {a0 a1 a2 a3 a4 s} : Keeps 16777215 s (rowWrite a0 a1 a2 a3 a4 s) := by
  unfold rowWrite
  split
  · rename_i y0 y1
    exact Keeps.widen errLast_keeps rfl
  · rename_i y2 y3
    refine Keeps.trans ?_ (cmdWrite_keeps (M := 16777215) rfl ?_)
    · exact Keeps.refl _ _
    · intro v4
      exact Keeps.widen woWrite_keeps rfl
  · rename_i y5 y6
    exact Keeps.widen stageWrite_keeps rfl
  · rename_i y7 y8
    exact Keeps.widen rwlWrite_keeps rfl
  · rename_i y9 y10
    exact Keeps.widen setSel_keeps rfl
  · rename_i y11 y12
    exact Keeps.widen wr_keeps rfl
  · rename_i y13 y14
    exact Keeps.widen rw1cWrite_keeps rfl
  · rename_i y15 y16
    extract_lets x17
    clear_value x17
    exact Keeps.widen rwWrite_keeps rfl

theorem regWriteFull_keeps {a0 a1 a2 a3 s} : Keeps 16777215 s (regWriteFull a0 a1 a2 a3 s) := by
  unfold regWriteFull
  split
  · rename_i y0 y1
    exact Keeps.refl _ _
  · rename_i y2 y3 y4
    refine Keeps.ite ?_ ?_
    · exact Keeps.widen errLast_keeps rfl
    · split
      · rename_i y5 y6
        exact Keeps.widen errLast_keeps rfl
      · rename_i y7 y8 y9
        refine Keeps.ite ?_ ?_
        · exact Keeps.widen errLast_keeps rfl
        · exact Keeps.widen rowWrite_keeps rfl

theorem execRegisterWrite_keeps {a0 a1 a2 a3 a4 s} : KeepsR 16777215 s (execRegisterWrite a0 a1 a2 a3 a4 s) := by
  unfold execRegisterWrite
  refine KeepsR.next ?_
  exact Keeps.widen regWriteFull_keeps rfl

end Sys2Proof.Machine
end

