-- ==== Sys2Proof/Laws/KeepsRings.lean ====
section
/-!
SUPPORT. Laws/KeepsRings.lean: which units of the state each operation of Machine/Rings.lean may change: one `Keeps` lemma each.
-/
namespace Sys2Proof.Machine

theorem ringPage_keeps {a0 a1 a2 s} {M : Nat} (hM : 262144 ||| M = M) (hf2 : ∀ v0 v1, Keeps M v1 (a2 v0 v1)) :
    Keeps M s (ringPage a0 a1 a2 s) := by
  unfold ringPage
  refine Keeps.ite ?_ ?_
  · exact Keeps.refl _ _
  · extract_lets x0 x1
    clear_value x0 x1
    refine Keeps.trans ?_ (hf2 ..)
    refine Keeps.ite ?_ ?_
    · exact Keeps.refl _ _
    · exact Keeps.widen upd_ep (orSub hM rfl)

theorem execDb_keeps {a0 a1 a2 s} : KeepsR 262216 s (execDb a0 a1 a2 s) := by
  unfold execDb
  refine KeepsR.next ?_
  refine Keeps.trans ?_ (ringPage_keeps (M := 262216) rfl ?_)
  · exact Keeps.refl _ _
  · intro v0 v1
    exact Keeps.widen doorbell_keeps rfl

theorem execPush_keeps {a0 a1 a2 a3 s} : KeepsR 262217 s (execPush a0 a1 a2 a3 s) := by
  unfold execPush
  refine KeepsR.next ?_
  refine Keeps.trans ?_ (ringPage_keeps (M := 262217) rfl ?_)
  · exact Keeps.refl _ _
  · intro v0 v1
    extract_lets x2 x3 x4 x5 x6
    have k7 : Keeps 262217 v1 x6 := by
      unfold x6
      exact Keeps.widen upd_ep rfl
    clear_value x6
    clear_value x2 x3 x4 x5
    refine Keeps.ite ?_ ?_
    · exact Keeps.refl _ _
    · refine Keeps.ite ?_ ?_
      · refine Keeps.step bump_keeps rfl ?_
        exact Keeps.step setRing_keeps rfl ‹_›
      · refine Keeps.step bump_keeps rfl ?_
        exact Keeps.widen doorbell_keeps rfl

theorem ringCtl_keeps {a0 a1 s} : Keeps 262144 s (ringCtl a0 a1 s) := by
  unfold ringCtl
  extract_lets x0 x1 x2 x3 x4 x5
  clear_value x5
  clear_value x4
  clear_value x2
  clear_value x1
  refine Keeps.ite ?_ ?_
  · exact Keeps.widen setRing_keeps rfl
  · refine Keeps.ite ?_ ?_
    · refine Keeps.ite ?_ ?_
      · exact Keeps.widen setRing_keeps rfl
      · refine Keeps.ite ?_ ?_
        · exact Keeps.widen setRing_keeps rfl
        · exact Keeps.widen setRing_keeps rfl
    · refine Keeps.ite ?_ ?_
      · exact Keeps.widen setRing_keeps rfl
      · refine Keeps.step ringSettle_keeps rfl ?_
        exact Keeps.widen setRing_keeps rfl

theorem execRingCtlWrite_keeps {a0 a1 a2 a3 s} : KeepsR 262144 s (execRingCtlWrite a0 a1 a2 a3 s) := by
  unfold execRingCtlWrite
  refine KeepsR.next ?_
  refine Keeps.trans ?_ (ringPage_keeps (M := 262144) rfl ?_)
  · exact Keeps.refl _ _
  · intro v0 v1
    extract_lets x2 x3
    have k4 : ∀ a5 a6, Keeps 262144 a6 (x3 a5 a6) := by
      unfold x3
      intro v7 v8
      refine Keeps.ite ?_ ?_
      · exact Keeps.widen setRing_keeps rfl
      · exact Keeps.widen setRing_keeps rfl
    clear_value x3
    clear_value x2
    refine Keeps.ite ?_ ?_
    · exact Keeps.widen ringCtl_keeps rfl
    · refine Keeps.ite ?_ ?_
      · refine Keeps.ite ?_ ?_
        · apply k4
        · exact Keeps.widen setRing_keeps rfl
      · refine Keeps.ite ?_ ?_
        · apply k4
        · refine Keeps.ite ?_ ?_
          · apply k4
          · refine Keeps.ite ?_ ?_
            · refine Keeps.ite ?_ ?_
              · exact Keeps.widen setRing_keeps rfl
              · exact Keeps.widen setRing_keeps rfl
            · refine Keeps.ite ?_ ?_
              · refine Keeps.ite ?_ ?_
                · exact Keeps.widen setRing_keeps rfl
                · exact Keeps.widen setRing_keeps rfl
              · exact Keeps.refl _ _

theorem execDrain_keeps {a0 a1 s} : KeepsR 393289 s (execDrain a0 a1 s) := by
  unfold execDrain
  refine KeepsR.next ?_
  refine Keeps.trans ?_ (ringPage_keeps (M := 393289) rfl ?_)
  · exact Keeps.refl _ _
  · intro v0 v1
    extract_lets x2 x3 x4 x5
    have k6 : Keeps 393289 v1 x3 := by
      unfold x3
      exact Keeps.widen setRing_keeps rfl
    clear_value x3
    have k7 : Keeps 393289 v1 x5 := by
      unfold x5
      split
      · rename_i y8 y9
        assumption
      · rename_i y10 y11 y12
        extract_lets x13
        clear_value x13
        refine Keeps.step ringDone_keeps rfl ?_
        exact Keeps.step upd_win rfl ‹_›
    clear_value x5
    clear_value x2 x4
    refine Keeps.ite ?_ ?_
    · exact Keeps.widen setRing_keeps rfl
    · exact Keeps.step ringSettle_keeps rfl ‹_›

theorem execPause_keeps {a0 a1 s} : KeepsR 262144 s (execPause a0 a1 s) := by
  unfold execPause
  refine KeepsR.next ?_
  refine Keeps.trans ?_ (ringPage_keeps (M := 262144) rfl ?_)
  · exact Keeps.refl _ _
  · intro v0 v1
    extract_lets x2
    clear_value x2
    refine Keeps.ite ?_ ?_
    · exact Keeps.widen setRing_keeps rfl
    · exact Keeps.widen setRing_keeps rfl

theorem execRingResume_keeps {a0 a1 s} : KeepsR 262144 s (execRingResume a0 a1 s) := by
  unfold execRingResume
  refine KeepsR.next ?_
  refine Keeps.trans ?_ (ringPage_keeps (M := 262144) rfl ?_)
  · exact Keeps.refl _ _
  · intro v0 v1
    extract_lets x2
    clear_value x2
    refine Keeps.ite ?_ ?_
    · exact Keeps.widen setRing_keeps rfl
    · exact Keeps.widen setRing_keeps rfl

theorem execInvalidate_keeps {a0 a1 s} : KeepsR 262144 s (execInvalidate a0 a1 s) := by
  unfold execInvalidate
  refine KeepsR.next ?_
  refine Keeps.trans ?_ (ringPage_keeps (M := 262144) rfl ?_)
  · exact Keeps.refl _ _
  · intro v0 v1
    extract_lets x2
    clear_value x2
    refine Keeps.ite ?_ ?_
    · exact Keeps.widen setRing_keeps rfl
    · exact Keeps.widen setRing_keeps rfl

theorem execRingGrant_keeps {a0 s} : KeepsR 262217 s (execRingGrant a0 s) := by
  unfold execRingGrant
  refine KeepsR.next ?_
  refine Keeps.ite ?_ ?_
  · exact Keeps.refl _ _
  · extract_lets x0 x1
    clear_value x0 x1
    split
    · rename_i y2 y3 y4
      exact Keeps.refl _ _
    · rename_i y5 y6 y7 y8 y9
      refine Keeps.step grantN_keeps rfl ?_
      exact Keeps.widen upd_ep rfl

theorem execRingNop_keeps {a0 s} : KeepsR 262217 s (execRingNop a0 s) := by
  unfold execRingNop
  refine KeepsR.next ?_
  refine Keeps.trans ?_ (withDesc_keeps (M := 262217) rfl ?_)
  · exact Keeps.refl _ _
  · intro v0 v1
    exact Keeps.widen ringDone_keeps rfl

theorem execNvmeIo_keeps {a0 a1 s} : KeepsR 14676057 s (execNvmeIo a0 a1 s) := by
  unfold execNvmeIo
  refine KeepsR.next ?_
  split
  · rename_i y0 y1
    exact Keeps.refl _ _
  · rename_i y2 y3 y4
    refine Keeps.ite ?_ ?_
    · exact Keeps.refl _ _
    · refine Keeps.trans ?_ (withDesc_keeps (M := 14676057) rfl ?_)
      · exact Keeps.refl _ _
      · intro v5 v6
        split
        · rename_i y7 y8
          exact Keeps.widen ringDone_keeps rfl
        · rename_i y9 y10 y11
          have k12 : Keeps 14676057 v6 y10 := by
            refine Keeps.ofSome y11 ?_
            refine Keeps.stepO submitRing_keeps rfl ?_
            exact Keeps.refl _ _
          assumption

theorem execNvmeAdmin_keeps {a0 s} : KeepsR 262217 s (execNvmeAdmin a0 s) := by
  unfold execNvmeAdmin
  refine KeepsR.next ?_
  refine Keeps.trans ?_ (withDesc_keeps (M := 262217) rfl ?_)
  · exact Keeps.refl _ _
  · intro v0 v1
    exact Keeps.refl _ _

theorem execMgmt_keeps {a0 a1 s} : KeepsR 262217 s (execMgmt a0 a1 s) := by
  unfold execMgmt
  refine KeepsR.next ?_
  refine Keeps.trans ?_ (withDesc_keeps (M := 262217) rfl ?_)
  · exact Keeps.refl _ _
  · intro v0 v1
    exact Keeps.widen ringDone_keeps rfl

theorem execWinRead_keeps {a0 s} : KeepsR 14676057 s (execWinRead a0 s) := by
  unfold execWinRead
  refine KeepsR.next ?_
  refine Keeps.trans ?_ (withDesc_keeps (M := 14676057) rfl ?_)
  · exact Keeps.refl _ _
  · intro v0 v1
    exact Keeps.widen ringAccess_keeps rfl

theorem execWinWrite_keeps {a0 a1 s} : KeepsR 14676057 s (execWinWrite a0 a1 s) := by
  unfold execWinWrite
  refine KeepsR.next ?_
  refine Keeps.trans ?_ (withDesc_keeps (M := 14676057) rfl ?_)
  · exact Keeps.refl _ _
  · intro v0 v1
    exact Keeps.widen ringAccess_keeps rfl

theorem execWinFadd_keeps {a0 s} : KeepsR 14676057 s (execWinFadd a0 s) := by
  unfold execWinFadd
  refine KeepsR.next ?_
  refine Keeps.trans ?_ (withDesc_keeps (M := 14676057) rfl ?_)
  · exact Keeps.refl _ _
  · intro v0 v1
    exact Keeps.widen ringAccess_keeps rfl

theorem execWinCas8_keeps {a0 s} : KeepsR 14676057 s (execWinCas8 a0 s) := by
  unfold execWinCas8
  refine KeepsR.next ?_
  refine Keeps.trans ?_ (withDesc_keeps (M := 14676057) rfl ?_)
  · exact Keeps.refl _ _
  · intro v0 v1
    exact Keeps.widen ringAccess_keeps rfl

theorem execWinCas16_keeps {a0 s} : KeepsR 14676057 s (execWinCas16 a0 s) := by
  unfold execWinCas16
  refine KeepsR.next ?_
  refine Keeps.trans ?_ (withDesc_keeps (M := 14676057) rfl ?_)
  · exact Keeps.refl _ _
  · intro v0 v1
    exact Keeps.widen ringAccess_keeps rfl

theorem execChainWait_keeps {a0 s} : KeepsR 393289 s (execChainWait a0 s) := by
  unfold execChainWait
  refine KeepsR.next ?_
  refine Keeps.trans ?_ (withDesc_keeps (M := 393289) rfl ?_)
  · exact Keeps.refl _ _
  · intro v0 v1
    extract_lets x2 x3 x4 x5
    clear_value x2 x3 x4 x5
    refine Keeps.ite ?_ ?_
    · exact Keeps.widen ringDone_keeps rfl
    · refine Keeps.ite ?_ ?_
      · exact Keeps.widen ringDone_keeps rfl
      · refine Keeps.ite ?_ ?_
        · exact Keeps.widen ringDone_keeps rfl
        · exact Keeps.widen upd_win rfl

theorem execCoalDelayExpire_keeps {a0 s} : KeepsR 262216 s (execCoalDelayExpire a0 s) := by
  unfold execCoalDelayExpire
  refine KeepsR.next ?_
  extract_lets x0
  clear_value x0
  refine Keeps.ite ?_ ?_
  · refine Keeps.step msix_keeps rfl ?_
    exact Keeps.widen setRing_keeps rfl
  · exact Keeps.refl _ _

end Sys2Proof.Machine
end

