-- ==== Sys2Proof/Laws/KeepsRp.lean ====
section
/-!
SUPPORT. Laws/KeepsRp.lean: which units of the state each operation of Machine/Rp.lean may change: one `Keeps` lemma each.
-/
namespace Sys2Proof.Machine

theorem execPerstDelayExpire_keeps {a0 s} : KeepsR 8388608 s (execPerstDelayExpire a0 s) := by
  unfold execPerstDelayExpire
  refine KeepsR.next ?_
  extract_lets x0
  clear_value x0
  refine Keeps.ite ?_ ?_
  · exact Keeps.refl _ _
  · exact Keeps.widen setPort_keeps rfl

theorem execRpTrainingTimeout_keeps {a0 s} : KeepsR 14678361 s (execRpTrainingTimeout a0 s) := by
  unfold execRpTrainingTimeout
  refine KeepsR.next ?_
  extract_lets x0
  clear_value x0
  refine Keeps.ite ?_ ?_
  · exact Keeps.refl _ _
  · refine Keeps.ite ?_ ?_
    · refine Keeps.step portSettled_keeps rfl ?_
      refine Keeps.step portUnusable_keeps rfl ?_
      exact Keeps.widen setPort_keeps rfl
    · refine Keeps.trans ?_ (portDown_keeps (M := 14678361) rfl ?_)
      · exact Keeps.widen setPort_keeps rfl
      · intro v1
        refine Keeps.idE ?_
        exact Keeps.refl _ _

theorem enumerateDrive_keeps {a0 a1 s} : Keeps 14678361 s (enumerateDrive a0 a1 s) := by
  unfold enumerateDrive
  extract_lets x0 x1
  clear_value x0 x1
  split
  · rename_i y2 y3
    refine Keeps.step portSettled_keeps rfl ?_
    exact Keeps.widen setPort_keeps rfl
  · rename_i y4 y5
    refine Keeps.step portSettled_keeps rfl ?_
    refine Keeps.step portUnusable_keeps rfl ?_
    exact Keeps.widen setPort_keeps rfl

theorem execRpLinkUp_keeps {a0 a1 a2 a3 s} : KeepsR 8650825 s (execRpLinkUp a0 a1 a2 a3 s) := by
  unfold execRpLinkUp
  refine KeepsR.next ?_
  extract_lets x0
  clear_value x0
  refine Keeps.ite ?_ ?_
  · exact Keeps.refl _ _
  · refine Keeps.step rpEvent_keeps rfl ?_
    exact Keeps.widen setPort_keeps rfl

theorem execDriveReady_keeps {a0 a1 s} : KeepsR 14678361 s (execDriveReady a0 a1 s) := by
  unfold execDriveReady
  refine KeepsR.next ?_
  refine Keeps.ite ?_ ?_
  · exact Keeps.widen enumerateDrive_keeps rfl
  · exact Keeps.refl _ _

theorem execDriveReadyTimeout_keeps {a0 s} : KeepsR 14678361 s (execDriveReadyTimeout a0 s) := by
  unfold execDriveReadyTimeout
  refine KeepsR.next ?_
  extract_lets x0
  clear_value x0
  refine Keeps.ite ?_ ?_
  · exact Keeps.refl _ _
  · refine Keeps.ite ?_ ?_
    · refine Keeps.step portSettled_keeps rfl ?_
      refine Keeps.step portUnusable_keeps rfl ?_
      exact Keeps.widen setPort_keeps rfl
    · refine Keeps.trans ?_ (portDown_keeps (M := 14678361) rfl ?_)
      · exact Keeps.widen setPort_keeps rfl
      · intro v1
        refine Keeps.idE ?_
        exact Keeps.refl _ _

theorem execDriveFormatComplete_keeps {a0 s} : KeepsR 8462345 s (execDriveFormatComplete a0 s) := by
  unfold execDriveFormatComplete
  refine KeepsR.next ?_
  extract_lets x0 x1 x2
  have k3 : Keeps 8462345 s x1 := by
    unfold x1
    exact Keeps.widen setMember_keeps rfl
  clear_value x1
  have k4 : Keeps 8462345 s x2 := by
    unfold x2
    split
    · rename_i y5 y6
      assumption
    · rename_i y7 y8 y9
      exact Keeps.step freeCmd_keeps rfl ‹_›
  clear_value x2
  clear_value x0
  refine Keeps.ite ?_ ?_
  · exact Keeps.refl _ _
  · refine Keeps.ite ?_ ?_
    · exact Keeps.step writeLabels_keeps rfl ‹_›
    · assumption

theorem timedOut_keeps {a0 a1 s} : Keeps 9957449 s (timedOut a0 a1 s) := by
  unfold timedOut
  split
  · rename_i y0 y1 y2 y3 y4 y5
    refine Keeps.step settleFailed_keeps rfl ?_
    exact Keeps.widen takeRead_keeps rfl
  · rename_i y6 y7 y8
    refine Keeps.step replan_keeps rfl ?_
    exact Keeps.widen setPort_keeps rfl
  · rename_i y9 y10 y11
    exact Keeps.widen zsend_keeps rfl
  · rename_i y12 y13 y14 y15
    split
    · rename_i y16 y17 y18
      exact Keeps.refl _ _
    · rename_i y19 y20
      exact Keeps.widen portCmd_keeps rfl

theorem execRpCommandTimeout_keeps {a0 a1 a2 a3 s} : KeepsR 14678105 s (execRpCommandTimeout a0 a1 a2 a3 s) := by
  unfold execRpCommandTimeout
  refine KeepsR.next ?_
  extract_lets x0 x1 x2 x3 x4 x5 x6 x7 x8 x9 x10
  have k11 : Keeps 14678105 s x5 := by
    unfold x5
    exact Keeps.widen setPort_keeps rfl
  clear_value x5
  have k12 : Keeps 14678105 s x6 := by
    unfold x6
    refine Keeps.step bump_keeps rfl ?_
    exact Keeps.step errLast_keeps rfl ‹_›
  clear_value x6
  have k13 : Keeps 14678105 s x8 := by
    unfold x8
    refine Keeps.ite ?_ ?_
    · assumption
    · exact Keeps.step drive_keeps rfl ‹_›
  clear_value x8
  have k14 : Keeps 14678105 s x10 := by
    unfold x10
    exact Keeps.step upd_store rfl ‹_›
  clear_value x10
  clear_value x0 x1 x2 x3 x4 x7 x9
  refine Keeps.ite ?_ ?_
  · exact Keeps.refl _ _
  · refine Keeps.ite ?_ ?_
    · exact Keeps.step portRecover_keeps rfl ‹_›
    · refine Keeps.ite ?_ ?_
      · assumption
      · exact Keeps.step timedOut_keeps rfl ‹_›

theorem execRpTagQuarantineEnd_keeps {a0 a1 s} : KeepsR 8396808 s (execRpTagQuarantineEnd a0 a1 s) := by
  unfold execRpTagQuarantineEnd
  refine KeepsR.next ?_
  extract_lets x0
  clear_value x0
  refine Keeps.ite ?_ ?_
  · exact Keeps.widen freeCmd_keeps rfl
  · exact Keeps.refl _ _

theorem execRpLateCompletion_keeps {a0 a1 s} : KeepsR 8659017 s (execRpLateCompletion a0 a1 s) := by
  unfold execRpLateCompletion
  refine KeepsR.next ?_
  extract_lets x0
  clear_value x0
  refine Keeps.ite ?_ ?_
  · exact Keeps.widen lateCompletion_keeps rfl
  · exact Keeps.refl _ _

theorem execRpLateData_keeps {a0 a1 s} : KeepsR 1 s (execRpLateData a0 a1 s) := by
  unfold execRpLateData
  refine KeepsR.next ?_
  refine Keeps.ite ?_ ?_
  · exact Keeps.widen bump_keeps rfl
  · exact Keeps.refl _ _

theorem execRpContain_keeps {a0 a1 s} : KeepsR 14678105 s (execRpContain a0 a1 s) := by
  unfold execRpContain
  refine KeepsR.next ?_
  refine Keeps.ite ?_ ?_
  · exact Keeps.refl _ _
  · refine Keeps.ite ?_ ?_
    · exact Keeps.widen bump_keeps rfl
    · extract_lets x0 x1
      have k2 : Keeps 14678105 s x0 := by
        unfold x0
        exact Keeps.widen errLast_keeps rfl
      clear_value x0
      have k3 : Keeps 14678105 s x1 := by
        unfold x1
        refine Keeps.step bump_keeps rfl ?_
        exact Keeps.step rpEvent_keeps rfl ‹_›
      clear_value x1
      refine Keeps.ite ?_ ?_
      · assumption
      · refine Keeps.trans ?_ (portDown_keeps (M := 14678105) rfl ?_)
        · assumption
        · intro v4
          exact Keeps.widen portDepart_keeps rfl

theorem execRpContainEnd_keeps {a0 s} : KeepsR 8388608 s (execRpContainEnd a0 s) := by
  unfold execRpContainEnd
  refine KeepsR.next ?_
  extract_lets x0
  clear_value x0
  refine Keeps.ite ?_ ?_
  · exact Keeps.widen setPort_keeps rfl
  · exact Keeps.refl _ _

theorem execRpLinkLoss_keeps {a0 a1 s} : KeepsR 14678105 s (execRpLinkLoss a0 a1 s) := by
  unfold execRpLinkLoss
  refine KeepsR.next ?_
  extract_lets x0 x1
  have k2 : Keeps 14678105 s x1 := by
    unfold x1
    refine Keeps.step bump_keeps rfl ?_
    exact Keeps.widen rpEvent_keeps rfl
  clear_value x1
  clear_value x0
  refine Keeps.ite ?_ ?_
  · exact Keeps.refl _ _
  · refine Keeps.trans ?_ (portDown_keeps (M := 14678105) rfl ?_)
    · assumption
    · intro v3
      exact Keeps.widen portDepart_keeps rfl

theorem execRpIdle_keeps {a0 s} : KeepsR 8388609 s (execRpIdle a0 s) := by
  unfold execRpIdle
  refine KeepsR.next ?_
  extract_lets x0
  clear_value x0
  refine Keeps.ite ?_ ?_
  · exact Keeps.refl _ _
  · refine Keeps.step bump_keeps rfl ?_
    exact Keeps.widen setPort_keeps rfl

end Sys2Proof.Machine
end

