-- ==== Sys2Proof/Laws/KeepsTelem.lean ====
section
/-!
SUPPORT. Laws/KeepsTelem.lean: which units of the state each operation of Machine/Telem.lean may change: one `Keeps` lemma each.
-/
namespace Sys2Proof.Machine

theorem execEventTokenTick_keeps {s} : KeepsR 64 s (execEventTokenTick s) := by
  unfold execEventTokenTick
  extract_lets x0 x1
  clear_value x0 x1
  refine KeepsR.next ?_
  exact Keeps.widen upd_evt rfl

theorem execSuppressionReport_keeps {a0 a1 s} : KeepsR 262217 s (execSuppressionReport a0 a1 s) := by
  unfold execSuppressionReport
  split
  · rename_i y0 y1
    refine KeepsR.next ?_
    exact Keeps.refl _ _
  · rename_i y2 y3 y4
    refine KeepsR.next ?_
    refine Keeps.step raise_keeps rfl ?_
    exact Keeps.widen upd_evt rfl

theorem execEventNSpacingEnd_keeps {s} : KeepsR 72 s (execEventNSpacingEnd s) := by
  unfold execEventNSpacingEnd
  refine KeepsR.next ?_
  refine Keeps.step updateEventN_keeps rfl ?_
  exact Keeps.widen upd_evt rfl

theorem execMsixSpacingEnd_keeps {a0 a1 s} : KeepsR 262216 s (execMsixSpacingEnd a0 a1 s) := by
  unfold execMsixSpacingEnd
  extract_lets x0 x1 x2 x3
  have k4 : Keeps 262216 s x2 := by
    unfold x2
    exact Keeps.widen upd_evt rfl
  clear_value x2
  clear_value x0 x1 x3
  refine KeepsR.ite ?_ ?_
  · refine KeepsR.next ?_
    refine Keeps.step msix_keeps rfl ?_
    exact Keeps.step upd_evt rfl ‹_›
  · refine KeepsR.next ?_
    assumption

theorem snapParts_keeps {a0 a1 a2 a3 a4 a5 a6 s} : Keeps 262217 s (snapParts a0 a1 a2 a3 a4 a5 a6 s) := by
  induction a4 generalizing a0 a1 a2 a3 a5 a6 s
  · unfold snapParts
    exact Keeps.refl _ _
  · rename_i y0 y1
    unfold snapParts
    extract_lets x2
    clear_value x2
    refine Keeps.trans ?_ y1
    exact Keeps.widen telWrite_keeps rfl

theorem snapRead_keeps {a0 s} : Keeps 16 s (snapRead a0 s).2 := by
  induction a0 generalizing  s
  · unfold snapRead
    refine Keeps.mkSnd ?_
    exact Keeps.refl _ _
  · rename_i y0 y1 y2
    unfold snapRead
    split
    · rename_i y3 y4 y5 y6
      have k7 : Keeps 16 s y5 := by
        refine Keeps.ofSnd y6 ?_
        exact Keeps.widen regValue_keeps rfl
      split
      · rename_i y8 y9 y10 y11
        have k12 : Keeps 16 s y10 := by
          refine Keeps.ofSnd y11 ?_
          refine Keeps.trans ?_ y2
          assumption
        refine Keeps.mkSnd ?_
        assumption

theorem execSnapshot_keeps {s} : KeepsR 262233 s (execSnapshot s) := by
  unfold execSnapshot
  refine KeepsR.ite ?_ ?_
  · refine KeepsR.next ?_
    exact Keeps.refl _ _
  · extract_lets x0
    clear_value x0
    split
    · rename_i y1 y2 y3 y4
      have k5 : Keeps 262233 s y3 := by
        refine Keeps.ofSnd y4 ?_
        exact Keeps.widen snapRead_keeps rfl
      extract_lets x6 x7 x8
      clear_value x6 x7 x8
      refine KeepsR.next ?_
      refine Keeps.step snapParts_keeps rfl ?_
      exact Keeps.step upd_evt rfl ‹_›

theorem vendorReply_keeps {a0 a1 a2 a3 a4 s} : Keeps 8 s (vendorReply a0 a1 a2 a3 a4 s) := by
  unfold vendorReply
  exact Keeps.widen drive_keeps rfl

theorem readDwords_keeps {a0 a1 s} : Keeps 2097172 s (readDwords a0 a1 s).2 := by
  induction a0 generalizing a1 s
  · unfold readDwords
    refine Keeps.mkSnd ?_
    exact Keeps.refl _ _
  · rename_i y0 y1
    unfold readDwords
    split
    · rename_i y2 y3 y4 y5
      have k6 : Keeps 2097172 s y4 := by
        refine Keeps.ofSnd y5 ?_
        exact Keeps.widen regRead_keeps rfl
      split
      · rename_i y7 y8 y9 y10
        have k11 : Keeps 2097172 s y9 := by
          refine Keeps.ofSnd y10 ?_
          refine Keeps.trans ?_ y1
          assumption
        refine Keeps.mkSnd ?_
        assumption

theorem execReadReg_keeps {a0 a1 a2 a3 s} : KeepsR 2097180 s (execReadReg a0 a1 a2 a3 s) := by
  unfold execReadReg
  refine KeepsR.ite ?_ ?_
  · refine KeepsR.next ?_
    exact Keeps.refl _ _
  · refine KeepsR.ite ?_ ?_
    · refine KeepsR.next ?_
      exact Keeps.widen vendorReply_keeps rfl
    · split
      · rename_i y0 y1 y2 y3
        have k4 : Keeps 2097180 s y2 := by
          refine Keeps.ofSnd y3 ?_
          exact Keeps.widen readDwords_keeps rfl
        refine KeepsR.next ?_
        exact Keeps.step vendorReply_keeps rfl ‹_›

theorem writeDwords_keeps {a0 a1 s} : Keeps 16777215 s (writeDwords a0 a1 s) := by
  induction a0 generalizing a1 s
  · unfold writeDwords
    exact Keeps.refl _ _
  · rename_i y0 y1 y2
    unfold writeDwords
    refine Keeps.trans ?_ y2
    exact Keeps.widen regWriteFull_keeps rfl

theorem execWriteReg_keeps {a0 a1 a2 a3 s} : KeepsR 16777215 s (execWriteReg a0 a1 a2 a3 s) := by
  unfold execWriteReg
  refine KeepsR.ite ?_ ?_
  · refine KeepsR.next ?_
    exact Keeps.refl _ _
  · refine KeepsR.ite ?_ ?_
    · refine KeepsR.next ?_
      exact Keeps.widen vendorReply_keeps rfl
    · refine KeepsR.ite ?_ ?_
      · refine KeepsR.next ?_
        exact Keeps.widen vendorReply_keeps rfl
      · refine KeepsR.next ?_
        refine Keeps.step vendorReply_keeps rfl ?_
        exact Keeps.widen writeDwords_keeps rfl

theorem execPlatData_keeps {a0 a1 a2 a3 a4 s} : KeepsR 136 s (execPlatData a0 a1 a2 a3 a4 s) := by
  unfold execPlatData
  refine KeepsR.ite ?_ ?_
  · refine KeepsR.next ?_
    exact Keeps.refl _ _
  · refine KeepsR.ite ?_ ?_
    · refine KeepsR.next ?_
      exact Keeps.widen vendorReply_keeps rfl
    · refine KeepsR.ite ?_ ?_
      · refine KeepsR.next ?_
        exact Keeps.widen vendorReply_keeps rfl
      · refine KeepsR.ite ?_ ?_
        · refine KeepsR.next ?_
          exact Keeps.widen vendorReply_keeps rfl
        · refine KeepsR.ite ?_ ?_
          · refine KeepsR.next ?_
            exact Keeps.widen vendorReply_keeps rfl
          · refine KeepsR.ite ?_ ?_
            · refine KeepsR.next ?_
              exact Keeps.widen vendorReply_keeps rfl
            · extract_lets x0 x1
              clear_value x0 x1
              refine KeepsR.next ?_
              refine Keeps.step vendorReply_keeps rfl ?_
              exact Keeps.widen upd_datum rfl

theorem execPlatEnd_keeps {a0 a1 a2 s} : KeepsR 136 s (execPlatEnd a0 a1 a2 s) := by
  unfold execPlatEnd
  refine KeepsR.ite ?_ ?_
  · refine KeepsR.next ?_
    exact Keeps.refl _ _
  · refine KeepsR.ite ?_ ?_
    · refine KeepsR.next ?_
      exact Keeps.widen vendorReply_keeps rfl
    · refine KeepsR.ite ?_ ?_
      · refine KeepsR.next ?_
        exact Keeps.widen vendorReply_keeps rfl
      · refine KeepsR.next ?_
        refine Keeps.step vendorReply_keeps rfl ?_
        exact Keeps.widen upd_datum rfl

theorem execEventRead_keeps {a0 a1 a2 a3 s} : KeepsR 72 s (execEventRead a0 a1 a2 a3 s) := by
  unfold execEventRead
  refine KeepsR.ite ?_ ?_
  · refine KeepsR.next ?_
    exact Keeps.refl _ _
  · refine KeepsR.ite ?_ ?_
    · refine KeepsR.next ?_
      exact Keeps.widen vendorReply_keeps rfl
    · extract_lets x0
      clear_value x0
      refine KeepsR.next ?_
      refine Keeps.step vendorReply_keeps rfl ?_
      exact Keeps.widen qAdvance_keeps rfl

theorem execSmHeartbeat_keeps {a0 s} : KeepsR 65 s (execSmHeartbeat a0 s) := by
  unfold execSmHeartbeat
  refine KeepsR.next ?_
  refine Keeps.trans ?_ (cmdWrite_keeps (M := 65) rfl ?_)
  · exact Keeps.refl _ _
  · intro v0
    exact Keeps.widen smHeartbeatOp_keeps rfl

theorem execSmHeartbeatMiss_keeps {s} : KeepsR 262217 s (execSmHeartbeatMiss s) := by
  unfold execSmHeartbeatMiss
  refine KeepsR.ite ?_ ?_
  · refine KeepsR.next ?_
    exact Keeps.refl _ _
  · refine KeepsR.next ?_
    refine Keeps.step raise_keeps rfl ?_
    exact Keeps.widen upd_evt rfl

theorem execPmbusPoll_keeps {a0 a1 a2 s} : KeepsR 262217 s (execPmbusPoll a0 a1 a2 s) := by
  unfold execPmbusPoll
  extract_lets x0 x1 x2
  have k3 : Keeps 262217 s x1 := by
    unfold x1
    exact Keeps.widen upd_evt rfl
  clear_value x1
  have k4 : Keeps 262217 s x2 := by
    unfold x2
    exact Keeps.step wr_keeps rfl ‹_›
  clear_value x2
  clear_value x0
  refine KeepsR.ite ?_ ?_
  · refine KeepsR.next ?_
    assumption
  · refine KeepsR.next ?_
    refine Keeps.ite ?_ ?_
    · assumption
    · exact Keeps.step raise_keeps rfl ‹_›

theorem execMgmtPortLinkChange_keeps {a0 s} : KeepsR 262217 s (execMgmtPortLinkChange a0 s) := by
  unfold execMgmtPortLinkChange
  refine KeepsR.next ?_
  refine Keeps.step raise_keeps rfl ?_
  exact Keeps.widen upd_evt rfl

theorem execTrHeadWrite_keeps {a0 a1 s} : KeepsR 65 s (execTrHeadWrite a0 a1 s) := by
  unfold execTrHeadWrite
  refine KeepsR.next ?_
  refine Keeps.trans ?_ (cmdWrite_keeps (M := 65) rfl ?_)
  · exact Keeps.refl _ _
  · intro v0
    exact Keeps.widen trHeadOp_keeps rfl

theorem execQHeadWrite_keeps {a0 a1 s} : KeepsR 73 s (execQHeadWrite a0 a1 s) := by
  unfold execQHeadWrite
  refine KeepsR.next ?_
  refine Keeps.trans ?_ (cmdWrite_keeps (M := 73) rfl ?_)
  · exact Keeps.refl _ _
  · intro v0
    exact Keeps.widen qHeadOp_keeps rfl

theorem execEvtForce_keeps {a0 a1 a2 s} : KeepsR 262217 s (execEvtForce a0 a1 a2 s) := by
  unfold execEvtForce
  refine KeepsR.next ?_
  refine Keeps.trans ?_ (cmdWrite_keeps (M := 262217) rfl ?_)
  · exact Keeps.refl _ _
  · intro v0
    exact Keeps.widen evtForceOp_keeps rfl

theorem regReadOut_keeps {a0 a1 s} : Keeps 2097180 s (regReadOut a0 a1 s) := by
  unfold regReadOut
  split
  · rename_i y0 y1 y2 y3
    have k4 : Keeps 2097180 s y2 := by
      refine Keeps.ofSnd y3 ?_
      exact Keeps.widen regRead_keeps rfl
    exact Keeps.step drive_keeps rfl ‹_›

theorem execLoReadLatch_keeps {a0 a1 a2 s} : KeepsR 2097180 s (execLoReadLatch a0 a1 a2 s) := by
  unfold execLoReadLatch
  refine KeepsR.next ?_
  exact Keeps.widen regReadOut_keeps rfl

theorem execCadEntryRead_keeps {a0 s} : KeepsR 2097180 s (execCadEntryRead a0 s) := by
  unfold execCadEntryRead
  refine KeepsR.next ?_
  exact Keeps.widen regReadOut_keeps rfl

theorem execMctpEidAssign_keeps {a0 s} : KeepsR 64 s (execMctpEidAssign a0 s) := by
  unfold execMctpEidAssign
  refine KeepsR.next ?_
  exact Keeps.widen upd_evt rfl

end Sys2Proof.Machine
end

