-- ==== Sys2Proof/Laws/KeepsVault.lean ====
section
/-!
SUPPORT. Laws/KeepsVault.lean: which units of the state each operation of Machine/Vault.lean may change: one `Keeps` lemma each.
-/
namespace Sys2Proof.Machine

theorem execPwrfailNFall_keeps {s} : KeepsR 2048 s (execPwrfailNFall s) := by
  unfold execPwrfailNFall
  refine KeepsR.next ?_
  refine Keeps.ite ?_ ?_
  · exact Keeps.refl _ _
  · exact Keeps.widen upd_vault rfl

theorem execPwrfailGlitch_keeps {s} : KeepsR 2049 s (execPwrfailGlitch s) := by
  unfold execPwrfailGlitch
  refine KeepsR.next ?_
  refine Keeps.ite ?_ ?_
  · refine Keeps.step bump_keeps rfl ?_
    exact Keeps.widen upd_vault rfl
  · exact Keeps.refl _ _

theorem execPowerFailureAccept_keeps {s} : KeepsR 13630937 s (execPowerFailureAccept s) := by
  unfold execPowerFailureAccept
  refine KeepsR.next ?_
  refine Keeps.ite ?_ ?_
  · exact Keeps.widen acceptPower_keeps rfl
  · exact Keeps.refl _ _

theorem execFeedMonitorFail_keeps {s} : KeepsR 13630937 s (execFeedMonitorFail s) := by
  unfold execFeedMonitorFail
  refine KeepsR.next ?_
  refine Keeps.ite ?_ ?_
  · exact Keeps.widen acceptPower_keeps rfl
  · exact Keeps.refl _ _

theorem execSerdesOffTimer_keeps {s} : KeepsR 16775257 s (execSerdesOffTimer s) := by
  unfold execSerdesOffTimer
  refine KeepsR.next ?_
  refine Keeps.ite ?_ ?_
  · refine Keeps.step zebLost_keeps rfl ?_
    refine Keeps.foldl ?_ (fun t0 x1 k2 => ?_)
    · exact Keeps.widen upd_vault rfl
    · exact Keeps.step netGroupDown_keeps rfl ‹_›
  · exact Keeps.refl _ _

theorem execVaultHeaderWriting_keeps {s} : KeepsR 8464393 s (execVaultHeaderWriting s) := by
  unfold execVaultHeaderWriting
  refine KeepsR.next ?_
  refine Keeps.ite ?_ ?_
  · exact Keeps.refl _ _
  · extract_lets x0 x1
    have k2 : Keeps 8464393 s x1 := by
      unfold x1
      refine Keeps.step writeHeader_keeps rfl ?_
      exact Keeps.widen upd_vault rfl
    clear_value x1
    clear_value x0
    refine Keeps.foldl ?_ (fun t3 x4 k5 => ?_)
    · assumption
    · exact Keeps.step issueSys_keeps rfl ‹_›

theorem afterDump_keeps {s} : Keeps 16777215 s (afterDump s) := by
  unfold afterDump
  split
  · rename_i y0 y1
    exact Keeps.widen coldHold_keeps rfl
  · rename_i y2 y3 y4 y5
    exact Keeps.widen warmReset_keeps rfl
  · rename_i y6 y7
    refine Keeps.ite ?_ ?_
    · exact Keeps.widen shutdownFinish_keeps rfl
    · exact Keeps.refl _ _

theorem execVaultDumpComplete_keeps {s} : KeepsR 16777215 s (execVaultDumpComplete s) := by
  unfold execVaultDumpComplete
  refine KeepsR.next ?_
  refine Keeps.ite ?_ ?_
  · exact Keeps.refl _ _
  · extract_lets x0 x1 x2 x3 x4
    have k5 : Keeps 16777215 s x3 := by
      unfold x3
      refine Keeps.step writeHeader_keeps rfl ?_
      exact Keeps.widen upd_vault rfl
    clear_value x3
    have k6 : Keeps 16777215 s x4 := by
      unfold x4
      refine Keeps.step raise_keeps rfl ?_
      exact Keeps.step wr_keeps rfl ‹_›
    clear_value x4
    clear_value x0 x1 x2
    refine Keeps.step afterDump_keeps rfl ?_
    refine Keeps.ite ?_ ?_
    · exact Keeps.step famStop_keeps rfl ‹_›
    · assumption

theorem execPostDumpResetTimer_keeps {s} : KeepsR 16776671 s (execPostDumpResetTimer s) := by
  unfold execPostDumpResetTimer
  refine KeepsR.next ?_
  refine Keeps.ite ?_ ?_
  · exact Keeps.widen warmReset_keeps rfl
  · exact Keeps.refl _ _

theorem restoreMeta_keeps {a0 s} : Keeps 159744 s (restoreMeta a0 s) := by
  unfold restoreMeta
  extract_lets x0 x1 x2 x3 x4
  have k5 : Keeps 159744 s x0 := by
    unfold x0
    refine Keeps.foldl ?_ (fun t6 x7 k8 => ?_)
    · exact Keeps.refl _ _
    · exact Keeps.step modNs_keeps rfl ‹_›
  clear_value x0
  have k9 : Keeps 159744 s x1 := by
    unfold x1
    refine Keeps.foldl ?_ (fun t10 x11 k12 => ?_)
    · assumption
    · exact Keeps.step modNs_keeps rfl ‹_›
  clear_value x1
  have k13 : Keeps 159744 s x2 := by
    unfold x2
    refine Keeps.foldl ?_ (fun t14 x15 k16 => ?_)
    · assumption
    · exact Keeps.step upd_store rfl ‹_›
  clear_value x2
  clear_value x3 x4
  exact Keeps.step upd_trav_win rfl ‹_›

theorem landAll_keeps {a0 s} : Keeps 13492313 s (landAll a0 s) := by
  unfold landAll
  refine Keeps.foldl ?_ (fun t0 x1 k2 => ?_)
  · exact Keeps.refl _ _
  · split
    · rename_i y3 y4 y5
      refine Keeps.ite ?_ ?_
      · assumption
      · exact Keeps.step landForced_keeps rfl ‹_›
    · rename_i y6 y7
      exact Keeps.step landForced_keeps rfl ‹_›

theorem replayFinish_keeps {a0 a1 s} : Keeps 14678361 s (replayFinish a0 a1 s) := by
  unfold replayFinish
  extract_lets x0 x1 x2 x3 x4 x5 x6 x7 x8 x9 x10 x11 x12 x13
  have k14 : Keeps 14678361 s x2 := by
    unfold x2
    refine Keeps.step writeHeader_keeps rfl ?_
    exact Keeps.widen upd_vault rfl
  clear_value x2
  have k15 : Keeps 14678361 s x3 := by
    unfold x3
    refine Keeps.ite ?_ ?_
    · refine Keeps.step raise_keeps rfl ?_
      exact Keeps.step wr_keeps rfl ‹_›
    · exact Keeps.refl _ _
  clear_value x3
  have k16 : Keeps 14678361 s x4 := by
    unfold x4
    refine Keeps.foldl ?_ (fun t17 x18 k19 => ?_)
    · assumption
    · exact Keeps.step journalRetire_keeps rfl ‹_›
  clear_value x4
  have k20 : Keeps 14678361 s x6 := by
    unfold x6
    exact Keeps.step upd_vault rfl ‹_›
  clear_value x6
  have k21 : Keeps 14678361 s x7 := by
    unfold x7
    refine Keeps.ite ?_ ?_
    · assumption
    · refine Keeps.ite ?_ ?_
      · exact Keeps.step raise_keeps rfl ‹_›
      · assumption
  clear_value x7
  have k22 : Keeps 14678361 s x9 := by
    unfold x9
    refine Keeps.step raise_keeps rfl ?_
    exact Keeps.step wr_keeps rfl ‹_›
  clear_value x9
  have k23 : Keeps 14678361 s x10 := by
    unfold x10
    refine Keeps.foldl ?_ (fun t24 x25 k26 => ?_)
    · assumption
    · exact Keeps.step pinFault_keeps rfl ‹_›
  clear_value x10
  clear_value x0 x1 x5 x8 x11 x12 x13
  refine Keeps.step limitEval_keeps rfl ?_
  exact Keeps.step upd_pwr_vault_nvm rfl ‹_›

theorem replayImage_keeps {a0 a1 a2 a3 a4 a5 s} : Keeps 13629529 s (replayImage a0 a1 a2 a3 a4 a5 s) := by
  unfold replayImage
  extract_lets x0 x1 x2 x3 x4 x5 x6 x7 x8 x9 x10 x11 x12 x13 x14 x15 x16
  have k17 : Keeps 13629529 s x6 := by
    unfold x6
    refine Keeps.ite ?_ ?_
    · exact Keeps.widen restoreMeta_keeps rfl
    · exact Keeps.refl _ _
  clear_value x6
  have k18 : Keeps 13629529 s x7 := by
    unfold x7
    exact Keeps.step landAll_keeps rfl ‹_›
  clear_value x7
  have k19 : Keeps 13629529 s x10 := by
    unfold x10
    exact Keeps.step landAll_keeps rfl ‹_›
  clear_value x10
  have k20 : Keeps 13629529 s x12 := by
    unfold x12
    refine Keeps.ite ?_ ?_
    · exact Keeps.widen upd_vault rfl
    · refine Keeps.ite ?_ ?_
      · exact Keeps.widen upd_vault rfl
      · split
        · rename_i y21 y22 y23 y24
          have k25 : Keeps 13629529 s y23 := by
            refine Keeps.ofSnd y24 ?_
            refine Keeps.iteSnd ?_ ?_
            · refine Keeps.mkSnd ?_
              refine Keeps.foldl ?_ (fun t26 x27 k28 => ?_)
              · assumption
              · exact Keeps.step lossAdd_keeps rfl ‹_›
            · refine Keeps.iteSnd ?_ ?_
              · refine Keeps.foldlSnd ?_ (fun t29 x30 k31 => ?_)
                · refine Keeps.mkSnd ?_
                  assumption
                · refine Keeps.foldlSnd ?_ (fun t32 x33 k34 => ?_)
                  · assumption
                  · refine Keeps.iteSnd ?_ ?_
                    · refine Keeps.mkSnd ?_
                      exact Keeps.step lossAdd_keeps rfl ‹_›
                    · assumption
              · refine Keeps.mkSnd ?_
                assumption
          extract_lets x35 x36 x37
          have k38 : Keeps 13629529 s x36 := by
            unfold x36
            exact Keeps.step upd_vault rfl ‹_›
          clear_value x36
          have k39 : Keeps 13629529 s x37 := by
            unfold x37
            refine Keeps.ite ?_ ?_
            · exact Keeps.step raise_keeps rfl ‹_›
            · assumption
          clear_value x37
          clear_value x35
          refine Keeps.ite ?_ ?_
          · exact Keeps.step raise_keeps rfl ‹_›
          · assumption
  clear_value x12
  have k40 : Keeps 13629529 s x13 := by
    unfold x13
    refine Keeps.foldl ?_ (fun t41 x42 k43 => ?_)
    · assumption
    · exact Keeps.step closeRecord_keeps rfl ‹_›
  clear_value x13
  have k44 : Keeps 13629529 s x14 := by
    unfold x14
    refine Keeps.ite ?_ ?_
    · exact Keeps.step closePartner_keeps rfl ‹_›
    · assumption
  clear_value x14
  clear_value x0 x1 x2 x3 x4 x5 x8 x9 x11 x15 x16
  exact Keeps.step upd_vault_store rfl ‹_›

theorem execVaultReplay_keeps {a0 a1 a2 a3 a4 a5 a6 a7 s} : KeepsR 14678361 s (execVaultReplay a0 a1 a2 a3 a4 a5 a6 a7 s) := by
  unfold execVaultReplay
  refine KeepsR.next ?_
  refine Keeps.ite ?_ ?_
  · exact Keeps.refl _ _
  · extract_lets x0
    have k1 : Keeps 14678361 s x0 := by
      unfold x0
      refine Keeps.ite ?_ ?_
      · exact Keeps.refl _ _
      · exact Keeps.widen replayImage_keeps rfl
    clear_value x0
    refine Keeps.ite ?_ ?_
    · exact Keeps.step replayFinish_keeps rfl ‹_›
    · assumption

end Sys2Proof.Machine
end

