-- ==== Sys2Proof/Laws/KeepsClock.lean ====
section
/-!
SUPPORT. Laws/KeepsClock.lean: which units of the state each operation of Machine/Clock.lean may change: one `Keeps` lemma each.
-/
namespace Sys2Proof.Machine

theorem tick_keeps {s} : Keeps 288 s (tick s) := by
  unfold tick
  refine Keeps.ite ?_ ?_
  · exact Keeps.refl _ _
  · exact Keeps.widen upd_time_pwr rfl

end Sys2Proof.Machine
end

