-- ==== Sys2Proof/Laws/KeepsExec.lean ====
section
/-!
SUPPORT. Laws/KeepsExec.lean: what every command and every step keeps.
-/
namespace Sys2Proof.Machine

theorem KeepsR.widen {N M : Nat} {s : State} {r : Res} (k : KeepsR N s r) (hM : N ||| M = M) : KeepsR M s r := by
  obtain ⟨t, e, k⟩ := k
  exact ⟨t, e, k.widen hM⟩

/-- Every command answers a next state whose queue is the one it was given, whose register tables stay canonical, and
in which the root of trust has taken nothing back. -/
theorem exec_keeps (i : Instr) (s : State) : KeepsR 16777215 s (exec i s) := by
  cases i with
  | chipletLinkFail => exact KeepsR.widen (r := execChipletLinkFail s) execChipletLinkFail_keeps rfl
  | hbmStackFault a0 => exact KeepsR.widen (r := execHbmStackFault a0 s) execHbmStackFault_keeps rfl
  | engineRuntimeFail a0 a1 => exact KeepsR.widen (r := execEngineRuntimeFail a0 a1 s) execEngineRuntimeFail_keeps rfl
  | lockstepDisagree => exact KeepsR.widen (r := execLockstepDisagree s) execLockstepDisagree_keeps rfl
  | refclkOutOfTolerance a0 a1 => exact KeepsR.widen (r := execRefclkOutOfTolerance a0 a1 s) execRefclkOutOfTolerance_keeps rfl
  | refclkRestored a0 => exact KeepsR.widen (r := execRefclkRestored a0 s) execRefclkRestored_keeps rfl
  | crystalFail => exact KeepsR.widen (r := execCrystalFail s) execCrystalFail_keeps rfl
  | connect a0 a1 a2 a3 a4 a5 a6 a7 a8 => exact KeepsR.widen (r := execConnect a0 a1 a2 a3 a4 a5 a6 a7 a8 s) execConnect_keeps rfl
  | keepAlive a0 a1 => exact KeepsR.widen (r := execKeepAlive a0 a1 s) execKeepAlive_keeps rfl
  | keepAliveExpire a0 => exact KeepsR.widen (r := execKeepAliveExpire a0 s) execKeepAliveExpire_keeps rfl
  | namespaceCreate a0 a1 a2 a3 a4 a5 a6 => exact KeepsR.widen (r := execNamespaceCreate a0 a1 a2 a3 a4 a5 a6 s) execNamespaceCreate_keeps rfl
  | namespaceActive a0 => exact KeepsR.widen (r := execNamespaceActive a0 s) execNamespaceActive_keeps rfl
  | namespaceDelete a0 a1 a2 => exact KeepsR.widen (r := execNamespaceDelete a0 a1 a2 s) execNamespaceDelete_keeps rfl
  | namespaceDeleteComplete a0 => exact KeepsR.widen (r := execNamespaceDeleteComplete a0 s) execNamespaceDeleteComplete_keeps rfl
  | parcelReleased a0 => exact KeepsR.widen (r := execParcelReleased a0 s) execParcelReleased_keeps rfl
  | namespaceAttach a0 a1 a2 a3 => exact KeepsR.widen (r := execNamespaceAttach a0 a1 a2 a3 s) execNamespaceAttach_keeps rfl
  | namespaceDetach a0 a1 a2 a3 => exact KeepsR.widen (r := execNamespaceDetach a0 a1 a2 a3 s) execNamespaceDetach_keeps rfl
  | identify a0 a1 a2 a3 => exact KeepsR.widen (r := execIdentify a0 a1 a2 a3 s) execIdentify_keeps rfl
  | read a0 a1 a2 a3 a4 a5 a6 => exact KeepsR.widen (r := execRead a0 a1 a2 a3 a4 a5 a6 s) execRead_keeps rfl
  | write a0 a1 a2 a3 a4 a5 => exact KeepsR.widen (r := execWrite a0 a1 a2 a3 a4 a5 s) execWrite_keeps rfl
  | writeZeroes a0 a1 a2 a3 a4 => exact KeepsR.widen (r := execWriteZeroes a0 a1 a2 a3 a4 s) execWriteZeroes_keeps rfl
  | datasetManagement a0 a1 a2 a3 a4 => exact KeepsR.widen (r := execDatasetManagement a0 a1 a2 a3 a4 s) execDatasetManagement_keeps rfl
  | flush a0 a1 a2 => exact KeepsR.widen (r := execFlush a0 a1 a2 s) execFlush_keeps rfl
  | reservationRegister a0 a1 a2 a3 a4 a5 a6 => exact KeepsR.widen (r := execReservationRegister a0 a1 a2 a3 a4 a5 a6 s) execReservationRegister_keeps rfl
  | reservationAcquire a0 a1 a2 a3 a4 a5 a6 a7 => exact KeepsR.widen (r := execReservationAcquire a0 a1 a2 a3 a4 a5 a6 a7 s) execReservationAcquire_keeps rfl
  | reservationRelease a0 a1 a2 a3 a4 a5 a6 => exact KeepsR.widen (r := execReservationRelease a0 a1 a2 a3 a4 a5 a6 s) execReservationRelease_keeps rfl
  | reservationReport a0 a1 a2 => exact KeepsR.widen (r := execReservationReport a0 a1 a2 s) execReservationReport_keeps rfl
  | stakeConditionedWrite a0 a1 a2 a3 a4 a5 a6 => exact KeepsR.widen (r := execStakeConditionedWrite a0 a1 a2 a3 a4 a5 a6 s) execStakeConditionedWrite_keeps rfl
  | contextFreed => exact KeepsR.widen (r := execContextFreed s) execContextFreed_keeps rfl
  | writeBlockPlaced a0 a1 a2 => exact KeepsR.widen (r := execWriteBlockPlaced a0 a1 a2 s) execWriteBlockPlaced_keeps rfl
  | writerTakeEffect a0 => exact KeepsR.widen (r := execWriterTakeEffect a0 s) execWriterTakeEffect_keeps rfl
  | writerFail a0 a1 => exact KeepsR.widen (r := execWriterFail a0 a1 s) execWriterFail_keeps rfl
  | gatherAgeExpire a0 a1 a2 => exact KeepsR.widen (r := execGatherAgeExpire a0 a1 a2 s) execGatherAgeExpire_keeps rfl
  | flushStart => exact KeepsR.widen (r := execFlushStart s) execFlushStart_keeps rfl
  | journalRecordWritten a0 a1 a2 => exact KeepsR.widen (r := execJournalRecordWritten a0 a1 a2 s) execJournalRecordWritten_keeps rfl
  | flushStripsDone a0 a1 a2 => exact KeepsR.widen (r := execFlushStripsDone a0 a1 a2 s) execFlushStripsDone_keeps rfl
  | memoryError a0 a1 a2 => exact KeepsR.widen (r := execMemoryError a0 a1 a2 s) execMemoryError_keeps rfl
  | pwrfailNFall => exact KeepsR.widen (r := execPwrfailNFall s) execPwrfailNFall_keeps rfl
  | pwrfailGlitch => exact KeepsR.widen (r := execPwrfailGlitch s) execPwrfailGlitch_keeps rfl
  | powerFailureAccept => exact KeepsR.widen (r := execPowerFailureAccept s) execPowerFailureAccept_keeps rfl
  | feedMonitorFail => exact KeepsR.widen (r := execFeedMonitorFail s) execFeedMonitorFail_keeps rfl
  | serdesOffTimer => exact KeepsR.widen (r := execSerdesOffTimer s) execSerdesOffTimer_keeps rfl
  | vaultHeaderWriting => exact KeepsR.widen (r := execVaultHeaderWriting s) execVaultHeaderWriting_keeps rfl
  | vaultDumpComplete => exact KeepsR.widen (r := execVaultDumpComplete s) execVaultDumpComplete_keeps rfl
  | postDumpResetTimer => exact KeepsR.widen (r := execPostDumpResetTimer s) execPostDumpResetTimer_keeps rfl
  | vaultReplay a0 a1 a2 a3 a4 a5 a6 a7 => exact KeepsR.widen (r := execVaultReplay a0 a1 a2 a3 a4 a5 a6 a7 s) execVaultReplay_keeps rfl
  | driveReadComplete a0 a1 => exact KeepsR.widen (r := execDriveReadComplete a0 a1 s) execDriveReadComplete_keeps rfl
  | driveWriteComplete a0 a1 => exact KeepsR.widen (r := execDriveWriteComplete a0 a1 s) execDriveWriteComplete_keeps rfl
  | deadlineExpire a0 => exact KeepsR.widen (r := execDeadlineExpire a0 s) execDeadlineExpire_keeps rfl
  | parityJobDone a0 => exact KeepsR.widen (r := execParityJobDone a0 s) execParityJobDone_keeps rfl
  | sequencerFail a0 => exact KeepsR.widen (r := execSequencerFail a0 s) execSequencerFail_keeps rfl
  | cadastrePersistTimer a0 => exact KeepsR.widen (r := execCadastrePersistTimer a0 s) execCadastrePersistTimer_keeps rfl
  | formatStripe a0 a1 => exact KeepsR.widen (r := execFormatStripe a0 a1 s) execFormatStripe_keeps rfl
  | layoutStatus a0 a1 a2 => exact KeepsR.widen (r := execLayoutStatus a0 a1 a2 s) execLayoutStatus_keeps rfl
  | memberDepart a0 a1 a2 => exact KeepsR.widen (r := execMemberDepart a0 a1 a2 s) execMemberDepart_keeps rfl
  | rehomeDone a0 => exact KeepsR.widen (r := execRehomeDone a0 s) execRehomeDone_keeps rfl
  | homeCopyRelocate a0 => exact KeepsR.widen (r := execHomeCopyRelocate a0 s) execHomeCopyRelocate_keeps rfl
  | returnWaitExpire a0 => exact KeepsR.widen (r := execReturnWaitExpire a0 s) execReturnWaitExpire_keeps rfl
  | heldRowReplan a0 a1 a2 => exact KeepsR.widen (r := execHeldRowReplan a0 a1 a2 s) execHeldRowReplan_keeps rfl
  | memberFail a0 => exact KeepsR.widen (r := execFail a0 s) execFail_keeps rfl
  | memberAdmit a0 => exact KeepsR.widen (r := execAdmit a0 s) execAdmit_keeps rfl
  | resyncFull a0 => exact KeepsR.widen (r := execResyncFull a0 s) execResyncFull_keeps rfl
  | rebuildStripe a0 => exact KeepsR.widen (r := execRebuildStripe a0 s) execRebuildStripe_keeps rfl
  | lossMap a0 a1 a2 => exact KeepsR.widen (r := execLossMap a0 a1 a2 s) execLossMap_keeps rfl
  | fillParcel a0 a1 => exact KeepsR.widen (r := execFillParcel a0 a1 s) execFillParcel_keeps rfl
  | scrubStripe a0 => exact KeepsR.widen (r := execScrubStripe a0 s) execScrubStripe_keeps rfl
  | reshapeStart a0 => exact KeepsR.widen (r := execReshapeStart a0 s) execReshapeStart_keeps rfl
  | reshapeSuspend a0 => exact KeepsR.widen (r := execReshapeSuspend a0 s) execReshapeSuspend_keeps rfl
  | reshapeResume a0 => exact KeepsR.widen (r := execReshapeResume a0 s) execReshapeResume_keeps rfl
  | setForm a0 => exact KeepsR.widen (r := execForm a0 s) execForm_keeps rfl
  | moverStripe a0 => exact KeepsR.widen (r := execMoverStripe a0 s) execMoverStripe_keeps rfl
  | traverse a0 a1 a2 a3 a4 a5 a6 => exact KeepsR.widen (r := execTraverse a0 a1 a2 a3 a4 a5 a6 s) execTraverse_keeps rfl
  | traverseTableCheck a0 a1 => exact KeepsR.widen (r := execTraverseTableCheck a0 a1 s) execTraverseTableCheck_keeps rfl
  | traverseStaged a0 => exact KeepsR.widen (r := execTraverseStaged a0 s) execTraverseStaged_keeps rfl
  | traverseStageTimeout a0 => exact KeepsR.widen (r := execTraverseStageTimeout a0 s) execTraverseStageTimeout_keeps rfl
  | xstampTimeout a0 => exact KeepsR.widen (r := execXstampTimeout a0 s) execXstampTimeout_keeps rfl
  | traverseCheck a0 a1 => exact KeepsR.widen (r := execTraverseCheck a0 a1 s) execTraverseCheck_keeps rfl
  | traverseClosure a0 => exact KeepsR.widen (r := execTraverseClosure a0 s) execTraverseClosure_keeps rfl
  | traverseLookup a0 a1 => exact KeepsR.widen (r := execTraverseLookup a0 a1 s) execTraverseLookup_keeps rfl
  | send a0 a1 a2 => exact KeepsR.widen (r := execSend a0 a1 a2 s) execSend_keeps rfl
  | rdmaWrite a0 a1 a2 a3 a4 a5 => exact KeepsR.widen (r := execRdmaWrite a0 a1 a2 a3 a4 a5 s) execRdmaWrite_keeps rfl
  | rdmaReadRequest a0 a1 a2 a3 a4 => exact KeepsR.widen (r := execRdmaReadRequest a0 a1 a2 a3 a4 s) execRdmaReadRequest_keeps rfl
  | fetchAdd a0 a1 a2 a3 a4 => exact KeepsR.widen (r := execFetchAdd a0 a1 a2 a3 a4 s) execFetchAdd_keeps rfl
  | compareSwap a0 a1 a2 a3 a4 a5 => exact KeepsR.widen (r := execCompareSwap a0 a1 a2 a3 a4 a5 s) execCompareSwap_keeps rfl
  | compareSwap16 a0 a1 a2 a3 a4 a5 => exact KeepsR.widen (r := execCompareSwap16 a0 a1 a2 a3 a4 a5 s) execCompareSwap16_keeps rfl
  | acknowledge a0 a1 a2 a3 => exact KeepsR.widen (r := execAcknowledge a0 a1 a2 a3 s) execAcknowledge_keeps rfl
  | rdmaReadResponse a0 a1 a2 => exact KeepsR.widen (r := execRdmaReadResponse a0 a1 a2 s) execRdmaReadResponse_keeps rfl
  | cnp a0 a1 => exact KeepsR.widen (r := execCnp a0 a1 s) execCnp_keeps rfl
  | rcTimer a0 => exact KeepsR.widen (r := execRcTimer a0 s) execRcTimer_keeps rfl
  | pathPenaltyEnd a0 a1 => exact KeepsR.widen (r := execPathPenaltyEnd a0 a1 s) execPathPenaltyEnd_keeps rfl
  | ackDelayExpire a0 => exact KeepsR.widen (r := execAckDelayExpire a0 s) execAckDelayExpire_keeps rfl
  | sprayRtoExpire a0 a1 => exact KeepsR.widen (r := execSprayRtoExpire a0 a1 s) execSprayRtoExpire_keeps rfl
  | ackTimeout a0 => exact KeepsR.widen (r := execAckTimeout a0 s) execAckTimeout_keeps rfl
  | cmReq a0 => exact KeepsR.widen (r := execCmReq a0 s) execCmReq_keeps rfl
  | cmRtu a0 => exact KeepsR.widen (r := execCmRtu a0 s) execCmRtu_keeps rfl
  | cmDreq a0 => exact KeepsR.widen (r := execCmDreq a0 s) execCmDreq_keeps rfl
  | cmDrep a0 => exact KeepsR.widen (r := execCmDrep a0 s) execCmDrep_keeps rfl
  | cmResponseTimeout a0 => exact KeepsR.widen (r := execCmResponseTimeout a0 s) execCmResponseTimeout_keeps rfl
  | qpErrorTimeout a0 => exact KeepsR.widen (r := execQpErrorTimeout a0 s) execQpErrorTimeout_keeps rfl
  | qpQuietEnd a0 => exact KeepsR.widen (r := execQpQuietEnd a0 s) execQpQuietEnd_keeps rfl
  | icreq a0 a1 a2 a3 => exact KeepsR.widen (r := execIcreq a0 a1 a2 a3 s) execIcreq_keeps rfl
  | capsulecmd a0 a1 a2 => exact KeepsR.widen (r := execCapsulecmd a0 a1 a2 s) execCapsulecmd_keeps rfl
  | h2cdata a0 a1 a2 a3 a4 => exact KeepsR.widen (r := execH2cdata a0 a1 a2 a3 a4 s) execH2cdata_keeps rfl
  | h2ctermreq a0 => exact KeepsR.widen (r := execH2ctermreq a0 s) execH2ctermreq_keeps rfl
  | bind a0 a1 a2 a3 a4 a5 a6 a7 a8 => exact KeepsR.widen (r := execBind a0 a1 a2 a3 a4 a5 a6 a7 a8 s) execBind_keeps rfl
  | bindComplete a0 => exact KeepsR.widen (r := execBindComplete a0 s) execBindComplete_keeps rfl
  | unbind a0 a1 a2 => exact KeepsR.widen (r := execUnbind a0 a1 a2 s) execUnbind_keeps rfl
  | unbindComplete a0 => exact KeepsR.widen (r := execUnbindComplete a0 s) execUnbindComplete_keeps rfl
  | keyCreate a0 a1 a2 a3 a4 a5 a6 => exact KeepsR.widen (r := execKeyCreate a0 a1 a2 a3 a4 a5 a6 s) execKeyCreate_keeps rfl
  | keyRevoke a0 a1 a2 => exact KeepsR.widen (r := execKeyRevoke a0 a1 a2 s) execKeyRevoke_keeps rfl
  | keyCmdRevoke a0 a1 => exact KeepsR.widen (r := execKeyCmdRevoke a0 a1 s) execKeyCmdRevoke_keeps rfl
  | winCmdUnbind a0 a1 => exact KeepsR.widen (r := execWinCmdUnbind a0 a1 s) execWinCmdUnbind_keeps rfl
  | revokeDrain a0 a1 => exact KeepsR.widen (r := execRevokeDrain a0 a1 s) execRevokeDrain_keeps rfl
  | revokeTimeout a0 => exact KeepsR.widen (r := execRevokeTimeout a0 s) execRevokeTimeout_keeps rfl
  | faultComplete a0 a1 => exact KeepsR.widen (r := execFaultComplete a0 a1 s) execFaultComplete_keeps rfl
  | windowWritebackAge a0 a1 => exact KeepsR.widen (r := execWindowWritebackAge a0 a1 s) execWindowWritebackAge_keeps rfl
  | stallBudgetExpire a0 a1 => exact KeepsR.widen (r := execStallBudgetExpire a0 a1 s) execStallBudgetExpire_keeps rfl
  | chainWaitTimeout a0 => exact KeepsR.widen (r := execChainWaitTimeout a0 s) execChainWaitTimeout_keeps rfl
  | frameReceived a0 a1 a2 a3 a4 => exact KeepsR.widen (r := execFrameReceived a0 a1 a2 a3 a4 s) execFrameReceived_keeps rfl
  | pfcXoffRefresh a0 a1 => exact KeepsR.widen (r := execPfcXoffRefresh a0 a1 s) execPfcXoffRefresh_keeps rfl
  | frameTransmitted a0 a1 => exact KeepsR.widen (r := execFrameTransmitted a0 a1 s) execFrameTransmitted_keeps rfl
  | pfcFrameReceived a0 a1 a2 => exact KeepsR.widen (r := execPfcFrameReceived a0 a1 a2 s) execPfcFrameReceived_keeps rfl
  | pfcPauseExpire a0 a1 => exact KeepsR.widen (r := execPfcPauseExpire a0 a1 s) execPfcPauseExpire_keeps rfl
  | pfcWatchdogExpire a0 a1 => exact KeepsR.widen (r := execPfcWatchdogExpire a0 a1 s) execPfcWatchdogExpire_keeps rfl
  | netLinkChange a0 a1 => exact KeepsR.widen (r := execNetLinkChange a0 a1 s) execNetLinkChange_keeps rfl
  | eopNop a0 => exact KeepsR.widen (r := execEopNop a0 s) execEopNop_keeps rfl
  | eopExt a0 a1 a2 a3 a4 => exact KeepsR.widen (r := execEopExt a0 a1 a2 a3 a4 s) execEopExt_keeps rfl
  | eopMovi a0 a1 a2 => exact KeepsR.widen (r := execEopMovi a0 a1 a2 s) execEopMovi_keeps rfl
  | eopAdd a0 a1 a2 a3 => exact KeepsR.widen (r := execEopAdd a0 a1 a2 a3 s) execEopAdd_keeps rfl
  | eopAddw a0 a1 a2 => exact KeepsR.widen (r := execEopAddw a0 a1 a2 s) execEopAddw_keeps rfl
  | eopSub a0 a1 a2 a3 => exact KeepsR.widen (r := execEopSub a0 a1 a2 a3 s) execEopSub_keeps rfl
  | eopAnd a0 a1 a2 a3 => exact KeepsR.widen (r := execEopAnd a0 a1 a2 a3 s) execEopAnd_keeps rfl
  | eopOr a0 a1 a2 a3 => exact KeepsR.widen (r := execEopOr a0 a1 a2 a3 s) execEopOr_keeps rfl
  | eopShl a0 a1 a2 a3 => exact KeepsR.widen (r := execEopShl a0 a1 a2 a3 s) execEopShl_keeps rfl
  | eopShr a0 a1 a2 a3 => exact KeepsR.widen (r := execEopShr a0 a1 a2 a3 s) execEopShr_keeps rfl
  | eopMb a0 a1 a2 a3 a4 a5 a6 => exact KeepsR.widen (r := execEopMb a0 a1 a2 a3 a4 a5 a6 s) execEopMb_keeps rfl
  | eopMbn a0 a1 a2 a3 a4 a5 a6 => exact KeepsR.widen (r := execEopMbn a0 a1 a2 a3 a4 a5 a6 s) execEopMbn_keeps rfl
  | eopBeq a0 a1 a2 a3 => exact KeepsR.widen (r := execEopBeq a0 a1 a2 a3 s) execEopBeq_keeps rfl
  | eopBne a0 a1 a2 a3 => exact KeepsR.widen (r := execEopBne a0 a1 a2 a3 s) execEopBne_keeps rfl
  | eopBlt a0 a1 a2 a3 => exact KeepsR.widen (r := execEopBlt a0 a1 a2 a3 s) execEopBlt_keeps rfl
  | eopJmp a0 a1 => exact KeepsR.widen (r := execEopJmp a0 a1 s) execEopJmp_keeps rfl
  | eopJtab a0 a1 a2 a3 => exact KeepsR.widen (r := execEopJtab a0 a1 a2 a3 s) execEopJtab_keeps rfl
  | eopAdv a0 a1 => exact KeepsR.widen (r := execEopAdv a0 a1 s) execEopAdv_keeps rfl
  | eopAdvw a0 a1 a2 => exact KeepsR.widen (r := execEopAdvw a0 a1 a2 s) execEopAdvw_keeps rfl
  | eopMark a0 a1 a2 a3 => exact KeepsR.widen (r := execEopMark a0 a1 a2 a3 s) execEopMark_keeps rfl
  | eopKey a0 a1 a2 a3 a4 => exact KeepsR.widen (r := execEopKey a0 a1 a2 a3 a4 s) execEopKey_keeps rfl
  | eopKeyw a0 a1 a2 => exact KeepsR.widen (r := execEopKeyw a0 a1 a2 s) execEopKeyw_keeps rfl
  | eopHash a0 a1 a2 a3 => exact KeepsR.widen (r := execEopHash a0 a1 a2 a3 s) execEopHash_keeps rfl
  | eopHashw a0 a1 => exact KeepsR.widen (r := execEopHashw a0 a1 s) execEopHashw_keeps rfl
  | eopLook a0 a1 a2 => exact KeepsR.widen (r := execEopLook a0 a1 a2 s) execEopLook_keeps rfl
  | eopAct a0 => exact KeepsR.widen (r := execEopAct a0 s) execEopAct_keeps rfl
  | classifierLookupDone a0 => exact KeepsR.widen (r := execClassifierLookupDone a0 s) execClassifierLookupDone_keeps rfl
  | eopSetf a0 a1 a2 => exact KeepsR.widen (r := execEopSetf a0 a1 a2 s) execEopSetf_keeps rfl
  | eopSetw a0 a1 a2 => exact KeepsR.widen (r := execEopSetw a0 a1 a2 s) execEopSetw_keeps rfl
  | eopEmit a0 => exact KeepsR.widen (r := execEopEmit a0 s) execEopEmit_keeps rfl
  | eopTrap a0 a1 => exact KeepsR.widen (r := execEopTrap a0 a1 s) execEopTrap_keeps rfl
  | eopinCycleLimit a0 => exact KeepsR.widen (r := execEopinCycleLimit a0 s) execEopinCycleLimit_keeps rfl
  | flowInsert a0 => exact KeepsR.widen (r := execFlowInsert a0 s) execFlowInsert_keeps rfl
  | flowDelete a0 => exact KeepsR.widen (r := execFlowDelete a0 s) execFlowDelete_keeps rfl
  | flowReplace a0 => exact KeepsR.widen (r := execFlowReplace a0 s) execFlowReplace_keeps rfl
  | flowLookup a0 => exact KeepsR.widen (r := execFlowLookup a0 s) execFlowLookup_keeps rfl
  | ruleWrite a0 => exact KeepsR.widen (r := execRuleWrite a0 s) execRuleWrite_keeps rfl
  | ruleInvalidate a0 => exact KeepsR.widen (r := execRuleInvalidate a0 s) execRuleInvalidate_keeps rfl
  | ruleRead a0 => exact KeepsR.widen (r := execRuleRead a0 s) execRuleRead_keeps rfl
  | fragmentReceived a0 a1 a2 a3 a4 a5 => exact KeepsR.widen (r := execFragmentReceived a0 a1 a2 a3 a4 a5 s) execFragmentReceived_keeps rfl
  | fragTimeout a0 => exact KeepsR.widen (r := execFragTimeout a0 s) execFragTimeout_keeps rfl
  | txtsHiRead a0 a1 => exact KeepsR.widen (r := execTxtsHiRead a0 a1 s) execTxtsHiRead_keeps rfl
  | laneReseed a0 a1 a2 => exact KeepsR.widen (r := execLaneReseed a0 a1 a2 s) execLaneReseed_keeps rfl
  | drbgReseed a0 => exact KeepsR.widen (r := execDrbgReseed a0 s) execDrbgReseed_keeps rfl
  | entropyHealthFail => exact KeepsR.widen (r := execEntropyHealthFail s) execEntropyHealthFail_keeps rfl
  | entropyRetest a0 => exact KeepsR.widen (r := execEntropyRetest a0 s) execEntropyRetest_keeps rfl
  | saInstall a0 => exact KeepsR.widen (r := execInstall a0 s) execInstall_keeps rfl
  | saDelete a0 => exact KeepsR.widen (r := execDelete a0 s) execDelete_keeps rfl
  | saRead a0 => exact KeepsR.widen (r := execSaRead a0 s) execSaRead_keeps rfl
  | ksRoll a0 => exact KeepsR.widen (r := execRoll a0 s) execRoll_keeps rfl
  | escRead a0 => exact KeepsR.widen (r := execEscRead a0 s) execEscRead_keeps rfl
  | ksImport a0 => exact KeepsR.widen (r := execImport a0 s) execImport_keeps rfl
  | rekeySweepStripe a0 => exact KeepsR.widen (r := execRekeySweepStripe a0 s) execRekeySweepStripe_keeps rfl
  | epPerstNAssert => exact KeepsR.widen (r := execEpPerstNAssert s) execEpPerstNAssert_keeps rfl
  | epLinkDown => exact KeepsR.widen (r := execEpLinkDown s) execEpLinkDown_keeps rfl
  | epLinkUp a0 a1 a2 => exact KeepsR.widen (r := execEpLinkUp a0 a1 a2 s) execEpLinkUp_keeps rfl
  | flr a0 => exact KeepsR.widen (r := execFlr a0 s) execFlr_keeps rfl
  | flrComplete a0 => exact KeepsR.widen (r := execFlrComplete a0 s) execFlrComplete_keeps rfl
  | busMasterClear a0 a1 => exact KeepsR.widen (r := execBusMasterClear a0 a1 s) execBusMasterClear_keeps rfl
  | busMasterSet a0 a1 => exact KeepsR.widen (r := execBusMasterSet a0 a1 s) execBusMasterSet_keeps rfl
  | vfEnable a0 a1 => exact KeepsR.widen (r := execVfEnable a0 a1 s) execVfEnable_keeps rfl
  | ideCheckFail => exact KeepsR.widen (r := execIdeCheckFail s) execIdeCheckFail_keeps rfl
  | ccEn a0 a1 a2 => exact KeepsR.widen (r := execCcEn a0 a1 a2 s) execCcEn_keeps rfl
  | epCompletionTimeout a0 a1 => exact KeepsR.widen (r := execEpCompletionTimeout a0 a1 s) execEpCompletionTimeout_keeps rfl
  | epTagQuarantineEnd a0 => exact KeepsR.widen (r := execEpTagQuarantineEnd a0 s) execEpTagQuarantineEnd_keeps rfl
  | epLateCompletion a0 => exact KeepsR.widen (r := execEpLateCompletion a0 s) execEpLateCompletion_keeps rfl
  | epIdle => exact KeepsR.widen (r := execEpIdle s) execEpIdle_keeps rfl
  | db a0 a1 a2 => exact KeepsR.widen (r := execDb a0 a1 a2 s) execDb_keeps rfl
  | push a0 a1 a2 a3 => exact KeepsR.widen (r := execPush a0 a1 a2 a3 s) execPush_keeps rfl
  | ringCtlWrite a0 a1 a2 a3 => exact KeepsR.widen (r := execRingCtlWrite a0 a1 a2 a3 s) execRingCtlWrite_keeps rfl
  | drain a0 a1 => exact KeepsR.widen (r := execDrain a0 a1 s) execDrain_keeps rfl
  | pause a0 a1 => exact KeepsR.widen (r := execPause a0 a1 s) execPause_keeps rfl
  | ringResume a0 a1 => exact KeepsR.widen (r := execRingResume a0 a1 s) execRingResume_keeps rfl
  | invalidate a0 a1 => exact KeepsR.widen (r := execInvalidate a0 a1 s) execInvalidate_keeps rfl
  | ringGrant a0 => exact KeepsR.widen (r := execRingGrant a0 s) execRingGrant_keeps rfl
  | ringNop a0 => exact KeepsR.widen (r := execRingNop a0 s) execRingNop_keeps rfl
  | nvmeIo a0 a1 => exact KeepsR.widen (r := execNvmeIo a0 a1 s) execNvmeIo_keeps rfl
  | nvmeAdmin a0 => exact KeepsR.widen (r := execNvmeAdmin a0 s) execNvmeAdmin_keeps rfl
  | mgmt a0 a1 => exact KeepsR.widen (r := execMgmt a0 a1 s) execMgmt_keeps rfl
  | winRead a0 => exact KeepsR.widen (r := execWinRead a0 s) execWinRead_keeps rfl
  | winWrite a0 a1 => exact KeepsR.widen (r := execWinWrite a0 a1 s) execWinWrite_keeps rfl
  | winFadd a0 => exact KeepsR.widen (r := execWinFadd a0 s) execWinFadd_keeps rfl
  | winCas8 a0 => exact KeepsR.widen (r := execWinCas8 a0 s) execWinCas8_keeps rfl
  | winCas16 a0 => exact KeepsR.widen (r := execWinCas16 a0 s) execWinCas16_keeps rfl
  | chainWait a0 => exact KeepsR.widen (r := execChainWait a0 s) execChainWait_keeps rfl
  | coalDelayExpire a0 => exact KeepsR.widen (r := execCoalDelayExpire a0 s) execCoalDelayExpire_keeps rfl
  | perstDelayExpire a0 => exact KeepsR.widen (r := execPerstDelayExpire a0 s) execPerstDelayExpire_keeps rfl
  | rpTrainingTimeout a0 => exact KeepsR.widen (r := execRpTrainingTimeout a0 s) execRpTrainingTimeout_keeps rfl
  | rpLinkUp a0 a1 a2 a3 => exact KeepsR.widen (r := execRpLinkUp a0 a1 a2 a3 s) execRpLinkUp_keeps rfl
  | driveReadyTimeout a0 => exact KeepsR.widen (r := execDriveReadyTimeout a0 s) execDriveReadyTimeout_keeps rfl
  | driveFormatComplete a0 => exact KeepsR.widen (r := execDriveFormatComplete a0 s) execDriveFormatComplete_keeps rfl
  | rpCommandTimeout a0 a1 a2 a3 => exact KeepsR.widen (r := execRpCommandTimeout a0 a1 a2 a3 s) execRpCommandTimeout_keeps rfl
  | rpTagQuarantineEnd a0 a1 => exact KeepsR.widen (r := execRpTagQuarantineEnd a0 a1 s) execRpTagQuarantineEnd_keeps rfl
  | rpLateCompletion a0 a1 => exact KeepsR.widen (r := execRpLateCompletion a0 a1 s) execRpLateCompletion_keeps rfl
  | rpLateData a0 a1 => exact KeepsR.widen (r := execRpLateData a0 a1 s) execRpLateData_keeps rfl
  | rpContain a0 a1 => exact KeepsR.widen (r := execRpContain a0 a1 s) execRpContain_keeps rfl
  | rpContainEnd a0 => exact KeepsR.widen (r := execRpContainEnd a0 s) execRpContainEnd_keeps rfl
  | rpLinkLoss a0 a1 => exact KeepsR.widen (r := execRpLinkLoss a0 a1 s) execRpLinkLoss_keeps rfl
  | rpIdle a0 => exact KeepsR.widen (r := execRpIdle a0 s) execRpIdle_keeps rfl
  | sidebandLevelAccept a0 a1 => exact KeepsR.widen (r := execSidebandLevelAccept a0 a1 s) execSidebandLevelAccept_keeps rfl
  | longPress a0 => exact KeepsR.widen (r := execLongPress a0 s) execLongPress_keeps rfl
  | quarantineClear a0 a1 a2 => exact KeepsR.widen (r := execQuarantineClear a0 a1 a2 s) execQuarantineClear_keeps rfl
  | ledRefresh => exact KeepsR.widen (r := execLedRefresh s) execLedRefresh_keeps rfl
  | insertionDelayEnd a0 => exact KeepsR.widen (r := execInsertionDelayEnd a0 s) execInsertionDelayEnd_keeps rfl
  | bayStart => exact KeepsR.widen (r := execBayStart s) execBayStart_keeps rfl
  | bayFaultTimerExpire a0 => exact KeepsR.widen (r := execBayFaultTimerExpire a0 s) execBayFaultTimerExpire_keeps rfl
  | bayFastTrip a0 => exact KeepsR.widen (r := execBayFastTrip a0 s) execBayFastTrip_keeps rfl
  | bayPowerGood a0 => exact KeepsR.widen (r := execBayPowerGood a0 s) execBayPowerGood_keeps rfl
  | bayPowerGoodLost a0 => exact KeepsR.widen (r := execBayPowerGoodLost a0 s) execBayPowerGoodLost_keeps rfl
  | bayRetryWaitEnd a0 => exact KeepsR.widen (r := execBayRetryWaitEnd a0 s) execBayRetryWaitEnd_keeps rfl
  | bayRetriesReset a0 => exact KeepsR.widen (r := execBayRetriesReset a0 s) execBayRetriesReset_keeps rfl
  | feedBad a0 a1 => exact KeepsR.widen (r := execFeedBad a0 a1 s) execFeedBad_keeps rfl
  | feedGood a0 a1 => exact KeepsR.widen (r := execFeedGood a0 a1 s) execFeedGood_keeps rfl
  | feedReturn a0 => exact KeepsR.widen (r := execFeedReturn a0 s) execFeedReturn_keeps rfl
  | gateTurnoffFail a0 => exact KeepsR.widen (r := execGateTurnoffFail a0 s) execGateTurnoffFail_keeps rfl
  | bothGates a0 => exact KeepsR.widen (r := execBothGates a0 s) execBothGates_keeps rfl
  | feedAGateLost a0 => exact KeepsR.widen (r := execFeedAGateLost a0 s) execFeedAGateLost_keeps rfl
  | bayOff a0 a1 => exact KeepsR.widen (r := execOff a0 a1 s) execOff_keeps rfl
  | bayOn a0 a1 => exact KeepsR.widen (r := execOn a0 a1 s) execOn_keeps rfl
  | bayClear a0 a1 => exact KeepsR.widen (r := execClear a0 a1 s) execClear_keeps rfl
  | bayCycle a0 a1 => exact KeepsR.widen (r := execCycle a0 a1 s) execCycle_keeps rfl
  | cycleOffTimeEnd a0 => exact KeepsR.widen (r := execCycleOffTimeEnd a0 s) execCycleOffTimeEnd_keeps rfl
  | zeberRetrain a0 => exact KeepsR.widen (r := execZeberRetrain a0 s) execZeberRetrain_keeps rfl
  | zeberTrained a0 => exact KeepsR.widen (r := execZeberTrained a0 s) execZeberTrained_keeps rfl
  | zeberFlitReceived a0 a1 a2 a3 a4 a5 => exact KeepsR.widen (r := execZeberFlitReceived a0 a1 a2 a3 a4 a5 s) execZeberFlitReceived_keeps rfl
  | zeberNak a0 => exact KeepsR.widen (r := execZeberNak a0 s) execZeberNak_keeps rfl
  | zeberReplayTimeout => exact KeepsR.widen (r := execZeberReplayTimeout s) execZeberReplayTimeout_keeps rfl
  | hello a0 a1 a2 a3 a4 a5 => exact KeepsR.widen (r := execHello a0 a1 a2 a3 a4 a5 s) execHello_keeps rfl
  | pairRange a0 a1 a2 a3 a4 a5 a6 => exact KeepsR.widen (r := execRange a0 a1 a2 a3 a4 a5 a6 s) execRange_keeps rfl
  | rangeSendTimer => exact KeepsR.widen (r := execRangeSendTimer s) execRangeSendTimer_keeps rfl
  | stopping a0 => exact KeepsR.widen (r := execStopping a0 s) execStopping_keeps rfl
  | mirrorPut a0 a1 a2 a3 a4 a5 => exact KeepsR.widen (r := execMirrorPut a0 a1 a2 a3 a4 a5 s) execMirrorPut_keeps rfl
  | mirrorAck a0 => exact KeepsR.widen (r := execMirrorAck a0 s) execMirrorAck_keeps rfl
  | journalPut a0 a1 => exact KeepsR.widen (r := execJournalPut a0 a1 s) execJournalPut_keeps rfl
  | cleanNote a0 a1 => exact KeepsR.widen (r := execCleanNote a0 a1 s) execCleanNote_keeps rfl
  | lease a0 a1 a2 => exact KeepsR.widen (r := execLease a0 a1 a2 s) execLease_keeps rfl
  | statePut a0 a1 => exact KeepsR.widen (r := execStatePut a0 a1 s) execStatePut_keeps rfl
  | fwdCmd a0 => exact KeepsR.widen (r := execFwdCmd a0 s) execFwdCmd_keeps rfl
  | fwdData a0 a1 a2 => exact KeepsR.widen (r := execFwdData a0 a1 a2 s) execFwdData_keeps rfl
  | fwdCpl a0 a1 a2 a3 a4 a5 a6 => exact KeepsR.widen (r := execFwdCpl a0 a1 a2 a3 a4 a5 a6 s) execFwdCpl_keeps rfl
  | stripReq a0 => exact KeepsR.widen (r := execStripReq a0 s) execStripReq_keeps rfl
  | stripRsp a0 a1 a2 => exact KeepsR.widen (r := execStripRsp a0 a1 a2 s) execStripRsp_keeps rfl
  | xstampReq a0 a1 a2 a3 a4 => exact KeepsR.widen (r := execXstampReq a0 a1 a2 a3 a4 s) execXstampReq_keeps rfl
  | xstampRsp a0 a1 a2 => exact KeepsR.widen (r := execXstampRsp a0 a1 a2 s) execXstampRsp_keeps rfl
  | pairRecord a0 a1 a2 => exact KeepsR.widen (r := execRecord a0 a1 a2 s) execRecord_keeps rfl
  | recordAck a0 => exact KeepsR.widen (r := execRecordAck a0 s) execRecordAck_keeps rfl
  | moveState a0 => exact KeepsR.widen (r := execMoveState a0 s) execMoveState_keeps rfl
  | pairFrame a0 a1 a2 a3 a4 => exact KeepsR.widen (r := execFrame a0 a1 a2 a3 a4 s) execFrame_keeps rfl
  | pairSession a0 a1 a2 => exact KeepsR.widen (r := execSession a0 a1 a2 s) execSession_keeps rfl
  | resyncPut a0 => exact KeepsR.widen (r := execResyncPut a0 s) execResyncPut_keeps rfl
  | resyncDone a0 => exact KeepsR.widen (r := execResyncDone a0 s) execResyncDone_keeps rfl
  | pairSenseTimeout a0 => exact KeepsR.widen (r := execPairSenseTimeout a0 s) execPairSenseTimeout_keeps rfl
  | pairSenseEdge => exact KeepsR.widen (r := execPairSenseEdge s) execPairSenseEdge_keeps rfl
  | rangingTimeout => exact KeepsR.widen (r := execRangingTimeout s) execRangingTimeout_keeps rfl
  | arbDelayEnd => exact KeepsR.widen (r := execArbDelayEnd s) execArbDelayEnd_keeps rfl
  | preemptionDone a0 => exact KeepsR.widen (r := execPreemptionDone a0 s) execPreemptionDone_keeps rfl
  | seekingTimeout => exact KeepsR.widen (r := execSeekingTimeout s) execSeekingTimeout_keeps rfl
  | quietIntervalEnd a0 => exact KeepsR.widen (r := execQuietIntervalEnd a0 s) execQuietIntervalEnd_keeps rfl
  | pairMove a0 a1 => exact KeepsR.widen (r := execMove a0 a1 s) execMove_keeps rfl
  | moveDrained => exact KeepsR.widen (r := execMoveDrained s) execMoveDrained_keeps rfl
  | moveHoldExpire a0 => exact KeepsR.widen (r := execMoveHoldExpire a0 s) execMoveHoldExpire_keeps rfl
  | fieldBookEntryWritten a0 a1 a2 => exact KeepsR.widen (r := execFieldBookEntryWritten a0 a1 a2 s) execFieldBookEntryWritten_keeps rfl
  | bootConfirm a0 => exact KeepsR.widen (r := execBootConfirm a0 s) execBootConfirm_keeps rfl
  | svnAdvance a0 => exact KeepsR.widen (r := execSvnAdvance a0 s) execSvnAdvance_keeps rfl
  | activate a0 => exact KeepsR.widen (r := execActivate a0 s) execActivate_keeps rfl
  | activationComponentDone a0 => exact KeepsR.widen (r := execActivationComponentDone a0 s) execActivationComponentDone_keeps rfl
  | debugUnlock a0 a1 a2 a3 a4 => exact KeepsR.widen (r := execDebugUnlock a0 a1 a2 a3 a4 s) execDebugUnlock_keeps rfl
  | fieldBookExport a0 a1 a2 a3 => exact KeepsR.widen (r := execFieldBookExport a0 a1 a2 a3 s) execFieldBookExport_keeps rfl
  | getMeasurements a0 a1 a2 => exact KeepsR.widen (r := execGetMeasurements a0 a1 a2 s) execGetMeasurements_keeps rfl
  | challenge a0 a1 a2 => exact KeepsR.widen (r := execChallenge a0 a1 a2 s) execChallenge_keeps rfl
  | keyExchange a0 a1 a2 => exact KeepsR.widen (r := execKeyExchange a0 a1 a2 s) execKeyExchange_keeps rfl
  | keyUpdate a0 a1 => exact KeepsR.widen (r := execKeyUpdate a0 a1 s) execKeyUpdate_keeps rfl
  | setCertificate a0 a1 a2 => exact KeepsR.widen (r := execSetCertificate a0 a1 a2 s) execSetCertificate_keeps rfl
  | ownerEnrol a0 a1 => exact KeepsR.widen (r := execOwnerEnrol a0 a1 s) execOwnerEnrol_keeps rfl
  | ownerRotate a0 a1 a2 => exact KeepsR.widen (r := execOwnerRotate a0 a1 a2 s) execOwnerRotate_keeps rfl
  | escrowKeyInstall a0 a1 => exact KeepsR.widen (r := execEscrowKeyInstall a0 a1 s) execEscrowKeyInstall_keeps rfl
  | fieldBookEntryVendorGet a0 a1 a2 => exact KeepsR.widen (r := execFieldBookEntryVendorGet a0 a1 a2 s) execFieldBookEntryVendorGet_keeps rfl
  | datumCommit a0 => exact KeepsR.widen (r := execCommit a0 s) execCommit_keeps rfl
  | datumClosure a0 => exact KeepsR.widen (r := execClosure a0 s) execClosure_keeps rfl
  | quiesceRetry => exact KeepsR.widen (r := execQuiesceRetry s) execQuiesceRetry_keeps rfl
  | datumConfirm a0 => exact KeepsR.widen (r := execConfirm a0 s) execConfirm_keeps rfl
  | confirmExpire => exact KeepsR.widen (r := execConfirmExpire s) execConfirmExpire_keeps rfl
  | datumRevert a0 => exact KeepsR.widen (r := execRevert a0 s) execRevert_keeps rfl
  | datumDiscard a0 => exact KeepsR.widen (r := execDiscard a0 s) execDiscard_keeps rfl
  | datumSeal a0 => exact KeepsR.widen (r := execSeal a0 s) execSeal_keeps rfl
  | datumLoad a0 => exact KeepsR.widen (r := execLoad a0 s) execLoad_keeps rfl
  | loadDone => exact KeepsR.widen (r := execLoadDone s) execLoadDone_keeps rfl
  | registerWrite a0 a1 a2 a3 a4 => exact KeepsR.widen (r := execRegisterWrite a0 a1 a2 a3 a4 s) execRegisterWrite_keeps rfl
  | coldReset a0 => exact KeepsR.widen (r := execColdReset a0 s) execColdReset_keeps rfl
  | sysPwrokFall => exact KeepsR.widen (r := execSysPwrokFall s) execSysPwrokFall_keeps rfl
  | vddPcRise a0 => exact KeepsR.widen (r := execVddPcRise a0 s) execVddPcRise_keeps rfl
  | sysRstN => exact KeepsR.widen (r := execSysRstN s) execSysRstN_keeps rfl
  | rstCold a0 => exact KeepsR.widen (r := execCold a0 s) execCold_keeps rfl
  | rstWarm a0 => exact KeepsR.widen (r := execWarm a0 s) execWarm_keeps rfl
  | rstShutdown a0 => exact KeepsR.widen (r := execShutdown a0 s) execShutdown_keeps rfl
  | shutdownFlushed => exact KeepsR.widen (r := execShutdownFlushed s) execShutdownFlushed_keeps rfl
  | sdTimeout => exact KeepsR.widen (r := execSdTimeout s) execSdTimeout_keeps rfl
  | rstBlock a0 => exact KeepsR.widen (r := execBlock a0 s) execBlock_keeps rfl
  | railFault a0 a1 => exact KeepsR.widen (r := execRailFault a0 a1 s) execRailFault_keeps rfl
  | thermalWarning a0 a1 => exact KeepsR.widen (r := execThermalWarning a0 a1 s) execThermalWarning_keeps rfl
  | thermalTrip a0 a1 => exact KeepsR.widen (r := execThermalTrip a0 a1 s) execThermalTrip_keeps rfl
  | avsTrim a0 a1 => exact KeepsR.widen (r := execAvsTrim a0 a1 s) execAvsTrim_keeps rfl
  | timeAdjPpbWrite a0 a1 => exact KeepsR.widen (r := execTimeAdjPpbWrite a0 a1 s) execTimeAdjPpbWrite_keeps rfl
  | timeSlewNsWrite a0 a1 => exact KeepsR.widen (r := execTimeSlewNsWrite a0 a1 s) execTimeSlewNsWrite_keeps rfl
  | timeStep a0 a1 => exact KeepsR.widen (r := execTimeStep a0 a1 s) execTimeStep_keeps rfl
  | setDisciplined a0 => exact KeepsR.widen (r := execSetDisciplined a0 s) execSetDisciplined_keeps rfl
  | clearDisciplined a0 => exact KeepsR.widen (r := execClearDisciplined a0 s) execClearDisciplined_keeps rfl
  | assemblyWaitExpire => exact KeepsR.widen (r := execAssemblyWaitExpire s) execAssemblyWaitExpire_keeps rfl
  | startupPowerfailRecover => exact KeepsR.widen (r := execStartupPowerfailRecover s) execStartupPowerfailRecover_keeps rfl
  | wdtKick a0 => exact KeepsR.widen (r := execWdtKick a0 s) execWdtKick_keeps rfl
  | watchdogExpire => exact KeepsR.widen (r := execWatchdogExpire s) execWatchdogExpire_keeps rfl
  | fatalResetTimer => exact KeepsR.widen (r := execFatalResetTimer s) execFatalResetTimer_keeps rfl
  | eventTokenTick => exact KeepsR.widen (r := execEventTokenTick s) execEventTokenTick_keeps rfl
  | suppressionReport a0 a1 => exact KeepsR.widen (r := execSuppressionReport a0 a1 s) execSuppressionReport_keeps rfl
  | eventNSpacingEnd => exact KeepsR.widen (r := execEventNSpacingEnd s) execEventNSpacingEnd_keeps rfl
  | msixSpacingEnd a0 a1 => exact KeepsR.widen (r := execMsixSpacingEnd a0 a1 s) execMsixSpacingEnd_keeps rfl
  | snapshot => exact KeepsR.widen (r := execSnapshot s) execSnapshot_keeps rfl
  | readReg a0 a1 a2 a3 => exact KeepsR.widen (r := execReadReg a0 a1 a2 a3 s) execReadReg_keeps rfl
  | writeReg a0 a1 a2 a3 => exact KeepsR.widen (r := execWriteReg a0 a1 a2 a3 s) execWriteReg_keeps rfl
  | platData a0 a1 a2 a3 a4 => exact KeepsR.widen (r := execPlatData a0 a1 a2 a3 a4 s) execPlatData_keeps rfl
  | platEnd a0 a1 a2 => exact KeepsR.widen (r := execPlatEnd a0 a1 a2 s) execPlatEnd_keeps rfl
  | eventRead a0 a1 a2 a3 => exact KeepsR.widen (r := execEventRead a0 a1 a2 a3 s) execEventRead_keeps rfl
  | smHeartbeat a0 => exact KeepsR.widen (r := execSmHeartbeat a0 s) execSmHeartbeat_keeps rfl
  | smHeartbeatMiss => exact KeepsR.widen (r := execSmHeartbeatMiss s) execSmHeartbeatMiss_keeps rfl
  | pmbusPoll a0 a1 a2 => exact KeepsR.widen (r := execPmbusPoll a0 a1 a2 s) execPmbusPoll_keeps rfl
  | mgmtPortLinkChange a0 => exact KeepsR.widen (r := execMgmtPortLinkChange a0 s) execMgmtPortLinkChange_keeps rfl
  | trHeadWrite a0 a1 => exact KeepsR.widen (r := execTrHeadWrite a0 a1 s) execTrHeadWrite_keeps rfl
  | qHeadWrite a0 a1 => exact KeepsR.widen (r := execQHeadWrite a0 a1 s) execQHeadWrite_keeps rfl
  | evtForce a0 a1 a2 => exact KeepsR.widen (r := execEvtForce a0 a1 a2 s) execEvtForce_keeps rfl
  | loReadLatch a0 a1 a2 => exact KeepsR.widen (r := execLoReadLatch a0 a1 a2 s) execLoReadLatch_keeps rfl
  | cadEntryRead a0 => exact KeepsR.widen (r := execCadEntryRead a0 s) execCadEntryRead_keeps rfl
  | epPerstNRelease => exact KeepsR.widen (r := execEpPerstNRelease s) execEpPerstNRelease_keeps rfl
  | hostReadCompletion a0 a1 => exact KeepsR.widen (r := execHostReadCompletion a0 a1 s) execHostReadCompletion_keeps rfl
  | nvmeDoorbell a0 a1 a2 a3 => exact KeepsR.widen (r := execNvmeDoorbell a0 a1 a2 a3 s) execNvmeDoorbell_keeps rfl
  | ideKm a0 => exact KeepsR.widen (r := execIdeKm a0 s) execIdeKm_keeps rfl
  | driveReady a0 a1 => exact KeepsR.widen (r := execDriveReady a0 a1 s) execDriveReady_keeps rfl
  | sidebandEdge a0 a1 a2 => exact KeepsR.widen (r := execSidebandEdge a0 a1 a2 s) execSidebandEdge_keeps rfl
  | changeoverComplete a0 => exact KeepsR.widen (r := execChangeoverComplete a0 s) execChangeoverComplete_keeps rfl
  | returnToATimeout a0 => exact KeepsR.widen (r := execReturnToATimeout a0 s) execReturnToATimeout_keeps rfl
  | resetHoldExpire => exact KeepsR.widen (r := execResetHoldExpire s) execResetHoldExpire_keeps rfl
  | rnrTimerExpire a0 => exact KeepsR.widen (r := execRnrTimerExpire a0 s) execRnrTimerExpire_keeps rfl
  | asynchronousEventRequest a0 a1 => exact KeepsR.widen (r := execAsynchronousEventRequest a0 a1 s) execAsynchronousEventRequest_keeps rfl
  | mctpEidAssign a0 => exact KeepsR.widen (r := execMctpEidAssign a0 s) execMctpEidAssign_keeps rfl

/-- The clock's tick changes the time and the power unit's clocks only. -/
theorem tick_keeps' (s : State) : Keeps 288 s (tick s) := tick_keeps

end Sys2Proof.Machine
end

