-- ==== Sys2Proof/Laws/Parts.lean ====
section
/-!
SUPPORT. Laws/Parts.lean: the parts of the state that the most used operations leave alone, each as a rewrite, so that a proof
about one part passes over them.
-/
namespace Sys2Proof.Machine

@[simp] theorem wrAt_sels {a0 a1 a2 s} : (wrAt a0 a1 a2 s).sels = s.sels := wrAt_keeps.sels rfl
@[simp] theorem wrAt_latches {a0 a1 a2 s} : (wrAt a0 a1 a2 s).latches = s.latches := wrAt_keeps.latches rfl
@[simp] theorem wrAt_out {a0 a1 a2 s} : (wrAt a0 a1 a2 s).out = s.out := wrAt_keeps.out rfl
@[simp] theorem wrAt_free {a0 a1 a2 s} : (wrAt a0 a1 a2 s).free = s.free := wrAt_keeps.free rfl
@[simp] theorem wrAt_time {a0 a1 a2 s} : (wrAt a0 a1 a2 s).time = s.time := wrAt_keeps.time rfl
@[simp] theorem wrAt_evt {a0 a1 a2 s} : (wrAt a0 a1 a2 s).evt = s.evt := wrAt_keeps.evt rfl
@[simp] theorem wrAt_datum {a0 a1 a2 s} : (wrAt a0 a1 a2 s).datum = s.datum := wrAt_keeps.datum rfl
@[simp] theorem wrAt_pwr {a0 a1 a2 s} : (wrAt a0 a1 a2 s).pwr = s.pwr := wrAt_keeps.pwr rfl
@[simp] theorem wrAt_arch {a0 a1 a2 s} : (wrAt a0 a1 a2 s).arch = s.arch := wrAt_keeps.arch rfl
@[simp] theorem wrAt_trust {a0 a1 a2 s} : (wrAt a0 a1 a2 s).trust = s.trust := wrAt_keeps.trust rfl
@[simp] theorem wrAt_vault {a0 a1 a2 s} : (wrAt a0 a1 a2 s).vault = s.vault := wrAt_keeps.vault rfl
@[simp] theorem wrAt_nvm {a0 a1 a2 s} : (wrAt a0 a1 a2 s).nvm = s.nvm := wrAt_keeps.nvm rfl
@[simp] theorem wrAt_store {a0 a1 a2 s} : (wrAt a0 a1 a2 s).store = s.store := wrAt_keeps.store rfl
@[simp] theorem wrAt_trav {a0 a1 a2 s} : (wrAt a0 a1 a2 s).trav = s.trav := wrAt_keeps.trav rfl
@[simp] theorem wrAt_pair {a0 a1 a2 s} : (wrAt a0 a1 a2 s).pair = s.pair := wrAt_keeps.pair rfl
@[simp] theorem wrAt_zeb {a0 a1 a2 s} : (wrAt a0 a1 a2 s).zeb = s.zeb := wrAt_keeps.zeb rfl
@[simp] theorem wrAt_win {a0 a1 a2 s} : (wrAt a0 a1 a2 s).win = s.win := wrAt_keeps.win rfl
@[simp] theorem wrAt_ep {a0 a1 a2 s} : (wrAt a0 a1 a2 s).ep = s.ep := wrAt_keeps.ep rfl
@[simp] theorem wrAt_ks {a0 a1 a2 s} : (wrAt a0 a1 a2 s).ks = s.ks := wrAt_keeps.ks rfl
@[simp] theorem wrAt_xp {a0 a1 a2 s} : (wrAt a0 a1 a2 s).xp = s.xp := wrAt_keeps.xp rfl
@[simp] theorem wrAt_net {a0 a1 a2 s} : (wrAt a0 a1 a2 s).net = s.net := wrAt_keeps.net rfl
@[simp] theorem wrAt_ciph {a0 a1 a2 s} : (wrAt a0 a1 a2 s).ciph = s.ciph := wrAt_keeps.ciph rfl
@[simp] theorem wrAt_bay {a0 a1 a2 s} : (wrAt a0 a1 a2 s).bay = s.bay := wrAt_keeps.bay rfl
@[simp] theorem wrAt_pending {a0 a1 a2 s} : (wrAt a0 a1 a2 s).pending = s.pending := wrAt_keeps.pending

@[simp] theorem wr_sels {a0 a1 s} : (wr a0 a1 s).sels = s.sels := wr_keeps.sels rfl
@[simp] theorem wr_latches {a0 a1 s} : (wr a0 a1 s).latches = s.latches := wr_keeps.latches rfl
@[simp] theorem wr_out {a0 a1 s} : (wr a0 a1 s).out = s.out := wr_keeps.out rfl
@[simp] theorem wr_free {a0 a1 s} : (wr a0 a1 s).free = s.free := wr_keeps.free rfl
@[simp] theorem wr_time {a0 a1 s} : (wr a0 a1 s).time = s.time := wr_keeps.time rfl
@[simp] theorem wr_evt {a0 a1 s} : (wr a0 a1 s).evt = s.evt := wr_keeps.evt rfl
@[simp] theorem wr_datum {a0 a1 s} : (wr a0 a1 s).datum = s.datum := wr_keeps.datum rfl
@[simp] theorem wr_pwr {a0 a1 s} : (wr a0 a1 s).pwr = s.pwr := wr_keeps.pwr rfl
@[simp] theorem wr_arch {a0 a1 s} : (wr a0 a1 s).arch = s.arch := wr_keeps.arch rfl
@[simp] theorem wr_trust {a0 a1 s} : (wr a0 a1 s).trust = s.trust := wr_keeps.trust rfl
@[simp] theorem wr_vault {a0 a1 s} : (wr a0 a1 s).vault = s.vault := wr_keeps.vault rfl
@[simp] theorem wr_nvm {a0 a1 s} : (wr a0 a1 s).nvm = s.nvm := wr_keeps.nvm rfl
@[simp] theorem wr_store {a0 a1 s} : (wr a0 a1 s).store = s.store := wr_keeps.store rfl
@[simp] theorem wr_trav {a0 a1 s} : (wr a0 a1 s).trav = s.trav := wr_keeps.trav rfl
@[simp] theorem wr_pair {a0 a1 s} : (wr a0 a1 s).pair = s.pair := wr_keeps.pair rfl
@[simp] theorem wr_zeb {a0 a1 s} : (wr a0 a1 s).zeb = s.zeb := wr_keeps.zeb rfl
@[simp] theorem wr_win {a0 a1 s} : (wr a0 a1 s).win = s.win := wr_keeps.win rfl
@[simp] theorem wr_ep {a0 a1 s} : (wr a0 a1 s).ep = s.ep := wr_keeps.ep rfl
@[simp] theorem wr_ks {a0 a1 s} : (wr a0 a1 s).ks = s.ks := wr_keeps.ks rfl
@[simp] theorem wr_xp {a0 a1 s} : (wr a0 a1 s).xp = s.xp := wr_keeps.xp rfl
@[simp] theorem wr_net {a0 a1 s} : (wr a0 a1 s).net = s.net := wr_keeps.net rfl
@[simp] theorem wr_ciph {a0 a1 s} : (wr a0 a1 s).ciph = s.ciph := wr_keeps.ciph rfl
@[simp] theorem wr_bay {a0 a1 s} : (wr a0 a1 s).bay = s.bay := wr_keeps.bay rfl
@[simp] theorem wr_pending {a0 a1 s} : (wr a0 a1 s).pending = s.pending := wr_keeps.pending

@[simp] theorem bumpAt_sels {a0 a1 a2 s} : (bumpAt a0 a1 a2 s).sels = s.sels := bumpAt_keeps.sels rfl
@[simp] theorem bumpAt_latches {a0 a1 a2 s} : (bumpAt a0 a1 a2 s).latches = s.latches := bumpAt_keeps.latches rfl
@[simp] theorem bumpAt_out {a0 a1 a2 s} : (bumpAt a0 a1 a2 s).out = s.out := bumpAt_keeps.out rfl
@[simp] theorem bumpAt_free {a0 a1 a2 s} : (bumpAt a0 a1 a2 s).free = s.free := bumpAt_keeps.free rfl
@[simp] theorem bumpAt_time {a0 a1 a2 s} : (bumpAt a0 a1 a2 s).time = s.time := bumpAt_keeps.time rfl
@[simp] theorem bumpAt_evt {a0 a1 a2 s} : (bumpAt a0 a1 a2 s).evt = s.evt := bumpAt_keeps.evt rfl
@[simp] theorem bumpAt_datum {a0 a1 a2 s} : (bumpAt a0 a1 a2 s).datum = s.datum := bumpAt_keeps.datum rfl
@[simp] theorem bumpAt_pwr {a0 a1 a2 s} : (bumpAt a0 a1 a2 s).pwr = s.pwr := bumpAt_keeps.pwr rfl
@[simp] theorem bumpAt_arch {a0 a1 a2 s} : (bumpAt a0 a1 a2 s).arch = s.arch := bumpAt_keeps.arch rfl
@[simp] theorem bumpAt_trust {a0 a1 a2 s} : (bumpAt a0 a1 a2 s).trust = s.trust := bumpAt_keeps.trust rfl
@[simp] theorem bumpAt_vault {a0 a1 a2 s} : (bumpAt a0 a1 a2 s).vault = s.vault := bumpAt_keeps.vault rfl
@[simp] theorem bumpAt_nvm {a0 a1 a2 s} : (bumpAt a0 a1 a2 s).nvm = s.nvm := bumpAt_keeps.nvm rfl
@[simp] theorem bumpAt_store {a0 a1 a2 s} : (bumpAt a0 a1 a2 s).store = s.store := bumpAt_keeps.store rfl
@[simp] theorem bumpAt_trav {a0 a1 a2 s} : (bumpAt a0 a1 a2 s).trav = s.trav := bumpAt_keeps.trav rfl
@[simp] theorem bumpAt_pair {a0 a1 a2 s} : (bumpAt a0 a1 a2 s).pair = s.pair := bumpAt_keeps.pair rfl
@[simp] theorem bumpAt_zeb {a0 a1 a2 s} : (bumpAt a0 a1 a2 s).zeb = s.zeb := bumpAt_keeps.zeb rfl
@[simp] theorem bumpAt_win {a0 a1 a2 s} : (bumpAt a0 a1 a2 s).win = s.win := bumpAt_keeps.win rfl
@[simp] theorem bumpAt_ep {a0 a1 a2 s} : (bumpAt a0 a1 a2 s).ep = s.ep := bumpAt_keeps.ep rfl
@[simp] theorem bumpAt_ks {a0 a1 a2 s} : (bumpAt a0 a1 a2 s).ks = s.ks := bumpAt_keeps.ks rfl
@[simp] theorem bumpAt_xp {a0 a1 a2 s} : (bumpAt a0 a1 a2 s).xp = s.xp := bumpAt_keeps.xp rfl
@[simp] theorem bumpAt_net {a0 a1 a2 s} : (bumpAt a0 a1 a2 s).net = s.net := bumpAt_keeps.net rfl
@[simp] theorem bumpAt_ciph {a0 a1 a2 s} : (bumpAt a0 a1 a2 s).ciph = s.ciph := bumpAt_keeps.ciph rfl
@[simp] theorem bumpAt_bay {a0 a1 a2 s} : (bumpAt a0 a1 a2 s).bay = s.bay := bumpAt_keeps.bay rfl
@[simp] theorem bumpAt_pending {a0 a1 a2 s} : (bumpAt a0 a1 a2 s).pending = s.pending := bumpAt_keeps.pending

@[simp] theorem bump_sels {a0 s} : (bump a0 s).sels = s.sels := bump_keeps.sels rfl
@[simp] theorem bump_latches {a0 s} : (bump a0 s).latches = s.latches := bump_keeps.latches rfl
@[simp] theorem bump_out {a0 s} : (bump a0 s).out = s.out := bump_keeps.out rfl
@[simp] theorem bump_free {a0 s} : (bump a0 s).free = s.free := bump_keeps.free rfl
@[simp] theorem bump_time {a0 s} : (bump a0 s).time = s.time := bump_keeps.time rfl
@[simp] theorem bump_evt {a0 s} : (bump a0 s).evt = s.evt := bump_keeps.evt rfl
@[simp] theorem bump_datum {a0 s} : (bump a0 s).datum = s.datum := bump_keeps.datum rfl
@[simp] theorem bump_pwr {a0 s} : (bump a0 s).pwr = s.pwr := bump_keeps.pwr rfl
@[simp] theorem bump_arch {a0 s} : (bump a0 s).arch = s.arch := bump_keeps.arch rfl
@[simp] theorem bump_trust {a0 s} : (bump a0 s).trust = s.trust := bump_keeps.trust rfl
@[simp] theorem bump_vault {a0 s} : (bump a0 s).vault = s.vault := bump_keeps.vault rfl
@[simp] theorem bump_nvm {a0 s} : (bump a0 s).nvm = s.nvm := bump_keeps.nvm rfl
@[simp] theorem bump_store {a0 s} : (bump a0 s).store = s.store := bump_keeps.store rfl
@[simp] theorem bump_trav {a0 s} : (bump a0 s).trav = s.trav := bump_keeps.trav rfl
@[simp] theorem bump_pair {a0 s} : (bump a0 s).pair = s.pair := bump_keeps.pair rfl
@[simp] theorem bump_zeb {a0 s} : (bump a0 s).zeb = s.zeb := bump_keeps.zeb rfl
@[simp] theorem bump_win {a0 s} : (bump a0 s).win = s.win := bump_keeps.win rfl
@[simp] theorem bump_ep {a0 s} : (bump a0 s).ep = s.ep := bump_keeps.ep rfl
@[simp] theorem bump_ks {a0 s} : (bump a0 s).ks = s.ks := bump_keeps.ks rfl
@[simp] theorem bump_xp {a0 s} : (bump a0 s).xp = s.xp := bump_keeps.xp rfl
@[simp] theorem bump_net {a0 s} : (bump a0 s).net = s.net := bump_keeps.net rfl
@[simp] theorem bump_ciph {a0 s} : (bump a0 s).ciph = s.ciph := bump_keeps.ciph rfl
@[simp] theorem bump_bay {a0 s} : (bump a0 s).bay = s.bay := bump_keeps.bay rfl
@[simp] theorem bump_pending {a0 s} : (bump a0 s).pending = s.pending := bump_keeps.pending

@[simp] theorem bump64_sels {a0 a1 a2 s} : (bump64 a0 a1 a2 s).sels = s.sels := bump64_keeps.sels rfl
@[simp] theorem bump64_latches {a0 a1 a2 s} : (bump64 a0 a1 a2 s).latches = s.latches := bump64_keeps.latches rfl
@[simp] theorem bump64_out {a0 a1 a2 s} : (bump64 a0 a1 a2 s).out = s.out := bump64_keeps.out rfl
@[simp] theorem bump64_free {a0 a1 a2 s} : (bump64 a0 a1 a2 s).free = s.free := bump64_keeps.free rfl
@[simp] theorem bump64_time {a0 a1 a2 s} : (bump64 a0 a1 a2 s).time = s.time := bump64_keeps.time rfl
@[simp] theorem bump64_evt {a0 a1 a2 s} : (bump64 a0 a1 a2 s).evt = s.evt := bump64_keeps.evt rfl
@[simp] theorem bump64_datum {a0 a1 a2 s} : (bump64 a0 a1 a2 s).datum = s.datum := bump64_keeps.datum rfl
@[simp] theorem bump64_pwr {a0 a1 a2 s} : (bump64 a0 a1 a2 s).pwr = s.pwr := bump64_keeps.pwr rfl
@[simp] theorem bump64_arch {a0 a1 a2 s} : (bump64 a0 a1 a2 s).arch = s.arch := bump64_keeps.arch rfl
@[simp] theorem bump64_trust {a0 a1 a2 s} : (bump64 a0 a1 a2 s).trust = s.trust := bump64_keeps.trust rfl
@[simp] theorem bump64_vault {a0 a1 a2 s} : (bump64 a0 a1 a2 s).vault = s.vault := bump64_keeps.vault rfl
@[simp] theorem bump64_nvm {a0 a1 a2 s} : (bump64 a0 a1 a2 s).nvm = s.nvm := bump64_keeps.nvm rfl
@[simp] theorem bump64_store {a0 a1 a2 s} : (bump64 a0 a1 a2 s).store = s.store := bump64_keeps.store rfl
@[simp] theorem bump64_trav {a0 a1 a2 s} : (bump64 a0 a1 a2 s).trav = s.trav := bump64_keeps.trav rfl
@[simp] theorem bump64_pair {a0 a1 a2 s} : (bump64 a0 a1 a2 s).pair = s.pair := bump64_keeps.pair rfl
@[simp] theorem bump64_zeb {a0 a1 a2 s} : (bump64 a0 a1 a2 s).zeb = s.zeb := bump64_keeps.zeb rfl
@[simp] theorem bump64_win {a0 a1 a2 s} : (bump64 a0 a1 a2 s).win = s.win := bump64_keeps.win rfl
@[simp] theorem bump64_ep {a0 a1 a2 s} : (bump64 a0 a1 a2 s).ep = s.ep := bump64_keeps.ep rfl
@[simp] theorem bump64_ks {a0 a1 a2 s} : (bump64 a0 a1 a2 s).ks = s.ks := bump64_keeps.ks rfl
@[simp] theorem bump64_xp {a0 a1 a2 s} : (bump64 a0 a1 a2 s).xp = s.xp := bump64_keeps.xp rfl
@[simp] theorem bump64_net {a0 a1 a2 s} : (bump64 a0 a1 a2 s).net = s.net := bump64_keeps.net rfl
@[simp] theorem bump64_ciph {a0 a1 a2 s} : (bump64 a0 a1 a2 s).ciph = s.ciph := bump64_keeps.ciph rfl
@[simp] theorem bump64_bay {a0 a1 a2 s} : (bump64 a0 a1 a2 s).bay = s.bay := bump64_keeps.bay rfl
@[simp] theorem bump64_pending {a0 a1 a2 s} : (bump64 a0 a1 a2 s).pending = s.pending := bump64_keeps.pending

@[simp] theorem drive_regs {a0 s} : (drive a0 s).regs = s.regs := drive_keeps.regs rfl
@[simp] theorem drive_sels {a0 s} : (drive a0 s).sels = s.sels := drive_keeps.sels rfl
@[simp] theorem drive_latches {a0 s} : (drive a0 s).latches = s.latches := drive_keeps.latches rfl
@[simp] theorem drive_free {a0 s} : (drive a0 s).free = s.free := drive_keeps.free rfl
@[simp] theorem drive_time {a0 s} : (drive a0 s).time = s.time := drive_keeps.time rfl
@[simp] theorem drive_evt {a0 s} : (drive a0 s).evt = s.evt := drive_keeps.evt rfl
@[simp] theorem drive_datum {a0 s} : (drive a0 s).datum = s.datum := drive_keeps.datum rfl
@[simp] theorem drive_pwr {a0 s} : (drive a0 s).pwr = s.pwr := drive_keeps.pwr rfl
@[simp] theorem drive_arch {a0 s} : (drive a0 s).arch = s.arch := drive_keeps.arch rfl
@[simp] theorem drive_trust {a0 s} : (drive a0 s).trust = s.trust := drive_keeps.trust rfl
@[simp] theorem drive_vault {a0 s} : (drive a0 s).vault = s.vault := drive_keeps.vault rfl
@[simp] theorem drive_nvm {a0 s} : (drive a0 s).nvm = s.nvm := drive_keeps.nvm rfl
@[simp] theorem drive_store {a0 s} : (drive a0 s).store = s.store := drive_keeps.store rfl
@[simp] theorem drive_trav {a0 s} : (drive a0 s).trav = s.trav := drive_keeps.trav rfl
@[simp] theorem drive_pair {a0 s} : (drive a0 s).pair = s.pair := drive_keeps.pair rfl
@[simp] theorem drive_zeb {a0 s} : (drive a0 s).zeb = s.zeb := drive_keeps.zeb rfl
@[simp] theorem drive_win {a0 s} : (drive a0 s).win = s.win := drive_keeps.win rfl
@[simp] theorem drive_ep {a0 s} : (drive a0 s).ep = s.ep := drive_keeps.ep rfl
@[simp] theorem drive_ks {a0 s} : (drive a0 s).ks = s.ks := drive_keeps.ks rfl
@[simp] theorem drive_xp {a0 s} : (drive a0 s).xp = s.xp := drive_keeps.xp rfl
@[simp] theorem drive_net {a0 s} : (drive a0 s).net = s.net := drive_keeps.net rfl
@[simp] theorem drive_ciph {a0 s} : (drive a0 s).ciph = s.ciph := drive_keeps.ciph rfl
@[simp] theorem drive_bay {a0 s} : (drive a0 s).bay = s.bay := drive_keeps.bay rfl
@[simp] theorem drive_pending {a0 s} : (drive a0 s).pending = s.pending := drive_keeps.pending

@[simp] theorem drawFree_regs {s} : (drawFree s).2.regs = s.regs := drawFree_keeps.regs rfl
@[simp] theorem drawFree_sels {s} : (drawFree s).2.sels = s.sels := drawFree_keeps.sels rfl
@[simp] theorem drawFree_latches {s} : (drawFree s).2.latches = s.latches := drawFree_keeps.latches rfl
@[simp] theorem drawFree_out {s} : (drawFree s).2.out = s.out := drawFree_keeps.out rfl
@[simp] theorem drawFree_time {s} : (drawFree s).2.time = s.time := drawFree_keeps.time rfl
@[simp] theorem drawFree_evt {s} : (drawFree s).2.evt = s.evt := drawFree_keeps.evt rfl
@[simp] theorem drawFree_datum {s} : (drawFree s).2.datum = s.datum := drawFree_keeps.datum rfl
@[simp] theorem drawFree_pwr {s} : (drawFree s).2.pwr = s.pwr := drawFree_keeps.pwr rfl
@[simp] theorem drawFree_arch {s} : (drawFree s).2.arch = s.arch := drawFree_keeps.arch rfl
@[simp] theorem drawFree_trust {s} : (drawFree s).2.trust = s.trust := drawFree_keeps.trust rfl
@[simp] theorem drawFree_vault {s} : (drawFree s).2.vault = s.vault := drawFree_keeps.vault rfl
@[simp] theorem drawFree_nvm {s} : (drawFree s).2.nvm = s.nvm := drawFree_keeps.nvm rfl
@[simp] theorem drawFree_store {s} : (drawFree s).2.store = s.store := drawFree_keeps.store rfl
@[simp] theorem drawFree_trav {s} : (drawFree s).2.trav = s.trav := drawFree_keeps.trav rfl
@[simp] theorem drawFree_pair {s} : (drawFree s).2.pair = s.pair := drawFree_keeps.pair rfl
@[simp] theorem drawFree_zeb {s} : (drawFree s).2.zeb = s.zeb := drawFree_keeps.zeb rfl
@[simp] theorem drawFree_win {s} : (drawFree s).2.win = s.win := drawFree_keeps.win rfl
@[simp] theorem drawFree_ep {s} : (drawFree s).2.ep = s.ep := drawFree_keeps.ep rfl
@[simp] theorem drawFree_ks {s} : (drawFree s).2.ks = s.ks := drawFree_keeps.ks rfl
@[simp] theorem drawFree_xp {s} : (drawFree s).2.xp = s.xp := drawFree_keeps.xp rfl
@[simp] theorem drawFree_net {s} : (drawFree s).2.net = s.net := drawFree_keeps.net rfl
@[simp] theorem drawFree_ciph {s} : (drawFree s).2.ciph = s.ciph := drawFree_keeps.ciph rfl
@[simp] theorem drawFree_bay {s} : (drawFree s).2.bay = s.bay := drawFree_keeps.bay rfl
@[simp] theorem drawFree_pending {s} : (drawFree s).2.pending = s.pending := drawFree_keeps.pending

@[simp] theorem drbgDraw_regs {s} : (drbgDraw s).2.regs = s.regs := drbgDraw_keeps.regs rfl
@[simp] theorem drbgDraw_sels {s} : (drbgDraw s).2.sels = s.sels := drbgDraw_keeps.sels rfl
@[simp] theorem drbgDraw_latches {s} : (drbgDraw s).2.latches = s.latches := drbgDraw_keeps.latches rfl
@[simp] theorem drbgDraw_out {s} : (drbgDraw s).2.out = s.out := drbgDraw_keeps.out rfl
@[simp] theorem drbgDraw_time {s} : (drbgDraw s).2.time = s.time := drbgDraw_keeps.time rfl
@[simp] theorem drbgDraw_evt {s} : (drbgDraw s).2.evt = s.evt := drbgDraw_keeps.evt rfl
@[simp] theorem drbgDraw_datum {s} : (drbgDraw s).2.datum = s.datum := drbgDraw_keeps.datum rfl
@[simp] theorem drbgDraw_pwr {s} : (drbgDraw s).2.pwr = s.pwr := drbgDraw_keeps.pwr rfl
@[simp] theorem drbgDraw_arch {s} : (drbgDraw s).2.arch = s.arch := drbgDraw_keeps.arch rfl
@[simp] theorem drbgDraw_trust {s} : (drbgDraw s).2.trust = s.trust := drbgDraw_keeps.trust rfl
@[simp] theorem drbgDraw_vault {s} : (drbgDraw s).2.vault = s.vault := drbgDraw_keeps.vault rfl
@[simp] theorem drbgDraw_nvm {s} : (drbgDraw s).2.nvm = s.nvm := drbgDraw_keeps.nvm rfl
@[simp] theorem drbgDraw_store {s} : (drbgDraw s).2.store = s.store := drbgDraw_keeps.store rfl
@[simp] theorem drbgDraw_trav {s} : (drbgDraw s).2.trav = s.trav := drbgDraw_keeps.trav rfl
@[simp] theorem drbgDraw_pair {s} : (drbgDraw s).2.pair = s.pair := drbgDraw_keeps.pair rfl
@[simp] theorem drbgDraw_zeb {s} : (drbgDraw s).2.zeb = s.zeb := drbgDraw_keeps.zeb rfl
@[simp] theorem drbgDraw_win {s} : (drbgDraw s).2.win = s.win := drbgDraw_keeps.win rfl
@[simp] theorem drbgDraw_ep {s} : (drbgDraw s).2.ep = s.ep := drbgDraw_keeps.ep rfl
@[simp] theorem drbgDraw_ks {s} : (drbgDraw s).2.ks = s.ks := drbgDraw_keeps.ks rfl
@[simp] theorem drbgDraw_xp {s} : (drbgDraw s).2.xp = s.xp := drbgDraw_keeps.xp rfl
@[simp] theorem drbgDraw_net {s} : (drbgDraw s).2.net = s.net := drbgDraw_keeps.net rfl
@[simp] theorem drbgDraw_bay {s} : (drbgDraw s).2.bay = s.bay := drbgDraw_keeps.bay rfl
@[simp] theorem drbgDraw_pending {s} : (drbgDraw s).2.pending = s.pending := drbgDraw_keeps.pending

@[simp] theorem errLast_sels {a0 a1 a2 a3 s} : (errLast a0 a1 a2 a3 s).sels = s.sels := errLast_keeps.sels rfl
@[simp] theorem errLast_latches {a0 a1 a2 a3 s} : (errLast a0 a1 a2 a3 s).latches = s.latches := errLast_keeps.latches rfl
@[simp] theorem errLast_out {a0 a1 a2 a3 s} : (errLast a0 a1 a2 a3 s).out = s.out := errLast_keeps.out rfl
@[simp] theorem errLast_free {a0 a1 a2 a3 s} : (errLast a0 a1 a2 a3 s).free = s.free := errLast_keeps.free rfl
@[simp] theorem errLast_time {a0 a1 a2 a3 s} : (errLast a0 a1 a2 a3 s).time = s.time := errLast_keeps.time rfl
@[simp] theorem errLast_evt {a0 a1 a2 a3 s} : (errLast a0 a1 a2 a3 s).evt = s.evt := errLast_keeps.evt rfl
@[simp] theorem errLast_datum {a0 a1 a2 a3 s} : (errLast a0 a1 a2 a3 s).datum = s.datum := errLast_keeps.datum rfl
@[simp] theorem errLast_pwr {a0 a1 a2 a3 s} : (errLast a0 a1 a2 a3 s).pwr = s.pwr := errLast_keeps.pwr rfl
@[simp] theorem errLast_arch {a0 a1 a2 a3 s} : (errLast a0 a1 a2 a3 s).arch = s.arch := errLast_keeps.arch rfl
@[simp] theorem errLast_trust {a0 a1 a2 a3 s} : (errLast a0 a1 a2 a3 s).trust = s.trust := errLast_keeps.trust rfl
@[simp] theorem errLast_vault {a0 a1 a2 a3 s} : (errLast a0 a1 a2 a3 s).vault = s.vault := errLast_keeps.vault rfl
@[simp] theorem errLast_nvm {a0 a1 a2 a3 s} : (errLast a0 a1 a2 a3 s).nvm = s.nvm := errLast_keeps.nvm rfl
@[simp] theorem errLast_store {a0 a1 a2 a3 s} : (errLast a0 a1 a2 a3 s).store = s.store := errLast_keeps.store rfl
@[simp] theorem errLast_trav {a0 a1 a2 a3 s} : (errLast a0 a1 a2 a3 s).trav = s.trav := errLast_keeps.trav rfl
@[simp] theorem errLast_pair {a0 a1 a2 a3 s} : (errLast a0 a1 a2 a3 s).pair = s.pair := errLast_keeps.pair rfl
@[simp] theorem errLast_zeb {a0 a1 a2 a3 s} : (errLast a0 a1 a2 a3 s).zeb = s.zeb := errLast_keeps.zeb rfl
@[simp] theorem errLast_win {a0 a1 a2 a3 s} : (errLast a0 a1 a2 a3 s).win = s.win := errLast_keeps.win rfl
@[simp] theorem errLast_ep {a0 a1 a2 a3 s} : (errLast a0 a1 a2 a3 s).ep = s.ep := errLast_keeps.ep rfl
@[simp] theorem errLast_ks {a0 a1 a2 a3 s} : (errLast a0 a1 a2 a3 s).ks = s.ks := errLast_keeps.ks rfl
@[simp] theorem errLast_xp {a0 a1 a2 a3 s} : (errLast a0 a1 a2 a3 s).xp = s.xp := errLast_keeps.xp rfl
@[simp] theorem errLast_net {a0 a1 a2 a3 s} : (errLast a0 a1 a2 a3 s).net = s.net := errLast_keeps.net rfl
@[simp] theorem errLast_ciph {a0 a1 a2 a3 s} : (errLast a0 a1 a2 a3 s).ciph = s.ciph := errLast_keeps.ciph rfl
@[simp] theorem errLast_bay {a0 a1 a2 a3 s} : (errLast a0 a1 a2 a3 s).bay = s.bay := errLast_keeps.bay rfl
@[simp] theorem errLast_pending {a0 a1 a2 a3 s} : (errLast a0 a1 a2 a3 s).pending = s.pending := errLast_keeps.pending

@[simp] theorem msix_regs {a0 a1 s} : (msix a0 a1 s).regs = s.regs := msix_keeps.regs rfl
@[simp] theorem msix_sels {a0 a1 s} : (msix a0 a1 s).sels = s.sels := msix_keeps.sels rfl
@[simp] theorem msix_latches {a0 a1 s} : (msix a0 a1 s).latches = s.latches := msix_keeps.latches rfl
@[simp] theorem msix_free {a0 a1 s} : (msix a0 a1 s).free = s.free := msix_keeps.free rfl
@[simp] theorem msix_time {a0 a1 s} : (msix a0 a1 s).time = s.time := msix_keeps.time rfl
@[simp] theorem msix_datum {a0 a1 s} : (msix a0 a1 s).datum = s.datum := msix_keeps.datum rfl
@[simp] theorem msix_pwr {a0 a1 s} : (msix a0 a1 s).pwr = s.pwr := msix_keeps.pwr rfl
@[simp] theorem msix_arch {a0 a1 s} : (msix a0 a1 s).arch = s.arch := msix_keeps.arch rfl
@[simp] theorem msix_trust {a0 a1 s} : (msix a0 a1 s).trust = s.trust := msix_keeps.trust rfl
@[simp] theorem msix_vault {a0 a1 s} : (msix a0 a1 s).vault = s.vault := msix_keeps.vault rfl
@[simp] theorem msix_nvm {a0 a1 s} : (msix a0 a1 s).nvm = s.nvm := msix_keeps.nvm rfl
@[simp] theorem msix_store {a0 a1 s} : (msix a0 a1 s).store = s.store := msix_keeps.store rfl
@[simp] theorem msix_trav {a0 a1 s} : (msix a0 a1 s).trav = s.trav := msix_keeps.trav rfl
@[simp] theorem msix_pair {a0 a1 s} : (msix a0 a1 s).pair = s.pair := msix_keeps.pair rfl
@[simp] theorem msix_zeb {a0 a1 s} : (msix a0 a1 s).zeb = s.zeb := msix_keeps.zeb rfl
@[simp] theorem msix_win {a0 a1 s} : (msix a0 a1 s).win = s.win := msix_keeps.win rfl
@[simp] theorem msix_ks {a0 a1 s} : (msix a0 a1 s).ks = s.ks := msix_keeps.ks rfl
@[simp] theorem msix_xp {a0 a1 s} : (msix a0 a1 s).xp = s.xp := msix_keeps.xp rfl
@[simp] theorem msix_net {a0 a1 s} : (msix a0 a1 s).net = s.net := msix_keeps.net rfl
@[simp] theorem msix_ciph {a0 a1 s} : (msix a0 a1 s).ciph = s.ciph := msix_keeps.ciph rfl
@[simp] theorem msix_bay {a0 a1 s} : (msix a0 a1 s).bay = s.bay := msix_keeps.bay rfl
@[simp] theorem msix_pending {a0 a1 s} : (msix a0 a1 s).pending = s.pending := msix_keeps.pending

@[simp] theorem raiseSev_sels {a0 a1 a2 s} : (raiseSev a0 a1 a2 s).sels = s.sels := raiseSev_keeps.sels rfl
@[simp] theorem raiseSev_latches {a0 a1 a2 s} : (raiseSev a0 a1 a2 s).latches = s.latches := raiseSev_keeps.latches rfl
@[simp] theorem raiseSev_free {a0 a1 a2 s} : (raiseSev a0 a1 a2 s).free = s.free := raiseSev_keeps.free rfl
@[simp] theorem raiseSev_time {a0 a1 a2 s} : (raiseSev a0 a1 a2 s).time = s.time := raiseSev_keeps.time rfl
@[simp] theorem raiseSev_datum {a0 a1 a2 s} : (raiseSev a0 a1 a2 s).datum = s.datum := raiseSev_keeps.datum rfl
@[simp] theorem raiseSev_pwr {a0 a1 a2 s} : (raiseSev a0 a1 a2 s).pwr = s.pwr := raiseSev_keeps.pwr rfl
@[simp] theorem raiseSev_arch {a0 a1 a2 s} : (raiseSev a0 a1 a2 s).arch = s.arch := raiseSev_keeps.arch rfl
@[simp] theorem raiseSev_trust {a0 a1 a2 s} : (raiseSev a0 a1 a2 s).trust = s.trust := raiseSev_keeps.trust rfl
@[simp] theorem raiseSev_vault {a0 a1 a2 s} : (raiseSev a0 a1 a2 s).vault = s.vault := raiseSev_keeps.vault rfl
@[simp] theorem raiseSev_nvm {a0 a1 a2 s} : (raiseSev a0 a1 a2 s).nvm = s.nvm := raiseSev_keeps.nvm rfl
@[simp] theorem raiseSev_store {a0 a1 a2 s} : (raiseSev a0 a1 a2 s).store = s.store := raiseSev_keeps.store rfl
@[simp] theorem raiseSev_trav {a0 a1 a2 s} : (raiseSev a0 a1 a2 s).trav = s.trav := raiseSev_keeps.trav rfl
@[simp] theorem raiseSev_pair {a0 a1 a2 s} : (raiseSev a0 a1 a2 s).pair = s.pair := raiseSev_keeps.pair rfl
@[simp] theorem raiseSev_zeb {a0 a1 a2 s} : (raiseSev a0 a1 a2 s).zeb = s.zeb := raiseSev_keeps.zeb rfl
@[simp] theorem raiseSev_win {a0 a1 a2 s} : (raiseSev a0 a1 a2 s).win = s.win := raiseSev_keeps.win rfl
@[simp] theorem raiseSev_ks {a0 a1 a2 s} : (raiseSev a0 a1 a2 s).ks = s.ks := raiseSev_keeps.ks rfl
@[simp] theorem raiseSev_xp {a0 a1 a2 s} : (raiseSev a0 a1 a2 s).xp = s.xp := raiseSev_keeps.xp rfl
@[simp] theorem raiseSev_net {a0 a1 a2 s} : (raiseSev a0 a1 a2 s).net = s.net := raiseSev_keeps.net rfl
@[simp] theorem raiseSev_ciph {a0 a1 a2 s} : (raiseSev a0 a1 a2 s).ciph = s.ciph := raiseSev_keeps.ciph rfl
@[simp] theorem raiseSev_bay {a0 a1 a2 s} : (raiseSev a0 a1 a2 s).bay = s.bay := raiseSev_keeps.bay rfl
@[simp] theorem raiseSev_pending {a0 a1 a2 s} : (raiseSev a0 a1 a2 s).pending = s.pending := raiseSev_keeps.pending

@[simp] theorem raise_sels {a0 a1 s} : (raise a0 a1 s).sels = s.sels := raise_keeps.sels rfl
@[simp] theorem raise_latches {a0 a1 s} : (raise a0 a1 s).latches = s.latches := raise_keeps.latches rfl
@[simp] theorem raise_free {a0 a1 s} : (raise a0 a1 s).free = s.free := raise_keeps.free rfl
@[simp] theorem raise_time {a0 a1 s} : (raise a0 a1 s).time = s.time := raise_keeps.time rfl
@[simp] theorem raise_datum {a0 a1 s} : (raise a0 a1 s).datum = s.datum := raise_keeps.datum rfl
@[simp] theorem raise_pwr {a0 a1 s} : (raise a0 a1 s).pwr = s.pwr := raise_keeps.pwr rfl
@[simp] theorem raise_arch {a0 a1 s} : (raise a0 a1 s).arch = s.arch := raise_keeps.arch rfl
@[simp] theorem raise_trust {a0 a1 s} : (raise a0 a1 s).trust = s.trust := raise_keeps.trust rfl
@[simp] theorem raise_vault {a0 a1 s} : (raise a0 a1 s).vault = s.vault := raise_keeps.vault rfl
@[simp] theorem raise_nvm {a0 a1 s} : (raise a0 a1 s).nvm = s.nvm := raise_keeps.nvm rfl
@[simp] theorem raise_store {a0 a1 s} : (raise a0 a1 s).store = s.store := raise_keeps.store rfl
@[simp] theorem raise_trav {a0 a1 s} : (raise a0 a1 s).trav = s.trav := raise_keeps.trav rfl
@[simp] theorem raise_pair {a0 a1 s} : (raise a0 a1 s).pair = s.pair := raise_keeps.pair rfl
@[simp] theorem raise_zeb {a0 a1 s} : (raise a0 a1 s).zeb = s.zeb := raise_keeps.zeb rfl
@[simp] theorem raise_win {a0 a1 s} : (raise a0 a1 s).win = s.win := raise_keeps.win rfl
@[simp] theorem raise_ks {a0 a1 s} : (raise a0 a1 s).ks = s.ks := raise_keeps.ks rfl
@[simp] theorem raise_xp {a0 a1 s} : (raise a0 a1 s).xp = s.xp := raise_keeps.xp rfl
@[simp] theorem raise_net {a0 a1 s} : (raise a0 a1 s).net = s.net := raise_keeps.net rfl
@[simp] theorem raise_ciph {a0 a1 s} : (raise a0 a1 s).ciph = s.ciph := raise_keeps.ciph rfl
@[simp] theorem raise_bay {a0 a1 s} : (raise a0 a1 s).bay = s.bay := raise_keeps.bay rfl
@[simp] theorem raise_pending {a0 a1 s} : (raise a0 a1 s).pending = s.pending := raise_keeps.pending

@[simp] theorem setQp_regs {a0 a1 s} : (setQp a0 a1 s).regs = s.regs := setQp_keeps.regs rfl
@[simp] theorem setQp_sels {a0 a1 s} : (setQp a0 a1 s).sels = s.sels := setQp_keeps.sels rfl
@[simp] theorem setQp_latches {a0 a1 s} : (setQp a0 a1 s).latches = s.latches := setQp_keeps.latches rfl
@[simp] theorem setQp_out {a0 a1 s} : (setQp a0 a1 s).out = s.out := setQp_keeps.out rfl
@[simp] theorem setQp_free {a0 a1 s} : (setQp a0 a1 s).free = s.free := setQp_keeps.free rfl
@[simp] theorem setQp_time {a0 a1 s} : (setQp a0 a1 s).time = s.time := setQp_keeps.time rfl
@[simp] theorem setQp_evt {a0 a1 s} : (setQp a0 a1 s).evt = s.evt := setQp_keeps.evt rfl
@[simp] theorem setQp_datum {a0 a1 s} : (setQp a0 a1 s).datum = s.datum := setQp_keeps.datum rfl
@[simp] theorem setQp_pwr {a0 a1 s} : (setQp a0 a1 s).pwr = s.pwr := setQp_keeps.pwr rfl
@[simp] theorem setQp_arch {a0 a1 s} : (setQp a0 a1 s).arch = s.arch := setQp_keeps.arch rfl
@[simp] theorem setQp_trust {a0 a1 s} : (setQp a0 a1 s).trust = s.trust := setQp_keeps.trust rfl
@[simp] theorem setQp_vault {a0 a1 s} : (setQp a0 a1 s).vault = s.vault := setQp_keeps.vault rfl
@[simp] theorem setQp_nvm {a0 a1 s} : (setQp a0 a1 s).nvm = s.nvm := setQp_keeps.nvm rfl
@[simp] theorem setQp_store {a0 a1 s} : (setQp a0 a1 s).store = s.store := setQp_keeps.store rfl
@[simp] theorem setQp_trav {a0 a1 s} : (setQp a0 a1 s).trav = s.trav := setQp_keeps.trav rfl
@[simp] theorem setQp_pair {a0 a1 s} : (setQp a0 a1 s).pair = s.pair := setQp_keeps.pair rfl
@[simp] theorem setQp_zeb {a0 a1 s} : (setQp a0 a1 s).zeb = s.zeb := setQp_keeps.zeb rfl
@[simp] theorem setQp_win {a0 a1 s} : (setQp a0 a1 s).win = s.win := setQp_keeps.win rfl
@[simp] theorem setQp_ep {a0 a1 s} : (setQp a0 a1 s).ep = s.ep := setQp_keeps.ep rfl
@[simp] theorem setQp_ks {a0 a1 s} : (setQp a0 a1 s).ks = s.ks := setQp_keeps.ks rfl
@[simp] theorem setQp_net {a0 a1 s} : (setQp a0 a1 s).net = s.net := setQp_keeps.net rfl
@[simp] theorem setQp_ciph {a0 a1 s} : (setQp a0 a1 s).ciph = s.ciph := setQp_keeps.ciph rfl
@[simp] theorem setQp_bay {a0 a1 s} : (setQp a0 a1 s).bay = s.bay := setQp_keeps.bay rfl
@[simp] theorem setQp_pending {a0 a1 s} : (setQp a0 a1 s).pending = s.pending := setQp_keeps.pending

@[simp] theorem modQp_regs {a0 a1 s} : (modQp a0 a1 s).regs = s.regs := modQp_keeps.regs rfl
@[simp] theorem modQp_sels {a0 a1 s} : (modQp a0 a1 s).sels = s.sels := modQp_keeps.sels rfl
@[simp] theorem modQp_latches {a0 a1 s} : (modQp a0 a1 s).latches = s.latches := modQp_keeps.latches rfl
@[simp] theorem modQp_out {a0 a1 s} : (modQp a0 a1 s).out = s.out := modQp_keeps.out rfl
@[simp] theorem modQp_free {a0 a1 s} : (modQp a0 a1 s).free = s.free := modQp_keeps.free rfl
@[simp] theorem modQp_time {a0 a1 s} : (modQp a0 a1 s).time = s.time := modQp_keeps.time rfl
@[simp] theorem modQp_evt {a0 a1 s} : (modQp a0 a1 s).evt = s.evt := modQp_keeps.evt rfl
@[simp] theorem modQp_datum {a0 a1 s} : (modQp a0 a1 s).datum = s.datum := modQp_keeps.datum rfl
@[simp] theorem modQp_pwr {a0 a1 s} : (modQp a0 a1 s).pwr = s.pwr := modQp_keeps.pwr rfl
@[simp] theorem modQp_arch {a0 a1 s} : (modQp a0 a1 s).arch = s.arch := modQp_keeps.arch rfl
@[simp] theorem modQp_trust {a0 a1 s} : (modQp a0 a1 s).trust = s.trust := modQp_keeps.trust rfl
@[simp] theorem modQp_vault {a0 a1 s} : (modQp a0 a1 s).vault = s.vault := modQp_keeps.vault rfl
@[simp] theorem modQp_nvm {a0 a1 s} : (modQp a0 a1 s).nvm = s.nvm := modQp_keeps.nvm rfl
@[simp] theorem modQp_store {a0 a1 s} : (modQp a0 a1 s).store = s.store := modQp_keeps.store rfl
@[simp] theorem modQp_trav {a0 a1 s} : (modQp a0 a1 s).trav = s.trav := modQp_keeps.trav rfl
@[simp] theorem modQp_pair {a0 a1 s} : (modQp a0 a1 s).pair = s.pair := modQp_keeps.pair rfl
@[simp] theorem modQp_zeb {a0 a1 s} : (modQp a0 a1 s).zeb = s.zeb := modQp_keeps.zeb rfl
@[simp] theorem modQp_win {a0 a1 s} : (modQp a0 a1 s).win = s.win := modQp_keeps.win rfl
@[simp] theorem modQp_ep {a0 a1 s} : (modQp a0 a1 s).ep = s.ep := modQp_keeps.ep rfl
@[simp] theorem modQp_ks {a0 a1 s} : (modQp a0 a1 s).ks = s.ks := modQp_keeps.ks rfl
@[simp] theorem modQp_net {a0 a1 s} : (modQp a0 a1 s).net = s.net := modQp_keeps.net rfl
@[simp] theorem modQp_ciph {a0 a1 s} : (modQp a0 a1 s).ciph = s.ciph := modQp_keeps.ciph rfl
@[simp] theorem modQp_bay {a0 a1 s} : (modQp a0 a1 s).bay = s.bay := modQp_keeps.bay rfl
@[simp] theorem modQp_pending {a0 a1 s} : (modQp a0 a1 s).pending = s.pending := modQp_keeps.pending

@[simp] theorem sendMore_regs {a0 s} : (sendMore a0 s).regs = s.regs := sendMore_keeps.regs rfl
@[simp] theorem sendMore_sels {a0 s} : (sendMore a0 s).sels = s.sels := sendMore_keeps.sels rfl
@[simp] theorem sendMore_latches {a0 s} : (sendMore a0 s).latches = s.latches := sendMore_keeps.latches rfl
@[simp] theorem sendMore_free {a0 s} : (sendMore a0 s).free = s.free := sendMore_keeps.free rfl
@[simp] theorem sendMore_time {a0 s} : (sendMore a0 s).time = s.time := sendMore_keeps.time rfl
@[simp] theorem sendMore_evt {a0 s} : (sendMore a0 s).evt = s.evt := sendMore_keeps.evt rfl
@[simp] theorem sendMore_datum {a0 s} : (sendMore a0 s).datum = s.datum := sendMore_keeps.datum rfl
@[simp] theorem sendMore_pwr {a0 s} : (sendMore a0 s).pwr = s.pwr := sendMore_keeps.pwr rfl
@[simp] theorem sendMore_arch {a0 s} : (sendMore a0 s).arch = s.arch := sendMore_keeps.arch rfl
@[simp] theorem sendMore_trust {a0 s} : (sendMore a0 s).trust = s.trust := sendMore_keeps.trust rfl
@[simp] theorem sendMore_vault {a0 s} : (sendMore a0 s).vault = s.vault := sendMore_keeps.vault rfl
@[simp] theorem sendMore_nvm {a0 s} : (sendMore a0 s).nvm = s.nvm := sendMore_keeps.nvm rfl
@[simp] theorem sendMore_store {a0 s} : (sendMore a0 s).store = s.store := sendMore_keeps.store rfl
@[simp] theorem sendMore_trav {a0 s} : (sendMore a0 s).trav = s.trav := sendMore_keeps.trav rfl
@[simp] theorem sendMore_pair {a0 s} : (sendMore a0 s).pair = s.pair := sendMore_keeps.pair rfl
@[simp] theorem sendMore_zeb {a0 s} : (sendMore a0 s).zeb = s.zeb := sendMore_keeps.zeb rfl
@[simp] theorem sendMore_win {a0 s} : (sendMore a0 s).win = s.win := sendMore_keeps.win rfl
@[simp] theorem sendMore_ep {a0 s} : (sendMore a0 s).ep = s.ep := sendMore_keeps.ep rfl
@[simp] theorem sendMore_ks {a0 s} : (sendMore a0 s).ks = s.ks := sendMore_keeps.ks rfl
@[simp] theorem sendMore_net {a0 s} : (sendMore a0 s).net = s.net := sendMore_keeps.net rfl
@[simp] theorem sendMore_ciph {a0 s} : (sendMore a0 s).ciph = s.ciph := sendMore_keeps.ciph rfl
@[simp] theorem sendMore_bay {a0 s} : (sendMore a0 s).bay = s.bay := sendMore_keeps.bay rfl
@[simp] theorem sendMore_pending {a0 s} : (sendMore a0 s).pending = s.pending := sendMore_keeps.pending

@[simp] theorem respond_regs {a0 a1 a2 a3 a4 a5 a6 s} : (respond a0 a1 a2 a3 a4 a5 a6 s).regs = s.regs := respond_keeps.regs rfl
@[simp] theorem respond_sels {a0 a1 a2 a3 a4 a5 a6 s} : (respond a0 a1 a2 a3 a4 a5 a6 s).sels = s.sels := respond_keeps.sels rfl
@[simp] theorem respond_latches {a0 a1 a2 a3 a4 a5 a6 s} : (respond a0 a1 a2 a3 a4 a5 a6 s).latches = s.latches := respond_keeps.latches rfl
@[simp] theorem respond_free {a0 a1 a2 a3 a4 a5 a6 s} : (respond a0 a1 a2 a3 a4 a5 a6 s).free = s.free := respond_keeps.free rfl
@[simp] theorem respond_time {a0 a1 a2 a3 a4 a5 a6 s} : (respond a0 a1 a2 a3 a4 a5 a6 s).time = s.time := respond_keeps.time rfl
@[simp] theorem respond_evt {a0 a1 a2 a3 a4 a5 a6 s} : (respond a0 a1 a2 a3 a4 a5 a6 s).evt = s.evt := respond_keeps.evt rfl
@[simp] theorem respond_datum {a0 a1 a2 a3 a4 a5 a6 s} : (respond a0 a1 a2 a3 a4 a5 a6 s).datum = s.datum := respond_keeps.datum rfl
@[simp] theorem respond_pwr {a0 a1 a2 a3 a4 a5 a6 s} : (respond a0 a1 a2 a3 a4 a5 a6 s).pwr = s.pwr := respond_keeps.pwr rfl
@[simp] theorem respond_arch {a0 a1 a2 a3 a4 a5 a6 s} : (respond a0 a1 a2 a3 a4 a5 a6 s).arch = s.arch := respond_keeps.arch rfl
@[simp] theorem respond_trust {a0 a1 a2 a3 a4 a5 a6 s} : (respond a0 a1 a2 a3 a4 a5 a6 s).trust = s.trust := respond_keeps.trust rfl
@[simp] theorem respond_vault {a0 a1 a2 a3 a4 a5 a6 s} : (respond a0 a1 a2 a3 a4 a5 a6 s).vault = s.vault := respond_keeps.vault rfl
@[simp] theorem respond_nvm {a0 a1 a2 a3 a4 a5 a6 s} : (respond a0 a1 a2 a3 a4 a5 a6 s).nvm = s.nvm := respond_keeps.nvm rfl
@[simp] theorem respond_store {a0 a1 a2 a3 a4 a5 a6 s} : (respond a0 a1 a2 a3 a4 a5 a6 s).store = s.store := respond_keeps.store rfl
@[simp] theorem respond_trav {a0 a1 a2 a3 a4 a5 a6 s} : (respond a0 a1 a2 a3 a4 a5 a6 s).trav = s.trav := respond_keeps.trav rfl
@[simp] theorem respond_pair {a0 a1 a2 a3 a4 a5 a6 s} : (respond a0 a1 a2 a3 a4 a5 a6 s).pair = s.pair := respond_keeps.pair rfl
@[simp] theorem respond_zeb {a0 a1 a2 a3 a4 a5 a6 s} : (respond a0 a1 a2 a3 a4 a5 a6 s).zeb = s.zeb := respond_keeps.zeb rfl
@[simp] theorem respond_win {a0 a1 a2 a3 a4 a5 a6 s} : (respond a0 a1 a2 a3 a4 a5 a6 s).win = s.win := respond_keeps.win rfl
@[simp] theorem respond_ks {a0 a1 a2 a3 a4 a5 a6 s} : (respond a0 a1 a2 a3 a4 a5 a6 s).ks = s.ks := respond_keeps.ks rfl
@[simp] theorem respond_net {a0 a1 a2 a3 a4 a5 a6 s} : (respond a0 a1 a2 a3 a4 a5 a6 s).net = s.net := respond_keeps.net rfl
@[simp] theorem respond_ciph {a0 a1 a2 a3 a4 a5 a6 s} : (respond a0 a1 a2 a3 a4 a5 a6 s).ciph = s.ciph := respond_keeps.ciph rfl
@[simp] theorem respond_bay {a0 a1 a2 a3 a4 a5 a6 s} : (respond a0 a1 a2 a3 a4 a5 a6 s).bay = s.bay := respond_keeps.bay rfl
@[simp] theorem respond_pending {a0 a1 a2 a3 a4 a5 a6 s} : (respond a0 a1 a2 a3 a4 a5 a6 s).pending = s.pending := respond_keeps.pending

@[simp] theorem postNotice_regs {a0 a1 a2 s} : (postNotice a0 a1 a2 s).regs = s.regs := postNotice_keeps.regs rfl
@[simp] theorem postNotice_sels {a0 a1 a2 s} : (postNotice a0 a1 a2 s).sels = s.sels := postNotice_keeps.sels rfl
@[simp] theorem postNotice_latches {a0 a1 a2 s} : (postNotice a0 a1 a2 s).latches = s.latches := postNotice_keeps.latches rfl
@[simp] theorem postNotice_free {a0 a1 a2 s} : (postNotice a0 a1 a2 s).free = s.free := postNotice_keeps.free rfl
@[simp] theorem postNotice_time {a0 a1 a2 s} : (postNotice a0 a1 a2 s).time = s.time := postNotice_keeps.time rfl
@[simp] theorem postNotice_evt {a0 a1 a2 s} : (postNotice a0 a1 a2 s).evt = s.evt := postNotice_keeps.evt rfl
@[simp] theorem postNotice_datum {a0 a1 a2 s} : (postNotice a0 a1 a2 s).datum = s.datum := postNotice_keeps.datum rfl
@[simp] theorem postNotice_pwr {a0 a1 a2 s} : (postNotice a0 a1 a2 s).pwr = s.pwr := postNotice_keeps.pwr rfl
@[simp] theorem postNotice_arch {a0 a1 a2 s} : (postNotice a0 a1 a2 s).arch = s.arch := postNotice_keeps.arch rfl
@[simp] theorem postNotice_trust {a0 a1 a2 s} : (postNotice a0 a1 a2 s).trust = s.trust := postNotice_keeps.trust rfl
@[simp] theorem postNotice_vault {a0 a1 a2 s} : (postNotice a0 a1 a2 s).vault = s.vault := postNotice_keeps.vault rfl
@[simp] theorem postNotice_store {a0 a1 a2 s} : (postNotice a0 a1 a2 s).store = s.store := postNotice_keeps.store rfl
@[simp] theorem postNotice_trav {a0 a1 a2 s} : (postNotice a0 a1 a2 s).trav = s.trav := postNotice_keeps.trav rfl
@[simp] theorem postNotice_pair {a0 a1 a2 s} : (postNotice a0 a1 a2 s).pair = s.pair := postNotice_keeps.pair rfl
@[simp] theorem postNotice_zeb {a0 a1 a2 s} : (postNotice a0 a1 a2 s).zeb = s.zeb := postNotice_keeps.zeb rfl
@[simp] theorem postNotice_win {a0 a1 a2 s} : (postNotice a0 a1 a2 s).win = s.win := postNotice_keeps.win rfl
@[simp] theorem postNotice_ep {a0 a1 a2 s} : (postNotice a0 a1 a2 s).ep = s.ep := postNotice_keeps.ep rfl
@[simp] theorem postNotice_ks {a0 a1 a2 s} : (postNotice a0 a1 a2 s).ks = s.ks := postNotice_keeps.ks rfl
@[simp] theorem postNotice_net {a0 a1 a2 s} : (postNotice a0 a1 a2 s).net = s.net := postNotice_keeps.net rfl
@[simp] theorem postNotice_ciph {a0 a1 a2 s} : (postNotice a0 a1 a2 s).ciph = s.ciph := postNotice_keeps.ciph rfl
@[simp] theorem postNotice_bay {a0 a1 a2 s} : (postNotice a0 a1 a2 s).bay = s.bay := postNotice_keeps.bay rfl
@[simp] theorem postNotice_pending {a0 a1 a2 s} : (postNotice a0 a1 a2 s).pending = s.pending := postNotice_keeps.pending

@[simp] theorem pullHost_sels {a0 a1 a2 a3 s} : (pullHost a0 a1 a2 a3 s).sels = s.sels := pullHost_keeps.sels rfl
@[simp] theorem pullHost_latches {a0 a1 a2 a3 s} : (pullHost a0 a1 a2 a3 s).latches = s.latches := pullHost_keeps.latches rfl
@[simp] theorem pullHost_free {a0 a1 a2 a3 s} : (pullHost a0 a1 a2 a3 s).free = s.free := pullHost_keeps.free rfl
@[simp] theorem pullHost_time {a0 a1 a2 a3 s} : (pullHost a0 a1 a2 a3 s).time = s.time := pullHost_keeps.time rfl
@[simp] theorem pullHost_datum {a0 a1 a2 a3 s} : (pullHost a0 a1 a2 a3 s).datum = s.datum := pullHost_keeps.datum rfl
@[simp] theorem pullHost_pwr {a0 a1 a2 a3 s} : (pullHost a0 a1 a2 a3 s).pwr = s.pwr := pullHost_keeps.pwr rfl
@[simp] theorem pullHost_arch {a0 a1 a2 a3 s} : (pullHost a0 a1 a2 a3 s).arch = s.arch := pullHost_keeps.arch rfl
@[simp] theorem pullHost_trust {a0 a1 a2 a3 s} : (pullHost a0 a1 a2 a3 s).trust = s.trust := pullHost_keeps.trust rfl
@[simp] theorem pullHost_vault {a0 a1 a2 a3 s} : (pullHost a0 a1 a2 a3 s).vault = s.vault := pullHost_keeps.vault rfl
@[simp] theorem pullHost_nvm {a0 a1 a2 a3 s} : (pullHost a0 a1 a2 a3 s).nvm = s.nvm := pullHost_keeps.nvm rfl
@[simp] theorem pullHost_store {a0 a1 a2 a3 s} : (pullHost a0 a1 a2 a3 s).store = s.store := pullHost_keeps.store rfl
@[simp] theorem pullHost_trav {a0 a1 a2 a3 s} : (pullHost a0 a1 a2 a3 s).trav = s.trav := pullHost_keeps.trav rfl
@[simp] theorem pullHost_pair {a0 a1 a2 a3 s} : (pullHost a0 a1 a2 a3 s).pair = s.pair := pullHost_keeps.pair rfl
@[simp] theorem pullHost_zeb {a0 a1 a2 a3 s} : (pullHost a0 a1 a2 a3 s).zeb = s.zeb := pullHost_keeps.zeb rfl
@[simp] theorem pullHost_win {a0 a1 a2 a3 s} : (pullHost a0 a1 a2 a3 s).win = s.win := pullHost_keeps.win rfl
@[simp] theorem pullHost_ks {a0 a1 a2 a3 s} : (pullHost a0 a1 a2 a3 s).ks = s.ks := pullHost_keeps.ks rfl
@[simp] theorem pullHost_net {a0 a1 a2 a3 s} : (pullHost a0 a1 a2 a3 s).net = s.net := pullHost_keeps.net rfl
@[simp] theorem pullHost_ciph {a0 a1 a2 a3 s} : (pullHost a0 a1 a2 a3 s).ciph = s.ciph := pullHost_keeps.ciph rfl
@[simp] theorem pullHost_bay {a0 a1 a2 a3 s} : (pullHost a0 a1 a2 a3 s).bay = s.bay := pullHost_keeps.bay rfl
@[simp] theorem pullHost_pending {a0 a1 a2 a3 s} : (pullHost a0 a1 a2 a3 s).pending = s.pending := pullHost_keeps.pending

@[simp] theorem setFn_regs {a0 a1 s} : (setFn a0 a1 s).regs = s.regs := setFn_keeps.regs rfl
@[simp] theorem setFn_sels {a0 a1 s} : (setFn a0 a1 s).sels = s.sels := setFn_keeps.sels rfl
@[simp] theorem setFn_latches {a0 a1 s} : (setFn a0 a1 s).latches = s.latches := setFn_keeps.latches rfl
@[simp] theorem setFn_out {a0 a1 s} : (setFn a0 a1 s).out = s.out := setFn_keeps.out rfl
@[simp] theorem setFn_free {a0 a1 s} : (setFn a0 a1 s).free = s.free := setFn_keeps.free rfl
@[simp] theorem setFn_time {a0 a1 s} : (setFn a0 a1 s).time = s.time := setFn_keeps.time rfl
@[simp] theorem setFn_evt {a0 a1 s} : (setFn a0 a1 s).evt = s.evt := setFn_keeps.evt rfl
@[simp] theorem setFn_datum {a0 a1 s} : (setFn a0 a1 s).datum = s.datum := setFn_keeps.datum rfl
@[simp] theorem setFn_pwr {a0 a1 s} : (setFn a0 a1 s).pwr = s.pwr := setFn_keeps.pwr rfl
@[simp] theorem setFn_arch {a0 a1 s} : (setFn a0 a1 s).arch = s.arch := setFn_keeps.arch rfl
@[simp] theorem setFn_trust {a0 a1 s} : (setFn a0 a1 s).trust = s.trust := setFn_keeps.trust rfl
@[simp] theorem setFn_vault {a0 a1 s} : (setFn a0 a1 s).vault = s.vault := setFn_keeps.vault rfl
@[simp] theorem setFn_nvm {a0 a1 s} : (setFn a0 a1 s).nvm = s.nvm := setFn_keeps.nvm rfl
@[simp] theorem setFn_store {a0 a1 s} : (setFn a0 a1 s).store = s.store := setFn_keeps.store rfl
@[simp] theorem setFn_trav {a0 a1 s} : (setFn a0 a1 s).trav = s.trav := setFn_keeps.trav rfl
@[simp] theorem setFn_pair {a0 a1 s} : (setFn a0 a1 s).pair = s.pair := setFn_keeps.pair rfl
@[simp] theorem setFn_zeb {a0 a1 s} : (setFn a0 a1 s).zeb = s.zeb := setFn_keeps.zeb rfl
@[simp] theorem setFn_win {a0 a1 s} : (setFn a0 a1 s).win = s.win := setFn_keeps.win rfl
@[simp] theorem setFn_ks {a0 a1 s} : (setFn a0 a1 s).ks = s.ks := setFn_keeps.ks rfl
@[simp] theorem setFn_xp {a0 a1 s} : (setFn a0 a1 s).xp = s.xp := setFn_keeps.xp rfl
@[simp] theorem setFn_net {a0 a1 s} : (setFn a0 a1 s).net = s.net := setFn_keeps.net rfl
@[simp] theorem setFn_ciph {a0 a1 s} : (setFn a0 a1 s).ciph = s.ciph := setFn_keeps.ciph rfl
@[simp] theorem setFn_bay {a0 a1 s} : (setFn a0 a1 s).bay = s.bay := setFn_keeps.bay rfl
@[simp] theorem setFn_pending {a0 a1 s} : (setFn a0 a1 s).pending = s.pending := setFn_keeps.pending

@[simp] theorem setRing_regs {a0 a1 s} : (setRing a0 a1 s).regs = s.regs := setRing_keeps.regs rfl
@[simp] theorem setRing_sels {a0 a1 s} : (setRing a0 a1 s).sels = s.sels := setRing_keeps.sels rfl
@[simp] theorem setRing_latches {a0 a1 s} : (setRing a0 a1 s).latches = s.latches := setRing_keeps.latches rfl
@[simp] theorem setRing_out {a0 a1 s} : (setRing a0 a1 s).out = s.out := setRing_keeps.out rfl
@[simp] theorem setRing_free {a0 a1 s} : (setRing a0 a1 s).free = s.free := setRing_keeps.free rfl
@[simp] theorem setRing_time {a0 a1 s} : (setRing a0 a1 s).time = s.time := setRing_keeps.time rfl
@[simp] theorem setRing_evt {a0 a1 s} : (setRing a0 a1 s).evt = s.evt := setRing_keeps.evt rfl
@[simp] theorem setRing_datum {a0 a1 s} : (setRing a0 a1 s).datum = s.datum := setRing_keeps.datum rfl
@[simp] theorem setRing_pwr {a0 a1 s} : (setRing a0 a1 s).pwr = s.pwr := setRing_keeps.pwr rfl
@[simp] theorem setRing_arch {a0 a1 s} : (setRing a0 a1 s).arch = s.arch := setRing_keeps.arch rfl
@[simp] theorem setRing_trust {a0 a1 s} : (setRing a0 a1 s).trust = s.trust := setRing_keeps.trust rfl
@[simp] theorem setRing_vault {a0 a1 s} : (setRing a0 a1 s).vault = s.vault := setRing_keeps.vault rfl
@[simp] theorem setRing_nvm {a0 a1 s} : (setRing a0 a1 s).nvm = s.nvm := setRing_keeps.nvm rfl
@[simp] theorem setRing_store {a0 a1 s} : (setRing a0 a1 s).store = s.store := setRing_keeps.store rfl
@[simp] theorem setRing_trav {a0 a1 s} : (setRing a0 a1 s).trav = s.trav := setRing_keeps.trav rfl
@[simp] theorem setRing_pair {a0 a1 s} : (setRing a0 a1 s).pair = s.pair := setRing_keeps.pair rfl
@[simp] theorem setRing_zeb {a0 a1 s} : (setRing a0 a1 s).zeb = s.zeb := setRing_keeps.zeb rfl
@[simp] theorem setRing_win {a0 a1 s} : (setRing a0 a1 s).win = s.win := setRing_keeps.win rfl
@[simp] theorem setRing_ks {a0 a1 s} : (setRing a0 a1 s).ks = s.ks := setRing_keeps.ks rfl
@[simp] theorem setRing_xp {a0 a1 s} : (setRing a0 a1 s).xp = s.xp := setRing_keeps.xp rfl
@[simp] theorem setRing_net {a0 a1 s} : (setRing a0 a1 s).net = s.net := setRing_keeps.net rfl
@[simp] theorem setRing_ciph {a0 a1 s} : (setRing a0 a1 s).ciph = s.ciph := setRing_keeps.ciph rfl
@[simp] theorem setRing_bay {a0 a1 s} : (setRing a0 a1 s).bay = s.bay := setRing_keeps.bay rfl
@[simp] theorem setRing_pending {a0 a1 s} : (setRing a0 a1 s).pending = s.pending := setRing_keeps.pending

@[simp] theorem ringDone_sels {a0 a1 a2 a3 a4 a5 a6 s} : (ringDone a0 a1 a2 a3 a4 a5 a6 s).sels = s.sels := ringDone_keeps.sels rfl
@[simp] theorem ringDone_latches {a0 a1 a2 a3 a4 a5 a6 s} : (ringDone a0 a1 a2 a3 a4 a5 a6 s).latches = s.latches := ringDone_keeps.latches rfl
@[simp] theorem ringDone_free {a0 a1 a2 a3 a4 a5 a6 s} : (ringDone a0 a1 a2 a3 a4 a5 a6 s).free = s.free := ringDone_keeps.free rfl
@[simp] theorem ringDone_time {a0 a1 a2 a3 a4 a5 a6 s} : (ringDone a0 a1 a2 a3 a4 a5 a6 s).time = s.time := ringDone_keeps.time rfl
@[simp] theorem ringDone_datum {a0 a1 a2 a3 a4 a5 a6 s} : (ringDone a0 a1 a2 a3 a4 a5 a6 s).datum = s.datum := ringDone_keeps.datum rfl
@[simp] theorem ringDone_pwr {a0 a1 a2 a3 a4 a5 a6 s} : (ringDone a0 a1 a2 a3 a4 a5 a6 s).pwr = s.pwr := ringDone_keeps.pwr rfl
@[simp] theorem ringDone_arch {a0 a1 a2 a3 a4 a5 a6 s} : (ringDone a0 a1 a2 a3 a4 a5 a6 s).arch = s.arch := ringDone_keeps.arch rfl
@[simp] theorem ringDone_trust {a0 a1 a2 a3 a4 a5 a6 s} : (ringDone a0 a1 a2 a3 a4 a5 a6 s).trust = s.trust := ringDone_keeps.trust rfl
@[simp] theorem ringDone_vault {a0 a1 a2 a3 a4 a5 a6 s} : (ringDone a0 a1 a2 a3 a4 a5 a6 s).vault = s.vault := ringDone_keeps.vault rfl
@[simp] theorem ringDone_nvm {a0 a1 a2 a3 a4 a5 a6 s} : (ringDone a0 a1 a2 a3 a4 a5 a6 s).nvm = s.nvm := ringDone_keeps.nvm rfl
@[simp] theorem ringDone_store {a0 a1 a2 a3 a4 a5 a6 s} : (ringDone a0 a1 a2 a3 a4 a5 a6 s).store = s.store := ringDone_keeps.store rfl
@[simp] theorem ringDone_trav {a0 a1 a2 a3 a4 a5 a6 s} : (ringDone a0 a1 a2 a3 a4 a5 a6 s).trav = s.trav := ringDone_keeps.trav rfl
@[simp] theorem ringDone_pair {a0 a1 a2 a3 a4 a5 a6 s} : (ringDone a0 a1 a2 a3 a4 a5 a6 s).pair = s.pair := ringDone_keeps.pair rfl
@[simp] theorem ringDone_zeb {a0 a1 a2 a3 a4 a5 a6 s} : (ringDone a0 a1 a2 a3 a4 a5 a6 s).zeb = s.zeb := ringDone_keeps.zeb rfl
@[simp] theorem ringDone_win {a0 a1 a2 a3 a4 a5 a6 s} : (ringDone a0 a1 a2 a3 a4 a5 a6 s).win = s.win := ringDone_keeps.win rfl
@[simp] theorem ringDone_ks {a0 a1 a2 a3 a4 a5 a6 s} : (ringDone a0 a1 a2 a3 a4 a5 a6 s).ks = s.ks := ringDone_keeps.ks rfl
@[simp] theorem ringDone_xp {a0 a1 a2 a3 a4 a5 a6 s} : (ringDone a0 a1 a2 a3 a4 a5 a6 s).xp = s.xp := ringDone_keeps.xp rfl
@[simp] theorem ringDone_net {a0 a1 a2 a3 a4 a5 a6 s} : (ringDone a0 a1 a2 a3 a4 a5 a6 s).net = s.net := ringDone_keeps.net rfl
@[simp] theorem ringDone_ciph {a0 a1 a2 a3 a4 a5 a6 s} : (ringDone a0 a1 a2 a3 a4 a5 a6 s).ciph = s.ciph := ringDone_keeps.ciph rfl
@[simp] theorem ringDone_bay {a0 a1 a2 a3 a4 a5 a6 s} : (ringDone a0 a1 a2 a3 a4 a5 a6 s).bay = s.bay := ringDone_keeps.bay rfl
@[simp] theorem ringDone_pending {a0 a1 a2 a3 a4 a5 a6 s} : (ringDone a0 a1 a2 a3 a4 a5 a6 s).pending = s.pending := ringDone_keeps.pending

@[simp] theorem answer_sels {a0 a1 a2 a3 a4 a5 a6 s} : (answer a0 a1 a2 a3 a4 a5 a6 s).sels = s.sels := answer_keeps.sels rfl
@[simp] theorem answer_latches {a0 a1 a2 a3 a4 a5 a6 s} : (answer a0 a1 a2 a3 a4 a5 a6 s).latches = s.latches := answer_keeps.latches rfl
@[simp] theorem answer_free {a0 a1 a2 a3 a4 a5 a6 s} : (answer a0 a1 a2 a3 a4 a5 a6 s).free = s.free := answer_keeps.free rfl
@[simp] theorem answer_time {a0 a1 a2 a3 a4 a5 a6 s} : (answer a0 a1 a2 a3 a4 a5 a6 s).time = s.time := answer_keeps.time rfl
@[simp] theorem answer_datum {a0 a1 a2 a3 a4 a5 a6 s} : (answer a0 a1 a2 a3 a4 a5 a6 s).datum = s.datum := answer_keeps.datum rfl
@[simp] theorem answer_pwr {a0 a1 a2 a3 a4 a5 a6 s} : (answer a0 a1 a2 a3 a4 a5 a6 s).pwr = s.pwr := answer_keeps.pwr rfl
@[simp] theorem answer_arch {a0 a1 a2 a3 a4 a5 a6 s} : (answer a0 a1 a2 a3 a4 a5 a6 s).arch = s.arch := answer_keeps.arch rfl
@[simp] theorem answer_trust {a0 a1 a2 a3 a4 a5 a6 s} : (answer a0 a1 a2 a3 a4 a5 a6 s).trust = s.trust := answer_keeps.trust rfl
@[simp] theorem answer_vault {a0 a1 a2 a3 a4 a5 a6 s} : (answer a0 a1 a2 a3 a4 a5 a6 s).vault = s.vault := answer_keeps.vault rfl
@[simp] theorem answer_nvm {a0 a1 a2 a3 a4 a5 a6 s} : (answer a0 a1 a2 a3 a4 a5 a6 s).nvm = s.nvm := answer_keeps.nvm rfl
@[simp] theorem answer_store {a0 a1 a2 a3 a4 a5 a6 s} : (answer a0 a1 a2 a3 a4 a5 a6 s).store = s.store := answer_keeps.store rfl
@[simp] theorem answer_trav {a0 a1 a2 a3 a4 a5 a6 s} : (answer a0 a1 a2 a3 a4 a5 a6 s).trav = s.trav := answer_keeps.trav rfl
@[simp] theorem answer_pair {a0 a1 a2 a3 a4 a5 a6 s} : (answer a0 a1 a2 a3 a4 a5 a6 s).pair = s.pair := answer_keeps.pair rfl
@[simp] theorem answer_zeb {a0 a1 a2 a3 a4 a5 a6 s} : (answer a0 a1 a2 a3 a4 a5 a6 s).zeb = s.zeb := answer_keeps.zeb rfl
@[simp] theorem answer_win {a0 a1 a2 a3 a4 a5 a6 s} : (answer a0 a1 a2 a3 a4 a5 a6 s).win = s.win := answer_keeps.win rfl
@[simp] theorem answer_ks {a0 a1 a2 a3 a4 a5 a6 s} : (answer a0 a1 a2 a3 a4 a5 a6 s).ks = s.ks := answer_keeps.ks rfl
@[simp] theorem answer_net {a0 a1 a2 a3 a4 a5 a6 s} : (answer a0 a1 a2 a3 a4 a5 a6 s).net = s.net := answer_keeps.net rfl
@[simp] theorem answer_ciph {a0 a1 a2 a3 a4 a5 a6 s} : (answer a0 a1 a2 a3 a4 a5 a6 s).ciph = s.ciph := answer_keeps.ciph rfl
@[simp] theorem answer_bay {a0 a1 a2 a3 a4 a5 a6 s} : (answer a0 a1 a2 a3 a4 a5 a6 s).bay = s.bay := answer_keeps.bay rfl
@[simp] theorem answer_pending {a0 a1 a2 a3 a4 a5 a6 s} : (answer a0 a1 a2 a3 a4 a5 a6 s).pending = s.pending := answer_keeps.pending

@[simp] theorem zsend_sels {a0 s} : (zsend a0 s).sels = s.sels := zsend_keeps.sels rfl
@[simp] theorem zsend_latches {a0 s} : (zsend a0 s).latches = s.latches := zsend_keeps.latches rfl
@[simp] theorem zsend_free {a0 s} : (zsend a0 s).free = s.free := zsend_keeps.free rfl
@[simp] theorem zsend_time {a0 s} : (zsend a0 s).time = s.time := zsend_keeps.time rfl
@[simp] theorem zsend_evt {a0 s} : (zsend a0 s).evt = s.evt := zsend_keeps.evt rfl
@[simp] theorem zsend_datum {a0 s} : (zsend a0 s).datum = s.datum := zsend_keeps.datum rfl
@[simp] theorem zsend_pwr {a0 s} : (zsend a0 s).pwr = s.pwr := zsend_keeps.pwr rfl
@[simp] theorem zsend_arch {a0 s} : (zsend a0 s).arch = s.arch := zsend_keeps.arch rfl
@[simp] theorem zsend_trust {a0 s} : (zsend a0 s).trust = s.trust := zsend_keeps.trust rfl
@[simp] theorem zsend_vault {a0 s} : (zsend a0 s).vault = s.vault := zsend_keeps.vault rfl
@[simp] theorem zsend_nvm {a0 s} : (zsend a0 s).nvm = s.nvm := zsend_keeps.nvm rfl
@[simp] theorem zsend_store {a0 s} : (zsend a0 s).store = s.store := zsend_keeps.store rfl
@[simp] theorem zsend_trav {a0 s} : (zsend a0 s).trav = s.trav := zsend_keeps.trav rfl
@[simp] theorem zsend_pair {a0 s} : (zsend a0 s).pair = s.pair := zsend_keeps.pair rfl
@[simp] theorem zsend_win {a0 s} : (zsend a0 s).win = s.win := zsend_keeps.win rfl
@[simp] theorem zsend_ep {a0 s} : (zsend a0 s).ep = s.ep := zsend_keeps.ep rfl
@[simp] theorem zsend_ks {a0 s} : (zsend a0 s).ks = s.ks := zsend_keeps.ks rfl
@[simp] theorem zsend_xp {a0 s} : (zsend a0 s).xp = s.xp := zsend_keeps.xp rfl
@[simp] theorem zsend_net {a0 s} : (zsend a0 s).net = s.net := zsend_keeps.net rfl
@[simp] theorem zsend_ciph {a0 s} : (zsend a0 s).ciph = s.ciph := zsend_keeps.ciph rfl
@[simp] theorem zsend_bay {a0 s} : (zsend a0 s).bay = s.bay := zsend_keeps.bay rfl
@[simp] theorem zsend_pending {a0 s} : (zsend a0 s).pending = s.pending := zsend_keeps.pending

@[simp] theorem mseqSend_sels {a0 s} : (mseqSend a0 s).2.sels = s.sels := mseqSend_keeps.sels rfl
@[simp] theorem mseqSend_latches {a0 s} : (mseqSend a0 s).2.latches = s.latches := mseqSend_keeps.latches rfl
@[simp] theorem mseqSend_free {a0 s} : (mseqSend a0 s).2.free = s.free := mseqSend_keeps.free rfl
@[simp] theorem mseqSend_time {a0 s} : (mseqSend a0 s).2.time = s.time := mseqSend_keeps.time rfl
@[simp] theorem mseqSend_evt {a0 s} : (mseqSend a0 s).2.evt = s.evt := mseqSend_keeps.evt rfl
@[simp] theorem mseqSend_datum {a0 s} : (mseqSend a0 s).2.datum = s.datum := mseqSend_keeps.datum rfl
@[simp] theorem mseqSend_pwr {a0 s} : (mseqSend a0 s).2.pwr = s.pwr := mseqSend_keeps.pwr rfl
@[simp] theorem mseqSend_arch {a0 s} : (mseqSend a0 s).2.arch = s.arch := mseqSend_keeps.arch rfl
@[simp] theorem mseqSend_trust {a0 s} : (mseqSend a0 s).2.trust = s.trust := mseqSend_keeps.trust rfl
@[simp] theorem mseqSend_vault {a0 s} : (mseqSend a0 s).2.vault = s.vault := mseqSend_keeps.vault rfl
@[simp] theorem mseqSend_nvm {a0 s} : (mseqSend a0 s).2.nvm = s.nvm := mseqSend_keeps.nvm rfl
@[simp] theorem mseqSend_store {a0 s} : (mseqSend a0 s).2.store = s.store := mseqSend_keeps.store rfl
@[simp] theorem mseqSend_trav {a0 s} : (mseqSend a0 s).2.trav = s.trav := mseqSend_keeps.trav rfl
@[simp] theorem mseqSend_win {a0 s} : (mseqSend a0 s).2.win = s.win := mseqSend_keeps.win rfl
@[simp] theorem mseqSend_ep {a0 s} : (mseqSend a0 s).2.ep = s.ep := mseqSend_keeps.ep rfl
@[simp] theorem mseqSend_ks {a0 s} : (mseqSend a0 s).2.ks = s.ks := mseqSend_keeps.ks rfl
@[simp] theorem mseqSend_xp {a0 s} : (mseqSend a0 s).2.xp = s.xp := mseqSend_keeps.xp rfl
@[simp] theorem mseqSend_net {a0 s} : (mseqSend a0 s).2.net = s.net := mseqSend_keeps.net rfl
@[simp] theorem mseqSend_ciph {a0 s} : (mseqSend a0 s).2.ciph = s.ciph := mseqSend_keeps.ciph rfl
@[simp] theorem mseqSend_bay {a0 s} : (mseqSend a0 s).2.bay = s.bay := mseqSend_keeps.bay rfl
@[simp] theorem mseqSend_pending {a0 s} : (mseqSend a0 s).2.pending = s.pending := mseqSend_keeps.pending

@[simp] theorem mirrorNote_sels {a0 s} : (mirrorNote a0 s).sels = s.sels := mirrorNote_keeps.sels rfl
@[simp] theorem mirrorNote_latches {a0 s} : (mirrorNote a0 s).latches = s.latches := mirrorNote_keeps.latches rfl
@[simp] theorem mirrorNote_free {a0 s} : (mirrorNote a0 s).free = s.free := mirrorNote_keeps.free rfl
@[simp] theorem mirrorNote_time {a0 s} : (mirrorNote a0 s).time = s.time := mirrorNote_keeps.time rfl
@[simp] theorem mirrorNote_evt {a0 s} : (mirrorNote a0 s).evt = s.evt := mirrorNote_keeps.evt rfl
@[simp] theorem mirrorNote_datum {a0 s} : (mirrorNote a0 s).datum = s.datum := mirrorNote_keeps.datum rfl
@[simp] theorem mirrorNote_pwr {a0 s} : (mirrorNote a0 s).pwr = s.pwr := mirrorNote_keeps.pwr rfl
@[simp] theorem mirrorNote_arch {a0 s} : (mirrorNote a0 s).arch = s.arch := mirrorNote_keeps.arch rfl
@[simp] theorem mirrorNote_trust {a0 s} : (mirrorNote a0 s).trust = s.trust := mirrorNote_keeps.trust rfl
@[simp] theorem mirrorNote_vault {a0 s} : (mirrorNote a0 s).vault = s.vault := mirrorNote_keeps.vault rfl
@[simp] theorem mirrorNote_nvm {a0 s} : (mirrorNote a0 s).nvm = s.nvm := mirrorNote_keeps.nvm rfl
@[simp] theorem mirrorNote_store {a0 s} : (mirrorNote a0 s).store = s.store := mirrorNote_keeps.store rfl
@[simp] theorem mirrorNote_trav {a0 s} : (mirrorNote a0 s).trav = s.trav := mirrorNote_keeps.trav rfl
@[simp] theorem mirrorNote_win {a0 s} : (mirrorNote a0 s).win = s.win := mirrorNote_keeps.win rfl
@[simp] theorem mirrorNote_ep {a0 s} : (mirrorNote a0 s).ep = s.ep := mirrorNote_keeps.ep rfl
@[simp] theorem mirrorNote_ks {a0 s} : (mirrorNote a0 s).ks = s.ks := mirrorNote_keeps.ks rfl
@[simp] theorem mirrorNote_xp {a0 s} : (mirrorNote a0 s).xp = s.xp := mirrorNote_keeps.xp rfl
@[simp] theorem mirrorNote_net {a0 s} : (mirrorNote a0 s).net = s.net := mirrorNote_keeps.net rfl
@[simp] theorem mirrorNote_ciph {a0 s} : (mirrorNote a0 s).ciph = s.ciph := mirrorNote_keeps.ciph rfl
@[simp] theorem mirrorNote_bay {a0 s} : (mirrorNote a0 s).bay = s.bay := mirrorNote_keeps.bay rfl
@[simp] theorem mirrorNote_pending {a0 s} : (mirrorNote a0 s).pending = s.pending := mirrorNote_keeps.pending

@[simp] theorem setMember_regs {a0 a1 s} : (setMember a0 a1 s).regs = s.regs := setMember_keeps.regs rfl
@[simp] theorem setMember_sels {a0 a1 s} : (setMember a0 a1 s).sels = s.sels := setMember_keeps.sels rfl
@[simp] theorem setMember_latches {a0 a1 s} : (setMember a0 a1 s).latches = s.latches := setMember_keeps.latches rfl
@[simp] theorem setMember_out {a0 a1 s} : (setMember a0 a1 s).out = s.out := setMember_keeps.out rfl
@[simp] theorem setMember_free {a0 a1 s} : (setMember a0 a1 s).free = s.free := setMember_keeps.free rfl
@[simp] theorem setMember_time {a0 a1 s} : (setMember a0 a1 s).time = s.time := setMember_keeps.time rfl
@[simp] theorem setMember_evt {a0 a1 s} : (setMember a0 a1 s).evt = s.evt := setMember_keeps.evt rfl
@[simp] theorem setMember_datum {a0 a1 s} : (setMember a0 a1 s).datum = s.datum := setMember_keeps.datum rfl
@[simp] theorem setMember_pwr {a0 a1 s} : (setMember a0 a1 s).pwr = s.pwr := setMember_keeps.pwr rfl
@[simp] theorem setMember_arch {a0 a1 s} : (setMember a0 a1 s).arch = s.arch := setMember_keeps.arch rfl
@[simp] theorem setMember_trust {a0 a1 s} : (setMember a0 a1 s).trust = s.trust := setMember_keeps.trust rfl
@[simp] theorem setMember_vault {a0 a1 s} : (setMember a0 a1 s).vault = s.vault := setMember_keeps.vault rfl
@[simp] theorem setMember_nvm {a0 a1 s} : (setMember a0 a1 s).nvm = s.nvm := setMember_keeps.nvm rfl
@[simp] theorem setMember_trav {a0 a1 s} : (setMember a0 a1 s).trav = s.trav := setMember_keeps.trav rfl
@[simp] theorem setMember_pair {a0 a1 s} : (setMember a0 a1 s).pair = s.pair := setMember_keeps.pair rfl
@[simp] theorem setMember_zeb {a0 a1 s} : (setMember a0 a1 s).zeb = s.zeb := setMember_keeps.zeb rfl
@[simp] theorem setMember_win {a0 a1 s} : (setMember a0 a1 s).win = s.win := setMember_keeps.win rfl
@[simp] theorem setMember_ep {a0 a1 s} : (setMember a0 a1 s).ep = s.ep := setMember_keeps.ep rfl
@[simp] theorem setMember_ks {a0 a1 s} : (setMember a0 a1 s).ks = s.ks := setMember_keeps.ks rfl
@[simp] theorem setMember_xp {a0 a1 s} : (setMember a0 a1 s).xp = s.xp := setMember_keeps.xp rfl
@[simp] theorem setMember_net {a0 a1 s} : (setMember a0 a1 s).net = s.net := setMember_keeps.net rfl
@[simp] theorem setMember_ciph {a0 a1 s} : (setMember a0 a1 s).ciph = s.ciph := setMember_keeps.ciph rfl
@[simp] theorem setMember_bay {a0 a1 s} : (setMember a0 a1 s).bay = s.bay := setMember_keeps.bay rfl
@[simp] theorem setMember_pending {a0 a1 s} : (setMember a0 a1 s).pending = s.pending := setMember_keeps.pending

@[simp] theorem modNs_regs {a0 a1 s} : (modNs a0 a1 s).regs = s.regs := modNs_keeps.regs rfl
@[simp] theorem modNs_sels {a0 a1 s} : (modNs a0 a1 s).sels = s.sels := modNs_keeps.sels rfl
@[simp] theorem modNs_latches {a0 a1 s} : (modNs a0 a1 s).latches = s.latches := modNs_keeps.latches rfl
@[simp] theorem modNs_out {a0 a1 s} : (modNs a0 a1 s).out = s.out := modNs_keeps.out rfl
@[simp] theorem modNs_free {a0 a1 s} : (modNs a0 a1 s).free = s.free := modNs_keeps.free rfl
@[simp] theorem modNs_time {a0 a1 s} : (modNs a0 a1 s).time = s.time := modNs_keeps.time rfl
@[simp] theorem modNs_evt {a0 a1 s} : (modNs a0 a1 s).evt = s.evt := modNs_keeps.evt rfl
@[simp] theorem modNs_datum {a0 a1 s} : (modNs a0 a1 s).datum = s.datum := modNs_keeps.datum rfl
@[simp] theorem modNs_pwr {a0 a1 s} : (modNs a0 a1 s).pwr = s.pwr := modNs_keeps.pwr rfl
@[simp] theorem modNs_arch {a0 a1 s} : (modNs a0 a1 s).arch = s.arch := modNs_keeps.arch rfl
@[simp] theorem modNs_trust {a0 a1 s} : (modNs a0 a1 s).trust = s.trust := modNs_keeps.trust rfl
@[simp] theorem modNs_vault {a0 a1 s} : (modNs a0 a1 s).vault = s.vault := modNs_keeps.vault rfl
@[simp] theorem modNs_store {a0 a1 s} : (modNs a0 a1 s).store = s.store := modNs_keeps.store rfl
@[simp] theorem modNs_trav {a0 a1 s} : (modNs a0 a1 s).trav = s.trav := modNs_keeps.trav rfl
@[simp] theorem modNs_pair {a0 a1 s} : (modNs a0 a1 s).pair = s.pair := modNs_keeps.pair rfl
@[simp] theorem modNs_zeb {a0 a1 s} : (modNs a0 a1 s).zeb = s.zeb := modNs_keeps.zeb rfl
@[simp] theorem modNs_win {a0 a1 s} : (modNs a0 a1 s).win = s.win := modNs_keeps.win rfl
@[simp] theorem modNs_ep {a0 a1 s} : (modNs a0 a1 s).ep = s.ep := modNs_keeps.ep rfl
@[simp] theorem modNs_ks {a0 a1 s} : (modNs a0 a1 s).ks = s.ks := modNs_keeps.ks rfl
@[simp] theorem modNs_xp {a0 a1 s} : (modNs a0 a1 s).xp = s.xp := modNs_keeps.xp rfl
@[simp] theorem modNs_net {a0 a1 s} : (modNs a0 a1 s).net = s.net := modNs_keeps.net rfl
@[simp] theorem modNs_ciph {a0 a1 s} : (modNs a0 a1 s).ciph = s.ciph := modNs_keeps.ciph rfl
@[simp] theorem modNs_bay {a0 a1 s} : (modNs a0 a1 s).bay = s.bay := modNs_keeps.bay rfl
@[simp] theorem modNs_pending {a0 a1 s} : (modNs a0 a1 s).pending = s.pending := modNs_keeps.pending

@[simp] theorem setEnt_sels {a0 a1 s} : (setEnt a0 a1 s).sels = s.sels := setEnt_keeps.sels rfl
@[simp] theorem setEnt_latches {a0 a1 s} : (setEnt a0 a1 s).latches = s.latches := setEnt_keeps.latches rfl
@[simp] theorem setEnt_free {a0 a1 s} : (setEnt a0 a1 s).free = s.free := setEnt_keeps.free rfl
@[simp] theorem setEnt_time {a0 a1 s} : (setEnt a0 a1 s).time = s.time := setEnt_keeps.time rfl
@[simp] theorem setEnt_evt {a0 a1 s} : (setEnt a0 a1 s).evt = s.evt := setEnt_keeps.evt rfl
@[simp] theorem setEnt_datum {a0 a1 s} : (setEnt a0 a1 s).datum = s.datum := setEnt_keeps.datum rfl
@[simp] theorem setEnt_pwr {a0 a1 s} : (setEnt a0 a1 s).pwr = s.pwr := setEnt_keeps.pwr rfl
@[simp] theorem setEnt_arch {a0 a1 s} : (setEnt a0 a1 s).arch = s.arch := setEnt_keeps.arch rfl
@[simp] theorem setEnt_trust {a0 a1 s} : (setEnt a0 a1 s).trust = s.trust := setEnt_keeps.trust rfl
@[simp] theorem setEnt_vault {a0 a1 s} : (setEnt a0 a1 s).vault = s.vault := setEnt_keeps.vault rfl
@[simp] theorem setEnt_nvm {a0 a1 s} : (setEnt a0 a1 s).nvm = s.nvm := setEnt_keeps.nvm rfl
@[simp] theorem setEnt_trav {a0 a1 s} : (setEnt a0 a1 s).trav = s.trav := setEnt_keeps.trav rfl
@[simp] theorem setEnt_win {a0 a1 s} : (setEnt a0 a1 s).win = s.win := setEnt_keeps.win rfl
@[simp] theorem setEnt_ep {a0 a1 s} : (setEnt a0 a1 s).ep = s.ep := setEnt_keeps.ep rfl
@[simp] theorem setEnt_ks {a0 a1 s} : (setEnt a0 a1 s).ks = s.ks := setEnt_keeps.ks rfl
@[simp] theorem setEnt_xp {a0 a1 s} : (setEnt a0 a1 s).xp = s.xp := setEnt_keeps.xp rfl
@[simp] theorem setEnt_net {a0 a1 s} : (setEnt a0 a1 s).net = s.net := setEnt_keeps.net rfl
@[simp] theorem setEnt_ciph {a0 a1 s} : (setEnt a0 a1 s).ciph = s.ciph := setEnt_keeps.ciph rfl
@[simp] theorem setEnt_bay {a0 a1 s} : (setEnt a0 a1 s).bay = s.bay := setEnt_keeps.bay rfl
@[simp] theorem setEnt_pending {a0 a1 s} : (setEnt a0 a1 s).pending = s.pending := setEnt_keeps.pending

@[simp] theorem issue_sels {a0 a1 a2 a3 a4 a5 a6 s} : (issue a0 a1 a2 a3 a4 a5 a6 s).sels = s.sels := issue_keeps.sels rfl
@[simp] theorem issue_latches {a0 a1 a2 a3 a4 a5 a6 s} : (issue a0 a1 a2 a3 a4 a5 a6 s).latches = s.latches := issue_keeps.latches rfl
@[simp] theorem issue_free {a0 a1 a2 a3 a4 a5 a6 s} : (issue a0 a1 a2 a3 a4 a5 a6 s).free = s.free := issue_keeps.free rfl
@[simp] theorem issue_time {a0 a1 a2 a3 a4 a5 a6 s} : (issue a0 a1 a2 a3 a4 a5 a6 s).time = s.time := issue_keeps.time rfl
@[simp] theorem issue_evt {a0 a1 a2 a3 a4 a5 a6 s} : (issue a0 a1 a2 a3 a4 a5 a6 s).evt = s.evt := issue_keeps.evt rfl
@[simp] theorem issue_datum {a0 a1 a2 a3 a4 a5 a6 s} : (issue a0 a1 a2 a3 a4 a5 a6 s).datum = s.datum := issue_keeps.datum rfl
@[simp] theorem issue_pwr {a0 a1 a2 a3 a4 a5 a6 s} : (issue a0 a1 a2 a3 a4 a5 a6 s).pwr = s.pwr := issue_keeps.pwr rfl
@[simp] theorem issue_arch {a0 a1 a2 a3 a4 a5 a6 s} : (issue a0 a1 a2 a3 a4 a5 a6 s).arch = s.arch := issue_keeps.arch rfl
@[simp] theorem issue_trust {a0 a1 a2 a3 a4 a5 a6 s} : (issue a0 a1 a2 a3 a4 a5 a6 s).trust = s.trust := issue_keeps.trust rfl
@[simp] theorem issue_vault {a0 a1 a2 a3 a4 a5 a6 s} : (issue a0 a1 a2 a3 a4 a5 a6 s).vault = s.vault := issue_keeps.vault rfl
@[simp] theorem issue_nvm {a0 a1 a2 a3 a4 a5 a6 s} : (issue a0 a1 a2 a3 a4 a5 a6 s).nvm = s.nvm := issue_keeps.nvm rfl
@[simp] theorem issue_trav {a0 a1 a2 a3 a4 a5 a6 s} : (issue a0 a1 a2 a3 a4 a5 a6 s).trav = s.trav := issue_keeps.trav rfl
@[simp] theorem issue_pair {a0 a1 a2 a3 a4 a5 a6 s} : (issue a0 a1 a2 a3 a4 a5 a6 s).pair = s.pair := issue_keeps.pair rfl
@[simp] theorem issue_win {a0 a1 a2 a3 a4 a5 a6 s} : (issue a0 a1 a2 a3 a4 a5 a6 s).win = s.win := issue_keeps.win rfl
@[simp] theorem issue_ep {a0 a1 a2 a3 a4 a5 a6 s} : (issue a0 a1 a2 a3 a4 a5 a6 s).ep = s.ep := issue_keeps.ep rfl
@[simp] theorem issue_ks {a0 a1 a2 a3 a4 a5 a6 s} : (issue a0 a1 a2 a3 a4 a5 a6 s).ks = s.ks := issue_keeps.ks rfl
@[simp] theorem issue_xp {a0 a1 a2 a3 a4 a5 a6 s} : (issue a0 a1 a2 a3 a4 a5 a6 s).xp = s.xp := issue_keeps.xp rfl
@[simp] theorem issue_net {a0 a1 a2 a3 a4 a5 a6 s} : (issue a0 a1 a2 a3 a4 a5 a6 s).net = s.net := issue_keeps.net rfl
@[simp] theorem issue_ciph {a0 a1 a2 a3 a4 a5 a6 s} : (issue a0 a1 a2 a3 a4 a5 a6 s).ciph = s.ciph := issue_keeps.ciph rfl
@[simp] theorem issue_pending {a0 a1 a2 a3 a4 a5 a6 s} : (issue a0 a1 a2 a3 a4 a5 a6 s).pending = s.pending := issue_keeps.pending

@[simp] theorem opened_sels {a0 a1 s} : (opened a0 a1 s).sels = s.sels := opened_keeps.sels rfl
@[simp] theorem opened_latches {a0 a1 s} : (opened a0 a1 s).latches = s.latches := opened_keeps.latches rfl
@[simp] theorem opened_out {a0 a1 s} : (opened a0 a1 s).out = s.out := opened_keeps.out rfl
@[simp] theorem opened_free {a0 a1 s} : (opened a0 a1 s).free = s.free := opened_keeps.free rfl
@[simp] theorem opened_time {a0 a1 s} : (opened a0 a1 s).time = s.time := opened_keeps.time rfl
@[simp] theorem opened_evt {a0 a1 s} : (opened a0 a1 s).evt = s.evt := opened_keeps.evt rfl
@[simp] theorem opened_datum {a0 a1 s} : (opened a0 a1 s).datum = s.datum := opened_keeps.datum rfl
@[simp] theorem opened_pwr {a0 a1 s} : (opened a0 a1 s).pwr = s.pwr := opened_keeps.pwr rfl
@[simp] theorem opened_arch {a0 a1 s} : (opened a0 a1 s).arch = s.arch := opened_keeps.arch rfl
@[simp] theorem opened_trust {a0 a1 s} : (opened a0 a1 s).trust = s.trust := opened_keeps.trust rfl
@[simp] theorem opened_vault {a0 a1 s} : (opened a0 a1 s).vault = s.vault := opened_keeps.vault rfl
@[simp] theorem opened_nvm {a0 a1 s} : (opened a0 a1 s).nvm = s.nvm := opened_keeps.nvm rfl
@[simp] theorem opened_store {a0 a1 s} : (opened a0 a1 s).store = s.store := opened_keeps.store rfl
@[simp] theorem opened_trav {a0 a1 s} : (opened a0 a1 s).trav = s.trav := opened_keeps.trav rfl
@[simp] theorem opened_pair {a0 a1 s} : (opened a0 a1 s).pair = s.pair := opened_keeps.pair rfl
@[simp] theorem opened_zeb {a0 a1 s} : (opened a0 a1 s).zeb = s.zeb := opened_keeps.zeb rfl
@[simp] theorem opened_win {a0 a1 s} : (opened a0 a1 s).win = s.win := opened_keeps.win rfl
@[simp] theorem opened_ep {a0 a1 s} : (opened a0 a1 s).ep = s.ep := opened_keeps.ep rfl
@[simp] theorem opened_ks {a0 a1 s} : (opened a0 a1 s).ks = s.ks := opened_keeps.ks rfl
@[simp] theorem opened_xp {a0 a1 s} : (opened a0 a1 s).xp = s.xp := opened_keeps.xp rfl
@[simp] theorem opened_net {a0 a1 s} : (opened a0 a1 s).net = s.net := opened_keeps.net rfl
@[simp] theorem opened_ciph {a0 a1 s} : (opened a0 a1 s).ciph = s.ciph := opened_keeps.ciph rfl
@[simp] theorem opened_bay {a0 a1 s} : (opened a0 a1 s).bay = s.bay := opened_keeps.bay rfl
@[simp] theorem opened_pending {a0 a1 s} : (opened a0 a1 s).pending = s.pending := opened_keeps.pending

@[simp] theorem issueSealed_sels {a0 a1 a2 a3 a4 a5 s} : (issueSealed a0 a1 a2 a3 a4 a5 s).sels = s.sels := issueSealed_keeps.sels rfl
@[simp] theorem issueSealed_latches {a0 a1 a2 a3 a4 a5 s} : (issueSealed a0 a1 a2 a3 a4 a5 s).latches = s.latches := issueSealed_keeps.latches rfl
@[simp] theorem issueSealed_free {a0 a1 a2 a3 a4 a5 s} : (issueSealed a0 a1 a2 a3 a4 a5 s).free = s.free := issueSealed_keeps.free rfl
@[simp] theorem issueSealed_time {a0 a1 a2 a3 a4 a5 s} : (issueSealed a0 a1 a2 a3 a4 a5 s).time = s.time := issueSealed_keeps.time rfl
@[simp] theorem issueSealed_evt {a0 a1 a2 a3 a4 a5 s} : (issueSealed a0 a1 a2 a3 a4 a5 s).evt = s.evt := issueSealed_keeps.evt rfl
@[simp] theorem issueSealed_datum {a0 a1 a2 a3 a4 a5 s} : (issueSealed a0 a1 a2 a3 a4 a5 s).datum = s.datum := issueSealed_keeps.datum rfl
@[simp] theorem issueSealed_pwr {a0 a1 a2 a3 a4 a5 s} : (issueSealed a0 a1 a2 a3 a4 a5 s).pwr = s.pwr := issueSealed_keeps.pwr rfl
@[simp] theorem issueSealed_arch {a0 a1 a2 a3 a4 a5 s} : (issueSealed a0 a1 a2 a3 a4 a5 s).arch = s.arch := issueSealed_keeps.arch rfl
@[simp] theorem issueSealed_trust {a0 a1 a2 a3 a4 a5 s} : (issueSealed a0 a1 a2 a3 a4 a5 s).trust = s.trust := issueSealed_keeps.trust rfl
@[simp] theorem issueSealed_vault {a0 a1 a2 a3 a4 a5 s} : (issueSealed a0 a1 a2 a3 a4 a5 s).vault = s.vault := issueSealed_keeps.vault rfl
@[simp] theorem issueSealed_nvm {a0 a1 a2 a3 a4 a5 s} : (issueSealed a0 a1 a2 a3 a4 a5 s).nvm = s.nvm := issueSealed_keeps.nvm rfl
@[simp] theorem issueSealed_trav {a0 a1 a2 a3 a4 a5 s} : (issueSealed a0 a1 a2 a3 a4 a5 s).trav = s.trav := issueSealed_keeps.trav rfl
@[simp] theorem issueSealed_pair {a0 a1 a2 a3 a4 a5 s} : (issueSealed a0 a1 a2 a3 a4 a5 s).pair = s.pair := issueSealed_keeps.pair rfl
@[simp] theorem issueSealed_win {a0 a1 a2 a3 a4 a5 s} : (issueSealed a0 a1 a2 a3 a4 a5 s).win = s.win := issueSealed_keeps.win rfl
@[simp] theorem issueSealed_ep {a0 a1 a2 a3 a4 a5 s} : (issueSealed a0 a1 a2 a3 a4 a5 s).ep = s.ep := issueSealed_keeps.ep rfl
@[simp] theorem issueSealed_ks {a0 a1 a2 a3 a4 a5 s} : (issueSealed a0 a1 a2 a3 a4 a5 s).ks = s.ks := issueSealed_keeps.ks rfl
@[simp] theorem issueSealed_xp {a0 a1 a2 a3 a4 a5 s} : (issueSealed a0 a1 a2 a3 a4 a5 s).xp = s.xp := issueSealed_keeps.xp rfl
@[simp] theorem issueSealed_net {a0 a1 a2 a3 a4 a5 s} : (issueSealed a0 a1 a2 a3 a4 a5 s).net = s.net := issueSealed_keeps.net rfl
@[simp] theorem issueSealed_ciph {a0 a1 a2 a3 a4 a5 s} : (issueSealed a0 a1 a2 a3 a4 a5 s).ciph = s.ciph := issueSealed_keeps.ciph rfl
@[simp] theorem issueSealed_pending {a0 a1 a2 a3 a4 a5 s} : (issueSealed a0 a1 a2 a3 a4 a5 s).pending = s.pending := issueSealed_keeps.pending

@[simp] theorem issueSys_sels {a0 a1 a2 s} : (issueSys a0 a1 a2 s).sels = s.sels := issueSys_keeps.sels rfl
@[simp] theorem issueSys_latches {a0 a1 a2 s} : (issueSys a0 a1 a2 s).latches = s.latches := issueSys_keeps.latches rfl
@[simp] theorem issueSys_free {a0 a1 a2 s} : (issueSys a0 a1 a2 s).free = s.free := issueSys_keeps.free rfl
@[simp] theorem issueSys_time {a0 a1 a2 s} : (issueSys a0 a1 a2 s).time = s.time := issueSys_keeps.time rfl
@[simp] theorem issueSys_evt {a0 a1 a2 s} : (issueSys a0 a1 a2 s).evt = s.evt := issueSys_keeps.evt rfl
@[simp] theorem issueSys_datum {a0 a1 a2 s} : (issueSys a0 a1 a2 s).datum = s.datum := issueSys_keeps.datum rfl
@[simp] theorem issueSys_pwr {a0 a1 a2 s} : (issueSys a0 a1 a2 s).pwr = s.pwr := issueSys_keeps.pwr rfl
@[simp] theorem issueSys_arch {a0 a1 a2 s} : (issueSys a0 a1 a2 s).arch = s.arch := issueSys_keeps.arch rfl
@[simp] theorem issueSys_trust {a0 a1 a2 s} : (issueSys a0 a1 a2 s).trust = s.trust := issueSys_keeps.trust rfl
@[simp] theorem issueSys_vault {a0 a1 a2 s} : (issueSys a0 a1 a2 s).vault = s.vault := issueSys_keeps.vault rfl
@[simp] theorem issueSys_nvm {a0 a1 a2 s} : (issueSys a0 a1 a2 s).nvm = s.nvm := issueSys_keeps.nvm rfl
@[simp] theorem issueSys_trav {a0 a1 a2 s} : (issueSys a0 a1 a2 s).trav = s.trav := issueSys_keeps.trav rfl
@[simp] theorem issueSys_pair {a0 a1 a2 s} : (issueSys a0 a1 a2 s).pair = s.pair := issueSys_keeps.pair rfl
@[simp] theorem issueSys_win {a0 a1 a2 s} : (issueSys a0 a1 a2 s).win = s.win := issueSys_keeps.win rfl
@[simp] theorem issueSys_ep {a0 a1 a2 s} : (issueSys a0 a1 a2 s).ep = s.ep := issueSys_keeps.ep rfl
@[simp] theorem issueSys_ks {a0 a1 a2 s} : (issueSys a0 a1 a2 s).ks = s.ks := issueSys_keeps.ks rfl
@[simp] theorem issueSys_xp {a0 a1 a2 s} : (issueSys a0 a1 a2 s).xp = s.xp := issueSys_keeps.xp rfl
@[simp] theorem issueSys_net {a0 a1 a2 s} : (issueSys a0 a1 a2 s).net = s.net := issueSys_keeps.net rfl
@[simp] theorem issueSys_ciph {a0 a1 a2 s} : (issueSys a0 a1 a2 s).ciph = s.ciph := issueSys_keeps.ciph rfl
@[simp] theorem issueSys_pending {a0 a1 a2 s} : (issueSys a0 a1 a2 s).pending = s.pending := issueSys_keeps.pending

@[simp] theorem issueOp_regs {a0 a1 a2 s} : (issueOp a0 a1 a2 s).regs = s.regs := issueOp_keeps.regs rfl
@[simp] theorem issueOp_sels {a0 a1 a2 s} : (issueOp a0 a1 a2 s).sels = s.sels := issueOp_keeps.sels rfl
@[simp] theorem issueOp_latches {a0 a1 a2 s} : (issueOp a0 a1 a2 s).latches = s.latches := issueOp_keeps.latches rfl
@[simp] theorem issueOp_free {a0 a1 a2 s} : (issueOp a0 a1 a2 s).free = s.free := issueOp_keeps.free rfl
@[simp] theorem issueOp_time {a0 a1 a2 s} : (issueOp a0 a1 a2 s).time = s.time := issueOp_keeps.time rfl
@[simp] theorem issueOp_evt {a0 a1 a2 s} : (issueOp a0 a1 a2 s).evt = s.evt := issueOp_keeps.evt rfl
@[simp] theorem issueOp_datum {a0 a1 a2 s} : (issueOp a0 a1 a2 s).datum = s.datum := issueOp_keeps.datum rfl
@[simp] theorem issueOp_pwr {a0 a1 a2 s} : (issueOp a0 a1 a2 s).pwr = s.pwr := issueOp_keeps.pwr rfl
@[simp] theorem issueOp_arch {a0 a1 a2 s} : (issueOp a0 a1 a2 s).arch = s.arch := issueOp_keeps.arch rfl
@[simp] theorem issueOp_trust {a0 a1 a2 s} : (issueOp a0 a1 a2 s).trust = s.trust := issueOp_keeps.trust rfl
@[simp] theorem issueOp_vault {a0 a1 a2 s} : (issueOp a0 a1 a2 s).vault = s.vault := issueOp_keeps.vault rfl
@[simp] theorem issueOp_nvm {a0 a1 a2 s} : (issueOp a0 a1 a2 s).nvm = s.nvm := issueOp_keeps.nvm rfl
@[simp] theorem issueOp_trav {a0 a1 a2 s} : (issueOp a0 a1 a2 s).trav = s.trav := issueOp_keeps.trav rfl
@[simp] theorem issueOp_pair {a0 a1 a2 s} : (issueOp a0 a1 a2 s).pair = s.pair := issueOp_keeps.pair rfl
@[simp] theorem issueOp_zeb {a0 a1 a2 s} : (issueOp a0 a1 a2 s).zeb = s.zeb := issueOp_keeps.zeb rfl
@[simp] theorem issueOp_win {a0 a1 a2 s} : (issueOp a0 a1 a2 s).win = s.win := issueOp_keeps.win rfl
@[simp] theorem issueOp_ep {a0 a1 a2 s} : (issueOp a0 a1 a2 s).ep = s.ep := issueOp_keeps.ep rfl
@[simp] theorem issueOp_ks {a0 a1 a2 s} : (issueOp a0 a1 a2 s).ks = s.ks := issueOp_keeps.ks rfl
@[simp] theorem issueOp_xp {a0 a1 a2 s} : (issueOp a0 a1 a2 s).xp = s.xp := issueOp_keeps.xp rfl
@[simp] theorem issueOp_net {a0 a1 a2 s} : (issueOp a0 a1 a2 s).net = s.net := issueOp_keeps.net rfl
@[simp] theorem issueOp_ciph {a0 a1 a2 s} : (issueOp a0 a1 a2 s).ciph = s.ciph := issueOp_keeps.ciph rfl
@[simp] theorem issueOp_pending {a0 a1 a2 s} : (issueOp a0 a1 a2 s).pending = s.pending := issueOp_keeps.pending

@[simp] theorem journalAdd_sels {a0 a1 s} : (journalAdd a0 a1 s).2.sels = s.sels := journalAdd_keeps.sels rfl
@[simp] theorem journalAdd_latches {a0 a1 s} : (journalAdd a0 a1 s).2.latches = s.latches := journalAdd_keeps.latches rfl
@[simp] theorem journalAdd_free {a0 a1 s} : (journalAdd a0 a1 s).2.free = s.free := journalAdd_keeps.free rfl
@[simp] theorem journalAdd_time {a0 a1 s} : (journalAdd a0 a1 s).2.time = s.time := journalAdd_keeps.time rfl
@[simp] theorem journalAdd_evt {a0 a1 s} : (journalAdd a0 a1 s).2.evt = s.evt := journalAdd_keeps.evt rfl
@[simp] theorem journalAdd_datum {a0 a1 s} : (journalAdd a0 a1 s).2.datum = s.datum := journalAdd_keeps.datum rfl
@[simp] theorem journalAdd_pwr {a0 a1 s} : (journalAdd a0 a1 s).2.pwr = s.pwr := journalAdd_keeps.pwr rfl
@[simp] theorem journalAdd_arch {a0 a1 s} : (journalAdd a0 a1 s).2.arch = s.arch := journalAdd_keeps.arch rfl
@[simp] theorem journalAdd_trust {a0 a1 s} : (journalAdd a0 a1 s).2.trust = s.trust := journalAdd_keeps.trust rfl
@[simp] theorem journalAdd_vault {a0 a1 s} : (journalAdd a0 a1 s).2.vault = s.vault := journalAdd_keeps.vault rfl
@[simp] theorem journalAdd_nvm {a0 a1 s} : (journalAdd a0 a1 s).2.nvm = s.nvm := journalAdd_keeps.nvm rfl
@[simp] theorem journalAdd_trav {a0 a1 s} : (journalAdd a0 a1 s).2.trav = s.trav := journalAdd_keeps.trav rfl
@[simp] theorem journalAdd_win {a0 a1 s} : (journalAdd a0 a1 s).2.win = s.win := journalAdd_keeps.win rfl
@[simp] theorem journalAdd_ep {a0 a1 s} : (journalAdd a0 a1 s).2.ep = s.ep := journalAdd_keeps.ep rfl
@[simp] theorem journalAdd_ks {a0 a1 s} : (journalAdd a0 a1 s).2.ks = s.ks := journalAdd_keeps.ks rfl
@[simp] theorem journalAdd_xp {a0 a1 s} : (journalAdd a0 a1 s).2.xp = s.xp := journalAdd_keeps.xp rfl
@[simp] theorem journalAdd_net {a0 a1 s} : (journalAdd a0 a1 s).2.net = s.net := journalAdd_keeps.net rfl
@[simp] theorem journalAdd_ciph {a0 a1 s} : (journalAdd a0 a1 s).2.ciph = s.ciph := journalAdd_keeps.ciph rfl
@[simp] theorem journalAdd_pending {a0 a1 s} : (journalAdd a0 a1 s).2.pending = s.pending := journalAdd_keeps.pending

@[simp] theorem journalRetire_sels {a0 s} : (journalRetire a0 s).sels = s.sels := journalRetire_keeps.sels rfl
@[simp] theorem journalRetire_latches {a0 s} : (journalRetire a0 s).latches = s.latches := journalRetire_keeps.latches rfl
@[simp] theorem journalRetire_free {a0 s} : (journalRetire a0 s).free = s.free := journalRetire_keeps.free rfl
@[simp] theorem journalRetire_time {a0 s} : (journalRetire a0 s).time = s.time := journalRetire_keeps.time rfl
@[simp] theorem journalRetire_evt {a0 s} : (journalRetire a0 s).evt = s.evt := journalRetire_keeps.evt rfl
@[simp] theorem journalRetire_datum {a0 s} : (journalRetire a0 s).datum = s.datum := journalRetire_keeps.datum rfl
@[simp] theorem journalRetire_pwr {a0 s} : (journalRetire a0 s).pwr = s.pwr := journalRetire_keeps.pwr rfl
@[simp] theorem journalRetire_arch {a0 s} : (journalRetire a0 s).arch = s.arch := journalRetire_keeps.arch rfl
@[simp] theorem journalRetire_trust {a0 s} : (journalRetire a0 s).trust = s.trust := journalRetire_keeps.trust rfl
@[simp] theorem journalRetire_vault {a0 s} : (journalRetire a0 s).vault = s.vault := journalRetire_keeps.vault rfl
@[simp] theorem journalRetire_nvm {a0 s} : (journalRetire a0 s).nvm = s.nvm := journalRetire_keeps.nvm rfl
@[simp] theorem journalRetire_trav {a0 s} : (journalRetire a0 s).trav = s.trav := journalRetire_keeps.trav rfl
@[simp] theorem journalRetire_win {a0 s} : (journalRetire a0 s).win = s.win := journalRetire_keeps.win rfl
@[simp] theorem journalRetire_ep {a0 s} : (journalRetire a0 s).ep = s.ep := journalRetire_keeps.ep rfl
@[simp] theorem journalRetire_ks {a0 s} : (journalRetire a0 s).ks = s.ks := journalRetire_keeps.ks rfl
@[simp] theorem journalRetire_xp {a0 s} : (journalRetire a0 s).xp = s.xp := journalRetire_keeps.xp rfl
@[simp] theorem journalRetire_net {a0 s} : (journalRetire a0 s).net = s.net := journalRetire_keeps.net rfl
@[simp] theorem journalRetire_ciph {a0 s} : (journalRetire a0 s).ciph = s.ciph := journalRetire_keeps.ciph rfl
@[simp] theorem journalRetire_pending {a0 s} : (journalRetire a0 s).pending = s.pending := journalRetire_keeps.pending

@[simp] theorem persist_sels {a0 a1 s} : (persist a0 a1 s).sels = s.sels := persist_keeps.sels rfl
@[simp] theorem persist_latches {a0 a1 s} : (persist a0 a1 s).latches = s.latches := persist_keeps.latches rfl
@[simp] theorem persist_free {a0 a1 s} : (persist a0 a1 s).free = s.free := persist_keeps.free rfl
@[simp] theorem persist_time {a0 a1 s} : (persist a0 a1 s).time = s.time := persist_keeps.time rfl
@[simp] theorem persist_evt {a0 a1 s} : (persist a0 a1 s).evt = s.evt := persist_keeps.evt rfl
@[simp] theorem persist_datum {a0 a1 s} : (persist a0 a1 s).datum = s.datum := persist_keeps.datum rfl
@[simp] theorem persist_pwr {a0 a1 s} : (persist a0 a1 s).pwr = s.pwr := persist_keeps.pwr rfl
@[simp] theorem persist_arch {a0 a1 s} : (persist a0 a1 s).arch = s.arch := persist_keeps.arch rfl
@[simp] theorem persist_trust {a0 a1 s} : (persist a0 a1 s).trust = s.trust := persist_keeps.trust rfl
@[simp] theorem persist_vault {a0 a1 s} : (persist a0 a1 s).vault = s.vault := persist_keeps.vault rfl
@[simp] theorem persist_nvm {a0 a1 s} : (persist a0 a1 s).nvm = s.nvm := persist_keeps.nvm rfl
@[simp] theorem persist_trav {a0 a1 s} : (persist a0 a1 s).trav = s.trav := persist_keeps.trav rfl
@[simp] theorem persist_pair {a0 a1 s} : (persist a0 a1 s).pair = s.pair := persist_keeps.pair rfl
@[simp] theorem persist_win {a0 a1 s} : (persist a0 a1 s).win = s.win := persist_keeps.win rfl
@[simp] theorem persist_ep {a0 a1 s} : (persist a0 a1 s).ep = s.ep := persist_keeps.ep rfl
@[simp] theorem persist_ks {a0 a1 s} : (persist a0 a1 s).ks = s.ks := persist_keeps.ks rfl
@[simp] theorem persist_xp {a0 a1 s} : (persist a0 a1 s).xp = s.xp := persist_keeps.xp rfl
@[simp] theorem persist_net {a0 a1 s} : (persist a0 a1 s).net = s.net := persist_keeps.net rfl
@[simp] theorem persist_ciph {a0 a1 s} : (persist a0 a1 s).ciph = s.ciph := persist_keeps.ciph rfl
@[simp] theorem persist_pending {a0 a1 s} : (persist a0 a1 s).pending = s.pending := persist_keeps.pending

@[simp] theorem setKey_regs {a0 a1 a2 s} : (setKey a0 a1 a2 s).regs = s.regs := setKey_keeps.regs rfl
@[simp] theorem setKey_sels {a0 a1 a2 s} : (setKey a0 a1 a2 s).sels = s.sels := setKey_keeps.sels rfl
@[simp] theorem setKey_latches {a0 a1 a2 s} : (setKey a0 a1 a2 s).latches = s.latches := setKey_keeps.latches rfl
@[simp] theorem setKey_out {a0 a1 a2 s} : (setKey a0 a1 a2 s).out = s.out := setKey_keeps.out rfl
@[simp] theorem setKey_free {a0 a1 a2 s} : (setKey a0 a1 a2 s).free = s.free := setKey_keeps.free rfl
@[simp] theorem setKey_time {a0 a1 a2 s} : (setKey a0 a1 a2 s).time = s.time := setKey_keeps.time rfl
@[simp] theorem setKey_evt {a0 a1 a2 s} : (setKey a0 a1 a2 s).evt = s.evt := setKey_keeps.evt rfl
@[simp] theorem setKey_datum {a0 a1 a2 s} : (setKey a0 a1 a2 s).datum = s.datum := setKey_keeps.datum rfl
@[simp] theorem setKey_pwr {a0 a1 a2 s} : (setKey a0 a1 a2 s).pwr = s.pwr := setKey_keeps.pwr rfl
@[simp] theorem setKey_arch {a0 a1 a2 s} : (setKey a0 a1 a2 s).arch = s.arch := setKey_keeps.arch rfl
@[simp] theorem setKey_trust {a0 a1 a2 s} : (setKey a0 a1 a2 s).trust = s.trust := setKey_keeps.trust rfl
@[simp] theorem setKey_vault {a0 a1 a2 s} : (setKey a0 a1 a2 s).vault = s.vault := setKey_keeps.vault rfl
@[simp] theorem setKey_nvm {a0 a1 a2 s} : (setKey a0 a1 a2 s).nvm = s.nvm := setKey_keeps.nvm rfl
@[simp] theorem setKey_store {a0 a1 a2 s} : (setKey a0 a1 a2 s).store = s.store := setKey_keeps.store rfl
@[simp] theorem setKey_trav {a0 a1 a2 s} : (setKey a0 a1 a2 s).trav = s.trav := setKey_keeps.trav rfl
@[simp] theorem setKey_pair {a0 a1 a2 s} : (setKey a0 a1 a2 s).pair = s.pair := setKey_keeps.pair rfl
@[simp] theorem setKey_zeb {a0 a1 a2 s} : (setKey a0 a1 a2 s).zeb = s.zeb := setKey_keeps.zeb rfl
@[simp] theorem setKey_win {a0 a1 a2 s} : (setKey a0 a1 a2 s).win = s.win := setKey_keeps.win rfl
@[simp] theorem setKey_ep {a0 a1 a2 s} : (setKey a0 a1 a2 s).ep = s.ep := setKey_keeps.ep rfl
@[simp] theorem setKey_xp {a0 a1 a2 s} : (setKey a0 a1 a2 s).xp = s.xp := setKey_keeps.xp rfl
@[simp] theorem setKey_net {a0 a1 a2 s} : (setKey a0 a1 a2 s).net = s.net := setKey_keeps.net rfl
@[simp] theorem setKey_ciph {a0 a1 a2 s} : (setKey a0 a1 a2 s).ciph = s.ciph := setKey_keeps.ciph rfl
@[simp] theorem setKey_bay {a0 a1 a2 s} : (setKey a0 a1 a2 s).bay = s.bay := setKey_keeps.bay rfl
@[simp] theorem setKey_pending {a0 a1 a2 s} : (setKey a0 a1 a2 s).pending = s.pending := setKey_keeps.pending

@[simp] theorem keyCreate_sels {a0 a1 s} : (keyCreate a0 a1 s).sels = s.sels := keyCreate_keeps.sels rfl
@[simp] theorem keyCreate_latches {a0 a1 s} : (keyCreate a0 a1 s).latches = s.latches := keyCreate_keeps.latches rfl
@[simp] theorem keyCreate_time {a0 a1 s} : (keyCreate a0 a1 s).time = s.time := keyCreate_keeps.time rfl
@[simp] theorem keyCreate_datum {a0 a1 s} : (keyCreate a0 a1 s).datum = s.datum := keyCreate_keeps.datum rfl
@[simp] theorem keyCreate_pwr {a0 a1 s} : (keyCreate a0 a1 s).pwr = s.pwr := keyCreate_keeps.pwr rfl
@[simp] theorem keyCreate_arch {a0 a1 s} : (keyCreate a0 a1 s).arch = s.arch := keyCreate_keeps.arch rfl
@[simp] theorem keyCreate_trust {a0 a1 s} : (keyCreate a0 a1 s).trust = s.trust := keyCreate_keeps.trust rfl
@[simp] theorem keyCreate_vault {a0 a1 s} : (keyCreate a0 a1 s).vault = s.vault := keyCreate_keeps.vault rfl
@[simp] theorem keyCreate_nvm {a0 a1 s} : (keyCreate a0 a1 s).nvm = s.nvm := keyCreate_keeps.nvm rfl
@[simp] theorem keyCreate_store {a0 a1 s} : (keyCreate a0 a1 s).store = s.store := keyCreate_keeps.store rfl
@[simp] theorem keyCreate_trav {a0 a1 s} : (keyCreate a0 a1 s).trav = s.trav := keyCreate_keeps.trav rfl
@[simp] theorem keyCreate_pair {a0 a1 s} : (keyCreate a0 a1 s).pair = s.pair := keyCreate_keeps.pair rfl
@[simp] theorem keyCreate_zeb {a0 a1 s} : (keyCreate a0 a1 s).zeb = s.zeb := keyCreate_keeps.zeb rfl
@[simp] theorem keyCreate_win {a0 a1 s} : (keyCreate a0 a1 s).win = s.win := keyCreate_keeps.win rfl
@[simp] theorem keyCreate_xp {a0 a1 s} : (keyCreate a0 a1 s).xp = s.xp := keyCreate_keeps.xp rfl
@[simp] theorem keyCreate_net {a0 a1 s} : (keyCreate a0 a1 s).net = s.net := keyCreate_keeps.net rfl
@[simp] theorem keyCreate_bay {a0 a1 s} : (keyCreate a0 a1 s).bay = s.bay := keyCreate_keeps.bay rfl
@[simp] theorem keyCreate_pending {a0 a1 s} : (keyCreate a0 a1 s).pending = s.pending := keyCreate_keeps.pending

@[simp] theorem keyRetire_sels {a0 a1 s} : (keyRetire a0 a1 s).sels = s.sels := keyRetire_keeps.sels rfl
@[simp] theorem keyRetire_latches {a0 a1 s} : (keyRetire a0 a1 s).latches = s.latches := keyRetire_keeps.latches rfl
@[simp] theorem keyRetire_free {a0 a1 s} : (keyRetire a0 a1 s).free = s.free := keyRetire_keeps.free rfl
@[simp] theorem keyRetire_time {a0 a1 s} : (keyRetire a0 a1 s).time = s.time := keyRetire_keeps.time rfl
@[simp] theorem keyRetire_datum {a0 a1 s} : (keyRetire a0 a1 s).datum = s.datum := keyRetire_keeps.datum rfl
@[simp] theorem keyRetire_pwr {a0 a1 s} : (keyRetire a0 a1 s).pwr = s.pwr := keyRetire_keeps.pwr rfl
@[simp] theorem keyRetire_arch {a0 a1 s} : (keyRetire a0 a1 s).arch = s.arch := keyRetire_keeps.arch rfl
@[simp] theorem keyRetire_trust {a0 a1 s} : (keyRetire a0 a1 s).trust = s.trust := keyRetire_keeps.trust rfl
@[simp] theorem keyRetire_vault {a0 a1 s} : (keyRetire a0 a1 s).vault = s.vault := keyRetire_keeps.vault rfl
@[simp] theorem keyRetire_nvm {a0 a1 s} : (keyRetire a0 a1 s).nvm = s.nvm := keyRetire_keeps.nvm rfl
@[simp] theorem keyRetire_store {a0 a1 s} : (keyRetire a0 a1 s).store = s.store := keyRetire_keeps.store rfl
@[simp] theorem keyRetire_trav {a0 a1 s} : (keyRetire a0 a1 s).trav = s.trav := keyRetire_keeps.trav rfl
@[simp] theorem keyRetire_pair {a0 a1 s} : (keyRetire a0 a1 s).pair = s.pair := keyRetire_keeps.pair rfl
@[simp] theorem keyRetire_zeb {a0 a1 s} : (keyRetire a0 a1 s).zeb = s.zeb := keyRetire_keeps.zeb rfl
@[simp] theorem keyRetire_win {a0 a1 s} : (keyRetire a0 a1 s).win = s.win := keyRetire_keeps.win rfl
@[simp] theorem keyRetire_xp {a0 a1 s} : (keyRetire a0 a1 s).xp = s.xp := keyRetire_keeps.xp rfl
@[simp] theorem keyRetire_net {a0 a1 s} : (keyRetire a0 a1 s).net = s.net := keyRetire_keeps.net rfl
@[simp] theorem keyRetire_ciph {a0 a1 s} : (keyRetire a0 a1 s).ciph = s.ciph := keyRetire_keeps.ciph rfl
@[simp] theorem keyRetire_bay {a0 a1 s} : (keyRetire a0 a1 s).bay = s.bay := keyRetire_keeps.bay rfl
@[simp] theorem keyRetire_pending {a0 a1 s} : (keyRetire a0 a1 s).pending = s.pending := keyRetire_keeps.pending

@[simp] theorem drawGen_sels {a0 a1 s} : (drawGen a0 a1 s).2.sels = s.sels := drawGen_keeps.sels rfl
@[simp] theorem drawGen_latches {a0 a1 s} : (drawGen a0 a1 s).2.latches = s.latches := drawGen_keeps.latches rfl
@[simp] theorem drawGen_time {a0 a1 s} : (drawGen a0 a1 s).2.time = s.time := drawGen_keeps.time rfl
@[simp] theorem drawGen_datum {a0 a1 s} : (drawGen a0 a1 s).2.datum = s.datum := drawGen_keeps.datum rfl
@[simp] theorem drawGen_pwr {a0 a1 s} : (drawGen a0 a1 s).2.pwr = s.pwr := drawGen_keeps.pwr rfl
@[simp] theorem drawGen_arch {a0 a1 s} : (drawGen a0 a1 s).2.arch = s.arch := drawGen_keeps.arch rfl
@[simp] theorem drawGen_trust {a0 a1 s} : (drawGen a0 a1 s).2.trust = s.trust := drawGen_keeps.trust rfl
@[simp] theorem drawGen_vault {a0 a1 s} : (drawGen a0 a1 s).2.vault = s.vault := drawGen_keeps.vault rfl
@[simp] theorem drawGen_nvm {a0 a1 s} : (drawGen a0 a1 s).2.nvm = s.nvm := drawGen_keeps.nvm rfl
@[simp] theorem drawGen_trav {a0 a1 s} : (drawGen a0 a1 s).2.trav = s.trav := drawGen_keeps.trav rfl
@[simp] theorem drawGen_win {a0 a1 s} : (drawGen a0 a1 s).2.win = s.win := drawGen_keeps.win rfl
@[simp] theorem drawGen_xp {a0 a1 s} : (drawGen a0 a1 s).2.xp = s.xp := drawGen_keeps.xp rfl
@[simp] theorem drawGen_net {a0 a1 s} : (drawGen a0 a1 s).2.net = s.net := drawGen_keeps.net rfl
@[simp] theorem drawGen_pending {a0 a1 s} : (drawGen a0 a1 s).2.pending = s.pending := drawGen_keeps.pending

@[simp] theorem setFrame_regs {a0 a1 a2 s} : (setFrame a0 a1 a2 s).regs = s.regs := setFrame_keeps.regs rfl
@[simp] theorem setFrame_sels {a0 a1 a2 s} : (setFrame a0 a1 a2 s).sels = s.sels := setFrame_keeps.sels rfl
@[simp] theorem setFrame_latches {a0 a1 a2 s} : (setFrame a0 a1 a2 s).latches = s.latches := setFrame_keeps.latches rfl
@[simp] theorem setFrame_out {a0 a1 a2 s} : (setFrame a0 a1 a2 s).out = s.out := setFrame_keeps.out rfl
@[simp] theorem setFrame_free {a0 a1 a2 s} : (setFrame a0 a1 a2 s).free = s.free := setFrame_keeps.free rfl
@[simp] theorem setFrame_time {a0 a1 a2 s} : (setFrame a0 a1 a2 s).time = s.time := setFrame_keeps.time rfl
@[simp] theorem setFrame_evt {a0 a1 a2 s} : (setFrame a0 a1 a2 s).evt = s.evt := setFrame_keeps.evt rfl
@[simp] theorem setFrame_datum {a0 a1 a2 s} : (setFrame a0 a1 a2 s).datum = s.datum := setFrame_keeps.datum rfl
@[simp] theorem setFrame_pwr {a0 a1 a2 s} : (setFrame a0 a1 a2 s).pwr = s.pwr := setFrame_keeps.pwr rfl
@[simp] theorem setFrame_arch {a0 a1 a2 s} : (setFrame a0 a1 a2 s).arch = s.arch := setFrame_keeps.arch rfl
@[simp] theorem setFrame_trust {a0 a1 a2 s} : (setFrame a0 a1 a2 s).trust = s.trust := setFrame_keeps.trust rfl
@[simp] theorem setFrame_vault {a0 a1 a2 s} : (setFrame a0 a1 a2 s).vault = s.vault := setFrame_keeps.vault rfl
@[simp] theorem setFrame_nvm {a0 a1 a2 s} : (setFrame a0 a1 a2 s).nvm = s.nvm := setFrame_keeps.nvm rfl
@[simp] theorem setFrame_trav {a0 a1 a2 s} : (setFrame a0 a1 a2 s).trav = s.trav := setFrame_keeps.trav rfl
@[simp] theorem setFrame_pair {a0 a1 a2 s} : (setFrame a0 a1 a2 s).pair = s.pair := setFrame_keeps.pair rfl
@[simp] theorem setFrame_zeb {a0 a1 a2 s} : (setFrame a0 a1 a2 s).zeb = s.zeb := setFrame_keeps.zeb rfl
@[simp] theorem setFrame_win {a0 a1 a2 s} : (setFrame a0 a1 a2 s).win = s.win := setFrame_keeps.win rfl
@[simp] theorem setFrame_ep {a0 a1 a2 s} : (setFrame a0 a1 a2 s).ep = s.ep := setFrame_keeps.ep rfl
@[simp] theorem setFrame_ks {a0 a1 a2 s} : (setFrame a0 a1 a2 s).ks = s.ks := setFrame_keeps.ks rfl
@[simp] theorem setFrame_xp {a0 a1 a2 s} : (setFrame a0 a1 a2 s).xp = s.xp := setFrame_keeps.xp rfl
@[simp] theorem setFrame_net {a0 a1 a2 s} : (setFrame a0 a1 a2 s).net = s.net := setFrame_keeps.net rfl
@[simp] theorem setFrame_ciph {a0 a1 a2 s} : (setFrame a0 a1 a2 s).ciph = s.ciph := setFrame_keeps.ciph rfl
@[simp] theorem setFrame_bay {a0 a1 a2 s} : (setFrame a0 a1 a2 s).bay = s.bay := setFrame_keeps.bay rfl
@[simp] theorem setFrame_pending {a0 a1 a2 s} : (setFrame a0 a1 a2 s).pending = s.pending := setFrame_keeps.pending

@[simp] theorem lossAdd_sels {a0 a1 a2 a3 s} : (lossAdd a0 a1 a2 a3 s).sels = s.sels := lossAdd_keeps.sels rfl
@[simp] theorem lossAdd_latches {a0 a1 a2 a3 s} : (lossAdd a0 a1 a2 a3 s).latches = s.latches := lossAdd_keeps.latches rfl
@[simp] theorem lossAdd_free {a0 a1 a2 a3 s} : (lossAdd a0 a1 a2 a3 s).free = s.free := lossAdd_keeps.free rfl
@[simp] theorem lossAdd_time {a0 a1 a2 a3 s} : (lossAdd a0 a1 a2 a3 s).time = s.time := lossAdd_keeps.time rfl
@[simp] theorem lossAdd_datum {a0 a1 a2 a3 s} : (lossAdd a0 a1 a2 a3 s).datum = s.datum := lossAdd_keeps.datum rfl
@[simp] theorem lossAdd_pwr {a0 a1 a2 a3 s} : (lossAdd a0 a1 a2 a3 s).pwr = s.pwr := lossAdd_keeps.pwr rfl
@[simp] theorem lossAdd_arch {a0 a1 a2 a3 s} : (lossAdd a0 a1 a2 a3 s).arch = s.arch := lossAdd_keeps.arch rfl
@[simp] theorem lossAdd_trust {a0 a1 a2 a3 s} : (lossAdd a0 a1 a2 a3 s).trust = s.trust := lossAdd_keeps.trust rfl
@[simp] theorem lossAdd_vault {a0 a1 a2 a3 s} : (lossAdd a0 a1 a2 a3 s).vault = s.vault := lossAdd_keeps.vault rfl
@[simp] theorem lossAdd_nvm {a0 a1 a2 a3 s} : (lossAdd a0 a1 a2 a3 s).nvm = s.nvm := lossAdd_keeps.nvm rfl
@[simp] theorem lossAdd_trav {a0 a1 a2 a3 s} : (lossAdd a0 a1 a2 a3 s).trav = s.trav := lossAdd_keeps.trav rfl
@[simp] theorem lossAdd_win {a0 a1 a2 a3 s} : (lossAdd a0 a1 a2 a3 s).win = s.win := lossAdd_keeps.win rfl
@[simp] theorem lossAdd_ks {a0 a1 a2 a3 s} : (lossAdd a0 a1 a2 a3 s).ks = s.ks := lossAdd_keeps.ks rfl
@[simp] theorem lossAdd_xp {a0 a1 a2 a3 s} : (lossAdd a0 a1 a2 a3 s).xp = s.xp := lossAdd_keeps.xp rfl
@[simp] theorem lossAdd_net {a0 a1 a2 a3 s} : (lossAdd a0 a1 a2 a3 s).net = s.net := lossAdd_keeps.net rfl
@[simp] theorem lossAdd_ciph {a0 a1 a2 a3 s} : (lossAdd a0 a1 a2 a3 s).ciph = s.ciph := lossAdd_keeps.ciph rfl
@[simp] theorem lossAdd_pending {a0 a1 a2 a3 s} : (lossAdd a0 a1 a2 a3 s).pending = s.pending := lossAdd_keeps.pending

@[simp] theorem setCtx_regs {a0 a1 s} : (setCtx a0 a1 s).regs = s.regs := setCtx_keeps.regs rfl
@[simp] theorem setCtx_sels {a0 a1 s} : (setCtx a0 a1 s).sels = s.sels := setCtx_keeps.sels rfl
@[simp] theorem setCtx_latches {a0 a1 s} : (setCtx a0 a1 s).latches = s.latches := setCtx_keeps.latches rfl
@[simp] theorem setCtx_out {a0 a1 s} : (setCtx a0 a1 s).out = s.out := setCtx_keeps.out rfl
@[simp] theorem setCtx_free {a0 a1 s} : (setCtx a0 a1 s).free = s.free := setCtx_keeps.free rfl
@[simp] theorem setCtx_time {a0 a1 s} : (setCtx a0 a1 s).time = s.time := setCtx_keeps.time rfl
@[simp] theorem setCtx_evt {a0 a1 s} : (setCtx a0 a1 s).evt = s.evt := setCtx_keeps.evt rfl
@[simp] theorem setCtx_datum {a0 a1 s} : (setCtx a0 a1 s).datum = s.datum := setCtx_keeps.datum rfl
@[simp] theorem setCtx_pwr {a0 a1 s} : (setCtx a0 a1 s).pwr = s.pwr := setCtx_keeps.pwr rfl
@[simp] theorem setCtx_arch {a0 a1 s} : (setCtx a0 a1 s).arch = s.arch := setCtx_keeps.arch rfl
@[simp] theorem setCtx_trust {a0 a1 s} : (setCtx a0 a1 s).trust = s.trust := setCtx_keeps.trust rfl
@[simp] theorem setCtx_vault {a0 a1 s} : (setCtx a0 a1 s).vault = s.vault := setCtx_keeps.vault rfl
@[simp] theorem setCtx_store {a0 a1 s} : (setCtx a0 a1 s).store = s.store := setCtx_keeps.store rfl
@[simp] theorem setCtx_trav {a0 a1 s} : (setCtx a0 a1 s).trav = s.trav := setCtx_keeps.trav rfl
@[simp] theorem setCtx_pair {a0 a1 s} : (setCtx a0 a1 s).pair = s.pair := setCtx_keeps.pair rfl
@[simp] theorem setCtx_zeb {a0 a1 s} : (setCtx a0 a1 s).zeb = s.zeb := setCtx_keeps.zeb rfl
@[simp] theorem setCtx_win {a0 a1 s} : (setCtx a0 a1 s).win = s.win := setCtx_keeps.win rfl
@[simp] theorem setCtx_ep {a0 a1 s} : (setCtx a0 a1 s).ep = s.ep := setCtx_keeps.ep rfl
@[simp] theorem setCtx_ks {a0 a1 s} : (setCtx a0 a1 s).ks = s.ks := setCtx_keeps.ks rfl
@[simp] theorem setCtx_xp {a0 a1 s} : (setCtx a0 a1 s).xp = s.xp := setCtx_keeps.xp rfl
@[simp] theorem setCtx_net {a0 a1 s} : (setCtx a0 a1 s).net = s.net := setCtx_keeps.net rfl
@[simp] theorem setCtx_ciph {a0 a1 s} : (setCtx a0 a1 s).ciph = s.ciph := setCtx_keeps.ciph rfl
@[simp] theorem setCtx_bay {a0 a1 s} : (setCtx a0 a1 s).bay = s.bay := setCtx_keeps.bay rfl
@[simp] theorem setCtx_pending {a0 a1 s} : (setCtx a0 a1 s).pending = s.pending := setCtx_keeps.pending

@[simp] theorem modCtx_regs {a0 a1 s} : (modCtx a0 a1 s).regs = s.regs := modCtx_keeps.regs rfl
@[simp] theorem modCtx_sels {a0 a1 s} : (modCtx a0 a1 s).sels = s.sels := modCtx_keeps.sels rfl
@[simp] theorem modCtx_latches {a0 a1 s} : (modCtx a0 a1 s).latches = s.latches := modCtx_keeps.latches rfl
@[simp] theorem modCtx_out {a0 a1 s} : (modCtx a0 a1 s).out = s.out := modCtx_keeps.out rfl
@[simp] theorem modCtx_free {a0 a1 s} : (modCtx a0 a1 s).free = s.free := modCtx_keeps.free rfl
@[simp] theorem modCtx_time {a0 a1 s} : (modCtx a0 a1 s).time = s.time := modCtx_keeps.time rfl
@[simp] theorem modCtx_evt {a0 a1 s} : (modCtx a0 a1 s).evt = s.evt := modCtx_keeps.evt rfl
@[simp] theorem modCtx_datum {a0 a1 s} : (modCtx a0 a1 s).datum = s.datum := modCtx_keeps.datum rfl
@[simp] theorem modCtx_pwr {a0 a1 s} : (modCtx a0 a1 s).pwr = s.pwr := modCtx_keeps.pwr rfl
@[simp] theorem modCtx_arch {a0 a1 s} : (modCtx a0 a1 s).arch = s.arch := modCtx_keeps.arch rfl
@[simp] theorem modCtx_trust {a0 a1 s} : (modCtx a0 a1 s).trust = s.trust := modCtx_keeps.trust rfl
@[simp] theorem modCtx_vault {a0 a1 s} : (modCtx a0 a1 s).vault = s.vault := modCtx_keeps.vault rfl
@[simp] theorem modCtx_store {a0 a1 s} : (modCtx a0 a1 s).store = s.store := modCtx_keeps.store rfl
@[simp] theorem modCtx_trav {a0 a1 s} : (modCtx a0 a1 s).trav = s.trav := modCtx_keeps.trav rfl
@[simp] theorem modCtx_pair {a0 a1 s} : (modCtx a0 a1 s).pair = s.pair := modCtx_keeps.pair rfl
@[simp] theorem modCtx_zeb {a0 a1 s} : (modCtx a0 a1 s).zeb = s.zeb := modCtx_keeps.zeb rfl
@[simp] theorem modCtx_win {a0 a1 s} : (modCtx a0 a1 s).win = s.win := modCtx_keeps.win rfl
@[simp] theorem modCtx_ep {a0 a1 s} : (modCtx a0 a1 s).ep = s.ep := modCtx_keeps.ep rfl
@[simp] theorem modCtx_ks {a0 a1 s} : (modCtx a0 a1 s).ks = s.ks := modCtx_keeps.ks rfl
@[simp] theorem modCtx_xp {a0 a1 s} : (modCtx a0 a1 s).xp = s.xp := modCtx_keeps.xp rfl
@[simp] theorem modCtx_net {a0 a1 s} : (modCtx a0 a1 s).net = s.net := modCtx_keeps.net rfl
@[simp] theorem modCtx_ciph {a0 a1 s} : (modCtx a0 a1 s).ciph = s.ciph := modCtx_keeps.ciph rfl
@[simp] theorem modCtx_bay {a0 a1 s} : (modCtx a0 a1 s).bay = s.bay := modCtx_keeps.bay rfl
@[simp] theorem modCtx_pending {a0 a1 s} : (modCtx a0 a1 s).pending = s.pending := modCtx_keeps.pending

@[simp] theorem finish_sels {a0 a1 a2 a3 a4 a5 s} : (finish a0 a1 a2 a3 a4 a5 s).sels = s.sels := finish_keeps.sels rfl
@[simp] theorem finish_latches {a0 a1 a2 a3 a4 a5 s} : (finish a0 a1 a2 a3 a4 a5 s).latches = s.latches := finish_keeps.latches rfl
@[simp] theorem finish_free {a0 a1 a2 a3 a4 a5 s} : (finish a0 a1 a2 a3 a4 a5 s).free = s.free := finish_keeps.free rfl
@[simp] theorem finish_time {a0 a1 a2 a3 a4 a5 s} : (finish a0 a1 a2 a3 a4 a5 s).time = s.time := finish_keeps.time rfl
@[simp] theorem finish_datum {a0 a1 a2 a3 a4 a5 s} : (finish a0 a1 a2 a3 a4 a5 s).datum = s.datum := finish_keeps.datum rfl
@[simp] theorem finish_pwr {a0 a1 a2 a3 a4 a5 s} : (finish a0 a1 a2 a3 a4 a5 s).pwr = s.pwr := finish_keeps.pwr rfl
@[simp] theorem finish_arch {a0 a1 a2 a3 a4 a5 s} : (finish a0 a1 a2 a3 a4 a5 s).arch = s.arch := finish_keeps.arch rfl
@[simp] theorem finish_trust {a0 a1 a2 a3 a4 a5 s} : (finish a0 a1 a2 a3 a4 a5 s).trust = s.trust := finish_keeps.trust rfl
@[simp] theorem finish_vault {a0 a1 a2 a3 a4 a5 s} : (finish a0 a1 a2 a3 a4 a5 s).vault = s.vault := finish_keeps.vault rfl
@[simp] theorem finish_store {a0 a1 a2 a3 a4 a5 s} : (finish a0 a1 a2 a3 a4 a5 s).store = s.store := finish_keeps.store rfl
@[simp] theorem finish_trav {a0 a1 a2 a3 a4 a5 s} : (finish a0 a1 a2 a3 a4 a5 s).trav = s.trav := finish_keeps.trav rfl
@[simp] theorem finish_pair {a0 a1 a2 a3 a4 a5 s} : (finish a0 a1 a2 a3 a4 a5 s).pair = s.pair := finish_keeps.pair rfl
@[simp] theorem finish_win {a0 a1 a2 a3 a4 a5 s} : (finish a0 a1 a2 a3 a4 a5 s).win = s.win := finish_keeps.win rfl
@[simp] theorem finish_ks {a0 a1 a2 a3 a4 a5 s} : (finish a0 a1 a2 a3 a4 a5 s).ks = s.ks := finish_keeps.ks rfl
@[simp] theorem finish_net {a0 a1 a2 a3 a4 a5 s} : (finish a0 a1 a2 a3 a4 a5 s).net = s.net := finish_keeps.net rfl
@[simp] theorem finish_ciph {a0 a1 a2 a3 a4 a5 s} : (finish a0 a1 a2 a3 a4 a5 s).ciph = s.ciph := finish_keeps.ciph rfl
@[simp] theorem finish_bay {a0 a1 a2 a3 a4 a5 s} : (finish a0 a1 a2 a3 a4 a5 s).bay = s.bay := finish_keeps.bay rfl
@[simp] theorem finish_pending {a0 a1 a2 a3 a4 a5 s} : (finish a0 a1 a2 a3 a4 a5 s).pending = s.pending := finish_keeps.pending

@[simp] theorem tryComplete_sels {a0 s} : (tryComplete a0 s).sels = s.sels := tryComplete_keeps.sels rfl
@[simp] theorem tryComplete_latches {a0 s} : (tryComplete a0 s).latches = s.latches := tryComplete_keeps.latches rfl
@[simp] theorem tryComplete_free {a0 s} : (tryComplete a0 s).free = s.free := tryComplete_keeps.free rfl
@[simp] theorem tryComplete_time {a0 s} : (tryComplete a0 s).time = s.time := tryComplete_keeps.time rfl
@[simp] theorem tryComplete_datum {a0 s} : (tryComplete a0 s).datum = s.datum := tryComplete_keeps.datum rfl
@[simp] theorem tryComplete_pwr {a0 s} : (tryComplete a0 s).pwr = s.pwr := tryComplete_keeps.pwr rfl
@[simp] theorem tryComplete_arch {a0 s} : (tryComplete a0 s).arch = s.arch := tryComplete_keeps.arch rfl
@[simp] theorem tryComplete_trust {a0 s} : (tryComplete a0 s).trust = s.trust := tryComplete_keeps.trust rfl
@[simp] theorem tryComplete_vault {a0 s} : (tryComplete a0 s).vault = s.vault := tryComplete_keeps.vault rfl
@[simp] theorem tryComplete_store {a0 s} : (tryComplete a0 s).store = s.store := tryComplete_keeps.store rfl
@[simp] theorem tryComplete_trav {a0 s} : (tryComplete a0 s).trav = s.trav := tryComplete_keeps.trav rfl
@[simp] theorem tryComplete_pair {a0 s} : (tryComplete a0 s).pair = s.pair := tryComplete_keeps.pair rfl
@[simp] theorem tryComplete_win {a0 s} : (tryComplete a0 s).win = s.win := tryComplete_keeps.win rfl
@[simp] theorem tryComplete_ks {a0 s} : (tryComplete a0 s).ks = s.ks := tryComplete_keeps.ks rfl
@[simp] theorem tryComplete_net {a0 s} : (tryComplete a0 s).net = s.net := tryComplete_keeps.net rfl
@[simp] theorem tryComplete_ciph {a0 s} : (tryComplete a0 s).ciph = s.ciph := tryComplete_keeps.ciph rfl
@[simp] theorem tryComplete_bay {a0 s} : (tryComplete a0 s).bay = s.bay := tryComplete_keeps.bay rfl
@[simp] theorem tryComplete_pending {a0 s} : (tryComplete a0 s).pending = s.pending := tryComplete_keeps.pending

@[simp] theorem parityBytes_regs {a0 a1 s} : (parityBytes a0 a1 s).regs = s.regs := parityBytes_keeps.regs rfl
@[simp] theorem parityBytes_sels {a0 a1 s} : (parityBytes a0 a1 s).sels = s.sels := parityBytes_keeps.sels rfl
@[simp] theorem parityBytes_latches {a0 a1 s} : (parityBytes a0 a1 s).latches = s.latches := parityBytes_keeps.latches rfl
@[simp] theorem parityBytes_out {a0 a1 s} : (parityBytes a0 a1 s).out = s.out := parityBytes_keeps.out rfl
@[simp] theorem parityBytes_free {a0 a1 s} : (parityBytes a0 a1 s).free = s.free := parityBytes_keeps.free rfl
@[simp] theorem parityBytes_time {a0 a1 s} : (parityBytes a0 a1 s).time = s.time := parityBytes_keeps.time rfl
@[simp] theorem parityBytes_evt {a0 a1 s} : (parityBytes a0 a1 s).evt = s.evt := parityBytes_keeps.evt rfl
@[simp] theorem parityBytes_datum {a0 a1 s} : (parityBytes a0 a1 s).datum = s.datum := parityBytes_keeps.datum rfl
@[simp] theorem parityBytes_pwr {a0 a1 s} : (parityBytes a0 a1 s).pwr = s.pwr := parityBytes_keeps.pwr rfl
@[simp] theorem parityBytes_arch {a0 a1 s} : (parityBytes a0 a1 s).arch = s.arch := parityBytes_keeps.arch rfl
@[simp] theorem parityBytes_trust {a0 a1 s} : (parityBytes a0 a1 s).trust = s.trust := parityBytes_keeps.trust rfl
@[simp] theorem parityBytes_vault {a0 a1 s} : (parityBytes a0 a1 s).vault = s.vault := parityBytes_keeps.vault rfl
@[simp] theorem parityBytes_nvm {a0 a1 s} : (parityBytes a0 a1 s).nvm = s.nvm := parityBytes_keeps.nvm rfl
@[simp] theorem parityBytes_trav {a0 a1 s} : (parityBytes a0 a1 s).trav = s.trav := parityBytes_keeps.trav rfl
@[simp] theorem parityBytes_pair {a0 a1 s} : (parityBytes a0 a1 s).pair = s.pair := parityBytes_keeps.pair rfl
@[simp] theorem parityBytes_zeb {a0 a1 s} : (parityBytes a0 a1 s).zeb = s.zeb := parityBytes_keeps.zeb rfl
@[simp] theorem parityBytes_win {a0 a1 s} : (parityBytes a0 a1 s).win = s.win := parityBytes_keeps.win rfl
@[simp] theorem parityBytes_ep {a0 a1 s} : (parityBytes a0 a1 s).ep = s.ep := parityBytes_keeps.ep rfl
@[simp] theorem parityBytes_ks {a0 a1 s} : (parityBytes a0 a1 s).ks = s.ks := parityBytes_keeps.ks rfl
@[simp] theorem parityBytes_xp {a0 a1 s} : (parityBytes a0 a1 s).xp = s.xp := parityBytes_keeps.xp rfl
@[simp] theorem parityBytes_net {a0 a1 s} : (parityBytes a0 a1 s).net = s.net := parityBytes_keeps.net rfl
@[simp] theorem parityBytes_ciph {a0 a1 s} : (parityBytes a0 a1 s).ciph = s.ciph := parityBytes_keeps.ciph rfl
@[simp] theorem parityBytes_bay {a0 a1 s} : (parityBytes a0 a1 s).bay = s.bay := parityBytes_keeps.bay rfl
@[simp] theorem parityBytes_pending {a0 a1 s} : (parityBytes a0 a1 s).pending = s.pending := parityBytes_keeps.pending

@[simp] theorem resumeDeferred_sels {s} : (resumeDeferred s).sels = s.sels := resumeDeferred_keeps.sels rfl
@[simp] theorem resumeDeferred_latches {s} : (resumeDeferred s).latches = s.latches := resumeDeferred_keeps.latches rfl
@[simp] theorem resumeDeferred_time {s} : (resumeDeferred s).time = s.time := resumeDeferred_keeps.time rfl
@[simp] theorem resumeDeferred_datum {s} : (resumeDeferred s).datum = s.datum := resumeDeferred_keeps.datum rfl
@[simp] theorem resumeDeferred_pwr {s} : (resumeDeferred s).pwr = s.pwr := resumeDeferred_keeps.pwr rfl
@[simp] theorem resumeDeferred_arch {s} : (resumeDeferred s).arch = s.arch := resumeDeferred_keeps.arch rfl
@[simp] theorem resumeDeferred_trust {s} : (resumeDeferred s).trust = s.trust := resumeDeferred_keeps.trust rfl
@[simp] theorem resumeDeferred_vault {s} : (resumeDeferred s).vault = s.vault := resumeDeferred_keeps.vault rfl
@[simp] theorem resumeDeferred_trav {s} : (resumeDeferred s).trav = s.trav := resumeDeferred_keeps.trav rfl
@[simp] theorem resumeDeferred_win {s} : (resumeDeferred s).win = s.win := resumeDeferred_keeps.win rfl
@[simp] theorem resumeDeferred_net {s} : (resumeDeferred s).net = s.net := resumeDeferred_keeps.net rfl
@[simp] theorem resumeDeferred_pending {s} : (resumeDeferred s).pending = s.pending := resumeDeferred_keeps.pending

@[simp] theorem setJob_regs {a0 a1 s} : (setJob a0 a1 s).regs = s.regs := setJob_keeps.regs rfl
@[simp] theorem setJob_sels {a0 a1 s} : (setJob a0 a1 s).sels = s.sels := setJob_keeps.sels rfl
@[simp] theorem setJob_latches {a0 a1 s} : (setJob a0 a1 s).latches = s.latches := setJob_keeps.latches rfl
@[simp] theorem setJob_out {a0 a1 s} : (setJob a0 a1 s).out = s.out := setJob_keeps.out rfl
@[simp] theorem setJob_free {a0 a1 s} : (setJob a0 a1 s).free = s.free := setJob_keeps.free rfl
@[simp] theorem setJob_time {a0 a1 s} : (setJob a0 a1 s).time = s.time := setJob_keeps.time rfl
@[simp] theorem setJob_evt {a0 a1 s} : (setJob a0 a1 s).evt = s.evt := setJob_keeps.evt rfl
@[simp] theorem setJob_datum {a0 a1 s} : (setJob a0 a1 s).datum = s.datum := setJob_keeps.datum rfl
@[simp] theorem setJob_pwr {a0 a1 s} : (setJob a0 a1 s).pwr = s.pwr := setJob_keeps.pwr rfl
@[simp] theorem setJob_arch {a0 a1 s} : (setJob a0 a1 s).arch = s.arch := setJob_keeps.arch rfl
@[simp] theorem setJob_trust {a0 a1 s} : (setJob a0 a1 s).trust = s.trust := setJob_keeps.trust rfl
@[simp] theorem setJob_vault {a0 a1 s} : (setJob a0 a1 s).vault = s.vault := setJob_keeps.vault rfl
@[simp] theorem setJob_nvm {a0 a1 s} : (setJob a0 a1 s).nvm = s.nvm := setJob_keeps.nvm rfl
@[simp] theorem setJob_trav {a0 a1 s} : (setJob a0 a1 s).trav = s.trav := setJob_keeps.trav rfl
@[simp] theorem setJob_pair {a0 a1 s} : (setJob a0 a1 s).pair = s.pair := setJob_keeps.pair rfl
@[simp] theorem setJob_zeb {a0 a1 s} : (setJob a0 a1 s).zeb = s.zeb := setJob_keeps.zeb rfl
@[simp] theorem setJob_win {a0 a1 s} : (setJob a0 a1 s).win = s.win := setJob_keeps.win rfl
@[simp] theorem setJob_ep {a0 a1 s} : (setJob a0 a1 s).ep = s.ep := setJob_keeps.ep rfl
@[simp] theorem setJob_ks {a0 a1 s} : (setJob a0 a1 s).ks = s.ks := setJob_keeps.ks rfl
@[simp] theorem setJob_xp {a0 a1 s} : (setJob a0 a1 s).xp = s.xp := setJob_keeps.xp rfl
@[simp] theorem setJob_net {a0 a1 s} : (setJob a0 a1 s).net = s.net := setJob_keeps.net rfl
@[simp] theorem setJob_ciph {a0 a1 s} : (setJob a0 a1 s).ciph = s.ciph := setJob_keeps.ciph rfl
@[simp] theorem setJob_bay {a0 a1 s} : (setJob a0 a1 s).bay = s.bay := setJob_keeps.bay rfl
@[simp] theorem setJob_pending {a0 a1 s} : (setJob a0 a1 s).pending = s.pending := setJob_keeps.pending

@[simp] theorem dropJob_regs {a0 s} : (dropJob a0 s).regs = s.regs := dropJob_keeps.regs rfl
@[simp] theorem dropJob_sels {a0 s} : (dropJob a0 s).sels = s.sels := dropJob_keeps.sels rfl
@[simp] theorem dropJob_latches {a0 s} : (dropJob a0 s).latches = s.latches := dropJob_keeps.latches rfl
@[simp] theorem dropJob_out {a0 s} : (dropJob a0 s).out = s.out := dropJob_keeps.out rfl
@[simp] theorem dropJob_free {a0 s} : (dropJob a0 s).free = s.free := dropJob_keeps.free rfl
@[simp] theorem dropJob_time {a0 s} : (dropJob a0 s).time = s.time := dropJob_keeps.time rfl
@[simp] theorem dropJob_evt {a0 s} : (dropJob a0 s).evt = s.evt := dropJob_keeps.evt rfl
@[simp] theorem dropJob_datum {a0 s} : (dropJob a0 s).datum = s.datum := dropJob_keeps.datum rfl
@[simp] theorem dropJob_pwr {a0 s} : (dropJob a0 s).pwr = s.pwr := dropJob_keeps.pwr rfl
@[simp] theorem dropJob_arch {a0 s} : (dropJob a0 s).arch = s.arch := dropJob_keeps.arch rfl
@[simp] theorem dropJob_trust {a0 s} : (dropJob a0 s).trust = s.trust := dropJob_keeps.trust rfl
@[simp] theorem dropJob_vault {a0 s} : (dropJob a0 s).vault = s.vault := dropJob_keeps.vault rfl
@[simp] theorem dropJob_nvm {a0 s} : (dropJob a0 s).nvm = s.nvm := dropJob_keeps.nvm rfl
@[simp] theorem dropJob_trav {a0 s} : (dropJob a0 s).trav = s.trav := dropJob_keeps.trav rfl
@[simp] theorem dropJob_pair {a0 s} : (dropJob a0 s).pair = s.pair := dropJob_keeps.pair rfl
@[simp] theorem dropJob_zeb {a0 s} : (dropJob a0 s).zeb = s.zeb := dropJob_keeps.zeb rfl
@[simp] theorem dropJob_win {a0 s} : (dropJob a0 s).win = s.win := dropJob_keeps.win rfl
@[simp] theorem dropJob_ep {a0 s} : (dropJob a0 s).ep = s.ep := dropJob_keeps.ep rfl
@[simp] theorem dropJob_ks {a0 s} : (dropJob a0 s).ks = s.ks := dropJob_keeps.ks rfl
@[simp] theorem dropJob_xp {a0 s} : (dropJob a0 s).xp = s.xp := dropJob_keeps.xp rfl
@[simp] theorem dropJob_net {a0 s} : (dropJob a0 s).net = s.net := dropJob_keeps.net rfl
@[simp] theorem dropJob_ciph {a0 s} : (dropJob a0 s).ciph = s.ciph := dropJob_keeps.ciph rfl
@[simp] theorem dropJob_bay {a0 s} : (dropJob a0 s).bay = s.bay := dropJob_keeps.bay rfl
@[simp] theorem dropJob_pending {a0 s} : (dropJob a0 s).pending = s.pending := dropJob_keeps.pending

@[simp] theorem replan_regs {a0 a1 s} : (replan a0 a1 s).regs = s.regs := replan_keeps.regs rfl
@[simp] theorem replan_sels {a0 a1 s} : (replan a0 a1 s).sels = s.sels := replan_keeps.sels rfl
@[simp] theorem replan_latches {a0 a1 s} : (replan a0 a1 s).latches = s.latches := replan_keeps.latches rfl
@[simp] theorem replan_out {a0 a1 s} : (replan a0 a1 s).out = s.out := replan_keeps.out rfl
@[simp] theorem replan_free {a0 a1 s} : (replan a0 a1 s).free = s.free := replan_keeps.free rfl
@[simp] theorem replan_time {a0 a1 s} : (replan a0 a1 s).time = s.time := replan_keeps.time rfl
@[simp] theorem replan_evt {a0 a1 s} : (replan a0 a1 s).evt = s.evt := replan_keeps.evt rfl
@[simp] theorem replan_datum {a0 a1 s} : (replan a0 a1 s).datum = s.datum := replan_keeps.datum rfl
@[simp] theorem replan_pwr {a0 a1 s} : (replan a0 a1 s).pwr = s.pwr := replan_keeps.pwr rfl
@[simp] theorem replan_arch {a0 a1 s} : (replan a0 a1 s).arch = s.arch := replan_keeps.arch rfl
@[simp] theorem replan_trust {a0 a1 s} : (replan a0 a1 s).trust = s.trust := replan_keeps.trust rfl
@[simp] theorem replan_vault {a0 a1 s} : (replan a0 a1 s).vault = s.vault := replan_keeps.vault rfl
@[simp] theorem replan_nvm {a0 a1 s} : (replan a0 a1 s).nvm = s.nvm := replan_keeps.nvm rfl
@[simp] theorem replan_trav {a0 a1 s} : (replan a0 a1 s).trav = s.trav := replan_keeps.trav rfl
@[simp] theorem replan_pair {a0 a1 s} : (replan a0 a1 s).pair = s.pair := replan_keeps.pair rfl
@[simp] theorem replan_zeb {a0 a1 s} : (replan a0 a1 s).zeb = s.zeb := replan_keeps.zeb rfl
@[simp] theorem replan_win {a0 a1 s} : (replan a0 a1 s).win = s.win := replan_keeps.win rfl
@[simp] theorem replan_ep {a0 a1 s} : (replan a0 a1 s).ep = s.ep := replan_keeps.ep rfl
@[simp] theorem replan_ks {a0 a1 s} : (replan a0 a1 s).ks = s.ks := replan_keeps.ks rfl
@[simp] theorem replan_xp {a0 a1 s} : (replan a0 a1 s).xp = s.xp := replan_keeps.xp rfl
@[simp] theorem replan_net {a0 a1 s} : (replan a0 a1 s).net = s.net := replan_keeps.net rfl
@[simp] theorem replan_ciph {a0 a1 s} : (replan a0 a1 s).ciph = s.ciph := replan_keeps.ciph rfl
@[simp] theorem replan_bay {a0 a1 s} : (replan a0 a1 s).bay = s.bay := replan_keeps.bay rfl
@[simp] theorem replan_pending {a0 a1 s} : (replan a0 a1 s).pending = s.pending := replan_keeps.pending

@[simp] theorem pinReaders_sels {s} : (pinReaders s).sels = s.sels := pinReaders_keeps.sels rfl
@[simp] theorem pinReaders_latches {s} : (pinReaders s).latches = s.latches := pinReaders_keeps.latches rfl
@[simp] theorem pinReaders_free {s} : (pinReaders s).free = s.free := pinReaders_keeps.free rfl
@[simp] theorem pinReaders_time {s} : (pinReaders s).time = s.time := pinReaders_keeps.time rfl
@[simp] theorem pinReaders_datum {s} : (pinReaders s).datum = s.datum := pinReaders_keeps.datum rfl
@[simp] theorem pinReaders_pwr {s} : (pinReaders s).pwr = s.pwr := pinReaders_keeps.pwr rfl
@[simp] theorem pinReaders_arch {s} : (pinReaders s).arch = s.arch := pinReaders_keeps.arch rfl
@[simp] theorem pinReaders_trust {s} : (pinReaders s).trust = s.trust := pinReaders_keeps.trust rfl
@[simp] theorem pinReaders_vault {s} : (pinReaders s).vault = s.vault := pinReaders_keeps.vault rfl
@[simp] theorem pinReaders_ks {s} : (pinReaders s).ks = s.ks := pinReaders_keeps.ks rfl
@[simp] theorem pinReaders_net {s} : (pinReaders s).net = s.net := pinReaders_keeps.net rfl
@[simp] theorem pinReaders_ciph {s} : (pinReaders s).ciph = s.ciph := pinReaders_keeps.ciph rfl
@[simp] theorem pinReaders_pending {s} : (pinReaders s).pending = s.pending := pinReaders_keeps.pending

@[simp] theorem failWriter_sels {a0 a1 a2 a3 a4 s} : (failWriter a0 a1 a2 a3 a4 s).sels = s.sels := failWriter_keeps.sels rfl
@[simp] theorem failWriter_latches {a0 a1 a2 a3 a4 s} : (failWriter a0 a1 a2 a3 a4 s).latches = s.latches := failWriter_keeps.latches rfl
@[simp] theorem failWriter_free {a0 a1 a2 a3 a4 s} : (failWriter a0 a1 a2 a3 a4 s).free = s.free := failWriter_keeps.free rfl
@[simp] theorem failWriter_time {a0 a1 a2 a3 a4 s} : (failWriter a0 a1 a2 a3 a4 s).time = s.time := failWriter_keeps.time rfl
@[simp] theorem failWriter_datum {a0 a1 a2 a3 a4 s} : (failWriter a0 a1 a2 a3 a4 s).datum = s.datum := failWriter_keeps.datum rfl
@[simp] theorem failWriter_pwr {a0 a1 a2 a3 a4 s} : (failWriter a0 a1 a2 a3 a4 s).pwr = s.pwr := failWriter_keeps.pwr rfl
@[simp] theorem failWriter_arch {a0 a1 a2 a3 a4 s} : (failWriter a0 a1 a2 a3 a4 s).arch = s.arch := failWriter_keeps.arch rfl
@[simp] theorem failWriter_trust {a0 a1 a2 a3 a4 s} : (failWriter a0 a1 a2 a3 a4 s).trust = s.trust := failWriter_keeps.trust rfl
@[simp] theorem failWriter_vault {a0 a1 a2 a3 a4 s} : (failWriter a0 a1 a2 a3 a4 s).vault = s.vault := failWriter_keeps.vault rfl
@[simp] theorem failWriter_ks {a0 a1 a2 a3 a4 s} : (failWriter a0 a1 a2 a3 a4 s).ks = s.ks := failWriter_keeps.ks rfl
@[simp] theorem failWriter_net {a0 a1 a2 a3 a4 s} : (failWriter a0 a1 a2 a3 a4 s).net = s.net := failWriter_keeps.net rfl
@[simp] theorem failWriter_ciph {a0 a1 a2 a3 a4 s} : (failWriter a0 a1 a2 a3 a4 s).ciph = s.ciph := failWriter_keeps.ciph rfl
@[simp] theorem failWriter_pending {a0 a1 a2 a3 a4 s} : (failWriter a0 a1 a2 a3 a4 s).pending = s.pending := failWriter_keeps.pending

@[simp] theorem setTrav_regs {a0 a1 s} : (setTrav a0 a1 s).regs = s.regs := setTrav_keeps.regs rfl
@[simp] theorem setTrav_sels {a0 a1 s} : (setTrav a0 a1 s).sels = s.sels := setTrav_keeps.sels rfl
@[simp] theorem setTrav_latches {a0 a1 s} : (setTrav a0 a1 s).latches = s.latches := setTrav_keeps.latches rfl
@[simp] theorem setTrav_out {a0 a1 s} : (setTrav a0 a1 s).out = s.out := setTrav_keeps.out rfl
@[simp] theorem setTrav_free {a0 a1 s} : (setTrav a0 a1 s).free = s.free := setTrav_keeps.free rfl
@[simp] theorem setTrav_time {a0 a1 s} : (setTrav a0 a1 s).time = s.time := setTrav_keeps.time rfl
@[simp] theorem setTrav_evt {a0 a1 s} : (setTrav a0 a1 s).evt = s.evt := setTrav_keeps.evt rfl
@[simp] theorem setTrav_datum {a0 a1 s} : (setTrav a0 a1 s).datum = s.datum := setTrav_keeps.datum rfl
@[simp] theorem setTrav_pwr {a0 a1 s} : (setTrav a0 a1 s).pwr = s.pwr := setTrav_keeps.pwr rfl
@[simp] theorem setTrav_arch {a0 a1 s} : (setTrav a0 a1 s).arch = s.arch := setTrav_keeps.arch rfl
@[simp] theorem setTrav_trust {a0 a1 s} : (setTrav a0 a1 s).trust = s.trust := setTrav_keeps.trust rfl
@[simp] theorem setTrav_vault {a0 a1 s} : (setTrav a0 a1 s).vault = s.vault := setTrav_keeps.vault rfl
@[simp] theorem setTrav_nvm {a0 a1 s} : (setTrav a0 a1 s).nvm = s.nvm := setTrav_keeps.nvm rfl
@[simp] theorem setTrav_store {a0 a1 s} : (setTrav a0 a1 s).store = s.store := setTrav_keeps.store rfl
@[simp] theorem setTrav_pair {a0 a1 s} : (setTrav a0 a1 s).pair = s.pair := setTrav_keeps.pair rfl
@[simp] theorem setTrav_zeb {a0 a1 s} : (setTrav a0 a1 s).zeb = s.zeb := setTrav_keeps.zeb rfl
@[simp] theorem setTrav_win {a0 a1 s} : (setTrav a0 a1 s).win = s.win := setTrav_keeps.win rfl
@[simp] theorem setTrav_ep {a0 a1 s} : (setTrav a0 a1 s).ep = s.ep := setTrav_keeps.ep rfl
@[simp] theorem setTrav_ks {a0 a1 s} : (setTrav a0 a1 s).ks = s.ks := setTrav_keeps.ks rfl
@[simp] theorem setTrav_xp {a0 a1 s} : (setTrav a0 a1 s).xp = s.xp := setTrav_keeps.xp rfl
@[simp] theorem setTrav_net {a0 a1 s} : (setTrav a0 a1 s).net = s.net := setTrav_keeps.net rfl
@[simp] theorem setTrav_ciph {a0 a1 s} : (setTrav a0 a1 s).ciph = s.ciph := setTrav_keeps.ciph rfl
@[simp] theorem setTrav_bay {a0 a1 s} : (setTrav a0 a1 s).bay = s.bay := setTrav_keeps.bay rfl
@[simp] theorem setTrav_pending {a0 a1 s} : (setTrav a0 a1 s).pending = s.pending := setTrav_keeps.pending

@[simp] theorem travAbandon_sels {a0 a1 a2 s} : (travAbandon a0 a1 a2 s).sels = s.sels := travAbandon_keeps.sels rfl
@[simp] theorem travAbandon_latches {a0 a1 a2 s} : (travAbandon a0 a1 a2 s).latches = s.latches := travAbandon_keeps.latches rfl
@[simp] theorem travAbandon_free {a0 a1 a2 s} : (travAbandon a0 a1 a2 s).free = s.free := travAbandon_keeps.free rfl
@[simp] theorem travAbandon_time {a0 a1 a2 s} : (travAbandon a0 a1 a2 s).time = s.time := travAbandon_keeps.time rfl
@[simp] theorem travAbandon_datum {a0 a1 a2 s} : (travAbandon a0 a1 a2 s).datum = s.datum := travAbandon_keeps.datum rfl
@[simp] theorem travAbandon_pwr {a0 a1 a2 s} : (travAbandon a0 a1 a2 s).pwr = s.pwr := travAbandon_keeps.pwr rfl
@[simp] theorem travAbandon_arch {a0 a1 a2 s} : (travAbandon a0 a1 a2 s).arch = s.arch := travAbandon_keeps.arch rfl
@[simp] theorem travAbandon_trust {a0 a1 a2 s} : (travAbandon a0 a1 a2 s).trust = s.trust := travAbandon_keeps.trust rfl
@[simp] theorem travAbandon_vault {a0 a1 a2 s} : (travAbandon a0 a1 a2 s).vault = s.vault := travAbandon_keeps.vault rfl
@[simp] theorem travAbandon_ks {a0 a1 a2 s} : (travAbandon a0 a1 a2 s).ks = s.ks := travAbandon_keeps.ks rfl
@[simp] theorem travAbandon_net {a0 a1 a2 s} : (travAbandon a0 a1 a2 s).net = s.net := travAbandon_keeps.net rfl
@[simp] theorem travAbandon_ciph {a0 a1 a2 s} : (travAbandon a0 a1 a2 s).ciph = s.ciph := travAbandon_keeps.ciph rfl
@[simp] theorem travAbandon_pending {a0 a1 a2 s} : (travAbandon a0 a1 a2 s).pending = s.pending := travAbandon_keeps.pending

@[simp] theorem limitEval_sels {s} : (limitEval s).sels = s.sels := limitEval_keeps.sels rfl
@[simp] theorem limitEval_latches {s} : (limitEval s).latches = s.latches := limitEval_keeps.latches rfl
@[simp] theorem limitEval_time {s} : (limitEval s).time = s.time := limitEval_keeps.time rfl
@[simp] theorem limitEval_datum {s} : (limitEval s).datum = s.datum := limitEval_keeps.datum rfl
@[simp] theorem limitEval_pwr {s} : (limitEval s).pwr = s.pwr := limitEval_keeps.pwr rfl
@[simp] theorem limitEval_arch {s} : (limitEval s).arch = s.arch := limitEval_keeps.arch rfl
@[simp] theorem limitEval_trust {s} : (limitEval s).trust = s.trust := limitEval_keeps.trust rfl
@[simp] theorem limitEval_net {s} : (limitEval s).net = s.net := limitEval_keeps.net rfl
@[simp] theorem limitEval_pending {s} : (limitEval s).pending = s.pending := limitEval_keeps.pending

@[simp] theorem travTable_sels {a0 a1 s} : (travTable a0 a1 s).sels = s.sels := travTable_keeps.sels rfl
@[simp] theorem travTable_latches {a0 a1 s} : (travTable a0 a1 s).latches = s.latches := travTable_keeps.latches rfl
@[simp] theorem travTable_free {a0 a1 s} : (travTable a0 a1 s).free = s.free := travTable_keeps.free rfl
@[simp] theorem travTable_time {a0 a1 s} : (travTable a0 a1 s).time = s.time := travTable_keeps.time rfl
@[simp] theorem travTable_datum {a0 a1 s} : (travTable a0 a1 s).datum = s.datum := travTable_keeps.datum rfl
@[simp] theorem travTable_pwr {a0 a1 s} : (travTable a0 a1 s).pwr = s.pwr := travTable_keeps.pwr rfl
@[simp] theorem travTable_arch {a0 a1 s} : (travTable a0 a1 s).arch = s.arch := travTable_keeps.arch rfl
@[simp] theorem travTable_trust {a0 a1 s} : (travTable a0 a1 s).trust = s.trust := travTable_keeps.trust rfl
@[simp] theorem travTable_vault {a0 a1 s} : (travTable a0 a1 s).vault = s.vault := travTable_keeps.vault rfl
@[simp] theorem travTable_ks {a0 a1 s} : (travTable a0 a1 s).ks = s.ks := travTable_keeps.ks rfl
@[simp] theorem travTable_net {a0 a1 s} : (travTable a0 a1 s).net = s.net := travTable_keeps.net rfl
@[simp] theorem travTable_ciph {a0 a1 s} : (travTable a0 a1 s).ciph = s.ciph := travTable_keeps.ciph rfl
@[simp] theorem travTable_pending {a0 a1 s} : (travTable a0 a1 s).pending = s.pending := travTable_keeps.pending

@[simp] theorem stamp_sels {a0 s} : (stamp a0 s).2.sels = s.sels := stamp_keeps.sels rfl
@[simp] theorem stamp_latches {a0 s} : (stamp a0 s).2.latches = s.latches := stamp_keeps.latches rfl
@[simp] theorem stamp_free {a0 s} : (stamp a0 s).2.free = s.free := stamp_keeps.free rfl
@[simp] theorem stamp_time {a0 s} : (stamp a0 s).2.time = s.time := stamp_keeps.time rfl
@[simp] theorem stamp_evt {a0 s} : (stamp a0 s).2.evt = s.evt := stamp_keeps.evt rfl
@[simp] theorem stamp_datum {a0 s} : (stamp a0 s).2.datum = s.datum := stamp_keeps.datum rfl
@[simp] theorem stamp_pwr {a0 s} : (stamp a0 s).2.pwr = s.pwr := stamp_keeps.pwr rfl
@[simp] theorem stamp_arch {a0 s} : (stamp a0 s).2.arch = s.arch := stamp_keeps.arch rfl
@[simp] theorem stamp_trust {a0 s} : (stamp a0 s).2.trust = s.trust := stamp_keeps.trust rfl
@[simp] theorem stamp_vault {a0 s} : (stamp a0 s).2.vault = s.vault := stamp_keeps.vault rfl
@[simp] theorem stamp_store {a0 s} : (stamp a0 s).2.store = s.store := stamp_keeps.store rfl
@[simp] theorem stamp_trav {a0 s} : (stamp a0 s).2.trav = s.trav := stamp_keeps.trav rfl
@[simp] theorem stamp_win {a0 s} : (stamp a0 s).2.win = s.win := stamp_keeps.win rfl
@[simp] theorem stamp_ep {a0 s} : (stamp a0 s).2.ep = s.ep := stamp_keeps.ep rfl
@[simp] theorem stamp_ks {a0 s} : (stamp a0 s).2.ks = s.ks := stamp_keeps.ks rfl
@[simp] theorem stamp_xp {a0 s} : (stamp a0 s).2.xp = s.xp := stamp_keeps.xp rfl
@[simp] theorem stamp_net {a0 s} : (stamp a0 s).2.net = s.net := stamp_keeps.net rfl
@[simp] theorem stamp_ciph {a0 s} : (stamp a0 s).2.ciph = s.ciph := stamp_keeps.ciph rfl
@[simp] theorem stamp_bay {a0 s} : (stamp a0 s).2.bay = s.bay := stamp_keeps.bay rfl
@[simp] theorem stamp_pending {a0 s} : (stamp a0 s).2.pending = s.pending := stamp_keeps.pending

@[simp] theorem winRefuse_sels {a0 a1 s} : (winRefuse a0 a1 s).sels = s.sels := winRefuse_keeps.sels rfl
@[simp] theorem winRefuse_latches {a0 a1 s} : (winRefuse a0 a1 s).latches = s.latches := winRefuse_keeps.latches rfl
@[simp] theorem winRefuse_free {a0 a1 s} : (winRefuse a0 a1 s).free = s.free := winRefuse_keeps.free rfl
@[simp] theorem winRefuse_time {a0 a1 s} : (winRefuse a0 a1 s).time = s.time := winRefuse_keeps.time rfl
@[simp] theorem winRefuse_datum {a0 a1 s} : (winRefuse a0 a1 s).datum = s.datum := winRefuse_keeps.datum rfl
@[simp] theorem winRefuse_pwr {a0 a1 s} : (winRefuse a0 a1 s).pwr = s.pwr := winRefuse_keeps.pwr rfl
@[simp] theorem winRefuse_arch {a0 a1 s} : (winRefuse a0 a1 s).arch = s.arch := winRefuse_keeps.arch rfl
@[simp] theorem winRefuse_trust {a0 a1 s} : (winRefuse a0 a1 s).trust = s.trust := winRefuse_keeps.trust rfl
@[simp] theorem winRefuse_vault {a0 a1 s} : (winRefuse a0 a1 s).vault = s.vault := winRefuse_keeps.vault rfl
@[simp] theorem winRefuse_store {a0 a1 s} : (winRefuse a0 a1 s).store = s.store := winRefuse_keeps.store rfl
@[simp] theorem winRefuse_trav {a0 a1 s} : (winRefuse a0 a1 s).trav = s.trav := winRefuse_keeps.trav rfl
@[simp] theorem winRefuse_pair {a0 a1 s} : (winRefuse a0 a1 s).pair = s.pair := winRefuse_keeps.pair rfl
@[simp] theorem winRefuse_win {a0 a1 s} : (winRefuse a0 a1 s).win = s.win := winRefuse_keeps.win rfl
@[simp] theorem winRefuse_ks {a0 a1 s} : (winRefuse a0 a1 s).ks = s.ks := winRefuse_keeps.ks rfl
@[simp] theorem winRefuse_net {a0 a1 s} : (winRefuse a0 a1 s).net = s.net := winRefuse_keeps.net rfl
@[simp] theorem winRefuse_ciph {a0 a1 s} : (winRefuse a0 a1 s).ciph = s.ciph := winRefuse_keeps.ciph rfl
@[simp] theorem winRefuse_bay {a0 a1 s} : (winRefuse a0 a1 s).bay = s.bay := winRefuse_keeps.bay rfl
@[simp] theorem winRefuse_pending {a0 a1 s} : (winRefuse a0 a1 s).pending = s.pending := winRefuse_keeps.pending

@[simp] theorem fbRequest_regs {a0 a1 a2 s} : (fbRequest a0 a1 a2 s).regs = s.regs := fbRequest_keeps.regs rfl
@[simp] theorem fbRequest_sels {a0 a1 a2 s} : (fbRequest a0 a1 a2 s).sels = s.sels := fbRequest_keeps.sels rfl
@[simp] theorem fbRequest_latches {a0 a1 a2 s} : (fbRequest a0 a1 a2 s).latches = s.latches := fbRequest_keeps.latches rfl
@[simp] theorem fbRequest_out {a0 a1 a2 s} : (fbRequest a0 a1 a2 s).out = s.out := fbRequest_keeps.out rfl
@[simp] theorem fbRequest_free {a0 a1 a2 s} : (fbRequest a0 a1 a2 s).free = s.free := fbRequest_keeps.free rfl
@[simp] theorem fbRequest_time {a0 a1 a2 s} : (fbRequest a0 a1 a2 s).time = s.time := fbRequest_keeps.time rfl
@[simp] theorem fbRequest_evt {a0 a1 a2 s} : (fbRequest a0 a1 a2 s).evt = s.evt := fbRequest_keeps.evt rfl
@[simp] theorem fbRequest_datum {a0 a1 a2 s} : (fbRequest a0 a1 a2 s).datum = s.datum := fbRequest_keeps.datum rfl
@[simp] theorem fbRequest_pwr {a0 a1 a2 s} : (fbRequest a0 a1 a2 s).pwr = s.pwr := fbRequest_keeps.pwr rfl
@[simp] theorem fbRequest_arch {a0 a1 a2 s} : (fbRequest a0 a1 a2 s).arch = s.arch := fbRequest_keeps.arch rfl
@[simp] theorem fbRequest_vault {a0 a1 a2 s} : (fbRequest a0 a1 a2 s).vault = s.vault := fbRequest_keeps.vault rfl
@[simp] theorem fbRequest_nvm {a0 a1 a2 s} : (fbRequest a0 a1 a2 s).nvm = s.nvm := fbRequest_keeps.nvm rfl
@[simp] theorem fbRequest_store {a0 a1 a2 s} : (fbRequest a0 a1 a2 s).store = s.store := fbRequest_keeps.store rfl
@[simp] theorem fbRequest_trav {a0 a1 a2 s} : (fbRequest a0 a1 a2 s).trav = s.trav := fbRequest_keeps.trav rfl
@[simp] theorem fbRequest_pair {a0 a1 a2 s} : (fbRequest a0 a1 a2 s).pair = s.pair := fbRequest_keeps.pair rfl
@[simp] theorem fbRequest_zeb {a0 a1 a2 s} : (fbRequest a0 a1 a2 s).zeb = s.zeb := fbRequest_keeps.zeb rfl
@[simp] theorem fbRequest_win {a0 a1 a2 s} : (fbRequest a0 a1 a2 s).win = s.win := fbRequest_keeps.win rfl
@[simp] theorem fbRequest_ep {a0 a1 a2 s} : (fbRequest a0 a1 a2 s).ep = s.ep := fbRequest_keeps.ep rfl
@[simp] theorem fbRequest_ks {a0 a1 a2 s} : (fbRequest a0 a1 a2 s).ks = s.ks := fbRequest_keeps.ks rfl
@[simp] theorem fbRequest_xp {a0 a1 a2 s} : (fbRequest a0 a1 a2 s).xp = s.xp := fbRequest_keeps.xp rfl
@[simp] theorem fbRequest_net {a0 a1 a2 s} : (fbRequest a0 a1 a2 s).net = s.net := fbRequest_keeps.net rfl
@[simp] theorem fbRequest_ciph {a0 a1 a2 s} : (fbRequest a0 a1 a2 s).ciph = s.ciph := fbRequest_keeps.ciph rfl
@[simp] theorem fbRequest_bay {a0 a1 a2 s} : (fbRequest a0 a1 a2 s).bay = s.bay := fbRequest_keeps.bay rfl
@[simp] theorem fbRequest_pending {a0 a1 a2 s} : (fbRequest a0 a1 a2 s).pending = s.pending := fbRequest_keeps.pending

@[simp] theorem datumRefuse_sels {a0 a1 a2 s} : (datumRefuse a0 a1 a2 s).sels = s.sels := datumRefuse_keeps.sels rfl
@[simp] theorem datumRefuse_latches {a0 a1 a2 s} : (datumRefuse a0 a1 a2 s).latches = s.latches := datumRefuse_keeps.latches rfl
@[simp] theorem datumRefuse_free {a0 a1 a2 s} : (datumRefuse a0 a1 a2 s).free = s.free := datumRefuse_keeps.free rfl
@[simp] theorem datumRefuse_time {a0 a1 a2 s} : (datumRefuse a0 a1 a2 s).time = s.time := datumRefuse_keeps.time rfl
@[simp] theorem datumRefuse_pwr {a0 a1 a2 s} : (datumRefuse a0 a1 a2 s).pwr = s.pwr := datumRefuse_keeps.pwr rfl
@[simp] theorem datumRefuse_arch {a0 a1 a2 s} : (datumRefuse a0 a1 a2 s).arch = s.arch := datumRefuse_keeps.arch rfl
@[simp] theorem datumRefuse_trust {a0 a1 a2 s} : (datumRefuse a0 a1 a2 s).trust = s.trust := datumRefuse_keeps.trust rfl
@[simp] theorem datumRefuse_vault {a0 a1 a2 s} : (datumRefuse a0 a1 a2 s).vault = s.vault := datumRefuse_keeps.vault rfl
@[simp] theorem datumRefuse_nvm {a0 a1 a2 s} : (datumRefuse a0 a1 a2 s).nvm = s.nvm := datumRefuse_keeps.nvm rfl
@[simp] theorem datumRefuse_store {a0 a1 a2 s} : (datumRefuse a0 a1 a2 s).store = s.store := datumRefuse_keeps.store rfl
@[simp] theorem datumRefuse_trav {a0 a1 a2 s} : (datumRefuse a0 a1 a2 s).trav = s.trav := datumRefuse_keeps.trav rfl
@[simp] theorem datumRefuse_pair {a0 a1 a2 s} : (datumRefuse a0 a1 a2 s).pair = s.pair := datumRefuse_keeps.pair rfl
@[simp] theorem datumRefuse_zeb {a0 a1 a2 s} : (datumRefuse a0 a1 a2 s).zeb = s.zeb := datumRefuse_keeps.zeb rfl
@[simp] theorem datumRefuse_win {a0 a1 a2 s} : (datumRefuse a0 a1 a2 s).win = s.win := datumRefuse_keeps.win rfl
@[simp] theorem datumRefuse_ks {a0 a1 a2 s} : (datumRefuse a0 a1 a2 s).ks = s.ks := datumRefuse_keeps.ks rfl
@[simp] theorem datumRefuse_xp {a0 a1 a2 s} : (datumRefuse a0 a1 a2 s).xp = s.xp := datumRefuse_keeps.xp rfl
@[simp] theorem datumRefuse_net {a0 a1 a2 s} : (datumRefuse a0 a1 a2 s).net = s.net := datumRefuse_keeps.net rfl
@[simp] theorem datumRefuse_ciph {a0 a1 a2 s} : (datumRefuse a0 a1 a2 s).ciph = s.ciph := datumRefuse_keeps.ciph rfl
@[simp] theorem datumRefuse_bay {a0 a1 a2 s} : (datumRefuse a0 a1 a2 s).bay = s.bay := datumRefuse_keeps.bay rfl
@[simp] theorem datumRefuse_pending {a0 a1 a2 s} : (datumRefuse a0 a1 a2 s).pending = s.pending := datumRefuse_keeps.pending

@[simp] theorem newCtx_regs {a0 s} : (newCtx a0 s).2.regs = s.regs := newCtx_keeps.regs rfl
@[simp] theorem newCtx_sels {a0 s} : (newCtx a0 s).2.sels = s.sels := newCtx_keeps.sels rfl
@[simp] theorem newCtx_latches {a0 s} : (newCtx a0 s).2.latches = s.latches := newCtx_keeps.latches rfl
@[simp] theorem newCtx_out {a0 s} : (newCtx a0 s).2.out = s.out := newCtx_keeps.out rfl
@[simp] theorem newCtx_free {a0 s} : (newCtx a0 s).2.free = s.free := newCtx_keeps.free rfl
@[simp] theorem newCtx_time {a0 s} : (newCtx a0 s).2.time = s.time := newCtx_keeps.time rfl
@[simp] theorem newCtx_evt {a0 s} : (newCtx a0 s).2.evt = s.evt := newCtx_keeps.evt rfl
@[simp] theorem newCtx_datum {a0 s} : (newCtx a0 s).2.datum = s.datum := newCtx_keeps.datum rfl
@[simp] theorem newCtx_pwr {a0 s} : (newCtx a0 s).2.pwr = s.pwr := newCtx_keeps.pwr rfl
@[simp] theorem newCtx_arch {a0 s} : (newCtx a0 s).2.arch = s.arch := newCtx_keeps.arch rfl
@[simp] theorem newCtx_trust {a0 s} : (newCtx a0 s).2.trust = s.trust := newCtx_keeps.trust rfl
@[simp] theorem newCtx_vault {a0 s} : (newCtx a0 s).2.vault = s.vault := newCtx_keeps.vault rfl
@[simp] theorem newCtx_store {a0 s} : (newCtx a0 s).2.store = s.store := newCtx_keeps.store rfl
@[simp] theorem newCtx_trav {a0 s} : (newCtx a0 s).2.trav = s.trav := newCtx_keeps.trav rfl
@[simp] theorem newCtx_pair {a0 s} : (newCtx a0 s).2.pair = s.pair := newCtx_keeps.pair rfl
@[simp] theorem newCtx_zeb {a0 s} : (newCtx a0 s).2.zeb = s.zeb := newCtx_keeps.zeb rfl
@[simp] theorem newCtx_win {a0 s} : (newCtx a0 s).2.win = s.win := newCtx_keeps.win rfl
@[simp] theorem newCtx_ep {a0 s} : (newCtx a0 s).2.ep = s.ep := newCtx_keeps.ep rfl
@[simp] theorem newCtx_ks {a0 s} : (newCtx a0 s).2.ks = s.ks := newCtx_keeps.ks rfl
@[simp] theorem newCtx_xp {a0 s} : (newCtx a0 s).2.xp = s.xp := newCtx_keeps.xp rfl
@[simp] theorem newCtx_net {a0 s} : (newCtx a0 s).2.net = s.net := newCtx_keeps.net rfl
@[simp] theorem newCtx_ciph {a0 s} : (newCtx a0 s).2.ciph = s.ciph := newCtx_keeps.ciph rfl
@[simp] theorem newCtx_bay {a0 s} : (newCtx a0 s).2.bay = s.bay := newCtx_keeps.bay rfl
@[simp] theorem newCtx_pending {a0 s} : (newCtx a0 s).2.pending = s.pending := newCtx_keeps.pending

@[simp] theorem quick_sels {a0 a1 a2 a3 s} : (quick a0 a1 a2 a3 s).sels = s.sels := quick_keeps.sels rfl
@[simp] theorem quick_latches {a0 a1 a2 a3 s} : (quick a0 a1 a2 a3 s).latches = s.latches := quick_keeps.latches rfl
@[simp] theorem quick_free {a0 a1 a2 a3 s} : (quick a0 a1 a2 a3 s).free = s.free := quick_keeps.free rfl
@[simp] theorem quick_time {a0 a1 a2 a3 s} : (quick a0 a1 a2 a3 s).time = s.time := quick_keeps.time rfl
@[simp] theorem quick_datum {a0 a1 a2 a3 s} : (quick a0 a1 a2 a3 s).datum = s.datum := quick_keeps.datum rfl
@[simp] theorem quick_pwr {a0 a1 a2 a3 s} : (quick a0 a1 a2 a3 s).pwr = s.pwr := quick_keeps.pwr rfl
@[simp] theorem quick_arch {a0 a1 a2 a3 s} : (quick a0 a1 a2 a3 s).arch = s.arch := quick_keeps.arch rfl
@[simp] theorem quick_trust {a0 a1 a2 a3 s} : (quick a0 a1 a2 a3 s).trust = s.trust := quick_keeps.trust rfl
@[simp] theorem quick_vault {a0 a1 a2 a3 s} : (quick a0 a1 a2 a3 s).vault = s.vault := quick_keeps.vault rfl
@[simp] theorem quick_nvm {a0 a1 a2 a3 s} : (quick a0 a1 a2 a3 s).nvm = s.nvm := quick_keeps.nvm rfl
@[simp] theorem quick_store {a0 a1 a2 a3 s} : (quick a0 a1 a2 a3 s).store = s.store := quick_keeps.store rfl
@[simp] theorem quick_trav {a0 a1 a2 a3 s} : (quick a0 a1 a2 a3 s).trav = s.trav := quick_keeps.trav rfl
@[simp] theorem quick_pair {a0 a1 a2 a3 s} : (quick a0 a1 a2 a3 s).pair = s.pair := quick_keeps.pair rfl
@[simp] theorem quick_win {a0 a1 a2 a3 s} : (quick a0 a1 a2 a3 s).win = s.win := quick_keeps.win rfl
@[simp] theorem quick_ks {a0 a1 a2 a3 s} : (quick a0 a1 a2 a3 s).ks = s.ks := quick_keeps.ks rfl
@[simp] theorem quick_net {a0 a1 a2 a3 s} : (quick a0 a1 a2 a3 s).net = s.net := quick_keeps.net rfl
@[simp] theorem quick_ciph {a0 a1 a2 a3 s} : (quick a0 a1 a2 a3 s).ciph = s.ciph := quick_keeps.ciph rfl
@[simp] theorem quick_bay {a0 a1 a2 a3 s} : (quick a0 a1 a2 a3 s).bay = s.bay := quick_keeps.bay rfl
@[simp] theorem quick_pending {a0 a1 a2 a3 s} : (quick a0 a1 a2 a3 s).pending = s.pending := quick_keeps.pending

@[simp] theorem keyCount_regs {a0 a1 s} : (keyCount a0 a1 s).regs = s.regs := keyCount_keeps.regs rfl
@[simp] theorem keyCount_sels {a0 a1 s} : (keyCount a0 a1 s).sels = s.sels := keyCount_keeps.sels rfl
@[simp] theorem keyCount_latches {a0 a1 s} : (keyCount a0 a1 s).latches = s.latches := keyCount_keeps.latches rfl
@[simp] theorem keyCount_out {a0 a1 s} : (keyCount a0 a1 s).out = s.out := keyCount_keeps.out rfl
@[simp] theorem keyCount_free {a0 a1 s} : (keyCount a0 a1 s).free = s.free := keyCount_keeps.free rfl
@[simp] theorem keyCount_time {a0 a1 s} : (keyCount a0 a1 s).time = s.time := keyCount_keeps.time rfl
@[simp] theorem keyCount_evt {a0 a1 s} : (keyCount a0 a1 s).evt = s.evt := keyCount_keeps.evt rfl
@[simp] theorem keyCount_datum {a0 a1 s} : (keyCount a0 a1 s).datum = s.datum := keyCount_keeps.datum rfl
@[simp] theorem keyCount_pwr {a0 a1 s} : (keyCount a0 a1 s).pwr = s.pwr := keyCount_keeps.pwr rfl
@[simp] theorem keyCount_arch {a0 a1 s} : (keyCount a0 a1 s).arch = s.arch := keyCount_keeps.arch rfl
@[simp] theorem keyCount_trust {a0 a1 s} : (keyCount a0 a1 s).trust = s.trust := keyCount_keeps.trust rfl
@[simp] theorem keyCount_vault {a0 a1 s} : (keyCount a0 a1 s).vault = s.vault := keyCount_keeps.vault rfl
@[simp] theorem keyCount_nvm {a0 a1 s} : (keyCount a0 a1 s).nvm = s.nvm := keyCount_keeps.nvm rfl
@[simp] theorem keyCount_store {a0 a1 s} : (keyCount a0 a1 s).store = s.store := keyCount_keeps.store rfl
@[simp] theorem keyCount_trav {a0 a1 s} : (keyCount a0 a1 s).trav = s.trav := keyCount_keeps.trav rfl
@[simp] theorem keyCount_pair {a0 a1 s} : (keyCount a0 a1 s).pair = s.pair := keyCount_keeps.pair rfl
@[simp] theorem keyCount_zeb {a0 a1 s} : (keyCount a0 a1 s).zeb = s.zeb := keyCount_keeps.zeb rfl
@[simp] theorem keyCount_ep {a0 a1 s} : (keyCount a0 a1 s).ep = s.ep := keyCount_keeps.ep rfl
@[simp] theorem keyCount_ks {a0 a1 s} : (keyCount a0 a1 s).ks = s.ks := keyCount_keeps.ks rfl
@[simp] theorem keyCount_xp {a0 a1 s} : (keyCount a0 a1 s).xp = s.xp := keyCount_keeps.xp rfl
@[simp] theorem keyCount_net {a0 a1 s} : (keyCount a0 a1 s).net = s.net := keyCount_keeps.net rfl
@[simp] theorem keyCount_ciph {a0 a1 s} : (keyCount a0 a1 s).ciph = s.ciph := keyCount_keeps.ciph rfl
@[simp] theorem keyCount_bay {a0 a1 s} : (keyCount a0 a1 s).bay = s.bay := keyCount_keeps.bay rfl
@[simp] theorem keyCount_pending {a0 a1 s} : (keyCount a0 a1 s).pending = s.pending := keyCount_keeps.pending

@[simp] theorem endAssociation_sels {a0 s} : (endAssociation a0 s).sels = s.sels := endAssociation_keeps.sels rfl
@[simp] theorem endAssociation_latches {a0 s} : (endAssociation a0 s).latches = s.latches := endAssociation_keeps.latches rfl
@[simp] theorem endAssociation_free {a0 s} : (endAssociation a0 s).free = s.free := endAssociation_keeps.free rfl
@[simp] theorem endAssociation_time {a0 s} : (endAssociation a0 s).time = s.time := endAssociation_keeps.time rfl
@[simp] theorem endAssociation_datum {a0 s} : (endAssociation a0 s).datum = s.datum := endAssociation_keeps.datum rfl
@[simp] theorem endAssociation_pwr {a0 s} : (endAssociation a0 s).pwr = s.pwr := endAssociation_keeps.pwr rfl
@[simp] theorem endAssociation_arch {a0 s} : (endAssociation a0 s).arch = s.arch := endAssociation_keeps.arch rfl
@[simp] theorem endAssociation_trust {a0 s} : (endAssociation a0 s).trust = s.trust := endAssociation_keeps.trust rfl
@[simp] theorem endAssociation_vault {a0 s} : (endAssociation a0 s).vault = s.vault := endAssociation_keeps.vault rfl
@[simp] theorem endAssociation_ks {a0 s} : (endAssociation a0 s).ks = s.ks := endAssociation_keeps.ks rfl
@[simp] theorem endAssociation_net {a0 s} : (endAssociation a0 s).net = s.net := endAssociation_keeps.net rfl
@[simp] theorem endAssociation_ciph {a0 s} : (endAssociation a0 s).ciph = s.ciph := endAssociation_keeps.ciph rfl
@[simp] theorem endAssociation_pending {a0 s} : (endAssociation a0 s).pending = s.pending := endAssociation_keeps.pending

@[simp] theorem submit_sels {a0 a1 s} : (submit a0 a1 s).sels = s.sels := submit_keeps.sels rfl
@[simp] theorem submit_latches {a0 a1 s} : (submit a0 a1 s).latches = s.latches := submit_keeps.latches rfl
@[simp] theorem submit_time {a0 a1 s} : (submit a0 a1 s).time = s.time := submit_keeps.time rfl
@[simp] theorem submit_datum {a0 a1 s} : (submit a0 a1 s).datum = s.datum := submit_keeps.datum rfl
@[simp] theorem submit_pwr {a0 a1 s} : (submit a0 a1 s).pwr = s.pwr := submit_keeps.pwr rfl
@[simp] theorem submit_arch {a0 a1 s} : (submit a0 a1 s).arch = s.arch := submit_keeps.arch rfl
@[simp] theorem submit_trust {a0 a1 s} : (submit a0 a1 s).trust = s.trust := submit_keeps.trust rfl
@[simp] theorem submit_vault {a0 a1 s} : (submit a0 a1 s).vault = s.vault := submit_keeps.vault rfl
@[simp] theorem submit_net {a0 a1 s} : (submit a0 a1 s).net = s.net := submit_keeps.net rfl
@[simp] theorem submit_pending {a0 a1 s} : (submit a0 a1 s).pending = s.pending := submit_keeps.pending

@[simp] theorem accTry_sels {a0 s} : (accTry a0 s).2.sels = s.sels := accTry_keeps.sels rfl
@[simp] theorem accTry_latches {a0 s} : (accTry a0 s).2.latches = s.latches := accTry_keeps.latches rfl
@[simp] theorem accTry_time {a0 s} : (accTry a0 s).2.time = s.time := accTry_keeps.time rfl
@[simp] theorem accTry_datum {a0 s} : (accTry a0 s).2.datum = s.datum := accTry_keeps.datum rfl
@[simp] theorem accTry_pwr {a0 s} : (accTry a0 s).2.pwr = s.pwr := accTry_keeps.pwr rfl
@[simp] theorem accTry_arch {a0 s} : (accTry a0 s).2.arch = s.arch := accTry_keeps.arch rfl
@[simp] theorem accTry_trust {a0 s} : (accTry a0 s).2.trust = s.trust := accTry_keeps.trust rfl
@[simp] theorem accTry_vault {a0 s} : (accTry a0 s).2.vault = s.vault := accTry_keeps.vault rfl
@[simp] theorem accTry_net {a0 s} : (accTry a0 s).2.net = s.net := accTry_keeps.net rfl
@[simp] theorem accTry_pending {a0 s} : (accTry a0 s).2.pending = s.pending := accTry_keeps.pending

@[simp] theorem qpError_sels {a0 a1 s} : (qpError a0 a1 s).sels = s.sels := qpError_keeps.sels rfl
@[simp] theorem qpError_latches {a0 a1 s} : (qpError a0 a1 s).latches = s.latches := qpError_keeps.latches rfl
@[simp] theorem qpError_free {a0 a1 s} : (qpError a0 a1 s).free = s.free := qpError_keeps.free rfl
@[simp] theorem qpError_time {a0 a1 s} : (qpError a0 a1 s).time = s.time := qpError_keeps.time rfl
@[simp] theorem qpError_datum {a0 a1 s} : (qpError a0 a1 s).datum = s.datum := qpError_keeps.datum rfl
@[simp] theorem qpError_pwr {a0 a1 s} : (qpError a0 a1 s).pwr = s.pwr := qpError_keeps.pwr rfl
@[simp] theorem qpError_arch {a0 a1 s} : (qpError a0 a1 s).arch = s.arch := qpError_keeps.arch rfl
@[simp] theorem qpError_trust {a0 a1 s} : (qpError a0 a1 s).trust = s.trust := qpError_keeps.trust rfl
@[simp] theorem qpError_vault {a0 a1 s} : (qpError a0 a1 s).vault = s.vault := qpError_keeps.vault rfl
@[simp] theorem qpError_ks {a0 a1 s} : (qpError a0 a1 s).ks = s.ks := qpError_keeps.ks rfl
@[simp] theorem qpError_net {a0 a1 s} : (qpError a0 a1 s).net = s.net := qpError_keeps.net rfl
@[simp] theorem qpError_ciph {a0 a1 s} : (qpError a0 a1 s).ciph = s.ciph := qpError_keeps.ciph rfl
@[simp] theorem qpError_pending {a0 a1 s} : (qpError a0 a1 s).pending = s.pending := qpError_keeps.pending

@[simp] theorem qpGo_sels {a0 s} : (qpGo a0 s).sels = s.sels := qpGo_keeps.sels rfl
@[simp] theorem qpGo_latches {a0 s} : (qpGo a0 s).latches = s.latches := qpGo_keeps.latches rfl
@[simp] theorem qpGo_time {a0 s} : (qpGo a0 s).time = s.time := qpGo_keeps.time rfl
@[simp] theorem qpGo_datum {a0 s} : (qpGo a0 s).datum = s.datum := qpGo_keeps.datum rfl
@[simp] theorem qpGo_pwr {a0 s} : (qpGo a0 s).pwr = s.pwr := qpGo_keeps.pwr rfl
@[simp] theorem qpGo_arch {a0 s} : (qpGo a0 s).arch = s.arch := qpGo_keeps.arch rfl
@[simp] theorem qpGo_trust {a0 s} : (qpGo a0 s).trust = s.trust := qpGo_keeps.trust rfl
@[simp] theorem qpGo_vault {a0 s} : (qpGo a0 s).vault = s.vault := qpGo_keeps.vault rfl
@[simp] theorem qpGo_net {a0 s} : (qpGo a0 s).net = s.net := qpGo_keeps.net rfl
@[simp] theorem qpGo_pending {a0 s} : (qpGo a0 s).pending = s.pending := qpGo_keeps.pending

@[simp] theorem rxPacket_sels {a0 a1 a2 a3 s} : (rxPacket a0 a1 a2 a3 s).sels = s.sels := rxPacket_keeps.sels rfl
@[simp] theorem rxPacket_latches {a0 a1 a2 a3 s} : (rxPacket a0 a1 a2 a3 s).latches = s.latches := rxPacket_keeps.latches rfl
@[simp] theorem rxPacket_time {a0 a1 a2 a3 s} : (rxPacket a0 a1 a2 a3 s).time = s.time := rxPacket_keeps.time rfl
@[simp] theorem rxPacket_datum {a0 a1 a2 a3 s} : (rxPacket a0 a1 a2 a3 s).datum = s.datum := rxPacket_keeps.datum rfl
@[simp] theorem rxPacket_pwr {a0 a1 a2 a3 s} : (rxPacket a0 a1 a2 a3 s).pwr = s.pwr := rxPacket_keeps.pwr rfl
@[simp] theorem rxPacket_arch {a0 a1 a2 a3 s} : (rxPacket a0 a1 a2 a3 s).arch = s.arch := rxPacket_keeps.arch rfl
@[simp] theorem rxPacket_trust {a0 a1 a2 a3 s} : (rxPacket a0 a1 a2 a3 s).trust = s.trust := rxPacket_keeps.trust rfl
@[simp] theorem rxPacket_vault {a0 a1 a2 a3 s} : (rxPacket a0 a1 a2 a3 s).vault = s.vault := rxPacket_keeps.vault rfl
@[simp] theorem rxPacket_net {a0 a1 a2 a3 s} : (rxPacket a0 a1 a2 a3 s).net = s.net := rxPacket_keeps.net rfl
@[simp] theorem rxPacket_pending {a0 a1 a2 a3 s} : (rxPacket a0 a1 a2 a3 s).pending = s.pending := rxPacket_keeps.pending

@[simp] theorem stallGo_sels {s} : (stallGo s).sels = s.sels := stallGo_keeps.sels rfl
@[simp] theorem stallGo_latches {s} : (stallGo s).latches = s.latches := stallGo_keeps.latches rfl
@[simp] theorem stallGo_time {s} : (stallGo s).time = s.time := stallGo_keeps.time rfl
@[simp] theorem stallGo_datum {s} : (stallGo s).datum = s.datum := stallGo_keeps.datum rfl
@[simp] theorem stallGo_pwr {s} : (stallGo s).pwr = s.pwr := stallGo_keeps.pwr rfl
@[simp] theorem stallGo_arch {s} : (stallGo s).arch = s.arch := stallGo_keeps.arch rfl
@[simp] theorem stallGo_trust {s} : (stallGo s).trust = s.trust := stallGo_keeps.trust rfl
@[simp] theorem stallGo_vault {s} : (stallGo s).vault = s.vault := stallGo_keeps.vault rfl
@[simp] theorem stallGo_net {s} : (stallGo s).net = s.net := stallGo_keeps.net rfl
@[simp] theorem stallGo_pending {s} : (stallGo s).pending = s.pending := stallGo_keeps.pending

@[simp] theorem sendStopping_sels {a0 s} : (sendStopping a0 s).sels = s.sels := sendStopping_keeps.sels rfl
@[simp] theorem sendStopping_latches {a0 s} : (sendStopping a0 s).latches = s.latches := sendStopping_keeps.latches rfl
@[simp] theorem sendStopping_free {a0 s} : (sendStopping a0 s).free = s.free := sendStopping_keeps.free rfl
@[simp] theorem sendStopping_time {a0 s} : (sendStopping a0 s).time = s.time := sendStopping_keeps.time rfl
@[simp] theorem sendStopping_evt {a0 s} : (sendStopping a0 s).evt = s.evt := sendStopping_keeps.evt rfl
@[simp] theorem sendStopping_datum {a0 s} : (sendStopping a0 s).datum = s.datum := sendStopping_keeps.datum rfl
@[simp] theorem sendStopping_pwr {a0 s} : (sendStopping a0 s).pwr = s.pwr := sendStopping_keeps.pwr rfl
@[simp] theorem sendStopping_arch {a0 s} : (sendStopping a0 s).arch = s.arch := sendStopping_keeps.arch rfl
@[simp] theorem sendStopping_trust {a0 s} : (sendStopping a0 s).trust = s.trust := sendStopping_keeps.trust rfl
@[simp] theorem sendStopping_vault {a0 s} : (sendStopping a0 s).vault = s.vault := sendStopping_keeps.vault rfl
@[simp] theorem sendStopping_nvm {a0 s} : (sendStopping a0 s).nvm = s.nvm := sendStopping_keeps.nvm rfl
@[simp] theorem sendStopping_store {a0 s} : (sendStopping a0 s).store = s.store := sendStopping_keeps.store rfl
@[simp] theorem sendStopping_trav {a0 s} : (sendStopping a0 s).trav = s.trav := sendStopping_keeps.trav rfl
@[simp] theorem sendStopping_win {a0 s} : (sendStopping a0 s).win = s.win := sendStopping_keeps.win rfl
@[simp] theorem sendStopping_ep {a0 s} : (sendStopping a0 s).ep = s.ep := sendStopping_keeps.ep rfl
@[simp] theorem sendStopping_ks {a0 s} : (sendStopping a0 s).ks = s.ks := sendStopping_keeps.ks rfl
@[simp] theorem sendStopping_xp {a0 s} : (sendStopping a0 s).xp = s.xp := sendStopping_keeps.xp rfl
@[simp] theorem sendStopping_net {a0 s} : (sendStopping a0 s).net = s.net := sendStopping_keeps.net rfl
@[simp] theorem sendStopping_ciph {a0 s} : (sendStopping a0 s).ciph = s.ciph := sendStopping_keeps.ciph rfl
@[simp] theorem sendStopping_bay {a0 s} : (sendStopping a0 s).bay = s.bay := sendStopping_keeps.bay rfl
@[simp] theorem sendStopping_pending {a0 s} : (sendStopping a0 s).pending = s.pending := sendStopping_keeps.pending

@[simp] theorem travPower_sels {s} : (travPower s).sels = s.sels := travPower_keeps.sels rfl
@[simp] theorem travPower_latches {s} : (travPower s).latches = s.latches := travPower_keeps.latches rfl
@[simp] theorem travPower_time {s} : (travPower s).time = s.time := travPower_keeps.time rfl
@[simp] theorem travPower_datum {s} : (travPower s).datum = s.datum := travPower_keeps.datum rfl
@[simp] theorem travPower_pwr {s} : (travPower s).pwr = s.pwr := travPower_keeps.pwr rfl
@[simp] theorem travPower_arch {s} : (travPower s).arch = s.arch := travPower_keeps.arch rfl
@[simp] theorem travPower_trust {s} : (travPower s).trust = s.trust := travPower_keeps.trust rfl
@[simp] theorem travPower_vault {s} : (travPower s).vault = s.vault := travPower_keeps.vault rfl
@[simp] theorem travPower_nvm {s} : (travPower s).nvm = s.nvm := travPower_keeps.nvm rfl
@[simp] theorem travPower_win {s} : (travPower s).win = s.win := travPower_keeps.win rfl
@[simp] theorem travPower_xp {s} : (travPower s).xp = s.xp := travPower_keeps.xp rfl
@[simp] theorem travPower_net {s} : (travPower s).net = s.net := travPower_keeps.net rfl
@[simp] theorem travPower_pending {s} : (travPower s).pending = s.pending := travPower_keeps.pending

@[simp] theorem acceptPower_sels {a0 s} : (acceptPower a0 s).sels = s.sels := acceptPower_keeps.sels rfl
@[simp] theorem acceptPower_latches {a0 s} : (acceptPower a0 s).latches = s.latches := acceptPower_keeps.latches rfl
@[simp] theorem acceptPower_time {a0 s} : (acceptPower a0 s).time = s.time := acceptPower_keeps.time rfl
@[simp] theorem acceptPower_arch {a0 s} : (acceptPower a0 s).arch = s.arch := acceptPower_keeps.arch rfl
@[simp] theorem acceptPower_xp {a0 s} : (acceptPower a0 s).xp = s.xp := acceptPower_keeps.xp rfl
@[simp] theorem acceptPower_net {a0 s} : (acceptPower a0 s).net = s.net := acceptPower_keeps.net rfl
@[simp] theorem acceptPower_pending {a0 s} : (acceptPower a0 s).pending = s.pending := acceptPower_keeps.pending

@[simp] theorem fatalEvent_sels {a0 a1 a2 s} : (fatalEvent a0 a1 a2 s).sels = s.sels := fatalEvent_keeps.sels rfl
@[simp] theorem fatalEvent_latches {a0 a1 a2 s} : (fatalEvent a0 a1 a2 s).latches = s.latches := fatalEvent_keeps.latches rfl
@[simp] theorem fatalEvent_time {a0 a1 a2 s} : (fatalEvent a0 a1 a2 s).time = s.time := fatalEvent_keeps.time rfl
@[simp] theorem fatalEvent_arch {a0 a1 a2 s} : (fatalEvent a0 a1 a2 s).arch = s.arch := fatalEvent_keeps.arch rfl
@[simp] theorem fatalEvent_xp {a0 a1 a2 s} : (fatalEvent a0 a1 a2 s).xp = s.xp := fatalEvent_keeps.xp rfl
@[simp] theorem fatalEvent_net {a0 a1 a2 s} : (fatalEvent a0 a1 a2 s).net = s.net := fatalEvent_keeps.net rfl
@[simp] theorem fatalEvent_pending {a0 a1 a2 s} : (fatalEvent a0 a1 a2 s).pending = s.pending := fatalEvent_keeps.pending

@[simp] theorem bayState_sels {a0 a1 s} : (bayState a0 a1 s).sels = s.sels := bayState_keeps.sels rfl
@[simp] theorem bayState_latches {a0 a1 s} : (bayState a0 a1 s).latches = s.latches := bayState_keeps.latches rfl
@[simp] theorem bayState_time {a0 a1 s} : (bayState a0 a1 s).time = s.time := bayState_keeps.time rfl
@[simp] theorem bayState_datum {a0 a1 s} : (bayState a0 a1 s).datum = s.datum := bayState_keeps.datum rfl
@[simp] theorem bayState_pwr {a0 a1 s} : (bayState a0 a1 s).pwr = s.pwr := bayState_keeps.pwr rfl
@[simp] theorem bayState_arch {a0 a1 s} : (bayState a0 a1 s).arch = s.arch := bayState_keeps.arch rfl
@[simp] theorem bayState_trust {a0 a1 s} : (bayState a0 a1 s).trust = s.trust := bayState_keeps.trust rfl
@[simp] theorem bayState_net {a0 a1 s} : (bayState a0 a1 s).net = s.net := bayState_keeps.net rfl
@[simp] theorem bayState_pending {a0 a1 s} : (bayState a0 a1 s).pending = s.pending := bayState_keeps.pending

@[simp] theorem memberDepart_sels {a0 a1 s} : (memberDepart a0 a1 s).sels = s.sels := memberDepart_keeps.sels rfl
@[simp] theorem memberDepart_latches {a0 a1 s} : (memberDepart a0 a1 s).latches = s.latches := memberDepart_keeps.latches rfl
@[simp] theorem memberDepart_time {a0 a1 s} : (memberDepart a0 a1 s).time = s.time := memberDepart_keeps.time rfl
@[simp] theorem memberDepart_datum {a0 a1 s} : (memberDepart a0 a1 s).datum = s.datum := memberDepart_keeps.datum rfl
@[simp] theorem memberDepart_pwr {a0 a1 s} : (memberDepart a0 a1 s).pwr = s.pwr := memberDepart_keeps.pwr rfl
@[simp] theorem memberDepart_arch {a0 a1 s} : (memberDepart a0 a1 s).arch = s.arch := memberDepart_keeps.arch rfl
@[simp] theorem memberDepart_trust {a0 a1 s} : (memberDepart a0 a1 s).trust = s.trust := memberDepart_keeps.trust rfl
@[simp] theorem memberDepart_net {a0 a1 s} : (memberDepart a0 a1 s).net = s.net := memberDepart_keeps.net rfl
@[simp] theorem memberDepart_pending {a0 a1 s} : (memberDepart a0 a1 s).pending = s.pending := memberDepart_keeps.pending

@[simp] theorem checkpoint_sels {a0 a1 a2 a3 a4 s} : (checkpoint a0 a1 a2 a3 a4 s).sels = s.sels := checkpoint_keeps.sels rfl
@[simp] theorem checkpoint_latches {a0 a1 a2 a3 a4 s} : (checkpoint a0 a1 a2 a3 a4 s).latches = s.latches := checkpoint_keeps.latches rfl
@[simp] theorem checkpoint_free {a0 a1 a2 a3 a4 s} : (checkpoint a0 a1 a2 a3 a4 s).free = s.free := checkpoint_keeps.free rfl
@[simp] theorem checkpoint_time {a0 a1 a2 a3 a4 s} : (checkpoint a0 a1 a2 a3 a4 s).time = s.time := checkpoint_keeps.time rfl
@[simp] theorem checkpoint_evt {a0 a1 a2 a3 a4 s} : (checkpoint a0 a1 a2 a3 a4 s).evt = s.evt := checkpoint_keeps.evt rfl
@[simp] theorem checkpoint_datum {a0 a1 a2 a3 a4 s} : (checkpoint a0 a1 a2 a3 a4 s).datum = s.datum := checkpoint_keeps.datum rfl
@[simp] theorem checkpoint_pwr {a0 a1 a2 a3 a4 s} : (checkpoint a0 a1 a2 a3 a4 s).pwr = s.pwr := checkpoint_keeps.pwr rfl
@[simp] theorem checkpoint_arch {a0 a1 a2 a3 a4 s} : (checkpoint a0 a1 a2 a3 a4 s).arch = s.arch := checkpoint_keeps.arch rfl
@[simp] theorem checkpoint_trust {a0 a1 a2 a3 a4 s} : (checkpoint a0 a1 a2 a3 a4 s).trust = s.trust := checkpoint_keeps.trust rfl
@[simp] theorem checkpoint_vault {a0 a1 a2 a3 a4 s} : (checkpoint a0 a1 a2 a3 a4 s).vault = s.vault := checkpoint_keeps.vault rfl
@[simp] theorem checkpoint_nvm {a0 a1 a2 a3 a4 s} : (checkpoint a0 a1 a2 a3 a4 s).nvm = s.nvm := checkpoint_keeps.nvm rfl
@[simp] theorem checkpoint_trav {a0 a1 a2 a3 a4 s} : (checkpoint a0 a1 a2 a3 a4 s).trav = s.trav := checkpoint_keeps.trav rfl
@[simp] theorem checkpoint_win {a0 a1 a2 a3 a4 s} : (checkpoint a0 a1 a2 a3 a4 s).win = s.win := checkpoint_keeps.win rfl
@[simp] theorem checkpoint_ep {a0 a1 a2 a3 a4 s} : (checkpoint a0 a1 a2 a3 a4 s).ep = s.ep := checkpoint_keeps.ep rfl
@[simp] theorem checkpoint_ks {a0 a1 a2 a3 a4 s} : (checkpoint a0 a1 a2 a3 a4 s).ks = s.ks := checkpoint_keeps.ks rfl
@[simp] theorem checkpoint_xp {a0 a1 a2 a3 a4 s} : (checkpoint a0 a1 a2 a3 a4 s).xp = s.xp := checkpoint_keeps.xp rfl
@[simp] theorem checkpoint_net {a0 a1 a2 a3 a4 s} : (checkpoint a0 a1 a2 a3 a4 s).net = s.net := checkpoint_keeps.net rfl
@[simp] theorem checkpoint_ciph {a0 a1 a2 a3 a4 s} : (checkpoint a0 a1 a2 a3 a4 s).ciph = s.ciph := checkpoint_keeps.ciph rfl
@[simp] theorem checkpoint_pending {a0 a1 a2 a3 a4 s} : (checkpoint a0 a1 a2 a3 a4 s).pending = s.pending := checkpoint_keeps.pending

@[simp] theorem memberResult_sels {a0 s} : (memberResult a0 s).sels = s.sels := memberResult_keeps.sels rfl
@[simp] theorem memberResult_latches {a0 s} : (memberResult a0 s).latches = s.latches := memberResult_keeps.latches rfl
@[simp] theorem memberResult_out {a0 s} : (memberResult a0 s).out = s.out := memberResult_keeps.out rfl
@[simp] theorem memberResult_free {a0 s} : (memberResult a0 s).free = s.free := memberResult_keeps.free rfl
@[simp] theorem memberResult_time {a0 s} : (memberResult a0 s).time = s.time := memberResult_keeps.time rfl
@[simp] theorem memberResult_evt {a0 s} : (memberResult a0 s).evt = s.evt := memberResult_keeps.evt rfl
@[simp] theorem memberResult_datum {a0 s} : (memberResult a0 s).datum = s.datum := memberResult_keeps.datum rfl
@[simp] theorem memberResult_pwr {a0 s} : (memberResult a0 s).pwr = s.pwr := memberResult_keeps.pwr rfl
@[simp] theorem memberResult_arch {a0 s} : (memberResult a0 s).arch = s.arch := memberResult_keeps.arch rfl
@[simp] theorem memberResult_trust {a0 s} : (memberResult a0 s).trust = s.trust := memberResult_keeps.trust rfl
@[simp] theorem memberResult_vault {a0 s} : (memberResult a0 s).vault = s.vault := memberResult_keeps.vault rfl
@[simp] theorem memberResult_nvm {a0 s} : (memberResult a0 s).nvm = s.nvm := memberResult_keeps.nvm rfl
@[simp] theorem memberResult_store {a0 s} : (memberResult a0 s).store = s.store := memberResult_keeps.store rfl
@[simp] theorem memberResult_trav {a0 s} : (memberResult a0 s).trav = s.trav := memberResult_keeps.trav rfl
@[simp] theorem memberResult_pair {a0 s} : (memberResult a0 s).pair = s.pair := memberResult_keeps.pair rfl
@[simp] theorem memberResult_zeb {a0 s} : (memberResult a0 s).zeb = s.zeb := memberResult_keeps.zeb rfl
@[simp] theorem memberResult_win {a0 s} : (memberResult a0 s).win = s.win := memberResult_keeps.win rfl
@[simp] theorem memberResult_ep {a0 s} : (memberResult a0 s).ep = s.ep := memberResult_keeps.ep rfl
@[simp] theorem memberResult_ks {a0 s} : (memberResult a0 s).ks = s.ks := memberResult_keeps.ks rfl
@[simp] theorem memberResult_xp {a0 s} : (memberResult a0 s).xp = s.xp := memberResult_keeps.xp rfl
@[simp] theorem memberResult_net {a0 s} : (memberResult a0 s).net = s.net := memberResult_keeps.net rfl
@[simp] theorem memberResult_ciph {a0 s} : (memberResult a0 s).ciph = s.ciph := memberResult_keeps.ciph rfl
@[simp] theorem memberResult_bay {a0 s} : (memberResult a0 s).bay = s.bay := memberResult_keeps.bay rfl
@[simp] theorem memberResult_pending {a0 s} : (memberResult a0 s).pending = s.pending := memberResult_keeps.pending

@[simp] theorem setPort_regs {a0 a1 s} : (setPort a0 a1 s).regs = s.regs := setPort_keeps.regs rfl
@[simp] theorem setPort_sels {a0 a1 s} : (setPort a0 a1 s).sels = s.sels := setPort_keeps.sels rfl
@[simp] theorem setPort_latches {a0 a1 s} : (setPort a0 a1 s).latches = s.latches := setPort_keeps.latches rfl
@[simp] theorem setPort_out {a0 a1 s} : (setPort a0 a1 s).out = s.out := setPort_keeps.out rfl
@[simp] theorem setPort_free {a0 a1 s} : (setPort a0 a1 s).free = s.free := setPort_keeps.free rfl
@[simp] theorem setPort_time {a0 a1 s} : (setPort a0 a1 s).time = s.time := setPort_keeps.time rfl
@[simp] theorem setPort_evt {a0 a1 s} : (setPort a0 a1 s).evt = s.evt := setPort_keeps.evt rfl
@[simp] theorem setPort_datum {a0 a1 s} : (setPort a0 a1 s).datum = s.datum := setPort_keeps.datum rfl
@[simp] theorem setPort_pwr {a0 a1 s} : (setPort a0 a1 s).pwr = s.pwr := setPort_keeps.pwr rfl
@[simp] theorem setPort_arch {a0 a1 s} : (setPort a0 a1 s).arch = s.arch := setPort_keeps.arch rfl
@[simp] theorem setPort_trust {a0 a1 s} : (setPort a0 a1 s).trust = s.trust := setPort_keeps.trust rfl
@[simp] theorem setPort_vault {a0 a1 s} : (setPort a0 a1 s).vault = s.vault := setPort_keeps.vault rfl
@[simp] theorem setPort_nvm {a0 a1 s} : (setPort a0 a1 s).nvm = s.nvm := setPort_keeps.nvm rfl
@[simp] theorem setPort_store {a0 a1 s} : (setPort a0 a1 s).store = s.store := setPort_keeps.store rfl
@[simp] theorem setPort_trav {a0 a1 s} : (setPort a0 a1 s).trav = s.trav := setPort_keeps.trav rfl
@[simp] theorem setPort_pair {a0 a1 s} : (setPort a0 a1 s).pair = s.pair := setPort_keeps.pair rfl
@[simp] theorem setPort_zeb {a0 a1 s} : (setPort a0 a1 s).zeb = s.zeb := setPort_keeps.zeb rfl
@[simp] theorem setPort_win {a0 a1 s} : (setPort a0 a1 s).win = s.win := setPort_keeps.win rfl
@[simp] theorem setPort_ep {a0 a1 s} : (setPort a0 a1 s).ep = s.ep := setPort_keeps.ep rfl
@[simp] theorem setPort_ks {a0 a1 s} : (setPort a0 a1 s).ks = s.ks := setPort_keeps.ks rfl
@[simp] theorem setPort_xp {a0 a1 s} : (setPort a0 a1 s).xp = s.xp := setPort_keeps.xp rfl
@[simp] theorem setPort_net {a0 a1 s} : (setPort a0 a1 s).net = s.net := setPort_keeps.net rfl
@[simp] theorem setPort_ciph {a0 a1 s} : (setPort a0 a1 s).ciph = s.ciph := setPort_keeps.ciph rfl
@[simp] theorem setPort_pending {a0 a1 s} : (setPort a0 a1 s).pending = s.pending := setPort_keeps.pending

@[simp] theorem setBay_regs {a0 a1 s} : (setBay a0 a1 s).regs = s.regs := setBay_keeps.regs rfl
@[simp] theorem setBay_sels {a0 a1 s} : (setBay a0 a1 s).sels = s.sels := setBay_keeps.sels rfl
@[simp] theorem setBay_latches {a0 a1 s} : (setBay a0 a1 s).latches = s.latches := setBay_keeps.latches rfl
@[simp] theorem setBay_out {a0 a1 s} : (setBay a0 a1 s).out = s.out := setBay_keeps.out rfl
@[simp] theorem setBay_free {a0 a1 s} : (setBay a0 a1 s).free = s.free := setBay_keeps.free rfl
@[simp] theorem setBay_time {a0 a1 s} : (setBay a0 a1 s).time = s.time := setBay_keeps.time rfl
@[simp] theorem setBay_evt {a0 a1 s} : (setBay a0 a1 s).evt = s.evt := setBay_keeps.evt rfl
@[simp] theorem setBay_datum {a0 a1 s} : (setBay a0 a1 s).datum = s.datum := setBay_keeps.datum rfl
@[simp] theorem setBay_pwr {a0 a1 s} : (setBay a0 a1 s).pwr = s.pwr := setBay_keeps.pwr rfl
@[simp] theorem setBay_arch {a0 a1 s} : (setBay a0 a1 s).arch = s.arch := setBay_keeps.arch rfl
@[simp] theorem setBay_trust {a0 a1 s} : (setBay a0 a1 s).trust = s.trust := setBay_keeps.trust rfl
@[simp] theorem setBay_vault {a0 a1 s} : (setBay a0 a1 s).vault = s.vault := setBay_keeps.vault rfl
@[simp] theorem setBay_nvm {a0 a1 s} : (setBay a0 a1 s).nvm = s.nvm := setBay_keeps.nvm rfl
@[simp] theorem setBay_store {a0 a1 s} : (setBay a0 a1 s).store = s.store := setBay_keeps.store rfl
@[simp] theorem setBay_trav {a0 a1 s} : (setBay a0 a1 s).trav = s.trav := setBay_keeps.trav rfl
@[simp] theorem setBay_pair {a0 a1 s} : (setBay a0 a1 s).pair = s.pair := setBay_keeps.pair rfl
@[simp] theorem setBay_zeb {a0 a1 s} : (setBay a0 a1 s).zeb = s.zeb := setBay_keeps.zeb rfl
@[simp] theorem setBay_win {a0 a1 s} : (setBay a0 a1 s).win = s.win := setBay_keeps.win rfl
@[simp] theorem setBay_ep {a0 a1 s} : (setBay a0 a1 s).ep = s.ep := setBay_keeps.ep rfl
@[simp] theorem setBay_ks {a0 a1 s} : (setBay a0 a1 s).ks = s.ks := setBay_keeps.ks rfl
@[simp] theorem setBay_xp {a0 a1 s} : (setBay a0 a1 s).xp = s.xp := setBay_keeps.xp rfl
@[simp] theorem setBay_net {a0 a1 s} : (setBay a0 a1 s).net = s.net := setBay_keeps.net rfl
@[simp] theorem setBay_ciph {a0 a1 s} : (setBay a0 a1 s).ciph = s.ciph := setBay_keeps.ciph rfl
@[simp] theorem setBay_pending {a0 a1 s} : (setBay a0 a1 s).pending = s.pending := setBay_keeps.pending

@[simp] theorem bpEvent_sels {a0 a1 a2 s} : (bpEvent a0 a1 a2 s).sels = s.sels := bpEvent_keeps.sels rfl
@[simp] theorem bpEvent_latches {a0 a1 a2 s} : (bpEvent a0 a1 a2 s).latches = s.latches := bpEvent_keeps.latches rfl
@[simp] theorem bpEvent_free {a0 a1 a2 s} : (bpEvent a0 a1 a2 s).free = s.free := bpEvent_keeps.free rfl
@[simp] theorem bpEvent_time {a0 a1 a2 s} : (bpEvent a0 a1 a2 s).time = s.time := bpEvent_keeps.time rfl
@[simp] theorem bpEvent_datum {a0 a1 a2 s} : (bpEvent a0 a1 a2 s).datum = s.datum := bpEvent_keeps.datum rfl
@[simp] theorem bpEvent_pwr {a0 a1 a2 s} : (bpEvent a0 a1 a2 s).pwr = s.pwr := bpEvent_keeps.pwr rfl
@[simp] theorem bpEvent_arch {a0 a1 a2 s} : (bpEvent a0 a1 a2 s).arch = s.arch := bpEvent_keeps.arch rfl
@[simp] theorem bpEvent_trust {a0 a1 a2 s} : (bpEvent a0 a1 a2 s).trust = s.trust := bpEvent_keeps.trust rfl
@[simp] theorem bpEvent_vault {a0 a1 a2 s} : (bpEvent a0 a1 a2 s).vault = s.vault := bpEvent_keeps.vault rfl
@[simp] theorem bpEvent_nvm {a0 a1 a2 s} : (bpEvent a0 a1 a2 s).nvm = s.nvm := bpEvent_keeps.nvm rfl
@[simp] theorem bpEvent_store {a0 a1 a2 s} : (bpEvent a0 a1 a2 s).store = s.store := bpEvent_keeps.store rfl
@[simp] theorem bpEvent_trav {a0 a1 a2 s} : (bpEvent a0 a1 a2 s).trav = s.trav := bpEvent_keeps.trav rfl
@[simp] theorem bpEvent_pair {a0 a1 a2 s} : (bpEvent a0 a1 a2 s).pair = s.pair := bpEvent_keeps.pair rfl
@[simp] theorem bpEvent_zeb {a0 a1 a2 s} : (bpEvent a0 a1 a2 s).zeb = s.zeb := bpEvent_keeps.zeb rfl
@[simp] theorem bpEvent_win {a0 a1 a2 s} : (bpEvent a0 a1 a2 s).win = s.win := bpEvent_keeps.win rfl
@[simp] theorem bpEvent_ks {a0 a1 a2 s} : (bpEvent a0 a1 a2 s).ks = s.ks := bpEvent_keeps.ks rfl
@[simp] theorem bpEvent_xp {a0 a1 a2 s} : (bpEvent a0 a1 a2 s).xp = s.xp := bpEvent_keeps.xp rfl
@[simp] theorem bpEvent_net {a0 a1 a2 s} : (bpEvent a0 a1 a2 s).net = s.net := bpEvent_keeps.net rfl
@[simp] theorem bpEvent_ciph {a0 a1 a2 s} : (bpEvent a0 a1 a2 s).ciph = s.ciph := bpEvent_keeps.ciph rfl
@[simp] theorem bpEvent_bay {a0 a1 a2 s} : (bpEvent a0 a1 a2 s).bay = s.bay := bpEvent_keeps.bay rfl
@[simp] theorem bpEvent_pending {a0 a1 a2 s} : (bpEvent a0 a1 a2 s).pending = s.pending := bpEvent_keeps.pending

@[simp] theorem bayMove_sels {a0 a1 s} : (bayMove a0 a1 s).sels = s.sels := bayMove_keeps.sels rfl
@[simp] theorem bayMove_latches {a0 a1 s} : (bayMove a0 a1 s).latches = s.latches := bayMove_keeps.latches rfl
@[simp] theorem bayMove_free {a0 a1 s} : (bayMove a0 a1 s).free = s.free := bayMove_keeps.free rfl
@[simp] theorem bayMove_time {a0 a1 s} : (bayMove a0 a1 s).time = s.time := bayMove_keeps.time rfl
@[simp] theorem bayMove_datum {a0 a1 s} : (bayMove a0 a1 s).datum = s.datum := bayMove_keeps.datum rfl
@[simp] theorem bayMove_pwr {a0 a1 s} : (bayMove a0 a1 s).pwr = s.pwr := bayMove_keeps.pwr rfl
@[simp] theorem bayMove_arch {a0 a1 s} : (bayMove a0 a1 s).arch = s.arch := bayMove_keeps.arch rfl
@[simp] theorem bayMove_trust {a0 a1 s} : (bayMove a0 a1 s).trust = s.trust := bayMove_keeps.trust rfl
@[simp] theorem bayMove_vault {a0 a1 s} : (bayMove a0 a1 s).vault = s.vault := bayMove_keeps.vault rfl
@[simp] theorem bayMove_nvm {a0 a1 s} : (bayMove a0 a1 s).nvm = s.nvm := bayMove_keeps.nvm rfl
@[simp] theorem bayMove_store {a0 a1 s} : (bayMove a0 a1 s).store = s.store := bayMove_keeps.store rfl
@[simp] theorem bayMove_trav {a0 a1 s} : (bayMove a0 a1 s).trav = s.trav := bayMove_keeps.trav rfl
@[simp] theorem bayMove_pair {a0 a1 s} : (bayMove a0 a1 s).pair = s.pair := bayMove_keeps.pair rfl
@[simp] theorem bayMove_zeb {a0 a1 s} : (bayMove a0 a1 s).zeb = s.zeb := bayMove_keeps.zeb rfl
@[simp] theorem bayMove_win {a0 a1 s} : (bayMove a0 a1 s).win = s.win := bayMove_keeps.win rfl
@[simp] theorem bayMove_ks {a0 a1 s} : (bayMove a0 a1 s).ks = s.ks := bayMove_keeps.ks rfl
@[simp] theorem bayMove_xp {a0 a1 s} : (bayMove a0 a1 s).xp = s.xp := bayMove_keeps.xp rfl
@[simp] theorem bayMove_net {a0 a1 s} : (bayMove a0 a1 s).net = s.net := bayMove_keeps.net rfl
@[simp] theorem bayMove_ciph {a0 a1 s} : (bayMove a0 a1 s).ciph = s.ciph := bayMove_keeps.ciph rfl
@[simp] theorem bayMove_pending {a0 a1 s} : (bayMove a0 a1 s).pending = s.pending := bayMove_keeps.pending

@[simp] theorem changeover_regs {a0 a1 s} : (changeover a0 a1 s).regs = s.regs := changeover_keeps.regs rfl
@[simp] theorem changeover_sels {a0 a1 s} : (changeover a0 a1 s).sels = s.sels := changeover_keeps.sels rfl
@[simp] theorem changeover_latches {a0 a1 s} : (changeover a0 a1 s).latches = s.latches := changeover_keeps.latches rfl
@[simp] theorem changeover_out {a0 a1 s} : (changeover a0 a1 s).out = s.out := changeover_keeps.out rfl
@[simp] theorem changeover_free {a0 a1 s} : (changeover a0 a1 s).free = s.free := changeover_keeps.free rfl
@[simp] theorem changeover_time {a0 a1 s} : (changeover a0 a1 s).time = s.time := changeover_keeps.time rfl
@[simp] theorem changeover_evt {a0 a1 s} : (changeover a0 a1 s).evt = s.evt := changeover_keeps.evt rfl
@[simp] theorem changeover_datum {a0 a1 s} : (changeover a0 a1 s).datum = s.datum := changeover_keeps.datum rfl
@[simp] theorem changeover_pwr {a0 a1 s} : (changeover a0 a1 s).pwr = s.pwr := changeover_keeps.pwr rfl
@[simp] theorem changeover_arch {a0 a1 s} : (changeover a0 a1 s).arch = s.arch := changeover_keeps.arch rfl
@[simp] theorem changeover_trust {a0 a1 s} : (changeover a0 a1 s).trust = s.trust := changeover_keeps.trust rfl
@[simp] theorem changeover_vault {a0 a1 s} : (changeover a0 a1 s).vault = s.vault := changeover_keeps.vault rfl
@[simp] theorem changeover_nvm {a0 a1 s} : (changeover a0 a1 s).nvm = s.nvm := changeover_keeps.nvm rfl
@[simp] theorem changeover_store {a0 a1 s} : (changeover a0 a1 s).store = s.store := changeover_keeps.store rfl
@[simp] theorem changeover_trav {a0 a1 s} : (changeover a0 a1 s).trav = s.trav := changeover_keeps.trav rfl
@[simp] theorem changeover_pair {a0 a1 s} : (changeover a0 a1 s).pair = s.pair := changeover_keeps.pair rfl
@[simp] theorem changeover_zeb {a0 a1 s} : (changeover a0 a1 s).zeb = s.zeb := changeover_keeps.zeb rfl
@[simp] theorem changeover_win {a0 a1 s} : (changeover a0 a1 s).win = s.win := changeover_keeps.win rfl
@[simp] theorem changeover_ep {a0 a1 s} : (changeover a0 a1 s).ep = s.ep := changeover_keeps.ep rfl
@[simp] theorem changeover_ks {a0 a1 s} : (changeover a0 a1 s).ks = s.ks := changeover_keeps.ks rfl
@[simp] theorem changeover_xp {a0 a1 s} : (changeover a0 a1 s).xp = s.xp := changeover_keeps.xp rfl
@[simp] theorem changeover_net {a0 a1 s} : (changeover a0 a1 s).net = s.net := changeover_keeps.net rfl
@[simp] theorem changeover_ciph {a0 a1 s} : (changeover a0 a1 s).ciph = s.ciph := changeover_keeps.ciph rfl
@[simp] theorem changeover_pending {a0 a1 s} : (changeover a0 a1 s).pending = s.pending := changeover_keeps.pending

@[simp] theorem modSide_regs {a0 s} : (modSide a0 s).regs = s.regs := modSide_keeps.regs rfl
@[simp] theorem modSide_sels {a0 s} : (modSide a0 s).sels = s.sels := modSide_keeps.sels rfl
@[simp] theorem modSide_latches {a0 s} : (modSide a0 s).latches = s.latches := modSide_keeps.latches rfl
@[simp] theorem modSide_out {a0 s} : (modSide a0 s).out = s.out := modSide_keeps.out rfl
@[simp] theorem modSide_free {a0 s} : (modSide a0 s).free = s.free := modSide_keeps.free rfl
@[simp] theorem modSide_time {a0 s} : (modSide a0 s).time = s.time := modSide_keeps.time rfl
@[simp] theorem modSide_evt {a0 s} : (modSide a0 s).evt = s.evt := modSide_keeps.evt rfl
@[simp] theorem modSide_datum {a0 s} : (modSide a0 s).datum = s.datum := modSide_keeps.datum rfl
@[simp] theorem modSide_pwr {a0 s} : (modSide a0 s).pwr = s.pwr := modSide_keeps.pwr rfl
@[simp] theorem modSide_arch {a0 s} : (modSide a0 s).arch = s.arch := modSide_keeps.arch rfl
@[simp] theorem modSide_trust {a0 s} : (modSide a0 s).trust = s.trust := modSide_keeps.trust rfl
@[simp] theorem modSide_vault {a0 s} : (modSide a0 s).vault = s.vault := modSide_keeps.vault rfl
@[simp] theorem modSide_nvm {a0 s} : (modSide a0 s).nvm = s.nvm := modSide_keeps.nvm rfl
@[simp] theorem modSide_store {a0 s} : (modSide a0 s).store = s.store := modSide_keeps.store rfl
@[simp] theorem modSide_trav {a0 s} : (modSide a0 s).trav = s.trav := modSide_keeps.trav rfl
@[simp] theorem modSide_pair {a0 s} : (modSide a0 s).pair = s.pair := modSide_keeps.pair rfl
@[simp] theorem modSide_zeb {a0 s} : (modSide a0 s).zeb = s.zeb := modSide_keeps.zeb rfl
@[simp] theorem modSide_win {a0 s} : (modSide a0 s).win = s.win := modSide_keeps.win rfl
@[simp] theorem modSide_ep {a0 s} : (modSide a0 s).ep = s.ep := modSide_keeps.ep rfl
@[simp] theorem modSide_ks {a0 s} : (modSide a0 s).ks = s.ks := modSide_keeps.ks rfl
@[simp] theorem modSide_xp {a0 s} : (modSide a0 s).xp = s.xp := modSide_keeps.xp rfl
@[simp] theorem modSide_net {a0 s} : (modSide a0 s).net = s.net := modSide_keeps.net rfl
@[simp] theorem modSide_ciph {a0 s} : (modSide a0 s).ciph = s.ciph := modSide_keeps.ciph rfl
@[simp] theorem modSide_pending {a0 s} : (modSide a0 s).pending = s.pending := modSide_keeps.pending

@[simp] theorem putImage_sels {a0 a1 a2 s} : (putImage a0 a1 a2 s).sels = s.sels := putImage_keeps.sels rfl
@[simp] theorem putImage_latches {a0 a1 a2 s} : (putImage a0 a1 a2 s).latches = s.latches := putImage_keeps.latches rfl
@[simp] theorem putImage_out {a0 a1 a2 s} : (putImage a0 a1 a2 s).out = s.out := putImage_keeps.out rfl
@[simp] theorem putImage_free {a0 a1 a2 s} : (putImage a0 a1 a2 s).free = s.free := putImage_keeps.free rfl
@[simp] theorem putImage_time {a0 a1 a2 s} : (putImage a0 a1 a2 s).time = s.time := putImage_keeps.time rfl
@[simp] theorem putImage_evt {a0 a1 a2 s} : (putImage a0 a1 a2 s).evt = s.evt := putImage_keeps.evt rfl
@[simp] theorem putImage_datum {a0 a1 a2 s} : (putImage a0 a1 a2 s).datum = s.datum := putImage_keeps.datum rfl
@[simp] theorem putImage_pwr {a0 a1 a2 s} : (putImage a0 a1 a2 s).pwr = s.pwr := putImage_keeps.pwr rfl
@[simp] theorem putImage_arch {a0 a1 a2 s} : (putImage a0 a1 a2 s).arch = s.arch := putImage_keeps.arch rfl
@[simp] theorem putImage_trust {a0 a1 a2 s} : (putImage a0 a1 a2 s).trust = s.trust := putImage_keeps.trust rfl
@[simp] theorem putImage_vault {a0 a1 a2 s} : (putImage a0 a1 a2 s).vault = s.vault := putImage_keeps.vault rfl
@[simp] theorem putImage_nvm {a0 a1 a2 s} : (putImage a0 a1 a2 s).nvm = s.nvm := putImage_keeps.nvm rfl
@[simp] theorem putImage_store {a0 a1 a2 s} : (putImage a0 a1 a2 s).store = s.store := putImage_keeps.store rfl
@[simp] theorem putImage_trav {a0 a1 a2 s} : (putImage a0 a1 a2 s).trav = s.trav := putImage_keeps.trav rfl
@[simp] theorem putImage_pair {a0 a1 a2 s} : (putImage a0 a1 a2 s).pair = s.pair := putImage_keeps.pair rfl
@[simp] theorem putImage_zeb {a0 a1 a2 s} : (putImage a0 a1 a2 s).zeb = s.zeb := putImage_keeps.zeb rfl
@[simp] theorem putImage_win {a0 a1 a2 s} : (putImage a0 a1 a2 s).win = s.win := putImage_keeps.win rfl
@[simp] theorem putImage_ep {a0 a1 a2 s} : (putImage a0 a1 a2 s).ep = s.ep := putImage_keeps.ep rfl
@[simp] theorem putImage_ks {a0 a1 a2 s} : (putImage a0 a1 a2 s).ks = s.ks := putImage_keeps.ks rfl
@[simp] theorem putImage_xp {a0 a1 a2 s} : (putImage a0 a1 a2 s).xp = s.xp := putImage_keeps.xp rfl
@[simp] theorem putImage_net {a0 a1 a2 s} : (putImage a0 a1 a2 s).net = s.net := putImage_keeps.net rfl
@[simp] theorem putImage_ciph {a0 a1 a2 s} : (putImage a0 a1 a2 s).ciph = s.ciph := putImage_keeps.ciph rfl
@[simp] theorem putImage_bay {a0 a1 a2 s} : (putImage a0 a1 a2 s).bay = s.bay := putImage_keeps.bay rfl
@[simp] theorem putImage_pending {a0 a1 a2 s} : (putImage a0 a1 a2 s).pending = s.pending := putImage_keeps.pending

@[simp] theorem setSa_regs {a0 a1 s} : (setSa a0 a1 s).regs = s.regs := setSa_keeps.regs rfl
@[simp] theorem setSa_sels {a0 a1 s} : (setSa a0 a1 s).sels = s.sels := setSa_keeps.sels rfl
@[simp] theorem setSa_latches {a0 a1 s} : (setSa a0 a1 s).latches = s.latches := setSa_keeps.latches rfl
@[simp] theorem setSa_out {a0 a1 s} : (setSa a0 a1 s).out = s.out := setSa_keeps.out rfl
@[simp] theorem setSa_free {a0 a1 s} : (setSa a0 a1 s).free = s.free := setSa_keeps.free rfl
@[simp] theorem setSa_time {a0 a1 s} : (setSa a0 a1 s).time = s.time := setSa_keeps.time rfl
@[simp] theorem setSa_evt {a0 a1 s} : (setSa a0 a1 s).evt = s.evt := setSa_keeps.evt rfl
@[simp] theorem setSa_datum {a0 a1 s} : (setSa a0 a1 s).datum = s.datum := setSa_keeps.datum rfl
@[simp] theorem setSa_pwr {a0 a1 s} : (setSa a0 a1 s).pwr = s.pwr := setSa_keeps.pwr rfl
@[simp] theorem setSa_arch {a0 a1 s} : (setSa a0 a1 s).arch = s.arch := setSa_keeps.arch rfl
@[simp] theorem setSa_trust {a0 a1 s} : (setSa a0 a1 s).trust = s.trust := setSa_keeps.trust rfl
@[simp] theorem setSa_vault {a0 a1 s} : (setSa a0 a1 s).vault = s.vault := setSa_keeps.vault rfl
@[simp] theorem setSa_nvm {a0 a1 s} : (setSa a0 a1 s).nvm = s.nvm := setSa_keeps.nvm rfl
@[simp] theorem setSa_store {a0 a1 s} : (setSa a0 a1 s).store = s.store := setSa_keeps.store rfl
@[simp] theorem setSa_trav {a0 a1 s} : (setSa a0 a1 s).trav = s.trav := setSa_keeps.trav rfl
@[simp] theorem setSa_pair {a0 a1 s} : (setSa a0 a1 s).pair = s.pair := setSa_keeps.pair rfl
@[simp] theorem setSa_zeb {a0 a1 s} : (setSa a0 a1 s).zeb = s.zeb := setSa_keeps.zeb rfl
@[simp] theorem setSa_win {a0 a1 s} : (setSa a0 a1 s).win = s.win := setSa_keeps.win rfl
@[simp] theorem setSa_ep {a0 a1 s} : (setSa a0 a1 s).ep = s.ep := setSa_keeps.ep rfl
@[simp] theorem setSa_ks {a0 a1 s} : (setSa a0 a1 s).ks = s.ks := setSa_keeps.ks rfl
@[simp] theorem setSa_xp {a0 a1 s} : (setSa a0 a1 s).xp = s.xp := setSa_keeps.xp rfl
@[simp] theorem setSa_net {a0 a1 s} : (setSa a0 a1 s).net = s.net := setSa_keeps.net rfl
@[simp] theorem setSa_bay {a0 a1 s} : (setSa a0 a1 s).bay = s.bay := setSa_keeps.bay rfl
@[simp] theorem setSa_pending {a0 a1 s} : (setSa a0 a1 s).pending = s.pending := setSa_keeps.pending

@[simp] theorem saStat_sels {a0 s} : (saStat a0 s).sels = s.sels := saStat_keeps.sels rfl
@[simp] theorem saStat_latches {a0 s} : (saStat a0 s).latches = s.latches := saStat_keeps.latches rfl
@[simp] theorem saStat_out {a0 s} : (saStat a0 s).out = s.out := saStat_keeps.out rfl
@[simp] theorem saStat_free {a0 s} : (saStat a0 s).free = s.free := saStat_keeps.free rfl
@[simp] theorem saStat_time {a0 s} : (saStat a0 s).time = s.time := saStat_keeps.time rfl
@[simp] theorem saStat_evt {a0 s} : (saStat a0 s).evt = s.evt := saStat_keeps.evt rfl
@[simp] theorem saStat_datum {a0 s} : (saStat a0 s).datum = s.datum := saStat_keeps.datum rfl
@[simp] theorem saStat_pwr {a0 s} : (saStat a0 s).pwr = s.pwr := saStat_keeps.pwr rfl
@[simp] theorem saStat_arch {a0 s} : (saStat a0 s).arch = s.arch := saStat_keeps.arch rfl
@[simp] theorem saStat_trust {a0 s} : (saStat a0 s).trust = s.trust := saStat_keeps.trust rfl
@[simp] theorem saStat_vault {a0 s} : (saStat a0 s).vault = s.vault := saStat_keeps.vault rfl
@[simp] theorem saStat_nvm {a0 s} : (saStat a0 s).nvm = s.nvm := saStat_keeps.nvm rfl
@[simp] theorem saStat_store {a0 s} : (saStat a0 s).store = s.store := saStat_keeps.store rfl
@[simp] theorem saStat_trav {a0 s} : (saStat a0 s).trav = s.trav := saStat_keeps.trav rfl
@[simp] theorem saStat_pair {a0 s} : (saStat a0 s).pair = s.pair := saStat_keeps.pair rfl
@[simp] theorem saStat_zeb {a0 s} : (saStat a0 s).zeb = s.zeb := saStat_keeps.zeb rfl
@[simp] theorem saStat_win {a0 s} : (saStat a0 s).win = s.win := saStat_keeps.win rfl
@[simp] theorem saStat_ep {a0 s} : (saStat a0 s).ep = s.ep := saStat_keeps.ep rfl
@[simp] theorem saStat_ks {a0 s} : (saStat a0 s).ks = s.ks := saStat_keeps.ks rfl
@[simp] theorem saStat_xp {a0 s} : (saStat a0 s).xp = s.xp := saStat_keeps.xp rfl
@[simp] theorem saStat_net {a0 s} : (saStat a0 s).net = s.net := saStat_keeps.net rfl
@[simp] theorem saStat_ciph {a0 s} : (saStat a0 s).ciph = s.ciph := saStat_keeps.ciph rfl
@[simp] theorem saStat_bay {a0 s} : (saStat a0 s).bay = s.bay := saStat_keeps.bay rfl
@[simp] theorem saStat_pending {a0 s} : (saStat a0 s).pending = s.pending := saStat_keeps.pending

@[simp] theorem keyStat_sels {a0 s} : (keyStat a0 s).sels = s.sels := keyStat_keeps.sels rfl
@[simp] theorem keyStat_latches {a0 s} : (keyStat a0 s).latches = s.latches := keyStat_keeps.latches rfl
@[simp] theorem keyStat_out {a0 s} : (keyStat a0 s).out = s.out := keyStat_keeps.out rfl
@[simp] theorem keyStat_free {a0 s} : (keyStat a0 s).free = s.free := keyStat_keeps.free rfl
@[simp] theorem keyStat_time {a0 s} : (keyStat a0 s).time = s.time := keyStat_keeps.time rfl
@[simp] theorem keyStat_evt {a0 s} : (keyStat a0 s).evt = s.evt := keyStat_keeps.evt rfl
@[simp] theorem keyStat_datum {a0 s} : (keyStat a0 s).datum = s.datum := keyStat_keeps.datum rfl
@[simp] theorem keyStat_pwr {a0 s} : (keyStat a0 s).pwr = s.pwr := keyStat_keeps.pwr rfl
@[simp] theorem keyStat_arch {a0 s} : (keyStat a0 s).arch = s.arch := keyStat_keeps.arch rfl
@[simp] theorem keyStat_trust {a0 s} : (keyStat a0 s).trust = s.trust := keyStat_keeps.trust rfl
@[simp] theorem keyStat_vault {a0 s} : (keyStat a0 s).vault = s.vault := keyStat_keeps.vault rfl
@[simp] theorem keyStat_nvm {a0 s} : (keyStat a0 s).nvm = s.nvm := keyStat_keeps.nvm rfl
@[simp] theorem keyStat_store {a0 s} : (keyStat a0 s).store = s.store := keyStat_keeps.store rfl
@[simp] theorem keyStat_trav {a0 s} : (keyStat a0 s).trav = s.trav := keyStat_keeps.trav rfl
@[simp] theorem keyStat_pair {a0 s} : (keyStat a0 s).pair = s.pair := keyStat_keeps.pair rfl
@[simp] theorem keyStat_zeb {a0 s} : (keyStat a0 s).zeb = s.zeb := keyStat_keeps.zeb rfl
@[simp] theorem keyStat_win {a0 s} : (keyStat a0 s).win = s.win := keyStat_keeps.win rfl
@[simp] theorem keyStat_ep {a0 s} : (keyStat a0 s).ep = s.ep := keyStat_keeps.ep rfl
@[simp] theorem keyStat_ks {a0 s} : (keyStat a0 s).ks = s.ks := keyStat_keeps.ks rfl
@[simp] theorem keyStat_xp {a0 s} : (keyStat a0 s).xp = s.xp := keyStat_keeps.xp rfl
@[simp] theorem keyStat_net {a0 s} : (keyStat a0 s).net = s.net := keyStat_keeps.net rfl
@[simp] theorem keyStat_ciph {a0 s} : (keyStat a0 s).ciph = s.ciph := keyStat_keeps.ciph rfl
@[simp] theorem keyStat_bay {a0 s} : (keyStat a0 s).bay = s.bay := keyStat_keeps.bay rfl
@[simp] theorem keyStat_pending {a0 s} : (keyStat a0 s).pending = s.pending := keyStat_keeps.pending

@[simp] theorem refuseConnect_sels {a0 a1 a2 a3 s} : (refuseConnect a0 a1 a2 a3 s).sels = s.sels := refuseConnect_keeps.sels rfl
@[simp] theorem refuseConnect_latches {a0 a1 a2 a3 s} : (refuseConnect a0 a1 a2 a3 s).latches = s.latches := refuseConnect_keeps.latches rfl
@[simp] theorem refuseConnect_free {a0 a1 a2 a3 s} : (refuseConnect a0 a1 a2 a3 s).free = s.free := refuseConnect_keeps.free rfl
@[simp] theorem refuseConnect_time {a0 a1 a2 a3 s} : (refuseConnect a0 a1 a2 a3 s).time = s.time := refuseConnect_keeps.time rfl
@[simp] theorem refuseConnect_evt {a0 a1 a2 a3 s} : (refuseConnect a0 a1 a2 a3 s).evt = s.evt := refuseConnect_keeps.evt rfl
@[simp] theorem refuseConnect_datum {a0 a1 a2 a3 s} : (refuseConnect a0 a1 a2 a3 s).datum = s.datum := refuseConnect_keeps.datum rfl
@[simp] theorem refuseConnect_pwr {a0 a1 a2 a3 s} : (refuseConnect a0 a1 a2 a3 s).pwr = s.pwr := refuseConnect_keeps.pwr rfl
@[simp] theorem refuseConnect_arch {a0 a1 a2 a3 s} : (refuseConnect a0 a1 a2 a3 s).arch = s.arch := refuseConnect_keeps.arch rfl
@[simp] theorem refuseConnect_trust {a0 a1 a2 a3 s} : (refuseConnect a0 a1 a2 a3 s).trust = s.trust := refuseConnect_keeps.trust rfl
@[simp] theorem refuseConnect_vault {a0 a1 a2 a3 s} : (refuseConnect a0 a1 a2 a3 s).vault = s.vault := refuseConnect_keeps.vault rfl
@[simp] theorem refuseConnect_nvm {a0 a1 a2 a3 s} : (refuseConnect a0 a1 a2 a3 s).nvm = s.nvm := refuseConnect_keeps.nvm rfl
@[simp] theorem refuseConnect_store {a0 a1 a2 a3 s} : (refuseConnect a0 a1 a2 a3 s).store = s.store := refuseConnect_keeps.store rfl
@[simp] theorem refuseConnect_trav {a0 a1 a2 a3 s} : (refuseConnect a0 a1 a2 a3 s).trav = s.trav := refuseConnect_keeps.trav rfl
@[simp] theorem refuseConnect_pair {a0 a1 a2 a3 s} : (refuseConnect a0 a1 a2 a3 s).pair = s.pair := refuseConnect_keeps.pair rfl
@[simp] theorem refuseConnect_zeb {a0 a1 a2 a3 s} : (refuseConnect a0 a1 a2 a3 s).zeb = s.zeb := refuseConnect_keeps.zeb rfl
@[simp] theorem refuseConnect_win {a0 a1 a2 a3 s} : (refuseConnect a0 a1 a2 a3 s).win = s.win := refuseConnect_keeps.win rfl
@[simp] theorem refuseConnect_ks {a0 a1 a2 a3 s} : (refuseConnect a0 a1 a2 a3 s).ks = s.ks := refuseConnect_keeps.ks rfl
@[simp] theorem refuseConnect_net {a0 a1 a2 a3 s} : (refuseConnect a0 a1 a2 a3 s).net = s.net := refuseConnect_keeps.net rfl
@[simp] theorem refuseConnect_ciph {a0 a1 a2 a3 s} : (refuseConnect a0 a1 a2 a3 s).ciph = s.ciph := refuseConnect_keeps.ciph rfl
@[simp] theorem refuseConnect_bay {a0 a1 a2 a3 s} : (refuseConnect a0 a1 a2 a3 s).bay = s.bay := refuseConnect_keeps.bay rfl
@[simp] theorem refuseConnect_pending {a0 a1 a2 a3 s} : (refuseConnect a0 a1 a2 a3 s).pending = s.pending := refuseConnect_keeps.pending

@[simp] theorem adminDone_sels {a0 a1 a2 a3 a4 a5 s} : (adminDone a0 a1 a2 a3 a4 a5 s).sels = s.sels := adminDone_keeps.sels rfl
@[simp] theorem adminDone_latches {a0 a1 a2 a3 a4 a5 s} : (adminDone a0 a1 a2 a3 a4 a5 s).latches = s.latches := adminDone_keeps.latches rfl
@[simp] theorem adminDone_free {a0 a1 a2 a3 a4 a5 s} : (adminDone a0 a1 a2 a3 a4 a5 s).free = s.free := adminDone_keeps.free rfl
@[simp] theorem adminDone_time {a0 a1 a2 a3 a4 a5 s} : (adminDone a0 a1 a2 a3 a4 a5 s).time = s.time := adminDone_keeps.time rfl
@[simp] theorem adminDone_datum {a0 a1 a2 a3 a4 a5 s} : (adminDone a0 a1 a2 a3 a4 a5 s).datum = s.datum := adminDone_keeps.datum rfl
@[simp] theorem adminDone_pwr {a0 a1 a2 a3 a4 a5 s} : (adminDone a0 a1 a2 a3 a4 a5 s).pwr = s.pwr := adminDone_keeps.pwr rfl
@[simp] theorem adminDone_arch {a0 a1 a2 a3 a4 a5 s} : (adminDone a0 a1 a2 a3 a4 a5 s).arch = s.arch := adminDone_keeps.arch rfl
@[simp] theorem adminDone_trust {a0 a1 a2 a3 a4 a5 s} : (adminDone a0 a1 a2 a3 a4 a5 s).trust = s.trust := adminDone_keeps.trust rfl
@[simp] theorem adminDone_vault {a0 a1 a2 a3 a4 a5 s} : (adminDone a0 a1 a2 a3 a4 a5 s).vault = s.vault := adminDone_keeps.vault rfl
@[simp] theorem adminDone_nvm {a0 a1 a2 a3 a4 a5 s} : (adminDone a0 a1 a2 a3 a4 a5 s).nvm = s.nvm := adminDone_keeps.nvm rfl
@[simp] theorem adminDone_store {a0 a1 a2 a3 a4 a5 s} : (adminDone a0 a1 a2 a3 a4 a5 s).store = s.store := adminDone_keeps.store rfl
@[simp] theorem adminDone_trav {a0 a1 a2 a3 a4 a5 s} : (adminDone a0 a1 a2 a3 a4 a5 s).trav = s.trav := adminDone_keeps.trav rfl
@[simp] theorem adminDone_pair {a0 a1 a2 a3 a4 a5 s} : (adminDone a0 a1 a2 a3 a4 a5 s).pair = s.pair := adminDone_keeps.pair rfl
@[simp] theorem adminDone_zeb {a0 a1 a2 a3 a4 a5 s} : (adminDone a0 a1 a2 a3 a4 a5 s).zeb = s.zeb := adminDone_keeps.zeb rfl
@[simp] theorem adminDone_win {a0 a1 a2 a3 a4 a5 s} : (adminDone a0 a1 a2 a3 a4 a5 s).win = s.win := adminDone_keeps.win rfl
@[simp] theorem adminDone_ks {a0 a1 a2 a3 a4 a5 s} : (adminDone a0 a1 a2 a3 a4 a5 s).ks = s.ks := adminDone_keeps.ks rfl
@[simp] theorem adminDone_net {a0 a1 a2 a3 a4 a5 s} : (adminDone a0 a1 a2 a3 a4 a5 s).net = s.net := adminDone_keeps.net rfl
@[simp] theorem adminDone_ciph {a0 a1 a2 a3 a4 a5 s} : (adminDone a0 a1 a2 a3 a4 a5 s).ciph = s.ciph := adminDone_keeps.ciph rfl
@[simp] theorem adminDone_bay {a0 a1 a2 a3 a4 a5 s} : (adminDone a0 a1 a2 a3 a4 a5 s).bay = s.bay := adminDone_keeps.bay rfl
@[simp] theorem adminDone_pending {a0 a1 a2 a3 a4 a5 s} : (adminDone a0 a1 a2 a3 a4 a5 s).pending = s.pending := adminDone_keeps.pending

@[simp] theorem admitAll_sels {s} : (admitAll s).sels = s.sels := admitAll_keeps.sels rfl
@[simp] theorem admitAll_latches {s} : (admitAll s).latches = s.latches := admitAll_keeps.latches rfl
@[simp] theorem admitAll_time {s} : (admitAll s).time = s.time := admitAll_keeps.time rfl
@[simp] theorem admitAll_datum {s} : (admitAll s).datum = s.datum := admitAll_keeps.datum rfl
@[simp] theorem admitAll_pwr {s} : (admitAll s).pwr = s.pwr := admitAll_keeps.pwr rfl
@[simp] theorem admitAll_arch {s} : (admitAll s).arch = s.arch := admitAll_keeps.arch rfl
@[simp] theorem admitAll_trust {s} : (admitAll s).trust = s.trust := admitAll_keeps.trust rfl
@[simp] theorem admitAll_vault {s} : (admitAll s).vault = s.vault := admitAll_keeps.vault rfl
@[simp] theorem admitAll_net {s} : (admitAll s).net = s.net := admitAll_keeps.net rfl
@[simp] theorem admitAll_pending {s} : (admitAll s).pending = s.pending := admitAll_keeps.pending

@[simp] theorem setPairState_sels {a0 s} : (setPairState a0 s).sels = s.sels := setPairState_keeps.sels rfl
@[simp] theorem setPairState_latches {a0 s} : (setPairState a0 s).latches = s.latches := setPairState_keeps.latches rfl
@[simp] theorem setPairState_free {a0 s} : (setPairState a0 s).free = s.free := setPairState_keeps.free rfl
@[simp] theorem setPairState_time {a0 s} : (setPairState a0 s).time = s.time := setPairState_keeps.time rfl
@[simp] theorem setPairState_datum {a0 s} : (setPairState a0 s).datum = s.datum := setPairState_keeps.datum rfl
@[simp] theorem setPairState_pwr {a0 s} : (setPairState a0 s).pwr = s.pwr := setPairState_keeps.pwr rfl
@[simp] theorem setPairState_arch {a0 s} : (setPairState a0 s).arch = s.arch := setPairState_keeps.arch rfl
@[simp] theorem setPairState_trust {a0 s} : (setPairState a0 s).trust = s.trust := setPairState_keeps.trust rfl
@[simp] theorem setPairState_vault {a0 s} : (setPairState a0 s).vault = s.vault := setPairState_keeps.vault rfl
@[simp] theorem setPairState_nvm {a0 s} : (setPairState a0 s).nvm = s.nvm := setPairState_keeps.nvm rfl
@[simp] theorem setPairState_store {a0 s} : (setPairState a0 s).store = s.store := setPairState_keeps.store rfl
@[simp] theorem setPairState_trav {a0 s} : (setPairState a0 s).trav = s.trav := setPairState_keeps.trav rfl
@[simp] theorem setPairState_zeb {a0 s} : (setPairState a0 s).zeb = s.zeb := setPairState_keeps.zeb rfl
@[simp] theorem setPairState_win {a0 s} : (setPairState a0 s).win = s.win := setPairState_keeps.win rfl
@[simp] theorem setPairState_ks {a0 s} : (setPairState a0 s).ks = s.ks := setPairState_keeps.ks rfl
@[simp] theorem setPairState_xp {a0 s} : (setPairState a0 s).xp = s.xp := setPairState_keeps.xp rfl
@[simp] theorem setPairState_net {a0 s} : (setPairState a0 s).net = s.net := setPairState_keeps.net rfl
@[simp] theorem setPairState_ciph {a0 s} : (setPairState a0 s).ciph = s.ciph := setPairState_keeps.ciph rfl
@[simp] theorem setPairState_bay {a0 s} : (setPairState a0 s).bay = s.bay := setPairState_keeps.bay rfl
@[simp] theorem setPairState_pending {a0 s} : (setPairState a0 s).pending = s.pending := setPairState_keeps.pending

@[simp] theorem partnerLost_sels {a0 s} : (partnerLost a0 s).sels = s.sels := partnerLost_keeps.sels rfl
@[simp] theorem partnerLost_latches {a0 s} : (partnerLost a0 s).latches = s.latches := partnerLost_keeps.latches rfl
@[simp] theorem partnerLost_time {a0 s} : (partnerLost a0 s).time = s.time := partnerLost_keeps.time rfl
@[simp] theorem partnerLost_pwr {a0 s} : (partnerLost a0 s).pwr = s.pwr := partnerLost_keeps.pwr rfl
@[simp] theorem partnerLost_arch {a0 s} : (partnerLost a0 s).arch = s.arch := partnerLost_keeps.arch rfl
@[simp] theorem partnerLost_trust {a0 s} : (partnerLost a0 s).trust = s.trust := partnerLost_keeps.trust rfl
@[simp] theorem partnerLost_net {a0 s} : (partnerLost a0 s).net = s.net := partnerLost_keeps.net rfl
@[simp] theorem partnerLost_pending {a0 s} : (partnerLost a0 s).pending = s.pending := partnerLost_keeps.pending

@[simp] theorem feed_regs {s} : (feed s).regs = s.regs := feed_keeps.regs rfl
@[simp] theorem feed_sels {s} : (feed s).sels = s.sels := feed_keeps.sels rfl
@[simp] theorem feed_latches {s} : (feed s).latches = s.latches := feed_keeps.latches rfl
@[simp] theorem feed_out {s} : (feed s).out = s.out := feed_keeps.out rfl
@[simp] theorem feed_free {s} : (feed s).free = s.free := feed_keeps.free rfl
@[simp] theorem feed_time {s} : (feed s).time = s.time := feed_keeps.time rfl
@[simp] theorem feed_evt {s} : (feed s).evt = s.evt := feed_keeps.evt rfl
@[simp] theorem feed_datum {s} : (feed s).datum = s.datum := feed_keeps.datum rfl
@[simp] theorem feed_pwr {s} : (feed s).pwr = s.pwr := feed_keeps.pwr rfl
@[simp] theorem feed_arch {s} : (feed s).arch = s.arch := feed_keeps.arch rfl
@[simp] theorem feed_trust {s} : (feed s).trust = s.trust := feed_keeps.trust rfl
@[simp] theorem feed_vault {s} : (feed s).vault = s.vault := feed_keeps.vault rfl
@[simp] theorem feed_nvm {s} : (feed s).nvm = s.nvm := feed_keeps.nvm rfl
@[simp] theorem feed_store {s} : (feed s).store = s.store := feed_keeps.store rfl
@[simp] theorem feed_trav {s} : (feed s).trav = s.trav := feed_keeps.trav rfl
@[simp] theorem feed_pair {s} : (feed s).pair = s.pair := feed_keeps.pair rfl
@[simp] theorem feed_zeb {s} : (feed s).zeb = s.zeb := feed_keeps.zeb rfl
@[simp] theorem feed_win {s} : (feed s).win = s.win := feed_keeps.win rfl
@[simp] theorem feed_ep {s} : (feed s).ep = s.ep := feed_keeps.ep rfl
@[simp] theorem feed_ks {s} : (feed s).ks = s.ks := feed_keeps.ks rfl
@[simp] theorem feed_xp {s} : (feed s).xp = s.xp := feed_keeps.xp rfl
@[simp] theorem feed_ciph {s} : (feed s).ciph = s.ciph := feed_keeps.ciph rfl
@[simp] theorem feed_bay {s} : (feed s).bay = s.bay := feed_keeps.bay rfl
@[simp] theorem feed_pending {s} : (feed s).pending = s.pending := feed_keeps.pending

@[simp] theorem netGroupDown_sels {a0 s} : (netGroupDown a0 s).sels = s.sels := netGroupDown_keeps.sels rfl
@[simp] theorem netGroupDown_latches {a0 s} : (netGroupDown a0 s).latches = s.latches := netGroupDown_keeps.latches rfl
@[simp] theorem netGroupDown_free {a0 s} : (netGroupDown a0 s).free = s.free := netGroupDown_keeps.free rfl
@[simp] theorem netGroupDown_time {a0 s} : (netGroupDown a0 s).time = s.time := netGroupDown_keeps.time rfl
@[simp] theorem netGroupDown_datum {a0 s} : (netGroupDown a0 s).datum = s.datum := netGroupDown_keeps.datum rfl
@[simp] theorem netGroupDown_pwr {a0 s} : (netGroupDown a0 s).pwr = s.pwr := netGroupDown_keeps.pwr rfl
@[simp] theorem netGroupDown_arch {a0 s} : (netGroupDown a0 s).arch = s.arch := netGroupDown_keeps.arch rfl
@[simp] theorem netGroupDown_trust {a0 s} : (netGroupDown a0 s).trust = s.trust := netGroupDown_keeps.trust rfl
@[simp] theorem netGroupDown_vault {a0 s} : (netGroupDown a0 s).vault = s.vault := netGroupDown_keeps.vault rfl
@[simp] theorem netGroupDown_nvm {a0 s} : (netGroupDown a0 s).nvm = s.nvm := netGroupDown_keeps.nvm rfl
@[simp] theorem netGroupDown_store {a0 s} : (netGroupDown a0 s).store = s.store := netGroupDown_keeps.store rfl
@[simp] theorem netGroupDown_trav {a0 s} : (netGroupDown a0 s).trav = s.trav := netGroupDown_keeps.trav rfl
@[simp] theorem netGroupDown_pair {a0 s} : (netGroupDown a0 s).pair = s.pair := netGroupDown_keeps.pair rfl
@[simp] theorem netGroupDown_zeb {a0 s} : (netGroupDown a0 s).zeb = s.zeb := netGroupDown_keeps.zeb rfl
@[simp] theorem netGroupDown_win {a0 s} : (netGroupDown a0 s).win = s.win := netGroupDown_keeps.win rfl
@[simp] theorem netGroupDown_ks {a0 s} : (netGroupDown a0 s).ks = s.ks := netGroupDown_keeps.ks rfl
@[simp] theorem netGroupDown_xp {a0 s} : (netGroupDown a0 s).xp = s.xp := netGroupDown_keeps.xp rfl
@[simp] theorem netGroupDown_ciph {a0 s} : (netGroupDown a0 s).ciph = s.ciph := netGroupDown_keeps.ciph rfl
@[simp] theorem netGroupDown_bay {a0 s} : (netGroupDown a0 s).bay = s.bay := netGroupDown_keeps.bay rfl
@[simp] theorem netGroupDown_pending {a0 s} : (netGroupDown a0 s).pending = s.pending := netGroupDown_keeps.pending

@[simp] theorem surpriseRemoval_sels {a0 s} : (surpriseRemoval a0 s).sels = s.sels := surpriseRemoval_keeps.sels rfl
@[simp] theorem surpriseRemoval_latches {a0 s} : (surpriseRemoval a0 s).latches = s.latches := surpriseRemoval_keeps.latches rfl
@[simp] theorem surpriseRemoval_free {a0 s} : (surpriseRemoval a0 s).free = s.free := surpriseRemoval_keeps.free rfl
@[simp] theorem surpriseRemoval_time {a0 s} : (surpriseRemoval a0 s).time = s.time := surpriseRemoval_keeps.time rfl
@[simp] theorem surpriseRemoval_datum {a0 s} : (surpriseRemoval a0 s).datum = s.datum := surpriseRemoval_keeps.datum rfl
@[simp] theorem surpriseRemoval_pwr {a0 s} : (surpriseRemoval a0 s).pwr = s.pwr := surpriseRemoval_keeps.pwr rfl
@[simp] theorem surpriseRemoval_arch {a0 s} : (surpriseRemoval a0 s).arch = s.arch := surpriseRemoval_keeps.arch rfl
@[simp] theorem surpriseRemoval_trust {a0 s} : (surpriseRemoval a0 s).trust = s.trust := surpriseRemoval_keeps.trust rfl
@[simp] theorem surpriseRemoval_vault {a0 s} : (surpriseRemoval a0 s).vault = s.vault := surpriseRemoval_keeps.vault rfl
@[simp] theorem surpriseRemoval_ks {a0 s} : (surpriseRemoval a0 s).ks = s.ks := surpriseRemoval_keeps.ks rfl
@[simp] theorem surpriseRemoval_net {a0 s} : (surpriseRemoval a0 s).net = s.net := surpriseRemoval_keeps.net rfl
@[simp] theorem surpriseRemoval_ciph {a0 s} : (surpriseRemoval a0 s).ciph = s.ciph := surpriseRemoval_keeps.ciph rfl
@[simp] theorem surpriseRemoval_pending {a0 s} : (surpriseRemoval a0 s).pending = s.pending := surpriseRemoval_keeps.pending

@[simp] theorem coldHold_free {a0 s} : (coldHold a0 s).free = s.free := coldHold_keeps.free rfl
@[simp] theorem coldHold_pending {a0 s} : (coldHold a0 s).pending = s.pending := coldHold_keeps.pending

@[simp] theorem warmReset_time {a0 s} : (warmReset a0 s).time = s.time := warmReset_keeps.time rfl
@[simp] theorem warmReset_arch {a0 s} : (warmReset a0 s).arch = s.arch := warmReset_keeps.arch rfl
@[simp] theorem warmReset_pending {a0 s} : (warmReset a0 s).pending = s.pending := warmReset_keeps.pending

@[simp] theorem setEngine_regs {a0 a1 s} : (setEngine a0 a1 s).regs = s.regs := setEngine_keeps.regs rfl
@[simp] theorem setEngine_sels {a0 a1 s} : (setEngine a0 a1 s).sels = s.sels := setEngine_keeps.sels rfl
@[simp] theorem setEngine_latches {a0 a1 s} : (setEngine a0 a1 s).latches = s.latches := setEngine_keeps.latches rfl
@[simp] theorem setEngine_out {a0 a1 s} : (setEngine a0 a1 s).out = s.out := setEngine_keeps.out rfl
@[simp] theorem setEngine_free {a0 a1 s} : (setEngine a0 a1 s).free = s.free := setEngine_keeps.free rfl
@[simp] theorem setEngine_time {a0 a1 s} : (setEngine a0 a1 s).time = s.time := setEngine_keeps.time rfl
@[simp] theorem setEngine_evt {a0 a1 s} : (setEngine a0 a1 s).evt = s.evt := setEngine_keeps.evt rfl
@[simp] theorem setEngine_datum {a0 a1 s} : (setEngine a0 a1 s).datum = s.datum := setEngine_keeps.datum rfl
@[simp] theorem setEngine_pwr {a0 a1 s} : (setEngine a0 a1 s).pwr = s.pwr := setEngine_keeps.pwr rfl
@[simp] theorem setEngine_arch {a0 a1 s} : (setEngine a0 a1 s).arch = s.arch := setEngine_keeps.arch rfl
@[simp] theorem setEngine_trust {a0 a1 s} : (setEngine a0 a1 s).trust = s.trust := setEngine_keeps.trust rfl
@[simp] theorem setEngine_vault {a0 a1 s} : (setEngine a0 a1 s).vault = s.vault := setEngine_keeps.vault rfl
@[simp] theorem setEngine_nvm {a0 a1 s} : (setEngine a0 a1 s).nvm = s.nvm := setEngine_keeps.nvm rfl
@[simp] theorem setEngine_store {a0 a1 s} : (setEngine a0 a1 s).store = s.store := setEngine_keeps.store rfl
@[simp] theorem setEngine_trav {a0 a1 s} : (setEngine a0 a1 s).trav = s.trav := setEngine_keeps.trav rfl
@[simp] theorem setEngine_pair {a0 a1 s} : (setEngine a0 a1 s).pair = s.pair := setEngine_keeps.pair rfl
@[simp] theorem setEngine_zeb {a0 a1 s} : (setEngine a0 a1 s).zeb = s.zeb := setEngine_keeps.zeb rfl
@[simp] theorem setEngine_win {a0 a1 s} : (setEngine a0 a1 s).win = s.win := setEngine_keeps.win rfl
@[simp] theorem setEngine_ep {a0 a1 s} : (setEngine a0 a1 s).ep = s.ep := setEngine_keeps.ep rfl
@[simp] theorem setEngine_ks {a0 a1 s} : (setEngine a0 a1 s).ks = s.ks := setEngine_keeps.ks rfl
@[simp] theorem setEngine_xp {a0 a1 s} : (setEngine a0 a1 s).xp = s.xp := setEngine_keeps.xp rfl
@[simp] theorem setEngine_ciph {a0 a1 s} : (setEngine a0 a1 s).ciph = s.ciph := setEngine_keeps.ciph rfl
@[simp] theorem setEngine_bay {a0 a1 s} : (setEngine a0 a1 s).bay = s.bay := setEngine_keeps.bay rfl
@[simp] theorem setEngine_pending {a0 a1 s} : (setEngine a0 a1 s).pending = s.pending := setEngine_keeps.pending

@[simp] theorem overrunOp_sels {a0 a1 s} : (overrunOp a0 a1 s).sels = s.sels := overrunOp_keeps.sels rfl
@[simp] theorem overrunOp_latches {a0 a1 s} : (overrunOp a0 a1 s).latches = s.latches := overrunOp_keeps.latches rfl
@[simp] theorem overrunOp_time {a0 a1 s} : (overrunOp a0 a1 s).time = s.time := overrunOp_keeps.time rfl
@[simp] theorem overrunOp_datum {a0 a1 s} : (overrunOp a0 a1 s).datum = s.datum := overrunOp_keeps.datum rfl
@[simp] theorem overrunOp_pwr {a0 a1 s} : (overrunOp a0 a1 s).pwr = s.pwr := overrunOp_keeps.pwr rfl
@[simp] theorem overrunOp_arch {a0 a1 s} : (overrunOp a0 a1 s).arch = s.arch := overrunOp_keeps.arch rfl
@[simp] theorem overrunOp_trust {a0 a1 s} : (overrunOp a0 a1 s).trust = s.trust := overrunOp_keeps.trust rfl
@[simp] theorem overrunOp_vault {a0 a1 s} : (overrunOp a0 a1 s).vault = s.vault := overrunOp_keeps.vault rfl
@[simp] theorem overrunOp_nvm {a0 a1 s} : (overrunOp a0 a1 s).nvm = s.nvm := overrunOp_keeps.nvm rfl
@[simp] theorem overrunOp_store {a0 a1 s} : (overrunOp a0 a1 s).store = s.store := overrunOp_keeps.store rfl
@[simp] theorem overrunOp_trav {a0 a1 s} : (overrunOp a0 a1 s).trav = s.trav := overrunOp_keeps.trav rfl
@[simp] theorem overrunOp_pair {a0 a1 s} : (overrunOp a0 a1 s).pair = s.pair := overrunOp_keeps.pair rfl
@[simp] theorem overrunOp_win {a0 a1 s} : (overrunOp a0 a1 s).win = s.win := overrunOp_keeps.win rfl
@[simp] theorem overrunOp_ks {a0 a1 s} : (overrunOp a0 a1 s).ks = s.ks := overrunOp_keeps.ks rfl
@[simp] theorem overrunOp_bay {a0 a1 s} : (overrunOp a0 a1 s).bay = s.bay := overrunOp_keeps.bay rfl
@[simp] theorem overrunOp_pending {a0 a1 s} : (overrunOp a0 a1 s).pending = s.pending := overrunOp_keeps.pending

@[simp] theorem runReg_sels {a0 a1 a2 s} : (runReg a0 a1 a2 s).sels = s.sels := runReg_keeps.sels rfl
@[simp] theorem runReg_latches {a0 a1 a2 s} : (runReg a0 a1 a2 s).latches = s.latches := runReg_keeps.latches rfl
@[simp] theorem runReg_time {a0 a1 a2 s} : (runReg a0 a1 a2 s).time = s.time := runReg_keeps.time rfl
@[simp] theorem runReg_datum {a0 a1 a2 s} : (runReg a0 a1 a2 s).datum = s.datum := runReg_keeps.datum rfl
@[simp] theorem runReg_pwr {a0 a1 a2 s} : (runReg a0 a1 a2 s).pwr = s.pwr := runReg_keeps.pwr rfl
@[simp] theorem runReg_arch {a0 a1 a2 s} : (runReg a0 a1 a2 s).arch = s.arch := runReg_keeps.arch rfl
@[simp] theorem runReg_trust {a0 a1 a2 s} : (runReg a0 a1 a2 s).trust = s.trust := runReg_keeps.trust rfl
@[simp] theorem runReg_vault {a0 a1 a2 s} : (runReg a0 a1 a2 s).vault = s.vault := runReg_keeps.vault rfl
@[simp] theorem runReg_nvm {a0 a1 a2 s} : (runReg a0 a1 a2 s).nvm = s.nvm := runReg_keeps.nvm rfl
@[simp] theorem runReg_store {a0 a1 a2 s} : (runReg a0 a1 a2 s).store = s.store := runReg_keeps.store rfl
@[simp] theorem runReg_trav {a0 a1 a2 s} : (runReg a0 a1 a2 s).trav = s.trav := runReg_keeps.trav rfl
@[simp] theorem runReg_pair {a0 a1 a2 s} : (runReg a0 a1 a2 s).pair = s.pair := runReg_keeps.pair rfl
@[simp] theorem runReg_win {a0 a1 a2 s} : (runReg a0 a1 a2 s).win = s.win := runReg_keeps.win rfl
@[simp] theorem runReg_ks {a0 a1 a2 s} : (runReg a0 a1 a2 s).ks = s.ks := runReg_keeps.ks rfl
@[simp] theorem runReg_bay {a0 a1 a2 s} : (runReg a0 a1 a2 s).bay = s.bay := runReg_keeps.bay rfl
@[simp] theorem runReg_pending {a0 a1 a2 s} : (runReg a0 a1 a2 s).pending = s.pending := runReg_keeps.pending

@[simp] theorem branch_regs {a0 a1 a2 a3 s} : (branch a0 a1 a2 a3 s).regs = s.regs := branch_keeps.regs rfl
@[simp] theorem branch_sels {a0 a1 a2 a3 s} : (branch a0 a1 a2 a3 s).sels = s.sels := branch_keeps.sels rfl
@[simp] theorem branch_latches {a0 a1 a2 a3 s} : (branch a0 a1 a2 a3 s).latches = s.latches := branch_keeps.latches rfl
@[simp] theorem branch_out {a0 a1 a2 a3 s} : (branch a0 a1 a2 a3 s).out = s.out := branch_keeps.out rfl
@[simp] theorem branch_free {a0 a1 a2 a3 s} : (branch a0 a1 a2 a3 s).free = s.free := branch_keeps.free rfl
@[simp] theorem branch_time {a0 a1 a2 a3 s} : (branch a0 a1 a2 a3 s).time = s.time := branch_keeps.time rfl
@[simp] theorem branch_evt {a0 a1 a2 a3 s} : (branch a0 a1 a2 a3 s).evt = s.evt := branch_keeps.evt rfl
@[simp] theorem branch_datum {a0 a1 a2 a3 s} : (branch a0 a1 a2 a3 s).datum = s.datum := branch_keeps.datum rfl
@[simp] theorem branch_pwr {a0 a1 a2 a3 s} : (branch a0 a1 a2 a3 s).pwr = s.pwr := branch_keeps.pwr rfl
@[simp] theorem branch_arch {a0 a1 a2 a3 s} : (branch a0 a1 a2 a3 s).arch = s.arch := branch_keeps.arch rfl
@[simp] theorem branch_trust {a0 a1 a2 a3 s} : (branch a0 a1 a2 a3 s).trust = s.trust := branch_keeps.trust rfl
@[simp] theorem branch_vault {a0 a1 a2 a3 s} : (branch a0 a1 a2 a3 s).vault = s.vault := branch_keeps.vault rfl
@[simp] theorem branch_nvm {a0 a1 a2 a3 s} : (branch a0 a1 a2 a3 s).nvm = s.nvm := branch_keeps.nvm rfl
@[simp] theorem branch_store {a0 a1 a2 a3 s} : (branch a0 a1 a2 a3 s).store = s.store := branch_keeps.store rfl
@[simp] theorem branch_trav {a0 a1 a2 a3 s} : (branch a0 a1 a2 a3 s).trav = s.trav := branch_keeps.trav rfl
@[simp] theorem branch_pair {a0 a1 a2 a3 s} : (branch a0 a1 a2 a3 s).pair = s.pair := branch_keeps.pair rfl
@[simp] theorem branch_zeb {a0 a1 a2 a3 s} : (branch a0 a1 a2 a3 s).zeb = s.zeb := branch_keeps.zeb rfl
@[simp] theorem branch_win {a0 a1 a2 a3 s} : (branch a0 a1 a2 a3 s).win = s.win := branch_keeps.win rfl
@[simp] theorem branch_ep {a0 a1 a2 a3 s} : (branch a0 a1 a2 a3 s).ep = s.ep := branch_keeps.ep rfl
@[simp] theorem branch_ks {a0 a1 a2 a3 s} : (branch a0 a1 a2 a3 s).ks = s.ks := branch_keeps.ks rfl
@[simp] theorem branch_xp {a0 a1 a2 a3 s} : (branch a0 a1 a2 a3 s).xp = s.xp := branch_keeps.xp rfl
@[simp] theorem branch_ciph {a0 a1 a2 a3 s} : (branch a0 a1 a2 a3 s).ciph = s.ciph := branch_keeps.ciph rfl
@[simp] theorem branch_bay {a0 a1 a2 a3 s} : (branch a0 a1 a2 a3 s).bay = s.bay := branch_keeps.bay rfl
@[simp] theorem branch_pending {a0 a1 a2 a3 s} : (branch a0 a1 a2 a3 s).pending = s.pending := branch_keeps.pending

@[simp] theorem rstResult_regs {a0 s} : (rstResult a0 s).regs = s.regs := rstResult_keeps.regs rfl
@[simp] theorem rstResult_sels {a0 s} : (rstResult a0 s).sels = s.sels := rstResult_keeps.sels rfl
@[simp] theorem rstResult_latches {a0 s} : (rstResult a0 s).latches = s.latches := rstResult_keeps.latches rfl
@[simp] theorem rstResult_out {a0 s} : (rstResult a0 s).out = s.out := rstResult_keeps.out rfl
@[simp] theorem rstResult_free {a0 s} : (rstResult a0 s).free = s.free := rstResult_keeps.free rfl
@[simp] theorem rstResult_time {a0 s} : (rstResult a0 s).time = s.time := rstResult_keeps.time rfl
@[simp] theorem rstResult_evt {a0 s} : (rstResult a0 s).evt = s.evt := rstResult_keeps.evt rfl
@[simp] theorem rstResult_datum {a0 s} : (rstResult a0 s).datum = s.datum := rstResult_keeps.datum rfl
@[simp] theorem rstResult_arch {a0 s} : (rstResult a0 s).arch = s.arch := rstResult_keeps.arch rfl
@[simp] theorem rstResult_trust {a0 s} : (rstResult a0 s).trust = s.trust := rstResult_keeps.trust rfl
@[simp] theorem rstResult_vault {a0 s} : (rstResult a0 s).vault = s.vault := rstResult_keeps.vault rfl
@[simp] theorem rstResult_nvm {a0 s} : (rstResult a0 s).nvm = s.nvm := rstResult_keeps.nvm rfl
@[simp] theorem rstResult_store {a0 s} : (rstResult a0 s).store = s.store := rstResult_keeps.store rfl
@[simp] theorem rstResult_trav {a0 s} : (rstResult a0 s).trav = s.trav := rstResult_keeps.trav rfl
@[simp] theorem rstResult_pair {a0 s} : (rstResult a0 s).pair = s.pair := rstResult_keeps.pair rfl
@[simp] theorem rstResult_zeb {a0 s} : (rstResult a0 s).zeb = s.zeb := rstResult_keeps.zeb rfl
@[simp] theorem rstResult_win {a0 s} : (rstResult a0 s).win = s.win := rstResult_keeps.win rfl
@[simp] theorem rstResult_ep {a0 s} : (rstResult a0 s).ep = s.ep := rstResult_keeps.ep rfl
@[simp] theorem rstResult_ks {a0 s} : (rstResult a0 s).ks = s.ks := rstResult_keeps.ks rfl
@[simp] theorem rstResult_xp {a0 s} : (rstResult a0 s).xp = s.xp := rstResult_keeps.xp rfl
@[simp] theorem rstResult_net {a0 s} : (rstResult a0 s).net = s.net := rstResult_keeps.net rfl
@[simp] theorem rstResult_ciph {a0 s} : (rstResult a0 s).ciph = s.ciph := rstResult_keeps.ciph rfl
@[simp] theorem rstResult_bay {a0 s} : (rstResult a0 s).bay = s.bay := rstResult_keeps.bay rfl
@[simp] theorem rstResult_pending {a0 s} : (rstResult a0 s).pending = s.pending := rstResult_keeps.pending

@[simp] theorem spdmReply_regs {a0 a1 a2 s} : (spdmReply a0 a1 a2 s).regs = s.regs := spdmReply_keeps.regs rfl
@[simp] theorem spdmReply_sels {a0 a1 a2 s} : (spdmReply a0 a1 a2 s).sels = s.sels := spdmReply_keeps.sels rfl
@[simp] theorem spdmReply_latches {a0 a1 a2 s} : (spdmReply a0 a1 a2 s).latches = s.latches := spdmReply_keeps.latches rfl
@[simp] theorem spdmReply_free {a0 a1 a2 s} : (spdmReply a0 a1 a2 s).free = s.free := spdmReply_keeps.free rfl
@[simp] theorem spdmReply_time {a0 a1 a2 s} : (spdmReply a0 a1 a2 s).time = s.time := spdmReply_keeps.time rfl
@[simp] theorem spdmReply_evt {a0 a1 a2 s} : (spdmReply a0 a1 a2 s).evt = s.evt := spdmReply_keeps.evt rfl
@[simp] theorem spdmReply_datum {a0 a1 a2 s} : (spdmReply a0 a1 a2 s).datum = s.datum := spdmReply_keeps.datum rfl
@[simp] theorem spdmReply_pwr {a0 a1 a2 s} : (spdmReply a0 a1 a2 s).pwr = s.pwr := spdmReply_keeps.pwr rfl
@[simp] theorem spdmReply_arch {a0 a1 a2 s} : (spdmReply a0 a1 a2 s).arch = s.arch := spdmReply_keeps.arch rfl
@[simp] theorem spdmReply_trust {a0 a1 a2 s} : (spdmReply a0 a1 a2 s).trust = s.trust := spdmReply_keeps.trust rfl
@[simp] theorem spdmReply_vault {a0 a1 a2 s} : (spdmReply a0 a1 a2 s).vault = s.vault := spdmReply_keeps.vault rfl
@[simp] theorem spdmReply_nvm {a0 a1 a2 s} : (spdmReply a0 a1 a2 s).nvm = s.nvm := spdmReply_keeps.nvm rfl
@[simp] theorem spdmReply_store {a0 a1 a2 s} : (spdmReply a0 a1 a2 s).store = s.store := spdmReply_keeps.store rfl
@[simp] theorem spdmReply_trav {a0 a1 a2 s} : (spdmReply a0 a1 a2 s).trav = s.trav := spdmReply_keeps.trav rfl
@[simp] theorem spdmReply_pair {a0 a1 a2 s} : (spdmReply a0 a1 a2 s).pair = s.pair := spdmReply_keeps.pair rfl
@[simp] theorem spdmReply_zeb {a0 a1 a2 s} : (spdmReply a0 a1 a2 s).zeb = s.zeb := spdmReply_keeps.zeb rfl
@[simp] theorem spdmReply_win {a0 a1 a2 s} : (spdmReply a0 a1 a2 s).win = s.win := spdmReply_keeps.win rfl
@[simp] theorem spdmReply_ep {a0 a1 a2 s} : (spdmReply a0 a1 a2 s).ep = s.ep := spdmReply_keeps.ep rfl
@[simp] theorem spdmReply_ks {a0 a1 a2 s} : (spdmReply a0 a1 a2 s).ks = s.ks := spdmReply_keeps.ks rfl
@[simp] theorem spdmReply_xp {a0 a1 a2 s} : (spdmReply a0 a1 a2 s).xp = s.xp := spdmReply_keeps.xp rfl
@[simp] theorem spdmReply_net {a0 a1 a2 s} : (spdmReply a0 a1 a2 s).net = s.net := spdmReply_keeps.net rfl
@[simp] theorem spdmReply_ciph {a0 a1 a2 s} : (spdmReply a0 a1 a2 s).ciph = s.ciph := spdmReply_keeps.ciph rfl
@[simp] theorem spdmReply_bay {a0 a1 a2 s} : (spdmReply a0 a1 a2 s).bay = s.bay := spdmReply_keeps.bay rfl
@[simp] theorem spdmReply_pending {a0 a1 a2 s} : (spdmReply a0 a1 a2 s).pending = s.pending := spdmReply_keeps.pending

@[simp] theorem vendorReply_regs {a0 a1 a2 a3 a4 s} : (vendorReply a0 a1 a2 a3 a4 s).regs = s.regs := vendorReply_keeps.regs rfl
@[simp] theorem vendorReply_sels {a0 a1 a2 a3 a4 s} : (vendorReply a0 a1 a2 a3 a4 s).sels = s.sels := vendorReply_keeps.sels rfl
@[simp] theorem vendorReply_latches {a0 a1 a2 a3 a4 s} : (vendorReply a0 a1 a2 a3 a4 s).latches = s.latches := vendorReply_keeps.latches rfl
@[simp] theorem vendorReply_free {a0 a1 a2 a3 a4 s} : (vendorReply a0 a1 a2 a3 a4 s).free = s.free := vendorReply_keeps.free rfl
@[simp] theorem vendorReply_time {a0 a1 a2 a3 a4 s} : (vendorReply a0 a1 a2 a3 a4 s).time = s.time := vendorReply_keeps.time rfl
@[simp] theorem vendorReply_evt {a0 a1 a2 a3 a4 s} : (vendorReply a0 a1 a2 a3 a4 s).evt = s.evt := vendorReply_keeps.evt rfl
@[simp] theorem vendorReply_datum {a0 a1 a2 a3 a4 s} : (vendorReply a0 a1 a2 a3 a4 s).datum = s.datum := vendorReply_keeps.datum rfl
@[simp] theorem vendorReply_pwr {a0 a1 a2 a3 a4 s} : (vendorReply a0 a1 a2 a3 a4 s).pwr = s.pwr := vendorReply_keeps.pwr rfl
@[simp] theorem vendorReply_arch {a0 a1 a2 a3 a4 s} : (vendorReply a0 a1 a2 a3 a4 s).arch = s.arch := vendorReply_keeps.arch rfl
@[simp] theorem vendorReply_trust {a0 a1 a2 a3 a4 s} : (vendorReply a0 a1 a2 a3 a4 s).trust = s.trust := vendorReply_keeps.trust rfl
@[simp] theorem vendorReply_vault {a0 a1 a2 a3 a4 s} : (vendorReply a0 a1 a2 a3 a4 s).vault = s.vault := vendorReply_keeps.vault rfl
@[simp] theorem vendorReply_nvm {a0 a1 a2 a3 a4 s} : (vendorReply a0 a1 a2 a3 a4 s).nvm = s.nvm := vendorReply_keeps.nvm rfl
@[simp] theorem vendorReply_store {a0 a1 a2 a3 a4 s} : (vendorReply a0 a1 a2 a3 a4 s).store = s.store := vendorReply_keeps.store rfl
@[simp] theorem vendorReply_trav {a0 a1 a2 a3 a4 s} : (vendorReply a0 a1 a2 a3 a4 s).trav = s.trav := vendorReply_keeps.trav rfl
@[simp] theorem vendorReply_pair {a0 a1 a2 a3 a4 s} : (vendorReply a0 a1 a2 a3 a4 s).pair = s.pair := vendorReply_keeps.pair rfl
@[simp] theorem vendorReply_zeb {a0 a1 a2 a3 a4 s} : (vendorReply a0 a1 a2 a3 a4 s).zeb = s.zeb := vendorReply_keeps.zeb rfl
@[simp] theorem vendorReply_win {a0 a1 a2 a3 a4 s} : (vendorReply a0 a1 a2 a3 a4 s).win = s.win := vendorReply_keeps.win rfl
@[simp] theorem vendorReply_ep {a0 a1 a2 a3 a4 s} : (vendorReply a0 a1 a2 a3 a4 s).ep = s.ep := vendorReply_keeps.ep rfl
@[simp] theorem vendorReply_ks {a0 a1 a2 a3 a4 s} : (vendorReply a0 a1 a2 a3 a4 s).ks = s.ks := vendorReply_keeps.ks rfl
@[simp] theorem vendorReply_xp {a0 a1 a2 a3 a4 s} : (vendorReply a0 a1 a2 a3 a4 s).xp = s.xp := vendorReply_keeps.xp rfl
@[simp] theorem vendorReply_net {a0 a1 a2 a3 a4 s} : (vendorReply a0 a1 a2 a3 a4 s).net = s.net := vendorReply_keeps.net rfl
@[simp] theorem vendorReply_ciph {a0 a1 a2 a3 a4 s} : (vendorReply a0 a1 a2 a3 a4 s).ciph = s.ciph := vendorReply_keeps.ciph rfl
@[simp] theorem vendorReply_bay {a0 a1 a2 a3 a4 s} : (vendorReply a0 a1 a2 a3 a4 s).bay = s.bay := vendorReply_keeps.bay rfl
@[simp] theorem vendorReply_pending {a0 a1 a2 a3 a4 s} : (vendorReply a0 a1 a2 a3 a4 s).pending = s.pending := vendorReply_keeps.pending

end Sys2Proof.Machine
end

