-- ==== Sys2Proof/Laws/Facts.lean ====
section
/-!
SUPPORT. Laws/Facts.lean: what the operations that many commands share leave in the parts they do touch: a FATAL, an accepted power
failure, a cold reset, a warm reset, a write of a command register.
-/
namespace Sys2Proof.Machine

/-- An accepted power failure stands, and what it leaves of the power unit. -/
theorem acceptPower_accepted (src : Nat) (s : State) : (acceptPower src s).vault.accepted = true := by
  unfold acceptPower
  split
  · assumption
  · simp [stopWork, abandonPending, apply_ite State.vault]

/-- The power unit once a power failure is accepted: service has stopped, and a start that had not ended has failed (R411). -/
theorem acceptPower_pwr (src : Nat) (s : State) : (acceptPower src s).pwr =
    if s.vault.accepted then s.pwr
    else { s.pwr with
      serving := false
      startFail := s.pwr.startFail || (src != 2 && ((!s.pwr.online && !s.vault.replaying) || s.vault.replaying)) } := by
  unfold acceptPower
  split
  · rfl
  · simp [stopWork, abandonPending, apply_ite State.pwr, apply_ite State.vault]

/-- The power unit after a FATAL. -/
theorem fatalEvent_pwr (code : Nat) (detail : List Nat) (dump : Bool) (s : State) :
    (fatalEvent code detail dump s).pwr =
      { s.pwr with fatal := true, fatalCode := code, admitStop := true, serving := false } := by
  unfold fatalEvent fatalStop
  simp only [apply_ite State.pwr, acceptPower_pwr]
  split
  · split <;> simp
  · simp

theorem fatalStop_pwr (code : Nat) (dump : Bool) (s : State) :
    (fatalStop code dump s).pwr = { s.pwr with fatal := true, fatalCode := code, admitStop := true, serving := false } := by
  unfold fatalStop
  simp only [apply_ite State.pwr, acceptPower_pwr]
  split
  · split <;> simp
  · simp

/-- A FATAL stops service. -/
theorem fatalEvent_stopped (code : Nat) (detail : List Nat) (dump : Bool) (s : State) :
    Stopped code (fatalEvent code detail dump s) := by
  unfold Stopped
  rw [fatalEvent_pwr]
  exact ⟨rfl, rfl, rfl, rfl⟩

/-- With no dump asked for a FATAL touches the event parts, the power unit and the STOPPING message only. -/
theorem fatalEvent_nodump_keeps {code : Nat} {detail : List Nat} {s : State} :
    Keeps 360777 s (fatalEvent code detail false s) := by
  unfold fatalEvent fatalStop
  simp only [Bool.false_and, Bool.false_eq_true, if_false]
  refine Keeps.step upd_pwr rfl ?_
  refine Keeps.step upd_pwr rfl ?_
  exact Keeps.step sendStopping_keeps rfl (Keeps.widen raise_keeps rfl)

/-- With no dump asked for a FATAL leaves the vault alone. -/
theorem fatalEvent_nodump (code : Nat) (detail : List Nat) (s : State) :
    (fatalEvent code detail false s).vault = s.vault := fatalEvent_nodump_keeps.vault rfl

/-- With a dump asked for and `FATAL_DUMP_EN`, the vault is written as at a power failure. -/
theorem fatalEvent_dump (code : Nat) (detail : List Nat) (s : State) (h : bitAt (cfg s Reg.CACHE_CACHE_CTL) 5 = true) :
    (fatalEvent code detail true s).vault.accepted = true := by
  unfold fatalEvent fatalStop
  simp only [cfg, cfgAt] at h
  simp [cfg, cfgAt, h, acceptPower_accepted]

/-- A write of a command register that the path may write acts. -/
theorem cmdWrite_acts {p : Path} {r : RegId} {s : State} (h : MayWrite p r s) (f : State → State) : cmdWrite p r f s = f s := by
  obtain ⟨h1, h2⟩ := h
  unfold cmdWrite
  rw [if_neg, if_neg]
  · simp [h2]
  · rintro ⟨a, b⟩
    rcases h1 with h | h
    · exact h a
    · simp [h] at b

end Sys2Proof.Machine
end

