-- ==== Sys2Proof/Laws/Frame.lean ====
section
/-!
SUPPORT. Laws/Frame.lean: from the masks of the `Keeps` lemmas to the frames that claims are stated with.
-/
namespace Sys2Proof.Machine

/-- The bit of a part in a mask. -/
def Part.bit (p : Part) : Nat :=
  match p with
  | .regs => 0 | .sels => 1 | .latches => 2 | .out => 3 | .free => 4 | .time => 5 | .evt => 6 | .datum => 7
  | .pwr => 8 | .arch => 9 | .trust => 10 | .vault => 11 | .nvm => 12 | .store => 13 | .trav => 14 | .pair => 15
  | .zeb => 16 | .win => 17 | .ep => 18 | .ks => 19 | .xp => 20 | .net => 21 | .ciph => 22 | .bay => 23

theorem Keeps.part {M : Nat} {s t : State} (k : Keeps M s t) (p : Part) (h : M.testBit p.bit = false) : p.kept s t := by
  cases p
  · exact k.regs h
  · exact k.sels h
  · exact k.latches h
  · exact k.out h
  · exact k.free h
  · exact k.time h
  · exact k.evt h
  · exact k.datum h
  · exact k.pwr h
  · exact k.arch h
  · exact k.trust h
  · exact k.vault h
  · exact k.nvm h
  · exact k.store h
  · exact k.trav h
  · exact k.pair h
  · exact k.zeb h
  · exact k.win h
  · exact k.ep h
  · exact k.ks h
  · exact k.xp h
  · exact k.net h
  · exact k.ciph h
  · exact k.bay h

/-- Every part: what a proof by cases over the parts runs through. -/
def Part.all : List Part := [.regs, .sels, .latches, .out, .free, .time, .evt, .datum, .pwr, .arch, .trust, .vault, .nvm, .store,
  .trav, .pair, .zeb, .win, .ep, .ks, .xp, .net, .ciph, .bay]

theorem Part.mem_all (p : Part) : p ∈ Part.all := by cases p <;> decide

/-- A `Keeps` lemma gives a frame: every part of its mask must be named. -/
theorem Keeps.only {M : Nat} {s t : State} {ps : List Part} (k : Keeps M s t)
    (h : Part.all.all (fun p => ps.contains p || !M.testBit p.bit) = true) : OnlyParts ps s t := by
  refine ⟨fun p hp => k.part p ?_, k.pending⟩
  have hq := List.all_eq_true.mp h p (Part.mem_all p)
  rcases Bool.or_eq_true_iff.mp hq with hc | hb
  · exact absurd (List.contains_iff_mem.mp hc) hp
  · exact Bool.not_eq_true' _ |>.mp hb

/-- A `Keeps` lemma says which parts stand: none of them may be in its mask. -/
theorem Keeps.stands {M : Nat} {s t : State} {ps : List Part} (k : Keeps M s t)
    (h : ps.all (fun p => !M.testBit p.bit) = true) : Stands ps s t :=
  ⟨fun p hp => k.part p (Bool.not_eq_true' _ |>.mp (List.all_eq_true.mp h p hp)), k.pending⟩

end Sys2Proof.Machine
end

