-- ==== Sys2Proof/Laws/State.lean ====
section
/-!
SUPPORT. Laws/State.lean: what each basic update of the state leaves in the part it writes, one rewrite per update; Laws/Parts.lean
holds the parts it leaves alone.
-/
namespace Sys2Proof.Machine

@[simp] theorem modSide_bay (f : SideSt → SideSt) (s : State) :
    (modSide f s).bay = { s.bay with side := f s.bay.side } := rfl
@[simp] theorem setPort_bay (n : Nat) (p : Port) (s : State) :
    (setPort n p s).bay = { s.bay with ports := tput {} s.bay.ports n p } := rfl
@[simp] theorem setBay_bay (b : Nat) (x : Bay) (s : State) :
    (setBay b x s).bay = { s.bay with bays := tput {} s.bay.bays b x } := rfl
@[simp] theorem setSa_ciph (i : Nat) (a : Sa) (s : State) :
    (setSa i a s).ciph = { s.ciph with sas := tset s.ciph.sas i a } := rfl
@[simp] theorem setRule_net (i : Nat) (r : Rule) (s : State) :
    (setRule i r s).net = { s.net with rules := tput {} s.net.rules i r } := rfl
@[simp] theorem pageLost_regs (page : Nat) (s : State) :
    (pageLost page s).regs = tfilter s.regs fun k _ => !(keyPage k == page && lostWhenOff (keyReg k)) := rfl
@[simp] theorem sampleBlockReset_net (s : State) :
    (sampleBlockReset s).net = { s.net with smpGap := [], smpStat := [] } := rfl
@[simp] theorem datumDone_datum (s : State) :
    (datumDone s).datum = { s.datum with result := 0, resultPage := 0 } := rfl
@[simp] theorem setEngine_net (e : Nat) (x : Engine) (s : State) :
    (setEngine e x s).net = { s.net with engines := tset s.net.engines e x } := rfl
@[simp] theorem mapRings_ep (fn : Nat) (f : Ring → Ring) (s : State) :
    (mapRings fn f s).ep = { s.ep with rings := tmap s.ep.rings fun _ r => if r.fn = fn then f r else r } := rfl
@[simp] theorem setQueue_evt (q : Nat) (e : EvQueue) (s : State) :
    (setQueue q e s).evt = { s.evt with queues := tput {} s.evt.queues q e } := rfl
@[simp] theorem stickyAdd_evt (r : EvRec) (s : State) :
    (stickyAdd r s).evt = { s.evt with sticky := (r :: s.evt.sticky).take 256 } := rfl
@[simp] theorem setCtx_nvm (id : Nat) (c : Ctx) (s : State) :
    (setCtx id c s).nvm = { s.nvm with ctxs := tset s.nvm.ctxs id c } := rfl
@[simp] theorem modCtx_nvm (id : Nat) (f : Ctx → Ctx) (s : State) :
    (modCtx id f s).nvm = { s.nvm with ctxs := tmod s.nvm.ctxs id f } := rfl
@[simp] theorem setJob_store (j : Nat) (x : Job) (s : State) :
    (setJob j x s).store = { s.store with jobs := tset s.store.jobs j x } := rfl
@[simp] theorem reshapeRefuse_store (r : Nat) (s : State) :
    (reshapeRefuse r s).store = { s.store with reshape := { s.store.reshape with refuse := r } } := rfl
@[simp] theorem setPp_net (pp : Nat) (u : PpUse) (s : State) :
    (setPp pp u s).net = { s.net with ppUse := tput {} s.net.ppUse pp u } := rfl
@[simp] theorem srcAdd_net (i n : Nat) (s : State) :
    (srcAdd i n s).net = { s.net with srcUse := tput 0 s.net.srcUse i (srcUsed s i + n) } := rfl
@[simp] theorem srcFree_net (i n : Nat) (s : State) :
    (srcFree i n s).net = { s.net with srcUse := tput 0 s.net.srcUse i (srcUsed s i - n) } := rfl
@[simp] theorem txtsRelease_net (g : Nat) (s : State) :
    (txtsRelease g s).net = { s.net with txts := tput [] s.net.txts g ((tgetD s.net.txts g []).drop 1) } := rfl
@[simp] theorem wrAt_regs (r : RegId) (i v : Nat) (s : State) :
    (wrAt r i v s).regs = tput (rstVal r i) s.regs (regKey r i) v := rfl
@[simp] theorem setSel_sels (p : Path) (r : RegId) (v : Nat) (s : State) :
    (setSel p r v s).sels = tput (rstVal r 0) s.sels (selKey p r) v := rfl
@[simp] theorem drive_out (o : Out) (s : State) :
    (drive o s).out = s.out ++ [o] := rfl
@[simp] theorem driveAll_out (os : List Out) (s : State) :
    (driveAll os s).out = s.out ++ os := rfl
@[simp] theorem winPut_win (w : Nat) (x : Window) (s : State) :
    (winPut w x s).win = { s.win with windows := tput {} s.win.windows w x } := rfl
@[simp] theorem keyPut_win (k : Nat) (x : Key) (s : State) :
    (keyPut k x s).win = { s.win with keys := tput {} s.win.keys k x } := rfl
@[simp] theorem zebClear_zeb (s : State) :
    (zebClear s).zeb = { s.zeb with waiting := [], unacked := [] } := rfl
@[simp] theorem placeMirror_store (mseq slot lba adm stage : Nat) (blk : Blk) (s : State) :
    (placeMirror mseq slot lba adm stage blk s).store = { s.store with mirror := s.store.mirror ++ [{ slot := slot, lba := lba, adm := adm, stage := stage, blk := blk, mseq := mseq }] } := rfl
@[simp] theorem clearDisciplinedOp_pwr (s : State) :
    (clearDisciplinedOp s).pwr = { s.pwr with disciplined := false } := rfl
@[simp] theorem rstResult_pwr (r : Nat) (s : State) :
    (rstResult r s).pwr = { s.pwr with cmdResult := r } := rfl
@[simp] theorem wdtKickOp_pwr (s : State) :
    (wdtKickOp s).pwr = { s.pwr with wdtKickAt := s.time } := rfl
@[simp] theorem setFn_ep (fn : Nat) (f : Fn) (s : State) :
    (setFn fn f s).ep = { s.ep with fns := tput {} s.ep.fns fn f } := rfl
@[simp] theorem setRing_ep (g : Nat) (r : Ring) (s : State) :
    (setRing g r s).ep = { s.ep with rings := tput {} s.ep.rings g r } := rfl
@[simp] theorem setMember_store (b : Nat) (m : Member) (s : State) :
    (setMember b m s).store = { s.store with members := tput {} s.store.members b m } := rfl
@[simp] theorem setNs_nvm (slot : Nat) (n : Ns) (s : State) :
    (setNs slot n s).nvm = { s.nvm with nss := tset s.nvm.nss slot n } := rfl
@[simp] theorem modNs_nvm (slot : Nat) (f : Ns → Ns) (s : State) :
    (modNs slot f s).nvm = { s.nvm with nss := tmod s.nvm.nss slot f } := rfl
@[simp] theorem mapCmds_store (f : DrvCmd → DrvCmd) (s : State) :
    (mapCmds f s).store = { s.store with cmds := tmap s.store.cmds fun _ c => f c, cmdWait := s.store.cmdWait.map f } := rfl
@[simp] theorem extDrop_store (slot lba : Nat) (s : State) :
    (extDrop slot lba s).store = { s.store with ext := tdel s.store.ext (blkKey slot lba) } := rfl
@[simp] theorem smHeartbeatOp_evt (s : State) :
    (smHeartbeatOp s).evt = { s.evt with lastHeartbeat := s.time, hbMissed := false } := rfl
@[simp] theorem setTrav_trav (t : Nat) (v : Trav) (s : State) :
    (setTrav t v s).trav = { s.trav with open_ := tset s.trav.open_ t v } := rfl
@[simp] theorem bootConfirmOp_trust (s : State) :
    (bootConfirmOp s).trust = { s.trust with confirmed := true, attempts := tset s.trust.attempts s.trust.booted 0 } := rfl
@[simp] theorem fbRequest_trust (type : Nat) (body : List Nat) (k : FbCont) (s : State) :
    (fbRequest type body k s).trust = { s.trust with queue := s.trust.queue ++ [⟨type, body, k⟩] } := rfl
@[simp] theorem setQp_xp (i : Nat) (q : Qp) (s : State) :
    (setQp i q s).xp = { s.xp with qps := tput {} s.xp.qps i q } := rfl
@[simp] theorem setLatch_latches (p : Path) (r : RegId) (v : Nat) (s : State) :
    (setLatch p r v s).latches = tput 0 s.latches (selKey p r) v := rfl

/-! What an update has put in place is what the accessors then find. -/

@[simp] theorem ctxAt_setCtx (id : Nat) (c : Ctx) (s : State) : ctxAt (setCtx id c s) id = some c := by simp [ctxAt]
@[simp] theorem travAt_setTrav (t : Nat) (v : Trav) (s : State) : travAt (setTrav t v s) t = some v := by simp [travAt]
@[simp] theorem nsAt_setNs (slot : Nat) (n : Ns) (s : State) : nsAt (setNs slot n s) slot = some n := by simp [nsAt]
theorem nsAt_setNs_ne {slot other : Nat} (h : other ≠ slot) (n : Ns) (s : State) : nsAt (setNs slot n s) other = nsAt s other := by
  simp [nsAt, tget_tset_ne _ _ h]
theorem travAt_setTrav_ne {t u : Nat} (h : u ≠ t) (v : Trav) (s : State) : travAt (setTrav t v s) u = travAt s u := by
  simp [travAt, tget_tset_ne _ _ h]
theorem ctxAt_setCtx_ne {id j : Nat} (h : j ≠ id) (c : Ctx) (s : State) : ctxAt (setCtx id c s) j = ctxAt s j := by
  simp [ctxAt, tget_tset_ne _ _ h]

end Sys2Proof.Machine
end

