-- ==== Sys2Proof/Tests/Slice0.lean ====
section
/-!
SUPPORT. Tests/Slice0.lean: ill-formed commands refused, small steps, and for every statement a state and operands that
meet its hypotheses, clause by clause.
-/
namespace Sys2Proof.Tests
open Sys2Proof Sys2Proof.Machine

set_option Elab.async false

/-! ### Ill-formed commands -/

/-- A command with one operand out of its range is ill-formed. -/
theorem test_illFormed_1 : (([
    .hbmStackFault 2, .refclkOutOfTolerance 5 0, .refclkRestored 5, .connect 0 (2 ^ 16) 0 0 0 0 0 0 0, .keepAlive 0 (2 ^ 16),
    .namespaceCreate 0 (2 ^ 16) 0 0 0 false [], .namespaceDelete 0 (2 ^ 16) 0, .namespaceAttach 0 (2 ^ 16) 0 [],
    .namespaceDetach 0 (2 ^ 16) 0 [], .identify 0 (2 ^ 16) 0 0, .read 0 (2 ^ 16) 0 0 0 0 0, .write 0 (2 ^ 16) 0 0 0 0,
    .writeZeroes 0 (2 ^ 16) 0 0 0, .datasetManagement 0 (2 ^ 16) 0 false [], .flush 0 (2 ^ 16) 0,
    .reservationRegister 0 (2 ^ 16) 0 0 0 0 false, .reservationAcquire 0 (2 ^ 16) 0 0 0 0 0 false,
    .reservationRelease 0 (2 ^ 16) 0 0 0 0 false, .reservationReport 0 (2 ^ 16) 0, .stakeConditionedWrite 0 (2 ^ 16) 0 0 0 0 0,
    .layoutStatus 0 (2 ^ 16) 0, .lossMap 0 (2 ^ 16) 0, .traverse 0 (2 ^ 16) 0 0 0 0 0, .h2cdata 0 (2 ^ 16) false 0 0,
    .bind 0 (2 ^ 16) 0 0 false 0 0 0 0, .unbind 0 (2 ^ 16) 0, .keyCreate 0 (2 ^ 16) 0 false 0 0 0, .keyRevoke 0 (2 ^ 16) 0,
    .fieldBookExport 0 (2 ^ 16) 0 0, .asynchronousEventRequest 0 (2 ^ 16), .connect 0 0 0 (2 ^ 16) 0 0 0 0 0, .ccEn 0 false (2 ^ 16),
    .connect 0 0 0 0 1024 0 0 0 0, .icreq 1024 0 false false, .connect 0 0 0 0 0 (2 ^ 16) 0 0 0, .keepAlive (2 ^ 16) 0,
    .keepAliveExpire (2 ^ 16), .connect 0 0 0 0 0 0 (2 ^ 16) 0 0, .connect 0 0 0 0 0 0 0 0 (2 ^ 32),
    .namespaceCreate (2 ^ 33) 0 0 0 0 false []] : List Instr).all fun i => !wellFormed i) = true := by decide +kernel

/-- A command with one operand out of its range is ill-formed. -/
theorem test_illFormed_2 : (([
    .namespaceDelete (2 ^ 33) 0 0, .namespaceAttach (2 ^ 33) 0 0 [], .namespaceDetach (2 ^ 33) 0 0 [], .identify (2 ^ 33) 0 0 0,
    .read (2 ^ 33) 0 0 0 0 0 0, .write (2 ^ 33) 0 0 0 0 0, .writeZeroes (2 ^ 33) 0 0 0 0, .datasetManagement (2 ^ 33) 0 0 false [],
    .flush (2 ^ 33) 0 0, .reservationRegister (2 ^ 33) 0 0 0 0 0 false, .reservationAcquire (2 ^ 33) 0 0 0 0 0 0 false,
    .reservationRelease (2 ^ 33) 0 0 0 0 0 false, .reservationReport (2 ^ 33) 0 0, .stakeConditionedWrite (2 ^ 33) 0 0 0 0 0 0,
    .layoutStatus (2 ^ 33) 0 0, .lossMap (2 ^ 33) 0 0, .traverse (2 ^ 33) 0 0 0 0 0 0, .bind (2 ^ 33) 0 0 0 false 0 0 0 0,
    .unbind (2 ^ 33) 0 0, .keyCreate (2 ^ 33) 0 0 false 0 0 0, .keyRevoke (2 ^ 33) 0 0, .moveHoldExpire (2 ^ 33),
    .fieldBookExport (2 ^ 33) 0 0 0, .eventRead .doe 0 (2 ^ 33) 0, .asynchronousEventRequest (2 ^ 33) 0,
    .namespaceCreate 0 0 (2 ^ 64) 0 0 false [], .namespaceCreate 0 0 0 (2 ^ 64) 0 false [], .namespaceCreate 0 0 0 0 256 false [],
    .namespaceCreate 0 0 0 0 0 false [256], .namespaceActive 16384, .namespaceDeleteComplete 16384, .gatherAgeExpire 16384 0 0,
    .journalRecordWritten 16384 0 0, .flushStripsDone 16384 0 0, .memoryError 0 16384 0, .formatStripe 16384 0, .heldRowReplan 16384 0 0,
    .mirrorPut 0 16384 0 0 0 {}, .lease 0 16384 0, .namespaceDelete 0 0 (2 ^ 32)] : List Instr).all fun i => !wellFormed i) = true := by decide +kernel

/-- A command with one operand out of its range is ill-formed. -/
theorem test_illFormed_3 : (([
    .namespaceAttach 0 0 (2 ^ 32) [], .namespaceDetach 0 0 (2 ^ 32) [], .identify 0 0 0 (2 ^ 32), .read 0 0 (2 ^ 32) 0 0 0 0,
    .write 0 0 (2 ^ 32) 0 0 0, .writeZeroes 0 0 (2 ^ 32) 0 0, .datasetManagement 0 0 (2 ^ 32) false [], .flush 0 0 (2 ^ 32),
    .reservationRegister 0 0 (2 ^ 32) 0 0 0 false, .reservationAcquire 0 0 (2 ^ 32) 0 0 0 0 false,
    .reservationRelease 0 0 (2 ^ 32) 0 0 0 false, .reservationReport 0 0 (2 ^ 32), .stakeConditionedWrite 0 0 (2 ^ 32) 0 0 0 0,
    .layoutStatus 0 0 (2 ^ 32), .lossMap 0 0 (2 ^ 32), .traverse 0 0 (2 ^ 32) 0 0 0 0, .bind 0 0 (2 ^ 32) 0 false 0 0 0 0,
    .namespaceAttach 0 0 0 [2 ^ 16], .namespaceDetach 0 0 0 [2 ^ 16], .identify 0 0 256 0, .read 0 0 0 256 0 0 0, .read 0 0 0 0 4 0 0,
    .write 0 0 0 4 0 0, .stakeConditionedWrite 0 0 0 4 0 0 0, .traverse 0 0 0 0 0 0 4, .read 0 0 0 0 0 (2 ^ 64) 0,
    .write 0 0 0 0 (2 ^ 64) 0, .writeZeroes 0 0 0 (2 ^ 64) 0, .stakeConditionedWrite 0 0 0 0 (2 ^ 64) 0 0,
    .bind 0 0 0 0 false 0 0 (2 ^ 64) 0, .read 0 0 0 0 0 0 (2 ^ 16), .write 0 0 0 0 0 (2 ^ 16), .writeZeroes 0 0 0 0 (2 ^ 16),
    .stakeConditionedWrite 0 0 0 0 0 (2 ^ 16) 0, .reservationRegister 0 0 0 8 0 0 false, .reservationAcquire 0 0 0 8 0 0 0 false,
    .reservationRelease 0 0 0 8 0 0 false, .reservationRegister 0 0 0 0 (2 ^ 64) 0 false, .reservationAcquire 0 0 0 0 (2 ^ 64) 0 0 false,
    .reservationRelease 0 0 0 0 (2 ^ 64) 0 false] : List Instr).all fun i => !wellFormed i) = true := by decide +kernel

/-- A command with one operand out of its range is ill-formed. -/
theorem test_illFormed_4 : (([
    .reservationRegister 0 0 0 0 0 (2 ^ 64) false, .reservationAcquire 0 0 0 0 0 (2 ^ 64) 0 false,
    .reservationAcquire 0 0 0 0 0 0 256 false, .reservationRelease 0 0 0 0 0 256 false, .stakeConditionedWrite 0 0 0 0 0 0 (2 ^ 64),
    .memberDepart 24 0 false, .rehomeDone 24, .returnWaitExpire 24, .fillParcel 24 [], .sidebandLevelAccept 24 0, .longPress 24,
    .insertionDelayEnd 24, .bayFaultTimerExpire 24, .bayFastTrip 24, .bayPowerGood 24, .bayPowerGoodLost 24, .bayRetryWaitEnd 24,
    .bayRetriesReset 24, .feedBad 24 false, .feedGood 24 false, .feedReturn 24, .gateTurnoffFail 24, .bothGates 24, .feedAGateLost 24,
    .bayOff .security 24, .bayOn .security 24, .bayClear .security 24, .bayCycle .security 24, .cycleOffTimeEnd 24,
    .sidebandEdge 24 0 false, .changeoverComplete 24, .returnToATimeout 24, .traverse 0 0 0 0 (2 ^ 16) 0 0,
    .traverseLookup .security (2 ^ 32), .keyCmdRevoke .security (2 ^ 32), .winCmdUnbind .security (2 ^ 32),
    .quarantineClear .security 0 (2 ^ 32), .pairMove .security (2 ^ 32), .registerWrite .security 0 0 0 (2 ^ 32),
    .timeAdjPpbWrite .security (2 ^ 32)] : List Instr).all fun i => !wellFormed i) = true := by decide +kernel

/-- A command with one operand out of its range is ill-formed. -/
theorem test_illFormed_5 : (([
    .timeSlewNsWrite .security (2 ^ 32), .trHeadWrite .security (2 ^ 32), .qHeadWrite .security (2 ^ 32), .send (2 ^ 18) { psn := 0 } none,
    .rdmaWrite (2 ^ 18) { psn := 0 } 0 0 0 none, .rdmaReadRequest (2 ^ 18) { psn := 0 } 0 0 0, .fetchAdd (2 ^ 18) { psn := 0 } 0 0 0,
    .compareSwap (2 ^ 18) { psn := 0 } 0 0 0 0, .compareSwap16 (2 ^ 18) { psn := 0 } 0 0 0 0, .acknowledge (2 ^ 18) 0 0 [],
    .rdmaReadResponse (2 ^ 18) { psn := 0 } 0, .cnp (2 ^ 18) 0, .rcTimer (2 ^ 18), .pathPenaltyEnd (2 ^ 18) 0, .ackDelayExpire (2 ^ 18),
    .sprayRtoExpire (2 ^ 18) 0, .ackTimeout (2 ^ 18), .cmRtu (2 ^ 18), .cmDreq (2 ^ 18), .cmDrep (2 ^ 18), .cmResponseTimeout (2 ^ 18),
    .qpErrorTimeout (2 ^ 18), .qpQuietEnd (2 ^ 18), .stallBudgetExpire (2 ^ 18) 0, .rnrTimerExpire (2 ^ 18),
    .rdmaWrite 0 { psn := 0 } (2 ^ 64) 0 0 none, .rdmaReadRequest 0 { psn := 0 } (2 ^ 64) 0 0, .fetchAdd 0 { psn := 0 } (2 ^ 64) 0 0,
    .compareSwap 0 { psn := 0 } (2 ^ 64) 0 0 0, .compareSwap16 0 { psn := 0 } (2 ^ 64) 0 0 0, .rdmaWrite 0 { psn := 0 } 0 (2 ^ 32) 0 none,
    .rdmaReadRequest 0 { psn := 0 } 0 (2 ^ 32) 0, .fetchAdd 0 { psn := 0 } 0 (2 ^ 32) 0, .compareSwap 0 { psn := 0 } 0 (2 ^ 32) 0 0,
    .compareSwap16 0 { psn := 0 } 0 (2 ^ 32) 0 0, .keyRevoke 0 0 (2 ^ 32), .fetchAdd 0 { psn := 0 } 0 0 (2 ^ 64),
    .compareSwap 0 { psn := 0 } 0 0 (2 ^ 64) 0, .compareSwap16 0 { psn := 0 } 0 0 (2 ^ 128) 0, .compareSwap 0 { psn := 0 } 0 0 0 (2 ^ 64)] : List Instr).all fun i => !wellFormed i) = true := by decide +kernel

/-- A command with one operand out of its range is ill-formed. -/
theorem test_illFormed_6 : (([
    .compareSwap16 0 { psn := 0 } 0 0 0 (2 ^ 128), .acknowledge 0 (2 ^ 24) 0 [], .sprayRtoExpire 0 (2 ^ 24), .stallBudgetExpire 0 (2 ^ 24),
    .bind 0 0 0 0 false 4096 0 0 0, .bindComplete 4096, .unbind 0 0 4096, .unbindComplete 4096, .keyCreate 0 0 0 false 4096 0 0,
    .faultComplete 4096 0, .windowWritebackAge 4096 0, .faultComplete 0 (2 ^ 40), .registerWrite .security 256 0 0 0,
    .evtForce .security 256 0, .loReadLatch .security 256 0, .frameReceived 64 0 [] false {}, .pfcXoffRefresh 64 0, .frameTransmitted 64 [],
    .pfcFrameReceived 64 0 [], .pfcPauseExpire 64 0, .pfcWatchdogExpire 64 0, .netLinkChange 64 false,
    .fragmentReceived 0 0 64 none 0 { off := 0, len := 0, more := false }, .pairFrame 0 64 0 [] {}, .frameReceived 0 0 [256] false {},
    .pairFrame 0 0 0 [256] {}, .pfcXoffRefresh 0 8, .pfcPauseExpire 0 8, .pfcWatchdogExpire 0 8,
    .fragmentReceived 0 0 0 none 8 { off := 0, len := 0, more := false }, .pairFrame 0 0 8 [] {}, .pfcFrameReceived 0 0 [2 ^ 16], .eopNop 64,
    .eopExt 64 0 { w := .b1, abs := false, off := 0 } 0 0, .eopMovi 64 0 0, .eopAdd 64 0 0 0, .eopAddw 64 0 0, .eopSub 64 0 0 0,
    .eopAnd 64 0 0 0, .eopOr 64 0 0 0] : List Instr).all fun i => !wellFormed i) = true := by decide +kernel

/-- A command with one operand out of its range is ill-formed. -/
theorem test_illFormed_7 : (([
    .eopShl 64 0 0 0, .eopShr 64 0 0 0, .eopMb 64 false false 0 0 0 0, .eopMbn 64 false false 0 0 0 0, .eopBeq 64 0 0 0, .eopBne 64 0 0 0,
    .eopBlt 64 0 0 0, .eopJmp 64 0, .eopJtab 64 0 0 0, .eopAdv 64 0, .eopAdvw 64 0 0, .eopMark 64 0 false 0, .eopKey 64 false 0 0 0,
    .eopKeyw 64 0 0, .eopHash 64 false 0 0, .eopHashw 64 0, .eopLook 64 0 false, .eopAct 64, .classifierLookupDone 64, .eopSetf 64 .cls 0,
    .eopSetw 64 .cls 0, .eopEmit 64, .eopTrap 64 0, .eopinCycleLimit 64, .eopKey 0 false 0 256 0, .eopHash 0 false 0 256,
    .eopKey 0 false 0 0 256, .eopKeyw 0 0 256, .fragmentReceived 0 256 0 none 0 { off := 0, len := 0, more := false },
    .txtsHiRead .security 8, .epLinkUp 17 0 false, .rpLinkUp 0 17 0 false, .flr 256, .flrComplete 256, .busMasterClear 256 false,
    .busMasterSet 256 false, .ccEn 256 false 0, .db 256 0 0, .push 256 0 false { opc := 0 }, .ringCtlWrite 256 0 0 0] : List Instr).all fun i => !wellFormed i) = true := by decide +kernel

/-- A command with one operand out of its range is ill-formed. -/
theorem test_illFormed_8 : (([
    .drain 256 0, .pause 256 0, .ringResume 256 0, .invalidate 256 0, .msixSpacingEnd 256 0, .nvmeDoorbell 256 0 false 0,
    .vfEnable false 256, .ringCtlWrite 0 0 (2 ^ 24) 0, .registerWrite .security 0 65536 0 0, .readReg .doe 0 (2 ^ 24) 0,
    .writeReg .doe 0 (2 ^ 24) [], .platData .doe 0 (2 ^ 24) [] false, .loReadLatch .security 0 65536, .perstDelayExpire 24,
    .rpTrainingTimeout 24, .rpLinkUp 24 0 0 false, .driveReadyTimeout 24, .driveFormatComplete 24, .rpCommandTimeout 24 0 false false,
    .rpTagQuarantineEnd 24 0, .rpLateCompletion 24 0, .rpLateData 24 0, .rpContain 24 0, .rpContainEnd 24, .rpLinkLoss 24 false, .rpIdle 24,
    .driveReady 24 {}, .rpContain 0 (2 ^ 16), .suppressionReport (2 ^ 16) 0, .zeberRetrain 32, .zeberTrained (2 ^ 32),
    .hello 2 0 0 0 0 false, .fwdCpl 0 0 8 0 none 0 0, .fwdCpl 0 0 0 256 none 0 0, .fwdCpl 0 0 0 0 none (2 ^ 32) 0,
    .fwdCpl 0 0 0 0 none 0 (2 ^ 32), .xstampReq 0 0 0 [16384] [], .pairSession false false [256], .getMeasurements .doe (2 ^ 16) 0,
    .challenge .doe (2 ^ 16) 0] : List Instr).all fun i => !wellFormed i) = true := by decide +kernel

/-- A command with one operand out of its range is ill-formed. -/
theorem test_illFormed_9 : (([
    .keyExchange .doe (2 ^ 16) false, .keyUpdate .doe (2 ^ 16), .setCertificate .doe (2 ^ 16) 0, .ownerEnrol (2 ^ 16) 0,
    .ownerRotate (2 ^ 16) 0 false, .escrowKeyInstall (2 ^ 16) 0, .fieldBookEntryVendorGet .doe (2 ^ 16) 0, .readReg .doe (2 ^ 16) 0 0,
    .writeReg .doe (2 ^ 16) 0 [], .platData .doe (2 ^ 16) 0 [] false, .platEnd .doe (2 ^ 16) 0, .eventRead .doe (2 ^ 16) 0 0,
    .registerWrite .security 0 0 16 0, .railFault 32 0, .thermalWarning 64 0, .thermalTrip 64 0, .timeStep .security (2 ^ 32),
    .suppressionReport 0 (2 ^ 16), .msixSpacingEnd 0 4096, .writeReg .doe 0 0 [256], .platData .doe 0 0 [256] false,
    .evtForce .security 0 (2 ^ 32), .mctpEidAssign 256] : List Instr).all fun i => !wellFormed i) = true := by decide +kernel

/-! ### States for the tests -/

/-- A controller that serves: released, with a subsystem, a connected host, and a namespace of two parcels. -/
def up : State := { State.reset with
  pwr := { held := false, released := true, serving := true, online := true }
  pair := { state := 0 }
  datum := { active := { subsystems := [(1, [0, 0, 1, 0] ++ List.replicate 256 0 ++ [0xFF])] } }
  nvm := {
    nss := [(3, { state := 2, subsys := 1, nsid := 1, nsze := 32768, parcels := 2, hosts := [5], ready := true })]
    assocs := [(1, { host := 5, subsys := 1, station := 2, kato := 0 })]
    queues := [(256, { size := 32 }), (257, { size := 32 })]
    hostNqns := [(5, 77)] } }

/-- A register of the running datum set. -/
def conf (r : RegId) (i v : Nat) (s : State) : State :=
  { s with datum := { s.datum with active := { s.datum.active with vals := tset s.datum.active.vals (regKey r i) v } } }

def uPwr (x : PwrSt) : State := { up with pwr := x }
def uVault (x : VaultSt) : State := { up with vault := x }
def uNvm (x : NvmSt) : State := { up with nvm := x }
def uStore (x : StoreSt) : State := { up with store := x }
def uTrav (x : TravSt) : State := { up with trav := x }
def uPair (x : PairSt) : State := { up with pair := x }
def uZeb (x : ZebSt) : State := { up with zeb := x }
def uWin (x : WinSt) : State := { up with win := x }
def uEp (x : EpSt) : State := { up with ep := x }
def uXp (x : XpSt) : State := { up with xp := x }
def uNet (x : NetSt) : State := { up with net := x }
def uCiph (x : CiphSt) : State := { up with ciph := x }
def uBay (x : BayUnit) : State := { up with bay := x }
def uTrust (x : TrustSt) : State := { up with trust := x }
def uDatum (x : DatumSt) : State := { up with datum := x }
def uEvt (x : EvtSt) : State := { up with evt := x }

/-- A block that stands dirty in the cache. -/
def dirtyMir : MirEnt := { slot := 3, lba := 0, adm := 1, stage := 0, blk := {}, mseq := 1 }

/-- A context of a writer of one block of namespace 3 that has its data. -/
def wctx : Ctx := { q := 257, cid := 9, host := 5, slot := 3, op := .write 0 1, adm := 1, ranges := [(0, 1)], writer := true, placed := [(0, {})] }

/-- A dirty block of a frame. -/
def dirtyCell : Cell := { blk := {}, dirty := true, adm := 1 }

/-- A frame of the first stripe of namespace 3 with one dirty block. -/
def frame0 : Frame := { slot := 3, parcel := 0, stripe := 0, layout := 0, n := 8, cells := [(0, dirtyCell)] }

/-- The same frame with a flush at a stage. -/
def flush0 (stage : Nat) : Flush := { method := 0, rows := [0], place := {}, stage := stage }
def frameAt (stage : Nat) : Frame := { frame0 with flush := some (flush0 stage), st := .flushing }
def sFrame (f : Frame) : State := uStore { up.store with frames := [(stripeKey 3 0 0, f)] }

/-- The association and the namespace of `up`. -/
def assoc1 : Assoc := { host := 5, subsys := 1, station := 2, kato := 0 }
def ns3 : Ns := { state := 2, subsys := 1, nsid := 1, nsze := 32768, parcels := 2, hosts := [5], ready := true }

/-- The state `up` with a namespace 3 and a further unit changed. -/
def uNs (n : Ns) : State := uNvm { up.nvm with nss := [(3, n)] }

/-- A packet, and a state whose queue pair 4 is as given. -/
def pkt : Pkt := { psn := 4095, msn := 0, last := true }
def uQp (q : Qp) : State := uXp { up.xp with qps := [(4, q)] }
def rts : Qp := { state := 2, spray := true, atom16 := true }

/-- A frame in the parser, and a state whose engine 0 is as given. -/
def eng : Engine := { frame := { len := 64, bytes := List.replicate 64 0xAB, station := some 3 } }
def uEng (x : Engine) : State := uNet { up.net with engines := [(0, x)] }

def uEg : State := uNet { up.net with ups := [0], egress := [(0, [{ src := 0, station := 3, len := 64 }])] }

theorem tget_full {α : Type} (x : α) (j n a : Nat) (h1 : a ≤ j) (h2 : j < a + n) :
    tget ((List.range' a n).map fun i => (i, x)) j = some x := by
  induction n generalizing a with
  | zero => omega
  | succ n ih =>
    rw [List.range'_succ, List.map_cons]
    unfold tget
    by_cases h : a = j
    · simp [h]
    · rw [if_neg h, if_neg (by omega)]; exact ih (a + 1) (by omega) (by omega)

theorem flowFind_here (key profile : Nat) (f : Flow) (h1 : f.key = key) (h2 : f.profile = profile) :
    flowFind [(4 * (flowBuckets key profile).1, f)] key profile = some (4 * (flowBuckets key profile).1, f) := by
  simp [flowFind, bucketPlaces, tget, h1, h2]

theorem flowFind_none (key profile : Nat) : flowFind [] key profile = none := rfl

theorem flowFree_none (a b : Nat) : flowFree [] a b = some (4 * a) := rfl

theorem firstFrom_none {p : Nat → Bool} (n i : Nat) (h : ∀ j, i ≤ j → j < i + n → p j = false) : firstFrom p n i = none := by
  induction n generalizing i with
  | zero => rfl
  | succ n ih =>
    unfold firstFrom
    rw [h i (Nat.le_refl i) (by omega)]
    exact ih (i + 1) fun j h1 h2 => h j (by omega) (by omega)

/-- A ring 0 of the physical function that runs, its function present, and its host associated. -/
def fn0 : Fn := { present := true, bme := true, mse := true, cntlid := some 1 }
def uRing (r : Ring) : State :=
  { conf Reg.RINGS_FN_RING_COUNT 0 4 up with ep := { link := true, perst := false, fns := [(0, fn0)], rings := [(0, r)] } }
theorem eq_some_getD {α : Type} {o : Option α} (d : α) (h : o.isSome = true) : o = some (o.getD d) := by
  cases o with
  | none => cases h
  | some x => rfl

def uGrant (d : Desc) : State := uRing { state := .active, granted := [d] }

/-- A register of a page and its row. -/
def rowRo : RegRow := ⟨0x104, .ro, 0x0, 0xFFFFFFFF, 0x0, 0, []⟩
def rowTop : RegRow := ⟨0x100, .rwd, 0x7, 0x7, 0x0, 0, []⟩
def rowRail : RegRow := ⟨300, .rwd, 100, 0xFFFFFFFF, 0, 0, [⟨0, 32, 80, 105, false⟩]⟩

/-- The served state with the trust unit or the datum unit changed. -/
def uT (x : TrustSt) : State := uTrust x
def sealedSt : State := uDatum { up.datum with active := { up.datum.active with sealed := true } }
def stagedD (st : Staged) : State := uDatum { up.datum with staged := some st }

/-- A traverse just opened, and the state that holds it. -/
def travNew (ctx host subsys tid nd len : Nat) : Trav := { ctx := ctx, host := host, subsys := subsys, travId := tid, ndesc := nd, len := len }
def trav5 : Trav := travNew 7 5 1 5 79 5120
def travOpened (v : Trav) (s : State) : State := setTrav s.trav.nextId v { s with trav := { s.trav with nextId := s.trav.nextId + 1 } }

/-- A frame that the MAC has taken is counted at its port and its station. -/
def rxCounted (port len : Nat) (bytes : List Nat) (s : State) : State :=
  let u := bump64 (Reg.NET_RX_BYTES_LO (port / 8)) (port % 8) len (bumpAt (Reg.NET_RX_FRAMES (port / 8)) (port % 8) 1 s)
  (stationOf u port bytes).elim u fun t => bump64 Reg.SWITCH_STN_RX_BYTES_LO t len u
def rxFrame (port len : Nat) (bytes : List Nat) (esp : EspIn) (s : State) : NetFrame :=
  let u := rxCounted port len bytes s
  { seq := u.net.nextSeq, bytes := bytes.take 256, len := len, port := port, time := u.time, prio := ingressPrio u port bytes,
    station := stationOf (bump64 (Reg.NET_RX_BYTES_LO (port / 8)) (port % 8) len (bumpAt (Reg.NET_RX_FRAMES (port / 8)) (port % 8) 1 s)) port bytes
    esp := esp }

/-! ### Small steps -/

theorem test_noWordSpellsACommand : decodeTableWord 32 0xFFFFFFFF = none := by decide +kernel

theorem test_wellFormedCommandIsTaken : wellFormed (.zeberRetrain 31) = true := by decide +kernel

/-- One step of a state on a command. -/
def after (c : Instr) (s : State) : State :=
  match step { s with pending := [c] } with
  | .next t => t
  | _ => s

theorem test_stepEmptiesTheQueue : (after (.refclkRestored 0) up).pending = [] := by decide +kernel

/-- An idle tick advances the controller time by 1 ms (log entry 2). -/
theorem test_emptyQueueTicks : (match step up with | .next t => t.time | _ => 0) = 1000000 := by decide +kernel

/-- R392: a CONFIRM waits for its field book entry. -/
theorem test_confirmWaitsForItsEntry :
    (after (.datumConfirm .management) (uDatum { up.datum with confirmed := false })).trust.queue.length = 1 := by decide +kernel

/-- spec/09, ADD: the 32-bit sum wraps. -/
theorem test_eopAddWraps : (after (.eopAdd 0 2 1 2) (uEng { eng with w := [0, 0xFFFFFFFF, 9, 0, 0, 0, 0, 0] })).net.engines.map
    (fun e => e.2.w) = [[0, 0xFFFFFFFF, 1, 0, 0, 0, 0, 0]] := by decide +kernel

/-- spec/09, a field is read most significant byte first. -/
theorem test_eopExtBigEndian : ((Engine.field { eng with frame := { eng.frame with bytes := [0x12, 0x34, 0, 0], len := 4 } }
    { w := .b2, abs := true, off := 0 }) = some 0x1234) := by decide +kernel

/-- spec/09, MOVI: writes its destination and leaves the other registers. -/
theorem test_eopMoviWritesOne : (after (.eopMovi 0 7 0xFFFFFFFF) (uEng eng)).net.engines.map (fun e => e.2.w) =
    [[0, 0, 0, 0, 0, 0, 0, 0xFFFFFFFF]] := by decide +kernel

/-- A COMMIT with nothing staged is refused with `RESULT` 2 (spec/15). -/
theorem test_commitWithNothingStaged : (after (.datumCommit .management) up).datum.result = 2 := by decide +kernel

/-- R450: a write of an RO register changes nothing but the error report. -/
theorem test_roWriteIsCounted : cfg (after (.registerWrite .security 0 0x104 15 5) up) Reg.TOP_TOP_CTL = 7 := by decide +kernel

/-- R450: a write of one bit of an RW1C register clears that bit alone. -/
theorem test_rw1cClears : rd (after (.registerWrite .security 0x48 536 15 1) { up with regs := [(regKey ⟨0x48, 536⟩ 0, 3)] })
    ⟨0x48, 536⟩ = 2 := by decide +kernel

/-- R190: a packet number is compared modulo 2^24. -/
theorem test_psnWraps : psnRel 0xFFFFFF 1 = 2 := by decide +kernel

/-- R222: a tally target is reached by sequence comparison over 64 bits. -/
theorem test_tallyWraps : tallyMet 3 (2 ^ 64 - 1) = true ∧ tallyMet 3 4 = false := by decide +kernel

/-- R337: the widest whole group of the lanes in lock. -/
theorem test_laneGroup : laneGroup 0xFFFFFFFE = 0xFFFF0000 ∧ laneGroup 0x7FFF7FFF = 0xFF := by decide +kernel

/-- R450: the reset values of `TOP_CTL` and `CONFIRM_S`. -/
theorem test_resetValues : cfg State.reset Reg.TOP_TOP_CTL = 7 ∧ rd State.reset Reg.DATUM_CONFIRM_S = 300 := by decide +kernel

/-! ### Witnesses -/

/-- The hypotheses of each clause of `AnEmptyQueueLetsTheClockTick` can be met. -/
theorem witness_AnEmptyQueueLetsTheClockTick :
    (∃ (s : State), (s.pending = []) ∧ (s.pwr.held = true)) ∧
    (∃ (s : State), (s.pending = []) ∧ (s.pwr.held = false) ∧ (s.pwr.adjPpb = 0) ∧ (s.pwr.adjFrac = 0) ∧ (s.pwr.slewLeft = 0)) :=
  ⟨⟨State.reset, by decide +kernel⟩,
   ⟨up, by decide +kernel⟩⟩

/-- The hypotheses of each clause of `EveryStepKeepsTheTables` can be met. -/
theorem witness_EveryStepKeepsTheTables :
    ∃ (s : State) (t : State), (Tables s) ∧ (step s = .next t) :=
  ⟨State.reset, State.reset, by exact ⟨⟨rfl, rfl, rfl⟩, rfl⟩⟩

/-- The hypotheses of each clause of `TheRootOfTrustTakesNothingBack` can be met. -/
theorem witness_TheRootOfTrustTakesNothingBack :
    ∃ (s : State) (t : State) (c : Nat) (floor : Nat), (step s = .next t) ∧ (floor ≤ tgetD s.trust.svn c 0) :=
  ⟨State.reset, State.reset, 0, 0, by exact ⟨rfl, by decide +kernel⟩⟩

/-- The hypotheses of each clause of `FatalFaultsStopService` can be met. -/
theorem witness_FatalFaultsStopService :
    (∃ (s : State), (s.pwr.xtalBackup = false)) ∧
    (∃ (rail : Nat), (rail = 7)) ∧
    (∃ (rail : Nat) (mv : Nat), (rail = 6) ∧ (mv < 1600)) ∧
    (∃ (rail : Nat) (mv : Nat), (rail ≠ 7) ∧ (¬(rail = 6 ∧ mv < 1600))) ∧
    (∃ (s : State) (f : Nat), (¬0 ∈ s.pwr.refBad) ∧ (f ∈ [2, 3, 4, 5])) ∧
    (∃ (s : State), (¬0 ∈ s.pwr.refBad) ∧ (4 ∈ s.pwr.refBad ∨ s.pwr.xtalBackup = true)) ∧
    (∃ (s : State), (¬0 ∈ s.pwr.refBad) ∧ (¬4 ∈ s.pwr.refBad) ∧ (s.pwr.xtalBackup = false)) ∧
    (∃ (s : State) (k : EngineKind) (i : Nat) (e : Nat), (engineHolds k i s.arch = some e) ∧ (¬e ∈ enginesOut k s.arch)) :=
  ⟨⟨up, by decide +kernel⟩,
   ⟨7, by decide +kernel⟩,
   ⟨6, 1599, by decide +kernel⟩,
   ⟨0, 0, by decide +kernel⟩,
   ⟨up, 4, by decide +kernel⟩,
   ⟨uPwr { up.pwr with refBad := [4] }, by decide +kernel⟩,
   ⟨up, by decide +kernel⟩,
   ⟨up, .parse, 63, 63, by decide +kernel⟩⟩

/-- The hypotheses of each clause of `ClocksAndMeasurementsFollowTheirRules` can be met. -/
theorem witness_ClocksAndMeasurementsFollowTheirRules :
    (∃ (s : State) (ref : Nat), (ref ∈ [1, 2, 3]) ∧ (¬ref ∈ s.pwr.refBad)) ∧
    (∃ (s : State) (ref : Nat), (ref ∈ s.pwr.refBad) ∧ (ref = 1)) ∧
    (∃ (s : State) (ref : Nat), (ref ∈ s.pwr.refBad) ∧ (ref = 2)) ∧
    (∃ (s : State) (ref : Nat), (ref ∈ s.pwr.refBad) ∧ (ref = 3)) ∧
    (∃ (s : State) (ref : Nat), (ref ∈ s.pwr.refBad) ∧ (¬ref ∈ [1, 2, 3])) ∧
    (∃ (s : State) (p : Path) (v : Nat), (MayWrite p Reg.CLK_TIME_ADJ_PPB s) ∧ ((toSigned 32 v).natAbs ≤ 1000000)) ∧
    (∃ (s : State) (p : Path) (v : Nat), (MayWrite p Reg.CLK_TIME_ADJ_PPB s) ∧ (1000000 < (toSigned 32 v).natAbs)) ∧
    (∃ (s : State) (p : Path), (MayWrite p Reg.CLK_TIME_SLEW_NS s)) ∧
    (∃ (s : State) (p : Path), (MayWrite p Reg.CLK_TIME_STEP_HI s) ∧ (s.pwr.disciplined = true)) ∧
    (∃ (s : State) (p : Path), (MayWrite p Reg.CLK_TIME_STEP_HI s) ∧ (s.pwr.disciplined = false)) ∧
    (∃ (s : State) (p : Path), (MayWrite p Reg.CLK_TIME_CMD s)) ∧
    (∃ (s : State) (p : Path), (MayWrite p Reg.RST_WDT_KICK s)) ∧
    (∃ (s : State), (bitAt (cfg s Reg.PWR_PWR_CTL) 0 = true) ∧ (s.pwr.released = true) ∧ (s.pwr.trimming = true)) ∧
    (∃ (s : State), (bitAt (cfg s Reg.PWR_PWR_CTL) 0 = true) ∧ (s.pwr.released = true) ∧ (s.pwr.avsFails = 2)) :=
  ⟨⟨up, 1, by decide +kernel⟩,
   ⟨uPwr { up.pwr with refBad := [1] }, 1, by decide +kernel⟩,
   ⟨uPwr { up.pwr with refBad := [2] }, 2, by decide +kernel⟩,
   ⟨uPwr { up.pwr with refBad := [3] }, 3, by decide +kernel⟩,
   ⟨uPwr { up.pwr with refBad := [4] }, 4, by decide +kernel⟩,
   ⟨up, .security, 1000000, by unfold MayWrite; decide +kernel⟩,
   ⟨up, .security, 1000001, by unfold MayWrite; decide +kernel⟩,
   ⟨up, .security, by unfold MayWrite; decide +kernel⟩,
   ⟨uPwr { up.pwr with disciplined := true }, .security, by unfold MayWrite; decide +kernel⟩,
   ⟨up, .security, by unfold MayWrite; decide +kernel⟩,
   ⟨up, .security, by unfold MayWrite; decide +kernel⟩,
   ⟨up, .security, by unfold MayWrite; decide +kernel⟩,
   ⟨uPwr { up.pwr with trimming := true }, by decide +kernel⟩,
   ⟨uPwr { up.pwr with avsFails := 2 }, by decide +kernel⟩⟩

/-- The hypotheses of each clause of `ResetsHoldOrWaitAsTheirKindSays` can be met. -/
theorem witness_ResetsHoldOrWaitAsTheirKindSays :
    (∃ (s : State) (p : Path), (MayWrite p Reg.RST_RST_CMD s)) ∧
    (∃ (s : State), (¬(s.pwr.serving = true ∧ dirtyOrMirror s = true))) ∧
    (∃ (s : State), (s.pwr.serving = true) ∧ (dirtyOrMirror s = true) ∧ (s.vault.accepted = true) ∧ (s.vault.dumpDone = false)) ∧
    (∃ (s : State), (s.pwr.resetAfterDump = some 1)) ∧
    (∃ (s : State), (bitAt (cfg s Reg.RST_RST_CTL) 0 = true) ∧ (s.pwr.released = true)) ∧
    (∃ (s : State), (s.pwr.fatal = true) ∧ (s.pwr.needCold = false) ∧ (bitAt (cfg s Reg.RST_RST_CTL) 1 = true) ∧ (¬(s.vault.accepted = true ∧
      s.vault.dumpDone = false))) ∧
    (∃ (s : State), (s.pwr.startFail = true)) ∧
    (∃ (s : State), (s.vault.accepted = true) ∧ (s.vault.dumping = true) ∧ (s.vault.dumpDone = true) ∧ (s.vault.source ≠ 2) ∧ (s.pwr.railsBad =
      [])) :=
  ⟨⟨up, .security, by unfold MayWrite; decide +kernel⟩,
   ⟨up, by decide +kernel⟩,
   ⟨{ up with store := { up.store with mirror := [dirtyMir] }, vault := { up.vault with accepted := true } }, by decide +kernel⟩,
   ⟨uPwr { up.pwr with resetAfterDump := some 1 }, by decide +kernel⟩,
   ⟨up, by decide +kernel⟩,
   ⟨conf Reg.RST_RST_CTL 0 3 (uPwr { up.pwr with fatal := true }), by decide +kernel⟩,
   ⟨uPwr { up.pwr with startFail := true }, by decide +kernel⟩,
   ⟨{ up with vault := { up.vault with accepted := true, dumping := true, dumpDone := true } }, by decide +kernel⟩⟩

/-- The hypotheses of each clause of `StartsAndShutdownsComplete` can be met. -/
theorem witness_StartsAndShutdownsComplete :
    (∃ (s : State) (f : StartFacts), (s.pwr.held = true) ∧ (f.lockstepOk = false)) ∧
    (∃ (s : State) (f : StartFacts), (s.pwr.held = true) ∧ (f.lockstepOk = true) ∧ (f.trimOk = false)) ∧
    (∃ (s : State) (f : StartFacts), (s.pwr.held = true) ∧ (f.lockstepOk = true) ∧ (f.trimOk = true)) ∧
    (∃ (s : State) (p : Path) (r : Nat), (MayWrite p Reg.RST_RST_CMD s) ∧ (blockRefusal s (sel s p Reg.RST_BLK_SEL) = some r)) ∧
    (∃ (s : State) (p : Path), (MayWrite p Reg.RST_RST_CMD s) ∧ (blockRefusal s (sel s p Reg.RST_BLK_SEL) = none)) ∧
    (∃ (s : State), (s.pwr.assembling = true)) ∧
    (∃ (s : State), (s.pwr.shuttingDown = true) ∧ (allClean s = true)) ∧
    (∃ (s : State), (s.pwr.shuttingDown = true) ∧ (s.vault.accepted = false)) :=
  ⟨⟨State.reset, { lockstepOk := false }, by decide +kernel⟩,
   ⟨State.reset, { trimOk := false }, by decide +kernel⟩,
   ⟨State.reset, {}, by decide +kernel⟩,
   ⟨up, .security, 2, by unfold MayWrite; decide +kernel⟩,
   ⟨{ up with sels := [(selKey .security Reg.RST_BLK_SEL, 0x15)] }, .security, by unfold MayWrite; decide +kernel⟩,
   ⟨uPwr { up.pwr with assembling := true }, by decide +kernel⟩,
   ⟨uPwr { up.pwr with shuttingDown := true }, by decide +kernel⟩,
   ⟨uPwr { up.pwr with shuttingDown := true }, by decide +kernel⟩⟩

/-- The hypotheses of each clause of `EveryFamilyStaysWithinItsParts` can be met. -/
theorem witness_EveryFamilyStaysWithinItsParts :
    ∃ (c : Instr) (s : State) (t : State), (exec c s = .next t) :=
  ⟨.mctpEidAssign 1, up, { up with evt := { up.evt with mctpEid := 1 } }, by rfl⟩

/-- The hypotheses of each clause of `RegistersReadBackWhatWasWritten` can be met. -/
theorem witness_RegistersReadBackWhatWasWritten :
    (∃ (s : State) (r : RegId) (r' : RegId) (i : Nat) (j : Nat), (Tables s) ∧ (r.off < 65536) ∧ (r'.off < 65536) ∧ (r.page < 256) ∧ (r'.page <
      256) ∧ (i < 67108864) ∧ (j < 67108864) ∧ ((r', j) ≠ (r, i))) ∧
    (∃ (s : State) (r : RegId) (r' : RegId) (i : Nat) (j : Nat) (p : Path) (p' : Path), (Tables s) ∧ (r.off < 65536) ∧ (r'.off < 65536) ∧ (r.page
      < 256) ∧ (r'.page < 256) ∧ (i < 67108864) ∧ (j < 67108864) ∧ ((p', r') ≠ (p, r))) :=
  ⟨⟨up, Reg.TOP_TOP_CTL, Reg.TOP_TOP_CTL, 0, 0x3FFFFFF, by exact ⟨⟨rfl, rfl, rfl⟩, by decide +kernel⟩⟩,
   ⟨up, Reg.EVT_Q_SEL, Reg.EVT_Q_SEL, 0, 0, .security, .management, by exact ⟨⟨rfl, rfl, rfl⟩, by decide +kernel⟩⟩⟩

/-- The hypotheses of each clause of `PowerFailureIsAcceptedDumpedAndReplayed` can be met. -/
theorem witness_PowerFailureIsAcceptedDumpedAndReplayed :
    (∃ (s : State), (s.vault.accepted = false)) ∧
    (∃ (s : State), (s.vault.pfLow = true) ∧ (s.vault.accepted = false) ∧ (Tables s)) ∧
    (∃ (s : State), (bitAt (cfg s Reg.CACHE_CACHE_CTL) 4 = true) ∧ (s.vault.accepted = false)) ∧
    (∃ (s : State), (s.vault.accepted = true) ∧ (s.vault.serdesOff = false)) ∧
    (∃ (s : State), (s.vault.dumping = true) ∧ (s.vault.dumpDone = false) ∧ (¬(s.vault.img.state = 1 ∧ s.vault.img.tAccept = s.vault.acceptAt)) ∧
      (∀ (c : Nat × DrvCmd), c ∈ s.store.cmds → c.snd.discard = true) ∧ (s.store.cmdWait = [])) ∧
    (∃ (s : State), (s.vault.dumping = true) ∧ (s.vault.dumpDone = false) ∧ (s.vault.img.state = 1) ∧ (s.pwr.resetAfterDump = none) ∧
      (s.pwr.shuttingDown = false)) ∧
    (∃ (s : State), (s.vault.dumping = true) ∧ (s.vault.dumpDone = false) ∧ (s.vault.img.state = 1) ∧ (s.pwr.resetAfterDump = some 1)) ∧
    (∃ (s : State) (k : Nat), (s.vault.dumping = true) ∧ (s.vault.dumpDone = false) ∧ (s.vault.img.state = 1) ∧ (k ≠ 1) ∧ (s.pwr.resetAfterDump =
      some k)) ∧
    (∃ (s : State), (s.vault.dumping = true) ∧ (s.vault.dumpDone = false) ∧ (s.vault.img.state = 1) ∧ (s.pwr.resetAfterDump = none) ∧
      (s.pwr.shuttingDown = true)) ∧
    (∃ (s : State), (s.pwr.released = true) ∧ (s.pwr.assembling = false) ∧ (s.vault.accepted = false) ∧ (s.pwr.serving = false) ∧ (s.pwr.fatal =
      false) ∧ (s.trust.kekDbg < 2) ∧ (s.vault.replaying = true) ∧ (dirtyBlocks s = 0)) :=
  ⟨⟨up, by decide +kernel⟩,
   ⟨{ up with vault := { up.vault with pfLow := true } }, by exact ⟨rfl, rfl, ⟨rfl, rfl, rfl⟩⟩⟩,
   ⟨up, by decide +kernel⟩,
   ⟨{ up with vault := { up.vault with accepted := true } }, by decide +kernel⟩,
   ⟨{ up with vault := { up.vault with dumping := true } }, by decide +kernel⟩,
   ⟨{ up with vault := { up.vault with dumping := true, img := { state := 1 } } }, by decide +kernel⟩,
   ⟨{ up with pwr := { up.pwr with resetAfterDump := some 1 }, vault := { up.vault with dumping := true, img := { state := 1 } } }, by decide +kernel⟩,
   ⟨{ up with pwr := { up.pwr with resetAfterDump := some 3 }, vault := { up.vault with dumping := true, img := { state := 1 } } }, 3, by decide +kernel⟩,
   ⟨{ up with pwr := { up.pwr with shuttingDown := true }, vault := { up.vault with dumping := true, img := { state := 1 } } }, by decide +kernel⟩,
   ⟨{ up with pwr := { up.pwr with serving := false }, vault := { up.vault with replaying := true } }, by decide +kernel⟩⟩

/-- The hypotheses of each clause of `TheCacheCarriesWritesToTheMembers` can be met. -/
theorem witness_TheCacheCarriesWritesToTheMembers :
    (∃ (s : State) (id : Nat) (lba : Nat) (c : Ctx), (ctxAt s id = some c) ∧ (c.state = CtxState.waiting) ∧ (c.writer = true) ∧ (c.pulling =
      true) ∧ (c.deferred = false) ∧ (thas c.placed lba = false) ∧ (lba ∈ rangeBlocks c.ranges) ∧ (∀ (a b d e : Nat), c.op ≠ IoOp.traverse a b d
      e)) ∧
    (∃ (s : State) (id : Nat) (c : Ctx), (ctxAt s id = some c) ∧ (writerReady s c = true) ∧ (boundRange s c.slot c.adm c.ranges = true)) ∧
    (∃ (s : State) (id : Nat) (c : Ctx) (u : State), (ctxAt s id = some c) ∧ (writerReady s c = true) ∧ (boundRange s c.slot c.adm c.ranges =
      false) ∧ (c.stake = none) ∧ (landBlocks c.slot c.adm (writeThrough s) (List.map (fun p => (p.fst, { p.snd with wstamp := 0 })) c.placed) s
      = some u)) ∧
    (∃ (s : State) (id : Nat) (c : Ctx) (k : Nat) (l : Nat), (ctxAt s id = some c) ∧ (writerReady s c = true) ∧ (boundRange s c.slot c.adm
      c.ranges = false) ∧ (c.stake = some k) ∧ (List.find? (fun l => decide (k < (stampOf s c.slot l).getD 0)) (rangeBlocks c.ranges) = some l)) ∧
    (∃ (s : State) (id : Nat) (c : Ctx), (ctxAt s id = some c) ∧ (c.state = CtxState.waiting) ∧ (c.writer = true) ∧ ((tfind s.trav.open_ fun _ v
      => v.ctx == id && v.remote.isNone) = none)) ∧
    (∃ (s : State) (slot : Nat) (p : Nat) (st : Nat) (f : Frame), (tget s.store.frames (stripeKey slot p st) = some f) ∧ (f.st =
      FrameState.gathering) ∧ (f.dirty ≠ 0)) ∧
    (∃ (s : State) (k : Nat) (f : Frame), (s.vault.accepted = false) ∧ (s.pair.state ≠ 4) ∧ (s.pair.state ≠ 6) ∧ (s.pwr.fatal = false) ∧
      (nextFlush s = some k) ∧ (tget s.store.frames k = some f)) ∧
    (∃ (s : State) (slot : Nat) (p : Nat) (st : Nat) (f : Frame) (fl : Flush), (tget s.store.frames (stripeKey slot p st) = some f) ∧ (f.flush =
      some fl) ∧ (fl.stage = 1) ∧ (∀ (c : DrvCmd), c ∈ allCmds s → c.purpose = Purpose.journal fl.jseq → c.discard = true)) ∧
    (∃ (s : State) (slot : Nat) (p : Nat) (st : Nat) (f : Frame) (fl : Flush), (tget s.store.frames (stripeKey slot p st) = some f) ∧ (f.flush =
      some fl) ∧ (fl.stage = 2) ∧ (fl.left = 0)) ∧
    (∃ (s : State), (Tables s)) ∧
    (∃ (s : State) (slot : Nat) (lba : Nat) (c : Cell), (visCell s slot lba = some c) ∧ (c.dirty = true) ∧ (inPair s = false)) :=
  ⟨⟨uNvm { up.nvm with ctxs := [(7, { wctx with placed := [], pulling := true })] }, 7, 0, { wctx with placed := [], pulling := true }, by exact ⟨rfl, rfl, rfl, rfl, rfl, rfl, by decide +kernel, fun _ _ _ _ h => nomatch h⟩⟩,
   ⟨{ uNvm { up.nvm with ctxs := [(7, wctx)] } with win := { windows := [(0, { state := 2, slot := 3, pages := 1 })] } }, 7, wctx, by decide +kernel⟩,
   ⟨uNvm { up.nvm with ctxs := [(7, { wctx with ranges := [], placed := [] })] }, 7, { wctx with ranges := [], placed := [] }, uNvm { up.nvm with ctxs := [(7, { wctx with ranges := [], placed := [] })] }, by exact ⟨rfl, by decide +kernel, by decide +kernel, rfl, rfl⟩⟩,
   ⟨{ sFrame { frame0 with cells := [(0, { dirtyCell with blk := { wstamp := 5 } })] } with nvm := { up.nvm with ctxs := [(7, { wctx with stake := some 4 })] } }, 7, { wctx with stake := some 4 }, 4, 0, by decide +kernel⟩,
   ⟨uNvm { up.nvm with ctxs := [(7, { wctx with state := .waiting })] }, 7, { wctx with state := .waiting }, by decide +kernel⟩,
   ⟨sFrame frame0, 3, 0, 0, frame0, by decide +kernel⟩,
   ⟨sFrame { frame0 with st := .full, n := 8, queued := true }, stripeKey 3 0 0, { frame0 with st := .full, n := 8, queued := true }, by decide +kernel⟩,
   ⟨sFrame (frameAt 1), 3, 0, 0, frameAt 1, flush0 1, by exact ⟨rfl, rfl, rfl, fun c h => by cases (show c ∈ ([] : List DrvCmd) from h)⟩⟩,
   ⟨sFrame (frameAt 2), 3, 0, 0, frameAt 2, flush0 2, by decide +kernel⟩,
   ⟨up, by unfold Tables; decide +kernel⟩,
   ⟨sFrame frame0, 3, 0, dirtyCell, by decide +kernel⟩⟩

/-- The hypotheses of each clause of `AssociationsOpenAndEnd` can be met. -/
theorem witness_AssociationsOpenAndEnd :
    (∃ (s : State) (subsys : Nat), (tget s.datum.active.subsystems subsys = none)) ∧
    (∃ (s : State) (nqn : Nat) (subsys : Nat) (r : List Nat), (tget s.datum.active.subsystems subsys = some r) ∧ (hostAllowed r (hostIdx s nqn) =
      false)) ∧
    (∃ (s : State) (nqn : Nat) (subsys : Nat) (station : Nat) (r : List Nat) (h : Nat) (c : Nat), (tget s.datum.active.subsystems subsys = some
      r) ∧ (hostAllowed r (hostIdx s nqn) = true) ∧ (bitAt (fieldLE r 260 128) station = true) ∧ (List.length s.nvm.assocs < 8192) ∧ ((hostsIn
      s).length < 4096) ∧ ((hostIdx s nqn).or (hostFree s) = some h) ∧ (freeCntlid s = some c)) ∧
    (∃ (s : State) (nqn : Nat) (subsys : Nat) (station : Nat) (cntlid : Nat) (qid : Nat) (r : List Nat) (a : Assoc), (tget
      s.datum.active.subsystems subsys = some r) ∧ (hostAllowed r (hostIdx s nqn) = true) ∧ (assocAt s cntlid = some a) ∧ (a.station = station) ∧
      (hostIdx s nqn = some a.host) ∧ (a.subsys = subsys) ∧ (0 < qid) ∧ (qid ≤ 128) ∧ (tget s.nvm.queues (cntlid * 256 + qid) = none)) ∧
    (∃ (s : State) (cntlid : Nat) (a : Assoc), (assocAt s cntlid = some a)) ∧
    (∃ (s : State) (a : Assoc) (q : Nat) (nsid : Nat) (slot : Nat) (n : Ns), (queueAssoc s q = some a) ∧ (attachedSlot s a.subsys a.host nsid =
      some slot) ∧ (nsAt s slot = some n)) :=
  ⟨⟨State.reset, 0, by decide +kernel⟩,
   ⟨uDatum { up.datum with active := { subsystems := [(1, [])] } }, 77, 1, [], by decide +kernel⟩,
   ⟨up, 77, 1, 2, [0, 0, 1, 0] ++ List.replicate 256 0 ++ [0xFF], 5, 2, by decide +kernel⟩,
   ⟨up, 77, 1, 2, 1, 128, [0, 0, 1, 0] ++ List.replicate 256 0 ++ [0xFF], { host := 5, subsys := 1, station := 2, kato := 0 }, by decide +kernel⟩,
   ⟨up, 1, { host := 5, subsys := 1, station := 2, kato := 0 }, by decide +kernel⟩,
   ⟨up, { host := 5, subsys := 1, station := 2, kato := 0 }, 256, 1, 3, { state := 2, subsys := 1, nsid := 1, nsze := 32768, parcels := 2, hosts := [5], ready := true }, by decide +kernel⟩⟩

/-- The hypotheses of each clause of `NamespacesComeAndGo` can be met. -/
theorem witness_NamespacesComeAndGo :
    (∃ (s : State) (q : Nat) (a : Assoc) (nsze : Nat) (ncap : Nat) (flbas : Nat) (vendor : List Nat) (n : Ns) (slot : Nat) (nsid : Nat),
      (queueAssoc s q = some a) ∧ (mgmtAllowed s q 0 = true) ∧ (nsze = ncap) ∧ (nsze ≠ 0) ∧ (bits flbas 0 4 = 0) ∧ (bits flbas 5 2 = 0) ∧
      (vendorArea vendor = some n) ∧ (¬(n.witness = true ∧ (List.any s.nvm.nss fun p => p.snd.witness) = true)) ∧ (layoutW n.layout ≤ (maskBays
      (curMask s)).length) ∧ (ceilDiv nsze 16384 ≤ parcelsFor s (curMask s) n.layout) ∧ (ceilDiv nsze 16384 ≤ entryLimit - entriesUsed s) ∧
      ((firstIdx 16384 fun i => !thas s.nvm.nss i) = some slot) ∧ (freeNsid s a.subsys = some nsid)) ∧
    (∃ (s : State) (q : Nat) (a : Assoc) (nsze : Nat) (ncap : Nat), (queueAssoc s q = some a) ∧ (mgmtAllowed s q 0 = true) ∧ (nsze ≠ ncap)) ∧
    (∃ (s : State) (q : Nat) (a : Assoc) (nsid : Nat) (slot : Nat), (queueAssoc s q = some a) ∧ (mgmtAllowed s q 0 = true) ∧ (nsidSlot s a.subsys
      nsid = some slot)) ∧
    (∃ (s : State) (q : Nat) (a : Assoc) (nsid : Nat) (cntlids : List Nat) (slot : Nat) (hs : List Nat) (n : Ns), (queueAssoc s q = some a) ∧
      (mgmtAllowed s q 1 = true) ∧ (nsidSlot s a.subsys nsid = some slot) ∧ (listHosts s a.subsys cntlids = some hs) ∧ (nsAt s slot = some n) ∧
      ((hs.any fun h => n.hosts.contains h) = true)) ∧
    (∃ (s : State) (q : Nat) (a : Assoc) (nsid : Nat) (cntlids : List Nat) (slot : Nat) (hs : List Nat) (n : Ns), (queueAssoc s q = some a) ∧
      (mgmtAllowed s q 1 = true) ∧ (nsidSlot s a.subsys nsid = some slot) ∧ (listHosts s a.subsys cntlids = some hs) ∧ (nsAt s slot = some n) ∧
      ((hs.any fun h => n.hosts.contains h) = false) ∧ (n.shared = true ∨ n.hosts.length + hs.length ≤ 1)) ∧
    (∃ (s : State) (q : Nat) (a : Assoc) (nsid : Nat) (cntlids : List Nat) (slot : Nat) (hs : List Nat) (n : Ns), (queueAssoc s q = some a) ∧
      (mgmtAllowed s q 1 = true) ∧ (nsidSlot s a.subsys nsid = some slot) ∧ (listHosts s a.subsys cntlids = some hs) ∧ (nsAt s slot = some n) ∧
      ((hs.any fun h => !n.hosts.contains h) = true)) ∧
    (∃ (s : State) (q : Nat) (a : Assoc) (nsid : Nat) (cntlids : List Nat) (slot : Nat) (hs : List Nat) (n : Ns), (queueAssoc s q = some a) ∧
      (mgmtAllowed s q 1 = true) ∧ (nsidSlot s a.subsys nsid = some slot) ∧ (listHosts s a.subsys cntlids = some hs) ∧ (nsAt s slot = some n) ∧
      ((hs.any fun h => !n.hosts.contains h) = false)) ∧
    (∃ (s : State) (q : Nat) (a : Assoc), (queueAssoc s q = some a) ∧ (mgmtAllowed s q 1 = false)) ∧
    (∃ (s : State) (q : Nat) (a : Assoc) (slot : Nat) (n : Ns) (id : Nat) (base : Nat), (queueAssoc s q = some a) ∧ (nsAt s slot = some n) ∧
      (tget s.nvm.mgmtPend slot = some id) ∧ (n.state = 1) ∧ (keyChangeOk s = true) ∧ (freeRun s (ceilDiv n.nsze 16384) = some base)) ∧
    (∃ (s : State) (q : Nat) (a : Assoc) (slot : Nat) (n : Ns) (id : Nat), (queueAssoc s q = some a) ∧ (nsAt s slot = some n) ∧ (tget
      s.nvm.mgmtPend slot = some id) ∧ (n.state = 3) ∧ (keyChangeOk s = true) ∧ (∀ (p : Nat × Ctx), p ∈ s.nvm.ctxs → p.snd.slot = slot → p.fst =
      id) ∧ (∀ (p : Nat × Trav), p ∈ s.trav.open_ → slot ∈ p.snd.slots → p.snd.state = TravState.closed)) ∧
    (∃ (s : State) (q : Nat) (a : Assoc) (idx : Nat) (slot : Nat) (p : Nat) (n : Ns), (queueAssoc s q = some a) ∧ (trising s.store.cad = true) ∧
      (trising s.store.home = true) ∧ (entOwner s idx = some (slot, p)) ∧ ((entAt s idx).state = 5) ∧ ((tgetD s.store.home idx { }).state = 5) ∧
      (nsAt s slot = some n)) :=
  ⟨⟨{ up with store := { up.store with mset0 := 0xFFFFFF, members := (List.range 24).map fun b => (b, { state := 2, cap := 200000 }) } }, 256, assoc1, 16384, 16384, 0, List.replicate 64 0, {}, 0, 2, by decide +kernel⟩,
   ⟨up, 256, assoc1, 1, 2, by decide +kernel⟩,
   ⟨up, 256, assoc1, 1, 3, by decide +kernel⟩,
   ⟨up, 256, assoc1, 1, [1], 3, [5], ns3, by decide +kernel⟩,
   ⟨uNs { ns3 with hosts := [] }, 256, assoc1, 1, [1], 3, [5], { ns3 with hosts := [] }, by decide +kernel⟩,
   ⟨uNs { ns3 with hosts := [] }, 256, assoc1, 1, [1], 3, [5], { ns3 with hosts := [] }, by decide +kernel⟩,
   ⟨up, 256, assoc1, 1, [1], 3, [5], ns3, by decide +kernel⟩,
   ⟨conf Reg.NSMGR_NSMGR_CTL 0 0 up, 256, assoc1, by decide +kernel⟩,
   ⟨uNvm { up.nvm with nss := [(3, { ns3 with state := 1, parcels := 0 })], mgmtPend := [(3, 7)] }, 256, assoc1, 3, { ns3 with state := 1, parcels := 0 }, 7, 0, by decide +kernel⟩,
   ⟨uNvm { up.nvm with nss := [(3, { ns3 with state := 3 })], mgmtPend := [(3, 7)] }, 256, assoc1, 3, { ns3 with state := 3 }, 7, by exact ⟨rfl, rfl, rfl, rfl, rfl, fun p h => (nomatch h), fun p h => (nomatch h)⟩⟩,
   ⟨uStore { up.store with cad := [(0, { state := 5 })], home := [(0, { state := 5 })] }, 256, assoc1, 0, 3, 0, ns3, by decide +kernel⟩⟩

/-- The hypotheses of each clause of `IoCommandsAreAdmittedNumberedAndStarted` can be met. -/
theorem witness_IoCommandsAreAdmittedNumberedAndStarted :
    (∃ (s : State) (c : Instr) (q : Nat) (cap : Capsule) (x : Queue) (a : Assoc), (hostCommand c = some (q, cap)) ∧ (tget s.nvm.queues q = some
      x) ∧ (queueAssoc s q = some a) ∧ ((tcount s.nvm.ctxs fun _ k => k.q == q) + x.held.length < x.size) ∧ (x.held ≠ [])) ∧
    (∃ (s : State) (c : Instr) (q : Nat) (cap : Capsule) (x : Queue) (a : Assoc) (slot : Nat) (n : Ns) (adm : Nat) (u : State), (hostCommand c =
      some (q, cap)) ∧ (tget s.nvm.queues q = some x) ∧ (queueAssoc s q = some a) ∧ ((tcount s.nvm.ctxs fun _ k => k.q == q) + x.held.length <
      x.size) ∧ (x.held = []) ∧ (mayParse (holdCapsule q cap x s) a.host = true) ∧ (attachedSlot s a.subsys a.host cap.nsid = some slot) ∧ (nsAt
      s slot = some n) ∧ (n.moving = false) ∧ (n.admHold = false) ∧ (ownsNs s n = true) ∧ (n.ready = true) ∧ (servesNow s = true) ∧ (opStamps
      cap.op = true) ∧ (opWindow cap.op = none) ∧ (stamp slot (holdCapsule q cap x s) = (some adm, u))) ∧
    (∃ (s : State) (c : Instr) (q : Nat) (cap : Capsule) (x : Queue) (a : Assoc) (op : Nat), (hostCommand c = some (q, cap)) ∧ (tget s.nvm.queues
      q = some x) ∧ (queueAssoc s q = some a) ∧ ((tcount s.nvm.ctxs fun _ k => k.q == q) + x.held.length < x.size) ∧ (cap.op = IoOp.other op) ∧
      (x.held = []) ∧ (mayParse (holdCapsule q cap x s) a.host = true)) :=
  ⟨⟨uNvm { up.nvm with queues := [(257, { size := 32, held := [{ cid := 9, nsid := 1, op := .read 0 1 }] })] }, .read 257 9 1 2 0 0 1, 257, { cid := 9, nsid := 1, op := .read 0 1 }, { size := 32, held := [{ cid := 9, nsid := 1, op := .read 0 1 }] }, assoc1, by decide +kernel⟩,
   ⟨up, .read 257 9 1 2 0 0 1, 257, { cid := 9, nsid := 1, op := .read 0 1 }, { size := 32 }, assoc1, 3, ns3, 1, setNs 3 { ns3 with adm := 1 } (holdCapsule 257 { cid := 9, nsid := 1, op := .read 0 1 } { size := 32 } up), by decide +kernel⟩,
   ⟨up, .read 257 9 1 7 0 0 1, 257, { cid := 9, nsid := 1, op := .other 7 }, { size := 32 }, assoc1, 7, by decide +kernel⟩⟩

/-- The hypotheses of each clause of `AStartedCommandMeetsItsChecks` can be met. -/
theorem witness_AStartedCommandMeetsItsChecks :
    (∃ (s : State) (id : Nat) (a : Nat) (nlb : Nat) (n : Ns) (c : Ctx), (ctxAt s id = some c) ∧ (n.nsze < a + nlb)) ∧
    (∃ (s : State) (id : Nat) (a : Nat) (nlb : Nat) (n : Ns) (c : Ctx), (ctxAt s id = some c) ∧ (a + nlb ≤ n.nsze) ∧ (512 < nlb)) ∧
    (∃ (s : State) (id : Nat) (host : Nat) (a : Nat) (nlb : Nat) (n : Ns) (c : Ctx), (ctxAt s id = some c) ∧ (a + nlb ≤ n.nsze) ∧ (nlb ≤ 512) ∧
      (resvRefuses n.resv host true = true)) ∧
    (∃ (s : State) (id : Nat) (host : Nat) (a : Nat) (nlb : Nat) (n : Ns) (c : Ctx), (ctxAt s id = some c) ∧ (a + nlb ≤ n.nsze) ∧ (nlb ≤ 512) ∧
      (resvRefuses n.resv host true = false) ∧ (n.stakeMode = true)) ∧
    (∃ (s : State) (id : Nat) (host : Nat) (a : Nat) (nlb : Nat) (n : Ns) (c : Ctx), (ctxAt s id = some c) ∧ (a + nlb ≤ n.nsze) ∧ (nlb ≤ 512) ∧
      (resvRefuses n.resv host true = false) ∧ (n.stakeMode = false)) ∧
    (∃ (s : State) (id : Nat) (host : Nat) (a : Nat) (nlb : Nat) (n : Ns) (c : Ctx), (ctxAt s id = some c) ∧ (a + nlb ≤ n.nsze) ∧ (nlb ≤ 512) ∧
      (resvRefuses n.resv host false = true)) ∧
    (∃ (s : State) (id : Nat) (host : Nat) (a : Nat) (nlb : Nat) (n : Ns) (c : Ctx), (ctxAt s id = some c) ∧ (a + nlb ≤ n.nsze) ∧ (nlb ≤ 512) ∧
      (resvRefuses n.resv host false = false)) :=
  ⟨⟨uNvm { up.nvm with ctxs := [(7, wctx)] }, 7, 32768, 1, ns3, wctx, by decide +kernel⟩,
   ⟨uNvm { up.nvm with ctxs := [(7, wctx)] }, 7, 0, 513, ns3, wctx, by decide +kernel⟩,
   ⟨uNvm { up.nvm with ctxs := [(7, wctx)] }, 7, 5, 32767, 1, { ns3 with resv := { rtype := 1, holder := some 6, keys := [] } }, wctx, by decide +kernel⟩,
   ⟨uNvm { up.nvm with ctxs := [(7, wctx)] }, 7, 5, 0, 512, { ns3 with stakeMode := true }, wctx, by decide +kernel⟩,
   ⟨uNvm { up.nvm with ctxs := [(7, wctx)] }, 7, 5, 0, 512, ns3, wctx, by decide +kernel⟩,
   ⟨uNvm { up.nvm with ctxs := [(7, wctx)] }, 7, 5, 0, 512, { ns3 with resv := { rtype := 2, holder := some 6 } }, wctx, by decide +kernel⟩,
   ⟨uNvm { up.nvm with ctxs := [(7, wctx)] }, 7, 5, 0, 512, ns3, wctx, by decide +kernel⟩⟩

/-- The hypotheses of each clause of `DriveCompletionsSettleWhatIssuedThem` can be met. -/
theorem witness_DriveCompletionsSettleWhatIssuedThem :
    (∃ (s : State) (tag : Nat) (c : DrvCmd), (tget s.store.cmds tag = some c) ∧ (c.quarantined = true)) ∧
    (∃ (s : State) (tag : Nat) (c : DrvCmd) (j : Nat) (strip : Nat) (rows : List Nat) (d : Bool), (tget s.store.cmds tag = some c) ∧
      (c.quarantined = false) ∧ (c.write = false) ∧ (c.discard = false) ∧ (c.purpose = Purpose.read j strip rows d)) ∧
    (∃ (s : State) (tag : Nat) (c : DrvCmd) (t : Nat), (tget s.store.cmds tag = some c) ∧ (c.quarantined = false) ∧ (c.write = false) ∧
      (c.discard = false) ∧ (c.purpose = Purpose.remote t)) ∧
    (∃ (s : State) (tag : Nat) (c : DrvCmd) (k : Nat), (tget s.store.cmds tag = some c) ∧ (c.quarantined = false) ∧ (c.write = true) ∧ (c.discard
      = false) ∧ (c.purpose = Purpose.flushWrite k)) ∧
    (∃ (s : State) (tag : Nat) (c : DrvCmd) (idx : Nat), (tget s.store.cmds tag = some c) ∧ (c.quarantined = false) ∧ (c.write = true) ∧
      (c.discard = false) ∧ (c.purpose = Purpose.home idx)) ∧
    (∃ (s : State) (tag : Nat) (c : DrvCmd) (t : Nat), (tget s.store.cmds tag = some c) ∧ (c.quarantined = false) ∧ (c.write = true) ∧ (c.discard
      = false) ∧ (c.purpose = Purpose.remote t)) ∧
    (∃ (s : State) (tag : Nat) (c : DrvCmd), (tget s.store.cmds tag = some c) ∧ (c.quarantined = false) ∧ (c.write = true) ∧ (c.discard = true)) :=
  ⟨⟨uStore { up.store with cmds := [(1, { bay := 0, write := false, lba := 0, n := 1, purpose := .other, quarantined := true })] }, 1, { bay := 0, write := false, lba := 0, n := 1, purpose := .other, quarantined := true }, by decide +kernel⟩,
   ⟨uStore { up.store with cmds := [(1, { bay := 0, write := false, lba := 0, n := 1, purpose := .read 0 0 [0] false })] }, 1, { bay := 0, write := false, lba := 0, n := 1, purpose := .read 0 0 [0] false }, 0, 0, [0], false, by decide +kernel⟩,
   ⟨uStore { up.store with cmds := [(1, { bay := 0, write := false, lba := 0, n := 1, purpose := .remote 4 })] }, 1, { bay := 0, write := false, lba := 0, n := 1, purpose := .remote 4 }, 4, by decide +kernel⟩,
   ⟨uStore { up.store with cmds := [(1, { bay := 0, write := true, lba := 0, n := 1, purpose := .flushWrite 0 })] }, 1, { bay := 0, write := true, lba := 0, n := 1, purpose := .flushWrite 0 }, 0, by decide +kernel⟩,
   ⟨uStore { up.store with cmds := [(1, { bay := 0, write := true, lba := 0, n := 1, purpose := .home 0 })] }, 1, { bay := 0, write := true, lba := 0, n := 1, purpose := .home 0 }, 0, by decide +kernel⟩,
   ⟨uStore { up.store with cmds := [(1, { bay := 0, write := true, lba := 0, n := 1, purpose := .remote 4 })] }, 1, { bay := 0, write := true, lba := 0, n := 1, purpose := .remote 4 }, 4, by decide +kernel⟩,
   ⟨uStore { up.store with cmds := [(1, { bay := 0, write := true, lba := 0, n := 1, purpose := .other, discard := true })] }, 1, { bay := 0, write := true, lba := 0, n := 1, purpose := .other, discard := true }, by decide +kernel⟩⟩

/-- The hypotheses of each clause of `ParityWorkGoesOn` can be met. -/
theorem witness_ParityWorkGoesOn :
    (∃ (s : State) (tag : Nat) (c : DrvCmd) (j : Nat) (strip : Nat) (rows : List Nat) (d : Bool) (x : Job), (tget s.store.cmds tag = some c) ∧
      (c.purpose = Purpose.read j strip rows d) ∧ (c.write = false) ∧ (c.discard = false) ∧ (c.hedged = false) ∧ (c.deadline = true) ∧ (jobAt s j
      = some x) ∧ (2 ≤ (stripErasures s x).length)) ∧
    (∃ (s : State) (tag : Nat) (c : DrvCmd) (j : Nat) (strip : Nat) (rows : List Nat) (d : Bool) (x : Job), (tget s.store.cmds tag = some c) ∧
      (c.purpose = Purpose.read j strip rows d) ∧ (c.write = false) ∧ (c.discard = false) ∧ (c.hedged = false) ∧ (c.deadline = true) ∧ (jobAt s j
      = some x) ∧ ((stripErasures s x).length < 2)) ∧
    (∃ (s : State) (j : Nat) (x : Job), (jobAt s j = some x) ∧ (x.recon = true)) ∧
    (∃ (s : State) (i : Nat), (i < 8) ∧ (¬i ∈ s.store.seqFailed)) ∧
    (∃ (s : State) (i : Nat), (i ∈ s.store.seqFailed)) ∧
    (∃ (s : State) (slot : Nat) (parcel : Nat) (stripe : Nat) (f : Frame), (tget s.store.frames (stripeKey slot parcel stripe) = some f) ∧
      (f.heldRow = true)) :=
  ⟨⟨uStore { up.store with cmds := [(1, { bay := 0, write := false, lba := 0, n := 1, purpose := .read 0 0 [0] false, deadline := true })], jobs := [(0, { kind := .hostRead 7, slot := 3, parcel := 0, stripe := 0, place := {}, want := [0], bad := [(0, 3), (1, 2)] })] }, 1, { bay := 0, write := false, lba := 0, n := 1, purpose := .read 0 0 [0] false, deadline := true }, 0, 0, [0], false, { kind := .hostRead 7, slot := 3, parcel := 0, stripe := 0, place := {}, want := [0], bad := [(0, 3), (1, 2)] }, by decide +kernel⟩,
   ⟨uStore { up.store with cmds := [(1, { bay := 0, write := false, lba := 0, n := 1, purpose := .read 0 0 [0] false, deadline := true })], jobs := [(0, { kind := .hostRead 7, slot := 3, parcel := 0, stripe := 0, place := {}, want := [0], bad := [] })], members := (List.range 24).map fun b => (b, { state := 2, cap := 200000 }), mset0 := 0xFFFFFF, homes0 := [0, 1, 2] }, 1, { bay := 0, write := false, lba := 0, n := 1, purpose := .read 0 0 [0] false, deadline := true }, 0, 0, [0], false, { kind := .hostRead 7, slot := 3, parcel := 0, stripe := 0, place := {}, want := [0], bad := [] }, by decide +kernel⟩,
   ⟨uStore { up.store with jobs := [(0, { kind := .hostRead 7, slot := 3, parcel := 0, stripe := 0, place := {}, want := [0], bad := [], recon := true })] }, 0, { kind := .hostRead 7, slot := 3, parcel := 0, stripe := 0, place := {}, want := [0], bad := [], recon := true }, by decide +kernel⟩,
   ⟨up, 3, by decide +kernel⟩,
   ⟨uStore { up.store with seqFailed := [3] }, 3, by decide +kernel⟩,
   ⟨sFrame { frame0 with heldRow := true }, 3, 0, 0, { frame0 with heldRow := true }, by decide +kernel⟩⟩

/-- The hypotheses of each clause of `TheCadastreIsPersistedFormattedAndReported` can be met. -/
theorem witness_TheCadastreIsPersistedFormattedAndReported :
    (∃ (s : State) (slot : Nat) (parcel : Nat), ((entAt s (entIdx s slot parcel)).state = 2) ∧ (s.vault.accepted = false) ∧ (ringRoom s = true) ∧
      (((entAt s (entIdx s slot parcel)).format + 1 == stripesPer (entAt s (entIdx s slot parcel)).layout) = true)) ∧
    (∃ (s : State) (q : Nat) (nsid : Nat) (a : Assoc), (queueAssoc s q = some a) ∧ (pageSlots s a nsid = none)) ∧
    (∃ (s : State) (q : Nat) (nsid : Nat) (a : Assoc) (slots : List Nat), (queueAssoc s q = some a) ∧ (pageSlots s a nsid = some slots)) :=
  ⟨⟨uStore { up.store with cad := [(0, { state := 2, format := stripesPer 0 - 1 })], members := (List.range 24).map fun b => (b, { state := 2, cap := 200000 }), mset0 := 0xFFFFFF, homes0 := [0, 1, 2] }, 3, 0, by decide +kernel⟩,
   ⟨up, 257, 9, assoc1, by decide +kernel⟩,
   ⟨up, 257, 1, assoc1, [3], by decide +kernel⟩⟩

/-- The hypotheses of each clause of `MembersDepartFailAndAreAdmitted` can be met. -/
theorem witness_MembersDepartFailAndAreAdmitted :
    (∃ (s : State) (bay : Nat) (cause : Nat) (both : Bool), (bay < 24) ∧ (cause ≠ 2 ∨ inPair s = false ∨ both = true) ∧ ((memberAt s bay).state =
      1)) ∧
    (∃ (s : State) (bay : Nat), (bay < 24) ∧ (inPair s = true)) ∧
    (∃ (s : State) (bay : Nat), (bay ∈ s.store.rehoming)) ∧
    (∃ (s : State) (seg : Nat), (seg ∈ s.store.homeShort) ∧ (3 ≤ (homeBays s seg).length)) ∧
    (∃ (s : State) (bay : Nat), ((memberAt s bay).state = 3) ∧ ((memberAt s bay).returnArmed = true)) ∧
    (∃ (s : State) (bay : Nat) (p : Path), (MayWrite p Reg.REBUILD_MEMBER_CMD s) ∧ (bay = sel s p Reg.REBUILD_MEMBER_SEL % 32) ∧ ((memberAt s
      bay).state ≠ 3)) ∧
    (∃ (s : State) (bay : Nat) (p : Path), (MayWrite p Reg.REBUILD_MEMBER_CMD s) ∧ (bay = sel s p Reg.REBUILD_MEMBER_SEL % 32) ∧ ((memberAt s
      bay).state = 3)) ∧
    (∃ (s : State) (bay : Nat) (p : Path), (MayWrite p Reg.REBUILD_MEMBER_CMD s) ∧ (bay = sel s p Reg.REBUILD_MEMBER_SEL % 32) ∧ (¬(memberAt s
      bay).state ∈ [1, 3, 4, 5])) ∧
    (∃ (s : State) (bay : Nat) (p : Path), (MayWrite p Reg.REBUILD_MEMBER_CMD s) ∧ (bay = sel s p Reg.REBUILD_MEMBER_SEL % 32) ∧ ((memberAt s
      bay).state ∈ [3, 4, 5]) ∧ ((memberAt s bay).waitSerial = none)) ∧
    (∃ (s : State) (bay : Nat) (p : Path), (MayWrite p Reg.REBUILD_MEMBER_CMD s) ∧ (bay = sel s p Reg.REBUILD_MEMBER_SEL % 32) ∧ ((memberAt s
      bay).state ∈ [3, 4, 5]) ∧ ((memberAt s bay).waitSerial.isSome = true) ∧ ((memberAt s bay).waitCap < setStrips s (clrBit (curMask s) bay))) ∧
    (∃ (s : State) (bay : Nat) (p : Path), (MayWrite p Reg.REBUILD_MEMBER_CMD s) ∧ (bay = sel s p Reg.REBUILD_MEMBER_SEL % 32) ∧ ((memberAt s
      bay).state ∈ [3, 4, 5]) ∧ ((memberAt s bay).waitSerial.isSome = true) ∧ (setStrips s (clrBit (curMask s) bay) ≤ (memberAt s bay).waitCap)) ∧
    (∃ (s : State) (bay : Nat) (p : Path), (MayWrite p Reg.REBUILD_MEMBER_CMD s) ∧ (bay = sel s p Reg.REBUILD_MEMBER_SEL % 32) ∧ ((memberAt s
      bay).state ≠ 6)) ∧
    (∃ (s : State) (bay : Nat) (p : Path), (MayWrite p Reg.REBUILD_MEMBER_CMD s) ∧ (bay = sel s p Reg.REBUILD_MEMBER_SEL % 32) ∧ ((memberAt s
      bay).state = 6)) :=
  ⟨⟨uStore { up.store with members := [(2, { state := 1 })] }, 2, 1, false, by decide +kernel⟩,
   ⟨uPair { up.pair with state := 4 }, 2, by decide +kernel⟩,
   ⟨uStore { up.store with rehoming := [2] }, 2, by decide +kernel⟩,
   ⟨uStore { up.store with homeShort := [0], members := (List.range 24).map fun b => (b, { state := 2 }), mset0 := 0xFFFFFF }, 0, by decide +kernel⟩,
   ⟨uStore { up.store with members := [(2, { state := 3, returnArmed := true })] }, 2, by decide +kernel⟩,
   ⟨{ uStore { up.store with members := [(2, { state := 2 })] } with sels := [(selKey .management Reg.REBUILD_MEMBER_SEL, 2)] }, 2, .management, by unfold MayWrite; decide +kernel⟩,
   ⟨{ uStore { up.store with members := [(2, { state := 3 })] } with sels := [(selKey .management Reg.REBUILD_MEMBER_SEL, 2)] }, 2, .management, by unfold MayWrite; decide +kernel⟩,
   ⟨{ uStore { up.store with members := [(2, { state := 2 })] } with sels := [(selKey .management Reg.REBUILD_MEMBER_SEL, 2)] }, 2, .management, by unfold MayWrite; decide +kernel⟩,
   ⟨{ uStore { up.store with members := [(2, { state := 3 })] } with sels := [(selKey .management Reg.REBUILD_MEMBER_SEL, 2)] }, 2, .management, by unfold MayWrite; decide +kernel⟩,
   ⟨{ uStore { up.store with members := [(0, { state := 2, cap := 200000 }), (2, { state := 3, waitSerial := some 5 })], mset0 := 5 } with sels := [(selKey .management Reg.REBUILD_MEMBER_SEL, 2)] }, 2, .management, by unfold MayWrite; decide +kernel⟩,
   ⟨{ uStore { up.store with members := [(2, { state := 3, waitSerial := some 5, waitCap := 99999999999 })] } with sels := [(selKey .management Reg.REBUILD_MEMBER_SEL, 2)] }, 2, .management, by unfold MayWrite; decide +kernel⟩,
   ⟨{ uStore { up.store with members := [(2, { state := 1 })] } with sels := [(selKey .management Reg.REBUILD_MEMBER_SEL, 2)] }, 2, .management, by unfold MayWrite; decide +kernel⟩,
   ⟨{ uStore { up.store with members := [(2, { state := 6 })] } with sels := [(selKey .management Reg.REBUILD_MEMBER_SEL, 2)] }, 2, .management, by unfold MayWrite; decide +kernel⟩⟩

/-- The hypotheses of each clause of `RebuildFillAndScrubAdvance` can be met. -/
theorem witness_RebuildFillAndScrubAdvance :
    (∃ (s : State) (raws : Tab Raw) (i : Nat) (slot : Nat) (parcel : Nat) (st : Nat) (st2 : Nat) (rest : List Nat), (s.vault.accepted = false) ∧
      (s.pwr.serving = true) ∧ (s.store.rbEntry = some i) ∧ (entOwner s i = some (slot, parcel)) ∧ (s.store.rbStripes = st :: st2 :: rest) ∧ (∀
      (f : Frame), tget s.store.frames (stripeKey slot parcel st) = some f → f.st ≠ FrameState.flushing) ∧ ((closeHeld slot parcel st raws
      (rebuildStrip slot parcel st i s.store.rbBay raws { s with store := { s.store with rbStripes := st2 :: rest } })).store.rbStripes ≠ [])) ∧
    (∃ (s : State) (i : Nat) (slot : Nat) (parcel : Nat), (s.vault.accepted = false) ∧ (s.pwr.serving = true) ∧ (s.store.rbEntry = some i) ∧
      (entOwner s i = some (slot, parcel)) ∧ (s.store.rbStripes = []) ∧ (s.store.rbHeld = false)) ∧
    (∃ (s : State) (bay : Nat), (s.vault.accepted = false) ∧ (s.pwr.serving = true) ∧ ((memberAt s bay).state = 6 ∨ (memberAt s bay).state = 7) ∧
      ((memberAt s bay).formatting = false) ∧ (∀ (i : Nat), i ∈ bayEntries s bay → i ∈ (memberAt s bay).done)) ∧
    (∃ (s : State), (s.vault.accepted = false) ∧ (s.pwr.serving = true) ∧ (scrubRuns s = false)) ∧
    (∃ (s : State), (s.vault.accepted = false) ∧ (s.pwr.serving = true) ∧ (scrubRuns s = true) ∧ (scrubEntries s ≠ []) ∧ (∀ (i : Nat), i ∈
      scrubEntries s → i < s.store.scrubEntry)) ∧
    (∃ (s : State) (i : Nat) (slot : Nat) (parcel : Nat), (s.vault.accepted = false) ∧ (s.pwr.serving = true) ∧ (scrubRuns s = true) ∧
      (List.find? (fun i => decide (s.store.scrubEntry ≤ i)) (scrubEntries s) = some i) ∧ (i = s.store.scrubEntry) ∧ (entOwner s i = some (slot,
      parcel)) ∧ (s.store.scrubStripe + 1 < stripesPer (entAt s i).layout) ∧ (stripeDirty s (stripeKey slot parcel s.store.scrubStripe) = true)) :=
  ⟨⟨uStore { up.store with cad := [(0, { state := 3 })], rbEntry := some 0, rbStripes := [0, 1] }, [], 0, 3, 0, 0, 1, [], by exact ⟨rfl, rfl, rfl, rfl, rfl, fun f h => (nomatch h), by decide +kernel⟩⟩,
   ⟨uStore { up.store with cad := [(0, { state := 3 })], rbEntry := some 0 }, 0, 3, 0, by decide +kernel⟩,
   ⟨uStore { up.store with members := [(2, { state := 6 })] }, 2, by exact ⟨rfl, rfl, by decide +kernel, rfl, by decide +kernel⟩⟩,
   ⟨conf Reg.REBUILD_RB_CTL 0 0 up, by decide +kernel⟩,
   ⟨uStore { up.store with cad := [(0, { state := 3 })], scrubEntry := 5 }, by decide +kernel⟩,
   ⟨uStore { up.store with cad := [(0, { state := 3 })], frames := [(stripeKey 3 0 0, frame0)] }, 0, 3, 0, by decide +kernel⟩⟩

/-- The hypotheses of each clause of `AReshapeBeginsStopsAndMoves` can be met. -/
theorem witness_AReshapeBeginsStopsAndMoves :
    (∃ (s : State) (p : Path), (MayWrite p Reg.REBUILD_RESHAPE_CMD s) ∧ (s.store.reshape.state ≠ 0)) ∧
    (∃ (s : State) (p : Path) (r : Nat), (MayWrite p Reg.REBUILD_RESHAPE_CMD s) ∧ (reshapeReason s (rd s Reg.REBUILD_RESHAPE_KIND % 2) (rd s
      Reg.REBUILD_RESHAPE_SLOT % 16384) (rd s Reg.REBUILD_RESHAPE_LAYOUT % 4) (rd s Reg.REBUILD_RESHAPE_MSET % 2 ^ 24) = some r)) ∧
    (∃ (s : State) (p : Path), (MayWrite p Reg.REBUILD_RESHAPE_CMD s) ∧ (reshapeReason s (rd s Reg.REBUILD_RESHAPE_KIND % 2) (rd s
      Reg.REBUILD_RESHAPE_SLOT % 16384) (rd s Reg.REBUILD_RESHAPE_LAYOUT % 4) (rd s Reg.REBUILD_RESHAPE_MSET % 2 ^ 24) = none)) ∧
    (∃ (s : State) (p : Path), (MayWrite p Reg.REBUILD_RESHAPE_CMD s) ∧ (s.store.mset0 = 0) ∧ (s.store.mset1 = 0) ∧ (rd s
      Reg.REBUILD_RESHAPE_MSET % 2 ^ 24 ≠ 0) ∧ (∀ (b : Nat), b ∈ maskBays (rd s Reg.REBUILD_RESHAPE_MSET % 2 ^ 24) → (memberAt s b).state = 1)) ∧
    (∃ (s : State) (p : Path), (MayWrite p Reg.REBUILD_RESHAPE_CMD s) ∧ (s.store.mset0 ≠ 0)) ∧
    (∃ (s : State) (p : Path), (MayWrite p Reg.REBUILD_RESHAPE_CMD s) ∧ (s.store.reshape.state = 1)) ∧
    (∃ (s : State) (p : Path), (MayWrite p Reg.REBUILD_RESHAPE_CMD s) ∧ (s.store.reshape.state ≠ 1)) ∧
    (∃ (s : State) (p : Path), (MayWrite p Reg.REBUILD_RESHAPE_CMD s) ∧ (s.store.reshape.state = 2)) ∧
    (∃ (s : State) (p : Path), (MayWrite p Reg.REBUILD_RESHAPE_CMD s) ∧ (s.store.reshape.state ≠ 2)) ∧
    (∃ (s : State), (s.store.reshape.state = 1) ∧ (s.vault.accepted = false) ∧ (ringRoom s = true) ∧ (s.store.reshape.last ≤
      s.store.reshape.baseline)) ∧
    (∃ (s : State) (i : Nat) (slot : Nat) (parcel : Nat), (s.store.reshape.state = 1) ∧ (s.vault.accepted = false) ∧ (ringRoom s = true) ∧
      (s.store.reshape.baseline < s.store.reshape.last) ∧ (reshapeAt s = some (i, slot, parcel)) ∧ ((entAt s i).state = 0)) :=
  ⟨⟨uStore { up.store with reshape := { state := 1 } }, .management, by unfold MayWrite; decide +kernel⟩,
   ⟨uStore { up.store with reshape := { state := 1 } }, .management, 1, by unfold MayWrite; decide +kernel⟩,
   ⟨{ uStore { up.store with members := (List.range 24).map fun b => (b, { state := 2, cap := 200000 }), mset0 := 0xFFFFFF, homes0 := [0, 1, 2] } with regs := [(regKey Reg.REBUILD_RESHAPE_SLOT 0, 3)] }, .management, by unfold MayWrite; decide +kernel⟩,
   ⟨{ uStore { up.store with members := (List.range 24).map fun b => (b, { state := 1 }) } with regs := [(regKey Reg.REBUILD_RESHAPE_MSET 0, 0xFFFF)] }, .management, by unfold MayWrite; decide +kernel⟩,
   ⟨uStore { up.store with members := (List.range 24).map fun b => (b, { state := 2, cap := 200000 }), mset0 := 0xFFFFFF, homes0 := [0, 1, 2] }, .management, by unfold MayWrite; decide +kernel⟩,
   ⟨uStore { up.store with reshape := { state := 1 } }, .management, by unfold MayWrite; decide +kernel⟩,
   ⟨up, .management, by unfold MayWrite; decide +kernel⟩,
   ⟨uStore { up.store with reshape := { state := 2 } }, .management, by unfold MayWrite; decide +kernel⟩,
   ⟨up, .management, by unfold MayWrite; decide +kernel⟩,
   ⟨uStore { up.store with reshape := { state := 1, last := 2, baseline := 2 }, members := (List.range 24).map fun b => (b, { state := 2, cap := 200000 }), mset0 := 0xFFFFFF, homes0 := [0, 1, 2] }, by decide +kernel⟩,
   ⟨uStore { up.store with reshape := { state := 1, last := 2, baseline := 0, slot := 3 }, members := (List.range 24).map fun b => (b, { state := 2, cap := 200000 }), mset0 := 0xFFFFFF, homes0 := [0, 1, 2] }, 0, 3, 0, by decide +kernel⟩⟩

/-- The hypotheses of each clause of `TraversesAndWindowCommandsAreAdmitted` can be met. -/
theorem witness_TraversesAndWindowCommandsAreAdmitted :
    (∃ (s : State) (q : Nat) (cid : Nat) (x : Queue) (a : Assoc) (nsid : Nat) (tid : Nat) (nd : Nat) (len : Nat) (fuse : Nat) (slot : Nat) (n :
      Ns) (cap : Capsule) (u : State), (tget s.nvm.queues q = some x) ∧ (queueAssoc s q = some a) ∧ (x.held = []) ∧ ((tcount s.nvm.ctxs fun _ k
      => k.q == q) < x.size) ∧ (cap = { cid := cid, nsid := nsid, op := IoOp.traverse tid nd len fuse }) ∧ (u = holdCapsule q cap x s) ∧
      (mayParse u a.host = true) ∧ (attachedSlot s a.subsys a.host nsid = some slot) ∧ (nsAt s slot = some n) ∧ (n.moving = false) ∧ (ownsNs s n
      = true) ∧ (n.ready = true) ∧ (servesNow s = true)) ∧
    (∃ (s : State) (q : Nat) (cid : Nat) (x : Queue) (a : Assoc) (rights : Nat) (ho : Bool) (w : Nat) (off : Nat) (len : Nat) (cap : Capsule) (u
      : State), (tget s.nvm.queues q = some x) ∧ (queueAssoc s q = some a) ∧ (x.held = []) ∧ ((tcount s.nvm.ctxs fun _ k => k.q == q) < x.size) ∧
      (cap = { cid := cid, nsid := 0, op := IoOp.keyCreate rights ho w off len }) ∧ (u = holdCapsule q cap x s) ∧ (mayParse u a.host = true)) ∧
    (∃ (s : State) (q : Nat) (cid : Nat) (x : Queue) (a : Assoc) (k : Nat) (cap : Capsule) (u : State), (tget s.nvm.queues q = some x) ∧
      (queueAssoc s q = some a) ∧ (x.held = []) ∧ ((tcount s.nvm.ctxs fun _ k => k.q == q) < x.size) ∧ (cap =
      { cid := cid, nsid := 0, op := IoOp.keyRevoke k }) ∧ (u = holdCapsule q cap x s) ∧ (mayParse u a.host = true)) ∧
    (∃ (s : State) (q : Nat) (cid : Nat) (x : Queue) (a : Assoc) (w : Nat) (cap : Capsule) (u : State), (tget s.nvm.queues q = some x) ∧
      (queueAssoc s q = some a) ∧ (x.held = []) ∧ ((tcount s.nvm.ctxs fun _ k => k.q == q) < x.size) ∧ (cap =
      { cid := cid, nsid := 0, op := IoOp.unbind w }) ∧ (u = holdCapsule q cap x s) ∧ (mayParse u a.host = true) ∧ (w < 4096) ∧ ((winAt s
      w).state ≠ 2)) ∧
    (∃ (s : State) (q : Nat) (cid : Nat) (x : Queue) (a : Assoc) (w : Nat) (cap : Capsule) (u : State) (n : Ns) (adm : Nat) (v : State), (tget
      s.nvm.queues q = some x) ∧ (queueAssoc s q = some a) ∧ (x.held = []) ∧ ((tcount s.nvm.ctxs fun _ k => k.q == q) < x.size) ∧ (cap =
      { cid := cid, nsid := 0, op := IoOp.unbind w }) ∧ (u = holdCapsule q cap x s) ∧ (mayParse u a.host = true) ∧ (w < 4096) ∧ ((winAt s
      w).state = 2) ∧ (nsAt s (winAt s w).slot = some n) ∧ (n.moving = false) ∧ (n.admHold = false) ∧ (ownsNs s n = true) ∧ (stamp (winAt s
      w).slot u = (some adm, v))) ∧
    (∃ (s : State) (tid : Nat) (nd : Nat) (len : Nat) (fuse : Nat), (bitAt (cfg s Reg.TRAV_TRAV_CTL) 0 = true) ∧ (fuse ≠ 0 ∨ tid = 0 ∨ 79 < nd ∨
      len ≠ 64 * (nd + 1))) ∧
    (∃ (s : State) (host : Nat) (tid : Nat) (nd : Nat) (len : Nat) (fuse : Nat) (o : Outcome), (bitAt (cfg s Reg.TRAV_TRAV_CTL) 0 = true) ∧ (fuse
      = 0) ∧ (tid ≠ 0) ∧ (nd ≤ 79) ∧ (len = 64 * (nd + 1)) ∧ (travOpen s < 65536) ∧ (s.trav.refusing = false) ∧ (outcomeOf s host tid = some o)) ∧
    (∃ (s : State) (ctx : Nat) (host : Nat) (subsys : Nat) (tid : Nat) (nd : Nat) (len : Nat) (fuse : Nat), (bitAt (cfg s Reg.TRAV_TRAV_CTL) 0 =
      true) ∧ (fuse = 0) ∧ (tid ≠ 0) ∧ (nd ≤ 79) ∧ (len = 64 * (nd + 1)) ∧ (travOpen s < 65536) ∧ (s.trav.refusing = false) ∧ (outcomeOf s host
      tid = none) ∧ (((travOpened (travNew ctx host subsys tid nd len) s).trav.open_.any fun p => p.1 != s.trav.nextId && p.2.remote == none &&
      p.2.host == host && p.2.travId == tid && p.2.state != TravState.closed) = true) ∧ (travOpen (setTrav s.trav.nextId
      { travNew ctx host subsys tid nd len with state := TravState.waitDup } (travOpened (travNew ctx host subsys tid nd len) s)) ≠ 65536)) ∧
    (∃ (s : State) (ctx : Nat) (host : Nat) (subsys : Nat) (tid : Nat) (nd : Nat) (len : Nat) (fuse : Nat), (bitAt (cfg s Reg.TRAV_TRAV_CTL) 0 =
      true) ∧ (fuse = 0) ∧ (tid ≠ 0) ∧ (nd ≤ 79) ∧ (len = 64 * (nd + 1)) ∧ (travOpen s < 65536) ∧ (s.trav.refusing = false) ∧ (outcomeOf s host
      tid = none) ∧ (((travOpened (travNew ctx host subsys tid nd len) s).trav.open_.any fun p => p.1 != s.trav.nextId && p.2.remote == none &&
      p.2.host == host && p.2.travId == tid && p.2.state != TravState.closed) = false) ∧ (travOpen (travPull s.trav.nextId (travOpened (travNew
      ctx host subsys tid nd len) s)) ≠ 65536)) ∧
    (∃ (s : State) (w : Nat) (k : Nat), (w < 4096) ∧ (∀ (x : Nat × RecPend), x ∈ s.pair.records → ∀ (i : Nat) (y : Key), x.snd.what ≠
      PairRec.keyCreate i y) ∧ ((firstIdx 1048576 fun k => (keyAt s k).state == 0) = some k) ∧ ((winAt s w).state ≠ 2)) ∧
    (∃ (s : State) (rights : Nat) (w : Nat) (k : Nat), (w < 4096) ∧ (∀ (x : Nat × RecPend), x ∈ s.pair.records → ∀ (i : Nat) (y : Key),
      x.snd.what ≠ PairRec.keyCreate i y) ∧ ((firstIdx 1048576 fun k => (keyAt s k).state == 0) = some k) ∧ ((winAt s w).state = 2) ∧ (rights %
      16 = 0)) ∧
    (∃ (s : State) (rights : Nat) (w : Nat) (off : Nat) (len : Nat) (k : Nat), (w < 4096) ∧ (∀ (x : Nat × RecPend), x ∈ s.pair.records → ∀ (i :
      Nat) (y : Key), x.snd.what ≠ PairRec.keyCreate i y) ∧ ((firstIdx 1048576 fun k => (keyAt s k).state == 0) = some k) ∧ ((winAt s w).state =
      2) ∧ (rights % 16 ≠ 0) ∧ (len ≠ 0) ∧ (off + len ≤ (winAt s w).pages * 2097152) ∧ (bitAt (cfg s Reg.KEYS_KEYS_CTL) 0 = true)) :=
  ⟨⟨up, 257, 9, { size := 32 }, assoc1, 1, 5, 0, 64, 0, 3, ns3, { cid := 9, nsid := 1, op := .traverse 5 0 64 0 }, holdCapsule 257 ({ cid := 9, nsid := 1, op := .traverse 5 0 64 0 }) { size := 32 } up, by decide +kernel⟩,
   ⟨up, 257, 9, { size := 32 }, assoc1, 1, false, 0, 0, 4096, { cid := 9, nsid := 0, op := .keyCreate 1 false 0 0 4096 }, holdCapsule 257 ({ cid := 9, nsid := 0, op := .keyCreate 1 false 0 0 4096 }) { size := 32 } up, by decide +kernel⟩,
   ⟨up, 257, 9, { size := 32 }, assoc1, 5, { cid := 9, nsid := 0, op := .keyRevoke 5 }, holdCapsule 257 ({ cid := 9, nsid := 0, op := .keyRevoke 5 }) { size := 32 } up, by decide +kernel⟩,
   ⟨up, 257, 9, { size := 32 }, assoc1, 4095, { cid := 9, nsid := 0, op := .unbind 4095 }, holdCapsule 257 ({ cid := 9, nsid := 0, op := .unbind 4095 }) { size := 32 } up, by decide +kernel⟩,
   ⟨{ up with win := { up.win with windows := [(0, { state := 2, slot := 3, pages := 1 })] } }, 257, 9, { size := 32 }, assoc1, 0, { cid := 9, nsid := 0, op := .unbind 0 }, holdCapsule 257 ({ cid := 9, nsid := 0, op := .unbind 0 }) { size := 32 } ({ up with win := { up.win with windows := [(0, { state := 2, slot := 3, pages := 1 })] } }), ns3, 1, (stamp 3 (holdCapsule 257 ({ cid := 9, nsid := 0, op := .unbind 0 }) { size := 32 } ({ up with win := { up.win with windows := [(0, { state := 2, slot := 3, pages := 1 })] } }))).2, by decide +kernel⟩,
   ⟨up, 5, 80, 64, 0, by decide +kernel⟩,
   ⟨uTrav { up.trav with outcomes := [{ travId := 5, host := 5, outcome := 0, index := 0, offset := 0, time := 0 }] }, 5, 5, 79, 5120, 0, { travId := 5, host := 5, outcome := 0, index := 0, offset := 0, time := 0 }, by decide +kernel⟩,
   ⟨uTrav { up.trav with nextId := 2, open_ := [(1, trav5)] }, 8, 5, 1, 5, 79, 5120, 0, by decide +kernel⟩,
   ⟨up, 7, 5, 1, 5, 79, 5120, 0, by decide +kernel⟩,
   ⟨up, 4095, 0, by exact ⟨by decide +kernel, fun _ h => (nomatch h), by decide +kernel, by decide +kernel⟩⟩,
   ⟨{ up with win := { up.win with windows := [(0, { state := 2, slot := 3, pages := 1 })] } }, 16, 0, 0, by exact ⟨by decide +kernel, fun _ h => (nomatch h), by decide +kernel, by decide +kernel, by decide +kernel⟩⟩,
   ⟨{ up with win := { up.win with windows := [(0, { state := 2, slot := 3, pages := 1 })] } }, 15, 0, 0, 2097152, 0, by exact ⟨by decide +kernel, fun _ h => (nomatch h), by decide +kernel, by decide +kernel, by decide +kernel, by decide +kernel, by decide +kernel, by decide +kernel⟩⟩⟩

/-- The hypotheses of each clause of `TraversesAreJudgedAndCommitted` can be met. -/
theorem witness_TraversesAreJudgedAndCommitted :
    (∃ (s : State) (t : Nat) (v : Trav), (travAt s t = some v) ∧ (v.state = TravState.table)) ∧
    (∃ (s : State) (t : Nat) (v : Trav) (nums : Tab Nat) (u : State), (travAt s t = some v) ∧ (v.state = TravState.staging) ∧ (∀ (k : Nat), k ∈
      travKeys v → thas v.staged k = true) ∧ (v.mseqs = []) ∧ (∀ (sl : Nat), sl ∈ v.slots → ownsSlot s sl = true ∧ mayStamp s sl = true) ∧
      (stampAll v.slots v.nums s = some (nums, u))) ∧
    (∃ (s : State) (t : Nat) (v : Trav), (travAt s t = some v) ∧ (v.state = TravState.staging) ∧ (v.remote = none)) ∧
    (∃ (s : State) (t : Nat) (v : Trav), (travAt s t = some v) ∧ (v.state = TravState.stamping) ∧ (v.remote = none)) ∧
    (∃ (s : State) (t : Nat) (v : Trav), (travAt s t = some v) ∧ (v.state = TravState.checking) ∧ (v.remote = none) ∧ (travTurn s v = true) ∧ (∀
      (j : Nat × Job), j ∈ s.store.jobs → j.snd.kind ≠ JobKind.condition t) ∧ (travJudge s v = none)) ∧
    (∃ (s : State) (t : Nat) (v : Trav) (o : Nat) (i : Nat) (f : Nat), (travAt s t = some v) ∧ (v.state = TravState.checking) ∧ (v.remote = none)
      ∧ (travTurn s v = true) ∧ (∀ (j : Nat × Job), j ∈ s.store.jobs → j.snd.kind ≠ JobKind.condition t) ∧ (travJudge s v = some (o, i, f))) ∧
    (∃ (s : State) (t : Nat) (v : Trav) (a : Nat × Nat × Nat) (b : Nat × Nat × Nat), (travAt s t = some v) ∧ (v.state = TravState.checking) ∧
      (v.remote = none) ∧ (travTurn s v = true) ∧ (∀ (j : Nat × Job), j ∈ s.store.jobs → j.snd.kind ≠ JobKind.condition t) ∧ (travJudge s v =
      some a) ∧ (outcomeRank a ≤ outcomeRank b)) ∧
    (∃ (s : State) (t : Nat) (v : Trav), (travAt s t = some v) ∧ (s.pair.state ≠ 4) ∧ (s.vault.accepted = false)) ∧
    (∃ (s : State) (t : Nat) (v : Trav), (travAt s t = some v) ∧ (s.pair.state = 4)) ∧
    (∃ (s : State) (p : Path) (n : Nat) (o : Outcome), (MayWrite p Reg.TRAV_LOOKUP_ID_HI s) ∧ (outcomeOf s (sel s p Reg.TRAV_LOOKUP_HOST % 4096)
      (sel s p Reg.TRAV_LOOKUP_ID_LO + n % 2 ^ 32 * 2 ^ 32) = some o)) ∧
    (∃ (s : State) (p : Path) (n : Nat) (k : Nat × Trav), (MayWrite p Reg.TRAV_LOOKUP_ID_HI s) ∧ (k ∈ s.trav.open_) ∧ (k.snd.host = sel s p
      Reg.TRAV_LOOKUP_HOST % 4096) ∧ (k.snd.travId = sel s p Reg.TRAV_LOOKUP_ID_LO + n % 2 ^ 32 * 2 ^ 32) ∧ (k.snd.remote = none) ∧ (k.snd.state
      ≠ TravState.closed) ∧ (outcomeOf s (sel s p Reg.TRAV_LOOKUP_HOST % 4096) (sel s p Reg.TRAV_LOOKUP_ID_LO + n % 2 ^ 32 * 2 ^ 32) = none)) ∧
    (∃ (s : State) (p : Path) (n : Nat), (MayWrite p Reg.TRAV_LOOKUP_ID_HI s) ∧ (∀ (k : Nat × Trav), k ∈ s.trav.open_ → k.snd.host ≠ sel s p
      Reg.TRAV_LOOKUP_HOST % 4096 ∨ k.snd.travId ≠ sel s p Reg.TRAV_LOOKUP_ID_LO + n % 2 ^ 32 * 2 ^ 32 ∨ k.snd.remote ≠ none ∨ k.snd.state =
      TravState.closed) ∧ (outcomeOf s (sel s p Reg.TRAV_LOOKUP_HOST % 4096) (sel s p Reg.TRAV_LOOKUP_ID_LO + n % 2 ^ 32 * 2 ^ 32) = none)) :=
  ⟨⟨uTrav { up.trav with open_ := [(1, { ctx := 7, host := 5, subsys := 1, travId := 5, ndesc := 0, len := 64 })] }, 1, { ctx := 7, host := 5, subsys := 1, travId := 5, ndesc := 0, len := 64 }, by decide +kernel⟩,
   ⟨uTrav { up.trav with open_ := [(1, { ctx := 7, host := 5, subsys := 1, travId := 5, ndesc := 0, len := 64, state := .staging, slots := [3] })] }, 1, { ctx := 7, host := 5, subsys := 1, travId := 5, ndesc := 0, len := 64, state := .staging, slots := [3] }, [(3, 1)], (stamp 3 (uTrav { up.trav with open_ := [(1, { ctx := 7, host := 5, subsys := 1, travId := 5, ndesc := 0, len := 64, state := .staging, slots := [3] })] })).2, by exact ⟨rfl, rfl, fun k h => (nomatch h), rfl, by decide +kernel, rfl⟩⟩,
   ⟨uTrav { up.trav with open_ := [(1, { ctx := 7, host := 5, subsys := 1, travId := 5, ndesc := 0, len := 64, state := .staging })] }, 1, { ctx := 7, host := 5, subsys := 1, travId := 5, ndesc := 0, len := 64, state := .staging }, by decide +kernel⟩,
   ⟨uTrav { up.trav with open_ := [(1, { ctx := 7, host := 5, subsys := 1, travId := 5, ndesc := 0, len := 64, state := .stamping })] }, 1, { ctx := 7, host := 5, subsys := 1, travId := 5, ndesc := 0, len := 64, state := .stamping }, by decide +kernel⟩,
   ⟨uTrav { up.trav with open_ := [(1, { ctx := 7, host := 5, subsys := 1, travId := 5, ndesc := 0, len := 64, state := .checking })] }, 1, { ctx := 7, host := 5, subsys := 1, travId := 5, ndesc := 0, len := 64, state := .checking }, by exact ⟨rfl, rfl, rfl, by decide +kernel, fun j h => (nomatch h), by decide +kernel⟩⟩,
   ⟨uTrav { up.trav with open_ := [(1, { ctx := 7, host := 5, subsys := 1, travId := 5, ndesc := 0, len := 64, state := .checking, slots := [3], nums := [(3, 1)], descs := [{ kind := 2, nsid := 1, lba := 0, value := 1, mask := 0xFF }] })] }, 1, { ctx := 7, host := 5, subsys := 1, travId := 5, ndesc := 0, len := 64, state := .checking, slots := [3], nums := [(3, 1)], descs := [{ kind := 2, nsid := 1, lba := 0, value := 1, mask := 0xFF }] }, (travJudge (uTrav { up.trav with open_ := [(1, { ctx := 7, host := 5, subsys := 1, travId := 5, ndesc := 0, len := 64, state := .checking, slots := [3], nums := [(3, 1)], descs := [{ kind := 2, nsid := 1, lba := 0, value := 1, mask := 0xFF }] })] }) ({ ctx := 7, host := 5, subsys := 1, travId := 5, ndesc := 0, len := 64, state := .checking, slots := [3], nums := [(3, 1)], descs := [{ kind := 2, nsid := 1, lba := 0, value := 1, mask := 0xFF }] })).get!.1, (travJudge (uTrav { up.trav with open_ := [(1, { ctx := 7, host := 5, subsys := 1, travId := 5, ndesc := 0, len := 64, state := .checking, slots := [3], nums := [(3, 1)], descs := [{ kind := 2, nsid := 1, lba := 0, value := 1, mask := 0xFF }] })] }) ({ ctx := 7, host := 5, subsys := 1, travId := 5, ndesc := 0, len := 64, state := .checking, slots := [3], nums := [(3, 1)], descs := [{ kind := 2, nsid := 1, lba := 0, value := 1, mask := 0xFF }] })).get!.2.1, (travJudge (uTrav { up.trav with open_ := [(1, { ctx := 7, host := 5, subsys := 1, travId := 5, ndesc := 0, len := 64, state := .checking, slots := [3], nums := [(3, 1)], descs := [{ kind := 2, nsid := 1, lba := 0, value := 1, mask := 0xFF }] })] }) ({ ctx := 7, host := 5, subsys := 1, travId := 5, ndesc := 0, len := 64, state := .checking, slots := [3], nums := [(3, 1)], descs := [{ kind := 2, nsid := 1, lba := 0, value := 1, mask := 0xFF }] })).get!.2.2, by exact ⟨rfl, rfl, rfl, by decide +kernel, fun j h => (nomatch h), by decide +kernel⟩⟩,
   ⟨uTrav { up.trav with open_ := [(1, { ctx := 7, host := 5, subsys := 1, travId := 5, ndesc := 0, len := 64, state := .checking, slots := [3], nums := [(3, 1)], descs := [{ kind := 2, nsid := 1, lba := 0, value := 1, mask := 0xFF }] })] }, 1, { ctx := 7, host := 5, subsys := 1, travId := 5, ndesc := 0, len := 64, state := .checking, slots := [3], nums := [(3, 1)], descs := [{ kind := 2, nsid := 1, lba := 0, value := 1, mask := 0xFF }] }, (travJudge (uTrav { up.trav with open_ := [(1, { ctx := 7, host := 5, subsys := 1, travId := 5, ndesc := 0, len := 64, state := .checking, slots := [3], nums := [(3, 1)], descs := [{ kind := 2, nsid := 1, lba := 0, value := 1, mask := 0xFF }] })] }) ({ ctx := 7, host := 5, subsys := 1, travId := 5, ndesc := 0, len := 64, state := .checking, slots := [3], nums := [(3, 1)], descs := [{ kind := 2, nsid := 1, lba := 0, value := 1, mask := 0xFF }] })).get!, (9, 9, 9), by exact ⟨rfl, rfl, rfl, by decide +kernel, fun j h => (nomatch h), by decide +kernel, by decide +kernel⟩⟩,
   ⟨uTrav { up.trav with open_ := [(1, { ctx := 7, host := 5, subsys := 1, travId := 5, ndesc := 0, len := 64 })] }, 1, { ctx := 7, host := 5, subsys := 1, travId := 5, ndesc := 0, len := 64 }, by decide +kernel⟩,
   ⟨{ uTrav { up.trav with open_ := [(1, { ctx := 7, host := 5, subsys := 1, travId := 5, ndesc := 0, len := 64 })] } with pair := { state := 4 } }, 1, { ctx := 7, host := 5, subsys := 1, travId := 5, ndesc := 0, len := 64 }, by decide +kernel⟩,
   ⟨{ uTrav { up.trav with outcomes := [{ travId := 4294967301, host := 0, outcome := 0, index := 0, offset := 0, time := 0 }] } with sels := [(selKey .management Reg.TRAV_LOOKUP_ID_LO, 5)] }, .management, 1, { travId := 4294967301, host := 0, outcome := 0, index := 0, offset := 0, time := 0 }, by unfold MayWrite; decide +kernel⟩,
   ⟨{ uTrav { up.trav with open_ := [(1, { ctx := 7, host := 0, subsys := 1, travId := 5, ndesc := 0, len := 64 })] } with sels := [(selKey .management Reg.TRAV_LOOKUP_ID_LO, 5)] }, .management, 0, (1, { ctx := 7, host := 0, subsys := 1, travId := 5, ndesc := 0, len := 64 }), by unfold MayWrite; decide +kernel⟩,
   ⟨up, .management, 0, by exact ⟨by unfold MayWrite; decide +kernel, fun k h => (nomatch h), rfl⟩⟩⟩

/-- The hypotheses of each clause of `WindowsAndKeysRunTheirCourse` can be met. -/
theorem witness_WindowsAndKeysRunTheirCourse :
    (∃ (s : State) (w : Nat) (id : Nat) (c : Ctx), (tget s.win.binds w = some id) ∧ (ctxAt s id = some c) ∧ ((winAt s w).state = 1) ∧
      (writerBefore s c.slot c.adm c.ranges = false) ∧ ((winAt s w).pin = false ∨ ∀ (p : Nat), p < (winAt s w).pages → pageResident s w p =
      true)) ∧
    (∃ (s : State) (w : Nat) (ctx : Option Nat) (p : Nat) (key : Key), (tget s.win.unbinds w = some ctx) ∧ ((p, key) ∈ s.win.keys) ∧ (key.state ≠
      0) ∧ (key.win = w)) ∧
    (∃ (s : State) (w : Nat), (tget s.win.unbinds w = some none) ∧ ((winAt s w).state = 3) ∧ (∀ (p : Nat × Key), p ∈ s.win.keys → p.snd.win = w →
      p.snd.state = 0) ∧ (∀ (g : Nat × Page), g ∈ s.win.pages → g.fst / 2 ^ 24 = w → pageDirty s w (g.fst % 2 ^ 24) = false)) ∧
    (∃ (s : State) (p : Path) (v : Nat), (MayWrite p Reg.WIN_WIN_CMD s) ∧ (bits v 0 2 = 1) ∧ ((winAt s (sel s p Reg.WIN_WIN_SEL % 4096)).state =
      2)) ∧
    (∃ (s : State) (p : Path) (v : Nat), (MayWrite p Reg.WIN_WIN_CMD s) ∧ (bits v 0 2 = 1) ∧ ((winAt s (sel s p Reg.WIN_WIN_SEL % 4096)).state ≠
      2)) ∧
    (∃ (s : State) (p : Path) (v : Nat), (MayWrite p Reg.KEYS_KEY_CMD s) ∧ (bits v 0 2 = 1)) ∧
    (∃ (s : State) (p : Path) (v : Nat), (MayWrite p Reg.KEYS_KEY_CMD s) ∧ (bits v 0 2 ≠ 1)) ∧
    (∃ (s : State) (k : Nat), ((keyAt s k).inflight = 0) ∧ (fencePending s k = false)) ∧
    (∃ (s : State) (k : Nat), ((keyAt s k).inflight ≠ 0)) ∧
    (∃ (s : State) (k : Nat), ((keyAt s k).state = 2) ∧ (fencePending s k = false) ∧ (∀ (p : PlaceWait), p ∈ (List.foldl (fun s a => accDrop a s)
      { s with win := { s.win with stalled := List.filter (fun a => a.key != some k) s.win.stalled } } (List.filter (fun a => a.key == some k)
      s.win.stalled)).win.placing → p.acc.key ≠ some k)) ∧
    (∃ (s : State) (w : Nat) (page : Nat) (g : Page), (tget s.win.pages (pageKey w page) = some g) ∧ (g.resident = false) ∧ (g.missing = [])) ∧
    (∃ (s : State) (w : Nat) (block : Nat), ((winAt s w).state ≠ 0) ∧ (block < (winAt s w).pages * 512)) ∧
    (∃ (s : State) (qp : Nat) (psn : Nat) (a : WinAcc), (List.find? (fun a => !a.ring && a.ctx == qp && a.psn == psn && (a.kind == 0 || a.kind ==
      4) && (winAt s a.win).policy == 2) s.win.stalled = some a)) ∧
    (∃ (s : State) (ring : Nat) (c : ChainWait), (tget s.win.chains ring = some c)) :=
  ⟨⟨{ uNvm { up.nvm with ctxs := [(7, wctx)] } with win := { up.win with windows := [(0, { state := 1, slot := 3, pages := 1 })], binds := [(0, 7)] } }, 0, 7, wctx, by decide +kernel⟩,
   ⟨{ up with win := { up.win with unbinds := [(0, none)], keys := [(5, { state := 1 })] } }, 0, none, 5, { state := 1 }, by decide +kernel⟩,
   ⟨{ up with win := { up.win with unbinds := [(0, none)], windows := [(0, { state := 3, slot := 3, pages := 1 })] } }, 0, by exact ⟨rfl, rfl, fun p h => (nomatch h), fun p h => (nomatch h)⟩⟩,
   ⟨{ { up with win := { up.win with windows := [(4095, { state := 2, slot := 3, pages := 1 })] } } with sels := [(selKey .management Reg.WIN_WIN_SEL, 4095)] }, .management, 1, by unfold MayWrite; decide +kernel⟩,
   ⟨{ { up with win := { up.win with windows := [(4095, { state := 1, slot := 3, pages := 1 })] } } with sels := [(selKey .management Reg.WIN_WIN_SEL, 4095)] }, .management, 1, by unfold MayWrite; decide +kernel⟩,
   ⟨up, .management, 1, by unfold MayWrite; decide +kernel⟩,
   ⟨up, .management, 2, by unfold MayWrite; decide +kernel⟩,
   ⟨up, 0, by decide +kernel⟩,
   ⟨{ up with win := { up.win with keys := [(0, { state := 2, inflight := 3 })] } }, 0, by decide +kernel⟩,
   ⟨{ up with win := { up.win with keys := [(0, { state := 2, inflight := 3 })] } }, 0, by exact ⟨rfl, rfl, fun p h => (nomatch h)⟩⟩,
   ⟨{ up with win := { up.win with pages := [(pageKey 4095 0, {})] } }, 4095, 0, {}, by decide +kernel⟩,
   ⟨{ up with win := { up.win with windows := [(0, { state := 2, slot := 3, pages := 1 })] } }, 0, 511, by decide +kernel⟩,
   ⟨{ up with win := { up.win with windows := [(0, { state := 2, slot := 3, pages := 1, policy := 2 })], stalled := [{ ctx := 4, ring := false, psn := 5, kind := 0, win := 0, key := none, offset := 0, len := 8 }] } }, 4, 5, { ctx := 4, ring := false, psn := 5, kind := 0, win := 0, key := none, offset := 0, len := 8 }, by decide +kernel⟩,
   ⟨{ up with win := { up.win with chains := [(3, { win := 0, ctr := 0, target := 4, cid := 9 })] } }, 3, { win := 0, ctr := 0, target := 4, cid := 9 }, by decide +kernel⟩⟩

/-- The hypotheses of each clause of `RequestPacketsAreTaken` can be met. -/
theorem witness_RequestPacketsAreTaken :
    (∃ (c : Instr) (i : Nat) (p : Pkt) (r : Rdma) (data : Nat), (requestPacket c = some (i, p, r, data)) ∧ (p.icrcOk = false)) ∧
    (∃ (s : State) (c : Instr) (i : Nat) (p : Pkt) (r : Rdma) (data : Nat), (requestPacket c = some (i, p, r, data)) ∧ (p.icrcOk = true) ∧ (p.ok
      = false ∨ (qpAt s i).quiet = true ∨ ¬(qpAt s i).state ∈ [1, 2, 3] ∨ r.wide = true ∧ ((qpAt s i).spray = false ∨ (qpAt s i).atom16 =
      false))) ∧
    (∃ (s : State) (c : Instr) (i : Nat) (p : Pkt) (r : Rdma) (data : Nat), (requestPacket c = some (i, p, r, data)) ∧ (p.icrcOk = true) ∧ (p.ok
      = true) ∧ ((qpAt s i).quiet = false) ∧ (r.wide = true → (qpAt s i).spray = true ∧ (qpAt s i).atom16 = true) ∧ ((qpAt s i).state = 3)) ∧
    (∃ (s : State) (c : Instr) (i : Nat) (p : Pkt) (r : Rdma) (data : Nat), (requestPacket c = some (i, p, r, data)) ∧ (p.icrcOk = true) ∧ (p.ok
      = true) ∧ ((qpAt s i).quiet = false) ∧ (r.wide = true → (qpAt s i).spray = true ∧ (qpAt s i).atom16 = true) ∧ ((qpAt s i).state = 1 ∨ (qpAt
      s i).state = 2) ∧ (p.esp = 2)) ∧
    (∃ (s : State) (c : Instr) (i : Nat) (p : Pkt) (r : Rdma) (data : Nat), (requestPacket c = some (i, p, r, data)) ∧ (p.icrcOk = true) ∧ (p.ok
      = true) ∧ ((qpAt s i).quiet = false) ∧ (r.wide = true → (qpAt s i).spray = true ∧ (qpAt s i).atom16 = true) ∧ ((qpAt s i).state = 1 ∨ (qpAt
      s i).state = 2) ∧ (p.esp = 0) ∧ ((qpAt s i).spray = true)) ∧
    (∃ (s : State) (c : Instr) (i : Nat) (p : Pkt) (r : Rdma) (data : Nat), (requestPacket c = some (i, p, r, data)) ∧ (p.icrcOk = true) ∧ (p.ok
      = true) ∧ ((qpAt s i).quiet = false) ∧ (r.wide = true → (qpAt s i).spray = true ∧ (qpAt s i).atom16 = true) ∧ ((qpAt s i).state = 1 ∨ (qpAt
      s i).state = 2) ∧ (p.esp = 0) ∧ ((qpAt s i).spray = false)) ∧
    (∃ (s : State) (c : Instr) (i : Nat) (p : Pkt) (r : Rdma) (data : Nat), (requestPacket c = some (i, p, r, data)) ∧ (4096 ≤ psnRel (qpAt s
      i).cursor p.psn) ∧ (psnRel (qpAt s i).cursor p.psn < 2 ^ 23)) ∧
    (∃ (s : State) (c : Instr) (i : Nat) (p : Pkt) (r : Rdma) (data : Nat), (requestPacket c = some (i, p, r, data)) ∧ (psnRel (qpAt s i).cursor
      p.psn < 4096) ∧ (p.psn ∈ (qpAt s i).accepted)) ∧
    (∃ (s : State) (c : Instr) (i : Nat) (p : Pkt) (r : Rdma) (data : Nat), (requestPacket c = some (i, p, r, data)) ∧ (2 ^ 23 ≤ psnRel (qpAt s
      i).cursor p.psn)) ∧
    (∃ (s : State) (c : Instr) (i : Nat) (p : Pkt) (r : Rdma) (data : Nat), (requestPacket c = some (i, p, r, data)) ∧ (0 < psnRel (qpAt s
      i).cursor p.psn) ∧ (psnRel (qpAt s i).cursor p.psn < 2 ^ 23) ∧ ((qpAt s i).naked = false)) ∧
    (∃ (s : State) (c : Instr) (i : Nat) (p : Pkt) (r : Rdma) (data : Nat), (requestPacket c = some (i, p, r, data)) ∧ (0 < psnRel (qpAt s
      i).cursor p.psn) ∧ (psnRel (qpAt s i).cursor p.psn < 2 ^ 23) ∧ ((qpAt s i).naked = true)) :=
  ⟨⟨.send 4 { pkt with icrcOk := false } none, 4, { pkt with icrcOk := false }, .send none, 0, by decide +kernel⟩,
   ⟨uQp { rts with atom16 := false }, .compareSwap16 4 pkt 0 0 1 2, 4, pkt, .cas16 0 0 1 2, 0, by decide +kernel⟩,
   ⟨uQp { rts with state := 3 }, .compareSwap16 4 pkt 0 0 1 2, 4, pkt, .cas16 0 0 1 2, 0, by decide +kernel⟩,
   ⟨uQp rts, .send 4 { pkt with esp := 2 } none, 4, { pkt with esp := 2 }, .send none, 0, by decide +kernel⟩,
   ⟨uQp rts, .compareSwap16 4 pkt 0 0 1 2, 4, pkt, .cas16 0 0 1 2, 0, by decide +kernel⟩,
   ⟨uQp { rts with spray := false, state := 1 }, .send 4 pkt none, 4, pkt, .send none, 0, by decide +kernel⟩,
   ⟨uQp { rts with cursor := 2 ^ 24 - 1 }, .send 4 pkt none, 4, pkt, .send none, 0, by decide +kernel⟩,
   ⟨uQp { rts with accepted := [4095] }, .send 4 pkt none, 4, pkt, .send none, 0, by decide +kernel⟩,
   ⟨uQp { rts with cursor := 4096 }, .send 4 pkt none, 4, pkt, .send none, 0, by decide +kernel⟩,
   ⟨uQp rts, .send 4 pkt none, 4, pkt, .send none, 0, by decide +kernel⟩,
   ⟨uQp { rts with naked := true }, .send 4 pkt none, 4, pkt, .send none, 0, by decide +kernel⟩⟩

/-- The hypotheses of each clause of `AcknowledgementsAndTimersDriveRetransmission` can be met. -/
theorem witness_AcknowledgementsAndTimersDriveRetransmission :
    (∃ (s : State) (i : Nat) (psn : Nat) (sack : List (Nat × Nat)) (x : SentPkt), ((qpAt s i).state = 2) ∧ ((qpAt s i).quiet = false) ∧ ((qpAt s
      i).spray = false) ∧ (x ∈ ((qpAt s i).acked psn sack).sent) ∧ (thas (qpAt s i).reads x.psn = false)) ∧
    (∃ (s : State) (i : Nat) (psn : Nat) (sack : List (Nat × Nat)), ((qpAt s i).state = 2) ∧ ((qpAt s i).quiet = false) ∧ ((qpAt s i).spray =
      false) ∧ (∃ x, x ∈ (qpAt s i).sent ∧ ackCovers psn sack x.psn = true ∧ x.covered = false)) ∧
    (∃ (s : State) (i : Nat) (p : Pkt) (f : Nat) (r : ReadOut), ((qpAt s i).state = 2) ∧ ((qpAt s i).quiet = false) ∧ (p.icrcOk = true) ∧ (p.ok =
      true) ∧ (p.esp ≠ 2) ∧ (p.ce = false) ∧ ((tfind (qpAt s i).reads fun f r => decide (psnRel f p.psn < r.count)) = some (f, r)) ∧ (thas r.got
      (psnRel f p.psn * (qpAt s i).mtu) = true)) ∧
    (∃ (s : State) (i : Nat) (p : Pkt) (f : Nat) (r : ReadOut), ((qpAt s i).state = 2) ∧ ((qpAt s i).quiet = false) ∧ (p.icrcOk = true) ∧ (p.ok =
      true) ∧ (p.esp ≠ 2) ∧ (p.ce = false) ∧ ((tfind (qpAt s i).reads fun f r => decide (psnRel f p.psn < r.count)) = some (f, r)) ∧ (thas r.got
      (psnRel f p.psn * (qpAt s i).mtu) = false) ∧ ((qpAt s i).spray = true) ∧ (r.blocks ≠ []) ∧ (p.offset ≠ psnRel f p.psn * (qpAt s i).mtu ∨
      p.length ≠ 4096 * r.blocks.length ∨ p.len ≠ min (qpAt s i).mtu (4096 * r.blocks.length - psnRel f p.psn * (qpAt s i).mtu))) ∧
    (∃ (s : State) (i : Nat) (p : Pkt) (f : Nat) (r : ReadOut), ((qpAt s i).state = 2) ∧ ((qpAt s i).quiet = false) ∧ (p.icrcOk = true) ∧ (p.ok =
      true) ∧ (p.esp ≠ 2) ∧ (p.ce = false) ∧ ((tfind (qpAt s i).reads fun f r => decide (psnRel f p.psn < r.count)) = some (f, r)) ∧ (thas r.got
      (psnRel f p.psn * (qpAt s i).mtu) = false) ∧ ((qpAt s i).spray = true) ∧ (r.blocks ≠ []) ∧ (p.offset = psnRel f p.psn * (qpAt s i).mtu) ∧
      (p.length = 4096 * r.blocks.length) ∧ (p.len = min (qpAt s i).mtu (4096 * r.blocks.length - psnRel f p.psn * (qpAt s i).mtu))) ∧
    (∃ (s : State) (i : Nat), ((qpAt s i).state = 2) ∧ ((qpAt s i).quiet = false) ∧ (bitAt (cfg s Reg.XPORT_XP_CTL) 3 = true)) ∧
    (∃ (s : State) (i : Nat), ((qpAt s i).state = 2) ∧ ((qpAt s i).quiet = false) ∧ ((qpAt s i).sinceAck ≠ 0)) ∧
    (∃ (s : State) (i : Nat) (psn : Nat) (x : SentPkt), ((qpAt s i).state = 2) ∧ ((qpAt s i).quiet = false) ∧ ((qpAt s i).spray = true) ∧
      (List.find? (fun x => x.psn == psn) (qpAt s i).sent = some x)) ∧
    (∃ (s : State) (i : Nat), ((qpAt s i).state = 2) ∧ ((qpAt s i).quiet = false) ∧ ((qpAt s i).spray = false) ∧ ((qpAt s i).sent ≠ []) ∧ ((qpAt
      s i).tries < (qpAt s i).retry)) ∧
    (∃ (s : State) (i : Nat), ((qpAt s i).state = 2) ∧ ((qpAt s i).quiet = false) ∧ ((qpAt s i).spray = false) ∧ ((qpAt s i).sent ≠ []) ∧ ((qpAt
      s i).retry ≤ (qpAt s i).tries)) ∧
    (∃ (s : State) (i : Nat), ((qpAt s i).state = 2) ∧ ((qpAt s i).quiet = false) ∧ ((qpAt s i).rnrWait = true) ∧ ((qpAt s i).rnrRetry = 7)) ∧
    (∃ (s : State) (i : Nat), ((qpAt s i).state = 2) ∧ ((qpAt s i).quiet = false) ∧ ((qpAt s i).rnrWait = true) ∧ ((qpAt s i).rnrRetry < 7) ∧
      ((qpAt s i).rnrRetry ≤ (qpAt s i).rnrTries)) :=
  ⟨⟨uQp { rts with spray := false, sent := [{ psn := 5 }] }, 4, 4, [], { psn := 5 }, by exact ⟨by decide +kernel, by decide +kernel, by decide +kernel, by decide +kernel, by decide +kernel⟩⟩,
   ⟨uQp { rts with spray := false, sent := [{ psn := 5 }] }, 4, 5, [], by exact ⟨by decide +kernel, by decide +kernel, by decide +kernel, ⟨{ psn := 5 }, by decide +kernel⟩⟩⟩,
   ⟨uQp { rts with pmtu := 0, reads := [(5, { ctx := 7, blocks := [0], first := 5, count := 4, got := [(3072, (1024, 0))] })] }, 4, { pkt with psn := 8, len := 1024, offset := 3072, length := 4096 }, 5, { ctx := 7, blocks := [0], first := 5, count := 4, got := [(3072, (1024, 0))] }, by decide +kernel⟩,
   ⟨uQp { rts with pmtu := 0, reads := [(5, { ctx := 7, blocks := [0], first := 5, count := 4 })] }, 4, { pkt with psn := 8, len := 1023, offset := 3072, length := 4096 }, 5, { ctx := 7, blocks := [0], first := 5, count := 4 }, by decide +kernel⟩,
   ⟨uQp { rts with pmtu := 0, reads := [(5, { ctx := 7, blocks := [0], first := 5, count := 4 })] }, 4, { pkt with psn := 8, len := 1024, offset := 3072, length := 4096 }, 5, { ctx := 7, blocks := [0], first := 5, count := 4 }, by decide +kernel⟩,
   ⟨conf Reg.XPORT_XP_CTL 0 15 (uQp rts), 4, by decide +kernel⟩,
   ⟨uQp { rts with sinceAck := 1 }, 4, by decide +kernel⟩,
   ⟨uQp { rts with sent := [{ psn := 5 }] }, 4, 5, { psn := 5 }, by decide +kernel⟩,
   ⟨uQp { rts with spray := false, sent := [{ psn := 5 }], tries := 6 }, 4, by decide +kernel⟩,
   ⟨uQp { rts with spray := false, sent := [{ psn := 5 }], tries := 7 }, 4, by decide +kernel⟩,
   ⟨uQp { rts with rnrWait := true }, 4, by decide +kernel⟩,
   ⟨uQp { rts with rnrWait := true, rnrRetry := 6, rnrTries := 6 }, 4, by decide +kernel⟩⟩

/-- The hypotheses of each clause of `ConnectionsOpenDrainAndEnd` can be met. -/
theorem witness_ConnectionsOpenDrainAndEnd :
    (∃ (s : State) (r : CmReq), ((sprayOffer r.block).zero = true) ∧ (espReq s r.station = false) ∧ (bitAt (cfg s Reg.XPORT_XP_CTL) 0 = true) ∧
      (bitAt (cfgAt s Reg.SWITCH_STN_CTL r.station) 0 = true) ∧ (s.pwr.admitStop = false) ∧ (s.vault.accepted = false) ∧ (s.pair.state ≠ 6) ∧
      ((firstIdx 262144 fun i => !thas s.xp.qps i) = none)) ∧
    (∃ (s : State) (r : CmReq) (i : Nat), ((sprayOffer r.block).zero = true) ∧ (espReq s r.station = false) ∧ (bitAt (cfg s Reg.XPORT_XP_CTL) 0 =
      true) ∧ (bitAt (cfgAt s Reg.SWITCH_STN_CTL r.station) 0 = true) ∧ (s.pwr.admitStop = false) ∧ (s.vault.accepted = false) ∧ (s.pair.state ≠
      6) ∧ ((firstIdx 262144 fun i => !thas s.xp.qps i) = some i)) ∧
    (∃ (s : State) (i : Nat), ((qpAt s i).state = 1)) ∧
    (∃ (s : State) (i : Nat), ((qpAt s i).state = 2)) ∧
    (∃ (s : State) (i : Nat), ((qpAt s i).state = 4)) ∧
    (∃ (s : State) (i : Nat), ((qpAt s i).state = 3 ∨ ((qpAt s i).state = 0 ∨ (qpAt s i).state = 4) ∧ (qpAt s i).quiet = true)) ∧
    (∃ (s : State) (stn : Nat), (espReq s stn = false) ∧ (s.pwr.admitStop = false) ∧ (s.vault.accepted = false) ∧ (s.pair.state ≠ 6) ∧ (bitAt
      (cfgAt s Reg.SWITCH_STN_CTL stn) 0 = true) ∧ (bitAt (cfgAt s Reg.SWITCH_STN_CTL stn) 1 = true)) ∧
    (∃ (s : State) (stn : Nat), (espReq s stn = false) ∧ (s.pwr.admitStop = false) ∧ (s.vault.accepted = false) ∧ (s.pair.state ≠ 6) ∧ (bitAt
      (cfgAt s Reg.SWITCH_STN_CTL stn) 1 = false)) ∧
    (∃ (s : State) (conn : Nat) (q : Nat) (qs : List Nat), (thas s.xp.tcp conn = true) ∧ (connQueues s conn = q :: qs)) ∧
    (∃ (s : State) (conn : Nat) (cid : Nat) (id : Nat) (k : Ctx), (thas s.xp.tcp conn = true) ∧ (List.find? (fun p => p.snd.cid == cid &&
      (connQueues s conn).contains p.snd.q && p.snd.fwdTag.isNone) s.nvm.ctxs = some (id, k))) :=
  ⟨⟨{ conf Reg.SWITCH_STN_CTL 2 3 up with xp := { qps := (List.range' 0 262144).map fun i => (i, {}) } }, { station := 2, block := [] }, by exact ⟨rfl, by decide +kernel, by decide +kernel, by decide +kernel, rfl, rfl, by decide +kernel, firstFrom_none _ _ fun j _ hj => by simp only [thas, tget_full ({} : Qp) j 262144 0 (Nat.zero_le j) hj]; rfl⟩⟩,
   ⟨conf Reg.SWITCH_STN_CTL 2 3 (uXp { up.xp with qps := [(0, {}), (1, {})] }), { station := 2, block := [] }, 2, by decide +kernel⟩,
   ⟨uQp { rts with state := 1 }, 4, by decide +kernel⟩,
   ⟨uQp rts, 4, by decide +kernel⟩,
   ⟨uQp { rts with state := 4 }, 4, by decide +kernel⟩,
   ⟨uQp { rts with state := 4, quiet := true }, 4, by decide +kernel⟩,
   ⟨conf Reg.SWITCH_STN_CTL 2 3 up, 2, by decide +kernel⟩,
   ⟨conf Reg.SWITCH_STN_CTL 2 1 up, 2, by decide +kernel⟩,
   ⟨{ uXp { up.xp with tcp := [(0, { station := 2, hdgst := true, ddgst := false })] } with nvm := { up.nvm with conn := [(256, 0), (257, 0)] } }, 0, 256, [257], by decide +kernel⟩,
   ⟨{ uXp { up.xp with tcp := [(0, { station := 2, hdgst := true, ddgst := false })] } with nvm := { up.nvm with conn := [(257, 0)], ctxs := [(7, wctx)] } }, 0, 9, 7, wctx, by decide +kernel⟩⟩

/-- The hypotheses of each clause of `PortsTakeAndSendFrames` can be met. -/
theorem witness_PortsTakeAndSendFrames :
    (∃ (s : State) (port : Nat) (len : Nat), (portUp s port = true) ∧ (len < 64 ∨ cfg s (Reg.NET_MTU (port / 8)) < len)) ∧
    (∃ (s : State) (port : Nat) (len : Nat) (bytes : List Nat) (esp : EspIn) (v : State), (portUp s port = true) ∧ (64 ≤ len) ∧ (len ≤ cfg s
      (Reg.NET_MTU (port / 8))) ∧ (chargePp (rxFrame port len bytes esp s) (rxCounted port len bytes s) = (none, v))) ∧
    (∃ (s : State) (port : Nat) (len : Nat) (bytes : List Nat) (esp : EspIn) (g : NetFrame) (v : State), (portUp s port = true) ∧ (64 ≤ len) ∧
      (len ≤ cfg s (Reg.NET_MTU (port / 8))) ∧ (chargePp (rxFrame port len bytes esp s) (rxCounted port len bytes s) = (some g, v))) ∧
    (∃ (s : State) (port : Nat) (q : Nat) (u : State) (v : State), (portUp s port = true) ∧ (s.net.heldEg = []) ∧ (etsPick port (limNote port
      { s with net := { s.net with heldEg := [] } }) = (some q, v)) ∧ (u = egSend port q v)) ∧
    (∃ (s : State) (port : Nat) (prio : Nat), (thas s.net.paused (8 * port + prio) = true) ∧ (cfg s (Reg.NET_PFC_WD_MS (port / 8)) ≠ 0)) ∧
    (∃ (s : State) (port : Nat), (portUp s port = false) ∧ (portExists s port = true) ∧ (bitAt (cfg s (Reg.NET_NET_CTL (port / 8))) 4 = true) ∧
      (s.pwr.released = true)) ∧
    (∃ (s : State) (k : Nat) (p : Piece) (d : Datagram), (tget s.net.frags k = some d) ∧ ((d.pieces.any fun q => q.overlaps p) = true ∨ 9216 <
      p.off + p.len)) ∧
    (∃ (s : State) (k : Nat) (p : Piece) (d : Datagram), (tget s.net.frags k = some d) ∧ ((d.pieces.any fun q => q.overlaps p) = false) ∧ (p.off
      + p.len ≤ 9216) ∧ (Datagram.complete { proto := d.proto, port := d.port, station := d.station, prio := d.prio, pieces := d.pieces ++ [p] }
      = true) ∧ (Datagram.forTransport { proto := d.proto, port := d.port, station := d.station, prio := d.prio, pieces := d.pieces ++ [p] } =
      false)) ∧
    (∃ (s : State) (k : Nat) (p : Piece) (d : Datagram), (tget s.net.frags k = some d) ∧ ((d.pieces.any fun q => q.overlaps p) = false) ∧ (p.off
      + p.len ≤ 9216) ∧ (Datagram.complete { proto := d.proto, port := d.port, station := d.station, prio := d.prio, pieces := d.pieces ++ [p] }
      = true) ∧ (Datagram.forTransport { proto := d.proto, port := d.port, station := d.station, prio := d.prio, pieces := d.pieces ++ [p] } =
      true)) ∧
    (∃ (s : State) (k : Nat), (thas s.net.frags k = false) ∧ (64 ≤ List.length s.net.frags)) ∧
    (∃ (s : State) (g : Nat) (x : TxStamp), (pageAlive s (8 + g) = true) ∧ (txtsHead s g = some x)) :=
  ⟨⟨uNet { up.net with ups := [0] }, 0, 63, by decide +kernel⟩,
   ⟨uNet { up.net with ups := [0], ppUse := [(63, { cShared := 10000000 })] }, 0, 64, [], {}, (chargePp (rxFrame 0 64 [] {} (uNet { up.net with ups := [0], ppUse := [(63, { cShared := 10000000 })] })) (rxCounted 0 64 [] (uNet { up.net with ups := [0], ppUse := [(63, { cShared := 10000000 })] }))).2, by decide +kernel⟩,
   ⟨uNet { up.net with ups := [0] }, 0, 64, [], {}, (chargePp (rxFrame 0 64 [] {} (uNet { up.net with ups := [0] })) (rxCounted 0 64 [] (uNet { up.net with ups := [0] }))).1.getD {}, (chargePp (rxFrame 0 64 [] {} (uNet { up.net with ups := [0] })) (rxCounted 0 64 [] (uNet { up.net with ups := [0] }))).2, by decide +kernel⟩,
   ⟨uEg, 0, 0, egSend 0 0 (etsPick 0 (limNote 0 { uEg with net := { uEg.net with heldEg := [] } })).2, (etsPick 0 (limNote 0 { uEg with net := { uEg.net with heldEg := [] } })).2, by exact ⟨by decide +kernel, rfl, Prod.ext (by decide +kernel) rfl, rfl⟩⟩,
   ⟨uNet { up.net with paused := [(63, 5)] }, 7, 7, by decide +kernel⟩,
   ⟨conf (Reg.NET_NET_CTL 0) 0 0x10 up, 0, by decide +kernel⟩,
   ⟨uNet { up.net with frags := [(3, { proto := 17, port := 0, station := none, pieces := [{ off := 0, len := 100, more := true }] })] }, 3, { off := 0, len := 8, more := true }, { proto := 17, port := 0, station := none, pieces := [{ off := 0, len := 100, more := true }] }, by decide +kernel⟩,
   ⟨uNet { up.net with frags := [(3, { proto := 17, port := 0, station := none, pieces := [{ off := 0, len := 100, more := true }] })] }, 3, { off := 100, len := 8, more := false }, { proto := 17, port := 0, station := none, pieces := [{ off := 0, len := 100, more := true }] }, by decide +kernel⟩,
   ⟨uNet { up.net with frags := [(3, { proto := 50, port := 0, station := none, pieces := [{ off := 0, len := 100, more := true }] })] }, 3, { off := 100, len := 8, more := false }, { proto := 50, port := 0, station := none, pieces := [{ off := 0, len := 100, more := true }] }, by decide +kernel⟩,
   ⟨uNet { up.net with frags := (List.range 64).map fun i => (i, { proto := 17, port := 0, station := none, pieces := [{ off := 0, len := 100, more := true }] }) }, 64, by decide +kernel⟩,
   ⟨uNet { up.net with txts := [(7, [{ sub := 0, seqId := 1, time := 2 }])] }, 7, { sub := 0, seqId := 1, time := 2 }, by decide +kernel⟩⟩

/-- The hypotheses of each clause of `FlowAndRuleCommandsAct` can be met. -/
theorem witness_FlowAndRuleCommandsAct :
    (∃ (s : State) (p : Path) (i : Nat) (e : Flow), (MayWrite p Reg.CLASS_FLOW_CMD s) ∧ (MayWrite p Reg.CLASS_RULE_CMD s) ∧ (flowFind s.net.flows
      (flowOfImage (flowImage s)).key (flowOfImage (flowImage s)).profile = some (i, e))) ∧
    (∃ (s : State) (p : Path) (i : Nat), (MayWrite p Reg.CLASS_FLOW_CMD s) ∧ (MayWrite p Reg.CLASS_RULE_CMD s) ∧ (flowFind s.net.flows
      (flowOfImage (flowImage s)).key (flowOfImage (flowImage s)).profile = none) ∧ (flowFree s.net.flows (flowBuckets (flowOfImage (flowImage
      s)).key (flowOfImage (flowImage s)).profile).fst (flowBuckets (flowOfImage (flowImage s)).key (flowOfImage (flowImage s)).profile).snd =
      some i)) ∧
    (∃ (s : State) (p : Path) (j : Nat), (MayWrite p Reg.CLASS_FLOW_CMD s) ∧ (MayWrite p Reg.CLASS_RULE_CMD s) ∧ (trising s.net.rules = true) ∧
      (j ≠ ruleSel p s)) ∧
    (∃ (s : State) (p : Path), (MayWrite p Reg.CLASS_FLOW_CMD s) ∧ (MayWrite p Reg.CLASS_RULE_CMD s) ∧ (trising s.regs = true)) :=
  ⟨⟨uNet { up.net with flows := [(4 * (flowBuckets (flowOfImage (flowImage up)).key (flowOfImage (flowImage up)).profile).1, { key := (flowOfImage (flowImage up)).key, profile := (flowOfImage (flowImage up)).profile })] }, .management, 4 * (flowBuckets (flowOfImage (flowImage up)).key (flowOfImage (flowImage up)).profile).1, { key := (flowOfImage (flowImage up)).key, profile := (flowOfImage (flowImage up)).profile }, by exact ⟨⟨by decide +kernel, by decide +kernel⟩, ⟨by decide +kernel, by decide +kernel⟩, flowFind_here _ _ _ rfl rfl⟩⟩,
   ⟨up, .management, 4 * (flowBuckets (flowOfImage (flowImage up)).key (flowOfImage (flowImage up)).profile).1, by exact ⟨⟨by decide +kernel, by decide +kernel⟩, ⟨by decide +kernel, by decide +kernel⟩, flowFind_none _ _, flowFree_none _ _⟩⟩,
   ⟨up, .management, 1, by unfold MayWrite; decide +kernel⟩,
   ⟨up, .management, by unfold MayWrite; decide +kernel⟩⟩

/-- The hypotheses of each clause of `CipherCommandsKeepTheirRules` can be met. -/
theorem witness_CipherCommandsKeepTheirRules :
    (∃ (s : State) (pool : Nat) (lane : Nat) (u : State), (lane < 400) ∧ (s.ciph.lanesOut.contains (pool % 2 * 400 + lane) = false) ∧ ((tgetD
      s.ciph.lanes (pool % 2 * 400 + lane) { }).seeds = 0) ∧ (drbgSeed s = (true, u))) ∧
    (∃ (s : State), (s.ciph.drbgStopped = false) ∧ (2 ^ 20 ≤ s.ciph.drbgReqs)) ∧
    (∃ (s : State), (s.ciph.entropyFail = false) ∧ (s.ciph.retests = 0)) ∧
    (∃ (s : State), (s.ciph.retests ≠ 0)) ∧
    (∃ (s : State), (2 ≤ s.ciph.retests)) ∧
    (∃ (s : State), (s.ciph.retests = 1)) ∧
    (∃ (s : State) (p : Path) (a : Sa), (MayWrite p Reg.KSTORE_SA_CMD s) ∧ (saAt s (saSel p s) = some a) ∧ (a.outbound = true) ∧ (a.succ = none)) ∧
    (∃ (s : State) (p : Path), (MayWrite p Reg.KSTORE_SA_CMD s) ∧ (saAt s (saSel p s) = none)) ∧
    (∃ (s : State) (p : Path), (MayWrite p Reg.KSTORE_SA_CMD s) ∧ (thas s.ciph.sas (saSel p s) = false) ∧ (saImageOk (saImage s) = false)) ∧
    (∃ (s : State) (p : Path), (MayWrite p Reg.KSTORE_SA_CMD s) ∧ (thas s.ciph.sas (saSel p s) = false) ∧ (saImageOk (saImage s) = true) ∧
      ((saOfImage (saImage s)).outbound = true)) ∧
    (∃ (s : State) (p : Path), (MayWrite p Reg.KSTORE_KEY_CMD s) ∧ ((ksAt s (nsSelOf p s) (1 - ksCurrent s (nsSelOf p s))).state ≠ 0)) ∧
    (∃ (s : State) (p : Path), (MayWrite p Reg.KSTORE_KEY_CMD s) ∧ ((ksAt s (nsSelOf p s) (ksCurrent s (nsSelOf p s))).state = 1) ∧ ((ksAt s
      (nsSelOf p s) (1 - ksCurrent s (nsSelOf p s))).state = 0) ∧ (s.slotActive (nsSelOf p s) = true) ∧ (bitAt (cfg s Reg.KSTORE_KS_CTL) 1 =
      false) ∧ (keyChangeOk s = true)) ∧
    (∃ (s : State) (p : Path), (MayWrite p Reg.KSTORE_KEY_CMD s) ∧ (s.ks.esc = [])) ∧
    (∃ (s : State) (p : Path) (r : EscRec) (rest : List EscRec), (MayWrite p Reg.KSTORE_KEY_CMD s) ∧ (s.ks.esc = r :: rest) ∧ (s.ks.rollWait =
      [])) ∧
    (∃ (s : State) (p : Path), (MayWrite p Reg.KSTORE_KEY_CMD s) ∧ (s.trust.escrowKey = none)) ∧
    (∃ (s : State), (sweepRuns s = false)) ∧
    (∃ (s : State) (raws : List (Nat × Raw)) (i : Nat) (slot : Nat) (parcel : Nat), (sweepRuns s = true) ∧ (List.find? (fun i => decide
      (s.ks.sweepEntry ≤ i)) (sweepEntries s) = some i) ∧ (i = s.ks.sweepEntry) ∧ (entOwner s i = some (slot, parcel)) ∧ (thas s.store.succs
      (stripeKey slot parcel s.ks.sweepStripe) = false) ∧ (tget s.store.frames (stripeKey slot parcel s.ks.sweepStripe) = none) ∧ (raws = []) ∧
      (s.ks.sweepStripe + 1 < stripesPer (entAt s i).layout)) :=
  ⟨⟨uCiph { up.ciph with lanes := [(799, { seeds := 0 })] }, 1, 399, (drbgSeed (uCiph { up.ciph with lanes := [(799, { seeds := 0 })] })).2, by decide +kernel⟩,
   ⟨uCiph { up.ciph with drbgReqs := 2 ^ 20 }, by decide +kernel⟩,
   ⟨up, by decide +kernel⟩,
   ⟨uCiph { up.ciph with retests := 1 }, by decide +kernel⟩,
   ⟨uCiph { up.ciph with retests := 2 }, by decide +kernel⟩,
   ⟨uCiph { up.ciph with retests := 1 }, by decide +kernel⟩,
   ⟨uCiph { up.ciph with sas := [(0, { outbound := true, hard := 2 ^ 21, soft := 5 })] }, .management, { outbound := true, hard := 2 ^ 21, soft := 5 }, by unfold MayWrite; decide +kernel⟩,
   ⟨up, .management, by unfold MayWrite; decide +kernel⟩,
   ⟨up, .management, by unfold MayWrite; decide +kernel⟩,
   ⟨{ up with regs := [(regKey (Reg.KSTORE_SA_DATA 0) 0, 4), (regKey (Reg.KSTORE_SA_DATA 1) 0, 256), (regKey (Reg.KSTORE_SA_DATA 20) 0, 2 ^ 20)] }, .management, by unfold MayWrite; decide +kernel⟩,
   ⟨{ up with ks := { keys := [(1, { state := 2 })] } }, .management, by unfold MayWrite; decide +kernel⟩,
   ⟨{ { up with ks := { keys := [(6, { state := 1 })] } } with sels := [(selKey .management Reg.KSTORE_NS_SEL, 3)] }, .management, by unfold MayWrite; decide +kernel⟩,
   ⟨up, .management, by unfold MayWrite; decide +kernel⟩,
   ⟨{ up with ks := { esc := [{ slot := 0, kslot := 0, kstate := 1, epochNo := 0, time := 0, iv := 0, sealed := 0, tag := 0 }] } }, .management, { slot := 0, kslot := 0, kstate := 1, epochNo := 0, time := 0, iv := 0, sealed := 0, tag := 0 }, [], by unfold MayWrite; decide +kernel⟩,
   ⟨up, .management, by unfold MayWrite; decide +kernel⟩,
   ⟨conf Reg.KSTORE_KS_CTL 0 0 up, by decide +kernel⟩,
   ⟨{ uStore { up.store with cad := [(0, { state := 3, sweep := true })] } with ks := {} }, [], 0, 3, 0, by decide +kernel⟩⟩

/-- The hypotheses of each clause of `EopinRegisterInstructions` can be met. -/
theorem witness_EopinRegisterInstructions :
    (∃ (s : State) (e : Nat) (x : Engine) (d : Nat) (r : Nat) (sh : Nat), (tget s.net.engines e = some x) ∧ (x.waitAct = false) ∧ (x.cycles <
      cycleLimit s e) ∧ (d < 8) ∧ (r < 8) ∧ (sh < 32)) ∧
    (∃ (s : State) (e : Nat) (x : Engine) (f : EopField) (v : Nat), (tget s.net.engines e = some x) ∧ (x.waitAct = false) ∧ (x.cycles <
      cycleLimit s e) ∧ (x.field f = some v)) ∧
    (∃ (s : State) (e : Nat) (x : Engine) (f : EopField), (tget s.net.engines e = some x) ∧ (x.waitAct = false) ∧ (x.cycles < cycleLimit s e) ∧
      (x.field f = none)) ∧
    (∃ (s : State) (e : Nat) (x : Engine), (tget s.net.engines e = some x) ∧ (x.waitAct = false) ∧ (x.cycles < cycleLimit s e) ∧ (x.w.length =
      8)) :=
  ⟨⟨uEng (eng), 0, eng, 7, 7, 31, by decide +kernel⟩,
   ⟨uEng (eng), 0, eng, { w := .b4, abs := true, off := 60 }, 0xABABABAB, by decide +kernel⟩,
   ⟨uEng (eng), 0, eng, { w := .b4, abs := true, off := 61 }, by decide +kernel⟩,
   ⟨uEng (eng), 0, eng, by decide +kernel⟩⟩

/-- The hypotheses of each clause of `EopinFlowInstructions` can be met. -/
theorem witness_EopinFlowInstructions :
    (∃ (s : State) (e : Nat) (x : Engine) (wide : Bool) (abs : Bool) (off : Fin 256) (v : Nat), (tget s.net.engines e = some x) ∧ (x.waitAct =
      false) ∧ (x.cycles < cycleLimit s e) ∧ (x.field { w := if wide = true then FieldW.b2 else FieldW.b1, abs := abs, off := off } = some v)) ∧
    (∃ (s : State) (e : Nat) (x : Engine) (imm : BitVec 32), (tget s.net.engines e = some x) ∧ (x.waitAct = false) ∧ (x.cycles < cycleLimit s e)
      ∧ (x.cur + imm.toNat ≤ 255)) ∧
    (∃ (s : State) (e : Nat) (x : Engine) (imm : BitVec 32), (tget s.net.engines e = some x) ∧ (x.waitAct = false) ∧ (x.cycles < cycleLimit s e)
      ∧ (255 < x.cur + imm.toNat)) ∧
    (∃ (s : State) (e : Nat) (x : Engine) (r : Fin 8) (sh : Fin 32), (tget s.net.engines e = some x) ∧ (x.waitAct = false) ∧ (x.cycles <
      cycleLimit s e) ∧ (x.cur + x.reg r * 2 ^ sh.val % 2 ^ 32 ≤ 255)) ∧
    (∃ (s : State) (e : Nat) (x : Engine) (abs : Bool) (off : Fin 256) (len : Nat) (dst : Nat) (bs : List Nat), (tget s.net.engines e = some x) ∧
      (x.waitAct = false) ∧ (x.cycles < cycleLimit s e) ∧ (1 ≤ len) ∧ (len ≤ 16) ∧ (4 ≤ dst) ∧ (dst + len ≤ 60) ∧ (x.read abs off.val len = some
      bs)) ∧
    (∃ (s : State) (e : Nat) (x : Engine) (dst : Nat), (tget s.net.engines e = some x) ∧ (x.waitAct = false) ∧ (x.cycles < cycleLimit s e) ∧ (dst
      ≤ 56)) ∧
    (∃ (s : State) (e : Nat) (x : Engine) (abs : Bool) (off : Fin 256) (len : Nat) (bs : List Nat), (tget s.net.engines e = some x) ∧ (x.waitAct
      = false) ∧ (x.cycles < cycleLimit s e) ∧ (1 ≤ len) ∧ (len ≤ 40) ∧ (x.read abs off.val len = some bs)) ∧
    (∃ (s : State) (e : Nat) (x : Engine) (stn : Nat), (tget s.net.engines e = some x) ∧ (x.waitAct = false) ∧ (x.cycles < cycleLimit s e) ∧
      (x.frame.station = some stn)) ∧
    (∃ (s : State) (e : Nat) (x : Engine) (r : LookRes), (tget s.net.engines e = some x) ∧ (x.waitAct = false) ∧ (x.cycles < cycleLimit s e) ∧
      (x.res = some r)) ∧
    (∃ (s : State) (e : Nat) (x : Engine), (tget s.net.engines e = some x) ∧ (x.waitAct = false) ∧ (x.cycles < cycleLimit s e) ∧ (x.res = none)) ∧
    (∃ (s : State) (e : Nat) (x : Engine) (q : LookReq), (tget s.net.engines e = some x) ∧ (x.look = some q) ∧ (x.res = none)) ∧
    (∃ (s : State) (e : Nat) (x : Engine), (tget s.net.engines e = some x) ∧ (cycleLimit s e ≤ x.cycles) ∧ (x.waitAct = false)) ∧
    (∃ (s : State) (e : Nat) (x : Engine), (tget s.net.engines e = some x) ∧ (x.cycles < cycleLimit s e) ∧ (x.waitAct = false)) :=
  ⟨⟨uEng (eng), 0, eng, true, true, 62, 0xABAB, by decide +kernel⟩,
   ⟨uEng (eng), 0, eng, 255, by decide +kernel⟩,
   ⟨uEng (eng), 0, eng, 256, by decide +kernel⟩,
   ⟨uEng (eng), 0, eng, (7 : Fin 8), (31 : Fin 32), by decide +kernel⟩,
   ⟨uEng (eng), 0, eng, true, 48, 16, 44, List.replicate 16 0xAB, by decide +kernel⟩,
   ⟨uEng (eng), 0, eng, 56, by decide +kernel⟩,
   ⟨uEng (eng), 0, eng, true, 24, 40, List.replicate 40 0xAB, by decide +kernel⟩,
   ⟨uEng (eng), 0, eng, 3, by decide +kernel⟩,
   ⟨uEng ({ eng with res := some { rule := none, flow := none } }), 0, { eng with res := some { rule := none, flow := none } }, { rule := none, flow := none }, by decide +kernel⟩,
   ⟨uEng (eng), 0, eng, by decide +kernel⟩,
   ⟨uEng ({ eng with look := some { key := [], flow := false, at_ := 0 } }), 0, { eng with look := some { key := [], flow := false, at_ := 0 } }, { key := [], flow := false, at_ := 0 }, by decide +kernel⟩,
   ⟨uEng ({ eng with cycles := 10000 }), 0, { eng with cycles := 10000 }, by decide +kernel⟩,
   ⟨uEng (eng), 0, eng, by decide +kernel⟩⟩

/-- The hypotheses of each clause of `EndpointCommandsAct` can be met. -/
theorem witness_EndpointCommandsAct :
    (∃ (s : State), (bitAt (cfg s Reg.EP_EP_CTL) 0 = true) ∧ (s.ep.perst = false) ∧ (s.ep.link = false) ∧ (¬5 ∈ s.pwr.famDown)) ∧
    (∃ (s : State), (s.ep.link = true) ∧ (s.ep.flit = true)) ∧
    (∃ (s : State), (s.ep.link = true) ∧ (s.ep.ideSecure = true)) ∧
    (∃ (s : State) (fn : Nat) (mse : Bool) (n : Nat) (u : State), (fnPresent s fn = true) ∧ ((fnAt s fn).flr = false) ∧ ((fnAt s fn).bme = true)
      ∧ (trising s.ep.fns = true) ∧ (fnStop fn (setFn fn { (fnAt s fn) with bme := false, mse := mse } (setFn fn { (fnAt s fn) with mse := mse }
      s)) = (n, u))) ∧
    (∃ (s : State) (fn : Nat) (c : Nat), (fnPresent s fn = true) ∧ ((fnAt s fn).flr = false) ∧ ((fnAt s fn).cntlid = some c) ∧ ((fnAt s fn).mse =
      true) ∧ (s.ep.blocked = false)) ∧
    (∃ (s : State) (fn : Nat), (fnHears s fn = false)) ∧
    (∃ (s : State) (fn : Nat), ((fnAt s fn).flr = true)) ∧
    (∃ (s : State) (fn : Nat) (q : Nat) (c : Nat) (v : Nat), ((fnAt s fn).cntlid = some c) ∧ (fnHears s fn = true) ∧ (q ≤ 128) ∧ (v < 4096)) ∧
    (∃ (s : State) (tag : Nat) (x : EpTag), (tget s.ep.tags tag = some x) ∧ (x.quarantined = true)) ∧
    (∃ (s : State) (tag : Nat) (x : EpTag) (c : Nat) (i : Nat), (tget s.ep.tags tag = some x) ∧ (x.quarantined = false) ∧ (x.what =
      EpRead.writeData c i)) ∧
    (∃ (s : State) (tag : Nat) (x : EpTag), (tget s.ep.tags tag = some x) ∧ (x.quarantined = false) ∧ (x.first = false)) ∧
    (∃ (s : State), (s.ep.link = true) ∧ (s.ep.tags = []) ∧ (s.ep.rings = [])) ∧
    (∃ (s : State) (q : Nat) (c : Nat) (a : Assoc), (queueCntlid s q = some c) ∧ (tget s.nvm.assocs c = some a) ∧ (a.notices = [])) :=
  ⟨⟨conf Reg.EP_EP_CTL 0 1 ({ up with ep := { perst := false } }), by decide +kernel⟩,
   ⟨{ up with ep := { link := true, flit := true } }, by decide +kernel⟩,
   ⟨{ up with ep := { link := true, ideSecure := true } }, by decide +kernel⟩,
   ⟨{ up with ep := { link := true, fns := [(0, fn0)] } }, 0, false, (fnStop 0 (setFn 0 { fn0 with bme := false, mse := false } (setFn 0 { fn0 with mse := false } ({ up with ep := { link := true, fns := [(0, fn0)] } })))).1, (fnStop 0 (setFn 0 { fn0 with bme := false, mse := false } (setFn 0 { fn0 with mse := false } ({ up with ep := { link := true, fns := [(0, fn0)] } })))).2, by exact ⟨by decide +kernel, rfl, rfl, by decide +kernel, rfl⟩⟩,
   ⟨{ up with ep := { link := true, fns := [(0, fn0)] } }, 0, 1, by decide +kernel⟩,
   ⟨up, 255, by decide +kernel⟩,
   ⟨{ up with ep := { link := true, fns := [(0, { fn0 with flr := true })] } }, 0, by decide +kernel⟩,
   ⟨{ up with ep := { link := true, fns := [(0, fn0)] } }, 0, 128, 1, 4095, by decide +kernel⟩,
   ⟨{ up with ep := { tags := [(5, { fn := 0, what := .writeData 7 0, quarantined := true })] } }, 5, { fn := 0, what := .writeData 7 0, quarantined := true }, by decide +kernel⟩,
   ⟨{ up with ep := { tags := [(5, { fn := 0, what := .writeData 7 0 })] } }, 5, { fn := 0, what := .writeData 7 0 }, 7, 0, by decide +kernel⟩,
   ⟨{ up with ep := { tags := [(5, { fn := 0, what := .writeData 7 0, first := false })] } }, 5, { fn := 0, what := .writeData 7 0, first := false }, by decide +kernel⟩,
   ⟨{ up with ep := { link := true } }, by decide +kernel⟩,
   ⟨up, 257, 1, assoc1, by decide +kernel⟩⟩

/-- The hypotheses of each clause of `RingPagesAct` can be met. -/
theorem witness_RingPagesAct :
    (∃ (s : State) (fn : Nat), (fnHears s fn = false)) ∧
    (∃ (s : State) (fn : Nat) (n : Nat) (d : Desc), (fnHears s fn = true) ∧ (ringExists s fn n = true) ∧ (thas s.ep.rings (ringGlobal s fn n) =
      true) ∧ ((ringAt s (ringGlobal s fn n)).completion = false) ∧ ((ringAt s (ringGlobal s fn n)).state = RingState.active) ∧ (bitAt (cfg s
      Reg.RINGS_RINGS_CTL) 1 = true) ∧ (d.slot = (ringAt s (ringGlobal s fn n)).tail % (ringAt s (ringGlobal s fn n)).len) ∧ (pfLines s < 16384)
      ∧ (s.fnBme fn = true) ∧ ((ringAt s (ringGlobal s fn n)).waiting + (ringAt s (ringGlobal s fn n)).granted.length + (ringAt s (ringGlobal s
      fn n)).flying.length + 1 ≤ (ringAt s (ringGlobal s fn n)).len - 1)) ∧
    (∃ (s : State) (fn : Nat) (n : Nat), (fnHears s fn = true) ∧ (ringExists s fn n = true) ∧ (thas s.ep.rings (ringGlobal s fn n) = true) ∧
      ((ringAt s (ringGlobal s fn n)).state = RingState.active)) ∧
    (∃ (s : State) (fn : Nat) (n : Nat), (fnHears s fn = true) ∧ (ringExists s fn n = true) ∧ (thas s.ep.rings (ringGlobal s fn n) = true) ∧
      ((ringAt s (ringGlobal s fn n)).state = RingState.paused)) ∧
    (∃ (s : State) (fn : Nat) (n : Nat), (fnHears s fn = true) ∧ (ringExists s fn n = true) ∧ (thas s.ep.rings (ringGlobal s fn n) = true) ∧
      ((ringAt s (ringGlobal s fn n)).state ≠ RingState.paused)) ∧
    (∃ (s : State) (fn : Nat) (n : Nat), (fnHears s fn = true) ∧ (ringExists s fn n = true) ∧ (thas s.ep.rings (ringGlobal s fn n) = true) ∧
      ((ringAt s (ringGlobal s fn n)).state = RingState.active ∨ (ringAt s (ringGlobal s fn n)).state = RingState.paused) ∧ (tget s.win.chains
      (ringGlobal s fn n) = none)) ∧
    (∃ (s : State) (fn : Nat) (n : Nat), (fnHears s fn = true) ∧ (ringExists s fn n = true) ∧ (thas s.ep.rings (ringGlobal s fn n) = true) ∧
      ((ringAt s (ringGlobal s fn n)).state ≠ RingState.active) ∧ ((ringAt s (ringGlobal s fn n)).state ≠ RingState.paused)) ∧
    (∃ (s : State) (fn : Nat) (n : Nat) (v : Nat), (fnHears s fn = true) ∧ (ringExists s fn n = true) ∧ (thas s.ep.rings (ringGlobal s fn n) =
      true) ∧ ((ringAt s (ringGlobal s fn n)).state = RingState.disabled) ∧ (4 ≤ v % 32) ∧ (v % 32 ≤ 16)) ∧
    (∃ (s : State) (fn : Nat) (n : Nat) (v : Nat), (fnHears s fn = true) ∧ (ringExists s fn n = true) ∧ (thas s.ep.rings (ringGlobal s fn n) =
      true) ∧ (v % 32 < 4)) ∧
    (∃ (s : State) (fn : Nat) (n : Nat) (v : Nat), (fnHears s fn = true) ∧ (ringExists s fn n = true) ∧ (thas s.ep.rings (ringGlobal s fn n) =
      true) ∧ (bits v 0 8 = 0)) ∧
    (∃ (s : State) (fn : Nat) (n : Nat) (v : Nat), (fnHears s fn = true) ∧ (ringExists s fn n = true) ∧ (thas s.ep.rings (ringGlobal s fn n) =
      true) ∧ (bits v 0 8 ≠ 0) ∧ (1 ≤ bits v 8 6) ∧ (bits v 8 6 ≤ 32)) :=
  ⟨⟨up, 0, by decide +kernel⟩,
   ⟨{ conf Reg.RINGS_RINGS_CTL 0 3 (uRing { state := .active, n := 16, tail := 65534 }) with vault := {} }, 0, 0, { opc := 0, slot := 65534 }, by decide +kernel⟩,
   ⟨uRing { state := .active }, 0, 0, by decide +kernel⟩,
   ⟨uRing { state := .paused }, 0, 0, by decide +kernel⟩,
   ⟨uRing { state := .active }, 0, 0, by decide +kernel⟩,
   ⟨uRing { state := .active }, 0, 0, by decide +kernel⟩,
   ⟨uRing { state := .draining }, 0, 0, by decide +kernel⟩,
   ⟨uRing { state := .disabled, cpl := 1 }, 0, 0, 16, by decide +kernel⟩,
   ⟨uRing { state := .active }, 0, 0, 3, by decide +kernel⟩,
   ⟨uRing { state := .active }, 0, 0, 256, by decide +kernel⟩,
   ⟨uRing { state := .active }, 0, 0, 8193, by decide +kernel⟩⟩

/-- The hypotheses of each clause of `GrantedDescriptorsExecute` can be met. -/
theorem witness_GrantedDescriptorsExecute :
    (∃ (s : State) (g : Nat) (n : Nat) (w : Wrr), (bitAt (cfg s Reg.RINGS_RINGS_CTL) 0 = true) ∧ (Wrr.pick (ringsWork s) (fun g => min (ringAt s
      g).weight (cfgAt s Reg.RINGS_FN_WEIGHT_MAX (ringAt s g).fn)) (fun g => (ringAt s g).burst) (fun g => (ringAt s g).waiting) s.ep.arb = (some
      (g, n), w))) ∧
    (∃ (s : State), (bitAt (cfg s Reg.RINGS_RINGS_CTL) 0 = false)) ∧
    (∃ (s : State) (g : Nat) (d : Desc), ((ringAt s g).granted = [d]) ∧ (d.chain = true → (ringAt s g).flying = []) ∧ (d.chain = true) ∧ ((ringAt
      s g).lastOk = false) ∧ (d.opc = 0)) ∧
    (∃ (s : State) (g : Nat) (d : Desc), ((ringAt s g).granted = [d]) ∧ (d.chain = true → (ringAt s g).flying = []) ∧ (d.chain = false) ∧ (d.opc
      = 0)) ∧
    (∃ (s : State) (g : Nat) (d : Desc), ((ringAt s g).granted = [d]) ∧ (d.chain = true → (ringAt s g).flying = []) ∧ (d.chain = false) ∧ (d.opc
      = 2)) ∧
    (∃ (s : State) (g : Nat) (d : Desc), ((ringAt s g).granted = [d]) ∧ (d.chain = true → (ringAt s g).flying = []) ∧ (d.chain = false) ∧ (d.opc
      = 3)) ∧
    (∃ (s : State) (g : Nat) (d : Desc), ((ringAt s g).granted = [d]) ∧ (d.chain = true → (ringAt s g).flying = []) ∧ (d.chain = false) ∧ (d.opc
      = 16)) ∧
    (∃ (s : State) (g : Nat) (d : Desc), ((ringAt s g).granted = [d]) ∧ (d.chain = true → (ringAt s g).flying = []) ∧ (d.chain = false) ∧ (d.opc
      = 17)) ∧
    (∃ (s : State) (g : Nat) (d : Desc), ((ringAt s g).granted = [d]) ∧ (d.chain = true → (ringAt s g).flying = []) ∧ (d.chain = false) ∧ (d.opc
      = 18)) ∧
    (∃ (s : State) (g : Nat) (d : Desc), ((ringAt s g).granted = [d]) ∧ (d.chain = true → (ringAt s g).flying = []) ∧ (d.chain = false) ∧ (d.opc
      = 19)) ∧
    (∃ (s : State) (g : Nat) (d : Desc), ((ringAt s g).granted = [d]) ∧ (d.chain = true → (ringAt s g).flying = []) ∧ (d.chain = false) ∧ (d.opc
      = 20)) ∧
    (∃ (s : State) (g : Nat) (d : Desc) (a : Assoc) (n : Ns), ((ringAt s g).granted = [d]) ∧ (d.chain = true → (ringAt s g).flying = []) ∧
      (d.chain = false) ∧ (d.opc = 32) ∧ (ringAssoc (descTake g d s) g = some a) ∧ (nsAt s (winAt s d.win).slot = some n) ∧ ((winAt s
      d.win).state = 2) ∧ (n.subsys = a.subsys) ∧ (a.host ∈ n.hosts) ∧ ((ringAt (descTake g d s) g).state = RingState.draining)) ∧
    (∃ (s : State) (g : Nat) (d : Desc) (a : Assoc) (n : Ns), ((ringAt s g).granted = [d]) ∧ (d.chain = true → (ringAt s g).flying = []) ∧
      (d.chain = false) ∧ (d.opc = 32) ∧ (ringAssoc (descTake g d s) g = some a) ∧ (nsAt s (winAt s d.win).slot = some n) ∧ ((winAt s
      d.win).state = 2) ∧ (n.subsys = a.subsys) ∧ (a.host ∈ n.hosts) ∧ ((ringAt (descTake g d s) g).state ≠ RingState.draining) ∧ (tallyMet
      (tgetD (winAt s d.win).ctrs d.ctr 0) d.target = true)) ∧
    (∃ (s : State) (g : Nat) (d : Desc) (a : Assoc) (n : Ns), ((ringAt s g).granted = [d]) ∧ (d.chain = true → (ringAt s g).flying = []) ∧
      (d.chain = false) ∧ (d.opc = 32) ∧ (ringAssoc (descTake g d s) g = some a) ∧ (nsAt s (winAt s d.win).slot = some n) ∧ ((winAt s
      d.win).state = 2) ∧ (n.subsys = a.subsys) ∧ (a.host ∈ n.hosts) ∧ ((ringAt (descTake g d s) g).state ≠ RingState.draining) ∧ (tallyMet
      (tgetD (winAt s d.win).ctrs d.ctr 0) d.target = false)) ∧
    (∃ (s : State) (g : Nat) (d : Desc) (a : Assoc) (c : Capsule) (v : State), ((ringAt s g).granted = [d]) ∧ (d.chain = true → (ringAt s
      g).flying = []) ∧ (d.chain = false) ∧ (d.opc = 1) ∧ (ringAssoc s g = some a) ∧ (mayParse s a.host = true) ∧ (submitRing g a.host a.subsys
      { cid := d.slot, nsid := c.nsid, op := c.op } (descTake g d s) = some v)) ∧
    (∃ (s : State) (g : Nat) (d : Desc) (a : Assoc) (c : Capsule), ((ringAt s g).granted = [d]) ∧ (d.chain = true → (ringAt s g).flying = []) ∧
      (d.chain = false) ∧ (d.opc = 1) ∧ (ringAssoc s g = some a) ∧ (mayParse s a.host = true) ∧ (submitRing g a.host a.subsys
      { cid := d.slot, nsid := c.nsid, op := c.op } (descTake g d s) = none)) ∧
    (∃ (s : State) (g : Nat), ((ringAt s g).completion = true) ∧ ((ringAt s g).arm = true) ∧ ((ringAt s g).unsignalled ≠ 0)) :=
  ⟨⟨conf Reg.RINGS_RINGS_CTL 0 3 (uRing { state := .active, tail := 3 }), 0, (Wrr.pick (ringsWork (conf Reg.RINGS_RINGS_CTL 0 3 (uRing { state := .active, tail := 3 }))) (fun g => min (ringAt (conf Reg.RINGS_RINGS_CTL 0 3 (uRing { state := .active, tail := 3 })) g).weight (cfgAt (conf Reg.RINGS_RINGS_CTL 0 3 (uRing { state := .active, tail := 3 })) Reg.RINGS_FN_WEIGHT_MAX (ringAt (conf Reg.RINGS_RINGS_CTL 0 3 (uRing { state := .active, tail := 3 })) g).fn)) (fun g => (ringAt (conf Reg.RINGS_RINGS_CTL 0 3 (uRing { state := .active, tail := 3 })) g).burst) (fun g => (ringAt (conf Reg.RINGS_RINGS_CTL 0 3 (uRing { state := .active, tail := 3 })) g).waiting) (conf Reg.RINGS_RINGS_CTL 0 3 (uRing { state := .active, tail := 3 })).ep.arb).1.get!.2, (Wrr.pick (ringsWork (conf Reg.RINGS_RINGS_CTL 0 3 (uRing { state := .active, tail := 3 }))) (fun g => min (ringAt (conf Reg.RINGS_RINGS_CTL 0 3 (uRing { state := .active, tail := 3 })) g).weight (cfgAt (conf Reg.RINGS_RINGS_CTL 0 3 (uRing { state := .active, tail := 3 })) Reg.RINGS_FN_WEIGHT_MAX (ringAt (conf Reg.RINGS_RINGS_CTL 0 3 (uRing { state := .active, tail := 3 })) g).fn)) (fun g => (ringAt (conf Reg.RINGS_RINGS_CTL 0 3 (uRing { state := .active, tail := 3 })) g).burst) (fun g => (ringAt (conf Reg.RINGS_RINGS_CTL 0 3 (uRing { state := .active, tail := 3 })) g).waiting) (conf Reg.RINGS_RINGS_CTL 0 3 (uRing { state := .active, tail := 3 })).ep.arb).2, by decide +kernel⟩,
   ⟨conf Reg.RINGS_RINGS_CTL 0 0 up, by decide +kernel⟩,
   ⟨uRing { state := .active, granted := [{ opc := 0, chain := true }], lastOk := false }, 0, { opc := 0, chain := true }, by decide +kernel⟩,
   ⟨uGrant { opc := 0 }, 0, { opc := 0 }, by decide +kernel⟩,
   ⟨uGrant { opc := 2 }, 0, { opc := 2 }, by decide +kernel⟩,
   ⟨uGrant { opc := 3 }, 0, { opc := 3 }, by decide +kernel⟩,
   ⟨uGrant { opc := 16 }, 0, { opc := 16 }, by decide +kernel⟩,
   ⟨uGrant { opc := 17 }, 0, { opc := 17 }, by decide +kernel⟩,
   ⟨uGrant { opc := 18 }, 0, { opc := 18 }, by decide +kernel⟩,
   ⟨uGrant { opc := 19 }, 0, { opc := 19 }, by decide +kernel⟩,
   ⟨uGrant { opc := 20 }, 0, { opc := 20 }, by decide +kernel⟩,
   ⟨{ uRing { state := .draining, granted := [{ opc := 32 }] } with win := { windows := [(0, { state := 2, slot := 3, pages := 1 })] } }, 0, { opc := 32 }, assoc1, ns3, by decide +kernel⟩,
   ⟨{ uGrant { opc := 32 } with win := { windows := [(0, { state := 2, slot := 3, pages := 1, ctrs := [(0, 5)] })] } }, 0, { opc := 32 }, assoc1, ns3, by decide +kernel⟩,
   ⟨{ uGrant { opc := 32, target := 6 } with win := { windows := [(0, { state := 2, slot := 3, pages := 1, ctrs := [(0, 5)] })] } }, 0, { opc := 32, target := 6 }, assoc1, ns3, by decide +kernel⟩,
   ⟨uGrant { opc := 1 }, 0, { opc := 1 }, assoc1, { cid := 0, nsid := 1, op := .read 0 1 }, _, rfl, by decide +kernel, rfl, rfl, rfl, by decide +kernel, eq_some_getD up (by decide +kernel)⟩,
   ⟨{ uGrant { opc := 1 } with nvm := { up.nvm with nss := [(3, { ns3 with moving := true })] } }, 0, { opc := 1 }, assoc1, { cid := 0, nsid := 1, op := .read 0 1 }, by exact ⟨rfl, by decide +kernel, rfl, rfl, rfl, by decide +kernel, by decide +kernel⟩⟩,
   ⟨uRing { state := .active, completion := true, arm := true, unsignalled := 1 }, 0, by decide +kernel⟩⟩

/-- The hypotheses of each clause of `DrivePortsAct` can be met. -/
theorem witness_DrivePortsAct :
    (∃ (s : State) (n : Nat), (n < 24) ∧ ((portAt s n).state = 1) ∧ ((bayAt s n).pg = true) ∧ (s.pwr.released = true)) ∧
    (∃ (s : State) (n : Nat), ((portAt s n).state = 2) ∧ ((portAt s n).trainFails < 2)) ∧
    (∃ (s : State) (n : Nat), ((portAt s n).state = 2) ∧ (2 ≤ (portAt s n).trainFails)) ∧
    (∃ (s : State) (n : Nat), ((portAt s n).state = 3) ∧ ((portAt s n).readyFails < 2)) ∧
    (∃ (s : State) (n : Nat), ((portAt s n).state = 3) ∧ (2 ≤ (portAt s n).readyFails)) ∧
    (∃ (s : State) (n : Nat) (d : DriveFacts), ((portAt s n).state = 3) ∧ (driveCheck s d = 0)) ∧
    (∃ (s : State) (n : Nat), ((memberAt s n).formatting = true) ∧ ((memberAt s n).state ≠ 2) ∧ (s.store.cmds = [])) ∧
    (∃ (s : State) (n : Nat) (tag : Nat) (c : DrvCmd), (tag < 16384) ∧ (n < 24) ∧ ((portAt s n).perstRel = true) ∧ (tget s.store.cmds (n * 16384
      + tag) = some c) ∧ (c.quarantined = false) ∧ (cfg s (Reg.RP_TO_ESCALATE n) ≤ (List.filter (fun t => decide (s.time < t + 1000000000))
      (portAt s n).timeouts ++ [s.time]).length)) ∧
    (∃ (s : State) (n : Nat) (tag : Nat) (c : DrvCmd) (j : Nat) (strip : Nat) (rows : List Nat) (d : Bool), (tag < 16384) ∧ (n < 24) ∧ ((portAt s
      n).perstRel = true) ∧ (tget s.store.cmds (n * 16384 + tag) = some c) ∧ (c.quarantined = false) ∧ ((List.filter (fun t => decide (s.time < t
      + 1000000000)) (portAt s n).timeouts ++ [s.time]).length < cfg s (Reg.RP_TO_ESCALATE n)) ∧ (c.firstTry = true) ∧ (c.discard = false) ∧
      (c.purpose = Purpose.read j strip rows d)) ∧
    (∃ (s : State) (n : Nat) (tag : Nat), (tag < 16384) ∧ (quarantinedTag s (n * 16384 + tag) = true)) ∧
    (∃ (s : State) (n : Nat) (code : Nat), (n < 24) ∧ ((portAt s n).perstRel = true) ∧ (18 ≤ code) ∧ (code ≤ 21) ∧ (bitAt (cfg s (Reg.RP_RP_CTL
      n)) 2 = true)) ∧
    (∃ (s : State) (n : Nat) (code : Nat), (n < 24) ∧ ((portAt s n).perstRel = true) ∧ (18 ≤ code) ∧ (code ≤ 21) ∧ (bitAt (cfg s (Reg.RP_RP_CTL
      n)) 2 = false)) ∧
    (∃ (s : State) (n : Nat), ((portAt s n).state = 5)) ∧
    (∃ (s : State) (n : Nat), ((portAt s n).state = 4) ∧ ((portAt s n).narrow = false) ∧ (bitAt (cfg s (Reg.RP_RP_CTL n)) 1 = true)) :=
  ⟨⟨{ up with bay := { ports := [(23, { state := 1 })], bays := [(23, { pg := true })] } }, 23, by decide +kernel⟩,
   ⟨{ up with bay := { ports := [(23, { state := 2, trainFails := 1 })] } }, 23, by decide +kernel⟩,
   ⟨{ up with bay := { ports := [(23, { state := 2, trainFails := 2 })] } }, 23, by decide +kernel⟩,
   ⟨{ up with bay := { ports := [(23, { state := 3, readyFails := 1 })] } }, 23, by decide +kernel⟩,
   ⟨{ up with bay := { ports := [(23, { state := 3, readyFails := 2 })] } }, 23, by decide +kernel⟩,
   ⟨{ up with bay := { ports := [(23, { state := 3 })] } }, 23, {}, by decide +kernel⟩,
   ⟨uStore { up.store with members := [(23, { state := 6, formatting := true })] }, 23, by decide +kernel⟩,
   ⟨{ conf (Reg.RP_TO_ESCALATE 23) 0 1 ({ up with bay := { ports := [(23, { state := 4 })] } }) with store := { up.store with cmds := [(23 * 16384 + 16383, { bay := 23, write := false, lba := 0, n := 1, purpose := .other })] } }, 23, 16383, { bay := 23, write := false, lba := 0, n := 1, purpose := .other }, by decide +kernel⟩,
   ⟨{ { up with bay := { ports := [(23, { state := 4 })] } } with store := { up.store with cmds := [(23 * 16384 + 16383, { bay := 23, write := false, lba := 0, n := 1, purpose := .read 0 0 [0] false })] } }, 23, 16383, { bay := 23, write := false, lba := 0, n := 1, purpose := .read 0 0 [0] false }, 0, 0, [0], false, by decide +kernel⟩,
   ⟨{ { up with bay := { ports := [(23, { state := 4 })] } } with store := { up.store with cmds := [(23 * 16384 + 16383, { bay := 23, write := false, lba := 0, n := 1, purpose := .other, quarantined := true })] } }, 23, 16383, by decide +kernel⟩,
   ⟨conf (Reg.RP_RP_CTL 23) 0 7 ({ up with bay := { ports := [(23, { state := 4 })] } }), 23, 21, by decide +kernel⟩,
   ⟨conf (Reg.RP_RP_CTL 23) 0 3 ({ up with bay := { ports := [(23, { state := 4 })] } }), 23, 18, by decide +kernel⟩,
   ⟨{ up with bay := { ports := [(23, { state := 5 })] } }, 23, by decide +kernel⟩,
   ⟨conf (Reg.RP_RP_CTL 23) 0 2 ({ up with bay := { ports := [(23, { state := 4 })] } }), 23, by decide +kernel⟩⟩

/-- The hypotheses of each clause of `SidebandAndBayCommandsAct` can be met. -/
theorem witness_SidebandAndBayCommandsAct :
    (∃ (s : State) (bay : Nat) (input : Nat) (low : Bool), (bay < 24) ∧ (input < 3) ∧ (s.bay.side.raw.contains (input * 32 + bay) ≠ low)) ∧
    (∃ (s : State) (bay : Nat) (input : Nat), (bay < 24) ∧ (input < 3) ∧ (s.bay.side.window.contains (input * 32 + bay) = true) ∧ (bitAt
      (s.bay.side.quar input) bay = true ∨ bitAt (s.bay.side.acc input) bay = s.bay.side.raw.contains (input * 32 + bay))) ∧
    (∃ (s : State) (bay : Nat) (input : Nat), (bay < 24) ∧ (input < 3) ∧ (s.bay.side.window.contains (input * 32 + bay) = true) ∧ (bitAt
      (s.bay.side.quar input) bay = false) ∧ (bitAt (s.bay.side.acc input) bay ≠ s.bay.side.raw.contains (input * 32 + bay))) ∧
    (∃ (s : State) (bay : Nat), (bay < 24) ∧ (bitAt s.bay.side.counting bay = true) ∧ (bitAt (cfg s Reg.SIDEBAND_SB_CTL) 0 = false)) ∧
    (∃ (s : State) (bay : Nat), (bay < 24) ∧ (bitAt s.bay.side.counting bay = true) ∧ (bitAt (cfg s Reg.SIDEBAND_SB_CTL) 0 = true)) ∧
    (∃ (s : State) (bay : Nat) (input : Nat) (p : Path) (v : Nat), (bay < 24) ∧ (MayWrite p (quarReg input) s) ∧ (∀ (b : Nat), b < 24 → bitAt v b
      = true → bitAt (s.bay.side.quar input) b = false)) ∧
    (∃ (s : State) (bay : Nat), (bay < 24) ∧ (drivesLeds s = false)) ∧
    (∃ (s : State) (bay : Nat), (bay < 24) ∧ (drivesLeds s = true)) ∧
    (∃ (s : State) (bay : Nat) (p : Path) (cmd : Nat) (c : Instr), (bay < 24) ∧ (MayWrite p (Reg.BAY_CMD bay) s) ∧ ((cmd, c) ∈ [(1, Instr.bayOff
      p bay), (2, Instr.bayOn p bay), (3, Instr.bayClear p bay), (4, Instr.bayCycle p bay)]) ∧ (bayTakes s bay cmd = false)) ∧
    (∃ (s : State) (bay : Nat) (p : Path) (cmd : Nat) (c : Instr), (bay < 24) ∧ (MayWrite p (Reg.BAY_CMD bay) s) ∧ ((cmd, c) ∈ [(1, Instr.bayOff
      p bay), (2, Instr.bayOn p bay), (3, Instr.bayClear p bay), (4, Instr.bayCycle p bay)]) ∧ (bayTakes s bay cmd = true)) :=
  ⟨⟨up, 23, 2, true, by decide +kernel⟩,
   ⟨{ up with bay := { side := { window := [2 * 32 + 23] } } }, 23, 2, by decide +kernel⟩,
   ⟨{ up with bay := { side := { window := [23], raw := [23] } } }, 23, 0, by decide +kernel⟩,
   ⟨conf Reg.SIDEBAND_SB_CTL 0 0 ({ up with bay := { side := { counting := 2 ^ 23 } } }), 23, by decide +kernel⟩,
   ⟨{ up with bay := { side := { counting := 2 ^ 23 } } }, 23, by decide +kernel⟩,
   ⟨up, 23, 2, .management, 2 ^ 23, by unfold MayWrite; decide +kernel⟩,
   ⟨conf Reg.SIDEBAND_SB_CTL 0 0 up, 23, by decide +kernel⟩,
   ⟨conf Reg.SIDEBAND_SB_CTL 0 2 up, 23, by decide +kernel⟩,
   ⟨up, 23, .management, 3, .bayClear .management 23, by exact ⟨by decide +kernel, ⟨by decide +kernel, by decide +kernel⟩, by decide +kernel, by decide +kernel⟩⟩,
   ⟨{ up with bay := { bays := [(23, { state := 5 })] } }, 23, .management, 1, .bayOff .management 23, by exact ⟨by decide +kernel, ⟨by decide +kernel, by decide +kernel⟩, by decide +kernel, by decide +kernel⟩⟩⟩

/-- The hypotheses of each clause of `BayPowerMoves` can be met. -/
theorem witness_BayPowerMoves :
    (∃ (s : State) (bay : Nat), ((bayAt s bay).state = 1) ∧ (bayEn s bay = true) ∧ (bitAt (cfg s (Reg.BAYPWR_BP_CTL (bay / 6))) 0 = true) ∧
      (bitAt (cfg s Reg.SIDEBAND_SB_CTL) 2 = false)) ∧
    (∃ (s : State) (bay : Nat), ((bayAt s bay).state = 1) ∧ (bayEn s bay = false)) ∧
    (∃ (s : State) (b : Nat), ((tcount s.bay.bays fun _ x => x.state == 4) < cfg s (Reg.BAYPWR_RAMP_MAX 0)) ∧ (s.bay.lastStart = none) ∧
      (s.bay.trimBad = false) ∧ (s.pwr.released = true) ∧ (nextStart s = some b)) ∧
    (∃ (s : State), (nextStart s = none)) ∧
    (∃ (s : State) (bay : Nat), ((bayAt s bay).state = 4)) ∧
    (∃ (s : State) (bay : Nat), ((bayAt s bay).state = 5)) ∧
    (∃ (s : State) (bay : Nat), ((bayAt s bay).state ≠ 4) ∧ ((bayAt s bay).state ≠ 5)) ∧
    (∃ (s : State) (bay : Nat), ((bayAt s bay).state = 6)) ∧
    (∃ (s : State) (bay : Nat), ((bayAt s bay).state = 2) ∧ ((bayAt s bay).onWait = true)) ∧
    (∃ (s : State) (bay : Nat), (bay < 24) ∧ ((bayAt s bay).changeover = none)) ∧
    (∃ (s : State) (bay : Nat) (c : Nat), (bay < 24) ∧ ((bayAt s bay).changeover = some c)) ∧
    (∃ (s : State) (bay : Nat), (bay < 24) ∧ ((bayAt s bay).feed = 2)) ∧
    (∃ (s : State) (bay : Nat), ((bayAt s bay).feed = 2) ∧ ((bayAt s bay).goodA = true) ∧ (s.pair.conflict = false) ∧ ((bayAt s bay).changeover =
      none) ∧ (s.pairedNow = false)) ∧
    (∃ (s : State) (bay : Nat) (c : Nat), ((bayAt s bay).changeover = some c) ∧ (c = 2 ∨ (bayAt s bay).feed = 2)) ∧
    (∃ (s : State) (bay : Nat), (s.pairedNow = true) ∧ (isCtrl1 s = true) ∧ ((bayAt s bay).changeover = some 2)) ∧
    (∃ (s : State) (bay : Nat), (s.pairedNow = true) ∧ (isCtrl1 s = true) ∧ ((bayAt s bay).state = 5) ∧ ((bayAt s bay).feed = 1) ∧ ((bayAt s
      bay).goodA = true) ∧ (s.pair.conflict = false)) :=
  ⟨⟨conf Reg.SIDEBAND_SB_CTL 0 0 (conf (Reg.BAYPWR_BP_CTL 3) 0 1 (conf (Reg.BAY_CTL 23) 0 1 ({ up with bay := { bays := [(23, { state := 1 })] } }))), 23, by decide +kernel⟩,
   ⟨conf (Reg.BAY_CTL 23) 0 0 ({ up with bay := { bays := [(23, { state := 1 })] } }), 23, by decide +kernel⟩,
   ⟨{ up with bay := { bays := [(23, { state := 3, goodA := true, goodB := true })] } }, 23, by decide +kernel⟩,
   ⟨up, by decide +kernel⟩,
   ⟨{ up with bay := { bays := [(23, { state := 4 })] } }, 23, by decide +kernel⟩,
   ⟨{ up with bay := { bays := [(23, { state := 5 })] } }, 23, by decide +kernel⟩,
   ⟨{ up with bay := { bays := [(23, { state := 6 })] } }, 23, by decide +kernel⟩,
   ⟨{ up with bay := { bays := [(23, { state := 6 })] } }, 23, by decide +kernel⟩,
   ⟨{ up with bay := { bays := [(23, { state := 2, onWait := true })] } }, 23, by decide +kernel⟩,
   ⟨up, 23, by decide +kernel⟩,
   ⟨{ up with bay := { bays := [(23, { changeover := some 1 })] } }, 23, 1, by decide +kernel⟩,
   ⟨{ up with bay := { bays := [(23, { feed := 2 })] } }, 23, by decide +kernel⟩,
   ⟨{ up with bay := { bays := [(23, { feed := 2, goodA := true })] } }, 23, by decide +kernel⟩,
   ⟨{ up with bay := { bays := [(23, { changeover := some 2 })] } }, 23, 2, by decide +kernel⟩,
   ⟨{ up with bay := { bays := [(23, { changeover := some 2 })] }, pwr := { up.pwr with ctrlId := 1 }, pair := { state := 3 } }, 23, by decide +kernel⟩,
   ⟨{ up with bay := { bays := [(23, { state := 5, feed := 1, goodA := true })] }, pwr := { up.pwr with ctrlId := 1 }, pair := { state := 3 } }, 23, by decide +kernel⟩⟩

/-- The hypotheses of each clause of `TheZeberLinkCarriesFlitsInOrder` can be met. -/
theorem witness_TheZeberLinkCarriesFlitsInOrder :
    (∃ (s : State) (lane : Nat), (bitAt s.zeb.lanes lane = false)) ∧
    (∃ (s : State) (lane : Nat), (bitAt s.zeb.lanes lane = true) ∧ (s.zeb.retraining = false)) ∧
    (∃ (s : State) (locked : Nat), (bitAt (cfg s Reg.ZEBER_ZB_CTL) 0 = true) ∧ (s.pwr.held = false) ∧ (s.pwr.released = true) ∧ (laneCount
      (laneGroup locked) < 8 * 2 ^ bits (cfg s Reg.ZEBER_ZB_CTL) 1 2) ∧ (s.zeb.retraining = true)) ∧
    (∃ (s : State) (locked : Nat), (bitAt (cfg s Reg.ZEBER_ZB_CTL) 0 = true) ∧ (s.pwr.held = false) ∧ (s.pwr.released = true) ∧ (8 * 2 ^ bits
      (cfg s Reg.ZEBER_ZB_CTL) 1 2 ≤ laneCount (laneGroup locked)) ∧ (s.zeb.lanes = 0) ∧ (s.pairedNow = false)) ∧
    (∃ (s : State) (locked : Nat), (bitAt (cfg s Reg.ZEBER_ZB_CTL) 0 = true) ∧ (s.pwr.held = false) ∧ (s.pwr.released = true) ∧ (8 * 2 ^ bits
      (cfg s Reg.ZEBER_ZB_CTL) 1 2 ≤ laneCount (laneGroup locked)) ∧ (s.zeb.retraining = true) ∧ (laneCount s.zeb.lanes = laneCount (laneGroup
      locked))) ∧
    (∃ (s : State) (locked : Nat), (bitAt (cfg s Reg.ZEBER_ZB_CTL) 0 = true) ∧ (s.pwr.held = false) ∧ (s.pwr.released = true) ∧ (8 * 2 ^ bits
      (cfg s Reg.ZEBER_ZB_CTL) 1 2 ≤ laneCount (laneGroup locked)) ∧ (s.zeb.retraining = true) ∧ (laneCount (laneGroup locked) < laneCount
      s.zeb.lanes)) ∧
    (∃ (s : State), (zebUp s = false)) ∧
    (∃ (s : State) (f : Nat), (zebUp s = true) ∧ (f ≠ (s.zeb.fseqRx + 1) % 4096)) ∧
    (∃ (s : State), (zebUp s = true) ∧ ((s.zeb.unacked.all fun u => decide (u.snd < 7)) = true)) ∧
    (∃ (s : State) (u : Nat × Nat) (us : List (Nat × Nat)), (zebUp s = true) ∧ (s.zeb.unacked = u :: us)) ∧
    (∃ (s : State), (s.zeb.lanes = 0)) ∧
    (∃ (s : State), (s.zeb.lanes ≠ 0) ∧ (s.pair.helloWait = none)) ∧
    (∃ (s : State), (s.zeb.lanes ≠ 0) ∧ (s.pair.helloWait ≠ none)) :=
  ⟨⟨up, 3, by decide +kernel⟩,
   ⟨uZeb { lanes := 0xFFFF }, 3, by decide +kernel⟩,
   ⟨conf Reg.ZEBER_ZB_CTL 0 5 (uZeb { retraining := true }), 65535, by decide +kernel⟩,
   ⟨conf Reg.ZEBER_ZB_CTL 0 3 (up), 65535, by decide +kernel⟩,
   ⟨conf Reg.ZEBER_ZB_CTL 0 3 (uZeb { lanes := 0xFFFF, retraining := true }), 65535, by decide +kernel⟩,
   ⟨conf Reg.ZEBER_ZB_CTL 0 1 (uZeb { lanes := 0xFFFF, retraining := true }), 255, by decide +kernel⟩,
   ⟨up, by decide +kernel⟩,
   ⟨uZeb { lanes := 0xFFFF }, 0, by decide +kernel⟩,
   ⟨uZeb { lanes := 0xFFFF }, by decide +kernel⟩,
   ⟨uZeb { lanes := 0xFFFF, unacked := [(5, 6)] }, (5, 6), [], by decide +kernel⟩,
   ⟨up, by decide +kernel⟩,
   ⟨uZeb { lanes := 0xFFFF }, by decide +kernel⟩,
   ⟨{ uZeb { lanes := 0xFFFF } with pair := { state := 0, helloWait := some 0 } }, by decide +kernel⟩⟩

/-- The hypotheses of each clause of `MirrorTrafficIsPlacedInMseqOrder` can be met. -/
theorem witness_MirrorTrafficIsPlacedInMseqOrder :
    (∃ (s : State) (m : Nat) (c : Instr) (f : State → State), ((∃ slot lba adm stage blk, c = Instr.mirrorPut m slot lba adm stage blk ∧ f =
      placeMirror m slot lba adm stage blk) ∨ (∃ r, c = Instr.journalPut m r ∧ f = placeJournal r) ∨ (∃ n, c = Instr.cleanNote m n ∧ f =
      applyClean n) ∨ (∃ slot limit, c = Instr.lease m slot limit ∧ f = modNs slot fun n => { n with lease := max n.lease limit }) ∨ ∃ p, c =
      Instr.statePut m p ∧ f = applyPut p) ∧ (takesMirror s = true) ∧ (m = s.pair.mseqRx + 1)) ∧
    (∃ (s : State) (m : Nat) (c : Instr) (f : State → State), ((∃ slot lba adm stage blk, c = Instr.mirrorPut m slot lba adm stage blk ∧ f =
      placeMirror m slot lba adm stage blk) ∨ (∃ r, c = Instr.journalPut m r ∧ f = placeJournal r) ∨ (∃ n, c = Instr.cleanNote m n ∧ f =
      applyClean n) ∨ (∃ slot limit, c = Instr.lease m slot limit ∧ f = modNs slot fun n => { n with lease := max n.lease limit }) ∨ ∃ p, c =
      Instr.statePut m p ∧ f = applyPut p) ∧ (takesMirror s = false ∨ m ≠ s.pair.mseqRx + 1)) ∧
    (∃ (s : State) (m : Nat), (m ≤ s.pair.mseqAcked ∨ s.pair.mseqTx < m)) ∧
    (∃ (s : State) (m : Nat), (s.pair.mseqAcked < m) ∧ (m ≤ s.pair.mseqTx) ∧ (s.trav.open_ = []) ∧ (s.nvm.nss = []) ∧ (s.win.placing = []) ∧
      (s.nvm.ctxs = []) ∧ (s.nvm.queues = []) ∧ (s.pair.fwdHeld = [])) :=
  ⟨⟨{ uZeb { lanes := 0xFFFF, session := true } with pair := { state := 3 } }, 1, .journalPut 1 { jseq := 1, pos := 0, ctrl := 0, time := 0, body := .retire 0 }, placeJournal { jseq := 1, pos := 0, ctrl := 0, time := 0, body := .retire 0 }, by exact ⟨.inr (.inl ⟨{ jseq := 1, pos := 0, ctrl := 0, time := 0, body := .retire 0 }, rfl, rfl⟩), by decide +kernel, rfl⟩⟩,
   ⟨{ uZeb { lanes := 0xFFFF, session := true } with pair := { state := 3 } }, 2, .journalPut 2 { jseq := 1, pos := 0, ctrl := 0, time := 0, body := .retire 0 }, placeJournal { jseq := 1, pos := 0, ctrl := 0, time := 0, body := .retire 0 }, by exact ⟨.inr (.inl ⟨{ jseq := 1, pos := 0, ctrl := 0, time := 0, body := .retire 0 }, rfl, rfl⟩), by decide +kernel⟩⟩,
   ⟨up, 0, by decide +kernel⟩,
   ⟨{ State.reset with pair := { state := 0, mseqTx := 1 } }, 1, by decide +kernel⟩⟩

/-- The hypotheses of each clause of `JoiningPreemptingAndSeeking` can be met. -/
theorem witness_JoiningPreemptingAndSeeking :
    (∃ (s : State) (ctrl : Nat), (s.zeb.lanes ≠ 0) ∧ (ctrl = s.pwr.ctrlId)) ∧
    (∃ (s : State) (ctrl : Nat) (ver : Nat), (s.zeb.lanes ≠ 0) ∧ (ctrl ≠ s.pwr.ctrlId) ∧ (ver ≠ 1)) ∧
    (∃ (s : State) (ctrl : Nat) (paired : Bool), (s.zeb.lanes ≠ 0) ∧ (ctrl ≠ s.pwr.ctrlId) ∧ (paired = false)) ∧
    (∃ (s : State) (ctrl : Nat) (set : Nat), (s.zeb.lanes ≠ 0) ∧ (ctrl ≠ s.pwr.ctrlId) ∧ (s.pairedNow = true) ∧ (set ≠ s.store.setId) ∧ (set ≠ 0)
      ∧ (s.store.setId ≠ 0)) ∧
    (∃ (s : State) (ctrl : Nat) (set : Nat), (s.zeb.lanes ≠ 0) ∧ (ctrl ≠ s.pwr.ctrlId) ∧ (s.pairedNow = true) ∧ (set = s.store.setId) ∧
      (s.pair.state ≠ 1) ∧ (s.pair.state ≠ 5)) ∧
    (∃ (s : State) (ctrl : Nat) (set : Nat), (s.zeb.lanes ≠ 0) ∧ (ctrl ≠ s.pwr.ctrlId) ∧ (s.pairedNow = true) ∧ (set = s.store.setId) ∧
      (s.pair.state = 1 ∨ s.pair.state = 5) ∧ (s.zeb.session = false)) ∧
    (∃ (s : State) (ctrl : Nat) (set : Nat), (s.zeb.lanes ≠ 0) ∧ (ctrl ≠ s.pwr.ctrlId) ∧ (s.pairedNow = true) ∧ (set = s.store.setId) ∧
      (s.pair.state = 5) ∧ (s.zeb.session = true)) ∧
    (∃ (s : State) (ctrl : Nat) (set : Nat), (s.zeb.lanes ≠ 0) ∧ (ctrl ≠ s.pwr.ctrlId) ∧ (s.pairedNow = true) ∧ (set = s.store.setId) ∧
      (s.pair.state = 1) ∧ (s.zeb.session = true) ∧ (s.pair.ranging = false)) ∧
    (∃ (s : State) (ctrl : Nat) (set : Nat), (s.zeb.lanes ≠ 0) ∧ (ctrl ≠ s.pwr.ctrlId) ∧ (s.pairedNow = true) ∧ (set = s.store.setId) ∧
      (s.pair.state = 1) ∧ (s.zeb.session = true) ∧ (s.pair.ranging = true)) ∧
    (∃ (s : State), (s.pairedNow = true) ∧ (zebUp s = true) ∧ (s.vault.accepted = false) ∧ (s.pair.stopSent = true)) ∧
    (∃ (s : State), (s.pairedNow = true) ∧ (zebUp s = true) ∧ (s.vault.accepted = false) ∧ (s.pair.stopSent = false)) ∧
    (∃ (s : State), (s.pair.ranging = false)) ∧
    (∃ (s : State), (s.pair.ranging = true) ∧ (s.pair.state = 2)) ∧
    (∃ (s : State), (s.pair.arbWaiting = true)) ∧
    (∃ (s : State) (won : Nat) (why : PreemptWhy), (s.pair.preempt = some why) ∧ (2 * won < (activeMembers s).length)) ∧
    (∃ (s : State) (won : Nat) (why : PreemptWhy), (s.pair.preempt = some why) ∧ (2 * won = (activeMembers s).length) ∧ (s.pwr.ctrlId = 1)) ∧
    (∃ (s : State) (won : Nat) (why : PreemptWhy), (s.pair.preempt = some why) ∧ ((activeMembers s).length < 2 * won ∨ 2 * won = (activeMembers
      s).length ∧ s.pwr.ctrlId ≠ 1)) ∧
    (∃ (s : State), (s.pair.state = 1) ∧ (s.pair.preempt = none) ∧ (armed s = true)) ∧
    (∃ (s : State), (s.pair.state = 1) ∧ (s.pair.preempt = none) ∧ (armed s = false)) :=
  ⟨⟨uZeb { lanes := 0xFFFF }, 0, by decide +kernel⟩,
   ⟨uZeb { lanes := 0xFFFF }, 1, 2, by decide +kernel⟩,
   ⟨uZeb { lanes := 0xFFFF }, 1, false, by decide +kernel⟩,
   ⟨{ uZeb { lanes := 0xFFFF } with pair := { state := 1 }, store := { up.store with setId := 5 } }, 1, 6, by decide +kernel⟩,
   ⟨{ uZeb { lanes := 0xFFFF } with pair := { state := 3 }, store := { up.store with setId := 5 } }, 1, 5, by decide +kernel⟩,
   ⟨{ uZeb { lanes := 0xFFFF } with pair := { state := 1 }, store := { up.store with setId := 5 } }, 1, 5, by decide +kernel⟩,
   ⟨{ uZeb { lanes := 0xFFFF, session := true } with pair := { state := 5 } }, 1, 0, by decide +kernel⟩,
   ⟨{ uZeb { lanes := 0xFFFF, session := true } with pair := { state := 1 } }, 1, 0, by decide +kernel⟩,
   ⟨{ uZeb { lanes := 0xFFFF, session := true } with pair := { state := 1, ranging := true } }, 1, 0, by decide +kernel⟩,
   ⟨{ uZeb { lanes := 0xFFFF } with pair := { state := 3, stopSent := true } }, by decide +kernel⟩,
   ⟨{ uZeb { lanes := 0xFFFF } with pair := { state := 3 } }, by decide +kernel⟩,
   ⟨up, by decide +kernel⟩,
   ⟨{ up with pair := { state := 2, ranging := true } }, by decide +kernel⟩,
   ⟨{ up with pair := { state := 0, arbWaiting := true } }, by decide +kernel⟩,
   ⟨{ up with pair := { state := 0, preempt := some .timedOut }, store := { up.store with members := (List.range 24).map fun b => (b, { state := 2, cap := 200000 }), mset0 := 0xFFFFFF, homes0 := [0, 1, 2] } }, 11, .timedOut, by decide +kernel⟩,
   ⟨{ up with pair := { state := 0, preempt := some .timedOut }, pwr := { up.pwr with ctrlId := 1 }, store := { up.store with members := (List.range 24).map fun b => (b, { state := 2, cap := 200000 }), mset0 := 0xFFFFFF, homes0 := [0, 1, 2] } }, 12, .timedOut, by decide +kernel⟩,
   ⟨{ up with pair := { state := 0, preempt := some .timedOut }, store := { up.store with members := (List.range 24).map fun b => (b, { state := 2, cap := 200000 }), mset0 := 0xFFFFFF, homes0 := [0, 1, 2] } }, 12, .timedOut, by decide +kernel⟩,
   ⟨conf Reg.PAIR_PAIR_CTL 0 7 ({ up with pair := { state := 1 }, nvm := { up.nvm with nss := [(3, { ns3 with witness := true })] } }), by decide +kernel⟩,
   ⟨conf Reg.PAIR_PAIR_CTL 0 0 ({ up with pair := { state := 1 } }), by decide +kernel⟩⟩

/-- The hypotheses of each clause of `ForwardingRecordsMovesAndResync` can be met. -/
theorem witness_ForwardingRecordsMovesAndResync :
    (∃ (s : State) (c : FwdCmd), (inPair s = true) ∧ (s.pair.fwdHeld ≠ []) ∧ (∀ (k w o l d x : Nat), c.cap.op ≠ IoOp.winAccess k w o l d x)) ∧
    (∃ (s : State) (tag : Nat), (List.find? (fun p => p.snd.fwdTag == some tag) s.nvm.ctxs = none)) ∧
    (∃ (s : State) (tag : Nat) (id : Nat) (c : Ctx), (tget s.pair.fwds tag = some id) ∧ (ctxAt s id = some c) ∧ (c.orphan = false)) ∧
    (∃ (s : State) (tag : Nat), (tget s.pair.fwds tag = none) ∧ (tget s.win.fwds tag = none)) ∧
    (∃ (s : State) (tag : Nat) (sct : Nat) (sc : Nat) (id : Nat), (tget s.pair.fwds tag = some id) ∧ (sct ≠ 0 ∨ sc ≠ 0)) ∧
    (∃ (s : State) (r : StripReq), (inPair s = true) ∧ (memberPresent s r.bay = false ∨ (memberAt s r.bay).oneSided = true)) ∧
    (∃ (s : State) (r : StripReq) (w : SysWrite), (inPair s = true) ∧ (memberPresent s r.bay = true) ∧ ((memberAt s r.bay).oneSided = false) ∧
      (r.sys = some w)) ∧
    (∃ (s : State) (r : StripReq), (inPair s = true) ∧ (memberPresent s r.bay = true) ∧ ((memberAt s r.bay).oneSided = false) ∧ (r.sys = none)) ∧
    (∃ (s : State) (tag : Nat) (c : DrvCmd), (tget s.store.cmds tag = some c) ∧ (c.remote = true)) ∧
    (∃ (s : State) (slots : List Nat) (sl : Nat), (sl ∈ slots) ∧ (ownsSlot s sl = false)) ∧
    (∃ (s : State) (slots : List Nat) (nums : Tab Nat) (u : State), (inPair s = true) ∧ (∀ (sl : Nat), sl ∈ slots → ownsSlot s sl = true ∧
      mayStamp s sl = true) ∧ (stampAll slots [] s = some (nums, u))) ∧
    (∃ (s : State) (tag : Nat), (travAt s tag = none) ∧ (s.nvm.queues = []) ∧ (s.pair.fwdHeld = [])) ∧
    (∃ (s : State), (inPair s = true) ∧ (s.pwr.ctrlId ≠ 1)) ∧
    (∃ (s : State), (inPair s = true) ∧ (s.pwr.ctrlId = 1)) ∧
    (∃ (s : State) (num : Nat) (p : RecPend), (tget s.pair.records num = some p) ∧ (s.pwr.ctrlId ≠ 1)) ∧
    (∃ (s : State) (m : MoveState), (s.pair.moveSlot ≠ some m.slot ∨ s.pair.moveTo ≠ s.pwr.ctrlId)) ∧
    (∃ (s : State) (m : MoveState), (s.pair.moveSlot = some m.slot) ∧ (s.pair.moveTo = s.pwr.ctrlId)) ∧
    (∃ (s : State) (p : Path) (v : Nat), (MayWrite p Reg.PAIR_MOVE_CMD s) ∧ (bits v 0 2 ≠ 1)) ∧
    (∃ (s : State) (p : Path) (v : Nat), (MayWrite p Reg.PAIR_MOVE_CMD s) ∧ (bits v 0 2 = 1) ∧ (s.slotActive (sel s p Reg.PAIR_MOVE_SLOT % 16384)
      = false)) ∧
    (∃ (s : State) (p : Path) (v : Nat), (MayWrite p Reg.PAIR_MOVE_CMD s) ∧ (bits v 0 2 = 1) ∧ (s.slotActive (sel s p Reg.PAIR_MOVE_SLOT % 16384)
      = true) ∧ (s.pair.state ≠ 3)) ∧
    (∃ (s : State) (p : Path) (v : Nat), (MayWrite p Reg.PAIR_MOVE_CMD s) ∧ (bits v 0 2 = 1) ∧ (s.slotActive (sel s p Reg.PAIR_MOVE_SLOT % 16384)
      = true) ∧ (s.pair.state = 3) ∧ (s.pair.moveSlot ≠ none)) ∧
    (∃ (s : State) (p : Path) (v : Nat), (MayWrite p Reg.PAIR_MOVE_CMD s) ∧ (bits v 0 2 = 1) ∧ (s.slotActive (sel s p Reg.PAIR_MOVE_SLOT % 16384)
      = true) ∧ (s.pair.state = 3) ∧ (s.pair.moveSlot = none) ∧ (∀ (x : Nat × RecPend), x ∈ s.pair.records → ∀ (sl dst : Nat), x.snd.what ≠
      PairRec.move sl dst)) ∧
    (∃ (s : State) (slot : Nat) (n : Ns), (s.pair.moveSlot = some slot) ∧ (nsAt s slot = some n) ∧ (moveBusy s slot = true)) ∧
    (∃ (s : State) (slot : Nat) (n : Ns), (s.pair.moveSlot = some slot) ∧ (nsAt s slot = some n) ∧ (moveBusy s slot = false) ∧ (inPair s = true)
      ∧ (n.owner = s.pwr.ctrlId) ∧ (s.pair.moveTo ≠ s.pwr.ctrlId)) ∧
    (∃ (s : State) (q : Nat) (x : Queue) (a : Assoc) (c : Capsule) (cs : List Capsule), (tget s.nvm.queues q = some x) ∧ (queueAssoc s q = some
      a) ∧ (x.held = c :: cs) ∧ ((List.any s.nvm.nss fun p => p.snd.subsys == a.subsys && p.snd.nsid == c.nsid && p.snd.moving) = true)) ∧
    (∃ (s : State), (s.pair.state = 2) ∧ (s.pair.survivor = false)) ∧
    (∃ (s : State), (s.pair.state ≠ 2 ∨ s.pair.survivor = true ∧ 256 * s.vault.joinerEff.getD 0 < dirtyBlocks s)) ∧
    (∃ (s : State), (s.pair.quiet = true) ∧ (s.store.mirJournal = [])) :=
  ⟨⟨{ uZeb { lanes := 0xFFFF, session := true } with pair := { state := 3, fwdHeld := [{ tag := 3, host := 5, subsys := 1, cap := { cid := 9, nsid := 1, op := .flush } }] } }, { tag := 3, host := 5, subsys := 1, cap := { cid := 9, nsid := 1, op := .flush } }, by exact ⟨by decide +kernel, by decide +kernel, fun _ _ _ _ _ _ h => nomatch h⟩⟩,
   ⟨up, 3, by decide +kernel⟩,
   ⟨{ up with pair := { state := 0, fwds := [(3, 7)] }, nvm := { up.nvm with ctxs := [(7, wctx)] } }, 3, 7, wctx, by decide +kernel⟩,
   ⟨up, 3, by decide +kernel⟩,
   ⟨{ up with pair := { state := 0, fwds := [(3, 7)] } }, 3, 0, 4, 7, by decide +kernel⟩,
   ⟨{ uZeb { lanes := 0xFFFF, session := true } with pair := { state := 3 }, store := { up.store with members := [(2, { state := 2, oneSided := true })] } }, { tag := 3, bay := 2, lba := 0, n := 1, write := [] }, by decide +kernel⟩,
   ⟨{ uZeb { lanes := 0xFFFF, session := true } with pair := { state := 3 }, store := { up.store with members := [(2, { state := 2 })] }, bay := { bays := [(2, { state := 5 })], ports := [(2, { state := 4 })] } }, { tag := 3, bay := 2, lba := 0, n := 1, write := [], sys := some (.label 0) }, .label 0, by decide +kernel⟩,
   ⟨{ uZeb { lanes := 0xFFFF, session := true } with pair := { state := 3 }, store := { up.store with members := [(2, { state := 2 })] }, bay := { bays := [(2, { state := 5 })], ports := [(2, { state := 4 })] } }, { tag := 3, bay := 2, lba := 0, n := 1, write := [] }, by decide +kernel⟩,
   ⟨uStore { up.store with cmds := [(1, { bay := 0, write := false, lba := 0, n := 1, purpose := .remote 4, remote := true })] }, 1, { bay := 0, write := false, lba := 0, n := 1, purpose := .remote 4, remote := true }, by decide +kernel⟩,
   ⟨up, [4], 4, by decide +kernel⟩,
   ⟨{ uZeb { lanes := 0xFFFF, session := true } with pair := { state := 3 }, nvm := { up.nvm with nss := [(3, { ns3 with lease := 9 })] } }, [], [], _, by decide +kernel, (fun sl h => nomatch h), rfl⟩,
   ⟨State.reset, 4, by decide +kernel⟩,
   ⟨{ uZeb { lanes := 0xFFFF, session := true } with pair := { state := 3 }, pwr := { up.pwr with ctrlId := 0 } }, by decide +kernel⟩,
   ⟨{ uZeb { lanes := 0xFFFF, session := true } with pair := { state := 3 }, pwr := { up.pwr with ctrlId := 1 } }, by decide +kernel⟩,
   ⟨{ up with pair := { state := 0, records := [(1, { what := .nsDelete 3, cont := .nothing })] } }, 1, { what := .nsDelete 3, cont := .nothing }, by decide +kernel⟩,
   ⟨up, { slot := 3, adm := 0, resv := {}, windows := [], loss := [], entries := [] }, by decide +kernel⟩,
   ⟨{ up with pair := { state := 0, moveSlot := some 3 } }, { slot := 3, adm := 0, resv := {}, windows := [], loss := [], entries := [] }, by decide +kernel⟩,
   ⟨up, .management, 2, by unfold MayWrite; decide +kernel⟩,
   ⟨up, .management, 1, by unfold MayWrite; decide +kernel⟩,
   ⟨{ up with pair := { state := 1 }, sels := [(selKey .management Reg.PAIR_MOVE_SLOT, 3)] }, .management, 1, by unfold MayWrite; decide +kernel⟩,
   ⟨{ up with pair := { state := 3, moveSlot := some 4 }, sels := [(selKey .management Reg.PAIR_MOVE_SLOT, 3)] }, .management, 1, by unfold MayWrite; decide +kernel⟩,
   ⟨{ up with pair := { state := 3 }, sels := [(selKey .management Reg.PAIR_MOVE_SLOT, 3)] }, .management, 1, by exact ⟨by unfold MayWrite; decide +kernel, by decide +kernel, by decide +kernel, by decide +kernel, by decide +kernel, fun x h => (nomatch h)⟩⟩,
   ⟨{ up with pair := { state := 0, moveSlot := some 3 }, nvm := { up.nvm with ctxs := [(7, wctx)] } }, 3, ns3, by decide +kernel⟩,
   ⟨{ uZeb { lanes := 0xFFFF, session := true } with pair := { state := 3, moveSlot := some 3, moveTo := 1 } }, 3, ns3, by decide +kernel⟩,
   ⟨uNvm { up.nvm with nss := [(3, { ns3 with moving := true })], queues := [(257, { size := 32, held := [{ cid := 9, nsid := 1, op := .flush }] })] }, 257, { size := 32, held := [{ cid := 9, nsid := 1, op := .flush }] }, assoc1, { cid := 9, nsid := 1, op := .flush }, [], by decide +kernel⟩,
   ⟨{ up with pair := { state := 2 } }, by decide +kernel⟩,
   ⟨up, by decide +kernel⟩,
   ⟨{ up with pair := { state := 0, quiet := true } }, by decide +kernel⟩⟩

/-- The hypotheses of each clause of `TheRootOfTrustActs` can be met. -/
theorem witness_TheRootOfTrustActs :
    (∃ (s : State), (s.trust.queue = [])) ∧
    (∃ (s : State), (s.vault.accepted = true)) ∧
    (∃ (s : State) (r : FbReq) (rest : List FbReq), (s.trust.queue = r :: rest) ∧ (s.vault.accepted = false) ∧ (s.trust.devBad = [])) ∧
    (∃ (s : State) (r : FbReq) (rest : List FbReq), (s.trust.queue = r :: rest) ∧ (s.vault.accepted = false) ∧ (0 ∈ s.trust.devBad) ∧ (1 ∈
      s.trust.devBad)) ∧
    (∃ (s : State), (s.trust.nextSeq % 8 ≠ 0)) ∧
    (∃ (s : State) (p : Path), (MayWrite p Reg.TRUST_BOOT_CONFIRM s)) ∧
    (∃ (s : State) (p : Path), (MayWrite p Reg.TRUST_SVN_CMD s) ∧ (runningSvn s (sel s p Reg.TRUST_SVN_SEL % 8) ≤ tgetD s.trust.svn (sel s p
      Reg.TRUST_SVN_SEL % 8) 0)) ∧
    (∃ (s : State) (p : Path), (MayWrite p Reg.TRUST_SVN_CMD s) ∧ (tgetD s.trust.svn (sel s p Reg.TRUST_SVN_SEL % 8) 0 < runningSvn s (sel s p
      Reg.TRUST_SVN_SEL % 8))) ∧
    (∃ (s : State) (n : Nat) (v : Nat), (tgetD s.trust.svn n 0 < v)) ∧
    (∃ (s : State) (p : Path) (r : Nat), (MayWrite p Reg.TRUST_ACT_CMD s) ∧ (activateRefusal s = some r)) ∧
    (∃ (s : State) (p : Path) (c : Nat) (why : Nat), (MayWrite p Reg.TRUST_ACT_CMD s) ∧ (activateRefusal s = none) ∧ (slotRefusal s.trust (1 -
      s.trust.booted) [1, 2, 3, 4, 5, 6] = some (c, why))) ∧
    (∃ (s : State) (p : Path), (MayWrite p Reg.TRUST_ACT_CMD s) ∧ (activateRefusal s = none) ∧ (slotRefusal s.trust (1 - s.trust.booted) [1, 2,
      3, 4, 5, 6] = none)) ∧
    (∃ (s : State), (s.trust.actState ≠ 2 ∨ s.datum.phase ≠ CommitPhase.idle)) ∧
    (∃ (s : State) (c : Nat) (rest : List Nat), (s.trust.actState = 2) ∧ (s.datum.phase = CommitPhase.idle) ∧ (s.trust.actTodo = c :: rest) ∧
      (s.trust.actDone = []) ∧ (rest ≠ [])) ∧
    (∃ (s : State), (8 ≤ s.trust.dbgFails)) ∧
    (∃ (s : State) (scope : Nat) (nonce : Nat) (serial : Nat) (o : Bool) (v : Bool), (s.trust.dbgFails < 8) ∧ (debugGranted scope nonce serial o
      v s.trust = true)) ∧
    (∃ (s : State) (scope : Nat) (nonce : Nat) (serial : Nat) (o : Bool) (v : Bool), (s.trust.dbgFails < 7) ∧ (debugGranted scope nonce serial o
      v s.trust = false)) ∧
    (∃ (s : State) (scope : Nat) (nonce : Nat) (serial : Nat) (o : Bool) (v : Bool), (debugGranted scope nonce serial o v s.trust = true) ∧
      (scope = 3)) ∧
    (∃ (s : State), (bitAt (cfg s Reg.TRUST_TRUST_CTL) 0 = false)) ∧
    (∃ (s : State) (ifc : MgmtIf), (spdmServed ifc s = false)) ∧
    (∃ (s : State) (ifc : MgmtIf) (i : Nat), (spdmServed ifc s = true) ∧ (i ≠ 255)) ∧
    (∃ (s : State) (ifc : MgmtIf) (seq : Nat) (e : FbEntry), (spdmServed ifc s = true) ∧ (tget s.trust.entries seq = some e)) ∧
    (∃ (s : State) (req : Nat), (thas s.trust.sessions req = true) ∧ (s.trust.lifecycle = 1) ∧ (s.trust.ownerDigests = [])) ∧
    (∃ (s : State), (s.trust.lifecycle ≠ 1)) ∧
    (∃ (s : State) (req : Nat), (ownerSession s.trust req = true) ∧ (s.trust.ownerDigests ≠ []) ∧ (s.trust.ownerDigests.length < 4)) ∧
    (∃ (s : State) (req : Nat), (ownerSession s.trust req = false)) :=
  ⟨⟨up, by decide +kernel⟩,
   ⟨uVault { up.vault with accepted := true }, by decide +kernel⟩,
   ⟨uT { queue := [{ type := 9, body := [], cont := .nothing }] }, { type := 9, body := [], cont := .nothing }, [], by decide +kernel⟩,
   ⟨uT { queue := [{ type := 9, body := [], cont := .nothing }], devBad := [0, 1] }, { type := 9, body := [], cont := .nothing }, [], by decide +kernel⟩,
   ⟨uT { nextSeq := 7 }, by decide +kernel⟩,
   ⟨up, .management, by unfold MayWrite; decide +kernel⟩,
   ⟨{ uT { svn := [(7, 1)] } with sels := [(selKey .management Reg.TRUST_SVN_SEL, 7)] }, .management, by unfold MayWrite; decide +kernel⟩,
   ⟨{ uT { meas := [(8, { svn := 1 })] } with sels := [(selKey .management Reg.TRUST_SVN_SEL, 7)] }, .management, by unfold MayWrite; decide +kernel⟩,
   ⟨up, 7, 1, by decide +kernel⟩,
   ⟨uT { actState := 1 }, .management, 1, by unfold MayWrite; decide +kernel⟩,
   ⟨uT { slotB := { comps := [(6, { sigOk := false })] } }, .management, 6, 0, by unfold MayWrite; decide +kernel⟩,
   ⟨up, .management, by unfold MayWrite; decide +kernel⟩,
   ⟨up, by decide +kernel⟩,
   ⟨uT { actState := 2, actTodo := [2, 3] }, 2, [3], by decide +kernel⟩,
   ⟨uT { dbgFails := 8 }, by decide +kernel⟩,
   ⟨uT { dbgNonce := 4 }, 3, 4, Config.serialFuse, true, true, by exact ⟨by decide +kernel, by simp [debugGranted, uT, uTrust]; decide +kernel⟩⟩,
   ⟨uT { dbgNonce := 4 }, 3, 5, Config.serialFuse, true, true, by exact ⟨by decide +kernel, by simp [debugGranted, uT, uTrust]⟩⟩,
   ⟨uT { dbgNonce := 4 }, 3, 4, Config.serialFuse, true, true, by exact ⟨by (simp [debugGranted, uT, uTrust]; decide +kernel), rfl⟩⟩,
   ⟨conf Reg.TRUST_TRUST_CTL 0 0 up, by decide +kernel⟩,
   ⟨conf Reg.TRUST_TRUST_CTL 0 0 up, .mgmtPort, by decide +kernel⟩,
   ⟨up, .doe, 254, by decide +kernel⟩,
   ⟨uT { entries := [(3, { type := 9, seq := 3, bootCount := 0, time := 0, datumId := 0, ctrl := 0, paired := false, prevHash := 0, body := [] })] }, .doe, 3, { type := 9, seq := 3, bootCount := 0, time := 0, datumId := 0, ctrl := 0, paired := false, prevHash := 0, body := [] }, by decide +kernel⟩,
   ⟨uT { sessions := [(3, true)] }, 3, by decide +kernel⟩,
   ⟨uT { lifecycle := 2 }, by decide +kernel⟩,
   ⟨uT { sessions := [(3, true)], ownerDigests := [1, 2, 3] }, 3, by decide +kernel⟩,
   ⟨up, 3, by decide +kernel⟩⟩

/-- The hypotheses of each clause of `DatumCommandsRunTheirCourse` can be met. -/
theorem witness_DatumCommandsRunTheirCourse :
    (∃ (s : State) (p : Path), (datumCmdRuns s = true) ∧ (MayWrite p Reg.DATUM_DATUM_CMD s)) ∧
    (∃ (s : State) (p : Path) (r : Nat), (datumCmdRuns s = false) ∧ (MayWrite p Reg.DATUM_DATUM_CMD s) ∧ (commitRefusal s = some r)) ∧
    (∃ (s : State) (p : Path) (st : Staged) (page : Nat), (datumCmdRuns s = false) ∧ (MayWrite p Reg.DATUM_DATUM_CMD s) ∧ (commitRefusal s =
      none) ∧ (s.datum.staged = some st) ∧ (crossCheckPage s st.result = some page)) ∧
    (∃ (s : State) (p : Path) (st : Staged), (datumCmdRuns s = false) ∧ (MayWrite p Reg.DATUM_DATUM_CMD s) ∧ (commitRefusal s = none) ∧
      (s.datum.staged = some st) ∧ (crossCheckPage s st.result = none)) ∧
    (∃ (s : State) (p : Path), (datumCmdRuns s = false) ∧ (MayWrite p Reg.DATUM_DATUM_CMD s) ∧ (s.vault.accepted = false) ∧ (s.datum.confirmed =
      false)) ∧
    (∃ (s : State) (p : Path), (datumCmdRuns s = false) ∧ (MayWrite p Reg.DATUM_DATUM_CMD s) ∧ (s.vault.accepted = false) ∧ (s.datum.prev =
      none)) ∧
    (∃ (s : State) (p : Path) (d : Datum), (datumCmdRuns s = false) ∧ (MayWrite p Reg.DATUM_DATUM_CMD s) ∧ (s.vault.accepted = false) ∧
      (s.datum.prev = some d) ∧ (s.datum.active.sealed = true) ∧ (d.sealed = false)) ∧
    (∃ (s : State) (p : Path) (d : Datum), (datumCmdRuns s = false) ∧ (MayWrite p Reg.DATUM_DATUM_CMD s) ∧ (s.vault.accepted = false) ∧
      (s.datum.prev = some d) ∧ (s.datum.active.sealed = false)) ∧
    (∃ (s : State) (p : Path), (datumCmdRuns s = false) ∧ (MayWrite p Reg.DATUM_DATUM_CMD s) ∧ (s.datum.staged = none)) ∧
    (∃ (s : State) (p : Path), (datumCmdRuns s = false) ∧ (MayWrite p Reg.DATUM_DATUM_CMD s) ∧ (s.datum.staged ≠ none)) ∧
    (∃ (s : State) (p : Path), (datumCmdRuns s = false) ∧ (MayWrite p Reg.DATUM_DATUM_CMD s) ∧ (s.vault.accepted = false) ∧ (s.datum.confirmed =
      true) ∧ (s.datum.active.sealed = false)) ∧
    (∃ (s : State) (p : Path), (datumCmdRuns s = false) ∧ (MayWrite p Reg.DATUM_DATUM_CMD s) ∧ (s.vault.accepted = false) ∧ (s.datum.confirmed =
      false ∨ s.datum.active.sealed = true)) ∧
    (∃ (s : State) (p : Path), (datumCmdRuns s = false) ∧ (MayWrite p Reg.DATUM_DATUM_CMD s) ∧ (s.vault.accepted = true)) ∧
    (∃ (s : State) (d : Datum), (s.datum.prev = some d) ∧ (s.datum.confirmed = false) ∧ (datumCmdRuns s = false)) ∧
    (∃ (s : State), (s.datum.prev = none ∨ s.datum.confirmed = true ∨ datumCmdRuns s = true)) ∧
    (∃ (s : State), (s.datum.loading = false)) ∧
    (∃ (s : State), (s.datum.loading = true) ∧ (s.datum.platDone = false)) ∧
    (∃ (s : State), (s.datum.loading = true) ∧ (s.datum.platDone = true)) ∧
    (∃ (s : State), (s.datum.phase ≠ CommitPhase.armed ∨ netStill s = false)) ∧
    (∃ (s : State) (t : Datum), (s.datum.phase = CommitPhase.armed) ∧ (s.datum.target = some t) ∧ (netStill s = true) ∧ (s.datum.kind ≠
      ClosureKind.bankSwitch)) ∧
    (∃ (s : State) (t : Datum), (s.datum.phase = CommitPhase.armed) ∧ (s.datum.target = some t) ∧ (netStill s = true) ∧ (s.datum.kind =
      ClosureKind.bankSwitch)) ∧
    (∃ (s : State) (t : Datum), (s.datum.phase = CommitPhase.armed) ∧ (s.datum.target = some t) ∧ (netStill s = true) ∧ (s.datum.kind =
      ClosureKind.commit)) ∧
    (∃ (s : State) (t : Datum), (s.datum.phase = CommitPhase.armed) ∧ (s.datum.target = some t) ∧ (netStill s = true) ∧ (s.datum.kind =
      ClosureKind.revertManual ∨ s.datum.kind = ClosureKind.revertExpired)) ∧
    (∃ (s : State) (t : Datum), (s.datum.phase = CommitPhase.armed) ∧ (s.datum.target = some t) ∧ (netStill s = false) ∧ (s.datum.attempts < 15)) ∧
    (∃ (s : State) (t : Datum), (s.datum.phase = CommitPhase.armed) ∧ (s.datum.target = some t) ∧ (netStill s = false) ∧ (15 ≤ s.datum.attempts)
      ∧ (s.datum.kind ≠ ClosureKind.bankSwitch)) :=
  ⟨⟨uT { queue := [{ type := 4, body := [], cont := .datumSeal }] }, .management, by unfold MayWrite; decide +kernel⟩,
   ⟨up, .management, 2, by unfold MayWrite; decide +kernel⟩,
   ⟨stagedD ({ base := up.datum.active, changes := [(regKey Reg.CACHE_DIRTY_LIMIT_MIB 0, 63)] }), .management, { base := up.datum.active, changes := [(regKey Reg.CACHE_DIRTY_LIMIT_MIB 0, 63)] }, 0x22, by unfold MayWrite; decide +kernel⟩,
   ⟨stagedD ({ base := up.datum.active }), .management, { base := up.datum.active }, by unfold MayWrite; decide +kernel⟩,
   ⟨uDatum { up.datum with confirmed := false }, .management, by unfold MayWrite; decide +kernel⟩,
   ⟨up, .management, by unfold MayWrite; decide +kernel⟩,
   ⟨uDatum { up.datum with active := { sealed := true }, prev := some {} }, .management, {}, by unfold MayWrite; decide +kernel⟩,
   ⟨uDatum { up.datum with prev := some {} }, .management, {}, by unfold MayWrite; decide +kernel⟩,
   ⟨up, .management, by unfold MayWrite; decide +kernel⟩,
   ⟨uDatum { up.datum with staged := some {base := {}} }, .management, by unfold MayWrite; decide +kernel⟩,
   ⟨up, .management, by unfold MayWrite; decide +kernel⟩,
   ⟨uDatum { up.datum with confirmed := false }, .management, by unfold MayWrite; decide +kernel⟩,
   ⟨uVault { up.vault with accepted := true }, .management, by unfold MayWrite; decide +kernel⟩,
   ⟨uDatum { up.datum with prev := some {}, confirmed := false }, {}, by decide +kernel⟩,
   ⟨up, by decide +kernel⟩,
   ⟨up, by decide +kernel⟩,
   ⟨uDatum { up.datum with loading := true }, by decide +kernel⟩,
   ⟨uDatum { up.datum with loading := true, platDone := true }, by decide +kernel⟩,
   ⟨up, by decide +kernel⟩,
   ⟨uDatum { up.datum with phase := .armed, target := some {} }, {}, by decide +kernel⟩,
   ⟨uDatum { up.datum with phase := .armed, target := some {}, kind := .bankSwitch }, {}, by decide +kernel⟩,
   ⟨uDatum { up.datum with phase := .armed, target := some {} }, {}, by decide +kernel⟩,
   ⟨uDatum { up.datum with phase := .armed, target := some {}, kind := .revertManual }, {}, by decide +kernel⟩,
   ⟨{ uDatum { up.datum with phase := .armed, target := some {}, attempts := 14 } with net := { up.net with engines := [(0, eng)] } }, {}, by decide +kernel⟩,
   ⟨{ uDatum { up.datum with phase := .armed, target := some {}, attempts := 15 } with net := { up.net with engines := [(0, eng)] } }, {}, by decide +kernel⟩⟩

/-- The hypotheses of each clause of `RegisterWritesActByAccessType` can be met. -/
theorem witness_RegisterWritesActByAccessType :
    (∃ (page : Nat), (blockBase page = none)) ∧
    (∃ (s : State) (p : Path) (page : Nat), (blockBase page ≠ none) ∧ (p = Path.endpoint) ∧ (bitAt (cfg s Reg.TOP_TOP_CTL) 0 = false)) ∧
    (∃ (s : State) (p : Path) (page : Nat) (off : Nat), (blockBase page ≠ none) ∧ (p ≠ Path.endpoint ∨ bitAt (cfg s Reg.TOP_TOP_CTL) 0 = true) ∧
      (regRow (⟨page, off / 4 * 4⟩ : RegId) = none)) ∧
    (∃ (s : State) (p : Path) (page : Nat) (off : Nat) (row : RegRow), (blockBase page ≠ none) ∧ (p ≠ Path.endpoint ∨ bitAt (cfg s
      Reg.TOP_TOP_CTL) 0 = true) ∧ (regRow (⟨page, off / 4 * 4⟩ : RegId) = some row) ∧ (isChipletPage page = true) ∧ (256 ≤ (⟨page, off / 4 * 4⟩
      : RegId).off) ∧ (s.pwr.chipletLink = false)) ∧
    (∃ (s : State) (p : Path) (page : Nat) (off : Nat) (row : RegRow), (blockBase page ≠ none) ∧ (p ≠ Path.endpoint ∨ bitAt (cfg s
      Reg.TOP_TOP_CTL) 0 = true) ∧ (regRow (⟨page, off / 4 * 4⟩ : RegId) = some row) ∧ (isChipletPage page = false ∨ (⟨page, off / 4 * 4⟩ :
      RegId).off < 256 ∨ s.pwr.chipletLink = true) ∧ (row.acc = Acc.ro)) ∧
    (∃ (s : State) (p : Path) (page : Nat) (off : Nat) (row : RegRow), (blockBase page ≠ none) ∧ (p ≠ Path.endpoint ∨ bitAt (cfg s
      Reg.TOP_TOP_CTL) 0 = true) ∧ (regRow (⟨page, off / 4 * 4⟩ : RegId) = some row) ∧ (isChipletPage page = false ∨ (⟨page, off / 4 * 4⟩ :
      RegId).off < 256 ∨ s.pwr.chipletLink = true) ∧ (row.acc = Acc.rwd) ∧ (s.datum.active.sealed = true)) ∧
    (∃ (s : State) (p : Path) (page : Nat) (off : Nat) (row : RegRow), (blockBase page ≠ none) ∧ (p ≠ Path.endpoint ∨ bitAt (cfg s
      Reg.TOP_TOP_CTL) 0 = true) ∧ (regRow (⟨page, off / 4 * 4⟩ : RegId) = some row) ∧ (isChipletPage page = false ∨ (⟨page, off / 4 * 4⟩ :
      RegId).off < 256 ∨ s.pwr.chipletLink = true) ∧ (row.acc = Acc.rwd) ∧ (s.datum.active.sealed = false) ∧ (datumBusy s = true)) ∧
    (∃ (s : State) (p : Path) (page : Nat) (off : Nat) (be : Nat) (v : Nat) (row : RegRow), (blockBase page ≠ none) ∧ (p ≠ Path.endpoint ∨ bitAt
      (cfg s Reg.TOP_TOP_CTL) 0 = true) ∧ (regRow (⟨page, off / 4 * 4⟩ : RegId) = some row) ∧ (isChipletPage page = false ∨ (⟨page, off / 4 * 4⟩
      : RegId).off < 256 ∨ s.pwr.chipletLink = true) ∧ (row.acc = Acc.rwd) ∧ (s.datum.active.sealed = false) ∧ (datumBusy s = false) ∧ (rangeOk
      row (mergeBytes (be % 16) (stagedAt s (⟨page, off / 4 * 4⟩ : RegId) (pathIndex p (⟨page, off / 4 * 4⟩ : RegId) row s)) (v % 2 ^ 32) &&&
      row.mask ||| rstVal (⟨page, off / 4 * 4⟩ : RegId) (pathIndex p (⟨page, off / 4 * 4⟩ : RegId) row s) &&& 4294967295 - row.mask) = false ∨
      crossOk s (⟨page, off / 4 * 4⟩ : RegId) (pathIndex p (⟨page, off / 4 * 4⟩ : RegId) row s) (mergeBytes (be % 16) (stagedAt s (⟨page, off / 4
      * 4⟩ : RegId) (pathIndex p (⟨page, off / 4 * 4⟩ : RegId) row s)) (v % 2 ^ 32) &&& row.mask ||| rstVal (⟨page, off / 4 * 4⟩ : RegId)
      (pathIndex p (⟨page, off / 4 * 4⟩ : RegId) row s) &&& 4294967295 - row.mask) = false)) ∧
    (∃ (s : State) (p : Path) (page : Nat) (off : Nat) (be : Nat) (v : Nat) (row : RegRow), (blockBase page ≠ none) ∧ (p ≠ Path.endpoint ∨ bitAt
      (cfg s Reg.TOP_TOP_CTL) 0 = true) ∧ (regRow (⟨page, off / 4 * 4⟩ : RegId) = some row) ∧ (isChipletPage page = false ∨ (⟨page, off / 4 * 4⟩
      : RegId).off < 256 ∨ s.pwr.chipletLink = true) ∧ (row.acc = Acc.rwd) ∧ (s.datum.active.sealed = false) ∧ (datumBusy s = false) ∧ (rangeOk
      row (mergeBytes (be % 16) (stagedAt s (⟨page, off / 4 * 4⟩ : RegId) (pathIndex p (⟨page, off / 4 * 4⟩ : RegId) row s)) (v % 2 ^ 32) &&&
      row.mask ||| rstVal (⟨page, off / 4 * 4⟩ : RegId) (pathIndex p (⟨page, off / 4 * 4⟩ : RegId) row s) &&& 4294967295 - row.mask) = true) ∧
      (crossOk s (⟨page, off / 4 * 4⟩ : RegId) (pathIndex p (⟨page, off / 4 * 4⟩ : RegId) row s) (mergeBytes (be % 16) (stagedAt s (⟨page, off /
      4 * 4⟩ : RegId) (pathIndex p (⟨page, off / 4 * 4⟩ : RegId) row s)) (v % 2 ^ 32) &&& row.mask ||| rstVal (⟨page, off / 4 * 4⟩ : RegId)
      (pathIndex p (⟨page, off / 4 * 4⟩ : RegId) row s) &&& 4294967295 - row.mask) = true) ∧ ((⟨page, off / 4 * 4⟩ : RegId) ≠
      Reg.NSMGR_NS_DEADLINE)) ∧
    (∃ (s : State) (p : Path) (page : Nat) (off : Nat) (row : RegRow), (blockBase page ≠ none) ∧ (p ≠ Path.endpoint ∨ bitAt (cfg s
      Reg.TOP_TOP_CTL) 0 = true) ∧ (regRow (⟨page, off / 4 * 4⟩ : RegId) = some row) ∧ (isChipletPage page = false ∨ (⟨page, off / 4 * 4⟩ :
      RegId).off < 256 ∨ s.pwr.chipletLink = true) ∧ (row.acc = Acc.rw1c) ∧ ((⟨page, off / 4 * 4⟩ : RegId) ≠ Reg.SIDEBAND_QUAR_PRSNT) ∧ ((⟨page,
      off / 4 * 4⟩ : RegId) ≠ Reg.SIDEBAND_QUAR_IFDET) ∧ ((⟨page, off / 4 * 4⟩ : RegId) ≠ Reg.SIDEBAND_QUAR_ATTN)) ∧
    (∃ (s : State) (p : Path) (page : Nat) (off : Nat) (row : RegRow), (blockBase page ≠ none) ∧ (p ≠ Path.endpoint ∨ bitAt (cfg s
      Reg.TOP_TOP_CTL) 0 = true) ∧ (regRow (⟨page, off / 4 * 4⟩ : RegId) = some row) ∧ (isChipletPage page = false ∨ (⟨page, off / 4 * 4⟩ :
      RegId).off < 256 ∨ s.pwr.chipletLink = true) ∧ (row.acc = Acc.rws)) ∧
    (∃ (s : State) (p : Path) (page : Nat) (off : Nat) (row : RegRow), (blockBase page ≠ none) ∧ (p ≠ Path.endpoint ∨ bitAt (cfg s
      Reg.TOP_TOP_CTL) 0 = true) ∧ (regRow (⟨page, off / 4 * 4⟩ : RegId) = some row) ∧ (isChipletPage page = false ∨ (⟨page, off / 4 * 4⟩ :
      RegId).off < 256 ∨ s.pwr.chipletLink = true) ∧ (row.acc = Acc.sel)) ∧
    (∃ (s : State) (p : Path) (page : Nat) (off : Nat) (row : RegRow), (blockBase page ≠ none) ∧ (p ≠ Path.endpoint ∨ bitAt (cfg s
      Reg.TOP_TOP_CTL) 0 = true) ∧ (regRow (⟨page, off / 4 * 4⟩ : RegId) = some row) ∧ (isChipletPage page = false ∨ (⟨page, off / 4 * 4⟩ :
      RegId).off < 256 ∨ s.pwr.chipletLink = true) ∧ (row.acc = Acc.rw)) ∧
    (∃ (s : State) (p : Path) (page : Nat) (off : Nat) (row : RegRow), (blockBase page ≠ none) ∧ (p ≠ Path.endpoint ∨ bitAt (cfg s
      Reg.TOP_TOP_CTL) 0 = true) ∧ (regRow (⟨page, off / 4 * 4⟩ : RegId) = some row) ∧ (isChipletPage page = false ∨ (⟨page, off / 4 * 4⟩ :
      RegId).off < 256 ∨ s.pwr.chipletLink = true) ∧ (row.acc = Acc.rwl) ∧ (s.datum.active.sealed = true)) ∧
    (∃ (s : State) (p : Path) (page : Nat) (off : Nat) (row : RegRow), (blockBase page ≠ none) ∧ (p ≠ Path.endpoint ∨ bitAt (cfg s
      Reg.TOP_TOP_CTL) 0 = true) ∧ (regRow (⟨page, off / 4 * 4⟩ : RegId) = some row) ∧ (isChipletPage page = false ∨ (⟨page, off / 4 * 4⟩ :
      RegId).off < 256 ∨ s.pwr.chipletLink = true) ∧ (row.acc = Acc.wo) ∧ (MayWrite p (⟨page, off / 4 * 4⟩ : RegId) s)) :=
  ⟨⟨0xFFFF, by decide +kernel⟩,
   ⟨conf Reg.TOP_TOP_CTL 0 0 up, .endpoint, 0, by decide +kernel⟩,
   ⟨up, .security, 0, 0xFFFC, by decide +kernel⟩,
   ⟨uPwr { up.pwr with chipletLink := false }, .security, 0x48, 536, ⟨536, .rw1c, 0, 0xFFFFFFFF, 0, 0, []⟩, by decide +kernel⟩,
   ⟨up, .security, 0, 0x104, rowRo, by decide +kernel⟩,
   ⟨sealedSt, .security, 0, 0x100, rowTop, by decide +kernel⟩,
   ⟨uDatum { up.datum with loading := true }, .security, 0, 0x100, rowTop, by decide +kernel⟩,
   ⟨up, .security, 2, 300, 15, 79, rowRail, by decide +kernel⟩,
   ⟨up, .security, 2, 300, 15, 105, rowRail, by decide +kernel⟩,
   ⟨up, .security, 0x48, 536, ⟨536, .rw1c, 0, 0xFFFFFFFF, 0, 0, []⟩, by decide +kernel⟩,
   ⟨up, .security, 4, 308, ⟨308, .rws, 0, 65535, 0, 0, []⟩, by decide +kernel⟩,
   ⟨up, .security, 1, 332, ⟨332, .sel, 0, 4194303, 0, 0, []⟩, by decide +kernel⟩,
   ⟨up, .security, 3, 280, ⟨280, .rw, 0, 0xFFFFFFFF, 0, 0, []⟩, by decide +kernel⟩,
   ⟨sealedSt, .security, 1, 256, ⟨256, .rwl, 300, 0xFFFFFFFF, 0, 0, [⟨0, 32, 5, 3600, false⟩]⟩, by decide +kernel⟩,
   ⟨up, .security, 1, 288, ⟨288, .wo, 0, 0xFFFFFFFF, 0, 0, []⟩, by unfold MayWrite; decide +kernel⟩⟩

/-- The hypotheses of each clause of `VendorCommandsAndHeadsAct` can be met. -/
theorem witness_VendorCommandsAndHeadsAct :
    (∃ (s : State) (ifc : MgmtIf) (req : Nat), (vendorServed ifc req s = false)) ∧
    (∃ (s : State) (ifc : MgmtIf) (req : Nat) (off : Nat) (n : Nat), (vendorServed ifc req s = true) ∧ (windowRangeOk off n = false)) ∧
    (∃ (s : State) (ifc : MgmtIf) (req : Nat) (off : Nat) (n : Nat), (vendorServed ifc req s = true) ∧ (windowRangeOk off n = true)) ∧
    (∃ (s : State) (ifc : MgmtIf) (req : Nat), (vendorServed ifc req s = true) ∧ (vendorWriteOk ifc req s = false)) ∧
    (∃ (s : State) (ifc : MgmtIf) (req : Nat) (off : Nat) (data : List Nat), (vendorServed ifc req s = true) ∧ (vendorWriteOk ifc req s = true) ∧
      (windowRangeOk off data.length = true)) ∧
    (∃ (s : State) (ifc : MgmtIf) (req : Nat) (data : List Nat), (vendorServed ifc req s = true) ∧ (vendorWriteOk ifc req s = true) ∧ (data ≠ [])
      ∧ (data.length ≤ 1024) ∧ (s.datum.loading = true)) ∧
    (∃ (s : State) (ifc : MgmtIf) (req : Nat) (off : Nat) (data : List Nat), (vendorServed ifc req s = true) ∧ (vendorWriteOk ifc req s = true) ∧
      (data ≠ []) ∧ (data.length ≤ 1024) ∧ (s.datum.loading = false) ∧ (off ≠ 0) ∧ (off ≠ s.datum.platBytes.length)) ∧
    (∃ (s : State) (ifc : MgmtIf) (req : Nat) (data : List Nat), (vendorServed ifc req s = true) ∧ (vendorWriteOk ifc req s = true) ∧ (data ≠ [])
      ∧ (data.length ≤ 1024) ∧ (s.datum.loading = false) ∧ (s.datum.platDone = false)) ∧
    (∃ (s : State) (ifc : MgmtIf) (req : Nat) (len : Nat), (vendorServed ifc req s = true) ∧ (vendorWriteOk ifc req s = true) ∧ (len ≠
      s.datum.platBytes.length ∨ len = 0)) ∧
    (∃ (s : State) (ifc : MgmtIf) (req : Nat), (vendorServed ifc req s = true) ∧ (vendorWriteOk ifc req s = true) ∧ (s.datum.platBytes ≠ [])) ∧
    (∃ (s : State), (bitAt (cfg s Reg.TELEM_TELEM_CTL) 0 = false)) ∧
    (∃ (s : State), (bitAt (cfg s Reg.TELEM_TELEM_CTL) 0 = true) ∧ (∀ (i : Nat), i < 256 → bitAt (cfgAt s Reg.TELEM_SNAP_ADDR i) 0 = false)) ∧
    (∃ (s : State) (p : Path), (MayWrite p Reg.TELEM_TR_HEAD s)) ∧
    (∃ (s : State) (p : Path) (v : Nat), (MayWrite p Reg.EVT_Q_HEAD s) ∧ (v % 2 ^ 14 < qSize s (sel s p Reg.EVT_Q_SEL)) ∧ ((v % 2 ^ 14 + qSize s
      (sel s p Reg.EVT_Q_SEL) - (tgetD s.evt.queues (sel s p Reg.EVT_Q_SEL) { }).head % qSize s (sel s p Reg.EVT_Q_SEL)) % qSize s (sel s p
      Reg.EVT_Q_SEL) ≤ ((tgetD s.evt.queues (sel s p Reg.EVT_Q_SEL) { }).tail + qSize s (sel s p Reg.EVT_Q_SEL) - (tgetD s.evt.queues (sel s p
      Reg.EVT_Q_SEL) { }).head % qSize s (sel s p Reg.EVT_Q_SEL)) % qSize s (sel s p Reg.EVT_Q_SEL))) ∧
    (∃ (s : State) (p : Path) (v : Nat), (MayWrite p Reg.EVT_Q_HEAD s) ∧ (qSize s (sel s p Reg.EVT_Q_SEL) ≤ v % 2 ^ 14 ∨ ((tgetD s.evt.queues
      (sel s p Reg.EVT_Q_SEL) { }).tail + qSize s (sel s p Reg.EVT_Q_SEL) - (tgetD s.evt.queues (sel s p Reg.EVT_Q_SEL) { }).head % qSize s (sel
      s p Reg.EVT_Q_SEL)) % qSize s (sel s p Reg.EVT_Q_SEL) < (v % 2 ^ 14 + qSize s (sel s p Reg.EVT_Q_SEL) - (tgetD s.evt.queues (sel s p
      Reg.EVT_Q_SEL) { }).head % qSize s (sel s p Reg.EVT_Q_SEL)) % qSize s (sel s p Reg.EVT_Q_SEL))) ∧
    (∃ (s : State) (p : Path) (page : Nat) (i : Nat), (MayWrite p (Reg.HDR_EVT_FORCE page) s) ∧ (i < 32)) :=
  ⟨⟨conf Reg.TOP_TOP_CTL 0 0 up, .mgmtTarget, 3, by decide +kernel⟩,
   ⟨up, .mgmtTarget, 3, 2, 1, by decide +kernel⟩,
   ⟨up, .mgmtTarget, 3, 0xFFFF00, 64, by decide +kernel⟩,
   ⟨conf Reg.TELEM_TELEM_CTL 0 2 up, .mgmtTarget, 3, by decide +kernel⟩,
   ⟨conf Reg.TELEM_TELEM_CTL 0 0 up, .mgmtTarget, 3, 0xFFFF00, List.replicate 64 0, by decide +kernel⟩,
   ⟨conf Reg.TELEM_TELEM_CTL 0 0 (uDatum { up.datum with loading := true }), .mgmtTarget, 3, [1], by decide +kernel⟩,
   ⟨conf Reg.TELEM_TELEM_CTL 0 0 up, .mgmtTarget, 3, 4, [1], by decide +kernel⟩,
   ⟨conf Reg.TELEM_TELEM_CTL 0 0 up, .mgmtTarget, 3, List.replicate 1024 7, by decide +kernel⟩,
   ⟨conf Reg.TELEM_TELEM_CTL 0 0 up, .mgmtTarget, 3, 0, by decide +kernel⟩,
   ⟨conf Reg.TELEM_TELEM_CTL 0 0 (uDatum { up.datum with platBytes := [1] }), .mgmtTarget, 3, by decide +kernel⟩,
   ⟨conf Reg.TELEM_TELEM_CTL 0 0 up, by decide +kernel⟩,
   ⟨conf Reg.TELEM_TELEM_CTL 0 1 up, by decide +kernel⟩,
   ⟨up, .management, by unfold MayWrite; decide +kernel⟩,
   ⟨uEvt { up.evt with queues := [(0, { head := 5, tail := 6 })] }, .management, 6, by unfold MayWrite; decide +kernel⟩,
   ⟨up, .management, 1, by unfold MayWrite; decide +kernel⟩,
   ⟨up, .management, 0, 31, by unfold MayWrite; decide +kernel⟩⟩

/-- The hypotheses of each clause of `EventTimersAndManagementAct` can be met. -/
theorem witness_EventTimersAndManagementAct :
    (∃ (s : State), (s.evt.tokenDflt < cfg s Reg.TELEM_EVT_BURST)) ∧
    (∃ (s : State), (cfg s Reg.TELEM_EVT_BURST ≤ s.evt.tokenDflt)) ∧
    (∃ (s : State) (k : Nat) (n : Nat), (tget s.evt.tokens k = some n)) ∧
    (∃ (s : State) (code : Nat) (inst : Nat), (tget s.evt.suppressed (evSource code inst) = none)) ∧
    (∃ (s : State) (code : Nat) (inst : Nat) (n : Nat), (tget s.evt.suppressed (evSource code inst) = some n)) ∧
    (∃ (s : State) (fn : Nat) (vec : Nat), (¬vecKey fn vec ∈ s.evt.msixPend)) ∧
    (∃ (s : State) (fn : Nat) (vec : Nat), (vecKey fn vec ∈ s.evt.msixPend)) ∧
    (∃ (s : State) (ifc : MgmtIf) (req : Nat) (q : Nat) (n : Nat), (vendorServed ifc req s = true) ∧ (63 < q ∨ n = 0 ∨ 32 < n)) ∧
    (∃ (s : State) (ifc : MgmtIf) (req : Nat) (q : Nat) (n : Nat), (vendorServed ifc req s = true) ∧ (q ≤ 63) ∧ (1 ≤ n) ∧ (n ≤ 32)) ∧
    (∃ (s : State) (p : Path), (MayWrite p Reg.TELEM_SM_HEARTBEAT s)) ∧
    (∃ (s : State), (cfg s Reg.TELEM_SM_HB_S = 0)) ∧
    (∃ (s : State), (cfg s Reg.TELEM_SM_HB_S ≠ 0)) ∧
    (∃ (st : Nat), (st ≠ 0)) :=
  ⟨⟨conf Reg.TELEM_EVT_BURST 0 33 up, by decide +kernel⟩,
   ⟨conf Reg.TELEM_EVT_BURST 0 32 up, by decide +kernel⟩,
   ⟨uEvt { up.evt with tokens := [(3, 4)] }, 3, 4, by decide +kernel⟩,
   ⟨up, 0x0101, 0, by decide +kernel⟩,
   ⟨uEvt { up.evt with suppressed := [(evSource 0x0101 0, 4)] }, 0x0101, 0, 4, by decide +kernel⟩,
   ⟨up, 0, 4095, by decide +kernel⟩,
   ⟨uEvt { up.evt with msixPend := [vecKey 3 4095] }, 3, 4095, by decide +kernel⟩,
   ⟨up, .doe, 3, 64, 1, by decide +kernel⟩,
   ⟨up, .doe, 3, 63, 32, by decide +kernel⟩,
   ⟨up, .management, by unfold MayWrite; decide +kernel⟩,
   ⟨conf Reg.TELEM_SM_HB_S 0 0 up, by decide +kernel⟩,
   ⟨conf Reg.TELEM_SM_HB_S 0 5 up, by decide +kernel⟩,
   ⟨1, by decide +kernel⟩⟩

/-- The hypotheses of each clause of `ThePartnerIsJudgedByTable5` can be met. -/
theorem witness_ThePartnerIsJudgedByTable5 :
    (∃ (s : State), (Tables s) ∧ (inPair s = true)) ∧
    (∃ (s : State), (Tables s) ∧ (inPair s = false)) ∧
    (∃ (s : State) (lim : Nat) (mib : Nat) (hu : Nat), (Tables s) ∧ (s.zeb.lanes ≠ 0) ∧ (inPair s = true) ∧ (s.vault.partnerLimit = some lim) ∧
      (s.vault.partnerEffMib = mib) ∧ (s.vault.partnerHoldup = hu) ∧ (s.pair.sense = 2 ∨ s.pair.senseFault = true)) ∧
    (∃ (s : State) (lim : Nat) (mib : Nat) (hu : Nat), (Tables s) ∧ (s.zeb.lanes ≠ 0) ∧ (inPair s = true) ∧ (s.vault.partnerLimit = some lim) ∧
      (s.vault.partnerEffMib = mib) ∧ (s.vault.partnerHoldup = hu) ∧ (s.pair.sense ≠ 2) ∧ (s.pair.senseFault = false)) ∧
    (∃ (s : State), (Tables s) ∧ (s.pair.ranging = true) ∧ (s.pair.senseFault = false) ∧ (inPair s = true)) ∧
    (∃ (s : State), (Tables s) ∧ (s.pair.ranging = true) ∧ (s.pair.state = 3) ∧ (s.pair.sense = 2) ∧ (armed (wr Reg.PAIR_LAST_DETECT_US ((s.time
      - s.pair.lastRange) / 1000) { s with pair := { s.pair with ranging := false, detectUs := (s.time - s.pair.lastRange) / 1000 } }) = true)) ∧
    (∃ (s : State), (Tables s) ∧ (s.pair.ranging = true) ∧ (s.pair.state = 3) ∧ (s.pair.sense = 2) ∧ (armed (wr Reg.PAIR_LAST_DETECT_US ((s.time
      - s.pair.lastRange) / 1000) { s with pair := { s.pair with ranging := false, detectUs := (s.time - s.pair.lastRange) / 1000 } }) = false) ∧
      (s.pwr.ctrlId ≠ 1)) ∧
    (∃ (s : State), (Tables s) ∧ (s.pair.ranging = true) ∧ (s.pair.state = 3) ∧ (s.pair.sense = 2) ∧ (armed (wr Reg.PAIR_LAST_DETECT_US ((s.time
      - s.pair.lastRange) / 1000) { s with pair := { s.pair with ranging := false, detectUs := (s.time - s.pair.lastRange) / 1000 } }) = false) ∧
      (s.pwr.ctrlId = 1)) ∧
    (∃ (s : State), (Tables s) ∧ (s.pair.ranging = true) ∧ (s.pair.state = 3) ∧ (s.pair.sense ≠ 2) ∧ (armed (wr Reg.PAIR_LAST_DETECT_US ((s.time
      - s.pair.lastRange) / 1000) { s with pair := { s.pair with ranging := false, detectUs := (s.time - s.pair.lastRange) / 1000 } }) = true)) ∧
    (∃ (s : State), (Tables s) ∧ (s.pair.ranging = true) ∧ (s.pair.state = 3) ∧ (s.pair.sense ≠ 2) ∧ (armed (wr Reg.PAIR_LAST_DETECT_US ((s.time
      - s.pair.lastRange) / 1000) { s with pair := { s.pair with ranging := false, detectUs := (s.time - s.pair.lastRange) / 1000 } }) = false)) :=
  ⟨⟨{ uZeb { lanes := 0xFFFF, session := true } with pair := { state := 3 } }, by unfold Tables; decide +kernel⟩,
   ⟨up, by unfold Tables; decide +kernel⟩,
   ⟨{ uZeb { lanes := 0xFFFF, session := true } with pair := { state := 3, sense := 2 }, vault := { up.vault with partnerLimit := some 1, partnerEffMib := 2, partnerHoldup := 3 } }, 1, 2, 3, by unfold Tables; decide +kernel⟩,
   ⟨{ uZeb { lanes := 0xFFFF, session := true } with pair := { state := 3 }, vault := { up.vault with partnerLimit := some 1, partnerEffMib := 2, partnerHoldup := 3 } }, 1, 2, 3, by unfold Tables; decide +kernel⟩,
   ⟨{ uZeb { lanes := 0xFFFF, session := true } with pair := { state := 3, ranging := true } }, by unfold Tables; decide +kernel⟩,
   ⟨conf Reg.PAIR_PAIR_CTL 0 7 ({ uZeb { lanes := 0xFFFF, session := true } with pair := { state := 3, ranging := true, sense := 2 }, nvm := { up.nvm with nss := [(3, { ns3 with witness := true })] } }), by unfold Tables; decide +kernel⟩,
   ⟨{ uZeb { lanes := 0xFFFF, session := true } with pair := { state := 3, ranging := true, sense := 2 } }, by unfold Tables; decide +kernel⟩,
   ⟨{ uZeb { lanes := 0xFFFF, session := true } with pair := { state := 3, ranging := true, sense := 2 }, pwr := { up.pwr with ctrlId := 1 } }, by unfold Tables; decide +kernel⟩,
   ⟨conf Reg.PAIR_PAIR_CTL 0 7 ({ uZeb { lanes := 0xFFFF, session := true } with pair := { state := 3, ranging := true }, nvm := { up.nvm with nss := [(3, { ns3 with witness := true })] } }), by unfold Tables; decide +kernel⟩,
   ⟨{ uZeb { lanes := 0xFFFF, session := true } with pair := { state := 3, ranging := true } }, by unfold Tables; decide +kernel⟩⟩

/-- The hypotheses of each clause of `EndpointWritesNeedHostWrEn` can be met. -/
theorem witness_EndpointWritesNeedHostWrEn :
    (∃ (s : State) (page : Nat) (r : RegId) (i : Nat), (Tables s) ∧ (bitAt (cfg s Reg.TOP_TOP_CTL) 0 = false) ∧ (blockBase page ≠ none) ∧ (r.off
      < 65536) ∧ (i < 2 ^ 26) ∧ (r ≠ Reg.HDR_ERR_LAST page) ∧ (r ≠ Reg.HDR_ERR_LAST_TS page)) ∧
    (∃ (s : State) (c : Instr) (r : RegId), (Tables s) ∧ (bitAt (cfg s Reg.TOP_TOP_CTL) 0 = false) ∧ (pathWrite c = some (Path.endpoint, r)) ∧ (∀
      (bay : Nat), r = Reg.BAY_CMD bay → bay < 24)) ∧
    (∃ (s : State) (p : Path) (page : Nat) (off : Nat) (row : RegRow), (Tables s) ∧ (p ≠ Path.endpoint) ∧ (blockBase page ≠ none) ∧ (regRow
      (⟨page, off / 4 * 4⟩ : RegId) = some row) ∧ (isChipletPage page = false)) ∧
    (∃ (s : State) (v : Nat), (Tables s) ∧ (bitAt (cfg s Reg.TOP_TOP_CTL) 0 = true) ∧ (s.datum.active.sealed = false) ∧ (datumBusy s = false) ∧
      (v < 8) ∧ (bitAt v 0 = false)) :=
  ⟨⟨conf Reg.TOP_TOP_CTL 0 0 up, 0, Reg.TOP_TOP_CTL, 0x3FFFFFF, by unfold Tables; decide +kernel⟩,
   ⟨conf Reg.TOP_TOP_CTL 0 0 up, .datumCommit .endpoint, Reg.DATUM_DATUM_CMD, by exact ⟨⟨rfl, rfl, rfl⟩, by decide +kernel, rfl, fun bay h => absurd (congrArg RegId.page h) (by simp [Reg.DATUM_DATUM_CMD, Reg.BAY_CMD]; omega)⟩⟩,
   ⟨up, .security, 0, 0x104, rowRo, by unfold Tables; decide +kernel⟩,
   ⟨up, 6, by unfold Tables; decide +kernel⟩⟩

/-- The hypotheses of each clause of `ForcedEventsActOnNothing` can be met. -/
theorem witness_ForcedEventsActOnNothing :
    (∃ (s : State) (p : Path) (page : Nat) (i : Nat) (low : Nat), (MayWrite p (Reg.HDR_EVT_FORCE page) s) ∧ (i < 32) ∧ (low < 2 ^ i) ∧ (eventSev
      (page * 256 + i + 1) = none)) ∧
    (∃ (s : State) (p : Path) (page : Nat) (i : Nat) (low : Nat) (sev : Nat), (MayWrite p (Reg.HDR_EVT_FORCE page) s) ∧ (i < 32) ∧ (low < 2 ^ i)
      ∧ (eventSev (page * 256 + i + 1) = some sev) ∧ (2 ≤ sev)) :=
  ⟨⟨up, .management, 1, 31, 0, by unfold MayWrite; decide +kernel⟩,
   ⟨up, .management, 1, 2, 3, 2, by unfold MayWrite; decide +kernel⟩⟩

/-- The hypotheses of each clause of `RwdWritesAreStagedOrHeldOff` can be met. -/
theorem witness_RwdWritesAreStagedOrHeldOff :
    (∃ (s : State) (p : Path) (page : Nat) (off : Nat) (row : RegRow), (Tables s) ∧ (regRow (⟨page, off / 4 * 4⟩ : RegId) = some row) ∧ (row.acc
      = Acc.rwd) ∧ (blockBase page ≠ none) ∧ (p ≠ Path.endpoint ∨ bitAt (cfg s Reg.TOP_TOP_CTL) 0 = true) ∧ (isChipletPage page = false ∨ (⟨page,
      off / 4 * 4⟩ : RegId).off < 256 ∨ s.pwr.chipletLink = true) ∧ (s.datum.active.sealed = false) ∧ ((⟨page, off / 4 * 4⟩ : RegId) =
      Reg.NSMGR_NS_DEADLINE → s.slotActive (if row.sel = 0 then 0 else sel s p (⟨page, row.sel⟩ : RegId)) = true) ∧ (s.datum.phase ≠
      CommitPhase.idle ∨ s.datum.loading = true)) ∧
    (∃ (s : State) (p : Path) (page : Nat) (off : Nat) (be : Nat) (v : Nat) (row : RegRow) (old : Nat), (Tables s) ∧ (regRow (⟨page, off / 4 * 4⟩
      : RegId) = some row) ∧ (row.acc = Acc.rwd) ∧ (blockBase page ≠ none) ∧ (p ≠ Path.endpoint ∨ bitAt (cfg s Reg.TOP_TOP_CTL) 0 = true) ∧
      (isChipletPage page = false ∨ (⟨page, off / 4 * 4⟩ : RegId).off < 256 ∨ s.pwr.chipletLink = true) ∧ (s.datum.active.sealed = false) ∧
      ((⟨page, off / 4 * 4⟩ : RegId) = Reg.NSMGR_NS_DEADLINE → s.slotActive (if row.sel = 0 then 0 else sel s p (⟨page, row.sel⟩ : RegId)) =
      true) ∧ (s.datum.phase = CommitPhase.idle) ∧ (s.datum.loading = false) ∧ (s.datum.staged = none → old = cfgAt s (⟨page, off / 4 * 4⟩ :
      RegId) (if row.sel = 0 then 0 else sel s p (⟨page, row.sel⟩ : RegId))) ∧ (∀ (st : Staged), s.datum.staged = some st → old = tgetD
      st.changes (regKey (⟨page, off / 4 * 4⟩ : RegId) (if row.sel = 0 then 0 else sel s p (⟨page, row.sel⟩ : RegId))) (st.base.val (⟨page, off /
      4 * 4⟩ : RegId) (if row.sel = 0 then 0 else sel s p (⟨page, row.sel⟩ : RegId)))) ∧ ((rangeOk row (mergeBytes (be % 16) old (v % 2 ^ 32) &&&
      row.mask ||| rstVal (⟨page, off / 4 * 4⟩ : RegId) (if row.sel = 0 then 0 else sel s p (⟨page, row.sel⟩ : RegId)) &&& 4294967295 - row.mask)
      && crossOk s (⟨page, off / 4 * 4⟩ : RegId) (if row.sel = 0 then 0 else sel s p (⟨page, row.sel⟩ : RegId)) (mergeBytes (be % 16) old (v % 2
      ^ 32) &&& row.mask ||| rstVal (⟨page, off / 4 * 4⟩ : RegId) (if row.sel = 0 then 0 else sel s p (⟨page, row.sel⟩ : RegId)) &&& 4294967295 -
      row.mask)) = false)) ∧
    (∃ (s : State) (p : Path) (page : Nat) (off : Nat) (be : Nat) (v : Nat) (row : RegRow) (old : Nat), (Tables s) ∧ (regRow (⟨page, off / 4 * 4⟩
      : RegId) = some row) ∧ (row.acc = Acc.rwd) ∧ (blockBase page ≠ none) ∧ (p ≠ Path.endpoint ∨ bitAt (cfg s Reg.TOP_TOP_CTL) 0 = true) ∧
      (isChipletPage page = false ∨ (⟨page, off / 4 * 4⟩ : RegId).off < 256 ∨ s.pwr.chipletLink = true) ∧ (s.datum.active.sealed = false) ∧
      ((⟨page, off / 4 * 4⟩ : RegId) = Reg.NSMGR_NS_DEADLINE → s.slotActive (if row.sel = 0 then 0 else sel s p (⟨page, row.sel⟩ : RegId)) =
      true) ∧ (s.datum.phase = CommitPhase.idle) ∧ (s.datum.loading = false) ∧ (s.datum.staged = none → old = cfgAt s (⟨page, off / 4 * 4⟩ :
      RegId) (if row.sel = 0 then 0 else sel s p (⟨page, row.sel⟩ : RegId))) ∧ (∀ (st : Staged), s.datum.staged = some st → old = tgetD
      st.changes (regKey (⟨page, off / 4 * 4⟩ : RegId) (if row.sel = 0 then 0 else sel s p (⟨page, row.sel⟩ : RegId))) (st.base.val (⟨page, off /
      4 * 4⟩ : RegId) (if row.sel = 0 then 0 else sel s p (⟨page, row.sel⟩ : RegId)))) ∧ ((rangeOk row (mergeBytes (be % 16) old (v % 2 ^ 32) &&&
      row.mask ||| rstVal (⟨page, off / 4 * 4⟩ : RegId) (if row.sel = 0 then 0 else sel s p (⟨page, row.sel⟩ : RegId)) &&& 4294967295 - row.mask)
      && crossOk s (⟨page, off / 4 * 4⟩ : RegId) (if row.sel = 0 then 0 else sel s p (⟨page, row.sel⟩ : RegId)) (mergeBytes (be % 16) old (v % 2
      ^ 32) &&& row.mask ||| rstVal (⟨page, off / 4 * 4⟩ : RegId) (if row.sel = 0 then 0 else sel s p (⟨page, row.sel⟩ : RegId)) &&& 4294967295 -
      row.mask)) = true)) :=
  ⟨⟨uDatum { up.datum with loading := true }, .security, 0, 0x100, rowTop, by unfold Tables; decide +kernel⟩,
   ⟨up, .security, 2, 300, 15, 79, rowRail, 100, by exact ⟨⟨rfl, rfl, rfl⟩, rfl, rfl, by decide +kernel, by decide +kernel, by decide +kernel, rfl, fun h => absurd h (by decide +kernel), rfl, rfl, fun _ => by decide +kernel, fun st h => (nomatch h), by decide +kernel⟩⟩,
   ⟨up, .security, 2, 300, 15, 105, rowRail, 100, by exact ⟨⟨rfl, rfl, rfl⟩, rfl, rfl, by decide +kernel, by decide +kernel, by decide +kernel, rfl, fun h => absurd h (by decide +kernel), rfl, rfl, fun _ => by decide +kernel, fun st h => (nomatch h), by decide +kernel⟩⟩⟩

/-- The hypotheses of each clause of `QHeadMovesForwardToTheTail` can be met. -/
theorem witness_QHeadMovesForwardToTheTail :
    (∃ (s : State) (p : Path) (d : Nat) (q' : Nat), (Tables s) ∧ (trising s.evt.queues = true) ∧ (MayWrite p Reg.EVT_Q_HEAD s) ∧ (d ≤ ((tgetD
      s.evt.queues (sel s p Reg.EVT_Q_SEL) { }).tail + qSize s (sel s p Reg.EVT_Q_SEL) - (tgetD s.evt.queues (sel s p Reg.EVT_Q_SEL) { }).head) %
      qSize s (sel s p Reg.EVT_Q_SEL)) ∧ (d ≤ (tgetD s.evt.queues (sel s p Reg.EVT_Q_SEL) { }).recs.length) ∧ ((tgetD s.evt.queues (sel s p
      Reg.EVT_Q_SEL) { }).head < qSize s (sel s p Reg.EVT_Q_SEL)) ∧ ((tgetD s.evt.queues (sel s p Reg.EVT_Q_SEL) { }).tail < qSize s (sel s p
      Reg.EVT_Q_SEL)) ∧ (qSize s (sel s p Reg.EVT_Q_SEL) ≤ 2 ^ 14) ∧ (q' ≠ sel s p Reg.EVT_Q_SEL)) ∧
    (∃ (s : State) (p : Path) (v : Nat), (Tables s) ∧ (trising s.evt.queues = true) ∧ (MayWrite p Reg.EVT_Q_HEAD s) ∧ (qSize s (sel s p
      Reg.EVT_Q_SEL) ≤ v % 2 ^ 14 ∨ ((tgetD s.evt.queues (sel s p Reg.EVT_Q_SEL) { }).tail + qSize s (sel s p Reg.EVT_Q_SEL) - (tgetD
      s.evt.queues (sel s p Reg.EVT_Q_SEL) { }).head % qSize s (sel s p Reg.EVT_Q_SEL)) % qSize s (sel s p Reg.EVT_Q_SEL) < (v % 2 ^ 14 + qSize s
      (sel s p Reg.EVT_Q_SEL) - (tgetD s.evt.queues (sel s p Reg.EVT_Q_SEL) { }).head % qSize s (sel s p Reg.EVT_Q_SEL)) % qSize s (sel s p
      Reg.EVT_Q_SEL))) ∧
    (∃ (s : State) (p : Path) (ifc : MgmtIf) (req : Nat) (k : Nat), (Tables s) ∧ (trising s.evt.queues = true) ∧ (MayWrite p Reg.EVT_Q_HEAD s) ∧
      (vendorServed ifc req s = true) ∧ (sel s p Reg.EVT_Q_SEL ≤ 63) ∧ (1 ≤ k) ∧ (k ≤ 32)) :=
  ⟨⟨uEvt { up.evt with queues := [(0, { recs := [{ code := 0x0101, sev := 0, ctrl := 0, inst := 0, seq := 0, time := 0, detail := [] }], head := 1023, tail := 0 })] }, .management, 1, 1, by unfold MayWrite Tables; decide +kernel⟩,
   ⟨up, .management, 1, by unfold MayWrite Tables; decide +kernel⟩,
   ⟨up, .management, .doe, 3, 32, by unfold MayWrite Tables; decide +kernel⟩⟩

/-- The hypotheses of each clause of `ATraverseDrawsOneNumberInEach` can be met. -/
theorem witness_ATraverseDrawsOneNumberInEach :
    (∃ (s : State) (t : Nat) (v : Trav) (sl : Nat), (travAt s t = some v) ∧ (v.state = TravState.staging) ∧ (∀ (k : Nat), k ∈ travKeys v → thas
      v.staged k = true) ∧ (v.mseqs = []) ∧ (v.slots.Nodup) ∧ (∀ (sl : Nat), sl ∈ v.slots → ownsSlot s sl = true ∧ mayStamp s sl = true) ∧ (∀ (sl
      : Nat), sl ∈ v.slots → ∀ (n : Ns), nsAt s sl = some n → inPair s = true → n.adm + 1 ≤ n.lease) ∧ (¬sl ∈ v.slots)) ∧
    (∃ (s : State) (t : Nat) (v : Trav) (sl : Nat), (travAt s t = some v) ∧ (v.state = TravState.staging) ∧ (∀ (k : Nat), k ∈ travKeys v → thas
      v.staged k = true) ∧ (v.mseqs = []) ∧ (v.slots.Nodup) ∧ (∀ (sl : Nat), sl ∈ v.slots → ownsSlot s sl = true ∧ mayStamp s sl = true) ∧ (∀ (sl
      : Nat), sl ∈ v.slots → ∀ (n : Ns), nsAt s sl = some n → inPair s = true → n.adm + 1 ≤ n.lease) ∧ (sl ∈ v.slots)) :=
  ⟨⟨uTrav { up.trav with open_ := [(1, { ctx := 7, host := 5, subsys := 1, travId := 5, ndesc := 0, len := 64, state := .staging, slots := [3] })] }, 1, { ctx := 7, host := 5, subsys := 1, travId := 5, ndesc := 0, len := 64, state := .staging, slots := [3] }, 4, by exact ⟨rfl, rfl, fun k h => (nomatch h), rfl, by decide +kernel, by decide +kernel, fun sl _ n _ h => absurd h (by decide +kernel), by decide +kernel⟩⟩,
   ⟨uTrav { up.trav with open_ := [(1, { ctx := 7, host := 5, subsys := 1, travId := 5, ndesc := 0, len := 64, state := .staging, slots := [3] })] }, 1, { ctx := 7, host := 5, subsys := 1, travId := 5, ndesc := 0, len := 64, state := .staging, slots := [3] }, 3, by exact ⟨rfl, rfl, fun k h => (nomatch h), rfl, by decide +kernel, by decide +kernel, fun sl _ n _ h => absurd h (by decide +kernel), by decide +kernel⟩⟩⟩

end Sys2Proof.Tests
end

section
/-!
PROOF. The faults that stop service (O8): what each leaves of the power unit, from the masks of Laws/Keeps and the facts about a FATAL.
-/
namespace Sys2Proof.Machine

/-- The state that a meaning answers has every part outside its mask as it was. -/
theorem KeepsR.stands {M : Nat} {s t : State} {r : Res} {ps : List Part} (k : KeepsR M s r) (e : r = .next t)
    (h : ps.all (fun p => !M.testBit p.bit) = true) : Stands ps s t := by
  obtain ⟨u, rfl, hu⟩ := k
  cases e
  exact hu.stands h

/-- The state that a meaning answers differs in the parts of its mask only. -/
theorem KeepsR.only {M : Nat} {s t : State} {r : Res} {ps : List Part} (k : KeepsR M s r) (e : r = .next t)
    (h : Part.all.all (fun p => ps.contains p || !M.testBit p.bit) = true) : OnlyParts ps s t := by
  obtain ⟨u, rfl, hu⟩ := k
  cases e
  exact hu.only h

/-! ### Links -/

/-- A list of network groups going down changes the registers, the driven outputs, the events, the endpoint and the network only. -/
theorem netGroupsDown_keeps {gs : List Nat} {f : Nat → Nat} {s : State} :
    Keeps 2359369 s (gs.foldl (fun s g => netGroupDown (f g) s) s) :=
  Keeps.foldl (Keeps.refl _ _) fun _ _ k => Keeps.step netGroupDown_keeps rfl k

@[simp] theorem netGroupsDown_pwr (gs : List Nat) (s : State) : (gs.foldl (fun s g => netGroupDown g s) s).pwr = s.pwr :=
  (netGroupsDown_keeps (f := id)).pwr rfl

@[simp] theorem netGroupsDown_vault (gs : List Nat) (s : State) : (gs.foldl (fun s g => netGroupDown g s) s).vault = s.vault :=
  (netGroupsDown_keeps (f := id)).vault rfl

@[simp] theorem chipletFreeze_pwr (s : State) : (chipletFreeze s).pwr = s.pwr := chipletFreeze_keeps.pwr rfl

@[simp] theorem zebLost_pwr (s : State) : (zebLost s).pwr = s.pwr := zebLost_keeps.pwr rfl

/-- The end of a join leaves an accepted power failure accepted. -/
theorem joinAbort_accepted (s : State) : (joinAbort s).vault.accepted = s.vault.accepted := by
  unfold joinAbort
  split
  · rfl
  · split
    · rw [resumeDeferred_keeps.vault rfl, mirrorsOver_keeps.vault rfl]
      simp [zebClear]
    · simp [zebClear]

@[simp] theorem zebLost_accepted (s : State) : (zebLost s).vault.accepted = s.vault.accepted := by
  unfold zebLost
  split
  · rfl
  · simp [joinAbort_accepted]

/-! ### Power states of the faults -/

/-- The chiplet link reads down and service has stopped (R7). -/
theorem chipletLinkFailOp_pwr (s : State) : (chipletLinkFailOp s).pwr = { s.pwr with
    chipletLink := false, fatal := true, fatalCode := 0x0205, admitStop := true, serving := false } := by
  simp [chipletLinkFailOp, fatalEvent_pwr]

theorem chipletLinkFailOp_stopped (s : State) : Stopped 0x0205 (chipletLinkFailOp s) := by
  rw [Stopped, chipletLinkFailOp_pwr]
  exact ⟨rfl, rfl, rfl, rfl⟩

/-- The crystal is noted and service has stopped on the backup oscillator (R404). -/
theorem crystalFailOp_pwr (s : State) : (crystalFailOp s).pwr = { s.pwr with
    xtalBackup := true, refBad := (4 :: s.pwr.refBad).eraseDups
    fatal := true, fatalCode := 0x0303, admitStop := true, serving := false } := by
  simp [crystalFailOp, fatalEvent_pwr]

theorem crystalFailOp_stopped (s : State) : Stopped 0x0303 (crystalFailOp s) := by
  rw [Stopped, crystalFailOp_pwr]
  exact ⟨rfl, rfl, rfl, rfl⟩

/-- A rail out of tolerance is counted, marked bad and its voltage kept, before anything stops (R400). -/
def railNoted (rail mv : Nat) (s : State) : State :=
  let u := bump Reg.PWR_RAIL_FAULTS s
  wrAt Reg.PWR_RAIL_MV rail mv { u with pwr := { u.pwr with railsBad := (rail :: u.pwr.railsBad).eraseDups } }

@[simp] theorem railNoted_pwr (rail mv : Nat) (s : State) :
    (railNoted rail mv s).pwr = { s.pwr with railsBad := (rail :: s.pwr.railsBad).eraseDups } := by
  simp [railNoted]

@[simp] theorem railNoted_vault (rail mv : Nat) (s : State) : (railNoted rail mv s).vault = s.vault := by
  simp [railNoted]

/-- Both HBM stacks are taken out and a cold reset is needed, before the FATAL of a low `VDD_IO`. -/
def stacksOut (s : State) : State :=
  { s with arch := { s.arch with hbmBad := [0, 1] }, pwr := { s.pwr with needCold := true } }

/-- The three ways a rail fault ends (R400): the chiplet link, the HBM stacks, or a FATAL of its own. -/
theorem execRailFault_eq (rail mv : Nat) (s : State) : execRailFault rail mv s = .next (
    if rail = 7 then chipletLinkFailOp (railNoted rail mv s)
    else if rail = 6 ∧ mv < 1600 then
      fatalEvent 0x5801 [0] false (stacksOut (raise 0x0202 (rail :: leBytes 2 mv) (railNoted rail mv s)))
    else fatalEvent 0x0202 (rail :: leBytes 2 mv) true (railNoted rail mv s)) := by
  rw [apply_ite Host.Outcome.next, apply_ite Host.Outcome.next]
  rfl

/-! ### The system reference (R20, R403) -/

/-- The FATAL that the loss of `REFCLK_SYS` raises, its three families already down. -/
def refSysFatal (ppm : Nat) (s : State) : State :=
  fatalEvent 0x0301 (0 :: leBytes 2 ppm) false { s with
    pwr := { s.pwr with famDown := [2, 3, 4, 5], relocked := true, needCold := true, admitStop := true } }

/-- The other families relock to the crystal and the vault is written, or they stop too. -/
def refSysRelock (s : State) : State :=
  if s.pwr.refBad.contains 4 ∨ s.pwr.xtalBackup then famStop s
  else if (acceptPower 2 s).vault.dumpDone then famStop (acceptPower 2 s) else acceptPower 2 s

theorem refSysLost_eq (ppm : Nat) (s : State) : refSysLost ppm s =
    surpriseRemoval 0 (zebLost ((List.range 8).foldl (fun s g => netGroupDown g s) (refSysRelock (refSysFatal ppm s)))) := rfl

/-- The power unit under that FATAL. -/
def refSysStopped (p : PwrSt) : PwrSt :=
  { p with famDown := [2, 3, 4, 5], relocked := true, needCold := true
           fatal := true, fatalCode := 0x0301, admitStop := true, serving := false }

theorem refSysFatal_pwr (ppm : Nat) (s : State) : (refSysFatal ppm s).pwr = refSysStopped s.pwr := by
  simp [refSysFatal, fatalEvent_pwr, refSysStopped]

/-- A power failure that a FATAL or a reset accepts once service has stopped leaves the power unit as it is. -/
theorem acceptPower_pwr_of_stopped {s : State} (h : s.pwr.serving = false) : (acceptPower 2 s).pwr = s.pwr := by
  rw [acceptPower_pwr]
  split
  · rfl
  · simp only [bne_self_eq_false, Bool.false_and, Bool.or_false]
    rw [← h]

/-- Once service has stopped, relocking stops every family or none: all of them without a crystal. -/
theorem refSysRelock_pwr {s : State} (h : s.pwr.serving = false) :
    (refSysRelock s).pwr = { s.pwr with famDown := [0, 1, 2, 3, 4, 5, 6, 7, 8], relocked := false } ∨
    (refSysRelock s).pwr = s.pwr ∧ 4 ∉ s.pwr.refBad ∧ s.pwr.xtalBackup = false := by
  unfold refSysRelock
  have hp := acceptPower_pwr_of_stopped h
  split
  · exact .inl rfl
  · next hx =>
    split
    · exact .inl (by rw [famStop, hp])
    · exact .inr ⟨hp, by simpa using hx⟩

/-- With a crystal to relock to, the vault is written whatever `FATAL_DUMP_EN`. -/
theorem refSysRelock_accepted {s : State} (h4 : 4 ∉ s.pwr.refBad) (hx : s.pwr.xtalBackup = false) :
    (refSysRelock s).vault.accepted = true := by
  unfold refSysRelock
  rw [if_neg (by simp [h4, hx])]
  split <;> exact acceptPower_accepted 2 s

/-- The power unit after the loss of `REFCLK_SYS`: all families are down, or the crystal was there to relock to. -/
theorem refSysLost_pwr (ppm : Nat) (s : State) :
    (refSysLost ppm s).pwr = { refSysStopped s.pwr with famDown := [0, 1, 2, 3, 4, 5, 6, 7, 8], relocked := false } ∨
    (refSysLost ppm s).pwr = refSysStopped s.pwr ∧ 4 ∉ s.pwr.refBad ∧ s.pwr.xtalBackup = false := by
  have hp := refSysFatal_pwr ppm s
  have h := refSysRelock_pwr (s := refSysFatal ppm s) (by rw [hp]; rfl)
  rw [hp] at h
  rw [refSysLost_eq, surpriseRemoval_pwr, zebLost_pwr, netGroupsDown_pwr]
  exact h

theorem refSysLost_stopped (ppm : Nat) (s : State) : Stopped 0x0301 (refSysLost ppm s) := by
  obtain hp | ⟨hp, -⟩ := refSysLost_pwr ppm s <;> rw [Stopped, hp] <;> exact ⟨rfl, rfl, rfl, rfl⟩

/-- It takes a cold reset to end, and the references noted as bad stand. -/
theorem refSysLost_noted (ppm : Nat) (s : State) :
    (refSysLost ppm s).pwr.needCold = true ∧ (refSysLost ppm s).pwr.refBad = s.pwr.refBad := by
  obtain hp | ⟨hp, -⟩ := refSysLost_pwr ppm s <;> rw [hp] <;> exact ⟨rfl, rfl⟩

theorem refSysLost_famDown (ppm : Nat) (s : State) : (refSysLost ppm s).pwr.famDown = [0, 1, 2, 3, 4, 5, 6, 7, 8] ∨
    (refSysLost ppm s).pwr.famDown = [2, 3, 4, 5] ∧ 4 ∉ s.pwr.refBad ∧ s.pwr.xtalBackup = false :=
  (refSysLost_pwr ppm s).imp (fun hp => by rw [hp]) fun ⟨hp, h⟩ => ⟨by rw [hp]; rfl, h⟩

theorem refSysLost_accepted {ppm : Nat} {s : State} (h4 : 4 ∉ s.pwr.refBad) (hx : s.pwr.xtalBackup = false) :
    (refSysLost ppm s).vault.accepted = true := by
  have h : (refSysRelock (refSysFatal ppm s)).vault.accepted = true :=
    refSysRelock_accepted (by rwa [refSysFatal_pwr]) (by rwa [refSysFatal_pwr])
  simpa [refSysLost_eq] using h

/-- `REFCLK_SYS` found out of tolerance is counted and noted before anything stops (R403). -/
def refNoted (ref ppm : Nat) (s : State) : State :=
  wrAt Reg.CLK_REF_PPM ref (ofSigned 32 (toSigned 16 ppm)) (bump Reg.CLK_REF_FAULTS
    { s with pwr := { s.pwr with refBad := (ref :: s.pwr.refBad).eraseDups } })

@[simp] theorem refNoted_pwr (ref ppm : Nat) (s : State) :
    (refNoted ref ppm s).pwr = { s.pwr with refBad := (ref :: s.pwr.refBad).eraseDups } := by
  simp [refNoted]

/-- What an out of tolerance reference other than the crystal does, by the reference (R403). -/
theorem execRefclkOutOfTolerance_eq {ref ppm : Nat} {s : State} (hn : ref ∉ s.pwr.refBad) (h4 : ref ≠ 4) :
    execRefclkOutOfTolerance ref ppm s = .next (
      let u := refNoted ref ppm s
      if ref = 0 then refSysLost ppm u
      else if ref = 1 then
        raiseSev 0x0301 2 (1 :: leBytes 2 ppm) ((List.range 4).foldl (fun s g => netGroupDown g s)
          { u with pwr := { u.pwr with famDown := (2 :: u.pwr.famDown).eraseDups } })
      else if ref = 2 then
        raiseSev 0x0301 2 (2 :: leBytes 2 ppm) ((List.range 4).foldl (fun s g => netGroupDown (g + 4) s)
          { u with pwr := { u.pwr with famDown := (3 :: u.pwr.famDown).eraseDups } })
      else
        raiseSev 0x0301 2 (3 :: leBytes 2 ppm) (surpriseRemoval 0
          { u with pwr := { u.pwr with famDown := (5 :: u.pwr.famDown).eraseDups } })) := by
  unfold execRefclkOutOfTolerance
  rw [if_neg (by simpa using hn), if_neg h4]
  simp only [apply_ite Host.Outcome.next]
  rfl

/-! ### Engines and temperature -/

theorem mem_enginesOut_removeEngine (k : EngineKind) (e : Nat) (a : ArchSt) : e ∈ enginesOut k (removeEngine k e a) := by
  cases k <;> exact List.mem_cons_self

/-- A failed engine is removed and reported, and its work restarts elsewhere, before a last one stops service (R11, R12). -/
def engineRemoved (k : EngineKind) (i e : Nat) (s : State) : State :=
  let u := raise 0x060E [k.code, i, 1] { s with arch := removeEngine k e s.arch }
  if k = .parse then engineOut e (raise ((if i < 32 ∨ i = 64 ∨ i = 65 then 0x10 else 0x11) * 256 + 1) [i] u) else u

@[simp] theorem engineRemoved_arch (k : EngineKind) (i e : Nat) (s : State) :
    (engineRemoved k i e s).arch = removeEngine k e s.arch := by
  unfold engineRemoved
  split
  · simp [engineOut_keeps.arch rfl]
  · simp

theorem execEngineRuntimeFail_eq {k : EngineKind} {i e : Nat} {s : State} (hh : engineHolds k i s.arch = some e)
    (hn : e ∉ enginesOut k s.arch) : execEngineRuntimeFail k i s = .next (
      if lastOfKind k (removeEngine k e s.arch) then fatalEvent 0x060F [k.code] true (engineRemoved k i e s)
      else engineRemoved k i e s) := by
  rw [← engineRemoved_arch k i e s]
  unfold execEngineRuntimeFail
  rw [hh]
  simp only [List.contains_eq_mem, hn, decide_false, Bool.false_eq_true, if_false]
  rfl

/-- The thermal trip's power unit (R400, R467). -/
theorem execThermalTrip_pwr {sensor temp : Nat} {s t : State} (e : execThermalTrip sensor temp s = .next t) :
    t.pwr = { s.pwr with
      thermtrip := true, needCold := true, enginesStopped := true
      fatal := true, fatalCode := 0x0204, admitStop := true, serving := false } := by
  cases e
  simp [fatalEvent_pwr, noteTemp]

/-- Settles O8: each fault ends in a FATAL, which stops service, and what else it does is read off its power unit and its mask. -/
theorem fatalFaultsStopService : Obligations.FatalFaultsStopService := by
  intro s
  refine ⟨?chiplet, fun k => ?stack, ?lockstep, fun hx => ?crystal, fun rail mv => ?rail, fun sensor temp => ?trip, fun ppm hn => ?ref,
    fun k i e hh hn => ?engine⟩
  case chiplet =>
    exact ⟨_, rfl, chipletLinkFailOp_stopped s, by rw [chipletLinkFailOp_pwr], execChipletLinkFail_keeps.stands rfl rfl⟩
  case stack =>
    exact ⟨_, rfl, fatalEvent_stopped .., by rw [fatalEvent_pwr], by simp, fatalEvent_nodump ..,
      execHbmStackFault_keeps.stands rfl rfl⟩
  case lockstep =>
    exact ⟨_, rfl, fatalEvent_stopped .., by rw [fatalEvent_pwr], by simp, fatalEvent_nodump ..,
      execLockstepDisagree_keeps.stands rfl rfl⟩
  case crystal =>
    have e : execCrystalFail s = .next (crystalFailOp s) := by simp [execCrystalFail, hx]
    exact ⟨_, e, crystalFailOp_stopped s, by rw [crystalFailOp_pwr], by simp [crystalFailOp_pwr], execCrystalFail_keeps.stands e rfl⟩
  case rail =>
    have e := execRailFault_eq rail mv s
    refine ⟨_, e, ?_, execRailFault_keeps.stands e rfl, fun h7 => ?_, fun h6 hmv => ?_, fun h7 h6 => ?_⟩
    · split
      · simp [chipletLinkFailOp_pwr]
      · split <;> simp [fatalEvent_pwr, stacksOut]
    · rw [if_pos h7]
      exact ⟨chipletLinkFailOp_stopped _, by rw [chipletLinkFailOp_pwr]⟩
    · rw [if_neg (by omega), if_pos ⟨h6, hmv⟩]
      exact ⟨fatalEvent_stopped .., by simp [fatalEvent_pwr, stacksOut], by simp [stacksOut], by simp [fatalEvent_nodump, stacksOut]⟩
    · rw [if_neg h7, if_neg h6]
      exact fatalEvent_stopped ..
  case trip =>
    obtain ⟨t, e, k⟩ := execThermalTrip_keeps (a0 := sensor) (a1 := temp) (s := s)
    have hp := execThermalTrip_pwr e
    exact ⟨t, e, by simp [Stopped, hp], by rw [hp], by rw [hp], by rw [hp], k.stands rfl⟩
  case ref =>
    have e : execRefclkOutOfTolerance 0 ppm s = .next (refSysLost ppm (refNoted 0 ppm s)) := by
      rw [execRefclkOutOfTolerance_eq hn (by decide)]
      simp only [if_true]
    obtain ⟨hc, hb⟩ := refSysLost_noted ppm (refNoted 0 ppm s)
    have hf := refSysLost_famDown ppm (refNoted 0 ppm s)
    refine ⟨_, e, refSysLost_stopped .., hc, by simp [hb], fun f hm => ?_, fun hx => ?_,
      fun h4 hx => refSysLost_accepted (by simpa using h4) (by simpa using hx), execRefclkOutOfTolerance_keeps.stands e rfl⟩
    · obtain hf | ⟨hf, -⟩ := hf <;> rw [hf]
      · exact (by decide : ∀ f ∈ [2, 3, 4, 5], f ∈ [0, 1, 2, 3, 4, 5, 6, 7, 8]) f hm
      · exact hm
    · obtain hf | ⟨-, h4, hn⟩ := hf
      · exact hf
      · simp_all
  case engine =>
    have he := execEngineRuntimeFail_eq hh hn
    have ha : (if lastOfKind k (removeEngine k e s.arch) then fatalEvent 0x060F [k.code] true (engineRemoved k i e s)
      else engineRemoved k i e s).arch = removeEngine k e s.arch := by split <;> simp
    refine ⟨_, he, ha, ?_, fun hl => ?_, execEngineRuntimeFail_keeps.stands he rfl⟩
    · rw [ha]
      exact mem_enginesOut_removeEngine ..
    · rw [ha] at hl
      rw [if_pos hl]
      exact fatalEvent_stopped ..

end Sys2Proof.Machine
end

section
/-!
PROOF. References, controller time, trimming, the thermal warning and the watchdog (O9): what each command leaves of the power unit.
-/
namespace Sys2Proof.Machine

/-- A write of a command register that a path may write acts, and answers what its operation leaves. -/
theorem MayWrite.next {p : Path} {r : RegId} {s : State} (h : MayWrite p r s) (f : State → State) :
    (Host.Outcome.next (cmdWrite p r f s) : Res) = .next (f s) := by
  rw [cmdWrite_acts h]

/-! ### References -/

@[simp] theorem shiftedGroupsDown_pwr (gs : List Nat) (s : State) :
    (gs.foldl (fun s g => netGroupDown (g + 4) s) s).pwr = s.pwr :=
  (netGroupsDown_keeps (f := (· + 4))).pwr rfl

/-- The clock family that a reference of the networks or of the endpoint feeds (R403). -/
def refFamily (ref : Nat) : Nat := if ref = 3 then 5 else ref + 1

/-- The loss of such a reference takes its family out of service, and nothing else of the power unit. -/
theorem execRefclkOutOfTolerance_pwr {ref ppm : Nat} {s t : State} (hr : ref ∈ [1, 2, 3]) (hn : ref ∉ s.pwr.refBad)
    (e : execRefclkOutOfTolerance ref ppm s = .next t) : t.pwr = { s.pwr with
      refBad := (ref :: s.pwr.refBad).eraseDups, famDown := (refFamily ref :: s.pwr.famDown).eraseDups } := by
  simp only [List.mem_cons, List.not_mem_nil, or_false] at hr
  obtain rfl | rfl | rfl := hr <;> rw [execRefclkOutOfTolerance_eq hn (by decide)] at e <;> cases e <;> simp [refFamily]

/-- A reference that returns leaves the list of the bad ones, and its family the list of those out of service. -/
theorem execRefclkRestored_pwr {ref : Nat} {s t : State} (hr : ref ∈ s.pwr.refBad) (e : execRefclkRestored ref s = .next t) :
    t.pwr = { s.pwr with
      refBad := s.pwr.refBad.filter (· != ref)
      famDown := s.pwr.famDown.filter fun f =>
        !(if ref = 1 then [2] else if ref = 2 then [3] else if ref = 3 then [5] else []).contains f } := by
  rw [execRefclkRestored, if_neg (by simpa using hr)] at e
  cases e
  simp

/-! ### Controller time -/

/-- The rate offset is taken within its range and left beyond it (R405, R415). -/
theorem timeAdjOp_pwr (p : Path) (v : Nat) (s : State) : (timeAdjOp p v s).pwr =
    if (toSigned 32 v).natAbs ≤ 1000000 then { s.pwr with adjPpb := toSigned 32 v } else s.pwr := by
  have hc : (toSigned 32 v < -1000000 ∨ 1000000 < toSigned 32 v) ↔ ¬(toSigned 32 v).natAbs ≤ 1000000 := by omega
  by_cases hv : (toSigned 32 v).natAbs ≤ 1000000 <;> simp [timeAdjOp, hc, hv]

theorem timeStepOp_of_disciplined {p : Path} {hi : Nat} {s : State} (h : s.pwr.disciplined = true) :
    timeStepOp p hi s = errLast 0x03 0x05 0x128 p.code s := by
  simp [timeStepOp, h]

theorem timeStepOp_of_free {p : Path} {hi : Nat} {s : State} (h : s.pwr.disciplined = false) :
    timeStepOp p hi s = { s with
      time := ((s.time : Int) + toSigned 64 (hi % 2 ^ 32 * 2 ^ 32 + sel s p Reg.CLK_TIME_STEP_LO)).toNat % 2 ^ 64 } := by
  simp [timeStepOp, h]

/-! ### Trimming and temperature -/

/-- A failed setpoint transaction counts, and the third in a row stops trimming (R399). -/
theorem execAvsTrim_fail_pwr {up : Bool} {s t : State} (h : bitAt (cfg s Reg.PWR_PWR_CTL) 0 = true) (hr : s.pwr.released = true)
    (e : execAvsTrim false up s = .next t) : t.pwr = { s.pwr with
      avsFails := s.pwr.avsFails + 1, avsOk := false
      trimming := if s.pwr.avsFails = 2 then false else s.pwr.trimming } := by
  rw [execAvsTrim, if_neg (by simp [h, hr])] at e
  cases e
  by_cases h2 : s.pwr.avsFails = 2 <;> simp [h2]

/-- A measured temperature decides the warning by `THERM_WARN_C` alone (R400). -/
theorem execThermalWarning_pwr {sensor temp : Nat} {s t : State} (e : execThermalWarning sensor temp s = .next t) :
    t.pwr = { s.pwr with thermWarn := decide (cfg s Reg.PWR_THERM_WARN_C < temp) } := by
  have hc : cfg (noteTemp sensor temp s) Reg.PWR_THERM_WARN_C = cfg s Reg.PWR_THERM_WARN_C := by simp [cfg, cfgAt, noteTemp]
  have hp : (noteTemp sensor temp s).pwr = s.pwr := noteTemp_keeps.pwr rfl
  unfold execThermalWarning at e
  simp only [hc, hp] at e
  split at e
  · next h =>
    cases e
    simp [Nat.not_lt.mpr h]
  · next h =>
    split at e
    · next hw =>
      cases e
      simp [Nat.lt_of_not_le h, hp, ← hw]
    · cases e
      simp [Nat.lt_of_not_le h]

/-- Settles O9: each command acts where its path may write, and touches the power unit, the time and the event parts only. -/
theorem clocksAndMeasurementsFollowTheirRules : Obligations.ClocksAndMeasurementsFollowTheirRules := by
  intro s
  refine ⟨fun ref ppm hr hn => ?lost, fun ref hr => ?restored, fun p v h => ?adjust, fun p v h => ?slew, fun p hi h => ?step,
    fun p h => ⟨?discipline, ?free⟩, fun p h => ?kick, fun up hb hr => ⟨?trimmed, ?failed⟩, fun sensor temp => ?warning⟩
  case lost =>
    obtain ⟨t, e, k⟩ := execRefclkOutOfTolerance_keeps (a0 := ref) (a1 := ppm) (s := s)
    have hp := execRefclkOutOfTolerance_pwr hr hn e
    exact ⟨t, e, by simp [hp], by simp [hp, refFamily], k.stands rfl⟩
  case restored =>
    obtain ⟨t, e, k⟩ := execRefclkRestored_keeps (a0 := ref) (s := s)
    have hp := execRefclkRestored_pwr hr e
    refine ⟨t, e, by simp [hp], ?_, ?_, ?_, fun hne => ?_, k.only rfl⟩
    · rintro rfl; simp [hp]
    · rintro rfl; simp [hp]
    · rintro rfl; simp [hp]
    · simp_all
  case adjust =>
    refine ⟨_, h.next _, execTimeAdjPpbWrite_keeps.only (h.next _) rfl, fun hv => ?_, fun hv => ?_⟩
    · rw [timeAdjOp_pwr, if_pos hv]
    · rw [timeAdjOp_pwr, if_neg (by omega)]
  case slew =>
    refine ⟨_, h.next _, execTimeSlewNsWrite_keeps.only (h.next _) rfl, ?_⟩
    simp [timeSlewOp]
  case step =>
    refine ⟨_, h.next _, execTimeStep_keeps.only (h.next _) rfl, fun hd => ?_, fun hd => ?_⟩
    · rw [timeStepOp_of_disciplined hd, errLast_time]
    · rw [timeStepOp_of_free hd]
      exact ⟨rfl, rfl⟩
  case discipline =>
    refine ⟨_, h.next _, ?_, execSetDisciplined_keeps.only (h.next _) rfl⟩
    simp [setDisciplinedOp]
  case free => exact h.next _
  case kick => exact h.next _
  case trimmed =>
    obtain ⟨t, e, k⟩ := execAvsTrim_keeps (a0 := true) (a1 := up) (s := s)
    refine ⟨t, e, ?_⟩
    rw [execAvsTrim, if_neg (by simp [hb, hr]), if_pos rfl] at e
    cases e
    exact ⟨rfl, rfl, rfl, List.mem_append_right _ List.mem_cons_self, fun _ => rfl, k.only rfl⟩
  case failed =>
    obtain ⟨t, e, k⟩ := execAvsTrim_keeps (a0 := false) (a1 := up) (s := s)
    have hp := execAvsTrim_fail_pwr hb hr e
    exact ⟨t, e, by rw [hp], by rw [hp], by rw [hp], fun h2 => by simp [hp, h2], k.only rfl⟩
  case warning =>
    obtain ⟨t, e, k⟩ := execThermalWarning_keeps (a0 := sensor) (a1 := temp) (s := s)
    exact ⟨t, e, execThermalWarning_pwr e, k.only rfl⟩

end Sys2Proof.Machine
end

section
/-!
PROOF. Power failure, the vault dump and its replay (O14).
-/
namespace Sys2Proof.Machine

/-! ### Acceptance (R79, R80) -/

/-- What an accepted power failure notes: its source and time. -/
theorem acceptPower_noted {src : Nat} {s : State} (h : s.vault.accepted = false) :
    (acceptPower src s).vault.source = src ∧ (acceptPower src s).vault.acceptAt = s.time := by
  rw [acceptPower, if_neg (by simp [h])]
  simp [stopWork, abandonPending, apply_ite State.vault]

/-- Service stops and every command context and job ends with nothing completed. -/
theorem acceptPower_stops {src : Nat} {s : State} (h : s.vault.accepted = false) : (acceptPower src s).pwr.serving = false ∧
    (acceptPower src s).nvm.ctxs = [] ∧ (acceptPower src s).store.jobs = [] := by
  rw [acceptPower, if_neg (by simp [h])]
  exact ⟨rfl, rfl, rfl⟩

/-- No event record is written once a power failure is accepted (R80). -/
theorem qWrite_of_accepted {q : Nat} {r : EvRec} {s : State} (h : s.vault.accepted = true) : qWrite q r s = s := if_pos h

/-- A counter counted up reads one more, at most all ones. -/
theorem rd_bump {s : State} (h : Tables s) (r : RegId) : rd (bump r s) r = min (rd s r + 1) 0xFFFFFFFF := by
  simp only [rd, rdAt, bump, bumpAt, wrAt_regs]
  exact tgetD_tput_same h.1 _ _ _

/-! ### The dump (R82, R85, R87) -/

/-- Writing the records after the header issues drive commands only. -/
theorem execVaultHeaderWriting_starts {s t : State} (hd : s.vault.dumping = true) (hn : s.vault.dumpDone = false)
    (hi : ¬(s.vault.img.state = 1 ∧ s.vault.img.tAccept = s.vault.acceptAt)) (hc : ∀ c ∈ s.store.cmds, c.2.discard = true)
    (hw : s.store.cmdWait = []) (e : execVaultHeaderWriting s = .next t) : t.vault = { s.vault with img := buildImage s } := by
  have ha : (s.store.cmds.any fun c => !c.2.discard) = false := by simpa using hc
  rw [execVaultHeaderWriting, if_neg (by simp [hd, hn, hi, ha, hw])] at e
  cases e
  exact ((Keeps.foldl (M := 8462345) (Keeps.refl _ _) fun _ _ k => Keeps.step issueSys_keeps rfl k).vault rfl).trans
    (writeHeader_keeps.vault rfl)

/-- The vault once a dump has ended: its header reads COMPLETE. -/
def dumpComplete (s : State) : VaultSt :=
  { s.vault with dumpDone := true, img := { s.vault.img with state := 2, tComplete := s.time } }

/-- The header is written COMPLETE and the dump reported (event 0x2203). -/
def dumpReported (s : State) : State :=
  let us := (s.time - s.vault.acceptAt) / 1000
  let u := writeHeader { s with vault := dumpComplete s }
  raise 0x2203 (leBytes 8 u.vault.img.dumpBytes ++ leBytes 4 us) (wr Reg.CACHE_LAST_DUMP_US us u)

/-- The state in which a dump has ended, before the reset or the shutdown that waited for it: the families stop where `REFCLK_SYS` was lost. -/
def dumpEnded (s : State) : State :=
  if (dumpReported s).pwr.refBad.contains 0 then famStop (dumpReported s) else dumpReported s

theorem execVaultDumpComplete_eq {s : State} (hd : s.vault.dumping = true) (hn : s.vault.dumpDone = false)
    (hi : s.vault.img.state = 1) : execVaultDumpComplete s = .next (afterDump (dumpEnded s)) := by
  rw [execVaultDumpComplete, if_neg (by simp [hd, hn, hi])]
  rfl

/-- Reporting a dump changes the vault as told, and else the drive commands and the event parts only. -/
theorem dumpReported_keeps {s : State} : Keeps 8724553 { s with vault := dumpComplete s } (dumpReported s) :=
  Keeps.step raise_keeps rfl (Keeps.step wr_keeps rfl (Keeps.widen writeHeader_keeps rfl))

theorem dumpReported_pwr (s : State) : (dumpReported s).pwr = s.pwr := dumpReported_keeps.pwr rfl

theorem dumpEnded_keeps {s : State} : Keeps 8726857 s (dumpEnded s) := by
  have hr : Keeps 8726857 s (dumpReported s) := Keeps.step dumpReported_keeps rfl (Keeps.widen upd_vault rfl)
  exact Keeps.ite (Keeps.step famStop_keeps rfl hr) hr

theorem dumpEnded_vault (s : State) : (dumpEnded s).vault = dumpComplete s := by
  have hr : (dumpReported s).vault = dumpComplete s := dumpReported_keeps.vault rfl
  unfold dumpEnded
  split
  · exact hr
  · exact hr

/-- Stopping the families leaves what waits for the dump. -/
theorem dumpEnded_waiting (s : State) : (dumpEnded s).pwr.resetAfterDump = s.pwr.resetAfterDump ∧
    (dumpEnded s).pwr.shuttingDown = s.pwr.shuttingDown := by
  rw [← dumpReported_pwr s]
  unfold dumpEnded
  split
  · exact ⟨rfl, rfl⟩
  · exact ⟨rfl, rfl⟩

/-! ### What follows the dump (R83, R407, R408, R413) -/

theorem afterDump_idle {s : State} (h : s.pwr.resetAfterDump = none) (hs : s.pwr.shuttingDown = false) : afterDump s = s := by
  simp [afterDump, h, hs]

theorem afterDump_cold {s : State} (h : s.pwr.resetAfterDump = some 1) : afterDump s = coldHold 1 s := by
  simp [afterDump, h]

theorem afterDump_warm {k : Nat} {s : State} (hk : k ≠ 1) (h : s.pwr.resetAfterDump = some k) :
    afterDump s = warmReset k s := by
  unfold afterDump
  rw [h]
  split
  · next e => exact absurd (Option.some.inj e) hk
  · next e => rw [Option.some.inj e]
  · next e => cases e

theorem afterDump_shutdown {s : State} (h : s.pwr.resetAfterDump = none) (hs : s.pwr.shuttingDown = true) :
    afterDump s = shutdownFinish true s := by
  simp [afterDump, h, hs]

theorem shutdownFinish_done (used : Bool) (s : State) : (shutdownFinish used s).pwr.shutdownDone = true := by
  simp [shutdownFinish]

/-- A warm reset of a kind has been done: nothing is released, served or in work, and no power failure stands (R408). -/
def WarmDone (kind : Nat) (t : State) : Prop :=
  t.vault.accepted = false ∧ t.pwr.kind = kind ∧ t.pwr.held = false ∧ t.pwr.released = false ∧ t.pwr.serving = false ∧
    t.nvm.ctxs = [] ∧ t.nvm.assocs = [] ∧ t.xp = {}

/-- It stays done under whatever leaves the vault, the power unit, the commands and the transport alone. -/
theorem WarmDone.keeps {kind M : Nat} {s t : State} (h : WarmDone kind s) (k : Keeps M s t)
    (hM : [Part.vault, .pwr, .nvm, .xp].all (fun p => !M.testBit p.bit) = true) : WarmDone kind t := by
  obtain ⟨hk, -⟩ := k.stands hM
  have hv : t.vault = s.vault := hk .vault (by decide)
  have hp : t.pwr = s.pwr := hk .pwr (by decide)
  have hn : t.nvm = s.nvm := hk .nvm (by decide)
  have hx : t.xp = s.xp := hk .xp (by decide)
  rw [WarmDone, hv, hp, hn, hx]
  exact h

theorem WarmDone.withTrust {kind : Nat} {s : State} (h : WarmDone kind s) (x : TrustSt) : WarmDone kind { s with trust := x } := h

theorem WarmDone.inRecovery {kind : Nat} {s : State} (h : WarmDone kind s) (x : TrustSt) :
    WarmDone kind { s with trust := x, pwr := { s.pwr with needCold := true } } := h

/-- A FATAL with no dump leaves it done. -/
theorem WarmDone.fatal {kind code : Nat} {detail : List Nat} {s : State} (h : WarmDone kind s) :
    WarmDone kind (fatalEvent code detail false s) := by
  obtain ⟨hv, hk, hh, hr, -, hw⟩ := h
  have hn : (fatalEvent code detail false s).nvm = s.nvm := fatalEvent_nodump_keeps.nvm rfl
  rw [WarmDone, fatalEvent_nodump, fatalEvent_pwr, hn, fatalEvent_xp]
  exact ⟨hv, hk, hh, hr, rfl, hw⟩

/-- A warm reset, whichever slot then boots, or none. -/
theorem warmReset_done (kind : Nat) (s : State) : WarmDone kind (warmReset kind s) := by
  unfold warmReset
  extract_lets s1 cause kept s2 e1 e2 e3 e4 e5 s3 s4 s5
  have h3 : WarmDone kind s3 := ⟨rfl, rfl, rfl, rfl, rfl, rfl, rfl, rfl⟩
  have h4 : WarmDone kind s4 := h3.keeps (M := 1) (Keeps.step bump_keeps rfl (Keeps.ite (Keeps.refl _ _) wr_keeps)) rfl
  have h5 : WarmDone kind s5 := (h4.keeps datumMend_keeps rfl).keeps updateEventN_keeps rfl
  have slot {r : Option Nat} {s6 : State} {n d : Nat} {ds : List Nat} (e : bootSlot n (raise d ds s5) = (r, s6)) : WarmDone kind s6 :=
    h5.keeps (M := 263241) (Keeps.ofSnd e (Keeps.step bootSlot_keeps rfl (Keeps.widen raise_keeps rfl))) rfl
  clear_value s5
  split
  · exact (h5.withTrust _).keeps bootEntry_keeps rfl
  · split
    · rename_i e
      exact (((slot e).withTrust _).keeps raise_keeps rfl).keeps bootEntry_keeps rfl
    · rename_i e
      exact ((slot e).inRecovery _).fatal

/-! ### Replay (R88, R92) -/

theorem replayImage_replaying (keyOk metaOk endOk : Bool) (unread : List Nat) (partner : Option VaultImg) (raws : Tab (Tab Raw))
    (s : State) : (replayImage keyOk metaOk endOk unread partner raws s).vault.replaying = true := rfl

/-- A replay runs, begun now or before. -/
def replayBegun (keyOk metaOk endOk : Bool) (unread : List Nat) (partner : Option VaultImg) (raws : Tab (Tab Raw)) (s : State) : State :=
  if s.vault.replaying then s else replayImage keyOk metaOk endOk unread partner raws s

theorem replayBegun_of_replaying {keyOk metaOk endOk : Bool} {unread : List Nat} {partner : Option VaultImg} {raws : Tab (Tab Raw)}
    {s : State} (h : s.vault.replaying = true) : replayBegun keyOk metaOk endOk unread partner raws s = s := if_pos h

theorem replayBegun_replaying (keyOk metaOk endOk : Bool) (unread : List Nat) (partner : Option VaultImg) (raws : Tab (Tab Raw))
    (s : State) : (replayBegun keyOk metaOk endOk unread partner raws s).vault.replaying = true := by
  unfold replayBegun
  split
  · assumption
  · exact replayImage_replaying ..

/-- In a released, assembled controller that does not serve yet and that nothing has stopped, a replay begins or ends. -/
theorem execVaultReplay_eq (keyOk metaOk endOk : Bool) (unread : List Nat) (partner : Option VaultImg) (raws : Tab (Tab Raw))
    (rate ms : Nat) {s : State} (hr : s.pwr.released = true) (has : s.pwr.assembling = false) (ha : s.vault.accepted = false)
    (hs : s.pwr.serving = false) (hf : s.pwr.fatal = false) (hk : s.trust.kekDbg < 2) :
    execVaultReplay keyOk metaOk endOk unread partner raws rate ms s = .next (
      if dirtyBlocks (replayBegun keyOk metaOk endOk unread partner raws s) = 0 then
        replayFinish rate ms (replayBegun keyOk metaOk endOk unread partner raws s)
      else replayBegun keyOk metaOk endOk unread partner raws s) := by
  rw [execVaultReplay, if_neg (by simp [hr, has, ha, hs, hf, hk])]
  rfl

/-- The end of a replay serves. -/
theorem replayFinish_serving (rate ms : Nat) (s : State) : (replayFinish rate ms s).pwr.serving = true :=
  congrArg PwrSt.serving (limitEval_keeps.pwr rfl)

/-- Settles O14: the acceptance, the header and the end of the dump by the parts they set, the rest by the masks. -/
theorem powerFailureIsAcceptedDumpedAndReplayed : Obligations.PowerFailureIsAcceptedDumpedAndReplayed := by
  intro s
  refine ⟨fun ha => ?fall, fun hl ha => ?glitch, fun hl ha => ?accept, fun hf ha => ?feeds, fun q r ha => qWrite_of_accepted ha,
    fun ha ho => ?serdes, fun hd hn hi hc hw => ?header, fun hd hn hi => ?complete, fun ko mo eo un pa ra rate ms hr has ha hs hf hk => ?replay⟩
  case fall => exact show execPwrfailNFall s = _ by simp [execPwrfailNFall, ha]
  case glitch =>
    have e : execPwrfailGlitch s = .next (bump Reg.CACHE_PF_GLITCHES { s with vault := { s.vault with pfLow := false } }) := by
      simp [execPwrfailGlitch, hl, ha]
    exact ⟨_, e, bump_vault, execPwrfailGlitch_keeps.only e rfl, fun ht => rd_bump (s := { s with vault := _ }) ht _⟩
  case accept =>
    have e : execPowerFailureAccept s = .next (acceptPower 0 s) := by simp [execPowerFailureAccept, hl]
    obtain ⟨hsrc, hat⟩ := acceptPower_noted (src := 0) ha
    exact ⟨_, e, acceptPower_accepted 0 s, hsrc, hat, acceptPower_stops ha⟩
  case feeds =>
    have e : execFeedMonitorFail s = .next (acceptPower 1 s) := by simp [execFeedMonitorFail, hf]
    obtain ⟨hsrc, hat⟩ := acceptPower_noted (src := 1) ha
    exact ⟨_, e, acceptPower_accepted 1 s, hsrc, hat, acceptPower_stops ha⟩
  case serdes => exact show execSerdesOffTimer s = _ by simp [execSerdesOffTimer, ha, ho]
  case header =>
    obtain ⟨t, e, k⟩ := execVaultHeaderWriting_keeps (s := s)
    have hv := execVaultHeaderWriting_starts hd hn hi hc hw e
    exact ⟨t, e, hv, by rw [hv]; rfl, by rw [hv]; rfl, by rw [hv]; rfl, by rw [hv]; rfl, k.only rfl⟩
  case complete =>
    obtain ⟨hreset, hshut⟩ := dumpEnded_waiting s
    refine ⟨_, execVaultDumpComplete_eq hd hn hi, fun h0 h1 => ?_, fun h => ?_, fun k hk h => ?_, fun h0 h1 => ?_⟩
    · rw [afterDump_idle (hreset.trans h0) (hshut.trans h1)]
      exact ⟨dumpEnded_vault s, dumpEnded_keeps.only rfl⟩
    · rw [afterDump_cold (hreset.trans h)]
      exact ⟨rfl, rfl⟩
    · rw [afterDump_warm hk (hreset.trans h)]
      exact .inr (warmReset_done k _)
    · rw [afterDump_shutdown (hreset.trans h0) (hshut.trans h1)]
      exact shutdownFinish_done ..
  case replay =>
    have e := execVaultReplay_eq ko mo eo un pa ra rate ms hr has ha hs hf hk
    refine ⟨_, e, ?_, fun hrep hd => ?_⟩
    · split
      · exact .inl (replayFinish_serving ..)
      · exact .inr (replayBegun_replaying ..)
    · rw [replayBegun_of_replaying hrep, if_pos hd]
      exact replayFinish_serving ..

end Sys2Proof.Machine
end

section
/-!
PROOF. What every family of commands is isolated from (O12).
-/
namespace Sys2Proof.Machine

/-- A meaning whose mask names no part that a family is isolated from answers a state in which those parts stand. -/
theorem KeepsR.family {M : Nat} {s : State} {r : Res} {f : Family} (k : KeepsR M s r)
    (h : f.kept.all (fun p => !M.testBit p.bit) = true) : ∀ t, r = .next t → Stands f.kept s t :=
  fun _ e => k.stands e h

/-- What every command leaves alone, from the mask of its own meaning. -/
theorem exec_stands_familyKept (c : Instr) (s : State) : ∀ t, exec c s = .next t → Stands (familyOf c).kept s t := by
  cases c with
  | chipletLinkFail => exact execChipletLinkFail_keeps.family rfl
  | hbmStackFault => exact execHbmStackFault_keeps.family rfl
  | engineRuntimeFail => exact execEngineRuntimeFail_keeps.family rfl
  | lockstepDisagree => exact execLockstepDisagree_keeps.family rfl
  | refclkOutOfTolerance => exact execRefclkOutOfTolerance_keeps.family rfl
  | refclkRestored => exact execRefclkRestored_keeps.family rfl
  | crystalFail => exact execCrystalFail_keeps.family rfl
  | connect => exact execConnect_keeps.family rfl
  | keepAlive => exact execKeepAlive_keeps.family rfl
  | keepAliveExpire => exact execKeepAliveExpire_keeps.family rfl
  | namespaceCreate => exact execNamespaceCreate_keeps.family rfl
  | namespaceActive => exact execNamespaceActive_keeps.family rfl
  | namespaceDelete => exact execNamespaceDelete_keeps.family rfl
  | namespaceDeleteComplete => exact execNamespaceDeleteComplete_keeps.family rfl
  | parcelReleased => exact execParcelReleased_keeps.family rfl
  | namespaceAttach => exact execNamespaceAttach_keeps.family rfl
  | namespaceDetach => exact execNamespaceDetach_keeps.family rfl
  | identify => exact execIdentify_keeps.family rfl
  | read => exact execRead_keeps.family rfl
  | write => exact execWrite_keeps.family rfl
  | writeZeroes => exact execWriteZeroes_keeps.family rfl
  | datasetManagement => exact execDatasetManagement_keeps.family rfl
  | flush => exact execFlush_keeps.family rfl
  | reservationRegister => exact execReservationRegister_keeps.family rfl
  | reservationAcquire => exact execReservationAcquire_keeps.family rfl
  | reservationRelease => exact execReservationRelease_keeps.family rfl
  | reservationReport => exact execReservationReport_keeps.family rfl
  | stakeConditionedWrite => exact execStakeConditionedWrite_keeps.family rfl
  | contextFreed => exact execContextFreed_keeps.family rfl
  | writeBlockPlaced => exact execWriteBlockPlaced_keeps.family rfl
  | writerTakeEffect => exact execWriterTakeEffect_keeps.family rfl
  | writerFail => exact execWriterFail_keeps.family rfl
  | gatherAgeExpire => exact execGatherAgeExpire_keeps.family rfl
  | flushStart => exact execFlushStart_keeps.family rfl
  | journalRecordWritten => exact execJournalRecordWritten_keeps.family rfl
  | flushStripsDone => exact execFlushStripsDone_keeps.family rfl
  | memoryError => exact execMemoryError_keeps.family rfl
  | pwrfailNFall => exact execPwrfailNFall_keeps.family rfl
  | pwrfailGlitch => exact execPwrfailGlitch_keeps.family rfl
  | powerFailureAccept => exact execPowerFailureAccept_keeps.family rfl
  | feedMonitorFail => exact execFeedMonitorFail_keeps.family rfl
  | serdesOffTimer => exact execSerdesOffTimer_keeps.family rfl
  | vaultHeaderWriting => exact execVaultHeaderWriting_keeps.family rfl
  | vaultDumpComplete => exact execVaultDumpComplete_keeps.family rfl
  | postDumpResetTimer => exact execPostDumpResetTimer_keeps.family rfl
  | vaultReplay => exact execVaultReplay_keeps.family rfl
  | driveReadComplete => exact execDriveReadComplete_keeps.family rfl
  | driveWriteComplete => exact execDriveWriteComplete_keeps.family rfl
  | deadlineExpire => exact execDeadlineExpire_keeps.family rfl
  | parityJobDone => exact execParityJobDone_keeps.family rfl
  | sequencerFail => exact execSequencerFail_keeps.family rfl
  | cadastrePersistTimer => exact execCadastrePersistTimer_keeps.family rfl
  | formatStripe => exact execFormatStripe_keeps.family rfl
  | layoutStatus => exact execLayoutStatus_keeps.family rfl
  | memberDepart => exact execMemberDepart_keeps.family rfl
  | rehomeDone => exact execRehomeDone_keeps.family rfl
  | homeCopyRelocate => exact execHomeCopyRelocate_keeps.family rfl
  | returnWaitExpire => exact execReturnWaitExpire_keeps.family rfl
  | heldRowReplan => exact execHeldRowReplan_keeps.family rfl
  | memberFail => exact execFail_keeps.family rfl
  | memberAdmit => exact execAdmit_keeps.family rfl
  | resyncFull => exact execResyncFull_keeps.family rfl
  | rebuildStripe => exact execRebuildStripe_keeps.family rfl
  | lossMap => exact execLossMap_keeps.family rfl
  | fillParcel => exact execFillParcel_keeps.family rfl
  | scrubStripe => exact execScrubStripe_keeps.family rfl
  | reshapeStart => exact execReshapeStart_keeps.family rfl
  | reshapeSuspend => exact execReshapeSuspend_keeps.family rfl
  | reshapeResume => exact execReshapeResume_keeps.family rfl
  | setForm => exact execForm_keeps.family rfl
  | moverStripe => exact execMoverStripe_keeps.family rfl
  | traverse => exact execTraverse_keeps.family rfl
  | traverseTableCheck => exact execTraverseTableCheck_keeps.family rfl
  | traverseStaged => exact execTraverseStaged_keeps.family rfl
  | traverseStageTimeout => exact execTraverseStageTimeout_keeps.family rfl
  | xstampTimeout => exact execXstampTimeout_keeps.family rfl
  | traverseCheck => exact execTraverseCheck_keeps.family rfl
  | traverseClosure => exact execTraverseClosure_keeps.family rfl
  | traverseLookup => exact execTraverseLookup_keeps.family rfl
  | send => exact execSend_keeps.family rfl
  | rdmaWrite => exact execRdmaWrite_keeps.family rfl
  | rdmaReadRequest => exact execRdmaReadRequest_keeps.family rfl
  | fetchAdd => exact execFetchAdd_keeps.family rfl
  | compareSwap => exact execCompareSwap_keeps.family rfl
  | compareSwap16 => exact execCompareSwap16_keeps.family rfl
  | acknowledge => exact execAcknowledge_keeps.family rfl
  | rdmaReadResponse => exact execRdmaReadResponse_keeps.family rfl
  | cnp => exact execCnp_keeps.family rfl
  | rcTimer => exact execRcTimer_keeps.family rfl
  | pathPenaltyEnd => exact execPathPenaltyEnd_keeps.family rfl
  | ackDelayExpire => exact execAckDelayExpire_keeps.family rfl
  | sprayRtoExpire => exact execSprayRtoExpire_keeps.family rfl
  | ackTimeout => exact execAckTimeout_keeps.family rfl
  | cmReq => exact execCmReq_keeps.family rfl
  | cmRtu => exact execCmRtu_keeps.family rfl
  | cmDreq => exact execCmDreq_keeps.family rfl
  | cmDrep => exact execCmDrep_keeps.family rfl
  | cmResponseTimeout => exact execCmResponseTimeout_keeps.family rfl
  | qpErrorTimeout => exact execQpErrorTimeout_keeps.family rfl
  | qpQuietEnd => exact execQpQuietEnd_keeps.family rfl
  | icreq => exact execIcreq_keeps.family rfl
  | capsulecmd => exact execCapsulecmd_keeps.family rfl
  | h2cdata => exact execH2cdata_keeps.family rfl
  | h2ctermreq => exact execH2ctermreq_keeps.family rfl
  | bind => exact execBind_keeps.family rfl
  | bindComplete => exact execBindComplete_keeps.family rfl
  | unbind => exact execUnbind_keeps.family rfl
  | unbindComplete => exact execUnbindComplete_keeps.family rfl
  | keyCreate => exact execKeyCreate_keeps.family rfl
  | keyRevoke => exact execKeyRevoke_keeps.family rfl
  | keyCmdRevoke => exact execKeyCmdRevoke_keeps.family rfl
  | winCmdUnbind => exact execWinCmdUnbind_keeps.family rfl
  | revokeDrain => exact execRevokeDrain_keeps.family rfl
  | revokeTimeout => exact execRevokeTimeout_keeps.family rfl
  | faultComplete => exact execFaultComplete_keeps.family rfl
  | windowWritebackAge => exact execWindowWritebackAge_keeps.family rfl
  | stallBudgetExpire => exact execStallBudgetExpire_keeps.family rfl
  | chainWaitTimeout => exact execChainWaitTimeout_keeps.family rfl
  | frameReceived => exact execFrameReceived_keeps.family rfl
  | pfcXoffRefresh => exact execPfcXoffRefresh_keeps.family rfl
  | frameTransmitted => exact execFrameTransmitted_keeps.family rfl
  | pfcFrameReceived => exact execPfcFrameReceived_keeps.family rfl
  | pfcPauseExpire => exact execPfcPauseExpire_keeps.family rfl
  | pfcWatchdogExpire => exact execPfcWatchdogExpire_keeps.family rfl
  | netLinkChange => exact execNetLinkChange_keeps.family rfl
  | eopNop => exact execEopNop_keeps.family rfl
  | eopExt => exact execEopExt_keeps.family rfl
  | eopMovi => exact execEopMovi_keeps.family rfl
  | eopAdd => exact execEopAdd_keeps.family rfl
  | eopAddw => exact execEopAddw_keeps.family rfl
  | eopSub => exact execEopSub_keeps.family rfl
  | eopAnd => exact execEopAnd_keeps.family rfl
  | eopOr => exact execEopOr_keeps.family rfl
  | eopShl => exact execEopShl_keeps.family rfl
  | eopShr => exact execEopShr_keeps.family rfl
  | eopMb => exact execEopMb_keeps.family rfl
  | eopMbn => exact execEopMbn_keeps.family rfl
  | eopBeq => exact execEopBeq_keeps.family rfl
  | eopBne => exact execEopBne_keeps.family rfl
  | eopBlt => exact execEopBlt_keeps.family rfl
  | eopJmp => exact execEopJmp_keeps.family rfl
  | eopJtab => exact execEopJtab_keeps.family rfl
  | eopAdv => exact execEopAdv_keeps.family rfl
  | eopAdvw => exact execEopAdvw_keeps.family rfl
  | eopMark => exact execEopMark_keeps.family rfl
  | eopKey => exact execEopKey_keeps.family rfl
  | eopKeyw => exact execEopKeyw_keeps.family rfl
  | eopHash => exact execEopHash_keeps.family rfl
  | eopHashw => exact execEopHashw_keeps.family rfl
  | eopLook => exact execEopLook_keeps.family rfl
  | eopAct => exact execEopAct_keeps.family rfl
  | classifierLookupDone => exact execClassifierLookupDone_keeps.family rfl
  | eopSetf => exact execEopSetf_keeps.family rfl
  | eopSetw => exact execEopSetw_keeps.family rfl
  | eopEmit => exact execEopEmit_keeps.family rfl
  | eopTrap => exact execEopTrap_keeps.family rfl
  | eopinCycleLimit => exact execEopinCycleLimit_keeps.family rfl
  | flowInsert => exact execFlowInsert_keeps.family rfl
  | flowDelete => exact execFlowDelete_keeps.family rfl
  | flowReplace => exact execFlowReplace_keeps.family rfl
  | flowLookup => exact execFlowLookup_keeps.family rfl
  | ruleWrite => exact execRuleWrite_keeps.family rfl
  | ruleInvalidate => exact execRuleInvalidate_keeps.family rfl
  | ruleRead => exact execRuleRead_keeps.family rfl
  | fragmentReceived => exact execFragmentReceived_keeps.family rfl
  | fragTimeout => exact execFragTimeout_keeps.family rfl
  | txtsHiRead => exact execTxtsHiRead_keeps.family rfl
  | laneReseed => exact execLaneReseed_keeps.family rfl
  | drbgReseed => exact execDrbgReseed_keeps.family rfl
  | entropyHealthFail => exact execEntropyHealthFail_keeps.family rfl
  | entropyRetest => exact execEntropyRetest_keeps.family rfl
  | saInstall => exact execInstall_keeps.family rfl
  | saDelete => exact execDelete_keeps.family rfl
  | saRead => exact execSaRead_keeps.family rfl
  | ksRoll => exact execRoll_keeps.family rfl
  | escRead => exact execEscRead_keeps.family rfl
  | ksImport => exact execImport_keeps.family rfl
  | rekeySweepStripe => exact execRekeySweepStripe_keeps.family rfl
  | epPerstNAssert => exact execEpPerstNAssert_keeps.family rfl
  | epLinkDown => exact execEpLinkDown_keeps.family rfl
  | epLinkUp => exact execEpLinkUp_keeps.family rfl
  | flr => exact execFlr_keeps.family rfl
  | flrComplete => exact execFlrComplete_keeps.family rfl
  | busMasterClear => exact execBusMasterClear_keeps.family rfl
  | busMasterSet => exact execBusMasterSet_keeps.family rfl
  | vfEnable => exact execVfEnable_keeps.family rfl
  | ideCheckFail => exact execIdeCheckFail_keeps.family rfl
  | ccEn => exact execCcEn_keeps.family rfl
  | epCompletionTimeout => exact execEpCompletionTimeout_keeps.family rfl
  | epTagQuarantineEnd => exact execEpTagQuarantineEnd_keeps.family rfl
  | epLateCompletion => exact execEpLateCompletion_keeps.family rfl
  | epIdle => exact execEpIdle_keeps.family rfl
  | db => exact execDb_keeps.family rfl
  | push => exact execPush_keeps.family rfl
  | ringCtlWrite => exact execRingCtlWrite_keeps.family rfl
  | drain => exact execDrain_keeps.family rfl
  | pause => exact execPause_keeps.family rfl
  | ringResume => exact execRingResume_keeps.family rfl
  | invalidate => exact execInvalidate_keeps.family rfl
  | ringGrant => exact execRingGrant_keeps.family rfl
  | ringNop => exact execRingNop_keeps.family rfl
  | nvmeIo => exact execNvmeIo_keeps.family rfl
  | nvmeAdmin => exact execNvmeAdmin_keeps.family rfl
  | mgmt => exact execMgmt_keeps.family rfl
  | winRead => exact execWinRead_keeps.family rfl
  | winWrite => exact execWinWrite_keeps.family rfl
  | winFadd => exact execWinFadd_keeps.family rfl
  | winCas8 => exact execWinCas8_keeps.family rfl
  | winCas16 => exact execWinCas16_keeps.family rfl
  | chainWait => exact execChainWait_keeps.family rfl
  | coalDelayExpire => exact execCoalDelayExpire_keeps.family rfl
  | perstDelayExpire => exact execPerstDelayExpire_keeps.family rfl
  | rpTrainingTimeout => exact execRpTrainingTimeout_keeps.family rfl
  | rpLinkUp => exact execRpLinkUp_keeps.family rfl
  | driveReadyTimeout => exact execDriveReadyTimeout_keeps.family rfl
  | driveFormatComplete => exact execDriveFormatComplete_keeps.family rfl
  | rpCommandTimeout => exact execRpCommandTimeout_keeps.family rfl
  | rpTagQuarantineEnd => exact execRpTagQuarantineEnd_keeps.family rfl
  | rpLateCompletion => exact execRpLateCompletion_keeps.family rfl
  | rpLateData => exact execRpLateData_keeps.family rfl
  | rpContain => exact execRpContain_keeps.family rfl
  | rpContainEnd => exact execRpContainEnd_keeps.family rfl
  | rpLinkLoss => exact execRpLinkLoss_keeps.family rfl
  | rpIdle => exact execRpIdle_keeps.family rfl
  | sidebandLevelAccept => exact execSidebandLevelAccept_keeps.family rfl
  | longPress => exact execLongPress_keeps.family rfl
  | quarantineClear => exact execQuarantineClear_keeps.family rfl
  | ledRefresh => exact execLedRefresh_keeps.family rfl
  | insertionDelayEnd => exact execInsertionDelayEnd_keeps.family rfl
  | bayStart => exact execBayStart_keeps.family rfl
  | bayFaultTimerExpire => exact execBayFaultTimerExpire_keeps.family rfl
  | bayFastTrip => exact execBayFastTrip_keeps.family rfl
  | bayPowerGood => exact execBayPowerGood_keeps.family rfl
  | bayPowerGoodLost => exact execBayPowerGoodLost_keeps.family rfl
  | bayRetryWaitEnd => exact execBayRetryWaitEnd_keeps.family rfl
  | bayRetriesReset => exact execBayRetriesReset_keeps.family rfl
  | feedBad => exact execFeedBad_keeps.family rfl
  | feedGood => exact execFeedGood_keeps.family rfl
  | feedReturn => exact execFeedReturn_keeps.family rfl
  | gateTurnoffFail => exact execGateTurnoffFail_keeps.family rfl
  | bothGates => exact execBothGates_keeps.family rfl
  | feedAGateLost => exact execFeedAGateLost_keeps.family rfl
  | bayOff => exact execOff_keeps.family rfl
  | bayOn => exact execOn_keeps.family rfl
  | bayClear => exact execClear_keeps.family rfl
  | bayCycle => exact execCycle_keeps.family rfl
  | cycleOffTimeEnd => exact execCycleOffTimeEnd_keeps.family rfl
  | zeberRetrain => exact execZeberRetrain_keeps.family rfl
  | zeberTrained => exact execZeberTrained_keeps.family rfl
  | zeberFlitReceived => exact execZeberFlitReceived_keeps.family rfl
  | zeberNak => exact execZeberNak_keeps.family rfl
  | zeberReplayTimeout => exact execZeberReplayTimeout_keeps.family rfl
  | hello => exact execHello_keeps.family rfl
  | pairRange => exact (execRange_keeps (a2 := 0)).family rfl
  | rangeSendTimer => exact execRangeSendTimer_keeps.family rfl
  | stopping => exact (execStopping_keeps (a0 := 0)).family rfl
  | mirrorPut => exact execMirrorPut_keeps.family rfl
  | mirrorAck => exact execMirrorAck_keeps.family rfl
  | journalPut => exact execJournalPut_keeps.family rfl
  | cleanNote => exact execCleanNote_keeps.family rfl
  | lease => exact execLease_keeps.family rfl
  | statePut => exact execStatePut_keeps.family rfl
  | fwdCmd => exact execFwdCmd_keeps.family rfl
  | fwdData => exact execFwdData_keeps.family rfl
  | fwdCpl => exact execFwdCpl_keeps.family rfl
  | stripReq => exact execStripReq_keeps.family rfl
  | stripRsp => exact execStripRsp_keeps.family rfl
  | xstampReq => exact execXstampReq_keeps.family rfl
  | xstampRsp => exact execXstampRsp_keeps.family rfl
  | pairRecord => exact execRecord_keeps.family rfl
  | recordAck => exact execRecordAck_keeps.family rfl
  | moveState => exact execMoveState_keeps.family rfl
  | pairFrame => exact execFrame_keeps.family rfl
  | pairSession => exact execSession_keeps.family rfl
  | resyncPut => exact execResyncPut_keeps.family rfl
  | resyncDone => exact execResyncDone_keeps.family rfl
  | pairSenseTimeout => exact execPairSenseTimeout_keeps.family rfl
  | pairSenseEdge => exact execPairSenseEdge_keeps.family rfl
  | rangingTimeout => exact execRangingTimeout_keeps.family rfl
  | arbDelayEnd => exact execArbDelayEnd_keeps.family rfl
  | preemptionDone => exact execPreemptionDone_keeps.family rfl
  | seekingTimeout => exact execSeekingTimeout_keeps.family rfl
  | quietIntervalEnd => exact execQuietIntervalEnd_keeps.family rfl
  | pairMove => exact execMove_keeps.family rfl
  | moveDrained => exact execMoveDrained_keeps.family rfl
  | moveHoldExpire => exact execMoveHoldExpire_keeps.family rfl
  | fieldBookEntryWritten => exact execFieldBookEntryWritten_keeps.family rfl
  | bootConfirm => exact execBootConfirm_keeps.family rfl
  | svnAdvance => exact execSvnAdvance_keeps.family rfl
  | activate => exact execActivate_keeps.family rfl
  | activationComponentDone => exact execActivationComponentDone_keeps.family rfl
  | debugUnlock => exact execDebugUnlock_keeps.family rfl
  | fieldBookExport => exact execFieldBookExport_keeps.family rfl
  | getMeasurements => exact execGetMeasurements_keeps.family rfl
  | challenge => exact execChallenge_keeps.family rfl
  | keyExchange => exact execKeyExchange_keeps.family rfl
  | keyUpdate => exact execKeyUpdate_keeps.family rfl
  | setCertificate => exact execSetCertificate_keeps.family rfl
  | ownerEnrol => exact execOwnerEnrol_keeps.family rfl
  | ownerRotate => exact execOwnerRotate_keeps.family rfl
  | escrowKeyInstall => exact execEscrowKeyInstall_keeps.family rfl
  | fieldBookEntryVendorGet => exact execFieldBookEntryVendorGet_keeps.family rfl
  | datumCommit => exact execCommit_keeps.family rfl
  | datumClosure => exact execClosure_keeps.family rfl
  | quiesceRetry => exact execQuiesceRetry_keeps.family rfl
  | datumConfirm => exact execConfirm_keeps.family rfl
  | confirmExpire => exact execConfirmExpire_keeps.family rfl
  | datumRevert => exact execRevert_keeps.family rfl
  | datumDiscard => exact execDiscard_keeps.family rfl
  | datumSeal => exact execSeal_keeps.family rfl
  | datumLoad => exact execLoad_keeps.family rfl
  | loadDone => exact execLoadDone_keeps.family rfl
  | registerWrite => exact execRegisterWrite_keeps.family rfl
  | coldReset => exact execColdReset_keeps.family rfl
  | sysPwrokFall => exact execSysPwrokFall_keeps.family rfl
  | vddPcRise => exact execVddPcRise_keeps.family rfl
  | sysRstN => exact execSysRstN_keeps.family rfl
  | rstCold => exact execCold_keeps.family rfl
  | rstWarm => exact execWarm_keeps.family rfl
  | rstShutdown => exact execShutdown_keeps.family rfl
  | shutdownFlushed => exact execShutdownFlushed_keeps.family rfl
  | sdTimeout => exact execSdTimeout_keeps.family rfl
  | rstBlock => exact execBlock_keeps.family rfl
  | railFault => exact execRailFault_keeps.family rfl
  | thermalWarning => exact execThermalWarning_keeps.family rfl
  | thermalTrip => exact execThermalTrip_keeps.family rfl
  | avsTrim => exact execAvsTrim_keeps.family rfl
  | timeAdjPpbWrite => exact execTimeAdjPpbWrite_keeps.family rfl
  | timeSlewNsWrite => exact execTimeSlewNsWrite_keeps.family rfl
  | timeStep => exact execTimeStep_keeps.family rfl
  | setDisciplined => exact execSetDisciplined_keeps.family rfl
  | clearDisciplined => exact execClearDisciplined_keeps.family rfl
  | assemblyWaitExpire => exact execAssemblyWaitExpire_keeps.family rfl
  | startupPowerfailRecover => exact execStartupPowerfailRecover_keeps.family rfl
  | wdtKick => exact execWdtKick_keeps.family rfl
  | watchdogExpire => exact execWatchdogExpire_keeps.family rfl
  | fatalResetTimer => exact execFatalResetTimer_keeps.family rfl
  | eventTokenTick => exact execEventTokenTick_keeps.family rfl
  | suppressionReport => exact execSuppressionReport_keeps.family rfl
  | eventNSpacingEnd => exact execEventNSpacingEnd_keeps.family rfl
  | msixSpacingEnd => exact execMsixSpacingEnd_keeps.family rfl
  | snapshot => exact execSnapshot_keeps.family rfl
  | readReg => exact execReadReg_keeps.family rfl
  | writeReg => exact execWriteReg_keeps.family rfl
  | platData => exact execPlatData_keeps.family rfl
  | platEnd => exact execPlatEnd_keeps.family rfl
  | eventRead => exact execEventRead_keeps.family rfl
  | smHeartbeat => exact execSmHeartbeat_keeps.family rfl
  | smHeartbeatMiss => exact execSmHeartbeatMiss_keeps.family rfl
  | pmbusPoll => exact execPmbusPoll_keeps.family rfl
  | mgmtPortLinkChange => exact execMgmtPortLinkChange_keeps.family rfl
  | trHeadWrite => exact execTrHeadWrite_keeps.family rfl
  | qHeadWrite => exact execQHeadWrite_keeps.family rfl
  | evtForce => exact execEvtForce_keeps.family rfl
  | loReadLatch => exact execLoReadLatch_keeps.family rfl
  | cadEntryRead => exact execCadEntryRead_keeps.family rfl
  | epPerstNRelease => exact execEpPerstNRelease_keeps.family rfl
  | hostReadCompletion => exact execHostReadCompletion_keeps.family rfl
  | nvmeDoorbell => exact execNvmeDoorbell_keeps.family rfl
  | ideKm => exact execIdeKm_keeps.family rfl
  | driveReady => exact execDriveReady_keeps.family rfl
  | sidebandEdge => exact execSidebandEdge_keeps.family rfl
  | changeoverComplete => exact execChangeoverComplete_keeps.family rfl
  | returnToATimeout => exact execReturnToATimeout_keeps.family rfl
  | resetHoldExpire => exact execResetHoldExpire_keeps.family rfl
  | rnrTimerExpire => exact execRnrTimerExpire_keeps.family rfl
  | asynchronousEventRequest => exact execAsynchronousEventRequest_keeps.family rfl
  | mctpEidAssign => exact execMctpEidAssign_keeps.family rfl

/-- Settles O12, from the `Keeps` mask of each command. -/
theorem everyFamilyStaysWithinItsParts : Obligations.EveryFamilyStaysWithinItsParts :=
  exec_stands_familyKept

end Sys2Proof.Machine
end

section
/-!
PROOF. Joining, preempting and seeking (O45).
-/
namespace Sys2Proof.Machine

/-! ### HELLO (R358) -/

/-- What a HELLO says of the partner is noted before its checks. -/
def helloNoted (version setId datum : Nat) (s : State) : State :=
  { s with pair := { s.pair with partnerVersion := some version, partnerSet := setId, partnerDatum := datum } }

/-- A HELLO that passed waits to be acted on. -/
def helloWaits (epoch : Nat) (s : State) : State := { s with pair := { s.pair with helloWait := some epoch } }

/-- A HELLO that passed no longer waits, and the epoch is the later of the two. -/
def helloTaken (epoch : Nat) (s : State) : State :=
  { s with pair := { s.pair with helloWait := none, epoch := max s.pair.epoch epoch } }

/-- What the outcome of the checks brings: the event with the number of the one that failed, a conflict for the same index, or a join. -/
def helloActed (ctrl epoch : Nat) (check : Option Nat) (s : State) : State :=
  match check with
  | some 1 => raise 0x5108 [1] (ctrlConflict ctrl s)
  | some n => raise 0x5108 [n] s
  | none => if s.pair.state = 5 ∨ s.pair.state = 1 then joinTry (helloWaits epoch s) else s

theorem execHello_eq {ctrl version setId epoch datum : Nat} {paired : Bool} {s : State} (hl : s.zeb.lanes ≠ 0) :
    execHello ctrl version setId epoch datum paired s =
      .next (helloActed ctrl epoch (joinCheck s ctrl version setId paired) (helloNoted version setId datum s)) := by
  unfold execHello
  rw [if_neg hl]
  rfl

theorem joinCheck_sameIndex {ctrl : Nat} {s : State} (h : ctrl = s.pwr.ctrlId) (version setId : Nat) (paired : Bool) :
    joinCheck s ctrl version setId paired = some 1 := if_pos h

theorem joinCheck_version {ctrl version : Nat} {s : State} (h : ctrl ≠ s.pwr.ctrlId) (hv : version ≠ 1) (setId : Nat)
    (paired : Bool) : joinCheck s ctrl version setId paired = some 2 := by
  rw [joinCheck, if_neg h, if_pos hv]

theorem joinCheck_unpaired {ctrl : Nat} {s : State} (h : ctrl ≠ s.pwr.ctrlId) (setId : Nat) :
    joinCheck s ctrl 1 setId false = some 3 := by
  simp [joinCheck, h]

theorem joinCheck_otherSet {ctrl setId : Nat} {s : State} (h : ctrl ≠ s.pwr.ctrlId) (hp : s.pairedNow = true)
    (hs : setId ≠ s.store.setId) (h0 : setId ≠ 0) (h1 : s.store.setId ≠ 0) : joinCheck s ctrl 1 setId true = some 4 := by
  simp [joinCheck, h, hp, hs, h0, h1]

theorem joinCheck_passes {ctrl : Nat} {s : State} (h : ctrl ≠ s.pwr.ctrlId) (hp : s.pairedNow = true) :
    joinCheck s ctrl 1 s.store.setId true = none := by
  simp [joinCheck, h, hp]

theorem helloActed_idle {ctrl epoch : Nat} {s : State} (h1 : s.pair.state ≠ 1) (h5 : s.pair.state ≠ 5) :
    helloActed ctrl epoch none s = s := by
  simp [helloActed, h1, h5]

/-- A HELLO that passes waits for the pair session (check 5). -/
theorem helloActed_noSession {ctrl epoch : Nat} {s : State} (h : s.pair.state = 1 ∨ s.pair.state = 5)
    (hz : s.zeb.session = false) : helloActed ctrl epoch none s = helloWaits epoch s := by
  simp [helloActed, joinTry, helloWaits, h.symm, hz]

/-- The survivor of a lost partner is the survivor of the join. -/
theorem helloActed_partnerLost {ctrl epoch : Nat} {s : State} (h5 : s.pair.state = 5) (hz : s.zeb.session = true) :
    helloActed ctrl epoch none s = joinBegin true (helloTaken epoch s) := by
  simp [helloActed, joinTry, helloWaits, helloTaken, h5, hz]

/-- In SEEKING a HELLO waits for a RANGE as well. -/
theorem helloActed_noRange {ctrl epoch : Nat} {s : State} (h1 : s.pair.state = 1) (hr : s.pair.ranging = false) :
    helloActed ctrl epoch none s = helloWaits epoch s := by
  simp [helloActed, joinTry, helloWaits, h1, hr]

/-- Of two seekers controller 0 is the survivor, unless its partner serves. -/
theorem helloActed_seeking {ctrl epoch : Nat} {s : State} (h1 : s.pair.state = 1) (hz : s.zeb.session = true)
    (hr : s.pair.ranging = true) :
    helloActed ctrl epoch none s = joinBegin (!isCtrl1 s && !partnerServes s) (helloTaken epoch s) := by
  simp [helloActed, joinTry, helloWaits, helloTaken, isCtrl1, partnerServes, h1, hz, hr]

/-! ### Ranging and sensing (R341, R342) -/

theorem zsend_out_of_up {m : ZMsg} {s : State} (h : zebUp s = true) : (zsend m s).out = s.out ++ [.zeber m] := by
  simp [zsend, zebWire, h]

theorem execPairSenseTimeout_idle {high : Bool} {s : State} (hr : s.pair.ranging = false) :
    execPairSenseTimeout high s = .next { s with pair := { s.pair with
      sense := b2n high, senseHigh := high
      absentSince := if high then 0 else if s.pair.sense = 0 ∧ s.pair.absentSince ≠ 0 then s.pair.absentSince else s.time } } := by
  cases high <;> simp [execPairSenseTimeout, hr, b2n]

/-! ### Preemption (R353) -/

/-- The count of a preemption is taken, and who has won. -/
def preemptCounted (won : Nat) (win : Bool) (s : State) : State :=
  { s with pair := { s.pair with preempt := none, arbWon := won, arbActive := (activeMembers s).length, arbWin := win } }

/-- A preemption is won by a majority of the ACTIVE members, or by half at controller 0. -/
def preemptWins (won : Nat) (s : State) : Bool :=
  decide ((activeMembers s).length < 2 * won) || (2 * won == (activeMembers s).length && !isCtrl1 s)

/-- The winner preempts again on a member, where the command does not tell which were won, and takes its reservation. -/
def preemptTake (won total : Nat) (s : State) (b : Nat) : State :=
  issueOp b 3 (pairKey s s.pwr.ctrlId) (if won = total then s
    else issueOp b 2 (pairKey s (1 - s.pwr.ctrlId)) (issueOp b 1 (pairKey s s.pwr.ctrlId) s))

theorem execPreemptionDone_eq {won : Nat} {why : PreemptWhy} {s : State} (hp : s.pair.preempt = some why) :
    execPreemptionDone won s = .next (
      if !preemptWins won s then fenced won (activeMembers s).length (preemptCounted won (preemptWins won s) s)
      else partnerLost (if why = .arbitration then 2 else 1)
        ((activeMembers (preemptCounted won (preemptWins won s) s)).foldl
          (preemptTake won (activeMembers s).length) (preemptCounted won (preemptWins won s) s))) := by
  unfold execPreemptionDone
  rw [hp]
  rfl

theorem preemptTake_pair (won total b : Nat) (s : State) : (preemptTake won total s b).pair = s.pair := by
  unfold preemptTake
  rw [issueOp_pair]
  split <;> simp

theorem preemptTakes_pair (won total : Nat) (bs : List Nat) (s : State) :
    (bs.foldl (preemptTake won total) s).pair = s.pair := by
  induction bs generalizing s with
  | nil => rfl
  | cons b bs ih => rw [List.foldl_cons, ih, preemptTake_pair]

/-- A preemption that is not won ends FENCED. -/
theorem execPreemptionDone_lost {won : Nat} {why : PreemptWhy} {s : State} (hp : s.pair.preempt = some why)
    (hw : preemptWins won s = false) :
    execPreemptionDone won s = .next (fenced won (activeMembers s).length (preemptCounted won false s)) := by
  simp only [execPreemptionDone_eq hp, hw, Bool.not_false, if_true]

/-- A preemption won leaves the partner lost. -/
theorem execPreemptionDone_won {won : Nat} {why : PreemptWhy} {s : State} (hp : s.pair.preempt = some why)
    (hw : preemptWins won s = true) :
    ∃ u, execPreemptionDone won s = .next (partnerLost (if why = .arbitration then 2 else 1) u) ∧
      u.pair = (preemptCounted won true s).pair := by
  rw [execPreemptionDone_eq hp, hw, Bool.not_true, if_neg Bool.false_ne_true]
  refine ⟨_, rfl, ?_⟩
  exact preemptTakes_pair ..

/-- Settles O45: the checks of R358 in their order, then each timer and answer by the branch its hypotheses name. -/
theorem joiningPreemptingAndSeeking : Obligations.JoiningPreemptingAndSeeking := by
  intro s
  refine ⟨fun ctrl ver set ep dat paired hl => ⟨fun hc => ?conflict, fun hc hv => ?version, ?unpaired, ?otherSet, ?passed⟩,
    fun hp hu ha => ⟨fun hs => ?stopped, fun hs => ?ranges⟩, rfl, fun high hr => ?sense, fun hr => ?notRanging,
    fun hr h2 => ?joinOver, fun hw => ?arbitration, fun won why hp => ⟨fun hw => ?minority, fun hw hc => ?half, fun hw => ?won⟩,
    fun h1 hp => ⟨fun ha => ?armed, fun ha => ?unarmed⟩⟩
  case conflict => exact (execHello_eq hl).trans (by rw [joinCheck_sameIndex hc]; rfl)
  case version => exact (execHello_eq hl).trans (by rw [joinCheck_version hc hv]; rfl)
  case unpaired =>
    rintro hc rfl
    exact (execHello_eq hl).trans (by rw [joinCheck_unpaired hc]; rfl)
  case otherSet => exact fun hc hp hs h0 h1 => (execHello_eq hl).trans (by rw [joinCheck_otherSet hc hp hs h0 h1]; rfl)
  case passed =>
    rintro hc hp rfl
    have e := execHello_eq (ctrl := ctrl) (version := 1) (setId := s.store.setId) (epoch := ep) (datum := dat) (paired := true) hl
    rw [joinCheck_passes hc hp] at e
    refine ⟨fun h1 h5 => ?_, fun h hz => ?_, fun h5 hz => ?_, fun h1 hz hr => ?_, fun h1 hz hr => ?_⟩
    · exact e.trans (congrArg _ (helloActed_idle h1 h5))
    · exact e.trans (congrArg _ (helloActed_noSession h hz))
    · exact e.trans (congrArg _ (helloActed_partnerLost h5 hz))
    · exact e.trans (congrArg _ (helloActed_noRange h1 hr))
    · exact e.trans (congrArg _ (helloActed_seeking h1 hz hr))
  case stopped => exact show execRangeSendTimer s = _ by simp [execRangeSendTimer, hs]
  case ranges =>
    have e : execRangeSendTimer s = .next (zsend (.range s.time s.pair.state s.pair.sense s.pair.lastRange
        (cfg s Reg.CACHE_DIRTY_LIMIT_MIB) (cfg s Reg.CACHE_HOLDUP_US)) s) := by
      simp [execRangeSendTimer, hp, hu, ha, hs]
    exact ⟨_, _, _, e, zsend_out_of_up hu⟩
  case sense => exact ⟨_, execPairSenseTimeout_idle hr, rfl, rfl, upd_pair.only rfl⟩
  case notRanging => exact show execRangingTimeout s = _ by simp [execRangingTimeout, hr]
  case joinOver =>
    refine ⟨wr Reg.PAIR_LAST_DETECT_US ((s.time - s.pair.lastRange) / 1000)
      { s with pair := { s.pair with ranging := false, detectUs := (s.time - s.pair.lastRange) / 1000 } }, ?_, rfl, h2,
      (Keeps.step (M := 32769) wr_keeps rfl (upd_pair.widen rfl)).only rfl⟩
    exact show execRangingTimeout s = _ by simp [execRangingTimeout, hr, h2]
  case arbitration => exact show execArbDelayEnd s = _ by simp [execArbDelayEnd, hw]
  case minority => exact execPreemptionDone_lost hp (by simp [preemptWins, Nat.not_lt.mpr (Nat.le_of_lt hw), Nat.ne_of_lt hw])
  case half => exact execPreemptionDone_lost hp (by simp [preemptWins, isCtrl1, hw, hc])
  case won =>
    obtain ⟨u, e, hu⟩ := execPreemptionDone_won hp (by simpa [preemptWins, isCtrl1] using hw)
    exact ⟨u, e, by rw [hu]; rfl, by rw [hu]; rfl⟩
  case armed => exact show execSeekingTimeout s = _ by simp [execSeekingTimeout, h1, hp, ha]
  case unarmed => exact show execSeekingTimeout s = _ by simp [execSeekingTimeout, h1, hp, ha]

end Sys2Proof.Machine
end

section
/-!
PROOF. The admission of a capsule: what its arrival, its turn and its parsing do, for the commands of a queue (O18) and for traverses and
windows (O26).
-/
namespace Sys2Proof.Machine

/-- A host's I/O command is its capsule's arrival on its queue. -/
theorem exec_hostCommand {c : Instr} {q : Nat} {cap : Capsule} (h : hostCommand c = some (q, cap)) (s : State) :
    exec c s = .next (submit q cap s) := by
  unfold hostCommand at h
  split at h
  case h_1 q' cid nsid opc fuse slba nlb =>
    show execRead q' cid nsid opc fuse slba nlb s = _
    unfold execRead
    split at h
    · next hf => rw [if_pos hf]; cases h; rfl
    · next hf =>
      split at h
      · next h2 => rw [if_neg hf, if_pos h2]; cases h; rfl
      · cases h
  case h_16 => cases h
  all_goals cases h; rfl

@[simp] theorem queueAssoc_holdCapsule (q r : Nat) (cap : Capsule) (x : Queue) (s : State) :
    queueAssoc (holdCapsule q cap x s) r = queueAssoc s r := rfl

@[simp] theorem queue_holdCapsule (q : Nat) (cap : Capsule) (x : Queue) (s : State) :
    tget (holdCapsule q cap x s).nvm.queues q = some { x with held := [cap], heldSince := s.time } := tget_tset_same ..

/-! ### Arrival (R41, R56) -/

section
variable {q : Nat} {cap : Capsule} {x : Queue} {a : Assoc} {s t : State} (hx : tget s.nvm.queues q = some x)
  (ha : queueAssoc s q = some a) (hr : (tcount s.nvm.ctxs fun _ k => k.q == q) + x.held.length < x.size)
include hx ha hr

/-- Behind others a capsule takes its place in its queue. -/
theorem submit_behind (hh : x.held ≠ []) :
    submit q cap s = { s with nvm := { s.nvm with queues := tset s.nvm.queues q { x with held := x.held ++ [cap] } } } := by
  simp only [submit, hx, ha, if_neg (Nat.not_le.mpr hr), if_neg hh]

/-- A capsule that nothing holds is parsed at once. -/
theorem submit_front (hh : x.held = []) : submit q cap s = (admitHead q (holdCapsule q cap x s)).2 := by
  rw [hh] at hr
  simp only [submit, hx, ha, hh, if_neg (Nat.not_le.mpr hr), if_true, List.nil_append]
  rfl

/-- Once parsed, the capsule of a host's command leaves its queue and the bounds are reported. -/
theorem exec_parsed {c : Instr} (hc : hostCommand c = some (q, cap)) (hh : x.held = [])
    (hm : mayParse (holdCapsule q cap x s) a.host = true)
    (hp : parse (baseCtx q a.host cap.cid) a.subsys cap (holdCapsule q cap x s) = some t) :
    exec c s = .next (boundCheck a.host (popCapsule q t)) := by
  rw [exec_hostCommand hc, submit_front hx ha hr hh]
  simp only [admitHead, queue_holdCapsule, queueAssoc_holdCapsule, ha, hm, hp, Bool.not_true, Bool.false_eq_true, if_false]
  rfl

end

/-! ### Parsing at the owner (R41 to R43, R157, R205) -/

/-- A number drawn is the namespace's next. -/
theorem stamp_some {slot adm : Nat} {n : Ns} {s t : State} (hn : nsAt s slot = some n) (h : stamp slot s = (some adm, t)) :
    adm = n.adm + 1 := by
  have h1 : (stamp slot s).1 = some adm := by rw [h]
  simp only [stamp, hn, apply_ite Prod.fst, Option.ite_none_left_eq_some, Option.some.injEq] at h1
  exact h1.2.symm

theorem parse_other {base : Ctx} {subsys opc : Nat} {cap : Capsule} {s : State} (h : cap.op = .other opc) :
    parse base subsys cap s = some (sendOutcome base 0 0x01 none 0 0 s) := by
  rw [parse, h]
  rfl

/-- A command that draws a number, for a namespace owned and ready here, takes a context that carries the number, and starts. -/
theorem parse_owner {base : Ctx} {subsys slot adm : Nat} {cap : Capsule} {n : Ns} {s t : State} (hs : opStamps cap.op = true)
    (hw : opWindow cap.op = none) (hat : attachedSlot s subsys base.host cap.nsid = some slot) (hn : nsAt s slot = some n)
    (hm : n.moving = false) (hh : n.admHold = false) (ho : ownsNs s n = true) (hr : n.ready = true) (hv : servesNow s = true)
    (hd : stamp slot s = (some adm, t)) :
    parse base subsys cap s =
      some (startOp t.nvm.nextCtx slot n base.host cap.op (newCtx (ctxFor base slot adm cap.op) t).2) := by
  have hadmit : ownerAdmit base slot n cap.op s =
      some (startOp t.nvm.nextCtx slot n base.host cap.op (newCtx (ctxFor base slot adm cap.op) t).2) := by
    simp only [ownerAdmit, hm, hh, hs, hd, Bool.false_eq_true, or_self, if_false, Bool.not_true, newCtx]
  rw [← hadmit]
  unfold parse
  split
  · next e => rw [e] at hs; cases hs
  · next e => rw [e] at hs; cases hs
  · simp [hw, hat, hn, hm, ho, hr, hv]

/-- A traverse for a namespace owned and ready here takes a context with no number and is checked. -/
theorem parse_traverse {base : Ctx} {cid nsid subsys tid nd len fuse slot : Nat} {n : Ns} {s : State}
    (hat : attachedSlot s subsys base.host nsid = some slot) (hn : nsAt s slot = some n) (hm : n.moving = false)
    (ho : ownsNs s n = true) (hr : n.ready = true) (hv : servesNow s = true) :
    parse base subsys { cid := cid, nsid := nsid, op := .traverse tid nd len fuse } s =
      some (travAdmit s.nvm.nextCtx base.host subsys tid nd len fuse
        (newCtx (ctxFor base slot 0 (.traverse tid nd len fuse)) s).2) := by
  simp [parse, hat, hn, hm, ho, hr, hv, newCtx]

/-- Settles O18: each command is its capsule's arrival, which is then parsed by what it is. -/
theorem ioCommandsAreAdmittedNumberedAndStarted : Obligations.IoCommandsAreAdmittedNumberedAndStarted := by
  intro s c q cap x a hc hx ha hr
  refine ⟨fun hh => ?behind, fun slot n adm u hh hm hat hn hmv hah ho hrd hv hs hw hd => ⟨?number, ?admitted⟩,
    fun op hop hh hm => ?unsupported, rfl⟩
  case behind => rw [exec_hostCommand hc, submit_behind hx ha hr hh]
  case number => exact stamp_some (s := holdCapsule q cap x s) hn hd
  case admitted => exact exec_parsed hx ha hr hc hh hm (parse_owner hs hw hat hn hmv hah ho hrd hv hd)
  case unsupported => exact exec_parsed hx ha hr hc hh hm (parse_other hop)

end Sys2Proof.Machine
end

section
/-!
PROOF. What a started command does first (O19): the checks of admission in their order, then the start of its work.
-/
namespace Sys2Proof.Machine

section
variable {id slot host a nlb : Nat} {n : Ns} {op : IoOp} {s : State}

/-- A read, write or zeroes whose range passes `NSZE` ends with LBA Out of Range (R30). -/
theorem startOp_outOfRange (hop : op = .read a nlb ∨ op = .write a nlb ∨ op = .zeroes a nlb) (h : n.nsze < a + nlb) :
    startOp id slot n host op s = finish id 0 0x80 none 0 0 s := by
  obtain rfl | rfl | rfl := hop <;> simp [startOp, opRanges, h]

/-- A read or write of more than `MDTS` ends with Invalid Field (R30). -/
theorem startOp_tooBig (hop : op = .read a nlb ∨ op = .write a nlb) (h : a + nlb ≤ n.nsze) (hb : 512 < nlb) :
    startOp id slot n host op s = finish id 0 0x02 none 0 0 s := by
  obtain rfl | rfl := hop <;> simp [startOp, opRanges, opTooBig, Nat.not_lt.mpr h, hb]

/-- A write within its namespace and within `MDTS` meets the reservation, then the stake requirement, and then pulls its data
(R43, R54, R74). -/
theorem startOp_write (h : a + nlb ≤ n.nsze) (hb : nlb ≤ 512) : startOp id slot n host (.write a nlb) s =
    if resvRefuses n.resv host true then finish id 0 0x83 none 0 0 s
    else if n.stakeMode then finish id 7 0x81 (some true) 0 0 (bumpAt Reg.NSMGR_NS_STAKE_REFUSED slot 1 s)
    else pullData id s := by
  simp [startOp, opRanges, opTooBig, opWriter, opPlain, Nat.not_lt.mpr h, Nat.not_lt.mpr hb]

/-- A read within its namespace and within `MDTS` meets the reservation, and then waits for earlier overlapping writers or pins its
versions (R43, R45). -/
theorem startOp_read (h : a + nlb ≤ n.nsze) (hb : nlb ≤ 512) : startOp id slot n host (.read a nlb) s =
    if resvRefuses n.resv host false then finish id 0 0x83 none 0 0 s
    else if writerBefore s slot ((ctxAt s id).elim 0 fun c => c.adm) [(a, nlb)] then s
    else pinReader id s := by
  simp only [startOp, opRanges, List.any_cons, Nat.not_lt.mpr h, decide_false, List.any_nil, Bool.or_self, Bool.false_eq_true,
    and_false, if_false, opTooBig, Nat.not_lt.mpr hb, opWriter, Bool.false_and, Bool.false_or, Bool.true_and, opPlain, false_and]
  rfl

/-- A flush has no range and no data: it waits for earlier writers alone (R42). -/
theorem startOp_flush : startOp id slot n host .flush s =
    if flushClear s slot ((ctxAt s id).elim 0 fun c => c.adm) then finish id 0 0 (some false) 0 0 s else s := by
  simp [startOp, opRanges, opTooBig, opWriter, opPlain]

end

/-- Settles O19: each command's checks in their order, read off by the hypothesis that decides each. -/
theorem aStartedCommandMeetsItsChecks : Obligations.AStartedCommandMeetsItsChecks := by
  intro s id slot host a nlb n c hc
  refine ⟨fun h => ⟨?_, ?_, ?_⟩, fun h hb => ⟨?_, ?_⟩,
    fun h hb => ⟨fun hr => ?wConflict, fun hr hk => ?wStakes, fun hr hk => ?wPulls, fun hr => ?rConflict, fun hr => ?rPins⟩, ?flush⟩
  · exact startOp_outOfRange (.inl rfl) h
  · exact startOp_outOfRange (.inr (.inl rfl)) h
  · exact startOp_outOfRange (.inr (.inr rfl)) h
  · exact startOp_tooBig (.inl rfl) h hb
  · exact startOp_tooBig (.inr rfl) h hb
  case wConflict => rw [startOp_write h hb, if_pos hr]
  case wStakes => rw [startOp_write h hb, hr, if_neg Bool.false_ne_true, if_pos hk]
  case wPulls => rw [startOp_write h hb, hr, hk, if_neg Bool.false_ne_true, if_neg Bool.false_ne_true]
  case rConflict => rw [startOp_read h hb, if_pos hr]
  case rPins => rw [startOp_read h hb, hr, if_neg Bool.false_ne_true, hc]; rfl
  case flush => rw [startOp_flush, hc]; rfl

end Sys2Proof.Machine
end

section
/-!
PROOF. Traverses, window and key commands: their admission and their first checks (O26).
-/
namespace Sys2Proof.Machine

/-! ### Admission by the window a command names (R205 to R207) -/

section
variable {base : Ctx} {cid nsid subsys w : Nat} {s : State}

/-- A key is created with no number, under the slot of its window. -/
theorem parse_keyCreate {rights off len : Nat} {ho : Bool} :
    parse base subsys { cid := cid, nsid := nsid, op := .keyCreate rights ho w off len } s =
      some (keyCreateAdmit s.nvm.nextCtx base.host rights ho w off len
        (newCtx (ctxFor base (winAt s w).slot 0 (.keyCreate rights ho w off len)) s).2) := by
  simp [parse, opWindow, windowAdmit, newCtx]

theorem parse_keyRevoke {k : Nat} :
    parse base subsys { cid := cid, nsid := nsid, op := .keyRevoke k } s =
      some (keyRevokeAdmit s.nvm.nextCtx subsys k (newCtx (ctxFor base (winAt s 0).slot 0 (.keyRevoke k)) s).2) := by
  simp [parse, opWindow, windowAdmit, newCtx]

/-- An unbinding of a window that is not BOUND draws no number, and is refused with reason 6. -/
theorem parse_unbind_notBound (hw : w < 4096) (h : (winAt s w).state ≠ 2) :
    parse base subsys { cid := cid, nsid := nsid, op := .unbind w } s =
      some (winRefuse s.nvm.nextCtx 6 (newCtx (ctxFor base (winAt s w).slot 0 (.unbind w)) s).2) := by
  have hadmit (c : Ctx) : unbindAdmit s.nvm.nextCtx w (newCtx c s).2 = winRefuse s.nvm.nextCtx 6 (newCtx c s).2 := by
    rw [unbindAdmit, if_neg (Nat.not_le.mpr hw), if_pos (show (winAt (newCtx c s).2 w).state ≠ 2 from h)]
  rw [← hadmit]
  simp [parse, opWindow, windowAdmit, newCtx, h]

/-- An unbinding of a BOUND window owned here draws a number in the window's namespace and writes over the window's range. -/
theorem parse_unbind_bound {adm : Nat} {n : Ns} {t : State} (hw : w < 4096) (h : (winAt s w).state = 2)
    (hn : nsAt s (winAt s w).slot = some n) (hm : n.moving = false) (hh : n.admHold = false) (ho : ownsNs s n = true)
    (hd : stamp (winAt s w).slot s = (some adm, t)) :
    parse base subsys { cid := cid, nsid := nsid, op := .unbind w } s =
      some (unbindAdmit t.nvm.nextCtx w (newCtx { ctxFor base (winAt s w).slot adm (.unbind w) with
        ranges := [((winAt s w).slba, (winAt s w).pages * 512)] } t).2) := by
  simp [parse, opWindow, windowAdmit, newCtx, h, hn, hm, hh, ho, hd, Nat.not_le.mpr hw]

end

/-- A started BIND meets the checks of Table 3 (R206). -/
theorem startOp_bind {id slot host policy w stall slba size : Nat} {n : Ns} {pin : Bool} {s : State} :
    startOp id slot n host (.winBind 1 policy pin w stall slba size) s = bindAdmit id slot policy pin w stall slba size s := by
  simp [startOp, opTooBig, opPlain]

/-! ### The checks of a traverse's capsule (R157, R159, R169) -/

/-- A traverse as its capsule enters it. -/
def travNew (ctx host subsys tid nd len : Nat) : Trav :=
  { ctx := ctx, host := host, subsys := subsys, travId := tid, ndesc := nd, len := len }

/-- The state in which a traverse has been entered under the next number. -/
def travEntered (ctx host subsys tid nd len : Nat) (s : State) : State :=
  setTrav s.trav.nextId (travNew ctx host subsys tid nd len) { s with trav := { s.trav with nextId := s.trav.nextId + 1 } }

/-- Another open traverse of the same host and ID is in flight here. -/
def travDuplicate (t host tid : Nat) (s : State) : Bool :=
  s.trav.open_.any fun p => p.1 != t && p.2.remote == none && p.2.host == host && p.2.travId == tid && p.2.state != .closed

/-- The notice that the open limit is reached (R160). -/
def travOpened (s : State) : State :=
  if travOpen s = 65536 then raise 0x2601 (leBytes 4 s.trav.refusedSince) { s with trav := { s.trav with refusedSince := 0 } } else s

/-- The state in which a traverse that has been entered waits for its duplicate. -/
def travWaits (ctx host subsys tid nd len : Nat) (s : State) : State :=
  setTrav s.trav.nextId { travNew ctx host subsys tid nd len with state := .waitDup } (travEntered ctx host subsys tid nd len s)

/-- A traverse that passed its checks meets the outcome memory and its duplicates: it is answered, waits, or has its table pulled (R169). -/
def travTaken (ctx host subsys tid nd len : Nat) (s : State) : State :=
  let u := travEntered ctx host subsys tid nd len s
  match outcomeOf s host tid with
  | some o => travAnswer s.trav.nextId o u
  | none => travOpened (if travDuplicate s.trav.nextId host tid u then travWaits ctx host subsys tid nd len s
      else travPull s.trav.nextId u)

section
variable {ctx host subsys tid nd len fuse : Nat} {s : State}

theorem travTaken_recorded {o : Outcome} (h : outcomeOf s host tid = some o) :
    travTaken ctx host subsys tid nd len s = travAnswer s.trav.nextId o (travEntered ctx host subsys tid nd len s) := by
  rw [travTaken, h]

/-- Below the open limit nothing is noticed. -/
theorem travOpened_below {s : State} (h : travOpen s ≠ 65536) : travOpened s = s := if_neg h

theorem travTaken_duplicate (h : outcomeOf s host tid = none)
    (hd : travDuplicate s.trav.nextId host tid (travEntered ctx host subsys tid nd len s) = true)
    (ho : travOpen (travWaits ctx host subsys tid nd len s) ≠ 65536) :
    travTaken ctx host subsys tid nd len s = travWaits ctx host subsys tid nd len s := by
  rw [travTaken, h]
  dsimp only
  rw [if_pos hd, travOpened_below ho]

theorem travTaken_pulls (h : outcomeOf s host tid = none)
    (hd : travDuplicate s.trav.nextId host tid (travEntered ctx host subsys tid nd len s) = false)
    (ho : travOpen (travPull s.trav.nextId (travEntered ctx host subsys tid nd len s)) ≠ 65536) :
    travTaken ctx host subsys tid nd len s = travPull s.trav.nextId (travEntered ctx host subsys tid nd len s) := by
  rw [travTaken, h]
  dsimp only
  rw [if_neg (Bool.eq_false_iff.mp hd), travOpened_below ho]

/-- With traverses enabled, a capsule is checked, and then meets the bound and the vault. -/
theorem travAdmit_eq (hc : bitAt (cfg s Reg.TRAV_TRAV_CTL) 0 = true) : travAdmit ctx host subsys tid nd len fuse s =
    let u := travEntered ctx host subsys tid nd len s
    if fuse ≠ 0 ∨ tid = 0 ∨ 79 < nd ∨ len ≠ 64 * (nd + 1) then travRefuse s.trav.nextId 0 0x02 none 0 u
    else if !decide (travOpen s < 65536) then
      travRefuse s.trav.nextId 7 0x85 (some true) 4 { u with trav := { u.trav with refusedSince := u.trav.refusedSince + 1 } }
    else if s.trav.refusing then travRefuse s.trav.nextId 7 0x86 (some false) 4 u
    else travTaken ctx host subsys tid nd len s := by
  have hu : ¬(!bitAt (cfg (travEntered ctx host subsys tid nd len s) Reg.TRAV_TRAV_CTL) 0) = true := by
    rw [show cfg (travEntered ctx host subsys tid nd len s) = cfg s from rfl, hc]
    exact Bool.false_ne_true
  exact (if_neg hu).trans rfl

theorem travAdmit_malformed (hc : bitAt (cfg s Reg.TRAV_TRAV_CTL) 0 = true)
    (h : fuse ≠ 0 ∨ tid = 0 ∨ 79 < nd ∨ len ≠ 64 * (nd + 1)) : travAdmit ctx host subsys tid nd len fuse s =
      travRefuse s.trav.nextId 0 0x02 none 0 (travEntered ctx host subsys tid nd len s) :=
  (travAdmit_eq hc).trans (if_pos h)

/-- A well-formed traverse, with room and the vault not short, is taken. -/
theorem travAdmit_wellFormed (hc : bitAt (cfg s Reg.TRAV_TRAV_CTL) 0 = true) (hf : fuse = 0) (hi : tid ≠ 0) (hd : nd ≤ 79)
    (hl : len = 64 * (nd + 1)) (ho : travOpen s < 65536) (hv : s.trav.refusing = false) :
    travAdmit ctx host subsys tid nd len fuse s = travTaken ctx host subsys tid nd len s := by
  refine (travAdmit_eq hc).trans ?_
  simp only [ho, hv, decide_true, Bool.not_true, Bool.false_eq_true, if_false]
  exact if_neg (by omega)

end

/-! ### The checks of a key (R206, R217) -/

/-- The record of a key's creation, by which it becomes VALID under its next tag at both controllers. -/
def keyCreated (id k : Nat) (y : Key) (s : State) : State :=
  requestRecord (.keyCreate k y) (.ctx id (k * 4096 + y.tag) 0) (fun t => keysFull (setKeyEnt k { y with tCreate := t.time } t))
    (fun t => finish id 0 0 (some false) (k * 4096 + y.tag) 0 t) (modCtx id (fun c => { c with state := .bindWait }) s)

section
variable {id host rights w off len k : Nat} {ho : Bool} {s : State} (hw : w < 4096)
  (hr : ∀ x ∈ s.pair.records, ∀ i y, x.2.what ≠ .keyCreate i y) (hk : firstIdx 1048576 (fun k => (keyAt s k).state == 0) = some k)
include hw hr hk

/-- With a key free, a create meets its window, then its rights and range, then `KEYS_CTL`. -/
theorem keyCreateAdmit_eq : keyCreateAdmit id host rights ho w off len s =
    if (winAt s w).state ≠ 2 then winRefuse id 6 s
    else if rights % 16 = 0 ∨ len = 0 ∨ (winAt s w).pages * 2097152 < off + len then winRefuse id 10 s
    else if !bitAt (cfg s Reg.KEYS_KEYS_CTL) 0 then winRefuse id 11 s
    else keyCreated id k { state := 1, rights := rights % 16, hostOnly := ho, tag := (keyAt s k).tag % 4095 + 1, win := w, host := host
                           offset := off, length := len, tCreate := s.time } s := by
  unfold keyCreateAdmit
  rw [if_neg (Nat.not_le.mpr hw)]
  extract_lets x asked
  have hasked (j : Nat) : asked j = false := by
    refine List.any_eq_false.mpr fun r hmem => ?_
    split
    · next i y e => exact absurd e (hr r hmem i y)
    · exact Bool.false_ne_true
  simp only [hasked, Bool.not_false, Bool.and_true, hk]
  rfl

end

/-- Settles O26: each command is its capsule's arrival, parsed by what it is; then the checks of a traverse and of a key in their order. -/
theorem traversesAndWindowCommandsAreAdmitted : Obligations.TraversesAndWindowCommandsAreAdmitted := by
  intro s
  refine ⟨fun q cid x a hx ha hh hr => ?queue, fun id slot n host policy pin w stall slba size => startOp_bind,
    fun ctx host subsys tid nd len fuse hc => ⟨travAdmit_malformed hc, fun hf hi hd hl ho hv => ?wellFormed⟩,
    fun id host rights ho w off len k hw hrec hk => ?key⟩
  case queue =>
    have hroom : (tcount s.nvm.ctxs fun _ k => k.q == q) + x.held.length < x.size := by simpa [hh] using hr
    refine ⟨?traverse, ?create, ?revoke, ?unbind⟩
    case traverse =>
      rintro nsid tid nd len fuse slot n _ _ rfl rfl hm hat hn hmv ho hrd hv
      exact exec_parsed hx ha hroom rfl hh hm (parse_traverse hat hn hmv ho hrd hv)
    case create =>
      rintro rights ho w off len _ _ rfl rfl hm
      exact exec_parsed hx ha hroom rfl hh hm parse_keyCreate
    case revoke =>
      rintro k _ _ rfl rfl hm
      exact exec_parsed hx ha hroom rfl hh hm parse_keyRevoke
    case unbind =>
      rintro w _ _ rfl rfl hm hw
      refine ⟨fun hb => exec_parsed hx ha hroom rfl hh hm (parse_unbind_notBound hw hb), fun n adm v hb hn hmv hah ho hd => ?_⟩
      exact ⟨{ ctxFor (baseCtx q a.host cid) (winAt s w).slot adm (.unbind w) with
          ranges := [((winAt s w).slba, (winAt s w).pages * 512)] }, rfl, rfl,
        exec_parsed hx ha hroom rfl hh hm (parse_unbind_bound hw hb hn hmv hah ho hd)⟩
  case wellFormed =>
    have e := travAdmit_wellFormed (ctx := ctx) (host := host) (subsys := subsys) hc hf hi hd hl ho hv
    exact ⟨fun o h => e.trans (travTaken_recorded h), fun h hdup hroom => e.trans (travTaken_duplicate h hdup hroom),
      fun h hdup hroom => e.trans (travTaken_pulls h hdup hroom)⟩
  case key =>
    refine ⟨fun hs => ?_, fun hs h0 => ?_, fun hs h0 hl hoff hc => ?_⟩
    · rw [keyCreateAdmit_eq hw hrec hk, if_pos hs]
    · rw [keyCreateAdmit_eq hw hrec hk, if_neg (by simpa using hs), if_pos (.inl h0)]
    · rw [keyCreateAdmit_eq hw hrec hk, if_neg (by simpa using hs), if_neg (by omega), if_neg (by simpa using hc)]
      rfl

end Sys2Proof.Machine
end

section
/-!
PROOF. Connect, Keep Alive and Identify (O16).
-/
namespace Sys2Proof.Machine

/-! ### Connect (R30, R31) -/

section
variable {conn cid nqn subsys station cntlid qid size kato : Nat} {r : List Nat} {a : Assoc} {s : State}

theorem execConnect_unknown (h : tget s.datum.active.subsystems subsys = none) :
    execConnect conn cid nqn subsys station cntlid qid size kato s = .next (refuseConnect conn cid 0x82 true s) := by
  rw [execConnect, h]

theorem execConnect_notAllowed (h : tget s.datum.active.subsystems subsys = some r) (ha : hostAllowed r (hostIdx s nqn) = false) :
    execConnect conn cid nqn subsys station cntlid qid size kato s = .next (refuseConnect conn cid 0x84 true s) := by
  rw [execConnect, h]
  exact congrArg _ (if_pos (by simp [ha]))

/-- A Connect of an admin queue on a permitted station opens an association. -/
theorem execConnect_admin (h : tget s.datum.active.subsystems subsys = some r) (ha : hostAllowed r (hostIdx s nqn) = true)
    (hs : bitAt (fieldLE r 260 128) station = true) :
    execConnect conn cid nqn subsys station cntlid 0 size kato s = .next (openAssoc conn cid nqn subsys station kato size none s) := by
  simp [execConnect, h, ha, hs]

/-- A Connect of an I/O queue that agrees with its association adds the queue. -/
theorem execConnect_io (h : tget s.datum.active.subsystems subsys = some r) (ha : hostAllowed r (hostIdx s nqn) = true)
    (hc : assocAt s cntlid = some a) (hst : a.station = station) (hh : hostIdx s nqn = some a.host) (hsub : a.subsys = subsys)
    (h0 : 0 < qid) (hq : qid ≤ 128) (hf : tget s.nvm.queues (cntlid * 256 + qid) = none) :
    execConnect conn cid nqn subsys station cntlid qid size kato s =
      .next (respond (connQ conn) cid 0 0 (some false) cntlid 0 { s with nvm := { s.nvm with
        queues := tset s.nvm.queues (cntlid * 256 + qid) { size := min size 4096 }
        conn := tset s.nvm.conn (cntlid * 256 + qid) conn } }) := by
  rw [hh] at ha
  simp [execConnect, h, ha, hc, hst, hh, hsub, hf, thas, Nat.pos_iff_ne_zero.mp h0, Nat.not_lt.mpr hq]

end

/-- A host that no record names is kept under its index while it is connected. -/
def hostNoted (h nqn : Nat) (s : State) : State :=
  if thas s.datum.active.hosts h then s else { s with nvm := { s.nvm with hostNqns := tset s.nvm.hostNqns h nqn } }

/-- An association with its admin queue. -/
def assocPut (c h conn subsys station kato size : Nat) (s : State) : State :=
  { s with nvm := { s.nvm with
    assocs := tset s.nvm.assocs c { host := h, subsys := subsys, station := station, kato := max kato (cfg s Reg.NVMF_KATO_MIN)
                                    kaAt := s.time }
    queues := tset s.nvm.queues (c * 256) { size := min size 128 }
    conn := tset s.nvm.conn (c * 256) conn } }

theorem hostNoted_keeps {h nqn : Nat} {s : State} : Keeps 4096 s (hostNoted h nqn s) := Keeps.ite (Keeps.refl _ _) upd_nvm

@[simp] theorem hostNoted_time (h nqn : Nat) (s : State) : (hostNoted h nqn s).time = s.time := hostNoted_keeps.time rfl

@[simp] theorem cfg_hostNoted (h nqn : Nat) (s : State) (r : RegId) : cfg (hostNoted h nqn s) r = cfg s r := by
  rw [cfg, cfgAt, hostNoted_keeps.datum rfl]
  rfl

/-- With room for an association and a host, the association takes the lowest free CNTLID, and the host its own index or a free one. -/
theorem openAssoc_room {conn cid nqn subsys station kato size h c : Nat} {s : State} (hl : s.nvm.assocs.length < 8192)
    (hi : (hostsIn s).length < 4096) (hh : (hostIdx s nqn).or (hostFree s) = some h) (hc : freeCntlid s = some c) :
    openAssoc conn cid nqn subsys station kato size none s =
      respond (connQ conn) cid 0 0 (some false) c 0 (assocPut c h conn subsys station kato size (hostNoted h nqn s)) := by
  unfold openAssoc
  extract_lets known inUse
  rw [if_neg (Nat.not_le.mpr hl), if_neg (fun hn => Nat.not_le.mpr hi hn.2), hc]
  cases hk : known with
  | some k =>
    rw [show hostIdx s nqn = some k from hk] at hh
    cases hh
    rfl
  | none =>
    rw [show hostIdx s nqn = none from hk, Option.none_or] at hh
    rw [hh]
    rfl

/-! ### Keep Alive (R32, R62) and Identify (R51) -/

theorem execKeepAlive_eq {cntlid cid : Nat} {a : Assoc} {s : State} (h : assocAt s cntlid = some a) :
    execKeepAlive cntlid cid s = .next (respond (cntlid * 256) cid 0 0 (some false) 0 0
      { s with nvm := { s.nvm with assocs := tset s.nvm.assocs cntlid { a with kaAt := s.time } } }) := by
  rw [execKeepAlive, h]

theorem execKeepAliveExpire_eq {cntlid : Nat} {a : Assoc} {s : State} (h : assocAt s cntlid = some a) :
    execKeepAliveExpire cntlid s = .next (raise 0x2003 (leBytes 2 cntlid ++ leBytes 2 a.station)
      (bump Reg.NVMF_KATO_EXPIRED (endAssociation cntlid s))) := by
  rw [execKeepAliveExpire, h]

/-- A page returned, then the completion. -/
def identified (q cid : Nat) (page : List (Nat × Nat)) (s : State) : State :=
  adminDone q cid 0 0 (some false) 0 (drive (.page q cid page []) s)

theorem execIdentify_controller {q cid nsid : Nat} {a : Assoc} {s : State} (h : queueAssoc s q = some a) :
    execIdentify q cid 1 nsid s = .next (identified q cid (identifyCtrl (q / 256)) s) := by
  rw [execIdentify, h]
  rfl

/-- The page of a namespace gives its own deadline where the register holds the default, and else the register's. -/
theorem execIdentify_namespace {q cid nsid slot : Nat} {a : Assoc} {n : Ns} {s : State} (h : queueAssoc s q = some a)
    (hs : attachedSlot s a.subsys a.host nsid = some slot) (hn : nsAt s slot = some n) :
    ∃ d ∈ [n.deadline, cfgAt s Reg.NSMGR_NS_DEADLINE slot],
      execIdentify q cid 0 nsid s = .next (identified q cid (identifyNs slot { n with deadline := d }) s) := by
  refine ⟨if cfgAt s Reg.NSMGR_NS_DEADLINE slot = 20 then n.deadline else cfgAt s Reg.NSMGR_NS_DEADLINE slot, ?_, ?_⟩
  · split <;> simp
  · simp [execIdentify, h, hs, hn, identified]

theorem identified_keeps {q cid : Nat} {page : List (Nat × Nat)} {s : State} : Keeps 1310793 s (identified q cid page s) :=
  Keeps.step adminDone_keeps rfl (Keeps.widen drive_keeps rfl)

/-- Settles O16: each command's equation, and what an answer leaves of the commands unit. -/
theorem associationsOpenAndEnd : Obligations.AssociationsOpenAndEnd := by
  intro s conn cid nqn subsys station cntlid qid size kato r a h c
  refine ⟨execConnect_unknown, execConnect_notAllowed, fun hr hal hst hl hi hh hc => ?admin,
    fun hr hal hc hst hh hsub h0 hq hf => ?io, fun hc => ⟨execKeepAlive_eq hc, execKeepAliveExpire_eq hc⟩,
    fun q nsid slot n ha => ⟨execIdentify_controller ha, fun hs hn => ?identify⟩⟩
  case admin =>
    refine ⟨_, (execConnect_admin hr hal hst).trans (congrArg _ (openAssoc_room hl hi hh hc)), ?_, ?_, ?_, ?_⟩
    · simp [assocPut]
    · simp [assocPut]
    · simp [assocPut]
    · exact (Keeps.step (M := 1314824) respond_keeps rfl (Keeps.step upd_nvm rfl (hostNoted_keeps.widen rfl))).only rfl
  case io =>
    exact ⟨_, execConnect_io hr hal hc hst hh hsub h0 hq hf, respond_nvm,
      (Keeps.step (M := 1314824) respond_keeps rfl (upd_nvm.widen rfl)).only rfl⟩
  case identify =>
    obtain ⟨d, hd, e⟩ := execIdentify_namespace (cid := cid) ha hs hn
    exact ⟨_, e, identified_keeps.only rfl, d, _, hd, rfl, rfl⟩

end Sys2Proof.Machine
end

section
/-!
PROOF. Namespaces: their creation, attachment, deletion and the release of their parcels (O17).
-/
namespace Sys2Proof.Machine

/-! ### Creation and deletion (R34, R35, R38) -/

/-- The state in which an admin command waits, under a context, for what becomes of a slot. -/
def mgmtWaits (q cid host slot : Nat) (s : State) : State :=
  let u := (adminCtx q cid host slot 0x0D s).2
  { u with nvm := { u.nvm with mgmtPend := tset u.nvm.mgmtPend slot s.nvm.nextCtx } }

theorem mgmtPend_mgmtWaits (q cid host slot : Nat) (s : State) :
    tget (mgmtWaits q cid host slot s).nvm.mgmtPend slot = some s.nvm.nextCtx := tget_tset_same ..

theorem mgmtWaits_keeps {q cid host slot : Nat} {s : State} : Keeps 4096 s (mgmtWaits q cid host slot s) := upd_nvm

section
variable {q cid : Nat} {a : Assoc} {s : State} (ha : queueAssoc s q = some a)
include ha

/-- A create whose sizes agree and whose attributes are in range forms a namespace, and waits. -/
theorem execNamespaceCreate_forms {nsze ncap flbas slot nsid : Nat} {shared : Bool} {vendor : List Nat} {n : Ns}
    (hm : mgmtAllowed s q 0 = true) (he : nsze = ncap) (h0 : nsze ≠ 0) (hf : bits flbas 0 4 = 0) (hg : bits flbas 5 2 = 0)
    (hv : vendorArea vendor = some n) (hw : ¬(n.witness = true ∧ s.nvm.nss.any (fun p => p.2.witness) = true))
    (hl : layoutW n.layout ≤ (maskBays (curMask s)).length) (hp : ceilDiv nsze 16384 ≤ parcelsFor s (curMask s) n.layout)
    (hen : ceilDiv nsze 16384 ≤ entryLimit - entriesUsed s) (hs : firstIdx 16384 (fun i => !thas s.nvm.nss i) = some slot)
    (hi : freeNsid s a.subsys = some nsid) :
    execNamespaceCreate q cid nsze ncap flbas shared vendor s = .next (setNs slot
      { n with state := 1, subsys := a.subsys, nsid := nsid, nsze := nsze, shared := shared
               owner := if inPair s then n.prefOwner else s.pwr.ctrlId } (mgmtWaits q cid a.host slot s)) := by
  unfold execNamespaceCreate
  rw [ha]
  dsimp only
  rw [if_neg (by simp [hm]), if_neg (fun hne => hne he), if_neg (by simp [h0, hf, hg]), hv]
  dsimp only
  rw [if_neg (not_or.mpr ⟨hw, Nat.not_lt.mpr hl⟩), if_neg (not_or.mpr ⟨Nat.not_lt.mpr hp, Nat.not_lt.mpr hen⟩), hs, hi]
  rfl

theorem execNamespaceCreate_sizes {nsze ncap flbas : Nat} {shared : Bool} {vendor : List Nat} (hm : mgmtAllowed s q 0 = true)
    (h : nsze ≠ ncap) : execNamespaceCreate q cid nsze ncap flbas shared vendor s = .next (answer q cid 1 0x1B none 0 0 s) := by
  simp [execNamespaceCreate, ha, hm, h, adminDone]

theorem execNamespaceDelete_recorded {nsid slot : Nat} (hm : mgmtAllowed s q 0 = true) (hs : nsidSlot s a.subsys nsid = some slot) :
    execNamespaceDelete q cid nsid s =
      .next (requestRecord (.nsDelete slot) .nothing (nsDeleting slot) (fun s => s) (mgmtWaits q cid a.host slot s)) := by
  simp only [execNamespaceDelete, ha, hm, hs, Bool.not_true, Bool.false_eq_true, if_false]
  rfl

/-! ### Attachment (R39, R40) -/

theorem execNamespaceAttach_notAllowed {nsid : Nat} {cntlids : List Nat} (hm : mgmtAllowed s q 1 = false) :
    execNamespaceAttach q cid nsid cntlids s = .next (answer q cid 0 0x01 none 0 0 s) := by
  simp [execNamespaceAttach, ha, hm, adminDone]

theorem execNamespaceDetach_notAllowed {nsid : Nat} {cntlids : List Nat} (hm : mgmtAllowed s q 1 = false) :
    execNamespaceDetach q cid nsid cntlids s = .next (answer q cid 0 0x01 none 0 0 s) := by
  simp [execNamespaceDetach, ha, hm, adminDone]

section
variable {nsid slot : Nat} {cntlids hs : List Nat} {n : Ns} (hm : mgmtAllowed s q 1 = true)
  (hsl : nsidSlot s a.subsys nsid = some slot) (hh : listHosts s a.subsys cntlids = some hs) (hn : nsAt s slot = some n)
include hm hsl hh hn

/-- An attach is refused where one of the hosts is attached or a namespace that is not shared would have two, and else recorded. -/
theorem execNamespaceAttach_eq : execNamespaceAttach q cid nsid cntlids s = .next (
    if hs.any fun h => n.hosts.contains h then answer q cid 1 0x18 none 0 0 s
    else if !n.shared ∧ 1 < n.hosts.length + hs.length then answer q cid 1 0x19 none 0 0 s
    else hostRecords s.nvm.nextCtx slot (.attach slot) (nsAttach slot) hs (adminCtx q cid a.host slot 0x15 s).2) := by
  simp only [execNamespaceAttach, ha, hm, hsl, hh, hn, Bool.not_true, Bool.false_eq_true, if_false]
  rfl

/-- A detach is refused where one of the hosts is not attached, and else recorded. -/
theorem execNamespaceDetach_eq : execNamespaceDetach q cid nsid cntlids s = .next (
    if hs.any fun h => !n.hosts.contains h then answer q cid 1 0x1A none 0 0 s
    else hostRecords s.nvm.nextCtx slot (.detach slot) (nsDetach slot) hs (adminCtx q cid a.host slot 0x15 s).2) := by
  simp only [execNamespaceDetach, ha, hm, hsl, hh, hn, Bool.not_true, Bool.false_eq_true, if_false]
  rfl

end

end

/-! ### Activation (R37, R40) -/

section
variable {slot base id : Nat} {n : Ns} {s : State}

/-- The table of a namespace's new entries, from the base of its run. -/
def newTable (base : Nat) (es : List CadEntry) : Tab CadEntry := (List.range es.length).map fun i => (base + i, es.getD i {})

/-- A namespace as it becomes ACTIVE: with its run of entries, and its first lease in a pair. -/
def nsFormed (base : Nat) (n : Ns) (s : State) : Ns :=
  { n with base := base, parcels := ceilDiv n.nsze 16384, ready := true, lease := if s.pairedNow then 2 ^ 20 else 0 }

/-- The entries drawn for a namespace's parcels. -/
def nsEntriesDrawn (n : Ns) (s : State) : List CadEntry × State := newEntries n.layout 0 (ceilDiv n.nsze 16384) s

/-- The state in which a namespace's entries and its key have been drawn and its create waits no longer. -/
def nsDrawn (slot : Nat) (n : Ns) (s : State) : State :=
  let u := (drbgDraw (nsEntriesDrawn n s).2).2
  { u with nvm := { u.nvm with mgmtPend := tdel u.nvm.mgmtPend slot } }

theorem nsDrawn_keeps : Keeps 4198416 s (nsDrawn slot n s) :=
  Keeps.step upd_nvm rfl (Keeps.step drbgDraw_keeps rfl (newEntries_keeps.widen rfl))

/-- Once its run is free a FORMING namespace is recorded ACTIVE, with its entries and key. -/
theorem execNamespaceActive_recorded (hn : nsAt s slot = some n) (hid : tget s.nvm.mgmtPend slot = some id) (h1 : n.state = 1)
    (hk : keyChangeOk s = true) (hb : freeRun s (ceilDiv n.nsze 16384) = some base) :
    ∃ tab key, execNamespaceActive slot s = .next (requestRecord (.nsCreate slot (nsFormed base n s) tab key) (.ctx id n.nsid 0)
      (nsActivate slot (nsFormed base n s) tab key) (fun s => finish id 0 0 (some false) n.nsid 0 s) (nsDrawn slot n s)) := by
  have hp : (nsDrawn slot n s).pairedNow = s.pairedNow := by
    rw [State.pairedNow, nsDrawn_keeps.pair rfl]
    rfl
  refine ⟨newTable base (nsEntriesDrawn n s).1, (drbgDraw (nsEntriesDrawn n s).2).1, ?_⟩
  rw [nsFormed, ← hp]
  unfold execNamespaceActive
  rw [hn, hid]
  dsimp only
  rw [if_neg (by simp [h1, hk])]
  simp only [hb, Option.isSome_some, if_true]
  rfl

end

/-! ### Release (R38, R105) -/

section
variable {slot id idx p : Nat} {n : Ns} {s : State}

/-- With nothing left of a namespace being deleted, its key is destroyed and it is released. -/
theorem execNamespaceDeleteComplete_released (hn : nsAt s slot = some n) (hid : tget s.nvm.mgmtPend slot = some id)
    (h3 : n.state = 3) (hk : keyChangeOk s = true) (hc : ∀ p ∈ s.nvm.ctxs, p.2.slot = slot → p.1 = id)
    (ht : ∀ p ∈ s.trav.open_, slot ∈ p.2.slots → p.2.state = .closed) :
    execNamespaceDeleteComplete slot s = .next (requestRecord (.keyStore slot 0 0 0) (.ctx id 0 0) (nsRelease slot)
      (fun s => finish id 0 0 (some false) 0 0 s) { s with nvm := { s.nvm with mgmtPend := tdel s.nvm.mgmtPend slot } }) := by
  have hbusy : (s.nvm.ctxs.any fun p => p.2.slot == slot && p.1 != id) = false := by simpa using fun i c h => hc (i, c) h
  have htrav : (s.trav.open_.any fun p => p.2.state != .closed && p.2.slots.contains slot) = false := by
    simpa using fun t v h hne hm => hne (ht (t, v) h hm)
  simp only [execNamespaceDeleteComplete, hn, hid, hbusy, htrav, h3, hk]
  rfl

/-- The state in which an entry is UNALLOCATED and nothing of its parcel is kept. -/
def parcelFreed (idx : Nat) (s : State) : State :=
  setEnt idx {} { s with store := { s.store with
    home := tdel s.store.home idx, homeLeft := tdel s.store.homeLeft idx, homeSnap := tdel s.store.homeSnap idx
    fmtGen := tdel s.store.fmtGen idx, heldParcels := s.store.heldParcels.filter fun i => i != idx
    wrapHeld := s.store.wrapHeld.filter fun i => i != idx } }

theorem setEnt_store (i : Nat) (e : CadEntry) (s : State) : (setEnt i e s).store = { s.store with cad := tput {} s.store.cad i e } :=
  mirrorNote_keeps.store rfl

theorem entAt_parcelFreed (h : trising s.store.cad = true) : entAt (parcelFreed idx s) idx = {} := by
  rw [entAt, parcelFreed, setEnt_store]
  exact tgetD_tput_same h {} idx {}

theorem home_parcelFreed (h : trising s.store.home = true) : tget (parcelFreed idx s).store.home idx = none := by
  rw [parcelFreed, setEnt_store]
  exact tget_tdel_same h idx

theorem nsAt_parcelFreed : nsAt (parcelFreed idx s) slot = nsAt s slot := by
  rw [nsAt, parcelFreed, setEnt_nvm]
  rfl

theorem parcelFreed_keeps : Keeps 106505 s (parcelFreed idx s) := Keeps.step setEnt_keeps rfl (upd_store.widen rfl)

/-- A RELEASING parcel that is persisted is freed, and the last of its namespace frees the slot. -/
theorem execParcelReleased_freed (ho : entOwner s idx = some (slot, p)) (he : (entAt s idx).state = 5)
    (hh : (tgetD s.store.home idx {}).state = 5) (hn : nsAt s slot = some n) : execParcelReleased idx s = .next (
      if (List.range n.parcels).any fun p => (entAt (parcelFreed idx s) (n.base + p)).state != 0 then parcelFreed idx s
      else requestRecord (.nsFree slot) .nothing (nsFree slot) (fun s => s) (parcelFreed idx s)) := by
  have hn' : nsAt (parcelFreed idx s) slot = some n := nsAt_parcelFreed.trans hn
  unfold execParcelReleased
  extract_lets e h
  rw [ho]
  dsimp only
  rw [if_neg (by simp [e, h, he, hh])]
  unfold parcelFreed at hn' ⊢
  rw [hn']

end

/-- Settles O17: each command's equation under the checks it passes, or with the one it fails. -/
theorem namespacesComeAndGo : Obligations.NamespacesComeAndGo := by
  intro s q cid a ha
  refine ⟨fun nsze ncap flbas shared vendor n slot nsid hm he h0 hf hg hv hw hl hp hen hs hi => ?create,
    fun nsze ncap flbas shared vendor hm h => execNamespaceCreate_sizes ha hm h,
    fun nsid slot hm hs => ⟨_, mgmtWaits_keeps.only rfl, mgmtPend_mgmtWaits .., execNamespaceDelete_recorded ha hm hs⟩,
    fun nsid cntlids slot hs n hm hsl hh hn => ?attachments,
    fun nsid cntlids hm => ⟨execNamespaceAttach_notAllowed ha hm, execNamespaceDetach_notAllowed ha hm⟩,
    fun slot n id base hn hid h1 hk hb => ?active,
    fun slot n id hn hid h3 hk hc ht => execNamespaceDeleteComplete_released hn hid h3 hk hc ht,
    fun idx slot p hcad hhome ho he hh => ⟨_, parcelFreed_keeps.only rfl, entAt_parcelFreed hcad, home_parcelFreed hhome,
      fun n hn => execParcelReleased_freed ho he hh hn⟩⟩
  case create =>
    exact ⟨_, execNamespaceCreate_forms ha hm he h0 hf hg hv hw hl hp hen hs hi, nsAt_setNs ..,
      mgmtPend_mgmtWaits q cid a.host slot s, upd_nvm.only rfl⟩
  case attachments =>
    have attach := execNamespaceAttach_eq (cid := cid) ha hm hsl hh hn
    have detach := execNamespaceDetach_eq (cid := cid) ha hm hsl hh hn
    refine ⟨fun h => attach.trans (congrArg _ (if_pos h)), fun h hsh => attach.trans (congrArg _ ?_),
      fun h => detach.trans (congrArg _ (if_pos h)), fun h => detach.trans (congrArg _ (if_neg (Bool.eq_false_iff.mp h)))⟩
    rw [if_neg (Bool.eq_false_iff.mp h), if_neg]
    rintro ⟨hns, hlt⟩
    obtain hsh | hle := hsh
    · simp [hsh] at hns
    · exact Nat.not_lt.mpr hle hlt
  case active =>
    obtain ⟨tab, key, e⟩ := execNamespaceActive_recorded hn hid h1 hk hb
    exact ⟨tab, key, _, _, rfl, rfl, rfl, nsDrawn_keeps.only rfl, e⟩

end Sys2Proof.Machine
end

section
/-!
PROOF. Drive completions: what the completion of a tag settles, by what issued its command (O20).
-/
namespace Sys2Proof.Machine

/-- The state in which the flush of the frame at `k` waits for one strip less (R68, R144). -/
def stripFlushed (k : Nat) (s : State) : State :=
  { s with store := { s.store with frames := tmod s.store.frames k fun f => { f with
    flush := f.flush.map fun fl => { fl with left := fl.left - 1 } } } }

section
variable {tag : Nat} {c : DrvCmd} {s : State} (hc : tget s.store.cmds tag = some c)
include hc

/-! ### A quarantined tag (R314) -/

theorem driveReadDone_quarantined (hq : c.quarantined = true) (raws : List Raw) :
    driveReadDone tag raws s = lateCompletion tag s := by
  simp only [driveReadDone, hc, hq, if_true]

theorem driveWriteDone_quarantined (hq : c.quarantined = true) (ok : Bool) :
    driveWriteDone tag ok s = lateCompletion tag s := by
  simp only [driveWriteDone, hc, hq, if_true]

/-! ### Reads (R115, R117, R126) -/

section
variable (hq : c.quarantined = false) (hw : c.write = false) (hd : c.discard = false) (raws : List Raw)
include hq hw hd

/-- With its tag freed a strip read delivers its blocks to its job, counted late where it was hedged and the job had them all. -/
theorem driveReadDone_read {j strip : Nat} {rows : List Nat} {d : Bool} (hp : c.purpose = .read j strip rows d) :
    driveReadDone tag raws s = settleFailed (takeRead j strip rows raws
      (if c.hedged && (jobAt (freeCmd tag s) j).elim true fun x => rows.all fun b => thas x.got (strip * 16 + b)
        then bump Reg.PARITY_HEDGE_LATE (freeCmd tag s) else freeCmd tag s)) := by
  simp only [driveReadDone, hc, hq, hw, hd, hp, Bool.false_eq_true, if_false]

/-- With its tag freed a read for the partner sends it the blocks. -/
theorem driveReadDone_remote {t : Nat} (hp : c.purpose = .remote t) :
    driveReadDone tag raws s = zsend (.stripRsp t (raws.all fun r => r.ok) raws) (freeCmd tag s) := by
  simp only [driveReadDone, hc, hq, hw, hd, hp, Bool.false_eq_true, if_false]

end

/-! ### Writes (R68, R110, R126, R144) -/

section
variable (hq : c.quarantined = false) (hw : c.write = true)
include hq hw

theorem driveWriteDone_discarded (hd : c.discard = true) (ok : Bool) : driveWriteDone tag ok s = freeCmd tag s := by
  simp only [driveWriteDone, hc, hq, hw, hd, Bool.false_eq_true, Bool.not_true, if_false, if_true]

variable (hd : c.discard = false)
include hd

/-- With its tag freed a flush's write takes one strip from its frame's flush, or plans the flush again where it failed. -/
theorem driveWriteDone_flushWrite {k : Nat} (hp : c.purpose = .flushWrite k) (ok : Bool) :
    driveWriteDone tag ok s = if ok then stripFlushed k (freeCmd tag s) else replan k false (freeCmd tag s) := by
  simp only [driveWriteDone, hc, hq, hw, hd, hp, Bool.false_eq_true, Bool.not_true, if_false, stripFlushed]

/-- With its tag freed a home write counts toward its entry, whatever it answers. -/
theorem driveWriteDone_home {idx : Nat} (hp : c.purpose = .home idx) (ok : Bool) :
    driveWriteDone tag ok s = homeWritten idx (freeCmd tag s) := by
  simp only [driveWriteDone, hc, hq, hw, hd, hp, Bool.false_eq_true, Bool.not_true, if_false]

/-- With its tag freed a write for the partner is answered. -/
theorem driveWriteDone_remote {t : Nat} (hp : c.purpose = .remote t) (ok : Bool) :
    driveWriteDone tag ok s = zsend (.stripRsp t ok []) (freeCmd tag s) := by
  simp only [driveWriteDone, hc, hq, hw, hd, hp, Bool.false_eq_true, Bool.not_true, if_false]

end

end

/-- Settles O20: each completion by the state of its tag, and then by what issued its command. -/
theorem driveCompletionsSettleWhatIssuedThem : Obligations.DriveCompletionsSettleWhatIssuedThem := by
  intro s tag c hc
  refine ⟨fun hq raws ok => ⟨?lateRead, ?lateWrite, lateCompletion_keeps.only rfl⟩,
    fun hq hw hd raws => ⟨fun j strip rows d hp => ?read, fun t hp => ?readRemote⟩,
    fun hq hw hd => ⟨fun k hp => ⟨?flushFailed, ?flushed⟩, fun idx ok hp => ?home, fun t ok hp => ?writeRemote⟩,
    fun hq hw hd ok => ?discarded⟩
  case lateRead => exact congrArg _ (driveReadDone_quarantined hc hq raws)
  case lateWrite => exact congrArg _ (driveWriteDone_quarantined hc hq ok)
  case read => exact congrArg _ (driveReadDone_read hc hq hw hd raws hp)
  case readRemote => exact congrArg _ (driveReadDone_remote hc hq hw hd raws hp)
  case flushFailed => exact congrArg _ (driveWriteDone_flushWrite hc hq hw hd hp false)
  case flushed => exact ⟨stripFlushed k (freeCmd tag s), congrArg _ (driveWriteDone_flushWrite hc hq hw hd hp true), rfl⟩
  case home => exact congrArg _ (driveWriteDone_home hc hq hw hd hp ok)
  case writeRemote => exact congrArg _ (driveWriteDone_remote hc hq hw hd hp ok)
  case discarded => exact congrArg _ (driveWriteDone_discarded hc hq hw hd ok)

end Sys2Proof.Machine
end

section
/-!
PROOF. The Cadastre: its entries' persistence, the formatter and log pages 0xC1 and 0xC2 (O22). Writing a stripe or an entry's home copies
leaves the Cadastre itself as it stands.
-/
namespace Sys2Proof.Machine

/-! ### What leaves the Cadastre as it stands -/

/-- A fold of steps that each leave the Cadastre leaves it. -/
theorem foldl_cad {α : Type} {f : State → α → State} (hf : ∀ s a, (f s a).store.cad = s.store.cad) (l : List α) (s : State) :
    (l.foldl f s).store.cad = s.store.cad :=
  List.foldlRecOn (motive := fun t => t.store.cad = s.store.cad) l f rfl fun t ht a _ => (hf t a).trans ht

theorem entAt_of_cad {s t : State} (h : t.store.cad = s.store.cad) (i : Nat) : entAt t i = entAt s i := by
  rw [entAt, h, entAt]

@[simp] theorem setFrame_cad (succ : Bool) (k : Nat) (f : Frame) (s : State) : (setFrame succ k f s).store.cad = s.store.cad := by
  cases succ <;> rfl

@[simp] theorem portCmd_cad (c : DrvCmd) (s : State) : (portCmd c s).store.cad = s.store.cad := by
  unfold portCmd
  split <;> rfl

@[simp] theorem issue_cad (bay : Nat) (write : Bool) (lba n : Nat) (purpose : Purpose) (blocks : List Stored) (deadline : Bool)
    (s : State) : (issue bay write lba n purpose blocks deadline s).store.cad = s.store.cad := by
  simp only [issue, apply_ite State.store, apply_ite StoreSt.cad, portCmd_cad, zsend_store, ite_self]

@[simp] theorem issueSys_cad (bay : Nat) (purpose : Purpose) (w : SysWrite) (s : State) :
    (issueSys bay purpose w s).store.cad = s.store.cad := by
  simp only [issueSys, apply_ite State.store, apply_ite StoreSt.cad, portCmd_cad, zsend_store, ite_self]

@[simp] theorem issueSealed_cad (slot bay lba n : Nat) (purpose : Purpose) (blocks : List Stored) (s : State) :
    (issueSealed slot bay lba n purpose blocks s).store.cad = s.store.cad := by
  rw [issueSealed, issue_cad, poolBlocks_keeps.store rfl]

@[simp] theorem journalArea_cad (w : SysWrite) (s : State) : (journalArea w s).store.cad = s.store.cad :=
  foldl_cad (fun _ _ => issueSys_cad ..) _ s

@[simp] theorem journalAdd_cad (b : JBody) (keep : Bool) (s : State) : (journalAdd b keep s).2.store.cad = s.store.cad := by
  refine (foldl_cad (fun _ _ => issueSys_cad ..) _ _).trans ?_
  rw [mirrorNote_store]

@[simp] theorem journalRetire_cad (j : Nat) (s : State) : (journalRetire j s).store.cad = s.store.cad := journalAdd_cad ..

@[simp] theorem markOmitted_cad (idx : Nat) (e : CadEntry) (st : Nat) (s : State) :
    (markOmitted idx e st s).store.cad = s.store.cad := by
  refine foldl_cad (fun t b => ?_) _ s
  dsimp only
  split
  · rfl
  · split
    · rfl
    · exact journalArea_cad ..

/-- A stripe is written under its entry, which it leaves. -/
@[simp] theorem writeStripe_cad (slot parcel st : Nat) (place : CadEntry) (blocks : List (Nat × Stored)) (gen kepoch flags adm : Nat)
    (s : State) : (writeStripe slot parcel st place blocks gen kepoch flags adm s).store.cad = s.store.cad := by
  refine (journalRetire_cad ..).trans ((foldl_cad (fun t k => ?strip) _ _).trans ?record)
  case strip => simp only [apply_ite State.store, apply_ite StoreSt.cad, issueSealed_cad, ite_self]
  case record => exact (journalAdd_cad ..).trans (markOmitted_cad ..)

/-- The home writes of an entry leave the Cadastre itself. -/
@[simp] theorem persist_cad (i lease : Nat) (s : State) : (persist i lease s).store.cad = s.store.cad := by
  unfold persist
  dsimp only
  split
  · rfl
  · exact foldl_cad (fun _ _ => issueSys_cad ..) _ _

theorem entAt_setEnt {e : CadEntry} (h : e.state ≠ 0) (i : Nat) (s : State) : entAt (setEnt i e s) i = e := by
  have he : e ≠ {} := fun h0 => h (congrArg CadEntry.state h0)
  rw [entAt, setEnt_store, tput, if_neg he, tgetD_tset_same]

/-! ### The formatter (R105, R106) -/

/-- An entry with one more of its stripes formatted: WRITTEN with the last (R105). -/
def CadEntry.formattedOne (e : CadEntry) : CadEntry :=
  { e with format := e.format + 1, state := if e.format + 1 == stripesPer e.layout then 3 else 2 }

/-- The formatter's stripe is written: the entry `e` advances, and is persisted with the last stripe (R106, R110). -/
def formatAdvance (idx : Nat) (e : CadEntry) (s : State) : State :=
  let u := setEnt idx e.formattedOne s
  if e.format + 1 == stripesPer e.layout then
    persist idx (leaseNow u idx) { u with store := { u.store with fmtGen := tdel u.store.fmtGen idx } }
  else u

theorem formattedOne_state_ne_zero (e : CadEntry) : e.formattedOne.state ≠ 0 := by
  show (if _ then 3 else 2) ≠ 0
  split <;> decide

theorem entAt_formatAdvance (idx : Nat) (e : CadEntry) (s : State) : entAt (formatAdvance idx e s) idx = e.formattedOne := by
  have hset := entAt_setEnt (formattedOne_state_ne_zero e) idx s
  unfold formatAdvance
  dsimp only
  split
  · exact (entAt_of_cad (persist_cad ..) idx).trans hset
  · exact hset

theorem formatAdvance_last {e : CadEntry} (idx : Nat) (s : State) (h : (e.format + 1 == stripesPer e.layout) = true) :
    ∃ u, entAt u idx = e.formattedOne ∧ formatAdvance idx e s = persist idx (leaseNow u idx) u := by
  refine ⟨_, ?_, if_pos h⟩
  exact entAt_setEnt (formattedOne_state_ne_zero e) idx s

/-- Whatever frame the stripe is written from, the entry the formatter advances is the one it began with. -/
theorem execFormatStripe_advances {slot parcel : Nat} {s : State} (h2 : (entAt s (entIdx s slot parcel)).state = 2)
    (ha : s.vault.accepted = false) (hr : ringRoom s = true) : ∃ u, execFormatStripe slot parcel s =
      .next (formatAdvance (entIdx s slot parcel) (entAt s (entIdx s slot parcel)) u) := by
  unfold execFormatStripe
  extract_lets idx e st k n g u e' last v
  rw [if_neg (by simp [idx, e, h2, ha, hr])]
  have hu : u.store.cad = s.store.cad := by
    unfold u
    split
    · split
      · exact writeStripe_cad ..
      · exact (writeStripe_cad ..).trans (setFrame_cad ..)
    · exact writeStripe_cad ..
  have he : e' = e := entAt_of_cad hu idx
  clear_value u e'
  subst he
  exact ⟨u, rfl⟩

/-! ### Log pages (R121, R141) -/

section
variable {q cid nsid : Nat} {a : Assoc} {s : State} (ha : queueAssoc s q = some a)
include ha

theorem execLayoutStatus_notAttached (hp : pageSlots s a nsid = none) :
    execLayoutStatus q cid nsid s = .next (answer q cid 0 0x0B none 0 0 s) := by
  simp only [execLayoutStatus, ha, hp]
  rfl

theorem execLossMap_notAttached (hp : pageSlots s a nsid = none) :
    execLossMap q cid nsid s = .next (answer q cid 0 0x0B none 0 0 s) := by
  simp only [execLossMap, ha, hp]
  rfl

/-- Page 0xC2: its version, the members of the current set, their mask and the hedge count are among its fields (Table 8). -/
theorem execLayoutStatus_page {slots : List Nat} (hp : pageSlots s a nsid = some slots) : ∃ fields,
    execLayoutStatus q cid nsid s = .next (answer q cid 0 0 (some false) 0 0 (drive (.page q cid fields []) s)) ∧
    (0, 1) ∈ fields ∧ (2, (maskBays (curMask s)).length) ∈ fields ∧ (4, curMask s) ∈ fields ∧
    (72, rd s Reg.PARITY_HEDGES) ∈ fields := by
  simp only [execLayoutStatus, ha, hp]
  refine ⟨_, rfl, ?_⟩
  simp

/-- Page 0xC1: its version and the number of its records are among its fields (Table 4). -/
theorem execLossMap_page {slots : List Nat} (hp : pageSlots s a nsid = some slots) : ∃ fields recs,
    execLossMap q cid nsid s = .next (answer q cid 0 0 (some false) 0 0 (drive (.page q cid fields recs) s)) ∧
    (0, 1) ∈ fields ∧ (8, recs.length) ∈ fields := by
  simp only [execLossMap, ha, hp]
  refine ⟨_, _, rfl, ?_⟩
  simp

end

/-- Settles O22: the formatter by what it leaves of the Cadastre, each log page by the slots it covers. -/
theorem theCadastreIsPersistedFormattedAndReported : Obligations.TheCadastreIsPersistedFormattedAndReported := by
  intro s
  refine ⟨fun idx => rfl, fun slot parcel h2 hacc hroom => ?format, fun q cid nsid a ha =>
    ⟨fun hp => ⟨execLayoutStatus_notAttached ha hp, execLossMap_notAttached ha hp⟩,
      fun slots hp => ⟨execLayoutStatus_page ha hp, execLossMap_page ha hp⟩⟩⟩
  case format =>
    obtain ⟨u, hu⟩ := execFormatStripe_advances h2 hacc hroom
    exact ⟨_, hu, entAt_formatAdvance .., formatAdvance_last _ u⟩

end Sys2Proof.Machine
end

section
/-!
PROOF. Parity work: read deadlines, finished parity jobs, failed sequencers and held rows (O21).
-/
namespace Sys2Proof.Machine

/-! ### Deadlines (R116) -/

/-- A strip read past its deadline waits, counted, where its stripe has two erasures, and is hedged where it has fewer. -/
theorem execDeadlineExpire_read {s : State} {tag j strip : Nat} {c : DrvCmd} {rows : List Nat} {d : Bool} {x : Job}
    (hc : tget s.store.cmds tag = some c) (hp : c.purpose = .read j strip rows d) (hw : c.write = false) (hd : c.discard = false)
    (hh : c.hedged = false) (hl : c.deadline = true) (hx : jobAt s j = some x) : execDeadlineExpire tag s = .next (
      if 2 ≤ (stripErasures s x).length then
        raise 0x2302 (leBytes 2 x.slot ++ leBytes 4 x.parcel ++ [x.stripe % 256])
          (bump Reg.PARITY_HEDGE_LIMITED (setJob j { x with waited := true } s))
      else settleFailed (jobStep j (setJob j { x with hedged := x.hedged ++ [strip] } (bump Reg.PARITY_HEDGES
        { s with store := { s.store with cmds := tset s.store.cmds tag { c with hedged := true } } })))) := by
  have due : ¬(c.write = true ∨ c.discard = true ∨ c.hedged = true ∨ (!c.deadline) = true) := by simp [hw, hd, hh, hl]
  simp only [execDeadlineExpire, hc, hp, if_neg due, hx]

/-! ### Parity jobs (R98, R119) -/

/-- The rows a job asked for that can be rebuilt: those with at most two erasures. -/
def rebuildableRows (s : State) (x : Job) : List Nat := (reconRows s x).filter fun b => decide ((rowErased s x b).length ≤ 2)

/-- A job and the state once its rebuildable rows are rebuilt. -/
def rowsRebuilt (s : State) (x : Job) : Job × State :=
  (rebuildableRows s x).foldl (fun acc b => rebuildRow b acc.1 acc.2) (x, s)

/-- The bytes that the rebuilt rows of a job moved are counted in its class. -/
def rebuiltCounted (s : State) (x : Job) : State :=
  parityBytes x.cls (4096 * ((rebuildableRows s x).flatMap fun b => rowNeeds (rowsRebuilt s x).2 x b).length) (rowsRebuilt s x).2

theorem execParityJobDone_recon {s : State} {j : Nat} {x : Job} (hx : jobAt s j = some x) (hr : x.recon = true) :
    execParityJobDone j s = .next (settleFailed (jobStep j (setJob j { (rowsRebuilt s x).1 with recon := false }
      (bumpAt Reg.PARITY_HEDGE_WON 0 (hedgesWon (rebuiltCounted s x) j x.hedged) (rebuiltCounted s x))))) := by
  simp only [execParityJobDone, hx, hr, Bool.not_true, Bool.false_eq_true, if_false]
  rfl

/-! ### Sequencers (R120) -/

/-- The state in which a sequencer is taken out. -/
def sequencerOut (i : Nat) (s : State) : State :=
  { s with
    store := { s.store with seqFailed := s.store.seqFailed ++ [i] }
    arch := { s.arch with parityOut := (i :: s.arch.parityOut).eraseDups } }

theorem execSequencerFail_working {s : State} {i : Nat} (h8 : i < 8) (h : i ∉ s.store.seqFailed) :
    execSequencerFail i s = .next (raise 0x2304 [i] (sequencerOut i s)) := by
  have works : ¬(8 ≤ i ∨ s.store.seqFailed.contains i = true) := by simp [h8, h]
  exact congrArg Host.Outcome.next (if_neg works)

theorem execSequencerFail_failed {s : State} {i : Nat} (h : i ∈ s.store.seqFailed) : execSequencerFail i s = .next s :=
  congrArg Host.Outcome.next (if_pos (.inr (List.contains_iff_mem.mpr h)))

theorem mem_parityOut_sequencerOut (i : Nat) (s : State) : i ∈ (sequencerOut i s).arch.parityOut :=
  List.mem_eraseDups.mpr List.mem_cons_self

/-! ### Held rows (R129) -/

theorem execHeldRowReplan_held {s : State} {slot parcel stripe : Nat} {f : Frame}
    (hf : tget s.store.frames (stripeKey slot parcel stripe) = some f) (hh : f.heldRow = true) :
    execHeldRowReplan slot parcel stripe s =
      .next (setFrame false (stripeKey slot parcel stripe) { f with heldRow := false, queued := true } s) := by
  simp only [execHeldRowReplan, hf, hh, if_true]

/-- A stripe's frame, put in place, is what the frame table then holds. -/
theorem tget_frames_setFrame (k : Nat) (f : Frame) (s : State) : tget (setFrame false k f s).store.frames k = some f :=
  tget_tset_same s.store.frames k f

/-- Settles O21: a deadline by the erasures of its stripe, a sequencer by whether it had failed. -/
theorem parityWorkGoesOn : Obligations.ParityWorkGoesOn := by
  intro s
  refine ⟨fun tag c j strip rows d x hc hp hw hd hh hl hx => ?deadline, fun j x hx hr => execParityJobDone_recon hx hr,
    fun i h8 h => ?sequencer, fun i h => execSequencerFail_failed h, fun slot parcel stripe f hf hh => ?heldRow⟩
  case deadline =>
    have expire := execDeadlineExpire_read hc hp hw hd hh hl hx
    exact ⟨fun h2 => expire.trans (congrArg _ (if_pos h2)), fun h2 => expire.trans (congrArg _ (if_neg (Nat.not_le.mpr h2)))⟩
  case sequencer =>
    have fails := execSequencerFail_working h8 h
    refine ⟨_, fails, ?_, ?_, execSequencerFail_keeps.only fails rfl⟩
    · rw [raise_store]
      rfl
    · rw [raise_arch]
      exact mem_parityOut_sequencerOut i s
  case heldRow =>
    exact ⟨_, execHeldRowReplan_held hf hh, tget_frames_setFrame .., setFrame_keeps.only rfl⟩

end Sys2Proof.Machine
end

section
/-!
PROOF. Rebuild, fill and scrub (O24): one step of each engine while the controller serves.
-/
namespace Sys2Proof.Machine

/-! ### Rebuild (R132, R133) -/

/-- A stripe leaves the stripes to rebuild: its strip is recovered and the records held on it are closed (R133, R147). -/
def stripeRebuilt (slot parcel st i : Nat) (rest : List Nat) (raws : Tab Raw) (s : State) : State :=
  closeHeld slot parcel st raws
    (rebuildStrip slot parcel st i s.store.rbBay raws { s with store := { s.store with rbStripes := rest } })

/-- The parcel in work is finished, and every bay whose positions are done is retired (R132). -/
def parcelRebuilt (i : Nat) (s : State) : State :=
  let u := rbFinish i s.store.rbBay s
  (rbBays u).foldl (fun s b => rbRetire b s) u

section
variable {s : State} {i slot parcel : Nat} (ha : s.vault.accepted = false) (hs : s.pwr.serving = true)
  (hi : s.store.rbEntry = some i) (ho : entOwner s i = some (slot, parcel))
include ha hs hi ho

theorem execRebuildStripe_stripe {st : Nat} {rest : List Nat} {raws : Tab Raw} (hr : s.store.rbStripes = st :: rest)
    (hf : ∀ f, tget s.store.frames (stripeKey slot parcel st) = some f → f.st ≠ .flushing)
    (hu : (stripeRebuilt slot parcel st i rest raws s).store.rbStripes ≠ []) :
    execRebuildStripe raws s = .next (stripeRebuilt slot parcel st i rest raws s) := by
  -- With `hu` simp takes the branch in which stripes are left after this one.
  simp only [stripeRebuilt, hi] at hu ⊢
  simp only [execRebuildStripe, ha, hs, hi, ho, hr, Bool.not_true, Bool.false_eq_true, or_self, if_false]
  refine congrArg _ (if_neg ?flushing)
  case flushing =>
    split
    case h_1 => exact Bool.false_ne_true
    case h_2 f h => simpa using hf f h

theorem execRebuildStripe_noStripe (hr : s.store.rbStripes = []) (hh : s.store.rbHeld = false) (raws : Tab Raw) :
    execRebuildStripe raws s = .next (parcelRebuilt i s) := by
  simp only [execRebuildStripe, ha, hs, hi, ho, hr, hh, Bool.not_true, Bool.false_eq_true, or_self, if_false, parcelRebuilt]

end

/-! ### Fill (R148) -/

theorem execFillParcel_allDone {s : State} {bay : Nat} (ha : s.vault.accepted = false) (hs : s.pwr.serving = true)
    (h67 : (memberAt s bay).state = 6 ∨ (memberAt s bay).state = 7) (hf : (memberAt s bay).formatting = false)
    (hd : ∀ i ∈ bayEntries s bay, i ∈ (memberAt s bay).done) (raws : Tab (Tab Raw)) :
    execFillParcel bay raws s = .next (fillEnd bay s) := by
  have fills : ¬((memberAt s bay).state ≠ 6 ∧ (memberAt s bay).state ≠ 7) := by omega
  have none_left : (bayEntries s bay).find? (fun i => !(memberAt s bay).done.contains i) = none :=
    List.find?_eq_none.mpr (by simpa using hd)
  simp only [execFillParcel, fills, hf, ha, hs, none_left, Bool.not_true, Bool.false_eq_true, or_self, if_false]

/-- A filled bay is ACTIVE with event 0x2406, which tells a restore from a resynchronisation and how many parcels were done. -/
theorem fillEnd_allDone {s : State} {bay : Nat} (hd : ∀ i ∈ bayEntries s bay, i ∈ (memberAt s bay).done) :
    ∃ u, fillEnd bay s =
      raise 0x2406 ([bay, b2n ((memberAt s bay).state == 7)] ++ leBytes 4 (memberAt s bay).done.length) (bayState bay 2 u) := by
  have none_left : (bayEntries s bay).filter (fun i => !(memberAt s bay).done.contains i) = [] :=
    List.filter_eq_nil_iff.mpr (by simpa using hd)
  exact ⟨_, if_neg (fun left => left none_left)⟩

/-! ### Scrub (R149, R150) -/

/-- Scrub's work on a stripe: a dirty one is skipped, a clean one is read row by row and its held records closed (R147, R149). -/
def stripeScrubbed (slot parcel st : Nat) (e : CadEntry) (raws : Tab Raw) (s : State) : State :=
  if stripeDirty s (stripeKey slot parcel st) then s
  else closeHeld slot parcel st raws
    ((List.range 16).foldl (fun s b => scrubRow slot parcel st e raws b s)
      (opened slot (raws.map fun r => r.2) (parityBytes 3 (65536 * (stripeN e.layout st + 2)) s)))

theorem execScrubStripe_suspended {s : State} (h : scrubRuns s = false) (raws : Tab Raw) : execScrubStripe raws s = .next s :=
  congrArg Host.Outcome.next (if_pos (by rw [h]; rfl))

theorem execScrubStripe_pastLast {s : State} (h : scrubRuns s = true) (hne : scrubEntries s ≠ [])
    (hp : ∀ i ∈ scrubEntries s, i < s.store.scrubEntry) (raws : Tab Raw) : execScrubStripe raws s = .next (scrubPass s) := by
  have past : (scrubEntries s).find? (fun i => decide (s.store.scrubEntry ≤ i)) = none :=
    List.find?_eq_none.mpr (by simpa using hp)
  simp only [execScrubStripe, h, past, hne, Bool.not_true, Bool.false_eq_true, if_false]

theorem execScrubStripe_advances {s : State} {i slot parcel : Nat} (h : scrubRuns s = true)
    (hn : (scrubEntries s).find? (fun i => decide (s.store.scrubEntry ≤ i)) = some i) (hi : i = s.store.scrubEntry)
    (ho : entOwner s i = some (slot, parcel)) (hl : s.store.scrubStripe + 1 < stripesPer (entAt s i).layout) (raws : Tab Raw) :
    execScrubStripe raws s =
      let u := stripeScrubbed slot parcel s.store.scrubStripe (entAt s i) raws s
      .next { u with store := { u.store with scrubEntry := i, scrubStripe := s.store.scrubStripe + 1 } } := by
  simp only [execScrubStripe, h, hn, ho, if_pos hi, if_pos hl, Bool.not_true, Bool.false_eq_true, if_false]
  rfl

/-- Settles O24: the step of each engine in the state its clause names. -/
theorem rebuildFillAndScrubAdvance : Obligations.RebuildFillAndScrubAdvance := by
  intro s ha hs
  refine ⟨fun raws i slot parcel st st2 rest hi ho hr hf => execRebuildStripe_stripe ha hs hi ho hr hf,
    fun raws i slot parcel hi ho hr hh => execRebuildStripe_noStripe ha hs hi ho hr hh raws,
    fun bay raws h67 hf hd => ⟨execFillParcel_allDone ha hs h67 hf hd raws, fillEnd_allDone hd⟩,
    fun raws h => execScrubStripe_suspended h raws, fun raws h hne hp => execScrubStripe_pastLast h hne hp raws,
    fun raws i slot parcel h hn hi ho hl => ⟨_, execScrubStripe_advances h hn hi ho hl raws, rfl, rfl, fun hdirty => ?skipped⟩⟩
  case skipped =>
    rw [show stripeScrubbed slot parcel s.store.scrubStripe (entAt s i) raws s = s from if_pos hdirty, hi]

end Sys2Proof.Machine
end

section
/-!
PROOF. Reshape (O25): the commands of RESHAPE_CMD and the mover at the ends of its range.
-/
namespace Sys2Proof.Machine

/-! ### Commands (R151, R154, R155) -/

/-- A command whose register the path may write answers with what its operation gives. -/
theorem cmdWrite_next {p : Path} {r : RegId} {op : State → State} {s t : State} (hp : MayWrite p r s) (h : op s = t) :
    (.next (cmdWrite p r op s) : Res) = .next t :=
  congrArg _ ((cmdWrite_acts hp op).trans h)

/-- A reshape that runs or is suspended refuses another with reason 1, before any other check. -/
theorem reshapeReason_notIdle {s : State} (h : s.store.reshape.state ≠ 0) (kind slot layout mset : Nat) :
    reshapeReason s kind slot layout mset = some 1 := if_pos h

/-- The reason a START of the registers' reshape is refused for. -/
def startReason (s : State) : Option Nat :=
  reshapeReason s (rd s Reg.REBUILD_RESHAPE_KIND % 2) (rd s Reg.REBUILD_RESHAPE_SLOT % 16384) (rd s Reg.REBUILD_RESHAPE_LAYOUT % 4)
    (rd s Reg.REBUILD_RESHAPE_MSET % 2 ^ 24)

theorem reshapeStartOp_refused {s : State} {r : Nat} (h : startReason s = some r) : reshapeStartOp s = reshapeRefuse r s := by
  unfold startReason at h
  simp only [reshapeStartOp, h]

theorem reshapeStartOp_begins {s : State} (h : startReason s = none) :
    reshapeStartOp s =
      let kind := rd s Reg.REBUILD_RESHAPE_KIND % 2
      let slot := rd s Reg.REBUILD_RESHAPE_SLOT % 16384
      let layout := rd s Reg.REBUILD_RESHAPE_LAYOUT % 4
      let mset := rd s Reg.REBUILD_RESHAPE_MSET % 2 ^ 24
      reshapeCmd 1 kind slot layout mset (reshapeBegin kind slot layout mset) s := by
  unfold startReason at h
  simp only [reshapeStartOp, h]

theorem reshapeSuspendOp_running {s : State} (h : s.store.reshape.state = 1) :
    reshapeSuspendOp s = reshapeCmd 2 0 0 0 0 (reshapeSuspend none) s := if_neg (fun hn => hn h)

theorem reshapeSuspendOp_notRunning {s : State} (h : s.store.reshape.state ≠ 1) : reshapeSuspendOp s = s := if_pos h

theorem reshapeResumeOp_suspended {s : State} (h : s.store.reshape.state = 2) :
    reshapeResumeOp s = reshapeCmd 3 0 0 0 0 reshapeResume s := if_neg (fun hn => hn h)

theorem reshapeResumeOp_notSuspended {s : State} (h : s.store.reshape.state ≠ 2) : reshapeResumeOp s = s := if_pos h

theorem formOp_formed {s : State} (h : s.store.mset0 ≠ 0) : formOp s = s := if_pos (.inl h)

theorem formOp_candidates {s : State} (h0 : s.store.mset0 = 0) (h1 : s.store.mset1 = 0) (hm : rd s Reg.REBUILD_RESHAPE_MSET % 2 ^ 24 ≠ 0)
    (hc : ∀ b ∈ maskBays (rd s Reg.REBUILD_RESHAPE_MSET % 2 ^ 24), (memberAt s b).state = 1) :
    formOp s = let mset := rd s Reg.REBUILD_RESHAPE_MSET % 2 ^ 24; reshapeCmd 4 0 0 0 mset (formSet mset) s := by
  have all_candidates : ¬(maskBays (rd s Reg.REBUILD_RESHAPE_MSET % 2 ^ 24)).any (fun b => (memberAt s b).state != 1) = true := by
    simpa using hc
  refine if_neg ?_
  rintro (h | h | h | h)
  · exact h h0
  · exact h h1
  · exact hm h
  · exact all_candidates h

theorem reshapeResume_suspended {s : State} (h : s.store.reshape.state = 2) :
    (reshapeResume s).store.reshape = { s.store.reshape with state := 1, byCmd := false } :=
  congrArg (fun t : State => t.store.reshape) (if_pos h)

/-! ### The mover (R151, R152) -/

section
variable {s : State} (h1 : s.store.reshape.state = 1) (ha : s.vault.accepted = false) (hr : ringRoom s = true)
include h1 ha hr

theorem execMoverStripe_pastLast (h : s.store.reshape.last ≤ s.store.reshape.baseline) (blocks : Tab Raw) :
    execMoverStripe blocks s = .next (reshapeEnd s) := by
  simp only [execMoverStripe, h1, ha, hr, h, ne_eq, not_true_eq_false, Bool.not_true, Bool.false_eq_true, or_self, if_false, if_true]

theorem execMoverStripe_unused {i slot parcel : Nat} (h : s.store.reshape.baseline < s.store.reshape.last)
    (hat : reshapeAt s = some (i, slot, parcel)) (h0 : (entAt s i).state = 0) (blocks : Tab Raw) :
    execMoverStripe blocks s = .next (reshapeNext i slot s) := by
  have more : ¬s.store.reshape.last ≤ s.store.reshape.baseline := Nat.not_le.mpr h
  simp only [execMoverStripe, h1, ha, hr, more, hat, h0, ne_eq, not_true_eq_false, Bool.not_true, Bool.false_eq_true, or_self,
    if_false, true_or, if_true]

end

/-- Settles O25: a command by its operation, once the path may write it; the mover by where its baseline stands. -/
theorem aReshapeBeginsStopsAndMoves : Obligations.AReshapeBeginsStopsAndMoves := by
  intro s
  refine ⟨fun p hp => ⟨⟨fun h => reshapeReason_notIdle h .., fun r h => ?refused, fun h => ?begins, fun h0 h1 hm hc => ?forms⟩,
      fun h => ?formed, fun h => ?suspends, fun h => ?notRunning, fun h => ⟨?resumes, reshapeResume_suspended h⟩, fun h => ?notSuspended⟩,
    fun blocks h1 ha hr => ⟨fun h => execMoverStripe_pastLast h1 ha hr h blocks,
      fun i slot parcel h hat h0 => execMoverStripe_unused h1 ha hr h hat h0 blocks⟩⟩
  case refused => exact ⟨_, cmdWrite_next hp (reshapeStartOp_refused h), rfl, rfl, reshapeRefuse_keeps.only rfl⟩
  case begins => exact cmdWrite_next hp (reshapeStartOp_begins h)
  case forms => exact cmdWrite_next hp (formOp_candidates h0 h1 hm hc)
  case formed => exact cmdWrite_next hp (formOp_formed h)
  case suspends => exact cmdWrite_next hp (reshapeSuspendOp_running h)
  case notRunning => exact cmdWrite_next hp (reshapeSuspendOp_notRunning h)
  case resumes => exact cmdWrite_next hp (reshapeResumeOp_suspended h)
  case notSuspended => exact cmdWrite_next hp (reshapeResumeOp_notSuspended h)

end Sys2Proof.Machine
end

section
/-!
PROOF. VC 1 traffic between the controllers: its order and its acknowledgement (O44).
-/
namespace Sys2Proof.Machine

/-! ### Placing a message (R344, R348) -/

section
variable {m : Nat} {f : State → State} {s : State}

theorem vc1_next (ht : takesMirror s = true) (hm : m = s.pair.mseqRx + 1) :
    vc1 m f s = zsend (.mirrorAck m) (f { s with pair := { s.pair with mseqRx := m } }) :=
  if_neg (by simp [ht, hm])

theorem vc1_ignored (h : takesMirror s = false ∨ m ≠ s.pair.mseqRx + 1) : vc1 m f s = s :=
  if_pos (h.imp_left fun ht => by rw [ht]; rfl)

end

/-! ### The acknowledgement (R346, R348) -/

/-- A table with nothing in it has nothing to change. -/
theorem tmap_of_eq_nil {α : Type} {t : Tab α} (h : t = []) (f : Nat → α → α) : tmap t f = t := by
  rw [h]
  rfl

theorem admitAll_of_nothingHeld {s : State} (hq : s.nvm.queues = []) (hf : s.pair.fwdHeld = []) : admitAll s = s := by
  simp [admitAll, heldCount, admitForwarded, hq, hf]

theorem winAcked_of_nothingPlacing {gone : Nat → Bool} {s : State} (h : s.win.placing = []) : winAcked gone s = s := by
  unfold winAcked
  rw [h]
  exact congrArg (fun p : List PlaceWait => { s with win := { s.win with placing := p } }) h.symm

/-- A number already covered, or never sent, does nothing. -/
theorem execMirrorAck_ignored {m : Nat} {s : State} (h : m ≤ s.pair.mseqAcked ∨ s.pair.mseqTx < m) : execMirrorAck m s = .next s :=
  congrArg Host.Outcome.next (if_pos h)

/-- The longest time a message acknowledged now, or one before, has waited (ZEBER.MIRROR_LAG_NS_MAX). -/
def mirrorLag (m : Nat) (s : State) : Nat :=
  max (rd s Reg.ZEBER_MIRROR_LAG_NS_MAX) (s.pair.sentAt.foldl (fun a p => if p.1 ≤ m then max a (s.time - p.2) else a) 0) % 2 ^ 32

/-- The record of an acknowledgement: its number, what is still unacknowledged, and the lag it shows. -/
def mirrorAcked (m : Nat) (s : State) : State :=
  { wr Reg.ZEBER_MIRROR_LAG_NS_MAX (mirrorLag m s) s with
    pair := { s.pair with mseqAcked := m, sentAt := tfilter s.pair.sentAt fun k _ => decide (m < k) } }

theorem mirrorAcked_only (m : Nat) (s : State) : OnlyParts [.regs, .pair] s (mirrorAcked m s) :=
  (Keeps.step (M := 32769) upd_pair rfl (wr_keeps.widen rfl)).only rfl

/-- With nothing else waiting for it an acknowledgement is recorded, and that is all. -/
theorem execMirrorAck_nothingWaits {m : Nat} {s : State} (ha : s.pair.mseqAcked < m) (hm : m ≤ s.pair.mseqTx) (ht : s.trav.open_ = [])
    (hn : s.nvm.nss = []) (hw : s.win.placing = []) (hc : s.nvm.ctxs = []) (hq : s.nvm.queues = []) (hf : s.pair.fwdHeld = []) :
    execMirrorAck m s = .next (mirrorAcked m s) := by
  have counts : ¬(m ≤ s.pair.mseqAcked ∨ s.pair.mseqTx < m) := by omega
  have noWaiters (gone : Nat → Bool) : winAcked gone (mirrorAcked m s) = mirrorAcked m s :=
    winAcked_of_nothingPlacing (by simpa [mirrorAcked] using hw)
  have noContexts : (mirrorAcked m s).nvm.ctxs = [] := by simpa [mirrorAcked] using hc
  have noneHeld : admitAll (mirrorAcked m s) = mirrorAcked m s :=
    admitAll_of_nothingHeld (by simpa [mirrorAcked] using hq) hf
  rw [execMirrorAck, if_neg counts]
  simp only [wr_trav, wr_nvm, wr_pair, tmap_of_eq_nil ht, tmap_of_eq_nil hn]
  change Host.Outcome.next (admitAll (List.foldl _ (winAcked _ (mirrorAcked m s)) (winAcked _ (mirrorAcked m s)).nvm.ctxs)) = _
  rw [noWaiters, noContexts, List.foldl_nil, noneHeld]

/-- Settles O44: each of the five messages is applied by its place in the order of MSEQ, an acknowledgement by what it covers. -/
theorem mirrorTrafficIsPlacedInMseqOrder : Obligations.MirrorTrafficIsPlacedInMseqOrder := by
  intro s m c f
  refine ⟨fun hc => ?placed, fun _ _ _ _ _ => rfl, execMirrorAck_ignored,
    fun ha hm ht hn hw hx hq hf => ⟨_, execMirrorAck_nothingWaits ha hm ht hn hw hx hq hf, rfl, rfl, rfl, mirrorAcked_only m s⟩⟩
  case placed =>
    have inOrder : exec c s = .next (vc1 m f s) := by
      obtain ⟨_, _, _, _, _, rfl, rfl⟩ | ⟨_, rfl, rfl⟩ | ⟨_, rfl, rfl⟩ | ⟨_, _, rfl, rfl⟩ | ⟨_, rfl, rfl⟩ := hc <;> rfl
    rw [inOrder]
    exact ⟨fun ht hm => congrArg _ (vc1_next ht hm), fun h => congrArg _ (vc1_ignored h)⟩

end Sys2Proof.Machine
end

section
/-!
PROOF. A staging traverse draws its numbers at once (O57).
-/
namespace Sys2Proof.Machine

/-! ### Drawing a number in one namespace (R163, R346) -/

@[simp] theorem nsAt_modNs (slot : Nat) (f : Ns → Ns) (s : State) : nsAt (modNs slot f s) slot = (nsAt s slot).map f := by
  simp only [nsAt, modNs_nvm, tmod]
  cases h : tget s.nvm.nss slot with
  | none => exact h
  | some n => exact tget_tset_same ..

theorem nsAt_modNs_ne {slot other : Nat} (h : other ≠ slot) (f : Ns → Ns) (s : State) :
    nsAt (modNs slot f s) other = nsAt s other := by
  simp only [nsAt, modNs_nvm, tmod]
  split
  · rfl
  · exact tget_tset_ne _ _ h

@[simp] theorem inPair_mseqSend (f : Nat → ZMsg) (s : State) : inPair (mseqSend f s).2 = inPair s := by
  simp [mseqSend, inPair]

/-- Namespaces outside a list stand as they were, and so do contexts and queues (R163). Whether the controller is in the pair stands too: the
leases bear on a draw only there (R346). -/
structure DrawsOnlyIn (slots : List Nat) (s u : State) : Prop where
  ctxs : u.nvm.ctxs = s.nvm.ctxs
  queues : u.nvm.queues = s.nvm.queues
  paired : inPair u = inPair s
  others : ∀ sl, sl ∉ slots → nsAt u sl = nsAt s sl

theorem DrawsOnlyIn.refl (slots : List Nat) (s : State) : DrawsOnlyIn slots s s := ⟨rfl, rfl, rfl, fun _ _ => rfl⟩

theorem DrawsOnlyIn.trans {slots : List Nat} {s t u : State} (h : DrawsOnlyIn slots s t) (k : DrawsOnlyIn slots t u) :
    DrawsOnlyIn slots s u where
  ctxs := k.ctxs.trans h.ctxs
  queues := k.queues.trans h.queues
  paired := k.paired.trans h.paired
  others sl hsl := (k.others sl hsl).trans (h.others sl hsl)

theorem DrawsOnlyIn.mono {slots more : List Nat} {s t : State} (h : DrawsOnlyIn slots s t) (hs : slots ⊆ more) :
    DrawsOnlyIn more s t :=
  { h with others := fun sl hsl => h.others sl fun m => hsl (hs m) }

theorem modNs_drawsOnlyIn (slot : Nat) (f : Ns → Ns) (s : State) : DrawsOnlyIn [slot] s (modNs slot f s) where
  ctxs := rfl
  queues := rfl
  paired := rfl
  others _ h := nsAt_modNs_ne (List.ne_of_not_mem_cons h) f s

theorem mseqSend_drawsOnlyIn (slots : List Nat) (f : Nat → ZMsg) (s : State) : DrawsOnlyIn slots s (mseqSend f s).2 where
  ctxs := congrArg NvmSt.ctxs mseqSend_nvm
  queues := congrArg NvmSt.queues mseqSend_nvm
  paired := inPair_mseqSend f s
  others _ _ := congrArg (fun n : NvmSt => tget n.nss _) mseqSend_nvm

/-- The owner asks for a higher limit once fewer than 2^19 numbers remain below the lease (R346). -/
def leaseAsk (slot : Nat) (n : Ns) (s : State) : State :=
  if inPair s ∧ n.lease - (n.adm + 1) < 2 ^ 19 ∧ n.leaseAsked ≤ n.lease then
    modNs slot (fun k => { k with leaseAsked := n.lease + 2 ^ 20, leaseMseq := s.pair.mseqTx + 1 })
      (mseqSend (fun m => .lease m slot (n.lease + 2 ^ 20)) s).2
  else s

theorem leaseAsk_drawsOnlyIn (slot : Nat) (n : Ns) (s : State) : DrawsOnlyIn [slot] s (leaseAsk slot n s) := by
  unfold leaseAsk
  split
  · exact (mseqSend_drawsOnlyIn ..).trans (modNs_drawsOnlyIn ..)
  · exact .refl ..

/-- Asking for a limit leaves the namespace there. -/
theorem nsAt_leaseAsk {slot : Nat} {n : Ns} {s : State} (hn : nsAt s slot = some n) : ∃ k, nsAt (leaseAsk slot n s) slot = some k := by
  unfold leaseAsk
  split
  · rw [nsAt_modNs, nsAt, mseqSend_nvm]
    exact ⟨_, congrArg _ hn⟩
  · exact ⟨n, hn⟩

/-- A number may be drawn under a slot: it holds a namespace, which in the pair has room below its lease (R346). -/
def HasRoom (s : State) (slot : Nat) : Prop := ∃ n, nsAt s slot = some n ∧ (inPair s = true → n.adm + 1 ≤ n.lease)

theorem HasRoom.of_drawsOnlyIn {slots : List Nat} {s t : State} {sl : Nat} (h : HasRoom s sl) (k : DrawsOnlyIn slots s t) (hsl : sl ∉ slots) :
    HasRoom t sl := by
  unfold HasRoom
  rw [k.others sl hsl, k.paired]
  exact h

/-- Where there is room the number is drawn, whether or not a higher limit is asked for. -/
theorem stamp_room {slot : Nat} {n : Ns} {s : State} (hn : nsAt s slot = some n) (hr : inPair s = true → n.adm + 1 ≤ n.lease) :
    stamp slot s = (some (n.adm + 1), modNs slot (fun k => { k with adm := n.adm + 1 }) (leaseAsk slot n s)) := by
  have room : ¬(inPair (leaseAsk slot n s) = true ∧ n.lease < n.adm + 1) := by
    rw [(leaseAsk_drawsOnlyIn slot n s).paired]
    exact fun h => Nat.not_lt.mpr (hr h.1) h.2
  rw [stamp, hn]
  exact if_neg room

/-! ### Drawing a number in each (R163) -/

/-- The namespace under a slot has drawn its next number, and the table of numbers has it. -/
def DrawsNext (s u : State) (nums : Tab Nat) (sl : Nat) : Prop :=
  ∃ n m, nsAt s sl = some n ∧ nsAt u sl = some m ∧ m.adm = n.adm + 1 ∧ tget nums sl = some (n.adm + 1)

theorem stamp_drawsNext {slot : Nat} {s : State} (nums : Tab Nat) (h : HasRoom s slot) :
    ∃ a u, stamp slot s = (some a, u) ∧ DrawsOnlyIn [slot] s u ∧ DrawsNext s u (tset nums slot a) slot := by
  obtain ⟨n, hn, hr⟩ := h
  obtain ⟨k, hk⟩ := nsAt_leaseAsk hn
  refine ⟨_, _, stamp_room hn hr, (leaseAsk_drawsOnlyIn ..).trans (modNs_drawsOnlyIn ..), n, { k with adm := n.adm + 1 }, hn, ?_, rfl,
    tget_tset_same ..⟩
  rw [nsAt_modNs, hk]
  rfl

/-- Distinct namespaces with room each draw one number, and no other entry of the table changes. -/
theorem stampAll_drawsNext {slots : List Nat} (nums : Tab Nat) {s : State} (hd : slots.Nodup) (hr : ∀ sl ∈ slots, HasRoom s sl) :
    ∃ all u, stampAll slots nums s = some (all, u) ∧ DrawsOnlyIn slots s u ∧ (∀ sl, sl ∉ slots → tget all sl = tget nums sl) ∧
      ∀ sl ∈ slots, DrawsNext s u all sl := by
  induction slots generalizing nums s with
  | nil => exact ⟨nums, s, rfl, .refl .., fun _ _ => rfl, fun _ h => nomatch h⟩
  | cons sl sls ih =>
    obtain ⟨hsl, hd⟩ := List.nodup_cons.mp hd
    obtain ⟨a, t, e, kt, n, m, hn, hm, ha, hnum⟩ := stamp_drawsNext nums (hr sl List.mem_cons_self)
    have apart : ∀ j ∈ sls, j ∉ [sl] := fun j hj he => hsl (List.mem_singleton.mp he ▸ hj)
    obtain ⟨all, u, e', ku, hkept, hdrawn⟩ := ih (tset nums sl a) hd fun j hj =>
      (hr j (List.mem_cons_of_mem _ hj)).of_drawsOnlyIn kt (apart j hj)
    refine ⟨all, u, ?_, (kt.mono (by simp)).trans (ku.mono (List.subset_cons_self ..)), fun j hj => ?_, fun j hj => ?_⟩
    · rw [stampAll, e]
      exact e'
    · rw [hkept j (List.not_mem_of_not_mem_cons hj), tget_tset_ne _ _ (List.ne_of_not_mem_cons hj)]
    · rcases List.mem_cons.mp hj with rfl | hj
      · exact ⟨n, m, hn, (ku.others j hsl).trans hm, ha, (hkept j hsl).trans hnum⟩
      · unfold DrawsNext
        rw [← kt.others j (apart j hj)]
        exact hdrawn j hj

/-! ### The end of a traverse's staging (R162, R163) -/

theorem HasRoom.of_mayStamp {s : State} {sl : Nat} (h : mayStamp s sl = true)
    (hr : ∀ n, nsAt s sl = some n → inPair s = true → n.adm + 1 ≤ n.lease) : HasRoom s sl := by
  cases hn : nsAt s sl with
  | none => simp [mayStamp, hn] at h
  | some n => exact ⟨n, hn, hr n hn⟩

/-- A traverse that is staged and mirrored, whose namespaces are all owned and may be stamped, takes the numbers and begins its checks. -/
theorem execTraverseStaged_owned {s u : State} {t : Nat} {v : Trav} {nums : Tab Nat} (hv : travAt s t = some v) (hs : v.state = .staging)
    (hk : ∀ k ∈ travKeys v, thas v.staged k = true) (hq : v.mseqs = []) (ho : ∀ sl ∈ v.slots, ownsSlot s sl = true ∧ mayStamp s sl = true)
    (hd : stampAll v.slots v.nums s = some (nums, u)) :
    execTraverseStaged t s = .next (setTrav t { v with nums := nums, state := .checking } u) := by
  have own : v.slots.filter (ownsSlot s) = v.slots := List.filter_eq_self.mpr fun sl h => (ho sl h).1
  have other : (v.slots.filter fun sl => !ownsSlot s sl) = [] := List.filter_eq_nil_iff.mpr fun sl h => by simp [(ho sl h).1]
  have staged : (travKeys v).all (fun k => thas v.staged k) = true := List.all_eq_true.mpr hk
  have free : v.slots.all (mayStamp s) = true := List.all_eq_true.mpr fun sl h => (ho sl h).2
  simp [execTraverseStaged, hv, own, other, hs, staged, hq, free, hd]

/-- Settles O57: each touched namespace has room, so the staging's end draws in all of them and writes the traverse. -/
theorem aTraverseDrawsOneNumberInEach : Obligations.ATraverseDrawsOneNumberInEach := by
  intro s t v hv hs hk hq hd ho hr
  obtain ⟨nums, u, e, ku, -, drawn⟩ := stampAll_drawsNext v.nums hd fun sl h => .of_mayStamp (ho sl h).2 (hr sl h)
  exact ⟨setTrav t { v with nums := nums, state := .checking } u, execTraverseStaged_owned hv hs hk hq ho e, ku.ctxs, ku.queues, ku.others,
    { v with nums := nums, state := .checking }, travAt_setTrav .., rfl, drawn⟩

end Sys2Proof.Machine
end

section
/-!
PROOF. RDMA request packets (O29): what a request command brings, what is checked before its dialect takes it, and where each dialect
places its PSN.
-/
namespace Sys2Proof.Machine

section
variable {i data : Nat} {p : Pkt} {r : Rdma} {s : State}

/-! ### The checks of a request packet (R175, R176, R178, R193) -/

/-- A request command is the arrival of its packet. -/
theorem exec_of_requestPacket {c : Instr} (h : requestPacket c = some (i, p, r, data)) : exec c s = .next (rxPacket i p r data s) := by
  unfold requestPacket at h
  split at h <;> cases h <;> rfl

theorem rxPacket_badIcrc (hc : p.icrcOk = false) :
    rxPacket i p r data s = bumpAt (Reg.NET_ICRC_ERR (p.port / 8 % 8)) (p.port % 8) 1 s :=
  if_pos (by simp [hc])

/-- What a queue pair does not take: an ill-formed packet, one in its quiet time or while it is not connected, and a 16-byte swap
without the grant. -/
def Qp.unsupported (q : Qp) (p : Pkt) (r : Rdma) : Prop :=
  p.ok = false ∨ q.quiet = true ∨ q.state ∉ [1, 2, 3] ∨ (r.wide = true ∧ (q.spray = false ∨ q.atom16 = false))

/-- The model's own test of it, written as one condition. -/
theorem Qp.unsupported_iff (q : Qp) : q.unsupported p r ↔
    (!p.ok) = true ∨ q.quiet = true ∨ (!decide (q.state = 1 ∨ q.state = 2 ∨ q.state = 3)) = true ∨
      (r.wide = true ∧ (!(q.spray && q.atom16)) = true) := by
  simp [Qp.unsupported]

theorem rxPacket_unsupported (hc : p.icrcOk = true) (h : (qpAt s i).unsupported p r) :
    rxPacket i p r data s = bump Reg.XPORT_UNSUP_DROPPED s :=
  (if_neg (by simp [hc])).trans (if_pos ((Qp.unsupported_iff _).mp h))

/-- A window request under ESP is counted as held for its check value (R216). -/
def icvHeld (p : Pkt) (r : Rdma) (s : State) : State :=
  match r with
  | .send _ => s
  | _ => if p.esp = 1 then bump Reg.WIN_ICV_HOLDS s else s

theorem icvHeld_plain (he : p.esp ≠ 1) : icvHeld p r s = s := by
  cases r <;> simp [icvHeld, he]

/-- A packet that its queue pair takes: ignored while it drains, discarded when its check value fails, and else received by its dialect. -/
theorem rxPacket_supported (hc : p.icrcOk = true) (h : ¬(qpAt s i).unsupported p r) :
    rxPacket i p r data s =
      if (qpAt s i).state = 3 then s
      else if p.esp = 2 then bump Reg.XPORT_ICV_DISCARD s
      else if (qpAt s i).spray then rxSpray i p r data (icvHeld p r (packetTaken i p s))
      else rxStd i p r data (icvHeld p r (packetTaken i p s)) := by
  refine (if_neg (by simp [hc])).trans ((if_neg fun hn => h ((Qp.unsupported_iff _).mpr hn)).trans ?_)
  cases r <;> simp [icvHeld, packetTaken]

/-- A connected queue pair takes every well-formed packet that needs no grant it lacks. -/
theorem Qp.not_unsupported {q : Qp} (hs : q.state ∈ [1, 2, 3]) (hok : p.ok = true) (hq : q.quiet = false)
    (hw : r.wide = true → q.spray = true ∧ q.atom16 = true) : ¬q.unsupported p r := by
  rintro (h | h | h | ⟨h, h'⟩)
  · simp [hok] at h
  · simp [hq] at h
  · exact h hs
  · obtain ⟨h1, h2⟩ := hw h
    simp [h1, h2] at h'

/-! ### The PSN of a request (R184, R190, R194) -/

theorem rxSpray_beyond (h : 4096 ≤ psnRel (qpAt s i).cursor p.psn) (h' : psnRel (qpAt s i).cursor p.psn < 2 ^ 23) :
    rxSpray i p r data s = bump Reg.XPORT_BEYOND_WINDOW s :=
  (if_neg (Nat.not_le.mpr h')).trans (if_pos h)

theorem rxSpray_accepted (h : psnRel (qpAt s i).cursor p.psn < 4096) (ha : p.psn ∈ (qpAt s i).accepted) :
    rxSpray i p r data s = qpDup i p r s :=
  (if_neg (by omega)).trans ((if_neg (Nat.not_le.mpr h)).trans (if_pos (by simpa using ha)))

theorem rxSpray_past (h : 2 ^ 23 ≤ psnRel (qpAt s i).cursor p.psn) : rxSpray i p r data s = qpDup i p r s := if_pos h

theorem rxStd_past (h : 2 ^ 23 ≤ psnRel (qpAt s i).cursor p.psn) : rxStd i p r data s = qpDup i p r s := if_pos h

/-- Ahead of the expected PSN a standard queue pair answers a NAK, once. -/
theorem rxStd_ahead (h : 0 < psnRel (qpAt s i).cursor p.psn) (h' : psnRel (qpAt s i).cursor p.psn < 2 ^ 23) :
    rxStd i p r data s = if (qpAt s i).naked then s
      else drive (.roce i (.nak (qpAt s i).cursor 0)) (setQp i { qpAt s i with naked := true } s) :=
  (if_neg (Nat.not_le.mpr h')).trans (if_pos (Nat.ne_of_gt h))

end

/-- Settles O29: each command is its packet's arrival, which is checked and then taken or refused by its PSN. -/
theorem requestPacketsAreTaken : Obligations.RequestPacketsAreTaken := by
  intro s c i p r data h q
  rw [exec_of_requestPacket h]
  refine ⟨fun hc => congrArg _ (rxPacket_badIcrc hc), fun hc hu => congrArg _ (rxPacket_unsupported hc hu),
    fun hc hok hq hw => ?taken, fun h h' => rxSpray_beyond h h', fun h ha => rxSpray_accepted h ha,
    fun h => ⟨rxSpray_past h, rxStd_past h⟩, fun h h' hn => (rxStd_ahead h h').trans (if_neg (Bool.eq_false_iff.mp hn)),
    fun h h' hn => (rxStd_ahead h h').trans (if_pos hn)⟩
  case taken =>
    have supported (hs : q.state ∈ [1, 2, 3]) := rxPacket_supported (data := data) hc (Qp.not_unsupported hs hok hq hw)
    have connected (hs : q.state = 1 ∨ q.state = 2) : q.state ∈ [1, 2, 3] ∧ q.state ≠ 3 := by
      rcases hs with hs | hs <;> simp [hs]
    refine ⟨fun hs => ?draining, fun hs he => ?badIcv, fun hs he => ?received⟩
    case draining => rw [supported (by simp [hs]), if_pos hs]
    case badIcv => rw [supported (connected hs).1, if_neg (connected hs).2, if_pos he]
    case received =>
      rw [supported (connected hs).1, if_neg (connected hs).2, if_neg (by simp [he]), icvHeld_plain (by simp [he])]
      exact ⟨fun hd => congrArg _ (if_pos hd), fun hd => congrArg _ (if_neg (Bool.eq_false_iff.mp hd))⟩

end Sys2Proof.Machine
end

section
/-!
PROOF. Acknowledgements, responses, rate and timers of an ACTIVE queue pair (O30): what each does under the condition its clause names.
-/
namespace Sys2Proof.Machine

section
variable {i : Nat} {s : State}

/-! ### The context of a queue pair (R177, R178) -/

/-- The context cache holds indices only: no queue pair changes with it. -/
theorem qpTouch_qps (i : Nat) (s : State) : (qpTouch i s).xp.qps = s.xp.qps := by
  unfold qpTouch
  split <;> rfl

@[simp] theorem qpAt_qpTouch (i j : Nat) (s : State) : qpAt (qpTouch i s) j = qpAt s j := by
  rw [qpAt, qpTouch_qps, qpAt]

@[simp] theorem cfg_qpTouch (i : Nat) (s : State) (r : RegId) : cfg (qpTouch i s) r = cfg s r := by
  rw [cfg, cfgAt, qpTouch_keeps.datum rfl, cfg, cfgAt]

/-- A packet without a congestion mark asks for no CNP (R199). -/
theorem cnpMaybe_unmarked {p : Pkt} (h : p.ce = false) : cnpMaybe i p s = s := if_pos (by simp [h])

/-- A queue pair that is ACTIVE takes what is well formed. -/
theorem rxOther_active (h2 : (qpAt s i).state = 2) (hq : (qpAt s i).quiet = false) : rxOther i true s = (true, qpTouch i s) := by
  simp [rxOther, h2, hq]

/-! ### Acknowledgements (R180, R192) -/

section
variable {q : Qp} {psn : Nat} {sack : List (Nat × Nat)}

@[simp] theorem Qp.acked_spray : (q.acked psn sack).spray = q.spray := by
  rw [Qp.acked]

/-- What an acknowledgement leaves sent is not covered by it, but for reads. -/
theorem Qp.not_covered_of_mem_acked {x : SentPkt} (hx : x ∈ (q.acked psn sack).sent) (hr : thas q.reads x.psn = false) :
    ackCovers psn sack x.psn = false := by
  obtain ⟨y, hy, rfl⟩ := List.mem_map.mp hx
  have left := (List.mem_filter.mp hy).2
  simpa [show thas q.reads y.psn = false from hr] using left

/-- An acknowledgement that covers anything new clears the retry counts. -/
theorem Qp.acked_tries (h : ∃ x, x ∈ q.sent ∧ ackCovers psn sack x.psn = true ∧ x.covered = false) :
    (q.acked psn sack).tries = 0 ∧ (q.acked psn sack).rnrTries = 0 := by
  obtain ⟨x, hx, hc, hn⟩ := h
  have moved : (q.sent.any fun x => ackCovers psn sack x.psn && !x.covered) = true :=
    List.any_eq_true.mpr ⟨x, hx, by simp [hc, hn]⟩
  exact ⟨if_pos moved, if_pos moved⟩

end

theorem execAcknowledge_plain (h2 : (qpAt s i).state = 2) (hq : (qpAt s i).quiet = false) (hs : (qpAt s i).spray = false) (psn : Nat)
    (sack : List (Nat × Nat)) :
    execAcknowledge i psn 0 sack s = .next (sendMore i (setQp i ((qpAt s i).acked psn sack) (qpTouch i s))) := by
  rw [execAcknowledge, rxOther_active h2 hq]
  simp [hs]

theorem execAcknowledge_otherNak (h2 : (qpAt s i).state = 2) (hq : (qpAt s i).quiet = false) (psn : Nat) (sack : List (Nat × Nat)) :
    execAcknowledge i psn 3 sack s =
      .next (qpError i 2 (setQp i ((qpAt s i).acked ((psn + 2 ^ 24 - 1) % 2 ^ 24) sack) (qpTouch i s))) := by
  have isNak : (3 : Nat) ≠ 0 := by decide
  rw [execAcknowledge, rxOther_active h2 hq]
  simp only [qpAt_qpTouch, if_neg isNak, if_true]

/-! ### Read responses (R186, R193, R196) -/

section
variable {p : Pkt} {data f : Nat} {r : ReadOut}

/-- A response is put at offset `off` of its read, and reads that are whole complete in order. -/
def responseKept (i : Nat) (p : Pkt) (data f off : Nat) (r : ReadOut) (s : State) : State :=
  let q := qpAt s i
  let u := readsDone i q.reads.length (setQp i { q with
    reads := tset q.reads f { r with got := tset r.got off (p.len, data) }
    sent := if q.spray then q.sent else q.sent.filter fun x => decide (2 ^ 23 ≤ psnRel x.psn f) || thas q.reads x.psn } s)
  sendMore i (pullRetry u.xp.waits.length u)

/-- On a spray queue pair what was sent stays until it is acknowledged. -/
theorem responseKept_spray {off : Nat} (hs : (qpAt s i).spray = true) : responseKept i p data f off r s =
    let q := qpAt s i
    let u := readsDone i q.reads.length
      (setQp i { q with reads := tset q.reads f { r with got := tset r.got off (p.len, data) } } s)
    sendMore i (pullRetry u.xp.waits.length u) := by
  simp only [responseKept, hs, if_true]

/-- A response does not fit its read of `all` bytes on a spray queue pair. -/
abbrev Pkt.misfits (p : Pkt) (q : Qp) (off all : Nat) : Prop := p.offset ≠ off ∨ p.length ≠ all ∨ p.len ≠ min q.mtu (all - off)

/-- A good response on an ACTIVE queue pair, by its offset in the read it belongs to. -/
theorem execRdmaReadResponse_eq (h2 : (qpAt s i).state = 2) (hq : (qpAt s i).quiet = false) (hc : p.icrcOk = true) (hok : p.ok = true)
    (he : p.esp ≠ 2) (hce : p.ce = false)
    (hf : tfind (qpAt s i).reads (fun f r => decide (psnRel f p.psn < r.count)) = some (f, r)) :
    execRdmaReadResponse i p data s = .next (
      let q := qpAt s i
      let off := psnRel f p.psn * q.mtu
      let u := qpTouch i s
      if thas r.got off then bump Reg.XPORT_DUP_DROPPED u
      else if q.spray ∧ r.blocks ≠ [] ∧ p.misfits q off (4096 * r.blocks.length) then qpError i 2 u
      else if !q.spray ∧ (r.got.length * q.mtu ≠ off ∨ q.oldestRead ≠ some f) then u
      else responseKept i p data f off r u) := by
  have active : rxOther i p.ok s = (true, qpTouch i s) := hok ▸ rxOther_active h2 hq
  rw [execRdmaReadResponse, if_neg (by simp [hc]), if_neg he, active]
  simp only [cnpMaybe_unmarked hce, qpAt_qpTouch, hf, responseKept]

end

/-! ### Rate control (R200, R201) -/

theorem execCnp_std (h2 : (qpAt s i).state = 2) (hq : (qpAt s i).quiet = false) (hs : (qpAt s i).spray = false) (path : Nat) :
    execCnp i path s = .next (bump Reg.XPORT_CNP_RCVD
      (setQp i (if bitAt (cfg s Reg.XPORT_XP_CTL) 3 = true then rcReduce s (qpAt s i) else qpAt s i) (qpTouch i s))) := by
  have reduces : rcReduce (qpTouch i s) (qpAt s i) = rcReduce s (qpAt s i) := by simp only [rcReduce, cfg_qpTouch]
  have std : (if bitAt (cfg s Reg.XPORT_XP_CTL) 3 = true then rcReduce s (qpAt s i) else qpAt s i).spray = false := by
    split <;> exact hs
  rw [execCnp, rxOther_active h2 hq]
  simp only [qpAt_qpTouch, cfg_qpTouch, reduces, std, Bool.false_eq_true, false_and, if_false]

theorem execRcTimer_active (h2 : (qpAt s i).state = 2) (hc : bitAt (cfg s Reg.XPORT_XP_CTL) 3 = true) :
    execRcTimer i s = .next (setQp i (rcRecover s (qpAt s i)) s) :=
  congrArg Host.Outcome.next (if_neg (by simp [h2, hc]))

/-! ### Timers of the transport (R180, R191, R192) -/

theorem execAckDelayExpire_due (h2 : (qpAt s i).state = 2) (h : (qpAt s i).sinceAck ≠ 0) :
    execAckDelayExpire i s = .next (ackIfDue i (setQp i { qpAt s i with ackDue := true } s)) :=
  congrArg Host.Outcome.next (if_neg (by simp [h2, h]))

theorem execSprayRtoExpire_sent {psn : Nat} {x : SentPkt} (h2 : (qpAt s i).state = 2) (hs : (qpAt s i).spray = true)
    (hx : (qpAt s i).sent.find? (fun x => x.psn == psn) = some x) : execSprayRtoExpire i psn s = .next (resend i false x s) := by
  simp only [execSprayRtoExpire, hx, h2, hs]
  rfl

/-- The timeout of a standard queue pair, by its retry count. -/
theorem execAckTimeout_eq (h2 : (qpAt s i).state = 2) (hs : (qpAt s i).spray = false) (hn : (qpAt s i).sent ≠ []) :
    execAckTimeout i s = .next (if (qpAt s i).retry ≤ (qpAt s i).tries then qpError i 0 s
      else resendAll i false (qpAt s i).sent (setQp i { qpAt s i with tries := (qpAt s i).tries + 1 } s)) :=
  congrArg Host.Outcome.next (if_neg (by simp [h2, hs, hn]))

/-- The end of a receiver-not-ready wait is counted before it is judged. -/
def rnrCounted (i : Nat) (s : State) : State :=
  setQp i { qpAt s i with rnrWait := false, rnrTries := (qpAt s i).rnrTries + 1 } s

/-- The end of a receiver-not-ready wait, by the retry count, of which 7 has no end. -/
theorem execRnrTimerExpire_eq (h2 : (qpAt s i).state = 2) (hw : (qpAt s i).rnrWait = true) :
    execRnrTimerExpire i s = .next (
      if (qpAt s i).rnrRetry < 7 ∧ (qpAt s i).rnrRetry ≤ (qpAt s i).rnrTries then qpError i 1 (rnrCounted i s)
      else sendMore i (resendAll i true ((qpAt s i).sent.filter fun x => !(qpAt s i).spray || x.psn == (qpAt s i).rnrPsn)
        (rnrCounted i s))) :=
  congrArg Host.Outcome.next (if_neg (by simp [h2, hw]))

end

/-- Settles O30: each command by its equation on an ACTIVE queue pair, read off by the hypothesis that decides its branch. -/
theorem acknowledgementsAndTimersDriveRetransmission : Obligations.AcknowledgementsAndTimersDriveRetransmission := by
  intro s i h2 q hq
  refine ⟨fun psn sack hs => ⟨execAcknowledge_plain h2 hq hs psn sack, fun x hx hr => Qp.not_covered_of_mem_acked hx hr, Qp.acked_tries⟩,
    execAcknowledge_otherNak h2 hq, fun p data f r hc hok he hce hf => ?response, fun path hs => execCnp_std h2 hq hs path,
    execRcTimer_active h2, fun _ => rfl, execAckDelayExpire_due h2, fun psn x hs hx => execSprayRtoExpire_sent h2 hs hx,
    fun hs hn => ?timeout, fun hw => ?rnr⟩
  case response =>
    have place := execRdmaReadResponse_eq (data := data) h2 hq hc hok he hce hf
    refine ⟨fun h => place.trans (congrArg _ (if_pos h)), fun h hs hb => ⟨fun hm => ?misfit, fun ho hl hn => ?kept⟩⟩
    case misfit =>
      exact place.trans (congrArg _ ((if_neg (Bool.eq_false_iff.mp h)).trans (if_pos ⟨hs, hb, hm⟩)))
    case kept =>
      have fits : ¬p.misfits q (psnRel f p.psn * q.mtu) (4096 * r.blocks.length) := by simp [Pkt.misfits, ho, hl, hn]
      have keeps := responseKept_spray (p := p) (data := data) (f := f) (r := r) (off := psnRel f p.psn * q.mtu)
        ((congrArg Qp.spray (qpAt_qpTouch i i s)).trans hs)
      rw [qpAt_qpTouch] at keeps
      exact place.trans (congrArg _ ((if_neg (Bool.eq_false_iff.mp h)).trans ((if_neg fun hm => fits hm.2.2).trans
        ((if_neg fun hm => by simp [q, hs] at hm).trans keeps))))
  case timeout =>
    have expire := execAckTimeout_eq h2 hs hn
    exact ⟨fun h => expire.trans (congrArg _ (if_neg (Nat.not_le.mpr h))), fun h => expire.trans (congrArg _ (if_pos h))⟩
  case rnr =>
    have expire := execRnrTimerExpire_eq h2 hw
    exact ⟨fun h7 => expire.trans (congrArg _ (if_neg fun h => Nat.ne_of_lt h.1 h7)), fun h7 h => expire.trans (congrArg _ (if_pos ⟨h7, h⟩))⟩

end Sys2Proof.Machine
end

section
/-!
PROOF. The life of connections (O31): connection management of queue pairs, then NVMe/TCP.
-/
namespace Sys2Proof.Machine

section
variable {i : Nat} {s : State}

/-! ### A REQ (R178, R181, R182) -/

/-- The controller and a station let connections in. -/
def AdmitsAt (s : State) (station : Nat) : Prop :=
  espReq s station = false ∧ bitAt (cfgAt s Reg.SWITCH_STN_CTL station) 0 = true ∧ s.pwr.admitStop = false ∧
    s.vault.accepted = false ∧ s.pair.state ≠ 6

/-- A queue pair of the standard dialect that a REQ opens, with the first PSN this side draws. -/
def stdQp (r : CmReq) (psn : Nat) (s : State) : Qp :=
  { state := 1, pmtu := r.pmtu % 3, ipv6 := r.ipv6, station := r.station, peer := r.peer, sa := saFor s r.station r.peer, hash := r.hash
    cntlid := r.cntlid, lineMbs := r.lineMbs, window := 0, openMax := 0, depth := r.depth, readCap := cfg s Reg.XPORT_READ_PER_QP
    retry := r.retry % 8, rnrRetry := r.rnrRetry % 8, cursor := r.psn % 2 ^ 24, ackBase := r.psn % 2 ^ 24
    txPsn := psn % 2 ^ 24, txBase := psn % 2 ^ 24, rate := Dy.ofNat r.lineMbs, target := Dy.ofNat r.lineMbs }

/-- A REQ without a spray block, by the lowest FREE queue pair. -/
theorem execCmReq_std {r : CmReq} (hz : (sprayOffer r.block).zero = true) (ha : AdmitsAt s r.station)
    (hr : bitAt (cfg s Reg.XPORT_XP_CTL) 0 = true) :
    execCmReq r s = .next ((firstIdx 262144 fun i => !thas s.xp.qps i).elim (drive (.roce 0 (.rej r.station 1)) s)
      fun i => drive (.roce i (.rep r.station false false 0 0 0)) (setQp i (stdQp r (drawFree s).1 s) (drawFree s).2)) := by
  obtain ⟨he, hs, hstop, hv, hp⟩ := ha
  simp only [execCmReq, hz, he, hr, hs, hstop, hv, hp, Bool.not_true, Bool.false_and, Bool.false_eq_true, or_self, if_false]
  cases firstIdx 262144 fun i => !thas s.xp.qps i <;> rfl

/-- A queue pair that is not FREE is what its table then holds. -/
theorem tget_qps_setQp {q : Qp} (h : q.state ≠ 0) : tget (setQp i q s).xp.qps i = some q := by
  have listed : q ≠ {} := fun e => h (e ▸ rfl)
  rw [setQp_xp, tput, if_neg listed, tget_tset_same]

/-! ### RTU, DREQ and the quiet time (R178, R179) -/

theorem execCmRtu_connecting (h : (qpAt s i).state = 1) : execCmRtu i s = .next (modQp i (fun q => { q with state := 2 }) s) :=
  congrArg Host.Outcome.next (if_pos h)

theorem execCmResponseTimeout_connecting (h : (qpAt s i).state = 1) : execCmResponseTimeout i s =
    .next (setQp i { quiet := true } { s with xp := { s.xp with cache := s.xp.cache.filter fun j => j != i } }) :=
  congrArg Host.Outcome.next (if_pos h)

theorem execCmDreq_active (h : (qpAt s i).state = 2) : execCmDreq i s =
    .next (connQueuesEnd i (drive (.roce i .drep) (modQp i (fun q => { q with state := 3 }) (qpClear i s)))) :=
  congrArg Host.Outcome.next (if_pos h)

theorem execCmDreq_error (h : (qpAt s i).state = 4) :
    execCmDreq i s = .next (drive (.roce i .drep) (setQp i { qpAt s i with quiet := true } s)) :=
  congrArg Host.Outcome.next ((if_neg (by omega)).trans (if_pos h))

theorem execCmDrep_error (h : (qpAt s i).state = 4) : execCmDrep i s = .next (modQp i (fun q => { q with quiet := true }) s) :=
  congrArg Host.Outcome.next (if_pos h)

theorem execQpErrorTimeout_error (h : (qpAt s i).state = 4) :
    execQpErrorTimeout i s = .next (modQp i (fun q => { q with quiet := true }) s) :=
  congrArg Host.Outcome.next (if_pos h)

/-- A queue pair's index is FREE again. -/
def qpFreed (i : Nat) (s : State) : State :=
  { s with xp := { s.xp with qps := tdel s.xp.qps i, cache := s.xp.cache.filter fun j => j != i } }

theorem not_mem_cache_qpFreed (i : Nat) (s : State) : i ∉ (qpFreed i s).xp.cache := by
  simp [qpFreed]

theorem execQpQuietEnd_frees (h : (qpAt s i).state = 3 ∨ (((qpAt s i).state = 0 ∨ (qpAt s i).state = 4) ∧ (qpAt s i).quiet = true)) :
    execQpQuietEnd i s = .next (qpFreed i s) :=
  congrArg Host.Outcome.next (if_pos h)

/-! ### NVMe/TCP (R202, R264) -/

section
variable {stn peer : Nat} {hd dd : Bool}

/-- A new connection, under the next number. -/
def tcpOpened (stn peer : Nat) (hd dd : Bool) (s : State) : State :=
  { s with xp := { s.xp with
    nextTcp := s.xp.nextTcp + 1
    tcp := tset s.xp.tcp (tcpBase + s.xp.nextTcp) { station := stn, sa := saFor s stn peer, hdgst := hd, ddgst := dd } } }

theorem execIcreq_opens (ha : AdmitsAt s stn) (ht : bitAt (cfgAt s Reg.SWITCH_STN_CTL stn) 1 = true) :
    execIcreq stn peer hd dd s =
      .next (drive (.tcpPdu (tcpBase + s.xp.nextTcp) 1 [131072, b2n hd, b2n dd]) (tcpOpened stn peer hd dd s)) := by
  obtain ⟨he, hs, hstop, hv, hp⟩ := ha
  exact congrArg Host.Outcome.next ((if_neg (by simp [he])).trans (if_neg (by simp [hs, ht, hstop, hv, hp])))

theorem execIcreq_notEnabled (he : espReq s stn = false) (ht : bitAt (cfgAt s Reg.SWITCH_STN_CTL stn) 1 = false) :
    execIcreq stn peer hd dd s = .next (drive (.tcpPdu (tcpBase + s.xp.nextTcp) 3 []) s) :=
  congrArg Host.Outcome.next ((if_neg (by simp [he])).trans (if_pos (by simp [ht])))

end

section
variable {conn : Nat} (h : thas s.xp.tcp conn = true)
include h

theorem execH2ctermreq_open : execH2ctermreq conn s = .next (tcpEnd conn s) := congrArg Host.Outcome.next (if_pos h)

theorem execCapsulecmd_badDigest (c : Capsule) :
    execCapsulecmd conn false c s = .next (drive (.tcpPdu conn 3 []) (tcpEnd conn s)) := by
  simp [execCapsulecmd, h]

theorem execCapsulecmd_good {q : Nat} {qs : List Nat} (hq : connQueues s conn = q :: qs) (c : Capsule) :
    execCapsulecmd conn true c s = .next (submit q c s) := by
  simp [execCapsulecmd, h, hq]

theorem execH2cdata_badDigest (cid lba data : Nat) :
    execH2cdata conn cid false lba data s = .next (drive (.tcpPdu conn 3 []) (tcpEnd conn s)) := by
  simp [execH2cdata, h]

theorem execH2cdata_good {cid lba data id : Nat} {k : Ctx}
    (hk : s.nvm.ctxs.find? (fun p => p.2.cid == cid && (connQueues s conn).contains p.2.q && p.2.fwdTag.isNone) = some (id, k)) :
    execH2cdata conn cid true lba data s = .next (blockArrives id lba data s) := by
  simp only [execH2cdata, h, hk, Bool.not_true, Bool.false_eq_true, if_false]

end

end

/-- Settles O31: each command by its equation under the states and enables its clause names. -/
theorem connectionsOpenDrainAndEnd : Obligations.ConnectionsOpenDrainAndEnd := by
  intro s
  refine ⟨fun r i hz he hr hs hstop hv hp => ?req, fun i h => ⟨execCmRtu_connecting h, execCmResponseTimeout_connecting h⟩,
    fun i h => execCmDreq_active h, fun i h => ⟨execCmDreq_error h, execCmDrep_error h, execQpErrorTimeout_error h⟩,
    fun i h => ⟨_, execQpQuietEnd_frees h, rfl, not_mem_cache_qpFreed i s, execQpQuietEnd_keeps.only (execQpQuietEnd_frees h) rfl⟩,
    fun stn peer hd dd he hstop hv hp => ⟨fun hs ht => ?opens, execIcreq_notEnabled he⟩, fun conn h => ?closes⟩
  case req =>
    have req := execCmReq_std hz ⟨he, hs, hstop, hv, hp⟩ hr
    refine ⟨fun hi => ?rejected, fun hi => ?accepted⟩ <;> rw [hi] at req
    case rejected => exact req
    case accepted =>
      refine ⟨_, _, req, tget_qps_setQp (q := stdQp r (drawFree s).1 s) Nat.one_ne_zero, rfl, rfl, rfl, rfl, rfl, rfl, rfl, rfl, rfl, rfl, ?_⟩
      exact (Keeps.step (M := 1048600) drive_keeps rfl (Keeps.step setQp_keeps rfl (Keeps.widen drawFree_keeps rfl))).only rfl
  case opens =>
    have opens := execIcreq_opens (peer := peer) (hd := hd) (dd := dd) ⟨he, hs, hstop, hv, hp⟩ ht
    exact ⟨_, _, opens, rfl, tget_tset_same .., rfl, rfl, rfl, execIcreq_keeps.only opens rfl⟩
  case closes =>
    exact ⟨execH2ctermreq_open h, execCapsulecmd_badDigest h, execH2cdata_badDigest h, fun _ _ c hq => execCapsulecmd_good h hq c,
      fun _ _ _ _ _ hk => execH2cdata_good h hk⟩

end Sys2Proof.Machine
end

section
/-!
PROOF. Granted descriptors (O39): the grant, then a ring's oldest granted descriptor by its opcode.
-/
namespace Sys2Proof.Machine

section
variable {g : Nat} {s : State}

/-! ### The grant and the interrupt (R302, R303) -/

theorem execRingGrant_disabled {mem : List (Nat × Nat × Desc)} (h : bitAt (cfg s Reg.RINGS_RINGS_CTL) 0 = false) :
    execRingGrant mem s = .next s :=
  congrArg Host.Outcome.next (if_pos (by simp [h]))

theorem execRingGrant_picked {mem : List (Nat × Nat × Desc)} {n : Nat} {w : Wrr} (h : bitAt (cfg s Reg.RINGS_RINGS_CTL) 0 = true)
    (hp : s.ep.arb.pick (ringsWork s) (fun g => min (ringAt s g).weight (cfgAt s Reg.RINGS_FN_WEIGHT_MAX (ringAt s g).fn))
      (fun g => (ringAt s g).burst) (fun g => (ringAt s g).waiting) = (some (g, n), w)) :
    execRingGrant mem s = .next (grantN g mem n { s with ep := { s.ep with arb := w, idle := false, ltrIdle := false } }) := by
  simp [execRingGrant, h, hp]

theorem execCoalDelayExpire_signals (hc : (ringAt s g).completion = true) (ha : (ringAt s g).arm = true)
    (hu : (ringAt s g).unsignalled ≠ 0) : execCoalDelayExpire g s =
      .next (msix (ringAt s g).fn (ringAt s g).vector (setRing g { ringAt s g with unsignalled := 0 } s)) :=
  congrArg Host.Outcome.next (if_pos ⟨hc, ha, hu⟩)

/-! ### A ring's oldest granted descriptor (R296) -/

section
variable {opc : Nat} {f : Desc → State → State} {d : Desc} {ds : List Desc} (hg : (ringAt s g).granted = d :: ds) (ho : d.opc = opc)
include hg ho

/-- The oldest granted descriptor of the opcode leaves the granted ones, unless something that it chains to is in flight. -/
theorem withDesc_front (hf : d.chain = true → (ringAt s g).flying = []) : withDesc g opc f s =
    refuseFront g (ds.length + 1) (if d.chain && !(ringAt s g).lastOk then ringDone g d.slot 7 0xA2 none 0 0 (descTake g d s)
      else f d (descTake g d s)) := by
  have goes : ¬(d.opc ≠ opc ∨ (d.chain = true ∧ (ringAt s g).flying ≠ [])) := by
    rintro (hne | ⟨hc, hne⟩)
    · exact hne ho
    · exact hne (hf hc)
  simp only [withDesc, hg, if_neg goes]

/-- A chained descriptor is skipped where the one before it did not succeed. -/
theorem withDesc_skips (hc : d.chain = true) (hf : (ringAt s g).flying = []) (hl : (ringAt s g).lastOk = false) :
    withDesc g opc f s = refuseFront g (ds.length + 1) (ringDone g d.slot 7 0xA2 none 0 0 (descTake g d s)) := by
  rw [withDesc_front hg ho fun _ => hf, if_pos (by simp [hc, hl])]

theorem withDesc_runs (hc : d.chain = false) :
    withDesc g opc f s = refuseFront g (ds.length + 1) (f d (descTake g d s)) := by
  rw [withDesc_front hg ho (by simp [hc]), if_neg (by simp [hc])]

end

/-! ### What taking a descriptor leaves (R296) -/

@[simp] theorem descTake_win (g : Nat) (d : Desc) (s : State) : (descTake g d s).win = s.win := descTake_keeps.win rfl

@[simp] theorem descTake_nvm (g : Nat) (d : Desc) (s : State) : (descTake g d s).nvm = s.nvm := descTake_keeps.nvm rfl

@[simp] theorem winAt_descTake (g : Nat) (d : Desc) (s : State) (w : Nat) : winAt (descTake g d s) w = winAt s w := by
  simp [winAt]

@[simp] theorem nsAt_descTake (g : Nat) (d : Desc) (s : State) (slot : Nat) : nsAt (descTake g d s) slot = nsAt s slot := by
  simp [nsAt]

/-! ### The opcodes that say more than their completion (R223, R296, R304) -/

section
variable {d : Desc} {ds : List Desc} (hg : (ringAt s g).granted = d :: ds)
include hg

/-- A chain wait on a BOUND window that the ring's function may use, by the state of the ring and the counter's value. -/
theorem execChainWait_bound {a : Assoc} {n : Ns} (ho : d.opc = 0x20) (hc : d.chain = false)
    (ha : ringAssoc (descTake g d s) g = some a) (hn : nsAt s (winAt s d.win).slot = some n) (hw : (winAt s d.win).state = 2)
    (hs : n.subsys = a.subsys) (hh : a.host ∈ n.hosts) : execChainWait g s =
      let run := descTake g d s
      let v := tgetD (winAt s d.win).ctrs d.ctr 0
      .next (refuseFront g (ds.length + 1)
        (if (ringAt run g).state = .draining then ringDone g d.slot 7 0xA1 none v 0 run
        else if tallyMet v d.target = true then ringDone g d.slot 0 0 (some false) v 0 run
        else { run with win := { run.win with
          chains := tset run.win.chains g { win := d.win, ctr := d.ctr, target := d.target, cid := d.slot } } })) := by
  rw [execChainWait, withDesc_runs hg ho hc]
  simp [ha, hn, hw, hs, hh]

/-- An entry is admitted as a capsule of the ring, in the association of the ring's function; one that no context takes ends 0/82h. -/
theorem execNvmeIo_admits {a : Assoc} {c : Capsule} (ho : d.opc = 0x01) (hc : d.chain = false) (ha : ringAssoc s g = some a)
    (hp : mayParse s a.host = true) : execNvmeIo g c s = .next (refuseFront g (ds.length + 1)
      ((submitRing g a.host a.subsys { c with cid := d.slot } (descTake g d s)).getD
        (ringDone g d.slot 0 0x82 (some false) 0 0 (descTake g d s)))) := by
  simp only [execNvmeIo, ha, hp, Bool.not_true, Bool.false_eq_true, if_false, withDesc_runs hg ho hc]
  cases submitRing g a.host a.subsys { c with cid := d.slot } (descTake g d s) <;> rfl

end

end

/-- Settles O39: each command of a ring runs, or skips, the oldest granted descriptor; a chain wait by its ring and its counter. -/
theorem grantedDescriptorsExecute : Obligations.GrantedDescriptorsExecute := by
  intro s g
  refine ⟨fun mem n w => execRingGrant_picked, fun mem => execRingGrant_disabled, fun d hg hf => ⟨?skipped, fun hc => ?executed⟩,
    execCoalDelayExpire_signals⟩
  case skipped => exact fun hc hl ho => congrArg Host.Outcome.next (withDesc_skips hg ho hc (hf hc) hl)
  case executed =>
    have runs {opc : Nat} (f : Desc → State → State) (ho : d.opc = opc) :
        Host.Outcome.next (withDesc g opc f s) = (.next (refuseFront g 1 (f d (descTake g d s))) : Res) :=
      congrArg Host.Outcome.next (withDesc_runs hg ho hc)
    refine ⟨runs _, runs _, fun ho _ => runs _ ho, runs _, fun ho _ => runs _ ho, runs _, runs _, runs _,
      fun a n ho ha hn hw hs hh => ?chainWait, fun a c ho ha hp => ⟨_, execNvmeIo_admits hg ho hc ha hp, ?admitted, ?refused⟩⟩
    case chainWait =>
      have waits := execChainWait_bound hg ho hc ha hn hw hs hh
      have ended {t u : State} (h : t = u) : (.next (refuseFront g 1 t) : Res) = .next (refuseFront g 1 u) := by rw [h]
      exact ⟨fun hd => waits.trans (ended (if_pos hd)), fun hd hm => waits.trans (ended ((if_neg hd).trans (if_pos hm))),
        fun hd hm => waits.trans (ended ((if_neg hd).trans (if_neg (by simp [hm]))))⟩
    case admitted => exact fun v hv => by rw [hv]; rfl
    case refused => exact fun hv => by rw [hv]; rfl

end Sys2Proof.Machine
end

section
/-!
PROOF. Eopin instructions (O35, O36): an instruction runs on an engine below its limit, then what each makes of the engine.
-/
namespace Sys2Proof.Machine

/-! ### What an instruction reads of an engine does not depend on its cycles (R234) -/

@[simp] theorem Engine.reg_withCycles (x : Engine) (n : Nat) (r : Fin 8) : { x with cycles := n }.reg r = x.reg r := rfl

@[simp] theorem Engine.read_withCycles (x : Engine) (n : Nat) (abs : Bool) (off len : Nat) :
    { x with cycles := n }.read abs off len = x.read abs off len := rfl

@[simp] theorem Engine.field_withCycles (x : Engine) (n : Nat) (f : EopField) : { x with cycles := n }.field f = x.field f := rfl

/-- A working register after a write: the written one has the value in 32 bits, the others keep theirs. -/
theorem Engine.reg_setReg {x : Engine} (hw : x.w.length = 8) (d r : Fin 8) (v : Nat) :
    (x.setReg d v).reg r = if r = d then v % 2 ^ 32 else x.reg r := by
  simp only [reg, setReg, List.getD_eq_getElem?_getD, List.getElem?_set, hw, Fin.ext_iff, eq_comm (a := d.val)]
  split <;> simp

/-! ### A branch goes to its target with one cycle more, or on (R233) -/

theorem branch_eq (e : Nat) (x : Engine) (taken : Bool) (tgt : Nat) (s : State) : branch e x taken tgt s =
    setEngine e (if taken then { x with pc := tgt, cycles := x.cycles + 1 } else x.adv) s := by
  cases taken <;> rfl

/-! ### The cursor moves within 255 (R234) -/

theorem advance_within {x : Engine} {n : Nat} (h : x.cur + n ≤ 255) (e : Nat) (s : State) :
    advance e x n s = setEngine e { x with cur := x.cur + n, pc := x.pc + 1 } s :=
  if_neg (Nat.not_lt.mpr h)

theorem advance_overrun {x : Engine} {n : Nat} (h : 255 < x.cur + n) (e : Nat) (s : State) : advance e x n s = overrunOp e x s :=
  if_pos h

section
variable {s : State} {e : Nat} {x : Engine} (hx : tget s.net.engines e = some x)
include hx

/-! ### The limit (R234) and the lookup's result (R238) -/

theorem runEop_atLimit (hw : x.waitAct = false) (hc : cycleLimit s e ≤ x.cycles) (cost : Nat) (f : Engine → State → State) :
    runEop e cost f s = limitOp e x s := by
  simp only [runEop, hx, hw, Bool.false_eq_true, if_false, if_pos hc]

theorem execEopinCycleLimit_reached (hc : cycleLimit s e ≤ x.cycles) : execEopinCycleLimit e s = .next (limitOp e x s) := by
  simp only [execEopinCycleLimit, hx, if_pos (Or.inl hc), Nat.max_eq_left hc]

theorem execEopinCycleLimit_below (hw : x.waitAct = false) (hc : x.cycles < cycleLimit s e) : execEopinCycleLimit e s = .next s := by
  have below : ¬(cycleLimit s e ≤ x.cycles ∨ x.waitAct = true) := by
    rw [hw]
    exact fun h => h.elim (Nat.not_le.mpr hc) Bool.false_ne_true
  simp only [execEopinCycleLimit, hx, if_neg below]

theorem execClassifierLookupDone_submitted {q : LookReq} (hq : x.look = some q) (hr : x.res = none) :
    execClassifierLookupDone e s = .next (if x.waitAct then actOp e x (lookupRun q s).1 (lookupRun q s).2
      else setEngine e { x with res := some (lookupRun q s).1 } (lookupRun q s).2) := by
  simp only [execClassifierLookupDone, hx, hq, hr]

/-! ### One instruction below the limit (R233, R234) -/

variable (hw : x.waitAct = false) (hc : x.cycles < cycleLimit s e)
include hw hc

theorem runEop_executes (cost : Nat) (f : Engine → State → State) :
    runEop e cost f s = f { x with cycles := x.cycles + cost } s := by
  simp only [runEop, hx, hw, Bool.false_eq_true, if_false, if_neg (Nat.not_le.mpr hc)]

theorem runReg_executes (cost : Nat) (f : Engine → Engine) :
    runReg e cost f s = setEngine e (f { x with cycles := x.cycles + cost }).adv s :=
  runEop_executes hx hw hc cost _

/-! ### Fields of the window (R233, R234) -/

theorem execEopExt_within {f : EopField} {v : Nat} (hf : x.field f = some v) (d : Fin 8) (sh : Fin 32) (imm : BitVec 32) :
    execEopExt e d f sh imm s =
      .next (setEngine e (({ x with cycles := x.cycles + 1 } : Engine).setReg d (v / 2 ^ sh.val &&& imm.toNat)).adv s) := by
  simp only [execEopExt, runEop_executes hx hw hc, Engine.field_withCycles, hf]

theorem execEopExt_overrun {f : EopField} (hf : x.field f = none) (d : Fin 8) (sh : Fin 32) (imm : BitVec 32) :
    execEopExt e d f sh imm s = .next (overrunOp e { x with cycles := x.cycles + 1 } s) := by
  simp only [execEopExt, runEop_executes hx hw hc, Engine.field_withCycles, hf]

section
variable {wide abs : Bool} {off : Fin 256} {v : Nat} (hf : x.field { w := if wide then .b2 else .b1, abs := abs, off := off } = some v)
  (tgt : Fin 8192) (mask val : BitVec 16)
include hf

theorem execEopMb_within : execEopMb e wide abs off tgt mask val s =
    .next (branch e { x with cycles := x.cycles + 1 } ((v &&& mask.toNat) == val.toNat) tgt.val s) := by
  simp only [execEopMb, runEop_executes hx hw hc, Engine.field_withCycles, hf]

theorem execEopMbn_within : execEopMbn e wide abs off tgt mask val s =
    .next (branch e { x with cycles := x.cycles + 1 } ((v &&& mask.toNat) != val.toNat) tgt.val s) := by
  simp only [execEopMbn, runEop_executes hx hw hc, Engine.field_withCycles, hf]

end

/-! ### Key bytes and flow hash in their stated ranges (R233, R242) -/

theorem execEopKey_stated {abs : Bool} {off : Fin 256} {len dst : Nat} {bs : List Nat} (h1 : 1 ≤ len) (h16 : len ≤ 16) (h4 : 4 ≤ dst)
    (h60 : dst + len ≤ 60) (hr : x.read abs off.val len = some bs) : execEopKey e abs off len dst s = .next (setEngine e { x with
      cycles := x.cycles + ceilDiv len 8, key := x.key.take dst ++ bs ++ x.key.drop (dst + len), pc := x.pc + 1 } s) := by
  have stated : ¬(len = 0 ∨ 16 < len ∨ dst < 4 ∨ 60 < dst + len) := by omega
  simp only [execEopKey, runEop_executes hx hw hc, Engine.read_withCycles, hr, if_neg stated]

theorem execEopKeyw_stated {dst : Nat} (h : dst ≤ 56) (r : Fin 8) : execEopKeyw e r dst s = .next (setEngine e { x with
    cycles := x.cycles + 1, key := x.key.take dst ++ (leBytes 4 (x.reg r)).reverse ++ x.key.drop (dst + 4), pc := x.pc + 1 } s) := by
  simp only [execEopKeyw, runEop_executes hx hw hc, if_neg (Nat.not_lt.mpr h), Engine.reg_withCycles]

theorem execEopHash_stated {abs : Bool} {off : Fin 256} {len : Nat} {bs : List Nat} (h1 : 1 ≤ len) (h40 : len ≤ 40)
    (hr : x.read abs off.val len = some bs) : execEopHash e abs off len s =
      .next (setEngine e (({ x with cycles := x.cycles + ceilDiv len 8 } : Engine).fold (hashKey s) bs).adv s) := by
  have stated : ¬(len = 0 ∨ 40 < len) := by omega
  simp only [execEopHash, runEop_executes hx hw hc, Engine.read_withCycles, hr, if_neg stated]

/-! ### Submitting a key and applying its result (R238) -/

theorem execEopLook_station {stn : Nat} (hs : x.frame.station = some stn) (profile : Fin 16) (flow : Bool) :
    execEopLook e profile flow s =
      let key := keyMeta x profile.val stn ++ x.key.drop 4
      .next (setEngine e { x with
        cycles := x.cycles + 1, key := key, look := some { key := key, flow := flow, at_ := x.cycles + 1 }, res := none, pc := x.pc + 1 } s) := by
  simp only [execEopLook, runEop_executes hx hw hc, hs]
  rfl

theorem execEopAct_stands {r : LookRes} (hr : x.res = some r) :
    execEopAct e s = .next (actOp e { x with cycles := x.cycles + 1 } r s) := by
  simp only [execEopAct, runEop_executes hx hw hc, hr]

theorem execEopAct_waits (hr : x.res = none) :
    execEopAct e s = .next (setEngine e { x with cycles := x.cycles + 1, waitAct := true } s) := by
  simp only [execEopAct, runEop_executes hx hw hc, hr]

end

/-- Settles O35: each instruction runs on the engine with one cycle counted, and its register, mark or output field is written. -/
theorem eopinRegisterInstructions : Obligations.EopinRegisterInstructions := by
  intro s e x hx hw hc
  have runs (f : Engine → Engine) :
      (.next (runReg e 1 f s) : Res) = .next (setEngine e (f { x with cycles := x.cycles + 1 }).adv s) :=
    congrArg Host.Outcome.next (runReg_executes hx hw hc 1 f)
  refine ⟨runs _, fun d r imm => ⟨runs _, runs _, runs _, ?sub, runs _, runs _⟩, fun d r sh _ _ _ => ⟨runs _, runs _⟩,
    fun d f sh imm v hf => execEopExt_within hx hw hc hf d sh imm, fun d f sh imm hf => execEopExt_overrun hx hw hc hf d sh imm,
    fun f r imm => ⟨runs _, runs _⟩, fun no abs off => ⟨_, runs _, rfl⟩, fun d r v hl => Engine.reg_setReg hl d r v⟩
  case sub =>
    rw [Nat.add_sub_assoc (Nat.le_of_lt imm.isLt)]
    exact runs _

/-- Settles O36: each instruction by the condition that decides its branch, range or wait; the lookup and the limit apart. -/
theorem eopinFlowInstructions : Obligations.EopinFlowInstructions := by
  intro s e x hx y go
  refine ⟨fun hw hc => ?executes, fun q hq hr => ⟨_, _, rfl, execClassifierLookupDone_submitted hx hq hr⟩,
    fun hc => ⟨execEopinCycleLimit_reached hx hc, fun hw => congrArg Host.Outcome.next (runEop_atLimit hx hw hc 1 _)⟩,
    fun hc hw => execEopinCycleLimit_below hx hw hc⟩
  have runs (f : Engine → State → State) : (.next (runEop e 1 f s) : Res) = .next (f y s) :=
    congrArg Host.Outcome.next (runEop_executes hx hw hc 1 f)
  have goes (taken : Bool) (tgt : Nat) : (.next (branch e y taken tgt s) : Res) = .next (go taken tgt) :=
    congrArg Host.Outcome.next (branch_eq e y taken tgt s)
  refine ⟨fun wide abs off tgt mask val v hf => ⟨?mb, ?mbn⟩, fun r tgt imm => ⟨?beq, ?bne, ?blt, ?jmp, ?jtab⟩,
    fun imm h => ?adv, fun imm h => ?advOverrun, fun r sh h => ?advw,
    fun abs off len dst bs h1 h16 h4 h60 hr => execEopKey_stated hx hw hc h1 h16 h4 h60 hr,
    fun r dst h => execEopKeyw_stated hx hw hc h r, fun abs off len bs h1 h40 hr => execEopHash_stated hx hw hc h1 h40 hr,
    fun r => runs _, fun profile flow stn hs => execEopLook_station hx hw hc hs profile flow,
    fun r hr => execEopAct_stands hx hw hc hr, execEopAct_waits hx hw hc, runs _, fun reason => runs _⟩
  case mb => exact (execEopMb_within hx hw hc hf tgt mask val).trans (goes _ _)
  case mbn => exact (execEopMbn_within hx hw hc hf tgt mask val).trans (goes _ _)
  case beq | bne | blt | jmp | jtab => exact (runs _).trans (goes _ _)
  case adv | advw => exact (runs _).trans (congrArg Host.Outcome.next (advance_within (x := y) h e s))
  case advOverrun => exact (runs _).trans (congrArg Host.Outcome.next (advance_overrun (x := y) h e s))

end Sys2Proof.Machine
end

section
/-!
PROOF. Ring pages (O38): a page is there or not, then each access by the state of its ring and the range of the value it carries.
-/
namespace Sys2Proof.Machine

section
variable {s : State} {fn n g : Nat} {r : Ring}

/-! ### The page (R282, R285, R291) -/

theorem ringPage_unheard (hf : fnHears s fn = false) (f : Nat → State → State) : ringPage fn n f s = s :=
  if_pos (Or.inl (by rw [hf, Bool.not_false]))

variable (hf : fnHears s fn = true) (he : ringExists s fn n = true) (hg : ringGlobal s fn n = g) (ht : thas s.ep.rings g = true)
include hf he hg ht

/-- The page of a ring that exists and stands in the table acts on that ring, in the state as it is. -/
theorem ringPage_exists (f : Nat → State → State) : ringPage fn n f s = f g s := by
  simp [ringPage, hf, he, hg, ht]

variable (hr : ringAt s g = r)
include hr

/-! ### A pushed descriptor (R299) -/

theorem execPush_accepted {d : Desc} (hw : r.completion = false) (ha : r.state = .active)
    (hp : bitAt (cfg s Reg.RINGS_RINGS_CTL) 1 = true) (hd : d.slot = r.tail % r.len) (hl : pfLines s < 16384) (hb : s.fnBme fn = true)
    (hm : r.waiting + r.granted.length + r.flying.length + 1 ≤ r.len - 1) : execPush fn n true d s =
      .next (bump Reg.RINGS_PUSH_ACCEPTED (setRing g { r with tail := (r.tail + 1) % r.len, pushed := tset r.pushed (r.tail % r.len) d }
        { s with ep := { s.ep with idle := false, ltrIdle := false } })) := by
  simp only [execPush, ringPage_exists hf he hg ht, hr, hw, ha, hp, hd, hl, hb, hm, Bool.false_eq_true, reduceCtorEq, or_self, if_false,
    beq_self_eq_true, decide_true, Bool.and_self, if_true]

/-- A push that is not one aligned write is never accepted: it rings the doorbell past its slot. -/
theorem execPush_notWhole {d : Desc} (hw : r.completion = false) (ha : r.state = .active) :
    execPush fn n false d s = .next (bump Reg.RINGS_PUSH_REJECTED (doorbell g (d.slot + 1) s)) := by
  simp [execPush, ringPage_exists hf he hg ht, hr, hw, ha]

/-! ### A drain (R295, R305) -/

theorem execDrain_noChain (ha : r.state = .active ∨ r.state = .paused) (hc : tget s.win.chains g = none) :
    execDrain fn n s = .next (ringSettle g (setRing g { r with state := .draining, pushed := [] } s)) := by
  have drains : ¬(r.state ≠ .active ∧ r.state ≠ .paused) := fun h => ha.elim h.1 h.2
  simp only [execDrain, ringPage_exists hf he hg ht, hr, if_neg drains, setRing_win, hc]

/-! ### The control registers (R294) -/

theorem execRingCtlWrite_size (v : Nat) : execRingCtlWrite fn n 0x00C v s =
    .next (if 4 ≤ v % 32 ∧ v % 32 ≤ 16 then
        if r.state = .disabled then setRing g { r with n := v % 32, head := 0, tail := 0, phase := true } s
        else setRing g { r with err := 3 } s
      else setRing g { r with err := 1 } s) := by
  subst hr
  exact congrArg Host.Outcome.next (ringPage_exists hf he hg ht _)

theorem execRingCtlWrite_sched (v : Nat) : execRingCtlWrite fn n 0x018 v s =
    .next (if bits v 0 8 = 0 ∨ bits v 8 6 = 0 ∨ 32 < bits v 8 6 then setRing g { r with err := 1 } s
      else setRing g { r with weight := bits v 0 8, burst := bits v 8 6 } s) := by
  subst hr
  exact congrArg Host.Outcome.next (ringPage_exists hf he hg ht _)

theorem execRingCtlWrite_coal (v : Nat) : execRingCtlWrite fn n 0x01C v s =
    .next (if bits v 0 8 = 0 then setRing g { r with err := 1 } s
      else setRing g { r with coalN := bits v 0 8, coalUs := bits v 8 16 } s) := by
  subst hr
  exact congrArg Host.Outcome.next (ringPage_exists hf he hg ht _)

end

/-- Settles O38: each access reaches its ring, and the ring's state or the value's range decides its branch. -/
theorem ringPagesAct : Obligations.RingPagesAct := by
  intro s fn n
  refine ⟨fun hf v => congrArg Host.Outcome.next (ringPage_unheard hf _), fun hf he ht => ?_⟩
  have acts {f : Nat → State → State} {t : State} (h : f (ringGlobal s fn n) s = t) : (.next (ringPage fn n f s) : Res) = .next t :=
    congrArg Host.Outcome.next ((ringPage_exists hf he rfl ht f).trans h)
  have branches {c : Prop} [Decidable c] {a : Res} {t u : State} (h : a = .next (if c then t else u)) :
      (c → a = .next t) ∧ (¬c → a = .next u) :=
    ⟨fun hc => by rw [h, if_pos hc], fun hc => by rw [h, if_neg hc]⟩
  refine ⟨fun v => acts rfl, fun d => execPush_accepted hf he rfl ht rfl, fun d => execPush_notWhole hf he rfl ht rfl,
    fun ha => acts (if_neg (not_not_intro ha)), fun ha => acts (if_pos ha),
    fun hp => ⟨acts (if_neg (not_not_intro hp)), acts (if_neg (not_not_intro hp))⟩, fun hp => ⟨acts (if_pos hp), acts (if_pos hp)⟩,
    execDrain_noChain hf he rfl ht rfl, fun ha hp => acts (if_pos ⟨ha, hp⟩), fun v => ⟨acts rfl, ?registers⟩⟩
  case registers =>
    obtain ⟨sizeInRange, sizeOutside⟩ := branches (execRingCtlWrite_size hf he rfl ht rfl v)
    obtain ⟨schedOutside, schedInRange⟩ := branches (execRingCtlWrite_sched hf he rfl ht rfl v)
    obtain ⟨coalZero, coalInRange⟩ := branches (execRingCtlWrite_coal hf he rfl ht rfl v)
    exact ⟨fun hd h4 h16 => (sizeInRange ⟨h4, h16⟩).trans (congrArg Host.Outcome.next (if_pos hd)), fun h => sizeOutside (by omega),
      fun hw => ⟨schedOutside (Or.inl hw), coalZero hw⟩, fun hw h1 h32 => schedInRange (by omega), coalInRange⟩

end Sys2Proof.Machine
end

section
/-!
PROOF. Drive ports (O40): each command by the state of its port, a command that times out by the record kept of it at its tag.
-/
namespace Sys2Proof.Machine

section
variable {s : State} {n : Nat}

/-! ### Training, readiness and the end of containment (R309, R310, R315, R317) -/

theorem execPerstDelayExpire_held (hn : n < 24) (h1 : (portAt s n).state = 1) (hp : (bayAt s n).pg = true)
    (hr : s.pwr.released = true) : execPerstDelayExpire n s = .next (setPort n { portAt s n with state := 2 } s) := by
  simp [execPerstDelayExpire, Nat.not_le.mpr hn, h1, hp, hr]

theorem execRpTrainingTimeout_training (h2 : (portAt s n).state = 2) : execRpTrainingTimeout n s =
    .next (if 2 ≤ (portAt s n).trainFails then portSettled n (portUnusable n 6 (setPort n { portAt s n with trainFails := 0 } s))
      else portDown n 1 0 id (setPort n { portAt s n with trainFails := (portAt s n).trainFails + 1 } s)) :=
  congrArg Host.Outcome.next (if_neg (not_not_intro h2))

theorem execRpLinkUp_training (h2 : (portAt s n).state = 2) (w r : Nat) (f : Bool) : execRpLinkUp n w r f s =
    .next (rpEvent n 0x01 [1, w] (setPort n { portAt s n with
      state := 3, link := true, width := w, rate := r, flit := f, trainFails := 0 } s)) :=
  congrArg Host.Outcome.next (if_neg (not_not_intro h2))

theorem execDriveReadyTimeout_enumerating (h3 : (portAt s n).state = 3) : execDriveReadyTimeout n s =
    .next (if 2 ≤ (portAt s n).readyFails then portSettled n (portUnusable n 7 (setPort n { portAt s n with readyFails := 0 } s))
      else portDown n 1 0 id (setPort n { portAt s n with readyFails := (portAt s n).readyFails + 1 } s)) :=
  congrArg Host.Outcome.next (if_neg (not_not_intro h3))

/-- A port whose drive passed every check: READY, with the queues, the depth and the label the drive gave (R310). -/
def portReady (s : State) (n : Nat) (d : DriveFacts) : Port :=
  { portAt s n with
    dual := d.cmic, state := 4, check := 0, readyFails := 0, qpairs := min 128 d.granted, depth := min 4096 (d.mqes + 1)
    blocks := d.blocks, serial := d.serial, label := d.label }

theorem execDriveReady_passes {d : DriveFacts} (h3 : (portAt s n).state = 3) (hd : driveCheck s d = 0) :
    execDriveReady n d s = .next (portSettled n (setPort n (portReady s n d) s)) := by
  rw [execDriveReady, if_pos h3]
  simp only [enumerateDrive, hd]
  rfl

theorem execRpContainEnd_contained (h5 : (portAt s n).state = 5) :
    execRpContainEnd n s = .next (setPort n { portAt s n with state := 1 } s) :=
  congrArg Host.Outcome.next (if_pos h5)

theorem execRpIdle_wide (h4 : (portAt s n).state = 4) (hw : (portAt s n).narrow = false)
    (hl : bitAt (cfg s (Reg.RP_RP_CTL n)) 1 = true) :
    execRpIdle n s = .next (bump (Reg.RP_L0P_ENTRIES n) (setPort n { portAt s n with narrow := true } s)) := by
  simp [execRpIdle, h4, hw, hl]

/-! ### A Format that ends with no command of its port outstanding (R311) -/

theorem execDriveFormatComplete_noCommand (hf : (memberAt s n).formatting = true) (h2 : (memberAt s n).state ≠ 2)
    (hc : s.store.cmds = []) : execDriveFormatComplete n s = .next (setMember n { memberAt s n with formatting := false } s) := by
  simp [execDriveFormatComplete, hf, h2, hc]

/-! ### A command that times out (R313) -/

/-- The times of the port's timeouts of the last second, this one the last. -/
def recentTimeouts (s : State) (n : Nat) : List Nat :=
  ((portAt s n).timeouts.filter fun t => decide (s.time < t + 1000000000)) ++ [s.time]

/-- A command's timeout is noted at its port, recorded and counted, and an Abort for its tag goes out. -/
def timeoutNoted (n tag : Nat) (s : State) : State :=
  drive (.driveOp (n * 16384 + tag) n 5 tag) (bump (Reg.RP_CMD_TIMEOUTS n) (errLast (0x30 + n) 0x11 0 3
    (setPort n { portAt s n with timeouts := recentTimeouts s n } s)))

/-- The command at a tag is quarantined, and what it still delivers is discarded. -/
def quarantineCmd (k : Nat) (c : DrvCmd) (s : State) : State :=
  { s with store := { s.store with cmds := tset s.store.cmds k { c with quarantined := true, discard := true } } }

@[simp] theorem cfg_timeoutNoted (n tag : Nat) (s : State) (r : RegId) : cfg (timeoutNoted n tag s) r = cfg s r := by
  simp [cfg, cfgAt, timeoutNoted]

/-- Whether a timeout of this command is its second (R313). -/
def DrvCmd.timesOutTwice (c : DrvCmd) (p : Port) : Bool :=
  !c.firstTry || (match c.purpose with
    | .flushWrite f => p.retried.contains f
    | _ => false)

theorem execRpCommandTimeout_outstanding {tag : Nat} {c : DrvCmd} (ht : tag < 16384) (hn : n < 24) (hp : (portAt s n).perstRel = true)
    (hc : tget s.store.cmds (n * 16384 + tag) = some c) (hq : c.quarantined = false) : execRpCommandTimeout n tag false false s =
      .next (if c.timesOutTwice (portAt s n) = true ∨ cfg s (Reg.RP_TO_ESCALATE n) ≤ (recentTimeouts s n).length then
          portRecover n (timeoutNoted n tag s)
        else
          let v := quarantineCmd (n * 16384 + tag) c (timeoutNoted n tag s)
          if c.discard then v else timedOut n c v) := by
  have takes : ¬(24 ≤ n ∨ (!(portAt s n).perstRel) = true ∨
      (if false = true then (some c).isSome else (some c).elim true fun c => c.quarantined) = true) := by
    simp [hn, hp, hq]
  simp only [execRpCommandTimeout, Nat.mod_eq_of_lt ht, hc, if_neg takes]
  rw [← cfg_timeoutNoted n tag s]
  rfl

/-! ### A quarantined tag (R314) -/

section
variable {tag : Nat} (ht : tag < 16384) (hq : quarantinedTag s (n * 16384 + tag) = true)
include ht hq

theorem execRpTagQuarantineEnd_quarantined : execRpTagQuarantineEnd n tag s = .next (freeCmd (n * 16384 + tag) s) := by
  simp [execRpTagQuarantineEnd, Nat.mod_eq_of_lt ht, hq]

theorem execRpLateCompletion_quarantined : execRpLateCompletion n tag s = .next (lateCompletion (n * 16384 + tag) s) := by
  simp [execRpLateCompletion, Nat.mod_eq_of_lt ht, hq]

theorem execRpLateData_quarantined : execRpLateData n tag s = .next (bump (Reg.RP_LATE_DATA n) s) := by
  simp [execRpLateData, Nat.mod_eq_of_lt ht, hq]

end

/-! ### A containable error and a lost link (R315, R316) -/

@[simp] theorem cfg_errLast (page code off path : Nat) (s : State) (r : RegId) : cfg (errLast page code off path s) r = cfg s r := by
  simp [cfg, cfgAt]

theorem execRpContain_containable {code : Nat} (hn : n < 24) (hp : (portAt s n).perstRel = true) (hl : 0x12 ≤ code) (hh : code ≤ 0x15) :
    execRpContain n code s = .next (
      if bitAt (cfg s (Reg.RP_RP_CTL n)) 2 then
        portDown n 5 0 (portDepart n) (bump (Reg.RP_CONTAINS n) (rpEvent n 0x04 [code] (errLast (0x30 + n) code 0 3 s)))
      else errLast (0x30 + n) code 0 3 s) := by
  have containable : ¬(code < 0x12 ∨ 0x15 < code) := by omega
  have released : ¬(24 ≤ n ∨ (!(portAt s n).perstRel) = true) := by simp [hn, hp]
  simp only [execRpContain, if_neg released, if_neg containable, cfg_errLast]
  cases bitAt (cfg s (Reg.RP_RP_CTL n)) 2 <;> rfl

theorem execRpLinkLoss_ready (h4 : (portAt s n).state = 4) (b : Bool) : execRpLinkLoss n b s =
    .next (portDown n 1 0 (portDepart n) (bump (Reg.RP_LINK_DOWNS n) (rpEvent n 0x06 [b2n b] s))) :=
  congrArg Host.Outcome.next (if_neg fun h => h.2 h4)

end

/-- Settles O40: each command's equation in the port state, and under the tag's record, that its clause names. -/
theorem drivePortsAct : Obligations.DrivePortsAct := by
  intro s n
  refine ⟨execPerstDelayExpire_held, fun h2 => ⟨fun h => ?trainAgain, fun h => ?trainGivenUp, execRpLinkUp_training h2⟩,
    fun h3 => ⟨fun h => ?readyAgain, fun h => ?readyGivenUp, fun d hd => ⟨_, execDriveReady_passes h3 hd, rfl, rfl, rfl, rfl, rfl, rfl, rfl⟩⟩,
    execDriveFormatComplete_noCommand, fun tag c ht hn hp hc hq => ⟨fun h => ?escalates, fun j strip rows d h hf hd hr => ?erasures⟩,
    fun tag ht hq => ⟨execRpTagQuarantineEnd_quarantined ht hq, execRpLateCompletion_quarantined ht hq, execRpLateData_quarantined ht hq⟩,
    fun code hn hp hl hh => ⟨fun hb => ?contains, fun hb => ?discards⟩, execRpContainEnd_contained,
    fun h4 => ⟨execRpLinkLoss_ready h4, execRpIdle_wide h4⟩⟩
  case trainAgain => exact (execRpTrainingTimeout_training h2).trans (congrArg _ (if_neg (Nat.not_le.mpr h)))
  case trainGivenUp => exact (execRpTrainingTimeout_training h2).trans (congrArg _ (if_pos h))
  case readyAgain => exact (execDriveReadyTimeout_enumerating h3).trans (congrArg _ (if_neg (Nat.not_le.mpr h)))
  case readyGivenUp => exact (execDriveReadyTimeout_enumerating h3).trans (congrArg _ (if_pos h))
  case escalates => exact (execRpCommandTimeout_outstanding ht hn hp hc hq).trans (congrArg _ (if_pos (Or.inr h)))
  case erasures =>
    have once : ¬(c.timesOutTwice (portAt s n) = true ∨ cfg s (Reg.RP_TO_ESCALATE n) ≤ (recentTimeouts s n).length) := by
      rintro (twice | many)
      · simp [DrvCmd.timesOutTwice, hf, hr] at twice
      · exact absurd h (Nat.not_lt.mpr many)
    refine ⟨quarantineCmd (n * 16384 + tag) c (timeoutNoted n tag s), upd_store.only rfl, tget_tset_same _ _ _, ?_⟩
    refine (execRpCommandTimeout_outstanding ht hn hp hc hq).trans (congrArg _ ((if_neg once).trans ?_))
    simp [hd, timedOut, hr]
  case contains => exact (execRpContain_containable hn hp hl hh).trans (congrArg _ (if_pos hb))
  case discards => exact (execRpContain_containable hn hp hl hh).trans (congrArg _ (if_neg (Bool.eq_false_iff.mp hb)))

end Sys2Proof.Machine
end

section
/-!
PROOF. Sideband inputs, the LED chain and bay commands (O41): each command under the level, the press or the bay state its clause names.
-/
namespace Sys2Proof.Machine

section
variable {s : State} {bay input : Nat}

/-! ### Levels (R319) -/

/-- The raw level of an input as it now is, and its debounce window running. -/
def levelNoted (bay input : Nat) (low : Bool) (x : SideSt) : SideSt :=
  { x with
    raw := if low then x.raw ++ [input * 32 + bay] else x.raw.filter fun i => i != input * 32 + bay
    window := if x.window.contains (input * 32 + bay) then x.window else x.window ++ [input * 32 + bay] }

theorem mem_window_levelNoted (low : Bool) (x : SideSt) : input * 32 + bay ∈ (levelNoted bay input low x).window := by
  by_cases running : x.window.contains (input * 32 + bay) = true
  · simpa only [levelNoted, if_pos running] using List.contains_iff_mem.mp running
  · simp only [levelNoted, if_neg running, List.mem_append, List.mem_singleton, or_true]

theorem mem_raw_levelNoted (low : Bool) (x : SideSt) : input * 32 + bay ∈ (levelNoted bay input low x).raw ↔ low = true := by
  cases low <;> simp [levelNoted]

theorem execSidebandEdge_changes {low : Bool} (hb : bay < 24) (hi : input < 3) (hl : s.bay.side.raw.contains (input * 32 + bay) ≠ low) :
    execSidebandEdge bay input low s = .next (modSide (levelNoted bay input low) s) := by
  have changes : ¬(24 ≤ bay ∨ 3 ≤ input ∨ s.bay.side.raw.contains (input * 32 + bay) = low) := by
    rintro (h | h | h)
    · omega
    · omega
    · exact hl h
  exact congrArg Host.Outcome.next (if_neg changes)

/-- Setting a debounced level changes the mask of one input's debounced levels. -/
theorem setDeb_only (input bay : Nat) (low : Bool) (x : SideSt) : ∃ m, x.setDeb input bay low = { x with debPrsnt := m } ∨
    x.setDeb input bay low = { x with debIfdet := m } ∨ x.setDeb input bay low = { x with debAttn := m } := by
  unfold SideSt.setDeb
  by_cases h0 : input = 0
  · exact ⟨_, .inl (if_pos h0)⟩
  · by_cases h1 : input = 1
    · exact ⟨_, .inr (.inl ((if_neg h0).trans (if_pos h1)))⟩
    · exact ⟨_, .inr (.inr ((if_neg h0).trans (if_neg h1)))⟩

/-- An input's level has been stable for its window: it is the debounced level, and the window has ended. -/
def levelDebounced (bay input : Nat) (low : Bool) (x : SideSt) : SideSt :=
  { (x.setDeb input bay low) with window := x.window.filter fun i => i != input * 32 + bay }

@[simp] theorem quar_levelDebounced (low : Bool) (x : SideSt) : (levelDebounced bay input low x).quar input = x.quar input := by
  rcases setDeb_only input bay low x with ⟨m, h | h | h⟩ <;> rw [levelDebounced, h] <;> rfl

@[simp] theorem acc_levelDebounced (low : Bool) (x : SideSt) : (levelDebounced bay input low x).acc input = x.acc input := by
  rcases setDeb_only input bay low x with ⟨m, h | h | h⟩ <;> rw [levelDebounced, h] <;> rfl

theorem execSidebandLevelAccept_stable (hb : bay < 24) (hi : input < 3) (hw : s.bay.side.window.contains (input * 32 + bay) = true) :
    execSidebandLevelAccept bay input s =
      .next (if bitAt (s.bay.side.quar input) bay = true ∨
            bitAt (s.bay.side.acc input) bay = s.bay.side.raw.contains (input * 32 + bay) then
          modSide (levelDebounced bay input (s.bay.side.raw.contains (input * 32 + bay))) s
        else sideAccept input bay (s.bay.side.raw.contains (input * 32 + bay))
          (modSide (levelDebounced bay input (s.bay.side.raw.contains (input * 32 + bay))) s)) := by
  have stable : ¬(24 ≤ bay ∨ 3 ≤ input ∨ (!s.bay.side.window.contains (input * 32 + bay)) = true) := by
    simp only [hw, Bool.not_true, Bool.false_eq_true, or_false]
    omega
  rw [← quar_levelDebounced (bay := bay) (s.bay.side.raw.contains (input * 32 + bay)),
    ← acc_levelDebounced (bay := bay) (s.bay.side.raw.contains (input * 32 + bay))]
  exact congrArg Host.Outcome.next (if_neg stable)

/-! ### Bay commands (R331, R334) -/

theorem exec_bayCommand {p : Path} {cmd : Nat} {c : Instr} (hb : bay < 24) (hp : MayWrite p (Reg.BAY_CMD bay) s)
    (hc : (cmd, c) ∈ [(1, Instr.bayOff p bay), (2, .bayOn p bay), (3, .bayClear p bay), (4, .bayCycle p bay)]) :
    exec c s = .next (bayCommand bay cmd s) := by
  have acts (cmd : Nat) : (if 24 ≤ bay then s else cmdWrite p (Reg.BAY_CMD bay) (bayCommand bay cmd) s) = bayCommand bay cmd s :=
    (if_neg (Nat.not_le.mpr hb)).trans (cmdWrite_acts hp _)
  simp only [List.mem_cons, Prod.mk.injEq, List.not_mem_nil, or_false] at hc
  obtain ⟨rfl, rfl⟩ | ⟨rfl, rfl⟩ | ⟨rfl, rfl⟩ | ⟨rfl, rfl⟩ := hc <;> exact congrArg Host.Outcome.next (acts _)

theorem bayCommand_notTaken {cmd : Nat} (h : bayTakes s bay cmd = false) : bayCommand bay cmd s = wr (Reg.BAY_CMD_STAT bay) 1 s := by
  simp [bayCommand, h]

theorem bayCommand_taken {cmd : Nat} (h : bayTakes s bay cmd = true) : bayCommand bay cmd s =
    requestRecord (.bayCmd bay cmd) .nothing (bayCmdEffect bay cmd) id (wr (Reg.BAY_CMD_STAT bay) 0 s) := by
  simp [bayCommand, h]

/-! ### A long press (R320) -/

/-- A long press is counted, once for its hold. -/
def longPressCounted (bay : Nat) (s : State) : State :=
  bump Reg.SIDEBAND_LONG_PRESSES (modSide (fun x => { x with counting := clrBit x.counting bay }) s)

theorem longPressCounted_only (bay : Nat) (s : State) : OnlyParts [.regs, .bay] s (longPressCounted bay s) :=
  (Keeps.step (M := 8388609) bump_keeps rfl (modSide_keeps.widen rfl)).only rfl

theorem longPressCounted_counting (bay : Nat) (s : State) :
    (longPressCounted bay s).bay.side.counting = clrBit s.bay.side.counting bay := by
  simp [longPressCounted]

@[simp] theorem cfg_longPressCounted (bay : Nat) (s : State) (r : RegId) : cfg (longPressCounted bay s) r = cfg s r := by
  simp [cfg, cfgAt, longPressCounted]

theorem execLongPress_counting (hc : bitAt s.bay.side.counting bay = true) : execLongPress bay s =
    let u := longPressCounted bay s
    let off := bitAt (cfg s Reg.SIDEBAND_SB_CTL) 0 && bayTakes u bay 1
    let v := raise 0x4C03 [bay, b2n off] u
    .next (if off then requestRecord (.bayCmd bay 1) .nothing (bayCmdEffect bay 1) id v else v) := by
  have held : ¬(!bitAt s.bay.side.counting bay) = true := by simp [hc]
  rw [← cfg_longPressCounted bay s]
  exact congrArg Host.Outcome.next (if_neg held)

/-! ### A quarantine that does not stand (R319) -/

/-- Clearing quarantines of which none stands changes nothing. -/
theorem quarClearOp_noneStands {v : Nat} (h : ∀ b, b < 24 → bitAt v b = true → bitAt (s.bay.side.quar input) b = false) :
    quarClearOp input v s = s := by
  refine List.foldlRecOn (motive := (· = s)) _ _ rfl fun t ht b hb => ?_
  subst ht
  refine if_neg fun ⟨cleared, stands⟩ => ?_
  rw [h b (List.mem_range.mp hb) cleared] at stands
  exact Bool.false_ne_true stands

/-! ### The LED chain (R321) -/

theorem execLedRefresh_other (h : drivesLeds s = false) : execLedRefresh s = .next s :=
  congrArg Host.Outcome.next (if_pos (by rw [h, Bool.not_false]))

theorem execLedRefresh_driven (h : drivesLeds s = true) : execLedRefresh s =
    .next (drive (.leds (ledWord s).1) { (ledWord s).2 with bay := { (ledWord s).2.bay with active := [] } }) :=
  congrArg Host.Outcome.next (if_neg (by rw [h]; exact Bool.false_ne_true))

end

/-- Settles O41: an input by its level and its quarantine, a press by LONG_OFF_EN and the bay's state, a bay command by whether the
bay takes it. -/
theorem sidebandAndBayCommandsAct : Obligations.SidebandAndBayCommandsAct := by
  intro s bay input hb
  refine ⟨fun low hi hl => ⟨_, execSidebandEdge_changes hb hi hl, mem_window_levelNoted low _, mem_raw_levelNoted low _, modSide_keeps.only rfl⟩,
    fun hi hw => ⟨fun h => ?held, fun hq ha => ?accepted⟩,
    fun hc => ⟨_, longPressCounted_only bay s, longPressCounted_counting bay s, fun hf => ?pressOnly, fun hf ht => ?pressOff⟩,
    fun p v hp hv => ?noQuarantine, execLedRefresh_other,
    fun h => ⟨_, _, _, rfl, execLedRefresh_driven h, rfl, rfl⟩,
    fun p hp cmd c hc => ⟨fun h => ?notTaken, fun h => ?taken⟩⟩
  case held => exact (execSidebandLevelAccept_stable hb hi hw).trans (congrArg _ (if_pos h))
  case accepted =>
    have differs : ¬(bitAt (s.bay.side.quar input) bay = true ∨
        bitAt (s.bay.side.acc input) bay = s.bay.side.raw.contains (input * 32 + bay)) := by
      rw [hq]
      exact fun h => h.elim Bool.false_ne_true ha
    exact (execSidebandLevelAccept_stable hb hi hw).trans (congrArg _ (if_neg differs))
  case pressOnly =>
    refine (execLongPress_counting hc).trans ?_
    simp [hf, b2n]
  case pressOff =>
    refine (execLongPress_counting hc).trans ?_
    simp [hf, ht, b2n]
  case noQuarantine => exact cmdWrite_next hp (quarClearOp_noneStands hv)
  case notTaken => rw [exec_bayCommand hb hp hc, bayCommand_notTaken h]
  case taken => rw [exec_bayCommand hb hp hc, bayCommand_taken h]

end Sys2Proof.Machine
end

section
/-!
PROOF. A step, the reset state and what every step keeps (O1 to O7): the command at the front runs or the clock ticks, and either keeps
the tables and what the root of trust has burnt or counted.
-/
namespace Sys2Proof.Machine

/-! ### A step -/

theorem step_of_pending {c : Instr} {rest : List Instr} {s : State} (h : s.pending = c :: rest) :
    step s = exec c { s with pending := rest } := by
  rw [step, h]

theorem step_of_idle {s : State} (h : s.pending = []) : step s = .next (tick s) := by
  rw [step, h]

/-- What a step answers has the tables canonical where they were, and the root of trust has taken nothing back. -/
theorem step_tables_lasting {s t : State} (h : step s = .next t) : (Tables s → Tables t) ∧ TrustKeeps s.trust t.trust := by
  cases hp : s.pending with
  | nil =>
    rw [step_of_idle hp] at h
    cases h
    exact ⟨tick_keeps.tables, tick_keeps.lasting⟩
  | cons c rest =>
    obtain ⟨u, hu, k⟩ := exec_keeps c { s with pending := rest }
    rw [step_of_pending hp, hu] at h
    cases h
    exact ⟨k.tables, k.lasting⟩

/-! ### A tick (R405) -/

theorem tick_of_held {s : State} (h : s.pwr.held = true) : tick s = s := if_pos h

/-- A running clock ticks: its time goes on by the nominal tick and its correction, and the rest of the slew stays pending. -/
theorem tick_of_running {s : State} (h : s.pwr.held = false) : tick s = { s with
    time := s.time + (tickNs + tickAdj s).toNat
    pwr := { s.pwr with
      upNs := s.pwr.upNs + tickNs
      adjFrac := (s.pwr.adjFrac + s.pwr.adjPpb) % 1000
      slewLeft := s.pwr.slewLeft - slewPart s.pwr.slewLeft } } := if_neg (by rw [h]; exact Bool.false_ne_true)

/-- A tick applies at most 500 ns of a slew, and never more than is left. -/
theorem slewPart_bounds (left : Int) : (left - slewPart left - left).natAbs ≤ 500 ∧ (left - slewPart left).natAbs ≤ left.natAbs := by
  unfold slewPart
  omega

theorem tickAdj_of_unadjusted {s : State} (hp : s.pwr.adjPpb = 0) (hf : s.pwr.adjFrac = 0) (hl : s.pwr.slewLeft = 0) : tickAdj s = 0 := by
  rw [tickAdj, hp, hf, hl]
  decide

/-- Settles O6: every command and the tick keep the tables. -/
theorem everyStepKeepsTheTables : Obligations.EveryStepKeepsTheTables :=
  fun _ _ hs h => (step_tables_lasting h).1 hs

/-- Settles O7: every command and the tick keep what the root of trust never takes back. -/
theorem theRootOfTrustTakesNothingBack : Obligations.TheRootOfTrustTakesNothingBack := by
  intro s t h
  obtain ⟨svn, digests, seq, boots⟩ := (step_tables_lasting h).2
  exact ⟨fun c _ hc => Nat.le_trans hc (svn c), digests, seq, boots⟩

/-- Settles O3: each command's `Keeps` lemma names the state it answers. -/
theorem everyCommandAnswersANextState : Obligations.EveryCommandAnswersANextState := by
  intro c s
  obtain ⟨t, ht, k⟩ := exec_keeps c s
  exact ⟨t, ht, k.pending⟩

/-- Settles O1: the step's own equation. -/
theorem stepRunsTheFrontCommand : Obligations.StepRunsTheFrontCommand :=
  fun _ _ _ => step_of_pending rfl

/-- Settles O2: a tick held in reset, and one of a running clock. -/
theorem anEmptyQueueLetsTheClockTick : Obligations.AnEmptyQueueLetsTheClockTick := by
  intro s hp
  rw [step_of_idle hp]
  refine ⟨fun h => by rw [tick_of_held h], fun h => ⟨_, rfl, tick_keeps.only rfl, ?_⟩⟩
  obtain ⟨moved, shrunk⟩ := slewPart_bounds s.pwr.slewLeft
  rw [tick_of_running h]
  refine ⟨rfl, moved, shrunk, fun hb hf hl => ?_⟩
  rw [tickAdj_of_unadjusted hb hf hl]
  rfl

/-- Settles O5: the three tables are empty. -/
theorem resetTablesAreCanonical : Obligations.ResetTablesAreCanonical := ⟨rfl, rfl, rfl⟩

/-- Settles O4: the reset state, part by part; every register is absent from its table. -/
theorem resetHoldsTheController : Obligations.ResetHoldsTheController :=
  ⟨rfl, rfl, rfl, rfl, fun _ _ => rfl, fun _ _ => rfl, rfl, rfl, rfl, rfl, rfl⟩

end Sys2Proof.Machine
end

section
/-!
PROOF. Registers and selectors read back what was written (O13): the keys of different registers differ.
-/
namespace Sys2Proof.Machine

/-- Within offsets of 16 bits and indices of 26 bits a key belongs to one register at one index. -/
theorem regKey_injective {r r' : RegId} {i j : Nat} (hr : r.off < 0x10000) (hr' : r'.off < 0x10000) (hi : i < 0x4000000)
    (hj : j < 0x4000000) (h : regKey r' j = regKey r i) : r' = r ∧ j = i := by
  obtain ⟨page, off⟩ := r
  obtain ⟨page', off'⟩ := r'
  simp only [regKey] at h hr hr'
  obtain ⟨rfl, rfl, rfl⟩ : page' = page ∧ off' = off ∧ j = i := by omega
  exact ⟨rfl, rfl⟩

theorem pathCode_injective : Function.Injective Path.code := by
  intro p p'
  cases p <;> cases p' <;> decide

/-- Within offsets of 16 bits and pages of 8 bits a key belongs to one path's copy of one selector. -/
theorem selKey_injective {p p' : Path} {r r' : RegId} (hr : r.off < 0x10000) (hr' : r'.off < 0x10000) (hp : r.page < 256)
    (hp' : r'.page < 256) (h : selKey p' r' = selKey p r) : p' = p ∧ r' = r := by
  obtain ⟨page, off⟩ := r
  obtain ⟨page', off'⟩ := r'
  simp only [selKey] at h hr hr' hp hp'
  obtain ⟨hc, rfl, rfl⟩ : p'.code = p.code ∧ page' = page ∧ off' = off := by omega
  exact ⟨pathCode_injective hc, rfl⟩

section
variable {s : State} (h : Tables s)
include h

theorem rdAt_wrAt (r : RegId) (i v : Nat) : rdAt (wrAt r i v s) r i = v := tgetD_tput_same h.1 _ _ _

theorem rd_wr (r : RegId) (v : Nat) : rd (wr r v s) r = v := rdAt_wrAt h r 0 v

theorem rdAt_wrAt_ne {r r' : RegId} {i j : Nat} (v : Nat) (hr : r.off < 0x10000) (hr' : r'.off < 0x10000) (hi : i < 0x4000000)
    (hj : j < 0x4000000) (hne : (r', j) ≠ (r, i)) : rdAt (wrAt r i v s) r' j = rdAt s r' j :=
  tgetD_tput_ne h.1 _ _ _ fun e => hne (Prod.mk.injEq .. ▸ regKey_injective hr hr' hi hj e)

theorem rdAt_bumpAt (r : RegId) (i n : Nat) : rdAt (bumpAt r i n s) r i = min (rdAt s r i + n) 0xFFFFFFFF := rdAt_wrAt h r i _

theorem sel_setSel (p : Path) (r : RegId) (v : Nat) : sel (setSel p r v s) p r = v := tgetD_tput_same h.2.1 _ _ _

theorem sel_setSel_ne {p p' : Path} {r r' : RegId} (v : Nat) (hr : r.off < 0x10000) (hr' : r'.off < 0x10000) (hp : r.page < 256)
    (hp' : r'.page < 256) (hne : (p', r') ≠ (p, r)) : sel (setSel p r v s) p' r' = sel s p' r' :=
  tgetD_tput_ne h.2.1 _ _ _ fun e => hne (Prod.mk.injEq .. ▸ selKey_injective hr hr' hp hp' e)

end

/-- Settles O13: a table reads back what was put at a key, and no other key's value moves. -/
theorem registersReadBackWhatWasWritten : Obligations.RegistersReadBackWhatWasWritten :=
  fun _ r _ i _ v p _ h hr hr' hp hp' hi hj =>
    ⟨rdAt_wrAt h r i v, rdAt_wrAt_ne h v hr hr' hi hj, rdAt_bumpAt h r i v, sel_setSel h p r v, sel_setSel_ne h v hr hr' hp hp',
      wrAt_keeps.tables h, setSel_keeps.tables h⟩

end Sys2Proof.Machine
end

section
/-!
PROOF. Register writes and reads (O49): which writes reach a register, and what each access type then does.
-/
namespace Sys2Proof.Machine

/-! ### Which writes reach a register (R443, R449, R455, R457) -/

section
variable {p : Path} {r : RegId} {row : RegRow} {be v : Nat} {s : State}

theorem regWriteFull_noPage (h : blockBase r.page = none) : regWriteFull p r be v s = s := by
  unfold regWriteFull
  rw [h]

/-- The path may write at all: it is not the endpoint path, or `HOST_WR_EN` is set (R457). -/
def PathWrites (p : Path) (s : State) : Prop := p ≠ .endpoint ∨ bitAt (cfg s Reg.TOP_TOP_CTL) 0 = true

theorem PathWrites.not_barred (h : PathWrites p s) : ¬(p = .endpoint ∧ (!bitAt (cfg s Reg.TOP_TOP_CTL) 0) = true) := by
  rintro ⟨he, hw⟩
  rcases h with h | h
  · exact h he
  · simp [h] at hw

section
variable (h : blockBase r.page ≠ none)
include h

theorem regWriteFull_hostWrEnOff (he : p = .endpoint) (hw : bitAt (cfg s Reg.TOP_TOP_CTL) 0 = false) :
    regWriteFull p r be v s = errLast r.page 0x09 r.off p.code s := by
  obtain ⟨b, hb⟩ := Option.ne_none_iff_exists'.mp h
  unfold regWriteFull
  rw [hb]
  exact if_pos ⟨he, by rw [hw]; rfl⟩

theorem regWriteFull_reserved (hp : PathWrites p s) (hr : regRow r = none) :
    regWriteFull p r be v s = errLast r.page 0x06 r.off p.code s := by
  obtain ⟨b, hb⟩ := Option.ne_none_iff_exists'.mp h
  unfold regWriteFull
  rw [hb, hr]
  exact if_neg hp.not_barred

theorem regWriteFull_ofRow (hp : PathWrites p s) (hr : regRow r = some row) : regWriteFull p r be v s =
    if isChipletPage r.page ∧ 0x100 ≤ r.off ∧ !s.pwr.chipletLink then errLast r.page 0x07 r.off p.code s
    else rowWrite p r row be v s := by
  obtain ⟨b, hb⟩ := Option.ne_none_iff_exists'.mp h
  unfold regWriteFull
  rw [hb, hr]
  exact if_neg hp.not_barred

theorem regWriteFull_linkDown (hp : PathWrites p s) (hr : regRow r = some row) (hc : isChipletPage r.page = true)
    (ho : 0x100 ≤ r.off) (hl : s.pwr.chipletLink = false) : regWriteFull p r be v s = errLast r.page 0x07 r.off p.code s :=
  (regWriteFull_ofRow h hp hr).trans (if_pos ⟨hc, ho, by rw [hl]; rfl⟩)

theorem regWriteFull_reaches (hp : PathWrites p s) (hr : regRow r = some row)
    (hl : isChipletPage r.page = false ∨ r.off < 0x100 ∨ s.pwr.chipletLink = true) :
    regWriteFull p r be v s = rowWrite p r row be v s := by
  refine (regWriteFull_ofRow h hp hr).trans (if_neg ?_)
  rintro ⟨hc, ho, hd⟩
  rcases hl with hl | hl | hl
  · rw [hl] at hc
    exact Bool.false_ne_true hc
  · exact Nat.not_le.mpr hl ho
  · rw [hl] at hd
    exact Bool.false_ne_true hd

end

end

/-! ### Access types (R450, R451, R396) -/

section
variable {p : Path} {r : RegId} {row : RegRow} {i be v : Nat} {s : State}

/-- The value an RWD write would stage: the written bytes merged into what is staged, reserved bits at their reset value. -/
def rwdMerged (r : RegId) (row : RegRow) (i be v : Nat) (s : State) : Nat :=
  (mergeBytes be (stagedAt s r i) v &&& row.mask) ||| (rstVal r i &&& (0xFFFFFFFF - row.mask))

theorem stageWrite_sealed (h : s.datum.active.sealed = true) : stageWrite p r row i be v s = errLast r.page 0x04 r.off p.code s := if_pos h

section
variable (hs : s.datum.active.sealed = false)
include hs

theorem stageWrite_busy (h : datumBusy s = true) : stageWrite p r row i be v s = errLast r.page 0x08 r.off p.code s :=
  (if_neg (by rw [hs]; exact Bool.false_ne_true)).trans (if_pos h)

theorem stageWrite_idle (h : datumBusy s = false) : stageWrite p r row i be v s =
    if !(rangeOk row (rwdMerged r row i be v s) && crossOk s r i (rwdMerged r row i be v s)) then errLast r.page 0x01 r.off p.code s
    else if r = Reg.NSMGR_NS_DEADLINE ∧ !s.slotActive i then errLast r.page 0x10 r.off p.code s
    else stagePut r i (rwdMerged r row i be v s) s :=
  (if_neg (by rw [hs]; exact Bool.false_ne_true)).trans (if_neg (by rw [h]; exact Bool.false_ne_true))

theorem stageWrite_outOfRange (h : datumBusy s = false)
    (hv : (rangeOk row (rwdMerged r row i be v s) && crossOk s r i (rwdMerged r row i be v s)) = false) :
    stageWrite p r row i be v s = errLast r.page 0x01 r.off p.code s := by
  rw [stageWrite_idle hs h, hv]
  rfl

theorem stageWrite_staged (h : datumBusy s = false)
    (hv : (rangeOk row (rwdMerged r row i be v s) && crossOk s r i (rwdMerged r row i be v s)) = true)
    (hd : r = Reg.NSMGR_NS_DEADLINE → s.slotActive i = true) :
    stageWrite p r row i be v s = stagePut r i (rwdMerged r row i be v s) s := by
  rw [stageWrite_idle hs h, hv]
  refine (if_neg Bool.false_ne_true).trans (if_neg ?_)
  rintro ⟨hr, ha⟩
  rw [hd hr] at ha
  exact Bool.false_ne_true ha

end

/-- What is staged is what a commit would give the register. -/
theorem stagedAt_stagePut (r : RegId) (i v : Nat) (s : State) : stagedAt (stagePut r i v s) r i = v := tgetD_tset_same ..

theorem stagePut_active (r : RegId) (i v : Nat) (s : State) : (stagePut r i v s).datum.active = s.datum.active := rfl

theorem rw1cWrite_clears (h0 : r ≠ Reg.SIDEBAND_QUAR_PRSNT) (h1 : r ≠ Reg.SIDEBAND_QUAR_IFDET) (h2 : r ≠ Reg.SIDEBAND_QUAR_ATTN) :
    rw1cWrite r v s = wr r (rd s r - (rd s r &&& v)) s :=
  (if_neg h0).trans ((if_neg h1).trans (if_neg h2))

theorem rwlWrite_sealed (h : s.datum.active.sealed = true) : rwlWrite p r row v s = errLast r.page 0x04 r.off p.code s := if_pos h

theorem rowWrite_ro (h : row.acc = .ro) : rowWrite p r row be v s = errLast r.page 0x06 r.off p.code s := by
  rw [rowWrite, h]

theorem rowWrite_wo (h : row.acc = .wo) : rowWrite p r row be v s = cmdWrite p r (woWrite p r (mergeBytes be 0 v)) s := by
  rw [rowWrite, h]

theorem rowWrite_rwd (h : row.acc = .rwd) : rowWrite p r row be v s = stageWrite p r row (pathIndex p r row s) be v s := by
  rw [rowWrite, h]

theorem rowWrite_rwl (h : row.acc = .rwl) :
    rowWrite p r row be v s = rwlWrite p r row (mergeBytes be (rd s r) v &&& row.mask) s := by
  rw [rowWrite, h]

theorem rowWrite_sel (h : row.acc = .sel) : rowWrite p r row be v s = setSel p r (mergeBytes be (sel s p r) v &&& row.mask) s := by
  rw [rowWrite, h]

theorem rowWrite_rws (h : row.acc = .rws) : rowWrite p r row be v s = wr r (mergeBytes be (rd s r) v &&& row.mask) s := by
  rw [rowWrite, h]

theorem rowWrite_rw1c (h : row.acc = .rw1c) : rowWrite p r row be v s = rw1cWrite r (mergeBytes be 0 v &&& row.mask) s := by
  rw [rowWrite, h]

theorem rowWrite_rw (h : row.acc = .rw) :
    rowWrite p r row be v s = rwWrite p r (mergeBytes be (regWhole p r row s).1 v &&& row.mask) s := by
  rw [rowWrite, h]

end

/-- Settles O49: which writes reach the register, and each access type by its own equation. -/
theorem registerWritesActByAccessType : Obligations.RegisterWritesActByAccessType := by
  intro s p page off be v r
  refine ⟨fun h => congrArg _ (regWriteFull_noPage h), fun h => ⟨fun he hw => congrArg _ (regWriteFull_hostWrEnOff h he hw),
    fun hp => ⟨fun hr => congrArg _ (regWriteFull_reserved h hp hr),
      fun row hr => ⟨fun hc ho hl => congrArg _ (regWriteFull_linkDown h hp hr hc ho hl), fun hl => ?_⟩⟩⟩, rfl, rfl⟩
  have reaches {t : State} (ht : rowWrite p r row (be % 16) (v % 2 ^ 32) s = t) : exec (.registerWrite p page off be v) s = .next t :=
    congrArg _ ((regWriteFull_reaches h hp hr hl).trans ht)
  refine ⟨fun ha => reaches (rowWrite_ro ha), fun ha => ⟨fun hs => ?sealed, fun hs hb => ?busy, fun hs hb => ⟨fun hv => ?outside,
      fun hv hx hd => ⟨?inside, stagedAt_stagePut .., stagePut_active ..⟩⟩⟩,
    fun ha h0 h1 h2 => reaches ((rowWrite_rw1c ha).trans (rw1cWrite_clears h0 h1 h2)), fun ha => reaches (rowWrite_rws ha),
    fun ha => reaches (rowWrite_sel ha), fun ha => reaches (rowWrite_rw ha),
    fun ha hs => reaches ((rowWrite_rwl ha).trans (rwlWrite_sealed hs)), fun ha hm => reaches ((rowWrite_wo ha).trans (cmdWrite_acts hm _))⟩
  case sealed => exact reaches ((rowWrite_rwd ha).trans (stageWrite_sealed hs))
  case busy => exact reaches ((rowWrite_rwd ha).trans (stageWrite_busy hs hb))
  case outside =>
    exact reaches ((rowWrite_rwd ha).trans (stageWrite_outOfRange hs hb (Bool.and_eq_false_iff.mpr hv)))
  case inside =>
    exact reaches ((rowWrite_rwd ha).trans (stageWrite_staged hs hb (Bool.and_eq_true_iff.mpr ⟨hv, hx⟩) fun e => absurd e hd))

end Sys2Proof.Machine
end

section
/-!
PROOF. The endpoint path without HOST_WR_EN (O53), and RWD writes while the datum moves (O55).
-/
namespace Sys2Proof.Machine

/-! ### The error record of a page (R449) -/

section
variable {s : State} (h : Tables s) (page code off path : Nat)
include h

theorem rd_errLast : rd (errLast page code off path s) (Reg.HDR_ERR_LAST page) = code + off / 4 % 2 ^ 14 * 256 + path * 2 ^ 22 := by
  have other : ((Reg.HDR_ERR_LAST page, 0) : RegId × Nat) ≠ (Reg.HDR_ERR_LAST_TS page, 0) := by simp [Reg.HDR_ERR_LAST, Reg.HDR_ERR_LAST_TS]
  exact (rdAt_wrAt_ne (wr_keeps.tables h) _ (by simp [Reg.HDR_ERR_LAST_TS]) (by simp [Reg.HDR_ERR_LAST]) (by decide) (by decide)
    other).trans (rd_wr h _ _)

/-- The error code stands in the low byte of `ERR_LAST`. -/
theorem code_errLast (hc : code < 256) : bits (rd (errLast page code off path s) (Reg.HDR_ERR_LAST page)) 0 8 = code := by
  rw [rd_errLast h, bits]
  omega

theorem rdAt_errLast_ne {r : RegId} {i : Nat} (hr : r.off < 0x10000) (hi : i < 2 ^ 26) (h1 : r ≠ Reg.HDR_ERR_LAST page)
    (h2 : r ≠ Reg.HDR_ERR_LAST_TS page) : rdAt (errLast page code off path s) r i = rdAt s r i := by
  have first : ((r, i) : RegId × Nat) ≠ (Reg.HDR_ERR_LAST page, 0) := fun e => h1 (congrArg Prod.fst e)
  have second : ((r, i) : RegId × Nat) ≠ (Reg.HDR_ERR_LAST_TS page, 0) := fun e => h2 (congrArg Prod.fst e)
  exact (rdAt_wrAt_ne (wr_keeps.tables h) _ (by simp [Reg.HDR_ERR_LAST_TS]) hr (by decide) hi second).trans
    (rdAt_wrAt_ne h _ (by simp [Reg.HDR_ERR_LAST]) hr (by decide) hi first)

end

/-! ### Commands that are a register write (R457) -/

/-- A command that is a write of one register is a guarded write of it; a bay command names one of the 24 bays. -/
theorem exec_pathWrite {c : Instr} {p : Path} {r : RegId} (s : State) (h : pathWrite c = some (p, r))
    (hb : ∀ bay, r = Reg.BAY_CMD bay → bay < 24) : ∃ f, exec c s = .next (cmdWrite p r f s) := by
  cases c
  case bayOff | bayOn | bayClear | bayCycle =>
    cases h
    exact ⟨_, congrArg Host.Outcome.next (if_neg (Nat.not_le.mpr (hb _ rfl)))⟩
  all_goals cases h
  all_goals exact ⟨_, rfl⟩

theorem cmdWrite_hostWrEnOff {r : RegId} {s : State} (f : State → State) (h : bitAt (cfg s Reg.TOP_TOP_CTL) 0 = false) :
    cmdWrite .endpoint r f s = errLast r.page 0x09 r.off 0 s := if_pos ⟨rfl, by rw [h]; rfl⟩

/-! ### A write that clears HOST_WR_EN -/

/-- The low `n` bytes of a value, put together again. -/
theorem foldl_bytes (v n : Nat) :
    (List.range n).foldl (fun acc b => acc + v / 2 ^ (8 * b) % 256 * 2 ^ (8 * b)) 0 = v % 2 ^ (8 * n) := by
  induction n with
  | zero => exact (Nat.mod_one v).symm
  | succ n ih =>
    rw [List.range_succ, List.foldl_append, ih, Nat.mul_succ, Nat.pow_add, Nat.mod_mul, Nat.mul_comm (2 ^ (8 * n)) (_ % _)]
    rfl

/-- A write of all four bytes leaves nothing of the old value. -/
theorem mergeBytes_allBytes (old : Nat) {v : Nat} (hv : v < 2 ^ 32) : mergeBytes 0xF old v = v := by
  have enabled : ∀ b ∈ List.range 4, bitAt 0xF b = true := by decide
  have bytes : mergeBytes 0xF old v = (List.range 4).foldl (fun acc b => acc + v / 2 ^ (8 * b) % 256 * 2 ^ (8 * b)) 0 :=
    List.foldl_ext _ _ _ fun acc b hb => by rw [if_pos (enabled b hb)]
  rw [bytes, foldl_bytes]
  exact Nat.mod_eq_of_lt hv

/-- The row of `TOP_CTL`: three RWD bits with no range check. -/
def topCtlRow : RegRow := { off := 0x100, acc := .rwd, rst := 7, mask := 7, sel := 0, pair := 0, chk := [] }

theorem regRow_topCtl : regRow Reg.TOP_TOP_CTL = some topCtlRow := rfl

theorem rstVal_topCtl : rstVal Reg.TOP_TOP_CTL 0 = 7 := by
  rw [rstVal, if_neg (by decide), if_neg (by decide), if_neg (by decide), regRow_topCtl]
  rfl

theorem rwdMerged_topCtl (s : State) {v : Nat} (hv : v < 8) : rwdMerged Reg.TOP_TOP_CTL topCtlRow 0 0xF v s = v := by
  have reserved : 7 &&& (0xFFFFFFFF - topCtlRow.mask) = 0 := by decide
  rw [rwdMerged, mergeBytes_allBytes _ (by omega), rstVal_topCtl, reserved, Nat.or_zero]
  exact (Nat.and_two_pow_sub_one_eq_mod v 3).trans (Nat.mod_eq_of_lt hv)

theorem regWriteFull_topCtl {s : State} {v : Nat} (hp : PathWrites .endpoint s) (hs : s.datum.active.sealed = false)
    (hb : datumBusy s = false) (hv : v < 8) :
    regWriteFull .endpoint Reg.TOP_TOP_CTL 0xF v s = stagePut Reg.TOP_TOP_CTL 0 v s := by
  have staged := stageWrite_staged (p := .endpoint) (r := Reg.TOP_TOP_CTL) (row := topCtlRow) (i := 0) (be := 0xF) (v := v) hs hb
    rfl fun e => absurd e (by decide)
  rw [rwdMerged_topCtl s hv] at staged
  exact (regWriteFull_reaches (by decide) hp regRow_topCtl (.inl rfl)).trans ((rowWrite_rwd rfl).trans staged)

/-- Settles O53: the endpoint path's writes are all guarded by HOST_WR_EN, which the datum holds. -/
theorem endpointWritesNeedHostWrEn : Obligations.EndpointWritesNeedHostWrEn := by
  intro s ht
  refine ⟨fun hw => ⟨fun page off be v hb => ⟨congrArg _ (regWriteFull_hostWrEnOff hb rfl hw), code_errLast ht _ _ _ _ (by decide),
      errLast_keeps.only rfl, fun r i hr hi h1 h2 => rdAt_errLast_ne ht _ _ _ _ hr hi h1 h2⟩, fun c r hc hbay => ?command⟩,
    fun page off => ⟨_, _, rfl, rfl⟩,
    fun p page off be v row hp hb hr hc => congrArg _ (regWriteFull_reaches hb (.inl hp) hr (.inl hc)),
    fun hw hs hb v hv h0 => ⟨stagePut Reg.TOP_TOP_CTL 0 v s, ?clears, ?staged, rfl, stagePut_keeps.only rfl⟩, fun d => rfl⟩
  case command =>
    obtain ⟨f, hf⟩ := exec_pathWrite s hc hbay
    rw [hf, cmdWrite_hostWrEnOff f hw]
  case clears =>
    have word : v % 2 ^ 32 = v := Nat.mod_eq_of_lt (by omega)
    show Host.Outcome.next (regWriteFull .endpoint Reg.TOP_TOP_CTL 0xF (v % 2 ^ 32) s) = _
    rw [word, regWriteFull_topCtl (.inr hw) hs hb hv]
  case staged => rw [stagedAt_stagePut, h0]

/-! ### Staging (R387, R451) -/

section
variable {s : State} {r : RegId} {i : Nat}

theorem datumBusy_iff : datumBusy s = true ↔ s.datum.phase ≠ .idle ∨ s.datum.loading = true := by
  simp [datumBusy, or_comm]

theorem stagedAt_unstaged (h : s.datum.staged = none) : stagedAt s r i = cfgAt s r i := by
  rw [stagedAt, h]

theorem stagedAt_some {st : Staged} (h : s.datum.staged = some st) : stagedAt s r i = tgetD st.changes (regKey r i) (st.base.val r i) := by
  rw [stagedAt, h]

end

/-- Settles O55: the write by whether the datum moves, then by the range of the merged value. -/
theorem rwdWritesAreStagedOrHeldOff : Obligations.RwdWritesAreStagedOrHeldOff := by
  intro s p page off be v row r i ht hr ha hb hp hl hs hd
  have reaches {t : State} (h : stageWrite p r row i (be % 16) (v % 2 ^ 32) s = t) : exec (.registerWrite p page off be v) s = .next t :=
    congrArg _ ((regWriteFull_reaches hb hp hr hl).trans ((rowWrite_rwd ha).trans h))
  refine ⟨fun hm => ⟨reaches (stageWrite_busy hs (datumBusy_iff.mpr hm)), code_errLast ht _ _ _ _ (by decide)⟩,
    fun hidle hload old hn hst => ?_⟩
  have free : datumBusy s = false := by simp [datumBusy, hidle, hload]
  have running : stagedAt s r i = old := by
    cases h : s.datum.staged with
    | none => rw [stagedAt_unstaged h, hn h]
    | some st => rw [stagedAt_some h, hst st h]
  have merged : rwdMerged r row i (be % 16) (v % 2 ^ 32) s =
      (mergeBytes (be % 16) old (v % 2 ^ 32) &&& row.mask) ||| (rstVal r i &&& (0xFFFFFFFF - row.mask)) := by
    rw [rwdMerged, running]
  rw [← merged]
  exact ⟨fun hx => reaches (stageWrite_outOfRange hs free hx),
    fun hx => ⟨_, reaches (stageWrite_staged hs free hx hd), stagedAt_stagePut .., rfl, stagePut_keeps.only rfl⟩⟩

end Sys2Proof.Machine
end

section
/-!
PROOF. Events: token buckets, suppression, spacing, records read and the watches of management (O51).
-/
namespace Sys2Proof.Machine

/-! ### Rate limits and spacing (R420, R421) -/

/-- What a table lists after every entry is mapped. -/
theorem tget_tmap {α : Type} (t : Tab α) (f : Nat → α → α) (k : Nat) : tget (tmap t f) k = (tget t k).map (f k) := by
  induction t with
  | nil => rfl
  | cons e t ih =>
    obtain ⟨j, x⟩ := e
    show (if j = k then some (f j x) else if k < j then none else tget (tmap t f) k) =
      Option.map (f k) (if j = k then some x else if k < j then none else tget t k)
    split
    · next h => rw [h, Option.map_some]
    · split
      · rfl
      · exact ih

section
variable {s : State} {code inst n : Nat}

theorem execSuppressionReport_none (h : tget s.evt.suppressed (evSource code inst) = none) :
    execSuppressionReport code inst s = .next s := by
  rw [execSuppressionReport, h]

theorem execSuppressionReport_some (h : tget s.evt.suppressed (evSource code inst) = some n) :
    execSuppressionReport code inst s = .next (raise 0x0501 (leBytes 2 code ++ [inst] ++ leBytes 4 n)
      { s with evt := { s.evt with suppressed := tdel s.evt.suppressed (evSource code inst) } }) := by
  rw [execSuppressionReport, h]

end

/-- The spacing of a vector has ended. -/
def spacingEnded (fn vec : Nat) (s : State) : State :=
  { s with evt := { s.evt with msixBusy := s.evt.msixBusy.filter (· != vecKey fn vec) } }

/-- A message merged during the spacing is pending no more. -/
def mergedTaken (fn vec : Nat) (s : State) : State :=
  { s with evt := { s.evt with msixPend := s.evt.msixPend.filter (· != vecKey fn vec) } }

theorem execMsixSpacingEnd_eq (fn vec : Nat) (s : State) : execMsixSpacingEnd fn vec s =
    if s.evt.msixPend.contains (vecKey fn vec) then .next (msix fn vec (mergedTaken fn vec (spacingEnded fn vec s)))
    else .next (spacingEnded fn vec s) := rfl

theorem execPmbusPoll_read (amps st : Nat) (s : State) : execPmbusPoll true amps st s = .next (
    if st = 0 then wr Reg.PWR_CORE_A amps { s with evt := { s.evt with pmbusOk := true } }
    else raise 0x6002 (leBytes 2 st) (wr Reg.PWR_CORE_A amps { s with evt := { s.evt with pmbusOk := true } })) := rfl

/-! ### Records read (R424, R459) -/

section
variable {ifc : MgmtIf} {req q n : Nat} {s : State} (hv : vendorServed ifc req s = true)
include hv

theorem execEventRead_refused (h : 63 < q ∨ n = 0 ∨ 32 < n) : execEventRead ifc req q n s = .next (vendorReply ifc req 2 [] [] s) :=
  (if_neg (by rw [hv]; exact Bool.false_ne_true)).trans (if_pos h)

theorem execEventRead_answers (hq : q ≤ 63) (h1 : 1 ≤ n) (h32 : n ≤ 32) : execEventRead ifc req q n s =
    .next (vendorReply ifc req 0 [] ((tgetD s.evt.queues q {}).recs.take n)
      (qAdvance q ((tgetD s.evt.queues q {}).recs.take n).length s)) :=
  (if_neg (by rw [hv]; exact Bool.false_ne_true)).trans (if_neg (by omega))

end

/-- Settles O51: each command by its equation, and a table of buckets mapped entry by entry. -/
theorem eventTimersAndManagementAct : Obligations.EventTimersAndManagementAct := by
  intro s
  refine ⟨⟨_, rfl, execEventTokenTick_keeps.only rfl rfl, rfl, fun h => if_pos h, fun h => if_neg (Nat.not_lt.mpr h), fun k n hk => ?bucket⟩,
    fun code inst => ⟨execSuppressionReport_none, fun n => execSuppressionReport_some⟩, rfl,
    fun fn vec => ⟨fun h => ?alone, fun h => ⟨mergedTaken fn vec (spacingEnded fn vec s), ?merged, rfl, rfl, ?frame⟩⟩,
    fun ifc req q n hv => ⟨execEventRead_refused hv, execEventRead_answers hv⟩, fun p hp => hp.next _,
    fun h => if_pos h, fun h => if_neg h, fun amps st => ⟨rfl, rfl, fun h => ?fault⟩, fun up => rfl, fun eid => rfl⟩
  case alone => exact (execMsixSpacingEnd_eq fn vec s).trans (if_neg (by simpa using h))
  case merged => exact (execMsixSpacingEnd_eq fn vec s).trans (if_pos (by simpa using h))
  case fault => exact (execPmbusPoll_read amps st s).trans (congrArg _ (if_neg h))
  case bucket => rw [tget_tmap, hk, Option.map_some]
  case frame => exact (Keeps.step (M := 64) upd_evt rfl (upd_evt.widen rfl)).only rfl

end Sys2Proof.Machine
end

section
/-!
PROOF. Forced events (O54).
-/
namespace Sys2Proof.Machine

/-! ### The sticky log (R419): only raising an event adds to it -/

theorem updateEventN_sticky (urgent : Bool) (s : State) : (updateEventN urgent s).evt.sticky = s.evt.sticky := by
  simp [updateEventN, apply_ite State.evt, apply_ite EvtSt.sticky]

theorem msix_sticky (fn vec : Nat) (s : State) : (msix fn vec s).evt.sticky = s.evt.sticky := by
  simp [msix, apply_ite State.evt, apply_ite EvtSt.sticky]

theorem qAppend_sticky (q : Nat) (r : EvRec) (s : State) : (qAppend q r s).evt.sticky = s.evt.sticky := by
  simp [qAppend, apply_ite State.evt, apply_ite EvtSt.sticky, msix_sticky]

theorem qRefuse_sticky (q : Nat) (s : State) : (qRefuse q s).evt.sticky = s.evt.sticky := by
  simp [qRefuse]

theorem qWrite_sticky (q : Nat) (r : EvRec) (s : State) : (qWrite q r s).evt.sticky = s.evt.sticky := by
  simp [qWrite, apply_ite State.evt, apply_ite EvtSt.sticky, updateEventN_sticky, qAppend_sticky, qRefuse_sticky]

/-- The record of an event raised now, before a queue gives it its `SEQ`. -/
def eventRec (code sev : Nat) (detail : List Nat) (s : State) : EvRec :=
  { code := code, sev := sev, ctrl := s.pwr.ctrlId, inst := pageInstance (code / 256), seq := 0, time := s.time, detail := detail }

/-- Of severity DEGRADED and above an event stands first in the sticky log. -/
theorem raiseSev_sticky {code sev : Nat} (detail : List Nat) (s : State) (h : 2 ≤ sev) :
    (raiseSev code sev detail s).evt.sticky = eventRec code sev detail s :: s.evt.sticky.take 255 := by
  simp [raiseSev, h, apply_ite State.evt, apply_ite EvtSt.sticky, qWrite_sticky, eventRec]

/-! ### Forced events (R448) -/

/-- The events of the lowest `n` bits of a mask, raised lowest first. -/
def forceBits (page mask n : Nat) (s : State) : State :=
  (List.range n).foldl (fun s i => if bitAt mask i then raiseForced (page * 256 + i + 1) s else s) s

theorem evtForceOp_eq (page mask : Nat) (s : State) : evtForceOp page mask s = forceBits page mask 32 s := rfl

theorem forceBits_succ (page mask n : Nat) (s : State) : forceBits page mask (n + 1) s =
    if bitAt mask n then raiseForced (page * 256 + n + 1) (forceBits page mask n s) else forceBits page mask n s := by
  rw [forceBits, List.range_succ, List.foldl_append]
  rfl

theorem bitAt_of_lt {v i : Nat} (h : v < 2 ^ i) : bitAt v i = false := by
  rw [bitAt, Nat.div_eq_of_lt h]
  rfl

/-- Above a mask's highest bit nothing is raised. -/
theorem forceBits_above {page mask n m : Nat} {s : State} (h : mask < 2 ^ n) (hm : n ≤ m) :
    forceBits page mask m s = forceBits page mask n s := by
  induction m, hm using Nat.le_induction with
  | base => rfl
  | succ m hm ih =>
    have clear := bitAt_of_lt (Nat.lt_of_lt_of_le h (Nat.pow_le_pow_right (by decide) hm))
    rw [forceBits_succ, clear, ih]
    rfl

theorem bitAt_add_pow_same {low i : Nat} (h : low < 2 ^ i) : bitAt (low + 2 ^ i) i = true := by
  rw [bitAt, Nat.add_div_right _ (Nat.two_pow_pos i), Nat.div_eq_of_lt h]
  rfl

theorem bitAt_add_pow_below {low i j : Nat} (h : j < i) : bitAt (low + 2 ^ i) j = bitAt low j := by
  obtain ⟨k, rfl⟩ := Nat.exists_eq_add_of_lt h
  have even : (low + 2 ^ (j + k + 1)) / 2 ^ j = low / 2 ^ j + 2 * 2 ^ k := by
    rw [Nat.add_assoc, Nat.pow_add, Nat.pow_succ, Nat.add_mul_div_left _ _ (Nat.two_pow_pos j), Nat.mul_comm]
  rw [bitAt, bitAt, even, Nat.add_mul_mod_self_left]

/-- Masks that agree below a bit raise the same events below it. -/
theorem forceBits_congr {page mask mask' n : Nat} {s : State} (h : ∀ j < n, bitAt mask j = bitAt mask' j) :
    forceBits page mask n s = forceBits page mask' n s := by
  induction n with
  | zero => rfl
  | succ n ih => rw [forceBits_succ, forceBits_succ, h n (Nat.lt_succ_self n), ih fun j hj => h j (Nat.lt_succ_of_lt hj)]

theorem evtForceOp_zero (page : Nat) (s : State) : evtForceOp page 0 s = s := forceBits_above (n := 0) (by decide) (by decide)

/-- A mask's highest bit is raised last. -/
theorem evtForceOp_highest {page i low : Nat} (s : State) (hi : i < 32) (hl : low < 2 ^ i) :
    evtForceOp page (low + 2 ^ i) s = raiseForced (page * 256 + i + 1) (evtForceOp page low s) := by
  have within : low + 2 ^ i < 2 ^ (i + 1) := by rw [Nat.pow_succ]; omega
  rw [evtForceOp_eq, evtForceOp_eq, forceBits_above within hi, forceBits_succ, bitAt_add_pow_same hl, forceBits_above hl (Nat.le_of_lt hi),
    forceBits_congr fun j hj => bitAt_add_pow_below hj]
  rfl

theorem raiseForced_none {code : Nat} (s : State) (h : eventSev code = none) : raiseForced code s = s := by
  rw [raiseForced, h]

theorem raiseForced_some {code sev : Nat} (s : State) (h : eventSev code = some sev) :
    raiseForced code s = bump Reg.EVT_FORCED (raiseSev code sev (List.replicate 16 0xFF) s) := by
  rw [raiseForced, h]

theorem raise_of_eventSev {code sev : Nat} (detail : List Nat) (s : State) (h : eventSev code = some sev) :
    raise code detail s = raiseSev code sev detail s := by
  rw [raise, h, Option.getD_some]

/-- An event's code names its page. -/
theorem page_of_code {page i : Nat} (h : i < 32) : (page * 256 + i + 1) / 256 = page := by omega

/-- Settles O54: a mask's bits are raised in turn, each by the operation that raises every event. -/
theorem forcedEventsActOnNothing : Obligations.ForcedEventsActOnNothing := by
  intro s p page mask hp
  refine ⟨hp.next _, evtForceOp_keeps.only rfl, evtForceOp_zero page s, fun i low hi hl => ⟨fun h => ?none, fun sev h => ⟨?some,
    fun d => raise_of_eventSev d _ h, fun hsev => ⟨_, _, raiseSev_sticky _ _ hsev, rfl, rfl, ?inst, rfl⟩⟩⟩⟩
  case none => rw [evtForceOp_highest s hi hl, raiseForced_none _ h]
  case some => rw [evtForceOp_highest s hi hl, raiseForced_some _ h]
  case inst => exact congrArg pageInstance (page_of_code hi)

end Sys2Proof.Machine
end

section
/-!
PROOF. Queue heads and vendor commands (O56, O50).
-/
namespace Sys2Proof.Machine

/-! ### The consumer index of a queue (R458, R459) -/

theorem updateEventN_queues (urgent : Bool) (s : State) : (updateEventN urgent s).evt.queues = s.evt.queues := by
  simp [updateEventN, apply_ite State.evt, apply_ite EvtSt.queues]

/-- A queue whose head has moved over `d` of its records. -/
def EvQueue.advanced (e : EvQueue) (d size : Nat) : EvQueue :=
  { e with recs := e.recs.drop d, head := (e.head + min d e.recs.length) % size }

theorem qAdvance_queues (q d : Nat) (s : State) :
    (qAdvance q d s).evt.queues = tput {} s.evt.queues q ((tgetD s.evt.queues q {}).advanced d (qSize s q)) := by
  rw [qAdvance, updateEventN_queues]
  rfl

section
variable {s : State} (h : trising s.evt.queues = true)
include h

theorem tgetD_qAdvance (q d : Nat) :
    tgetD (qAdvance q d s).evt.queues q {} = (tgetD s.evt.queues q {}).advanced d (qSize s q) := by
  rw [qAdvance_queues]
  exact tgetD_tput_same h _ _ _

theorem tgetD_qAdvance_ne {q q' : Nat} (d : Nat) (hq : q' ≠ q) :
    tgetD (qAdvance q d s).evt.queues q' {} = tgetD s.evt.queues q' {} := by
  rw [qAdvance_queues]
  exact tgetD_tput_ne h _ _ _ hq

end

/-- How far a value lies ahead of a queue's head, going forward modulo its size. -/
def headDistance (e : EvQueue) (n v : Nat) : Nat := (v % 2 ^ 14 + n - e.head % n) % n

/-- A write of `Q_HEAD` moves the selected queue's head where the value lies no further ahead than the tail. -/
theorem qHeadOp_eq (p : Path) (v : Nat) (s : State) : qHeadOp p v s =
    let q := sel s p Reg.EVT_Q_SEL
    let e := tgetD s.evt.queues q {}
    let n := qSize s q
    if v % 2 ^ 14 < n ∧ headDistance e n v ≤ (e.tail + n - e.head % n) % n then qAdvance q (headDistance e n v) s
    else errLast 0x05 0x10 0x130 p.code s := rfl

theorem qHeadOp_outside {p : Path} {v : Nat} {s : State} :
    let q := sel s p Reg.EVT_Q_SEL
    let e := tgetD s.evt.queues q {}
    let n := qSize s q
    n ≤ v % 2 ^ 14 ∨ (e.tail + n - e.head % n) % n < headDistance e n v → qHeadOp p v s = errLast 0x05 0x10 0x130 p.code s :=
  fun h => (qHeadOp_eq p v s).trans (if_neg fun ⟨hv, hd⟩ => h.elim (Nat.not_lt.mpr · hv) (Nat.not_lt.mpr hd))

/-- A value `d` past a head lies `d` ahead of it. -/
theorem headDistance_ahead {e : EvQueue} {n d : Nat} (hh : e.head < n) (hd : d < n) (hn : n ≤ 2 ^ 14) :
    headDistance e n ((e.head + d) % n) = d := by
  have below : (e.head + d) % n < n := Nat.mod_lt _ (by omega)
  rw [headDistance, Nat.mod_eq_of_lt (Nat.lt_of_lt_of_le below hn), Nat.mod_eq_of_lt hh]
  by_cases wraps : e.head + d < n
  · rw [Nat.mod_eq_of_lt wraps, show e.head + d + n - e.head = d + n by omega, Nat.add_mod_right, Nat.mod_eq_of_lt hd]
  · have wrapped : (e.head + d) % n = e.head + d - n := by rw [Nat.mod_eq_sub_mod (by omega), Nat.mod_eq_of_lt (by omega)]
    rw [wrapped, show e.head + d - n + n - e.head = d by omega, Nat.mod_eq_of_lt hd]

/-- The head moves past the records that are answered. -/
theorem advanced_length_take (e : EvQueue) (k n : Nat) : e.advanced (e.recs.take k).length n = e.advanced k n := by
  simp [EvQueue.advanced]

/-- Settles O56: the distance decides a write, the number of records answered a read; waiting accesses run in their order. -/
theorem qHeadMovesForwardToTheTail : Obligations.QHeadMovesForwardToTheTail := by
  intro s p v ht hq hp q e n
  refine ⟨fun d hd hr hh htl hn => ?moves, fun h => ⟨?ignored, code_errLast ht _ _ _ _ (by decide)⟩,
    fun ifc req k hv hq63 h1 h32 => ⟨_, execEventRead_answers hv hq63 h1 h32, ?passes⟩, fun ifc req k rest => ?inOrder⟩
  case moves =>
    have hdn : d < n := Nat.lt_of_le_of_lt hd (Nat.mod_lt _ (by omega))
    have ahead : headDistance e n ((e.head + d) % n) = d := headDistance_ahead hh hdn hn
    have small : (e.head + d) % n % 2 ^ 14 < n := Nat.lt_of_le_of_lt (Nat.mod_le _ _) (Nat.mod_lt _ (by omega))
    have applied : qHeadOp p ((e.head + d) % n) s = qAdvance q d s := by
      refine (qHeadOp_eq ..).trans ((if_pos ⟨small, ?_⟩).trans (congrArg (qAdvance q · s) ahead))
      rw [ahead, Nat.mod_eq_of_lt hh]
      exact hd
    refine ⟨_, cmdWrite_next hp applied, ?_, ?_, ?_, fun q' h' => tgetD_qAdvance_ne hq d h', qAdvance_keeps.only rfl⟩ <;>
      rw [tgetD_qAdvance hq]
    · exact congrArg (fun m => (e.head + m) % n) (Nat.min_eq_left hr)
    · rfl
    · rfl
  case ignored => exact cmdWrite_next hp (qHeadOp_outside h)
  case inOrder =>
    obtain ⟨t, e1, k1⟩ := exec_keeps (.qHeadWrite p v) { s with pending := .eventRead ifc req q k :: rest }
    exact ⟨t, e1, (step_of_pending rfl).trans e1, step_of_pending k1.pending⟩
  case passes =>
    show (tgetD (qAdvance q _ s).evt.queues q {}).head = _ ∧ (tgetD (qAdvance q _ s).evt.queues q {}).recs = _
    rw [tgetD_qAdvance hq, advanced_length_take]
    exact ⟨rfl, rfl⟩

/-! ### Vendor commands (R424) -/

section
variable {ifc : MgmtIf} {req off : Nat} {data : List Nat} {ok : Bool} {s : State}

theorem vendor_notServed (h : vendorServed ifc req s = false) (n : Nat) : execReadReg ifc req off n s = .next s ∧
    execWriteReg ifc req off data s = .next s ∧ execPlatData ifc req off data ok s = .next s ∧ execPlatEnd ifc req n s = .next s ∧
    execEventRead ifc req off n s = .next s := by
  have out : (!vendorServed ifc req s) = true := by rw [h]; rfl
  exact ⟨if_pos out, if_pos out, if_pos out, if_pos out, if_pos out⟩

section
variable (hv : vendorServed ifc req s = true)
include hv

theorem execReadReg_outside {n : Nat} (h : windowRangeOk off n = false) :
    execReadReg ifc req off n s = .next (vendorReply ifc req 2 [] [] s) := by
  simp [execReadReg, hv, h]

theorem execReadReg_inside {n : Nat} (h : windowRangeOk off n = true) :
    execReadReg ifc req off n s = .next (vendorReply ifc req 0 (readDwords n off s).1 [] (readDwords n off s).2) := by
  simp [execReadReg, hv, h]

theorem vendor_notAuthorised (h : vendorWriteOk ifc req s = false) (n : Nat) :
    execWriteReg ifc req off data s = .next (vendorReply ifc req 1 [] [] s) ∧
    execPlatData ifc req off data ok s = .next (vendorReply ifc req 1 [] [] s) ∧
    execPlatEnd ifc req n s = .next (vendorReply ifc req 1 [] [] s) := by
  simp [execWriteReg, execPlatData, execPlatEnd, hv, h]

section
variable (hw : vendorWriteOk ifc req s = true)
include hw

theorem execWriteReg_inside (h : windowRangeOk off data.length = true) :
    execWriteReg ifc req off data s = .next (vendorReply ifc req 0 [] [] (writeDwords data off s)) := by
  simp [execWriteReg, hv, hw, h]

/-- What an authorised PLAT_DATA of a stated length does. -/
theorem execPlatData_authorised (hn : data ≠ []) (hl : data.length ≤ 1024) : execPlatData ifc req off data ok s =
    if s.datum.loading then .next (vendorReply ifc req 4 [] [] s)
    else if off ≠ 0 ∧ (off ≠ s.datum.platBytes.length ∨ s.datum.platDone) then .next (vendorReply ifc req 3 [] [] s)
    else if !ok then .next (vendorReply ifc req 5 [] [] s)
    else .next (vendorReply ifc req 0 [] [] { s with datum := { s.datum with
      platBytes := (if off = 0 then [] else s.datum.platBytes) ++ data, platDone := false } }) := by
  have stated : ¬(data.isEmpty = true ∨ 1024 < data.length) := by simp [hn, hl]
  simp only [execPlatData, hv, hw, stated, if_false, Bool.not_true, Bool.false_eq_true]

theorem execPlatEnd_authorised {len : Nat} : execPlatEnd ifc req len s =
    if len ≠ s.datum.platBytes.length ∨ len = 0 then .next (vendorReply ifc req 3 [] [] s)
    else .next (vendorReply ifc req 0 [] [] { s with datum := { s.datum with platDone := true } }) := by
  simp only [execPlatEnd, hv, hw, Bool.not_true, Bool.false_eq_true, if_false]

end

end

end

theorem length_readDwords (n off : Nat) (s : State) : (readDwords n off s).1.length = n := by
  induction n generalizing off s with
  | zero => rfl
  | succ n ih => exact congrArg Nat.succ (ih _ _)

/-! ### Snapshots (R422) -/

theorem execSnapshot_off {s : State} (h : bitAt (cfg s Reg.TELEM_TELEM_CTL) 0 = false) : execSnapshot s = .next s :=
  if_pos (by rw [h]; rfl)

/-- A snapshot whose list names no register is one record without data. -/
theorem execSnapshot_empty {s : State} (h : bitAt (cfg s Reg.TELEM_TELEM_CTL) 0 = true)
    (he : ∀ i, i < 256 → bitAt (cfgAt s Reg.TELEM_SNAP_ADDR i) 0 = false) : execSnapshot s =
    .next (telWrite (cfg s Reg.TELEM_SNAP_RING % 16) (snapHeader 0 0 1 s.time s.evt.snapSeq) []
      { s with evt := { s.evt with snapSeq := s.evt.snapSeq + 1 } }) := by
  have none : ((List.range 256).map fun i => cfgAt s Reg.TELEM_SNAP_ADDR i).filter (fun a => bitAt a 0) = [] := by
    simpa [List.filter_eq_nil_iff] using he
  unfold execSnapshot
  rw [none, h]
  rfl

/-- Settles O50: each vendor command by whether it is served and authorised, each head by its distance, each forced event by its bit. -/
theorem vendorCommandsAndHeadsAct : Obligations.VendorCommandsAndHeadsAct := by
  intro s ifc req
  refine ⟨fun h off n data ok => vendor_notServed h n, fun hv => ⟨fun off n h => execReadReg_outside hv h,
      fun off n h => ⟨execReadReg_inside hv h, length_readDwords n off s⟩, fun h off n data ok => vendor_notAuthorised hv h n,
      fun hw => ⟨fun off data h => execWriteReg_inside hv hw h, fun off v vs => rfl, fun off data hn hl => ?plat,
        fun len h => (execPlatEnd_authorised hv hw).trans (if_pos h), fun h => (execPlatEnd_authorised hv hw).trans (if_neg ?whole)⟩⟩,
    execSnapshot_off, execSnapshot_empty, fun p v hp => hp.next _,
    fun p v hp => ⟨fun h hd => cmdWrite_next hp ((qHeadOp_eq p v s).trans (if_pos ⟨h, hd⟩)), fun h => cmdWrite_next hp (qHeadOp_outside h)⟩,
    fun p page hp => ⟨cmdWrite_next hp (evtForceOp_zero page s), fun i hi => cmdWrite_next hp ?single⟩⟩
  case plat =>
    have acts (off : Nat) (ok : Bool) := execPlatData_authorised (off := off) (ok := ok) hv hw hn hl
    refine ⟨fun ok hld => ?loading, fun hld h0 hlen ok => ?elsewhere, fun hld => ⟨?norFails, ?anew⟩, fun hld hd => ?goesOn⟩
    case loading => exact (acts off ok).trans (if_pos hld)
    case elsewhere => exact (acts off ok).trans (by simp [hld, h0, hlen])
    case norFails => exact (acts 0 false).trans (by simp [hld])
    case anew => exact (acts 0 true).trans (by simp [hld])
    case goesOn =>
      have kept : (if s.datum.platBytes = [] then [] else s.datum.platBytes) = s.datum.platBytes := ite_eq_right_iff.mpr Eq.symm
      exact (acts _ true).trans (by simp [hld, hd, kept])
  case whole => simp [h]
  case single =>
    have lone := evtForceOp_highest (page := page) (low := 0) s hi (Nat.two_pow_pos i)
    rwa [Nat.zero_add, evtForceOp_zero] at lone

end Sys2Proof.Machine
end

section
/-!
PROOF. The verdict on the partner (O52).
-/
namespace Sys2Proof.Machine

/-- The state in which the time from the last RANGE to the declaration has been noted, and no ranging arrives (R343). -/
def declared (s : State) : State :=
  let us := (s.time - s.pair.lastRange) / 1000
  wr Reg.PAIR_LAST_DETECT_US us { s with pair := { s.pair with ranging := false, detectUs := us } }

theorem rd_declared {s : State} (h : Tables s) : rd (declared s) Reg.PAIR_LAST_DETECT_US = (s.time - s.pair.lastRange) / 1000 :=
  rd_wr (s := { s with pair := _ }) h _ _

/-- STOPPING ends the pair at once (R343). -/
theorem execStopping_eq (cause : Nat) (s : State) : execStopping cause s =
    .next (if inPair s then partnerLost 0 (declared s) else joinAbort (declared s)) := rfl

/-! ### RANGE (R342, R343) -/

theorem paired_of_inPair {s : State} (h : inPair s = true) : s.pairedNow = true := by
  obtain h | h := Bool.or_eq_true_iff.mp h <;> simp [State.pairedNow, eq_of_beq h]

/-- In the pair no join begins. -/
theorem joinTry_of_inPair {s : State} (h : inPair s = true) : joinTry s = s := by
  have out : s.pair.state ≠ 5 ∧ s.pair.state ≠ 1 := by
    obtain h | h := Bool.or_eq_true_iff.mp h <;> simp [eq_of_beq h]
  unfold joinTry
  cases s.pair.helloWait <;> simp [out]

/-- The state in which a RANGE has arrived: its time, its round trip and the partner's time and state. -/
def ranged (time st rtt : Nat) (s : State) : State :=
  wr Reg.PAIR_RANGE_RTT_NS (rtt % 2 ^ 32) { s with pair := { s.pair with
    ranging := true, lastRange := s.time, partnerTime := time, partnerState := st } }

/-- The sense fault, reported once (R343). -/
def senseFaultNoted (s : State) : State :=
  raise 0x5107 [s.pair.sense] { s with pair := { s.pair with senseFault := true } }

/-- What a RANGE says of the partner's limits is noted with it (R73). -/
def limitsNoted (lim mib hu : Nat) (s : State) : State :=
  { s with vault := { s.vault with partnerLimit := some lim, partnerEffMib := mib, partnerHoldup := hu } }

/-- A RANGE arriving with the verdict not serving is a sense fault, once. -/
def rangeJudged (s : State) : State :=
  if s.pair.sense ≠ 2 ∧ !s.pair.senseFault ∧ (inPair s || s.pair.state == 2) then senseFaultNoted s else s

theorem execRange_eq {s : State} (hl : s.zeb.lanes ≠ 0) (hp : s.pairedNow = true) (time st v rtt lim mib hu : Nat) :
    execRange time st v rtt lim mib hu s = .next (joinTry (rangeJudged (
      if s.vault.partnerLimit ≠ some lim ∨ s.vault.partnerEffMib ≠ mib ∨ s.vault.partnerHoldup ≠ hu then
        limitEval (ranged time st rtt (limitsNoted lim mib hu s))
      else ranged time st rtt (limitsNoted lim mib hu s)))) := by
  have there : ¬(s.zeb.lanes = 0 ∨ (!s.pairedNow) = true) := by simp [hl, hp]
  exact congrArg Host.Outcome.next (if_neg there)

theorem limitsNoted_same {s : State} {lim : Nat} (hv : s.vault.partnerLimit = some lim) :
    limitsNoted lim s.vault.partnerEffMib s.vault.partnerHoldup s = s := by
  rw [limitsNoted, ← hv]

theorem inPair_rangeJudged {s : State} (h : inPair s = true) : inPair (rangeJudged s) = true := by
  unfold rangeJudged
  split
  · simpa [senseFaultNoted, inPair] using h
  · exact h

/-- A RANGE in the pair that changes none of the partner's limits: the sense fault is all it may raise. -/
theorem execRange_inPair {s : State} {lim : Nat} (hl : s.zeb.lanes ≠ 0) (hi : inPair s = true) (hv : s.vault.partnerLimit = some lim)
    (time st v rtt : Nat) : execRange time st v rtt lim s.vault.partnerEffMib s.vault.partnerHoldup s =
      .next (rangeJudged (ranged time st rtt s)) := by
  have still : inPair (ranged time st rtt s) = true := hi
  rw [execRange_eq hl (paired_of_inPair hi), if_neg (by simp [hv]), limitsNoted_same hv, joinTry_of_inPair (inPair_rangeJudged still)]

/-- With the verdict serving, or the fault already reported, the partner serves and nothing more is said. -/
theorem rangeJudged_quiet {s : State} (h : s.pair.sense = 2 ∨ s.pair.senseFault = true) : rangeJudged s = s := by
  refine if_neg ?_
  rintro ⟨h2, hf, -⟩
  exact h.elim h2 fun h => by simp [h] at hf

theorem rangeJudged_fault {s : State} (h2 : s.pair.sense ≠ 2) (hf : s.pair.senseFault = false) (hi : inPair s = true) :
    rangeJudged s = senseFaultNoted s := if_pos ⟨h2, by rw [hf]; rfl, by rw [hi]; rfl⟩

/-! ### The verdict (Table 5) -/

/-- Silence while ranging arrives in the pair is a sense fault (R341, R343). -/
def silenceNoted (high : Bool) (s : State) : State :=
  { s with pair := { s.pair with
    sense := b2n high, senseHigh := high
    absentSince := if high then 0 else if s.pair.sense = 0 ∧ s.pair.absentSince ≠ 0 then s.pair.absentSince else s.time
    senseFault := true } }

theorem execPairSenseTimeout_fault {high : Bool} {s : State} (hr : s.pair.ranging = true) (hf : s.pair.senseFault = false)
    (hi : inPair s = true) : execPairSenseTimeout high s = .next (raise 0x5107 [b2n high] (silenceNoted high s)) := by
  simp [execPairSenseTimeout, hr, hf, hi, silenceNoted, b2n]

theorem execRangingTimeout_paired {s : State} (hr : s.pair.ranging = true) (h3 : s.pair.state = 3) :
    execRangingTimeout s = .next (judgeTimedOut (declared s)) := by
  have ranging : ¬(!s.pair.ranging) = true := by simp [hr]
  exact congrArg Host.Outcome.next ((if_neg ranging).trans (if_pos h3))

section
variable {s : State}

theorem judgeTimedOut_serving (h : s.pair.sense = 2) : judgeTimedOut s =
    if armed s then arbitrate s else if isCtrl1 s then fenced 0 (activeMembers s).length s else partnerLost 1 s := if_pos h

theorem judgeTimedOut_silent (h : s.pair.sense ≠ 2) : judgeTimedOut s =
    if armed s then preemptStart .timedOut s else partnerLost 1 s := if_neg h

end

/-- Settles O52: each row of Table 5 by the verdict, whether the pair is armed, and which controller this is. -/
theorem thePartnerIsJudgedByTable5 : Obligations.ThePartnerIsJudgedByTable5 := by
  intro s ht us k
  have timedOut (hr : s.pair.ranging = true) (h3 : s.pair.state = 3) {t : State} (h : judgeTimedOut k = t) :
      exec .rangingTimeout s = .next t := (execRangingTimeout_paired hr h3).trans (congrArg _ h)
  refine ⟨rd_declared ht, fun cause h => (execStopping_eq cause s).trans (congrArg _ (if_pos h)),
    fun cause h => (execStopping_eq cause s).trans (congrArg _ (if_neg (by simp [h]))), fun time st v rtt lim mib hu hl hi hv hm hh => ?range,
    fun high hr hf hi => ⟨silenceNoted high s, execPairSenseTimeout_fault hr hf hi, rfl, rfl, upd_pair.only rfl⟩,
    fun hr h3 => ⟨fun h2 ha => ?arbitrates, fun h2 ha h1 => ?lost, fun h2 ha h1 => ?fenced, fun h2 ha => ?preempts, fun h2 ha => ?alone⟩⟩
  case range =>
    subst hm hh
    have arrives := execRange_inPair hl hi hv time st v rtt
    exact ⟨fun h => arrives.trans (congrArg _ (rangeJudged_quiet h)), fun h2 hf => arrives.trans (congrArg _ (rangeJudged_fault h2 hf hi))⟩
  case arbitrates => exact timedOut hr h3 ((judgeTimedOut_serving (s := k) h2).trans (if_pos ha))
  case lost => exact timedOut hr h3 ((judgeTimedOut_serving (s := k) h2).trans ((if_neg (by simp [ha])).trans (if_neg fun e => h1 (eq_of_beq e))))
  case fenced => exact timedOut hr h3 ((judgeTimedOut_serving (s := k) h2).trans ((if_neg (by simp [ha])).trans (if_pos (beq_iff_eq.mpr h1))))
  case preempts => exact timedOut hr h3 ((judgeTimedOut_silent (s := k) h2).trans (if_pos ha))
  case alone => exact timedOut hr h3 ((judgeTimedOut_silent (s := k) h2).trans (if_neg (by simp [ha])))

end Sys2Proof.Machine
end

section
/-!
PROOF. The Zeber link (O43).
-/
namespace Sys2Proof.Machine

section
variable {s : State}

/-! ### Training (R337) -/

theorem lanes_ne_zero_of_bitAt {lane : Nat} (h : bitAt s.zeb.lanes lane = true) : s.zeb.lanes ≠ 0 := by
  intro h0
  rw [h0, bitAt, Nat.zero_div] at h
  exact Bool.false_ne_true h

theorem zebRetrain_lane (hl : s.zeb.lanes ≠ 0) (hr : s.zeb.retraining = false) : zebRetrain 2 s =
    bump Reg.ZEBER_RETRAINS { s with zeb := { s.zeb with retraining := true, retrainCause := 2 } } := by
  simp [zebRetrain, hl, hr]

/-- Training may end: the link is enabled in a released controller, and it is down or retraining. -/
def Trains (s : State) : Prop :=
  bitAt (cfg s Reg.ZEBER_ZB_CTL) 0 = true ∧ s.pwr.held = false ∧ s.pwr.released = true ∧ (s.zeb.lanes = 0 ∨ s.zeb.retraining = true)

/-- The lanes of the widest whole group are taken into use. -/
def lanesTaken (locked : Nat) (s : State) : State :=
  { s with zeb := { s.zeb with lanes := laneGroup locked, retraining := false } }

/-- What the end of training reports, by the width there was: the link up, or narrower. -/
def widthReported (was n : Nat) (s : State) : State :=
  let s := if was = 0 then raise 0x5001 [1, n] s else s
  if was ≠ 0 ∧ n < was then raise 0x5002 [n] s else s

/-- A link of a pair that comes up says HELLO. -/
def greeted (was : Nat) (s : State) : State :=
  if was = 0 ∧ s.pairedNow then zsend (.hello s.pwr.ctrlId 1 s.store.setId s.pair.epoch s.datum.active.id true) s else s

theorem execZeberTrained_eq (h : Trains s) (locked : Nat) : execZeberTrained locked s = .next (
    if laneCount (laneGroup locked) < 8 * 2 ^ bits (cfg s Reg.ZEBER_ZB_CTL) 1 2 then zebLost s
    else zebDrain (greeted (laneCount s.zeb.lanes)
      (widthReported (laneCount s.zeb.lanes) (laneCount (laneGroup locked)) (lanesTaken locked s)))) := by
  obtain ⟨hc, hh, hr, hl⟩ := h
  have ends : ¬((!bitAt (cfg s Reg.ZEBER_ZB_CTL) 0) = true ∨ (s.zeb.lanes ≠ 0 ∧ (!s.zeb.retraining) = true) ∨ s.pwr.held = true ∨
      (!s.pwr.released) = true) := by
    rcases hl with hl | hl <;> simp [hc, hh, hr, hl]
  exact congrArg Host.Outcome.next (if_neg ends)

theorem execZeberTrained_wide {locked : Nat} (h : Trains s)
    (hn : 8 * 2 ^ bits (cfg s Reg.ZEBER_ZB_CTL) 1 2 ≤ laneCount (laneGroup locked)) : execZeberTrained locked s =
    .next (zebDrain (greeted (laneCount s.zeb.lanes)
      (widthReported (laneCount s.zeb.lanes) (laneCount (laneGroup locked)) (lanesTaken locked s)))) :=
  (execZeberTrained_eq h locked).trans (congrArg _ (if_neg (Nat.not_lt.mpr hn)))

/-- The least width is not zero. -/
theorem ne_zero_of_least_le {b n : Nat} (h : 8 * 2 ^ b ≤ n) : n ≠ 0 := by
  have := Nat.two_pow_pos b
  omega

theorem greeted_retrained {was : Nat} (h : was ≠ 0) : greeted was s = s := if_neg fun e => h e.1

theorem greeted_solo {was : Nat} (h : s.pairedNow = false) : greeted was s = s := if_neg (by simp [h])

theorem widthReported_kept {n : Nat} (h : n ≠ 0) : widthReported n n s = s := by simp [widthReported, h]

theorem widthReported_narrower {was n : Nat} (h : n < was) : widthReported was n s = raise 0x5002 [n] s := by
  simp [widthReported, h, Nat.ne_of_gt (Nat.zero_lt_of_lt h)]

theorem widthReported_up (n : Nat) : widthReported 0 n s = raise 0x5001 [1, n] s := rfl

theorem laneCount_zero : laneCount 0 = 0 := by decide

/-! ### Flits (R338) -/

section
variable (h : zebUp s = true)
include h

theorem execZeberFlitReceived_up (crcOk ctrl typeOk : Bool) (f a n : Nat) : execZeberFlitReceived crcOk ctrl typeOk f a n s = .next (
    if !crcOk then drive (.zeberCtl 1 ((s.zeb.fseqRx + 1) % 4096)) (bump Reg.ZEBER_CRC_ERRS s)
    else if ctrl then
      { s with zeb := { s.zeb with unacked := s.zeb.unacked.filter fun u => !decide ((a + 4096 - u.1) % 4096 < 2048) } }
    else if f ≠ (s.zeb.fseqRx + 1) % 4096 then drive (.zeberCtl 1 ((s.zeb.fseqRx + 1) % 4096)) s
    else
      let t := bump64 Reg.ZEBER_RX_BYTES_LO 0 n (drive (.zeberCtl 0 f) { s with zeb := { s.zeb with fseqRx := f } })
      if typeOk then t else zebRetrain 1 t) := by
  have up : ¬(!zebUp s) = true := by simp [h]
  exact congrArg Host.Outcome.next (if_neg up)

theorem execZeberReplayTimeout_up {u : Nat × Nat} {us : List (Nat × Nat)} (hu : s.zeb.unacked = u :: us) :
    execZeberReplayTimeout s = .next (zebReplay u.1 s) := by
  rw [execZeberReplayTimeout, hu]
  exact congrArg Host.Outcome.next (if_pos h)

end

theorem zeber_down (h : zebUp s = false) (crc ctrl ty : Bool) (f a n : Nat) : execZeberFlitReceived crc ctrl ty f a n s = .next s ∧
    execZeberNak f s = .next s ∧ execZeberReplayTimeout s = .next s := by
  have down : ¬zebUp s = true := by simp [h]
  refine ⟨congrArg Host.Outcome.next (if_pos (by simp [h])), congrArg Host.Outcome.next (if_neg down), ?_⟩
  rw [execZeberReplayTimeout]
  cases s.zeb.unacked with
  | nil => rfl
  | cons u us => exact congrArg Host.Outcome.next (if_neg down)

/-- A flit from `f` on, modulo 4096. -/
def fromFlit (f : Nat) (u : Nat × Nat) : Bool := decide ((u.1 + 4096 - f % 4096) % 4096 < 2048)

/-- One more replay of the flits from `f` on. -/
def replayedOnce (f : Nat) (u : Nat × Nat) : Nat × Nat := if fromFlit f u = true then (u.1, u.2 + 1) else u

/-- With no flit replayed seven times before, a replay counts its flits and no more. -/
theorem zebReplay_counts (f : Nat) (h : s.zeb.unacked.all (fun u => decide (u.2 < 7)) = true) : zebReplay f s =
    bumpAt Reg.ZEBER_FLIT_REPLAYS 0 (s.zeb.unacked.filter (fromFlit f)).length
      (drive (.zeberCtl 2 (f % 4096)) { s with zeb := { s.zeb with unacked := s.zeb.unacked.map (replayedOnce f) } }) := by
  refine if_neg fun hany => ?_
  obtain ⟨x, hx, h8⟩ := List.any_eq_true.mp hany
  obtain ⟨u, hu, rfl⟩ := List.mem_map.mp hx
  have few := of_decide_eq_true (List.all_eq_true.mp h u hu)
  have many := of_decide_eq_true h8
  split at many <;> omega

/-! ### The session (R342, R358) -/

theorem execSession_lost (h : s.zeb.lanes = 0) (done failed : Bool) (reply : List Nat) : execSession done failed reply s = .next s :=
  congrArg Host.Outcome.next (if_pos h)

/-- A session that fails: a HELLO that waited for it waits no more. -/
def sessionFailed (s : State) : State :=
  { s with zeb := { s.zeb with session := false }, pair := { s.pair with helloWait := none } }

theorem execSession_done (h : s.zeb.lanes ≠ 0) :
    execSession true false [] s = .next (joinTry { s with zeb := { s.zeb with session := true } }) :=
  congrArg Host.Outcome.next (if_neg h)

theorem execSession_failed (h : s.zeb.lanes ≠ 0) : execSession false true [] s =
    .next (if s.pair.helloWait.isSome then raise 0x5108 [5] (sessionFailed s) else sessionFailed s) :=
  congrArg Host.Outcome.next (if_neg h)

end

/-- Settles O43: the end of training by the width it finds, a flit by what is wrong with it, the session by its outcome. -/
theorem theZeberLinkCarriesFlitsInOrder : Obligations.TheZeberLinkCarriesFlitsInOrder := by
  intro s
  refine ⟨fun lane h => congrArg Host.Outcome.next (if_neg (by simp [h])),
    fun lane h hr => congrArg Host.Outcome.next ((if_pos h).trans (zebRetrain_lane (lanes_ne_zero_of_bitAt h) hr)),
    fun locked hc hh hr => ⟨fun hn ht => ?tooNarrow, fun hn h0 hp => ?comesUp, fun hn ht hw => ?keepsWidth, fun hn ht hw => ?narrower⟩,
    fun crc ctrl ty f a n h => zeber_down h crc ctrl ty f a n,
    fun h ctrl ty f a n => ⟨execZeberFlitReceived_up h .., execZeberFlitReceived_up h .., fun hf => ?outOfOrder, ?inOrder,
      fun hu => congrArg Host.Outcome.next ((if_pos h).trans (zebReplay_counts f hu)), fun u us hu => execZeberReplayTimeout_up h hu⟩,
    fun len port prio bytes esp done failed reply h => ⟨congrArg Host.Outcome.next (if_pos h), execSession_lost h done failed reply⟩,
    fun h => ⟨execSession_done h, ⟨fun hw => ?nobodyWaits, fun hw => ?refused⟩,
      fun len port prio bytes esp => congrArg Host.Outcome.next (if_neg h)⟩⟩
  case tooNarrow => exact (execZeberTrained_eq ⟨hc, hh, hr, .inr ht⟩ locked).trans (congrArg _ (if_pos hn))
  case comesUp =>
    have solo : (raise 0x5001 [1, laneCount (laneGroup locked)] (lanesTaken locked s)).pairedNow = false := by
      simpa [State.pairedNow, lanesTaken] using hp
    refine (execZeberTrained_wide ⟨hc, hh, hr, .inl h0⟩ hn).trans ?_
    rw [h0, laneCount_zero, widthReported_up, greeted_solo solo]
    rfl
  case keepsWidth =>
    refine (execZeberTrained_wide ⟨hc, hh, hr, .inr ht⟩ hn).trans ?_
    rw [hw, widthReported_kept (ne_zero_of_least_le hn), greeted_retrained (ne_zero_of_least_le hn)]
    rfl
  case narrower =>
    refine (execZeberTrained_wide ⟨hc, hh, hr, .inr ht⟩ hn).trans ?_
    rw [widthReported_narrower hw, greeted_retrained (by omega)]
    rfl
  case outOfOrder => exact (execZeberFlitReceived_up h ..).trans (congrArg _ (if_pos hf))
  case inOrder => exact (execZeberFlitReceived_up h ..).trans (congrArg _ (if_neg (not_not_intro rfl)))
  case nobodyWaits => exact (execSession_failed h).trans (congrArg _ (if_neg (by simp [hw])))
  case refused => exact (execSession_failed h).trans (congrArg _ (if_pos (Option.isSome_iff_ne_none.mpr hw)))

end Sys2Proof.Machine
end

section
/-!
PROOF. Cold and warm resets (O10): what a held cold reset keeps, and that a warm one leaves the boot count.
-/
namespace Sys2Proof.Machine

/-! ### Cold resets (R398, R406, R407) -/

/-- What is driven as the controller is held leaves its archive and its home copies. -/
theorem coldHold_homes (kind : Nat) (s : State) : (coldHold kind s).ks.archive = s.ks.archive ∧
    (coldHold kind s).store.home = s.store.home ∧ (coldHold kind s).store.loss = s.store.loss := by
  simp [coldHold, enginesLost, storeKept, apply_ite State.ks, apply_ite State.store]

theorem coldHold_held (kind : Nat) (s : State) : HeldCold kind s (coldHold kind s) :=
  ⟨rfl, rfl, rfl, rfl, rfl, rfl, rfl, rfl, rfl, rfl, rfl, rfl, rfl, rfl, rfl, coldHold_homes kind s⟩

/-- Work abandoned first changes nothing that a cold reset keeps. -/
theorem coldHold_abandoned (kind : Nat) (s : State) : HeldCold kind s (coldHold kind (abandonPending s)) :=
  coldHold_held kind (abandonPending s)

theorem execSysRstN_clean {s : State} (h : ¬(s.pwr.serving = true ∧ dirtyOrMirror s = true)) :
    execSysRstN s = .next (coldHold 1 (abandonPending s)) := if_neg h

/-- With dirty data and a dump under way the cold reset is held until the dump ends. -/
theorem execSysRstN_dumping {s : State} (h : s.pwr.serving = true ∧ dirtyOrMirror s = true) (ha : s.vault.accepted = true)
    (hd : s.vault.dumpDone = false) : execSysRstN s = .next { s with pwr := { s.pwr with resetAfterDump := some 1 } } := by
  simp [execSysRstN, h, ha, hd]

/-! ### The boot count stands over a warm reset (R408) -/

/-- An operation that leaves the root of trust alone leaves the boot count. -/
theorem Keeps.bootCount {M : Nat} {s t : State} (k : Keeps M s t) (h : M.testBit 10 = false) : t.trust.bootCount = s.trust.bootCount :=
  congrArg TrustSt.bootCount (k.trust h)

theorem measureSlot_bootCount (slot : Nat) (cs : List Nat) (t : TrustSt) : (measureSlot slot cs t).bootCount = t.bootCount :=
  List.foldlRecOn (motive := fun u : TrustSt => u.bootCount = t.bootCount) cs _ rfl fun _ hu _ _ => hu

theorem bootEntry_bootCount (s : State) : (bootEntry s).trust.bootCount = s.trust.bootCount := by
  unfold bootEntry
  split <;> rfl

theorem bootSlot_bootCount (slot : Nat) (s : State) : (bootSlot slot s).2.trust.bootCount = s.trust.bootCount := by
  unfold bootSlot
  extract_lets t mend s1 e s2
  have h1 : s1.trust.bootCount = s.trust.bootCount := by
    simp only [s1]
    split
    · rfl
    · split <;> exact raise_keeps.bootCount rfl
  have h2 : s2.trust.bootCount = s.trust.bootCount := by
    simp only [s2]
    split <;> exact h1
  clear_value s2
  split
  · exact (raise_keeps.bootCount rfl).trans h2
  · exact (measureSlot_bootCount ..).trans h2

theorem datumReturn_bootCount (frm to_ : Datum) (s : State) : (datumReturn frm to_ s).trust.bootCount = s.trust.bootCount :=
  raise_keeps.bootCount rfl

theorem datumMend_bootCount (s : State) : (datumMend s).trust.bootCount = s.trust.bootCount := by
  unfold datumMend
  extract_lets e1 s1 e2 s2 e3
  have h1 : s1.trust.bootCount = s.trust.bootCount := by
    simp only [s1]
    split <;> rfl
  have h2 : s2.trust.bootCount = s1.trust.bootCount := by
    simp only [s2]
    split
    · rfl
    · exact datumReturn_bootCount ..
  exact h2.trans h1

theorem acceptPower_bootCount (src : Nat) (s : State) : (acceptPower src s).trust.bootCount = s.trust.bootCount := by
  unfold acceptPower
  split
  · rfl
  · simp [stopWork, abandonPending, apply_ite State.trust]

theorem fatalEvent_bootCount (code : Nat) (detail : List Nat) (dump : Bool) (s : State) :
    (fatalEvent code detail dump s).trust.bootCount = s.trust.bootCount := by
  simp [fatalEvent, fatalStop, apply_ite State.trust, apply_ite TrustSt.bootCount, acceptPower_bootCount]

theorem warmReset_bootCount (kind : Nat) (s : State) : (warmReset kind s).trust.bootCount = s.trust.bootCount := by
  unfold warmReset
  extract_lets s1 cause kept s2 e1 e2 e3 e4 e5 s3 s4 s5
  have h1 : s1.trust.bootCount = s.trust.bootCount := surpriseRemoval_keeps.bootCount rfl
  have h4 : s4.trust.bootCount = s3.trust.bootCount :=
    (Keeps.step (M := 1) bump_keeps rfl (Keeps.ite (Keeps.refl _ _) wr_keeps)).bootCount rfl
  have h5 : s5.trust.bootCount = s.trust.bootCount :=
    (updateEventN_keeps.bootCount rfl).trans ((datumMend_bootCount s4).trans (h4.trans h1))
  have slot {r : Option Nat} {s6 : State} {n d : Nat} {ds : List Nat} (e : bootSlot n (raise d ds s5) = (r, s6)) :
      s6.trust.bootCount = s.trust.bootCount := by
    have h6 := (bootSlot_bootCount n (raise d ds s5)).trans (raise_keeps.bootCount rfl)
    rw [e] at h6
    exact h6.trans h5
  clear_value s5
  split
  · exact (bootEntry_bootCount _).trans ((measureSlot_bootCount ..).trans h5)
  · split
    · next e =>
      have h6 := slot e
      exact (bootEntry_bootCount _).trans ((raise_keeps.bootCount rfl).trans h6)
    · next e =>
      have h6 := slot e
      exact (fatalEvent_bootCount ..).trans h6

/-! ### Warm resets wait for the dump or are done (R408, R411, R412) -/

theorem warmReset_underWay (kind : Nat) (s : State) : WarmUnderWay kind (warmReset kind s) := .inr (warmReset_done kind s)

theorem warmRequest_underWay (kind cause : Nat) (s : State) : WarmUnderWay kind (warmRequest kind cause s) := by
  unfold warmRequest
  split
  · next ha =>
    split
    · exact warmReset_underWay kind s
    · next hd => exact .inl ⟨ha, Bool.eq_false_iff.mpr hd, rfl⟩
  · extract_lets t p
    split
    · exact warmReset_underWay kind t
    · next hd => exact .inl ⟨acceptPower_accepted .., Bool.eq_false_iff.mpr hd, rfl⟩

theorem warmRequest_bootCount (kind cause : Nat) (s : State) : (warmRequest kind cause s).trust.bootCount = s.trust.bootCount := by
  unfold warmRequest
  extract_lets p t
  have ht : t.trust.bootCount = s.trust.bootCount := (acceptPower_bootCount ..).trans (sendStopping_keeps.bootCount rfl)
  split <;> split
  · exact warmReset_bootCount kind s
  · rfl
  · exact (warmReset_bootCount kind t).trans ht
  · exact ht

theorem execWatchdogExpire_resets {s : State} (hw : bitAt (cfg s Reg.RST_RST_CTL) 0 = true) (hr : s.pwr.released = true) :
    execWatchdogExpire s = .next (warmRequest 4 1 (fatalEvent 0x0403 [] true s)) :=
  if_neg (by simp [hw, hr])

/-- The FATAL reset timer acts once the FATAL's dump, if one runs, has ended. -/
theorem execFatalResetTimer_resets {s : State} (hf : s.pwr.fatal = true) (hn : s.pwr.needCold = false)
    (hc : bitAt (cfg s Reg.RST_RST_CTL) 1 = true) (hv : ¬(s.vault.accepted = true ∧ s.vault.dumpDone = false)) :
    execFatalResetTimer s = if s.vault.accepted then .next (warmReset 7 s) else .next (warmRequest 7 1 s) :=
  if_neg (by simpa [hf, hn, hc] using hv)

theorem execPostDumpResetTimer_resets {s : State} (ha : s.vault.accepted = true) (hd : s.vault.dumping = true)
    (hdd : s.vault.dumpDone = true) (hs : s.vault.source ≠ 2) (hr : s.pwr.railsBad = []) :
    execPostDumpResetTimer s = .next (warmReset 5 s) := congrArg Host.Outcome.next (if_pos ⟨ha, hd, hdd, hs, hr⟩)

/-- Settles O10: each cold reset ends in `coldHold`, each warm one in `warmReset` or waits for the dump. -/
theorem resetsHoldOrWaitAsTheirKindSays : Obligations.ResetsHoldOrWaitAsTheirKindSays := by
  intro s
  refine ⟨⟨_, rfl, coldHold_abandoned 0 s, coldHold_keeps.pending⟩,
    fun p hp => ⟨_, hp.next _, coldHold_held 2 (rstResult 0 (abandonPending s)), coldHold_keeps.pending⟩,
    fun h => ⟨_, execSysRstN_clean h, coldHold_abandoned 1 s, coldHold_keeps.pending⟩,
    fun hs hm ha hd => execSysRstN_dumping ⟨hs, hm⟩ ha hd, fun h => ⟨_, if_pos h, coldHold_held 1 s, coldHold_keeps.pending⟩,
    fun p hp => ⟨_, hp.next _, warmRequest_underWay .., warmRequest_bootCount .., ?warm⟩, fun hw hr => ?watchdog,
    fun hf hn hc hv => ?fatal, fun h => ⟨_, if_pos h, warmReset_underWay 5 s, warmReset_bootCount 5 s, warmReset_keeps.stands rfl⟩,
    fun ha hd hdd hs hr => ⟨_, execPostDumpResetTimer_resets ha hd hdd hs hr, warmReset_underWay 5 s, warmReset_bootCount 5 s,
      warmReset_keeps.stands rfl⟩⟩
  case warm => exact execWarm_keeps.stands (hp.next _) rfl
  case watchdog =>
    have e := execWatchdogExpire_resets hw hr
    exact ⟨_, e, warmRequest_underWay .., (warmRequest_bootCount ..).trans (fatalEvent_bootCount ..), execWatchdogExpire_keeps.stands e rfl⟩
  case fatal =>
    have e := execFatalResetTimer_resets hf hn hc hv
    cases ha : s.vault.accepted with
    | true =>
      rw [if_pos ha] at e
      exact ⟨_, e, warmReset_underWay 7 s, warmReset_bootCount 7 s, execFatalResetTimer_keeps.stands e rfl⟩
    | false =>
      rw [if_neg (by simp [ha])] at e
      exact ⟨_, e, warmRequest_underWay .., warmRequest_bootCount .., execFatalResetTimer_keeps.stands e rfl⟩

end Sys2Proof.Machine
end
